-- ==== Sys2Proof/Word.lean ====
section
/-! DEFINITION. The plain word types of the FZ4096 and nothing else: bytes, and the tick of the
module's timing clock (2^-16 ns, the unit of tide time's FRACTION, R360). -/

namespace Sys2Proof

/-- One byte of a frame, a packet or a memory image. -/
abbrev Byte := BitVec 8

/-- A count of 2^-16 ns, the unit in which tide time and every duration of the model is held (R360). -/
abbrev Tick := Nat

end Sys2Proof
end

