-- ==== Sys2Proof/Machine/Bytes.lean ====
section
/-! DEFINITION. Byte strings and bit fields: big-endian on the wire, little-endian in memory
images (R16), bit 0 the least significant (R15), and the Internet checksum arithmetic of R55. -/

namespace Sys2Proof.Machine

/-- Bits `[lo + n - 1 : lo]` of a value (R15). -/
def field (v lo n : Nat) : Nat := (v >>> lo) % 2 ^ n

/-- Bit `i` of a value. -/
def bitAt (v i : Nat) : Bool := (v >>> i) % 2 == 1

/-- `v` with bit `i` set to `b`. -/
def setBit (v i : Nat) (b : Bool) : Nat :=
  if bitAt v i = b then v else if b then v + 2 ^ i else v - 2 ^ i

/-- The value of a big-endian byte string (R16). -/
def beNat (bs : List Byte) : Nat := bs.foldl (fun a b => a * 256 + b.toNat) 0

/-- The value of a little-endian byte string (R16). -/
def leNat (bs : List Byte) : Nat := bs.foldr (fun b a => b.toNat + 256 * a) 0

/-- `n` bytes of `v`, little-endian. -/
def natLE : Nat → Nat → List Byte
  | 0, _ => []
  | n + 1, v => BitVec.ofNat 8 v :: natLE n (v / 256)

/-- `n` bytes of `v`, big-endian. -/
def natBE (n v : Nat) : List Byte := (natLE n v).reverse

/-- Bytes `[off, off + n)` of a string. -/
def slice (bs : List Byte) (off n : Nat) : List Byte := (bs.drop off).take n

/-- A big-endian field of `n` bytes at `off`. -/
def beAt (bs : List Byte) (off n : Nat) : Nat := beNat (slice bs off n)

/-- A little-endian field of `n` bytes at `off`. -/
def leAt (bs : List Byte) (off n : Nat) : Nat := leNat (slice bs off n)

/-- One folding step of the ones' complement sum of 16-bit words. -/
def onesFold (x : Nat) : Nat := x % 65536 + x / 65536

/-- The sum of the big-endian 16-bit words of a string, a zero byte appended when it is odd. -/
def wordSum : List Byte → Nat
  | [] => 0
  | [a] => a.toNat * 256
  | a :: b :: r => a.toNat * 256 + b.toNat + wordSum r

/-- The 16-bit ones' complement sum (R55): every string the module sums is below 2^16 words, so
three folds carry everything in. -/
def onesSum (bs : List Byte) : Nat := onesFold (onesFold (onesFold (wordSum bs)))

/-- The Internet checksum: the ones' complement of the ones' complement sum (R55). -/
def inetCheck (bs : List Byte) : Nat := 65535 - onesSum bs

/-- Two's complement reading of an `n`-bit field. -/
def signed (n v : Nat) : Int := if v < 2 ^ (n - 1) then (v : Int) else (v : Int) - 2 ^ n

/-- The `n`-bit field that holds an integer, wrapped. -/
def wrapTo (n : Nat) (v : Int) : Nat := (v % (2 ^ n : Int)).toNat

/-- `a` rounded up to the quotient by `b`. -/
def ceilDiv (a b : Nat) : Nat := (a + b - 1) / b

/-- R24: `a` is later than `b` among `w`-bit sequence numbers. -/
def seqLater (w a b : Nat) : Bool :=
  let d := (a + 2 ^ w - b % 2 ^ w) % 2 ^ w
  decide (1 ≤ d) && decide (d ≤ 2 ^ (w - 1) - 1)

/-- The `n`-th entry of a list, or a default. -/
def nth {α : Type} (d : α) (l : List α) (n : Nat) : α := l.getD n d

/-- The first `n` bytes of a string, filled with zeros when it is shorter. -/
def padTo (n : Nat) (bs : List Byte) : List Byte := bs.take n ++ List.replicate (n - bs.length) 0

end Sys2Proof.Machine
end

