-- ==== Sys2Proof/Machine/Items.lean ====
section
/-! DEFINITION. The names of the parameter space (R508-R520, R588-R593): every item the spec
names with its key, type, unit kind, access, apply time, range and reset value; every counter with
the ITEM number R593 gives it; every event code (R520, R552); every fault source with its class
(R527). -/

namespace Sys2Proof.Machine

/-- Value types (R510). -/
inductive PType where
  | bool | u8 | u16 | u32 | u64 | i32 | i64 | f32 | f64 | enum | tide | sc | mask | key | cnt | addr | desc
deriving DecidableEq, Repr

/-- The type's code on the wire (R510). -/
def PType.code : PType → Nat
  | .bool => 1 | .u8 => 2 | .u16 => 3 | .u32 => 4 | .u64 => 5 | .i32 => 6 | .i64 => 7 | .f32 => 8
  | .f64 => 9 | .enum => 10 | .tide => 11 | .sc => 12 | .mask => 13 | .key => 14 | .cnt => 15
  | .addr => 16 | .desc => 17

/-- The bytes of one value (R510). -/
def PType.bytes : PType → Nat
  | .bool => 1 | .u8 => 1 | .u16 => 2 | .u32 => 4 | .u64 => 8 | .i32 => 4 | .i64 => 8 | .f32 => 4
  | .f64 => 8 | .enum => 1 | .tide => 12 | .sc => 8 | .mask => 16 | .key => 4 | .cnt => 8
  | .addr => 16 | .desc => 48

/-- Access codes (R18). -/
inductive Acc where
  | ro | rw | wo | w1c | rc
deriving DecidableEq, Repr

/-- The range of an item's values. -/
inductive PRange where
  | any
  | between (lo hi : Nat)
  | step (lo hi st : Nat)
  | zeroOr (lo hi : Nat)
  | zeroOrStep (lo hi st : Nat)
  | orFF (lo hi : Nat)
  | sgn (bits : Nat) (lo hi : Int)
  | f32Pos
  | f32Between (lo hi : Nat)
  | tide
deriving DecidableEq, Repr

/-- A value lies in a range; `f32Pos` is a finite binary32 above 0. -/
def PRange.ok : PRange → Nat → Bool
  | .any, _ => true
  | .between lo hi, v => decide (lo ≤ v) && decide (v ≤ hi)
  | .step lo hi st, v => decide (lo ≤ v) && decide (v ≤ hi) && decide (v % st = 0)
  | .zeroOr lo hi, v => decide (v = 0) || (decide (lo ≤ v) && decide (v ≤ hi))
  | .zeroOrStep lo hi st, v => decide (v = 0) || (decide (lo ≤ v) && decide (v ≤ hi) && decide (v % st = 0))
  | .orFF lo hi, v => decide (v = 255) || (decide (lo ≤ v) && decide (v ≤ hi))
  | .sgn n lo hi, v => decide (lo ≤ signed n v) && decide (signed n v ≤ hi)
  | .f32Pos, v => decide (0 < v) && decide (v < 0x7F800000)
  | .f32Between lo hi, v => decide (lo ≤ v) && decide (v ≤ hi)
  | .tide, v => decide (field v 16 32 < 1000000000)

/-- What an item is (the facts of its catalogue entry, R517). `num` is none where the spec names
the item and gives it no ITEM number. -/
structure ItemDesc where
  group : Nat
  num : Option Nat
  ty : PType
  scope : Nat
  elems : Nat
  acc : Acc
  apply : Nat
  range : PRange
  reset : Nat
deriving DecidableEq, Repr

/-- The parameter items, each named after the parameter (R519, R551, R568, R574 and the owning rules). -/
inductive Item where
  /-- module.variant, R6. -/
  | moduleVariant
  /-- module.diag_poke, R521. -/
  | moduleDiagPoke
  /-- module.canal_status, R464. -/
  | moduleCanalStatus
  /-- module.feed_status, R568. -/
  | moduleFeedStatus
  /-- module.input_power, R568. -/
  | moduleInputPower
  /-- module.temps, R568. -/
  | moduleTemps
  /-- module.domain_state, R568. -/
  | moduleDomainState
  /-- module.slot_id, R568. -/
  | moduleSlotId
  /-- module.boot_status, R574. -/
  | moduleBootStatus
  /-- ingress.port_mode, R46. -/
  | ingressPortMode
  /-- ingress.ports, R286. -/
  | ingressPorts
  /-- ingress.format, R54. -/
  | ingressFormat
  /-- ingress.order, R63. -/
  | ingressOrder
  /-- ingress.close_wait, R75. -/
  | ingressCloseWait
  /-- ingress.berm_entries, R82. -/
  | ingressBermEntries
  /-- ingress.encap, R286. -/
  | ingressEncap
  /-- ingress.vlan, R286. -/
  | ingressVlan
  /-- ingress.source_check, R59. -/
  | ingressSourceCheck
  /-- ingress source table: first path, R59. -/
  | ingressSrcFirst
  /-- ingress source table: path count, R59. -/
  | ingressSrcCount
  /-- ingress source table: source ID, R59. -/
  | ingressSrcId
  /-- ingress.udp_port, R52. -/
  | ingressUdpPort
  /-- ingress.ethertype, R52. -/
  | ingressEthertype
  /-- ingress port unicast MAC address, R50. -/
  | ingressMac
  /-- ingress port multicast MAC addresses, R50. -/
  | ingressMulticast
  /-- ingress port IPv4 address, R51. -/
  | ingressIp4
  /-- ingress port IPv6 address, R51. -/
  | ingressIp6
  /-- corr.paths, R103. -/
  | corrPaths
  /-- corr.chunk_len, R104. -/
  | corrChunkLen
  /-- corr.channel_count, R285. -/
  | corrChannelCount
  /-- corr.channels, R63. -/
  | corrChannels
  /-- corr.chan_freq, R183. -/
  | corrChanFreq
  /-- corr.totals_format, R132. -/
  | corrTotalsFormat
  /-- corr.int_chunks, R135. -/
  | corrIntChunks
  /-- corr.rings_per_die, R115. -/
  | corrRingsPerDie
  /-- corr.seal_wait, R153. -/
  | corrSealWait
  /-- corr.snap_bytes, R157. -/
  | corrSnapBytes
  /-- corr.polder_state, R107. -/
  | corrPolderState
  /-- plan.shed_policy, R296. -/
  | planShedPolicy
  /-- plan.transition, R303. -/
  | planTransition
  /-- plan.commit_lead, R300. -/
  | planCommitLead
  /-- plan.id, R282. -/
  | planId
  /-- weir.beam_count, R163. -/
  | weirBeamCount
  /-- weir.chan_group, R174. -/
  | weirChanGroup
  /-- weir.pol_map, R167. -/
  | weirPolMap
  /-- weir.weight_source, R182. -/
  | weirWeightSource
  /-- weir.auto_epoch, R184. -/
  | weirAutoEpoch
  /-- weir.volt_format, R185. -/
  | weirVoltFormat
  /-- weir.volt_pol, R185. -/
  | weirVoltPol
  /-- weir.volt_gain, R185. -/
  | weirVoltGain
  /-- weir.det_mode, R185. -/
  | weirDetMode
  /-- weir.det_avg_log2, R185. -/
  | weirDetAvgLog2
  /-- weir.det_format, R185. -/
  | weirDetFormat
  /-- weir.beam_buf_blocks, R191. -/
  | weirBeamBufBlocks
  /-- zoom.enable, R197. -/
  | zoomEnable
  /-- zoom.source_chan, R197. -/
  | zoomSourceChan
  /-- zoom.nco_inc, R203. -/
  | zoomNcoInc
  /-- zoom.nco_phase0, R197. -/
  | zoomNcoPhase0
  /-- zoom.stages, R197. -/
  | zoomStages
  /-- zoom.stage_design, R197. -/
  | zoomStageDesign
  /-- zoom.gain, R197. -/
  | zoomGain
  /-- zoom.correlate, R197. -/
  | zoomCorrelate
  /-- zoom.chunk_len, R104. -/
  | zoomChunkLen
  /-- zoom.int_chunks, R197. -/
  | zoomIntChunks
  /-- zoom.thr_paths, R215. -/
  | zoomThrPaths
  /-- zoom.thr_beams, R215. -/
  | zoomThrBeams
  /-- zoom.thr_avg_log2, R216. -/
  | zoomThrAvgLog2
  /-- zoom.thr_beam_avg_log2, R217. -/
  | zoomThrBeamAvgLog2
  /-- zoom.thr_beam_absent_max, R217. -/
  | zoomThrBeamAbsentMax
  /-- zoom.thr_upper, R218. -/
  | zoomThrUpper
  /-- zoom.thr_lower, R218. -/
  | zoomThrLower
  /-- zoom.thr_hyst, R218. -/
  | zoomThrHyst
  /-- zoom.thr_holdoff, R219. -/
  | zoomThrHoldoff
  /-- zoom.gate_windows, R223. -/
  | zoomGateWindows
  /-- zoom.gate_states, R223. -/
  | zoomGateStates
  /-- zoom.gate_delay, R223. -/
  | zoomGateDelay
  /-- zoom.gate_hold, R223. -/
  | zoomGateHold
  /-- zoom.rom_coef, R204. -/
  | zoomRomCoef
  /-- egress.vis_streams, R227. -/
  | egressVisStreams
  /-- egress.redundancy, R236. -/
  | egressRedundancy
  /-- egress.compress, R257. -/
  | egressCompress
  /-- egress.module_id, R231. -/
  | egressModuleId
  /-- egress.vis_tile_mask, R242. -/
  | egressVisTileMask
  /-- egress.vis_elem_class, R242. -/
  | egressVisElemClass
  /-- egress.vis_avg_log2, R243. -/
  | egressVisAvgLog2
  /-- egress.vis_format, R244. -/
  | egressVisFormat
  /-- egress.vis_scale_log2, R244. -/
  | egressVisScaleLog2
  /-- egress.comp_trim, R259. -/
  | egressCompTrim
  /-- egress.ip_version, R591. -/
  | egressIpVersion
  /-- egress.vlan, R591. -/
  | egressVlan
  /-- egress.dscp, R591. -/
  | egressDscp
  /-- egress.dest_ip, R591. -/
  | egressDestIp
  /-- egress.dest_mac, R591. -/
  | egressDestMac
  /-- egress.dest_port, R591. -/
  | egressDestPort
  /-- egress.telemetry_period, R250. -/
  | egressTelemetryPeriod
  /-- egress.telemetry_keys, R250. -/
  | egressTelemetryKeys
  /-- egress.snap_rate, R251. -/
  | egressSnapRate
  /-- egress.drain_guard, R251. -/
  | egressDrainGuard
  /-- egress.staging_buffers, R268. -/
  | egressStagingBuffers
  /-- timing.sc_epoch, R363. -/
  | timingScEpoch
  /-- timing.sc_rate_num, R363. -/
  | timingScRateNum
  /-- timing.sc_rate_den, R363. -/
  | timingScRateDen
  /-- timing.port_cal, R367: RX_DELAY and TX_DELAY of each port mode of R46 in turn (log entry 121). -/
  | timingPortCal
  /-- timing.port_cal_user, R367. -/
  | timingPortCalUser
  /-- timing.ptp_tx_domain, R372. -/
  | timingPtpTxDomain
  /-- timing.ptp_tx_enable, R372. -/
  | timingPtpTxEnable
  /-- timing.ptp_tx_sync_log, R373. -/
  | timingPtpTxSyncLog
  /-- timing.ptp_tx_announce_log, R373. -/
  | timingPtpTxAnnounceLog
  /-- timing.ptp_tx_delayreq_log, R373. -/
  | timingPtpTxDelayreqLog
  /-- timing.ptp_delay_mech, R373. -/
  | timingPtpDelayMech
  /-- timing.ptp_transport, R373. -/
  | timingPtpTransport
  /-- timing.ptp_rx_domain, R374. -/
  | timingPtpRxDomain
  /-- timing.ptp_announce_timeout, R375. -/
  | timingPtpAnnounceTimeout
  /-- timing.ptp_sync_timeout, R375. -/
  | timingPtpSyncTimeout
  /-- timing.ptp_tc_enable, R376. -/
  | timingPtpTcEnable
  /-- timing.ptp_asym, R370. -/
  | timingPtpAsym
  /-- timing.out_mode, R383. -/
  | timingOutMode
  /-- timing.out_start, R384. -/
  | timingOutStart
  /-- timing.out_period, R384. -/
  | timingOutPeriod
  /-- timing.out_width, R384. -/
  | timingOutWidth
  /-- timing.out_count, R384. -/
  | timingOutCount
  /-- timing.out_polarity, R384. -/
  | timingOutPolarity
  /-- timing.out_mark_src, R384. -/
  | timingOutMarkSrc
  /-- timing.out_mark_offset, R384. -/
  | timingOutMarkOffset
  /-- timing.in_edge, R390. -/
  | timingInEdge
  /-- timing.ref_mode, R401. -/
  | timingRefMode
  /-- timing.ref_manual, R401. -/
  | timingRefManual
  /-- timing.ref_priority, R401. -/
  | timingRefPriority
  /-- timing.ref_ql_fixed, R398. -/
  | timingRefQlFixed
  /-- timing.freq_only_rank, R401. -/
  | timingFreqOnlyRank
  /-- timing.qualify_time, R401. -/
  | timingQualifyTime
  /-- timing.wtr, R401. -/
  | timingWtr
  /-- timing.tod_timeout, R401. -/
  | timingTodTimeout
  /-- timing.freq_limit, R401. -/
  | timingFreqLimit
  /-- timing.switch_window, R401. -/
  | timingSwitchWindow
  /-- timing.disagree_ppb, R401. -/
  | timingDisagreePpb
  /-- timing.disagree_window, R401. -/
  | timingDisagreeWindow
  /-- timing.realign_mode, R401. -/
  | timingRealignMode
  /-- timing.slew_max, R401. -/
  | timingSlewMax
  /-- timing.dpll_bw, R417. -/
  | timingDpllBw
  /-- timing.acq_bw, R417. -/
  | timingAcqBw
  /-- timing.holdover_avg, R416. -/
  | timingHoldoverAvg
  /-- timing.holdover_spec, R418. -/
  | timingHoldoverSpec
  /-- timing.ref_status, R400. -/
  | timingRefStatus
  /-- timing.ref_offset, R400. -/
  | timingRefOffset
  /-- timing.phase_debt, R420. -/
  | timingPhaseDebt
  /-- SRC_LAG_MIN, R369. -/
  | timingSrcLagMin
  /-- SRC_LAG_MAX, R369. -/
  | timingSrcLagMax
  /-- mem.interleave_log2, R428. -/
  | memInterleaveLog2
  /-- mem.max_bin, R447. -/
  | memMaxBin
  /-- mem.port_prio, R433. -/
  | memPortPrio
  /-- mem.port_hint, R436. -/
  | memPortHint
  /-- mem.page_idle, R436. -/
  | memPageIdle
  /-- mem.rh_threshold, R438. -/
  | memRhThreshold
  /-- mem.pd_timer, R439. -/
  | memPdTimer
  /-- mem.retrain_corr, R444. -/
  | memRetrainCorr
  /-- mem.retrain_period, R444. -/
  | memRetrainPeriod
  /-- mem.chan_status, R451. -/
  | memChanStatus
  /-- mem.region_base, R430. -/
  | memRegionBase
  /-- mem.region_size, R430. -/
  | memRegionSize
  /-- sluice.owner, R313. -/
  | sluiceOwner
  /-- sluice.weight_cores, R353. -/
  | sluiceWeightCores
  /-- sluice.stats_list length, R354. -/
  | sluiceStatsCount
  /-- sluice.stats_list, R354. -/
  | sluiceStatsList
  /-- sluice.stats_decim, R354. -/
  | sluiceStatsDecim
  /-- sluice.stats_log2, R354. -/
  | sluiceStatsLog2
  /-- sluice.sk_low, R355. -/
  | sluiceSkLow
  /-- sluice.sk_high, R355. -/
  | sluiceSkHigh
  /-- fault.sticky, R524. -/
  | faultSticky
  /-- fault.class_status, R533. -/
  | faultClassStatus
  /-- fault.quiet_time, R530. -/
  | faultQuietTime
  /-- fault.recoveries, R530. -/
  | faultRecoveries
  /-- fault.boot_count, R536. -/
  | faultBootCount
  /-- fault.gauge, R543. -/
  | faultGauge
  /-- fault.hub_gauge, R543. -/
  | faultHubGauge
  /-- fault.gauge_margin, R544. -/
  | faultGaugeMargin
  /-- fault.gauge_alarm, R545. -/
  | faultGaugeAlarm
  /-- fault.polder_cap_step, R544. -/
  | faultPolderCapStep
  /-- fault.planner_period, R545. -/
  | faultPlannerPeriod
  /-- fault.bb_seq, R535. -/
  | faultBbSeq
  /-- fault.bb_state, R539. -/
  | faultBbState
  /-- zcp.rights, R474. -/
  | zcpRights
  /-- zcp.idle_timeout, R476. -/
  | zcpIdleTimeout
  /-- zcp.unsol_rto, R490. -/
  | zcpUnsolRto
  /-- zcp.unsol_age, R490. -/
  | zcpUnsolAge
  /-- zcp.telemetry_period, R491. -/
  | zcpTelemetryPeriod
  /-- zcp.telemetry_keys, R491. -/
  | zcpTelemetryKeys
  /-- zcp.bulk_wait, R495. -/
  | zcpBulkWait
  /-- zcp.bulk_rate, R497. -/
  | zcpBulkRate
  /-- zcp.bulk_idle, R497. -/
  | zcpBulkIdle
  /-- mgmt.hb_period, R502. -/
  | mgmtHbPeriod
  /-- mgmt.hb_miss, R502. -/
  | mgmtHbMiss
deriving DecidableEq, Repr

/-- Part 0 of Item.all. -/
def Item.all0 : List Item :=
  [.moduleVariant, .moduleDiagPoke, .moduleCanalStatus, .moduleFeedStatus, .moduleInputPower, .moduleTemps, .moduleDomainState, .moduleSlotId]

/-- Part 1 of Item.all. -/
def Item.all1 : List Item :=
  [.moduleBootStatus, .ingressPortMode, .ingressPorts, .ingressFormat, .ingressOrder, .ingressCloseWait, .ingressBermEntries, .ingressEncap]

/-- Part 2 of Item.all. -/
def Item.all2 : List Item :=
  [.ingressVlan, .ingressSourceCheck, .ingressSrcFirst, .ingressSrcCount, .ingressSrcId, .ingressUdpPort, .ingressEthertype, .ingressMac]

/-- Part 3 of Item.all. -/
def Item.all3 : List Item :=
  [.ingressMulticast, .ingressIp4, .ingressIp6, .corrPaths, .corrChunkLen, .corrChannelCount, .corrChannels, .corrChanFreq]

/-- Part 4 of Item.all. -/
def Item.all4 : List Item :=
  [.corrTotalsFormat, .corrIntChunks, .corrRingsPerDie, .corrSealWait, .corrSnapBytes, .corrPolderState, .planShedPolicy, .planTransition]

/-- Part 5 of Item.all. -/
def Item.all5 : List Item :=
  [.planCommitLead, .planId, .weirBeamCount, .weirChanGroup, .weirPolMap, .weirWeightSource, .weirAutoEpoch, .weirVoltFormat]

/-- Part 6 of Item.all. -/
def Item.all6 : List Item :=
  [.weirVoltPol, .weirVoltGain, .weirDetMode, .weirDetAvgLog2, .weirDetFormat, .weirBeamBufBlocks, .zoomEnable, .zoomSourceChan]

/-- Part 7 of Item.all. -/
def Item.all7 : List Item :=
  [.zoomNcoInc, .zoomNcoPhase0, .zoomStages, .zoomStageDesign, .zoomGain, .zoomCorrelate, .zoomChunkLen, .zoomIntChunks]

/-- Part 8 of Item.all. -/
def Item.all8 : List Item :=
  [.zoomThrPaths, .zoomThrBeams, .zoomThrAvgLog2, .zoomThrBeamAvgLog2, .zoomThrBeamAbsentMax, .zoomThrUpper, .zoomThrLower, .zoomThrHyst]

/-- Part 9 of Item.all. -/
def Item.all9 : List Item :=
  [.zoomThrHoldoff, .zoomGateWindows, .zoomGateStates, .zoomGateDelay, .zoomGateHold, .zoomRomCoef, .egressVisStreams, .egressRedundancy]

/-- Part 10 of Item.all. -/
def Item.all10 : List Item :=
  [.egressCompress, .egressModuleId, .egressVisTileMask, .egressVisElemClass, .egressVisAvgLog2, .egressVisFormat, .egressVisScaleLog2, .egressCompTrim]

/-- Part 11 of Item.all. -/
def Item.all11 : List Item :=
  [.egressIpVersion, .egressVlan, .egressDscp, .egressDestIp, .egressDestMac, .egressDestPort, .egressTelemetryPeriod, .egressTelemetryKeys]

/-- Part 12 of Item.all. -/
def Item.all12 : List Item :=
  [.egressSnapRate, .egressDrainGuard, .egressStagingBuffers, .timingScEpoch, .timingScRateNum, .timingScRateDen, .timingPortCal, .timingPortCalUser]

/-- Part 13 of Item.all. -/
def Item.all13 : List Item :=
  [.timingPtpTxDomain, .timingPtpTxEnable, .timingPtpTxSyncLog, .timingPtpTxAnnounceLog, .timingPtpTxDelayreqLog, .timingPtpDelayMech, .timingPtpTransport, .timingPtpRxDomain]

/-- Part 14 of Item.all. -/
def Item.all14 : List Item :=
  [.timingPtpAnnounceTimeout, .timingPtpSyncTimeout, .timingPtpTcEnable, .timingPtpAsym, .timingOutMode, .timingOutStart, .timingOutPeriod, .timingOutWidth]

/-- Part 15 of Item.all. -/
def Item.all15 : List Item :=
  [.timingOutCount, .timingOutPolarity, .timingOutMarkSrc, .timingOutMarkOffset, .timingInEdge, .timingRefMode, .timingRefManual, .timingRefPriority]

/-- Part 16 of Item.all. -/
def Item.all16 : List Item :=
  [.timingRefQlFixed, .timingFreqOnlyRank, .timingQualifyTime, .timingWtr, .timingTodTimeout, .timingFreqLimit, .timingSwitchWindow, .timingDisagreePpb]

/-- Part 17 of Item.all. -/
def Item.all17 : List Item :=
  [.timingDisagreeWindow, .timingRealignMode, .timingSlewMax, .timingDpllBw, .timingAcqBw, .timingHoldoverAvg, .timingHoldoverSpec, .timingRefStatus]

/-- Part 18 of Item.all. -/
def Item.all18 : List Item :=
  [.timingRefOffset, .timingPhaseDebt, .timingSrcLagMin, .timingSrcLagMax, .memInterleaveLog2, .memMaxBin, .memPortPrio, .memPortHint]

/-- Part 19 of Item.all. -/
def Item.all19 : List Item :=
  [.memPageIdle, .memRhThreshold, .memPdTimer, .memRetrainCorr, .memRetrainPeriod, .memChanStatus, .memRegionBase, .memRegionSize]

/-- Part 20 of Item.all. -/
def Item.all20 : List Item :=
  [.sluiceOwner, .sluiceWeightCores, .sluiceStatsCount, .sluiceStatsList, .sluiceStatsDecim, .sluiceStatsLog2, .sluiceSkLow, .sluiceSkHigh]

/-- Part 21 of Item.all. -/
def Item.all21 : List Item :=
  [.faultSticky, .faultClassStatus, .faultQuietTime, .faultRecoveries, .faultBootCount, .faultGauge, .faultHubGauge, .faultGaugeMargin]

/-- Part 22 of Item.all. -/
def Item.all22 : List Item :=
  [.faultGaugeAlarm, .faultPolderCapStep, .faultPlannerPeriod, .faultBbSeq, .faultBbState, .zcpRights, .zcpIdleTimeout, .zcpUnsolRto]

/-- Part 23 of Item.all. -/
def Item.all23 : List Item :=
  [.zcpUnsolAge, .zcpTelemetryPeriod, .zcpTelemetryKeys, .zcpBulkWait, .zcpBulkRate, .zcpBulkIdle, .mgmtHbPeriod, .mgmtHbMiss]

/-- Every item, in the order above. -/
def Item.all : List Item :=
  [Item.all0, Item.all1, Item.all2, Item.all3, Item.all4, Item.all5, Item.all6, Item.all7, Item.all8, Item.all9, Item.all10, Item.all11, Item.all12, Item.all13, Item.all14, Item.all15, Item.all16, Item.all17, Item.all18, Item.all19, Item.all20, Item.all21, Item.all22, Item.all23].flatten

/-- Part 0 of itemTable. -/
def itemTable0 : List ItemDesc :=
  [⟨0, some 0x1, .u8, 0, 1, .ro, 0, .any, 0⟩,
   ⟨0, some 0x2, .bool, 0, 1, .rw, 0, .between 0 1, 0⟩,
   ⟨0, some 0x10, .u64, 11, 1, .ro, 0, .any, 0⟩,
   ⟨0, some 0x30, .u64, 0, 2, .ro, 0, .any, 0⟩,
   ⟨0, some 0x31, .u32, 0, 1, .ro, 0, .any, 0⟩,
   ⟨0, some 0x32, .f32, 0, 7, .ro, 0, .any, 0⟩,
   ⟨0, some 0x33, .u8, 0, 40, .ro, 0, .any, 0⟩,
   ⟨0, some 0x34, .u8, 0, 1, .ro, 0, .any, 0⟩,
   ⟨0, some 0x40, .u64, 0, 1, .ro, 0, .any, 0⟩,
   ⟨1, some 0x1, .enum, 12, 1, .rw, 2, .between 0 2, 0⟩,
   ⟨1, some 0x2, .mask, 0, 1, .rw, 2, .any, 22685491128062564230891640495451214097⟩,
   ⟨1, some 0x3, .u8, 0, 1, .rw, 2, .between 1 3, 1⟩]

/-- Part 1 of itemTable. -/
def itemTable1 : List ItemDesc :=
  [⟨1, some 0x4, .enum, 0, 1, .rw, 2, .between 0 1, 0⟩,
   ⟨1, some 0x5, .u64, 0, 1, .rw, 2, .zeroOr 10000 1000000000, 0⟩,
   ⟨1, some 0x6, .u32, 0, 1, .rw, 2, .between 1024 65536, 8192⟩,
   ⟨1, some 0x7, .enum, 13, 1, .rw, 2, .between 0 2, 0⟩,
   ⟨1, some 0x8, .bool, 13, 1, .rw, 2, .between 0 1, 0⟩,
   ⟨1, none, .bool, 0, 1, .rw, 0, .between 0 1, 0⟩,
   ⟨1, none, .u16, 0, 256, .rw, 0, .any, 0⟩,
   ⟨1, none, .u16, 0, 256, .rw, 0, .any, 0⟩,
   ⟨1, none, .u32, 0, 256, .rw, 0, .any, 0⟩,
   ⟨1, none, .u16, 0, 1, .rw, 0, .any, 45470⟩,
   ⟨1, none, .u16, 0, 1, .rw, 0, .any, 34997⟩,
   ⟨1, none, .u64, 13, 1, .rw, 0, .between 0 281474976710655, 0⟩]

/-- Part 2 of itemTable. -/
def itemTable2 : List ItemDesc :=
  [⟨1, none, .u64, 13, 16, .rw, 0, .between 0 281474976710655, 0⟩,
   ⟨1, none, .addr, 13, 1, .rw, 0, .any, 0⟩,
   ⟨1, none, .addr, 13, 1, .rw, 0, .any, 0⟩,
   ⟨2, some 0x1, .u16, 0, 1, .rw, 2, .any, 128⟩,
   ⟨2, some 0x2, .u32, 0, 1, .rw, 2, .any, 16384⟩,
   ⟨2, some 0x3, .u16, 0, 1, .rw, 2, .between 1 16384, 1⟩,
   ⟨2, some 0x4, .u16, 0, 16384, .rw, 2, .any, 0⟩,
   ⟨2, some 0x5, .f64, 0, 16384, .rw, 2, .any, 0⟩,
   ⟨2, some 0x6, .enum, 0, 1, .rw, 2, .between 0 1, 0⟩,
   ⟨2, some 0x7, .u32, 0, 1, .rw, 2, .between 1 1048576, 61⟩,
   ⟨2, some 0x8, .u8, 0, 1, .rw, 2, .between 1 6, 6⟩,
   ⟨2, some 0x9, .u64, 0, 1, .rw, 0, .between 1000000 10000000000, 100000000⟩]

/-- Part 3 of itemTable. -/
def itemTable3 : List ItemDesc :=
  [⟨2, none, .u64, 0, 1, .rw, 2, .step 268435456 17179869184 268435456, 4294967296⟩,
   ⟨2, some 0x20, .u64, 3, 1, .ro, 0, .any, 0⟩,
   ⟨3, some 0x1, .enum, 0, 1, .rw, 2, .between 0 2, 0⟩,
   ⟨3, some 0x2, .enum, 0, 1, .rw, 2, .between 0 1, 0⟩,
   ⟨3, some 0x3, .u64, 0, 1, .rw, 0, .between 50000000 60000000000, 100000000⟩,
   ⟨3, some 0x10, .u32, 0, 1, .ro, 0, .any, 0⟩,
   ⟨4, some 0x1, .u8, 0, 1, .rw, 2, .between 0 128, 0⟩,
   ⟨4, some 0x2, .u16, 0, 1, .rw, 2, .between 1 750, 1⟩,
   ⟨4, some 0x3, .mask, 0, 1, .rw, 2, .between 0 18446744073709551615, 0⟩,
   ⟨4, some 0x4, .enum, 0, 1, .rw, 2, .between 0 1, 0⟩,
   ⟨4, some 0x5, .u64, 0, 1, .rw, 2, .zeroOrStep 1024 1099511627776 1024, 0⟩,
   ⟨4, some 0x10, .enum, 5, 1, .rw, 2, .between 0 2, 0⟩]

/-- Part 4 of itemTable. -/
def itemTable4 : List ItemDesc :=
  [⟨4, none, .enum, 5, 1, .rw, 2, .between 0 1, 0⟩,
   ⟨4, none, .f32, 5, 1, .rw, 2, .f32Pos, 1065353216⟩,
   ⟨4, some 0x13, .enum, 5, 1, .rw, 2, .between 0 2, 0⟩,
   ⟨4, none, .u8, 5, 1, .rw, 2, .between 0 10, 6⟩,
   ⟨4, none, .enum, 5, 1, .rw, 2, .between 0 1, 0⟩,
   ⟨4, none, .u8, 0, 1, .rw, 2, .between 2 8, 4⟩,
   ⟨5, some 0x1, .bool, 6, 1, .rw, 2, .between 0 1, 0⟩,
   ⟨5, none, .u16, 6, 1, .rw, 2, .any, 0⟩,
   ⟨5, some 0x3, .u32, 6, 1, .rw, 2, .any, 0⟩,
   ⟨5, none, .u32, 6, 1, .rw, 2, .any, 0⟩,
   ⟨5, none, .u8, 6, 1, .rw, 2, .between 1 12, 1⟩,
   ⟨5, none, .u64, 6, 1, .rw, 2, .any, 0⟩]

/-- Part 5 of itemTable. Each thr_* item has an instance per window, as R519's table gives zoom.thr_upper (DESIGN
CHOICE; log entry 116). -/
def itemTable5 : List ItemDesc :=
  [⟨5, none, .f32, 6, 1, .rw, 2, .f32Pos, 1065353216⟩,
   ⟨5, none, .bool, 6, 1, .rw, 2, .between 0 1, 1⟩,
   ⟨5, none, .u32, 0, 1, .rw, 2, .any, 1024⟩,
   ⟨5, none, .u32, 0, 1, .rw, 2, .between 1 1048576, 61⟩,
   ⟨5, none, .bool, 6, 1, .rw, 2, .between 0 1, 0⟩,
   ⟨5, none, .mask, 6, 1, .rw, 2, .any, 0⟩,
   ⟨5, none, .u8, 6, 1, .rw, 2, .between 0 16, 6⟩,
   ⟨5, none, .u8, 6, 1, .rw, 2, .between 0 10, 0⟩,
   ⟨5, none, .u16, 6, 1, .rw, 2, .between 0 8192, 0⟩,
   ⟨5, some 0x24, .f32, 6, 1, .rw, 2, .any, 2139095040⟩,
   ⟨5, none, .f32, 6, 1, .rw, 2, .any, 0⟩,
   ⟨5, none, .f32, 6, 1, .rw, 2, .f32Between 1065353216 1148846080, 1065353216⟩]

/-- Part 6 of itemTable. -/
def itemTable6 : List ItemDesc :=
  [⟨5, none, .u16, 6, 1, .rw, 2, .any, 0⟩,
   ⟨5, some 0x40, .u32, 18, 1, .rw, 2, .any, 0⟩,
   ⟨5, none, .enum, 18, 1, .rw, 2, .between 0 2, 0⟩,
   ⟨5, none, .u64, 18, 1, .rw, 2, .between 1000000 1000000000, 100000000⟩,
   ⟨5, none, .u64, 18, 1, .rw, 2, .between 0 60000000000, 0⟩,
   ⟨5, none, .f32, 26, 24, .ro, 0, .any, 0⟩,
   ⟨6, some 0x1, .u8, 0, 1, .rw, 2, .between 1 4, 1⟩,
   ⟨6, some 0x2, .enum, 17, 1, .rw, 2, .between 0 2, 0⟩,
   ⟨6, some 0x3, .bool, 17, 1, .rw, 2, .between 0 1, 0⟩,
   ⟨6, some 0x4, .u32, 0, 1, .rw, 2, .any, 0⟩,
   ⟨6, some 0x5, .mask, 0, 17, .rw, 2, .any, 340282366920938463463374607431768211455⟩,
   ⟨6, none, .enum, 0, 1, .rw, 2, .between 0 2, 0⟩]

/-- Part 7 of itemTable. -/
def itemTable7 : List ItemDesc :=
  [⟨6, none, .u8, 0, 1, .rw, 2, .between 0 6, 0⟩,
   ⟨6, none, .enum, 0, 1, .rw, 2, .between 0 2, 0⟩,
   ⟨6, none, .i32, 0, 1, .rw, 2, .sgn 32 (-64) 0, 0⟩,
   ⟨6, none, .u8, 17, 1, .rw, 2, .between 0 20, 0⟩,
   ⟨6, none, .enum, 17, 2, .rw, 2, .between 0 1, 0⟩,
   ⟨6, none, .u16, 17, 2, .rw, 2, .any, 65535⟩,
   ⟨6, none, .u8, 17, 2, .rw, 1, .between 0 63, 0⟩,
   ⟨6, none, .addr, 17, 2, .rw, 1, .any, 0⟩,
   ⟨6, none, .u64, 17, 2, .rw, 1, .between 0 281474976710655, 0⟩,
   ⟨6, none, .u16, 17, 2, .rw, 1, .between 1 65535, 45474⟩,
   ⟨6, some 0x10, .u64, 0, 1, .rw, 1, .between 100000000 60000000000, 1000000000⟩,
   ⟨6, some 0x11, .key, 0, 1024, .rw, 1, .any, 0⟩]

/-- Part 8 of itemTable. -/
def itemTable8 : List ItemDesc :=
  [⟨6, none, .u64, 0, 1, .rw, 2, .between 0 47000000000, 0⟩,
   ⟨6, none, .u64, 0, 1, .rw, 2, .between 100000 100000000, 1000000⟩,
   ⟨6, none, .u32, 0, 1, .rw, 2, .between 64 1024, 256⟩,
   ⟨7, some 0x1, .tide, 0, 1, .rw, 2, .tide, 0⟩,
   ⟨7, none, .u64, 0, 1, .rw, 2, .between 1 1099511627776, 500000⟩,
   ⟨7, none, .u32, 0, 1, .rw, 2, .between 1 1048576, 1⟩,
   ⟨7, none, .u32, 13, 6, .ro, 0, .any, 0⟩,
   ⟨7, some 0x40, .i32, 13, 1, .rw, 0, .any, 0⟩,
   ⟨7, none, .u8, 0, 1, .rw, 0, .any, 0⟩,
   ⟨7, none, .bool, 0, 1, .rw, 0, .between 0 1, 1⟩,
   ⟨7, none, .i32, 0, 1, .rw, 0, .sgn 32 (-7) 0, 4294967292⟩,
   ⟨7, none, .i32, 0, 1, .rw, 0, .sgn 32 (-3) 3, 1⟩]

/-- Part 9 of itemTable. -/
def itemTable9 : List ItemDesc :=
  [⟨7, none, .i32, 0, 1, .rw, 0, .sgn 32 (-7) 4, 4294967292⟩,
   ⟨7, none, .enum, 13, 1, .rw, 0, .between 0 1, 0⟩,
   ⟨7, none, .enum, 13, 1, .rw, 0, .between 0 2, 0⟩,
   ⟨7, none, .u8, 13, 1, .rw, 0, .any, 0⟩,
   ⟨7, none, .u8, 0, 1, .rw, 0, .between 2 10, 3⟩,
   ⟨7, none, .u8, 0, 1, .rw, 0, .between 2 64, 8⟩,
   ⟨7, none, .bool, 0, 1, .rw, 0, .between 0 1, 1⟩,
   ⟨7, none, .i64, 13, 1, .rw, 0, .any, 0⟩,
   ⟨7, some 0x30, .enum, 18, 1, .rw, 4, .between 0 2, 0⟩,
   ⟨7, none, .tide, 18, 1, .rw, 4, .tide, 0⟩,
   ⟨7, none, .u64, 18, 1, .rw, 4, .zeroOr 6553600 5662310400000000000, 0⟩,
   ⟨7, none, .u64, 18, 1, .rw, 4, .between 655360 5662310400000000000, 65536000⟩]

/-- Part 10 of itemTable. -/
def itemTable10 : List ItemDesc :=
  [⟨7, none, .u32, 18, 1, .rw, 4, .any, 1⟩,
   ⟨7, none, .enum, 18, 1, .rw, 4, .between 0 1, 0⟩,
   ⟨7, none, .enum, 18, 1, .rw, 4, .between 0 32, 0⟩,
   ⟨7, none, .i64, 18, 1, .rw, 4, .sgn 64 (-65536000000000) 65536000000000, 0⟩,
   ⟨7, none, .enum, 19, 1, .rw, 0, .between 0 3, 0⟩,
   ⟨7, some 0x10, .enum, 0, 1, .rw, 0, .between 0 1, 0⟩,
   ⟨7, none, .u8, 0, 1, .rw, 0, .between 0 5, 0⟩,
   ⟨7, some 0x11, .u8, 8, 1, .rw, 0, .between 0 15, 0⟩,
   ⟨7, none, .u8, 8, 1, .rw, 0, .orFF 0 15, 255⟩,
   ⟨7, none, .enum, 0, 1, .rw, 0, .between 0 1, 0⟩,
   ⟨7, none, .u64, 0, 1, .rw, 0, .between 1000000000 600000000000, 10000000000⟩,
   ⟨7, none, .u64, 0, 1, .rw, 0, .between 0 3600000000000, 300000000000⟩]

/-- Part 11 of itemTable. -/
def itemTable11 : List ItemDesc :=
  [⟨7, none, .u64, 0, 1, .rw, 0, .between 2000000000 10000000000, 3000000000⟩,
   ⟨7, none, .u32, 0, 1, .rw, 0, .between 10 100000, 1000⟩,
   ⟨7, none, .u64, 0, 1, .rw, 0, .between 100000000 10000000000, 1000000000⟩,
   ⟨7, none, .u32, 0, 1, .rw, 0, .between 1 10000, 50⟩,
   ⟨7, none, .u64, 0, 1, .rw, 0, .between 10000000000 3600000000000, 100000000000⟩,
   ⟨7, none, .enum, 0, 1, .rw, 0, .between 0 1, 0⟩,
   ⟨7, none, .u32, 0, 1, .rw, 0, .between 1 1000, 50⟩,
   ⟨7, some 0x20, .u8, 8, 1, .rw, 0, .between 0 15, 9⟩,
   ⟨7, none, .u8, 0, 1, .rw, 0, .between 0 15, 12⟩,
   ⟨7, none, .u64, 0, 1, .rw, 0, .between 10000000000 86400000000000, 300000000000⟩,
   ⟨7, none, .u64, 0, 1, .rw, 0, .between 60000000000 604800000000000, 14400000000000⟩,
   ⟨7, none, .u64, 8, 1, .ro, 0, .any, 0⟩]

/-- Part 12 of itemTable. -/
def itemTable12 : List ItemDesc :=
  [⟨7, none, .i64, 8, 1, .ro, 0, .any, 0⟩,
   ⟨7, none, .i64, 0, 1, .ro, 0, .any, 0⟩,
   ⟨7, none, .i32, 14, 1, .ro, 0, .any, 0⟩,
   ⟨7, none, .i32, 14, 1, .ro, 0, .any, 0⟩,
   ⟨8, some 0x1, .u8, 0, 1, .rw, 3, .between 8 16, 12⟩,
   ⟨8, some 0x2, .u8, 15, 1, .rw, 0, .between 0 4, 0⟩,
   ⟨8, none, .u8, 20, 1, .rw, 0, .between 1 7, 0⟩,
   ⟨8, none, .enum, 20, 1, .rw, 0, .between 0 1, 0⟩,
   ⟨8, none, .u32, 0, 1, .rw, 0, .between 50 2000, 200⟩,
   ⟨8, none, .u16, 0, 1, .rw, 0, .between 256 65535, 2048⟩,
   ⟨8, none, .u32, 0, 1, .rw, 0, .between 100 100000, 1000⟩,
   ⟨8, none, .u16, 0, 1, .rw, 0, .between 1 65535, 100⟩]

/-- Part 13 of itemTable. -/
def itemTable13 : List ItemDesc :=
  [⟨8, none, .u64, 0, 1, .rw, 0, .between 3600000000000 604800000000000, 86400000000000⟩,
   ⟨8, some 0x10, .u64, 16, 1, .ro, 0, .any, 0⟩,
   ⟨8, none, .u64, 27, 1, .ro, 0, .any, 0⟩,
   ⟨8, none, .u64, 27, 1, .ro, 0, .any, 0⟩,
   ⟨9, some 0x1, .enum, 7, 1, .rw, 2, .between 0 1, 0⟩,
   ⟨9, some 0x2, .mask, 0, 1, .rw, 2, .between 0 18446744073709551615, 18446744073709551615⟩,
   ⟨9, none, .u16, 0, 1, .rw, 2, .between 0 1024, 0⟩,
   ⟨9, none, .u32, 0, 1024, .rw, 2, .any, 0⟩,
   ⟨9, none, .u8, 0, 1, .rw, 2, .between 0 7, 0⟩,
   ⟨9, none, .u8, 0, 1, .rw, 2, .between 10 16, 12⟩,
   ⟨9, none, .f32, 0, 1, .rw, 2, .any, 1063675494⟩,
   ⟨9, none, .f32, 0, 1, .rw, 2, .any, 1066192077⟩]

/-- Part 14 of itemTable. -/
def itemTable14 : List ItemDesc :=
  [⟨10, some 0x1, .mask, 0, 1, .w1c, 0, .any, 0⟩,
   ⟨10, some 0x2, .u64, 21, 1, .ro, 0, .any, 0⟩,
   ⟨10, some 0x3, .u32, 21, 1, .rw, 0, .between 1 3600, 10⟩,
   ⟨10, some 0x4, .u16, 21, 1, .ro, 0, .any, 0⟩,
   ⟨10, some 0x5, .u32, 0, 1, .ro, 0, .any, 0⟩,
   ⟨10, some 0x10, .u32, 3, 2, .ro, 0, .any, 0⟩,
   ⟨10, some 0x11, .u32, 22, 1, .ro, 0, .any, 0⟩,
   ⟨10, some 0x12, .u16, 0, 1, .rw, 0, .between 0 200, 40⟩,
   ⟨10, some 0x13, .u16, 0, 1, .rw, 0, .between 0 100, 15⟩,
   ⟨10, some 0x14, .u8, 0, 1, .rw, 0, .between 0 24, 16⟩,
   ⟨10, some 0x15, .u32, 0, 1, .rw, 0, .between 3600 604800, 86400⟩,
   ⟨10, some 0x20, .u32, 0, 1, .ro, 0, .any, 0⟩]

/-- Part 15 of itemTable. -/
def itemTable15 : List ItemDesc :=
  [⟨10, some 0x21, .enum, 0, 1, .ro, 0, .any, 0⟩,
   ⟨11, some 0x1, .u16, 9, 1, .rw, 0, .any, 36862⟩,
   ⟨11, some 0x2, .u64, 0, 1, .rw, 0, .between 1000000000 3600000000000, 60000000000⟩,
   ⟨11, none, .u32, 0, 1, .rw, 0, .between 5000000 1000000000, 20000000⟩,
   ⟨11, none, .u64, 0, 1, .rw, 0, .between 1000000000 600000000000, 30000000000⟩,
   ⟨11, none, .u64, 9, 1, .rw, 0, .zeroOr 1000000000 60000000000, 0⟩,
   ⟨11, none, .key, 9, 1024, .rw, 0, .any, 0⟩,
   ⟨11, none, .u64, 0, 1, .rw, 0, .between 10000000 10000000000, 1000000000⟩,
   ⟨11, none, .u32, 0, 1, .rw, 0, .between 10000000 1500000000, 1000000000⟩,
   ⟨11, none, .u64, 0, 1, .rw, 0, .between 1000000000 600000000000, 10000000000⟩,
   ⟨12, some 0x1, .u32, 0, 1, .rw, 0, .between 500000 5000000, 1000000⟩,
   ⟨12, none, .u8, 0, 1, .rw, 0, .between 2 20, 5⟩]

/-- The facts of the items, in the order above. -/
def itemTable : List ItemDesc :=
  [itemTable0, itemTable1, itemTable2, itemTable3, itemTable4, itemTable5, itemTable6, itemTable7, itemTable8, itemTable9, itemTable10, itemTable11, itemTable12, itemTable13, itemTable14, itemTable15].flatten

/-- A number for each item, used as the high part of store keys. -/
def Item.index (i : Item) : Nat := i.ctorIdx

/-- The facts of an item. -/
def Item.desc (i : Item) : ItemDesc := itemTable.getD i.index ⟨0, none, .u8, 0, 1, .ro, 0, .any, 0⟩


/-- The counters that the spec names (R86, R125, R161, R195, R224, R255, R277, R358, R394, R422,
R453, R467, R506, R551), in the order of R593; a second dimension has one counter per value. -/
inductive Ctr where
  | rxFrames
  | rxBytes
  | fecCorr
  | fecUncorr
  | fcsErr
  | discAddr
  | discFlowctl
  | discNotFframe
  | discChecksum
  | discHcheck
  | discFormat
  | discLength
  | discAlign
  | discRange
  | discOrder
  | discChannel
  | discPlan
  | discSource
  | shedFrames
  | flaggedFrames
  | srcFrames
  | srcBytes
  | lateFrames
  | noslotFrames
  | dupSubblocks
  | blocksIncomplete
  | blocksEmpty
  | culvertCorr
  | culvertUncorr
  | linkDown
  | tilesDone
  | swapStallCycles
  | guardFlags
  | mirrorMismatch
  | rowTestFail
  | promotions
  | collectorHoldCycles
  | latePromotions
  | firstTouches
  | tileOpsPromote
  | tileOpsLedgerOnly
  | tileOpsRead
  | tileOpsWrite
  | tileOpsStatus
  | tileOpsReset
  | tileOrderErr
  | staleResults
  | totalsPoison
  | drainLostTiles
  | weirBlocks
  | beamBlocksSkipped
  | weirHoldCycles
  | voltClip
  | voltNonfinite
  | detNonfinite
  | epochSwitches
  | epochRefused
  | dieBeamBlocksLost
  | zoomClip
  | zoomNonfinite
  | zoomBlocks
  | zoomBlocksLost
  | zoomStagingUncorr
  | thrEvents
  | thrSkipped
  | thrLost
  | gateLate
  | txPacketsH0
  | txPacketsH1
  | txBytesH0
  | txBytesH1
  | egressLinkDrop
  | visConvOvf
  | hostDiscFlowctl
  | streamBehindUs
  | egressNoDestH0
  | egressNoDestH1
  | compUnits
  | compBytesIn
  | compBytesOut
  | compStoredBlocks
  | spillHoldCycles
  | spillSplits
  | decompJobs
  | decompQueueFull
  | bundles
  | sramCorr
  | traps
  | forcedStops
  | moverDescs
  | moverDropped
  | tapRecords
  | tapMissed
  | tapOverrun
  | statsUnassigned
  | ptpRxEvent
  | ptpTxEvent
  | ptpDisc
  | ptpRateDisc
  | announceIgnored
  | ptpTxLoss
  | tcForwarded
  | tcDropped
  | txtsOverflow
  | pulseSkipped
  | edgeCaptured
  | edgeMissed
  | edgeLost
  | refDisqualify
  | refSwitches
  | switchAbandoned
  | holdoverEntries
  | todBad
  | realigns
  | innerCorr
  | outerCorr
  | uncorr
  | poisonReads
  | rhRefresh
  | refreshBursts
  | portWaitS0
  | portWaitS1
  | portWaitS2
  | portWaitS3
  | portWaitS4
  | portWaitS5
  | portWaitS6
  | portWaitS7
  | retrains
  | speedSteps
  | recordSameStack
  | egressUnitLost
  | pieces
  | decodeErrors
  | dataErrors
  | arbWaitCycles
  | masterResets
  | zcpRxH0
  | zcpRxH1
  | zcpTxH0
  | zcpTxH1
  | zcpDiscFormat
  | zcpDiscVersion
  | zcpDiscSession
  | zcpAuthFail
  | zcpDupDiscard
  | zcpSeqWindow
  | zcpMboxFull
  | zcpReplays
  | zcpUnsolRetx
  | zcpUnsolAged
  | zcpAckBad
  | zcpBulkBytesIn
  | zcpBulkBytesOut
  | mgmtTakeovers
  | mgmtMirrorTimeouts
  | bbRecords
  | bbDropped
  | bbFlushes
  | marginRuns
  | marginStepsDown
deriving DecidableEq, Repr

/-- Part 0 of Ctr.all. -/
def Ctr.all0 : List Ctr :=
  [.rxFrames, .rxBytes, .fecCorr, .fecUncorr, .fcsErr, .discAddr, .discFlowctl, .discNotFframe]

/-- Part 1 of Ctr.all. -/
def Ctr.all1 : List Ctr :=
  [.discChecksum, .discHcheck, .discFormat, .discLength, .discAlign, .discRange, .discOrder, .discChannel]

/-- Part 2 of Ctr.all. -/
def Ctr.all2 : List Ctr :=
  [.discPlan, .discSource, .shedFrames, .flaggedFrames, .srcFrames, .srcBytes, .lateFrames, .noslotFrames]

/-- Part 3 of Ctr.all. -/
def Ctr.all3 : List Ctr :=
  [.dupSubblocks, .blocksIncomplete, .blocksEmpty, .culvertCorr, .culvertUncorr, .linkDown, .tilesDone, .swapStallCycles]

/-- Part 4 of Ctr.all. -/
def Ctr.all4 : List Ctr :=
  [.guardFlags, .mirrorMismatch, .rowTestFail, .promotions, .collectorHoldCycles, .latePromotions, .firstTouches, .tileOpsPromote]

/-- Part 5 of Ctr.all. -/
def Ctr.all5 : List Ctr :=
  [.tileOpsLedgerOnly, .tileOpsRead, .tileOpsWrite, .tileOpsStatus, .tileOpsReset, .tileOrderErr, .staleResults, .totalsPoison]

/-- Part 6 of Ctr.all. -/
def Ctr.all6 : List Ctr :=
  [.drainLostTiles, .weirBlocks, .beamBlocksSkipped, .weirHoldCycles, .voltClip, .voltNonfinite, .detNonfinite, .epochSwitches]

/-- Part 7 of Ctr.all. -/
def Ctr.all7 : List Ctr :=
  [.epochRefused, .dieBeamBlocksLost, .zoomClip, .zoomNonfinite, .zoomBlocks, .zoomBlocksLost, .zoomStagingUncorr, .thrEvents]

/-- Part 8 of Ctr.all. -/
def Ctr.all8 : List Ctr :=
  [.thrSkipped, .thrLost, .gateLate, .txPacketsH0, .txPacketsH1, .txBytesH0, .txBytesH1, .egressLinkDrop]

/-- Part 9 of Ctr.all. -/
def Ctr.all9 : List Ctr :=
  [.visConvOvf, .hostDiscFlowctl, .streamBehindUs, .egressNoDestH0, .egressNoDestH1, .compUnits, .compBytesIn, .compBytesOut]

/-- Part 10 of Ctr.all. -/
def Ctr.all10 : List Ctr :=
  [.compStoredBlocks, .spillHoldCycles, .spillSplits, .decompJobs, .decompQueueFull, .bundles, .sramCorr, .traps]

/-- Part 11 of Ctr.all. -/
def Ctr.all11 : List Ctr :=
  [.forcedStops, .moverDescs, .moverDropped, .tapRecords, .tapMissed, .tapOverrun, .statsUnassigned, .ptpRxEvent]

/-- Part 12 of Ctr.all. -/
def Ctr.all12 : List Ctr :=
  [.ptpTxEvent, .ptpDisc, .ptpRateDisc, .announceIgnored, .ptpTxLoss, .tcForwarded, .tcDropped, .txtsOverflow]

/-- Part 13 of Ctr.all. -/
def Ctr.all13 : List Ctr :=
  [.pulseSkipped, .edgeCaptured, .edgeMissed, .edgeLost, .refDisqualify, .refSwitches, .switchAbandoned, .holdoverEntries]

/-- Part 14 of Ctr.all. -/
def Ctr.all14 : List Ctr :=
  [.todBad, .realigns, .innerCorr, .outerCorr, .uncorr, .poisonReads, .rhRefresh, .refreshBursts]

/-- Part 15 of Ctr.all. -/
def Ctr.all15 : List Ctr :=
  [.portWaitS0, .portWaitS1, .portWaitS2, .portWaitS3, .portWaitS4, .portWaitS5, .portWaitS6, .portWaitS7]

/-- Part 16 of Ctr.all. -/
def Ctr.all16 : List Ctr :=
  [.retrains, .speedSteps, .recordSameStack, .egressUnitLost, .pieces, .decodeErrors, .dataErrors, .arbWaitCycles]

/-- Part 17 of Ctr.all. -/
def Ctr.all17 : List Ctr :=
  [.masterResets, .zcpRxH0, .zcpRxH1, .zcpTxH0, .zcpTxH1, .zcpDiscFormat, .zcpDiscVersion, .zcpDiscSession]

/-- Part 18 of Ctr.all. -/
def Ctr.all18 : List Ctr :=
  [.zcpAuthFail, .zcpDupDiscard, .zcpSeqWindow, .zcpMboxFull, .zcpReplays, .zcpUnsolRetx, .zcpUnsolAged, .zcpAckBad]

/-- Part 19 of Ctr.all. -/
def Ctr.all19 : List Ctr :=
  [.zcpBulkBytesIn, .zcpBulkBytesOut, .mgmtTakeovers, .mgmtMirrorTimeouts, .bbRecords, .bbDropped, .bbFlushes, .marginRuns]

/-- Part 20 of Ctr.all. -/
def Ctr.all20 : List Ctr :=
  [.marginStepsDown]

/-- The counters in order. -/
def Ctr.all : List Ctr :=
  [Ctr.all0, Ctr.all1, Ctr.all2, Ctr.all3, Ctr.all4, Ctr.all5, Ctr.all6, Ctr.all7, Ctr.all8, Ctr.all9, Ctr.all10, Ctr.all11, Ctr.all12, Ctr.all13, Ctr.all14, Ctr.all15, Ctr.all16, Ctr.all17, Ctr.all18, Ctr.all19, Ctr.all20].flatten

/-- Part 0 of ctrTable. -/
def ctrTable0 : List (Nat × Nat × Nat) :=
  [(1, 13, 0x800), (1, 13, 0x801), (1, 13, 0x802), (1, 13, 0x803), (1, 13, 0x804), (1, 13, 0x805), (1, 13, 0x806), (1, 13, 0x807)]

/-- Part 1 of ctrTable. -/
def ctrTable1 : List (Nat × Nat × Nat) :=
  [(1, 13, 0x808), (1, 13, 0x809), (1, 13, 0x80a), (1, 13, 0x80b), (1, 13, 0x80c), (1, 13, 0x80d), (1, 13, 0x80e), (1, 13, 0x80f)]

/-- Part 2 of ctrTable. -/
def ctrTable2 : List (Nat × Nat × Nat) :=
  [(1, 13, 0x810), (1, 13, 0x811), (1, 13, 0x812), (1, 13, 0x813), (1, 14, 0x814), (1, 14, 0x815), (1, 1, 0x816), (1, 1, 0x817)]

/-- Part 3 of ctrTable. -/
def ctrTable3 : List (Nat × Nat × Nat) :=
  [(1, 1, 0x818), (1, 1, 0x819), (1, 1, 0x81a), (1, 1, 0x81b), (1, 1, 0x81c), (1, 13, 0x81d), (2, 1, 0x800), (2, 2, 0x801)]

/-- Part 4 of ctrTable. -/
def ctrTable4 : List (Nat × Nat × Nat) :=
  [(2, 1, 0x802), (2, 3, 0x803), (2, 3, 0x804), (2, 1, 0x805), (2, 1, 0x806), (2, 1, 0x807), (2, 24, 0x808), (2, 24, 0x809)]

/-- Part 5 of ctrTable. -/
def ctrTable5 : List (Nat × Nat × Nat) :=
  [(2, 24, 0x80a), (2, 24, 0x80b), (2, 24, 0x80c), (2, 24, 0x80d), (2, 24, 0x80e), (2, 24, 0x80f), (2, 24, 0x810), (2, 24, 0x811)]

/-- Part 6 of ctrTable. -/
def ctrTable6 : List (Nat × Nat × Nat) :=
  [(2, 0, 0x812), (4, 4, 0x800), (4, 4, 0x801), (4, 4, 0x802), (4, 5, 0x803), (4, 5, 0x804), (4, 5, 0x805), (4, 0, 0x806)]

/-- Part 7 of ctrTable. -/
def ctrTable7 : List (Nat × Nat × Nat) :=
  [(4, 0, 0x807), (4, 1, 0x808), (5, 6, 0x800), (5, 6, 0x801), (5, 6, 0x802), (5, 6, 0x803), (5, 0, 0x804), (5, 6, 0x805)]

/-- Part 8 of ctrTable. -/
def ctrTable8 : List (Nat × Nat × Nat) :=
  [(5, 6, 0x806), (5, 0, 0x807), (5, 18, 0x808), (6, 17, 0x800), (6, 17, 0x801), (6, 17, 0x802), (6, 17, 0x803), (6, 13, 0x804)]

/-- Part 9 of ctrTable. -/
def ctrTable9 : List (Nat × Nat × Nat) :=
  [(6, 17, 0x805), (6, 13, 0x806), (6, 17, 0x807), (6, 17, 0x808), (6, 17, 0x809), (6, 17, 0x80a), (6, 17, 0x80b), (6, 17, 0x80c)]

/-- Part 10 of ctrTable. -/
def ctrTable10 : List (Nat × Nat × Nat) :=
  [(6, 17, 0x80d), (6, 0, 0x80e), (6, 17, 0x80f), (6, 25, 0x810), (6, 0, 0x811), (9, 7, 0x800), (9, 7, 0x801), (9, 7, 0x802)]

/-- Part 11 of ctrTable. -/
def ctrTable11 : List (Nat × Nat × Nat) :=
  [(9, 7, 0x803), (9, 7, 0x804), (9, 7, 0x805), (9, 7, 0x806), (9, 7, 0x807), (9, 7, 0x808), (9, 0, 0x809), (7, 13, 0x800)]

/-- Part 12 of ctrTable. -/
def ctrTable12 : List (Nat × Nat × Nat) :=
  [(7, 13, 0x801), (7, 13, 0x802), (7, 13, 0x803), (7, 13, 0x804), (7, 13, 0x805), (7, 13, 0x806), (7, 13, 0x807), (7, 13, 0x808)]

/-- Part 13 of ctrTable. -/
def ctrTable13 : List (Nat × Nat × Nat) :=
  [(7, 18, 0x809), (7, 19, 0x80a), (7, 19, 0x80b), (7, 19, 0x80c), (7, 8, 0x80d), (7, 0, 0x80e), (7, 0, 0x80f), (7, 0, 0x810)]

/-- Part 14 of ctrTable. -/
def ctrTable14 : List (Nat × Nat × Nat) :=
  [(7, 8, 0x811), (7, 0, 0x812), (8, 16, 0x800), (8, 16, 0x801), (8, 16, 0x802), (8, 16, 0x803), (8, 16, 0x804), (8, 16, 0x805)]

/-- Part 15 of ctrTable. -/
def ctrTable15 : List (Nat × Nat × Nat) :=
  [(8, 20, 0x806), (8, 20, 0x807), (8, 20, 0x808), (8, 20, 0x809), (8, 20, 0x80a), (8, 20, 0x80b), (8, 20, 0x80c), (8, 20, 0x80d)]

/-- Part 16 of ctrTable. -/
def ctrTable16 : List (Nat × Nat × Nat) :=
  [(8, 16, 0x80e), (8, 15, 0x80f), (8, 24, 0x810), (8, 17, 0x811), (0, 11, 0x800), (0, 11, 0x801), (0, 11, 0x802), (0, 28, 0x803)]

/-- Part 17 of ctrTable. -/
def ctrTable17 : List (Nat × Nat × Nat) :=
  [(0, 11, 0x804), (11, 9, 0x800), (11, 9, 0x801), (11, 9, 0x802), (11, 9, 0x803), (11, 13, 0x804), (11, 13, 0x805), (11, 13, 0x806)]

/-- Part 18 of ctrTable. -/
def ctrTable18 : List (Nat × Nat × Nat) :=
  [(11, 13, 0x807), (11, 9, 0x808), (11, 9, 0x809), (11, 10, 0x80a), (11, 9, 0x80b), (11, 9, 0x80c), (11, 9, 0x80d), (11, 9, 0x80e)]

/-- Part 19 of ctrTable. -/
def ctrTable19 : List (Nat × Nat × Nat) :=
  [(11, 9, 0x80f), (11, 9, 0x810), (12, 0, 0x800), (12, 0, 0x801), (10, 0, 0x800), (10, 0, 0x801), (10, 0, 0x802), (10, 0, 0x803)]

/-- Part 20 of ctrTable. -/
def ctrTable20 : List (Nat × Nat × Nat) :=
  [(10, 0, 0x804)]

/-- Group, unit kind (R588) and ITEM number (R593) of the counters, in order. -/
def ctrTable : List (Nat × Nat × Nat) :=
  [ctrTable0, ctrTable1, ctrTable2, ctrTable3, ctrTable4, ctrTable5, ctrTable6, ctrTable7, ctrTable8, ctrTable9, ctrTable10, ctrTable11, ctrTable12, ctrTable13, ctrTable14, ctrTable15, ctrTable16, ctrTable17, ctrTable18, ctrTable19, ctrTable20].flatten

/-- A number for each counter. -/
def Ctr.index (c : Ctr) : Nat := c.ctorIdx

/-- Group, unit kind (R588) and ITEM number (R593) of a counter. -/
def Ctr.info (c : Ctr) : Nat × Nat × Nat := ctrTable.getD c.index (0, 0, 0)


/-- The events of mailbox 15 (R520, R552). -/
inductive Ev where
  | counterSat
  | canalError
  | ingressLink
  | ingressDiscard
  | ingressGap
  | bermFull
  | laneMirror
  | spareRow
  | polderSpared
  | totalsOverflow
  | sealed
  | drainOverrun
  | tilesInvalid
  | snapshotDone
  | planReadmit
  | planOver
  | weirEpoch
  | weightLate
  | weightsCleared
  | beamNonfinite
  | threshold
  | thresholdLost
  | zoomLost
  | egressLink
  | drainDone
  | decompDone
  | spillwayFull
  | timeStep
  | ptpTransmitter
  | txtsOverflow
  | tideOutDone
  | pulseSkipped
  | edge
  | refState
  | refSwitch
  | refSwitchAbandoned
  | refDisagree
  | holdover
  | timeRealign
  | memRetrain
  | memSpeed
  | memErrors
  | memChannelRetired
  | sluiceTrap
  | sluiceState
  | rfiFlag
  | fault
  | faultClear
  | capacity
  | margin
  | bbFlushed
  | feed
  | zcpAuth
  | session
  | bulkEnd
  | takeover
  | mgmtStandby
deriving DecidableEq, Repr

/-- Part 0 of evCodes. -/
def evCodes0 : List Nat :=
  [0x001, 0x002, 0x101, 0x102, 0x103, 0x104, 0x201, 0x202]

/-- Part 1 of evCodes. -/
def evCodes1 : List Nat :=
  [0x203, 0x204, 0x205, 0x206, 0x207, 0x208, 0x301, 0x302]

/-- Part 2 of evCodes. -/
def evCodes2 : List Nat :=
  [0x401, 0x402, 0x403, 0x404, 0x501, 0x502, 0x503, 0x601]

/-- Part 3 of evCodes. -/
def evCodes3 : List Nat :=
  [0x602, 0x603, 0x604, 0x701, 0x702, 0x703, 0x704, 0x705]

/-- Part 4 of evCodes. -/
def evCodes4 : List Nat :=
  [0x706, 0x707, 0x708, 0x709, 0x70A, 0x70B, 0x70C, 0x801]

/-- Part 5 of evCodes. -/
def evCodes5 : List Nat :=
  [0x802, 0x803, 0x804, 0x901, 0x902, 0x903, 0xA01, 0xA02]

/-- Part 6 of evCodes. -/
def evCodes6 : List Nat :=
  [0xA03, 0xA04, 0xA05, 0xA06, 0xB01, 0xB02, 0xB03, 0xC01]

/-- Part 7 of evCodes. -/
def evCodes7 : List Nat :=
  [0xC02]

/-- The EVENT codes (R520, R552), in order. -/
def evCodes : List Nat :=
  [evCodes0, evCodes1, evCodes2, evCodes3, evCodes4, evCodes5, evCodes6, evCodes7].flatten

/-- The EVENT code (R520, R552). -/
def Ev.code (e : Ev) : Nat := evCodes.getD e.ctorIdx 0

/-- Every event, by code. -/
def Ev.all : List Ev :=
  [.counterSat, .canalError, .ingressLink, .ingressDiscard, .ingressGap, .bermFull, .laneMirror, .spareRow] ++
  [.polderSpared, .totalsOverflow, .sealed, .drainOverrun, .tilesInvalid, .snapshotDone, .planReadmit, .planOver] ++
  [.weirEpoch, .weightLate, .weightsCleared, .beamNonfinite, .threshold, .thresholdLost, .zoomLost, .egressLink] ++
  [.drainDone, .decompDone, .spillwayFull, .timeStep, .ptpTransmitter, .txtsOverflow, .tideOutDone, .pulseSkipped] ++
  [.edge, .refState, .refSwitch, .refSwitchAbandoned, .refDisagree, .holdover, .timeRealign, .memRetrain] ++
  [.memSpeed, .memErrors, .memChannelRetired, .sluiceTrap, .sluiceState, .rfiFlag, .fault, .faultClear] ++
  [.capacity, .margin, .bbFlushed, .feed, .zcpAuth, .session, .bulkEnd, .takeover] ++
  [.mgmtStandby]

/-- The fault sources (R527). -/
inductive Fs where
  | feedLoss
  | feedBoth
  | powerStage
  | tempWarn
  | tempCrit
  | domain
  | ingressLink
  | ingressEngine
  | hostLink
  | culvertUncorr
  | laneMirror
  | laneRow
  | polderRetired
  | ringFive
  | ringRetired
  | dieStopped
  | tileOrder
  | totalsPoison
  | weirEngine
  | weirPair
  | zoomEngine
  | compressor
  | decomp
  | sluiceTrap
  | sluiceCore
  | dramUncorr
  | dramSpeedStep
  | dramChannelRetired
  | dramTemp
  | recordSameStack
  | canalDecode
  | canalTimeout
  | ptpLoss
  | refDisagree
  | holdoverExpired
  | zcpAuth
  | mgmtTakeover
  | mgmtStandby
  | mgmtBoth
  | imageFallback
  | flash
  | bbFlush
  | hubMargin
  | marginStep
deriving DecidableEq, Repr

/-- The source number (R527): the sources stand in its order. -/
def Fs.num (f : Fs) : Nat := f.ctorIdx

/-- The classes of the sources in order (R527). -/
def fsClasses : List Nat :=
  [0, 3, 3, 0, 3, 2, 0, 2, 0, 0, 0, 0, 1, 1, 1, 2, 1, 0, 1, 1, 2, 1, 2, 0, 1, 0, 1, 1, 0, 0, 0, 0, 0, 0, 1, 0, 0, 1, 3, 0, 1, 0, 0, 0]

/-- The class of a source: 0 advisory, 1 degrading, 2 isolating, 3 module-stop (R526, R527). -/
def Fs.cls (f : Fs) : Nat := fsClasses.getD f.num 0


/-- Every source, by number. -/
def Fs.all : List Fs :=
  [.feedLoss, .feedBoth, .powerStage, .tempWarn, .tempCrit, .domain, .ingressLink, .ingressEngine] ++
  [.hostLink, .culvertUncorr, .laneMirror, .laneRow, .polderRetired, .ringFive, .ringRetired, .dieStopped] ++
  [.tileOrder, .totalsPoison, .weirEngine, .weirPair, .zoomEngine, .compressor, .decomp, .sluiceTrap] ++
  [.sluiceCore, .dramUncorr, .dramSpeedStep, .dramChannelRetired, .dramTemp, .recordSameStack, .canalDecode, .canalTimeout] ++
  [.ptpLoss, .refDisagree, .holdoverExpired, .zcpAuth, .mgmtTakeover, .mgmtStandby, .mgmtBoth, .imageFallback] ++
  [.flash, .bbFlush, .hubMargin, .marginStep]

/-- The instances of each unit kind (R588); kinds 26 to 28 are the model's numbers for half-band
designs, DRAM regions and canal target ports, which R588 gives no code. -/
def scopeCount : Nat → Nat
  | 0 => 1 | 1 => 4 | 2 => 24 | 3 => 168 | 4 => 8 | 5 => 128 | 6 => 32 | 7 => 64 | 8 => 6 | 9 => 4
  | 10 => 16 | 11 => 15 | 12 => 32 | 13 => 130 | 14 => 257 | 15 => 8 | 16 => 128 | 17 => 2560
  | 18 => 9 | 19 => 2 | 20 => 7 | 21 => 4 | 22 => 256 | 23 => 8 | 24 => 8 | 25 => 8 | 26 => 8
  | 27 => 12 | 28 => 80 | _ => 1

/-- The reset value of an element (R589 and the owning rules), where it differs with the instance. -/
def Item.resetAt (i : Item) (inst : Nat) : Nat :=
  if i = .timingRefPriority then inst + 1
  else if i = .timingDpllBw then (if inst = 2 ∨ inst = 3 then 6 else 9)
  else if i = .memPortPrio then 7 - inst
  else if i = .memPortHint then (if inst < 3 then 0 else 1)
  else if i = .zcpRights then (if inst = 0 then 0xFFFF else 0x8FFE)
  else if i = .timingOutPeriod then (if inst = 8 then 1000000000 * 65536 else 0)
  else if i = .timingOutWidth then (if inst = 8 then 100000000 * 65536 else 1000 * 65536)
  else if i = .timingOutCount then (if inst = 8 then 0 else 1)
  else if i = .timingOutMode then (if inst = 8 then 1 else 0)
  else i.desc.reset

end Sys2Proof.Machine
end

