-- ==== Sys2Proof/Machine/Store.lean ====
section
/-! DEFINITION. Sparse storage in one canonical form: pairs with strictly rising keys, none equal
to what an unlisted key reads as. Memories are stores of bytes (Host.Cell); counters and parameter
values are stores of numbers. -/

namespace Sys2Proof.Machine

/-! ### Files of a fixed number of like things -/

/-- A file of exactly `n` like things: registers, ports, slots, units. -/
structure RegFile (α : Type) (n : Nat) where
  toList : List α
  size : toList.length = n
deriving DecidableEq, Repr

/-- Entry `k`; `d` where the file has no such entry. -/
def RegFile.getD {α : Type} {n : Nat} (r : RegFile α n) (k : Nat) (d : α) : α := r.toList.getD k d

/-- The file with entry `k` changed; a number that the file does not have changes nothing. -/
def RegFile.set {α : Type} {n : Nat} (r : RegFile α n) (k : Nat) (v : α) : RegFile α n :=
  ⟨r.toList.set k v, by rw [List.length_set]; exact r.size⟩

/-- A file that holds one value in every entry. -/
def RegFile.replicate {α : Type} (n : Nat) (v : α) : RegFile α n :=
  ⟨List.replicate n v, List.length_replicate⟩

/-- The file whose entry `k` is `f k`. -/
def RegFile.ofFn {α : Type} (n : Nat) (f : Nat → α) : RegFile α n :=
  ⟨(List.range n).map f, by rw [List.length_map, List.length_range]⟩

/-- Change every entry. -/
def RegFile.map {α : Type} {n : Nat} (f : α → α) (r : RegFile α n) : RegFile α n :=
  ⟨r.toList.map f, by rw [List.length_map]; exact r.size⟩

/-! ### Sparse stores -/

/-- A sparse map from addresses (or keys) to values. -/
abbrev Sparse (α : Type) := List (Nat × α)

/-- What key `k` holds; `d k` is what an unlisted key reads as. -/
def sGet {α : Type} (d : Nat → α) : Sparse α → Nat → α
  | [], k => d k
  | (j, v) :: r, k => if k = j then v else sGet d r k

/-- Remove a key. -/
def sDel {α : Type} : Sparse α → Nat → Sparse α
  | [], _ => []
  | (j, w) :: r, k => if k = j then sDel r k else (j, w) :: sDel r k

/-- Insert a key that is not listed before the first greater one. -/
def sIns {α : Type} : Sparse α → Nat → α → Sparse α
  | [], k, v => [(k, v)]
  | (j, w) :: r, k, v => if k < j then (k, v) :: (j, w) :: r else (j, w) :: sIns r k v

/-- Insert or replace a record. -/
def sSet {α : Type} (m : Sparse α) (k : Nat) (v : α) : Sparse α := sIns (sDel m k) k v

/-- Writing key `k`: the entry is dropped when the value is what an unlisted key reads as. -/
def sPut {α : Type} [DecidableEq α] (d : Nat → α) (m : Sparse α) (k : Nat) (v : α) : Sparse α :=
  if v = d k then sDel m k else sSet m k v

/-- The canonical form: rising keys from `lo` on, no entry equal to its default. -/
def sWfFrom {α : Type} [DecidableEq α] (d : Nat → α) : Nat → Sparse α → Bool
  | _, [] => true
  | lo, (j, v) :: r => decide (lo ≤ j) && decide (v ≠ d j) && sWfFrom d (j + 1) r

/-- The canonical form of a whole store. -/
def sWf {α : Type} [DecidableEq α] (d : Nat → α) (m : Sparse α) : Bool := sWfFrom d 0 m

/-- An optional entry of a store of records (unlisted: none). -/
def sFind {α : Type} : Sparse α → Nat → Option α
  | [], _ => none
  | (j, v) :: r, k => if k = j then some v else sFind r k

/-- Every memory of the model is a list of (address, byte) pairs. -/
abbrev Memory := List Host.Cell

/-- What a byte of memory that nothing has written reads as: zero (log entry 3, DESIGN CHOICE;
the spec gives SRAM and DRAM no contents after power-on). -/
def memDefault : Nat → Byte := fun _ => 0

/-- The byte at an address. -/
def Memory.byte (m : Memory) (a : Nat) : Byte := sGet memDefault m a

/-- The memory with one byte written. -/
def Memory.setByte (m : Memory) (a : Nat) (b : Byte) : Memory := sPut memDefault m a b

/-- The canonical form of a memory. -/
def Memory.wf (m : Memory) : Bool := sWf memDefault m

/-- `n` bytes from address `a` on. -/
def Memory.read (m : Memory) (a : Nat) : Nat → List Byte
  | 0 => []
  | n + 1 => m.byte a :: Memory.read m (a + 1) n

/-- The memory with a string of bytes written from address `a` on. -/
def Memory.write (m : Memory) (a : Nat) : List Byte → Memory
  | [] => m
  | b :: r => Memory.write (m.setByte a b) (a + 1) r

end Sys2Proof.Machine
end

