-- ==== Sys2Proof/Machine/StCore.lean ====
section
/-! DEFINITION. The plain data of power, boot, faults, the black box and the control protocol:
chapters 15 to 19 of the spec. -/

namespace Sys2Proof.Machine

/-- A link, and whether its FS source has fired for this outage (R87, R256). -/
structure LinkS where
  up : Bool
  /-- When it went down, or, while it has not been up, when the wait for it began. -/
  downSince : Nat
  /-- Up at the start of that wait, or since. -/
  beenUp : Bool
  reported : Bool
deriving DecidableEq, Repr

/-- STATE of a feed status word (R568). -/
inductive FeedState where
  | lostLow | good | lostHigh | unmated
deriving DecidableEq, Repr

/-- A feed status word (R568): VOLTAGE in 10 mV, CURRENT in mA, STATE, CARRYING. -/
structure Feed where
  volt : Nat
  cur : Nat
  state : FeedState
  carrying : Bool
deriving DecidableEq, Repr

/-- module.domain_state (R568). -/
inductive DomainState where
  | off | waking | on | tripped
deriving DecidableEq, Repr

/-- The power stage, the feeds, the domains and the sideband pins (chapter 18). -/
structure PowerS where
  /-- FEED_A, FEED_B (R568). -/
  feeds : RegFile Feed 2
  /-- module.input_power, mW (R568). -/
  inputPower : Nat
  /-- module.temps, seven binary32 values (R568). -/
  temps : RegFile Nat 7
  /-- module.domain_state, PD00 to PD39 (R568, R569). -/
  domains : RegFile DomainState 40
  /-- module.slot_id (R568, R570). -/
  slotId : Nat
  /-- The level of POWER_EN (R566). -/
  powerEn : Bool
  /-- The level of RESET_N (R566). -/
  resetN : Bool
  /-- The power stage delivers its rails (R566). -/
  stageOn : Bool
  /-- POWER_EN has risen and waits for a feed to become GOOD (R566, first row). -/
  startWaiting : Bool
  /-- When POWER_EN last fell (R566: low for at least 500 ms). -/
  powerEnFell : Option Nat
  /-- When the last feed was lost, while the hold-up bus carries the stage (R567). -/
  holdUpSince : Option Nat
  /-- Trips of PD38 since the last reset (R571). -/
  pd38Trips : Nat
  /-- When PD38 first tripped, until the one retry (R571). -/
  pd38TripAt : Option Nat
  /-- The ZCP_FUNC_REINIT that runs: FUNCTION, INSTANCE, and whether its end changes the capacity record
  (R582, R583). -/
  reinit : Option (Nat × Nat × Bool)
  /-- READY is driven (R560). -/
  readyPin : Bool
deriving DecidableEq, Repr

/-- STAGE of module.boot_status (R574). -/
inductive Stage where
  | power | selftest | image | dram | margin | links | services | ready | failed
deriving DecidableEq, Repr

/-- STAGE as coded (R574). -/
def Stage.code : Stage → Nat
  | .power => 0 | .selftest => 1 | .image => 2 | .dram => 3 | .margin => 4 | .links => 5
  | .services => 6 | .ready => 7 | .failed => 15

/-- What a flash slot's image shows under R578: the header fields that a message reports, and
whether header, digest and signature hold. -/
structure Image where
  version : Nat
  security : Nat
  sound : Bool
deriving DecidableEq, Repr

/-- Boot status, flash images and the update trial (chapter 19). -/
structure BootS where
  stage : Stage
  /-- RUNNING: 0 A, 1 B. -/
  running : Nat
  /-- PREFERRED, in flash. -/
  preferred : Nat
  /-- TRIAL: the running image is on trial. -/
  trial : Bool
  /-- The trial flag in flash that ZCP_FW_SET_BOOT sets (R585). -/
  trialFlag : Bool
  fallback : Bool
  aValid : Bool
  bValid : Bool
  core0Ok : Bool
  core1Ok : Bool
  /-- LAST_RESET (R580). -/
  lastReset : Nat
  /-- BOOT_MS. -/
  bootMs : Nat
  /-- When the running boot started (R574), in ticks. -/
  startedAt : Nat
  /-- When the image was started (R579: 10 s). -/
  imageAt : Nat
  /-- When READY was reached (R587: 600 s). -/
  readyAt : Nat
  /-- Images A and B in flash (R578). -/
  images : RegFile (Option Image) 2
  /-- The rollback floor in flash (R578, R579). -/
  floor : Nat
  /-- Bytes of firmware staging in RESERVE (R586). -/
  staging : Memory
  /-- The variant code in the flash identity record (R6). -/
  variant : Nat
deriving DecidableEq, Repr

/-- A black-box record (R536); `time` is tide time in units of 2^-16 ns. -/
structure BBRec where
  kind : Nat
  cls : Nat
  code : Nat
  seq : Nat
  boot : Nat
  time : Nat
  data : List Byte
deriving DecidableEq, Repr

/-- A flash slot of the black box (R540, R541); `none` in the state means erased. -/
structure BBSlot where
  complete : Bool
  cause : Nat
  flushNumber : Nat
  bootCount : Nat
  flushTime : Nat
  sticky : Nat
  classStatus : List Nat
  planId : Nat
  records : List BBRec
deriving DecidableEq, Repr

/-- The state of a class episode (R528). -/
inductive EpState where
  | idle | open | held
deriving DecidableEq, Repr

/-- A class episode (R533). -/
structure Episode where
  state : EpState
  first : Nat
  recoveries : Nat
  /-- When the quiet period ends, in ticks (R530). -/
  quietEnd : Nat
deriving DecidableEq, Repr

/-- Faults, black box and gauges (chapter 17). -/
structure FaultS where
  /-- fault.sticky (R524). -/
  sticky : BitVec 128
  /-- The four class episodes (R528). -/
  episodes : RegFile Episode 4
  /-- Functions stopped by isolating reactions, as FUNCTION and INSTANCE of R582 (R526). -/
  stopped : List (Nat × Nat)
  /-- fault.boot_count, in flash (R575). -/
  bootCount : Nat
  /-- The ring of the last 8,192 records, oldest first (R535). -/
  ring : List BBRec
  /-- The SEQUENCE of the next record, fault.bb_seq (R535). -/
  nextSeq : Nat
  /-- fault.bb_state FROZEN (R539). -/
  frozen : Bool
  /-- The mirror ring in RESERVE, oldest first (R538). -/
  mirror : List BBRec
  /-- Records of the batch that the writer has not copied yet (R538). -/
  batch : List BBRec
  /-- The eight flash record slots (R540). -/
  slots : RegFile (Option BBSlot) 8
  /-- Flushes since manufacture, in flash (R541). -/
  flushes : Nat
  /-- The slot whose erase is running (R540). -/
  erasing : Option Nat
  /-- The FS_BB_FLUSH report, as flash slot numbers, waiting for READY (R552). -/
  flushedOff : List Nat
  /-- fault.gauge words, two per polder (R543), unlisted VALID = 0, MARGIN_MIN = 0x7FF. -/
  gauges : Sparse Nat
  /-- fault.hub_gauge words by register block unit (R543). -/
  hubGauges : Sparse Nat
  /-- When the margin planner last ran for every polder, in ticks (R545). -/
  plannedAt : Nat
  /-- When the events of R87 and the like were last raised, in ticks. -/
  reportedAt : Nat
deriving DecidableEq, Repr

/-- A host endpoint (R479). -/
structure Endpoint where
  v6 : Bool
  ip : Nat
  udp : Nat
deriving DecidableEq, Repr

/-- A ZCP datagram as it arrives: the host port (0 H0, 1 H1), its source, the UDP payload (R469), and
whether it finds 64 messages in its mailbox's queue, as firmware has not come to them (R483). -/
structure Dgram where
  port : Fin 2
  src : Endpoint
  bytes : List Byte
  full : Bool
deriving DecidableEq, Repr

/-- A completion record (R487). -/
structure CompRec where
  seq : Nat
  typ : Nat
  result : Nat
deriving DecidableEq, Repr

/-- A whole reply kept for replay (R487). -/
structure KeptReply where
  seq : Nat
  bytes : List Byte
deriving DecidableEq, Repr

/-- An unsolicited message that has not been acknowledged (R488, R490). -/
structure Unsol where
  seq : Nat
  typ : Nat
  body : List Byte
  raisedAt : Nat
  /-- When it was last sent; none while it waits beyond the 256-message window. -/
  sentAt : Option Nat
  /-- The wait before the next retransmission, in ticks. -/
  wait : Nat
deriving DecidableEq, Repr

/-- The state of a bulk transfer (R498). -/
inductive BulkState where
  | open | done | incomplete | stale | destRefused | aborted | takeover
deriving DecidableEq, Repr

/-- The state's code in ZCP_BULK_STATUS and EV_BULK_END (order of R498). -/
def BulkState.code : BulkState → Nat
  | .open => 0 | .done => 1 | .incomplete => 2 | .stale => 3 | .destRefused => 4 | .aborted => 5
  | .takeover => 6

/-- A bulk transfer (R492, R493). -/
structure Bulk where
  slot : Nat
  id : Nat
  inbound : Bool
  compressed : Bool
  target : Nat
  inst : Nat
  offset : Nat
  length : Nat
  outLength : Nat
  integration : Nat
  /-- The plan record whose channel images the OPEN named (R134). -/
  epoch : Nat
  /-- The SEQUENCE of the OPEN and the port it came in on (R497). -/
  openSeq : Nat
  port : Nat
  state : BulkState
  /-- Byte ranges [lo, hi) of the transfer that have arrived, or been sent, in rising order (R495). -/
  have_ : List (Nat × Nat)
  /-- Data held until a tile range is complete, or until the job starts (R495, R496). -/
  data : Memory
  /-- Bytes applied or sent (R498). -/
  moved : Nat
  /-- When the last host message for it arrived (R497). -/
  lastAt : Nat
  /-- The CLOSEs that wait, oldest first: SEQUENCE and arrival time (R495). -/
  closing : List (Nat × Nat)
  /-- The CLOSE waits for the end of a decompression job (R496). -/
  job : Bool
deriving DecidableEq, Repr

/-- One session slot (R473 to R491). -/
structure Session where
  /-- K_L, in flash; unset until ZCP_KEY_SET (R473). -/
  longKey : Option (List Byte)
  isOpen : Bool
  /-- K_S (R475). -/
  key : List Byte
  /-- The last 16 accepted N_h (R475). -/
  nonces : List (List Byte)
  /-- Times of accepted OPENs within the running second (R475). -/
  opens : List Nat
  /-- PORTS: 0 BOTH, 1 H0, 2 H1 (R475). -/
  ports : Nat
  /-- Bound endpoints on H0 and H1 (R479). -/
  ends : RegFile (Option Endpoint) 2
  /-- The receive point h (R484). -/
  recv : Nat
  /-- Sequences received beyond h (R484, the bitmap). -/
  ahead : List Nat
  /-- Completion records, newest first, at most 1,024 (R487). -/
  comps : List CompRec
  /-- Whole replies, newest first, at most 256 (R487). -/
  replies : List KeptReply
  /-- When a sequence was last answered under R487. -/
  answered : List (Nat × Nat)
  /-- The next unsolicited sequence and the acknowledged point (R488, R489). -/
  nextUnsol : Nat
  ackPoint : Nat
  /-- Unacknowledged unsolicited messages, oldest first (R488). -/
  unsol : List Unsol
  /-- When the last authenticated host message arrived (R476). -/
  lastAt : Nat
  /-- Sequences in doubt after a takeover (R502, R503). -/
  inDoubt : List Nat
  /-- When the last ZCP_TELEMETRY was sent (R491). -/
  telemetryAt : Nat
deriving DecidableEq, Repr

/-- A command that is accepted and whose reply waits (R446, R495, R496): what completes it is named
by `why` and `unit`. -/
structure Waiting where
  slot : Nat
  seq : Nat
  typ : Nat
  why : Nat
  unit : Nat
deriving DecidableEq, Repr

/-- The control protocol and the management cores (chapter 15). -/
structure ZcpS where
  slots : RegFile Session 4
  bulks : List Bulk
  /-- Commands that firmware has taken from the mailbox queues and whose replies wait (R483, R487). -/
  waiting : List Waiting
  /-- Failed authentications since the last report: slot, port, source of the last (R472). -/
  authFail : Option (Nat × Nat × Endpoint)
  /-- The active Sminilo core (R499). -/
  activeCore : Nat
  /-- The standby is resynchronised and can take over (R504). -/
  standbyOk : Bool
  /-- The standby's heartbeat is present (R504). -/
  standbyBeat : Bool
  /-- When the active core last wrote a heartbeat (R502). -/
  heartbeatAt : Nat
  /-- Heartbeats written since power-on (R502). -/
  heartbeats : Nat
  /-- Draws from the random source (R475): the number of the next nonce. -/
  draws : Nat
deriving DecidableEq, Repr

end Sys2Proof.Machine
end

