-- ==== Sys2Proof/Machine/Operands.lean ====
section
/-! DEFINITION. What the outside world brings with a command: the shapes of the operands that are
more than a number. -/

namespace Sys2Proof.Machine

/-- How a feed is lost (R558, R568). -/
inductive LossKind where
  | low | high | unmated
deriving DecidableEq, Repr

/-- What the power-stage controller reports (R565). -/
inductive StageFault where
  | regulation | overcurrent | hotSpot | inputPower
deriving DecidableEq, Repr

/-- A polder's part of a planner run: the physical rows that fail the lane-row test at each step, 0 to 24
(none at a step that is not listed), and the two gauge margins at each step in ps (R544). -/
structure PolderPlan where
  polder : Nat
  fails : List (Nat × List Nat)
  margins : List (Nat × Int × Int)
deriving DecidableEq, Repr

/-- What the silicon shows in a planner run; a polder that is not listed passes its test at every
step with ample margin. -/
abbrev PlannerIn := List PolderPlan

/-- The gauge of GAUGE_ALARM: a polder's, a weir engine's, the zoom engine's or another hub
island's by its register block unit (R543, R545). -/
inductive GaugeAt where
  | polder (p : Fin 168) (k : Fin 2)
  | weir (e : Fin 8)
  | zoom
  | hub (unit : Nat)
deriving DecidableEq, Repr

/-- What the outside and the silicon show during a boot (R575 to R579, R581): which cores pass
self-test, how long after its start the timing subsystem starts (in ms), which images reach READY within
10 s, how each stack trains (the bin it passes at and
its channels that fail), the planner's tests, the links that are up by READY, the strap pins, the
duration, and whether another stage could not complete. -/
structure BootIn where
  core0 : Bool
  core1 : Bool
  timingMs : Nat
  readyA : Bool
  readyB : Bool
  stackBins : List (Option Nat)
  badChannels : List Nat
  planner : PlannerIn
  linksUp : List Nat
  hostUp : List Bool
  slotId : Nat
  ms : Nat
  stageFails : Bool
deriving DecidableEq, Repr

/-- The readings that the sensors hold at the end of a second (R543, R568): feed voltages in
10 mV and currents in mA, input power in mW, seven temperatures as binary32, gauge margins in ps. -/
structure Sensors where
  feeds : List (Nat × Nat)
  power : Nat
  temps : List Nat
  gauges : List (Nat × Int × Int)
  hub : List (Nat × Int)
deriving DecidableEq, Repr

/-- Why the standby takes over (R502). -/
inductive TakeoverCause where
  | missed | sram | reaction
deriving DecidableEq, Repr

/-- A PTP message as it arrives: whether its FCS is good, the transport (0 UDP/IPv4, 1 UDP/IPv6,
2 Ethernet), the UDP checksum field, the raw receive time-stamp before R366's constants, the length of
its frame from destination address to FCS, the FEC codewords that were corrected and that were
uncorrectable on the port since the frame before it (R86; log entry 117), and the message from its first
octet. -/
structure PtpIn where
  fcsOk : Bool
  transport : Fin 3
  udpSum : Nat
  raw : Nat
  len : Nat
  fecCorr : Nat
  fecUncorr : Nat
  bytes : List Byte
deriving DecidableEq, Repr

/-- An Ethernet frame as it arrives on a port: whether its FCS is good, the bytes from destination
address to payload without the FCS, the raw receive time-stamp before R366's constants, and the
FEC codewords that were corrected and that were uncorrectable on the port since the frame before it
(R86; log entry 117). -/
structure EthIn where
  fcsOk : Bool
  bytes : List Byte
  raw : Nat
  fecCorr : Nat
  fecUncorr : Nat
deriving DecidableEq, Repr

/-- Where the module sends a PTP message (R370, R373): the transport as timing.ptp_transport codes it
(0 UDP/IPv4, 1 UDP/IPv6, 2 Ethernet), the destination address in it, and the destination UDP port. -/
structure PtpTo where
  transport : Nat
  dst : Nat
  udp : Nat
deriving DecidableEq, Repr

/-- The hardware causes that REF_SIGNAL_LOSS reports (R396, R400). -/
inductive LossCause where
  | signal | pps | tod | ptp | esmc | link
deriving DecidableEq, Repr

/-- CAUSE as coded (R400). -/
def LossCause.code : LossCause → Nat
  | .signal => 1 | .pps => 2 | .tod => 3 | .ptp => 4 | .esmc => 5 | .link => 8

/-- What a read finds (R84, R165, R311): what holds an uncorrectable error, and how many errors were
corrected. A reader's pass over a culvert slot names sub-blocks, by path × S + sub-block; a canal piece
names beats. -/
structure CulvertIn where
  bad : List Nat
  corrected : Nat
deriving DecidableEq, Repr

/-- What the stock weight kernel holds for a beam and path (R183): the binary32 amplitude, and the binary64
coefficients of the delay and the phase polynomials, lowest degree first. -/
structure Steer where
  amp : Nat
  delay : List Nat
  phase : List Nat
deriving DecidableEq, Repr

/-- The SRAM error that a sluice fetch or access meets (R311). -/
inductive Ecc where
  | none | corrected | uncorrectable
deriving DecidableEq, Repr

/-- What a move of a sluice mover meets (R311, R348, R464): beats with an uncorrectable word and pieces
without a response within 1 ms, each numbered from the start of the move; culvert errors corrected;
what the core's data SRAM shows. -/
structure MoveIn where
  bad : List Nat
  silent : List Nat
  corrected : Nat
  ecc : Ecc
deriving DecidableEq, Repr

/-- MOVER_DESC_DONE (R348): the cluster whose mover ends a descriptor, and what the move meets. -/
structure MoverIn where
  cluster : Fin 8
  move : MoveIn
deriving DecidableEq, Repr

/-- What TAP_RECORD meets (R84, R351): an uncorrectable culvert error, the corrected errors, and, of a core
in STOCK, a ring without room. -/
structure TapIn where
  bad : Bool
  corrected : Nat
  full : Bool
deriving DecidableEq, Repr

/-- ZCP_BB_FLUSH (R540): the datagram, and whether the flash takes the program. -/
structure FlushIn where
  cmd : Dgram
  flash : Bool
deriving DecidableEq, Repr

/-- BB_SLOT_ERASE_DONE (R540): the instant, and whether the flash was erased. -/
structure EraseIn where
  time : Nat
  flash : Bool
deriving DecidableEq, Repr

/-- ZCP_FW_INSTALL (R586): the slot (log entry 13), and whether the flash takes the program. -/
structure InstallIn where
  slot : Nat
  flash : Bool
deriving DecidableEq, Repr

/-- What a codeword request does: a read, a write of the whole codeword, or a write of part of it
(R434, R435). -/
inductive ReqKind where
  | read | write | merge
deriving DecidableEq, Repr

/-- A register that the register blocks hold (R464, R381, R522): the one behind an element of a
parameter, a counter, a master's ERR_ADDR, a port's time-stamp queue status, a register of a sluice
core by the key under which the core holds it. -/
inductive Reg where
  | item (i : Item) (inst elem : Nat)
  | ctr (c : Ctr) (inst : Nat)
  | errAddr (master : Nat)
  | txts (port : Nat)
  | core (n k : Nat)
deriving DecidableEq, Repr

/-- Where a tile operation comes from: a slot of a stack controller's tile access window, or the drain
engine's next one on a stream of an area (R144, R149, R241). -/
inductive TileFrom where
  | window (stack : Fin 8) (slot : Fin 2048)
  | drain (area : Fin 2) (stream : Nat)
deriving DecidableEq, Repr

end Sys2Proof.Machine
end

