-- ==== Sys2Proof/Syntax.lean ====
section
/-! DEFINITION. The commands of the module: one constructor per row of the opcode table. `t` is the
timing-clock instant, in units of 2^-16 ns from power-on, at which the command comes about; the
other operands are what the outside world brings with it. -/

namespace Sys2Proof

open Machine

/-- A command: an operation a host sends, an event on a pin or a bus, an internal event of the
module, or one sluice instruction. -/
inductive Instr where
  /-- POWER_EN_RISE (R566): POWER_EN rises with a feed GOOD: the power stage starts and becomes ready within 12 ms while the logic is held in reset. -/
  | powerEnRise (t : Nat)
  /-- POWER_EN_FALL (R566): POWER_EN falls: the power stage switches off within 1 ms, after waiting for any running black-box flush, and SRAM and the DRAM mirror are lost. -/
  | powerEnFall (t : Nat)
  /-- RESET_N_ASSERT (R566): RESET_N is held low for at least 10 us while powered: the module is held in reset and its pins take their reset states. -/
  | resetNAssert (t : Nat)
  /-- RESET_N_DEASSERT (R575): RESET_N rises with POWER_EN high and a feed GOOD: the power-on boot sequence runs to READY. -/
  | resetNDeassert (t : Nat) (b : BootIn)
  /-- FEED_QUALIFIED (R558): A feed has stayed in range with its sense contact mated for 100 ms (1 ms during hold-up), becomes GOOD and its ORing switch conducts. -/
  | feedQualified (t : Nat) (feed : Fin 2) (volt : Nat)
  /-- FEED_LOSS (R567): A GOOD feed leaves its range for 20 us or its sense contact opens: FS_FEED_LOSS fires, or FS_FEED_BOTH and a module stop when no feed remains. -/
  | feedLoss (t : Nat) (which : Fin 3) (kind : LossKind) (volt : Nat)
  /-- POWER_STAGE_REPORT_TIMEOUT (R565): No valid power-stage report has arrived for 10 ms, so FS_POWER_STAGE fires. -/
  | powerStageReportTimeout (t : Nat)
  /-- POWER_STAGE_FAULT_REPORT (R565): The power-stage controller reports loss of regulation, overcurrent, a hot spot above 125 C or input power above 850 W, so FS_POWER_STAGE fires. -/
  | powerStageFaultReport (t : Nat) (kind : StageFault)
  /-- DOMAIN_TRIP (R571): A power domain exceeds 125% of its maximum current for 5 us or fails to regulate: it becomes TRIPPED and FS_DOMAIN fires with that domain's reaction. -/
  | domainTrip (t : Nat) (pd : Fin 40)
  /-- PD38_RETRY (R571): 1 s after the first trip of PD38, the module switches that domain on again once. -/
  | pd38Retry (t : Nat)
  /-- TEMP_THRESHOLD (R572): A die crosses its warning (100 C) or critical (115 C) temperature, so FS_TEMP_WARN or FS_TEMP_CRIT fires. -/
  | tempThreshold (t : Nat) (die : Fin 5) (crit : Bool) (temp : Nat)
  /-- DRAM_STACK_TEMP (R437): A stack crosses 85 C, which changes tREFI, or 95 C, which sets FS_DRAM_TEMP. -/
  | dramStackTemp (t : Nat) (stack : Fin 8) (temp : Int)
  /-- MGMT_WATCHDOG_EXPIRY (R527): The always-on watchdog sees no heartbeat from either Sminilo core for 100 ms, so FS_MGMT_BOTH fires. -/
  | mgmtWatchdogExpiry (t : Nat)
  /-- F_FRAME_RECEIVE (R61): A frame arrives on an ingress port and passes the fifteen checks in order, then goes to culvert or corner-turn admission. -/
  | fFrameReceive (t : Nat) (port : Fin 128) (f : EthIn)
  /-- ARP_REQUEST (R51): An ingress port answers an ARP request for its configured address. -/
  | arpRequest (t : Nat) (port : Fin 128) (f : EthIn)
  /-- NEIGHBOUR_SOLICITATION (R51): An ingress port answers an IPv6 neighbour solicitation for its configured address. -/
  | neighbourSolicitation (t : Nat) (port : Fin 128) (f : EthIn)
  /-- BLOCK_DEADLINE (R72): A block reaches its open time + A + ingress.close_wait and closes incomplete or empty. -/
  | blockDeadline (t : Nat) (die : Fin 4) (slot : Fin 16)
  /-- CORNER_TURN_CLOSE_WAIT (R67): ingress.close_wait has passed since the first frame of chunk k + 1, so chunk k of the corner-turn buffer closes. -/
  | cornerTurnCloseWait (t : Nat) (chunk : Nat)
  /-- CORNER_TURN_MOVE (R64): A closed corner-turn block is moved into a culvert slot; its zoom copy is taken and the block closes. -/
  | cornerTurnMove (t : Nat)
  /-- INGRESS_LINK_CHANGE (R87): A logical ingress port's link changes state, which raises EV_INGRESS_LINK and counts LINK_DOWN. -/
  | ingressLinkChange (t : Nat) (port : Fin 128) (up : Bool)
  /-- INGRESS_LINK_DOWN_TIMEOUT (R87): An in-service ingress link stays down for 1 s, or fails to come up within 2 s of commit, so FS_INGRESS_LINK fires. -/
  | ingressLinkDownTimeout (t : Nat) (port : Fin 128)
  /-- BLOCK_START (R114): The next block of a die is CLOSED and first in order and every ring has finished the previous one: the rings and weir engines start it. -/
  | blockStart (t : Nat) (die : Fin 4) (weir0 weir1 : CulvertIn)
  /-- ACCUMULATOR_SWAP (R99): The swap marker reaches the accumulate stage with the shadow set released, and all lanes exchange their active and shadow pairs. -/
  | accumulatorSwap (t : Nat) (polder : Fin 168) (bad : List Nat) (corrected : Nat) (faults : List (Nat × Int × Int))
  /-- SHADOW_SET_TAKE (R128): The collector takes a ready shadow set in ring-pointer order and applies the guard, mirror, reflection and deficit handling. -/
  | shadowSetTake (t : Nat) (die : Fin 4)
  /-- LANE_ROW_TEST (R111): A pending lane-row test runs in an empty polder slot and retires any physical rows that fail. -/
  | laneRowTest (t : Nat) (polder : Fin 168) (fails : List Nat)
  /-- LANE_ROW_TEST_TIMEOUT (R111): No empty slot has occurred within 1 s, so the test runs at the next block boundary of the die and delays that block. -/
  | laneRowTestTimeout (t : Nat) (polder : Fin 168)
  /-- POLDER_RETIRE (R122): At the next block boundary a polder is retired, the schedule is rebuilt, and the ring's spare is woken if one remains. -/
  | polderRetire (t : Nat) (polder : Fin 168)
  /-- SPARE_POLDER_ACTIVE (R122): A woken spare polder passes its test and becomes active, and EV_POLDER_SPARED is raised. -/
  | sparePolderActive (t : Nat) (polder : Fin 168) (fails : List Nat)
  /-- POLDER_CHANGE_APPLY (R108): A new row map, role or clock of a polder takes effect at a block boundary of its die. -/
  | polderChangeApply (t : Nat) (polder : Fin 168)
  /-- PROMOTE (R144): The tile keeper applies one chunk of one tile to totals, ledger and berm under R139-R142. -/
  | promote (t : Nat) (die : Fin 4)
  /-- LEDGER_ONLY (R144): The tile keeper accounts a dropped, skipped or shed chunk in the ledger and leaves totals unchanged. -/
  | ledgerOnly (t : Nat) (area : Fin 2) (chan : Nat)
  /-- TILE_READ (R150): A READ tile operation copies elements, the status record and the ledger record out, or returns STALE. -/
  | tileRead (t : Nat) (f : TileFrom)
  /-- TILE_WRITE (R150): A WRITE tile operation replaces elements or first-touches the tile, according to the tile's state. -/
  | tileWrite (t : Nat) (k : Fin 8) (n : Fin 2048)
  /-- TILE_STATUS (R144): A STATUS tile operation copies the status record and the ledger record out. -/
  | tileStatus (t : Nat) (f : TileFrom)
  /-- TILE_RESET (R151): A RESET tile operation makes the tile fresh and frees its berm entry. -/
  | tileReset (t : Nat) (k : Fin 8) (n : Fin 2048)
  /-- SEAL_WAIT_EXPIRY (R153): corr.seal_wait passes with chunks still unaccounted: LEDGER_ONLY is issued for them and the integration is sealed. -/
  | sealWaitExpiry (t : Nat) (area region : Fin 2)
  /-- SNAPSHOT_CHANNEL_COPY (R156): A channel's chunk is accounted for and the snapshot buffer has room, so the channel's tiles are read into the snapshot buffer. -/
  | snapshotChannelCopy (t : Nat)
  /-- SLOT_RELEASE (R166): The collector and both weir engines have finished a block, so its culvert slot is released. -/
  | slotRelease (t : Nat) (die : Fin 4)
  /-- WEIR_BLOCK_DONE (R191): A weir engine has written the last beam output of a block to its output buffers. -/
  | weirBlockDone (t : Nat) (engine : Fin 8)
  /-- BANK_RELEASE (R180): Every block up to the chunk holding sample E - 1 is done, so the DRAINING bank becomes FREE. -/
  | bankRelease (t : Nat)
  /-- AUTO_EPOCH_FILL (R184): With weir.auto_epoch set, the weight kernel fills the FREE bank for the next epoch and arms it, or skips the epoch and raises EV_WEIGHT_LATE. -/
  | autoEpochFill (t : Nat) (ref : Nat) (steer : List (Nat × Steer))
  /-- ZOOM_SOURCE_PROCESS (R202): The zoom engine streams a closed source block through every window's NCO and half-band chain. -/
  | zoomSourceProcess (t : Nat) (chan upto : Nat) (bad : List Nat)
  /-- ZOOM_BLOCK_DELIVER (R210): The target die holds no zoom block and has a FREE slot, so the waiting zoom block is written into it. -/
  | zoomBlockDeliver (t : Nat) (window : Fin 32)
  /-- GATE_ASSERT (R223): A gate-mode tide output asserts at END_TIDE_TIME plus zoom.gate_delay. -/
  | gateAssert (t : Nat) (out : Fin 8)
  /-- GATE_DEASSERT (R223): A gate-mode tide output deasserts at the last leaving record's time plus the gate delay and hold. -/
  | gateDeassert (t : Nat) (out : Fin 8)
  /-- PACKET_SEND (R252): The paced port scheduler sends the next due product packet, or discards it when the link or destination is absent. -/
  | packetSend (t : Nat) (stream : Nat)
  /-- EVENTS_PACKET_TIMEOUT (R249): 1 ms after its first record, an EVENTS packet is sent even though it holds fewer than 256 records. -/
  | eventsPacketTimeout (t : Nat)
  /-- TELEMETRY_PERIOD (R250): egress.telemetry_period expires, so the listed parameters are latched and sent on the TELEMETRY stream. -/
  | telemetryPeriod (t : Nat)
  /-- HOST_LINK_CHANGE (R256): H0 or H1 changes link state, which raises EV_EGRESS_LINK; packets due on a down port are discarded. -/
  | hostLinkChange (t : Nat) (port : Fin 2) (up : Bool)
  /-- HOST_LINK_TIMEOUT (R256): A host link stays down for 1 s, or fails to come up within 2 s, so FS_HOST_LINK fires. -/
  | hostLinkTimeout (t : Nat) (port : Fin 2)
  /-- HOST_FLOWCTL_FRAME (R230): A host port receives a PAUSE or priority flow-control frame and discards and counts it. -/
  | hostFlowctlFrame (t : Nat) (port : Fin 2)
  /-- COMPRESS_UNIT_ASSIGN (R266): A ready unit goes to the lowest-numbered idle compressor. -/
  | compressUnitAssign (t : Nat)
  /-- COMPRESS_UNIT_DONE (R266): A compressor finishes the last block of its unit and its output enters the stream's spillway chain. -/
  | compressUnitDone (t : Nat) (comp : Fin 16)
  /-- DECOMP_JOB_START (R273): A job reaches the head of the decompressor queue and is checked, then refused or started. -/
  | decompJobStart (t : Nat)
  /-- DECOMP_JOB_END (R274): A running decompression job ends with DONE or an error result, and EV_DECOMP_DONE is raised. -/
  | decompJobEnd (t : Nat)
  /-- COMMIT_POINT (R306): At the tide time of s_c less 20 ms, the PLAN_ID is assigned, schedules are built and the needed domains are switched on. -/
  | commitPoint (t : Nat)
  /-- COMMIT_BOUNDARY (R305): At sample counter s_c, frames pass to the new plan, zoom windows restart and dies move on to new-plan blocks. -/
  | commitBoundary (t : Nat)
  /-- SHED_TAKE_EFFECT (R308): A readmission shed takes effect at the first main integration boundary at least 20 ms away. -/
  | shedTakeEffect (t : Nat)
  /-- MPY (R322): Sluice MAC-class op: Ad gets the product. -/
  | mpy (core : Fin 64) (ecc : Ecc)
  /-- MAC (R322): Sluice op: Ad gets Ad plus the product. -/
  | mac (core : Fin 64) (ecc : Ecc)
  /-- MSU (R322): Sluice op: Ad gets Ad minus the product. -/
  | msu (core : Fin 64) (ecc : Ecc)
  /-- MPYSU (R322): Sluice op: Ad gets the product, with Dy taken as unsigned. -/
  | mpysu (core : Fin 64) (ecc : Ecc)
  /-- MACSU (R322): Sluice op: Ad gets Ad plus the product, with Dy taken as unsigned. -/
  | macsu (core : Fin 64) (ecc : Ecc)
  /-- ADD (R322): Sluice ALU op: Dd gets Ds1 + Ds2. -/
  | add (core : Fin 64) (ecc : Ecc)
  /-- SUB (R322): Sluice ALU op: Dd gets Ds1 - Ds2. -/
  | sub (core : Fin 64) (ecc : Ecc)
  /-- AND (R322): Sluice ALU op: bitwise AND. -/
  | and (core : Fin 64) (ecc : Ecc)
  /-- OR (R322): Sluice ALU op: bitwise OR. -/
  | or (core : Fin 64) (ecc : Ecc)
  /-- XOR (R322): Sluice ALU op: bitwise XOR. -/
  | xor (core : Fin 64) (ecc : Ecc)
  /-- SHL (R322): Sluice ALU op: shift left. -/
  | shl (core : Fin 64) (ecc : Ecc)
  /-- SHRA (R322): Sluice ALU op: arithmetic shift right. -/
  | shra (core : Fin 64) (ecc : Ecc)
  /-- SHRL (R322): Sluice ALU op: logical shift right. -/
  | shrl (core : Fin 64) (ecc : Ecc)
  /-- ABS (R322): Sluice ALU op: absolute value. -/
  | abs (core : Fin 64) (ecc : Ecc)
  /-- NEG (R322): Sluice ALU op: negation. -/
  | neg (core : Fin 64) (ecc : Ecc)
  /-- MIN (R322): Sluice ALU op: minimum. -/
  | min (core : Fin 64) (ecc : Ecc)
  /-- MAX (R322): Sluice ALU op: maximum. -/
  | max (core : Fin 64) (ecc : Ecc)
  /-- MOV (R322): Sluice ALU op: Dd gets Ds1. -/
  | mov (core : Fin 64) (ecc : Ecc)
  /-- CMPLT (R322): Sluice ALU op: Dd gets 1 when Ds1 < Ds2, otherwise 0. -/
  | cmplt (core : Fin 64) (ecc : Ecc)
  /-- CMPEQ (R322): Sluice ALU op: Dd gets 1 when Ds1 = Ds2, otherwise 0. -/
  | cmpeq (core : Fin 64) (ecc : Ecc)
  /-- ADDA (R322): Sluice ACC op: Ad gets Ad + As. -/
  | adda (core : Fin 64) (ecc : Ecc)
  /-- SUBA (R322): Sluice ACC op: Ad gets Ad - As. -/
  | suba (core : Fin 64) (ecc : Ecc)
  /-- SHLA (R322): Sluice ACC op: Ad gets As shifted left by SH. -/
  | shla (core : Fin 64) (ecc : Ecc)
  /-- SHRA_ACC (R322): Sluice ACC op 3: Ad gets As arithmetically shifted right by SH. -/
  | shraAcc (core : Fin 64) (ecc : Ecc)
  /-- CLRA (R322): Sluice ACC op: Ad gets 0. -/
  | clra (core : Fin 64) (ecc : Ecc)
  /-- EXT (R322): Sluice ACC op: extracts a shifted, optionally rounded accumulator into Dd or a pair. -/
  | ext (core : Fin 64) (ecc : Ecc)
  /-- MOVA (R322): Sluice ACC op: Ad gets As. -/
  | mova (core : Fin 64) (ecc : Ecc)
  /-- INSA (R322): Sluice ACC op: Ad gets Dd or a pair, sign-extended. -/
  | insa (core : Fin 64) (ecc : Ecc)
  /-- NOP (R322): Sluice CTRL op: no operation. -/
  | nop (core : Fin 64) (ecc : Ecc)
  /-- BR (R322): Sluice conditional relative branch. -/
  | br (core : Fin 64) (ecc : Ecc)
  /-- CALL (R322): Sluice call: LR gets the return address, then branch. -/
  | call (core : Fin 64) (ecc : Ecc)
  /-- RET (R322): Sluice return: branch to LR. -/
  | ret (core : Fin 64) (ecc : Ecc)
  /-- LOOP (R335): Sluice op that sets LS, LE and LC for a zero-overhead loop, or traps if a loop is already active. -/
  | loop (core : Fin 64) (ecc : Ecc)
  /-- RETI (R341): Return from the interrupt handler: the banks swap back and issue resumes at IPC. -/
  | reti (core : Fin 64) (ecc : Ecc)
  /-- WAIT (R342): Stops issue until an interrupt is recognised. -/
  | wait (core : Fin 64) (ecc : Ecc)
  /-- HALT (R344): The core enters HALTED. -/
  | halt (core : Fin 64) (ecc : Ecc)
  /-- EI (R322): Sets SW.IE. -/
  | ei (core : Fin 64) (ecc : Ecc)
  /-- DI (R322): Clears SW.IE. -/
  | di (core : Fin 64) (ecc : Ecc)
  /-- ADDPI (R322): Pn gets Pn plus the sign-extended IMM. -/
  | addpi (core : Fin 64) (ecc : Ecc)
  /-- ADDPP (R322): Pn gets Pn + Pm. -/
  | addpp (core : Fin 64) (ecc : Ecc)
  /-- SUBPP (R322): Pn gets Pn - Pm. -/
  | subpp (core : Fin 64) (ecc : Ecc)
  /-- MOVPI (R322): Pn gets IMM x 4, zero-extended. -/
  | movpi (core : Fin 64) (ecc : Ecc)
  /-- MOVPP (R322): Pn gets Pm. -/
  | movpp (core : Fin 64) (ecc : Ecc)
  /-- MOVDP (R322): Pn gets the D pair. -/
  | movdp (core : Fin 64) (ecc : Ecc)
  /-- MOVPD (R322): The D pair gets Pn. -/
  | movpd (core : Fin 64) (ecc : Ecc)
  /-- MOVDC (R322): Control register CR gets the D pair, with that register's own side effects. -/
  | movdc (core : Fin 64) (ecc : Ecc)
  /-- MOVCD (R322): The D pair gets control register CR. -/
  | movcd (core : Fin 64) (ecc : Ecc)
  /-- MOVAD (R322): The D pair gets bits [31:0] of an accumulator. -/
  | movad (core : Fin 64) (ecc : Ecc)
  /-- MOVGD (R322): Dd gets the sign-extended guard bits of an accumulator. -/
  | movgd (core : Fin 64) (ecc : Ecc)
  /-- MOVI32 (R322): The D pair gets a 32-bit immediate. -/
  | movi32 (core : Fin 64) (ecc : Ecc)
  /-- MOVIP (R322): Pn gets a 32-bit immediate. -/
  | movip (core : Fin 64) (ecc : Ecc)
  /-- MOVICR (R322): Control register CR gets a 32-bit immediate. -/
  | movicr (core : Fin 64) (ecc : Ecc)
  /-- JMP (R322): Absolute jump to a word address. -/
  | jmp (core : Fin 64) (ecc : Ecc)
  /-- LOAD (R324): Loads 16 or 32 bits, or an accumulator, from data SRAM with the addressing mode of AM. -/
  | load (core : Fin 64) (ecc : Ecc)
  /-- STORE (R324): Stores 16 or 32 bits to data SRAM with the addressing mode of AM. -/
  | store (core : Fin 64) (ecc : Ecc)
  /-- FTAP (R333): One FIR tap: multiply-accumulates the coefficient and sample, shifts the delay line and post-modifies both pointers. -/
  | ftap (core : Fin 64) (ecc : Ecc)
  /-- IMM (R321): IMM-class op: Dd gets a 16-bit immediate. -/
  | imm (core : Fin 64) (ecc : Ecc)
  /-- INTERRUPT_ENTRY (R339): An enabled pending interrupt is recognised at an interruptible boundary: the banks swap and the handler starts at word 8. -/
  | interruptEntry (t : Nat) (core : Fin 64) (waited : Nat)
  /-- TIMER_MATCH (R317): CYCLE_LO equals TIMER_CMP, so TIMER is set pending. -/
  | timerMatch (t : Nat) (core : Fin 64)
  /-- CYCLE_LO_READ (R317): A read of CYCLE_LO latches CYCLE_HI. -/
  | cycleLoRead (t : Nat) (core : Fin 64)
  /-- PEER_RAISE (R317): A write of PEER_RAISE sets PEER pending on core k of the same cluster. -/
  | peerRaise (t : Nat) (core : Fin 64) (k : Fin 8)
  /-- MOVER_SUBMIT (R347): A write of a descriptor address to MOVER_SUBMIT queues a mover descriptor, or is ignored when MOVER_FREE is 0. -/
  | moverSubmit (t : Nat) (core : Fin 64) (addr : Nat)
  /-- MOVER_DESC_DONE (R348): The cluster mover completes a descriptor, writes RESULT and sets DESC_DONE pending. -/
  | moverDescDone (t : Nat) (r : MoverIn)
  /-- TAP_CTL_WRITE (R349): A write of TAP_CTL configures the tap, and setting ENABLE clears TAP_WR and TAP_RD. -/
  | tapCtlWrite (t : Nat) (core : Fin 64) (value : Nat)
  /-- TAP_RECORD (R351): The tap reads a tapped sub-block of a closed block into the ring, or counts it missed or overrun. -/
  | tapRecord (t : Nat) (core : Fin 64) (r : TapIn)
  /-- CORE_STOP_FORCED (R346): No interruptible boundary has occurred within 1 ms of a stop request, so the core stops at the next bundle boundary. -/
  | coreStopForced (t : Nat) (core : Fin 64)
  /-- STOCK_CORE_RELOAD (R359): Firmware reloads and restarts a trapped STOCK core once, or leaves it TRAPPED on a second trap within 60 s. -/
  | stockCoreReload (t : Nat) (core : Fin 64)
  /-- PTP_SYNC_TX (R373): Each logSyncInterval, a time transmitter port sends a two-step Sync and then a Follow_Up. -/
  | ptpSyncTx (t : Nat) (port : Fin 128) (raw : Nat)
  /-- PTP_ANNOUNCE_TX (R373): Each logAnnounceInterval, a time transmitter port sends an Announce. -/
  | ptpAnnounceTx (t : Nat) (port : Fin 128)
  /-- PTP_DELAY_REQ_RX (R373): A transmitter port answers a Delay_Req within its rate limit. -/
  | ptpDelayReqRx (t : Nat) (port : Fin 128) (m : PtpIn)
  /-- PTP_PDELAY_REQ_RX (R370): A port answers a Pdelay_Req with a two-step Pdelay_Resp and Pdelay_Resp_Follow_Up. -/
  | ptpPdelayReqRx (t : Nat) (port : Fin 130) (m : PtpIn) (raw : Nat)
  /-- PTP_ANNOUNCE_RX (R374): An Announce arrives: a host port runs transmitter selection, and an ingress port discards it. -/
  | ptpAnnounceRx (t : Nat) (port : Fin 130) (m : PtpIn)
  /-- PTP_SYNC_RX (R374): A host port takes a Sync from its selected time transmitter for its offset measurement. -/
  | ptpSyncRx (t : Nat) (port : Fin 2) (m : PtpIn)
  /-- PTP_FOLLOW_UP_RX (R374): A host port takes a Follow_Up that completes a two-step Sync. -/
  | ptpFollowUpRx (t : Nat) (port : Fin 2) (m : PtpIn)
  /-- PTP_DELAY_REQ_TX (R374): A host time receiver port sends a Delay_Req or Pdelay_Req to measure path delay. -/
  | ptpDelayReqTx (t : Nat) (port : Fin 2) (raw : Nat)
  /-- PTP_DELAY_RESP_RX (R374): A host port takes a Delay_Resp or Pdelay_Resp and updates its path delay. -/
  | ptpDelayRespRx (t : Nat) (port : Fin 2) (m : PtpIn)
  /-- ANNOUNCE_TIMEOUT (R375): No Announce has arrived from the selected transmitter for announceReceiptTimeout intervals, so it is lost. -/
  | announceTimeout (t : Nat) (port : Fin 2)
  /-- SYNC_TIMEOUT (R375): No complete Sync has arrived for timing.ptp_sync_timeout periods, so the transmitter is lost. -/
  | syncTimeout (t : Nat) (port : Fin 2)
  /-- TC_FORWARD (R377): The transparent clock forwards a PTP message from one host port to the other and corrects its correctionField. -/
  | tcForward (t : Nat) (port : Fin 2) (m : PtpIn) (txRaw : Nat)
  /-- PULSE_EDGE (R385): A PULSE program edge falls due and the output asserts. -/
  | pulseEdge (t : Nat) (out : Fin 9)
  /-- PULSE_DEASSERT (R385): An asserted pulse reaches its width and the output deasserts. -/
  | pulseDeassert (t : Nat) (out : Fin 9)
  /-- TIDE_MARK (R387): A MARK-mode output asserts at an integration boundary plus its offset. -/
  | tideMark (t : Nat) (out : Fin 8)
  /-- EDGE_CAPTURE (R390): An edge on a timing input is captured into a record and delivered as EV_EDGE. -/
  | edgeCapture (t : Nat) (input : Fin 2) (falling : Bool)
  /-- PPS_EDGE (R396): A PPS edge arrives on REF_A or REF_B and is checked against the 10 MHz count. -/
  | ppsEdge (t : Nat) (ref : Fin 2) (present10M : Bool) (deviation : Int)
  /-- TOD_SENTENCE (R397): A ToD sentence is received and validated, which updates the reference's quality level. -/
  | todSentence (t : Nat) (ref : Fin 2) (text : List Byte) (started : Nat)
  /-- REF_SIGNAL_LOSS (R396): A hardware cause (10 MHz missing, PPS missing, ToD timeout, link down) invalidates a reference within 1 ms. -/
  | refSignalLoss (t : Nat) (ref : Fin 6) (cause : LossCause)
  /-- ESMC_PDU_RX (R398): An ESMC PDU arrives on a host port and sets the SyncE quality level. -/
  | esmcPduRx (t : Nat) (port : Fin 2) (ssm : Fin 16)
  /-- REF_FREQ_MEASURE (R396): The 1 s frequency measurement of a reference against the holdover estimate completes and may invalidate it with CAUSE FREQ. -/
  | refFreqMeasure (t : Nat) (ref : Fin 6) (freq : Int)
  /-- QUALIFY_TIME_EXPIRY (R399): A QUALIFYING or RESTORING reference completes its wait and becomes SELECTABLE. -/
  | qualifyTimeExpiry (t : Nat) (ref : Fin 6)
  /-- DISAGREE_WINDOW (R407): A disagreement measurement window completes, and equal-rank references become SUSPECT or recover. -/
  | disagreeWindow (t : Nat) (freqs : List Int) (estimate : Int)
  /-- SELECTION_EVALUATION (R402): Selection is evaluated, within 10 ms of a change and each second, and a switch may begin. -/
  | selectionEvaluation (t : Nat)
  /-- SWITCH_COMMIT (R408): The switch window W ends: the offset is absorbed or stepped and the candidate becomes the selected reference. -/
  | switchCommit (t : Nat) (offset : Int)
  /-- DPLL_LOCK (R417): Phase error has stayed below 100 ns for 10 s, so the DPLL moves to its lock bandwidth and LOCKED. -/
  | dpllLock (t : Nat)
  /-- HOLDOVER_EXPIRY (R418): timing.holdover_spec passes in HOLDOVER, so the state becomes HOLDOVER_EXPIRED and FS_HOLDOVER_EXPIRED fires. -/
  | holdoverExpiry (t : Nat)
  /-- REALIGN_DUE (R413): Tide time reaches the scheduled second S, so tide time steps by -D or the realignment is cancelled. -/
  | realignDue (t : Nat)
  /-- DRAM_REQUEST (R434): A codeword request is served on a channel and ends CLEAN, CORRECTED, POISON or UNCORRECTABLE. -/
  | dramRequest (t : Nat) (port : Fin 7) (chan : Fin 128) (codeword : Fin 16777216) (kind : ReqKind) (flips : List (Fin 68 × Byte)) (inner waited : Nat)
  /-- REFRESH_DUE (R437): A rank's tREFI refresh falls due and is issued, postponed, or issued as a forced burst. -/
  | refreshDue (t : Nat) (chan : Fin 128) (pc : Fin 2) (sid : Fin 4) (busy : Bool)
  /-- POWER_DOWN_ENTRY (R439): A rank has been idle for mem.pd_timer and enters power-down. -/
  | powerDownEntry (t : Nat) (chan : Fin 128) (pc : Fin 2) (sid : Fin 4)
  /-- PAGE_IDLE_CLOSE (R436): On the FZ4096-A4, an open row is closed after mem.page_idle without an access. -/
  | pageIdleClose (t : Nat) (chan : Fin 128) (pc : Fin 2) (sid : Fin 4) (bank : Fin 16)
  /-- RETRAIN_CORR_RATE (R444): OUTER_CORR advances by more than mem.retrain_corr in one second, so a retraining is queued. -/
  | retrainCorrRate (t : Nat) (chan : Fin 128)
  /-- RETRAIN_TEMP_DRIFT (R444): The stack temperature has moved more than 10 K since the last training, so a retraining is queued. -/
  | retrainTempDrift (t : Nat) (chan : Fin 128)
  /-- RETRAIN_PERIOD (R444): mem.retrain_period elapses, so a retraining is queued. -/
  | retrainPeriod (t : Nat) (chan : Fin 128)
  /-- GATHER_SLICE (R445): A 2 us eye-gathering slice of a retraining runs in one refresh interval. -/
  | gatherSlice (t : Nat) (stack : Fin 8)
  /-- RETRAIN_APPLY (R445): GATHER completes, and the new setting is applied or the stack steps down. -/
  | retrainApply (t : Nat) (stack : Fin 8) (margin : Bool)
  /-- STACK_STEP_DOWN_DONE (R446): A step-down training outage ends: the stack returns to service, steps again, or retires a channel. -/
  | stackStepDownDone (t : Nat) (stack : Fin 8) (fails : List (Fin 16))
  /-- RETIREMENT_MARKERS_DONE (R450): The poison markers of the redirected locations are written, so readmission runs and RESERVE is re-placed. -/
  | retirementMarkersDone (t : Nat)
  /-- CANAL_REQUEST (R460): A master issues a canal request, which is cut into 1 KiB pieces or refused as a decode error. -/
  | canalRequest (t : Nat) (m : Fin 15) (id : Fin 32) (write : Bool) (addr beats : Nat) (data : List (Nat × Byte))
  /-- CANAL_PIECE_GRANT (R462): A target's arbiter grants a piece round-robin and the piece transfers whole. -/
  | canalPieceGrant (t : Nat) (port : Fin 80) (responds : Bool) (r : CulvertIn)
  /-- CANAL_TARGET_TIMEOUT (R464): A target has not responded within 1 ms of the grant, so the piece completes DATA_ERR. -/
  | canalTargetTimeout (t : Nat) (m : Fin 15) (id : Fin 32)
  /-- MASTER_RESET_DRAINED (R466): The last outstanding identifier of a reset master is accounted for, so RESETTING clears. -/
  | masterResetDrained (t : Nat) (m : Fin 15)
  /-- SEM_TAKE (R465): A read of SEM_TAKE returns FREE and takes the semaphore in the same operation. -/
  | semTake (t : Nat) (m : Fin 15) (k : Fin 64)
  /-- SEM_GIVE (R465): Writing 1 to SEM_GIVE frees the semaphore. -/
  | semGive (t : Nat) (m : Fin 15) (k : Fin 64) (value : Nat)
  /-- RC_READ (R23): A read of an rc counter returns its value and clears it. -/
  | rcRead (t : Nat) (m : Fin 2) (c : Ctr) (inst : Fin 4096)
  /-- REGISTER_WRITE (R18): A write to a register that has no row of its own acts according to its access codes, including w1c clears. -/
  | registerWrite (t : Nat) (m : Fin 2) (r : Reg) (value : Nat)
  /-- ZCP_SESSION_OPEN (R475): Opens or replaces a session, derives K_S and replies under it. -/
  | zcpSessionOpen (t : Nat) (d : Dgram)
  /-- ZCP_SESSION_CLOSE (R476): Closes the session after its reply. -/
  | zcpSessionClose (t : Nat) (d : Dgram)
  /-- ZCP_NOP (R480): No-operation command that is replied to. -/
  | zcpNop (t : Nat) (d : Dgram)
  /-- ZCP_IDENTITY (R481): Returns the variant, serial number, clockIdentity, MODULE_ID, image versions and core roles. -/
  | zcpIdentity (t : Nat) (d : Dgram)
  /-- ZCP_KEY_SET (R478): Writes a wrapped new long-term key for a slot to flash. -/
  | zcpKeySet (t : Nat) (d : Dgram)
  /-- ZCP_FUNC_REINIT (R582): Power-cycles, resets and reconfigures one function and returns it to service. -/
  | zcpFuncReinit (t : Nat) (d : Dgram)
  /-- ZCP_MODULE_RESET (R581): Replies, then performs a warm reset to READY in about 0.9 s. -/
  | zcpModuleReset (t : Nat) (d : Dgram) (b : BootIn)
  /-- ZCP_TAKEOVER (R502): Slot 0 asks the active core to yield, and the standby takes over. -/
  | zcpTakeover (t : Nat) (d : Dgram)
  /-- ZCP_PARAM_GET (R513): Returns values in force or pending values for a list of keys. -/
  | zcpParamGet (t : Nat) (d : Dgram)
  /-- ZCP_PARAM_SET (R515): Checks every entry, then applies all of them in one step or none. -/
  | zcpParamSet (t : Nat) (d : Dgram)
  /-- ZCP_PLAN_CHECK (R283): Admits the staged set against current resources and returns the report without changing anything. -/
  | zcpPlanCheck (t : Nat) (d : Dgram)
  /-- ZCP_PLAN_COMMIT (R283): Runs admission and, unless the plan is refused, schedules a commit at s_c. -/
  | zcpPlanCommit (t : Nat) (d : Dgram) (boundary : Option Nat)
  /-- ZCP_PLAN_CANCEL (R306): Withdraws a scheduled commit before its commit point, or returns CANCEL_LATE. -/
  | zcpPlanCancel (t : Nat) (d : Dgram)
  /-- ZCP_CAPACITY_RECORD (R284): Returns the capacity record. -/
  | zcpCapacityRecord (t : Nat) (d : Dgram)
  /-- ZCP_SNAPSHOT (R156): Requests a snapshot of a list of channels. -/
  | zcpSnapshot (t : Nat) (d : Dgram) (chans : List Nat)
  /-- ZCP_TOTALS_RESET (R151): Issues a RESET for every tile of one region. -/
  | zcpTotalsReset (t : Nat) (d : Dgram) (area region : Fin 2)
  /-- ZCP_WEIR_EPOCH (R178): Arms a FREE bank for boundary E, or refuses in check order. -/
  | zcpWeirEpoch (t : Nat) (d : Dgram) (bank : Fin 2) (boundary : Nat)
  /-- ZCP_WEIR_EPOCH_CANCEL (R181): Returns an ARMED bank to FREE before its epoch acts. -/
  | zcpWeirEpochCancel (t : Nat) (d : Dgram) (bank : Fin 2)
  /-- ZCP_TIME_GET (R362): Returns the latched tide time and the timing state word. -/
  | zcpTimeGet (t : Nat) (d : Dgram)
  /-- ZCP_TIME_SET (R415): Steps tide time to a given value unless TIME_ORIGIN is 2. -/
  | zcpTimeSet (t : Nat) (d : Dgram) (x : Nat)
  /-- ZCP_TIME_REALIGN (R413): Schedules removal of the phase debt D at tide second S. -/
  | zcpTimeRealign (t : Nat) (d : Dgram) (sec : Nat)
  /-- ZCP_REF_SELECT (R406): Sets MANUAL_FALLBACK mode with the named reference. -/
  | zcpRefSelect (t : Nat) (d : Dgram) (r : Nat)
  /-- ZCP_PTP_SEND (R379): Sends a host-originated PTP message on a port and records its transmit time-stamp. -/
  | zcpPtpSend (t : Nat) (d : Dgram) (port : Nat) (msg : List Byte) (raw : Nat)
  /-- ZCP_PTP_TXTS (R381): Returns and removes the oldest matching transmit time-stamp entry owned by the session. -/
  | zcpPtpTxts (t : Nat) (d : Dgram) (port mtype domain seq : Nat)
  /-- ZCP_TIDE_OUT_ARM (R385): Checks the held program of an output as a whole and applies it. -/
  | zcpTideOutArm (t : Nat) (d : Dgram) (n : Nat)
  /-- ZCP_TIDE_OUT_STOP (R386): Ends an output's program, and the output goes OFF. -/
  | zcpTideOutStop (t : Nat) (d : Dgram) (n : Nat)
  /-- ZCP_MEM_RETRAIN (R444): Queues a retraining of the named channel. -/
  | zcpMemRetrain (t : Nat) (d : Dgram) (chan : Nat)
  /-- ZCP_MEM_SPEED (R447): Requests a speed bin for a stack, held if a GATHER or outage is running. -/
  | zcpMemSpeed (t : Nat) (d : Dgram) (k bin : Nat)
  /-- ZCP_MEM_CLEAR_RETIRED (R443): Erases the flash record of retired channels, effective at the next boot. -/
  | zcpMemClearRetired (t : Nat) (d : Dgram)
  /-- ZCP_SLUICE_LOAD (R481): Opens a bulk transfer into a HOST core's load space. -/
  | zcpSluiceLoad (t : Nat) (d : Dgram)
  /-- ZCP_SLUICE_START (R319): Resets the core's registers and starts issue at word 0. -/
  | zcpSluiceStart (t : Nat) (d : Dgram) (n : Nat)
  /-- ZCP_SLUICE_STOP (R346): Stops a core at an interruptible boundary and puts it in LOADABLE. -/
  | zcpSluiceStop (t : Nat) (d : Dgram) (n : Nat)
  /-- ZCP_SLUICE_STATUS (R345): Returns a core's state, PC, TRAP_CAUSE and TRAP_PC. -/
  | zcpSluiceStatus (t : Nat) (d : Dgram) (n : Nat)
  /-- ZCP_SLUICE_GAIN_SOLVE (R357): Runs the stock gain solve on a SEALED region and replies with the gains. -/
  | zcpSluiceGainSolve (t : Nat) (d : Dgram) (area region : Fin 2) (chans : List Nat)
  /-- ZCP_FAULT_STATUS (R550): Returns fault.sticky, the class status words and the boot count. -/
  | zcpFaultStatus (t : Nat) (d : Dgram)
  /-- ZCP_BB_READ (R542): Returns black-box records from SRAM or the mirror. -/
  | zcpBbRead (t : Nat) (d : Dgram) (first count : Nat)
  /-- ZCP_BB_FLUSH (R540): Flushes the black-box ring to a flash slot without a freeze. -/
  | zcpBbFlush (t : Nat) (r : FlushIn)
  /-- BB_SLOT_ERASE_DONE (R540): The erase of a flash record slot that follows a flush completes. -/
  | bbSlotEraseDone (r : EraseIn)
  /-- ZCP_BB_MARK (R550): Writes a MARK record carrying 8 host bytes. -/
  | zcpBbMark (t : Nat) (d : Dgram)
  /-- ZCP_FAULT_INJECT (R550): Fires the named fault source with its full reaction. -/
  | zcpFaultInject (t : Nat) (d : Dgram) (src : Nat)
  /-- ZCP_MARGIN_RUN (R544): Runs the margin planner for one polder or for all of them. -/
  | zcpMarginRun (t : Nat) (d : Dgram) (n : Nat) (plan : PlannerIn)
  /-- ZCP_BULK_OPEN (R494): Opens an inbound or outbound bulk transfer; outbound data then follow at zcp.bulk_rate. -/
  | zcpBulkOpen (t : Nat) (d : Dgram)
  /-- ZCP_BULK_DATA (R495): Applies inbound bulk bytes, issuing tile WRITEs as ranges complete. -/
  | zcpBulkData (t : Nat) (d : Dgram)
  /-- ZCP_BULK_CLOSE (R495): Ends a transfer, or starts a decompression job, once every byte has been applied. -/
  | zcpBulkClose (t : Nat) (d : Dgram) (id : Nat)
  /-- ZCP_BULK_REREAD (R497): Resends a range of an outbound transfer. -/
  | zcpBulkReread (t : Nat) (d : Dgram) (id offset length : Nat)
  /-- ZCP_BULK_STATUS (R498): Returns a transfer's state and progress. -/
  | zcpBulkStatus (t : Nat) (d : Dgram) (id : Nat)
  /-- ZCP_PEEK (R521): Reads canal addresses through the diagnostic window. -/
  | zcpPeek (t : Nat) (d : Dgram)
  /-- ZCP_POKE (R521): Writes canal addresses through the diagnostic window when module.diag_poke is 1. -/
  | zcpPoke (t : Nat) (d : Dgram)
  /-- ZCP_FW_STATUS (R585): Returns the boot status, image versions and rollback floor. -/
  | zcpFwStatus (t : Nat) (d : Dgram)
  /-- ZCP_FW_INSTALL (R586): Checks the staged image and writes it to the named flash slot. -/
  | zcpFwInstall (t : Nat) (d : Dgram) (r : InstallIn)
  /-- ZCP_FW_SET_BOOT (R585): Sets PREFERRED and the trial flag. -/
  | zcpFwSetBoot (t : Nat) (d : Dgram) (image : Nat)
  /-- ZCP_FW_ACCEPT (R587): Ends the trial of the running image. -/
  | zcpFwAccept (t : Nat) (d : Dgram)
  /-- ZCP_ACK (R489): Acknowledges unsolicited messages up to the session's cumulative point. -/
  | zcpAck (t : Nat) (d : Dgram)
  /-- ZCP_UNSOL_RETRANSMIT (R490): An unacknowledged unsolicited message reaches its backed-off retransmit time and is resent. -/
  | zcpUnsolRetransmit (t : Nat) (slot : Fin 4) (seq : Nat)
  /-- ZCP_UNSOL_AGE_OUT (R490): An unsolicited message remains unacknowledged for zcp.unsol_age and ages out. -/
  | zcpUnsolAgeOut (t : Nat) (slot : Fin 4) (seq : Nat)
  /-- ZCP_TELEMETRY (R491): A session's zcp.telemetry_period expires, so a ZCP_TELEMETRY message is sent. -/
  | zcpTelemetry (t : Nat) (slot : Fin 4)
  /-- SESSION_IDLE_TIMEOUT (R476): No authenticated host message has arrived for zcp.idle_timeout, so the session closes. -/
  | sessionIdleTimeout (t : Nat) (slot : Fin 4)
  /-- BULK_WAIT_EXPIRY (R495): A pending CLOSE waits zcp.bulk_wait with bytes missing and is replied to with INCOMPLETE. -/
  | bulkWaitExpiry (t : Nat) (slot : Fin 4) (id : Nat)
  /-- BULK_IDLE_EXPIRY (R497): A transfer has received no host message for zcp.bulk_idle and ends ABORTED. -/
  | bulkIdleExpiry (t : Nat) (slot : Fin 4) (id : Nat)
  /-- HEARTBEAT (R502): The active core writes a heartbeat each mgmt.hb_period. -/
  | heartbeat (t : Nat)
  /-- HEARTBEAT_MISS_TAKEOVER (R502): The standby misses mgmt.hb_miss heartbeats, or sees a fatal active-core error, and takes over. -/
  | heartbeatMissTakeover (t : Nat) (cause : TakeoverCause) (held : List Dgram)
  /-- MIRROR_CONFIRM_TIMEOUT (R504): The standby fails to confirm a mirror write within 1 ms, so the active core continues alone. -/
  | mirrorConfirmTimeout (t : Nat)
  /-- STANDBY_RESYNC_DONE (R504): A standby finishes resynchronisation and EV_MGMT_STANDBY is raised. -/
  | standbyResyncDone (t : Nat)
  /-- QUIET_TIME_EXPIRY (R530): An OPEN episode's quiet period ends: the episode returns to IDLE and EV_FAULT_CLEAR is raised. -/
  | quietTimeExpiry (t : Nat) (cls : Fin 4)
  /-- GAUGE_ALARM (R545): A gauge reads below its limit: the polder drops a step, FS_HUB_MARGIN fires, or a weir or zoom engine is taken out of service. -/
  | gaugeAlarm (t : Nat) (g : GaugeAt) (margin : Int) (plan : PlannerIn)
  /-- PLANNER_PERIOD (R545): fault.planner_period elapses and the margin planner runs for every polder. -/
  | plannerPeriod (t : Nat) (plan : PlannerIn)
  /-- IMAGE_READY_TIMEOUT (R579): The preferred image has not reached READY within 10 s, so the module falls back with reset kind 5. -/
  | imageReadyTimeout (t : Nat) (b : BootIn)
  /-- FW_TRIAL_EXPIRY (R587): 600 s pass without ZCP_FW_ACCEPT, so PREFERRED reverts and the module warm-resets. -/
  | fwTrialExpiry (t : Nat) (b : BootIn)
  /-- ONCE_PER_SECOND_REPORT (R87): At the end of each one-second interval, rate-limited events (EV_INGRESS_DISCARD, EV_INGRESS_GAP, EV_LANE_MIRROR, EV_CANAL_ERROR, EV_MEM_ERRORS and the like) are raised with the counter increases over the interval. -/
  | oncePerSecondReport (t : Nat) (r : Sensors)
  /-- HOLD_UP_EXHAUSTED (R567): After both feeds are lost, the hold-up bus falls to 20 V and the power stage stops, leaving the module unpowered. -/
  | holdUpExhausted (t : Nat)
  /-- SLEW_END (R414): In SLEW mode, |D| falls below 1 ns, so the DPLL stops slewing and SLEWING clears. -/
  | slewEnd (t : Nat)
  /-- STANDBY_HEARTBEAT_FAIL (R504): The standby core fails its heartbeat, so the active core continues alone, sets FS_MGMT_STANDBY and raises EV_MGMT_STANDBY. -/
  | standbyHeartbeatFail (t : Nat)
  /-- DOMAIN_WAKE_DONE (R569): A switched-on power domain reaches regulation within its wake time and moves from WAKING to ON. -/
  | domainWakeDone (t : Nat) (pd : Fin 40)
  /-- BOUNDARY_ITEM_APPLY (R511): A pending BOUNDARY-apply parameter value takes effect at the first main-area integration boundary at least 20 ms after its SET. -/
  | boundaryItemApply (t : Nat) (item : Item) (inst : Fin 4096)
deriving DecidableEq, Repr

end Sys2Proof
end

