-- ==== Sys2Proof/Decode.lean ====
section
/-! DEFINITION. Decoding of table words. The opcode table gives the FZ4096's commands no bits, so no
word spells a command: commands reach the model as constructors of `Instr`. The sluice's own bundle
encodings (R320 to R326) are decoded in Machine/SluiceCode.lean, from the core's program SRAM. -/

namespace Sys2Proof

/-- The command that a word of the table's bits spells: the table gives no row any bits. -/
def decodeTableWord (_nbits _w : Nat) : Option Instr := none

end Sys2Proof
end

