-- ==== Sys2Proof/Config.lean ====
section
/-! DEFINITION. What an implementation fixes and what the spec leaves open: constants without a
body, so that no proof can see a value of them. Every claim holds whatever they are. The number
that many of them take is the free-value counter of the state, so that each use is fresh. -/

namespace Sys2Proof.Config


/-- What stands in an event body whose fields the spec lists under Carries without widths (R491; log
entry 12). -/
opaque eventBytes : Nat → List Nat → List Byte

/-- Such an event body: with the 16 bytes before it, it fits the 8,192 bytes of a payload (R470, R491). -/
def eventBody (code : Nat) (fields : List Nat) : List Byte := (eventBytes code fields).take 8176

/-- What stands in a reply body whose fields the spec lists without a layout (R481, R498, R550; log
entry 13). -/
opaque replyBytes : Nat → List Nat → List Byte

/-- Such a reply body: with RESULT before it, it fits the 8,192 bytes of a payload (R470, R482). -/
def replyBody (typ : Nat) (fields : List Nat) : List Byte := (replyBytes typ fields).take 8188

/-- A payload length that the spec does not give (R480; log entry 13). -/
opaque freeLength : Nat → Nat

/-- The payload length of a command whose TYPE the spec gives no payload layout; what the payload says
comes as operands of the command. A payload has at most 8,192 bytes (R470). -/
def payloadLength (typ : Nat) : Nat := freeLength typ % 8193

/-- The nonce N_m of the n-th session opening (R475). -/
opaque nonce : Nat → Nat

/-- The first unsolicited sequence u0 of the n-th session opening (R475). -/
opaque firstUnsol : Nat → Nat

/-- The slot 0 key that the module leaves the factory with (R473). -/
opaque factoryKey : List Byte

/-- The serial number (R481). -/
opaque serial : Nat

/-- The EUI-64 of the flash identity record, the clockIdentity of all ports (R371). -/
opaque clockIdentity : Nat

/-- RX_DELAY and TX_DELAY of a logical port in a port mode, from the flash calibration record
(R367): port, mode, 0 receive or 1 transmit. -/
opaque portCal : Nat → Nat → Nat → Nat

/-- The mean of the offset measurements of a reference at an instant; the spec does not say over which of
them (R400; log entry 57). -/
opaque offsetMean : Nat → Nat → Int

/-- The mean DPLL frequency against the OCXO between two instants of the timing clock, in 0.01 ppb: the
oscillators' own (R416; log entry 119). -/
opaque dpllMean : Nat → Nat → Int

/-- The linear drift term fitted over the same, in 0.01 ppb per day (R416; log entry 119). -/
opaque dpllDrift : Nat → Nat → Int

/-- The IP address of a host port by IP version, 0 for IPv4 (R228); no item of the spec sets it (log entry
126). -/
opaque hostAddr : Nat → Nat → Nat

/-- Whether a P-384 signature over the first 96 header bytes is valid under the fused key (R578). -/
opaque ecdsaValid : List Byte → List Byte → Bool

/-- The ITEM number of an item that the spec names without a number; the catalogue gives it (R517). -/
opaque itemNumber : Nat → Nat

/-- The catalogue bytes that the spec does not state for an item: units, register unit, offset and
stride (R517). -/
opaque catalogueRest : Nat → Nat → Nat

/-- currentUtcOffset as the module advertises it; the spec gives none (R373). -/
opaque utcOffset : Nat

/-- Whether a quantity that is no whole number of a report field's units is reported rounded up;
numerator and denominator of what floor leaves (R295; log entry 20). -/
opaque roundsUp : Nat → Nat → Bool

/-- The value of a report field whose quantity the field cannot hold or that the spec leaves
undefined: which field, and the whole part (R295; log entry 20). -/
opaque reportField : Nat → Int → Nat

/-- Which of several dies of equal use POLDER_DIE names, as an index among them (R295). -/
opaque tiedDie : List Nat → Nat

/-- How far the stock weight kernel's phase lies off, in 2^-64 turn, and its relative amplitude, in
2^-64; the kernel keeps both within R183's bounds (R183; log entry 24). -/
opaque kernelError : Nat → Nat → Int × Int

/-- The weight that the stock weight kernel writes where its polynomials give no finite number: the
spec states none (R183; log entry 24). -/
opaque kernelWeight : Nat → Nat → Nat

/-- Coefficient j of half-band design d, as binary32; the spec states those of design 0 only (R204; log entry
113). -/
opaque romCoef : Nat → Nat → Nat

/-- A 32-bit value that a register takes where the spec gives none: a post-modification under a MODE
whose LEN or BITS is outside its range, and a pointer that FTAP names twice (R326, R333; log entry
25). As wide as it takes, the contents of tile records whose both copies are lost (R138; log entry 110). -/
opaque freeWord : Nat → Nat

/-- Which of two causes a bundle traps with when the spec names both (R335, R340; log entry 26). -/
opaque freeChoice : Nat → Bool

/-- POWER and SK of a statistics window over FP16 samples, whose sums are no integers (R354; log
entry 27). -/
opaque statsFp : Nat → Nat × Nat

/-- How a component of a gain lies in the last place, and its pattern where the iteration has no solution
(R356; log entry 37): a draw, and which component. -/
opaque gainBits : Nat → Nat → Nat

/-- Where the firmware of a STOCK core keeps its tap ring: base and length (R351; log entry 79). -/
opaque stockRing : Nat → Nat × Nat

/-- Which counters' registers have access rc: the catalogue says it (R18, R517, R521; log entry 103). -/
opaque rcCounter : Nat → Bool

/-- The offset of a register in its unit's block: which kind and item, instance, element (R517, R522; log
entry 34). -/
opaque registerOffset : Nat → Nat → Nat → Nat

/-- The register whose 32-bit word lies at an address of the register blocks: a kind (0 none, 1 a
parameter's, 2 a counter, 3 ERR_ADDR, 4 a time-stamp queue's status, 5 a core register), its unit or
item, an instance, an element, and which 32-bit word of it. The catalogue gives the offsets (R517, R522;
log entry 34). -/
opaque registerAt : Nat → Nat × Nat × Nat × Nat × Nat

/-- Which of the units of a kind reacts to an injected fault, taken modulo their number (R550; log entry
38). -/
opaque injectUnit : Nat → Nat

end Sys2Proof.Config
end

