-- ==== Sys2Proof/Machine/Sha.lean ====
section
/-! DEFINITION. The hash functions that the spec names and does not spell out: SHA-256 and HMAC
(session keys, tags and key wrapping, R475, R477, R478) and SHA-384 (image digests, R578).
PRESUMED from FIPS 180-4 and RFC 2104 (log entry 9). -/

namespace Sys2Proof.Machine

/-! ### Constants: the fractions of roots of primes -/

/-- The prime numbers below 410, of which both functions take their constants: there are 80. -/
def shaPrimes : List Nat :=
  (List.range 410).filter fun n => decide (2 ≤ n) && (List.range 19).all fun k => decide (k + 2 ≥ n) || n % (k + 2) != 0

/-- The greatest number `r + x`, `x` below 2^k, whose `d`-th power is at most `n`. -/
def rootBelow (d n : Nat) : Nat → Nat → Nat
  | 0, r => r
  | k + 1, r => rootBelow d n k (if (r + 2 ^ k) ^ d ≤ n then r + 2 ^ k else r)

/-- The first `w` bits of the fraction of the `d`-th root of a number below 410. -/
def rootFraction (d w p : Nat) : Nat := rootBelow d (p * 2 ^ (d * w)) (w + 5) 0 % 2 ^ w

/-! ### The two functions -/

/-- What tells the two functions apart: the bits of a word, the number of rounds, the first of the eight
primes whose square roots start the digest, and the rotations that each mixing of a word joins; the two of
the schedule end with a shift. -/
structure ShaKind where
  width : Nat
  rounds : Nat
  start : Nat
  joinA : List Nat
  joinE : List Nat
  joinOld : List Nat × Nat
  joinNew : List Nat × Nat

/-- SHA-256. -/
def sha256Kind : ShaKind :=
  { width := 32, rounds := 64, start := 0, joinA := [2, 13, 22], joinE := [6, 11, 25]
    joinOld := ([7, 18], 3), joinNew := ([17, 19], 10) }

/-- SHA-384. -/
def sha384Kind : ShaKind :=
  { width := 64, rounds := 80, start := 8, joinA := [28, 34, 39], joinE := [14, 18, 41]
    joinOld := ([1, 8], 7), joinNew := ([19, 61], 6) }

/-- The constant of each round. -/
def ShaKind.consts (k : ShaKind) : List Nat := (shaPrimes.take k.rounds).map (rootFraction 3 k.width)

/-- The digest before the first block. -/
def ShaKind.init (k : ShaKind) : List Nat := ((shaPrimes.drop k.start).take 8).map (rootFraction 2 k.width)

/-- A word turned right. -/
def ShaKind.turn (k : ShaKind) (x n : Nat) : Nat := x / 2 ^ n + x % 2 ^ n * 2 ^ (k.width - n)

/-- A word joined with itself turned by each of some distances, beside what `seed` holds. -/
def ShaKind.join (k : ShaKind) (seed x : Nat) (l : List Nat) : Nat := l.foldl (fun acc n => acc ^^^ k.turn x n) seed

/-- The next word of the schedule, from the sixteen before it (oldest first). -/
def ShaKind.schedule (k : ShaKind) (win : List Nat) : Nat :=
  let old := nth 0 win 1
  let new := nth 0 win 14
  (nth 0 win 0 + nth 0 win 9 + k.join (old / 2 ^ k.joinOld.2) old k.joinOld.1 +
    k.join (new / 2 ^ k.joinNew.2) new k.joinNew.1) % 2 ^ k.width

/-- One round on the eight working words, with its constant and schedule word already added up. -/
def ShaKind.round (k : ShaKind) (kw : Nat) : List Nat → List Nat
  | [a, b, c, d, e, f, g, h] =>
    let choice := g ^^^ (e &&& (f ^^^ g))
    let most := (a &&& (b ||| c)) ||| (b &&& c)
    let up := h + kw + choice + k.join 0 e k.joinE
    [(up + most + k.join 0 a k.joinA) % 2 ^ k.width, a, b, c, (d + up) % 2 ^ k.width, e, f, g]
  | v => v

/-- The rounds of a block: the working words and the sixteen schedule words that come next. -/
def ShaKind.run (k : ShaKind) (v win : List Nat) : List Nat :=
  (k.consts.foldl (fun (x : List Nat × List Nat) c =>
    (k.round (c + nth 0 x.2 0) x.1, x.2.drop 1 ++ [k.schedule x.2])) (v, win)).1

/-- The digest words after one more block. -/
def ShaKind.block (k : ShaKind) (h : List Nat) (bs : List Byte) : List Nat :=
  let win := (List.range 16).map fun i => beAt bs (i * (k.width / 8)) (k.width / 8)
  ((k.run h win).zip h).map fun x => (x.1 + x.2) % 2 ^ k.width

/-- The message with what fills its last block: a one bit, zeros, and its length in bits. -/
def ShaKind.pad (k : ShaKind) (bs : List Byte) : List Byte :=
  let tail := k.width / 4
  let used := (bs.length + 1 + tail) % (2 * k.width)
  bs ++ [0x80] ++ List.replicate ((2 * k.width - used) % (2 * k.width)) 0 ++ natBE tail (8 * bs.length)

/-- The digest words of a message. -/
def ShaKind.digest (k : ShaKind) (bs : List Byte) : List Nat :=
  let all := k.pad bs
  (List.range (all.length / (2 * k.width))).foldl (fun h i => k.block h (slice all (i * (2 * k.width)) (2 * k.width))) k.init

/-- SHA-256 of a byte string, 32 bytes. -/
def sha256 (bs : List Byte) : List Byte := padTo 32 ((sha256Kind.digest bs).flatMap (natBE 4))

/-- SHA-384 of a byte string, 48 bytes (R578). -/
def sha384 (bs : List Byte) : List Byte := padTo 48 ((sha384Kind.digest bs).flatMap (natBE 8))

/-- HMAC-SHA-256 (R475, R477, R478). -/
def hmac (key msg : List Byte) : List Byte :=
  let block := padTo 64 (if key.length ≤ 64 then key else sha256 key)
  let keyed (mask : Byte) (l : List Byte) : List Byte := sha256 (block.map (mask ^^^ ·) ++ l)
  keyed 0x5c (keyed 0x36 msg)

end Sys2Proof.Machine
end

