-- ==== Sys2Proof/Machine/StCanal.lean ====
section
/-! DEFINITION. The plain data of the canal interconnect: chapter 14 of the spec. -/

namespace Sys2Proof.Machine

/-- The status of a beat or completion (R464). -/
inductive CanalStatus where
  | okay | decode | dataErr
deriving DecidableEq, Repr

/-- The worst-status code of R521. -/
def CanalStatus.code : CanalStatus → Nat
  | .okay => 0 | .decode => 1 | .dataErr => 2

/-- The worse of two statuses, in the order OKAY, DECODE, DATA_ERR. -/
def CanalStatus.worse (a b : CanalStatus) : CanalStatus := if a.code < b.code then b else a

/-- A piece of a burst (R461): its address, beats, and for a write the bytes that are enabled, by
offset from the piece's address. -/
structure CanalPiece where
  addr : Nat
  beats : Nat
  data : Sparse (BitVec 8)
deriving DecidableEq, Repr

/-- An outstanding request (R460): its remaining pieces, first one first. -/
structure CanalReq where
  master : Nat
  id : Nat
  write : Bool
  pieces : List CanalPiece
  /-- The first piece is granted and its target has not responded, since an instant (R464). -/
  granted : Option Nat
  status : CanalStatus
  /-- Read data so far. -/
  read : List (BitVec 8)
deriving DecidableEq, Repr

/-- A master's error status register and ERR_ADDR (R464). -/
structure CanalMaster where
  decode : Bool
  dataErr : Bool
  resetting : Bool
  errAddr : Option Nat
  /-- DECODE_ERRORS and DATA_ERRORS at the last EV_CANAL_ERROR (R468). -/
  decodeBase : Nat
  dataBase : Nat
deriving DecidableEq, Repr

/-- What a completed request returned to its master. -/
structure CanalDone where
  master : Nat
  id : Nat
  status : CanalStatus
  read : List (BitVec 8)
deriving DecidableEq, Repr

/-- The canal. -/
structure CanalS where
  masters : RegFile CanalMaster 15
  /-- Outstanding requests in order of issue. -/
  reqs : List CanalReq
  /-- Identifiers of a reset master that are not accounted for: master × 32 + id (R466). -/
  draining : List Nat
  /-- The master last granted at each target port (R462). -/
  lastGrant : Sparse Nat
  /-- Since when a piece has waited at each target port (R467). -/
  waitSince : Sparse Nat
  /-- FREE of the 64 semaphores (R465). -/
  semFree : BitVec 64
  /-- Management SRAM, by offset (R456). -/
  sram : Memory
  /-- Bytes that reads of register blocks, semaphores and completed requests returned, newest first. -/
  done : List CanalDone
  /-- What the committed-parameter journal holds for elements whose register a POKE has changed, by item
  key (R523). -/
  journal : Sparse Nat
deriving DecidableEq, Repr

end Sys2Proof.Machine
end

