-- ==== Sys2Proof/Machine/Float.lean ====
section
/-! DEFINITION. IEEE 754 arithmetic on bit patterns, with round-to-nearest-even, subnormals kept
and every NaN produced the canonical quiet NaN (R95, R139, R142, R170, R190, R205). Every operation
is formed exactly on integers and rounded once. -/

namespace Sys2Proof.Machine

/-- An IEEE 754 binary interchange format: fraction bits and exponent bits. -/
structure Fmt where
  frac : Nat
  exp : Nat
deriving DecidableEq, Repr

/-- binary16. -/
def f16 : Fmt := ⟨10, 5⟩
/-- binary32. -/
def f32 : Fmt := ⟨23, 8⟩
/-- binary64. -/
def f64 : Fmt := ⟨52, 11⟩

/-- The bits of +infinity. -/
def Fmt.infBits (f : Fmt) : Nat := (2 ^ f.exp - 1) * 2 ^ f.frac
/-- The sign bit. -/
def Fmt.signBit (f : Fmt) : Nat := 2 ^ (f.frac + f.exp)
/-- The canonical quiet NaN: 0x7E00, 0x7FC0_0000, 0x7FF8_0000_0000_0000. -/
def Fmt.nanBits (f : Fmt) : Nat := f.infBits + 2 ^ (f.frac - 1)
/-- The exponent of the least significant bit of the smallest numbers. -/
def Fmt.lowExp (f : Fmt) : Int := 2 - (2 ^ (f.exp - 1) : Int) - f.frac

/-- A floating-point datum: the value of `fin s m e` is (−1)^s × m × 2^e. -/
inductive FP where
  | nan
  | inf (s : Bool)
  | fin (s : Bool) (m : Nat) (e : Int)
deriving DecidableEq, Repr

/-- Reading a bit pattern. -/
def Fmt.decode (f : Fmt) (v : Nat) : FP :=
  let s := bitAt v (f.frac + f.exp)
  let be := field v f.frac f.exp
  let fr := field v 0 f.frac
  if be = 2 ^ f.exp - 1 then (if fr = 0 then .inf s else .nan)
  else if be = 0 then .fin s fr f.lowExp
  else .fin s (2 ^ f.frac + fr) (f.lowExp + (be - 1 : Nat))

/-- `m × 2^e / 2^q` rounded to the nearest integer, ties to even. -/
def roundShift (m : Nat) (sh : Int) : Nat :=
  match sh with
  | .ofNat k => m * 2 ^ k
  | .negSucc k =>
    let d := 2 ^ (k + 1)
    let q := m / d
    let r := m % d
    if 2 * r > d ∨ (2 * r = d ∧ q % 2 = 1) then q + 1 else q

/-- The bit pattern nearest (−1)^s × m × 2^e; `m` may carry a sticky bit below the value. -/
def Fmt.round (f : Fmt) (s : Bool) (m : Nat) (e : Int) : Nat :=
  let sg := if s then f.signBit else 0
  if m = 0 then sg
  else
    let lead : Int := (m.log2 : Int) + e
    let q : Int := max (lead - f.frac) f.lowExp
    let r := roundShift m (e - q)
    let bits := (q - f.lowExp).toNat * 2 ^ f.frac + r
    sg + min bits f.infBits

/-- The bit pattern of a datum. -/
def Fmt.encode (f : Fmt) : FP → Nat
  | .nan => f.nanBits
  | .inf s => (if s then f.signBit else 0) + f.infBits
  | .fin s m e => f.round s m e

/-- ±infinity or NaN. -/
def Fmt.nonfinite (f : Fmt) (v : Nat) : Bool := field v f.frac f.exp == 2 ^ f.exp - 1
/-- NaN. -/
def Fmt.isNan (f : Fmt) (v : Nat) : Bool := f.nonfinite v && field v 0 f.frac != 0

/-- A signed integer coefficient as a sign and a magnitude. -/
def signMag (v : Int) : Bool × Nat := (decide (v < 0), v.natAbs)

/-- The signed coefficient of a datum scaled to exponent `e0 ≤ e`. -/
def coefAt (s : Bool) (m : Nat) (e e0 : Int) : Int :=
  let v : Int := (m * 2 ^ (e - e0).toNat : Nat)
  if s then -v else v

/-- Addition. -/
def Fmt.add (f : Fmt) (a b : Nat) : Nat :=
  match f.decode a, f.decode b with
  | .nan, _ => f.nanBits
  | _, .nan => f.nanBits
  | .inf s, .inf t => if s = t then f.encode (.inf s) else f.nanBits
  | .inf s, .fin _ _ _ => f.encode (.inf s)
  | .fin _ _ _, .inf t => f.encode (.inf t)
  | .fin s m e, .fin t n d =>
    let e0 := min e d
    let v := coefAt s m e e0 + coefAt t n d e0
    if v = 0 then (if s && t then f.signBit else 0)
    else f.round (decide (v < 0)) v.natAbs e0

/-- a + 0.5 × b with the product exact, rounded once (R205). -/
def Fmt.addHalf (f : Fmt) (a b : Nat) : Nat :=
  match f.decode a, f.decode b with
  | .fin s m e, .fin t n d =>
    let e0 := min e (d - 1)
    let v := coefAt s m e e0 + coefAt t n (d - 1) e0
    if v = 0 then (if s && t then f.signBit else 0)
    else f.round (decide (v < 0)) v.natAbs e0
  | _, _ => f.add a b

/-- The pattern with the other sign; a NaN stays canonical. -/
def Fmt.neg (f : Fmt) (a : Nat) : Nat :=
  if f.isNan a then f.nanBits else if a ≥ f.signBit then a - f.signBit else a + f.signBit

/-- Subtraction. -/
def Fmt.sub (f : Fmt) (a b : Nat) : Nat := f.add a (f.neg b)

/-- Multiplication. -/
def Fmt.mul (f : Fmt) (a b : Nat) : Nat :=
  match f.decode a, f.decode b with
  | .nan, _ => f.nanBits
  | _, .nan => f.nanBits
  | .inf s, .inf t => f.encode (.inf (s != t))
  | .inf s, .fin t n _ => if n = 0 then f.nanBits else f.encode (.inf (s != t))
  | .fin s m _, .inf t => if m = 0 then f.nanBits else f.encode (.inf (s != t))
  | .fin s m e, .fin t n d => f.round (s != t) (m * n) (e + d)

/-- Division: the quotient carries a sticky bit, so that it is rounded once. -/
def Fmt.div (f : Fmt) (a b : Nat) : Nat :=
  match f.decode a, f.decode b with
  | .nan, _ => f.nanBits
  | _, .nan => f.nanBits
  | .inf _, .inf _ => f.nanBits
  | .inf s, .fin t _ _ => f.encode (.inf (s != t))
  | .fin s _ _, .inf t => if s != t then f.signBit else 0
  | .fin s m e, .fin t n d =>
    if n = 0 then (if m = 0 then f.nanBits else f.encode (.inf (s != t)))
    else
      let k := 2 * f.frac + 8 + n.log2
      let num := m * 2 ^ k
      let q := num / n
      let sticky := if num % n = 0 then 0 else 1
      f.round (s != t) (2 * q + sticky) (e - d - k - 1)

/-- Conversion from one format to another, rounded once. -/
def Fmt.conv (src dst : Fmt) (a : Nat) : Nat :=
  match src.decode a with
  | .nan => dst.nanBits
  | .inf s => dst.encode (.inf s)
  | .fin s m e => dst.round s m e

/-- An integer rounded to the format. -/
def Fmt.ofInt (f : Fmt) (v : Int) : Nat := f.round (decide (v < 0)) v.natAbs 0

/-- A value scaled by 2^k, rounded once. -/
def Fmt.scale (f : Fmt) (a : Nat) (k : Int) : Nat :=
  match f.decode a with
  | .fin s m e => f.round s m (e + k)
  | x => f.encode x

/-- A quotient of integers rounded to the format. -/
def Fmt.ofRatio (f : Fmt) (num : Int) (den : Nat) : Nat :=
  let k := f.frac + 8 + den.log2
  let n := num.natAbs * 2 ^ k
  f.round (decide (num < 0)) (2 * (n / den) + (if n % den = 0 then 0 else 1)) (-(k : Int) - 1)

/-- The nearest integer to a finite value, ties to even (R186, R207). -/
def Fmt.toIntEven (f : Fmt) (a : Nat) : Int :=
  match f.decode a with
  | .fin s m e => let r := roundShift m e; if s then -(r : Int) else r
  | _ => 0

/-- The order of two numbers, false when either is a NaN (R218). -/
def Fmt.lt (f : Fmt) (a b : Nat) : Bool :=
  match f.decode a, f.decode b with
  | .nan, _ => false
  | _, .nan => false
  | .inf s, .inf t => s && !t
  | .inf s, .fin _ _ _ => s
  | .fin _ _ _, .inf t => !t
  | .fin s m e, .fin t n d =>
    let e0 := min e d
    decide (coefAt s m e e0 < coefAt t n d e0)

/-- A complex number, each part a bit pattern of one format. -/
structure Cx where
  re : Nat
  im : Nat
deriving DecidableEq, Repr

/-- Complex zero, +0 + 0j. -/
def Cx.zero : Cx := ⟨0, 0⟩

/-- Complex addition, each part rounded (R169). -/
def cxAdd (f : Fmt) (a b : Cx) : Cx := ⟨f.add a.re b.re, f.add a.im b.im⟩

/-! ### Sine and cosine of the oscillator (R203) -/

/-- π × 2^128, rounded down. -/
def piFixed : Nat := 1069028584064966747859680373161870783301

/-- The alternating Taylor sum x^n/n! − x^(n+2)/(n+2)! + …, on fixed-point numbers of 128 bits. -/
def taylor (x : Int) : Nat → Int → Nat → Int
  | 0, _, _ => 0
  | k + 1, term, n => term + taylor x k (-(term * x / 2 ^ 128 * x / 2 ^ 128) / ((n + 1) * (n + 2) : Nat)) (n + 2)

/-- sin and cos of 2π r / 65,536 for r up to 8,192, as fixed-point numbers of 128 bits. -/
def sinCosOctant (r : Nat) : Int × Int :=
  let x : Int := (2 * piFixed * r / 65536 : Nat)
  (taylor x 20 x 1, taylor x 20 (2 ^ 128) 0)

/-- sin and cos of 2π p / 65,536 as fixed-point numbers of 128 bits, exact at the axes. -/
def sinCosFixed (p : Nat) : Int × Int :=
  let q := p % 65536 / 16384
  let r := p % 16384
  let sc := if r ≤ 8192 then sinCosOctant r else (sinCosOctant (16384 - r)).swap
  match q with
  | 0 => sc
  | 1 => (sc.2, -sc.1)
  | 2 => (-sc.1, -sc.2)
  | _ => (-sc.2, sc.1)

/-- sin and cos of an angle of `r` × 2^-64 turn below one eighth, as fixed-point numbers. -/
def sinCosFine (r : Nat) : Int × Int :=
  let x : Int := (2 * piFixed * r / 2 ^ 64 : Nat)
  (taylor x 24 x 1, taylor x 24 (2 ^ 128) 0)

/-- sin and cos of an angle of `p` × 2^-64 turn, as fixed-point numbers of 128 bits. -/
def sinCosTurn (p : Nat) : Int × Int :=
  let q := p % 2 ^ 64 / 2 ^ 62
  let r := p % 2 ^ 62
  let sc := if r ≤ 2 ^ 61 then sinCosFine r else (sinCosFine (2 ^ 62 - r)).swap
  match q with
  | 0 => sc
  | 1 => (sc.2, -sc.1)
  | 2 => (-sc.1, -sc.2)
  | _ => (-sc.2, sc.1)

/-- A fixed-point number of 128 bits rounded to binary32. -/
def f32OfFixed (v : Int) : Nat := f32.round (decide (v < 0)) v.natAbs (-128)

/-- R203: cos(2π p / 65,536) rounded to binary32. -/
def cosTurn (p : Nat) : Nat := f32OfFixed (sinCosFixed p).2

/-- R203: sin(2π p / 65,536) rounded to binary32. -/
def sinTurn (p : Nat) : Nat := f32OfFixed (sinCosFixed p).1

end Sys2Proof.Machine
end

