-- ==== Sys2Proof/Machine/StData.lean ====
section
/-! DEFINITION. The plain data of ingress, culverts, polders, collectors and totals: chapters 2 to 4
of the spec. -/

namespace Sys2Proof.Machine

/-- States of a culvert slot (R69). -/
inductive SlotState where
  | free | open | closed | zoom
deriving DecidableEq, Repr

/-- A culvert slot (R69, R76): the block it holds, and its sub-blocks that are present, by
path × S + sub-block. A zoom block bears its window and zoom chunk. -/
structure Slot where
  state : SlotState
  epoch : Nat
  block : Nat
  chan : Nat
  chunk : Nat
  openAt : Nat
  closedAt : Nat
  /-- It closed with no sub-block present: it is not computed (R73). -/
  skip : Bool
  subs : Sparse (List Byte)
deriving DecidableEq, Repr

/-- A tile as it is computed: row block and column block (R117), and the block it belongs to. -/
structure TileJob where
  a : Nat
  b : Nat
  /-- The tile period of the block in which its ring serves it (R113, R114). -/
  period : Nat
  slot : Nat
  area : Nat
  epoch : Nat
  chan : Nat
  chunk : Nat
deriving DecidableEq, Repr

/-- A block that a die's rings and weir engines work on or have not finished with. -/
structure Running where
  slot : Nat
  /-- True for a zoom block. -/
  isZoom : Bool
  epoch : Nat
  block : Nat
  chan : Nat
  chunk : Nat
  /-- Tiles whose PROMOTE has not completed or been discarded. -/
  left : Nat
  /-- Weir engines, 0 and 1, that have still to begin the block (R191), and that work on it. -/
  weirWait : List Nat
  weirBusy : List Nat
  /-- What the reads of each weir engine will find when it begins the block (R165, R85). -/
  reads : List CulvertIn
deriving DecidableEq, Repr

/-- A converted chunk in collector staging (R129): the components of each element in canonical
order as pairs of sums, flagged components apart. -/
structure Staged where
  slot : Nat
  area : Nat
  epoch : Nat
  chan : Nat
  chunk : Nat
  i : Nat
  j : Nat
  /-- True when the sums are binary32 patterns (FP16 input). -/
  fp : Bool
  sums : List (Int × Int)
  /-- Which components the guard check flagged, re and im of each element (R101). -/
  flags : List (Bool × Bool)
  /-- The deficits of the tile's baselines by element, none when the tile is intact (R79). -/
  deficits : Option (List Nat)
deriving DecidableEq, Repr

/-- A chunk that is accounted without a promotion (R131). -/
structure LedgerDue where
  area : Nat
  epoch : Nat
  chan : Nat
  chunk : Nat
deriving DecidableEq, Repr

/-- A compute die (chapters 2 to 4). -/
structure Die where
  /-- The M block slots (R68). -/
  slots : List Slot
  /-- What the culvert memory holds, by byte of the culvert window, where no sub-block of a slot is
  present: it is never cleared (R77). -/
  left : Memory
  /-- The plan record whose blocks the die works on (R305). -/
  epoch : Nat
  /-- The lowest block that is not released (R70), and higher ones that are. -/
  released : Nat
  ahead : List Nat
  /-- Blocks begun and not released, oldest first. -/
  runs : List Running
  /-- The collector's ring pointer (R128). -/
  ringPtr : Nat
  staging : List Staged
  ledgerDue : List LedgerDue
  /-- The die is stopped (R548). -/
  stopped : Bool
  /-- A shadow set is ready and staging has no room, since an instant (R129). -/
  hold : Option Nat
  /-- Blocks incomplete and empty since the last EV_INGRESS_GAP, and the lowest (R87). -/
  gapIncomplete : Nat
  gapEmpty : Nat
  gapLowest : Nat
deriving DecidableEq, Repr

/-- A chunk area of the corner-turn buffer (R65, R67): which of the three it is, and the sub-blocks that
are present, by ((position × N) + path) × S + sub-block; their bytes lie in the CORNER_TURN region. -/
structure CtArea where
  area : Nat
  epoch : Nat
  chunk : Nat
  closed : Bool
  moved : Nat
  firstAt : Nat
  subs : List Nat
deriving DecidableEq, Repr

/-- One lane's registers as a tile runs (R28): the sub-sum register and the active accumulators, each with
its guard bits (R96); in FP16 mode the accumulators are binary32 patterns. -/
structure Lane where
  sub : Int × Int
  acc : Int × Int
deriving DecidableEq, Repr

/-- A set of accumulator pairs (R28): the sums of the 128 × 128 lanes by logical row, and what travels
beside them: a shadow set, or a filled active set that waits with its swap marker (R99, R100). -/
structure Shadow where
  job : TileJob
  fp : Bool
  sums : List (Int × Int)
  deficits : Option (List Nat)
deriving DecidableEq, Repr

/-- A polder's change that waits for a block boundary (R108). -/
structure PolderChange where
  role : Nat
  clockStep : Nat
  rows : List Nat
deriving DecidableEq, Repr

/-- A polder (R107). -/
structure Polder where
  /-- ROLE, in flash: 0 active, 1 spare, 2 retired. -/
  role : Nat
  powered : Bool
  testPending : Bool
  /-- When the test became pending (R111: 1 s). -/
  testSince : Nat
  /-- CLOCK_STEP, in flash. -/
  clockStep : Nat
  /-- Retired physical rows, ascending, in flash. -/
  rows : List Nat
  /-- The tiles of the running block that it has still to end, in slot order; the first is the one
  its active accumulators hold. -/
  jobs : List TileJob
  /-- The sub-sum registers of its lanes by logical row × 128 + column, unlisted 0 (R28). -/
  subSums : Sparse (Int × Int)
  /-- The active accumulator pairs, once a tile's last step has been added to them; none while they are
  cleared to zero (R28, R99). -/
  active : Option Shadow
  /-- The shadow set that the collector has not released. -/
  shadow : Option Shadow
  /-- The pipeline is held with a swap marker in place (R100), since an instant. -/
  held : Option Nat
  change : Option PolderChange
  /-- No empty slot came within 1 s: the test runs at the next block boundary (R111). -/
  testForced : Bool
  /-- A woken spare whose test has not passed yet (R122). -/
  waking : Bool
  /-- Retirement is due at the next block boundary (R122). -/
  retireDue : Bool
  /-- The retirement has taken effect; ROLE follows when the spare is active (R122, R123). -/
  gone : Bool
  /-- Mirror mismatches since the last EV_LANE_MIRROR, and the logical row, column and chunk of the first of
  them (DESIGN CHOICE, log entry 104). -/
  mirrorCount : Nat
  mirrorAt : Nat × Nat × Nat
deriving DecidableEq, Repr

/-- A berm entry (R82): deficits by element index, unlisted 0. -/
structure BermEntry where
  index : Nat
  deficits : Sparse Nat
deriving DecidableEq, Repr

/-- A totals tile with its status record (R137), ledger record (R81) and berm entry. Elements are
listed where they differ from +0 + 0j. -/
structure Tile where
  generation : Nat
  integration : Nat
  lastChunk : Nat
  touched : Bool
  overflow : Bool
  nonfinite : Bool
  invalid : Bool
  written : Bool
  chunks : Nat
  dropped : Nat
  berm : Option BermEntry
  elems : Sparse Cx
deriving DecidableEq, Repr

/-- A region's state (R152). -/
inductive RegionState where
  | filling | sealed | drained
deriving DecidableEq, Repr

/-- A totals region of an area (R135, R152). -/
structure Region where
  state : RegionState
  /-- The plan record that lays the region out. -/
  epoch : Nat
  /-- The integration it fills, holds sealed or has drained. -/
  integration : Nat
  /-- The integration has begun (its first touch took place). -/
  begun : Bool
  /-- When the last PROMOTE or LEDGER_ONLY of the integration completed, if one has (R153). -/
  lastOp : Option Nat
  /-- Berm entries in use (R82). -/
  bermUsed : List Nat
  bermReported : Bool
  overflowReported : Bool
  /-- Chunks accounted by LEDGER_ONLY at the seal (R162). -/
  sealLedger : Nat
  /-- The plan record and the integration that was given up in this region under DISCARD (R303). -/
  given : Option (Nat × Nat)
deriving DecidableEq, Repr

/-- How far a channel is accounted for (R131): chunks below `next` are done in every tile, and
`tiles` of chunk `next` are. -/
structure Account where
  next : Nat
  tiles : Nat
deriving DecidableEq, Repr

/-- A tile operation descriptor slot of a stack controller's window (R149, R459). -/
structure TileDesc where
  bytes : List Byte
deriving DecidableEq, Repr

/-- A snapshot in progress (R156, R157). -/
structure Snapshot where
  id : Nat
  channels : List Nat
  /-- Bytes of the buffer in use (R157). -/
  used : Nat
  /-- The first boundary copied (R162). -/
  firstAt : Option Nat
deriving DecidableEq, Repr

/-- Ingress, correlation and totals. -/
structure DataS where
  dies : RegFile Die 4
  ct : List CtArea
  /-- When the first frame of each recent chunk arrived (R67): epoch, chunk, instant. -/
  ctSeen : List (Nat × Nat × Nat)
  /-- The plan record and lowest chunk of the corner-turn buffer that has not closed, and higher chunks
  that have (R67). -/
  ctOpen : Nat × Nat
  ctAhead : List Nat
  polders : RegFile Polder 168
  /-- Retired rings, in flash (R547). -/
  ringsRetired : List Nat
  /-- Tiles by key: area, region, channel, tile number. -/
  tiles : Sparse Tile
  /-- Regions by area × 2 + region. -/
  regions : RegFile Region 4
  accounts : Sparse Account
  /-- Tile operation windows by canal address of the descriptor (R149, R459). -/
  windows : Sparse (List Byte)
  snapshot : Option Snapshot
  snapshots : Nat
  /-- Source IDs seen since the commit, in order (R86). -/
  sources : List Nat
  /-- Discards since the last EV_INGRESS_DISCARD, by logical port × 32 + counter (R87). -/
  discards : Sparse Nat
deriving DecidableEq, Repr

end Sys2Proof.Machine
end

