-- ==== Sys2Proof/Machine/StEgress.lean ====
section
/-! DEFINITION. The plain data of product egress, compression and decompression: chapters 7 and 8
of the spec. -/

namespace Sys2Proof.Machine

/-- What a packet or unit is accounted to when it leaves. -/
inductive Owner where
  | none
  /-- A beam output buffer (R191). -/
  | beam (buf : Nat)
  /-- Bytes of the snapshot buffer (R157). -/
  | snap (bytes : Nat)
  /-- Threshold records (R222). -/
  | records (n : Nat)
  /-- Channel-tiles of a drain: area × 2 + region, integration, how many (R155). -/
  | tiles (reg integ n : Nat)
deriving DecidableEq, Repr

/-- The header fields of a unit that its packets share (R231, R233). -/
structure Head where
  stream : Nat
  integration : Nat
  chan : Nat
  chans : Nat
  flags : Nat
deriving DecidableEq, Repr

/-- A product packet that is formed and waits (R235, R252). -/
structure Packet where
  stream : Nat
  seq : Nat
  bytes : List Byte
  owner : Owner
  /-- END_OF_INTEGRATION of a drain: area × 2 + region (R256). -/
  eoi : Option Nat
  /-- Position in the compressed sequence that this packet ends at (R270). -/
  chainEnd : Option Nat
deriving DecidableEq, Repr

/-- What one packet of a unit carries: the fields that differ from packet to packet (R232 to R234). -/
structure Piece where
  fmt : Nat
  flags : Nat
  i : Nat
  j : Nat
  first : Nat
  elems : Nat
  start : Nat
  stop : Nat
  bytes : List Byte
deriving DecidableEq, Repr

/-- A unit (R258), cut into the packets that carry it uncompressed; `whole` holds the range fields
that it carries whole (R247). `last` is false for a run of equal FORMAT that is not the last of a
block's beams: uncompressed, such a run does not end with LAST. -/
structure EUnit where
  head : Head
  whole : Piece
  pieces : List Piece
  last : Bool
  owner : Owner
  eoi : Option Nat
deriving DecidableEq, Repr

/-- A staging buffer in a chain, with its descriptor (R269). -/
structure ChainBuf where
  number : Nat
  next : Option Nat
  headSplit : Nat
  tailSplit : Bool
  closed : Bool
  stream : Nat
  unitStart : Option Nat
  firstByte : Nat
  /-- The position of its first byte among all that the stream has compressed. -/
  pos : Nat
  /-- FILL; the bytes lie in the EGRESS_STAGING region (R268). -/
  fill : Nat
deriving DecidableEq, Repr

/-- A unit that waits for a compressor or is in one: the trim in force at its assignment (R257), its place
among the units in the order in which they became ready (R266), since when it holds for want of a buffer
and the cycles of that hold already counted (R271), and how many of its compressed bytes its chain has
taken. -/
structure CompJob where
  unit : EUnit
  trim : Nat
  order : Nat
  holdSince : Option Nat
  held : Nat
  put : Nat
deriving DecidableEq, Repr

/-- A decompression job (R272). -/
structure DecompJob where
  dest : Nat
  inst : Nat
  reserved : Nat
  inLen : Nat
  outLen : Nat
  offset : Nat
  integration : Nat
  produced : Nat
  result : Nat
  input : List Byte
  /-- The bulk transfer it belongs to: slot and identifier (R496). -/
  slot : Nat
  bulk : Nat
  started : Bool
deriving DecidableEq, Repr

/-- One read of a drain, of one stream: the elements of a (group) tile, records, or deficits. -/
inductive DrainItem where
  | elems (chans : List Nat) (t : Nat)
  | recs (chan : Nat)
  | defs (chan t : Nat)
deriving DecidableEq, Repr

/-- The drain of one stream of a sealed region (R241). -/
structure DrainStream where
  stream : Nat
  items : List DrainItem
  /-- Items whose unit has been formed and has not wholly left (R241). -/
  flight : List DrainItem
  sent : Nat
  done : Bool
deriving DecidableEq, Repr

/-- The drain of a region (R241, R155). -/
structure Drain where
  area : Nat
  region : Nat
  integration : Nat
  epoch : Nat
  sealedAt : Nat
  streams : List DrainStream
  /-- Channel-tiles that were not sent for a STALE read of them or of one in their group: chan × 4,096 +
  tile (R155, R243). -/
  lost : List Nat
  /-- Those among them whose own READ returned STALE: they send no record and no deficits (R241, R243). -/
  stale : List Nat
deriving DecidableEq, Repr

/-- Egress. -/
structure EgressS where
  /-- SEQUENCE of the next packet by STREAM_ID (R235). -/
  seq : Sparse Nat
  /-- Packets formed and waiting, in order of forming. -/
  queue : List Packet
  drains : List Drain
  /-- When READY or the last switch-on of PD38 came (R256). -/
  hostSince : Nat
  /-- When the last TELEMETRY packet was latched (R250). -/
  telemetryAt : Nat
  /-- Units that wait for a compressor, oldest first (R266). -/
  ready : List CompJob
  /-- The sixteen compressors. -/
  comps : RegFile (Option CompJob) 16
  /-- Compressors out of service (R549). -/
  compOut : List Nat
  /-- Order number of the next unit that becomes ready. -/
  nextOrder : Nat
  /-- The staging buffers that belong to a chain (R269). -/
  chains : List ChainBuf
  /-- Compressed bytes written so far, by stream, and how many at the last commit (R269). -/
  written : Sparse Nat
  atCommit : Sparse Nat
  jobs : List DecompJob
  decompOut : Bool
  /-- Hold cycles since the last EV_SPILLWAY_FULL, and the streams that held in them (R278). -/
  spillHeld : Nat
  heldStreams : List Nat
deriving DecidableEq, Repr

end Sys2Proof.Machine
end

