-- ==== Sys2Proof/Machine/StMem.lean ====
section
/-! DEFINITION. The plain data of the stacked DRAM and its controllers: chapter 13 of the spec.
Channels are numbered 16 × stack + channel. -/

namespace Sys2Proof.Machine

/-- STATE of a channel status word (R451). -/
inductive ChanState where
  | absent | training | online | retraining | outage | retired
deriving DecidableEq, Repr

/-- STATE as coded (R451). -/
def ChanState.code : ChanState → Nat
  | .absent => 0 | .training => 1 | .online => 2 | .retraining => 3 | .outage => 4 | .retired => 5

/-- A channel. -/
structure ChanS where
  state : ChanState
  /-- Stack temperature at the last training (R444). -/
  tempAt : Int
  /-- When the last training ended (R444). -/
  trainedAt : Nat
  /-- OUTER_CORR at the start of the running second, and that start (R444). -/
  corrBase : Nat
  corrSince : Nat
  /-- UNCORR and POISON_READS at the last EV_MEM_ERRORS (R454). -/
  uncorrBase : Nat
  poisonBase : Nat
deriving DecidableEq, Repr

/-- Why a channel is retrained (R444). -/
inductive Trigger where
  | corr | temp | period | command
deriving DecidableEq, Repr

/-- A trigger as EV_MEM_RETRAIN carries it, in the order of R444. -/
def Trigger.code : Trigger → Nat
  | .corr => 0 | .temp => 1 | .period => 2 | .command => 3

/-- A step-down or a requested move of a stack (R446, R447). -/
structure Outage where
  since : Nat
  /-- The bin being tried. -/
  bin : Nat
  /-- The bin before the first step. -/
  from_ : Nat
  /-- The bin that ZCP_MEM_SPEED asked for, if it caused the outage. -/
  asked : Option Nat
deriving DecidableEq, Repr

/-- A stack and its controller. -/
structure StackS where
  fitted : Bool
  bin : Nat
  temp : Int
  /-- Channels that wait for retraining, in the order of their triggers (R444). -/
  queue : List (Nat × Trigger)
  /-- GATHER slices done on the first channel of the queue; none while none runs (R445). -/
  gather : Option Nat
  outage : Option Outage
  /-- When the last GATHER slice was taken (R445). -/
  sliceAt : Nat
  /-- A held ZCP_MEM_SPEED request: the bin (R447). -/
  held : Option Nat
deriving DecidableEq, Repr

/-- A rank of a pseudo-channel (R437, R439). -/
structure RankS where
  postponed : Nat
  /-- When a refresh was last due (R437). -/
  dueAt : Nat
  lastReq : Nat
  powerDown : Bool
deriving DecidableEq, Repr

/-- A bank's activate-count table (R438): the refresh window it belongs to, rows and counts. -/
structure BankTab where
  window : Nat
  rows : List (Nat × Nat)
deriving DecidableEq, Repr

/-- A region's place (R430, R431). -/
structure Place where
  kind : Nat
  base : Nat
  size : Nat
deriving DecidableEq, Repr

/-- The DRAM. -/
structure MemS where
  /-- The channel list of the last boot (R427). -/
  list : List Nat
  /-- Channels recorded as retired in flash (R443, R448). -/
  retiredFlash : List Nat
  /-- Retirements since boot, oldest first: the channel, and the capacity in GiB before it (R448). -/
  redirects : List (Nat × Nat)
  /-- Markers of the last retirement are not all written (R449). -/
  marking : Bool
  /-- RESERVE exists (R449). -/
  reserve : Bool
  /-- mem.interleave_log2 of the last boot (R428). -/
  grain : Nat
  chans : RegFile ChanS 128
  stackFile : RegFile StackS 8
  /-- Places of the regions in force (R431). -/
  places : List Place
  /-- Places given up whose last use has not ended (R431). -/
  oldPlaces : List Place
  /-- Bytes by location: channel × 2^30 + channel offset. -/
  cells : Memory
  /-- Codewords, by location / 64, whose marker differs from what the retirements put there (R442,
  R449). -/
  poison : Sparse Bool
  /-- Ranks by (channel × 2 + pseudo-channel) × 4 + SID. -/
  ranks : Sparse RankS
  /-- Activate-count tables by rank × 16 + bank group × 4 + bank. -/
  tables : Sparse BankTab
  /-- Open rows on the FZ4096-A4, by bank: the row and its last access (R436). -/
  openRows : Sparse (Nat × Nat)
  /-- Grains of the record regions whose records RECORD_SAME_STACK has counted since the last placement
  (R432). -/
  sameStack : List Nat
deriving DecidableEq, Repr

end Sys2Proof.Machine
end

