-- ==== Sys2Proof/Machine/StPlan.lean ====
section
/-! DEFINITION. The plain data of plans: chapter 9 of the spec. -/

namespace Sys2Proof.Machine

/-- A plan: the COMMIT values that its commit carried, and what admission made of them. A shed that
takes effect makes a new record of the same PLAN_ID with a later `sc` and `epoch`. -/
structure Plan where
  /-- PLAN_ID (R282). -/
  id : Nat
  /-- The model's number of this record, rising with every boundary. -/
  epoch : Nat
  /-- The epoch of the commit that this record comes from; a shed keeps it. -/
  commit : Nat
  /-- The commit boundary s_c, or the boundary at which the shed took effect (R300, R308). -/
  sc : Nat
  /-- Values of the COMMIT items, by item key. -/
  cfg : Sparse Nat
  /-- The channel list after shedding (R297). -/
  channels : List Nat
  /-- n of SHED_BLOCKS (R298). -/
  skipN : Nat
  /-- SHED_APPLIED (R295). -/
  shed : Nat
  /-- The skew tolerance s (R75), in ticks. -/
  skew : Nat
  /-- The weight banks that this plan began with are its own fresh pair (R176). -/
  freshBanks : Bool
  /-- The tide time of its commit point, from which its boundaries are known (R387). -/
  known : Nat
deriving DecidableEq, Repr

/-- Plans and commits. -/
structure PlanS where
  /-- The plan in force (R281). -/
  running : Option Plan
  /-- The scheduled commit, its commit point passed or not (R300, R306). -/
  next : Option Plan
  pointPassed : Bool
  /-- The new shed that waits for its boundary (R308). -/
  shedDue : Option Plan
  /-- Earlier records whose blocks a die still finishes (R305), newest first. -/
  old : List Plan
  /-- The last PLAN_ID given (R282). -/
  lastId : Nat
  /-- The last epoch given. -/
  lastEpoch : Nat
deriving DecidableEq, Repr

end Sys2Proof.Machine
end

