-- ==== Sys2Proof/Machine/StSluice.lean ====
section
/-! DEFINITION. The plain data of the sluice cores, their movers, taps and stock kernels: chapter
10 of the spec. -/

namespace Sys2Proof.Machine

/-- The state of a core (R344). -/
inductive CoreState where
  | off | loadable | running | waiting | halted | trapped
deriving DecidableEq, Repr

/-- A core's state as ZCP_SLUICE_STATUS and EV_SLUICE_STATE code it (order of R344). -/
def CoreState.code : CoreState → Nat
  | .off => 0 | .loadable => 1 | .running => 2 | .waiting => 3 | .halted => 4 | .trapped => 5

/-- A physical register of a core (R314, R317). `sh` selects the shadow bank. -/
inductive SReg where
  /-- D0 to D15 of a bank. -/
  | d (sh : Bool) (n : Nat)
  /-- D16 to D31, as physical numbers 0 to 15. -/
  | rot (n : Nat)
  /-- A0 to A3. -/
  | a (sh : Bool) (n : Nat)
  /-- P0 to P7. -/
  | p (sh : Bool) (n : Nat)
  /-- P8 to P15, as 0 to 7. -/
  | ph (n : Nat)
  /-- SW and RRB. -/
  | sw (sh : Bool)
  | rrb (sh : Bool)
  /-- Another control register, by its number (R317). -/
  | cr (n : Nat)
deriving DecidableEq, Repr

/-- The store key of a register. -/
def SReg.key : SReg → Nat
  | .d sh n => (if sh then 32 else 0) + n
  | .rot n => 16 + n
  | .a sh n => (if sh then 52 else 48) + n
  | .p sh n => (if sh then 72 else 56) + n
  | .ph n => 64 + n
  | .sw sh => if sh then 144 else 80
  | .rrb sh => if sh then 145 else 81
  | .cr n => 80 + n

/-- A result that has not landed: register, value, and the first cycle that sees it (R328). -/
structure Late where
  reg : SReg
  val : Nat
  land : Nat
deriving DecidableEq, Repr

/-- A sluice core. -/
structure Core where
  state : CoreState
  /-- Owner in force: HOST (R313). -/
  host : Bool
  /-- Program SRAM by word number, data SRAM by byte (R311); unlisted words and bytes read zero
  (log entry 3). -/
  prog : Sparse Nat
  data : Memory
  /-- Registers by `SReg.key`; unlisted ones hold 0, their reset value. -/
  regs : Sparse Nat
  /-- Results on their way (R328). -/
  late : List Late
  pc : Nat
  /-- The 64-bit cycle count, and what the last read of CYCLE_LO latched (R317). -/
  cycle : Nat
  cycleHi : Nat
  /-- The cycle in which the last bundle issued, and its NI bit (R337, R338). -/
  lastIssue : Nat
  lastNI : Bool
  /-- What held in that cycle: main-bank SW.IE outside a handler, IRQ_EN, and the request bits of
  IRQ_PEND (R337). -/
  lastIE : Bool
  lastEN : Nat
  lastPend : Nat
  /-- SW.IN: the shadow bank is selected. -/
  inHandler : Bool
  /-- Data addresses of submitted mover descriptors, oldest first (R347). -/
  moverQueue : List Nat
  /-- A stop that waits for an interruptible boundary, since an instant (R346). -/
  stopSince : Option Nat
  /-- The owner, true for HOST, that a commit gives the core once it has stopped (R344). -/
  newHost : Option Bool
  /-- When the core last trapped, and whether that was within 60 s of its trap before (R359). -/
  trapAt : Option Nat
  again : Bool
  /-- A STOCK core that a second trap has left TRAPPED (R359). -/
  left : Bool
deriving DecidableEq, Repr

/-- Tap records that a closed block still owes a core (R350, R351): record number `next` of `count`
in order of sub-block and path. -/
structure TapDue where
  core : Nat
  die : Nat
  slot : Nat
  epoch : Nat
  block : Nat
  next : Nat
  count : Nat
deriving DecidableEq, Repr

/-- A pair of sluice.stats_list with its window and its stats table entry (R354, R355). -/
structure StatPair where
  chan : Nat
  path : Nat
  /-- The STOCK core that taps it. -/
  core : Option Nat
  count : Nat
  s1 : Nat
  s2 : Nat
  power : Nat
  sk : Nat
  window : Nat
  flag : Bool
  zero : Bool
  /-- FLAG has changed since the last EV_RFI_FLAG (R355). -/
  changed : Bool
deriving DecidableEq, Repr

/-- A gain solve that waits for PD33 (R356, R357): its command, and what it names. -/
structure SolveReq where
  slot : Nat
  seq : Nat
  area : Nat
  region : Nat
  chans : List Nat
deriving DecidableEq, Repr

/-- The sluice array. -/
structure SluiceS where
  cores : RegFile Core 64
  /-- The core of each cluster that its mover served last (R348). -/
  movers : RegFile Nat 8
  taps : List TapDue
  stats : List StatPair
  /-- Pairs whose FLAG changed since the last EV_RFI_FLAG, and the channel × 2^16 + path of the first of
  them (R355). -/
  rfiChanged : Nat
  rfiFirst : Nat
  /-- PD33 is held on by a gain solve (R357). -/
  solveHold : Bool
  /-- Gain solves that wait for PD33. -/
  solves : List SolveReq
deriving DecidableEq, Repr

end Sys2Proof.Machine
end

