-- ==== Sys2Proof/Machine/StTime.lean ====
section
/-! DEFINITION. The plain data of tide time, PTP, the pulse outputs, the timing inputs and the
references: chapters 11 and 12 of the spec. Instants are counts of 2^-16 ns. -/

namespace Sys2Proof.Machine

/-- The clock parts of an Announce that the comparison of R374 reads, in its order: priority1,
clockClass, clockAccuracy, offsetScaledLogVariance, priority2, grandmasterIdentity, stepsRemoved. -/
structure Dataset where
  prio1 : Nat
  cls : Nat
  acc : Nat
  var : Nat
  prio2 : Nat
  gm : Nat
  steps : Nat
deriving DecidableEq, Repr

/-- The selected time transmitter of a host port (R374, R375). -/
structure PtpSel where
  /-- sourcePortIdentity, ten bytes. -/
  src : Nat
  data : Dataset
  lastAnnounce : Nat
  logAnnounce : Int
  lastSync : Nat
  logSync : Int
deriving DecidableEq, Repr

/-- A two-step Sync that waits for its Follow_Up (R375). -/
structure PendSync where
  seq : Nat
  corr : Int
  rxTime : Nat
deriving DecidableEq, Repr

/-- A PTP time receiver port, H0 or H1 (R374). -/
structure PtpRx where
  sel : Option PtpSel
  pendSync : Option PendSync
  /-- The last offset measurement and when it was made (R396). -/
  offset : Option (Int × Nat)
  /-- The last mean path delay and when it was made (R396). -/
  pathDelay : Option (Int × Nat)
  /-- t2 − t1 of the last complete Sync, corrections removed. -/
  syncDiff : Option Int
  /-- The Delay_Req or Pdelay_Req that waits for its answer: sequenceId, time-stamp (R374). -/
  req : Option (Nat × Nat)
  /-- A two-step Pdelay_Resp that waits for its Follow_Up: sequenceId, t2, t4, correction. -/
  resp : Option (Nat × Nat × Nat × Int)
  nextReq : Nat
deriving DecidableEq, Repr

/-- A time transmitter port (R372, R373). -/
structure PtpTx where
  syncSeq : Nat
  announceSeq : Nat
  /-- When the requests of the last second were answered, newest first (R373). -/
  answers : List Nat
deriving DecidableEq, Repr

/-- A transmit time-stamp entry (R379, R380). -/
structure TxTs where
  mtype : Nat
  domain : Nat
  /-- 0 firmware, 1 to 4 ZCP session 0 to 3. -/
  owner : Nat
  seq : Nat
  stepped : Bool
  time : Nat
deriving DecidableEq, Repr

/-- The transmit time-stamp queue of a port (R379, R381, R382). -/
structure TxQueue where
  entries : List TxTs
  ovf : Bool
  /-- Entries removed since the last EV_TXTS_OVERFLOW (R381). -/
  removed : Nat
deriving DecidableEq, Repr

/-- The mode that an output runs in (R383). -/
inductive OutMode where
  | off | pulse | mark | gate
deriving DecidableEq, Repr

/-- A running program (R384, R385). -/
structure Prog where
  start : Nat
  period : Nat
  width : Nat
  count : Nat
  lowPol : Bool
  markSrc : Nat
  markOff : Int
  /-- The first edge k_0 (R385), or the first mark's integration number (R387). -/
  first : Nat
  /-- The next edge or integration number to act. -/
  next : Nat
  /-- The tide time at which the program was applied (R385). -/
  armed : Nat
  /-- MARK: the plan record whose boundary `next` is; 0 before the first (R387). -/
  plan : Nat
  /-- Edges earlier than this tide time are not produced (R386). -/
  notBefore : Nat
deriving DecidableEq, Repr

/-- A pulse that is asserted (R385, R386, R393). -/
structure Pulse where
  /-- Tide time of deassertion. -/
  untilTide : Nat
  /-- Timing-clock instant of deassertion (R393). -/
  untilClock : Nat
  lowPol : Bool
deriving DecidableEq, Repr

/-- A gate output's pending assertions and deassertions (R223). -/
structure GateS where
  asserted : Bool
  assertAt : List Nat
  /-- END_TIDE_TIME of the leaving record plus delay and hold, of each deassertion that no assertion has
  cancelled. -/
  deassertAt : List Nat
  /-- Detectors of the named windows that are in a chosen state. -/
  high : Nat
deriving DecidableEq, Repr

/-- One of the nine pulse outputs (R383 to R388). -/
structure Out where
  mode : OutMode
  prog : Option Prog
  pulse : Option Pulse
  /-- The polarity that the inactive level follows (R386). -/
  lowPol : Bool
  produced : Nat
  /-- Edges skipped since the last EV_PULSE_SKIPPED and the first tide time skipped (R395). -/
  skipped : Nat
  firstSkipped : Nat
  gate : GateS
  /-- The level at the pin, none while high-impedance (R563). -/
  pin : Option Bool
deriving DecidableEq, Repr

/-- A capture record (R391). -/
structure EdgeRec where
  input : Nat
  edge : Nat
  seq : Nat
  time : Nat
deriving DecidableEq, Repr

/-- A timing input (R390 to R392). -/
structure TIn where
  last : Option Nat
  waiting : List EdgeRec
  nextSeq : Nat
  /-- When the records of the last second were delivered, newest first (R392). -/
  delivered : List Nat
deriving DecidableEq, Repr

/-- Monitoring states (R399). -/
inductive MonState where
  | off | failed | qualifying | restoring | selectable | suspect
deriving DecidableEq, Repr

/-- MON_STATE as coded (R400). -/
def MonState.code : MonState → Nat
  | .off => 0 | .failed => 1 | .qualifying => 2 | .restoring => 3 | .selectable => 4 | .suspect => 5

/-- A reference (R396 to R400). -/
structure RefS where
  mon : MonState
  /-- The level of R398 before timing.ref_ql_fixed. -/
  ql : Nat
  cause : Nat
  /-- When QUALIFYING or RESTORING began (R399). -/
  since : Nat
  /-- SELECTABLE at some time since boot or OFF (R399). -/
  been : Bool
  /-- The conditions of R396 that hold now: 10 MHz, PPS, ToD, transmitter, ESMC, link, frequency. -/
  sigOk : Bool
  ppsOk : Bool
  todOk : Bool
  ptpOk : Bool
  esmcOk : Bool
  linkOk : Bool
  freqOk : Bool
  /-- FREQ_OFFSET, 0.01 ppb (R400). -/
  freq : Int
  /-- The latest measurement of tide time minus the reference's time (R400). -/
  offset : Int
  /-- The least and the greatest such measurement since the reference was last invalid (R400). -/
  offRange : Option (Int × Int)
  lastPps : Option Nat
  lastTod : Option Nat
  /-- The seconds field of the last valid ToD sentence since the line became valid (R397). -/
  todSecond : Option Nat
  lastEsmc : Option Nat
  /-- While SUSPECT: the reference that it disagrees with (R405, R407). -/
  disagrees : Option Nat
deriving DecidableEq, Repr

/-- STATE of the DPLL (R418). -/
inductive Dpll where
  | freerun | acquiring | locked | switching | holdover | expired
deriving DecidableEq, Repr

/-- STATE as coded (R420). -/
def Dpll.code : Dpll → Nat
  | .freerun => 0 | .acquiring => 1 | .locked => 2 | .switching => 3 | .holdover => 4 | .expired => 5

/-- Tide time, its users and its references. -/
structure TimeS where
  /-- The timing clock, counted from power-on (R361); it never steps. -/
  now : Nat
  /-- Tide time (R360). -/
  tide : Nat
  /-- Tide-time transmitter ports by logical port number (R372). -/
  tx : Sparse PtpTx
  rx : RegFile PtpRx 2
  /-- Transmit time-stamp queues by port, 0 to 129 (R379). -/
  txts : Sparse TxQueue
  /-- Departure instants of the messages in the transparent clock's store, by egress port (R378). -/
  tcHeld : List (Nat × Nat)
  outs : RegFile Out 9
  tins : RegFile TIn 2
  refs : RegFile RefS 6
  dpll : Dpll
  /-- STATE before the running switch began (R411). -/
  prior : Dpll
  /-- TIME_ORIGIN (R420). -/
  origin : Nat
  selected : Option Nat
  /-- CANDIDATE and when its switch began (R408). -/
  candidate : Option (Nat × Nat)
  /-- The commit point of the last switch (R406). -/
  lastCommit : Option Nat
  /-- The next switch is free of the revert hold (R406, R411). -/
  noHold : Bool
  /-- The named reference of a ZCP_REF_SELECT that waits for a switch to complete (R411). -/
  wanted : Option Nat
  /-- D at rest (R409); while slewing, D at the start of the slew. -/
  debt : Int
  /-- When the slew began (R414). -/
  slew : Option Nat
  /-- The scheduled tide second S (R413). -/
  realign : Option Nat
  estimateShort : Bool
  /-- The QL of the last time-capable reference selected, q_t (R421). -/
  lastQl : Nat
  /-- When HOLDOVER was entered (R418). -/
  holdoverAt : Nat
  /-- Since when the DPLL has been locked: from LOCKED on, through hitless switches, until HOLDOVER (R416;
  log entry 119). -/
  lockedSince : Option Nat
  /-- When ACQUIRING was last entered (R417). -/
  acquireAt : Nat
  /-- The holdover estimate and its drift term against the OCXO, 0.01 ppb and 0.01 ppb per day (R416). -/
  estimate : Int
  drift : Int
  /-- When the running disagreement window began (R407). -/
  disagreeAt : Nat
  /-- Source lag extremes of the telemetry period (R369), by source index. -/
  lagMin : Sparse Int
  lagMax : Sparse Int
deriving DecidableEq, Repr

end Sys2Proof.Machine
end

