-- ==== Sys2Proof/Machine/StWeir.lean ====
section
/-! DEFINITION. The plain data of the weir engines and the weight banks: chapter 5 of the spec. -/

namespace Sys2Proof.Machine

/-- Bank states (R177). -/
inductive BankState where
  | free | armed | inForce | draining
deriving DecidableEq, Repr

/-- A weight bank (R173, R177). -/
structure Bank where
  state : BankState
  /-- E of an ARMED bank; of an IN_FORCE one, the boundary that brought it into force; of a DRAINING
  one, the boundary that ended it (R179, R180). -/
  boundary : Nat
  /-- Elements by index, W_RE in [15:0] and W_IM in [31:16]; unlisted +0. -/
  weights : Sparse Nat
deriving DecidableEq, Repr

/-- The output of one beam of one block (R185 to R191): the voltage bytes and the averages of the
detected output as they leave, the absent counts, and whether a value is nonfinite. -/
structure BeamOut where
  beam : Nat
  volt : List Byte
  voltBad : Bool
  det : List Byte
  detBad : List Bool
  absent : List Nat
deriving DecidableEq, Repr

/-- A block's beams, formed by the engines of its die (R164). -/
structure BeamBlock where
  die : Nat
  slot : Nat
  epoch : Nat
  chan : Nat
  chunk : Nat
  outs : List BeamOut
  /-- Engines that have not written their last output (R191). -/
  busy : List Nat
deriving DecidableEq, Repr

/-- A beam output buffer in use (R191): packets or units of its block that have not left. -/
structure BeamBuf where
  id : Nat
  die : Nat
  left : Nat
deriving DecidableEq, Repr

/-- A weir engine d.e, by 2d + e. -/
structure WeirEng where
  /-- Out of service (R545). -/
  out : Bool
  /-- It holds for want of an output buffer, since an instant (R191). -/
  holdSince : Option Nat
deriving DecidableEq, Repr

/-- The weir. -/
structure WeirS where
  /-- The pair of banks that commands act on. -/
  banks : RegFile Bank 2
  /-- The commit whose fresh pair it is (R176). -/
  owner : Nat
  /-- The running plan's pair while its blocks are still beamformed (R176). -/
  oldBanks : Option (RegFile Bank 2)
  engines : RegFile WeirEng 8
  blocks : List BeamBlock
  bufs : List BeamBuf
  nextBuf : Nat
  /-- One past the highest sample of a block that an engine has begun (R178). -/
  begun : Nat
  /-- The stock weight kernel (R183, R184): steering by beam × 8,192 + path, s0, and the last
  boundary it filled or skipped. -/
  steer : Sparse Steer
  ref : Nat
  lastEpoch : Nat
  /-- Beams with nonfinite outputs since the last EV_BEAM_NONFINITE, by beam: voltage count,
  detected count, first sample counter (R196). -/
  nonfin : Sparse (Nat × Nat × Nat)
deriving DecidableEq, Repr

end Sys2Proof.Machine
end

