-- ==== Sys2Proof/Machine/StZoom.lean ====
section
/-! DEFINITION. The plain data of the zoom engine: chapter 6 of the spec. -/

namespace Sys2Proof.Machine

/-- A source block in one of the two staging areas of its channel (R200): the DPA at which the area begins,
whether the block has closed, and its sub-blocks by path × S + sub-block: those copied while it fills, the
input bitmap once it is closed (R201). The samples lie in the ZOOM_STAGING region. -/
structure ZSource where
  epoch : Nat
  chan : Nat
  chunk : Nat
  at_ : Nat
  closed : Bool
  subs : List Nat
deriving DecidableEq, Repr

/-- A value in the half-band chain: two binary32 components, and whether every source sample in
its span is present and at or after s_c (R205, R208). -/
structure ZVal where
  re : Nat
  im : Nat
  clean : Bool
deriving DecidableEq, Repr

/-- The filter state of one stage of one path: the index of the next input, and the inputs it still
needs, newest first (R202, R205). -/
structure ZStage where
  next : Int
  hist : List ZVal
deriving DecidableEq, Repr

/-- A requantised output (R207, R208). -/
structure ZOut where
  re : Int
  im : Int
  clean : Bool
deriving DecidableEq, Repr

/-- A completed zoom block in a block buffer (R209, R210): its number z, and the bytes of each
sub-block that is present by path × S + sub-block. -/
structure ZBlock where
  z : Nat
  win : Nat
  epoch : Nat
  chunk : Nat
  subs : Sparse (List Byte)
deriving DecidableEq, Repr

/-- A threshold detector (R216 to R219): the state as R218 codes it, the averages that the hold-off
still ignores, and the average that is being formed. -/
structure Det where
  state : Nat
  holdoff : Nat
  skipped : Bool
  /-- The integer sum (path detector) or the binary32 sum (beam detector). -/
  sum : Nat
  count : Nat
  bad : Bool
  /-- A beam detector's next average, counted from sample counter 0, once its window has started (R217). -/
  next : Option Nat
  /-- Detected values that wait for their average, by number: the value, and whether it spoils the average. -/
  vals : Sparse (Nat × Bool)
deriving DecidableEq, Repr

/-- A finished average on its way to its detector (R216, R217, R220): its last source sample, the window,
the kind of detector and its path or beam, and the record of the plan. -/
structure Avg where
  last : Nat
  w : Nat
  kind : Nat
  index : Nat
  skip : Bool
  value : Nat
  epoch : Nat
deriving DecidableEq, Repr

/-- A zoom window. -/
structure ZWin where
  /-- The plan record whose parameters the window runs under. -/
  epoch : Nat
  /-- The next chunk of the source channel to be streamed, and its sub-blocks already streamed. -/
  next : Nat
  pos : Nat
  /-- The source sample at which the filter state begins (R199). -/
  start : Nat
  /-- Filter state by path and stage; a path without an entry is as the restart left it. -/
  filt : List (List ZStage)
  /-- The index u of the first output in `outs`. -/
  base : Nat
  /-- Outputs of the zoom chunk that is being filled, by path, oldest first (R209). -/
  outs : List (List ZOut)
  /-- The block that waits for a die (R210). -/
  waiting : Option ZBlock
  /-- EVENT_NUMBER of the next record (R221). -/
  eventNumber : Nat
  /-- Detectors that differ from the restart, by path, or 8,192 + beam (R215). -/
  dets : Sparse Det
  /-- The commit whose blocks the beam detectors follow. -/
  beamCommit : Nat
  /-- Blocks lost since the last EV_ZOOM_LOST and the lowest k_z (R211, R225). -/
  lost : Nat
  lostLow : Nat
deriving DecidableEq, Repr

/-- The zoom engine. -/
structure ZoomS where
  sources : List ZSource
  /-- Averages that wait their turn (R220), in order. -/
  avgs : List Avg
  wins : RegFile ZWin 32
  /-- The number of the next zoom block (R210). -/
  blockNumber : Nat
  /-- Records that wait, oldest first, with the instant of production (R222, R249). -/
  records : List (Nat × List Byte)
  /-- Records in EVENTS packets that have not left. -/
  inPackets : Nat
  /-- Records lost since the last EV_THRESHOLD_LOST (R222). -/
  lost : Nat
  /-- The engine is out of service (R545). -/
  out : Bool
deriving DecidableEq, Repr

end Sys2Proof.Machine
end

