-- ==== Sys2Proof/Machine/State.lean ====
section
/-! DEFINITION. The state of the module, its reset value, and the reasons a step can stop. -/

namespace Sys2Proof.Machine

/-- Why a step stops with a fault. No meaning of this model raises one: every condition that the
spec describes leads on to a next state (safe: nothing is claimed through it). -/
inductive Fault where
  /-- An access that the spec says no unit answers and gives no outcome. Raised by no meaning. Safe. -/
  | noOutcome
deriving DecidableEq, Repr

/-- Why a step is refused. -/
inductive Refusal where
  /-- A command without a meaning yet. Raised by its arm of the dispatcher only. Safe. -/
  | notModelled (mnemonic : String)
deriving DecidableEq, Repr

/-- What leaves the module. -/
inductive Sent where
  /-- A ZCP datagram on a host port to an endpoint (R469). -/
  | zcp (port : Nat) (dst : Endpoint) (bytes : List Byte)
  /-- A PTP message on a logical port: where it goes, and its transmit time-stamp (R366, R370, R373). -/
  | ptp (port : Nat) (dest : PtpTo) (bytes : List Byte) (at_ : Nat)
  /-- A PTP message that the transparent clock forwards: egress port, transport, UDP checksum (R378). -/
  | tc (port : Nat) (transport : Nat) (udpSum : Nat) (bytes : List Byte)
  /-- A frame that an ingress port or the other side of a host port sends, without FCS (R51). -/
  | eth (port : Nat) (bytes : List Byte)
  /-- A product packet on a host port: its destination as MAC address, IP version (0: IPv4), IP
  address, UDP port, DSCP and VLAN tag (0xFFFF: none), its source IP address and UDP port, its UDP
  checksum, then product header and payload (R228). -/
  | product (port : Nat) (mac v6 ip udp dscp vlan src sport sum : Nat) (bytes : List Byte)
  /-- A level change at a pulse output, placed at a tide time (R389). -/
  | pin (out : Nat) (level : Bool) (at_ : Nat)
deriving DecidableEq, Repr

/-- The whole module. -/
structure State where
  /-- Commands that wait, first in first out. -/
  pending : List Instr
  /-- What has left the module, newest first. -/
  sent : List Sent
  /-- The model's own: how many free values have been drawn (log entry 2). -/
  free : Nat
  /-- Parameter values in force, by item key (R512). -/
  force : Sparse Nat
  /-- Pending values of COMMIT, BOUNDARY, RESET and ARM items (R512). -/
  pend : Sparse Nat
  /-- BOUNDARY items that wait, as item key without element, and the instant of their SET (R511). -/
  boundary : List (Nat × Nat)
  /-- Counters (R21), by counter and instance. -/
  ctr : Sparse Nat
  /-- Counters that reached all ones and whose EV_COUNTER_SAT is due (R21). -/
  satDue : List (Nat × Nat)
  /-- The items of group ev: times each event was raised since power-on (R520). -/
  evCounts : Sparse Nat
  power : PowerS
  /-- The links of H0 and H1 (R256). -/
  hostLinks : RegFile LinkS 2
  boot : BootS
  fault : FaultS
  zcp : ZcpS
  time : TimeS
  /-- Logical ingress ports, by 4n + k (R46, R87). -/
  ingressLinks : Sparse LinkS
  plan : PlanS
  data : DataS
  zoom : ZoomS
  weir : WeirS
  egress : EgressS
  mem : MemS
  sluice : SluiceS
  canal : CanalS
deriving DecidableEq, Repr

/-! ### Reset: a module without power, as it leaves the factory. Flash contents and the values that
the spec leaves open are those of log entries 6 and 7. -/

/-- R6, R541, R566 to R574: power at reset. -/
def resetPower : PowerS :=
  { feeds := .replicate 2 ⟨0, 0, .lostLow, false⟩, inputPower := 0, temps := .replicate 7 0
    domains := .replicate 40 .off, slotId := 0, powerEn := false, resetN := false
    stageOn := false, startWaiting := false, powerEnFell := none, holdUpSince := none
    pd38Trips := 0, pd38TripAt := none, reinit := none, readyPin := false }

/-- R574, R578: boot status and flash at reset (log entry 6). -/
def resetBoot : BootS :=
  { stage := .power, running := 0, preferred := 0, trial := false, trialFlag := false
    fallback := false, aValid := false, bValid := false, core0Ok := false, core1Ok := false
    lastReset := 0, bootMs := 0, startedAt := 0, imageAt := 0, readyAt := 0
    images := .replicate 2 (some ⟨1, 0, true⟩), floor := 0, staging := []
    variant := 1 }

/-- Chapter 17 at reset. -/
def resetFault : FaultS :=
  { sticky := 0, episodes := .replicate 4 ⟨.idle, 0, 0, 0⟩, stopped := [], bootCount := 0
    ring := [], nextSeq := 0, frozen := false, mirror := [], batch := []
    slots := .replicate 8 none, flushes := 0, erasing := none, flushedOff := [], gauges := []
    hubGauges := [], plannedAt := 0, reportedAt := 0 }

/-- A session slot at reset (R473). -/
def resetSession (key : Option (List Byte)) : Session :=
  { longKey := key, isOpen := false, key := [], nonces := [], opens := [], ports := 0
    ends := .replicate 2 none, recv := 0, ahead := [], comps := [], replies := [], answered := []
    nextUnsol := 0, ackPoint := 0, unsol := [], lastAt := 0, inDoubt := [], telemetryAt := 0 }

/-- Chapter 15 at reset. -/
def resetZcp : ZcpS :=
  { slots := .ofFn 4 fun k => resetSession (if k = 0 then some Config.factoryKey else none)
    bulks := [], waiting := [], authFail := none, activeCore := 0
    standbyOk := false, standbyBeat := false, heartbeatAt := 0, heartbeats := 0
    draws := 0 }

/-- A pulse output at reset (R383). -/
def resetOut : Out :=
  { mode := .off, prog := none, pulse := none, lowPol := false, produced := 0, skipped := 0
    firstSkipped := 0, gate := ⟨false, [], [], 0⟩, pin := none }

/-- A reference at reset (R400). -/
def resetRef : RefS :=
  { mon := .failed, ql := 15, cause := 0, since := 0, been := false, sigOk := false, ppsOk := false
    todOk := false, ptpOk := false, esmcOk := false, linkOk := false, freqOk := true, freq := 0
    offset := 0, offRange := none, lastPps := none, lastTod := none, todSecond := none, lastEsmc := none
    disagrees := none }

/-- Chapters 11 and 12 at reset. -/
def resetTime : TimeS :=
  { now := 0, tide := 0, tx := [], rx := .replicate 2 ⟨none, none, none, none, none, none, none, 0⟩
    txts := [], tcHeld := [], outs := .replicate 9 resetOut
    tins := .replicate 2 ⟨none, [], 0, []⟩, refs := .replicate 6 resetRef
    dpll := .freerun, prior := .freerun, origin := 0, selected := none, candidate := none
    lastCommit := none, noHold := false, wanted := none, debt := 0, slew := none, realign := none
    estimateShort := false, lastQl := 15, holdoverAt := 0, lockedSince := none
    acquireAt := 0, estimate := 0, drift := 0, disagreeAt := 0, lagMin := [], lagMax := [] }

/-- A die at reset: no plan has laid out its culvert (R281). -/
def resetDie : Die :=
  { slots := [], left := [], epoch := 0, released := 0, ahead := [], runs := [], ringPtr := 0, staging := [], ledgerDue := []
    stopped := false, hold := none, gapIncomplete := 0, gapEmpty := 0, gapLowest := 0 }

/-- A polder at reset: polder 6 of each ring is the spare (R9, R107). -/
def resetPolder (p : Nat) : Polder :=
  { role := if p = 6 then 1 else 0, powered := false, testPending := false, testSince := 0
    clockStep := 16, rows := [], jobs := [], subSums := [], active := none, shadow := none, held := none, change := none
    testForced := false, waking := false, retireDue := false, gone := false, mirrorCount := 0
    mirrorAt := (0, 0, 0) }

/-- Chapters 2 to 4 at reset. -/
def resetData : DataS :=
  { dies := .replicate 4 resetDie, ct := [], ctSeen := [], ctOpen := (0, 0), ctAhead := []
    polders := .ofFn 168 fun n => resetPolder (n % 7), ringsRetired := []
    tiles := []
    regions := .replicate 4
      { state := .drained, epoch := 0, integration := 0, begun := false, lastOp := none
        bermUsed := [], bermReported := false, overflowReported := false, sealLedger := 0, given := none }
    accounts := [], windows := [], snapshot := none, snapshots := 0, sources := [], discards := [] }

/-- A pair of banks, the first of them in force (R176). -/
def freshPair : RegFile Bank 2 := ⟨[⟨.inForce, 0, []⟩, ⟨.free, 0, []⟩], rfl⟩

/-- Chapter 5 at reset: bank 0 IN_FORCE, bank 1 FREE (R176). -/
def resetWeir : WeirS :=
  { banks := freshPair, owner := 0, oldBanks := none
    engines := .replicate 8 ⟨false, none⟩, blocks := [], bufs := [], nextBuf := 0, begun := 0
    steer := [], ref := 0, lastEpoch := 0, nonfin := [] }

/-- Chapter 6 at reset. -/
def resetZoom : ZoomS :=
  { sources := [], avgs := []
    wins := .replicate 32 ⟨0, 0, 0, 0, [], 0, [], none, 0, [], 0, 0, 0⟩
    blockNumber := 0, records := [], inPackets := 0, lost := 0, out := false }

/-- Chapters 7 and 8 at reset. -/
def resetEgress : EgressS :=
  { seq := [], queue := [], drains := [], hostSince := 0, telemetryAt := 0, ready := []
    comps := .replicate 16 none, compOut := [], nextOrder := 0, chains := [], written := [], atCommit := []
    jobs := [], decompOut := false, spillHeld := 0, heldStreams := [] }

/-- Chapter 13 at reset: eight stacks, no channel list before the first boot. -/
def resetMem : MemS :=
  { list := [], retiredFlash := [], redirects := [], marking := false
    reserve := false, grain := 12
    chans := .replicate 128 ⟨.training, 0, 0, 0, 0, 0, 0⟩
    stackFile := .replicate 8 ⟨true, 0, 0, [], none, none, 0, none⟩
    places := [], oldPlaces := [], cells := [], poison := [], ranks := [], tables := [], openRows := []
    sameStack := [] }

/-- A sluice core at reset (R317, R344). -/
def resetCore : Core :=
  { state := .off, host := false, prog := [], data := [], regs := [], late := [], pc := 0, cycle := 0
    cycleHi := 0, lastIssue := 0, lastNI := false, lastIE := false, lastEN := 0, lastPend := 0, inHandler := false
    moverQueue := [], stopSince := none, newHost := none, trapAt := none, again := false, left := false }

/-- Chapter 10 at reset. -/
def resetSluice : SluiceS :=
  { cores := .replicate 64 resetCore, movers := .replicate 8 7, taps := [], stats := []
    rfiChanged := 0, rfiFirst := 0, solveHold := false, solves := [] }

/-- Chapter 14 at reset. -/
def resetCanal : CanalS :=
  { masters := .replicate 15 ⟨false, false, false, none, 0, 0⟩, reqs := [], draining := []
    lastGrant := [], waitSince := [], semFree := BitVec.allOnes 64, sram := [], done := []
    journal := [] }

/-- The module before power is applied; every parameter and counter reads its reset value. -/
def State.reset : State :=
  { pending := [], sent := [], free := 0, force := [], pend := [], boundary := [], ctr := []
    satDue := [], evCounts := [], power := resetPower
    hostLinks := .replicate 2 ⟨false, 0, false, false⟩, boot := resetBoot, fault := resetFault
    zcp := resetZcp, time := resetTime, ingressLinks := []
    plan := { running := none, next := none, pointPassed := false, shedDue := none, old := []
              lastId := 0, lastEpoch := 0 }
    data := resetData, zoom := resetZoom, weir := resetWeir, egress := resetEgress, mem := resetMem
    sluice := resetSluice, canal := resetCanal }

end Sys2Proof.Machine
end

