-- ==== Sys2Proof/Machine/Ops.lean ====
section
/-! DEFINITION. The named operations that every meaning is written over: time, parameters,
counters, free values, events, fault sources, the black box, and sending. -/

namespace Sys2Proof.Machine

/-! ### Units of time -/

/-- Nanoseconds in units of 2^-16 ns. -/
def nsT (n : Nat) : Nat := n * 65536
/-- Microseconds. -/
def usT (n : Nat) : Nat := nsT (n * 1000)
/-- Milliseconds. -/
def msT (n : Nat) : Nat := nsT (n * 1000000)
/-- Seconds. -/
def secT (n : Nat) : Nat := nsT (n * 1000000000)

/-- Tide time wraps with its 48-bit SECONDS (R360, R364). -/
def tideMod : Nat := 2 ^ 48 * 65536000000000

/-- The 96-bit value of a tide time: SECONDS, NANOSECONDS, FRACTION (R360). -/
def tide96 (x : Nat) : Nat :=
  (x / 65536000000000) % 2 ^ 48 * 2 ^ 48 + x % 65536000000000

/-- The tide time that a 96-bit value names. -/
def tideOf96 (v : Nat) : Nat := v / 2 ^ 48 % 2 ^ 48 * 65536000000000 + v % 2 ^ 48

/-- A 96-bit value whose NANOSECONDS lie below 10^9 (R360). -/
def tideValid (v : Nat) : Bool := decide (v / 65536 % 2 ^ 32 < 1000000000)

/-- Twelve bytes of a tide time on the wire (R360). -/
def tideBytes (x : Nat) : List Byte := natBE 12 (tide96 x)

/-! ### Parameters and counters -/

/-- The store key of one element of one instance of an item. -/
def itemKey (i : Item) (inst elem : Nat) : Nat := i.index * 2 ^ 28 + inst * 2 ^ 16 + elem

/-- The item of a store key. -/
def keyItem (k : Nat) : Item := Item.all.getD (k / 2 ^ 28) .moduleVariant

/-- What an unlisted key reads as: the reset value (R589). -/
def keyReset (k : Nat) : Nat := (keyItem k).resetAt (k / 2 ^ 16 % 4096)

/-- The value in force of an element (R512). -/
def par (i : Item) (inst elem : Nat) (s : State) : Nat := sGet keyReset s.force (itemKey i inst elem)

/-- The value in force of a module-wide scalar. -/
def par0 (i : Item) (s : State) : Nat := par i 0 0 s

/-- The pending value of an element (R512). -/
def parPend (i : Item) (inst elem : Nat) (s : State) : Nat :=
  sGet keyReset s.pend (itemKey i inst elem)

/-- Set the value in force of an element; what a POKE had changed is written over (R523). -/
def setPar (i : Item) (inst elem v : Nat) (s : State) : State :=
  { s with
    force := sPut keyReset s.force (itemKey i inst elem) v
    canal := { s.canal with journal := sDel s.canal.journal (itemKey i inst elem) } }

/-- All ones of a 48-bit counter (R21). -/
def ctrMax : Nat := 2 ^ 48 - 1

/-- The store key of a counter. -/
def ctrKey (c : Ctr) (inst : Nat) : Nat := c.index * 4096 + inst % 4096

/-- A counter's value. -/
def ctrGet (c : Ctr) (inst : Nat) (s : State) : Nat := sGet (fun _ => 0) s.ctr (ctrKey c inst)

/-- How far a counter has advanced since a value; one that was cleared has advanced from zero. -/
def increase (base v : Nat) : Nat := if base ≤ v then v - base else v

/-- R21: add to a counter; it stops at all ones, which is its SAT flag, and its EV_COUNTER_SAT
becomes due. -/
def count (c : Ctr) (inst n : Nat) (s : State) : State :=
  let v := ctrGet c inst s
  let v' := min ctrMax (v + n)
  { s with
    ctr := sPut (fun _ => 0) s.ctr (ctrKey c inst) v'
    satDue := if v < ctrMax ∧ v' = ctrMax then s.satDue ++ [(c.index, inst)] else s.satDue }

/-- R22: clear a counter, its SAT flag and its report. -/
def ctrClear (c : Ctr) (inst : Nat) (s : State) : State :=
  { s with ctr := sPut (fun _ => 0) s.ctr (ctrKey c inst) 0 }

/-- The next free-value number. -/
def drawFree (s : State) : Nat × State := (s.free, { s with free := s.free + 1 })

/-! ### Time -/

/-- Cycles of a clock in MHz within a span of time. -/
def cycles (mhz span : Nat) : Nat := mhz * span / 65536000

/-- D now (R409, R414): while slewing it has moved toward 0 by timing.slew_max per second. -/
def debtNow (s : State) : Int :=
  match s.time.slew with
  | none => s.time.debt
  | some t0 =>
    let moved := par0 .timingSlewMax s * (s.time.now - t0) / 1000000000
    if s.time.debt < 0 then min 0 (s.time.debt + moved) else max 0 (s.time.debt - moved)

/-- The timing subsystem runs (R563, R575): from management boot on. -/
def timingRuns (s : State) : Bool := s.boot.stage != .power

/-- Tide time moved by a signed amount. -/
def tideShift (x : Nat) (d : Int) : Nat := (((x : Int) + d) % (tideMod : Int)).toNat

/-- The clock brought to instant `t` (R361): tide time advances with it, less what a slew takes. -/
def advance (t : Nat) (s : State) : State :=
  let t' := max t s.time.now
  let s1 := { s with time := { s.time with now := t' } }
  if timingRuns s then
    { s1 with time := { s1.time with
        tide := tideShift s.time.tide ((t' - s.time.now : Nat) + (debtNow s1 - debtNow s)) } }
  else s1

/-- The instants of a list, newest first, that lie within the last second. -/
def inLastSecond (l : List Nat) (s : State) : List Nat := l.takeWhile fun x => decide (s.time.now < x + secT 1)

/-- timing.sc_epoch in force, as an instant of tide time (R363). -/
def scEpoch (s : State) : Nat := tideOf96 (par0 .timingScEpoch s)

/-- R364: the tide time of a sample counter. -/
def scTide (sc : Nat) (s : State) : Nat :=
  (scEpoch s + sc * par0 .timingScRateDen s * 65536000000000 / par0 .timingScRateNum s) % tideMod

/-- R365: the sample counter at a tide time. -/
def tideSc (x : Nat) (s : State) : Nat :=
  (x - scEpoch s) * par0 .timingScRateNum s / (par0 .timingScRateDen s * 65536000000000)

/-! ### Sending -/

/-- One more thing that left the module. -/
def emit (x : Sent) (s : State) : State := { s with sent := x :: s.sent }

/-- A session slot. -/
def session (k : Nat) (s : State) : Session :=
  s.zcp.slots.getD k
    { longKey := none, isOpen := false, key := [], nonces := [], opens := [], ports := 0,
      ends := .replicate 2 none, recv := 0, ahead := [], comps := [], replies := [], answered := [],
      nextUnsol := 0, ackPoint := 0, unsol := [], lastAt := 0, inDoubt := [], telemetryAt := 0 }

/-- Change a session slot. -/
def setSession (k : Nat) (f : Session → Session) (s : State) : State :=
  { s with zcp := { s.zcp with slots := s.zcp.slots.set k (f (session k s)) } }

/-- The state of a power domain (R568). -/
def domain (pd : Nat) (s : State) : DomainState := s.power.domains.getD pd .off

/-- Set a domain's state. -/
def setDomain (pd : Nat) (d : DomainState) (s : State) : State :=
  { s with power := { s.power with domains := s.power.domains.set pd d } }

/-- A host link (R256). -/
def hostLink (p : Nat) (s : State) : LinkS := s.hostLinks.getD p ⟨false, 0, false, false⟩

/-- H0 or H1 carries frames: PD38 on and the link up. -/
def hostUp (p : Nat) (s : State) : Bool := (hostLink p s).up && domain 38 s == .on

/-- R470, R471, R477, R486: a message of the module under K_S, with ACK = h. -/
def zcpBytes (k : Nat) (typ seq flags : Nat) (payload : List Byte) (s : State) : List Byte :=
  let ss := session k s
  let hd := natBE 2 0x465A ++ natBE 1 1 ++ natBE 1 k ++ natBE 1 (typ / 256) ++ natBE 1 0 ++
    natBE 2 typ ++ natBE 4 seq ++ natBE 4 ss.recv ++ natBE 2 payload.length ++
    natBE 2 (flags + 4) ++ natBE 12 0
  hd ++ (hmac ss.key (hd ++ payload)).take 16 ++ payload

/-- Instance of a host port's counters (R509). -/
def hostInst (p : Nat) : Nat := 128 + p

/-- ZCP_TX of a session on a port (R506). -/
def zcpTx (p : Nat) : Ctr := if p = 0 then .zcpTxH0 else .zcpTxH1

/-- Send bytes of a session on one port, when it has a binding and an up link (R479). -/
def zcpSendOn (k p : Nat) (bytes : List Byte) (s : State) : State :=
  match (session k s).ends.getD p none with
  | none => s
  | some e => if hostUp p s then count (zcpTx p) k 1 (emit (.zcp p e bytes) s) else s

/-- R479: send a reply or an unsolicited message by PORTS. -/
def zcpSend (k : Nat) (bytes : List Byte) (s : State) : State :=
  match (session k s).ports with
  | 0 => zcpSendOn k 1 bytes (zcpSendOn k 0 bytes s)
  | 1 => zcpSendOn k 0 bytes s
  | _ => zcpSendOn k 1 bytes s

/-! ### The black box -/

/-- R449: RESERVE, and with it the mirror ring, exists. -/
def reserveExists (s : State) : Bool := s.mem.reserve

/-- The last `n` of a list. -/
def lastN {α : Type} (n : Nat) (l : List α) : List α := (l.reverse.take n).reverse

/-- R535 to R538: write a record, or count it while the ring is frozen. -/
def bbWrite (kind cls code : Nat) (data : List Byte) (s : State) : State :=
  if s.fault.frozen then count .bbDropped 0 1 s
  else
    let r : BBRec := { kind, cls, code, seq := s.fault.nextSeq, boot := s.fault.bootCount % 65536,
                       time := s.time.tide, data := padTo 8 data }
    let batch := s.fault.batch ++ [r]
    let full := decide (64 ≤ batch.length)
    let f := { s.fault with
      ring := lastN 8192 (s.fault.ring ++ [r])
      nextSeq := (s.fault.nextSeq + 1) % 2 ^ 32
      mirror := if full && reserveExists s then lastN 262144 (s.fault.mirror ++ batch) else s.fault.mirror
      batch := if full then [] else batch }
    count .bbRecords 0 1 { s with fault := f }

/-- R533: the quiet time left, in ms. -/
def quietLeft (e : Episode) (s : State) : Nat :=
  if e.state = .open then (e.quietEnd - s.time.now) / msT 1 % 2 ^ 32 else 0

/-- A class episode. -/
def episode (c : Nat) (s : State) : Episode := s.fault.episodes.getD c ⟨.idle, 0, 0, 0⟩

/-- Set a class episode. -/
def setEpisode (c : Nat) (e : Episode) (s : State) : State :=
  { s with fault := { s.fault with episodes := s.fault.episodes.set c e } }

/-- STATE of a class status word (R533). -/
def EpState.code : EpState → Nat
  | .idle => 0 | .open => 1 | .held => 2

/-- The class status word (R533). -/
def classStatus (c : Nat) (s : State) : Nat :=
  let e := episode c s
  e.state.code + e.first * 4 + e.recoveries * 2 ^ 16 + quietLeft e s * 2 ^ 32

/-- PLAN_ID in force (R282). -/
def planIdNow (s : State) : Nat := par0 .planId s

/-- A record as its 32 bytes (R536). -/
def BBRec.bytes (r : BBRec) : List Byte :=
  natLE 4 (r.kind + r.cls * 16 + r.code * 256) ++ natLE 4 r.seq ++ natLE 2 r.boot ++ natLE 2 0 ++
    natLE 12 (tide96 r.time) ++ r.data

/-- The 4 KiB header of a flash slot (R541). -/
def BBSlot.header (b : BBSlot) : List Byte :=
  let hd := natLE 1 (if b.complete then 0 else 255) ++ natLE 1 b.cause ++ natLE 2 0xFFFF ++
    natLE 4 b.flushNumber ++ natLE 4 b.bootCount ++ natLE 12 (tide96 b.flushTime) ++
    natLE 4 ((b.records.headD ⟨0, 0, 0, 0, 0, 0, []⟩).seq) ++ natLE 2 b.records.length ++
    natLE 2 0xFFFF ++ natLE 16 b.sticky ++ b.classStatus.flatMap (natLE 8) ++ natLE 4 b.planId
  hd ++ List.replicate (4096 - hd.length) 255

/-- The erased slots, ascending (R540). -/
def erasedSlots (l : List (Option BBSlot)) : List Nat :=
  (List.range l.length).filter fun i => (l.getD i none).isNone

/-- The written slot with the lowest FLUSH_NUMBER (R540). -/
def oldestSlot (l : List (Option BBSlot)) : Option Nat :=
  ((List.range l.length).foldl (fun best i =>
    match l.getD i none, best with
    | none, b => b
    | some x, none => some (i, x.flushNumber)
    | some x, some (j, n) => if x.flushNumber < n then some (i, x.flushNumber) else some (j, n)) none).map
    (·.1)

/-- R540, R541: flush the ring into the erased slot with the lower number that no erase holds, and
start the erase that keeps two slots erased. The slot written, if one was free. -/
def bbFlush (cause : Nat) (s : State) : Option Nat × State :=
  let free := (erasedSlots s.fault.slots.toList).filter fun i => s.fault.erasing != some i
  match free with
  | [] => (none, s)
  | k :: rest =>
    let slot : BBSlot :=
      { complete := true, cause, flushNumber := s.fault.flushes + 1, bootCount := s.fault.bootCount,
        flushTime := s.time.tide, sticky := s.fault.sticky.toNat,
        classStatus := (List.range 4).map (classStatus · s), planId := planIdNow s,
        records := s.fault.ring }
    let slots := s.fault.slots.set k (some slot)
    let erase := if s.fault.erasing.isSome then s.fault.erasing
      else if rest.length < 2 then oldestSlot slots.toList else none
    (some k, count .bbFlushes 0 1
      { s with fault := { s.fault with slots := slots, flushes := s.fault.flushes + 1, erasing := erase } })

/-! ### Events and unsolicited messages -/

/-- R488, R490: a message takes the next unsolicited sequence of a session, is queued, and is sent
at once when it lies within 256 of the acknowledged point. -/
def unsolicited (k : Nat) (typ : Nat) (body : List Byte) (s : State) : State :=
  let ss := session k s
  let seq := ss.nextUnsol
  let full := decide (4096 ≤ ss.unsol.length)
  let s1 := if full then count .zcpUnsolAged k 1 s else s
  let inWindow := decide ((seq + 2 ^ 32 - ss.ackPoint) % 2 ^ 32 ≤ 256)
  let u : Unsol :=
    { seq, typ, body, raisedAt := s.time.now,
      sentAt := if inWindow then some s.time.now else none, wait := nsT (par0 .zcpUnsolRto s) }
  let s2 := setSession k (fun x => { x with
    nextUnsol := (seq + 1) % 2 ^ 32
    unsol := (if full then x.unsol.drop 1 else x.unsol) ++ [u] }) s1
  if inWindow then zcpSend k (zcpBytes k typ seq 2 body s2) s2 else s2

/-- ZCP_EVENT's payload (R491). -/
def eventPayload (code : Nat) (body : List Byte) (s : State) : List Byte :=
  natBE 2 code ++ natBE 2 body.length ++ tideBytes s.time.tide ++ body

/-- The open slots, ascending. -/
def openSlots (s : State) : List Nat := (List.range 4).filter fun k => (session k s).isOpen

/-- R520: an event is counted; the count stops at all ones, and its EV_COUNTER_SAT becomes due (R21). Ev
items stand after the counters in the numbers that name a counter. -/
def noteEvent (e : Ev) (s : State) : State :=
  let n := sGet (fun _ => 0) s.evCounts e.code
  { s with
    evCounts := sPut (fun _ => 0) s.evCounts e.code (min ctrMax (n + 1))
    satDue := if n + 1 = ctrMax then s.satDue ++ [(2000 + e.code, 0)] else s.satDue }

/-- Raise an event in the sessions named: count it (R520), queue it (R488), record it unless it is
EV_THRESHOLD or EV_EDGE (R537). -/
def raiseIn (dest : List Nat) (e : Ev) (body : List Byte) (s : State) : State :=
  let s2 := dest.foldl (fun x k => unsolicited k 0x0F01 (eventPayload e.code body x) x) (noteEvent e s)
  if e = .threshold ∨ e = .edge then s2 else bbWrite 0 0 e.code (body.take 8) s2

/-- Raise an event in every open session, with a body of the spec's own layout. -/
def raiseBytes (e : Ev) (body : List Byte) (s : State) : State := raiseIn (openSlots s) e body s

/-- Raise an event whose fields the spec lists without widths. -/
def raise (e : Ev) (fields : List Nat) (s : State) : State :=
  raiseBytes e (Config.eventBody e.code fields) s

/-- R21: raise the EV_COUNTER_SAT that are due, once for each counter. -/
def flushSat : Nat → State → State
  | 0, s => s
  | n + 1, s =>
    match s.satDue with
    | [] => s
    | (c, i) :: r => flushSat n (raise .counterSat [c, i] { s with satDue := r })

/-! ### Fault sources -/

/-- R532: the domains that a module stop switches off: PD00 to PD37 and PD39. -/
def stopDomains : List Nat := List.range 38 ++ [39]

/-- R532: the sources whose module stop switches PD38 off as well. -/
def stopsHosts (f : Fs) : Bool := f = .feedBoth || f = .powerStage || f = .tempCrit

/-- A fault source fires (R524, R528, R529): its sticky bit is set, an episode of its class opens
or takes it in, and its quiet period starts anew. The reactions that belong to a unit follow in the
meaning that calls this. -/
def fire (f : Fs) (s : State) : State :=
  let was := s.fault.sticky.getLsbD f.num
  let s1 := { s with fault := { s.fault with sticky := s.fault.sticky ||| BitVec.ofNat 128 (2 ^ f.num) } }
  let s2 := if was then s1 else bbWrite 1 f.cls f.num [] s1
  let e := episode f.cls s2
  let quiet := s.time.now + secT (par .faultQuietTime f.cls 0 s)
  match e.state with
  | .idle =>
    let s3 := setEpisode f.cls { e with state := if f.cls = 3 then .held else .open, first := f.num,
                                        quietEnd := quiet } s2
    raise .fault [f.cls, f.num, tide96 s.time.tide] (bbWrite 2 f.cls f.num [] s3)
  | .open => setEpisode f.cls { e with state := if f.cls = 3 then .held else .open, quietEnd := quiet } s2
  | .held => s2

/-- Two sources that fire in one cycle act in the order of their numbers (R531). -/
def fireAll (l : List Fs) (s : State) : State := l.foldl (fun x f => fire f x) s

/-- A function is stopped by an isolating reaction (R526). -/
def stopFunction (fn inst : Nat) (s : State) : State :=
  if (fn, inst) ∈ s.fault.stopped then s
  else { s with fault := { s.fault with stopped := s.fault.stopped ++ [(fn, inst)] } }

/-! ### The frame of every meaning -/

/-- The end of a command: the saturation reports that it made due, and those that the reports make
due in turn: fourteen counters at most count reports. -/
def settle (s : State) : State := flushSat (s.satDue.length + 16) s

/-- A command at instant `t`: the clock comes to it, the effect follows, the reports are raised. -/
def act (t : Nat) (f : State → State) (s : State) : Host.Outcome State Fault Refusal :=
  .next (settle (f (advance t s)))

/-- An effect that takes place only when its condition holds; the spec gives the event no effect
otherwise (log entry 5). -/
def onlyIf (c : State → Bool) (f : State → State) (s : State) : State := if c s then f s else s

end Sys2Proof.Machine
end

