-- ==== Sys2Proof/Machine/PlanOps.lean ====
section
/-! DEFINITION. What a plan fixes: its parameters, its channel list and block numbers, and the
quantities that chapters 2 to 4 and 9 derive from them. -/

namespace Sys2Proof.Machine

/-- A sum of numbers. -/
def sumN (l : List Nat) : Nat := l.foldl (· + ·) 0

/-- A COMMIT value of a plan. -/
def Plan.par (p : Plan) (i : Item) (inst elem : Nat) : Nat := sGet keyReset p.cfg (itemKey i inst elem)

/-- A module-wide COMMIT value of a plan. -/
def Plan.par0 (p : Plan) (i : Item) : Nat := p.par i 0 0

/-- N. -/
def Plan.n (p : Plan) : Nat := p.par0 .corrPaths
/-- K = N / 128 (R89). -/
def Plan.k (p : Plan) : Nat := p.n / 128
/-- T (R104). -/
def Plan.t (p : Plan) : Nat := p.par0 .corrChunkLen
/-- S = T / 128: the sub-blocks of one path in a chunk. -/
def Plan.s (p : Plan) : Nat := p.t / 128
/-- C, after shedding. -/
def Plan.c (p : Plan) : Nat := p.channels.length
/-- Bytes per sample of a FORMAT (R54). -/
def formatBytes (f : Nat) : Nat := if f = 1 then 1 else if f = 2 then 2 else 4
/-- β. -/
def Plan.beta (p : Plan) : Nat := formatBytes (p.par0 .ingressFormat)
/-- The channel list before shedding (R63, R285). -/
def Plan.listed (p : Plan) : List Nat :=
  (List.range (p.par0 .corrChannelCount)).map fun i => p.par .corrChannels 0 i
/-- Time-ordered ingress (R64). -/
def Plan.timeOrdered (p : Plan) : Bool := p.par0 .ingressOrder == 1
/-- The bytes of a main block, B. -/
def Plan.blockBytes (p : Plan) : Nat := p.n * p.t * p.beta
/-- Beams a plan forms. -/
def Plan.beams (p : Plan) : Nat := p.par0 .weirBeamCount
/-- M block slots (R68). -/
def Plan.m (p : Plan) : Nat := min 16 (2 ^ 28 / p.blockBytes)
/-- f_s as numerator and denominator, Hz (R363). -/
def Plan.rate (p : Plan) : Nat × Nat := (p.par0 .timingScRateNum, p.par0 .timingScRateDen)

/-- A duration of `samples` / (`by_` × f_s), in 2^-16 ns. -/
def Plan.span (p : Plan) (samples by_ : Nat) : Nat :=
  samples * p.rate.2 * 65536000000000 / (by_ * p.rate.1)

/-- A = T / (C × f_s), the nominal arrival time of a block (R72). -/
def Plan.arrival (p : Plan) : Nat := p.span p.t p.c

/-- The position of a channel in the list, counted from 0 (R63). -/
def Plan.pos (p : Plan) (chan : Nat) : Option Nat := p.channels.findIdx? (· == chan)

/-- The block number of chunk k at list position j (R63). -/
def Plan.block (p : Plan) (k j : Nat) : Nat := k * p.c + j

/-- Chunk k at list position j is skipped under SHED_BLOCKS (R298). -/
def Plan.skips (p : Plan) (k j : Nat) : Bool := decide ((k + j) % 16 < p.skipN)

/-- The block of this number is skipped. -/
def Plan.skipsBlock (p : Plan) (b : Nat) : Bool := p.skips (b / p.c) (b % p.c)

/-- The channel of a block number. -/
def Plan.blockChan (p : Plan) (b : Nat) : Nat := p.channels.getD (b % p.c) 0

/-- R70: the lowest block that R63 assigns to a die in the plan's first chunk. -/
def Plan.firstBlock (p : Plan) (die : Nat) : Nat :=
  let b0 := p.sc / p.t * p.c
  b0 + (die + 4 - b0 % 4) % 4

/-- The records that are in force for samples of a counter: the scheduled plan from its s_c on once
its commit point has passed, the shed from its boundary, else the running plan and older ones. -/
def plans (s : State) : List Plan :=
  (if s.plan.pointPassed then s.plan.next.toList else []) ++ s.plan.shedDue.toList ++
    s.plan.running.toList ++ s.plan.old

/-- The plan record that a sample counter belongs to. -/
def planAt (sc : Nat) (s : State) : Option Plan := (plans s).find? fun p => decide (p.sc ≤ sc)

/-- The plan whose pair of banks commands act on: a new one with a fresh pair from its commit point on
(R176). -/
def bankPlan (s : State) : Option Plan :=
  if s.plan.pointPassed && s.plan.next.any (·.freshBanks) then s.plan.next else s.plan.running

/-- The plan record of an epoch. -/
def planOf (e : Nat) (s : State) : Option Plan := (plans s).find? (·.epoch == e)

/-- A die. -/
def Die.none : Die :=
  { slots := [], left := [], epoch := 0, released := 0, ahead := [], runs := [], ringPtr := 0, staging := [], ledgerDue := [],
    stopped := false, hold := .none, gapIncomplete := 0, gapEmpty := 0, gapLowest := 0 }

/-- A die by its number. -/
def die (d : Nat) (s : State) : Die := s.data.dies.getD d Die.none

/-- Change a die. -/
def setDie (d : Nat) (x : Die) (s : State) : State :=
  { s with data := { s.data with dies := s.data.dies.set d x } }

/-- An empty slot. -/
def Slot.empty : Slot :=
  { state := .free, epoch := 0, block := 0, chan := 0, chunk := 0, openAt := 0, closedAt := 0,
    skip := false, subs := [] }

/-- A slot of a die. -/
def Die.slot (x : Die) (i : Nat) : Slot := x.slots.getD i Slot.empty

/-- Change a slot of a die. -/
def Die.setSlot (x : Die) (i : Nat) (v : Slot) : Die := { x with slots := x.slots.set i v }

/-- The bytes of a sub-block of a slot: zoom blocks are 8+8 (R212). -/
def Plan.subBytes (p : Plan) (v : Slot) : Nat := 128 * (if v.state = .zoom then 2 else p.beta)

/-- The culvert memory with the bytes of sub-blocks of slot `i` that stop being present: they stay
(R77). -/
def Die.keepSubs (p : Plan) (x : Die) (i : Nat) (subs : Sparse (List Byte)) : Die :=
  { x with left := subs.foldl (fun m e =>
      m.write (i * p.blockBytes + e.1 * p.subBytes (x.slot i)) e.2) x.left }

/-- A slot becomes FREE; the memory keeps what it held (R77). -/
def Die.freeSlot (p : Plan) (x : Die) (i : Nat) : Die := (x.keepSubs p i (x.slot i).subs).setSlot i Slot.empty

/-- The slot that holds a main block, if any. -/
def Die.find (x : Die) (epoch block : Nat) : Option Nat :=
  x.slots.findIdx? fun v =>
    (v.state == .open || v.state == .closed) && v.epoch == epoch && v.block == block

/-- The FREE slots. -/
def Die.freeSlots (x : Die) : List Nat :=
  (List.range x.slots.length).filter fun i => (x.slot i).state == .free

/-- The slot with the lowest main block number (R71). -/
def Die.lowest (x : Die) : Option Nat :=
  ((List.range x.slots.length).foldl (fun (b : Option (Nat × Nat)) i =>
    let v := x.slot i
    if v.state = .open ∨ v.state = .closed then
      match b with
      | .none => some (i, v.block)
      | some (j, n) => if v.block < n then some (i, v.block) else some (j, n)
    else b) .none).map (·.1)

/-- Number of tiles of a channel image, K(K + 1)/2. -/
def tilesOf (k : Nat) : Nat := k * (k + 1) / 2

/-- The canonical number t of tile (i, j) in a channel image (R134). -/
def tileNumber (k i j : Nat) : Nat := i * k - i * (i - 1) / 2 + (j - i)

/-- Elements of a tile (R133). -/
def tileElems (i j : Nat) : Nat := if i = j then 8256 else 16384

/-- The index of element (r, c) (R133). -/
def elemIndex (diag : Bool) (r c : Nat) : Nat :=
  if diag then r * 128 - r * (r - 1) / 2 + (c - r) else r * 128 + c

/-- Byte offset of tile (i, j) in a channel image with elements of `e` bytes (R134). -/
def tileOffset (k e i j : Nat) : Nat :=
  let t := tileNumber k i j
  let d := if j = i then i else i + 1
  ((t - d) * 16384 + d * 8256) * e

/-- The tile with a canonical number. -/
def tileAt (k t : Nat) : Nat × Nat :=
  match (List.range k).findIdx? (fun i => decide (t < tileNumber k i i + (k - i))) with
  | some i => (i, i + (t - tileNumber k i i))
  | .none => (0, 0)

/-- Bytes of a totals element (R132). -/
def Plan.elemBytes (p : Plan) : Nat := if p.par0 .corrTotalsFormat = 0 then 8 else 16

/-- Zoom window w correlates (R197). -/
def Plan.correlates (p : Plan) (w : Nat) : Bool :=
  p.par .zoomEnable w 0 == 1 && p.par .zoomCorrelate w 0 == 1

/-- The enabled windows. -/
def Plan.windows (p : Plan) : List Nat := (List.range 32).filter fun w => p.par .zoomEnable w 0 == 1

/-- The correlating windows. -/
def Plan.corrWindows (p : Plan) : List Nat := (List.range 32).filter p.correlates

/-- Chunks of an integration of an area (R135). -/
def Plan.intChunks (p : Plan) (area : Nat) : Nat :=
  if area = 0 then p.par0 .corrIntChunks else p.par0 .zoomIntChunks

/-- The channels of an area: main channels by number, zoom channels by window. -/
def Plan.areaChannels (p : Plan) (area : Nat) : List Nat := if area = 0 then p.channels else p.corrWindows

/-- The chunk of an area's channel that holds the plan's first sample. -/
def Plan.firstChunk (p : Plan) (area chan : Nat) : Nat :=
  if area = 0 then p.sc / p.t
  else p.sc / (p.par0 .zoomChunkLen * 2 ^ p.par .zoomStages chan 0)

/-- The store key of a tile. -/
def tileKey (area region chan t : Nat) : Nat := ((area * 2 + region) * 65536 + chan) * 4096 + t

/-- A fresh tile (R137, R81). -/
def Tile.fresh : Tile :=
  { generation := 0, integration := 0, lastChunk := 0, touched := false, overflow := false,
    nonfinite := false, invalid := false, written := false, chunks := 0, dropped := 0, berm := .none,
    elems := [] }

/-- A tile record. -/
def tile (key : Nat) (s : State) : Tile := sGet (fun _ => Tile.fresh) s.data.tiles key

/-- Set a tile record. -/
def setTile (key : Nat) (x : Tile) (s : State) : State :=
  { s with data := { s.data with tiles := sPut (fun _ => Tile.fresh) s.data.tiles key x } }

/-- A region before its first integration. -/
def Region.empty : Region :=
  { state := .drained, epoch := 0, integration := 0, begun := false, lastOp := .none, bermUsed := [],
    bermReported := false, overflowReported := false, sealLedger := 0, given := none }

/-- A region of an area. -/
def region (area r : Nat) (s : State) : Region := s.data.regions.getD (area * 2 + r) Region.empty

/-- Set a region. -/
def setRegion (area r : Nat) (x : Region) (s : State) : State :=
  { s with data := { s.data with regions := s.data.regions.set (area * 2 + r) x } }

/-- The key of a channel's account under a commit (R131). -/
def acctKey (commit area chan : Nat) : Nat := (commit * 2 + area) * 65536 + chan

/-- A polder. -/
def Polder.none : Polder :=
  { role := 0, powered := false, testPending := false, testSince := 0, clockStep := 16, rows := [],
    jobs := [], subSums := [], active := .none, shadow := .none, held := .none, change := .none, testForced := false, waking := false, retireDue := false, gone := false,
    mirrorCount := 0, mirrorAt := (0, 0, 0) }

/-- A polder by its number 42d + 7r + p (R509). -/
def polder (n : Nat) (s : State) : Polder := s.data.polders.getD n Polder.none

/-- Change a polder. -/
def setPolder (n : Nat) (x : Polder) (s : State) : State :=
  { s with data := { s.data with polders := s.data.polders.set n x } }

/-- POLDER_STATE (R107). -/
def polderState (n : Nat) (s : State) : Nat :=
  let p := polder n s
  p.role + (if p.powered then 4 else 0) + (if p.testPending then 8 else 0) + p.clockStep * 256 +
    p.rows.length * 65536 + p.rows.getD 0 255 * 2 ^ 24 + p.rows.getD 1 255 * 2 ^ 32 +
    p.rows.getD 2 255 * 2 ^ 40 + p.rows.getD 3 255 * 2 ^ 48

/-- The active polders of ring 6d + r, by polder number, ascending. -/
def ringPolders (ring : Nat) (s : State) : List Nat :=
  ((List.range 7).map fun p => ring * 7 + p).filter fun n =>
    (polder n s).role == 0 && !(polder n s).gone

/-- A ring is retired, or handled as retired because its domain is TRIPPED (R547, R569). -/
def ringGone (ring : Nat) (s : State) : Bool :=
  s.data.ringsRetired.contains ring || domain ring s == .tripped

/-- The rings of a die that a plan uses (R115, R547): the lowest-numbered ones not retired. -/
def ringsInUse (p : Plan) (d : Nat) (s : State) : List Nat :=
  (((List.range 6).map fun r => 6 * d + r).filter fun g => !ringGone g s).take
    (p.par0 .corrRingsPerDie)

end Sys2Proof.Machine
end

