-- ==== Sys2Proof/Machine/Clock.lean ====
section
/-! DEFINITION. The shared operations of tide time: port time-stamps, transmit time-stamp queues,
the pulse outputs, steps of tide time (chapter 11). -/

namespace Sys2Proof.Machine

/-! ### Time-stamps (R366, R367) -/

/-- The port mode of a logical port; a host port has one mode. -/
def portModeOf (port : Nat) (s : State) : Nat :=
  if port < 128 then par .ingressPortMode (port / 4) 0 s else 0

/-- timing.port_cal_user of a port. -/
def calUser (port : Nat) (s : State) : Int := signed 32 (par .timingPortCalUser port 0 s)

/-- timing.port_cal (R367): RX_DELAY and TX_DELAY of each port mode in turn, unsigned 32-bit constants; a
host port has one mode. -/
def portCal (port elem : Nat) : Nat :=
  if 128 ≤ port ∧ 2 ≤ elem then 0 else Config.portCal port (elem / 2) (elem % 2) % 2 ^ 32

/-- RX_DELAY (0) or TX_DELAY (1) of a port in its mode. -/
def portDelay (port dir : Nat) (s : State) : Nat := portCal port (2 * portModeOf port s + dir)

/-- R366: the receive time-stamp of a raw time. -/
def rxStamp (port raw : Nat) (s : State) : Nat :=
  tideShift raw (-(portDelay port 0 s : Int) - calUser port s)

/-- R366: the transmit time-stamp of a raw time. -/
def txStamp (port raw : Nat) (s : State) : Nat :=
  tideShift raw ((portDelay port 1 s : Int) + calUser port s)

/-! ### Transmit time-stamp queues (R379 to R382) -/

/-- A port's queue. -/
def txQueue (port : Nat) (s : State) : TxQueue :=
  sGet (fun _ => ⟨[], false, 0⟩) s.time.txts port

/-- Set a port's queue. -/
def setTxQueue (port : Nat) (q : TxQueue) (s : State) : State :=
  { s with time := { s.time with txts := sPut (fun _ => ⟨[], false, 0⟩) s.time.txts port q } }

/-- R381: write an entry; a full queue loses its oldest. -/
def txtsPush (port : Nat) (e : TxTs) (s : State) : State :=
  let q := txQueue port s
  if q.entries.length < 64 then setTxQueue port { q with entries := q.entries ++ [e] } s
  else count .txtsOverflow port 1
    (setTxQueue port ⟨q.entries.drop 1 ++ [e], true, q.removed + 1⟩ s)

/-- Does an entry bear the key and the owner? -/
def TxTs.matches (e : TxTs) (mtype domain seq owner : Nat) : Bool :=
  e.mtype == mtype && e.domain == domain && e.seq == seq && e.owner == owner

/-- The list without its first element that passes, and that element. -/
def takeFirst {α : Type} (p : α → Bool) : List α → Option α × List α
  | [] => (none, [])
  | a :: r => if p a then (some a, r) else let (x, r') := takeFirst p r; (x, a :: r')

/-- R381: return and remove the oldest entry with the key and owner. -/
def txtsTake (port mtype domain seq owner : Nat) (s : State) : Option TxTs × State :=
  let q := txQueue port s
  let (e, r) := takeFirst (fun x => x.matches mtype domain seq owner) q.entries
  (e, setTxQueue port { q with entries := r } s)

/-- R380: an entry's 24 bytes. -/
def TxTs.bytes (port : Nat) (e : TxTs) : List Byte :=
  natBE 1 port ++ natBE 1 (e.mtype * 16) ++ natBE 1 e.domain ++ natBE 1 e.owner ++ natBE 2 e.seq ++
    natBE 1 (if e.stepped then 1 else 0) ++ natBE 1 0 ++ tideBytes e.time ++ natBE 4 0

/-- R382: TXTS_STATUS. -/
def txtsStatus (port : Nat) (s : State) : Nat :=
  (txQueue port s).entries.length + (if (txQueue port s).ovf then 256 else 0)

/-! ### Pulse outputs (R383 to R389) -/

/-- An idle output. -/
def Out.idle : Out :=
  { mode := .off, prog := none, pulse := none, lowPol := false, produced := 0, skipped := 0,
    firstSkipped := 0, gate := ⟨false, [], [], 0⟩, pin := none }

/-- An output; 8 is PPS_OUT. -/
def out (n : Nat) (s : State) : Out := s.time.outs.getD n Out.idle

/-- Set an output. -/
def setOut (n : Nat) (o : Out) (s : State) : State :=
  { s with time := { s.time with outs := s.time.outs.set n o } }

/-- Drive an output's pin: an edge leaves when the level changes (R389). -/
def drive (n : Nat) (level : Bool) (at_ : Nat) (s : State) : State :=
  let o := out n s
  if o.pin = some level then s
  else emit (.pin n level at_) (setOut n { o with pin := some level } s)

/-- Edges not produced: counted, and noted for the report of the second (R386, R393, R395). -/
def skipEdges (n k first : Nat) (s : State) : State :=
  if k = 0 then s
  else
    let o := out n s
    count .pulseSkipped n k (setOut n { o with
      skipped := o.skipped + k
      firstSkipped := if o.skipped = 0 then first else o.firstSkipped } s)

/-- The plan records whose boundaries are known, in the order in which they are in force (R387). -/
def knownPlans (s : State) : List Plan :=
  s.plan.old.reverse ++ s.plan.running.toList ++ (if s.plan.pointPassed then s.plan.next.toList else [])

/-- The samples between the integration boundaries of a mark source under a plan: MAIN, or window w as
w + 1; none where no boundary exists (R387). -/
def Plan.markSpan (q : Plan) (src : Nat) : Option Nat :=
  if src = 0 then some (q.par0 .corrIntChunks * q.par0 .corrChunkLen)
  else
    let w := src - 1
    if q.par .zoomEnable w 0 = 1 ∧ q.par .zoomCorrelate w 0 = 1 then
      some (q.par0 .zoomIntChunks * q.par0 .zoomChunkLen * 2 ^ q.par .zoomStages w 0)
    else none

/-- The tide time of mark m of a source under a plan (R364, R387). -/
def Plan.markTide (q : Plan) (p : Prog) (m : Nat) : Option Nat :=
  (q.markSpan p.markSrc).map fun n =>
    tideShift (tideOf96 (q.par0 .timingScEpoch) +
      m * n * q.par0 .timingScRateDen * 65536000000000 / q.par0 .timingScRateNum) p.markOff

/-- The first integration number of a plan, from s_c on, whose mark asserts at or after `x` (R387). -/
def Plan.markFrom (q : Plan) (p : Prog) (x : Nat) : Nat :=
  match q.markSpan p.markSrc with
  | none => 0
  | some n =>
    let y := tideShift x (-p.markOff) - tideOf96 (q.par0 .timingScEpoch)
    let m := y * q.par0 .timingScRateNum / (q.par0 .timingScRateDen * 65536000000000) / n
    max (ceilDiv q.sc n) (if (q.markTide p m).getD 0 < x then m + 1 else m)

/-- The known record in which a MARK program stands. -/
def markPlan (p : Prog) (s : State) : Option Plan := (knownPlans s).find? fun q => q.epoch == p.plan

/-- A program moves on into a later plan once its next boundary lies in that plan: to the first boundary
whose mark does not assert before the boundary is known (R387). -/
def Prog.moveOn (s : State) (p : Prog) (q : Plan) : Prog :=
  let stays : Bool := match markPlan p s with
    | some a => (a.markSpan p.markSrc).any fun n => decide (p.next * n < q.sc)
    | none => false
  if q.epoch ≤ p.plan ∨ stays then p
  else { p with plan := q.epoch, next := q.markFrom p (max p.armed q.known) }

/-- A MARK program at its next mark. -/
def Prog.settle (p : Prog) (s : State) : Prog := (knownPlans s).foldl (fun x q => x.moveOn s q) p

/-- The tide time of an edge of a program: e_k of R385, or the mark of R387 in the plan where the program
stands. -/
def edgeTide (o : OutMode) (p : Prog) (k : Nat) (s : State) : Option Nat :=
  match o with
  | .pulse => some (p.start + k * p.period)
  | .mark => (markPlan p s).bind fun q => q.markTide p k
  | _ => none

/-- The lowest edge number with an edge at or after `x` (R385). -/
def edgeFrom (p : Prog) (x : Nat) : Nat :=
  if x ≤ p.start then 0 else if p.period = 0 then 1 else ceilDiv (x - p.start) p.period

/-- One plan of `marksPassed`: the marks of the plan in which the program stands. -/
def markPass (x : Nat) (s : State) (a : Nat × Prog) (_q : Plan) : Nat × Prog :=
  let p := a.2.settle s
  match markPlan p s with
  | none => (a.1, p)
  | some b =>
    let upto := b.markFrom p x
    let last := match (knownPlans s).find? (fun q => decide (b.epoch < q.epoch)), b.markSpan p.markSrc with
      | some q, some n => min upto (ceilDiv q.sc n)
      | _, _ => upto
    (a.1 + (last - p.next), { p with next := max p.next last })

/-- The marks that lie before tide time `x`, and the program after them. -/
def marksPassed (p : Prog) (x : Nat) (s : State) : Nat × Prog := (knownPlans s).foldl (markPass x s) (0, p)

/-- A program has no edge left (R385). -/
def Prog.over (p : Prog) : Bool := p.count != 0 && decide (p.first + p.count ≤ p.next)

/-- The end of a PULSE program that has passed its last edge (R386). -/
def endIfOver (n : Nat) (s : State) : State :=
  let o := out n s
  match o.prog with
  | some p =>
    if o.mode = .pulse ∧ p.over ∧ o.pulse.isNone then
      raise .tideOutDone [n, o.produced] (setOut n { o with prog := none } s)
    else s
  | none => s

/-- The held program of an output, as the ARM items' pending values hold it (R384). -/
def heldProg (n : Nat) (s : State) : OutMode × Prog :=
  let g (i : Item) := parPend i n 0 s
  let mode := if n = 8 then OutMode.pulse else match g .timingOutMode with
    | 1 => .pulse | 2 => .mark | _ => .off
  (mode, { start := tideOf96 (g .timingOutStart), period := g .timingOutPeriod,
           width := g .timingOutWidth, count := g .timingOutCount,
           lowPol := g .timingOutPolarity = 1, markSrc := g .timingOutMarkSrc,
           markOff := signed 64 (g .timingOutMarkOffset), first := 0, next := 0,
           armed := s.time.tide, plan := 0, notBefore := 0 })

/-- The items of an output's program (R384). -/
def armItems : List Item :=
  [.timingOutMode, .timingOutStart, .timingOutPeriod, .timingOutWidth, .timingOutCount,
   .timingOutPolarity, .timingOutMarkSrc, .timingOutMarkOffset]

/-- Why an ARM is refused: BAD_VALUE or START_PAST (R385); the checks bear on a PULSE program. -/
def armRefusal (mode : OutMode) (p : Prog) (tide : Nat) : Option Nat :=
  if mode ≠ .pulse then none
  else if p.period ≠ 0 ∧ p.period - nsT 10 < p.width then some 0x0005
  else if p.period = 0 ∧ p.count ≠ 1 then some 0x0005
  else if p.period = 0 ∧ p.start < tide + msT 1 then some 0x0049
  else none

/-- R385, R386: apply a program: the pulse that is asserted completes under its own width and
polarity, the new polarity drives the pin afterwards. -/
def applyProg (n : Nat) (mode : OutMode) (p : Prog) (s : State) : State :=
  let o := out n s
  let tide := s.time.tide
  let notBefore := match o.pulse with
    | some u => u.untilTide + nsT 10
    | none => 0
  let first := if mode = .pulse then edgeFrom p (tide + msT 1) else 0
  let p' := { p with first := first, next := first, armed := tide, plan := 0, notBefore := notBefore }
  let keep := o.mode = .gate
  let o' := { o with
    mode := if keep then .gate else mode
    prog := if mode = .off ∨ keep then none else some p'
    lowPol := p.lowPol
    produced := 0 }
  let s1 := setOut n o' s
  if o.pulse.isSome ∨ keep then s1 else drive n p.lowPol tide s1

/-- Assert or extend a pulse that begins at tide time `e` (R385, R387). -/
def assertPulse (n : Nat) (p : Prog) (e : Nat) (s : State) : State :=
  let o := out n s
  match o.pulse with
  | some u =>
    setOut n { o with
      pulse := some { u with untilTide := max u.untilTide (e + p.width)
                             untilClock := max u.untilClock (s.time.now + p.width) }
      produced := o.produced + 1 } s
  | none =>
    drive n (!p.lowPol) e (setOut n { o with
      pulse := some ⟨e + p.width, s.time.now + p.width, p.lowPol⟩
      lowPol := p.lowPol
      produced := o.produced + 1 } s)

/-! ### Steps of tide time (R361, R393, R415) -/

/-- What a step does to an output: the edges that a forward step passes are skipped. -/
def stepOut (old new n : Nat) (s : State) : State :=
  let o := out n s
  match o.prog with
  | none => s
  | some p =>
    if new ≤ old then s
    else if o.mode = .mark then
      let p0 := p.settle s
      let r := marksPassed p0 new s
      skipEdges n r.1 ((edgeTide .mark p0 p0.next s).getD 0) (setOut n { o with prog := some r.2 } s)
    else
      let last := if p.count ≠ 0 then min (edgeFrom p new) (p.first + p.count) else edgeFrom p new
      let k := last - p.next
      if k = 0 then s
      else endIfOver n (skipEdges n k ((edgeTide o.mode p p.next s).getD 0)
        (setOut n { o with prog := some { p with next := last } } s))

/-- Gate outputs are compared against tide time after the step: what is due at once takes effect at
once and counts in GATE_LATE (R393). -/
def stepGate (n : Nat) (s : State) : State :=
  let o := out n s
  let tide := s.time.tide
  let up := o.gate.assertAt.filter fun x => decide (x ≤ tide)
  let down := o.gate.deassertAt.filter fun x => decide (x ≤ tide)
  if o.mode ≠ .gate ∨ (up.isEmpty ∧ down.isEmpty) then s
  else
    let on := decide (down.foldl max 0 < up.foldl max 0) || down.isEmpty
    drive n (if on then !o.lowPol else o.lowPol) tide (count .gateLate n (up.length + down.length)
      (setOut n { o with gate := { o.gate with
        asserted := on
        assertAt := o.gate.assertAt.filter fun x => decide (tide < x)
        deassertAt := o.gate.deassertAt.filter fun x => decide (tide < x) } } s))

/-- Tide time minus a reference's time follows a step (R400). -/
def RefS.shift (d : Int) (x : RefS) : RefS :=
  { x with offset := x.offset + d, offRange := x.offRange.map fun r => (r.1 + d, r.2 + d) }

/-- Step tide time to `new` (R361): EV_TIME_STEP with the signed size and both times, the transmit
time-stamps held are marked STEPPED, the outputs follow R393. -/
def stepTide (new : Nat) (s : State) : State :=
  let old := s.time.tide
  let s1 := { s with time := { s.time with
    tide := new
    txts := s.time.txts.map fun (k, q) =>
      (k, { q with entries := q.entries.map fun e => { e with stepped := true } })
    refs := s.time.refs.map (RefS.shift ((new : Int) - old)) } }
  let s2 := (List.range 9).foldl (fun x n => stepGate n (stepOut old new n x)) s1
  raise .timeStep [wrapTo 128 ((new : Int) - old), tide96 old, tide96 new] s2

end Sys2Proof.Machine
end

