-- ==== Sys2Proof/Machine/ArrayOps.lean ====
section
/-! DEFINITION. The polder array (chapter 3): the tiling schedule, the rates of a die, and what
the lanes of a polder sum over a tile. -/

namespace Sys2Proof.Machine

/-! ### Rates (R30, R31, R36) -/

/-- A polder's clock in MHz (R107). -/
def polderMHz (n : Nat) (s : State) : Nat := 1200 + 25 * (polder n s).clockStep

/-- The polders of a ring that compute now. -/
def ringActive (ring : Nat) (s : State) : List Nat :=
  (ringPolders ring s).filter fun n => (polder n s).powered

/-- The pace of a ring in MHz: its slowest active polder, at most the stager's 1.8 GHz (R31). -/
def ringPace (ring : Nat) (s : State) : Nat := (ringPolders ring s).foldl (fun m n => min m (polderMHz n s)) 1800

/-- f_d in MHz: the lowest pace among the rings in use (R119). -/
def diePace (rings : List Nat) (s : State) : Nat := rings.foldl (fun m r => min m (ringPace r s)) 1800

/-- R36: the polder peak at 4+4 in units of 10^6 CMAC/s, over the rings that are not gone. -/
def polderPeak (s : State) : Nat :=
  ((List.range 24).filter fun r => !ringGone r s).foldl
    (fun a r => a + (ringPolders r s).length * 16384 * ringPace r s) 0

/-- Cycles per sample step (R29, R119): 1, 4 or 16. -/
def stepCycles (format : Nat) : Nat := if format = 1 then 1 else if format = 2 then 4 else 16

/-! ### The tiling schedule (R113, R116, R117) -/

/-- The slots of a ring in one tile period (R113): polders by slot. -/
def ringSlots (wide : Bool) (l : List Nat) : List (List Nat) := if wide then [l] else [l.take 3, l.drop 3]

/-- The slots of a die in one tile period, in order of ring and slot. -/
def dieSlots (wide : Bool) (rings : List Nat) (s : State) : List (List Nat) :=
  rings.flatMap fun r => ringSlots wide (ringPolders r s)

/-- R116: tile periods of a block with K tile-blocks over slots of these sizes. -/
def tilePeriods (k : Nat) (sizes : List Nat) : Nat :=
  if sizes.isEmpty ∨ sizes.foldl (· + ·) 0 = 0 then 0
  else max (ceilDiv k sizes.length) (ceilDiv (k * (k + 1)) (2 * sizes.foldl (· + ·) 0))

/-- The index of the largest entry, the highest index on ties. -/
def argmaxLast (l : List Nat) : Nat :=
  ((List.range l.length).foldl (fun (b : Nat × Nat) i =>
    if b.2 ≤ l.getD i 0 then (i, l.getD i 0) else b) (0, 0)).1

/-- R117: trim the counts until the excess is gone. -/
def trimCounts : Nat → List Nat → List Nat
  | 0, l => l
  | n + 1, l => let v := argmaxLast l; trimCounts n (l.set v (l.getD v 0 - 1))

/-- Order of the orientation step: score ascending, then row ascending. -/
def insertRow (score : List Nat) (x : Nat) : List Nat → List Nat
  | [] => [x]
  | y :: r =>
    if score.getD x 0 < score.getD y 0 ∨ (score.getD x 0 = score.getD y 0 ∧ x < y) then x :: y :: r
    else y :: insertRow score x r

/-- R117: hand the off-diagonal tiles to the rows: pairs of computing row and column block. -/
def orient : Nat → List Nat → List Nat → List (Nat × Nat)
  | 0, _, _ => []
  | n + 1, rows, score =>
    match rows with
    | [] => []
    | r0 :: _ =>
      let v := rows.foldl (fun b i => if score.getD b 0 ≤ score.getD i 0 then i else b) r0
      let rest := rows.filter (· != v)
      let order := rest.foldl (fun l x => insertRow score x l) []
      let own := order.take (score.getD v 0)
      let away := order.drop (score.getD v 0)
      own.map (fun x => (v, x)) ++ away.map (fun x => (x, v)) ++
        orient n rest (away.foldl (fun sc x => sc.set x (sc.getD x 0 - 1)) score)

/-- Ascending insertion. -/
def insertAsc (x : Nat) : List Nat → List Nat
  | [] => [x]
  | y :: r => if x < y then x :: y :: r else y :: insertAsc x r

/-- A list in ascending order. -/
def sortAsc (l : List Nat) : List Nat := l.foldl (fun a x => insertAsc x a) []

/-- A tile in the schedule: the polder and the tile period that compute it, its row block and its
column block. -/
structure Placed where
  polder : Nat
  period : Nat
  a : Nat
  b : Nat
deriving DecidableEq, Repr

/-- R117: fill the slots of a row, each with its period and its polders, in order. -/
def fillSlots : List (Nat × List Nat) → List (Nat × Nat) → List Placed
  | [], _ => []
  | (t, sl) :: r, tiles => (sl.zip tiles).map (fun w => ⟨w.1, t, w.2.1, w.2.2⟩) ++ fillSlots r (tiles.drop sl.length)

/-- The rows of the schedule, in the order of their tile-rows (R117). -/
def scheduleRows (k : Nat) (slots : List (List Nat)) : List Placed :=
  let g := tilePeriods k (slots.map (·.length))
  let all := (List.range g).flatMap fun t => slots.map fun sl => (t, sl)
  let rowSlots := fun i => ((List.range all.length).filter fun j => j % k == i).map fun j => all.getD j (0, [])
  let caps := (List.range k).map fun i => sumN ((rowSlots i).map (·.2.length))
  let cnt0 := caps.map fun c => min c k
  let cnt := trimCounts (sumN cnt0 - tilesOf k) cnt0
  let pairs := orient k (List.range k) (cnt.map (· - 1))
  (List.range k).flatMap fun v =>
    let cols := sortAsc ((pairs.filter (·.1 == v)).map (·.2))
    fillSlots (rowSlots v) ((v, v) :: cols.map fun c => (v, c))

/-- R114, R117: the tiles of a block with K tile-blocks in period order, each with the polder that computes
it. -/
def schedule (k : Nat) (slots : List (List Nat)) : List Placed :=
  let rows := scheduleRows k slots
  (List.range (tilePeriods k (slots.map (·.length)))).flatMap fun t => rows.filter (·.period == t)

/-- The largest number of polders that compute a tile in one tile period of the schedule (R130):
the tile index of a polder within a row's slots gives its period. -/
def busiestPeriod (k : Nat) (slots : List (List Nat)) : Nat :=
  let n := (slots.map (·.length)).foldl (· + ·) 0
  let g := tilePeriods k (slots.map (·.length))
  let l := slots.length
  let cnt0 := (List.range k).map fun i =>
    min k (((List.range (g * l)).filter fun j => j % k == i).foldl
      (fun a j => a + (slots.getD (j % l) []).length) 0)
  let cnt := trimCounts (cnt0.foldl (· + ·) 0 - tilesOf k) cnt0
  let used := (List.range (g * l)).foldl (fun (a : List Nat × List Nat) j =>
    let i := j % k
    let take := min (slots.getD (j % l) []).length (a.1.getD i 0)
    (a.1.set i (a.1.getD i 0 - take), a.2.set (j / l) (a.2.getD (j / l) 0 + take)))
    (cnt, List.replicate g 0)
  min n (used.2.foldl max 0)

/-! ### Samples (R57) -/

/-- The samples of a sub-block of one path as integer components. -/
def intSamples (format : Nat) : List Byte → List (Int × Int)
  | [] => []
  | a :: r =>
    if format = 1 then (signed 4 (a.toNat / 16), signed 4 (a.toNat % 16)) :: intSamples format r
    else match r with
      | [] => []
      | b :: r' => (signed 8 a.toNat, signed 8 b.toNat) :: intSamples format r'

/-- The samples of a sub-block of one path as binary16 patterns. -/
def halfSamples : List Byte → List (Nat × Nat)
  | a :: b :: c :: d :: r => (a.toNat * 256 + b.toNat, c.toNat * 256 + d.toNat) :: halfSamples r
  | _ => []

/-! ### Lanes (R88 to R97) -/

/-- One integer sample step of x_p × conj(x_q), into the sub-sum (R88, R91). -/
def laneStep (l : Lane) (w : (Int × Int) × (Int × Int)) : Lane :=
  let (x, y) := w
  { l with sub := (l.sub.1 + (x.1 * y.1 + x.2 * y.2), l.sub.2 + (x.2 * y.1 - x.1 * y.2)) }

/-- The sub-sum is added to the accumulators and cleared (R91). -/
def laneFlush (l : Lane) : Lane := ⟨(0, 0), (l.acc.1 + l.sub.1, l.acc.2 + l.sub.2)⟩

/-- Sample steps between two flushes: 16 at 4+4, 8 at 8+8 (R91, R93). -/
def laneGroup (format : Nat) : Nat := if format = 1 then 16 else 8

/-- The steps of two present sub-blocks in an integer format (R91, R93). -/
def laneSub (format : Nat) (a b : List (Int × Int)) (l : Lane) : Lane :=
  let g := laneGroup format
  (List.range (128 / g)).foldl (fun x i => laneFlush ((((a.zip b).drop (i * g)).take g).foldl laneStep x)) l

/-- One FP16 sample step (R94): the products are exact in binary32. -/
def laneFp (acc : Nat × Nat) (x y : Nat × Nat) : Nat × Nat :=
  let xr := f16.conv f32 x.1
  let xi := f16.conv f32 x.2
  let yr := f16.conv f32 y.1
  let yi := f16.conv f32 y.2
  (f32.add acc.1 (f32.add (f32.mul xr yr) (f32.mul xi yi)),
   f32.add acc.2 (f32.sub (f32.mul xi yr) (f32.mul xr yi)))

/-- The effective sub-blocks of one path of a slot, in order of time; none where the bit is clear. -/
def pathSubs (v : Slot) (subsPer path : Nat) : List (Option (List Byte)) :=
  (List.range subsPer).map fun q => sFind v.subs (path * subsPer + q)

/-- A lane over the sub-blocks of a tile: steps in which not both paths are present add zero (R90, R95 to
R97). -/
def laneRun (format : Nat) (a b : List (Option (List Byte))) : Lane :=
  (a.zip b).foldl (fun l w =>
    match w with
    | (some x, some y) =>
      if format = 3 then
        let r := ((halfSamples x).zip (halfSamples y)).foldl (fun c z => laneFp c z.1 z.2)
          (l.acc.1.toNat, l.acc.2.toNat)
        { l with acc := ((r.1 : Int), (r.2 : Int)) }
      else laneSub format (intSamples format x) (intSamples format y) l
    | _ => l) ⟨(0, 0), (0, 0)⟩

/-- The deficit of a baseline (R79): sub-blocks in which not both are present. -/
def laneDeficit (a b : List (Option (List Byte))) : Nat :=
  ((a.zip b).filter fun w => !(w.1.isSome && w.2.isSome)).length

/-- The lanes of a polder at the end of a tile, by logical row, and the deficits when the tile is not
intact (R79, R80, R99). -/
def tileLanes (v : Slot) (format subsPer : Nat) (job : TileJob) : List Lane × Option (List Nat) :=
  let rows := (List.range 128).map fun r => pathSubs v subsPer (128 * job.a + r)
  let cols := (List.range 128).map fun c => pathSubs v subsPer (128 * job.b + c)
  let intact := (rows ++ cols).all fun l => l.all (·.isSome)
  (rows.flatMap fun a => cols.map fun b => laneRun format a b,
   if intact then none else some (rows.flatMap fun a => cols.map fun b => laneDeficit a b))

/-! ### Rows (R106) -/

/-- The physical rows in service, ascending: logical row l is the (l + 1)th of them, and those beyond the
128th are unused spares (R106). -/
def rowMap (retired : List Nat) : List Nat := ((List.range 132).filter fun r => !retired.contains r).take 128

/-- The logical row that a physical row serves as, if any. -/
def logicalRow (retired : List Nat) (phys : Nat) : Option Nat := (rowMap retired).findIdx? (· == phys)

/-! ### What the collector makes of a shadow set (R101, R109, R118) -/

/-- R118: the sign change of an FP32 sum; a zero is written as +0. -/
def fpFlip (v : Nat) : Nat := if v % 2 ^ 31 = 0 then 0 else f32.neg v

/-- The conjugate's imaginary component. -/
def flipIm (fp : Bool) (v : Int) : Int := if fp then (fpFlip v.toNat : Int) else -v

/-- R101: a component is flagged: bits [33:31] of the 34-bit sum are not all equal, or an FP32 sum
is nonfinite. -/
def guardFlag (fp : Bool) (v : Int) : Bool :=
  if fp then f32.nonfinite v.toNat
  else decide (v < -2147483648) || decide (2147483647 < v)

/-- Two FP32 patterns agree; any two NaNs agree (R109). -/
def fpSame (a b : Nat) : Bool := a == b || (f32.isNan a && f32.isNan b)

/-- R109: the mirror mismatches of a diagonal tile as (row, column). -/
def mirrorFaults (fp : Bool) (sums : List (Int × Int)) : List (Nat × Nat) :=
  (List.range 128).flatMap fun r =>
    (List.range (r + 1)).filterMap fun c =>
      let a := sums.getD (r * 128 + c) (0, 0)
      let b := sums.getD (c * 128 + r) (0, 0)
      let ok := if fp then
          r == c || (fpSame a.1.toNat b.1.toNat && fpSame a.2.toNat (fpFlip b.2.toNat))
        else if r = c then a.2 == 0 else a.1 == b.1 && a.2 == -b.2
      if ok then none else some (r, c)

/-- The entries of a tile in canonical element order (R118, R133): lane (r, c) of a reflected tile
stands for element (c, r). -/
def canonical {α : Type} (d : α) (job : TileJob) (l : List α) : List α :=
  if job.a = job.b then
    (List.range 128).flatMap fun r => (List.range (128 - r)).map fun i => l.getD (r * 128 + r + i) d
  else if job.a < job.b then l
  else (List.range 128).flatMap fun r => (List.range 128).map fun c => l.getD (c * 128 + r) d

/-- The converted chunk of a shadow set. The guard check looks at the lanes' sums as they are (R101); the
reflection acts after it (R118). -/
def convert (x : Shadow) : Staged :=
  let reflected := decide (x.job.b < x.job.a)
  let sums0 := canonical (0, 0) x.job x.sums
  let sums := if reflected then sums0.map fun v => (v.1, flipIm x.fp v.2) else sums0
  let deficits := x.deficits.map (canonical 0 x.job)
  { slot := x.job.slot
    area := x.job.area
    epoch := x.job.epoch
    chan := x.job.chan
    chunk := x.job.chunk
    i := min x.job.a x.job.b
    j := max x.job.a x.job.b
    fp := x.fp
    sums := sums
    flags := sums0.map fun v => (guardFlag x.fp v.1, guardFlag x.fp v.2)
    deficits := deficits }

end Sys2Proof.Machine
end

