-- ==== Sys2Proof/Machine/SluiceOps.lean ====
section
/-! DEFINITION. The register file of a sluice core, results on their way, stops and traps, and the
control registers with their side effects (R314 to R319, R326 to R330, R343, R346, R349). -/

namespace Sys2Proof.Machine

/-! ### Cores (R313, R344, R359) -/

/-- A core loses registers and memories (R313). -/
def coreOff (c : Core) : Core := { resetCore with host := c.newHost.getD c.host }

/-- The state of a sluice core. -/
def core (n : Nat) (s : State) : Core := s.sluice.cores.getD n resetCore

/-- Change a sluice core. -/
def setCore (n : Nat) (c : Core) (s : State) : State :=
  { s with sluice := { s.sluice with cores := s.sluice.cores.set n c } }

/-- A core changes state: EV_SLUICE_STATE for a HOST core, but between RUNNING and WAITING
(R359). -/
def coreState (n : Nat) (st : CoreState) (s : State) : State :=
  let c := core n s
  let s1 := setCore n { c with state := st } s
  let quiet := (c.state == .running && st == .waiting) || (c.state == .waiting && st == .running)
  if c.host ∧ c.state ≠ st ∧ !quiet then raise .sluiceState [n, c.state.code, st.code] s1 else s1

/-! ### Registers (R314 to R318) -/

/-- What a register holds, results that have not landed apart. -/
def Core.reg (c : Core) (r : SReg) : Nat := sGet (fun _ => 0) c.regs r.key

/-- A register set at once. -/
def Core.setReg (c : Core) (r : SReg) (v : Nat) : Core := { c with regs := sPut (fun _ => 0) c.regs r.key v }

/-- RRB of the selected bank. -/
def Core.rrb (c : Core) : Nat := c.reg (.rrb c.inHandler)

/-- W, the width of the rotating window (R315, R317). -/
def Core.window (c : Core) : Nat := [16, 8, 4, 4].getD (c.rrb / 16 % 4) 16

/-- The physical register that a logical D register names (R315). -/
def Core.physD (c : Core) (n : Nat) : SReg :=
  if n < 16 then .d c.inHandler n
  else if n < 16 + c.window then .rot ((n - 16 + c.rrb % 16) % c.window)
  else .rot (n - 16)

/-- The physical register that an address register names. -/
def Core.physP (c : Core) (n : Nat) : SReg := if n < 8 then .p c.inHandler n else .ph (n - 8)

/-- A D register, 16 bits. -/
def Core.d (c : Core) (n : Nat) : Nat := c.reg (c.physD n)

/-- A D-register pair, 32 bits (R316). -/
def Core.pair (c : Core) (n : Nat) : Nat := c.d n + c.d (n + 1) * 65536

/-- An address register. -/
def Core.p (c : Core) (n : Nat) : Nat := c.reg (c.physP n)

/-- An accumulator, 40 bits. -/
def Core.a (c : Core) (n : Nat) : Nat := c.reg (.a c.inHandler n)

/-- SW of a bank, with IN (R318). -/
def Core.swOf (c : Core) (sh : Bool) : Nat := c.reg (.sw sh) % 8 + (if c.inHandler then 8 else 0)

/-- SW of the selected bank. -/
def Core.sw (c : Core) : Nat := c.swOf c.inHandler

/-! ### Results on their way (R328 to R330) -/

/-- Results that have landed by a cycle reach their registers; per register they stand in the order
of issue and of landing. -/
def Core.land (c : Core) (cyc : Nat) : Core :=
  let c1 := (c.late.filter fun l => decide (l.land ≤ cyc)).foldl (fun x l => x.setReg l.reg l.val) c
  { c1 with late := c.late.filter fun l => decide (cyc < l.land) }

/-- Every pending result lands (R339, R341, R343, R346). -/
def Core.landAll (c : Core) : Core :=
  let c1 := c.late.foldl (fun x l => x.setReg l.reg l.val) c
  { c1 with late := [] }

/-- R329: a result of latency `lat` issued now; earlier results that would land with it or after it
are discarded. -/
def Core.push (c : Core) (r : SReg) (v lat : Nat) : Core :=
  { c with late := (c.late.filter fun l => !(l.reg == r && decide (c.cycle + lat ≤ l.land))) ++
      [⟨r, v, c.cycle + lat⟩] }

/-- R330: an accumulator with every result issued for it in an earlier bundle. -/
def Core.accNow (c : Core) (n : Nat) : Nat :=
  match (c.late.filter fun l => l.reg == .a c.inHandler n).getLast? with
  | some l => l.val
  | none => c.a n

/-! ### Interrupt requests (R317) -/

/-- Bytes in the tap ring that the program has not consumed. -/
def Core.tapFill (c : Core) : Nat := (c.reg (.cr 37) + 2 ^ 32 - c.reg (.cr 38)) % 2 ^ 32

/-- TAP_READY, a level (R317, TAP_LEVEL). -/
def Core.tapReady (c : Core) : Bool := c.reg (.cr 39) != 0 && decide (c.reg (.cr 39) ≤ c.tapFill)

/-- IRQ_PEND. -/
def Core.irqPend (c : Core) : Nat := c.reg (.cr 8) / 2 * 2 % 32 + (if c.tapReady then 1 else 0)

/-- Set a request bit. -/
def Core.request (c : Core) (bit : Nat) : Core := c.setReg (.cr 8) (setBit (c.reg (.cr 8)) bit true)

/-- CYCLE_LO equals TIMER_CMP in one of the cycles of `[start, start + n)`. -/
def Core.timerHit (c : Core) (start n : Nat) : Bool :=
  (List.range n).any fun i => (start + i) % 2 ^ 32 == c.reg (.cr 9)

/-- TIMER is set pending in the cycles of `[start, start + n)` in which CYCLE_LO equals TIMER_CMP. -/
def Core.tick (c : Core) (start n : Nat) : Core := if c.timerHit start n then c.request 2 else c

/-! ### Stops and traps (R343, R344, R346) -/

/-- The boundary that the core stands at is interruptible (R338). -/
def Core.interruptible (c : Core) : Bool := !c.lastNI

/-- R344: the stopped core passes to the owner that a commit gave it: a HOST core stays LOADABLE, a
STOCK core runs what firmware loads. -/
def passOwner (n : Nat) (s : State) : State :=
  let c := core n s
  match c.newHost with
  | none => s
  | some h => setCore n { c with
      host := h
      newHost := none
      state := if h then .loadable else .running } s

/-- R346: the stop takes effect. -/
def stopNow (n : Nat) (s : State) : State :=
  let s1 := setCore n { (core n s).landAll with stopSince := none } s
  passOwner n (coreState n .loadable s1)

/-- R346: a stop is asked for: at once where the core issues nothing or stands at an interruptible
boundary, else it waits. -/
def askStop (n : Nat) (s : State) : State :=
  let c := core n s
  let runs := c.state == .running || c.state == .waiting
  if runs ∧ !c.interruptible then
    setCore n { c with stopSince := some (c.stopSince.getD s.time.now) } s
  else stopNow n s

/-- R343: a trap, and whether it comes within 60 s of the core's trap before (R359). -/
def trapCore (n cause : Nat) (s : State) : State :=
  let c := core n s
  let soon := match c.trapAt with
    | some t0 => decide (s.time.now < t0 + secT 60)
    | none => false
  let c1 := { (c.landAll.setReg (.cr 13) cause).setReg (.cr 14) c.pc with trapAt := some s.time.now, again := soon }
  let s1 := coreState n .trapped (setCore n c1 s)
  raise .sluiceTrap [n, cause, c.pc, if c.host then 1 else 0] (fire .sluiceTrap (count .traps n 1 s1))

/-! ### Control registers with side effects -/

/-- A read of CYCLE_LO latches CYCLE_HI (R317). -/
def Core.latch (c : Core) : Core := { c with cycleHi := c.cycle / 2 ^ 32 % 2 ^ 32 }

/-- The value that a read of a control register returns (R317, R18, R20). -/
def Core.crRead (n : Nat) (c : Core) (k : Nat) : Nat :=
  if k = 0 then c.sw
  else if k = 1 then c.rrb
  else if k = 8 then c.irqPend
  else if k = 10 then c.cycle % 2 ^ 32
  else if k = 11 then c.cycleHi
  else if k = 12 then n
  else if k = 15 ∨ k = 32 ∨ 48 ≤ k then 0
  else if k = 33 then 8 - c.moverQueue.length
  else c.reg (.cr k)

/-- The bits that a write of a control register reaches (R317, R326, R349); reserved bits read as
zero. -/
def crMask (k : Nat) : Nat :=
  if k = 2 then 2 ^ 17 - 1
  else if k = 3 ∨ k = 4 then 2 ^ 14 - 1
  else if k = 7 then 31
  else if 16 ≤ k ∧ k < 32 then 2 ^ 26 - 13
  else if k = 34 then 0x0FFFFF1D
  else 2 ^ 32 - 1

/-- Registers that ignore writes or act instead of holding what is written. -/
def crPlain (k : Nat) : Bool := !(k ∈ [0, 1, 8, 10, 11, 12, 13, 14, 15, 32, 33, 34, 37] || decide (48 ≤ k))

/-- A field that keeps its value where a reserved encoding is written (R20): bits `[lo, lo + 2)`,
reserved encoding 3. -/
def keepField (old v lo : Nat) : Nat :=
  if field v lo 2 = 3 then v - 3 * 2 ^ lo + field old lo 2 * 2 ^ lo else v

/-- A write of SW of a bank: SV and OV are w1c, IN is ro (R318). -/
def Core.writeSw (c : Core) (sh : Bool) (v : Nat) : Core :=
  c.setReg (.sw sh) ((c.reg (.sw sh) % 4) &&& (3 - v % 4) ||| (v / 4 % 2 * 4))

/-- A write of RRB of a bank: WIN = 3 is reserved (R20, R317). -/
def Core.writeRrb (c : Core) (sh : Bool) (v : Nat) : Core :=
  c.setReg (.rrb sh) (keepField (c.reg (.rrb sh)) (v % 64) 4)

/-- SW, RRB, IRQ_PEND, and the plain control registers, written by a core (R317, R318). -/
def Core.crWrite (c : Core) (k v : Nat) : Core :=
  if k = 0 then c.writeSw c.inHandler v
  else if k = 1 then c.writeRrb c.inHandler v
  else if k = 8 then c.setReg (.cr 8) (c.reg (.cr 8) &&& (31 - v % 32))
  else if crPlain k = true then
    let w := v &&& crMask k
    c.setReg (.cr k) (if 16 ≤ k ∧ k < 32 then keepField (c.reg (.cr k)) w 0 else w)
  else c

/-- R349: TAP_CTL is written; setting ENABLE clears TAP_WR and TAP_RD. -/
def tapCtl (n v : Nat) (s : State) : State :=
  let c := core n s
  let c1 := c.setReg (.cr 34) (v &&& crMask 34)
  if v % 2 = 1 ∧ c.reg (.cr 34) % 2 = 0 then setCore n ((c1.setReg (.cr 37) 0).setReg (.cr 38) 0) s
  else if v % 2 = 0 then
    { setCore n c1 s with sluice := { (setCore n c1 s).sluice with taps := s.sluice.taps.filter (·.core != n) } }
  else setCore n c1 s

/-- R317: PEER is set pending on core `k` of the same cluster. -/
def peerRaise (n k : Nat) (s : State) : State :=
  let m := n / 8 * 8 + k % 8
  setCore m ((core m s).request 4) s

/-- The data address of a descriptor's RESULT (R347). -/
def resultAt (addr : Nat) : Nat := addr % 0x20000 + 14

/-- R347: a mover descriptor is submitted and its RESULT reads pending, or it is ignored and counted. -/
def moverSubmit (n addr : Nat) (s : State) : State :=
  let c := core n s
  if 8 ≤ c.moverQueue.length then count .moverDropped n 1 s
  else setCore n { c with moverQueue := c.moverQueue ++ [addr], data := c.data.setByte (resultAt addr) 0xFF } s

/-- A control register is written by a core. -/
def writeCr (n k v : Nat) (s : State) : State :=
  if k = 15 then peerRaise n v s
  else if k = 32 then moverSubmit n v s
  else if k = 34 then tapCtl n v s
  else setCore n ((core n s).crWrite k v) s

/-! ### Taps (R349 to R351, R354) -/

/-- What a core taps of a channel: the paths, the step between tapped sub-blocks. -/
structure TapSet where
  paths : List Nat
  step : Nat

/-- The paths of the statistics pairs that a STOCK core watches on a channel (R354). -/
def statPaths (n chan : Nat) (s : State) : List Nat :=
  (s.sluice.stats.filter fun x => x.core == some n && x.chan == chan).map (·.path)

/-- The tap of a core on a channel: a HOST core's by TAP_CTL, a STOCK core's by the statistics list. -/
def tapOf (n chan : Nat) (p : Plan) (s : State) : Option TapSet :=
  let c := core n s
  if c.state = .off then none
  else if c.host then
    let v := c.reg (.cr 34)
    if v % 2 = 1 ∧ v / 256 % 65536 = chan then
      some { paths := (List.range (v / 2 ^ 24 % 16 + 1)).map fun i =>
               c.reg (.cr (40 + i / 2)) / 2 ^ (16 * (i % 2)) % 65536
             step := 2 ^ (v / 4 % 8) }
    else none
  else
    let l := statPaths n chan s
    if l.isEmpty ∨ c.state = .trapped then none
    else some { paths := l, step := 2 ^ p.par0 .sluiceStatsDecim }

/-- The records of a block that a tap takes. -/
def TapSet.records (t : TapSet) (subs : Nat) : Nat := ceilDiv subs t.step * t.paths.length

/-- R351: a block has closed; the cores that tap its channel owe its records. -/
def tapBlock (d i : Nat) (p : Plan) (s : State) : State :=
  let v := (die d s).slot i
  let due := (List.range 64).filterMap fun n => (tapOf n v.chan p s).map fun t =>
    ({ core := n, die := d, slot := i, epoch := v.epoch, block := v.block, next := 0,
       count := t.records p.s } : TapDue)
  { s with sluice := { s.sluice with taps := s.sluice.taps ++ due.filter fun x => x.count != 0 } }

/-- Records that a released block still owes to taps are missed (R351). -/
def missTaps (d slot : Nat) (s : State) : State :=
  let (due, rest) := s.sluice.taps.partition fun x => x.die == d && x.slot == slot
  due.foldl (fun y x => count .tapMissed x.core (x.count - x.next) y)
    { s with sluice := { s.sluice with taps := rest } }

end Sys2Proof.Machine
end

