-- ==== Sys2Proof/Machine/MemOps.lean ====
section
/-! DEFINITION. The DPA space: the channel list, the interleave and retirements, the regions of a
plan and where the tiles and their records lie (R427 to R432, R592), and the outer code (R441). -/

namespace Sys2Proof.Machine

/-! ### Locations (R428, R448) -/

/-- N0 (R427). -/
def n0 (s : State) : Nat := s.mem.list.length

/-- g (R428). -/
def grainBytes (s : State) : Nat := 2 ^ s.mem.grain

/-- Chunks of g bytes in 1 GiB. -/
def chunksPerGiB (s : State) : Nat := 2 ^ 30 / grainBytes s

/-- The location of chunk `u` before any retirement: channel and chunk of the channel. -/
def baseLoc (s : State) (u : Nat) : Nat × Nat := (s.mem.list.getD (u % n0 s) 0, u / n0 s)

/-- How many chunks of `[lo, lo + n)` satisfy `f`. -/
def countChunks (f : Nat → Bool) (lo : Nat) : Nat → Nat
  | 0 => 0
  | n + 1 => countChunks f lo n + (if f (lo + n) then 1 else 0)

/-- The `k`-th chunk (from 0) of `[lo, lo + n)` that satisfies `f`, in ascending order. -/
def kthChunk (f : Nat → Bool) : Nat → Nat → Nat → Nat
  | lo, 0, _ => lo
  | lo, n + 1, k =>
    if f lo then (match k with
      | 0 => lo
      | k' + 1 => kthChunk f (lo + 1) n k')
    else kthChunk f (lo + 1) n k

/-- R448: the location of a chunk under the retirements, newest first. -/
def chunkLoc (s : State) : List (Nat × Nat) → Nat → Nat × Nat
  | [], u => baseLoc s u
  | (chan, cap) :: older, u =>
    let loc := chunkLoc s older u
    if loc.1 ≠ chan then loc
    else
      let g := chunksPerGiB s
      let band := (cap - 1) * g
      let k := countChunks (fun v => (chunkLoc s older v).1 == chan) 0 u
      chunkLoc s older (kthChunk (fun v => (chunkLoc s older v).1 != chan) band g k)

/-- C, the capacity in GiB (R448). -/
def capGiB (s : State) : Nat := n0 s - s.mem.redirects.length

/-- The location of a DPA: channel and channel offset; none beyond the capacity in service. -/
def locOf (dpa : Nat) (s : State) : Option (Nat × Nat) :=
  if capGiB s * 2 ^ 30 ≤ dpa then none
  else
    let l := chunkLoc s s.mem.redirects.reverse (dpa / grainBytes s)
    some (l.1, l.2 * grainBytes s + dpa % grainBytes s)

/-- The channels in service. -/
def channelsUp (s : State) : List Nat :=
  s.mem.list.filter fun c => !(s.mem.redirects.any fun r => r.1 == c)

/-- A channel. -/
def ChanS.zero : ChanS :=
  { state := .training, tempAt := 0, trainedAt := 0, corrBase := 0, corrSince := 0, uncorrBase := 0,
    poisonBase := 0 }

/-- A channel by number. -/
def chan (c : Nat) (s : State) : ChanS := s.mem.chans.getD c ChanS.zero

/-- Change a channel. -/
def setChan (c : Nat) (x : ChanS) (s : State) : State :=
  { s with mem := { s.mem with chans := s.mem.chans.set c x } }

/-- An unfitted stack. -/
def StackS.none : StackS :=
  { fitted := false, bin := 0, temp := 0, queue := [], gather := .none, outage := .none, sliceAt := 0, held := .none }

/-- A stack. -/
def stack (k : Nat) (s : State) : StackS := s.mem.stackFile.getD k StackS.none

/-- Change a stack. -/
def setStack (k : Nat) (x : StackS) (s : State) : State :=
  { s with mem := { s.mem with stackFile := s.mem.stackFile.set k x } }

/-- R425: pin rate of a bin in 0.1 Gb/s. -/
def pinRate (bin : Nat) : Nat := [96, 80, 64, 56, 48].getD bin 48

/-- Peak of a channel in B/s (R425). -/
def chanPeak (c : Nat) (s : State) : Nat := pinRate (stack (c / 16) s).bin * 800000000

/-! ### The regions of a plan (R291, R430) -/

/-- E: the bytes of one channel image (R284's quantities). -/
def imageBytes (k e : Nat) : Nat := (k * (k - 1) / 2 * 16384 + k * 8256) * e

/-- Voltage bytes per sample of a beam (R185, R194). -/
def Plan.voltBytes (p : Plan) (b : Nat) : Nat :=
  let f := p.par .weirVoltFormat b 0
  if f = 0 then 0 else (if f = 1 then 1 else 2) * (if p.par .weirVoltPol b 0 = 1 then 2 else 1)

/-- Detected bytes per average of a beam. -/
def Plan.detBytes (p : Plan) (b : Nat) : Nat :=
  let m := p.par .weirDetMode b 0
  if m = 0 then 0
  else (if p.par .weirDetFormat b 0 = 1 then 4 else 2) * (if m = 2 then 4 else 1)

/-- Y: beam output bytes per block. -/
def Plan.beamBytes (p : Plan) : Nat :=
  (List.range p.beams).foldl (fun a b =>
    a + p.t * p.voltBytes b + p.t / 2 ^ p.par .weirDetAvgLog2 b 0 * p.detBytes b) 0 +
    p.beams * (p.t / 128) * 2

/-- C0. -/
def Plan.c0 (p : Plan) : Nat := p.par0 .corrChannelCount

/-- Γw (R174). -/
def Plan.groups (p : Plan) : Nat := ceilDiv p.c0 (p.par0 .weirChanGroup)

/-- Bytes of one weight bank (R174). -/
def Plan.bankBytes (p : Plan) : Nat := p.groups * p.k * p.par0 .weirBeamCount * 512

/-- Zoom chunk length T_z. -/
def Plan.tz (p : Plan) : Nat := p.par0 .zoomChunkLen

/-- Stages of a window. -/
def Plan.stages (p : Plan) (w : Nat) : Nat := p.par .zoomStages w 0

/-- m of the half-band designs (R204). -/
def halfBandM (design : Nat) : Nat := [2, 3, 4, 6, 8, 12, 16, 24].getD design 2

/-- The design of stage i, from 1 (R197). -/
def Plan.design (p : Plan) (w i : Nat) : Nat := field (p.par .zoomStageDesign w 0) (3 * (i - 1)) 3

/-- The distinct source channels of the enabled windows. -/
def Plan.sources (p : Plan) : List Nat := (p.windows.map fun w => p.par .zoomSourceChan w 0).eraseDups

/-- R214: zoom staging bytes. -/
def Plan.zoomStaging (p : Plan) : Nat :=
  2 * p.n * p.t * p.beta * p.sources.length + p.corrWindows.length * (2 * p.n * p.tz * 2) +
    (p.windows.map fun w =>
      p.n * 8 * ((List.range (p.stages w)).map fun i => 4 * halfBandM (p.design w (i + 1)) - 1).foldl
        (· + ·) 0).foldl (· + ·) 0

/-- The size of a region of a plan by kind (R430). -/
def Plan.regionSize (p : Plan) (kind : Nat) : Nat :=
  let zw := p.corrWindows.length
  let berm := p.par0 .ingressBermEntries * 65536
  let img := imageBytes p.k p.elemBytes
  if kind = 1 ∨ kind = 2 then p.c * img + berm
  else if kind = 3 ∨ kind = 4 then (if zw = 0 then 0 else zw * img + berm)
  else if kind = 5 ∨ kind = 6 then 2 * (p.c + zw) * tilesOf p.k * 32
  else if kind = 7 then 2 * p.bankBytes + 4 * p.par0 .weirBeamBufBlocks * p.beamBytes
  else if kind = 8 then p.zoomStaging
  else if kind = 9 then (if p.timeOrdered then 3 * p.c * p.blockBytes else 0)
  else if kind = 10 then p.par0 .egressStagingBuffers * 2 ^ 22
  else if kind = 11 then p.par0 .corrSnapBytes
  else 2 ^ 30

/-- A region's place in force. -/
def place (kind : Nat) (s : State) : Option Place := s.mem.places.find? (·.kind == kind)

/-- The region that a DPA lies in. -/
def regionAt (dpa : Nat) (s : State) : Option Place :=
  s.mem.places.find? fun x => decide (x.base ≤ dpa) && decide (dpa < x.base + x.size)

/-- The position of a channel's image in its area (R134, R212). -/
def Plan.image (p : Plan) (area chan : Nat) : Nat :=
  ((p.areaChannels area).findIdx? (· == chan)).getD 0

/-- R592: byte offset of a tile's records in RECORDS_A and RECORDS_B. -/
def Plan.recordOffset (p : Plan) (area region chan t : Nat) : Nat :=
  let c := (p.areaChannels area).length
  let before := if area = 0 then 0 else 2 * p.c
  (before * tilesOf p.k + (region * c + p.image area chan) * tilesOf p.k + t) * 32

/-- R592: the keeper that a tile is homed on. -/
def keeperOf (p : Plan) (area region chan t : Nat) (s : State) : Nat :=
  match place 5 s with
  | none => 0
  | some x =>
    match locOf (x.base + p.recordOffset area region chan t) s with
    | some l => l.1 / 16
    | none => 0

/-- The DPA of an element of a tile (R134). -/
def elemDpa (p : Plan) (area region chan t idx : Nat) (s : State) : Option Nat :=
  (place (1 + area * 2 + region) s).map fun x =>
    let (i, j) := tileAt p.k t
    x.base + p.image area chan * imageBytes p.k p.elemBytes + tileOffset p.k p.elemBytes i j +
      idx * p.elemBytes

/-- The DPA of a berm entry's value: the entries follow the totals of their region (log entry 16). -/
def bermDpa (p : Plan) (area region entry idx : Nat) (s : State) : Option Nat :=
  (place (1 + area * 2 + region) s).map fun x =>
    x.base + (p.areaChannels area).length * imageBytes p.k p.elemBytes + entry * 65536 + idx * 4

/-! ### Locations back to the DPA space -/

/-- A chunk that a retirement has redirected (R448). -/
def redirected (s : State) : List (Nat × Nat) → Nat → Bool
  | [], _ => false
  | (chan, _) :: older, u => (chunkLoc s older u).1 == chan || redirected s older u

/-- The DPA of a location in service: channel and channel offset. -/
def dpaOf (c off : Nat) (s : State) : Option Nat :=
  let g := grainBytes s
  let hit := fun (u : Nat) => chunkLoc s s.mem.redirects.reverse u == (c, off / g)
  match s.mem.list.findIdx? (· == c) with
  | none => none
  | some pos =>
    let u0 := off / g * n0 s + pos
    let cap := capGiB s * chunksPerGiB s
    let u := if u0 < cap ∧ hit u0 = true then some u0 else (List.range cap).find? hit
    u.map fun u => u * g + off % g

/-! ### Poison markers (R442, R449) -/

/-- The key of a codeword: its location over the whole module, divided by 64. -/
def codewordKey (c off : Nat) : Nat := (c * 2 ^ 30 + off) / 64

/-- The codeword holds the marker because a retirement redirected it. -/
def redirectPoison (c off : Nat) (s : State) : Bool :=
  !s.mem.redirects.isEmpty && (match dpaOf c off s with
    | some dpa => redirected s s.mem.redirects.reverse (dpa / grainBytes s)
    | none => false)

/-- A codeword holds the poison marker. -/
def poisoned (c off : Nat) (s : State) : Bool :=
  match sFind s.mem.poison (codewordKey c off) with
  | some b => b
  | none => redirectPoison c off s

/-- A codeword is written with the marker, or with fresh check symbols. -/
def setPoison (c off : Nat) (b : Bool) (s : State) : State :=
  let k := codewordKey c off
  let m := if redirectPoison c off s = b then sDel s.mem.poison k else sSet s.mem.poison k b
  { s with mem := { s.mem with poison := m } }

/-! ### Bytes of the DPA space -/

/-- A byte as the DRAM holds it. -/
def cellByte (dpa : Nat) (s : State) : Byte :=
  match locOf dpa s with
  | some l => s.mem.cells.byte (l.1 * 2 ^ 30 + l.2)
  | none => 0

/-- Write a byte of DRAM. -/
def setCell (dpa : Nat) (b : Byte) (s : State) : State :=
  match locOf dpa s with
  | some l => { s with mem := { s.mem with cells := s.mem.cells.setByte (l.1 * 2 ^ 30 + l.2) b } }
  | none => s

/-- Bytes of DRAM. -/
def cellsRead (dpa n : Nat) (s : State) : List Byte := (List.range n).map fun i => cellByte (dpa + i) s

/-- The DPA of a codeword's key. -/
def keyDpa (k : Nat) (s : State) : Option Nat := dpaOf (k * 64 / 2 ^ 30) (k * 64 % 2 ^ 30) s

/-- Codewords that a write covers whole take fresh check symbols (R435, R442). Without a redirected chunk
the markers are the listed ones. -/
def freshCodewords (dpa n : Nat) (s : State) : State :=
  let lo := ceilDiv dpa 64
  let hi := (dpa + n) / 64
  if s.mem.redirects.isEmpty then
    { s with mem := { s.mem with poison := s.mem.poison.filter fun e =>
        !((keyDpa e.1 s).any fun d => decide (lo * 64 ≤ d) && decide (d < hi * 64)) } }
  else (List.range (hi - lo)).foldl (fun x i => match locOf ((lo + i) * 64) x with
    | some l => setPoison l.1 l.2 false x
    | none => x) s

/-- A unit of the module writes bytes of DRAM. -/
def cellsWrite (dpa : Nat) (bytes : List Byte) (s : State) : State :=
  (bytes.zipIdx.foldl (fun x e => setCell (dpa + e.2) e.1 x) (freshCodewords dpa bytes.length s))

/-! ### The outer code (R441, R442) -/

/-- Multiplication by α in GF(2^8) with x^8 + x^4 + x^3 + x^2 + 1. -/
def gfDouble (a : Nat) : Nat := if a < 128 then a * 2 else (a * 2 - 256) ^^^ 0x1D

/-- Multiplication in GF(2^8). -/
def gfMul (a b : Nat) : Nat :=
  ((List.range 8).foldl (fun (acc : Nat × Nat) i =>
    (if bitAt b i then acc.1 ^^^ acc.2 else acc.1, gfDouble acc.2)) (0, a)).1

/-- α^n. -/
def gfPow : Nat → Nat
  | 0 => 1
  | n + 1 => gfDouble (gfPow n)

/-- Syndrome i of an error pattern: symbol 0 is the highest-order data byte, symbols 64 to 67 are
the check symbols. -/
def syndrome (i : Nat) (errs : List (Fin 68 × Byte)) : Nat :=
  errs.foldl (fun a e => a ^^^ gfMul e.2.toNat (gfPow (i * (67 - e.1.val)))) 0

/-- How a read ends (R442). -/
inductive ReadEnd where
  | clean | corrected | poison | uncorrectable
deriving DecidableEq, Repr

/-- The marker: check symbols 2 and 3 XORed with 0x01 (R442). -/
def markerErr : List (Fin 68 × Byte) := [(66, 1), (67, 1)]

/-- R441, R442: the outcome of a read whose stored symbols differ from a codeword by `errs`. -/
def readEnd (errs : List (Fin 68 × Byte)) : ReadEnd :=
  let s0 := syndrome 0 errs
  let s1 := syndrome 1 errs
  let s2 := syndrome 2 errs
  let s3 := syndrome 3 errs
  if s0 = 0 ∧ s1 = 0 ∧ s2 = 0 ∧ s3 = 0 then .clean
  else if s0 = syndrome 0 markerErr ∧ s1 = syndrome 1 markerErr ∧ s2 = syndrome 2 markerErr ∧
      s3 = syndrome 3 markerErr then .poison
  else if s0 ≠ 0 ∧ (List.range 68).any (fun j =>
      let x := gfPow j
      gfMul s0 x == s1 && gfMul s1 x == s2 && gfMul s2 x == s3) then .corrected
  else .uncorrectable

/-! ### Power of the units -/

/-- A unit has power and is fitted (R522, R569); the always-on units and the decompressor, which has no
domain, are always up. -/
def unitUp (u : Nat) (s : State) : Bool :=
  let on (pd : Nat) : Bool := domain pd s == .on
  if u = 0 then true
  else if 8 ≤ u ∧ u < 12 then on (26 + u)
  else if 0x10 ≤ u ∧ u < 0x30 then on (34 + (u - 0x10) / 8)
  else if u = 0x30 ∨ u = 0x31 then on 38
  else if 0x40 ≤ u ∧ u < 0x44 then on (24 + (u - 0x40))
  else if 0x48 ≤ u ∧ u < 0x50 then on (28 + (u - 0x48) / 2)
  else if 0x50 ≤ u ∧ u < 0x68 then on (u - 0x50)
  else if u = 0x70 then on 32
  else if 0x71 ≤ u ∧ u < 0x74 then on 39
  else if 0x74 ≤ u ∧ u < 0x79 then true
  else if 0x80 ≤ u ∧ u < 0x88 then (stack (u - 0x80) s).fitted
  else if 0x90 ≤ u ∧ u < 0x98 then on 33
  else if 0x100 ≤ u ∧ u < 0x1A8 then on ((u - 0x100) / 7) && (polder (u - 0x100) s).powered
  else if 0x200 ≤ u ∧ u < 0x240 then on 33
  else false

/-! ### Canal addresses (R456) -/

/-- A target of the canal. -/
inductive Target where
  | regs | sram | bb | sem | culvert (d : Nat) | tiles (n : Nat) | load (n : Nat) | dram (dpa : Nat)
deriving DecidableEq, Repr

/-- The target of an address (R456). -/
def targetOf (a : Nat) : Option Target :=
  if a < 0x40000000 then some .regs
  else if 0x100000000 ≤ a ∧ a < 0x101000000 then some .sram
  else if 0x101000000 ≤ a ∧ a < 0x101040000 then some .bb
  else if 0x102000000 ≤ a ∧ a < 0x102001000 then some .sem
  else if 0x200000000 ≤ a ∧ a < 0x240000000 then some (.culvert ((a - 0x200000000) / 0x10000000))
  else if 0x300000000 ≤ a ∧ a < 0x300080000 then some (.tiles ((a - 0x300000000) / 0x10000))
  else if 0x400000000 ≤ a ∧ a < 0x401000000 then some (.load ((a - 0x400000000) / 0x40000))
  else if 0x10000000000 ≤ a ∧ a < 2 ^ 64 then some (.dram (a - 0x10000000000))
  else none

/-- The stack that holds an address of the canal. -/
def stackAt (a : Nat) (s : State) : Option Nat :=
  match targetOf a with
  | some (.tiles n) => some n
  | some (.dram dpa) => (locOf dpa s).map fun l => l.1 / 16
  | _ => none

/-- The addresses of a range that its pieces are held for: its start, and every grain from there on. -/
def rangeStarts (a len : Nat) : List Nat :=
  (List.range (len / 256 + 2)).map fun i => if i = 0 then a else min (a + len - 1) ((a / 256 + i) * 256)

end Sys2Proof.Machine
end

