-- ==== Sys2Proof/Machine/ZoomStage.lean ====
section
/-! DEFINITION. Zoom source staging (R200 to R202): the copies of the source channels' sub-blocks in the
ZOOM_STAGING region, and the bitmaps that close with their blocks. -/

namespace Sys2Proof.Machine

/-- The DPA of the staging area that a chunk of a source channel fills: the areas stand at the head of
ZOOM_STAGING, two for each channel in the order of the windows that name them, taken by the chunks in turn
(DESIGN CHOICE, log entry 112). -/
def stageArea (p : Plan) (chan chunk : Nat) (s : State) : Option Nat :=
  match place 8 s, p.sources.findIdx? (· == chan) with
  | some x, some i => some (x.base + (2 * i + chunk % 2) * p.blockBytes)
  | _, _ => none

/-- The entry of a block under a plan record. -/
def ZSource.ofBlock (z : ZSource) (p : Plan) (chan chunk : Nat) : Bool :=
  z.epoch == p.epoch && z.chan == chan && z.chunk == chunk

/-- The zoom engine takes copies (R200). -/
def copies (p : Plan) (chan : Nat) (s : State) : Bool :=
  p.sources.contains chan && domain 32 s == .on && !s.zoom.out

/-- A block begins to fill its area; what a block before it left there unprocessed is lost (DESIGN CHOICE,
log entry 112). -/
def stageOpen (p : Plan) (chan chunk : Nat) (s : State) : State :=
  match stageArea p chan chunk s with
  | none => s
  | some a =>
    if s.zoom.sources.any (·.ofBlock p chan chunk) then s
    else { s with zoom := { s.zoom with sources :=
      (s.zoom.sources.map fun z => if z.at_ = a then { z with subs := [] } else z) ++
        [⟨p.epoch, chan, chunk, a, false, []⟩] } }

/-- R200: the copy of a sub-block that is written into the culvert. -/
def stageSub (p : Plan) (chan chunk key : Nat) (bytes : List Byte) (s : State) : State :=
  if !copies p chan s then s
  else
    let s1 := stageOpen p chan chunk s
    match s1.zoom.sources.find? (·.ofBlock p chan chunk) with
    | none => s1
    | some z =>
      cellsWrite (z.at_ + key * (128 * p.beta)) bytes { s1 with zoom := { s1.zoom with
        sources := s1.zoom.sources.map fun y =>
          if y.ofBlock p chan chunk && !y.closed then { y with subs := y.subs ++ [key] } else y } }

/-- R201: the source block closes; the input bitmap is the presence bitmap of what was copied. -/
def stageClose (p : Plan) (v : Slot) (s : State) : State :=
  if !copies p v.chan s then s
  else
    let s1 := stageOpen p v.chan v.chunk s
    { s1 with zoom := { s1.zoom with
      sources := s1.zoom.sources.map fun z =>
        if z.ofBlock p v.chan v.chunk then
          { z with closed := true, subs := z.subs.filter fun k => (sFind v.subs k).isSome }
        else z } }

/-- The samples of a sub-block of a source block, if its input bit is set. -/
def stagedSub (p : Plan) (z : ZSource) (s : State) (key : Nat) : Option (List Byte) :=
  if z.subs.contains key then some (cellsRead (z.at_ + key * (128 * p.beta)) (128 * p.beta) s) else none

/-- An uncorrectable error in source staging clears input bits of a block (R201). -/
def stageErrors (z : ZSource) (keys : List Nat) (s : State) : State :=
  let hits := keys.filter z.subs.contains
  count .zoomStagingUncorr 0 hits.length
    { s with zoom := { s.zoom with
      sources := s.zoom.sources.map fun y =>
        if y = z then { y with subs := y.subs.filter fun k => !hits.contains k } else y } }

/-! ### Blocks that do not come (R73, R202, R299, R548) -/

/-- The block of a channel's chunk is skipped, or its die has released it or moved past it. -/
def blockGone (p : Plan) (chan k : Nat) (s : State) : Bool :=
  match p.pos chan with
  | none => true
  | some j =>
    let b := p.block k j
    let x := die (b % 4) s
    p.skips k j || x.stopped || decide (p.epoch < x.epoch) ||
      (x.epoch == p.epoch && (decide (b < x.released) || x.ahead.contains b))

/-- A chunk of a source channel comes without a block: skipped, shed, or lost with its die (R202). -/
def sourceAbsent (p : Plan) (chan k : Nat) (s : State) : Bool :=
  decide (scTide ((k + 1) * p.t) s ≤ s.time.tide) && blockGone p chan k s

/-- The plan record of a commit that a chunk of it belongs to: a shed makes a new one (R308). -/
def chunkPlan (p : Plan) (k : Nat) (s : State) : Plan :=
  match planAt (k * p.t) s with
  | some q => if q.commit = p.commit then q else p
  | none => p

/-- The closed source block of a chunk, with no sub-block where none comes; none while it has not
closed. -/
def sourceBlock (p : Plan) (chan k : Nat) (s : State) : Option ZSource :=
  let q := chunkPlan p k s
  match s.zoom.sources.find? fun z => z.ofBlock q chan k with
  | some z => if z.closed then some z else none
  | none => if sourceAbsent q chan k s then some ⟨q.epoch, chan, k, 0, true, []⟩ else none

end Sys2Proof.Machine
end

