-- ==== Sys2Proof/Machine/BlockOps.lean ====
section
/-! DEFINITION. The culvert slots of a die as blocks open, fill, close and are skipped (R68 to
R77), shared by ingress, the corner turn and the tiling schedule. -/

namespace Sys2Proof.Machine

/-! ### Culvert errors (R84, R85) -/

/-- Uncorrectable errors found in sub-blocks of a slot: their presence bits are cleared. -/
def culvertErrors (d slot : Nat) (keys : List Nat) (corrected : Nat) (s : State) : State :=
  keys.foldl (fun x key =>
    let y := die d x
    let v := y.slot slot
    match sFind v.subs key with
    | none => x
    | some l =>
      let y1 := match planOf v.epoch x with
        | some p => y.keepSubs p slot [(key, l)]
        | none => y
      fire .culvertUncorr (count .culvertUncorr d 1
        (setDie d (y1.setSlot slot { v with subs := sDel v.subs key }) x)))
    (count .culvertCorr d corrected s)

/-! ### Blocks -/

/-- ingress.close_wait of a plan: AUTO follows R75, or R67 in time-ordered ingress. -/
def Plan.closeWait (p : Plan) : Nat :=
  match p.par0 .ingressCloseWait with
  | 0 =>
    if p.timeOrdered then min (msT 1) (min (p.span p.t 1 / 2) p.skew) else p.skew
  | v => nsT v

/-- R163: an engine 2d + e is in service. -/
def engineUp (d e : Nat) (s : State) : Bool :=
  !(s.weir.engines.getD (2 * d + e) ⟨false, none⟩).out && domain (28 + d) s == .on

/-- The engines of a die that form beams of a plan. -/
def weirsOf (p : Plan) (d : Nat) (s : State) : List Nat :=
  if p.beams = 0 then [] else [0, 1].filter fun e => engineUp d e s

/-- R171, R545: count a block of die `d` that is not beamformed because it is skipped. -/
def countBeamSkip (p : Plan) (d : Nat) (s : State) : State :=
  if p.beams = 0 then s
  else match weirsOf p d s with
    | [] => count .dieBeamBlocksLost d 1 s
    | l => l.foldl (fun x e => count .beamBlocksSkipped (2 * d + e) 1 x) s

/-- R548: the die whose collector accounts for a block assigned to die `d`. -/
def collectorFor (d : Nat) (s : State) : Nat :=
  (([d, d + 1, d + 2, d + 3].map (· % 4)).find? fun x => !(die x s).stopped).getD d

/-- A chunk of a channel becomes due for LEDGER_ONLY operations (R144) on the collector of a die. -/
def ledgerDue (d area epoch chan chunk : Nat) (s : State) : State :=
  let d' := collectorFor d s
  let x := die d' s
  setDie d' { x with ledgerDue := x.ledgerDue ++ [⟨area, epoch, chan, chunk⟩] } s

/-- The sub-blocks of a main block, N × S. -/
def Plan.blockSubs (p : Plan) : Nat := p.n * p.s

/-- R299, R71: the block is skipped under SHED_BLOCKS and its chunk has started. -/
def skippedNow (p : Plan) (b : Nat) (s : State) : Bool :=
  p.skipsBlock b && decide (b / p.c * p.t ≤ tideSc s.time.tide s)

/-- R73, R71: release the leading blocks of a die that are skipped: SHED_BLOCKS blocks, and blocks
that closed with no sub-block present. -/
def dieAdvance : Nat → Nat → State → State
  | 0, _, s => s
  | n + 1, d, s =>
    let x := die d s
    match planOf x.epoch s with
    | none => s
    | some p =>
      if skippedNow p x.released s then
        let b := x.released
        dieAdvance n d (countBeamSkip p d (ledgerDue d 0 p.epoch (p.blockChan b) (b / p.c)
          (setDie d { x with released := b + 4 } s)))
      else if x.ahead.contains x.released then
        dieAdvance n d (setDie d { x with
          released := x.released + 4
          ahead := x.ahead.filter (· != x.released) } s)
      else
        match x.find x.epoch x.released with
        | none => s
        | some i =>
          let v := x.slot i
          if v.state = .closed ∧ v.skip ∧ x.runs.all (fun r => r.slot != i) then
            let x0 := x.freeSlot p i
            let x1 := { x0 with released := v.block + 4 }
            dieAdvance n d (countBeamSkip p d (ledgerDue d 0 v.epoch v.chan v.chunk (missTaps d i (setDie d x1 s))))
          else s

/-- R72, R201, R351: a main block closes; its zoom copy stands ready when its channel is a source, and
the taps of its channel may read it. -/
def closeSlot (d i : Nat) (p : Plan) (s : State) : State :=
  let x := die d s
  let v := x.slot i
  let full := decide (v.subs.length = p.blockSubs)
  let empty := v.subs.isEmpty
  let x0 := x.setSlot i { v with state := .closed, closedAt := s.time.now, skip := empty }
  let x1 := { x0 with
    gapIncomplete := x.gapIncomplete + (if full || empty then 0 else 1)
    gapEmpty := x.gapEmpty + (if empty then 1 else 0)
    gapLowest := if full then x.gapLowest
      else if x.gapIncomplete + x.gapEmpty = 0 then v.block else min x.gapLowest v.block }
  let s1 := setDie d x1 s
  let s2 := if empty then count .blocksEmpty d 1 s1
    else if full then s1 else count .blocksIncomplete d 1 s1
  dieAdvance 256 d (tapBlock d i p (stageClose p v s2))

/-- R70: the block numbers that must open so that block `b` opens, in order; none when there are
more than the FREE slots can take. -/
def toOpen (p : Plan) (x : Die) (b : Nat) : Option (List Nat) :=
  let span := (b - x.released) / 4 + 1
  if 64 < span then none
  else
    let l := ((List.range span).map fun i => x.released + 4 * i).filter fun c =>
      !p.skipsBlock c && !x.ahead.contains c && (x.find p.epoch c).isNone
    if x.freeSlots.length < l.length then none else some l

/-- Open the blocks of a list, each in the lowest FREE slot. -/
def openAll (p : Plan) (now : Nat) (x : Die) (l : List Nat) : Die :=
  l.foldl (fun y b =>
    match y.freeSlots with
    | [] => y
    | i :: _ => y.setSlot i { Slot.empty with
        state := .open
        epoch := p.epoch
        block := b
        chan := p.blockChan b
        chunk := b / p.c
        openAt := now }) x

/-- What culvert admission makes of a block (R70, R72, R305). -/
inductive Admit where
  | late
  | noSlot
  | slot (i : Nat)
deriving DecidableEq, Repr

/-- R305: the die moves on to the blocks of a later plan record: what it has not opened of the
earlier one counts as skipped. -/
def dieSwitch (p : Plan) (d : Nat) (s : State) : State :=
  let x := die d s
  let s1 := match planOf x.epoch s with
    | none => s
    | some q =>
      let stop := p.sc / q.t * q.c
      let left := ((List.range ((stop + 3 - x.released) / 4)).map fun i => x.released + 4 * i).filter fun b => decide (b < stop) && !x.ahead.contains b
      left.foldl (fun y b =>
        countBeamSkip q d (ledgerDue d 0 q.epoch (q.blockChan b) (b / q.c) y)) s
  let x1 := die d s1
  let slots := (List.range p.m).map fun i =>
    let v := x1.slot i
    if v.state = .zoom then v else Slot.empty
  setDie d { x1 with epoch := p.epoch, released := p.firstBlock d, ahead := [], slots := slots } s1

/-- R305: the die has completed every block that it holds, and a zoom block that it holds lies in a
slot of the new layout. -/
def Die.canSwitch (p : Plan) (x : Die) : Bool :=
  (x.slots.all fun v => v.state == .free || v.state == .zoom) &&
    (x.slots.drop p.m).all (fun v => v.state == .free) && x.runs.all (·.isZoom)

/-- R70: bring block `b` of a plan record into a slot of its die. -/
def admitBlock (p : Plan) (b d : Nat) (s : State) : Admit × State :=
  let x := die d s
  if x.stopped then (.noSlot, s)
  else if p.epoch < x.epoch then (.late, s)
  else if x.epoch < p.epoch ∧ !x.canSwitch p then (.noSlot, s)
  else
    let s1 := if x.epoch < p.epoch then dieSwitch p d s else s
    let x1 := die d s1
    if b < x1.released ∨ x1.ahead.contains b then (.late, s1)
    else
      match x1.find p.epoch b with
      | some i => if (x1.slot i).state = .open then (.slot i, s1) else (.late, s1)
      | none =>
        match toOpen p x1 b with
        | none => (.noSlot, s)
        | some l =>
          let s2 := setDie d (openAll p s1.time.now x1 l) s1
          match (die d s2).find p.epoch b with
          | some i => (.slot i, s2)
          | none => (.noSlot, s2)

/-- R76, R200: write one sub-block of a slot, unless its presence bit is set, and its copy for the zoom
engine. -/
def writeSub (p : Plan) (d i key : Nat) (bytes : List Byte) (s : State) : State :=
  let x := die d s
  let v := x.slot i
  match sFind v.subs key with
  | some _ => count .dupSubblocks d 1 s
  | none => stageSub p v.chan v.chunk key bytes (setDie d (x.setSlot i { v with subs := sSet v.subs key bytes }) s)

/-- Close a slot whose presence bitmap is complete (R72). -/
def closeIfFull (d i : Nat) (p : Plan) (s : State) : State :=
  if ((die d s).slot i).subs.length = p.blockSubs ∧ ((die d s).slot i).state = .open then
    closeSlot d i p s else s

end Sys2Proof.Machine
end

