-- ==== Sys2Proof/Machine/Frames.lean ====
section
/-! DEFINITION. Ethernet, VLAN, IPv4, IPv6 and UDP as the ports read and write them (R49 to R52,
R228): headers in the layouts of IEEE 802.3, RFC 791, RFC 8200, RFC 768, RFC 826 and RFC 4861
(PRESUMED, log entry 15). -/

namespace Sys2Proof.Machine

/-- Offset of the Ethertype: one 802.1Q tag may precede it (R52). -/
def ethTypeAt (bs : List Byte) : Nat := if beAt bs 12 2 = 0x8100 then 16 else 12

/-- The Ethertype. -/
def ethType (bs : List Byte) : Nat := beAt bs (ethTypeAt bs) 2

/-- What follows the Ethertype. -/
def ethBody (bs : List Byte) : List Byte := bs.drop (ethTypeAt bs + 2)

/-- PAUSE or priority flow control (R51): MAC control with opcode 0x0001 or 0x0101. -/
def isFlowControl (bs : List Byte) : Bool :=
  ethType bs == 0x8808 && (beAt (ethBody bs) 0 2 == 1 || beAt (ethBody bs) 0 2 == 0x0101)

/-- A UDP datagram: whether it came over IPv6, the pseudo header's sum part, and its segment from
the UDP header on. -/
structure Udp where
  v6 : Bool
  pseudo : List Byte
  seg : List Byte

/-- Destination port. -/
def Udp.dst (u : Udp) : Nat := beAt u.seg 2 2
/-- The length field. -/
def Udp.len (u : Udp) : Nat := beAt u.seg 4 2
/-- The checksum field. -/
def Udp.sum (u : Udp) : Nat := beAt u.seg 6 2

/-- UDP over IPv4 with no options and not fragmented, or UDP over IPv6 with no extension headers
(R52). -/
def parseUdp (bs : List Byte) : Option Udp :=
  let b := ethBody bs
  if ethType bs = 0x0800 then
    let total := beAt b 2 2
    if beAt b 0 1 = 0x45 ∧ beAt b 6 2 % 0x4000 = 0 ∧ beAt b 9 1 = 17 ∧ 28 ≤ total ∧ total ≤ b.length then
      let seg := slice b 20 (total - 20)
      some ⟨false, slice b 12 8 ++ natBE 2 17 ++ slice seg 4 2, seg⟩
    else none
  else if ethType bs = 0x86DD then
    let plen := beAt b 4 2
    if beAt b 0 1 / 16 = 6 ∧ beAt b 6 1 = 17 ∧ 8 ≤ plen ∧ plen + 40 ≤ b.length then
      let seg := slice b 40 plen
      some ⟨true, slice b 8 32 ++ natBE 2 0 ++ slice seg 4 2 ++ natBE 4 17, seg⟩
    else none
  else none

/-- R52: the UDP checksum is verified when nonzero over IPv4, and always over IPv6. -/
def Udp.sumOk (u : Udp) : Bool :=
  if u.sum = 0 then !u.v6
  else onesSum (u.pseudo ++ u.seg.take u.len) == 65535

/-- A PTP message: Ethertype 0x88F7, or UDP port 319 or 320. -/
def isPtp (bs : List Byte) : Bool :=
  ethType bs == 0x88F7 ||
    match parseUdp bs with
    | some u => u.dst == 319 || u.dst == 320
    | none => false

/-- An ARP request for an IPv4 address. -/
def arpTarget (bs : List Byte) : Option Nat :=
  let b := ethBody bs
  if ethType bs = 0x0806 ∧ 28 ≤ b.length ∧ beAt b 0 2 = 1 ∧ beAt b 2 2 = 0x0800 ∧ beAt b 4 2 = 0x0604 ∧
      beAt b 6 2 = 1 then some (beAt b 24 4) else none

/-- An IPv6 neighbour solicitation for an address. -/
def nsTarget (bs : List Byte) : Option Nat :=
  let b := ethBody bs
  if ethType bs = 0x86DD ∧ 64 ≤ b.length ∧ beAt b 0 1 / 16 = 6 ∧ beAt b 6 1 = 58 ∧ beAt b 40 1 = 135 then
    some (beAt b 48 16) else none

/-- The answer to an ARP request: `mac` holds the address asked for. -/
def arpReply (bs : List Byte) (mac : Nat) : List Byte :=
  let b := ethBody bs
  slice bs 6 6 ++ natBE 6 mac ++ natBE 2 0x0806 ++ natBE 2 1 ++ natBE 2 0x0800 ++ natBE 2 0x0604 ++
    natBE 2 2 ++ natBE 6 mac ++ slice b 24 4 ++ slice b 8 10

/-- The neighbour advertisement that answers a solicitation (solicited, override). -/
def nsReply (bs : List Byte) (mac : Nat) : List Byte :=
  let b := ethBody bs
  let icmp0 := natBE 1 136 ++ natBE 1 0
  let icmp1 := natBE 4 0x60000000 ++ slice b 48 16 ++ natBE 2 0x0201 ++ natBE 6 mac
  let pseudo := slice b 48 16 ++ slice b 8 16 ++ natBE 4 32 ++ natBE 4 58
  let sum := inetCheck (pseudo ++ icmp0 ++ natBE 2 0 ++ icmp1)
  slice bs 6 6 ++ natBE 6 mac ++ natBE 2 0x86DD ++ natBE 4 0x60000000 ++ natBE 2 32 ++ natBE 1 58 ++
    natBE 1 255 ++ slice b 48 16 ++ slice b 8 16 ++ icmp0 ++ natBE 2 sum ++ icmp1

/-- The checksum of a UDP datagram (R228): IP version, addresses, ports, payload. -/
def udpSum (v6 : Bool) (src dst sport dport : Nat) (data : List Byte) : Nat :=
  let len := data.length + 8
  let al := if v6 then 16 else 4
  let c := inetCheck (natBE al src ++ natBE al dst ++ natBE 4 17 ++ natBE 4 len ++ natBE 2 sport ++ natBE 2 dport ++
    natBE 2 len ++ data)
  if c = 0 then 65535 else c

/-- An Ethernet frame with a UDP datagram: destination and source MAC, the tag or none, the IP
version, TOS, source and destination address, source and destination port, payload. -/
def udpFrame (dmac smac : Nat) (tag : Option Nat) (v6 : Bool) (dscp src dst sport dport : Nat)
    (data : List Byte) : List Byte :=
  let len := data.length + 8
  let al := if v6 then 16 else 4
  let addrs := natBE al src ++ natBE al dst
  let seg := natBE 2 sport ++ natBE 2 dport ++ natBE 2 len ++ natBE 2 (udpSum v6 src dst sport dport data) ++ data
  let ip := if v6 then
      natBE 4 (0x60000000 + dscp * 4 * 2 ^ 20) ++ natBE 2 len ++ natBE 1 17 ++ natBE 1 64 ++ addrs
    else
      let h0 := natBE 1 0x45 ++ natBE 1 (dscp * 4) ++ natBE 2 (len + 20) ++ natBE 4 0x4000 ++ natBE 1 64 ++
        natBE 1 17
      h0 ++ natBE 2 (inetCheck (h0 ++ natBE 2 0 ++ addrs)) ++ addrs
  natBE 6 dmac ++ natBE 6 smac ++ (match tag with
    | some v => natBE 2 0x8100 ++ natBE 2 v
    | none => []) ++ natBE 2 (if v6 then 0x86DD else 0x0800) ++ ip ++ seg

end Sys2Proof.Machine
end

