-- ==== Sys2Proof/Machine/EgressOps.lean ====
section
/-! DEFINITION. Product packets: the product header, the cutting of units into packets, the queues
and what the sending of a packet frees (R226 to R236, R270). -/

namespace Sys2Proof.Machine

/-- The INSTANCE of a STREAM_ID (R509). -/
def streamInst (sid : Nat) : Nat := sid / 4096 * 256 + sid % 256

/-- A per-stream setting of the plan in force; the reset value while there is none (R591). -/
def streamPar (i : Item) (sid elem : Nat) (s : State) : Nat :=
  match s.plan.running with
  | some p => p.par i (streamInst sid) elem
  | none => keyReset (itemKey i (streamInst sid) elem)

/-- R231: the 64-byte product header. -/
def productHeader (h : Head) (x : Piece) (seq flags : Nat) (s : State) : List Byte :=
  let startTide := if h.stream / 4096 = 8 then s.time.tide else scTide x.start s
  let b := natBE 1 (16 + h.stream / 4096) ++ natBE 1 x.fmt ++ natBE 2 h.stream ++ natBE 8 seq ++
    natBE 4 h.integration ++ natBE 8 x.start ++ tideBytes startTide ++ natBE 2 h.chan ++
    natBE 2 h.chans ++ natBE 1 x.i ++ natBE 1 x.j ++ natBE 2 x.first ++ natBE 2 x.elems ++
    natBE 2 flags ++ natBE 8 x.stop ++ natBE 4 (par0 .egressModuleId s) ++ natBE 2 x.bytes.length
  b ++ natBE 2 (inetCheck b)

/-- SEQUENCE of the next packet of a stream (R235). -/
def nextSeq (sid : Nat) (s : State) : Nat := sGet (fun _ => 0) s.egress.seq sid

/-- R235: a packet is formed and takes the next SEQUENCE. -/
def formPacket (h : Head) (x : Piece) (flags : Nat) (owner : Owner) (eoi : Option Nat)
    (chainEnd : Option Nat) (s : State) : State :=
  let q := nextSeq h.stream s
  let all := h.flags ||| x.flags ||| flags
  let pk : Packet := { stream := h.stream, seq := q, bytes := productHeader h x q all s ++ x.bytes,
                       owner, eoi, chainEnd }
  { s with egress := { s.egress with
      seq := sPut (fun _ => 0) s.egress.seq h.stream ((q + 1) % 2 ^ 64)
      queue := s.egress.queue ++ [pk] } }

/-- PD39 is on, so packets are formed and leave (R241). -/
def egressOn (s : State) : Bool := domain 39 s == .on

/-- The packets of a unit, LAST on the final one, END_OF_INTEGRATION on a drain's final one. -/
def formPieces (u : EUnit) : List Piece → State → State
  | [], s => s
  | [x], s =>
    formPacket u.head x ((if u.last then 256 else 0) + (if u.eoi.isSome then 512 else 0)) u.owner u.eoi none s
  | x :: y :: r, s => formPieces u (y :: r) (formPacket u.head x 0 .none none none s)

/-- The payload of a unit (R258). -/
def EUnit.payload (u : EUnit) : List Byte := u.pieces.flatMap (·.bytes)

/-- A unit is ready: it goes to a compressor when its stream's compression is on, else its packets
are formed at once (R247, R257). -/
def unitReady (u : EUnit) (s : State) : State :=
  if u.pieces.isEmpty then s
  else if streamPar .egressCompress u.head.stream 0 s = 1 then
    { s with egress := { s.egress with
      ready := s.egress.ready ++
        [{ unit := u, trim := 0, order := s.egress.nextOrder, holdSince := none, held := 0, put := 0 }]
      nextOrder := s.egress.nextOrder + 1 } }
  else formPieces u u.pieces s

/-- A list cut into runs of `n`, with the number of each run's first entry. -/
def runsOf {α : Type} (n : Nat) : Nat → Nat → List α → List (Nat × List α)
  | 0, _, _ => []
  | fuel + 1, at_, l =>
    if l.isEmpty ∨ n = 0 then []
    else (at_, l.take n) :: runsOf n fuel (at_ + n) (l.drop n)

/-- Elements or records of `size` bytes cut into pieces of at most 8,192 B (R229). -/
def cutElems (fmt size i j first start stop : Nat) (l : List (List Byte)) : List Piece :=
  (runsOf (8192 / size) (l.length + 1) first l).map fun r =>
    { fmt, flags := 0, i, j, first := r.1, elems := r.2.length, start, stop, bytes := r.2.flatten }

/-- The range fields of a unit as a whole. -/
def wholePiece (fmt i j first elems start stop : Nat) : Piece :=
  { fmt, flags := 0, i, j, first, elems, start, stop, bytes := [] }

/-! ### What leaving frees -/

/-- R191: a packet or unit of a beam output buffer has left; the buffer is freed with its last. -/
def freeBeam (buf : Nat) (s : State) : State :=
  let bufs := s.weir.bufs.filterMap fun b =>
    if b.id = buf then (if b.left ≤ 1 then none else some { b with left := b.left - 1 }) else some b
  { s with weir := { s.weir with bufs := bufs } }

/-- R157, R191, R222: the space that a packet held is freed once it has left or been discarded. -/
def freeOwner (o : Owner) (s : State) : State :=
  match o with
  | .none => s
  | .tiles _ _ _ => s
  | .beam b => freeBeam b s
  | .snap n =>
    { s with data := { s.data with snapshot := s.data.snapshot.map fun x => { x with used := x.used - n } } }
  | .records n => { s with zoom := { s.zoom with inPackets := s.zoom.inPackets - n } }

/-- R271, R277: the cycles of a compressor's hold up to now are counted. -/
def countHold (s : State) (c : Nat) : State :=
  match s.egress.comps.getD c none with
  | none => s
  | some j => match j.holdSince with
    | none => s
    | some t0 =>
      let n := cycles 1250 (s.time.now - t0)
      count .spillHoldCycles 0 (n - j.held) { s with egress := { s.egress with
        comps := s.egress.comps.set c (some { j with held := n })
        spillHeld := s.egress.spillHeld + (n - j.held) } }

/-- The same for every compressor. -/
def countHolds (s : State) : State := (List.range 16).foldl countHold s

/-- The waiting units in the order in which they became ready. -/
def insertReady (j : CompJob) (l : List CompJob) : List CompJob :=
  l.takeWhile (fun k => decide (k.order < j.order)) ++ j :: l.dropWhile fun k => decide (k.order < j.order)

/-- The ports that a stream is sent on (R236). -/
def streamPorts (sid : Nat) (s : State) : List Nat :=
  let r := streamPar .egressRedundancy sid 0 s
  if r = 0 then [0, 1] else if r = 1 then [0] else [1]

/-- The wire bytes of one packet of a stream on a port beyond its payload, o of R229. -/
def streamOverhead (sid port : Nat) (s : State) : Nat :=
  130 + (if streamPar .egressIpVersion sid port s = 1 then 20 else 0) +
    (if streamPar .egressVlan sid port s = 0xFFFF then 0 else 4)

/-- The source UDP port of product packets (R228). -/
def productPort : Nat := 45473

/-- One copy of a packet at its scheduled time on a port: sent, or discarded (R237, R591, R241). -/
def sendCopy (pk : Packet) (port : Nat) (s : State) : State :=
  if !hostUp port s ∨ !egressOn s then count .egressLinkDrop (128 + port) 1 s
  else if par .egressDestIp (streamInst pk.stream) port s = 0 ∨
      par .egressDestMac (streamInst pk.stream) port s = 0 then
    count (if port = 0 then .egressNoDestH0 else .egressNoDestH1) (streamInst pk.stream) 1 s
  else
    let wire := pk.bytes.length - 64 + streamOverhead pk.stream port s
    let v6 := streamPar .egressIpVersion pk.stream port s
    let src := Config.hostAddr port v6
    let ip := par .egressDestIp (streamInst pk.stream) port s
    let udp := par .egressDestPort (streamInst pk.stream) port s
    count (if port = 0 then .txBytesH0 else .txBytesH1) (streamInst pk.stream) wire
      (count (if port = 0 then .txPacketsH0 else .txPacketsH1) (streamInst pk.stream) 1
        (emit (.product port (par .egressDestMac (streamInst pk.stream) port s) v6 ip udp
          (par .egressDscp (streamInst pk.stream) port s) (streamPar .egressVlan pk.stream port s) src productPort
          (udpSum (v6 == 1) src ip productPort udp pk.bytes) pk.bytes) s))

/-- R241: PD39 goes off: packets formed and waiting are discarded. -/
def dropWaiting (s : State) : State :=
  let s1 := s.egress.queue.foldl (fun x pk =>
    freeOwner pk.owner ((streamPorts pk.stream x).foldl
      (fun y port => count .egressLinkDrop (128 + port) 1 y) x)) s
  { s1 with egress := { s1.egress with queue := [] } }

end Sys2Proof.Machine
end

