-- ==== Sys2Proof/Machine/AdmitOps.lean ====
section
/-! DEFINITION. Plan admission (chapter 9): the validity checks, the six budgets, shedding and the
admission report. All quantities are exact rational numbers. -/

namespace Sys2Proof.Machine

/-- A natural number as a rational. -/
def q (n : Nat) : Rat := (n : Rat)

/-- A sum of rationals. -/
def sumQ (l : List Rat) : Rat := l.foldl (· + ·) 0

/-- f_s in Hz. -/
def Plan.fs (p : Plan) : Rat := q p.rate.1 / q p.rate.2

/-- R_in in B/s. -/
def Plan.rIn (p : Plan) : Rat := q (p.n * p.c * p.beta) * p.fs

/-- R_in over the channel list before shedding, for the validity check. -/
def Plan.rInListed (p : Plan) : Rat := q (p.n * p.c0 * p.beta) * p.fs

/-- t_c in seconds. -/
def Plan.tc (p : Plan) : Rat := q p.t / p.fs

/-- The staged set as a plan (R279). -/
def stagedPlan (s : State) : Plan :=
  let cfg := s.pend.filter fun e => (keyItem e.1).desc.apply == 2
  let p : Plan := { id := 0, epoch := 0, commit := 0, sc := 0, cfg, channels := [], skipN := 0,
                    shed := 0, skew := 0, freshBanks := false, known := 0 }
  { p with channels := p.listed }

/-! ### Validity checks (R285) -/

/-- A power of two from 1,024 to 65,536 (R104). -/
def chunkLenOk (n t : Nat) : Bool := t ∈ [1024, 2048, 4096, 8192, 16384, 32768, 65536] && decide (n * t ≤ 2 ^ 27)

/-- Gb/s of a logical port in a port mode (R46). -/
def modeRate (mode : Nat) : Nat := if mode = 0 then 400 else if mode = 1 then 200 else 100

/-- The logical ports that a port mode provides (R46). -/
def modePorts (mode : Nat) : Nat := if mode = 0 then 1 else if mode = 1 then 2 else 4

/-- The ingress capacity in B/s (R286). -/
def Plan.ingressCap (p : Plan) : Rat :=
  sumQ ((List.range 128).map fun port =>
    let mode := p.par .ingressPortMode (port / 4) 0
    if bitAt (p.par0 .ingressPorts) port && decide (port % 4 < modePorts mode) then
      let o := [98, 118, 70].getD (p.par .ingressEncap port 0) 98 + 4 * p.par .ingressVlan port 0
      q (modeRate mode * 1000000000 * 8192) / q ((8192 + o) * 8)
    else 0)

/-- A threshold parameter of a window differs from its reset value. -/
def Plan.thrSet (p : Plan) (w : Nat) : Bool :=
  [Item.zoomThrPaths, .zoomThrBeams, .zoomThrAvgLog2, .zoomThrBeamAvgLog2, .zoomThrBeamAbsentMax,
    .zoomThrUpper, .zoomThrLower, .zoomThrHyst, .zoomThrHoldoff].any fun i =>
      p.par i w 0 != keyReset (itemKey i w 0)

/-- R198: a window names no channel of the list, or zoom.correlate or a threshold parameter is set
away from its reset value while no window runs (log entry 21). -/
def Plan.badWindow (p : Plan) : Bool :=
  (p.windows.any fun w => !p.listed.contains (p.par .zoomSourceChan w 0)) ||
    (p.windows.isEmpty && (List.range 32).any fun w => p.par .zoomCorrelate w 0 != 1 || p.thrSet w)

/-- The beams that a window's detectors watch. -/
def Plan.thrBeams (p : Plan) (w : Nat) : List Nat :=
  (List.range 128).filter fun b => bitAt (p.par .zoomThrBeams w 0) b

/-- R215, R218: a selected beam has no detected output, or LOWER > UPPER. -/
def Plan.badThreshold (p : Plan) : Bool :=
  p.windows.any fun w =>
    ((p.thrBeams w).any fun b => decide (p.beams ≤ b) || p.par .weirDetMode b 0 == 0) ||
      f32.lt (p.par .zoomThrUpper w 0) (p.par .zoomThrLower w 0)

/-- Σ Z_w in operations per second (R213). -/
def Plan.zoomLoad (p : Plan) : Rat :=
  sumQ (p.windows.map fun w =>
    q p.n * p.fs * (1 + sumQ ((List.range (p.stages w)).map fun i =>
      q (halfBandM (p.design w (i + 1)) + 1) / q (2 ^ (i + 1)))))

/-- R285: the code of the first validity check that fails; 0 when all hold. -/
def Plan.validity (p : Plan) : Nat :=
  let n := p.n
  let list := p.listed
  if n % 128 ≠ 0 ∨ n < 128 ∨ 8192 < n then 0x01
  else if !chunkLenOk n p.t ∨ !chunkLenOk n p.tz then 0x02
  else if list.isEmpty ∨ 16384 < list.length ∨ list.eraseDups.length ≠ list.length then 0x03
  else if p.ingressCap < p.rInListed then 0x04
  else if 0 < p.beams ∧ (List.range p.beams).all (fun b =>
      p.par .weirVoltFormat b 0 == 0 && p.par .weirDetMode b 0 == 0) then 0x05
  else if p.badWindow then 0x06
  else if p.badThreshold then 0x07
  else if p.par .egressCompress (7 * 256) 0 = 1 ∨ p.par .egressCompress (8 * 256) 0 = 1 then 0x08
  else if 640000000000 < p.zoomLoad then 0x09
  else 0

/-! ### The capacity (R284, R287) -/

/-- A weir engine is in service: not taken out (R545), its domain not TRIPPED. -/
def engineServes (d e : Nat) (s : State) : Bool :=
  !(s.weir.engines.getD (2 * d + e) ⟨false, none⟩).out && domain (28 + d) s != .tripped

/-- The engines of a die in service. -/
def dieEngines (d : Nat) (s : State) : Nat := ([0, 1].filter fun e => engineServes d e s).length

/-- The dies that compute: not stopped, with a polder. -/
def liveDies (s : State) : List Nat := (List.range 4).filter fun d => !(die d s).stopped

/-- What a die gives a block: G, and τ_e in seconds (R116, R119, R130). -/
structure DieRate where
  die : Nat
  g : Nat
  tau : Rat
  gz : Nat
  tauZ : Rat

/-- G and τ_e of blocks with `cyc` cycles per sample step and chunk length `t`. -/
def blockRate (k cyc t : Nat) (slots : List (List Nat)) (mhz : Nat) : Nat × Rat :=
  let g := tilePeriods k (slots.map (·.length))
  let tau := q (cyc * t) / q (mhz * 1000000)
  let stretch := q (busiestPeriod k slots * 64) / 1600000000
  (g, max tau stretch)

/-- The rates of a die under a plan. -/
def dieRate (p : Plan) (d : Nat) (s : State) : DieRate :=
  let rings := ringsInUse p d s
  let mhz := diePace rings s
  let f := p.par0 .ingressFormat
  let m := blockRate p.k (stepCycles f) p.t (dieSlots (f == 1) rings s) mhz
  let z := if p.corrWindows.isEmpty then (0, 0) else blockRate p.k 4 p.tz (dieSlots false rings s) mhz
  { die := d, g := m.1, tau := m.2, gz := z.1, tauZ := z.2 }

/-- P in seconds: four times A. -/
def Plan.period (p : Plan) : Rat := 4 * (q p.t / (q p.c * p.fs))

/-- P_e (R288). -/
def Plan.periodE (p : Plan) : Rat :=
  if p.skipN = 0 then p.period else p.period * 15 / q (16 - p.skipN)

/-- Zoom chunks per second of all correlating windows. -/
def Plan.zoomRate (p : Plan) : Rat :=
  sumQ (p.corrWindows.map fun w => p.fs / q (2 ^ p.stages w * p.tz))

/-- z_d (R214). -/
def Plan.zd (p : Plan) : Rat := p.period / 4 * p.zoomRate

/-- U_d (R288). -/
def Plan.uOf (p : Plan) (r : DieRate) : Rat :=
  (q r.g * r.tau + p.zd * (q r.gz * r.tauZ)) / p.periodE

/-- W_d over its bound (R192, R193, R289); none when the die forms no beams. -/
def Plan.wOf (p : Plan) (r : DieRate) (s : State) : Option Rat :=
  let e := dieEngines r.die s
  if p.beams = 0 ∨ e = 0 then none
  else
    let be := if e = 2 then ceilDiv p.beams 2 else p.beams
    let w := q (p.k * max (ceilDiv (be * p.t) 192) (p.t * p.beta / 8)) / 1600000000
    some (w / min (q (r.g + 1) * r.tau) p.periodE)

/-- The largest of a list, 0 when it is empty. -/
def maxQ (l : List Rat) : Rat := l.foldl max 0

/-- The rates of the die with the largest G × τ_e (R290). -/
def slowest : List DieRate → DieRate → DieRate
  | [], b => b
  | r :: l, b => slowest l (if q b.g * b.tau < q r.g * r.tau then r else b)

/-- s in seconds (R75, R290). -/
def Plan.skewOf (p : Plan) (rates : List DieRate) : Rat :=
  let r := slowest rates ⟨0, 0, 0, 0, 0⟩
  let h := q (r.g + 1) * r.tau
  let hz := if p.corrWindows.isEmpty then 0 else q (r.gz + 1) * r.tauZ
  q p.m * p.period - p.period / 4 - h - hz

/-- R290: the culvert capacity budget. -/
def Plan.culvertOk (p : Plan) (skew : Rat) : Bool :=
  let cw := q (p.par0 .ingressCloseWait) / 1000000000
  decide (2 ≤ p.m) &&
    (p.corrWindows.isEmpty || decide (p.n * p.tz * 2 ≤ p.blockBytes)) &&
    decide ((1 : Rat) / 100000 ≤ skew) &&
    (p.par0 .ingressCloseWait == 0 ||
      (decide (cw ≤ skew) && (!p.timeOrdered || decide (cw ≤ p.tc / 2))))

/-! ### Streams (R251, R254, R267) -/

/-- Bytes of a visibility element as sent (R244). -/
def Plan.visBytes (p : Plan) : Nat := [p.elemBytes, 8, 4].getD (p.par0 .egressVisFormat) 8

/-- The wire bytes of a unit of `u` bytes whose payload fills packets of 8,192 B: as it is, or at
the bound of R267. -/
def unitWire (comp : Bool) (o u : Nat) : Nat :=
  if u = 0 then 0
  else
    let b := if comp then u + 8 * ceilDiv u 65536 else u
    b + ceilDiv b 8192 * o

/-- The number of selected elements of a tile (R242). -/
def Plan.selCount (p : Plan) (all : Bool) (i j : Nat) : Nat :=
  let t := tileNumber p.k i j
  if all then tileElems i j
  else if !bitAt (p.par .egressVisTileMask 0 (t / 128)) (t % 128) then 0
  else
    let cls := p.par0 .egressVisElemClass
    if cls = 0 then tileElems i j
    else if cls = 1 then (if i = j then 128 else 0)
    else if i = j then 8128 else 16384

/-- The wire bytes of the element packets of one channel group. -/
def Plan.groupWire (p : Plan) (all comp : Bool) (o : Nat) : Nat :=
  sumN ((List.range p.k).map fun i => sumN ((List.range (p.k - i)).map fun r =>
    unitWire comp o (p.selCount all i (i + r) * p.visBytes)))

/-- The wire bytes of the records of a channel (R241). -/
def Plan.recWire (p : Plan) (comp : Bool) (o : Nat) : Nat := unitWire comp o (32 * tilesOf p.k)

/-- The wire bytes that a weights stream counts for berm entries of `chans` channels (R251). -/
def Plan.bermWire (p : Plan) (comp : Bool) (o chans : Nat) : Nat :=
  min (p.par0 .ingressBermEntries) (chans * tilesOf p.k) * unitWire comp o 65536

/-- A stream's wire overhead o on a port under a plan (R229, R591). -/
def Plan.over (p : Plan) (sid port : Nat) : Nat :=
  130 + (if p.par .egressIpVersion (streamInst sid) port = 1 then 20 else 0) +
    (if p.par .egressVlan (streamInst sid) port = 0xFFFF then 0 else 4)

/-- Compression is on for a stream (R257). -/
def Plan.compressed (p : Plan) (sid : Nat) : Bool := p.par .egressCompress (streamInst sid) 0 == 1

/-- Channels and channel groups of VIS instance `i` (R227, R243). -/
def Plan.visShare (p : Plan) (i : Nat) : Nat × Nat :=
  let size := 2 ^ p.par0 .egressVisAvgLog2
  let gc := ceilDiv p.c size
  let n := p.par0 .egressVisStreams
  let lo := i * gc / n
  let hi := (i + 1) * gc / n
  (min p.c (hi * size) - min p.c (lo * size), hi - lo)

/-- The wire bytes of one region drain of a stream on a port (R251). -/
def Plan.drainWire (p : Plan) (sid port : Nat) : Nat :=
  let o := p.over sid port
  let comp := p.compressed sid
  let ty := sid / 4096
  if ty = 0 then (p.visShare sid).2 * p.groupWire false comp o
  else if ty = 1 then
    let c := (p.visShare (sid % 4096)).1
    c * p.recWire comp o + p.bermWire comp o c
  else if ty = 2 then p.corrWindows.length * p.groupWire true comp o
  else p.corrWindows.length * p.recWire comp o + p.bermWire comp o p.corrWindows.length

/-- A section's share of packets: sections of one block, in order, each its key and bytes, cut and
shared under R248. -/
def shareRuns : List (Nat × Nat) → List (Nat × Nat × Nat)
  | [] => []
  | (f, z) :: r =>
    match shareRuns r with
    | (f', z', n) :: l => if f = f' ∧ z = z' then (f, z, n + 1) :: l else (f, z, 1) :: (f', z', n) :: l
    | [] => [(f, z, 1)]

/-- Wire bytes of the sections of one block of BEAM_DET or BEAM_ABSENT, uncompressed. -/
def sectionsWire (o : Nat) (l : List (Nat × Nat)) : Nat :=
  sumN ((shareRuns l).map fun w =>
    let (_, z, n) := w
    z * n + (if z ≤ 8192 then ceilDiv n (8192 / z) else n * ceilDiv z 8192) * o)

/-- Runs of sections of one FORMAT. -/
def formatRuns : List (Nat × Nat) → List (Nat × Nat)
  | [] => []
  | (f, z) :: r =>
    match formatRuns r with
    | (f', z') :: l => if f = f' then (f, z + z') :: l else (f, z) :: (f', z') :: l
    | [] => [(f, z)]

/-- FORMAT of a detected beam (R232). -/
def Plan.detFmt (p : Plan) (b : Nat) : Nat :=
  8 + p.par .weirDetFormat b 0 + (if p.par .weirDetMode b 0 = 2 then 2 else 0)

/-- The sections of BEAM_DET, in order of beams. -/
def Plan.detSections (p : Plan) : List (Nat × Nat) :=
  ((List.range p.beams).filter fun b => p.par .weirDetMode b 0 != 0).map fun b =>
    (p.detFmt b, p.t / 2 ^ p.par .weirDetAvgLog2 b 0 * p.detBytes b)

/-- The wire bytes per block of a beam stream on a port (R251). -/
def Plan.beamWire (p : Plan) (sid port : Nat) : Nat :=
  let o := p.over sid port
  let comp := p.compressed sid
  let ty := sid / 4096
  if ty = 4 then unitWire comp o (p.t * p.voltBytes (sid % 4096))
  else
    let l := if ty = 5 then p.detSections else List.replicate p.beams (0x0E, p.t / 128 * 2)
    if comp then sumN ((formatRuns l).map fun w => unitWire true o w.2) else sectionsWire o l

/-- The streams of a plan: VIS and weights, beams, the fixed ones (R226). -/
def Plan.drained (p : Plan) : List Nat :=
  ((List.range (p.par0 .egressVisStreams)).flatMap fun i => [i, 4096 + i]) ++
    (if p.corrWindows.isEmpty then [] else [0x2000, 0x3000])

/-- The beam streams of a plan. -/
def Plan.beamStreams (p : Plan) : List Nat :=
  ((List.range p.beams).filter fun b => p.voltBytes b != 0).map (0x4000 + ·) ++
    (if p.detSections.isEmpty then [] else [0x5000]) ++ (if p.beams = 0 then [] else [0x6000])

/-- The drain window of an area in seconds, I × t_c − t_g; the zoom area takes the shortest of its
windows' chunk durations (log entry 22). -/
def Plan.drainWindow (p : Plan) (area : Nat) : Rat :=
  let tg := q (p.par0 .egressDrainGuard) / 1000000000
  if area = 0 then q (p.par0 .corrIntChunks) * p.tc - tg
  else
    let least := p.corrWindows.foldl (fun m w => min m (p.stages w)) 12
    q (p.par0 .zoomIntChunks) * (q (p.tz * 2 ^ least) / p.fs) - tg

/-- ρ of a stream on a port in B/s; none where no rate can drain it (R251, R293). -/
def Plan.rho (p : Plan) (sid port : Nat) : Option Rat :=
  let ty := sid / 4096
  if ty < 4 then
    let w := p.drainWindow (ty / 2)
    let b := p.drainWire sid port
    if b = 0 then some 0 else if w ≤ 0 then none else some (q b / w)
  else if ty < 7 then
    some (q (p.beamWire sid port) * q p.c / p.tc * q (16 - p.skipN) / 16)
  else if ty < 9 then some 50000000
  else some (q (p.par0 .egressSnapRate))

/-- All streams of a plan. -/
def Plan.streams (p : Plan) : List Nat := p.drained ++ p.beamStreams ++ [0x7000, 0x8000, 0x9000]

/-- The stream is sent on a port (R236). -/
def Plan.sentOn (p : Plan) (sid port : Nat) : Bool :=
  let r := p.par .egressRedundancy (streamInst sid) 0
  r == 0 || r == port + 1

/-- The first port of a stream. -/
def Plan.firstPort (p : Plan) (sid : Nat) : Nat :=
  if p.par .egressRedundancy (streamInst sid) 0 = 2 then 1 else 0

/-- A sum of rates; none when one of them has no value. -/
def sumOpt : List (Option Rat) → Option Rat
  | [] => some 0
  | none :: _ => none
  | some x :: l => (sumOpt l).map (x + ·)

/-- The egress side of one port: Σ ρ, and I_min where the port has one (R253, R254). -/
structure PortBudget where
  sum : Option Rat
  /-- The port carries VIS or VIS_WEIGHTS content. -/
  binds : Bool
  iMin : Option Nat

/-- R293 on a port. -/
def Plan.portBudget (p : Plan) (port : Nat) : PortBudget :=
  let l := p.streams.filter fun sid => p.sentOn sid port
  let vis := l.filter fun sid => decide (sid / 4096 < 2) && decide (0 < p.drainWire sid port)
  let v := q (sumN (vis.map fun sid => p.drainWire sid port))
  let x := sumOpt ((l.filter fun sid => decide (2 ≤ sid / 4096)).map fun sid => p.rho sid port)
  let tg := q (p.par0 .egressDrainGuard) / 1000000000
  let i := x.bind fun x =>
    let room := 48000000000 - x
    if room ≤ 0 then none else some (((v + tg * room) / (room * p.tc)).ceil.toNat)
  { sum := sumOpt (l.map fun sid => p.rho sid port), binds := !vis.isEmpty, iMin := i }

/-- The port's egress budget is met. -/
def Plan.portOk (p : Plan) (b : PortBudget) : Bool :=
  (match b.sum with
    | some x => decide (x ≤ 48000000000)
    | none => false) &&
    (!b.binds || (match b.iMin with
      | some i => decide (i ≤ p.par0 .corrIntChunks)
      | none => false))

/-! ### DRAM (R291, R292) -/

/-- Bytes of a totals area's two regions with its records and berm entries. -/
def Plan.areaBytes (p : Plan) (area : Nat) : Nat :=
  let c := (p.areaChannels area).length
  if c = 0 then 0
  else 2 * c * imageBytes p.k p.elemBytes + 2 * c * tilesOf p.k * 64 +
    2 * p.par0 .ingressBermEntries * 65536

/-- R291 without the transition term. -/
def Plan.dramBytes (p : Plan) : Nat :=
  p.areaBytes 0 + p.areaBytes 1 + p.regionSize 7 + p.regionSize 8 + p.regionSize 9 +
    p.regionSize 10 + p.regionSize 11 + 2 ^ 30

/-- The corner-turn term (R292, R298). -/
def Plan.turnRate (p : Plan) : Rat :=
  if p.timeOrdered then 2 * p.rIn * q (16 - p.skipN) / 16 else 0

/-- R292 in B/s; none when a drain has no rate. -/
def Plan.dramRate (p : Plan) : Option Rat :=
  let f := q (16 - p.skipN) / 16
  let perChunk := q p.c / p.tc
  let img := imageBytes p.k p.elemBytes
  let main := 2 * q (p.c * img) / p.tc * f
  let rec_ := 128 * q (tilesOf p.k) * (perChunk + p.zoomRate) * f
  let zprom := 2 * q img * p.zoomRate
  let zstage := 2 * q (p.n * p.beta) * p.fs * q p.sources.length +
    sumQ (p.corrWindows.map fun w => 2 * q (p.n * 2) * p.fs / q (2 ^ p.stages w))
  let zs := if p.windows.isEmpty then 0 else zstage
  let wf := q (p.k * p.beams * 512) * perChunk * f
  let dd := p.par0 .weirAutoEpoch
  let ww := if dd = 0 then 0 else q p.bankBytes * p.fs / q dd
  let out := 2 * q p.beamBytes * perChunk * f
  let drain := sumOpt (p.drained.map fun sid => p.rho sid (p.firstPort sid))
  let comp := sumOpt ((p.streams.filter p.compressed).map fun sid => p.rho sid (p.firstPort sid))
  drain.bind fun x => comp.map fun y =>
    main + rec_ + zprom + zs + p.turnRate + wf + ww + out + x + 2 * q (p.par0 .egressSnapRate) +
      2 * y + 50000000000

/-- The variant's peak DRAM rate in B/s (R66). -/
def variantPeak (s : State) : Nat := if s.boot.variant = 2 then 4915200000000 else 9830400000000

/-- The in-service peak in B/s (R292). -/
def servicePeak (s : State) : Nat := sumN ((channelsUp s).map fun c => chanPeak c s)

/-! ### One evaluation (R287) -/

/-- Every figure of the budgets. -/
structure Figures where
  u : Rat
  uDies : List Nat
  w : Rat
  skew : Rat
  bytes : Nat
  avail : Nat
  rate : Option Rat
  peak : Nat
  turn : Rat
  turnPeak : Nat
  h0 : PortBudget
  h1 : PortBudget
  /-- The first budget that fails, 0 when all hold. -/
  fails : Nat

/-- Every budget on a plan (R287 to R293). `trans` is the transition term. -/
def Plan.figures (p : Plan) (trans : Nat) (s : State) : Figures :=
  let rates := (liveDies s).map fun d => dieRate p d s
  let us := rates.map fun r => (r.die, p.uOf r)
  let u := maxQ (us.map (·.2))
  let w := maxQ (rates.filterMap fun r => p.wOf r s)
  let skew := p.skewOf rates
  let bytes := p.dramBytes + trans
  let avail := capGiB s * 2 ^ 30
  let rate := p.dramRate
  let peak := servicePeak s
  let h0 := p.portBudget 0
  let h1 := p.portBudget 1
  let bwOk := (match rate with
    | some x => decide (x ≤ q peak * 7 / 10)
    | none => true) && decide (p.turnRate ≤ q (variantPeak s) / 4)
  let fails := if 1 < u then 0x10 else if 1 < w then 0x11 else if !p.culvertOk skew then 0x12
    else if avail < bytes then 0x13 else if !bwOk then 0x14 else if !p.portOk h0 then 0x15
    else if !p.portOk h1 then 0x16 else 0
  { u, uDies := (us.filter fun x => x.2 == u).map (·.1), w, skew, bytes, avail, rate, peak,
    turn := p.turnRate, turnPeak := variantPeak s, h0, h1, fails }

/-- A quantity in whole units; where it is none, the rounding is not stated (R295). -/
def wholeUnits (x : Rat) : Int :=
  let f := x.floor
  if (f : Rat) = x then f
  else if Config.roundsUp (x.num % x.den).toNat x.den then f + 1 else f

/-- A usage field (R295): units of 0.01%, saturating; 0xFFFF when it is undefined. -/
def useField (x : Option Rat) : Nat :=
  match x with
  | some y => min 0xFFFF (wholeUnits (y * 10000)).toNat
  | none => 0xFFFF

/-- A ratio; undefined over a peak of nothing. -/
def ratio (x : Option Rat) (peak : Nat) : Option Rat :=
  if peak = 0 then none else x.map (· / q peak)

/-- SKEW_NS. -/
def skewField (x : Rat) : Nat :=
  let v := wholeUnits (x * 1000000000)
  if -2147483648 ≤ v ∧ v ≤ 2147483647 then (v % 4294967296).toNat
  else Config.reportField 20 v % 2 ^ 32

/-- I_MIN (R295). -/
def iMinField (a b : PortBudget) : Nat :=
  let one := fun (x : PortBudget) =>
    if x.binds then (match x.iMin with
      | some i => if i < 2 ^ 32 then i else Config.reportField 44 i % 2 ^ 32
      | none => Config.reportField 44 (-1) % 2 ^ 32)
    else 0
  max (one a) (one b)

/-- POLDER_DIE: the die of the largest U_d. -/
def dieField (l : List Nat) : Nat :=
  match l with
  | [] => 0
  | [d] => d
  | l => l.getD (Config.tiedDie l % l.length) 0

/-- The admission report (R295). -/
def report (outcome reason : Nat) (p : Plan) (id : Nat) (f : Figures) : List Byte :=
  natBE 1 outcome ++ natBE 1 reason ++ natBE 1 p.shed ++ natBE 1 p.skipN ++ natBE 2 p.c ++
    natBE 2 p.c0 ++ natBE 4 id ++ natBE 2 (useField (some f.u)) ++ natBE 1 (dieField f.uDies) ++
    natBE 1 0 ++ natBE 2 (useField (some f.w)) ++ natBE 2 0 ++ natBE 4 (skewField f.skew) ++
    natBE 8 f.bytes ++ natBE 4 (f.avail / 2 ^ 20) ++ natBE 2 (useField (ratio f.rate f.peak)) ++
    natBE 2 (useField (ratio (some f.turn) f.turnPeak)) ++
    natBE 2 (useField (ratio f.h0.sum 48000000000)) ++ natBE 2 (useField (ratio f.h1.sum 48000000000)) ++
    natBE 4 (iMinField f.h0 f.h1)

/-- The report of a plan that a validity check refuses (R295). -/
def invalidReport (reason listed : Nat) : List Byte :=
  natBE 1 2 ++ natBE 1 reason ++ natBE 4 0 ++ natBE 2 listed ++ List.replicate 40 0

/-! ### Outcome (R294, R296 to R298) -/

/-- How admission ends. -/
structure Admission where
  outcome : Nat
  reason : Nat
  report : List Byte
  /-- The plan as it will run, when admitted. -/
  plan : Option Plan

/-- R297: the list without its highest channel number. -/
def dropHighest (l : List Nat) : List Nat := l.erase (l.foldl max 0)

/-- R297: shed channels until every budget holds. -/
def shedChannels (trans : Plan → Nat) (s : State) : Nat → Plan → Option (Plan × Figures)
  | 0, _ => none
  | n + 1, p =>
    if p.c ≤ 1 then none
    else
      let p1 := { p with channels := dropHighest p.channels, shed := 1 }
      let f := p1.figures (trans p1) s
      if f.fails = 0 then some (p1, f) else shedChannels trans s n p1

/-- R298: the smallest n for which every budget holds. -/
def shedBlocks (p : Plan) (trans : Plan → Nat) (s : State) : Option (Plan × Figures) :=
  ((List.range 8).map fun i =>
    let p1 := { p with skipN := i + 1, shed := 2 }
    (p1, p1.figures (trans p1) s)).find? fun w => w.2.fails == 0

/-- s of a plan in ticks. -/
def skewTicks (x : Rat) : Nat := (x * 65536000000000).floor.toNat

/-- R294: admission of a plan with the current resources. `trans` gives the transition term of a
candidate; `force` applies SHED_CHANNELS on DRAM capacity whatever the policy (R308). -/
def admitPlan (p : Plan) (id : Nat) (trans : Plan → Nat) (force : Bool) (s : State) : Admission :=
  let code := p.validity
  if code ≠ 0 then ⟨2, code, invalidReport code p.c0, none⟩
  else
    let f := p.figures (trans p) s
    if f.fails = 0 then
      ⟨0, 0, report 0 0 p id f, some { p with skew := skewTicks f.skew }⟩
    else
      let policy := if force && f.fails == 0x13 then 1 else p.par0 .planShedPolicy
      let found := if policy = 1 then shedChannels trans s p.c p
        else if policy = 2 then shedBlocks p trans s else none
      match found with
      | some (p1, f1) =>
        ⟨1, f.fails, report 1 f.fails p1 id f1, some { p1 with skew := skewTicks f1.skew }⟩
      | none => ⟨2, f.fails, report 2 f.fails p id f, none⟩

end Sys2Proof.Machine
end

