-- ==== Sys2Proof/Machine/DrainOps.lean ====
section
/-! DEFINITION. What a drain reads and sends: the selection, the channel groups, the items of each
stream, and the tiles that a deadline finds unsent (R155, R227, R241 to R246). -/

namespace Sys2Proof.Machine

/-! ### Staging buffers (R270) -/

/-- A stream's chain may still take bytes, or holds bytes that have not left. -/
def chainLive (sid : Nat) (s : State) : Bool :=
  streamPar .egressCompress sid 0 s == 1 && (s.plan.running.any fun p => p.streams.contains sid) ||
    s.egress.ready.any (·.unit.head.stream == sid) || s.egress.comps.toList.any (·.any (·.unit.head.stream == sid)) ||
    s.egress.queue.any (fun k => k.stream == sid && k.chainEnd.isSome)

/-- R270: the staging buffers of chains that take nothing more and have sent all return to the free pool. -/
def freeIdleChains (s : State) : State :=
  { s with egress := { s.egress with chains := s.egress.chains.filter fun b => chainLive b.stream s } }

/-- R270: staging buffers of a stream whose last byte has left return to the free pool. -/
def freeChain (sid pos : Nat) (s : State) : State :=
  freeIdleChains { s with egress := { s.egress with chains := s.egress.chains.filter fun b =>
      !(b.stream == sid && b.closed && decide (b.pos + b.fill ≤ pos)) } }

/-! ### What a drain reads -/

/-- R242: the selected elements of tile `t`, as element indices; zoom always takes all. -/
def selected (p : Plan) (all : Bool) (t : Nat) : List Nat :=
  let (i, j) := tileAt p.k t
  let idx := List.range (tileElems i j)
  if all then idx
  else if !bitAt (p.par .egressVisTileMask 0 (t / 128)) (t % 128) then []
  else
    let cls := p.par0 .egressVisElemClass
    let autos := (List.range 128).map fun r => elemIndex true r r
    if cls = 0 then idx
    else if cls = 1 then (if i = j then autos else [])
    else if i = j then idx.filter fun e => !autos.contains e
    else idx

/-- R243: the channel groups of the main area. -/
def Plan.chanGroups (p : Plan) : List (List Nat) :=
  (runsOf (2 ^ p.par0 .egressVisAvgLog2) (p.c + 1) 0 p.channels).map (·.2)

/-- R227: the groups of VIS instance `i`. -/
def Plan.visGroups (p : Plan) (i : Nat) : List (List Nat) :=
  let g := p.chanGroups
  let n := p.par0 .egressVisStreams
  let lo := i * g.length / n
  let hi := (i + 1) * g.length / n
  (g.drop lo).take (hi - lo)

/-- The channel groups that a drain stream carries; zoom channels stand alone. -/
def Plan.streamGroups (p : Plan) (sid : Nat) : List (List Nat) :=
  if sid / 4096 < 2 then p.visGroups (sid % 4096) else p.corrWindows.map fun w => [w]

/-- The tiles of a stream that have a selected element. -/
def Plan.streamTiles (p : Plan) (sid : Nat) : List Nat :=
  (List.range (tilesOf p.k)).filter fun t => !(selected p (decide (2 ≤ sid / 4096)) t).isEmpty

/-- R241: the items of a drain stream, in order. -/
def drainItems (p : Plan) (sid : Nat) : List DrainItem :=
  let groups := p.streamGroups sid
  if sid / 4096 % 2 = 0 then
    groups.flatMap fun g => (p.streamTiles sid).map fun t => .elems g t
  else
    groups.flatten.flatMap fun c =>
      .recs c :: (p.streamTiles sid).map fun t => .defs c t

/-- The drain streams of an area (R226). -/
def Plan.drainStreams (p : Plan) (area : Nat) : List Nat :=
  if area = 0 then
    (List.range (p.par0 .egressVisStreams)).flatMap fun i => [i, 4096 + i]
  else [0x2000, 0x3000]

/-- The channel-tiles that an item stands for among the tiles not sent (R155, R243). -/
def DrainItem.tiles : DrainItem → Nat
  | .elems l _ => l.length
  | _ => 0

/-- The channel-tiles of an area with a selected element. -/
def Plan.drainable (p : Plan) (area : Nat) : Nat :=
  ((p.drainStreams area).map fun sid =>
    if sid / 4096 % 2 = 0 then ((p.streamGroups sid).flatten.length) * (p.streamTiles sid).length else 0).foldl
      (· + ·) 0

/-- The drain of a region. -/
def findDrain (area r : Nat) (s : State) : Option Drain :=
  s.egress.drains.find? fun d => d.area == area && d.region == r

/-- Tiles of a drain in a packet or unit that has not left. -/
def Owner.tilesOf (reg integ : Nat) : Owner → Nat
  | .tiles r m n => if r = reg ∧ m = integ then n else 0
  | _ => 0

/-- R155: the channel-tiles not sent when the deadline of a region's integration falls. -/
def tilesNotSent (p : Plan) (area r integ : Nat) (s : State) : Nat :=
  match findDrain area r s with
  | some d =>
    if d.integration = integ then
      let reg := area * 2 + r
      let rest := (d.streams.map fun x => (x.items.map DrainItem.tiles).foldl (· + ·) 0).foldl (· + ·) 0
      let packets := (s.egress.queue.map fun k => k.owner.tilesOf reg integ).foldl (· + ·) 0
      let units := (s.egress.ready.map fun k => k.unit.owner.tilesOf reg integ).foldl (· + ·) 0
      let inComp := (s.egress.comps.toList.map fun k => match k with
        | some j => j.unit.owner.tilesOf reg integ
        | none => 0).foldl (· + ·) 0
      rest + d.lost.length + packets + units + inComp
    else p.drainable area
  | none => p.drainable area

/-- R241: the drain of a region that has become SEALED; while PD39 is off it holds. -/
def startDrain (p : Plan) (area r integ : Nat) (s : State) : State :=
  let d : Drain :=
    { area, region := r, integration := integ, epoch := p.epoch, sealedAt := s.time.now,
      streams := (p.drainStreams area).map fun sid =>
        { stream := sid, items := drainItems p sid, flight := [], sent := 0, done := (drainItems p sid).isEmpty },
      lost := [], stale := [] }
  { s with egress := { s.egress with
      drains := (s.egress.drains.filter fun x => !(x.area == area && x.region == r)) ++ [d] } }

/-- The drain of a region ends (R155). -/
def dropDrain (area r : Nat) (s : State) : State :=
  { s with egress := { s.egress with
      drains := s.egress.drains.filter fun x => !(x.area == area && x.region == r) } }

/-- Microseconds by which a drain ends after its window, which runs from the seal (R251, R255). -/
def behindUs (p : Plan) (dr : Drain) (s : State) : Nat :=
  let window := (p.drainWindow dr.area * 65536000000000).floor.toNat
  (s.time.now - dr.sealedAt - window) / usT 1

/-- A drain that has sent END_OF_INTEGRATION on every stream (R256); it stands until the deadline
while it has tiles to report lost (R155). -/
def drainFinished (dr : Drain) (s : State) : State :=
  if dr.streams.all (·.done) then
    let s1 := raise .drainDone ([dr.area, dr.region, dr.integration] ++ dr.streams.map (·.sent)) s
    if dr.lost.isEmpty then dropDrain dr.area dr.region s1 else s1
  else s

/-- A unit of a drain, by its stream and integration. -/
def Head.ofDrain (h : Head) (area integ : Nat) : Bool := h.stream / 8192 == area && h.integration == integ % 2 ^ 32

/-- A drain stops at its region deadline: streams that have not ended are behind (R255), and units that no
compressor has taken are not sent (R271). -/
def stopDrain (p : Plan) (area r : Nat) (s : State) : State :=
  match findDrain area r s with
  | none => s
  | some dr =>
    let s1 := dr.streams.foldl (fun x d => if d.done then x else count .streamBehindUs (streamInst d.stream) (behindUs p dr x) x) s
    dropDrain area r { s1 with egress := { s1.egress with
      ready := s1.egress.ready.filter fun j => !j.unit.head.ofDrain area dr.integration } }

/-- R155: the deadline of the integration that a region holds: its drain ends, and the tiles not
sent are reported. -/
def regionDeadline (area r : Nat) (s : State) : State :=
  let g := region area r s
  match planOf g.epoch s with
  | none => dropDrain area r s
  | some p =>
    let done := g.state == .drained && (findDrain area r s).isNone
    if !g.begun || done then stopDrain p area r s
    else
      let n := tilesNotSent p area r g.integration s
      let s1 := stopDrain p area r s
      if n = 0 then s1
      else raise .drainOverrun [r, g.integration, n] (count .drainLostTiles 0 n s1)

end Sys2Proof.Machine
end

