-- ==== Sys2Proof/Machine/KeeperOps.lean ====
section
/-! DEFINITION. The tile keeper (chapter 4): first touches, promotion arithmetic, ledger and berm,
READ, WRITE, RESET, region deadlines, seals and the account of chunks. -/

namespace Sys2Proof.Machine

/-- The totals format of a plan (R132). -/
def Plan.totalsFmt (p : Plan) : Fmt := if p.par0 .corrTotalsFormat = 0 then f32 else f64

/-- I: the integration length of an area in chunks. -/
def Plan.intLen (p : Plan) (area : Nat) : Nat := max 1 (p.intChunks area)

/-- Main sample counters per chunk of an area's channel. -/
def Plan.chunkSpan (p : Plan) (area chan : Nat) : Nat :=
  if area = 0 then p.t else p.tz * 2 ^ p.stages chan

/-- One past the last sample of a plan: the boundary of the commit or shed that follows it. -/
def planEnd (p : Plan) (s : State) : Option Nat :=
  (((plans s).filter fun q => decide (p.epoch < q.epoch)).getLast?).map (·.sc)

/-- R301: two records lay an area out alike. -/
def sameLayout (p q : Plan) (area : Nat) : Bool :=
  p.n == q.n && p.par0 .ingressFormat == q.par0 .ingressFormat && p.par0 .corrTotalsFormat == q.par0 .corrTotalsFormat &&
    p.intChunks area == q.intChunks area && p.areaChannels area == q.areaChannels area &&
    p.t == q.t && (area == 0 ||
      (p.tz == q.tz && p.corrWindows.all fun w => p.stages w == q.stages w))

/-! ### Accounts (R131) -/

/-- The account of a channel under a plan record. -/
def account (p : Plan) (area chan : Nat) (s : State) : Account :=
  match sFind s.data.accounts (acctKey p.commit area chan) with
  | some a => a
  | none => ⟨p.firstChunk area chan, 0⟩

/-- Set an account. -/
def setAccount (p : Plan) (area chan : Nat) (a : Account) (s : State) : State :=
  { s with data := { s.data with accounts := sSet s.data.accounts (acctKey p.commit area chan) a } }

/-- The first record of a commit. -/
def commitOf (c : Nat) (s : State) : Option Plan := (plans s).find? fun p => p.commit == c && p.epoch == c

/-- R131: every lower chunk of the channel is accounted for in every tile, under earlier commits as
well. -/
def chunkReady (p : Plan) (area chan chunk : Nat) (s : State) : Bool :=
  let a := account p area chan s
  decide (chunk ≤ a.next) &&
    (plans s).all fun q =>
      !(decide (q.commit < p.commit) && (q.areaChannels area).contains chan) ||
        (match commitOf p.commit s with
        | some f => decide (f.sc ≤ (account q area chan s).next * q.chunkSpan area chan)
        | none => true)

/-- One more tile of a chunk is accounted for; with its last the channel moves on. -/
def accountTile (p : Plan) (area chan chunk n : Nat) (s : State) : State :=
  let a := account p area chan s
  if a.next ≠ chunk then s
  else if tilesOf p.k ≤ a.tiles + n then setAccount p area chan ⟨chunk + 1, 0⟩ s
  else setAccount p area chan ⟨chunk, a.tiles + n⟩ s

/-! ### Regions (R152, R155) -/

/-- The integration of a chunk, and its region (R135). -/
def integOf (p : Plan) (area chunk : Nat) : Nat := chunk / p.intLen area

/-- R154: the integration is sealed, or its deadline has passed. -/
def tooLate (p : Plan) (area chunk : Nat) (s : State) : Bool :=
  let n := integOf p area chunk
  let g := region area (n % 2) s
  (g.given.any fun x => decide (p.epoch ≤ x.1) && decide (n ≤ x.2)) || g.begun && (match planOf g.epoch s with
    | some q =>
      if sameLayout p q area then
        decide (n < g.integration) || (g.integration == n && g.state != .filling)
      else decide (p.epoch < g.epoch)
    | none => decide (p.epoch < g.epoch))

/-- R141, R155, R304: the first touch of an integration in a region is the deadline of the one
before it; a new layout starts with fresh tiles. -/
def beginRegion (p : Plan) (area n : Nat) (s : State) : State :=
  let r := n % 2
  let g := region area r s
  let old := planOf g.epoch s
  let same : Bool := match old with
    | some q => sameLayout p q area
    | none => false
  if g.begun ∧ same = true ∧ g.integration = n then s
  else
    let s1 := regionDeadline area r s
    let s2 := if same then s1
      else
        let lo := tileKey area r 0 0
        { s1 with data := { s1.data with
            tiles := s1.data.tiles.filter fun e => !(decide (lo ≤ e.1) && decide (e.1 < lo + 65536 * 4096)) } }
    setRegion area r
      { state := .filling, epoch := p.epoch, integration := n, begun := true, lastOp := none,
        bermUsed := if same then g.bermUsed else [], bermReported := false, overflowReported := false,
        sealLedger := 0, given := g.given } s2

/-- R82: the lowest free berm entry of a region. -/
def freeBerm (p : Plan) (g : Region) : Option Nat :=
  (List.range (min (p.par0 .ingressBermEntries) (g.bermUsed.length + 1))).find? fun i => !g.bermUsed.contains i

/-- Return a berm entry to the pool. -/
def returnBerm (area r : Nat) (b : Option BermEntry) (s : State) : State :=
  match b with
  | none => s
  | some e =>
    let g := region area r s
    setRegion area r { g with bermUsed := g.bermUsed.filter (· != e.index) } s

/-- A tile is fresh for an integration (R141). -/
def Tile.fresh? (x : Tile) (n : Nat) : Bool := !x.touched || x.integration != n % 2 ^ 32

/-- The codewords of a tile's elements are written whole, with fresh check symbols, and not read (R158). -/
def freshTile (p : Plan) (area r chan t : Nat) (s : State) : State :=
  let (i, j) := tileAt p.k t
  match elemDpa p area r chan t 0 s with
  | some d => freshCodewords d (tileElems i j * p.elemBytes) s
  | none => s

/-- R141: a first touch, before the operation writes: the berm entry returns to the pool, the
record starts anew and every element is +0. -/
def firstTouch (p : Plan) (area r chan t n : Nat) (s : State) : State :=
  let key := tileKey area r chan t
  let x := tile key s
  let s1 := freshTile p area r chan t (returnBerm area r x.berm s)
  count .firstTouches (keeperOf p area r chan t s) 1
    (setTile key { Tile.fresh with touched := true, integration := n % 2 ^ 32 } s1)

/-- GENERATION + 1 (R148). -/
def bumpGen (x : Tile) : Tile := { x with generation := (x.generation + 1) % 2 ^ 32 }

/-- EV_TOTALS_OVERFLOW, the first time in a region and integration (R162). -/
def reportOverflow (area r chan t chunk : Nat) (s : State) : State :=
  let g := region area r s
  if g.overflowReported then s
  else raise .totalsOverflow [r, g.integration, chan, t, chunk]
    (setRegion area r { g with overflowReported := true } s)

/-! ### Promotion (R139 to R142) -/

/-- R139, R140: a chunk component in the totals format. -/
def chunkValue (f : Fmt) (fp flag : Bool) (v : Int) : Nat :=
  if fp then f32.conv f v.toNat
  else if flag then f.encode (.inf (decide (v < 0)))
  else f.ofInt v

/-- A total with the chunk's element added, or written in place of it at a first touch. -/
def promoteElem (f : Fmt) (first : Bool) (total chunk : Cx) : Cx :=
  if first then chunk else cxAdd f total chunk

/-- Elements of a chunk in the totals format. -/
def chunkElems (f : Fmt) (g : Staged) : List Cx :=
  (g.sums.zip g.flags).map fun w => ⟨chunkValue f g.fp w.2.1 w.1.1, chunkValue f g.fp w.2.2 w.1.2⟩

/-- The tile's elements after the promotion. -/
def addChunk (f : Fmt) (first : Bool) (old : Sparse Cx) (chunk : List Cx) : Sparse Cx :=
  ((List.range chunk.length).zip chunk).foldl (fun m w =>
    sPut (fun _ => Cx.zero) m w.1 (promoteElem f first (sGet (fun _ => Cx.zero) old w.1) w.2)) []

/-- An element is nonfinite. -/
def cxBad (f : Fmt) (c : Cx) : Bool := f.nonfinite c.re || f.nonfinite c.im

/-- Deficits of a chunk added into a berm entry (R82). -/
def addDeficits (e : BermEntry) (l : List Nat) : BermEntry :=
  { e with deficits := ((List.range l.length).zip l).foldl (fun m w =>
      sPut (fun _ => 0) m w.1 ((sGet (fun _ => 0) m w.1 + w.2) % 2 ^ 32)) e.deficits }

/-- R149: the chunk is not later than LAST_CHUNK of a touched tile of the same integration. A tile that only
WRITEs have touched bears no LAST_CHUNK yet, and no chunk is out of order there (DESIGN CHOICE, log entry 106). -/
def orderBroken (x : Tile) (n chunk : Nat) : Bool :=
  x.touched && x.integration == n % 2 ^ 32 && !seqLater 32 (chunk % 2 ^ 32) x.lastChunk && decide (0 < x.chunks)

/-- R149: count an operation out of order. -/
def tileOrderErr (keeper : Nat) (s : State) : State :=
  fire .tileOrder (count .tileOrderErr keeper 1 s)

/-- The ledger part of an operation that drops its chunk: LEDGER_ONLY, or a promotion that finds no
berm entry (R82, R144). -/
def dropChunk (p : Plan) (area chan t chunk : Nat) (s : State) : State :=
  let n := integOf p area chunk
  let r := n % 2
  let key := tileKey area r chan t
  let first := (tile key s).fresh? n
  let bad := orderBroken (tile key s) n chunk
  let s1 := if first then firstTouch p area r chan t n s else s
  let x := bumpGen (tile key s1)
  let s2 := setTile key { x with
    chunks := (x.chunks + 1) % 2 ^ 32
    dropped := (x.dropped + 1) % 2 ^ 32
    lastChunk := chunk % 2 ^ 32
    invalid := x.invalid || bad } s1
  if bad then tileOrderErr (keeperOf p area r chan t s) s2 else s2

/-- R82: the tile's berm entry for a chunk with deficits; taken from the pool when it has none. -/
def takeBerm (p : Plan) (area r key : Nat) (s : State) : Option State :=
  let x := tile key s
  match x.berm with
  | some _ => some s
  | none =>
    let g := region area r s
    (freeBerm p g).map fun i =>
      setTile key { x with berm := some ⟨i, []⟩ } (setRegion area r { g with bermUsed := i :: g.bermUsed } s)

/-- EV_BERM_FULL, once per region and integration (R82, R87): it names the region by its number, the
integration and the first tile dropped by its canonical number (DESIGN CHOICE, log entry 107). -/
def reportBermFull (area r t : Nat) (s : State) : State :=
  let g := region area r s
  if g.bermReported then s
  else raise .bermFull [r, g.integration, t] (setRegion area r { g with bermReported := true } s)

/-- A PROMOTE applied to its tile (R139 to R142, R81, R82, R149). -/
def applyPromote (p : Plan) (g : Staged) (s : State) : State :=
  let n := integOf p g.area g.chunk
  let r := n % 2
  let t := tileNumber p.k g.i g.j
  let key := tileKey g.area r g.chan t
  let f := p.totalsFmt
  let bad := orderBroken (tile key s) n g.chunk
  let first := (tile key s).fresh? n
  let s1 := if first then firstTouch p g.area r g.chan t n s else s
  match (if g.deficits.isSome then takeBerm p g.area r key s1 else some s1) with
  | none => reportBermFull g.area r t (dropChunk p g.area g.chan t g.chunk s)
  | some s2 =>
    let x := bumpGen (tile key s2)
    let elems := addChunk f first x.elems (chunkElems f g)
    let flagged := g.flags.any fun w => w.1 || w.2
    let x' := { x with
      elems := elems
      lastChunk := g.chunk % 2 ^ 32
      overflow := x.overflow || flagged
      nonfinite := x.nonfinite || flagged || elems.any (fun e => cxBad f e.2)
      invalid := x.invalid || bad
      chunks := (x.chunks + 1) % 2 ^ 32
      berm := match x.berm, g.deficits with
        | some b, some l => some (addDeficits b l)
        | b, _ => b }
    let s3 := setTile key x' s2
    let s4 := if flagged then reportOverflow g.area r g.chan t g.chunk s3 else s3
    if bad then tileOrderErr (keeperOf p g.area r g.chan t s) s4 else s4

/-! ### Sealing (R152, R153) -/

/-- The chunks of an integration that a plan record's commit covers for a channel: [lo, hi). -/
def covered (p : Plan) (area chan n : Nat) (s : State) : Nat × Nat :=
  let i := p.intLen area
  let lo := max (n * i) (p.firstChunk area chan)
  let stop := ((plans s).filter fun q => decide (p.commit < q.commit)).foldl
    (fun m q => min m (q.sc / p.chunkSpan area chan)) ((n + 1) * i)
  (lo, max lo (min ((n + 1) * i) stop))

/-- Every chunk of the integration is accounted for in a channel. -/
def chanComplete (p : Plan) (area chan n : Nat) (s : State) : Bool :=
  let (_, hi) := covered p area chan n s
  decide (hi ≤ (account p area chan s).next)

/-- A region is sealed: EV_SEALED is raised and the drain starts (R152, R153, R241). -/
def sealRegion (p : Plan) (area n : Nat) (s : State) : State :=
  let r := n % 2
  let g := region area r s
  let s1 := setRegion area r { g with state := .sealed } s
  startDrain p area r n (raise .sealed [r, n, g.sealLedger] s1)

/-- R153, first case: seal when every chunk of every channel is accounted for. -/
def sealIfDone (p : Plan) (area n : Nat) (s : State) : State :=
  let g := region area (n % 2) s
  if g.begun ∧ g.integration = n ∧ g.state = .filling ∧
      (p.areaChannels area).all (fun c => chanComplete p area c n s) then sealRegion p area n s
  else s

/-- An operation of an integration has completed (R153). -/
def touchRegion (p : Plan) (area n : Nat) (s : State) : State :=
  let g := region area (n % 2) s
  sealIfDone p area n (setRegion area (n % 2) { g with lastOp := some s.time.now } s)

/-! ### READ, WRITE, STATUS, RESET (R149 to R151) -/

/-- The status record (R137). -/
def Tile.status (x : Tile) : Nat :=
  x.generation + x.integration * 2 ^ 32 + x.lastChunk * 2 ^ 64 + (if x.touched then 2 ^ 96 else 0) +
    (if x.overflow then 2 ^ 97 else 0) + (if x.nonfinite then 2 ^ 98 else 0) +
    (if x.invalid then 2 ^ 99 else 0) + (if x.written then 2 ^ 100 else 0)

/-- The ledger record (R81). -/
def Tile.ledger (x : Tile) : Nat :=
  x.chunks + x.dropped * 2 ^ 32 + (match x.berm with
    | some b => b.index
    | none => 0xFFFFFFFF) * 2 ^ 64

/-- The status record and the ledger record as they are read out. -/
def Tile.records (x : Tile) : List Byte := natLE 16 x.status ++ natLE 16 x.ledger

/-- The bytes of an element in the totals format (R132). -/
def elemBytes (f : Fmt) (c : Cx) : List Byte :=
  let n := if f = f32 then 4 else 8
  natLE n c.re ++ natLE n c.im

/-- An element of a tile. -/
def Tile.elem (x : Tile) (i : Nat) : Cx := sGet (fun _ => Cx.zero) x.elems i

/-- How a tile operation ends (R149). -/
inductive TileEnd where
  | done | badTile | stale | busy | badRange
deriving DecidableEq, Repr

/-- RESULT of a tile operation descriptor. -/
def TileEnd.code : TileEnd → Nat
  | .done => 0 | .badTile => 1 | .stale => 2 | .busy => 3 | .badRange => 4

/-- A tile operation descriptor's fields (R149). -/
structure TileOp where
  op : Nat
  region : Nat
  area : Nat
  chan : Nat
  i : Nat
  j : Nat
  first : Nat
  count : Nat
  integration : Nat
  buffer : Nat

/-- The plan that the tiles of a region belong to: the record that laid it out, else the one in
force. -/
def regionPlan (area r : Nat) (s : State) : Option Plan :=
  match planOf (region area r s).epoch s with
  | some p => some p
  | none => s.plan.running

/-- A region's tiles are those of a plan: the record that began its integration lays the area out alike
(R301). -/
def laidOut (p : Plan) (area r : Nat) (s : State) : Bool :=
  match planOf (region area r s).epoch s with
  | some q => sameLayout q p area
  | none => true

/-- A tile of a plan: until the plan's first touch, a region that an older plan laid out otherwise holds
fresh tiles of it (R304). -/
def tileOf (p : Plan) (area r chan t : Nat) (s : State) : Tile :=
  if laidOut p area r s then tile (tileKey area r chan t) s else Tile.fresh

/-- The tile exists under a plan (BAD_TILE). -/
def Plan.hasTile (p : Plan) (o : TileOp) : Bool :=
  (p.areaChannels o.area).contains o.chan && decide (o.i ≤ o.j) && decide (o.j < p.k)

/-- Element count of an operation: 0 means to the end of the tile. -/
def TileOp.elems (o : TileOp) : Nat := if o.count = 0 then tileElems o.i o.j - o.first else o.count

/-- BAD_RANGE. -/
def TileOp.rangeBad (o : TileOp) : Bool := decide (tileElems o.i o.j < o.first + o.count)

/-- Count a completed operation of a kind (R161). -/
def countOp (c : Ctr) (p : Plan) (o : TileOp) (s : State) : State :=
  count c (keeperOf p o.area o.region o.chan (tileNumber p.k o.i o.j) s) 1 s

/-- READ (R150): the elements' bytes and the records, or STALE. -/
def tileRead (o : TileOp) (s : State) : TileEnd × List Byte × State :=
  match s.plan.running with
  | none => (.badTile, [], s)
  | some p =>
    if !p.hasTile o then (.badTile, [], s)
    else if o.rangeBad then (.badRange, [], s)
    else
      let x := tileOf p o.area o.region o.chan (tileNumber p.k o.i o.j) s
      let s1 := countOp .tileOpsRead p o s
      if o.integration ≠ 0xFFFFFFFF ∧ (!x.touched ∨ x.integration ≠ o.integration) then
        (.stale, [], countOp .staleResults p o s1)
      else
        (.done, ((List.range o.elems).flatMap fun q => elemBytes p.totalsFmt (x.elem (o.first + q))) ++
          x.records, s1)

/-- STATUS (R149, R150). STALE_RESULTS counts READs and WRITEs only (R161). -/
def tileStatus (o : TileOp) (s : State) : TileEnd × List Byte × State :=
  match s.plan.running with
  | none => (.badTile, [], s)
  | some p =>
    if !p.hasTile o then (.badTile, [], s)
    else
      let x := tileOf p o.area o.region o.chan (tileNumber p.k o.i o.j) s
      let s1 := countOp .tileOpsStatus p o s
      if o.integration ≠ 0xFFFFFFFF ∧ (!x.touched ∨ x.integration ≠ o.integration) then
        (.stale, [], s1)
      else (.done, x.records, s1)

/-- Every NaN that is written into totals is the canonical quiet NaN (R142). -/
def Fmt.quiet (f : Fmt) (v : Nat) : Nat := if f.isNan v then f.nanBits else v

/-- The elements of a byte string in the totals format, as a WRITE stores them. -/
def readElems (f : Fmt) : Nat → List Byte → List Cx
  | 0, _ => []
  | n + 1, bs =>
    let w := if f = f32 then 4 else 8
    ⟨f.quiet (leAt bs 0 w), f.quiet (leAt bs w w)⟩ :: readElems f n (bs.drop (2 * w))

/-- Replace elements from an index on. -/
def putElems (m : Sparse Cx) (first : Nat) (l : List Cx) : Sparse Cx :=
  ((List.range l.length).zip l).foldl (fun a w => sPut (fun _ => Cx.zero) a (first + w.1) w.2) m

/-- The integration (full index) that bits [31:0] `m` name for a WRITE into a region: the one whose
low bits are `m`, nearest to what the region holds. -/
def fullInteg (g : Region) (m : Nat) : Nat :=
  let base := g.integration / 2 ^ 32 * 2 ^ 32 + m
  if g.integration < base ∧ 2 ^ 31 < base - g.integration ∧ 2 ^ 32 ≤ base then base - 2 ^ 32
  else if base + 2 ^ 31 < g.integration then base + 2 ^ 32
  else base

/-- WRITE (R150). -/
def tileWrite (o : TileOp) (data : List Byte) (s : State) : TileEnd × State :=
  match s.plan.running with
  | none => (.badTile, s)
  | some p =>
    if !p.hasTile o ∨ o.integration % 2 ≠ o.region then (.badTile, s)
    else if o.rangeBad then (.badRange, s)
    else
      let g := region o.area o.region s
      let t := tileNumber p.k o.i o.j
      let key := tileKey o.area o.region o.chan t
      let x := tileOf p o.area o.region o.chan t s
      let m := fullInteg g o.integration
      let l := readElems p.totalsFmt o.elems data
      let bad := l.any (cxBad p.totalsFmt)
      let s1 := countOp .tileOpsWrite p o s
      if g.begun ∧ m < g.integration then (.stale, countOp .staleResults p o s1)
      else if x.touched ∧ x.integration = o.integration then
        (.done, setTile key { bumpGen x with
          elems := putElems x.elems o.first l
          written := true
          nonfinite := x.nonfinite || bad } s1)
      else if x.touched ∧ seqLater 32 x.integration o.integration then
        (.stale, countOp .staleResults p o s1)
      else if x.touched ∧ g.state = .sealed then (.busy, s1)
      else
        let s2 := beginRegion p o.area m s1
        let s3 := firstTouch p o.area o.region o.chan t m s2
        let y := tile key s3
        (.done, setTile key { bumpGen y with
          elems := putElems [] o.first l
          written := true
          nonfinite := bad } s3)

/-- RESET (R151). -/
def tileReset (o : TileOp) (s : State) : TileEnd × State :=
  match s.plan.running with
  | none => (.badTile, s)
  | some p =>
    if !p.hasTile o then (.badTile, s)
    else if !laidOut p o.area o.region s then (.done, countOp .tileOpsReset p o s)
    else
      let key := tileKey o.area o.region o.chan (tileNumber p.k o.i o.j)
      let x := tile key s
      let s1 := returnBerm o.area o.region x.berm (countOp .tileOpsReset p o s)
      (.done, setTile key { x with
        touched := false
        generation := 0
        overflow := false
        nonfinite := false
        invalid := false
        written := false
        berm := none } s1)

/-! ### Loss of totals memory (R158) -/

/-- The canonical NaN in both components. -/
def nanElem (f : Fmt) : Cx := ⟨f.nanBits, f.nanBits⟩

/-- R158: NaN in the elements listed, INVALID and NONFINITE, the count and the source. -/
def poisonTile (p : Plan) (area r chan t : Nat) (elems : List Nat) (s : State) : State :=
  let key := tileKey area r chan t
  let x := tile key s
  let s1 := setTile key { x with
    elems := elems.foldl (fun m e => sPut (fun _ => Cx.zero) m e (nanElem p.totalsFmt)) x.elems
    invalid := true
    nonfinite := true } s
  fire .totalsPoison (count .totalsPoison (keeperOf p area r chan t s) 1 s1)

/-! ### The end of a tile's part in a block -/

/-- R166: a tile of a block has been promoted or discarded. -/
def tileDone (d slot : Nat) (s : State) : State :=
  let x := die d s
  setDie d { x with runs := x.runs.map fun r => if r.slot = slot then { r with left := r.left - 1 } else r } s

end Sys2Proof.Machine
end

