-- ==== Sys2Proof/Machine/RefOps.lean ====
section
/-! DEFINITION. The shared operations of reference monitoring and selection (chapter 12). -/

namespace Sys2Proof.Machine

/-- A reference before anything has been seen of it (R400). -/
def RefS.unseen : RefS :=
  { mon := .failed, ql := 15, cause := 0, since := 0, been := false, sigOk := false, ppsOk := false,
    todOk := false, ptpOk := false, esmcOk := false, linkOk := false, freqOk := true, freq := 0,
    offset := 0, offRange := none, lastPps := none, lastTod := none, todSecond := none, lastEsmc := none,
    disagrees := none }

/-- A reference by its code (R396). -/
def ref (r : Nat) (s : State) : RefS := s.time.refs.getD r RefS.unseen

/-- Set a reference. -/
def setRef (r : Nat) (x : RefS) (s : State) : State :=
  { s with time := { s.time with refs := s.time.refs.set r x } }

/-- TIME_CAPABLE (R400). -/
def timeCapable (r : Nat) : Bool := decide (r < 4)

/-- The quality level of R398: timing.ref_ql_fixed replaces it unless it is AUTO. -/
def refQl (r : Nat) (s : State) : Nat :=
  let f := par .timingRefQlFixed r 0 s
  if f = 255 then (ref r s).ql else f

/-- The limit of R396 in units of 0.01 ppb: the lower of timing.freq_limit (held in ppb) and
11 ppm. -/
def freqLimit (s : State) : Nat := min (par0 .timingFreqLimit s) 11000 * 100

/-- The limit applied to the last frequency measured. -/
def takeLimit (r : Nat) (s : State) : State :=
  setRef r { ref r s with freqOk := decide ((ref r s).freq.natAbs ≤ freqLimit s) } s

/-- R396: every condition of the reference's row holds, its level is not 15, its frequency lies
within the limit. -/
def refValid (r : Nat) (s : State) : Bool :=
  let x := ref r s
  let row := if r < 2 then x.sigOk && x.ppsOk && x.todOk else if r < 4 then x.ptpOk
    else x.linkOk && x.esmcOk
  row && x.freqOk && refQl r s != 15

/-- A measurement of tide time minus a reference's time (R400). -/
def RefS.measured (x : RefS) (off : Int) : RefS :=
  { x with
    offset := off
    offRange := some (match x.offRange with
      | none => (off, off)
      | some (a, b) => (min a off, max b off)) }

/-- timing.ref_offset (R400): the current mean of the measurements of a valid time-capable reference. -/
def refOffset (r : Nat) (s : State) : Int :=
  match (ref r s).offRange with
  | some (a, b) => if timeCapable r ∧ refValid r s then max a (min b (Config.offsetMean r s.time.now)) else (ref r s).offset
  | none => (ref r s).offset

/-- R396: both measurements of the last 4 s are there. -/
def ptpMeasured (x : PtpRx) (now : Nat) : Bool :=
  match x.offset, x.pathDelay with
  | some (_, a), some (_, b) => decide (now ≤ a + secT 4) && decide (now ≤ b + secT 4)
  | _, _ => false

/-- R399, R423: a new monitoring state, with EV_REF_STATE when it differs. -/
def setMon (r : Nat) (m : MonState) (s : State) : State :=
  let x := ref r s
  if x.mon = m then s
  else
    let s1 := setRef r { x with
      mon := m
      since := s.time.now
      been := if m = .off then false else x.been || m == .selectable
      disagrees := if m = .suspect then x.disagrees else none
      offRange := if m = .failed then none else x.offRange } s
    raise .refState [r, x.mon.code, m.code, x.cause, refQl r s] s1

/-- May be selected (R399). -/
def MonState.usable (m : MonState) : Bool := m == .selectable || m == .suspect

/-- Some reference may be selected. -/
def anyCandidate (s : State) : Bool := (List.range 6).any fun r => (ref r s).mon.usable

/-- The DPLL acquires (R417). -/
def acquire (s : State) : State := { s with time := { s.time with dpll := .acquiring, acquireAt := s.time.now } }

/-- The loop bandwidth in use, as a code of R417: timing.acq_bw while ACQUIRING, timing.dpll_bw of the
selected reference in LOCKED; none where the loop follows no reference. -/
def loopBandwidth (s : State) : Option Nat :=
  let st := if s.time.dpll = .switching then s.time.prior else s.time.dpll
  match s.time.selected, st with
  | some _, .acquiring => some (par0 .timingAcqBw s)
  | some r, .locked => some (par .timingDpllBw r 0 s)
  | _, _ => none

/-- R416: the holdover estimate as the DPLL leaves a reference: the mean over the last
timing.holdover_avg of lock, but for its last 2 s, and the drift term over the last 24 h of lock. -/
def takeEstimate (s : State) : State :=
  let stop := s.time.now - secT 2
  let lock := s.time.lockedSince.getD s.time.now
  { s with time := { s.time with
    estimateShort := decide (s.time.now - lock < nsT (par0 .timingHoldoverAvg s))
    estimate := Config.dpllMean (max lock (stop - nsT (par0 .timingHoldoverAvg s))) stop
    drift := Config.dpllDrift (max lock (stop - secT 86400)) stop } }

/-- R412, R418: enter HOLDOVER. -/
def enterHoldover (s : State) : State :=
  if s.time.dpll = .holdover ∨ s.time.dpll = .expired ∨ s.time.dpll = .freerun then s
  else
    let x := takeEstimate s
    let short := x.time.estimateShort
    let s1 := { x with time := { x.time with
      dpll := .holdover, selected := none, holdoverAt := s.time.now,
      lockedSince := none, debt := debtNow s, slew := none } }
    raise .holdover [0, tide96 s.time.tide, if short then 1 else 0] (count .holdoverEntries 0 1 s1)

/-- The selected reference is still usable. -/
def selectedUsable (s : State) : Bool :=
  match s.time.selected with
  | none => false
  | some r => (ref r s).mon.usable

/-- R411: abandon the running switch. `cause` is the model's number for what the event carries:
0 a better reference, 1 the candidate disqualified, 2 ZCP_REF_SELECT, 3 a parameter change. -/
def abandonSwitch (target : Option Nat) (cause : Nat) (s : State) : State :=
  match s.time.candidate with
  | none => s
  | some (c, _) =>
    let s1 := { s with time := { s.time with
      candidate := none, noHold := true, dpll := s.time.prior } }
    let s2 := raise .refSwitchAbandoned [c, target.getD 7, cause] (count .switchAbandoned 0 1 s1)
    if s2.time.selected.isSome && !selectedUsable s2 && !anyCandidate s2 then enterHoldover s2 else s2

/-- A reference becomes invalid (R399): FAILED, and a disqualification when it could be selected. -/
def failRef (r cause : Nat) (s : State) : State :=
  let x := ref r s
  if x.mon = .off ∨ x.mon = .failed then s
  else
    let disq := x.mon.usable
    let s1 := setMon r .failed (setRef r { x with cause := if disq then cause else x.cause } s)
    if !disq then s1
    else
      let s2 := count .refDisqualify r 1 s1
      let s3 := match s2.time.candidate with
        | some (c, _) => if c = r then abandonSwitch none 1 s2 else s2
        | none => s2
      if s3.time.selected = some r ∧ s3.time.candidate.isNone ∧ !anyCandidate s3 then enterHoldover s3
      else s3

/-- R421: q_t follows the level of the selected reference while that is valid and time-capable (DEDUCED, log
entry 122). -/
def noteQl (r : Nat) (s : State) : State :=
  if s.time.selected = some r ∧ timeCapable r ∧ refValid r s then
    { s with time := { s.time with lastQl := refQl r s } }
  else s

/-- R399: follow a change of a reference's conditions, level or priority; one whose frequency is beyond the
limit or whose level is 15 reports that cause. -/
def refreshRef (r cause : Nat) (s0 : State) : State :=
  let s := noteQl r (takeLimit r s0)
  let x := ref r s
  if par .timingRefPriority r 0 s = 0 then setMon r .off s
  else if refValid r s then
    (if x.mon = .off then setMon r .qualifying s
     else if x.mon = .failed then setMon r (if x.been then .restoring else .qualifying) s else s)
  else if x.mon = .off then setMon r .failed s
  else failRef r (if !x.freqOk then 7 else cause) s

/-- Follow a change that may bear on every reference. -/
def refreshRefs (s : State) : State := (List.range 6).foldl (fun x r => refreshRef r 6 x) s

/-- The order of R403 on two candidates; step 2 is left out in the fallback of R404. -/
def outranks (useQl : Bool) (a b : Nat) (s : State) : Bool :=
  let cls (r : Nat) := if par0 .timingFreqOnlyRank s = 0 ∧ !timeCapable r then 1 else 0
  let ql (r : Nat) := if useQl then refQl r s else 0
  let key (r : Nat) : List Nat :=
    [cls r, ql r, par .timingRefPriority r 0 s, if s.time.selected = some r then 0 else 1, r]
  decide (key a < key b)

/-- The best of a list of candidates. -/
def bestRef (useQl : Bool) (l : List Nat) (s : State) : Option Nat :=
  l.foldl (fun b r => match b with
    | none => some r
    | some x => if outranks useQl r x s then some r else some x) none

/-- R403 to R405: the target of an evaluation. -/
def selectionTarget (s : State) : Option Nat :=
  let sel := (List.range 6).filter fun r => (ref r s).mon == .selectable
  let held := if selectedUsable s then s.time.selected else none
  let sus := (List.range 6).filter fun r =>
    (ref r s).mon == .suspect && !(held.isSome && held != some r && (ref r s).disagrees == held)
  let l := if sel.isEmpty then sus else sel
  if par0 .timingRefMode s = 0 then bestRef true l s
  else
    let m := par0 .timingRefManual s
    if (ref m s).mon = .selectable then some m else bestRef false l s

/-- R408 step 1: a switch begins. -/
def beginSwitch (r : Nat) (s : State) : State :=
  { s with time := { s.time with
    candidate := some (r, s.time.now), prior := s.time.dpll, dpll := .switching
    debt := debtNow s, slew := none } }

/-- R406: a switch may begin now. -/
def mayBegin (s : State) : Bool :=
  s.time.selected.isNone || !selectedUsable s || s.time.noHold ||
    (match s.time.lastCommit with
     | none => true
     | some t => decide (t + nsT (par0 .timingWtr s) ≤ s.time.now))

/-- R411: the running switch is abandoned, and one to the target begins unless it is selected. -/
def turnTo (target : Option Nat) (cause : Nat) (s : State) : State :=
  let s1 := abandonSwitch target cause s
  match target with
  | some g => if s1.time.selected = some g then s1 else beginSwitch g s1
  | none => s1

/-- R402 to R406, R411, R412: one evaluation. -/
def evaluate (s0 : State) : State :=
  let s := refreshRefs s0
  let target := selectionTarget s
  match s.time.candidate with
  | some (c, _) =>
    match target with
    | none => if (ref c s).mon.usable then s else turnTo none 3 s
    | some g => if g = c then s else turnTo target 0 s
  | none =>
    match target with
    | none => if s.time.selected.isSome then enterHoldover s else s
    | some g => if s.time.selected = some g then s else if mayBegin s then beginSwitch g s else s

/-- TIME_TRACEABLE (R420). -/
def timeTraceable (s : State) : Bool :=
  (match s.time.selected with
   | some r => timeCapable r
   | none => false) &&
  (s.time.dpll == .locked || s.time.dpll == .acquiring || s.time.dpll == .switching)

/-- R421: the module's own level and what its transmitter ports advertise: clockAccuracy,
offsetScaledLogVariance, timeSource. -/
def moduleClock (s : State) : Nat × Nat × Nat × Nat :=
  if timeTraceable s then
    let r := s.time.selected.getD 7
    let q := refQl r s
    (q, if q ≤ 3 then 0x21 else 0x23, 0x4E5D, if r < 2 then 0x39 else 0x40)
  else if s.time.origin = 2 then
    (if s.time.dpll = .expired then (13, 0xFE, 0xFFFF, 0xA0)
     else (min (s.time.lastQl ||| 1) 13, 0x24, 0x6000, 0xA0))
  else if s.time.origin = 1 then (13, 0xFE, 0xFFFF, 0x60)
  else (13, 0xFE, 0xFFFF, 0xA0)

/-- The PTP clockClass of a quality level (R398); level 14 stands for any other value, 254. -/
def clockClassOf (q : Nat) : Nat :=
  [6, 7, 13, 14, 52, 58, 135, 140, 150, 160, 165, 187, 193, 248, 254, 255].getD q 255

/-- The quality level of a clockClass (R398). -/
def qlOfClass (c : Nat) : Nat :=
  if c = 255 then 15
  else (([6, 7, 13, 14, 52, 58, 135, 140, 150, 160, 165, 187, 193, 248] : List Nat).findIdx? (· == c)).getD 14

/-- The quality level of an ESMC SSM code (R398). -/
def qlOfSsm (c : Nat) : Nat :=
  if c = 2 then 0 else if c = 4 then 4 else if c = 8 then 7 else if c = 11 then 11
  else if c = 15 then 15 else 14

/-- Saturate a signed number to `n` bits and wrap it into its field. -/
def satField (n : Nat) (v : Int) : Nat :=
  wrapTo n (max (-(2 ^ (n - 1) : Int)) (min ((2 ^ (n - 1) : Int) - 1) v))

/-- The timing state word (R420). -/
def timingWord (s : State) : Nat :=
  let sel := s.time.selected.getD 7
  s.time.dpll.code + s.time.origin * 8 + (if timeTraceable s then 32 else 0) +
    (if s.time.slew.isSome then 64 else 0) + (if s.time.realign.isSome then 128 else 0) +
    sel * 256 + (if s.time.estimateShort then 2048 else 0) +
    (match s.time.candidate with | some (c, _) => c | none => 7) * 4096 +
    (if (List.range 6).any fun r => (ref r s).mon == .suspect then 32768 else 0) +
    (if s.time.selected.isSome then refQl sel s else 15) * 65536 + (moduleClock s).1 * 2 ^ 20 +
    satField 32 (Int.tdiv (debtNow s) 65536) * 2 ^ 32

/-- The wait that a QUALIFYING or RESTORING reference completes (R399). -/
def qualifyWait (r : Nat) (s : State) : Nat :=
  let q := nsT (par0 .timingQualifyTime s)
  if (ref r s).mon = .restoring then max (nsT (par0 .timingWtr s)) q else q

/-- The status word of a reference (R400). -/
def refStatus (r : Nat) (s : State) : Nat :=
  let x := ref r s
  let left := if x.mon = .qualifying ∨ x.mon = .restoring then
      min 0xFFFF (ceilDiv (x.since + qualifyWait r s - s.time.now) (secT 1)) else 0
  x.mon.code + (if timeCapable r then 8 else 0) + refQl r s * 16 + x.cause * 256 + left * 65536 +
    satField 32 x.freq * 2 ^ 32

/-- R413, R414: start slewing when SLEW mode asks for it, and stop when the mode has returned to COMMAND. -/
def maybeSlew (s : State) : State :=
  if par0 .timingRealignMode s = 0 then
    (if s.time.slew.isSome then { s with time := { s.time with debt := debtNow s, slew := none } } else s)
  else match s.time.selected with
  | some r =>
    if timeCapable r ∧ 65536 ≤ s.time.debt.natAbs ∧ s.time.slew.isNone ∧ s.time.candidate.isNone then
      acquire { s with time := { s.time with slew := some s.time.now } }
    else s
  | none => s

/-- R408 steps 3 and 4, R409, R415: the commit of a switch, with the offset measured over the
window. -/
def commitSwitch (c : Nat) (offset : Int) (s : State) : State :=
  let old := s.time.selected
  let wasHold := decide (s.time.prior = .holdover ∨ s.time.prior = .expired)
  let stepping := decide (s.time.origin < 2) && timeCapable c
  let base := { s with time := { s.time with
    selected := some c, candidate := none, lastCommit := some s.time.now
    noHold := decide (s.time.wanted.isSome ∧ s.time.wanted ≠ some c)
    wanted := if s.time.wanted = some c then none else s.time.wanted
    dpll := .acquiring, acquireAt := s.time.now, slew := none
    debt := if stepping then 0 else if timeCapable c then offset else debtNow s
    origin := if stepping then 2 else s.time.origin
    lastQl := if timeCapable c then refQl c s else s.time.lastQl } }
  let s1 := if stepping then stepTide (tideShift s.time.tide (-offset)) base else base
  let s2 := count .refSwitches 0 1 (if timeCapable c then
    setRef c ((ref c s1).measured (if stepping then 0 else offset)) s1 else s1)
  let s3 := raise .refSwitch [old.getD 7, c, wrapTo 64 s2.time.debt, tide96 s2.time.tide] s2
  let s4 := if wasHold then
    raise .holdover [2, tide96 s3.time.tide, if s3.time.estimateShort then 1 else 0] s3 else s3
  maybeSlew s4

end Sys2Proof.Machine
end

