-- ==== Sys2Proof/Machine/ZcpOps.lean ====
section
/-! DEFINITION. The ZCP engine (chapter 15): the checks of a datagram, the sequence window,
replays, acknowledgements, completion records and replies. -/

namespace Sys2Proof.Machine

/-! ### RESULT codes (R482, R307) -/

/-- OK. -/
def rOk : Nat := 0x0000
/-- BAD_TYPE. -/
def rBadType : Nat := 0x0001
/-- BAD_LENGTH. -/
def rBadLength : Nat := 0x0002
/-- BAD_MAILBOX. -/
def rBadMailbox : Nat := 0x0003
/-- BAD_KEY. -/
def rBadKey : Nat := 0x0004
/-- BAD_VALUE. -/
def rBadValue : Nat := 0x0005
/-- READ_ONLY. -/
def rReadOnly : Nat := 0x0006
/-- NOT_PERMITTED. -/
def rNotPermitted : Nat := 0x0007
/-- BUSY. -/
def rBusy : Nat := 0x0008
/-- BAD_TIME. -/
def rBadTime : Nat := 0x0009
/-- NOT_FOUND. -/
def rNotFound : Nat := 0x000A
/-- REFUSED. -/
def rRefused : Nat := 0x000B
/-- INDOUBT. -/
def rInDoubt : Nat := 0x000C
/-- NO_RECORD. -/
def rNoRecord : Nat := 0x000D
/-- INCOMPLETE. -/
def rIncomplete : Nat := 0x000E
/-- ABORTED. -/
def rAborted : Nat := 0x000F

/-- SUPERSEDED. -/
def rSuperseded : Nat := 0x004C
/-- LOWER. -/
def rLower : Nat := 0x004D

/-- What a waiting command waits for. -/
inductive Why where
  | speed | speedHeld | bulkClose | decomp | solve | retrain | other
deriving DecidableEq, Repr

/-- The number under which a waiting command stands in the state. -/
def Why.code : Why → Nat
  | .speed => 1 | .speedHeld => 2 | .bulkClose => 3 | .decomp => 4 | .solve => 5 | .retrain => 6 | .other => 7

/-! ### The header (R470, R471) -/

/-- MAGIC. -/
def Dgram.magic (d : Dgram) : Nat := beAt d.bytes 0 2
/-- VERSION. -/
def Dgram.version (d : Dgram) : Nat := beAt d.bytes 2 1
/-- SESSION. -/
def Dgram.session (d : Dgram) : Nat := beAt d.bytes 3 1
/-- MAILBOX. -/
def Dgram.mailbox (d : Dgram) : Nat := beAt d.bytes 4 1 % 16
/-- TYPE. -/
def Dgram.typ (d : Dgram) : Nat := beAt d.bytes 6 2
/-- SEQUENCE. -/
def Dgram.seq (d : Dgram) : Nat := beAt d.bytes 8 4
/-- ACK. -/
def Dgram.ack (d : Dgram) : Nat := beAt d.bytes 12 4
/-- LENGTH. -/
def Dgram.length (d : Dgram) : Nat := beAt d.bytes 16 2
/-- FLAGS. -/
def Dgram.flags (d : Dgram) : Nat := beAt d.bytes 18 2
/-- TAG. -/
def Dgram.tag (d : Dgram) : List Byte := slice d.bytes 32 16
/-- The payload. -/
def Dgram.payload (d : Dgram) : List Byte := d.bytes.drop 48
/-- The reserved header fields read zero. -/
def Dgram.reservedZero (d : Dgram) : Bool :=
  decide (beAt d.bytes 4 1 < 16) && beAt d.bytes 5 1 == 0 && beAt d.bytes 20 12 == 0 &&
    decide (d.flags < 64)
/-- ZCP_SESSION_OPEN on mailbox 0. -/
def Dgram.isOpen (d : Dgram) : Bool := d.typ == 0x0002 && d.mailbox == 0
/-- RETRY. -/
def Dgram.retry (d : Dgram) : Bool := bitAt d.flags 3

/-! ### Windows -/

/-- How far `q` lies beyond the receive point. -/
def seqAhead (h q : Nat) : Nat := (q + 2 ^ 32 - h % 2 ^ 32) % 2 ^ 32

/-- What the window says of a sequence (R485). -/
inductive Window where
  | accept | beyond | dup
deriving DecidableEq, Repr

/-- R485. -/
def window (ss : Session) (q : Nat) : Window :=
  if !seqLater 32 q ss.recv then .dup
  else if 1024 < seqAhead ss.recv q then .beyond
  else if q ∈ ss.ahead then .dup
  else .accept

/-- R484: advance h over every consecutive set bit. -/
def advanceRecv : Nat → Nat → List Nat → Nat × List Nat
  | 0, h, l => (h, l)
  | n + 1, h, l =>
    let q := (h + 1) % 2 ^ 32
    if q ∈ l then advanceRecv n q (l.erase q) else (h, l)

/-- R484: set a sequence's bit and advance h. -/
def markReceived (q : Nat) (ss : Session) : Session :=
  let (h, l) := advanceRecv 1025 ss.recv (q :: ss.ahead)
  { ss with recv := h, ahead := l }

/-! ### Acknowledgements (R489, R490) -/

/-- Send the waiting messages that the window now takes in (R490). -/
def sendWindow (k : Nat) (s : State) : State :=
  let ss := session k s
  let due := ss.unsol.filter fun u =>
    u.sentAt.isNone && decide (seqAhead ss.ackPoint u.seq ≤ 256)
  due.foldl (fun x u =>
    let x1 := setSession k (fun y => { y with unsol := y.unsol.map fun v =>
      if v.seq = u.seq then { v with sentAt := some x.time.now } else v }) x
    zcpSend k (zcpBytes k u.typ u.seq 2 u.body x1) x1) s

/-- The last unsolicited sequence sent: the last one raised, but at most 256 beyond the acknowledged point
(R490). -/
def lastSent (ss : Session) : Nat :=
  let raised := (ss.nextUnsol + 2 ^ 32 - 1) % 2 ^ 32
  if seqAhead ss.ackPoint raised ≤ 256 then raised else (ss.ackPoint + 256) % 2 ^ 32

/-- R489: a cumulative acknowledgement. -/
def takeAck (k ack : Nat) (s : State) : State :=
  let ss := session k s
  if !seqLater 32 ack ss.ackPoint then s
  else if seqLater 32 ack (lastSent ss) then count .zcpAckBad k 1 s
  else
    sendWindow k (setSession k (fun y => { y with
      ackPoint := ack, unsol := y.unsol.filter fun u => seqLater 32 u.seq ack }) s)

/-! ### Replies (R482, R486, R487, R500) -/

/-- A command under execution. -/
structure Ctx where
  slot : Nat
  seq : Nat
  typ : Nat
  port : Nat
  payload : List Byte

/-- What executing a command gives: its reply's RESULT and body, none when no reply is sent or it
comes later, the state, and what follows the reply. -/
structure Res where
  reply : Option (Nat × List Byte)
  state : State
  after : State → State := id

/-- A reply with a RESULT and a body. -/
def answer (code : Nat) (body : List Byte) (s : State) : Res := ⟨some (code, body), s, id⟩

/-- A reply with a RESULT alone. -/
def refuse (code : Nat) (s : State) : Res := ⟨some (code, []), s, id⟩

/-- A reply's payload (R482). -/
def replyPayload (code : Nat) (body : List Byte) : List Byte := natBE 2 code ++ natBE 2 0 ++ body

/-- Write the completion record, send the reply and keep it (R486, R487, R500). -/
def sendReply (k seq typ code : Nat) (body : List Byte) (s : State) : State :=
  let bytes := zcpBytes k typ seq 1 (replyPayload code body) s
  let s1 := setSession k (fun y => { y with
    comps := (⟨seq, typ, code⟩ :: y.comps).take 1024
    replies := (⟨seq, bytes⟩ :: y.replies).take 256 }) s
  zcpSend k bytes s1

/-- The completion record of a command that receives no reply (R487, R495). -/
def recordOnly (k seq typ code : Nat) (s : State) : State :=
  setSession k (fun y => { y with comps := (⟨seq, typ, code⟩ :: y.comps).take 1024 }) s

/-- R485: bulk data for a transfer that is not open to data are no command. -/
def closedBulk (d : Dgram) (s : State) : Bool :=
  d.typ == 0x0A03 && d.mailbox == 10 &&
    !(s.zcp.bulks.any fun b => b.slot == d.session && b.id == beAt d.payload 0 2 && b.inbound &&
      (b.state == .open || b.state == .incomplete) && !b.job)

/-- R487: answer a duplicate with RETRY = 1, at most once in 10 ms. -/
def replay (k seq typ : Nat) (s : State) : State :=
  let ss := session k s
  let recent := ss.answered.any fun (q, t) => q == seq && decide (s.time.now < t + msT 10)
  let waits := s.zcp.waiting.any fun w => w.slot == k && w.seq == seq
  if recent || waits then s
  else
    let s1 := setSession k (fun y => { y with
      answered := ((seq, s.time.now) :: y.answered.filter fun (q, t) =>
        q != seq && decide (s.time.now < t + msT 10)) }) s
    let bytes := match ss.replies.find? (·.seq == seq) with
      | some r => r.bytes
      | none =>
        match ss.comps.find? (·.seq == seq) with
        | some c => zcpBytes k c.typ seq 33 (replyPayload c.result []) s1
        | none => zcpBytes k typ seq 1 (replyPayload rNoRecord []) s1
    count .zcpReplays k 1 (zcpSend k bytes s1)

/-- R474: a mailbox's right, or a message that every slot may send. -/
def permitted (k typ mailbox : Nat) (s : State) : Bool :=
  if typ = 0x0003 ∨ typ = 0x0004 ∨ typ = 0x0005 then true
  else if typ = 0x0006 ∨ typ = 0x0008 ∨ typ = 0x0009 then k == 0
  else mailbox == 15 || bitAt (par .zcpRights k 0 s) mailbox

/-- R500: the commands that may be executed again. -/
def repeatable (typ : Nat) : Bool :=
  typ ∈ [0x0004, 0x0005, 0x0202, 0x0205, 0x0602, 0x0805, 0x0A05, 0x0A06, 0x0B02] ||
    (decide (typ / 256 ≤ 9) && decide (typ % 256 < 2))

/-- Execute a command and send its reply. `isTyp` says which TYPE the command's row bears. -/
def runCommand (isTyp : Nat → Bool) (body : Ctx → State → Res) (d : Dgram) (s : State) : State :=
  let k := d.session
  let c : Ctx := { slot := k, seq := d.seq, typ := d.typ, port := d.port, payload := d.payload }
  let r := if !permitted k d.typ d.mailbox s then refuse rNotPermitted s
    else if !isTyp d.typ ∨ d.typ / 256 ≠ d.mailbox then refuse rBadType s
    else body c s
  match r.reply with
  | some (code, b) =>
    if d.typ = 0x0A03 then r.after (recordOnly k d.seq d.typ code r.state)
    else r.after (sendReply k d.seq d.typ code b r.state)
  | none => r.after r.state

/-! ### Arrival (R472) -/

/-- Check 5 with the key of R477. -/
def tagGood (d : Dgram) (s : State) : Bool :=
  let ss := session d.session s
  let key := if d.isOpen then ss.longKey.getD [] else ss.key
  d.tag == (hmac key (d.bytes.take 32 ++ d.payload)).take 16

/-- Checks 1 to 4 of R472: the counter of the first that fails. -/
def earlyChecks (d : Dgram) (s : State) : Option Ctr :=
  if d.bytes.length < 48 ∨ d.magic ≠ 0x465A then some .zcpDiscFormat
  else if d.version ≠ 1 then some .zcpDiscVersion
  else if 3 < d.session ∨ !d.reservedZero ∨ d.length ≠ d.bytes.length - 48 ∨ 8192 < d.length then
    some .zcpDiscFormat
  else
    let ss := session d.session s
    if ss.longKey.isSome ∧ (ss.isOpen ∨ d.isOpen) then none else some .zcpDiscSession

/-- R479: bind the source of an authenticated message, and note its arrival (R476). -/
def bindEnd (d : Dgram) (s : State) : State :=
  setSession d.session (fun y => { y with
    ends := y.ends.set d.port (some d.src), lastAt := s.time.now }) s

/-- ZCP_RX of a session on a port (R506). -/
def zcpRx (p : Nat) : Ctr := if p = 0 then .zcpRxH0 else .zcpRxH1

/-- The datagrams that arrive while a host port carries frames: R576 before READY, then R472.
`open_` is what an accepted ZCP_SESSION_OPEN does; `body` executes the row's command. -/
def arrive (isTyp : Nat → Bool) (body : Ctx → State → Res) (open_ : Dgram → State → State)
    (d : Dgram) (s : State) : State :=
  if !hostUp d.port s then s
  else if s.boot.stage ≠ .ready then count .zcpDiscSession (hostInst d.port) 1 s
  else
    match earlyChecks d s with
    | some c => count c (hostInst d.port) 1 s
    | none =>
      if !tagGood d s then
        fire .zcpAuth (count .zcpAuthFail (hostInst d.port) 1
          { s with zcp := { s.zcp with authFail := some (d.session, hostInst d.port, d.src) } })
      else if d.flags % 64 ∉ [0, 4, 8, 12] then count .zcpDiscFormat (hostInst d.port) 1 s
      else if d.isOpen then open_ d s
      else
        let k := d.session
        let s1 := bindEnd d s
        let s2 := if bitAt d.flags 2 then takeAck k d.ack s1 else s1
        if (d.typ = 0x0F00 ∧ d.mailbox = 15) ∨ closedBulk d s2 then count (zcpRx d.port) k 1 s2
        else
          match window (session k s2) d.seq with
          | .beyond => count .zcpSeqWindow k 1 s2
          | .dup =>
            let s3 := count .zcpDupDiscard k 1 s2
            if !d.retry ∨ d.typ = 0x0A03 then s3
            else if d.seq ∈ (session k s3).inDoubt then
              let s4 := setSession k (fun y => { y with inDoubt := y.inDoubt.erase d.seq }) s3
              if repeatable d.typ then runCommand isTyp body d s4
              else sendReply k d.seq d.typ rInDoubt [] s4
            else replay k d.seq d.typ s3
          | .accept =>
            if d.full then count .zcpMboxFull d.mailbox 1 s2
            else
              runCommand isTyp body d
                (setSession k (markReceived d.seq) (count (zcpRx d.port) k 1 s2))

/-- The meaning of a command that a host sends: TYPE `typ`, executed by `body`. -/
def zcp (typ : Nat) (body : Ctx → State → Res) (t : Nat) (d : Dgram) (s : State) :
    Host.Outcome State Fault Refusal :=
  act t (arrive (· == typ) body (fun _ s => s) d) s

/-- A command whose payload has a fixed length (R480: BAD_LENGTH). -/
def sized (n : Nat) (body : Ctx → State → Res) (c : Ctx) (s : State) : Res :=
  if c.payload.length = n then body c s else refuse rBadLength s

/-- A command whose payload the spec names without a layout: its length is the one of that layout, and
what it says stands in the command's operands (log entry 13). -/
def laid (body : Ctx → State → Res) (c : Ctx) (s : State) : Res :=
  sized (Config.payloadLength c.typ) body c s

/-- A command whose reply comes later: it waits under a name (R487, R495, R496). -/
def wait (c : Ctx) (why : Why) (unit : Nat) (s : State) : Res :=
  ⟨none, { s with zcp := { s.zcp with waiting := s.zcp.waiting ++ [⟨c.slot, c.seq, c.typ, why.code, unit⟩] } }, id⟩

/-- Send the replies of the commands that waited for this. -/
def complete (why : Why) (unit code : Nat) (body : List Byte) (s : State) : State :=
  let (due, rest) := s.zcp.waiting.partition fun w => w.why == why.code && w.unit == unit
  due.foldl (fun x w => if (session w.slot x).isOpen then sendReply w.slot w.seq w.typ code body x else x)
    { s with zcp := { s.zcp with waiting := rest } }

end Sys2Proof.Machine
end

