-- ==== Sys2Proof/Machine/Units.lean ====
section
/-! DEFINITION. The units of the module as wholes: power domains going on and off, the module stop,
stopped dies, EV_CAPACITY and readmission, and the places of the regions (R42, R48, R308, R431,
R532, R545 to R549, R569). -/

namespace Sys2Proof.Machine

/-! ### Readmission (R308) -/

/-- The first main integration boundary of a plan that lies at least `lead` ticks of tide time
ahead. -/
def boundaryAfter (p : Plan) (lead : Nat) (s : State) : Nat :=
  let unit := p.intLen 0 * p.t
  let sc := tideSc (s.time.tide + lead) s
  let b := ceilDiv sc unit * unit
  if scTide b s < s.time.tide + lead then b + unit else b

/-- The shed that readmission asks for, joined with the shed in force, which it never reduces. -/
def joinShed (run new : Plan) : Plan :=
  { new with
    channels := if new.c < run.c then new.channels else run.channels
    skipN := max run.skipN new.skipN
    shed := if new.shed = 0 then run.shed else new.shed }

/-- R308: rerun admission on the committed plan with the current resources; a refusal on DRAM capacity is
reported as it is, and SHED_CHANNELS applied. -/
def readmit (s : State) : State :=
  match s.plan.running with
  | none => s
  | some run =>
    let base := { run with channels := run.listed, skipN := 0, shed := 0 }
    let a := admitPlan base run.id (fun _ => 0) false s
    let s1 := raiseBytes .planReadmit a.report s
    let b := if a.outcome = 2 ∧ a.reason = 0x13 then admitPlan base run.id (fun _ => 0) true s else a
    match b.plan with
    | none => raise .planOver [a.reason] s1
    | some new =>
      let j := joinShed run new
      if b.outcome = 0 ∨ (j.channels = run.channels ∧ j.skipN = run.skipN) then s1
      else
        let due := { j with
          epoch := s1.plan.lastEpoch + 1
          sc := boundaryAfter run (msT 20) s1
          freshBanks := false
          known := run.known }
        { s1 with plan := { s1.plan with shedDue := some due, lastEpoch := s1.plan.lastEpoch + 1 } }

/-- Weir engines in service (R549). -/
def enginesServing (s : State) : Nat := sumN ((List.range 4).map fun d => dieEngines d s)

/-- R549: EV_CAPACITY for a unit (its register block unit), its new state, the number of active polders of
its ring and which they are (R10). -/
def raiseCapacity (unit st : Nat) (ring : Option Nat) (s : State) : State :=
  let active := match ring with
    | some r => ringPolders r s
    | none => []
  raise .capacity ([unit, st, active.length] ++ active ++ [polderPeak s, enginesServing s]) s

/-- EV_CAPACITY, and readmission (R549). -/
def capacityChanged (unit st : Nat) (ring : Option Nat) (s : State) : State := readmit (raiseCapacity unit st ring s)

/-! ### What a domain loses when it goes off -/

/-- What a polder has in hand is lost. -/
def clearPolder (n : Nat) (s : State) : State :=
  setPolder n { polder n s with jobs := [], subSums := [], active := none, shadow := none, held := none } s

/-- A polder without power (R107): the tiles that it had in hand are not computed, and hold no block. -/
def polderOff (n : Nat) (s : State) : State :=
  let p := polder n s
  let jobs := p.jobs ++ (p.shadow.map (·.job)).toList
  let s1 := jobs.foldl (fun x j => tileDone (n / 42) j.slot x) (clearPolder n s)
  setPolder n { polder n s1 with powered := false, waking := false } s1

/-- An engine holds no longer: the cycles that it held are counted (R195). -/
def endHold (e : Nat) (s : State) : State :=
  let x := s.weir.engines.getD e ⟨false, none⟩
  match x.holdSince with
  | none => s
  | some t0 => count .weirHoldCycles e (cycles 1600 (s.time.now - t0))
      { s with weir := { s.weir with engines := s.weir.engines.set e { x with holdSince := none } } }

/-- No engine has begun a block that waits for one (R195). -/
def Running.unbegun (r : Running) (s : State) : Bool :=
  !r.weirWait.isEmpty && r.weirBusy.isEmpty &&
    !(s.weir.blocks.any fun b => b.slot == r.slot && b.chan == r.chan && b.chunk == r.chunk && b.epoch == r.epoch)

/-- R548: blocks that a die holds are lost, and what its culvert holds; LEDGER_ONLY operations account for
their chunks. -/
def dropDie (d : Nat) (s : State) : State :=
  let x := die d s
  let main := (x.slots.filter fun v => v.state == .open || v.state == .closed).map fun v =>
    (⟨0, v.epoch, v.chan, v.chunk⟩ : LedgerDue)
  let zoom := (x.slots.filter fun v => v.state == .zoom).map fun v =>
    (⟨1, v.epoch, v.chan, v.chunk⟩ : LedgerDue)
  let s1 := setDie d { x with
    slots := x.slots.map fun _ => Slot.empty
    left := []
    runs := []
    staging := []
    hold := none
    ledgerDue := [] } s
  let s2 := (List.range 42).foldl (fun y n => clearPolder (42 * d + n) y)
    ((List.range x.slots.length).foldl (fun y i => missTaps d i y) s1)
  (main ++ zoom ++ x.ledgerDue).foldl (fun y l => ledgerDue d l.area l.epoch l.chan l.chunk y)
    (endHold (2 * d + 1) (endHold (2 * d)
      { s2 with weir := { s2.weir with blocks := s2.weir.blocks.filter fun b => b.die != d || b.busy.isEmpty } }))

/-- The beam outputs of a die's engines are lost; a block that neither has begun is not beamformed (R195). -/
def dropBeams (d : Nat) (s : State) : State :=
  let x := die d s
  let s0 := count .dieBeamBlocksLost d (x.runs.filter fun r => r.unbegun s).length
    (endHold (2 * d + 1) (endHold (2 * d) s))
  let s1 := setDie d { x with runs := x.runs.map fun r => { r with weirWait := [], weirBusy := [] } } s0
  { s1 with weir := { s1.weir with
      blocks := s1.weir.blocks.filter (·.die != d)
      bufs := s1.weir.bufs.filter (·.die != d) } }

/-- The zoom engine's blocks and filter states are lost. -/
def dropZoom (s : State) : State :=
  { s with zoom := { s.zoom with
      sources := []
      avgs := []
      wins := s.zoom.wins.map fun w =>
        let t := match planOf w.epoch s with
          | some p => p.t
          | none => 0
        { w with filt := [], outs := [], waiting := none, dets := [], start := w.next * t + 128 * w.pos } } }

/-- PD33 goes off: every core goes OFF (R313); gain solves that wait for the array are refused. -/
def sluiceOff (s : State) : State :=
  let s1 := complete .solve 0 rRefused []
    { s with sluice := { s.sluice with taps := [], solveHold := false, solves := [] } }
  (List.range 64).foldl (fun x n =>
    let y := coreState n .off x
    setCore n (coreOff (core n y)) y) s1

/-- The links of an ingress port group go down (R569). -/
def ingressDown (ports : List Nat) (s : State) : State :=
  ports.foldl (fun x port =>
    match sFind x.ingressLinks port with
    | some l =>
      if l.up then
        let l1 := { l with up := false, downSince := x.time.now, reported := false }
        let x1 := { x with ingressLinks := sSet x.ingressLinks port l1 }
        raise .ingressLink [port, 0, tide96 x1.time.tide] (count .linkDown port 1 x1)
      else x
    | none => x) s

/-- The streams sent on a host port (EV_EGRESS_LINK's "streams affected"). -/
def portStreams (port : Nat) (s : State) : List Nat :=
  match s.plan.running with
  | some p => p.streams.filter fun sid => p.sentOn sid port
  | none => [0x7000, 0x8000]

/-- A host link changes (R256). -/
def setHostLink (port : Nat) (up : Bool) (s : State) : State :=
  let l := hostLink port s
  if l.up = up then s
  else
    let l1 := if up then { l with up := true, beenUp := true, reported := false }
      else { l with up := false, downSince := s.time.now, reported := false }
    let s0 := if up then setRef (4 + port) { ref (4 + port) s with linkOk := true } s else s
    let s1 := { s0 with hostLinks := s0.hostLinks.set port l1 }
    raise .egressLink ([port, if up then 1 else 0, tide96 s1.time.tide] ++ portStreams port s1) s1

/-- R241: PD39 goes off. Packets that wait are discarded; the drains resume with the unit that was
in progress; compressors lose what they hold. -/
def egressDown (s : State) : State :=
  let s1 := dropWaiting (countHolds s)
  let s2 := s1.egress.ready.foldl (fun x u => freeOwner u.unit.owner x) s1
  let s3 := s2.egress.comps.toList.foldl (fun x c => match c with
    | some j => freeOwner j.unit.owner x
    | none => x) s2
  { s3 with egress := { s3.egress with
      ready := []
      comps := .replicate 16 none
      chains := []
      drains := s3.egress.drains.map fun d => { d with streams := d.streams.map fun x =>
        { x with items := x.flight ++ x.items, flight := [] } } } }

/-- What the units of a domain lose when it goes off (R313, R569). -/
def unitLost (pd : Nat) (s : State) : State :=
  if pd < 24 then (List.range 7).foldl (fun x p => polderOff (pd * 7 + p) x) s
  else if pd < 28 then dropDie (pd - 24) s
  else if pd < 32 then dropBeams (pd - 28) s
  else if pd = 32 then dropZoom s
  else if pd = 33 then sluiceOff s
  else if pd < 38 then ingressDown ((List.range 32).map (32 * (pd - 34) + ·)) s
  else if pd = 38 then setHostLink 1 false (setHostLink 0 false s)
  else egressDown s

/-- Switch a domain off. -/
def switchOff (pd : Nat) (s : State) : State :=
  if domain pd s = .on ∨ domain pd s = .waking then unitLost pd (setDomain pd .off s) else s

/-- The module is stopped (R532). -/
def stopped (s : State) : Bool := (episode 3 s).state == .held

/-- Switch a domain on: it wakes (R569). A TRIPPED domain stays off (R571), and so does every domain of a
stopped module (R532). -/
def switchOn (pd : Nat) (s : State) : State :=
  if domain pd s = .off ∧ !stopped s then setDomain pd .waking s else s

/-- Firmware loads the stock kernels onto a STOCK core, which then runs them; a HOST core becomes
LOADABLE (R344). -/
def coreOn (n : Nat) (s : State) : State :=
  coreState n (if (core n s).host then .loadable else .running) s

/-- A domain has reached regulation: its units come into service. -/
def domainReady (pd : Nat) (s : State) : State :=
  let s1 := setDomain pd .on s
  if pd < 24 then
    (List.range 7).foldl (fun x p =>
      let n := pd * 7 + p
      if (polder n x).role = 0 ∧ !(polder n x).gone then setPolder n { polder n x with powered := true } x
      else x) s1
  else if pd = 33 then
    (List.range 64).foldl (fun x n => if (core n x).state = .off then coreOn n x else x) s1
  else if pd = 38 then
    { s1 with
      fault := { s1.fault with stopped := s1.fault.stopped.filter (· != (7, 0)) }
      egress := { s1.egress with hostSince := s1.time.now }
      hostLinks := s1.hostLinks.map fun l => { l with downSince := s1.time.now, beenUp := false, reported := false }}
  else s1

/-! ### The domains that a plan needs -/

/-- R313: the plan keeps PD33 on. -/
def Plan.needsSluice (p : Plan) : Bool :=
  p.par0 .weirWeightSource == 1 ||
    p.par0 .sluiceStatsCount != 0 ||
    (List.range 64).any (fun c => p.par .sluiceOwner c 0 == 1)

/-- R48: the ports of an ingress group carry traffic under the plan. -/
def Plan.usesGroup (p : Plan) (g : Nat) : Bool :=
  (List.range 32).any fun i =>
    let port := 32 * g + i
    bitAt (p.par0 .ingressPorts) port &&
      decide (port % 4 < modePorts (p.par .ingressPortMode (port / 4) 0))

/-- The domains that a plan needs (R42, R48, R115, R163, R197, R313). -/
def Plan.needs (p : Plan) (s : State) : List Nat :=
  let live := liveDies s
  live.flatMap (fun d => ringsInUse p d s) ++ live.map (24 + ·) ++
    (if p.beams = 0 then [] else live.map (28 + ·)) ++
    (if p.windows.isEmpty ∨ s.zoom.out then [] else [32]) ++
    (if p.needsSluice || s.sluice.solveHold then [33] else []) ++
    ((List.range 4).filter p.usesGroup).map (34 + ·)

/-- A die has finished the blocks of every plan record before the one in force. -/
def dieMoved (d : Nat) (s : State) : Bool :=
  match s.plan.running with
  | none => true
  | some p => (die d s).stopped || decide (p.epoch ≤ (die d s).epoch) ||
      (s.plan.old.isEmpty && (die d s).runs.isEmpty)

/-- The die that a domain belongs to. -/
def domainDie (pd : Nat) : Option Nat :=
  if pd < 24 then some (pd / 6) else if pd < 28 then some (pd - 24) else if pd < 32 then some (pd - 28)
  else none

/-- R305, step 6: domains that the plan in force does not use go off after their last old block;
the pair of banks of the plan before is freed with the last die's, once the plan in force owns the fresh
pair (R176). -/
def trimDomains (s : State) : State :=
  match s.plan.running with
  | none => s
  | some p =>
    let keep := p.needs s ++ (match s.plan.next with
      | some n => if s.plan.pointPassed then n.needs s else []
      | none => [])
    let s1 := (List.range 38).foldl (fun x pd =>
      if keep.contains pd then x
      else match domainDie pd with
        | some d => if dieMoved d x then switchOff pd x else x
        | none => switchOff pd x) s
    if s1.weir.owner ≤ p.commit ∧ (List.range 4).all (fun d => dieMoved d s1) = true then { s1 with weir := { s1.weir with oldBanks := none } }
    else s1

/-! ### The module stop (R532) -/

/-- R539: a freeze. -/
def freeze (s : State) : State :=
  let s1 := bbWrite 6 0 0 [] s
  { s1 with fault := { s1.fault with frozen := true } }

/-- The flush at a freeze, and how it is reported (R540, R552). -/
def freezeFlush (cause : Nat) (s : State) : State :=
  let (slot, s1) := bbFlush cause s
  match slot with
  | none => s1
  | some k =>
    if domain 38 s1 = .on then
      raise .bbFlushed [k, cause, s1.fault.flushes, s1.fault.ring.length] s1
    else { s1 with fault := { s1.fault with flushedOff := s1.fault.flushedOff ++ [k] } }

/-- R532: the module stops on a source. A source that merges into a HELD episode freezes nothing anew,
but for FS_FEED_BOTH (R529, R539). -/
def moduleStop (f : Fs) (s : State) : State :=
  let again : Bool := s.fault.frozen && f != .feedBoth
  let s1 := if again then s else freeze s
  let pds := if stopsHosts f then stopDomains ++ [38] else stopDomains
  let s2 := pds.foldl (fun x pd => switchOff pd x) s1
  let s3 := { s2 with power := { s2.power with
    readyPin := false
    pd38TripAt := if stopsHosts f then none else s2.power.pd38TripAt } }
  if again then s3 else freezeFlush (if f = .feedBoth then 2 else 1) s3

/-- A module-stop source fires (R528, R529, R532). -/
def fireStop (f : Fs) (s : State) : State := moduleStop f (fire f s)

/-! ### Dies, rings and engines leaving service (R545 to R549, R569) -/

/-- R548: a die stops; `pd` is its culvert and collector domain. -/
def stopDie (d : Nat) (s : State) : State :=
  if (die d s).stopped then s
  else
    let s1 := fire .dieStopped (setDie d { die d s with stopped := true } s)
    let s2 := stopFunction 3 d s1
    let s3 := if domain (24 + d) s2 = .tripped then dropDie d s2 else switchOff (24 + d) (dropDie d s2)
    capacityChanged (0x40 + d) 1 none s3

/-- The rings of a die that are neither retired nor handled as retired. -/
def ringsLeft (d : Nat) (s : State) : Nat := ((List.range 6).filter fun r => !ringGone (6 * d + r) s).length

/-- R546, R548: a ring has left service; with the last one its die stops. -/
def ringLost (ring : Nat) (s : State) : State :=
  let s1 := capacityChanged (0x50 + ring) 2 (some ring) s
  if ringsLeft (ring / 6) s1 = 0 then stopDie (ring / 6) s1 else s1

/-- R547: a ring is retired: written to flash, its domain off. -/
def retireRing (ring : Nat) (s : State) : State :=
  if s.data.ringsRetired.contains ring then s
  else
    let s1 := { s with data := { s.data with ringsRetired := insertAsc ring s.data.ringsRetired } }
    ringLost ring (switchOff ring (fire .ringRetired s1))

/-- R545: a weir engine is taken out of service. -/
def engineOut (e : Nat) (s : State) : State :=
  let x := s.weir.engines.getD e ⟨false, none⟩
  if x.out then s
  else
    let d := e / 2
    let s0 := endHold e s
    let y := die d s0
    let lost := (y.runs.filter fun r => r.unbegun s && r.weirWait.all (· == e % 2)).length
    let s1 := count .dieBeamBlocksLost d lost
      { s0 with weir := { s0.weir with engines := s0.weir.engines.set e { out := true, holdSince := none } } }
    let s1a := setDie d { y with runs := y.runs.map fun r => { r with
      weirWait := r.weirWait.filter (· != e % 2)
      weirBusy := r.weirBusy.filter (· != e % 2) } } s1
    let s1b := { s1a with weir := { s1a.weir with blocks := s1a.weir.blocks.map fun b =>
      if b.die = d then { b with busy := b.busy.filter (· != e % 2) } else b } }
    let s2 := fire .weirEngine s1b
    let s3 := if dieEngines d s2 = 0 then fire .weirPair s2 else s2
    capacityChanged (0x48 + e) 1 none s3

/-- R527: the zoom engine stops. -/
def zoomStop (s : State) : State :=
  let s1 := fire .zoomEngine { s with zoom := { s.zoom with out := true } }
  readmit (switchOff 32 (stopFunction 5 0 s1))

/-- R527: the decompressor fails; its jobs end DEST_REFUSED. -/
def decompStop (s : State) : State :=
  stopFunction 9 0 (fire .decomp { s with egress := { s.egress with decompOut := true } })

/-- R527: an ingress packet engine fails; its eight ports stop. -/
def ingressEngineStop (g : Nat) (s : State) : State :=
  stopFunction 1 g (switchOff (34 + g) (fire .ingressEngine s))

/-- The domain of a function of ZCP_FUNC_REINIT (R582). -/
def functionDomain (fn inst : Nat) : Option Nat :=
  if fn = 1 then some (34 + inst)
  else if fn = 2 then some inst
  else if fn = 3 then some (24 + inst)
  else if fn = 4 then some (28 + inst)
  else if 5 ≤ fn ∧ fn ≤ 8 then some ([32, 33, 38, 39].getD (fn - 5) 39)
  else none

/-- The ZCP_FUNC_REINIT that switches a domain on. -/
def reinitOf (pd : Nat) (s : State) : Option (Nat × Nat × Bool) :=
  s.power.reinit.filter fun r => functionDomain r.1 r.2.1 == some pd

/-- A ZCP_FUNC_REINIT whose domain trips ends refused. -/
def dropReinit (pd : Nat) (s : State) : State :=
  if (reinitOf pd s).isSome then
    complete .other pd rRefused [] { s with power := { s.power with reinit := none } }
  else s

/-- R569, R571: a domain trips. -/
def domainTrip (pd : Nat) (s : State) : State :=
  if domain pd s = .off ∨ domain pd s = .tripped then s
  else
    let s1 := unitLost pd (setDomain pd .tripped (dropReinit pd s))
    let s2 := fire .domain s1
    if pd < 24 then stopFunction 2 pd (ringLost pd s2)
    else if pd < 28 then stopDie (pd - 24) s2
    else if pd < 32 then
      let engines := [2 * (pd - 28), 2 * (pd - 28) + 1].filter fun e => !(s.weir.engines.getD e ⟨false, none⟩).out
      readmit (engines.foldl (fun x e => raiseCapacity (0x48 + e) 1 none x)
        (fire .weirPair (stopFunction 4 (pd - 28) s2)))
    else if pd = 32 then readmit (stopFunction 5 0 s2)
    else if pd = 33 then stopFunction 6 0 s2
    else if pd < 38 then stopFunction 1 (pd - 34) s2
    else if pd = 38 then
      let n := s2.power.pd38Trips + 1
      stopFunction 7 0 { s2 with power := { s2.power with
        pd38Trips := n
        pd38TripAt := if n = 1 then some s2.time.now else none } }
    else stopFunction 8 0 s2

/-! ### The end of ZCP_FUNC_REINIT (R582) -/

/-- The units of a function are in service again. -/
def functionBack (fn inst : Nat) (s : State) : State :=
  let s1 := { s with fault := { s.fault with stopped := s.fault.stopped.filter (· != (fn, inst)) } }
  if fn = 3 then setDie inst { die inst s1 with stopped := false } s1
  else if fn = 4 then
    let s2 := endHold (2 * inst + 1) (endHold (2 * inst) s1)
    { s2 with weir := { s2.weir with engines := (s2.weir.engines.set (2 * inst) ⟨false, none⟩).set (2 * inst + 1) ⟨false, none⟩ } }
  else if fn = 5 then { s1 with zoom := { s1.zoom with out := false } }
  else if fn = 8 then { s1 with egress := { s1.egress with compOut := [] } }
  else s1

/-- The domain of a ZCP_FUNC_REINIT has woken: the function resumes, readmission follows a change of the
capacity record, the reply leaves (that of the host ports with their link), and a domain that no plan needs
goes off again. -/
def finishReinit (pd : Nat) (s : State) : State :=
  match reinitOf pd s with
  | none => s
  | some (fn, inst, changed) =>
    let s1 := functionBack fn inst { s with power := { s.power with reinit := none } }
    let s2 := if changed then readmit s1 else s1
    let s3 := if fn = 7 then s2 else complete .other pd rOk [] s2
    match s3.plan.running with
    | none => if pd < 34 then switchOff pd s3 else s3
    | some _ => trimDomains s3

/-! ### The places of the regions (R430, R431) -/

/-- Two ranges do not meet. -/
def apart (a b : Place) : Bool := decide (a.base + a.size ≤ b.base) || decide (b.base + b.size ≤ a.base)

/-- The least number at or above `x` that is `r` modulo `m`. -/
def alignTo (x m r : Nat) : Nat := if m = 0 then x else x + (m + r % m - x % m) % m

/-- R431: the lowest free part below RESERVE that fits. -/
def lowestFit (kind size m r top : Nat) (used : List Place) : Option Place :=
  let cands := (0 :: used.map fun u => u.base + u.size).map fun x => (⟨kind, alignTo x m r, size⟩ : Place)
  let ok := cands.filter fun c => decide (c.base + c.size ≤ top) && used.all (apart c)
  ok.foldl (fun b c => match b with
    | none => some c
    | some x => if c.base < x.base then some c else some x) none

/-- The region of a kind keeps its place at a commit (R431). -/
def keepsPlace (old new : Plan) (kind : Nat) : Bool :=
  old.regionSize kind == new.regionSize kind &&
    (if kind = 1 ∨ kind = 2 then sameLayout old new 0
     else if kind = 3 ∨ kind = 4 then sameLayout old new 1
     else if kind = 5 ∨ kind = 6 then sameLayout old new 0 && sameLayout old new 1
     else if kind = 7 then !new.freshBanks
     else true)

/-- Place one region of a plan. -/
def placeRegion (p : Plan) (s : State) (acc : List Place × List Place) (kind : Nat) : List Place × List Place :=
  let size := p.regionSize kind
  if size = 0 ∨ acc.1.any (·.kind == kind) then acc
  else
    let m := n0 s * grainBytes s
    let ns := if s.boot.variant = 2 then 4 else 8
    let r := if kind = 6 then
        (match acc.1.find? (·.kind == 5) with
        | some a => a.base + ns / 2 * grainBytes s
        | none => 0)
      else 0
    match lowestFit kind size m r ((capGiB s - 1) * 2 ^ 30) acc.2 with
    | some x => (x :: acc.1, x :: acc.2)
    | none => acc

/-- R431: the places of a new plan's regions; the old ones that it gives up stay in use until
their last use ends. -/
def placeRegions (kinds : List Nat) (p : Plan) (s : State) : State :=
  let keep := match s.plan.running with
    | some old => s.mem.places.filter fun x =>
        x.kind == 0 || !kinds.contains x.kind || keepsPlace old p x.kind
    | none => s.mem.places.filter fun x => x.kind == 0 || !kinds.contains x.kind
  let gone := s.mem.places.filter fun x => !(keep.any (·.kind == x.kind))
  let old := if s.plan.running.isSome then s.mem.oldPlaces ++ gone else s.mem.oldPlaces
  let r := kinds.foldl (placeRegion p s) (keep, keep ++ old)
  let sameStack := if gone.any (·.kind == 6) || s.plan.running.isNone then [] else s.mem.sameStack
  { s with mem := { s.mem with places := r.1, oldPlaces := old, sameStack := sameStack } }

/-- RESERVE takes the topmost GiB, unless a region in force reaches into it (R430, R450). -/
def placeReserve (s : State) : State :=
  let base := (capGiB s - 1) * 2 ^ 30
  if s.mem.reserve ∨ s.mem.marking ∨ capGiB s = 0 ∨
      (s.mem.places ++ s.mem.oldPlaces).any (fun x => decide (base < x.base + x.size)) then s
  else
    { s with mem := { s.mem with
        reserve := true
        places := s.mem.places ++ [⟨0, base, 2 ^ 30⟩] } }

/-! ### Records in one stack (R432) -/

/-- Grains of the record regions whose copies lie in one stack, by their number in the region. -/
def sharedGrains (s : State) : List Nat :=
  match place 5 s, place 6 s with
  | some a, some b =>
    let g := grainBytes s
    (List.range (ceilDiv a.size g)).filter fun i =>
      match locOf (a.base + i * g) s, locOf (b.base + i * g) s with
      | some x, some y => x.1 / 16 == y.1 / 16
      | _, _ => false
  | _, _ => []

/-- R432: records newly in one stack are counted once by their keeper. -/
def checkRecords (s : State) : State :=
  if s.mem.redirects.isEmpty ∧ n0 s = (if s.boot.variant = 2 then 64 else 128) then s
  else
    let new := (sharedGrains s).filter fun i => !s.mem.sameStack.contains i
    match place 5 s with
    | none => s
    | some a =>
      let g := grainBytes s
      let s1 := new.foldl (fun x i =>
        let keeper := match locOf (a.base + i * g) x with
          | some l => l.1 / 16
          | none => 0
        count .recordSameStack keeper (min g (a.size - i * g) / 32) x) s
      if new.isEmpty then s
      else fire .recordSameStack { s1 with mem := { s1.mem with sameStack := s.mem.sameStack ++ new } }

/-- R431: the space of a region given up is freed when its last use ends. -/
def freePlaces (s : State) : State :=
  match s.plan.running with
  | none => s
  | some run =>
    let busy := fun (area : Nat) => [0, 1].any fun r =>
      let g := region area r s
      g.begun && g.state != .drained && (match planOf g.epoch s with
        | some q => !sameLayout q run area
        | none => false)
    let dies := (List.range 4).all fun d => dieMoved d s
    let old := s.mem.oldPlaces.filter fun x =>
      if x.kind = 1 ∨ x.kind = 2 then busy 0
      else if x.kind = 3 ∨ x.kind = 4 then busy 1
      else if x.kind = 5 ∨ x.kind = 6 then busy 0 || busy 1
      else !dies
    placeReserve { s with mem := { s.mem with oldPlaces := old } }

end Sys2Proof.Machine
end

