-- ==== Sys2Proof/Machine/ZoomOps.lean ====
section
/-! DEFINITION. The zoom engine's arithmetic (R203 to R205): the oscillator, the half-band chain and its
filter state; the windows and their detectors as data. -/

namespace Sys2Proof.Machine

/-! ### Windows and detectors -/

/-- A detector after the restart. -/
def Det.fresh : Det := ⟨0, 0, false, 0, 0, false, none, []⟩

/-- A window. -/
def win (w : Nat) (s : State) : ZWin := s.zoom.wins.getD w ⟨0, 0, 0, 0, [], 0, [], none, 0, [], 0, 0, 0⟩

/-- Change a window. -/
def setWin (w : Nat) (x : ZWin) (s : State) : State :=
  { s with zoom := { s.zoom with wins := s.zoom.wins.set w x } }

/-! ### The chain (R203 to R205) -/

/-- c_j of a design (R204): those of designs 1 to 7 are the part's own (log entry 113). -/
def romCoef (design j : Nat) : Nat :=
  if design = 0 then (if j = 1 then f32.ofRatio 75 256 else f32.ofRatio (-11) 256)
  else Config.romCoef design j % 2 ^ 32

/-- c_1 to c_m of a design. -/
def romCoefs (design : Nat) : List Nat := (List.range (halfBandM design)).map fun i => romCoef design (i + 1)

/-- R203: the mixer at source sample `t`. -/
def mixSample (inc phase0 t : Nat) (x : Cx) (present : Bool) : ZVal :=
  let p := (phase0 + inc * t) % 2 ^ 32 / 65536
  let c := cosTurn p
  let s := sinTurn p
  { re := f32.add (f32.mul x.re c) (f32.mul x.im s)
    im := f32.sub (f32.mul x.im c) (f32.mul x.re s)
    clean := present }

/-- A value before the restart: +0, absent (R199). -/
def ZVal.zero : ZVal := ⟨0, 0, false⟩

/-- R205 for one component: `x d` is the input at offset `d` from the centre. -/
def halfBand (coefs : List Nat) (x : Int → Nat) : Nat :=
  let m := coefs.length
  let acc := (List.range m).foldl (fun a i =>
    let j := m - i
    f32.add a (f32.mul (coefs.getD (j - 1) 0)
      (f32.add (x (-(2 * (j : Int) - 1))) (x (2 * (j : Int) - 1))))) 0
  f32.addHalf acc (x 0)

/-- The output whose newest input stands first in `hist`. -/
def stageOut (coefs : List Nat) (hist : List ZVal) : ZVal :=
  let m := coefs.length
  let at_ := fun (d : Int) => hist.getD (2 * (m : Int) - 1 - d).toNat ZVal.zero
  { re := halfBand coefs fun d => (at_ d).re
    im := halfBand coefs fun d => (at_ d).im
    clean := (List.range (4 * m - 1)).all fun i => (hist.getD i ZVal.zero).clean }

/-- One input of a stage; an output when it is the last that the output needs. -/
def stageStep (coefs : List Nat) (acc : ZStage × List ZVal) (x : ZVal) : ZStage × List ZVal :=
  let m := coefs.length
  let hist := (x :: acc.1.hist).take (4 * m - 1)
  let i := acc.1.next
  ({ next := i + 1, hist := hist },
   if (i - (2 * (m : Int) - 1)) % 2 = 0 then acc.2 ++ [stageOut coefs hist] else acc.2)

/-- A stage fed with a run of inputs. -/
def stageFeed (coefs : List Nat) (st : ZStage) (xs : List ZVal) : ZStage × List ZVal :=
  xs.foldl (stageStep coefs) (st, [])

/-- The index of a stage's first output when its first input has index `n`. -/
def firstOut (design : Nat) (n : Int) : Int := -((2 * (halfBandM design : Int) - 1 - n) / 2)

/-- The filter state of a path as a restart at source sample `from_` leaves it: a state for each
stage. -/
def freshStages : List Nat → Int → List ZStage
  | [], _ => []
  | d :: r, n => ⟨n, []⟩ :: freshStages r (firstOut d n)

/-- The designs of a window's stages, in order. -/
def Plan.designs (p : Plan) (w : Nat) : List Nat := (List.range (p.stages w)).map fun i => p.design w (i + 1)

/-- A path's run of inputs through all stages. -/
def chainFeed : List Nat → List ZStage → List ZVal → List ZStage × List ZVal
  | d :: ds, st :: sts, xs =>
    let r := stageFeed (romCoefs d) st xs
    let q := chainFeed ds sts r.2
    (r.1 :: q.1, q.2)
  | _, _, xs => ([], xs)

/-- The index of the chain output that comes next: the last stage's next output. -/
def nextOut (designs : List Nat) (sts : List ZStage) : Int :=
  match designs.getLast?, sts.getLast? with
  | some d, some st => firstOut d st.next
  | _, _ => 0

end Sys2Proof.Machine
end

