-- ==== Sys2Proof/Machine/WeirOps.lean ====
section
/-! DEFINITION. The weir (chapter 5): beam samples, weights in force, voltage and detected outputs,
absent counts, the beam detectors, the output buffers and the beam streams (R163 to R196, R217,
R248). -/

namespace Sys2Proof.Machine

/-! ### Weights (R173, R174, R177 to R179) -/

/-- The channel group of a channel, by its place in the list before shedding (R174). -/
def Plan.chanGroup (p : Plan) (chan : Nat) : Nat :=
  (p.listed.findIdx? (· == chan)).getD 0 / max 1 (p.par0 .weirChanGroup)

/-- The index of the weight of beam `b` and path `q` of path group `g` in channel group `y` (R173). -/
def Plan.weightIndex (p : Plan) (y g b q : Nat) : Nat := (((y * p.k) + g) * p.beams + b) * 128 + q

/-- An element of a bank as a pair of binary16 patterns. -/
def Bank.weight (b : Bank) (i : Nat) : Cx :=
  let v := sGet (fun _ => 0) b.weights i
  ⟨v % 65536, v / 65536⟩

/-- The pair of banks that blocks of a plan record use (R176). -/
def banksOf (p : Plan) (s : State) : RegFile Bank 2 :=
  match s.weir.oldBanks with
  | some l => if p.commit < s.weir.owner then l else s.weir.banks
  | none => s.weir.banks

/-- Change the pair of banks that blocks of a plan record use. -/
def setBanksOf (p : Plan) (l : RegFile Bank 2) (s : State) : State :=
  if s.weir.oldBanks.isSome && decide (p.commit < s.weir.owner) then
    { s with weir := { s.weir with oldBanks := some l } }
  else { s with weir := { s.weir with banks := l } }

/-- The bank in force at sample counter `t` (R179). -/
def bankAt (l : RegFile Bank 2) (t : Nat) : Bank :=
  match l.toList.find? fun b => b.state == .armed && decide (b.boundary ≤ t) with
  | some b => b
  | none =>
    match l.toList.find? fun b => b.state == .draining && decide (t < b.boundary) with
    | some b => b
    | none => (l.toList.find? (·.state == .inForce)).getD ⟨.inForce, 0, []⟩

/-! ### Beam samples (R167 to R170) -/

/-- The samples of a sub-block as binary16 pairs. -/
def weirSamples (format : Nat) (bs : List Byte) : List Cx :=
  if format = 3 then (halfSamples bs).map fun x => ⟨x.1, x.2⟩
  else (intSamples format bs).map fun x => ⟨f16.ofInt x.1, f16.ofInt x.2⟩

/-- w × x (R167). -/
def weirTerm (w x : Cx) : Cx :=
  let c := f16.conv f32
  let wr := c w.re
  let wi := c w.im
  let xr := c x.re
  let xi := c x.im
  ⟨f32.sub (f32.mul wr xr) (f32.mul wi xi), f32.add (f32.mul wr xi) (f32.mul wi xr)⟩

/-- One level of the tree: adjacent pairs. -/
def pairUp : List Cx → List Cx
  | a :: b :: r => cxAdd f32 a b :: pairUp r
  | l => l

/-- The sum of 128 terms in seven levels (R169). -/
def treeSum (l : List Cx) : Cx :=
  (pairUp (pairUp (pairUp (pairUp (pairUp (pairUp (pairUp l))))))).headD Cx.zero

/-- One path's part in a sub-block: its weight and its samples, none when absent. -/
abbrev PathIn := Cx × Option (List Cx)

/-- The group sum at step `i` of a sub-block (R168, R169). -/
def groupSum (l : List PathIn) (i : Nat) : Cx :=
  treeSum (l.map fun w => match w.2 with
    | some xs => weirTerm w.1 (xs.getD i Cx.zero)
    | none => Cx.zero)

/-- X and Y of a beam at step `i` of a sub-block: groups in ascending order, by polarisation
(R169). -/
def beamXY (pol : Nat) (groups : List (List PathIn)) (i : Nat) : Cx × Cx :=
  ((List.range groups.length).zip groups).foldl (fun a g =>
    let v := groupSum g.2 i
    if bitAt pol g.1 then (a.1, cxAdd f32 a.2 v) else (cxAdd f32 a.1 v, a.2)) (Cx.zero, Cx.zero)

/-- What the engine reads of one sub-block for one beam: the path groups with weights. -/
def beamGroups (p : Plan) (bank : Bank) (v : Slot) (b sub : Nat) : List (List PathIn) :=
  (List.range p.k).map fun g => (List.range 128).map fun q =>
    (bank.weight (p.weightIndex (p.chanGroup v.chan) g b q),
     (sFind v.subs ((128 * g + q) * p.s + sub)).map (weirSamples (p.par0 .ingressFormat)))

/-- A weight is nonzero (R172). -/
def weightLive (w : Cx) : Bool := w.re % 32768 != 0 || w.im % 32768 != 0

/-- The absent count of a beam and sub-block (R172). -/
def absentCount (groups : List (List PathIn)) : Nat :=
  (groups.flatten.filter fun w => weightLive w.1 && w.2.isNone).length

/-! ### Voltage beams (R186, R187) -/

/-- One component scaled, rounded and clipped to ±lim; true when clipped. -/
def requantise (gain lim v : Nat) : Int × Bool :=
  let x := f32.mul v gain
  let r : Int := match f32.decode x with
    | .inf s => if s then -(lim : Int) - 1 else (lim : Int) + 1
    | _ => f32.toIntEven x
  if (lim : Int) < r then ((lim : Int), true)
  else if r < -(lim : Int) then (-(lim : Int), true)
  else (r, false)

/-- A component is ±infinity or NaN. -/
def cxNonfinite (f : Fmt) (v : Cx) : Bool := f.nonfinite v.re || f.nonfinite v.im

/-- An emitted voltage sample. -/
structure VoltOut where
  bytes : List Byte
  clipped : Bool
  marker : Bool

/-- A voltage sample in INT4 (`int8` false) or INT8 (R57, R186, R187). -/
def voltSample (int8 : Bool) (gain : Nat) (v : Cx) : VoltOut :=
  if cxNonfinite f32 v then
    { bytes := if int8 then [0x80, 0x80] else [0x88], clipped := false, marker := true }
  else
    let lim := if int8 then 127 else 7
    let a := requantise gain lim v.re
    let b := requantise gain lim v.im
    { bytes := if int8 then natBE 1 (wrapTo 8 a.1) ++ natBE 1 (wrapTo 8 b.1)
        else natBE 1 (wrapTo 4 a.1 * 16 + wrapTo 4 b.1)
      clipped := a.2 || b.2
      marker := false }

/-- The voltage samples that one pair X, Y gives: X + Y, or X then Y. -/
def voltOf (dual : Bool) (xy : Cx × Cx) : List Cx := if dual then [xy.1, xy.2] else [cxAdd f32 xy.1 xy.2]

/-! ### Detected beams (R188 to R190) -/

/-- I, or I, Q, U, V of one sample; `single` marks a plan with weir.pol_map = 0. -/
def stokes (iquv single : Bool) (xy : Cx × Cx) : List Nat :=
  let m := f32.mul
  let x := xy.1
  let y := xy.2
  let xx := f32.add (m x.re x.re) (m x.im x.im)
  let yy := f32.add (m y.re y.re) (m y.im y.im)
  let i := f32.add xx yy
  if !iquv then [i]
  else if single then [i, xx, 0, 0]
  else
    let xyr := f32.add (m x.re y.re) (m x.im y.im)
    let xyi := f32.sub (m x.im y.re) (m x.re y.im)
    let two := 0x40000000
    [i, f32.sub xx yy, m two xyr, m two xyi]

/-- R189: the averages of 2^k samples, by parameter. -/
def averages (k : Nat) (l : List (List Nat)) : List (List Nat) :=
  (runsOf (2 ^ k) (l.length + 1) 0 l).map fun r =>
    match r.2 with
    | [] => []
    | x :: _ => (List.range x.length).map fun i =>
        f32.scale (r.2.foldl (fun a y => f32.add a (y.getD i 0)) 0) (-(k : Int))

/-- R190: the pattern of a detected value as it leaves. -/
def detValue (fp16 : Bool) (v : Nat) : Nat := if fp16 then f32.conv f16 v else v

/-- A detected value that is ±infinity or NaN. -/
def detBad (fp16 : Bool) (v : Nat) : Bool := if fp16 then f16.nonfinite v else f32.nonfinite v

/-- The bytes of an average. -/
def detBytes (fp16 : Bool) (l : List Nat) : List Byte := l.flatMap (natBE (if fp16 then 2 else 4))

/-! ### One beam of one block -/

/-- A beam of a block as it is formed, with what the counters advance by. -/
structure BeamMade where
  out : BeamOut
  clips : Nat
  markers : Nat
  bads : Nat
  /-- The first sample of the block, or of its first average, that leaves as a marker or nonfinite (R196). -/
  firstBad : Option Nat
  /-- The averages of Stokes I, as emitted, in binary32, with their marks of nonfinite values. -/
  stokesI : List (Nat × Bool)

/-- The lesser of two, where there are any. -/
def leastOf : Option Nat → Option Nat → Option Nat
  | some a, some b => some (min a b)
  | some a, none => some a
  | none, b => b

/-- R167 to R190 for one beam of a block. -/
def makeBeam (p : Plan) (banks : RegFile Bank 2) (v : Slot) (b : Nat) : BeamMade :=
  let subs := List.range p.s
  let groupsOf := fun q => beamGroups p (bankAt banks (v.chunk * p.t + 128 * q)) v b q
  let all := subs.map groupsOf
  let xy := all.flatMap fun g => (List.range 128).map (beamXY (p.par0 .weirPolMap) g)
  let vf := p.par .weirVoltFormat b 0
  let volts := if vf = 0 then [] else
    (xy.flatMap (voltOf (p.par .weirVoltPol b 0 == 1))).map
      (voltSample (vf == 2) (p.par .weirVoltGain b 0))
  let mode := p.par .weirDetMode b 0
  let fp16 := p.par .weirDetFormat b 0 == 0
  let dets := if mode = 0 then [] else
    (averages (p.par .weirDetAvgLog2 b 0)
      (xy.map (stokes (mode == 2) (p.par0 .weirPolMap == 0)))).map fun l => l.map (detValue fp16)
  { out := { beam := b
             volt := volts.flatMap (·.bytes)
             voltBad := volts.any (·.marker)
             det := dets.flatMap (detBytes fp16)
             detBad := dets.map fun l => l.any (detBad fp16)
             absent := all.map absentCount }
    clips := (volts.filter (·.clipped)).length
    markers := (volts.filter (·.marker)).length
    bads := (dets.flatten.filter (detBad fp16)).length
    firstBad := leastOf
      ((volts.findIdx? (·.marker)).map (· / (if p.par .weirVoltPol b 0 = 1 then 2 else 1)))
      ((dets.findIdx? fun l => l.any (detBad fp16)).map (· * 2 ^ p.par .weirDetAvgLog2 b 0))
    stokesI := dets.map fun l =>
      let x := l.headD 0
      (if fp16 then f16.conv f32 x else x, detBad fp16 x) }

/-- The beams that engine `e` of die `d` forms (R163). -/
def engineBeams (p : Plan) (d e : Nat) (s : State) : List Nat :=
  let l := weirsOf p d s
  let b := p.beams
  let all := List.range b
  if l.length < 2 then all
  else if e = 0 then all.take (ceilDiv b 2)
  else all.drop (ceilDiv b 2)

/-! ### Detectors (R215 to R221) -/

/-- R218: the next state of a detector on an evaluated average. -/
def detNext (upper lower hyst st a : Nat) : Nat :=
  let lt := f32.lt
  let low := f32.mul lower hyst
  let high := f32.div upper hyst
  if st = 0 then (if lt upper a then 1 else if lt a lower then 2 else 0)
  else if st = 1 then (if lt a lower then 2 else if lt a high then 0 else 1)
  else (if lt upper a then 1 else if lt low a then 0 else 2)

/-- The threshold event record (R221). -/
def eventRecord (kind w index was new : Nat) (skipped : Bool) (number end_ tide value : Nat) : List Byte :=
  natBE 1 (16 + kind) ++ natBE 1 w ++ natBE 2 index ++ natBE 1 (was * 4 + new) ++
    natBE 1 (if skipped then 1 else 0) ++ natBE 2 number ++ natBE 8 end_ ++ tideBytes tide ++ natBE 4 value

/-- R223: a tide output in gate mode selects the window. -/
def gateSelects (o w : Nat) (s : State) : Bool := bitAt (par .zoomGateWindows o 0 s) w

/-- R223: a detector state is one that the output chooses. -/
def gateChosen (o st : Nat) (s : State) : Bool :=
  let g := par .zoomGateStates o 0 s
  (st == 1 && g != 1) || (st == 2 && g != 0)

/-- Key of a detector among those of its window: paths, then beams. -/
def detKey (kind index : Nat) : Nat := kind * 8192 + index

/-- A detector of a window. -/
def det (w kind index : Nat) (s : State) : Det := sGet (fun _ => Det.fresh) (win w s).dets (detKey kind index)

/-- Change a detector. -/
def setDet (w kind index : Nat) (x : Det) (s : State) : State :=
  let y := win w s
  setWin w { y with dets := sPut (fun _ => Det.fresh) y.dets (detKey kind index) x } s

/-- R223: detectors of an output's windows that are in a chosen state. -/
def gateCount (o : Nat) (s : State) : Nat :=
  sumN ((List.range 32).map fun w =>
    if gateSelects o w s then ((win w s).dets.filter fun e => gateChosen o e.2.state s).length else 0)

/-- R223: the output asserts at a tide time, at once when that has passed; a deassertion that is still
pending then is cancelled. -/
def gateAssert (o due : Nat) (s : State) : State :=
  let x := out o s
  let keep := x.gate.deassertAt.filter fun d => decide (d < due)
  if due ≤ s.time.tide then
    let s1 := if x.gate.asserted then s else count .gateLate o 1 s
    drive o (!x.lowPol) s.time.tide
      (setOut o { x with gate := { x.gate with asserted := true, deassertAt := keep } } s1)
  else setOut o { x with gate := { x.gate with assertAt := x.gate.assertAt ++ [due], deassertAt := keep } } s

/-- R223: the output deasserts at a tide time, at once when that has passed. -/
def gateDeassert (o due : Nat) (s : State) : State :=
  let x := out o s
  if due ≤ s.time.tide then
    let s1 := if x.gate.asserted then count .gateLate o 1 s else s
    drive o x.lowPol s.time.tide
      (setOut o { x with gate := { x.gate with
        asserted := false
        assertAt := x.gate.assertAt.filter fun d => decide (due < d) } } s1)
  else setOut o { x with gate := { x.gate with deassertAt := x.gate.deassertAt ++ [due] } } s

/-- The detectors of an output's windows are counted anew; when the last of them has left its chosen state
at a tide time, the output deasserts after the delay and the hold (R223). -/
def gateLeave (tide : Nat) (s : State) (o : Nat) : State :=
  let x := out o s
  if x.mode ≠ .gate then s
  else
    let n := gateCount o s
    let s1 := setOut o { x with gate := { x.gate with high := n } } s
    if x.gate.high ≠ 0 ∧ n = 0 then
      gateDeassert o (tide + nsT (par .zoomGateDelay o 0 s) + nsT (par .zoomGateHold o 0 s)) s1
    else s1

/-- R223: what a detector's change, made already, does to a tide output. -/
def gateRecord (w was new tide : Nat) (s : State) (o : Nat) : State :=
  let x := out o s
  if x.mode ≠ .gate ∨ !gateSelects o w s then s
  else
    let a := gateChosen o was s
    let b := gateChosen o new s
    if a = b then s
    else if b then
      gateAssert o (tide + nsT (par .zoomGateDelay o 0 s))
        (setOut o { x with gate := { x.gate with high := gateCount o s } } s)
    else gateLeave tide s o

/-- An EVENTS packet of the oldest records, at most 256 (R249). -/
def formEvents (s : State) : State :=
  let l := (s.zoom.records.take 256).map (·.2)
  let end_ := fun (r : List Byte) => beAt r 8 8
  if l.isEmpty ∨ !egressOn s then s
  else
    let flags := match s.plan.running with
      | some p => if p.shed = 0 then 0 else 1024
      | none => 0
    formPacket { stream := 0x7000, integration := 0, chan := 0, chans := 0, flags := flags }
      { fmt := 0x0F, flags := 0, i := 0, j := 0, first := 0, elems := l.length, start := end_ (l.headD [])
        stop := end_ (l.getLastD []) + 1, bytes := l.flatten } 0 (.records l.length) none none
      { s with zoom := { s.zoom with
          records := s.zoom.records.drop 256
          inPackets := s.zoom.inPackets + l.length } }

/-- R220 to R223: a change of state produces one record, numbered from 0 on and on through every commit
(DESIGN CHOICE, log entry 114), which drives the gates and waits in the
queue, or is lost when the queue is full. -/
def produceRecord (w kind index was new : Nat) (skipped : Bool) (end_ value : Nat) (s : State) : State :=
  let x := win w s
  let tide := scTide end_ s
  let r := eventRecord kind w index was new skipped x.eventNumber end_ tide value
  let s1 := count .thrEvents w 1 (setWin w { x with eventNumber := (x.eventNumber + 1) % 65536 } s)
  let s2 :=
    if 4096 ≤ s1.zoom.records.length + s1.zoom.inPackets then
      count .thrLost 0 1 { s1 with zoom := { s1.zoom with lost := s1.zoom.lost + 1 } }
    else
      let x1 := raiseBytes .threshold r
        { s1 with zoom := { s1.zoom with records := s1.zoom.records ++ [(s1.time.now, r)] } }
      if 256 ≤ x1.zoom.records.length then formEvents x1 else x1
  (List.range 8).foldl (gateRecord w was new tide) s2

/-- R218, R219: an average reaches a detector, to be evaluated or skipped. -/
def detAverage (p : Plan) (w kind index : Nat) (skip : Bool) (value end_ : Nat) (s : State) : State :=
  let d := det w kind index s
  if skip then
    count .thrSkipped w 1 (setDet w kind index { d with skipped := true, holdoff := d.holdoff - 1 } s)
  else if d.holdoff ≠ 0 then setDet w kind index { d with skipped := false, holdoff := d.holdoff - 1 } s
  else
    let new := detNext (p.par .zoomThrUpper w 0) (p.par .zoomThrLower w 0) (p.par .zoomThrHyst w 0) d.state value
    if new = d.state then setDet w kind index { d with skipped := false } s
    else
      produceRecord w kind index d.state new d.skipped end_ value
        (setDet w kind index { d with
          state := new
          skipped := false
          holdoff := p.par .zoomThrHoldoff w 0 } s)

/-- An average reaches its detector. -/
def evalAvg (s : State) (a : Avg) : State :=
  match planOf a.epoch s with
  | some p => detAverage p a.w a.kind a.index a.skip a.value a.last s
  | none => s

/-! ### The order of averages (R220) -/

/-- The order of R220: by end, then by window, path detectors before beam detectors, and index. -/
def Avg.before (a b : Avg) : Bool :=
  decide (a.last < b.last) || (a.last == b.last && (decide (a.w < b.w) || (a.w == b.w &&
    (decide (a.kind < b.kind) || (a.kind == b.kind && decide (a.index < b.index))))))

/-- Ordered insertion. -/
def insertAvg (x : Avg) : List Avg → List Avg
  | [] => [x]
  | y :: r => if x.before y then x :: y :: r else y :: insertAvg x r

/-- H: the half-span of a window's chain (R206). -/
def Plan.halfSpan (p : Plan) (w : Nat) : Nat :=
  sumN ((List.range (p.stages w)).map fun i => (2 * halfBandM (p.design w (i + 1)) - 1) * 2 ^ i)

/-- Outputs in an average of a window's path detectors, and source samples in one of a beam's detector. -/
def Plan.pathAvgLen (p : Plan) (w : Nat) : Nat := 2 ^ p.par .zoomThrAvgLog2 w 0
/-- Detected values in an average of a beam's detector. -/
def Plan.beamAvgLen (p : Plan) (w : Nat) : Nat := 2 ^ p.par .zoomThrBeamAvgLog2 w 0
/-- Source samples of an average of a beam's detector. -/
def Plan.beamSpan (p : Plan) (w b : Nat) : Nat := p.beamAvgLen w * 2 ^ p.par .weirDetAvgLog2 b 0

/-- The next output of a window's chain that an average takes. -/
def nextU (p : Plan) (w : Nat) (s : State) : Nat :=
  let x := win w s
  match x.filt with
  | [] => x.base
  | st :: _ => max x.base (nextOut (p.designs w) st).toNat

/-- The path detectors of a window may still end an average at the same sample as `a` and come before it in
R220, and the source block for it has closed. -/
def pathBlocks (a : Avg) (w : Nat) (s : State) : Bool :=
  match planOf (win w s).epoch s with
  | none => false
  | some p =>
    let n := 2 ^ p.stages w
    let len := p.pathAvgLen w
    p.windows.contains w && p.par .zoomThrPaths w 0 == 1 && (decide (w < a.w) || (w == a.w && a.kind == 1)) &&
      a.last % n == 0 && (a.last / n + 1) % len == 0 && decide (nextU p w s ≤ a.last / n) &&
      (sourceBlock p (p.par .zoomSourceChan w 0) ((a.last + p.halfSpan w) / p.t) s).isSome

/-- The first average of a beam's detector under a commit: the one that holds its first sample. -/
def firstBeamAvg (p : Plan) (w b : Nat) (s : State) : Nat :=
  ((commitOf p.commit s).getD p).sc / p.beamSpan w b

/-- The same for the detector of a beam: a block that holds the end of the average has closed, and no
engine has begun it. -/
def beamBlocks (a : Avg) (w b : Nat) (s : State) : Bool :=
  match planOf (win w s).epoch s with
  | none => false
  | some p =>
    let span := p.beamSpan w b
    p.windows.contains w && bitAt (p.par .zoomThrBeams w 0) b &&
      (decide (w < a.w) || (w == a.w && a.kind == 1 && decide (b < a.index))) && (a.last + 1) % span == 0 &&
      decide ((((det w 1 b s).next.getD (firstBeamAvg p w b s)) + 1) * span ≤ a.last + 1) &&
      (List.range 4).any fun d => (die d s).slots.any fun v =>
        v.state == .closed && v.chan == p.par .zoomSourceChan w 0 && v.chunk == a.last / p.t &&
          (planOf v.epoch s).any (·.commit == p.commit)

/-- Another detector comes before this average in R220. -/
def avgWaits (a : Avg) (s : State) : Bool :=
  (List.range (a.w + 1)).any fun w => pathBlocks a w s || (List.range 128).any fun b => beamBlocks a w b s

/-- The averages whose turn has come reach their detectors. -/
def releaseAvgs : List Avg → State → State
  | [], s => { s with zoom := { s.zoom with avgs := [] } }
  | a :: r, s => if avgWaits a s then { s with zoom := { s.zoom with avgs := a :: r } } else releaseAvgs r (evalAvg s a)

/-- New averages join those that wait. -/
def takeAvgs (l : List Avg) (s : State) : State := releaseAvgs (l.foldl (fun m a => insertAvg a m) s.zoom.avgs) s

/-- Every average of a window that waits reaches its detector. -/
def flushAvgs (w : Nat) (s : State) : State :=
  let l := s.zoom.avgs.filter (·.w == w)
  l.foldl evalAvg { s with zoom := { s.zoom with avgs := s.zoom.avgs.filter (·.w != w) } }

/-! ### Beam detectors (R217) -/

/-- A detected value on its way to a beam detector: the window, the beam, the value's number counted from
sample counter 0, the value, and whether it spoils its average (R217). -/
structure BeamFeed where
  w : Nat
  beam : Nat
  n : Nat
  value : Nat
  bad : Bool

/-- R217: a detected value waits for its average. -/
def feedBeam (p : Plan) (s : State) (x : BeamFeed) : State :=
  let d := det x.w 1 x.beam s
  setDet x.w 1 x.beam { d with
    next := some (d.next.getD (firstBeamAvg p x.w x.beam s))
    vals := sSet d.vals x.n (x.value, x.bad) } s

/-- The feeds that a formed beam gives to the windows that watch it. -/
def beamFeeds (p : Plan) (chan chunk : Nat) (m : BeamMade) : List BeamFeed :=
  let b := m.out.beam
  let len := 2 ^ p.par .weirDetAvgLog2 b 0
  let wins := p.windows.filter fun w =>
    p.par .zoomSourceChan w 0 == chan && bitAt (p.par .zoomThrBeams w 0) b
  wins.flatMap fun w => ((List.range m.stokesI.length).zip m.stokesI).map fun v =>
    let subs := (List.range (ceilDiv len 128)).map fun q => v.1 * len / 128 + q
    { w := w
      beam := b
      n := chunk * p.t / len + v.1
      value := v.2.1
      bad := v.2.2 || subs.any fun q => decide (p.par .zoomThrBeamAbsentMax w 0 < m.out.absent.getD q 0) }

/-- A detected value will not come: it lies before the commit, or its block is gone. -/
def valueGone (p : Plan) (w b n : Nat) (s : State) : Bool :=
  let t0 := n * 2 ^ p.par .weirDetAvgLog2 b 0
  let q := chunkPlan p (t0 / p.t) s
  decide (t0 < ((commitOf p.commit s).getD p).sc) || blockGone q (p.par .zoomSourceChan w 0) (t0 / p.t) s

/-- The averages of a beam's detector that are complete now, in order: averages of 2^b values begin at
multiples of 2^b values from sample counter 0 (DESIGN CHOICE, log entry 115); an average that lacks a value
for good is skipped. -/
def beamAvgs (p : Plan) (w b : Nat) : Nat → Det → State → List Avg × Det
  | 0, d, _ => ([], d)
  | m + 1, d, s =>
    let len := p.beamAvgLen w
    let j := d.next.getD 0
    let l := (List.range len).map fun i => (j * len + i, sFind d.vals (j * len + i))
    if !(d.vals.any fun e => decide (j * len ≤ e.1)) ∨ l.any (fun v => v.2.isNone && !valueGone p w b v.1 s) then
      ([], d)
    else
      let got := l.filterMap (·.2)
      let a : Avg :=
        { last := (j + 1) * p.beamSpan w b - 1
          w := w
          kind := 1
          index := b
          skip := got.any (·.2) || got.length != len
          value := f32.scale (got.foldl (fun x v => f32.add x v.1) 0) (-(p.par .zoomThrBeamAvgLog2 w 0 : Int))
          epoch := p.epoch }
      let r := beamAvgs p w b m { d with
        next := some (j + 1)
        vals := d.vals.filter fun e => decide ((j + 1) * len ≤ e.1) } s
      (a :: r.1, r.2)

/-- Every beam detector of a window takes what has come. -/
def concludeBeams (p : Plan) (s : State) (w : Nat) : State :=
  (List.range 128).foldl (fun x b =>
    let d := det w 1 b x
    if d.vals.isEmpty then x
    else
      let top := d.vals.foldl (fun m e => max m e.1) 0
      let r := beamAvgs p w b (top / p.beamAvgLen w + 1 - d.next.getD 0) d x
      takeAvgs r.1 (setDet w 1 b r.2 x)) s

/-- Blocks of a die have gone: beam detectors that waited for them go on. -/
def beamsGoOn (s : State) : State :=
  if domain 32 s ≠ .on ∨ s.zoom.out then s
  else (List.range 32).foldl (fun x w => match planOf (win w x).epoch x with
    | some p => concludeBeams p x w
    | none => x) (takeAvgs [] s)

/-- The detectors of a window of some kinds start anew at a sample counter: what waits reaches them, and
they are NORMAL (R199, R218); outputs in gate mode take it as their leaving (log entry 29). -/
def restartDets (w at_ : Nat) (keep : Nat → Bool) (s : State) : State :=
  let s1 := flushAvgs w s
  let x := win w s1
  (List.range 8).foldl (gateLeave (scTide at_ s1))
    (setWin w { x with dets := x.dets.filter fun e => keep e.1 } s1)

/-- R199: the beam detectors of a window start anew with the blocks of a new commit. -/
def restartBeamDets (p : Plan) (s : State) (w : Nat) : State :=
  let x := win w s
  if x.beamCommit = p.commit then s
  else restartDets w ((commitOf p.commit s).getD p).sc (fun k => decide (k < 8192)) (setWin w { x with beamCommit := p.commit } s)

/-! ### Blocks through the engines (R164, R179, R191) -/

/-- The run of a die on a slot changes. -/
def mapRun (d slot : Nat) (f : Running → Running) (s : State) : State :=
  let x := die d s
  setDie d { x with runs := x.runs.map fun r => if r.slot = slot && !r.isZoom then f r else r } s

/-- R179: the first sample at or after an armed boundary is beamformed. -/
def epochInForce (p : Plan) (r : Running) (s : State) : State :=
  let l := banksOf p s
  match (List.range 2).find? fun i =>
      let b := l.getD i ⟨.free, 0, []⟩
      b.state == .armed && decide (b.boundary < (r.chunk + 1) * p.t) with
  | none => s
  | some i =>
    let e := (l.getD i ⟨.free, 0, []⟩).boundary
    let l1 := RegFile.ofFn 2 fun j =>
      let b := l.getD j ⟨.free, 0, []⟩
      if j = i then { b with state := .inForce }
      else if b.state = .inForce then { b with state := .draining, boundary := e }
      else b
    raise .weirEpoch [i, e, tide96 (scTide (max e (r.chunk * p.t)) s)]
      (count .epochSwitches 0 1 (setBanksOf p l1 s))

/-- The counters of a formed beam (R195), and what EV_BEAM_NONFINITE will report. -/
def countBeam (p : Plan) (chunk : Nat) (s : State) (m : BeamMade) : State :=
  let b := m.out.beam
  let s1 := count .voltClip b m.clips (count .voltNonfinite b m.markers (count .detNonfinite b m.bads s))
  if m.markers = 0 ∧ m.bads = 0 then s1
  else
    let first := chunk * p.t + m.firstBad.getD 0
    let old := (sFind s1.weir.nonfin b).getD (0, 0, first)
    { s1 with weir := { s1.weir with
        nonfin := sSet s1.weir.nonfin b (old.1 + m.markers, old.2.1 + m.bads, min first old.2.2) } }

/-- Free output buffers of a die (R191). -/
def freeBeamBufs (p : Plan) (d : Nat) (s : State) : Nat :=
  p.par0 .weirBeamBufBlocks - (s.weir.bufs.filter (·.die == d)).length -
    (s.weir.blocks.filter (·.die == d)).length

/-- The beams of a block in the making. -/
def beamBlock (d : Nat) (r : Running) (s : State) : Option BeamBlock :=
  s.weir.blocks.find? fun b => b.die == d && b.chan == r.chan && b.chunk == r.chunk && b.epoch == r.epoch

/-- An engine begins a block: its own reads find errors in the culvert (R165), the epoch comes into force, the
beams are formed from what the slot
holds now, the detectors take their values. -/
def engineBegin (d e : Nat) (r : Running) (p : Plan) (s : State) : State :=
  let s1 := endHold (2 * d + e) { s with weir := { s.weir with begun := max s.weir.begun ((r.chunk + 1) * p.t) } }
  let found := r.reads.getD e ⟨[], 0⟩
  let s2 := epochInForce p r (culvertErrors d r.slot found.bad found.corrected s1)
  let v := (die d s2).slot r.slot
  let made := (engineBeams p d e s2).map (makeBeam p (banksOf p s2) v)
  let s3 := made.foldl (countBeam p r.chunk) s2
  let s4 := mapRun d r.slot (fun y => { y with
    weirWait := y.weirWait.filter (· != e)
    weirBusy := y.weirBusy ++ [e] }) s3
  let blk := (beamBlock d r s4).getD
    { die := d, slot := r.slot, epoch := r.epoch, chan := r.chan, chunk := r.chunk, outs := [], busy := r.weirWait }
  let outs := if e = 0 then made.map (·.out) ++ blk.outs else blk.outs ++ made.map (·.out)
  let rest := s4.weir.blocks.filter fun b =>
    !(b.die == d && b.chan == r.chan && b.chunk == r.chunk && b.epoch == r.epoch)
  let s5 := { s4 with weir := { s4.weir with blocks := rest ++ [{ blk with outs := outs }] } }
  if domain 32 s5 ≠ .on ∨ s5.zoom.out then s5
  else
    let wins := p.windows.filter fun w => p.par .zoomSourceChan w 0 == r.chan
    let s6 := wins.foldl (restartBeamDets p) s5
    wins.foldl (concludeBeams p) ((made.flatMap (beamFeeds p r.chan r.chunk)).foldl (feedBeam p) s6)

/-- R191: an engine that has a block to begin begins it when it is idle and the block has an output
buffer, else it holds. -/
def engineTry (d e : Nat) (s : State) : State :=
  let x := die d s
  if x.runs.any (fun r => r.weirBusy.contains e) then s
  else match x.runs.find? fun r => r.weirWait.contains e with
    | none => s
    | some r =>
      match planOf r.epoch s with
      | none => s
      | some p =>
        if (beamBlock d r s).isSome ∨ 0 < freeBeamBufs p d s then engineBegin d e r p s
        else
          let y := s.weir.engines.getD (2 * d + e) ⟨false, none⟩
          { s with weir := { s.weir with
              engines := s.weir.engines.set (2 * d + e)
                { y with holdSince := some (y.holdSince.getD s.time.now) } } }

/-! ### The beam streams (R231 to R234, R248) -/

/-- Flags of a stream of a plan: SHED (R234). -/
def Plan.streamFlags (p : Plan) : Nat := if p.shed = 0 then 0 else 1024

/-- OVERFLOW and NONFINITE of a payload that holds a nonfinite value, INCOMPLETE of absent data. -/
def beamFlags (bad absent : Bool) : Nat := (if bad then 3 else 0) + (if absent then 8 else 0)

/-- FORMAT of a voltage beam (R232). -/
def voltFormat (p : Plan) (b : Nat) : Nat := p.par .weirVoltFormat b 0 * 2 + 2 + p.par .weirVoltPol b 0

/-- Bytes per sample of a voltage FORMAT. -/
def voltSize (fmt : Nat) : Nat := [1, 2, 2, 4].getD (fmt - 4) 1

/-- The unit of one voltage beam of a block. -/
def voltUnit (p : Plan) (k : BeamBlock) (buf : Nat) (o : BeamOut) : EUnit :=
  let fmt := voltFormat p o.beam
  let size := voltSize fmt
  let mark : Byte := if fmt < 6 then 0x88 else 0x80
  let t0 := k.chunk * p.t
  let absent := o.absent.any (· != 0)
  let pieces := (runsOf (8192 / size * size) (o.volt.length + 1) 0 o.volt).map fun r =>
    ({ fmt := fmt, flags := beamFlags (r.2.contains mark) absent, i := o.beam, j := 0, first := 0,
       elems := r.2.length / size, start := t0 + r.1 / size, stop := t0 + (r.1 + r.2.length) / size,
       bytes := r.2 } : Piece)
  { head := { stream := 0x4000 + o.beam, integration := 0, chan := k.chan, chans := 1,
              flags := p.streamFlags }
    whole := wholePiece fmt o.beam 0 0 p.t t0 (t0 + p.t)
    pieces := pieces
    last := true
    owner := .beam buf
    eoi := none }

/-- FORMAT of a detected beam (R232). -/
def detFormat (p : Plan) (b : Nat) : Nat := 8 + (p.par .weirDetMode b 0 - 1) * 2 + p.par .weirDetFormat b 0

/-- Bytes of one average of a detected FORMAT. -/
def detAvgSize (fmt : Nat) : Nat := [2, 4, 8, 16].getD (fmt - 8) 2

/-- Neighbours of equal key stand together. -/
def runsBy {α : Type} (key : α → Nat) : List α → List (List α)
  | [] => []
  | a :: r =>
    match runsBy key r with
    | (b :: g) :: rest => if key a = key b then (a :: b :: g) :: rest else [a] :: (b :: g) :: rest
    | l => [a] :: l

/-- The packets of a run of detected beams of one FORMAT and section size. -/
def detPieces (p : Plan) (k : BeamBlock) (l : List BeamOut) : List Piece :=
  match l with
  | [] => []
  | o :: _ =>
    let fmt := detFormat p o.beam
    let size := o.det.length
    let avg := detAvgSize fmt
    let len := 2 ^ p.par .weirDetAvgLog2 o.beam 0
    let t0 := k.chunk * p.t
    if size ≤ 8192 then
      (runsOf (8192 / max 1 size) (l.length + 1) 0 l).map fun r =>
        ({ fmt := fmt, flags := beamFlags (r.2.any (·.detBad.any id)) (r.2.any (·.absent.any (· != 0)))
           i := (r.2.map (·.beam)).headD 0, j := 0, first := 0, elems := r.2.length, start := t0, stop := t0 + p.t,
           bytes := r.2.flatMap (·.det) } : Piece)
    else
      l.flatMap fun x =>
        (runsOf (8192 / avg) (x.detBad.length + 1) 0 x.detBad).map fun r =>
          ({ fmt := fmt, flags := beamFlags (r.2.any id) (x.absent.any (· != 0)), i := x.beam, j := 0, first := 0,
             elems := 1, start := t0 + r.1 * len, stop := t0 + (r.1 + r.2.length) * len,
             bytes := slice x.det (r.1 * avg) (r.2.length * avg) } : Piece)

/-- The units of the detected beams of a block: one for each run of equal FORMAT. -/
def detUnits (p : Plan) (k : BeamBlock) (buf : Nat) : List EUnit :=
  let outs := k.outs.filter fun o => p.par .weirDetMode o.beam 0 != 0
  let t0 := k.chunk * p.t
  let units := (runsBy (fun (o : BeamOut) => detFormat p o.beam) outs).map fun run =>
    let pieces := (runsBy (fun (o : BeamOut) => o.det.length) run).flatMap (detPieces p k)
    let b0 := (run.map (·.beam)).headD 0
    ({ head := { stream := 0x5000, integration := 0, chan := k.chan, chans := 1, flags := p.streamFlags }
       whole := wholePiece (detFormat p b0) b0 0 0 run.length t0 (t0 + p.t)
       pieces := pieces, last := false, owner := .beam buf, eoi := none } : EUnit)
  match units.getLast? with
  | none => []
  | some u => units.dropLast ++ [{ u with last := true }]

/-- The unit of the absent counts of a block; none when all are zero. -/
def absentUnits (p : Plan) (k : BeamBlock) (buf : Nat) : List EUnit :=
  if k.outs.all fun o => o.absent.all (· == 0) then []
  else
    let t0 := k.chunk * p.t
    let pieces := (runsOf (8192 / max 1 (2 * p.s)) (k.outs.length + 1) 0 k.outs).map fun r =>
      ({ fmt := 0x0E, flags := beamFlags false (r.2.any (·.absent.any (· != 0)))
         i := (r.2.map (·.beam)).headD 0, j := 0, first := 0, elems := r.2.length, start := t0, stop := t0 + p.t,
         bytes := r.2.flatMap fun o => o.absent.flatMap (natBE 2) } : Piece)
    [{ head := { stream := 0x6000, integration := 0, chan := k.chan, chans := 1, flags := p.streamFlags }
       whole := wholePiece 0x0E 0 0 0 k.outs.length t0 (t0 + p.t)
       pieces := pieces, last := true, owner := .beam buf, eoi := none }]

/-- Every unit of a block's beams. -/
def beamUnits (p : Plan) (k : BeamBlock) (buf : Nat) : List EUnit :=
  let volts := (k.outs.filter fun o => !o.volt.isEmpty).map (voltUnit p k buf)
  (volts ++ detUnits p k buf ++ absentUnits p k buf).filter fun u => !u.pieces.isEmpty

/-- A finished block's beams go to the packetiser while PD39 is on (R191, R241). -/
def packetiseBlock (s : State) (k : BeamBlock) : State :=
  match planOf k.epoch s with
  | none => s
  | some p =>
    if !k.busy.isEmpty ∨ !egressOn s then s
    else
      let buf := s.weir.nextBuf
      let units := beamUnits p k buf
      let bufs := if units.isEmpty then s.weir.bufs else s.weir.bufs ++ [⟨buf, k.die, units.length⟩]
      let s1 := { s with weir := { s.weir with
        blocks := s.weir.blocks.filter fun b =>
          !(b.die == k.die && b.chan == k.chan && b.chunk == k.chunk && b.epoch == k.epoch)
        bufs := bufs
        nextBuf := buf + 1 } }
      units.foldl (fun x u => unitReady u x) s1

/-- Finished blocks leave for the packetiser, and engines that hold for want of a buffer go on. -/
def weirPump (s : State) : State :=
  let s1 := s.weir.blocks.foldl packetiseBlock s
  (List.range 8).foldl (fun x i => engineTry (i / 2) (i % 2) x) s1

end Sys2Proof.Machine
end

