-- ==== Sys2Proof/Machine/Array.lean ====
section
/-! DEFINITION. The polder array at work (chapter 3): block starts, accumulator swaps, the
collector's takes, lane-row tests, spares and changes of polders. -/

namespace Sys2Proof.Machine

/-! ### Starting a block (R114, R71, R74, R163) -/

/-- The polders of a die, 42d to 42d + 41. -/
def diePolders (d : Nat) : List Nat := (List.range 42).map (42 * d + ·)

/-- The die is at a block boundary: its polders compute no tile (R108). -/
def atBoundary (d : Nat) (s : State) : Bool := (diePolders d).all fun n => (polder n s).jobs.isEmpty

/-- A polder holds no tile at a block boundary of its die: what changes it may take effect (R108, R122). -/
def changeable (n : Nat) (s : State) : Bool := atBoundary (n / 42) s && (polder n s).shadow.isNone

/-- Nothing waits for a block boundary of the die (R108, R111, R122). -/
def boundaryClear (d : Nat) (s : State) : Bool :=
  (diePolders d).all fun n =>
    let x := polder n s
    x.change.isNone && !(x.retireDue && !x.gone) && !(x.testForced && x.testPending)

/-- Every ring has issued the last sample step of the block before. -/
def ringsIdle (d : Nat) (s : State) : Bool :=
  (diePolders d).all fun n =>
    let x := polder n s
    decide (x.jobs.length ≤ 1) && x.held.isNone

/-- A slot's block has begun. -/
def Die.begun (x : Die) (i : Nat) : Bool := x.runs.any (·.slot == i)

/-- The slot of the main block that is next in block order, if it is CLOSED. -/
def headSlot (d : Nat) (s : State) : Option Nat :=
  let x := die d s
  let cand := (List.range x.slots.length).filter fun i =>
    let v := x.slot i
    (v.state == .open || (v.state == .closed && !v.skip)) && !x.begun i
  match cand.foldl (fun (b : Option Nat) i => match b with
      | none => some i
      | some j => if (x.slot i).block < (x.slot j).block then some i else some j) none with
  | none => none
  | some i => if (x.slot i).state = .closed then some i else none

/-- The slot of a zoom block that has not begun (R74). -/
def zoomSlot (d : Nat) (s : State) : Option Nat :=
  let x := die d s
  (List.range x.slots.length).find? fun i => (x.slot i).state == .zoom && !x.begun i

/-- The block that the die starts next: a zoom block before any main block that closed after it
arrived (R74). -/
def nextSlot (d : Nat) (s : State) : Option Nat :=
  match zoomSlot d s, headSlot d s with
  | some z, some h =>
    let x := die d s
    if (x.slot h).closedAt ≤ (x.slot z).closedAt then some h else some z
  | some z, none => some z
  | none, h => h

/-- The tiles of a block with their polders and periods (R113, R117). -/
def blockTiles (p : Plan) (d : Nat) (isZoom : Bool) (s : State) : List Placed :=
  let wide := !isZoom && p.par0 .ingressFormat == 1
  schedule p.k (dieSlots wide (ringsInUse p d s) s)

/-- R114, R128: the rings and the weir engines of a die start a block. -/
def startBlock (p : Plan) (d i : Nat) (reads : List CulvertIn) (s : State) : State :=
  let x := die d s
  let v := x.slot i
  let isZoom := v.state == .zoom
  let tiles := blockTiles p d isZoom s
  let weirs := if isZoom then [] else weirsOf p d s
  let run : Running :=
    { slot := i
      isZoom := isZoom
      epoch := v.epoch
      block := v.block
      chan := v.chan
      chunk := v.chunk
      left := tiles.length
      weirWait := weirs
      weirBusy := []
      reads := reads }
  let s1 := setDie d { x with
    runs := x.runs ++ [run]
    ringPtr := (ringsInUse p d s).headD (6 * d) } s
  let s2 := tiles.foldl (fun y t =>
    let q := polder t.polder y
    setPolder t.polder { q with jobs := q.jobs ++
      [⟨t.a, t.b, t.period, i, if isZoom then 1 else 0, v.epoch, v.chan, v.chunk⟩] } y) s1
  let s3 := if !isZoom ∧ p.beams ≠ 0 ∧ weirs.isEmpty then count .dieBeamBlocksLost d 1 s2 else s2
  weirPump s3

/-- BLOCK_START (R114). `weir0` and `weir1` are what the reads of the two weir engines will find, each when
it begins the block (R165, R85). -/
def execBlockStart (t : Nat) (d : Fin 4) (weir0 weir1 : CulvertIn) (s : State) :
    Host.Outcome State Fault Refusal :=
  act t (fun x =>
    if (die d x).stopped ∨ domain (24 + d) x ≠ .on ∨ !ringsIdle d x ∨ !boundaryClear d x then x
    else match nextSlot d x with
      | none => x
      | some i =>
        match planOf ((die d x).slot i).epoch x with
        | none => x
        | some p =>
          let tiles := blockTiles p d (((die d x).slot i).state == .zoom) x
          if tiles.isEmpty ∨ tiles.any (fun w => !(polder w.polder x).powered) then x
          else startBlock p d i [weir0, weir1] x) s

/-! ### The swap (R99, R100) -/

/-- COLLECTOR_HOLD_CYCLES runs while a shadow set is ready and staging has no room (R129). -/
def collectorHold (d : Nat) (s : State) : State :=
  let x := die d s
  let ready := (diePolders d).any fun n => (polder n s).shadow.isSome
  let stuck := ready && decide (192 ≤ x.staging.length)
  match x.hold with
  | none => if stuck then setDie d { x with hold := some s.time.now } s else s
  | some t0 =>
    if stuck then s
    else count .collectorHoldCycles d (cycles 1600 (s.time.now - t0)) (setDie d { x with hold := none } s)

/-- Lanes of failing physical rows: physical row × 128 + column, and the sums that they come out with. A
lane of a row that serves as no logical row changes nothing (R106). -/
def faultyLanes (retired : List Nat) (faults : List (Nat × Int × Int)) (lanes : List Lane) : List Lane :=
  faults.foldl (fun l f => match logicalRow retired (f.1 / 128) with
    | some r => l.set (r * 128 + f.1 % 128) ⟨(0, 0), f.2⟩
    | none => l) lanes

/-- The input format of a tile's samples: zoom blocks are 8+8 (R212). -/
def jobFormat (p : Plan) (j : TileJob) : Nat := if j.area = 1 then 2 else p.par0 .ingressFormat

/-- Sub-blocks of a path in a chunk of an area. -/
def Plan.areaSubs (p : Plan) (area : Nat) : Nat := if area = 0 then p.s else p.tz / 128

/-- Where a tile stands in the work of its ring: after those of earlier blocks and of earlier periods. -/
def jobPlace (d : Nat) (j : TileJob) (s : State) : Nat :=
  (die d s).runs.findIdx (·.slot == j.slot) * 65536 + j.period

/-- R31: the stager steps all polders of a ring together, so no polder ends a tile while another one of the
ring still has a tile of an earlier period, held or not. -/
def ringTurn (n : Nat) (j : TileJob) (s : State) : Bool :=
  (List.range 7).all fun i =>
    match (polder (n / 7 * 7 + i) s).jobs with
    | [] => true
    | k :: _ => decide (jobPlace (n / 42) j s ≤ jobPlace (n / 42) k s)

/-- The last products and the final sub-sums of a tile are added into the active pairs (R98, R99). -/
def fillActive (n : Nat) (j : TileJob) (p : Plan) (faults : List (Nat × Int × Int)) (s : State) : State :=
  let x := polder n s
  let out := tileLanes ((die (n / 42) s).slot j.slot) (jobFormat p j) (p.areaSubs j.area) j
  let lanes := faultyLanes x.rows faults out.1
  setPolder n { x with
    subSums := (lanes.zipIdx.filter fun l => l.1.sub != (0, 0)).map fun l => (l.2, l.1.sub)
    active := some ⟨j, jobFormat p j == 3, lanes.map (·.acc), out.2⟩ } s

/-- R99: active and shadow exchange, and the released pair becomes active, cleared to zero. The cycles of
a hold that ends are counted polder by polder (DESIGN CHOICE, log entry 104). -/
def exchange (n : Nat) (s : State) : State :=
  let x := polder n s
  match x.active with
  | none => s
  | some h =>
    let stall := match x.held with
      | some t0 => cycles (polderMHz n s) (s.time.now - t0)
      | none => 0
    count .swapStallCycles (n / 7) stall (setPolder n { x with
      jobs := x.jobs.drop 1
      held := none
      active := none
      shadow := some h } s)

/-- R100: the shadow set is not released: the pipeline holds with the marker in place. -/
def holdSwap (n : Nat) (s : State) : State :=
  let x := polder n s
  setPolder n { x with held := some s.time.now } s

/-- R99, R100: the marker reaches the accumulate stage of a polder. -/
def swap (n : Nat) (bad : List Nat) (corrected : Nat) (faults : List (Nat × Int × Int)) (s : State) : State :=
  let d := n / 42
  let x := polder n s
  match x.jobs with
  | [] => s
  | j :: _ =>
    match planOf j.epoch s with
    | none => s
    | some p =>
      if x.active.isSome || !ringTurn n j s then s
      else
        let s1 := fillActive n j p faults (culvertErrors d j.slot bad corrected s)
        collectorHold d (if x.shadow.isSome then holdSwap n s1 else exchange n s1)

/-- ACCUMULATOR_SWAP (R99). `bad` and `corrected` are what the stager's reads of the tile find,
`faults` the lanes of physical rows that fail. -/
def execAccumulatorSwap (t : Nat) (n : Fin 168) (bad : List Nat) (corrected : Nat)
    (faults : List (Nat × Int × Int)) (s : State) : Host.Outcome State Fault Refusal :=
  act t (onlyIf (fun x => (polder n x).powered) (swap n bad corrected faults)) s

/-! ### The collector takes a shadow set (R101, R109, R110, R128, R129) -/

/-- A lane-row test becomes pending (R110, R111). -/
def testDue (n : Nat) (s : State) : State :=
  let x := polder n s
  if x.testPending then s else setPolder n { x with testPending := true, testSince := s.time.now } s

/-- R109, R110: the mirror check of a diagonal tile. EV_LANE_MIRROR will name the first mismatch of its
interval (DESIGN CHOICE, log entry 104). -/
def mirrorCheck (n : Nat) (h : Shadow) (s : State) : State :=
  if h.job.a ≠ h.job.b then s
  else match mirrorFaults h.fp h.sums with
    | [] => s
    | (r, c) :: rest =>
      let x := polder n s
      testDue n (fire .laneMirror (count .mirrorMismatch n (rest.length + 1)
        (setPolder n { x with
          mirrorCount := x.mirrorCount + rest.length + 1
          mirrorAt := if x.mirrorCount = 0 then (r, c, h.job.chunk) else x.mirrorAt } s)))

/-- Polders of a ring with a shadow set ready, ascending. -/
def readySets (ring : Nat) (s : State) : List Nat :=
  ((List.range 7).map (7 * ring + ·)).filter fun n => (polder n s).shadow.isSome

/-- R128: the ring whose shadow sets the collector takes next. -/
def takeRing (d : Nat) (s : State) : Option Nat :=
  let p := (die d s).ringPtr - 6 * d
  (((List.range 6).map fun i => 6 * d + (p + i) % 6)).find? fun r => !(readySets r s).isEmpty

/-- R100, R101, R118, R129: one shadow set is taken; a swap that was held for it takes place. -/
def takeSet (d n : Nat) (h : Shadow) (s : State) : State :=
  let g := convert h
  let flags := (g.flags.map fun w => (if w.1 then 1 else 0) + (if w.2 then 1 else 0)).foldl (· + ·) 0
  let s1 := exchange n (setPolder n { polder n s with shadow := none } s)
  let x := die d s1
  let s2 := setDie d { x with
    staging := x.staging ++ [g]
    ringPtr := n / 7 } s1
  mirrorCheck n h (count .guardFlags d flags (count .tilesDone d 1 s2))

/-- SHADOW_SET_TAKE (R128). A staged chunk takes one shadow set's room, 128 KiB, whatever its tile and its
totals format, so that 192 of them fill the 24 MiB of staging (DESIGN CHOICE, log entry 105). -/
def execShadowSetTake (t : Nat) (d : Fin 4) (s : State) : Host.Outcome State Fault Refusal :=
  act t (fun x =>
    if 192 ≤ (die d x).staging.length then collectorHold d x
    else match takeRing d x with
      | none => x
      | some r =>
        match readySets r x with
        | [] => x
        | n :: _ =>
          match (polder n x).shadow with
          | none => x
          | some h => collectorHold d (takeSet d n h x)) s

/-! ### Lane-row tests (R111, R112) -/

/-- The polder's state at the next block boundary. -/
def nextState (n : Nat) (s : State) : PolderChange :=
  let x := polder n s
  x.change.getD ⟨x.role, x.clockStep, x.rows⟩

/-- The physical rows that fail a test (R125). -/
def failedRows (fails : List Nat) : List Nat := (fails.filter fun r => decide (r < 132)).eraseDups

/-- Physical rows that fail and are neither retired nor about to be, ascending. -/
def newFailures (n : Nat) (fails : List Nat) (s : State) : List Nat :=
  sortAsc ((failedRows fails).filter fun r => !(nextState n s).rows.contains r)

/-- EV_SPARE_ROW and FS_LANE_ROW for rows that are retired (R112, R126). -/
def reportRows (n : Nat) : List Nat → Nat → State → State
  | [], _, s => s
  | r :: rest, used, s =>
    reportRows n rest (used + 1) (fire .laneRow (raise .spareRow [n, r, 3 - used] s))

/-- A lane-row test ends: failing rows are retired, or the polder when it would need a fifth. The new
map waits for the block boundary (R108). -/
def rowTest (n : Nat) (fails : List Nat) (s : State) : State :=
  let new := newFailures n fails s
  let x := { polder n s with testPending := false, testForced := false }
  let s1 := count .rowTestFail n (failedRows fails).length s
  if new.isEmpty then setPolder n x s1
  else
    let base := nextState n s
    if 4 < base.rows.length + new.length then setPolder n { x with retireDue := true } s1
    else
      reportRows n new base.rows.length
        (setPolder n { x with change := some { base with rows := sortAsc (new ++ base.rows) } } s1)

/-- LANE_ROW_TEST (R111): the physical rows that fail come with the command. -/
def execLaneRowTest (t : Nat) (n : Fin 168) (fails : List Nat) (s : State) :
    Host.Outcome State Fault Refusal :=
  act t (onlyIf (fun x => (polder n x).testPending && (polder n x).powered && (polder n x).jobs.isEmpty)
    (rowTest n fails)) s

/-- LANE_ROW_TEST_TIMEOUT (R111). -/
def execLaneRowTestTimeout (t : Nat) (n : Fin 168) (s : State) : Host.Outcome State Fault Refusal :=
  act t (fun x =>
    let p := polder n x
    if p.testPending ∧ p.testSince + secT 1 ≤ x.time.now then setPolder n { p with testForced := true } x
    else x) s

/-! ### Retirement and spares (R122 to R124, R546, R547) -/

/-- The ring's spare, while it is still a spare and not on its way. -/
def ringSpare (ring : Nat) (s : State) : Option Nat :=
  ((List.range 7).map (7 * ring + ·)).find? fun n =>
    (polder n s).role == 1 && !(polder n s).waking && !(polder n s).gone

/-- Polders of the ring that replace others and have not passed their test yet. -/
def ringWaking (ring : Nat) (s : State) : Nat :=
  (((List.range 7).map (7 * ring + ·)).filter fun n => (polder n s).waking).length

/-- R546: the ring has no spare left: it runs with five polders, or is retired. -/
def ringShort (ring : Nat) (s : State) : State :=
  if (ringPolders ring s).length + ringWaking ring s < 5 then retireRing ring s
  else capacityChanged (0x50 + ring) 1 (some ring) (fire .ringFive s)

/-- A change of a ring's pace causes readmission (R308, R544). -/
def paceReadmit (ring pace : Nat) (s : State) : State := if ringPace ring s = pace then s else readmit s

/-- R122: the polder's retirement takes effect. -/
def retirePolder (n : Nat) (s : State) : State :=
  let ring := n / 7
  let x := polder n s
  let s1 := fire .polderRetired (setPolder n { x with
    gone := true
    powered := false
    jobs := []
    subSums := []
    active := none
    held := none
    change := none
    testPending := false
    testForced := false } s)
  match ringSpare ring s1 with
  | some k => paceReadmit ring (ringPace ring s)
      (setPolder k { polder k s1 with waking := true, testSince := s1.time.now } s1)
  | none => ringShort ring (setPolder n { polder n s1 with role := 2 } s1)

/-- POLDER_RETIRE (R122), at a block boundary of the die. -/
def execPolderRetire (t : Nat) (n : Fin 168) (s : State) : Host.Outcome State Fault Refusal :=
  act t (onlyIf (fun x => (polder n x).retireDue && !(polder n x).gone && changeable n x)
    (retirePolder n)) s

/-- R122: the retired polders of a ring whose ROLE still shows active. -/
def ringRetiring (ring : Nat) (s : State) : List Nat :=
  ((List.range 7).map (7 * ring + ·)).filter fun n => (polder n s).gone && (polder n s).role == 0

/-- R122, R546: the woken spare has run its lane-row test. -/
def spareTested (n : Nat) (fails : List Nat) (s : State) : State :=
  let ring := n / 7
  let new := newFailures n fails s
  let x := polder n s
  let c := nextState n s
  let s1 := count .rowTestFail n (failedRows fails).length s
  let old := (ringRetiring ring s1).headD n
  let s2 := if old = n then s1 else setPolder old { polder old s1 with role := 2 } s1
  if 4 < c.rows.length + new.length then
    ringShort ring (fire .polderRetired (setPolder n { x with
      role := 2
      gone := true
      waking := false } s2))
  else
    let s3 := reportRows n new c.rows.length (setPolder n { x with
      role := 0
      powered := true
      waking := false
      change := none
      clockStep := c.clockStep
      rows := sortAsc (new ++ c.rows) } s2)
    paceReadmit ring (ringPace ring s) (raise .polderSpared ([ring, old] ++ ringPolders ring s3) s3)

/-- SPARE_POLDER_ACTIVE (R122): its ROLE and rows change at a block boundary of the die (R108). -/
def execSparePolderActive (t : Nat) (n : Fin 168) (fails : List Nat) (s : State) :
    Host.Outcome State Fault Refusal :=
  act t (onlyIf (fun x => (polder n x).waking && domain (n / 7) x == .on && atBoundary (n / 42) x &&
      decide ((polder n x).testSince + usT 200 ≤ x.time.now))
    (spareTested n fails)) s

/-- R108, R544: a polder's new state takes effect; a change of ring pace causes readmission. -/
def applyChange (n : Nat) (s : State) : State :=
  let x := polder n s
  match x.change with
  | none => s
  | some c =>
    paceReadmit (n / 7) (ringPace (n / 7) s)
      (setPolder n { x with change := none, role := c.role, clockStep := c.clockStep, rows := c.rows } s)

/-- POLDER_CHANGE_APPLY (R108), at a block boundary of the die. -/
def execPolderChangeApply (t : Nat) (n : Fin 168) (s : State) : Host.Outcome State Fault Refusal :=
  act t (onlyIf (changeable n) (applyChange n)) s

end Sys2Proof.Machine
end

