-- ==== Sys2Proof/Machine/Compress.lean ====
section
/-! DEFINITION. The compressed format (chapter 8): mantissa trim, planes, the compressor and the
decoder (R259 to R265). -/

namespace Sys2Proof.Machine

/-! ### Trim (R259) -/

/-- R259 on one binary32 value. -/
def trimValue (t v : Nat) : Nat :=
  let m := v % 2 ^ 31
  if t = 0 ∨ f32.nonfinite v then v
  else
    let q := m / 2 ^ t
    let r := m % 2 ^ t
    let half := 2 ^ (t - 1)
    let q1 := if half < r ∨ (r = half ∧ q % 2 = 1) then q + 1 else q
    let m2 := q1 * 2 ^ t
    v / 2 ^ 31 * 2 ^ 31 + (if 0x7F800000 ≤ m2 then m - r else m2)

/-- Trim of every 4-byte group, in the byte order of its FORMAT. -/
def trimBytes (big : Bool) (t : Nat) : List Byte → List Byte
  | a :: b :: c :: d :: r =>
    let w := [a, b, c, d]
    (if big then natBE 4 (trimValue t (beNat w)) else natLE 4 (trimValue t (leNat w))) ++ trimBytes big t r
  | l => l

/-- The trim that applies to a FORMAT (R259). -/
def trimOf (fmt t : Nat) : Nat := if fmt = 0x01 ∨ fmt = 0x09 ∨ fmt = 0x0B then t else 0

/-! ### Planes (R260) -/

/-- Every fourth byte from `i` on. -/
def planeOf (i : Nat) (l : List Byte) : List Byte :=
  (List.range (l.length / 4)).map fun w => l.getD (4 * w + i) 0

/-- The planes of a block in MODE 2. -/
def planes (l : List Byte) : List (List Byte) :=
  (List.range 4).map (fun i => planeOf i l) ++
    (if l.length % 4 = 0 then [] else [l.drop (l.length / 4 * 4)])

/-- A block from its decoded plane sequence. -/
def unplanes (l : List Byte) : List Byte :=
  let w := l.length / 4
  (List.range w).flatMap (fun i => (List.range 4).map fun k => l.getD (k * w + i) 0) ++ l.drop (4 * w)

/-! ### The compressor (R263, R265) -/

/-- What the compressor's loop carries: the hash table, and the items written, newest first. -/
structure CompAcc where
  head : Sparse Nat
  items : List (List Byte)

/-- Four bytes from a position on, as a big-endian number. -/
def be32At (s : Array Byte) (i : Nat) : Nat :=
  beNat [s.getD i 0, s.getD (i + 1) 0, s.getD (i + 2) 0, s.getD (i + 3) 0]

/-- Literal runs of 127 bytes, then the remainder. -/
def literals (l : List Byte) : List (List Byte) :=
  (runsOf 127 (l.length + 1) 0 l).map fun r => natBE 1 r.2.length ++ r.2

/-- The bytes [lo, hi). -/
def between (s : Array Byte) (lo hi : Nat) : List Byte := (List.range (hi - lo)).map fun i => s.getD (lo + i) 0

/-- A match token (R263). -/
def matchToken (len dist : Nat) : List Byte :=
  if len ≤ 130 then natBE 1 (0x80 + len - 4) ++ natBE 2 (dist - 1)
  else [0xFF] ++ natBE 1 (len - 131) ++ natBE 2 (dist - 1)

/-- How far a match that begins with 4 bytes goes. -/
def matchLen (s : Array Byte) (cand pos end_ : Nat) : Nat → Nat → Nat
  | 0, len => len
  | n + 1, len =>
    if len < 258 ∧ pos + len < end_ ∧ s.getD (cand + len) 0 = s.getD (pos + len) 0 then
      matchLen s cand pos end_ n (len + 1)
    else len

/-- R265 within one plane: from `pos`, with literals waiting since `lit`. -/
def planeLoop (s : Array Byte) (end_ : Nat) : Nat → Nat → Nat → CompAcc → CompAcc
  | 0, _, lit, acc => { acc with items := (literals (between s lit end_)).reverse ++ acc.items }
  | n + 1, pos, lit, acc =>
    if end_ ≤ pos then { acc with items := (literals (between s lit end_)).reverse ++ acc.items }
    else
      let h := be32At s pos * 0x9E3779B1 % 2 ^ 32 / 2 ^ 20
      let hashed := decide (pos + 4 ≤ end_)
      let cand := if hashed then sFind acc.head h else none
      let acc1 := if hashed then { acc with head := sSet acc.head h pos } else acc
      match cand with
      | some c =>
        if be32At s c = be32At s pos then
          let len := matchLen s c pos end_ 254 4
          planeLoop s end_ n (pos + len) (pos + len) { acc1 with
            items := matchToken len (pos - c) :: (literals (between s lit pos)).reverse ++ acc1.items }
        else planeLoop s end_ n (pos + 1) lit acc1
      | none => planeLoop s end_ n (pos + 1) lit acc1

/-- The items of a block's tokens, the end marker last. -/
def tokens (pl : List (List Byte)) : List (List Byte) :=
  let s := pl.flatten.toArray
  let r := pl.foldl (fun (a : Nat × CompAcc) p =>
    let end_ := a.1 + p.length
    (end_, planeLoop s end_ (p.length + 1) a.1 a.1 a.2)) (0, ⟨[], []⟩)
  r.2.items.reverse ++ [[0]]

/-- DCHECK (R261). -/
def dcheck (l : List Byte) : Nat := inetCheck l

/-- A block header (R261). -/
def blockHeader (mode : Nat) (last : Bool) (trim raw coded check : Nat) : List Byte :=
  natBE 1 (16 + mode) ++ natBE 1 ((if last then 128 else 0) + trim) ++ natBE 2 (raw - 1) ++
    natBE 2 (coded - 1) ++ natBE 2 check

/-- One block after trim, as items: header, then tokens or stored bytes; whether it is stored. -/
def codeBlock (trim : Nat) (last : Bool) (l : List Byte) : List (List Byte) × Bool :=
  let tk := tokens (planes l)
  let n := (tk.map (·.length)).foldl (· + ·) 0
  if l.length < n then (blockHeader 0 last trim l.length l.length (dcheck l) :: l.map (fun b => [b]), true)
  else (blockHeader 2 last trim l.length n (dcheck l) :: tk, false)

/-- A unit compressed (R258, R262): its items in order, and the number of stored blocks. -/
def compressUnit (fmt trim : Nat) (payload : List Byte) : List (List Byte) × Nat :=
  let t := trimOf fmt trim
  let l := if t = 0 then payload else trimBytes (fmt != 0x01) t payload
  let blocks := (runsOf 65536 (l.length + 1) 0 l).map (·.2)
  let r := ((List.range blocks.length).zip blocks).map fun b => codeBlock t (b.1 + 1 == blocks.length) b.2
  (r.flatMap (·.1), (r.filter (·.2)).length)

/-! ### The decoder (R263, R264) -/

/-- The decoded plane sequence grows by a match, byte by byte (R263). -/
def copyMatch : Nat → Nat → Array Byte → Array Byte
  | 0, _, out => out
  | n + 1, dist, out => copyMatch n dist (out.push (out.getD (out.size - dist) 0))

/-- The tokens of a block: `ends` are the plane ends still ahead. What they decode to, up to the break if
they break R264, and whether they do not. -/
def decodeTokens : Nat → List Nat → List Byte → Array Byte → Array Byte × Bool
  | 0, _, _, out => (out, false)
  | n + 1, ends, bs, out =>
    match ends with
    | [] => (out, bs == [0])
    | e :: rest =>
      if out.size = e then decodeTokens n rest bs out
      else match bs with
        | [] => (out, false)
        | b :: r =>
          let v := b.toNat
          if v = 0 then (out, false)
          else if v < 0x80 then
            if out.size + v ≤ e ∧ v ≤ r.length then decodeTokens n ends (r.drop v) (out ++ (r.take v).toArray)
            else (out, false)
          else
            let long := v == 0xFF
            let r1 := if long then r.drop 1 else r
            let x := (r.headD 0).toNat
            let len := if long then 131 + x else v - 0x80 + 4
            let dist := beAt r1 0 2 + 1
            if (long && (r.isEmpty || decide (0x80 ≤ x))) ∨ r1.length < 2 ∨ e < out.size + len ∨ out.size < dist then
              (out, false)
            else decodeTokens n ends (r1.drop 2) (copyMatch len dist out)

/-- The plane ends of a block of `l` bytes. -/
def planeEnds (mode l : Nat) : List Nat :=
  if mode = 1 then [l]
  else
    let w := l / 4
    [w, 2 * w, 3 * w, 4 * w] ++ (if l % 4 = 0 then [] else [l])

/-- How many bytes at the start of a block are whole once `n` of its decoded sequence are there: in MODE 2 the
words whose four planes have them. -/
def producedOf (mode raw n : Nat) : Nat :=
  let w := raw / 4
  if mode = 2 then (if n ≤ 4 * w then 4 * (n - 3 * w) else n) else n

/-- The decoded bytes of a block as they stand in the output. -/
def blockBytes (mode : Nat) (l : List Byte) : List Byte := if mode = 2 then unplanes l else l

/-- One block of a coded string: its decoded bytes, LAST, whether DCHECK holds, and the rest; or why
it cannot be decoded, and how many bytes it has produced by then. -/
inductive BlockEnd where
  | ok (bytes : List Byte) (last good : Bool) (rest : List Byte)
  | short (bytes : List Byte)
  | bad (bytes : List Byte)

/-- R261 to R264. -/
def decodeBlock (bs : List Byte) : BlockEnd :=
  if bs.length < 8 then .short []
  else
    let mode := beAt bs 0 1 % 16
    let raw := beAt bs 2 2 + 1
    let coded := beAt bs 4 2 + 1
    let body := slice bs 8 coded
    if beAt bs 0 1 / 16 ≠ 1 ∨ 2 < mode ∨ (mode = 0 ∧ coded ≠ raw) then .bad []
    else
      let dec := if mode = 0 then (body, decide (body.length = raw))
        else
          let a := decodeTokens (2 * (raw + coded) + 8) (planeEnds mode raw) body #[]
          (a.1.toList, a.2)
      let padded := dec.1 ++ List.replicate (raw - dec.1.length) 0
      let made := (blockBytes mode padded).take (producedOf mode raw dec.1.length)
      if body.length < coded then .short made
      else if dec.2 then .ok made (decide (128 ≤ beAt bs 1 1)) (dcheck made == beAt bs 6 2) (bs.drop (8 + coded))
      else .bad made

/-- How a decompression job ends (R274): the bytes that it writes, and RESULT. -/
def decodeJob (limit : Nat) : Nat → List Byte → List Byte → List Byte × Nat
  | 0, _, done => (done, 0x06)
  | n + 1, bs, done =>
    match decodeBlock bs with
    | .short l =>
      if limit < done.length + l.length then ((done ++ l).take limit, 0x04)
      else (done, if done.length < limit then 0x05 else 0x06)
    | .bad l => if limit < done.length + l.length then ((done ++ l).take limit, 0x04) else (done, 0x06)
    | .ok l last good rest =>
      if limit < done.length + l.length then ((done ++ l).take limit, 0x04)
      else if !good then (done ++ l, 0x07)
      else if last then
        if !rest.isEmpty then (done ++ l, 0x06)
        else (done ++ l, if (done ++ l).length = limit then 0x00 else 0x05)
      else decodeJob limit n rest (done ++ l)

end Sys2Proof.Machine
end

