-- ==== Sys2Proof/Machine/Commit.lean ====
section
/-! DEFINITION. Plan commands, commits and sheds (chapter 9). -/

namespace Sys2Proof.Machine

/-! ### Boundaries (R300 to R302) -/

/-- The integrations of an area that a plan has in progress at sample `sc`: one for each channel
(the zoom windows differ in chunk duration). -/
def integsAt (p : Plan) (area sc : Nat) : List Nat :=
  ((p.areaChannels area).map fun c => integOf p area (sc / p.chunkSpan area c)).eraseDups

/-- R301 on an area whose layout changes. -/
def parityOk (old new : Plan) (area sc : Nat) : Bool :=
  (integsAt old area (sc - 1)).all fun a => (integsAt new area sc).all fun b =>
    a % 2 != b % 2 && b % 2 ^ 32 != (a + 2 ^ 32 - 1) % 2 ^ 32

/-- R300, R301 but for the lead: `sc` may be the commit boundary of `new`. -/
def boundaryOk (new : Plan) (sc : Nat) (s : State) : Bool :=
  sc % new.t == 0 &&
    match s.plan.running with
    | none => true
    | some old => sc % old.t == 0 && [0, 1].all fun area =>
        sameLayout old new area || parityOk old new area sc

/-- R300: `sc` lies at least plan.commit_lead ahead. -/
def leadOk (sc : Nat) (s : State) : Bool :=
  decide (s.time.tide + nsT (par0 .planCommitLead s) ≤ scTide sc s)

/-- R302: NEXT_INTEGRATION. -/
def nextIntegration (new : Plan) (s : State) : Option Nat :=
  match s.plan.running with
  | none => none
  | some old =>
    let first := boundaryAfter old (nsT (par0 .planCommitLead s)) s
    ((List.range 64).map fun i => first + i * (old.intLen 0 * old.t)).find? fun sc => boundaryOk new sc s

/-! ### Transition (R176, R303) -/

/-- R176: a commit of this plan gives it a fresh pair of banks. -/
def needsFresh (new : Plan) (s : State) : Bool :=
  match s.plan.running with
  | none => true
  | some old => old.n != new.n || old.beams != new.beams || old.par0 .weirChanGroup != new.par0 .weirChanGroup ||
      old.par0 .weirPolMap != new.par0 .weirPolMap || old.listed != new.listed

/-- Bytes of one region of an area: totals, and records with berm. -/
def Plan.oneRegion (p : Plan) (area : Nat) : Nat × Nat :=
  let c := (p.areaChannels area).length
  if c = 0 then (0, 0)
  else (c * imageBytes p.k p.elemBytes, c * tilesOf p.k * 64 + p.par0 .ingressBermEntries * 65536)

/-- The transition term (R303). -/
def transition (s : State) (new : Plan) : Nat :=
  match s.plan.running with
  | none => 0
  | some old =>
    let area := fun (a : Nat) =>
      if sameLayout old new a then 0
      else
        let (t0, r0) := old.oneRegion a
        let (t1, r1) := new.oneRegion a
        if new.par0 .planTransition = 0 then (t0 + r0) - (t1 + r1) else r0 - r1
    area 0 + area 1 + (if needsFresh new s then old.regionSize 7 else 0)

/-! ### Commands -/

/-- COMMIT_PENDING. -/
def rCommitPending : Nat := 0x22
/-- BAD_BOUNDARY. -/
def rBadBoundary : Nat := 0x20
/-- COMMIT_LATE. -/
def rCommitLate : Nat := 0x21
/-- CANCEL_LATE. -/
def rCancelLate : Nat := 0x23

/-- The PLAN_ID after the last one given (R282). -/
def nextPlanId (s : State) : Nat := (s.plan.lastId + 1) % 2 ^ 32

/-- ZCP_PLAN_CHECK (R283). -/
def planCheck (_c : Ctx) (s : State) : Res :=
  answer rOk (admitPlan (stagedPlan s) 0 (fun _ => 0) false s).report s

/-- ZCP_PLAN_COMMIT (R283, R300 to R307). `at_` is the sample counter named, none for
NEXT_INTEGRATION. -/
def planCommit (at_ : Option Nat) (_c : Ctx) (s : State) : Res :=
  if s.plan.next.isSome then refuse rCommitPending s
  else
    let a := admitPlan (stagedPlan s) (nextPlanId s) (transition s) false s
    match a.plan with
    | none => answer rRefused a.report s
    | some p =>
      let chosen := match at_ with
        | some sc => some sc
        | none => nextIntegration p s
      match chosen with
      | none => refuse rBadBoundary s
      | some sc =>
        if !boundaryOk p sc s then refuse rBadBoundary s
        else if !leadOk sc s then refuse rCommitLate s
        else
          let e := s.plan.lastEpoch + 1
          let p1 := { p with
            id := nextPlanId s
            epoch := e
            commit := e
            sc := sc
            freshBanks := needsFresh p s }
          let more := if at_.isSome then [] else Config.replyBody 0x0203 [sc]
          answer rOk (a.report ++ more)
            { s with plan := { s.plan with next := some p1, pointPassed := false, lastEpoch := e } }

/-- ZCP_PLAN_CANCEL (R306, R307). -/
def planCancel (_c : Ctx) (s : State) : Res :=
  match s.plan.next with
  | none => refuse rNotFound s
  | some p =>
    if s.plan.pointPassed ∨ scTide p.sc s ≤ s.time.tide + msT 20 then refuse rCancelLate s
    else answer rOk [] { s with plan := { s.plan with next := none } }

/-- ZCP_CAPACITY_RECORD (R284): the variant, the channels in service with their pin rates, the
active polders and pace of every ring, the engines in service. -/
def capacityRecord (_c : Ctx) (s : State) : Res :=
  let chans := (channelsUp s).flatMap fun c => [c, pinRate (stack (c / 16) s).bin]
  let rings := (List.range 24).flatMap fun r =>
    if ringGone r s || (die (r / 6) s).stopped then [0, 0] else [(ringPolders r s).length, ringPace r s]
  let engines := (List.range 8).map fun e => if engineServes (e / 2) (e % 2) s then 1 else 0
  answer rOk (Config.replyBody 0x0205 ([s.boot.variant, (channelsUp s).length] ++ chans ++ rings ++ engines ++
    [if s.zoom.out || domain 32 s == .tripped then 0 else 1])) s

/-- ZCP_PLAN_CHECK. -/
def execZcpPlanCheck (t : Nat) (d : Dgram) (s : State) : Host.Outcome State Fault Refusal :=
  zcp 0x0202 (sized 0 planCheck) t d s

/-- ZCP_PLAN_COMMIT. -/
def execZcpPlanCommit (t : Nat) (d : Dgram) (boundary : Option Nat) (s : State) :
    Host.Outcome State Fault Refusal :=
  zcp 0x0203 (laid (planCommit boundary)) t d s

/-- ZCP_PLAN_CANCEL. -/
def execZcpPlanCancel (t : Nat) (d : Dgram) (s : State) : Host.Outcome State Fault Refusal :=
  zcp 0x0204 (sized 0 planCancel) t d s

/-- ZCP_CAPACITY_RECORD. -/
def execZcpCapacityRecord (t : Nat) (d : Dgram) (s : State) : Host.Outcome State Fault Refusal :=
  zcp 0x0205 (sized 0 capacityRecord) t d s

/-! ### The commit point (R176, R306, R313, R354) -/

/-- The new plan's banks at its commit point (R176). -/
def commitBanks (p : Plan) (s : State) : State :=
  if !p.freshBanks then { s with weir := { s.weir with owner := if s.plan.running.isNone then p.commit else s.weir.owner } }
  else
    let old := if s.plan.running.isSome then some s.weir.banks else none
    let s1 := { s with weir := { s.weir with
      banks := freshPair
      owner := p.commit
      oldBanks := old
      steer := []
      ref := 0
      lastEpoch := 0 } }
    raise .weightsCleared [p.id] (placeRegions [7] p s1)

/-- R313, R344, R346: the owners of the cores under the new plan; a core whose owner changes stops
first. -/
def commitOwners (p : Plan) (s : State) : State :=
  (List.range 64).foldl (fun x n =>
    let c := core n x
    let host := p.par .sluiceOwner n 0 == 1
    if c.host = host then setCore n { c with newHost := none } x
    else if c.state = .off then setCore n { c with host := host } x
    else askStop n (setCore n { c with newHost := some host } x)) s

/-- A pair of sluice.stats_list: channel in [31:16], path in [15:0] (log entry 23). -/
def Plan.statPair (p : Plan) (i : Nat) : Nat × Nat :=
  let v := p.par .sluiceStatsList 0 i
  (v / 65536, v % 65536)

/-- R354: the STOCK core for one more pair of a channel: one that taps the channel and has fewer
than 16 pairs, else the lowest that taps none. -/
def statCore (stock : List Nat) (l : List StatPair) (chan : Nat) : Option Nat :=
  let own := fun (c : Nat) => l.filter fun x => x.core == some c
  match stock.find? fun c => !(own c).isEmpty && decide ((own c).length < 16) && (own c).all (·.chan == chan) with
  | some c => some c
  | none => stock.find? fun c => (own c).isEmpty

/-- R354, R355: pairs are assigned in list order, to no core left TRAPPED (R359), and their windows start anew;
records that HOST cores are owed stay owed (R351). -/
def commitStats (p : Plan) (s : State) : State :=
  let stock := (List.range 64).filter fun n => p.par .sluiceOwner n 0 == 0 && !(core n s).left
  let l := (List.range (p.par0 .sluiceStatsCount)).foldl (fun (l : List StatPair) i =>
    let (chan, path) := p.statPair i
    l ++ [{ chan, path, core := statCore stock l chan, count := 0, s1 := 0, s2 := 0, power := 0, sk := 0,
            window := 0, flag := false, zero := false, changed := false }]) []
  let lost := (l.filter fun x => x.core.isNone).length
  count .statsUnassigned 0 lost
    { s with sluice := { s.sluice with stats := l, taps := s.sluice.taps.filter fun x => (core x.core s).host } }

/-- COMMIT_POINT (R306). -/
def execCommitPoint (t : Nat) (s : State) : Host.Outcome State Fault Refusal :=
  act t (fun x =>
    match x.plan.next with
    | none => x
    | some p =>
      if x.plan.pointPassed ∨ x.time.tide + msT 20 < scTide p.sc x then x
      else
        let x1 := { x with plan := { x.plan with
          next := some { p with known := x.time.tide }
          pointPassed := true
          lastId := p.id } }
        let x2 := commitBanks p x1
        let x3 := (p.needs x2).foldl (fun y pd => switchOn pd y) x2
        commitStats p (commitOwners p x3)) s

/-! ### The commit boundary (R303, R305) -/

/-- R303: a region that DISCARD gives up. -/
def discardRegion (old : Plan) (area sc : Nat) (s : State) : State :=
  (integsAt old area (sc - 1)).foldl (fun x n =>
    let g := region area (n % 2) x
    let here : Bool := g.begun && g.integration == n && g.state == .filling
    if here ∨ !g.begun ∨ g.integration < n then
      let lost := old.drainable area
      let g1 := if here then { g with
        state := .drained
        begun := false } else g
      let x1 := setRegion area (n % 2) { g1 with given := some (old.epoch, n) } (if here then dropDrain area (n % 2) x else x)
      raise .drainOverrun [n % 2, n, lost] (count .drainLostTiles 0 lost x1)
    else x) s

/-- R48: a change of a port's mode takes down its links. -/
def modeChanges (old : Option Plan) (p : Plan) (s : State) : State :=
  (List.range 32).foldl (fun x n =>
    let was := match old with
      | some q => q.par .ingressPortMode n 0
      | none => par .ingressPortMode n 0 s
    if was = p.par .ingressPortMode n 0 then x else ingressDown ((List.range 4).map (4 * n + ·)) x) s

/-- A plan has a logical port in service: ingress.ports names it, and its mode provides it (R46, R286). -/
def Plan.servesPort (p : Plan) (port : Nat) : Bool :=
  bitAt (p.par0 .ingressPorts) port && decide (port % 4 < modePorts (p.par .ingressPortMode (port / 4) 0))

/-- R87: the waits for the links of the ports that the commit puts in service; one that was in service
already goes on as it was. -/
def linkWaits (old : Option Plan) (p : Plan) (s : State) : State :=
  (List.range 128).foldl (fun x port =>
    if p.servesPort port ∧ !(old.any (·.servesPort port)) then
      let l := (sFind x.ingressLinks port).getD ⟨false, 0, false, false⟩
      let l1 := if l.up then { l with beenUp := true, reported := false }
        else { l with downSince := x.time.now, beenUp := false, reported := false }
      { x with ingressLinks := sSet x.ingressLinks port l1 }
    else x) s

/-- The COMMIT values of a plan come into force (R512). -/
def takeForce (p : Plan) (s : State) : State :=
  let rest := s.force.filter fun e => (keyItem e.1).desc.apply != 2
  setPar .planId 0 0 p.id
    { s with
      force := p.cfg.foldl (fun m e => sPut keyReset m e.1 e.2) rest
      canal := { s.canal with journal := s.canal.journal.filter fun e => (keyItem e.1).desc.apply != 2 } }

/-- Plan records that nothing refers to any more; marks follow their boundaries by 1 s at most (R384, R387). -/
def pruneOld (s : State) : State :=
  let marked : Bool := s.time.outs.toList.any (fun o => o.mode == .mark) &&
    (s.plan.running.any fun p => decide (s.time.tide ≤ scTide p.sc s + secT 1))
  let used := fun (p : Plan) =>
    (List.range 4).any (fun d => !(die d s).stopped && decide ((die d s).epoch ≤ p.epoch) ||
      (die d s).runs.any (fun r => r.epoch == p.epoch) ||
      (die d s).slots.any (fun v => v.state != .free && v.epoch == p.epoch) ||
      (die d s).ledgerDue.any (fun l => l.epoch == p.epoch)) ||
    s.data.regions.toList.any (fun g => g.begun && g.epoch == p.epoch) ||
    s.egress.drains.any (fun d => d.epoch == p.epoch) ||
    s.data.ct.any (fun a => a.epoch == p.epoch) || s.data.ctOpen.1 == p.epoch ||
    s.zoom.sources.any (fun z => z.epoch == p.epoch) || s.zoom.wins.toList.any (fun w => w.epoch == p.epoch) ||
    s.weir.blocks.any (fun b => b.epoch == p.epoch) || marked
  { s with plan := { s.plan with old := s.plan.old.filter used } }

/-- R223, R383: a tide output enters or leaves gate mode with a plan. An output that stays in gate mode goes
on; windows that its mask no longer names leave at s_c, the others as they restart (log entry 29). -/
def commitGate (p : Plan) (s : State) (n : Nat) : State :=
  let o := out n s
  let on := p.par .zoomGateWindows n 0 != 0
  if on ∧ o.mode = .gate then gateLeave (scTide p.sc s) s n
  else if on ∨ o.mode = .gate then
    drive n o.lowPol s.time.tide (setOut n { o with
      mode := if on then .gate else .off
      prog := none
      pulse := none
      gate := ⟨false, [], [], if on then gateCount n s else 0⟩ } s)
  else s

/-- R184: the plan has automatic epochs. -/
def Plan.autoOn (p : Plan) : Bool := p.par0 .weirAutoEpoch != 0 && p.par0 .weirWeightSource == 1

/-- R184: automatic epochs that a plan turns on begin with the boundaries still to come. -/
def restartEpochs (old : Option Plan) (p : Plan) (s : State) : State :=
  if p.autoOn ∧ !(old.any (·.autoOn)) ∧ !p.freshBanks then { s with weir := { s.weir with lastEpoch := 0 } } else s

/-- COMMIT_BOUNDARY (R300 to R305): s_c is reached. -/
def execCommitBoundary (t : Nat) (s : State) : Host.Outcome State Fault Refusal :=
  act t (fun x =>
    match x.plan.next with
    | none => x
    | some p =>
      if !x.plan.pointPassed ∨ x.time.tide < scTide p.sc x then x
      else
        let old := x.plan.running
        let x1 := match old with
          | some o =>
            if p.par0 .planTransition = 1 then
              [0, 1].foldl (fun y a => if sameLayout o p a then y else discardRegion o a p.sc y) x
            else x
          | none => x
        let kinds := if p.freshBanks then [1, 2, 3, 4, 5, 6, 8, 9, 10, 11] else [1, 2, 3, 4, 5, 6, 7, 8, 9, 10, 11]
        let x2 := linkWaits old p (modeChanges old p (checkRecords (placeRegions kinds p x1)))
        let x3 := { x2 with
          plan := { x2.plan with
            running := some p
            next := none
            pointPassed := false
            shedDue := none
            old := old.toList ++ x2.plan.old }
          data := { x2.data with sources := [] }
          time := { x2.time with lagMin := [], lagMax := [] }
          egress := { x2.egress with atCommit := x2.egress.written } }
        let x4 := (List.range 8).foldl (commitGate p) (takeForce p (restartEpochs old p x3))
        freeIdleChains (freePlaces (trimDomains (bbWrite 5 0 0 (natLE 4 p.id) x4)))) s

/-- SHED_TAKE_EFFECT (R308): each new region lies in the space of the region it replaces. -/
def execShedTakeEffect (t : Nat) (s : State) : Host.Outcome State Fault Refusal :=
  act t (fun x =>
    match x.plan.shedDue with
    | none => x
    | some p =>
      if x.time.tide < scTide p.sc x then x
      else
        placeReserve { x with
          plan := { x.plan with
            running := some p
            shedDue := none
            old := x.plan.running.toList ++ x.plan.old }
          mem := { x.mem with places := x.mem.places.map fun r =>
            if r.kind = 0 then r else { r with size := min r.size (p.regionSize r.kind) } } }) s

end Sys2Proof.Machine
end

