-- ==== Sys2Proof/Machine/DrainForm.lean ====
section
/-! DEFINITION. The units that the drain engine forms from tiles: elements, tile records and
deficits, with averaging and conversion (R233, R234, R241 to R246). -/

namespace Sys2Proof.Machine

/-- The output format of elements (R244): FORMAT, and bytes per element. -/
def Plan.outFormat (p : Plan) : Nat × Nat :=
  match p.par0 .egressVisFormat with
  | 0 => if p.par0 .corrTotalsFormat = 0 then (1, 8) else (2, 16)
  | 1 => (1, 8)
  | _ => (3, 4)

/-- One component in the output format, and whether a finite value became infinite (R244). -/
def Plan.convertOut (p : Plan) (v : Nat) : Nat × Bool :=
  let f := p.totalsFmt
  match p.par0 .egressVisFormat with
  | 0 => (v, false)
  | 1 =>
    if f = f32 then (v, false)
    else
      let r := f64.conv f32 v
      (r, f32.nonfinite r && !f64.nonfinite v)
  | _ =>
    let r := f.conv f16 (f.scale v (signed 32 (p.par0 .egressVisScaleLog2)))
    (r, f16.nonfinite r && !f.nonfinite v)

/-- The element of a channel group (R243): the sum in list order, then one division. -/
def groupElem (f : Fmt) (l : List Cx) : Cx :=
  match l with
  | [] => Cx.zero
  | [x] => x
  | x :: r =>
    let v := r.foldl (cxAdd f) x
    let n := f.ofInt l.length
    ⟨f.div v.re n, f.div v.im n⟩

/-- The bytes of an element as it leaves, and how many of its components overflowed. -/
def Plan.elemOut (p : Plan) (c : Cx) : List Byte × Nat :=
  let n := p.outFormat.2 / 2
  let a := p.convertOut c.re
  let b := p.convertOut c.im
  (natLE n a.1 ++ natLE n b.1, (if a.2 then 1 else 0) + (if b.2 then 1 else 0))

/-- OVERFLOW, NONFINITE, INVALID, INCOMPLETE and WRITTEN of a tile (R234). -/
def Tile.flags (x : Tile) : Nat :=
  (if x.overflow then 1 else 0) + (if x.nonfinite then 2 else 0) + (if x.invalid then 4 else 0) +
    (if x.dropped != 0 || x.berm.isSome then 8 else 0) + (if x.written then 16 else 0)

/-- PARTIAL: the plan covers only part of the integration of a channel (R136, R234). -/
def partialFlag (p : Plan) (area chan n : Nat) (s : State) : Nat :=
  let (lo, hi) := covered p area chan n s
  if lo = n * p.intLen area ∧ hi = (n + 1) * p.intLen area then 0 else 32

/-- Start and end sample counters of an integration of a channel (R233). -/
def integSpan (p : Plan) (area chan n : Nat) : Nat × Nat :=
  let len := p.intLen area * p.chunkSpan area chan
  (n * len, (n + 1) * len)

/-- What is read: the stream, the region, the integration, the end that its headers carry instead
of the integration's, and whether every tile and element is taken (zoom). -/
structure ReadOf where
  stream : Nat
  area : Nat
  region : Nat
  integ : Nat
  stop : Option Nat
  extra : Nat

/-- A tile of a channel in what is read. -/
def ReadOf.tileOf (r : ReadOf) (chan t : Nat) (s : State) : Tile := Machine.tile (tileKey r.area r.region chan t) s

/-- The tile does not hold the integration named: its READ returns STALE (R150). -/
def ReadOf.stale (r : ReadOf) (chan t : Nat) (s : State) : Bool :=
  let x := r.tileOf chan t s
  !x.touched || x.integration != r.integ % 2 ^ 32

/-- The header of a unit. -/
def ReadOf.head (r : ReadOf) (p : Plan) (chans : List Nat) (flags : Nat) (s : State) : Head :=
  let c := chans.headD 0
  let part := chans.foldl (fun a x => a ||| partialFlag p r.area x r.integ s) 0
  { stream := r.stream
    integration := r.integ % 2 ^ 32
    chan := c
    chans := chans.length
    flags := p.streamFlags ||| flags ||| part ||| r.extra }

/-- Start and end sample counters of a unit. -/
def ReadOf.span (r : ReadOf) (p : Plan) (chan : Nat) : Nat × Nat :=
  let x := integSpan p r.area chan r.integ
  (x.1, r.stop.getD x.2)

/-- Every tile and element is taken: the zoom streams (R242). -/
def ReadOf.all (r : ReadOf) : Bool := r.area == 1

/-- The element unit of a tile of a channel group, with the conversions that overflowed (R241 to
R244). -/
def elemUnit (p : Plan) (r : ReadOf) (chans : List Nat) (t : Nat) (owner : Owner) (s : State) : EUnit × Nat :=
  let (i, j) := tileAt p.k t
  let tiles := chans.map fun c => r.tileOf c t s
  let sel := selected p r.all t
  let outs := sel.map fun e => p.elemOut (groupElem p.totalsFmt (tiles.map fun x => x.elem e))
  let ovf := (outs.map (·.2)).foldl (· + ·) 0
  let flags := tiles.foldl (fun a x => a ||| x.flags) (if ovf = 0 then 0 else 2)
  let (fmt, size) := p.outFormat
  let sp := r.span p (chans.headD 0)
  ({ head := r.head p chans flags s
     whole := wholePiece fmt i j 0 sel.length sp.1 sp.2
     pieces := cutElems fmt size i j 0 sp.1 sp.2 (outs.map (·.1))
     last := true
     owner := owner
     eoi := none }, ovf)

/-- Runs of tile numbers without the lost ones. -/
def keptRuns (lost : Nat → Bool) (l : List Nat) : List (List Nat) :=
  l.foldr (fun t acc =>
    if lost t then [] :: acc
    else match acc with
      | [] => [[t]]
      | g :: rest => (t :: g) :: rest) []

/-- The packets of a run of consecutive tile records, 256 to a packet. -/
def recordPieces (p : Plan) (r : ReadOf) (chan : Nat) (s : State) (run : List Nat) : List Piece :=
  let sp := r.span p chan
  (runsOf 256 (run.length + 1) 0 run).map fun g =>
    let f := g.2.headD 0
    ({ fmt := 0x0C
       flags := g.2.foldl (fun a t => a ||| (r.tileOf chan t s).flags) 0
       i := (tileAt p.k f).1
       j := (tileAt p.k f).2
       first := f
       elems := g.2.length
       start := sp.1
       stop := sp.2
       bytes := g.2.flatMap fun t => (r.tileOf chan t s).records } : Piece)

/-- The unit of a channel's tile records; a packet ends before a lost tile's record, and the next
begins after it (R241). -/
def recordUnit (p : Plan) (r : ReadOf) (chan : Nat) (isLost : Nat → Bool) (owner : Owner) (s : State) : EUnit :=
  let tiles := List.range (tilesOf p.k)
  let sp := r.span p chan
  let kept := tiles.filter fun t => !isLost t
  let f0 := kept.headD 0
  { head := r.head p [chan] 0 s
    whole := wholePiece 0x0C (tileAt p.k f0).1 (tileAt p.k f0).2 f0 kept.length sp.1 sp.2
    pieces := (keptRuns isLost tiles).flatMap (recordPieces p r chan s)
    last := true
    owner := owner
    eoi := none }

/-- The deficits unit of a tile; none when it has no berm entry (R241). -/
def deficitUnit (p : Plan) (r : ReadOf) (chan t : Nat) (owner : Owner) (s : State) : Option EUnit :=
  let x := r.tileOf chan t s
  x.berm.map fun b =>
    let (i, j) := tileAt p.k t
    let sel := selected p r.all t
    let sp := r.span p chan
    { head := r.head p [chan] x.flags s
      whole := wholePiece 0x0D i j 0 sel.length sp.1 sp.2
      pieces := cutElems 0x0D 4 i j 0 sp.1 sp.2 (sel.map fun e => natLE 4 (sGet (fun _ => 0) b.deficits e))
      last := true
      owner := owner
      eoi := none }

end Sys2Proof.Machine
end

