-- ==== Sys2Proof/Machine/Keeper.lean ====
section
/-! DEFINITION. The collectors and tile keepers at work (chapter 4): promotions, ledger-only
operations, seals, the drain's reads, snapshots and the release of slots. -/

namespace Sys2Proof.Machine

/-! ### Snapshots (R156, R157) -/

/-- Bytes that the copy of a channel image takes in the snapshot buffer (R157). -/
def snapBytes (p : Plan) (region chan : Nat) (s : State) : Nat :=
  let n := tilesOf p.k
  let entries := ((List.range n).filter fun t => (tile (tileKey 0 region chan t) s).berm.isSome).length
  imageBytes p.k p.elemBytes + 32 * n + 65536 * entries

/-- The boundary that the snapshot's next channel can be copied at now: the chunk accounted for in
every tile, with room in the buffer (R156, R157). -/
def snapReady (s : State) : Option (Plan × Nat × Nat) :=
  match s.data.snapshot, s.plan.running with
  | some x, some p =>
    match x.channels with
    | [] => none
    | c :: _ =>
      let a := account p 0 c s
      if !(p.channels.contains c) ∨ a.tiles ≠ 0 ∨ a.next ≤ p.firstChunk 0 c ∨ !egressOn s then none
      else
        let k := a.next - 1
        if x.used + snapBytes p (integOf p 0 k % 2) c s ≤ p.par0 .corrSnapBytes then some (p, c, k) else none
  | _, _ => none

/-- R156, step 3: the channel's next chunk is held until the copy is made. -/
def snapHolds (area chan : Nat) (s : State) : Bool :=
  area == 0 && (match snapReady s with
    | some w => w.2.1 == chan
    | none => false)

/-- What a snapshot reads of a channel whose chunk k is accounted for. -/
def snapRead (p : Plan) (k : Nat) : ReadOf :=
  let n := integOf p 0 k
  { stream := 0x9000, area := 0, region := n % 2, integ := n, stop := some ((k + 1) * p.t), extra := 64 }

/-- The units of a snapshot channel: elements, tile records, deficits (R245). -/
def snapUnits (p : Plan) (chan k : Nat) (s : State) : List (EUnit × Nat) :=
  let r := snapRead p k
  let lost := fun t => r.stale chan t s
  let tiles := (p.streamTiles 0).filter fun t => !lost t
  let e := tiles.map fun t =>
    elemUnit p r [chan] t (.snap (tileElems (tileAt p.k t).1 (tileAt p.k t).2 * p.elemBytes)) s
  let rec_ := recordUnit p r chan lost (.snap (32 * tilesOf p.k)) s
  let d := tiles.filterMap fun t => deficitUnit p r chan t (.snap 65536) s
  (e ++ (rec_, 0) :: d.map fun u => (u, 0)).filter fun w => !w.1.pieces.isEmpty

/-- Bytes of the snapshot buffer that a unit holds. -/
def Owner.snapBytes : Owner → Nat
  | .snap n => n
  | _ => 0

/-- The last unit of a list carries END_OF_INTEGRATION. -/
def markEnd (key : Nat) : List EUnit → List EUnit
  | [] => []
  | [u] => [{ u with eoi := some key }]
  | u :: v :: r => u :: markEnd key (v :: r)

/-- A READ of the drain engine at a keeper, and whether it returns STALE (R161). -/
def readOp (keeper : Nat) (stale : Bool) (s : State) : State :=
  let s1 := count .tileOpsRead keeper 1 s
  if stale then count .staleResults keeper 1 s1 else s1

/-- R156: the READs of every tile of the channel; EV_SNAPSHOT_DONE with the last channel. -/
def snapCopy (p : Plan) (chan k : Nat) (x : Snapshot) (s : State) : State :=
  let n := integOf p 0 k
  let units := snapUnits p chan k s
  let r := snapRead p k
  let at_ := (k + 1) * p.t
  let used := (units.map fun w => w.1.owner.snapBytes).foldl (· + ·) 0
  let first := x.firstAt.getD at_
  let rest := x.channels.drop 1
  let s1 := (List.range (tilesOf p.k)).foldl (fun y t =>
    readOp (keeperOf p 0 (n % 2) chan t s) (r.stale chan t s) y) s
  let s2 := count .visConvOvf (streamInst 0x9000) ((units.map (·.2)).foldl (· + ·) 0)
    { s1 with data := { s1.data with snapshot := some { x with
        channels := rest
        used := x.used + used
        firstAt := some first } } }
  let s3 := (markEnd 4 (units.map (·.1))).foldl (fun y u => unitReady u y) s2
  if rest.isEmpty then raise .snapshotDone [x.id, first, at_] s3 else s3

/-- SNAPSHOT_CHANNEL_COPY (R156). A listed channel that the plan in force no longer has is passed
over; a snapshot whose last listed channels have gone so ends without EV_SNAPSHOT_DONE (DESIGN CHOICE, log
entry 108). -/
def execSnapshotChannelCopy (t : Nat) (s : State) : Host.Outcome State Fault Refusal :=
  act t (fun y =>
    match y.data.snapshot, snapReady y with
    | some x, some (p, c, k) => snapCopy p c k x y
    | some x, none =>
      match x.channels, y.plan.running with
      | c :: r, some p =>
        if p.channels.contains c then y
        else { y with data := { y.data with snapshot := some { x with channels := r } } }
      | _, _ => y
    | none, _ => y) s

/-! ### PROMOTE (R131, R144, R154) -/

/-- The first chunk in a die's staging whose turn has come. -/
def promotable (d : Nat) (s : State) : Option (Staged × Plan) :=
  (die d s).staging.findSome? fun g =>
    match planOf g.epoch s with
    | none => none
    | some p => if chunkReady p g.area g.chan g.chunk s && !snapHolds g.area g.chan s then some (g, p) else none

/-- R154: the operation is discarded; the chunk counts as accounted for. -/
def latePromotion (p : Plan) (d : Nat) (g : Staged) (s : State) : State :=
  accountTile p g.area g.chan g.chunk 1 (count .latePromotions d 1 s)

/-- R139 to R144, R152, R153, R161: the operation is applied. -/
def goodPromotion (p : Plan) (d : Nat) (g : Staged) (s : State) : State :=
  let n := integOf p g.area g.chunk
  let t := tileNumber p.k g.i g.j
  let s1 := applyPromote p g (beginRegion p g.area n s)
  let s2 := count .tileOpsPromote (keeperOf p g.area (n % 2) g.chan t s) 1 (count .promotions d 1 s1)
  touchRegion p g.area n (accountTile p g.area g.chan g.chunk 1 s2)

/-- One staged chunk is promoted or discarded. -/
def promote (d : Nat) (g : Staged) (p : Plan) (s : State) : State :=
  let x := die d s
  let s1 := setDie d { x with staging := x.staging.erase g } s
  let s2 := if tooLate p g.area g.chunk s1 then latePromotion p d g s1 else goodPromotion p d g s1
  collectorHold d (tileDone d g.slot s2)

/-- PROMOTE (R144). -/
def execPromote (t : Nat) (d : Fin 4) (s : State) : Host.Outcome State Fault Refusal :=
  act t (fun x => match promotable d x with
    | some w => promote d w.1 w.2 x
    | none => x) s

/-! ### LEDGER_ONLY (R131, R144, R299, R548) -/

/-- Leading blocks that are skipped are passed (R71). -/
def advanceDies (s : State) : State := (List.range 4).foldl (fun x d => dieAdvance 256 d x) s

/-- A chunk of a channel that its die does not promote is due now: an entry that a die holds, or
the block of a stopped die whose chunk has started (R548). -/
def ledgerNext (area chan : Nat) (s : State) : Option (Plan × Nat × Nat) :=
  let held := (List.range 4).findSome? fun d =>
    (die d s).ledgerDue.findSome? fun l =>
      if l.area = area ∧ l.chan = chan then
        match planOf l.epoch s with
        | some p =>
          if (account p area chan s).next = l.chunk ∧ chunkReady p area chan l.chunk s = true then
            some (p, l.chunk, d)
          else none
        | none => none
      else none
  match held with
  | some w => some w
  | none =>
    if area ≠ 0 then none
    else
      (plans s).findSome? fun p =>
        match p.pos chan with
        | none => none
        | some j =>
          let k := (account p 0 chan s).next
          let d := p.block k j % 4
          let inPlan := match planEnd p s with
            | some e => decide (k * p.t < e)
            | none => true
          if (die d s).stopped ∧ inPlan = true ∧ chunkReady p 0 chan k s = true ∧ k * p.t ≤ tideSc s.time.tide s then
            some (p, k, collectorFor d s)
          else none

/-- The first tile of a chunk that does not bear it yet. -/
def ledgerTile (p : Plan) (area chan chunk : Nat) (s : State) : Nat :=
  let n := integOf p area chunk
  ((List.range (tilesOf p.k)).find? fun t =>
    let x := tile (tileKey area (n % 2) chan t) s
    !(x.touched && x.integration == n % 2 ^ 32 && x.lastChunk == chunk % 2 ^ 32)).getD 0

/-- Entries of the dies for a chunk that is accounted for in every tile. -/
def dropDue (area chan chunk epoch : Nat) (s : State) : State :=
  (List.range 4).foldl (fun y d =>
    let x := die d y
    setDie d { x with ledgerDue := x.ledgerDue.filter fun l =>
      !(l.area == area && l.chan == chan && l.chunk == chunk && l.epoch == epoch) } y) s

/-- One LEDGER_ONLY operation of a chunk. -/
def ledgerOp (p : Plan) (area chan chunk d : Nat) (s : State) : State :=
  let n := integOf p area chunk
  let s1 :=
    if tooLate p area chunk s then accountTile p area chan chunk 1 (count .latePromotions d 1 s)
    else
      let s0 := beginRegion p area n s
      let t := ledgerTile p area chan chunk s0
      let s2 := count .tileOpsLedgerOnly (keeperOf p area (n % 2) chan t s) 1 (dropChunk p area chan t chunk s0)
      touchRegion p area n (accountTile p area chan chunk 1 s2)
  if (account p area chan s1).next = chunk then s1 else dropDue area chan chunk p.epoch s1

/-- LEDGER_ONLY (R144): one tile of the channel's next chunk. -/
def execLedgerOnly (t : Nat) (area : Fin 2) (chan : Nat) (s : State) : Host.Outcome State Fault Refusal :=
  act t (fun x =>
    let y := advanceDies x
    if snapHolds area chan y then y
    else match ledgerNext area chan y with
      | some (p, k, d) => ledgerOp p area chan k d y
      | none => y) s

/-! ### Seals of the second kind (R153) -/

/-- Every unaccounted tile of one chunk is dropped. -/
def dropWhole (p : Plan) (area chan chunk : Nat) (s : State) : State :=
  let n := integOf p area chunk
  let a := account p area chan s
  let todo := (List.range (tilesOf p.k)).filter fun t =>
    let x := tile (tileKey area (n % 2) chan t) s
    a.next != chunk || a.tiles == 0 ||
      !(x.touched && x.integration == n % 2 ^ 32 && x.lastChunk == chunk % 2 ^ 32)
  let s1 := todo.foldl (fun y t =>
    count .tileOpsLedgerOnly (keeperOf p area (n % 2) chan t y) 1 (dropChunk p area chan t chunk y)) s
  setAccount p area chan ⟨chunk + 1, 0⟩ s1

/-- The chunks of an integration that are unaccounted in a channel. -/
def openChunks (p : Plan) (area chan n : Nat) (s : State) : List Nat :=
  let (lo, hi) := covered p area chan n s
  let from_ := max lo (account p area chan s).next
  (List.range (hi - from_)).map (from_ + ·)

/-- R153, second case. -/
def sealLate (p : Plan) (area r : Nat) (s : State) : State :=
  let g := region area r s
  let due := (p.areaChannels area).flatMap fun c => (openChunks p area c g.integration s).map fun k => (c, k)
  let s1 := due.foldl (fun y w => dropDue area w.1 w.2 p.epoch (dropWhole p area w.1 w.2 y)) s
  let g1 := region area r s1
  sealRegion p area g.integration (setRegion area r { g1 with sealLedger := due.length } s1)

/-- SEAL_WAIT_EXPIRY (R153). -/
def execSealWaitExpiry (t : Nat) (area r : Fin 2) (s : State) : Host.Outcome State Fault Refusal :=
  act t (fun x =>
    let g := region area r x
    match planOf g.epoch x with
    | none => x
    | some p =>
      if g.begun ∧ g.state = .filling ∧ g.lastOp.any (fun t0 => decide (t0 + nsT (par0 .corrSealWait x) ≤ x.time.now)) then sealLate p area r x
      else x) s

/-! ### The drain's reads (R241, R155) -/

/-- What a drain reads. -/
def Drain.read (dr : Drain) (sid : Nat) : ReadOf :=
  { stream := sid, area := dr.area, region := dr.region, integ := dr.integration, stop := none, extra := 0 }

/-- A channel-tile is lost to a drain. -/
def Drain.isLost (dr : Drain) (sid chan t : Nat) (s : State) : Bool :=
  dr.stale.contains (chan * 4096 + t) || (dr.read sid).stale chan t s

/-- The unit of a drain item, with its conversions that overflowed; none when it sends nothing. -/
def itemUnit (p : Plan) (dr : Drain) (sid : Nat) (it : DrainItem) (s : State) : Option (EUnit × Nat) :=
  let r := dr.read sid
  match it with
  | .elems chans t =>
    if chans.any fun c => dr.isLost sid c t s then none
    else some (elemUnit p r chans t (.tiles (dr.area * 2 + dr.region) dr.integration chans.length) s)
  | .recs c =>
    let u := recordUnit p r c (fun t => dr.isLost sid c t s) .none s
    if u.pieces.isEmpty then none else some (u, 0)
  | .defs c t => if dr.isLost sid c t s then none else (deficitUnit p r c t .none s).map fun u => (u, 0)

/-- Channel-tiles that an item finds lost: all of a group with a lost constituent (R243). -/
def itemLost (dr : Drain) (sid : Nat) (it : DrainItem) (s : State) : List Nat :=
  match it with
  | .elems chans t => if chans.any fun c => dr.isLost sid c t s then chans.map (· * 4096 + t) else []
  | _ => []

/-- Channel-tiles whose own READ an item finds STALE. -/
def itemStale (dr : Drain) (sid : Nat) (it : DrainItem) (s : State) : List Nat :=
  match it with
  | .elems chans t => (chans.filter fun c => dr.isLost sid c t s).map (· * 4096 + t)
  | _ => []

/-- The tile operations of an item (R161). -/
def itemOps (p : Plan) (dr : Drain) (it : DrainItem) (s : State) : State :=
  let keep := fun c t => keeperOf p dr.area dr.region c t s
  match it with
  | .elems chans t => chans.foldl (fun y c =>
      readOp (keep c t) ((dr.read 0).stale c t s) y) s
  | .recs c => (List.range (tilesOf p.k)).foldl (fun y t => count .tileOpsStatus (keep c t) 1 y) s
  | .defs c t => readOp (keep c t) ((dr.read 0).stale c t s) s

/-- A drain with one of its streams changed. -/
def Drain.setStream (dr : Drain) (x : DrainStream) : Drain :=
  { dr with streams := dr.streams.map fun y => if y.stream = x.stream then x else y }

/-- Put a drain back. -/
def setDrain (dr : Drain) (s : State) : State :=
  { s with egress := { s.egress with drains := s.egress.drains.map fun y =>
      if y.area = dr.area ∧ y.region = dr.region then dr else y } }

/-- R152: the region is DRAINED when the drain has read every tile. -/
def drainedIfRead (dr : Drain) (s : State) : State :=
  let g := region dr.area dr.region s
  if dr.streams.all (fun x => x.items.isEmpty) ∧ g.integration = dr.integration ∧ g.state = .sealed then
    setRegion dr.area dr.region { g with state := .drained } s
  else s

/-- The drain engine takes the next item of a stream. -/
def drainTake (p : Plan) (dr : Drain) (x : DrainStream) (it : DrainItem) (rest : List DrainItem) (s : State) : State :=
  let s1 := itemOps p dr it s
  let unit := itemUnit p dr x.stream it s
  let past := rest.all fun i => (itemUnit p dr x.stream i s).isNone
  let seen := it :: (if past then rest else [])
  let flight := if unit.isSome then x.flight ++ [it] else x.flight
  let left := if past then [] else rest
  let x1 := { x with
    items := left
    flight := flight
    done := x.done || (left.isEmpty && flight.isEmpty) }
  let dr1 := { dr.setStream x1 with
    lost := (dr.lost ++ seen.flatMap fun i => itemLost dr x.stream i s).eraseDups
    stale := (dr.stale ++ seen.flatMap fun i => itemStale dr x.stream i s).eraseDups }
  let s2 := drainedIfRead dr1 (setDrain dr1 s1)
  match unit with
  | none => if x1.done && !x.done then drainFinished dr1 s2 else s2
  | some (u, ovf) =>
    unitReady { u with eoi := if past then some (dr.area * 2 + dr.region) else none }
      (count .visConvOvf (streamInst x.stream) ovf s2)

/-- A stream of an area's drains that has something to read: the older drain first; a compressed
stream waits for its last unit to reach a compressor (R271). -/
def drainDue (area sid : Nat) (s : State) : Option (Drain × DrainStream × DrainItem × List DrainItem) :=
  if !egressOn s ∨ s.egress.ready.any (fun u => u.unit.head.stream == sid) then none
  else s.egress.drains.findSome? fun dr =>
    if dr.area ≠ area then none
    else match dr.streams.find? (·.stream == sid) with
      | none => none
      | some x => match x.items with
        | [] => none
        | it :: rest => some (dr, x, it, rest)

/-- The item is read by STATUS operations. -/
def DrainItem.isRecs : DrainItem → Bool
  | .recs _ => true
  | _ => false

/-- The drain engine's next operation on a stream: READ for elements and deficits, STATUS for tile
records (R144, R241). -/
def drainStep (status : Bool) (area sid : Nat) (s : State) : State :=
  match drainDue area sid s with
  | none => s
  | some (dr, x, it, rest) =>
    match planOf dr.epoch s with
    | none => s
    | some p => if it.isRecs = status then drainTake p dr x it rest s else s

/-! ### SLOT_RELEASE (R166, R351) -/

/-- The first run of a die that everybody has finished with. -/
def finishedRun (d : Nat) (s : State) : Option Running :=
  (die d s).runs.find? fun r => r.left == 0 && r.weirWait.isEmpty && r.weirBusy.isEmpty

/-- R166: the slot of a finished block is released. -/
def releaseRun (d : Nat) (r : Running) (s : State) : State :=
  let x := die d s
  let x0 := match planOf x.epoch s with
    | some p => x.freeSlot p r.slot
    | none => x.setSlot r.slot Slot.empty
  let x1 := { x0 with
    runs := x.runs.erase r
    released := if !r.isZoom && r.epoch == x.epoch && r.block == x.released then x.released + 4 else x.released
    ahead := if !r.isZoom && r.epoch == x.epoch && x.released < r.block then r.block :: x.ahead else x.ahead }
  beamsGoOn (pruneOld (freePlaces (trimDomains (dieAdvance 256 d (missTaps d r.slot (setDie d x1 s))))))

/-- SLOT_RELEASE (R166). -/
def execSlotRelease (t : Nat) (d : Fin 4) (s : State) : Host.Outcome State Fault Refusal :=
  act t (fun x => match finishedRun d x with
    | some r => releaseRun d r x
    | none => x) s

end Sys2Proof.Machine
end

