-- ==== Sys2Proof/Machine/WeirRows.lean ====
section
/-! DEFINITION. The weir's commands (chapter 5): blocks done, weight epochs, bank releases and the
stock weight kernel (R177 to R184, R191). -/

namespace Sys2Proof.Machine

/-! ### Blocks (R166, R191) -/

/-- An engine has written the last output of its oldest block. -/
def weirDone (i : Nat) (s : State) : State :=
  let d := i / 2
  let e := i % 2
  match (die d s).runs.find? fun r => r.weirBusy.contains e with
  | none => s
  | some r =>
    let s1 := mapRun d r.slot (fun y => { y with weirBusy := y.weirBusy.filter (· != e) }) s
    let s2 := { s1 with weir := { s1.weir with blocks := s1.weir.blocks.map fun b =>
      if b.die = d ∧ b.chan = r.chan ∧ b.chunk = r.chunk ∧ b.epoch = r.epoch then
        { b with busy := b.busy.filter (· != e) }
      else b } }
    weirPump (count .weirBlocks i 1 s2)

/-- WEIR_BLOCK_DONE (R191). -/
def execWeirBlockDone (t : Nat) (i : Fin 8) (s : State) : Host.Outcome State Fault Refusal :=
  act t (weirDone i) s

/-! ### Bank release (R180) -/

/-- A die has completed or skipped every block of every chunk up to the one that holds sample
`e - 1`. -/
def dieDoneTo (e d : Nat) (s : State) : Bool :=
  match planAt (e - 1) s with
  | none => true
  | some p =>
    let x := die d s
    x.stopped || decide (p.epoch < x.epoch) ||
      (x.epoch == p.epoch && decide (((e - 1) / p.t + 1) * p.c ≤ x.released))

/-- Release the DRAINING banks of a pair whose last block is done. -/
def releaseBanks (s : State) (l : RegFile Bank 2) : RegFile Bank 2 :=
  l.map fun b =>
    if b.state = .draining ∧ (List.range 4).all (fun d => dieDoneTo b.boundary d s) = true then
      { b with state := .free, boundary := 0 }
    else b

/-- BANK_RELEASE (R180). -/
def execBankRelease (t : Nat) (s : State) : Host.Outcome State Fault Refusal :=
  act t (fun x =>
    let y := advanceDies x
    { y with weir := { y.weir with
        banks := releaseBanks y y.weir.banks
        oldBanks := y.weir.oldBanks.map (releaseBanks y) } }) s

/-! ### Arming an epoch (R178, R181) -/

/-- A bank of the current pair. -/
def bank (i : Nat) (s : State) : Bank := s.weir.banks.getD i ⟨.free, 0, []⟩

/-- Change a bank of the current pair. -/
def setBank (i : Nat) (b : Bank) (s : State) : State :=
  { s with weir := { s.weir with banks := s.weir.banks.set i b } }

/-- A write to a bank has been accepted and not completed (R178, R494). -/
def bankWriting (i : Nat) (s : State) : Bool :=
  (s.zcp.bulks.any fun b => b.inbound && b.target == 3 && b.inst == i && (b.state == .open || b.state == .incomplete)) ||
    s.egress.jobs.any fun j => j.started && j.dest == 1 && j.inst == i

/-- Why an epoch is refused, in the order of R178: BAD_ALIGN, BANK_BUSY, EPOCH_PENDING, EPOCH_LATE. -/
def epochRefusal (i e : Nat) (s : State) : Option Nat :=
  let other := bank (1 - i) s
  if e % 1024 ≠ 0 then some 0x40
  else if (bank i s).state ≠ .free then some 0x41
  else if other.state = .armed ∨ other.state = .draining then some 0x42
  else if bankWriting i s then some 0x41
  else if e < s.weir.begun then some 0x43
  else none

/-- R178: the bank becomes ARMED. -/
def armBank (i e : Nat) (s : State) : State := setBank i { bank i s with state := .armed, boundary := e } s

/-- ZCP_WEIR_EPOCH's action. -/
def weirEpoch (i e : Nat) (_c : Ctx) (s : State) : Res :=
  match epochRefusal i e s with
  | some code => refuse code (count .epochRefused 0 1 s)
  | none => answer rOk [] (armBank i e s)

/-- ZCP_WEIR_EPOCH (R178): the bank and the boundary, whose layout the spec does not give, come as
operands. -/
def execZcpWeirEpoch (t : Nat) (d : Dgram) (i : Fin 2) (e : Nat) (s : State) : Host.Outcome State Fault Refusal :=
  zcp 0x0302 (laid (weirEpoch i e)) t d s

/-- R181. -/
def weirCancel (i : Nat) (_c : Ctx) (s : State) : Res :=
  let b := bank i s
  match b.state with
  | .free => answer rOk [] s
  | .armed => answer rOk [] (setBank i { b with state := .free, boundary := 0 } s)
  | _ => refuse 0x43 s

/-- ZCP_WEIR_EPOCH_CANCEL (R181). -/
def execZcpWeirEpochCancel (t : Nat) (d : Dgram) (i : Fin 2) (s : State) : Host.Outcome State Fault Refusal :=
  zcp 0x0303 (laid (weirCancel i)) t d s

/-! ### The stock weight kernel (R183, R184) -/

/-- The rational number that a binary64 pattern holds; none for ±infinity and NaN. -/
def f64Rat (v : Nat) : Option Rat :=
  match f64.decode v with
  | .fin s m e =>
    let x : Rat := if 0 ≤ e then ((m * 2 ^ e.toNat : Nat) : Rat) else mkRat (m : Int) (2 ^ (-e).toNat)
    some (if s then -x else x)
  | _ => none

/-- A polynomial of degree 0 to 3 with binary64 coefficients, lowest degree first (R183). -/
def polyAt (l : List Nat) (u : Rat) : Option Rat :=
  (l.take 4).foldr (fun c acc => match f64Rat c, acc with
    | some a, some r => some (a + u * r)
    | _, _ => none) (some 0)

/-- The mean sky frequency of the channels of a group (R183), Hz. -/
def groupFreq (p : Plan) (y : Nat) : Option Rat :=
  let g := max 1 (p.par0 .weirChanGroup)
  let l := (p.listed.drop (y * g)).take g
  let v := (List.range l.length).map fun i => f64Rat (p.par .corrChanFreq 0 (y * g + i))
  if v.isEmpty ∨ v.any (·.isNone) then none
  else some ((v.foldl (fun a x => a + x.getD 0) 0) / (l.length : Rat))

/-- The fraction of a number of turns, in 2^-64 turn. -/
def turnFrac (x : Rat) : Int := (x * ((2 ^ 64 : Nat) : Rat)).floor % (2 ^ 64 : Int)

/-- A limit on the kernel's error (R183): 0.0001 turn and 2^-10, in 2^-64. -/
def clampTo (lim v : Int) : Int := max (-lim) (min lim v)

/-- R183: the weight of a beam, path and group at `u` seconds from the reference; draw `n` gives the
kernel's error, within R183's bounds. -/
def kernelElem (p : Plan) (k : Steer) (u : Rat) (n y idx : Nat) : Nat :=
  match polyAt k.delay u, polyAt k.phase u, groupFreq p y, f32.decode k.amp with
  | some tau, some phi, some f, .fin sg m e =>
    let err := Config.kernelError n idx
    let dp := clampTo (2 ^ 64 / 10000) err.1
    let da := clampTo (2 ^ 54) err.2
    let ang := (((turnFrac (f * tau + phi) + dp) % (2 ^ 64 : Int)).toNat)
    let sc := sinCosTurn ang
    let part := fun (v : Int) =>
      let w := v * (m : Int) * (2 ^ 64 + da)
      f16.round (sg != decide (w < 0)) w.natAbs (e - 192)
    part sc.2 + part sc.1 * 65536
  | _, _, _, _ => Config.kernelWeight n idx % 2 ^ 32

/-- R183: every weight of a bank for the epoch from `e` to `e + d`. -/
def kernelBank (p : Plan) (steer : Sparse Steer) (ref e d n : Nat) : Sparse Nat :=
  let u : Rat := mkRat (((e + d / 2 : Nat) : Int) - ref) 1 * mkRat p.rate.2 p.rate.1
  (List.range p.groups).foldl (fun m y =>
    (List.range p.n).foldl (fun m1 path =>
      (List.range p.beams).foldl (fun m2 b =>
        let idx := p.weightIndex y (path / 128) b (path % 128)
        let k := sGet (fun _ => ⟨0, [], []⟩) steer (b * 8192 + path)
        sPut (fun _ => 0) m2 idx (kernelElem p k u n y idx)) m1) m) []

/-- The next boundary s0 + n × D (R184). -/
def nextEpoch (ref d after : Nat) : Nat := if after < ref then ref else ref + ((after - ref) / d + 1) * d

/-- The FREE bank of the pair. -/
def freeBank (s : State) : Option Nat := [0, 1].find? fun i => (bank i s).state == .free

/-- R353: the STOCK cores that the plan gives to the weight kernel, and that run. -/
def kernelCores (p : Plan) (s : State) : List Nat :=
  (List.range 64).filter fun n => bitAt (p.par0 .sluiceWeightCores) n && !(core n s).host && (core n s).state == .running

/-- R184, R352, R353: the kernel fills the FREE bank and arms it, or skips the epoch; without a core to run
on it fills none. -/
def autoEpoch (p : Plan) (d : Nat) (s : State) : State :=
  let w := s.weir
  let e := nextEpoch w.ref d (if w.lastEpoch = 0 then tideSc s.time.tide s else w.lastEpoch)
  let skip := raise .weightLate [e, (([0, 1].find? fun i => (bank i s).state == .inForce).getD 0)]
    { s with weir := { w with lastEpoch := e } }
  let missed : Bool := decide (e < w.begun) || decide (e ≤ tideSc s.time.tide s) || decide (e % 1024 ≠ 0)
  match freeBank s with
  | none => if missed then skip else s
  | some i =>
    if missed then skip
    else if (kernelCores p s).isEmpty then s
    else
      match epochRefusal i e s with
      | some _ => s
      | none =>
        let (n, s1) := drawFree s
        let s2 := setBank i { bank i s1 with weights := kernelBank p w.steer w.ref e d n } s1
        let s3 := armBank i e s2
        { s3 with weir := { s3.weir with lastEpoch := e } }

/-- AUTO_EPOCH_FILL (R184). The steering that has reached the kernel comes with the command, as the
spec does not say how a host gives it (log entry 24): reference sample counter, and entries by
beam × 8,192 + path. From a commit point on the kernel works for the new plan, whose banks it fills (DESIGN
CHOICE, log entry 111). -/
def execAutoEpochFill (t : Nat) (ref : Nat) (steer : List (Nat × Steer)) (s : State) :
    Host.Outcome State Fault Refusal :=
  act t (fun x =>
    match bankPlan x with
    | none => x
    | some p =>
      let d := p.par0 .weirAutoEpoch
      let w := { x.weir with
        ref := ref
        steer := steer.foldl (fun m k => sSet m k.1 k.2) x.weir.steer }
      let y := { x with weir := w }
      if d = 0 ∨ p.par0 .weirWeightSource ≠ 1 then y else autoEpoch p d y) s

end Sys2Proof.Machine
end

