-- ==== Sys2Proof/Machine/Egress.lean ====
section
/-! DEFINITION. Product egress at work: packets leave, drains end, units are compressed into the
spillway chains, and the host links (R228 to R257, R266 to R271, R591). -/

namespace Sys2Proof.Machine

/-! ### PACKET_SEND (R235 to R237, R241, R252, R256, R270) -/

/-- FLAGS of a formed packet (R231). -/
def Packet.flags (k : Packet) : Nat := beAt k.bytes 46 2

/-- INTEGRATION of a formed packet. -/
def Packet.integration (k : Packet) : Nat := beAt k.bytes 12 4

/-- The area of a drain stream (R226). -/
def streamArea (sid : Nat) : Option Nat :=
  if sid / 4096 < 2 then some 0 else if sid / 4096 < 4 then some 1 else none

/-- A packet of a drain stream has left: its unit with LAST, its stream with END_OF_INTEGRATION. -/
def drainSent (pk : Packet) (s : State) : State :=
  match streamArea pk.stream with
  | none => s
  | some area =>
    match s.egress.drains.find? fun d => d.area == area && d.integration % 2 ^ 32 == pk.integration with
    | none => s
    | some dr =>
      match dr.streams.find? (·.stream == pk.stream) with
      | none => s
      | some x =>
        let flight := if bitAt pk.flags 8 then x.flight.drop 1 else x.flight
        let x1 := { x with
          sent := x.sent + 1
          flight := flight
          done := x.done || pk.eoi.isSome || (x.items.isEmpty && flight.isEmpty) }
        let dr1 := dr.setStream x1
        let s1 := setDrain dr1 s
        if x.done || !x1.done then s1
        else
          let late := match planOf dr.epoch s with
            | some p => behindUs p dr s
            | none => 0
          drainFinished dr1 (count .streamBehindUs (streamInst pk.stream) late s1)

/-- The oldest waiting packet of a stream. -/
def waitingPacket (sid : Nat) (s : State) : Option Packet := s.egress.queue.find? (·.stream == sid)

/-- The queue without a stream's oldest packet. -/
def popPacket (sid : Nat) : List Packet → List Packet
  | [] => []
  | k :: r => if k.stream = sid then r else k :: popPacket sid r

/-- R236, R252: a packet leaves on the ports of its stream. -/
def sendPacket (pk : Packet) (s : State) : State :=
  let s1 := { s with egress := { s.egress with queue := popPacket pk.stream s.egress.queue } }
  let s2 := (streamPorts pk.stream s1).foldl (fun x port => sendCopy pk port x) s1
  let s3 := freeOwner pk.owner s2
  let s4 := match pk.chainEnd with
    | some pos => freeChain pk.stream pos s3
    | none => s3
  weirPump (drainSent pk s4)

/-- PACKET_SEND (R252): the oldest waiting packet of the stream that the schedule has reached. -/
def execPacketSend (t : Nat) (stream : Nat) (s : State) : Host.Outcome State Fault Refusal :=
  act t (fun x => match waitingPacket stream x with
    | some pk => sendPacket pk x
    | none => x) s

/-- EVENTS_PACKET_TIMEOUT (R249). -/
def execEventsPacketTimeout (t : Nat) (s : State) : Host.Outcome State Fault Refusal :=
  act t (fun x => match x.zoom.records with
    | [] => x
    | r :: _ => if r.1 + msT 1 ≤ x.time.now then formEvents x else x) s

/-! ### Host links (R230, R237, R256) -/

/-- HOST_LINK_CHANGE (R256): a link comes up only while PD38 is on. -/
def execHostLinkChange (t : Nat) (port : Fin 2) (up : Bool) (s : State) : Host.Outcome State Fault Refusal :=
  act t (onlyIf (fun x => domain 38 x == .on) fun x =>
    let x1 := setHostLink port up x
    if up then complete .other 38 rOk [] x1 else x1) s

/-- R256: a host link has been down for 1 s, or has not come up within 2 s of READY and of the last
switch-on of PD38. -/
def hostLinkLost (port : Nat) (s : State) : Bool :=
  let l := hostLink port s
  let since := if l.beenUp then l.downSince + secT 1 else s.egress.hostSince + secT 2
  !l.up && !l.reported && s.boot.stage == .ready && decide (since ≤ s.time.now)

/-- HOST_LINK_TIMEOUT (R256): FS_HOST_LINK fires once. -/
def execHostLinkTimeout (t : Nat) (port : Fin 2) (s : State) : Host.Outcome State Fault Refusal :=
  act t (fun x =>
    if hostLinkLost port x then
      fire .hostLink { x with hostLinks := x.hostLinks.set port { hostLink port x with reported := true } }
    else x) s

/-- HOST_FLOWCTL_FRAME (R230): the frame is discarded and counted. -/
def execHostFlowctlFrame (t : Nat) (port : Fin 2) (s : State) : Host.Outcome State Fault Refusal :=
  act t (fun x => if hostUp port x then count .hostDiscFlowctl (hostInst port) 1 x else x) s

/-! ### Compressors (R257, R258, R266) -/

/-- The lowest-numbered idle compressor in service. -/
def idleComp (s : State) : Option Nat :=
  (List.range 16).find? fun c =>
    (s.egress.comps.getD c none).isNone && !s.egress.compOut.contains c

/-- A unit of the stream stands in a compressor. -/
def streamInComp (sid : Nat) (s : State) : Bool :=
  s.egress.comps.toList.any fun c => match c with
    | some j => j.unit.head.stream == sid
    | none => false

/-- A unit is assigned: compressed by the settings in force now, or formed as it is when its stream's
compression has gone off, once no older unit of the stream is in a compressor (R257, R266). One that a
compressor has given back in the middle goes on under its settings. -/
def assignUnit (j : CompJob) (s : State) : State :=
  let sid := j.unit.head.stream
  let s1 := { s with egress := { s.egress with ready := s.egress.ready.erase j } }
  if streamPar .egressCompress sid 0 s = 0 ∧ j.put = 0 then
    if streamInComp sid s then s else formPieces j.unit j.unit.pieces s1
  else match idleComp s with
    | none => s
    | some c =>
      let trim := if j.put = 0 then streamPar .egressCompTrim sid 0 s else j.trim
      { s1 with egress := { s1.egress with comps := s1.egress.comps.set c (some { j with trim := trim }) } }

/-- COMPRESS_UNIT_ASSIGN (R266). -/
def execCompressUnitAssign (t : Nat) (s : State) : Host.Outcome State Fault Refusal :=
  act t (fun x => match x.egress.ready with
    | [] => x
    | u :: _ => if egressOn x then assignUnit u x else x) s

/-! ### Spillway chains (R268 to R271) -/

/-- Bytes of a staging buffer. -/
def bufferBytes : Nat := 2 ^ 22

/-- How many bytes of the item that a cut at byte `c` falls inside lie beyond the cut. -/
def overhang : List (List Byte) → Nat → Nat
  | [], _ => 0
  | x :: r, c =>
    if c = 0 then 0
    else if x.length ≤ c then overhang r (c - x.length)
    else x.length - c

/-- Free staging buffers, ascending. -/
def freeBuffers (s : State) : List Nat :=
  (List.range (par0 .egressStagingBuffers s)).filter fun n => s.egress.chains.all (·.number != n)

/-- The open buffer of a stream's chain. -/
def openBuffer (sid : Nat) (s : State) : Option ChainBuf :=
  s.egress.chains.find? fun b => b.stream == sid && !b.closed

/-- Bytes that a stream has compressed so far, and since the commit. -/
def writtenBy (sid : Nat) (s : State) : Nat := sGet (fun _ => 0) s.egress.written sid

/-- Where the stream's sequence stood at the commit. -/
def commitMark (sid : Nat) (s : State) : Nat := sGet (fun _ => 0) s.egress.atCommit sid

/-- New buffers for `n` bytes of a unit from its byte `cut` on, each of 4 MiB, with what a cut splits; `pos`
is the position of the unit's byte 0 in its stream. -/
def newBuffers (sid pos mark : Nat) (items : List (List Byte)) : Nat → List Nat → Nat → List ChainBuf
  | _, [], _ => []
  | cut, b :: rest, n =>
    if n = 0 then []
    else
      let mine := min n bufferBytes
      let x : ChainBuf :=
        { number := b
          next := if bufferBytes < n then rest.head? else none
          headSplit := overhang items cut
          tailSplit := mine == bufferBytes && decide (0 < overhang items (cut + mine))
          closed := mine == bufferBytes
          stream := sid
          unitStart := if cut = 0 then some 0 else none
          firstByte := pos + cut - mark
          pos := pos + cut
          fill := mine }
      x :: newBuffers sid pos mark items (cut + mine) rest (n - mine)

/-- What the open buffer becomes when `n` bytes of a unit from its byte `start` on go into it, of which the
next go to buffer `next`. -/
def fillBuffer (items : List (List Byte)) (start n : Nat) (next : Option Nat) (b : ChainBuf) : ChainBuf :=
  let full := decide (bufferBytes ≤ b.fill + n)
  { b with
    next := if full then next else none
    tailSplit := full && decide (0 < overhang items (start + n))
    closed := full
    unitStart := if b.unitStart.isNone ∧ start = 0 ∧ 0 < n then some b.fill else b.unitStart
    fill := b.fill + n }

/-- Bytes of a unit into the staging buffers where they belong (R268). -/
def stageBytes (pos : Nat) (bytes : List Byte) (l : List ChainBuf) (s : State) : State :=
  match place 10 s with
  | none => s
  | some x => l.foldl (fun y b =>
      let lo := max pos b.pos
      cellsWrite (x.base + b.number * bufferBytes + (lo - b.pos)) (slice bytes (lo - pos) (b.pos + b.fill - lo)) y) s

/-- R269, R271: a unit's bytes from its byte `start` on enter its stream's chain as far as the free buffers
go; how many did. A buffer that was filled to its end is linked to the next. -/
def chainPut (sid : Nat) (items : List (List Byte)) (start : Nat) (s : State) : Nat × State :=
  let bytes := items.flatten
  let pos := writtenBy sid s - start
  let room := match openBuffer sid s with
    | some b => bufferBytes - b.fill
    | none => 0
  let free := freeBuffers s
  let n := min (bytes.length - start) (room + free.length * bufferBytes)
  let first := min room n
  let fresh := newBuffers sid pos (commitMark sid s) items (start + first) free (n - first)
  let next := fresh.head?.map (·.number)
  let old := s.egress.chains.map fun b =>
    if b.stream = sid ∧ !b.closed then fillBuffer items start first next b
    else if b.stream = sid ∧ b.next.isNone ∧ room = 0 then { b with next := next }
    else b
  let mine := (old ++ fresh).filter fun b => b.stream == sid && decide (pos + start < b.pos + b.fill)
  (n, count .spillSplits (streamInst sid) (mine.filter (·.tailSplit)).length
    (stageBytes (pos + start) ((bytes.drop start).take n) mine
      { s with egress := { s.egress with
          chains := old ++ fresh
          written := sPut (fun _ => 0) s.egress.written sid (pos + start + n) } }))

/-- A code of 32 bits, all ones for none. -/
def orNone (x : Option Nat) : Nat := x.getD (2 ^ 32 - 1)

/-- The 32-byte chain descriptor of a buffer in a chain (R269). -/
def ChainBuf.bytes (b : ChainBuf) : List Byte :=
  natLE 4 (orNone b.next) ++ natLE 4 b.fill ++ natLE 1 b.headSplit ++
    natLE 1 ((if b.tailSplit then 1 else 0) + (if b.closed then 2 else 0)) ++ natLE 2 b.stream ++
    natLE 4 (orNone b.unitStart) ++ natLE 8 b.firstByte ++ natLE 8 0

/-- The descriptor of any staging buffer: one that is free has the reset values (R269). -/
def chainDescriptor (n : Nat) (s : State) : List Byte :=
  match s.egress.chains.find? (·.number == n) with
  | some b => b.bytes
  | none => natLE 4 (orNone none) ++ natLE 8 0 ++ natLE 4 (orNone none) ++ natLE 16 0

/-- The packets of a compressed unit (R247): every piece bears the range fields of the whole. -/
def compPieces (u : EUnit) (bytes : List Byte) : List Piece :=
  let flags := u.pieces.foldl (fun a x => a ||| x.flags) 128
  (runsOf 8192 (bytes.length + 1) 0 bytes).map fun r => { u.whole with flags := flags, bytes := r.2 }

/-- The packets of a compressed unit are formed; each ends at a position of the stream's compressed
sequence. A beam output buffer was read when the unit was compressed; what else a unit holds goes
with its last packet. -/
def formCompressed (u : EUnit) : Nat → List Piece → State → State
  | _, [], s => s
  | pos, [x], s =>
    let owner := match u.owner with
      | .beam _ => Owner.none
      | o => o
    formPacket u.head x (256 + (if u.eoi.isSome then 512 else 0)) owner u.eoi (some (pos + x.bytes.length)) s
  | pos, x :: y :: r, s =>
    formCompressed u (pos + x.bytes.length) (y :: r)
      (formPacket u.head x 0 .none none (some (pos + x.bytes.length)) s)

/-- A beam output buffer is free of a unit that has been compressed (R191). -/
def freeIfBeam (o : Owner) (s : State) : State :=
  match o with
  | .beam b => freeBeam b s
  | _ => s

/-- The unit in a compressor is the oldest unfinished one of its stream, those that wait counted (R266). -/
def oldestOfStream (j : CompJob) (s : State) : Bool :=
  (s.egress.comps.toList.filterMap id ++ s.egress.ready).all fun k =>
    k.unit.head.stream != j.unit.head.stream || decide (j.order ≤ k.order)

/-- R271: the compressor holds for want of a buffer. -/
def holdComp (c : Nat) (j : CompJob) (s : State) : State :=
  { s with egress := { s.egress with
      comps := s.egress.comps.set c (some { j with holdSince := some (j.holdSince.getD s.time.now) })
      heldStreams := (s.egress.heldStreams ++ [j.unit.head.stream]).eraseDups } }

/-- A compressor's output goes into the chain; with the last of it the unit ends: counters, packets, and
what the unit held (R266, R271, R277). -/
def compDone (c : Nat) (j : CompJob) (s : State) : State :=
  let u := j.unit
  let sid := u.head.stream
  let inst := streamInst sid
  let (items, stored) := compressUnit u.whole.fmt j.trim u.payload
  let bytes := items.flatten
  let (n, s1) := chainPut sid items j.put s
  if j.put + n < bytes.length then holdComp c { j with put := j.put + n } s1
  else
    let s2 := { s1 with egress := { s1.egress with comps := s1.egress.comps.set c none } }
    let s3 := count .compUnits inst 1 (count .compBytesIn inst u.payload.length
      (count .compBytesOut inst bytes.length (count .compStoredBlocks inst stored s2)))
    let s4 := formCompressed u (writtenBy sid s - j.put) (compPieces u bytes) s3
    weirPump (freeIfBeam u.owner s4)

/-- COMPRESS_UNIT_DONE (R266): in a stream the units end in the order of their assignment. -/
def execCompressUnitDone (t : Nat) (comp : Fin 16) (s : State) : Host.Outcome State Fault Refusal :=
  act t (fun s0 =>
    let x := countHold s0 comp
    match x.egress.comps.getD comp none with
    | none => x
    | some j => if oldestOfStream j x then compDone comp j x else x) s

end Sys2Proof.Machine
end

