-- ==== Sys2Proof/Machine/Dram.lean ====
section
/-! DEFINITION. The stacked DRAM at work: poison markers, requests, refresh, retirement of channels
(R158, R159, R425 to R442, R448 to R450). -/

namespace Sys2Proof.Machine

/-! ### What a region's bytes belong to -/

/-- The tile of an area's image that an offset lies in, and the element: channel, tile, element. -/
def tileOfOffset (p : Plan) (area off : Nat) : Option (Nat × Nat × Nat) :=
  let img := imageBytes p.k p.elemBytes
  let l := p.areaChannels area
  if l.length * img ≤ off then none
  else
    let o := off % img
    let hit := (List.range (tilesOf p.k)).find? fun t =>
      let (i, j) := tileAt p.k t
      let a := tileOffset p.k p.elemBytes i j
      decide (a ≤ o) && decide (o < a + tileElems i j * p.elemBytes)
    hit.map fun t =>
      let (i, j) := tileAt p.k t
      (l.getD (off / img) 0, t, (o - tileOffset p.k p.elemBytes i j) / p.elemBytes)

/-- The channel and tile that own a berm entry of a region. -/
def bermOwner (p : Plan) (area r entry : Nat) (s : State) : Option (Nat × Nat) :=
  (p.areaChannels area).findSome? fun c =>
    ((List.range (tilesOf p.k)).find? fun t =>
      (tile (tileKey area r c t) s).berm.any (·.index == entry)).map fun t => (c, t)

/-- R158: a codeword of totals or of a berm entry reads uncorrectable. An error in a berm entry leaves its
deficits and the tile's elements as they are (DESIGN CHOICE, log entry 109). -/
def poisonTotals (area r off : Nat) (s : State) : State :=
  match regionPlan area r s with
  | none => s
  | some p =>
    let size := (p.areaChannels area).length * imageBytes p.k p.elemBytes
    if off < size then
      match tileOfOffset p area (off / 64 * 64) with
      | none => s
      | some (c, t, e) => poisonTile p area r c t ((List.range (64 / p.elemBytes)).map (e + ·)) s
    else
      match bermOwner p area r ((off - size) / 65536) s with
      | none => s
      | some (c, t) => poisonTile p area r c t [] s

/-- The tile whose records lie at an offset of a records region: area, region, channel, tile (R592). -/
def recordOwner (p : Plan) (off : Nat) : Option (Nat × Nat × Nat × Nat) :=
  let n := off / 32
  let c0 := p.c * tilesOf p.k
  let (area, m) := if n < 2 * c0 then (0, n) else (1, n - 2 * c0)
  let l := p.areaChannels area
  let img := l.length * tilesOf p.k
  if img = 0 ∨ 2 * img ≤ m then none
  else some (area, m / img, l.getD (m % img / tilesOf p.k) 0, m % img % tilesOf p.k)

/-- Both copies of a tile's records are lost: the spec gives no contents, so they are free; the berm entry
stays with the tile (DESIGN CHOICE, log entry 110). -/
def loseRecord (key : Nat) (s : State) : State :=
  let (n, s1) := drawFree s
  let w := Config.freeWord n
  setTile key { tile key s with
    generation := field w 0 32
    integration := field w 32 32
    lastChunk := field w 64 32
    touched := bitAt w 96
    overflow := bitAt w 97
    nonfinite := bitAt w 98
    invalid := bitAt w 99
    written := bitAt w 100
    chunks := field w 128 32
    dropped := field w 160 32 } s1

/-- R138: a copy of tile records reads uncorrectable: the keeper uses the other copy, at `other`, and
rewrites the bad one. -/
def mendRecords (c off o other : Nat) (s : State) : State :=
  let good := match locOf other s with
    | some l => !poisoned l.1 l.2 s
    | none => false
  let s1 := setPoison c off false s
  if good then s1
  else match s.plan.running with
    | none => s1
    | some p => [0, 32].foldl (fun x i => match recordOwner p (o / 64 * 64 + i) with
        | some w => loseRecord (tileKey w.1 w.2.1 w.2.2.1 w.2.2.2) x
        | none => x) (match locOf other s with
          | some l => setPoison l.1 l.2 false s1
          | none => s1)

/-- R442: the weir takes every weight of a codeword as the canonical binary16 NaN. -/
def poisonWeights (off : Nat) (s : State) : State :=
  match bankPlan s with
  | none => s
  | some p =>
    let b := off / p.bankBytes
    match s.weir.banks.toList[b]? with
    | none => s
    | some k =>
      let w := off % p.bankBytes / 64 * 16
      let ws := (List.range 16).foldl (fun m i => sPut (fun _ => 0) m (w + i) 0x7E007E00) k.weights
      { s with weir := { s.weir with banks := s.weir.banks.set b { k with weights := ws } } }

/-- R442: the corner turn clears the presence bits of the sub-blocks that a codeword lies in. -/
def poisonTurn (off : Nat) (s : State) : State :=
  match planOf s.data.ctOpen.1 s with
  | none => s
  | some p =>
    let area := p.c * p.blockBytes
    if area = 0 then s
    else
      let key := off % area / (128 * p.beta)
      { s with data := { s.data with ct := s.data.ct.map fun a =>
          if a.area = off / area then { a with subs := a.subs.filter (· != key) } else a } }

/-- R201, R442: the zoom engine clears the input bit of the sub-block that a codeword lies in. -/
def poisonStaging (dpa : Nat) (s : State) : State :=
  s.zoom.sources.foldl (fun x z =>
    match planOf z.epoch x with
    | none => x
    | some p =>
      if z.closed ∧ z.at_ ≤ dpa ∧ dpa < z.at_ + p.blockBytes then stageErrors z [(dpa - z.at_) / (128 * p.beta)] x
      else x) s

/-- The packets of the unit in whose packets a mark first stands: those before it back to the last LAST,
and those after it up to the next. -/
def unitPackets (hit : Packet → Bool) (l : List Packet) : List Packet :=
  let before := l.takeWhile fun k => !hit k
  let after := l.drop before.length
  let head := (before.reverse.takeWhile fun k => !bitAt k.flags 8).reverse
  let tail := after.takeWhile fun k => !bitAt k.flags 8
  if after.isEmpty then [] else head ++ tail ++ (after.drop tail.length).take 1

/-- R442: the packetiser discards the unit of a stream that a mark finds, and goes on with the next. -/
def discardUnit (stream : Nat) (hit : Packet → Bool) (s : State) : State :=
  let gone := unitPackets hit (s.egress.queue.filter fun k => k.stream == stream)
  let s1 := { s with egress := { s.egress with queue := s.egress.queue.filter fun k => !gone.contains k } }
  let s2 := gone.foldl (fun x k =>
    let x1 := freeOwner k.owner x
    let x2 := match k.chainEnd with
      | some e => freeChain k.stream e x1
      | none => x1
    if bitAt k.flags 8 then drainSent k x2 else x2) s1
  if gone.isEmpty then s1 else count .egressUnitLost (streamInst stream) 1 s2

/-- The unit that holds a codeword of a spillway chain. -/
def loseUnit (off : Nat) (s : State) : State :=
  match s.egress.chains.find? fun b => b.number == off / bufferBytes && decide (off % bufferBytes < b.fill) with
  | none => s
  | some b => discardUnit b.stream (fun k => k.chainEnd.any (fun e => decide (b.pos + off % bufferBytes < e))) s

/-- The oldest unit that waits with an owner: its packets, or the unit before its compression (DESIGN
CHOICE, log entry 128). -/
def loseOwned (hit : Owner → Bool) (s : State) : State :=
  match s.egress.queue.find? fun k => hit k.owner with
  | some k => discardUnit k.stream (· == k) s
  | none => match s.egress.ready.find? fun j => hit j.unit.owner with
    | none => s
    | some j => count .egressUnitLost (streamInst j.unit.head.stream) 1 (freeOwner j.unit.owner
        { s with egress := { s.egress with ready := s.egress.ready.filter fun k => k.order != j.order } })

/-- The beam output buffer at an offset of the weights region, behind the banks: a die's buffers in order,
the oldest first (DESIGN CHOICE, log entry 128). -/
def loseBeamUnit (off : Nat) (s : State) : State :=
  match bankPlan s with
  | none => s
  | some p =>
    let i := (off - 2 * p.bankBytes) / p.beamBytes
    let n := p.par0 .weirBeamBufBlocks
    if off < 2 * p.bankBytes ∨ p.beamBytes = 0 then s
    else match (s.weir.bufs.filter fun b => b.die == i / n)[i % n]? with
      | none => s
      | some b => loseOwned (fun o => o == .beam b.id) s

/-- A unit that still lies in the snapshot buffer. -/
def Owner.isSnap : Owner → Bool
  | .snap _ => true
  | _ => false

/-- Ports of the tile keeper's operations (R43): promotions of main and zoom channels, the tile access
window and the ZCP engine, the drain. -/
def keeperPort (port : Nat) : Bool := [1, 2, 4, 6].contains port

/-- What a flagged read does at its requester (R442), by port in the order of R433. -/
def flaggedRead (port c off : Nat) (s : State) : State :=
  match dpaOf c off s with
  | none => s
  | some dpa =>
    match regionAt dpa s with
    | none => s
    | some x =>
      let o := dpa - x.base
      if port = 0 ∧ x.kind = 9 then poisonTurn o s
      else if keeperPort port ∧ 1 ≤ x.kind ∧ x.kind ≤ 4 then
        setPoison c off false (poisonTotals ((x.kind - 1) / 2) ((x.kind - 1) % 2) o s)
      else if keeperPort port ∧ (x.kind = 5 ∨ x.kind = 6) then
        match place (11 - x.kind) s with
        | some y => mendRecords c off o (y.base + o / 64 * 64) s
        | none => s
      else if port = 2 ∧ x.kind = 8 then poisonStaging dpa s
      else if port = 3 ∧ x.kind = 7 then poisonWeights o s
      else if port = 5 ∧ x.kind = 10 then loseUnit o s
      else if port = 5 ∧ x.kind = 7 then loseBeamUnit o s
      else if port = 5 ∧ x.kind = 11 then loseOwned Owner.isSnap s
      else s

/-! ### Requests (R434 to R442) -/

/-- What a request does with its codeword (R435). -/
def ReqKind.writes : ReqKind → Bool
  | .read => false
  | _ => true

/-- The rank of a location: (channel × 2 + pseudo-channel) × 4 + SID (R426). -/
def rankOf (c off : Nat) : Nat := (c * 2 + field off 6 1) * 4 + field off 15 2

/-- The bank of a location. -/
def bankOf (c off : Nat) : Nat := rankOf c off * 16 + field off 11 2 * 4 + field off 13 2

/-- A rank. -/
def rank (k : Nat) (s : State) : RankS := (sFind s.mem.ranks k).getD ⟨0, 0, 0, false⟩

/-- Change a rank. -/
def setRank (k : Nat) (x : RankS) (s : State) : State := { s with mem := { s.mem with ranks := sSet s.mem.ranks k x } }

/-- tREFI of a stack, the refresh interval of its ranks (R437). -/
def refreshInterval (k : Nat) (s : State) : Nat := if 85 < (stack k s).temp then nsT 1950 else nsT 3900

/-- The refresh window, 32 ms (R437). -/
def refreshWindow (s : State) : Nat := s.time.now / msT 32

/-- The 32 entries of a table; 8,192 is no row. -/
def tableRows (l : List (Nat × Nat)) : List (Nat × Nat) := l ++ List.replicate (32 - l.length) (8192, 0)

/-- The entry with the smallest count, the lowest on ties. -/
def smallestRow (l : List (Nat × Nat)) : Nat :=
  ((List.range l.length).foldl (fun (b : Nat × Nat) i =>
    let n := (l.getD i (0, 0)).2
    if b.1 < l.length ∧ b.2 ≤ n then b else (i, n)) (l.length, 0)).1

/-- R438: an activate of a row, and the row's count. -/
def activateRow (row : Nat) (old : List (Nat × Nat)) : List (Nat × Nat) × Nat :=
  let l := tableRows old
  let i := (l.findIdx? (·.1 == row)).getD (smallestRow l)
  let n := (l.getD i (0, 0)).2 + 1
  (l.set i (row, n), n)

/-- R438: an activate; a count that reaches mem.rh_threshold refreshes the row's neighbours. -/
def activate (c bank row : Nat) (s : State) : State :=
  let w := refreshWindow s
  let old := match sFind s.mem.tables bank with
    | some x => if x.window = w then x.rows else []
    | none => []
  let (rows, n) := activateRow row old
  let full := decide (par0 .memRhThreshold s ≤ n)
  let rows1 := if full then rows.map (fun x => if x.1 = row then (row, 0) else x) else rows
  let s1 := { s with mem := { s.mem with tables := sSet s.mem.tables bank ⟨w, rows1⟩ } }
  if full then count .rhRefresh c 1 s1 else s1

/-- R436: the row that an access needs: on the FZ4096-A8 every access activates and closes it; on the
FZ4096-A4 an open row serves it, and the hint of its port says whether it stays open. -/
def accessRow (port c off : Nat) (s : State) : State :=
  let bank := bankOf c off
  let row := field off 17 13
  if s.boot.variant ≠ 2 then activate c bank row s
  else
    let hit := (sFind s.mem.openRows bank).any (·.1 == row)
    let s1 := if hit then s else activate c bank row s
    let rows := if par .memPortHint port 0 s = 1 then sSet s1.mem.openRows bank (row, s.time.now)
      else sDel s1.mem.openRows bank
    { s1 with mem := { s1.mem with openRows := rows } }

/-- PORT_WAIT_CYCLES of a stack. -/
def portWait (k : Nat) : Ctr :=
  [Ctr.portWaitS0, .portWaitS1, .portWaitS2, .portWaitS3, .portWaitS4, .portWaitS5, .portWaitS6, .portWaitS7].getD k .portWaitS0

/-- OUTER_CORR advances; the running second of R444 starts anew when it is over. -/
def countCorr (c : Nat) (s : State) : State :=
  let x := chan c s
  let s1 := if x.corrSince + secT 1 ≤ s.time.now then
      setChan c { x with corrBase := ctrGet .outerCorr c s, corrSince := s.time.now } s
    else s
  count .outerCorr c 1 s1

/-- The outcome of reading a codeword whose symbols show these errors (R441, R442). -/
def codewordEnd (c off : Nat) (flips : List (Fin 68 × Byte)) (s : State) : ReadEnd :=
  readEnd (if poisoned c off s then markerErr ++ flips else flips)

/-- R442: what the outcome of a read does at the controller. -/
def readOutcome (c off : Nat) (e : ReadEnd) (s : State) : State :=
  match e with
  | .clean => s
  | .corrected => countCorr c s
  | .poison => count .poisonReads c 1 s
  | .uncorrectable => fire .dramUncorr (count .uncorr c 1 (setPoison c off true s))

/-- A codeword request (R434, R435, R442). -/
def serveRequest (port c off : Nat) (kind : ReqKind) (flips : List (Fin 68 × Byte)) (inner waited : Nat)
    (s : State) : State :=
  let k := rankOf c off
  let s1 := setRank k { rank k s with lastReq := s.time.now, powerDown := false } (accessRow port c off s)
  let s2 := count (portWait (c / 16)) port waited (count .innerCorr c inner s1)
  let e := codewordEnd c off flips s2
  let flagged := e == .poison || e == .uncorrectable
  match kind with
  | .read =>
    let s3 := readOutcome c off e s2
    if flagged then flaggedRead port c off s3 else s3
  | .write => setPoison c off false s2
  | .merge =>
    let s3 := readOutcome c off e s2
    let s4 := setPoison c off flagged s3
    if flagged then flaggedRead port c off s4 else s4

/-- R43: the ports, in the order of R433, of the activities that use a region of a kind; the canal reaches
every location (DEDUCED, log entry 127). -/
def portsOf (kind : Nat) : List Nat :=
  if kind = 1 ∨ kind = 2 then [1, 4, 6]
  else if kind = 3 ∨ kind = 4 then [2, 4, 6]
  else if kind = 5 ∨ kind = 6 then [1, 2, 4, 6]
  else if kind = 7 then [3, 4, 5]
  else if kind = 8 then [2, 4]
  else if kind = 9 then [0, 4]
  else if kind = 10 then [4, 5]
  else if kind = 11 then [1, 2, 4, 5, 6]
  else [4]

/-- R44: an activity's request uses only its own port. -/
def portServes (port c off : Nat) (s : State) : Bool :=
  port == 4 || match dpaOf c off s with
    | none => false
    | some dpa => (s.mem.places ++ s.mem.oldPlaces).any fun x =>
        decide (x.base ≤ dpa) && decide (dpa < x.base + x.size) && (portsOf x.kind).contains port

/-- A channel that serves its ports. -/
def serving (c : Nat) (s : State) : Bool :=
  (chan c s).state == .online || (chan c s).state == .retraining

/-- DRAM_REQUEST (R434): codeword number `codeword` of a channel. A write to a location taken over
waits until it is marked (R449). -/
def execDramRequest (t : Nat) (port : Fin 7) (c : Fin 128) (codeword : Fin 16777216) (kind : ReqKind)
    (flips : List (Fin 68 × Byte)) (inner waited : Nat) (s : State) : Host.Outcome State Fault Refusal :=
  act t (fun x =>
    let off := codeword.val * 64
    if !serving c x ∨ !portServes port c off x ∨ (kind.writes ∧ x.mem.marking ∧ redirectPoison c off x) then x
    else serveRequest port c off kind flips inner waited x) s

/-! ### Refresh, power-down, idle rows (R436, R437, R439) -/

/-- The banks of a rank close their rows. -/
def closeRank (k : Nat) (s : State) : State :=
  { s with mem := { s.mem with openRows := s.mem.openRows.filter fun e => e.1 / 16 != k } }

/-- REFRESH_DUE (R437), once per tREFI: `busy` tells that a port has a request for the rank. -/
def execRefreshDue (t : Nat) (c : Fin 128) (pc : Fin 2) (sid : Fin 4) (busy : Bool) (s : State) :
    Host.Outcome State Fault Refusal :=
  act t (fun x =>
    let k := (c.val * 2 + pc) * 4 + sid
    let r : RankS := { rank k x with dueAt := x.time.now }
    if !serving c x ∨ x.time.now < (rank k x).dueAt + refreshInterval (c / 16) x then x
    else if !busy then closeRank k (setRank k { r with postponed := 0, powerDown := false } x)
    else if r.postponed < 8 then setRank k { r with postponed := r.postponed + 1 } x
    else count .refreshBursts c 1 (closeRank k (setRank k { r with postponed := 0, powerDown := false } x))) s

/-- POWER_DOWN_ENTRY (R439). -/
def execPowerDownEntry (t : Nat) (c : Fin 128) (pc : Fin 2) (sid : Fin 4) (s : State) :
    Host.Outcome State Fault Refusal :=
  act t (fun x =>
    let k := (c.val * 2 + pc) * 4 + sid
    let r := rank k x
    if serving c x ∧ r.lastReq + nsT (par0 .memPdTimer x) ≤ x.time.now then
      setRank k { r with powerDown := true } x
    else x) s

/-- PAGE_IDLE_CLOSE (R436). -/
def execPageIdleClose (t : Nat) (c : Fin 128) (pc : Fin 2) (sid : Fin 4) (bank : Fin 16) (s : State) :
    Host.Outcome State Fault Refusal :=
  act t (fun x =>
    let k := ((c.val * 2 + pc) * 4 + sid) * 16 + bank
    match sFind x.mem.openRows k with
    | none => x
    | some r =>
      if r.2 + nsT (par0 .memPageIdle x) ≤ x.time.now then
        { x with mem := { x.mem with openRows := sDel x.mem.openRows k } }
      else x) s

/-! ### Retirement (R159, R448 to R450) -/

/-- Elements of a tile that lie in a channel. -/
def elemsIn (p : Plan) (area r c t dead : Nat) (s : State) : List Nat :=
  let (i, j) := tileAt p.k t
  (List.range (tileElems i j)).filter fun e =>
    match elemDpa p area r c t e s with
    | some d => (locOf d s).any (·.1 == dead)
    | none => false

/-- A berm entry has bytes in a channel. -/
def bermIn (p : Plan) (area r entry dead : Nat) (s : State) : Bool :=
  (List.range (65536 / grainBytes s + 1)).any fun i =>
    match bermDpa p area r entry (min 16383 (i * grainBytes s / 4)) s with
    | some d => (locOf d s).any (·.1 == dead)
    | none => false

/-- R159: one tile against a channel about to be retired; whether it is affected. -/
def loseTile (p : Plan) (area r c t dead : Nat) (s : State) : Bool × State :=
  let key := tileKey area r c t
  let x := tile key s
  let hit := elemsIn p area r c t dead s
  let lost := match x.berm with
    | some b => bermIn p area r b.index dead s
    | none => false
  if hit.isEmpty ∧ !lost then (false, s)
  else
    let s1 := if lost then returnBerm area r x.berm s else s
    (true, setTile key { x with
      elems := hit.foldl (fun m e => sPut (fun _ => Cx.zero) m e (nanElem p.totalsFmt)) x.elems
      invalid := true
      nonfinite := true
      berm := if lost then none else x.berm } s1)

/-- R159: every tile of a region. -/
def loseTiles (dead : Nat) (s : State) (area r : Nat) : State :=
  match place (1 + area * 2 + r) s, regionPlan area r s with
  | some _, some p =>
    let all := (p.areaChannels area).flatMap fun c => (List.range (tilesOf p.k)).map fun t => (c, t)
    let (n, s1) := all.foldl (fun (acc : Nat × State) ct =>
      let (hit, y) := loseTile p area r ct.1 ct.2 dead acc.2
      (acc.1 + (if hit then 1 else 0), y)) (0, s)
    if n = 0 then s1 else raise .tilesInvalid [area * 2 + r, (region area r s).integration, n] s1
  | _, _ => s

/-- R448, R449: a channel is retired; the band with RESERVE goes. -/
def retireChannel (c : Nat) (s : State) : State :=
  let s1 := loseTiles c (loseTiles c (loseTiles c (loseTiles c s 0 0) 0 1) 1 0) 1 1
  let s2 := setChan c { chan c s1 with state := .retired } s1
  let m := { s2.mem with
    retiredFlash := insertAsc c s2.mem.retiredFlash
    redirects := s2.mem.redirects ++ [(c, capGiB s)]
    marking := true
    reserve := false
    poison := []
    places := s2.mem.places.filter fun x => x.kind != 0
    cells := s2.mem.cells.filter fun x => x.1 / 2 ^ 30 != c }
  checkRecords { s2 with
    mem := m
    boot := { s2.boot with staging := [] }
    fault := { s2.fault with mirror := [] } }

/-- RETIREMENT_MARKERS_DONE (R450): admission is run again, EV_MEM_CHANNEL_RETIRED and its source
follow, and the new RESERVE is placed. -/
def execRetirementMarkersDone (t : Nat) (s : State) : Host.Outcome State Fault Refusal :=
  act t (fun x =>
    if !x.mem.marking then x
    else
      let c := (x.mem.redirects.getLastD (0, 0)).1
      let x1 := placeReserve (readmit { x with mem := { x.mem with marking := false } })
      let outcome := if x1.plan.shedDue.isSome then 1 else 0
      fire .dramChannelRetired (raise .memChannelRetired [c, capGiB x1, outcome] x1)) s

end Sys2Proof.Machine
end

