-- ==== Sys2Proof/Machine/Retrain.lean ====
section
/-! DEFINITION. Retraining, speed steps and outages of the DRAM stacks (R443 to R447). -/

namespace Sys2Proof.Machine

/-! ### Triggers (R444) -/

/-- A trigger for a channel that serves and is neither queued nor retraining; the first of a stack's
queue begins its GATHER. -/
def queueRetrain (c : Nat) (g : Trigger) (s : State) : State :=
  let k := stack (c / 16) s
  if (chan c s).state ≠ .online ∨ k.queue.any (fun e => e.1 == c) then s
  else
    let s1 := setStack (c / 16) { k with
      queue := k.queue ++ [(c, g)]
      gather := if k.queue.isEmpty then some 0 else k.gather } s
    if k.queue.isEmpty then setChan c { chan c s1 with state := .retraining } s1 else s1

/-- RETRAIN_CORR_RATE (R444): OUTER_CORR has advanced by more than mem.retrain_corr within the running
second. -/
def execRetrainCorrRate (t : Nat) (c : Fin 128) (s : State) : Host.Outcome State Fault Refusal :=
  act t (fun x =>
    let n := ctrGet .outerCorr c x
    let y := chan c x
    if par0 .memRetrainCorr x < increase y.corrBase n ∧ x.time.now ≤ y.corrSince + secT 1 then
      queueRetrain c .corr (setChan c { y with corrBase := n, corrSince := x.time.now } x)
    else x) s

/-- RETRAIN_TEMP_DRIFT (R444). -/
def execRetrainTempDrift (t : Nat) (c : Fin 128) (s : State) : Host.Outcome State Fault Refusal :=
  act t (fun x =>
    if 10 < ((stack (c / 16) x).temp - (chan c x).tempAt).natAbs then queueRetrain c .temp x else x) s

/-- RETRAIN_PERIOD (R444). -/
def execRetrainPeriod (t : Nat) (c : Fin 128) (s : State) : Host.Outcome State Fault Refusal :=
  act t (fun x =>
    if (chan c x).trainedAt + nsT (par0 .memRetrainPeriod x) ≤ x.time.now then queueRetrain c .period x else x) s

/-- GATHER_SLICE (R445): one in each refresh interval. -/
def execGatherSlice (t : Nat) (k : Fin 8) (s : State) : Host.Outcome State Fault Refusal :=
  act t (fun x =>
    let y := stack k x
    match y.gather with
    | some n =>
      if n < 256 ∧ y.sliceAt + refreshInterval k x ≤ x.time.now then
        setStack k { y with gather := some (n + 1), sliceAt := x.time.now } x
      else x
    | none => x) s

/-! ### Outages (R446, R447) -/

/-- The channels of a stack that are neither absent nor retired. -/
def stackChans (k : Nat) (s : State) : List Nat :=
  ((List.range 16).map (16 * k + ·)).filter fun c =>
    (chan c s).state != .absent && (chan c s).state != .retired

/-- Every channel of a stack takes a state. -/
def setStackChans (k : Nat) (st : ChanState) (s : State) : State :=
  (stackChans k s).foldl (fun x c => setChan c { chan c x with state := st } x) s

/-- The bin of a stack changes: EV_MEM_SPEED with its cause, 0 for a step down and 1 for a request;
a step down counts and fires FS_DRAM_SPEED_STEP; readmission follows (R308, R446, R454). -/
def changeBin (k bin cause : Nat) (s : State) : State :=
  let y := stack k s
  if y.bin = bin then s
  else
    let s1 := raise .memSpeed [k, y.bin, bin, cause] (setStack k { y with bin := bin } s)
    readmit (if cause = 0 ∧ y.bin < bin then fire .dramSpeedStep (count .speedSteps k 1 s1) else s1)

/-- A stack takes itself out of service and trains at a bin (R446). -/
def beginOutage (k bin : Nat) (asked : Option Nat) (s : State) : State :=
  let y := stack k s
  let o : Outage := { since := s.time.now, bin := bin, from_ := y.bin, asked := asked }
  let s1 := setStackChans k .outage (setStack k { y with queue := [], gather := none, outage := some o } s)
  changeBin k bin (if asked.isSome then 1 else 0) s1

/-- A request for a pin rate (R447): held during a GATHER or an outage, where it replaces one held before,
else met by an outage; the bin that the stack runs at already is reached at once. -/
def requestSpeed (k bin : Nat) (s : State) : State :=
  let y := stack k s
  if !y.fitted then s
  else if y.outage.isSome ∨ y.gather.isSome then
    complete .speedHeld k rSuperseded [] (setStack k { y with held := some bin } s)
  else if y.bin = bin then setPar .memMaxBin k 0 bin s
  else beginOutage k bin (some bin) s

/-- The next channel of a stack's queue begins its GATHER. -/
def nextGather (k : Nat) (s : State) : State :=
  let y := stack k s
  match y.queue with
  | [] => setStack k { y with gather := none } s
  | (c, _) :: _ => setChan c { chan c s with state := .retraining } (setStack k { y with gather := some 0 } s)

/-- A channel leaves its stack's queue, retrained or not; EV_MEM_RETRAIN carries the result: 0 applied,
1 no margin, 2 not applied because the stack moves to another bin. -/
def endRetrain (k c : Nat) (g : Trigger) (result : Nat) (s : State) : State :=
  let y := stack k s
  let x := chan c s
  let x1 := if result = 0 then { x with state := .online, tempAt := y.temp, trainedAt := s.time.now }
    else { x with state := .online }
  let s1 := setChan c x1 (setStack k { y with queue := y.queue.drop 1, gather := none } s)
  complete .retrain c (if result = 0 then rOk else rRefused) []
    (raise .memRetrain [c, g.code, result] (count .retrains c 1 s1))

/-- A held request is taken up. -/
def takeHeld (k : Nat) (s : State) : State :=
  let y := stack k s
  match y.held with
  | none => nextGather k s
  | some b =>
    let s1 := { setStack k { y with held := none } s with
      zcp := { s.zcp with waiting := s.zcp.waiting.map fun w =>
        if w.why = Why.speedHeld.code ∧ w.unit = k then { w with why := Why.speed.code } else w } }
    if y.bin = b then
      complete .speed k rOk (Config.replyBody 0x0703 [b]) (nextGather k (setPar .memMaxBin k 0 b s1))
    else beginOutage k b (some b) s1

/-- RETRAIN_APPLY (R445 to R447): `margin` tells that GATHER found a setting with margin. -/
def execRetrainApply (t : Nat) (k : Fin 8) (margin : Bool) (s : State) : Host.Outcome State Fault Refusal :=
  act t (fun x =>
    let y := stack k x
    match y.queue with
    | [] => x
    | (c, g) :: _ =>
      if y.gather ≠ some 256 then x
      else if y.held.isSome then takeHeld k (endRetrain k c g 2 x)
      else if margin then nextGather k (endRetrain k c g 0 x)
      else beginOutage k (min 4 (y.bin + 1)) none (endRetrain k c g 1 x)) s

/-- The stack returns to service at its bin, every channel trained, with whatever retraining was asked
for (R446, R447). -/
def endOutage (k : Nat) (o : Outage) (s : State) : State :=
  let y := stack k s
  let s1 := setStack k { y with outage := none } s
  let s2 := (stackChans k s1).foldl (fun x c =>
    setChan c { chan c x with state := .online, tempAt := y.temp, trainedAt := x.time.now } x) s1
  let s3 := match o.asked with
    | none => s2
    | some b =>
      complete .speed k (if y.bin = b then rOk else rLower) (Config.replyBody 0x0703 [y.bin])
        (setPar .memMaxBin k 0 y.bin s2)
  takeHeld k ((stackChans k s3).foldl (fun x c => complete .retrain c rOk [] x) s3)

/-- An attempt at a bin follows another in the same outage. -/
def tryBin (k : Nat) (o : Outage) (bin cause : Nat) (s : State) : State :=
  changeBin k bin cause (setStack k { stack k s with outage := some { o with bin := bin, since := s.time.now } } s)

/-- An attempt of an outage ends, with the channels that still fail (R446, R447). -/
def attemptDone (k : Nat) (o : Outage) (fails : List Nat) (s : State) : State :=
  match fails with
  | [] => endOutage k o s
  | c :: _ =>
    if o.asked.any fun b => decide (b < o.from_) then
      endOutage k o (changeBin k o.from_ 1 s)
    else if o.bin < 4 then tryBin k o (o.bin + 1) 0 s
    else if !s.mem.reserve ∨ s.mem.marking then s
    else tryBin k o o.from_ 0 (complete .retrain c rRefused [] (retireChannel c s))

/-- R457: the no-response limit of a granted piece does not run while an outage of its stack holds it. -/
def shiftGranted (k span : Nat) (s : State) : State :=
  { s with canal := { s.canal with reqs := s.canal.reqs.map fun r =>
      let here : Bool := r.pieces.head?.any (fun p =>
        (rangeStarts p.addr (64 * p.beats)).any (fun b => stackAt b s == some k))
      if here then { r with granted := r.granted.map (· + span) } else r } }

/-- STACK_STEP_DOWN_DONE (R446): `fails` are the channels of the stack that do not train. Of several
that fail at bin 4 the lowest is retired, and a retirement waits for RESERVE (R449). -/
def execStackStepDownDone (t : Nat) (k : Fin 8) (fails : List (Fin 16)) (s : State) :
    Host.Outcome State Fault Refusal :=
  act t (fun x => match (stack k x).outage with
    | none => x
    | some o =>
      let up := stackChans k x
      let bad := sortAsc ((fails.map fun c => 16 * k.val + c.val).filter up.contains)
      attemptDone k o bad (shiftGranted k (x.time.now - o.since) x)) s

/-! ### Temperatures (R437, R451, R454) -/

/-- DRAM_STACK_TEMP: what a stack reports in °C; above 95 °C FS_DRAM_TEMP fires at the crossing. -/
def execDramStackTemp (t : Nat) (k : Fin 8) (temp : Int) (s : State) : Host.Outcome State Fault Refusal :=
  act t (fun x =>
    let y := stack k x
    if !y.fitted then x
    else
      let x1 := setStack k { y with temp := temp } x
      if 95 < temp ∧ y.temp ≤ 95 then fire .dramTemp x1 else x1) s

/-- A channel's status word (R451). -/
def chanStatus (c : Nat) (s : State) : Nat :=
  let x := chan c s
  let k := stack (c / 16) s
  let gathering := k.gather.isSome && x.state == .retraining
  let pos := (s.mem.list.findIdx? (· == c)).getD 255
  let temp := if k.temp < 0 then 0 else min 255 k.temp.toNat
  if x.state = .absent then 0xFF0000
  else
    x.state.code + k.bin * 8 + (if gathering then 64 else 0) + (if k.held.isSome then 128 else 0) +
      temp * 256 + pos * 65536

end Sys2Proof.Machine
end

