-- ==== Sys2Proof/Machine/Zoom.lean ====
section
/-! DEFINITION. The zoom engine (chapter 6): the oscillator and the half-band chain, requantisation,
zoom blocks, path detectors and gate outputs (R197 to R223). -/

namespace Sys2Proof.Machine

/-! ### Requantisation (R207, R208) -/

/-- A requantised output, and whether it was clipped and whether it was nonfinite. -/
def requantOut (gain : Nat) (v : ZVal) : ZOut × Bool × Bool :=
  if f32.nonfinite v.re || f32.nonfinite v.im then (⟨0, 0, false⟩, false, true)
  else
    let a := requantise gain 127 v.re
    let b := requantise gain 127 v.im
    (⟨a.1, b.1, v.clean⟩, a.2 || b.2, false)

/-- An output that lies before the filter's start. -/
def ZOut.absent : ZOut := ⟨0, 0, false⟩

/-- Outputs from index `u` on are appended to those from `base` on: a gap is filled with absent
outputs, what lies before the end of the list is passed over. -/
def appendOuts (base : Nat) (old : List ZOut) (u : Int) (new : List ZOut) : List ZOut :=
  let end_ : Int := ((base + old.length : Nat) : Int)
  if u ≤ end_ then old ++ new.drop (end_ - u).toNat
  else old ++ List.replicate (u - end_).toNat ZOut.absent ++ new

/-! ### Detectors on paths (R216) -/

/-- One output enters a path's average (R216). -/
def feedPath (p : Plan) (w path : Nat) (acc : Det × List Avg) (x : Nat × ZOut) : Det × List Avg :=
  let len := p.pathAvgLen w
  let d := acc.1
  let d0 := if x.1 % len = 0 then { d with sum := 0, count := 0, bad := false } else d
  let d1 := { d0 with
    sum := d0.sum + (x.2.re * x.2.re + x.2.im * x.2.im).toNat
    count := d0.count + 1
    bad := d0.bad || !x.2.clean }
  if (x.1 + 1) % len = 0 then
    ({ d1 with sum := 0, count := 0, bad := false },
     acc.2 ++ [{ last := x.1 * 2 ^ p.stages w, w := w, kind := 0, index := path, skip := d1.bad || d1.count != len
                 value := f32.scale (f32.ofInt d1.sum) (-(p.par .zoomThrAvgLog2 w 0 : Int)), epoch := p.epoch }])
  else (d1, acc.2)

/-! ### Restarts (R199) -/

/-- A window starts under a plan record at source sample `at_`: its path detectors are NORMAL. -/
def startWin (p : Plan) (w at_ : Nat) (s : State) : State :=
  let s1 := restartDets w at_ (fun k => decide (8192 ≤ k)) s
  setWin w { win w s1 with
    epoch := p.epoch
    next := at_ / p.t
    pos := 0
    start := at_
    filt := []
    base := at_ / (p.tz * 2 ^ p.stages w) * p.tz
    outs := [] } s1

/-- The plan record that a window runs under: it moves on once it has streamed the samples before a
later record's boundary; a new commit restarts it. -/
def winPlan (w : Nat) (s : State) : Option Plan × State :=
  let x := win w s
  let cur := planOf x.epoch s
  let later := (plans s).reverse.find? fun q =>
    match cur with
    | none => q.windows.contains w
    | some p =>
      decide (p.epoch < q.epoch) &&
        (if p.windows.contains w then decide (q.sc ≤ x.next * p.t) else q.windows.contains w)
  match later with
  | none => (cur.filter (fun p => p.windows.contains w), s)
  | some q =>
    if !q.windows.contains w then
      let s1 := restartDets w q.sc (fun _ => false) s
      (none, setWin w { win w s1 with epoch := q.epoch } s1)
    else match cur with
      | some p =>
        if p.commit = q.commit then (some q, setWin w { x with epoch := q.epoch } s)
        else (some q, startWin q w q.sc s)
      | none => (some q, startWin q w q.sc s)

/-! ### Streaming a source block (R200 to R202) -/

/-- The samples of a path in sub-blocks [lo, hi) of a chunk after the mixer. -/
def mixPath (p : Plan) (w path chunk lo hi : Nat) (sub : Nat → Option (List Byte)) : List ZVal :=
  let inc := p.par .zoomNcoInc w 0
  let ph := p.par .zoomNcoPhase0 w 0
  (List.range (hi - lo)).flatMap fun i =>
    let q := lo + i
    let t0 := chunk * p.t + 128 * q
    match sub (path * p.s + q) with
    | some bs =>
      let l := (weirSamples (p.par0 .ingressFormat) bs).map fun c => (⟨f16.conv f32 c.re, f16.conv f32 c.im⟩ : Cx)
      ((List.range 128).zip l).map fun v => mixSample inc ph (t0 + v.1) v.2 true
    | none => (List.range 128).map fun j => mixSample inc ph (t0 + j) Cx.zero false

/-- What one path makes of a run of samples. -/
structure PathRun where
  stages : List ZStage
  outs : List ZOut
  clips : Nat
  nonfinite : Nat
  det : Det
  avgs : List Avg

/-- R203 to R208, R216 for one path of a window. -/
def runPath (p : Plan) (w path lo hi : Nat) (sub : Nat → Option (List Byte)) (x : ZWin) : PathRun :=
  let designs := p.designs w
  let sts := match x.filt.getD path [] with
    | [] => freshStages designs x.start
    | l => l
  let u0 := nextOut designs sts
  let r := chainFeed designs sts (mixPath p w path x.next lo hi sub)
  let q := (r.2.map (requantOut (p.par .zoomGain w 0)))
  let kept := q.drop ((x.base : Int) - u0).toNat
  let old := x.outs.getD path []
  let all := appendOuts x.base old u0 (q.map (·.1))
  let from_ := max u0 (x.base : Int)
  let d := sGet (fun _ => Det.fresh) x.dets (detKey 0 path)
  let fed := if p.par .zoomThrPaths w 0 = 1 then
      ((List.range kept.length).zip (kept.map (·.1))).foldl
        (fun acc v => feedPath p w path acc (from_.toNat + v.1, v.2)) (d, [])
    else (d, [])
  { stages := r.1
    outs := all
    clips := (kept.filter (·.2.1)).length
    nonfinite := (kept.filter (·.2.2)).length
    det := fed.1
    avgs := fed.2 }

/-- The sub-blocks of a completed zoom chunk that are present (R208, R209). -/
def zoomSubs (p : Plan) (outs : List (List ZOut)) : Sparse (List Byte) :=
  let per := p.tz / 128
  (List.range outs.length).flatMap fun path =>
    (List.range per).filterMap fun q =>
      let l := ((outs.getD path []).drop (128 * q)).take 128
      if l.length = 128 ∧ l.all (·.clean) = true then
        some (path * per + q, l.flatMap fun v => natBE 1 (wrapTo 8 v.re) ++ natBE 1 (wrapTo 8 v.im))
      else none

/-- R210, R211: a completed zoom block takes its number; it waits for its die, or is discarded, or,
empty, is accounted for by LEDGER_ONLY. -/
def zoomComplete (p : Plan) (w k : Nat) (subs : Sparse (List Byte)) (s : State) : State :=
  let z := s.zoom.blockNumber
  let s1 := { s with zoom := { s.zoom with blockNumber := z + 1 } }
  let x := win w s1
  if subs.isEmpty then ledgerDue (z % 4) 1 p.epoch w k s1
  else if x.waiting.isSome then
    ledgerDue (z % 4) 1 p.epoch w k (count .zoomBlocksLost w 1
      (setWin w { x with lost := x.lost + 1, lostLow := if x.lost = 0 then k else min x.lostLow k } s1))
  else setWin w { x with waiting := some { z := z, win := w, epoch := p.epoch, chunk := k, subs := subs } } s1

/-- Zoom chunks that the outputs of a window now complete, in order. -/
def zoomChunks (p : Plan) (w : Nat) : Nat → State → State
  | 0, s => s
  | n + 1, s =>
    let x := win w s
    if x.outs.isEmpty ∨ x.outs.any (fun l => decide (l.length < p.tz)) then s
    else
      let subs := zoomSubs p x.outs
      let s1 := setWin w { x with base := x.base + p.tz, outs := x.outs.map fun l => l.drop p.tz } s
      zoomChunks p w n (if p.correlates w then zoomComplete p w (x.base / p.tz) subs s1 else s1)

/-- One window streams sub-blocks [lo, hi) of its next chunk; the averages of its detectors. -/
def streamWin (p : Plan) (w lo hi : Nat) (sub : Nat → Option (List Byte)) (s : State) : State × List Avg :=
  let x := win w s
  let runs := (List.range p.n).map fun path => runPath p w path lo hi sub x
  let dets := ((List.range p.n).zip runs).foldl (fun m v =>
    sPut (fun _ => Det.fresh) m (detKey 0 v.1) v.2.det) x.dets
  let done := decide (p.s ≤ hi)
  let x1 := { x with
    filt := runs.map (·.stages)
    outs := runs.map (·.outs)
    dets := dets
    next := if done then x.next + 1 else x.next
    pos := if done then 0 else hi }
  let s1 := count .zoomClip w ((runs.map (·.clips)).foldl (· + ·) 0)
    (count .zoomNonfinite w ((runs.map (·.nonfinite)).foldl (· + ·) 0) (setWin w x1 s))
  (s1, runs.flatMap (·.avgs))

/-- The windows of a source channel with the plan record each runs under. -/
def sourceWins (chan : Nat) (s : State) : List (Nat × Plan) × State :=
  (List.range 32).foldl (fun acc w =>
    let (p, s1) := winPlan w acc.2
    match p with
    | some q => if q.par .zoomSourceChan w 0 = chan then (acc.1 ++ [(w, q)], s1) else (acc.1, s1)
    | none => (acc.1, s1)) ([], s)

/-- A window has still to stream a source block: one of its own plan, or of a plan that it will come to. -/
def sourceNeeded (z : ZSource) (s : State) : Bool :=
  match planOf z.epoch s with
  | none => false
  | some p => p.windows.any fun w => p.par .zoomSourceChan w 0 == z.chan &&
      (match planOf (win w s).epoch s with
      | none => true
      | some q => decide (q.commit < p.commit) || (q.commit == p.commit && decide ((win w s).next ≤ z.chunk)))

/-- Source blocks that every window of their channel has streamed are given up. -/
def dropSources (s : State) : State :=
  { s with zoom := { s.zoom with sources := s.zoom.sources.filter fun z => sourceNeeded z s } }

/-- The window whose next source block is the oldest, with its plan record. -/
def oldestWin (wins : List (Nat × Plan)) (s : State) : Option (Nat × Plan) :=
  wins.foldl (fun b v => match b with
    | none => some v
    | some u => if (win v.1 s).next * v.2.t < (win u.1 s).next * u.2.t then some v else some u) none

/-- R201, R202: the oldest source block of a channel, up to sub-block `hi`, through every window of the
channel and commit that stands at it. -/
def zoomProcess (chan hi : Nat) (bad : List Nat) (s : State) : State :=
  let (wins, s0) := sourceWins chan s
  match oldestWin wins s0 with
  | none => s0
  | some (w0, p0) =>
    let k := (win w0 s0).next
    match sourceBlock p0 chan k s0 with
    | none => s0
    | some z0 =>
      let s1 := stageErrors z0 bad s0
      let z := { z0 with subs := z0.subs.filter fun k => !bad.contains k }
      let due := wins.filter fun v => v.2.commit == p0.commit && (win v.1 s1).next == k
      let r := due.foldl (fun (acc : State × List Avg) v =>
        let x := win v.1 acc.1
        let top := min hi v.2.s
        if top ≤ x.pos then acc
        else
          let q := streamWin v.2 v.1 x.pos top (stagedSub p0 z s1) acc.1
          (q.1, acc.2 ++ q.2)) (s1, [])
      let s2 := takeAvgs r.2 r.1
      dropSources (due.foldl (fun y v => zoomChunks v.2 v.1 64 y) s2)

/-- ZOOM_SOURCE_PROCESS (R202): a source channel's next block is streamed up to sub-block `hi`; `bad`
are the sub-blocks with an uncorrectable error in zoom source staging. -/
def execZoomSourceProcess (t : Nat) (chan hi : Nat) (bad : List Nat) (s : State) :
    Host.Outcome State Fault Refusal :=
  act t (onlyIf (fun x => domain 32 x == .on && !x.zoom.out) (zoomProcess chan hi bad)) s

/-! ### Re-entry (R74, R210) -/

/-- No block with a lower number waits for the same die. -/
def firstForDie (z d : Nat) (s : State) : Bool :=
  s.zoom.wins.toList.all fun w => match w.waiting with
    | some b => !(decide (b.z < z) && collectorFor (b.z % 4) s == d)
    | none => true

/-- R210: a waiting zoom block is written into a FREE slot of its die. -/
def zoomDeliver (w : Nat) (s : State) : State :=
  let x := win w s
  match x.waiting with
  | none => s
  | some b =>
    let d := collectorFor (b.z % 4) s
    let y := die d s
    match y.freeSlots with
    | [] => s
    | i :: _ =>
      if y.stopped ∨ y.slots.any (fun v => v.state == .zoom) ∨ !firstForDie b.z d s then s
      else
        let v : Slot :=
          { state := .zoom, epoch := b.epoch, block := b.z, chan := b.win, chunk := b.chunk
            openAt := s.time.now, closedAt := s.time.now, skip := false, subs := b.subs }
        count .zoomBlocks w 1 (setWin w { x with waiting := none } (setDie d (y.setSlot i v) s))

/-- ZOOM_BLOCK_DELIVER (R210). -/
def execZoomBlockDeliver (t : Nat) (w : Fin 32) (s : State) : Host.Outcome State Fault Refusal :=
  act t (zoomDeliver w) s

/-! ### Gate outputs (R223) -/

/-- The earliest of a list of instants. -/
def earliest (l : List Nat) : Option Nat :=
  l.foldl (fun b x => match b with
    | none => some x
    | some y => some (min x y)) none

/-- GATE_ASSERT (R223): changes of an output act in the order of their times. -/
def execGateAssert (t : Nat) (o : Fin 8) (s : State) : Host.Outcome State Fault Refusal :=
  act t (fun x =>
    let y := out o x
    match earliest y.gate.assertAt with
    | none => x
    | some d =>
      if y.mode ≠ .gate ∨ x.time.tide < d ∨ y.gate.deassertAt.any (fun e => decide (e < d)) then x
      else drive o (!y.lowPol) d (setOut o { y with gate := { y.gate with
        asserted := true
        assertAt := y.gate.assertAt.erase d } } x)) s

/-- GATE_DEASSERT (R223). -/
def execGateDeassert (t : Nat) (o : Fin 8) (s : State) : Host.Outcome State Fault Refusal :=
  act t (fun x =>
    let y := out o x
    match earliest y.gate.deassertAt with
    | none => x
    | some d =>
      if y.mode ≠ .gate ∨ x.time.tide < d ∨ y.gate.assertAt.any (fun e => decide (e < d)) then x
      else drive o y.lowPol d (setOut o { y with gate := { y.gate with
        asserted := false
        deassertAt := y.gate.deassertAt.erase d } } x)) s

end Sys2Proof.Machine
end

