-- ==== Sys2Proof/Machine/Params.lean ====
section
/-! DEFINITION. The parameter space (chapter 16): keys, readings, the catalogue, ZCP_PARAM_GET and
ZCP_PARAM_SET, the BOUNDARY items, and TELEMETRY (R250, R491). -/

namespace Sys2Proof.Machine

/-! ### Readings -/

/-- A master's error status register (R464). -/
def canalStatusWord (m : Nat) (s : State) : Nat :=
  let x := s.canal.masters.getD m ⟨false, false, false, none, 0, 0⟩
  let out := (s.canal.reqs.filter fun r => r.master == m).length +
    (s.canal.draining.filter fun d => d / 32 == m).length
  (if x.decode then 1 else 0) + (if x.dataErr then 2 else 0) + (if x.resetting then 4 else 0) + out * 256

/-- STATE of a feed as coded (R568). -/
def FeedState.code : FeedState → Nat
  | .lostLow => 0 | .good => 1 | .lostHigh => 2 | .unmated => 3

/-- A feed (R568). -/
def feed (k : Nat) (s : State) : Feed := s.power.feeds.getD k ⟨0, 0, .lostLow, false⟩

/-- A feed status word (R568). -/
def feedWord (k : Nat) (s : State) : Nat :=
  let f := feed k s
  f.volt % 65536 + f.cur % 65536 * 65536 + f.state.code * 2 ^ 32 + (if f.carrying then 2 ^ 34 else 0)

/-- STATE of a domain as coded (R568). -/
def DomainState.code : DomainState → Nat
  | .off => 0 | .waking => 1 | .on => 2 | .tripped => 3

/-- module.boot_status (R574). -/
def bootStatus (s : State) : Nat :=
  let b := s.boot
  let bit (c : Bool) (i : Nat) : Nat := if c then 2 ^ i else 0
  b.stage.code + b.running * 16 + b.preferred * 32 + bit b.trial 6 + bit b.fallback 7 + bit b.aValid 8 +
    bit b.bValid 9 + bit b.core0Ok 10 + bit b.core1Ok 11 + b.lastReset * 65536 +
    (if b.stage = .ready then b.bootMs else 0xFFFFFFFF) * 2 ^ 32

/-- A gauge word at its reset value (R543). -/
def gaugeReset : Nat := 0x7FF * 4096

/-- A gauge word as it reads: VALID only while its island is powered (R543). -/
def gaugeRead (up : Bool) (v : Nat) : Nat := if up then v else v % 2 ^ 31

/-- fault.gauge of a polder (R543). -/
def gaugeWord (p k : Nat) (s : State) : Nat :=
  gaugeRead (polder p s).powered (sGet (fun _ => gaugeReset) s.fault.gauges (2 * p + k))

/-- fault.hub_gauge of an island (R543). -/
def hubWord (u : Nat) (s : State) : Nat :=
  gaugeRead (unitUp u s) (sGet (fun _ => gaugeReset) s.fault.hubGauges u)

/-- A lag of R369; 0 where no frame came in the period. -/
def srcLag (x : Option Int) : Int := x.getD 0

/-- The value of an item in force; a read-only item reads what it reports. -/
def readItem (i : Item) (inst elem : Nat) (s : State) : Nat :=
  if i = .moduleVariant then s.boot.variant
  else if i = .moduleCanalStatus then canalStatusWord inst s
  else if i = .moduleFeedStatus then feedWord elem s
  else if i = .moduleInputPower then s.power.inputPower
  else if i = .moduleTemps then s.power.temps.getD elem 0
  else if i = .moduleDomainState then (domain elem s).code
  else if i = .moduleSlotId then s.power.slotId
  else if i = .moduleBootStatus then bootStatus s
  else if i = .corrPolderState then polderState inst s
  else if i = .zoomRomCoef then (if elem < halfBandM inst then romCoef inst (elem + 1) else 0)
  else if i = .timingPortCal then portCal inst elem
  else if i = .timingRefStatus then refStatus inst s
  else if i = .timingRefOffset then wrapTo 64 (refOffset inst s)
  else if i = .timingPhaseDebt then wrapTo 64 (debtNow s)
  else if i = .timingSrcLagMin then wrapTo 32 (srcLag (sFind s.time.lagMin inst))
  else if i = .timingSrcLagMax then wrapTo 32 (srcLag (sFind s.time.lagMax inst))
  else if i = .memChanStatus then chanStatus inst s
  else if i = .memRegionBase then ((place inst s).map (·.base)).getD 0
  else if i = .memRegionSize then ((place inst s).map (·.size)).getD 0
  else if i = .faultSticky then s.fault.sticky.toNat
  else if i = .faultClassStatus then classStatus inst s
  else if i = .faultRecoveries then (episode inst s).recoveries
  else if i = .faultBootCount then s.fault.bootCount
  else if i = .faultGauge then gaugeWord inst elem s
  else if i = .faultHubGauge then hubWord inst s
  else if i = .faultBbSeq then s.fault.nextSeq
  else if i = .faultBbState then (if s.fault.frozen then 1 else 0)
  else par i inst elem s

/-! ### Keys (R508, R509, R588, R593) -/

/-- What GROUP and ITEM name. -/
inductive Named where
  | item (i : Item)
  | ctr (c : Ctr)
  | ev (code : Nat)
  | cat (group : Nat)
deriving DecidableEq, Repr

/-- GROUP of a key. -/
def keyGroup (k : Nat) : Nat := k / 2 ^ 24 % 256
/-- INSTANCE of a key. -/
def keyInst (k : Nat) : Nat := k / 2 ^ 12 % 4096
/-- ITEM of a key. -/
def keyNum (k : Nat) : Nat := k % 4096

/-- The ITEM number of an item. -/
def Item.number (i : Item) : Nat := i.desc.num.getD (Config.itemNumber i.index)

/-- What a GROUP and an ITEM number name: the items of the group, then its counters. -/
def namedIn (g n : Nat) : Option Named :=
  if 14 ≤ g then none
  else if n = 0 then some (.cat g)
  else if g = 13 then (if evCodes.contains n then some (.ev n) else none)
  else
    match Item.all.find? fun i => i.desc.group == g && i.desc.num == some n with
    | some i => some (.item i)
    | none =>
      match Ctr.all.find? fun c => c.info.1 == g && c.info.2.2 == n with
      | some c => some (.ctr c)
      | none =>
        (Item.all.find? fun i => i.desc.group == g && i.desc.num.isNone && i.number == n).map .item

/-- The unit kind of a name. -/
def Named.scope : Named → Nat
  | .item i => i.desc.scope
  | .ctr c => c.info.2.1
  | _ => 0

/-- The value type of a name. -/
def Named.ty : Named → PType
  | .item i => i.desc.ty
  | .ctr _ => .cnt
  | .ev _ => .cnt
  | .cat _ => .desc

/-- The names of a group in ascending ITEM order. -/
def groupNames (g : Nat) : List (Nat × Named) :=
  let items := (Item.all.filter (·.desc.group == g)).map fun i => (i.number, Named.item i)
  let ctrs := (Ctr.all.filter (·.info.1 == g)).map fun c => (c.info.2.2, Named.ctr c)
  let evs := if g = 13 then evCodes.map fun c => (c, Named.ev c) else []
  (items ++ ctrs ++ evs).mergeSort fun a b => decide (a.1 ≤ b.1)

/-- Elements of one instance. -/
def Named.elems : Named → Nat
  | .item i => i.desc.elems
  | .cat g => (groupNames g).length
  | _ => 1

/-- An instance of the unit kind exists (R226, R509, R588). -/
def instOk (scope inst : Nat) : Bool :=
  if scope = 17 then
    let k := inst % 256
    decide (inst / 256 < 10 ∧ k < [4, 4, 1, 1, 128, 1, 1, 1, 1, 1].getD (inst / 256) 0)
  else decide (inst < scopeCount scope)

/-- A name's value as the number its type carries (R510), in force or pending. -/
def Named.value (x : Named) (staged : Bool) (inst elem : Nat) (s : State) : Nat :=
  match x with
  | .item i => if staged ∧ i.desc.apply ≠ 0 then parPend i inst elem s else readItem i inst elem s
  | .ctr c => ctrGet c inst (countHolds s)
  | .ev code => sGet (fun _ => 0) s.evCounts code
  | .cat _ => 0

/-- The SAT flag of a counter (R21): it stands at all ones. -/
def Named.sat (x : Named) (inst : Nat) (s : State) : Bool :=
  match x with
  | .ctr c => ctrGet c inst s == ctrMax
  | .ev code => sGet (fun _ => 0) s.evCounts code == ctrMax
  | _ => false

/-- A pending value differs from the value in force (R512, R513). -/
def Named.differs (x : Named) (inst first num : Nat) (s : State) : Bool :=
  match x with
  | .item i => i.desc.apply != 0 && (List.range num).any fun e =>
      parPend i inst (first + e) s != par i inst (first + e) s
  | _ => false

/-! ### The catalogue (R517) -/

/-- UNITS where the spec names the unit of an item (R519, R551). -/
def Item.units (i : Item) : Option Nat :=
  if i ∈ [.faultQuietTime, .faultPlannerPeriod] then some 1
  else if i ∈ [.ingressCloseWait, .corrSealWait, .planCommitLead, .egressTelemetryPeriod, .zcpIdleTimeout,
      .mgmtHbPeriod] then some 2
  else if i ∈ [.timingPortCalUser, .timingOutPeriod, .timingOutWidth, .timingOutMarkOffset, .timingRefOffset,
      .timingPhaseDebt] then some 3
  else if i = .corrChanFreq then some 4
  else if i = .weirAutoEpoch then some 9
  else if i = .corrIntChunks then some 10
  else none

/-- The greatest value of a type. -/
def PType.top : PType → Nat
  | .bool => 1 | .u8 | .enum => 255 | .u16 => 65535 | .u32 | .key => 2 ^ 32 - 1 | .u64 | .sc => 2 ^ 64 - 1
  | .i32 => 2 ^ 31 - 1 | .i64 => 2 ^ 63 - 1 | .f32 => 0x7F7FFFFF | .f64 => 0x7FEFFFFFFFFFFFFF
  | .cnt => ctrMax | .tide | .mask | .addr | .desc => 0

/-- The least value of a type. -/
def PType.bottom : PType → Nat
  | .i32 => 2 ^ 31 | .i64 => 2 ^ 63 | .f32 => 0xFF7FFFFF | .f64 => 0xFFEFFFFFFFFFFFFF | _ => 0

/-- MIN and MAX of a catalogue entry. -/
def PRange.limits (t : PType) : PRange → Nat × Nat
  | .any => (t.bottom, t.top)
  | .between lo hi => (lo, hi)
  | .step lo hi _ => (lo, hi)
  | .zeroOr _ hi => (0, hi)
  | .zeroOrStep _ hi _ => (0, hi)
  | .orFF lo _ => (lo, 255)
  | .sgn n lo hi => (wrapTo n lo, wrapTo n hi)
  | .f32Pos => (1, 0x7F7FFFFF)
  | .f32Between lo hi => (lo, hi)
  | .tide => (0, 0)

/-- An access code as the catalogue codes it. -/
def Acc.code : Acc → Nat
  | .ro => 0 | .rw => 1 | .wo => 2 | .w1c => 3 | .rc => 4

/-- A type whose MIN, MAX and RESET read zero in the catalogue. -/
def PType.wide (t : PType) : Bool := t = .tide || t = .mask || t = .addr || t = .desc

/-- A catalogue entry; SLOT_ID is the reset value of egress.module_id (R231). Fields that the spec does not
state are free (log entry 31). -/
def catEntry (n : Nat) (x : Named) (slot : Nat) : List Byte :=
  let key := match x with
    | .item i => i.index
    | .ctr c => 1000 + c.index
    | _ => 2000 + n
  let rest := Config.catalogueRest key
  let acc := match x with
    | .item i => i.desc.acc
    | _ => .ro
  let apply := match x with
    | .item i => i.desc.apply
    | _ => 0
  let units := match x with
    | .item i => i.units.getD (rest 0)
    | _ => rest 0
  let scope := if x.scope ≤ 25 then x.scope else rest 1
  let insts := if x.scope = 17 then 143 else scopeCount x.scope
  let unit := if x = .item .corrPolderState then 0x100 else rest 2
  let lim := if x.ty.wide then (0, 0) else match x with
    | .item i => i.desc.range.limits i.desc.ty
    | _ => (0, ctrMax)
  let reset := if x.ty.wide then 0 else match x with
    | .item i => if i = .egressModuleId then slot else i.resetAt 0
    | _ => 0
  natBE 2 n ++ natBE 1 x.ty.code ++ natBE 1 (acc.code * 16 + apply) ++ natBE 1 units ++ natBE 1 scope ++
    natBE 2 insts ++ natBE 2 x.elems ++ natBE 2 unit ++ natBE 4 (rest 3) ++ natBE 4 (rest 4) ++
    natBE 8 lim.1 ++ natBE 8 lim.2 ++ natBE 8 reset ++ natBE 4 0

/-- The bytes of one value (R510). -/
def Named.bytes (x : Named) (staged : Bool) (inst elem : Nat) (s : State) : List Byte :=
  match x with
  | .cat g =>
    match (groupNames g)[elem]? with
    | some (n, y) => catEntry n y s.power.slotId
    | none => []
  | _ => natBE x.ty.bytes (x.value staged inst elem s)

/-! ### Requests -/

/-- The mailbox that serves a group (R480, R518); mailbox 0 serves every one. -/
def groupMailbox (g : Nat) : Nat := [0, 1, 2, 2, 3, 4, 5, 6, 7, 8, 9, 0, 0, 0].getD g 0

/-- The mailbox serves the group. -/
def serves (mailbox g : Nat) : Bool := mailbox == 0 || groupMailbox g == mailbox

/-- A string padded with zeros to a multiple of 4 bytes. -/
def pad4 (l : List Byte) : List Byte := l ++ List.replicate ((4 - l.length % 4) % 4) 0

/-- A result entry of a GET (R513); an entry that fails carries no values (log entry 32). -/
def getEntry (mailbox : Nat) (staged : Bool) (req : List Byte) (s : State) : List Byte :=
  let key := beAt req 0 4
  let first := beAt req 4 2
  let num := beAt req 6 2
  let inst := keyInst key
  let bad (code ty : Nat) : List Byte :=
    natBE 4 key ++ natBE 2 code ++ natBE 2 0 ++ natBE 1 ty ++ natBE 1 0 ++ natBE 2 0
  match namedIn (keyGroup key) (keyNum key) with
  | none => bad rBadKey 0
  | some x =>
    if !instOk x.scope inst then bad rBadKey 0
    else if !serves mailbox (keyGroup key) then bad rBadMailbox x.ty.code
    else if x.elems < first + num then bad rBadValue x.ty.code
    else
      let flags := (if x.sat inst s then 1 else 0) + (if x.differs inst first num s then 2 else 0)
      natBE 4 key ++ natBE 2 rOk ++ natBE 2 flags ++ natBE 1 x.ty.code ++ natBE 1 0 ++ natBE 2 num ++
        pad4 ((List.range num).flatMap fun e => x.bytes staged inst (first + e) s)

/-- `n` consecutive pieces of `k` bytes. -/
def piecesOf (k : Nat) : Nat → List Byte → List (List Byte)
  | 0, _ => []
  | n + 1, l => l.take k :: piecesOf k n (l.drop k)

/-- ZCP_PARAM_GET (R513, R514): every value is read in one state, so the counters of a unit are
latched together. -/
def paramGet (c : Ctx) (s : State) : Res :=
  let n := beAt c.payload 0 2
  let flags := beAt c.payload 2 1
  if c.payload.length ≠ 4 + 8 * n then refuse rBadLength s
  else if n = 0 ∨ 256 < n then refuse rBadValue s
  else
    let body := (piecesOf 8 n (c.payload.drop 4)).flatMap fun r => getEntry (c.typ / 256) (bitAt flags 0) r s
    if 8188 < body.length then refuse rBadLength s else answer rOk body s

/-- One entry of a SET (R515). -/
structure SetEntry where
  key : Nat
  first : Nat
  num : Nat
  ty : Nat
  values : List Byte

/-- The bytes of a value of a type code, none for a code that R510 does not give. -/
def typeBytes (code : Nat) : Option Nat :=
  if code = 0 ∨ 17 < code then none
  else some ([0, 1, 1, 2, 4, 8, 4, 8, 4, 8, 1, 12, 8, 16, 4, 8, 16, 48].getD code 1)

/-- The entries of a SET; none where the payload is not `n` whole entries. An entry whose type code
R510 does not give ends the list: it fails, so nothing behind it is read. -/
def setEntries : Nat → List Byte → Option (List SetEntry)
  | 0, l => if l.isEmpty then some [] else none
  | n + 1, l =>
    if l.length < 12 then none
    else
      let num := beAt l 6 2
      let ty := beAt l 8 1
      match typeBytes ty with
      | none => some [⟨beAt l 0 4, beAt l 4 2, num, ty, []⟩]
      | some b =>
        let size := num * b
        let whole := (size + 3) / 4 * 4
        if l.length < 12 + whole then none
        else
          (setEntries n (l.drop (12 + whole))).map fun r =>
            ⟨beAt l 0 4, beAt l 4 2, num, ty, slice l 12 size⟩ :: r

/-- A key that a telemetry list may hold (R250). -/
def telemetryKeyOk (k : Nat) : Bool :=
  k == 0 ||
    match namedIn (keyGroup k) (keyNum k) with
    | none => false
    | some x => instOk x.scope (keyInst k) && decide (x.ty.bytes ≤ 8 ∧ x.elems ≤ 64)

/-- A value lies in the range of what it is written to. -/
def Named.accepts (x : Named) (v : Nat) : Bool :=
  match x with
  | .item i =>
    i.desc.range.ok v &&
      (if i = .egressTelemetryKeys ∨ i = .zcpTelemetryKeys then telemetryKeyOk v else true)
  | _ => v == 0

/-- R474, R521: a rule that forbids the write to a slot. -/
def setForbidden (slot inst : Nat) (x : Named) : Bool :=
  match x with
  | .item i =>
    (i == .moduleDiagPoke && slot != 0) || (i == .zcpRights && (slot != 0 || inst == 0 || inst == 0xFFF))
  | _ => false

/-- Read-only to a SET (R515); a counter is not, since a SET of 0 clears it (R516). -/
def Named.readOnly : Named → Bool
  | .item i => i.desc.acc = .ro
  | .cat _ => true
  | _ => false

/-- The values of an entry. -/
def SetEntry.numbers (e : SetEntry) : List Nat :=
  (piecesOf ((typeBytes e.ty).getD 1) e.num e.values).map beNat

/-- Why an entry fails, in the order of R515; a tide time out of its range is BAD_TIME (R360). -/
def setRefusal (mailbox slot : Nat) (e : SetEntry) : Option Nat :=
  let inst := keyInst e.key
  match namedIn (keyGroup e.key) (keyNum e.key) with
  | none => some rBadKey
  | some x =>
    if (if inst = 0xFFF then e.num != 1 else !instOk x.scope inst) then some rBadKey
    else if !serves mailbox (keyGroup e.key) then some rBadMailbox
    else if setForbidden slot inst x then some rNotPermitted
    else if x.readOnly then some rReadOnly
    else if e.ty ≠ x.ty.code ∨ x.elems < e.first + e.num then some rBadValue
    else if e.numbers.all x.accepts then none
    else some (if x.ty = .tide then rBadTime else rBadValue)

/-! ### Applying values (R511, R512) -/

/-- Set the pending value of an element. -/
def setPend (i : Item) (inst elem v : Nat) (s : State) : State :=
  { s with pend := sPut keyReset s.pend (itemKey i inst elem) v }

/-- What taking a new IMMEDIATE value does beyond holding it: a slew goes on at the new rate from
where it stands, and stops where COMMAND takes the place of SLEW (R413, R414); mem.max_bin is a request for that bin (R447,
R452). -/
def takeImmediate (i : Item) (inst elem v : Nat) (s : State) : State :=
  if i = .faultSticky then
    { s with fault := { s.fault with sticky := s.fault.sticky &&& ~~~(BitVec.ofNat 128 v) } }
  else if i = .timingSlewMax ∧ s.time.slew.isSome then
    setPar i inst elem v { s with time := { s.time with debt := debtNow s, slew := some s.time.now } }
  else if i = .timingRealignMode ∧ v = 0 ∧ s.time.slew.isSome then
    setPar i inst elem v { s with time := { s.time with debt := debtNow s, slew := none } }
  else if i = .memMaxBin then requestSpeed inst v (setPar i inst elem v s)
  else setPar i inst elem v s

/-- A BOUNDARY item takes its pending values (R511). -/
def takeBoundary (i : Item) (inst : Nat) (s : State) : State :=
  (List.range i.desc.elems).foldl (fun x e => setPar i inst e (parPend i inst e x) x)
    { s with boundary := s.boundary.filter (·.1 != itemKey i inst 0) }

/-- Write one element (R511). -/
def applyElem (i : Item) (inst elem v : Nat) (s : State) : State :=
  if i.desc.apply = 0 then takeImmediate i inst elem v s
  else
    let s1 := setPend i inst elem v s
    if i.desc.apply ≠ 1 then s1
    else if s1.plan.running.isNone then takeBoundary i inst s1
    else
      let k := itemKey i inst 0
      { s1 with boundary := (s1.boundary.filter (·.1 != k)) ++ [(k, s1.time.now)] }

/-- Write the values of an entry to one instance. -/
def applyInst (x : Named) (inst first : Nat) (l : List Nat) (s : State) : State :=
  match x with
  | .item i => (l.foldl (fun (a : Nat × State) v => (a.1 + 1, applyElem i inst a.1 v a.2)) (first, s)).2
  | .ctr c => if l.isEmpty then s else ctrClear c inst s
  | .ev code => if l.isEmpty then s else { s with evCounts := sPut (fun _ => 0) s.evCounts code 0 }
  | .cat _ => s

/-- The instances of a unit kind (R515: every instance in range). -/
def allInsts (scope : Nat) : List Nat :=
  if scope = 17 then (List.range 2560).filter (instOk 17) else List.range (scopeCount scope)

/-- Apply an entry of a SET. -/
def applyEntry (s : State) (e : SetEntry) : State :=
  match namedIn (keyGroup e.key) (keyNum e.key) with
  | none => s
  | some x =>
    if keyInst e.key = 0xFFF then
      (allInsts x.scope).foldl (fun y n => applyInst x n e.first e.numbers y) s
    else applyInst x (keyInst e.key) e.first e.numbers s

/-- The first entry that fails, with its RESULT. -/
def firstRefusal (mailbox slot : Nat) : Nat → List SetEntry → Option (Nat × Nat)
  | _, [] => none
  | n, e :: r =>
    match setRefusal mailbox slot e with
    | some code => some (n, code)
    | none => firstRefusal mailbox slot (n + 1) r

/-- ZCP_PARAM_SET (R515): checks every entry, then applies all of them or none. -/
def paramSet (c : Ctx) (s : State) : Res :=
  let n := beAt c.payload 0 2
  if c.payload.length < 4 then refuse rBadLength s
  else if n = 0 ∨ 256 < n then refuse rBadValue s
  else
    match setEntries n (c.payload.drop 4) with
    | none => refuse rBadLength s
    | some l =>
      match firstRefusal (c.typ / 256) c.slot 0 l with
      | some (k, code) => answer code (natBE 2 k ++ natBE 2 0) s
      | none => answer rOk (natBE 2 0xFFFF ++ natBE 2 0) (l.foldl applyEntry s)

/-- ZCP_PARAM_GET: n = 0x00 in mailboxes 0 to 9 (R480). -/
def execZcpParamGet (t : Nat) (d : Dgram) (s : State) : Host.Outcome State Fault Refusal :=
  act t (arrive (fun typ => typ % 256 == 0 && decide (typ / 256 ≤ 9)) paramGet (fun _ x => x) d) s

/-- ZCP_PARAM_SET: n = 0x01 in mailboxes 0 to 9 (R480). -/
def execZcpParamSet (t : Nat) (d : Dgram) (s : State) : Host.Outcome State Fault Refusal :=
  act t (arrive (fun typ => typ % 256 == 1 && decide (typ / 256 ≤ 9)) paramSet (fun _ x => x) d) s

/-- A main integration boundary of the plan in force lies in tide time between the first instant at
which a value set at `since` may act and now (R511). -/
def boundaryPassed (since : Nat) (s : State) : Bool :=
  match s.plan.running with
  | none => true
  | some p =>
    let unit := p.intLen 0 * p.t
    let ago := s.time.now - (since + msT 20)
    let now := tideSc s.time.tide s
    decide (since + msT 20 ≤ s.time.now) &&
      (decide (now / unit * unit = now && scTide now s = s.time.tide) ||
        decide (tideSc (s.time.tide - ago) s / unit < now / unit) ||
        decide (scTide (tideSc (s.time.tide - ago) s / unit * unit) s = s.time.tide - ago))

/-- BOUNDARY_ITEM_APPLY (R511). -/
def execBoundaryItemApply (t : Nat) (i : Item) (inst : Fin 4096) (s : State) : Host.Outcome State Fault Refusal :=
  act t (fun x =>
    match x.boundary.find? (·.1 == itemKey i inst 0) with
    | none => x
    | some (_, since) => if boundaryPassed since x then takeBoundary i inst x else x) s

/-! ### TELEMETRY (R250, R491) -/

/-- The value field of a telemetry entry (R250). -/
def telemetryField (x : Named) (v : Nat) : Nat := if x.ty = .i32 then wrapTo 64 (signed 32 v) else v

/-- The entries of one listed key. -/
def telemetryOf (key : Nat) (s : State) : List (List Byte) :=
  match namedIn (keyGroup key) (keyNum key) with
  | none => []
  | some x =>
    (List.range x.elems).map fun e =>
      natBE 4 key ++ natBE 2 (if x.sat (keyInst key) s then 1 else 0) ++ natBE 2 e ++
        natBE 8 (telemetryField x (x.value false (keyInst key) e s))

/-- The entries of a list of keys, in array order; 0 is unused. -/
def telemetryEntries (i : Item) (inst : Nat) (s : State) : List (List Byte) :=
  ((List.range 1024).map fun e => par i inst e s).flatMap fun k => if k = 0 then [] else telemetryOf k s

end Sys2Proof.Machine
end

