-- ==== Sys2Proof/Machine/SluiceCode.lean ====
section
/-! DEFINITION. Sluice bundles: fetch, encodings, what each slot computes, addressing modes and
control flow (R311, R320 to R336). -/

namespace Sys2Proof.Machine

/-! ### Bundles (R320, R321, R323) -/

/-- The class of an instruction word. -/
def wClass (w : Nat) : Nat := field w 26 4

/-- The OP field of a word by its class; 0 where the class has none. -/
def wOp (w : Nat) : Nat :=
  let c := wClass w
  if c = 1 ∨ c = 6 then field w 23 3
  else if c = 4 ∨ c = 5 ∨ c = 8 ∨ c = 9 then 0
  else field w 22 4

/-- Which instruction a word is: class and OP. -/
def wRow (w : Nat) : Nat × Nat := (wClass w, wOp w)

/-- The class fits the compute slot. -/
def isCompute (w : Nat) : Bool := wClass w ∈ [1, 2, 3, 9]

/-- The class fits the memory slot. -/
def isMemory (w : Nat) : Bool := wClass w ∈ [0, 4, 5, 6, 7]

/-- An ALU operation whose second source is a shift amount (R322). -/
def isShift (op : Nat) : Bool := decide (5 ≤ op) && decide (op ≤ 7)

/-- An ALU operation that reads its second source as a value. -/
def aluTwo (op : Nat) : Bool := op ∈ [0, 1, 2, 3, 4, 10, 11, 13, 14]

/-- Pairs are named by even numbers (R316). -/
def aluPairsOk (w : Nat) : Bool :=
  field w 20 1 == 0 ||
    (field w 15 5 % 2 == 0 && field w 10 5 % 2 == 0 && (!aluTwo (field w 22 4) || field w 5 5 % 2 == 0))

/-- A word on its own breaks none of R316 and R323. -/
def wordOk (w : Nat) : Bool :=
  let c := wClass w
  let op := wOp w
  if c = 0 then decide (op ≤ 9) && (op != 1 || decide (field w 19 3 ≤ 4)) && (op != 4 || field w 0 10 != 0)
  else if c = 1 then decide (op ≤ 4) && field w 0 9 == 0
  else if c = 2 then decide (op ≤ 14) && field w 0 4 == 0 && aluPairsOk w
  else if c = 3 then
    decide (op ≤ 7) && field w 0 4 == 0 &&
      (field w 20 1 == 0 || !(op == 5 || op == 7) || field w 11 5 % 2 == 0)
  else if c = 4 then
    decide (field w 24 2 ≤ 2) && decide (field w 12 3 ≤ 5) && (field w 24 2 != 1 || field w 15 5 % 2 == 0)
  else if c = 5 then
    decide (field w 24 2 ≤ 1) && decide (field w 12 3 ≤ 5) && (field w 24 2 != 1 || field w 15 5 % 2 == 0)
  else if c = 6 then decide (op ≤ 4)
  else if c = 7 then decide (op ≤ 5) && field w 0 5 == 0 && (op == 5 || field w 17 5 % 2 == 0)
  else if c = 8 then field w 0 13 == 0
  else if c = 9 then field w 0 5 == 0
  else if c = 15 then decide (op ≤ 3) && field w 0 7 == 0 && (op != 0 || field w 17 5 % 2 == 0)
  else false

/-- A bundle: its compute word, its memory word, FTAP or LONG word with that word's address, the
immediate of LONG, its length in words, and NI. -/
structure Bundle where
  comp : Option Nat
  mem : Option Nat
  memAt : Nat
  imm : Nat
  len : Nat
  ni : Bool
deriving DecidableEq, Repr

/-- R320 to R323: the bundle at a word address; none is ILLEGAL. -/
def fetchBundle (prog : Sparse Nat) (pc : Nat) : Option Bundle :=
  let w := sGet (fun _ => 0) prog pc
  let x := sGet (fun _ => 0) prog (pc + 1)
  let more := bitAt w 31
  let room := decide (pc + 1 ≤ 16383)
  if 16383 < pc ∨ !wordOk w then none
  else if wClass w = 15 then
    if more ∧ room ∧ !bitAt x 31 then
      some { comp := none, mem := some w, memAt := pc, imm := x % 2 ^ 32, len := 2, ni := bitAt x 30 }
    else none
  else if isCompute w then
    if !more then some { comp := some w, mem := none, memAt := pc, imm := 0, len := 1, ni := bitAt w 30 }
    else if room ∧ isMemory x ∧ wordOk x ∧ !bitAt x 31 then
      some { comp := some w, mem := some x, memAt := pc + 1, imm := 0, len := 2, ni := bitAt x 30 }
    else none
  else if more then none
  else some { comp := none, mem := some w, memAt := pc, imm := 0, len := 1, ni := bitAt w 30 }

/-- The bundle holds the instruction of a row. -/
def Bundle.has (b : Bundle) (row : Nat × Nat) : Bool :=
  (b.comp.map wRow == some row) || (b.mem.map wRow == some row)

/-! ### Fitting results (R332) -/

/-- A fitted result: the bits, and whether SV or OV is set. -/
structure Fit where
  bits : Nat
  sv : Bool
  ov : Bool
deriving DecidableEq, Repr

/-- An exact result fitted to `n` bits; a clamp is to `cl` bits. -/
def fit (n cl : Nat) (sat : Bool) (v : Int) : Fit :=
  let hi : Int := 2 ^ (cl - 1) - 1
  let lo : Int := -(2 ^ (cl - 1))
  if sat then
    let w := if hi < v then hi else if v < lo then lo else v
    ⟨wrapTo n w, w != v, false⟩
  else ⟨wrapTo n v, false, signed n (wrapTo n v) != v⟩

/-- A result that sets no flag. -/
def plain (n : Nat) (v : Int) : Fit := ⟨wrapTo n v, false, false⟩

/-- The product of R332. -/
def product (frac : Bool) (x y : Int) : Int := if frac then 2 * x * y else x * y

/-- An ALU result of width `n` (R322, R332). -/
def aluResult (op n : Nat) (sat : Bool) (x y : Int) (ux uy k : Nat) : Fit :=
  match op with
  | 0 => fit n n sat (x + y)
  | 1 => fit n n sat (x - y)
  | 2 => ⟨ux &&& uy, false, false⟩
  | 3 => ⟨ux ||| uy, false, false⟩
  | 4 => ⟨ux ^^^ uy, false, false⟩
  | 5 => if n ≤ k then plain n 0 else fit n n sat (x * 2 ^ k)
  | 6 => plain n (if n ≤ k then (if x < 0 then -1 else 0) else x / 2 ^ k)
  | 7 => ⟨if n ≤ k then 0 else ux / 2 ^ k, false, false⟩
  | 8 => fit n n sat (if x < 0 then -x else x)
  | 9 => fit n n sat (-x)
  | 10 => plain n (min x y)
  | 11 => plain n (max x y)
  | 12 => plain n x
  | 13 => plain n (if x < y then 1 else 0)
  | _ => plain n (if x = y then 1 else 0)

/-- What a word computes: register results with their latencies, and the sticky flags. -/
structure Slot2 where
  wr : List (SReg × Nat × Nat)
  sv : Bool
  ov : Bool
deriving DecidableEq, Repr

/-- No result. -/
def Slot2.empty : Slot2 := ⟨[], false, false⟩

/-- The writes of a D register. -/
def toD (c : Core) (n v lat : Nat) : List (SReg × Nat × Nat) := [(c.physD n, v % 65536, lat)]

/-- The writes of a D-register pair. -/
def toPair (c : Core) (n v lat : Nat) : List (SReg × Nat × Nat) :=
  toD c n v lat ++ toD c (n + 1) (v / 65536) lat

/-- The writes of a D register or of a pair. -/
def toDW (c : Core) (wide : Bool) (n v lat : Nat) : List (SReg × Nat × Nat) :=
  if wide then toPair c n v lat else toD c n v lat

/-- MAC class: MPY, MAC, MSU, MPYSU, MACSU. -/
def macWord (c : Core) (w : Nat) : Slot2 :=
  let op := wOp w
  let ad := field w 19 2
  let x := signed 16 (c.d (field w 14 5))
  let y := if op = 3 ∨ op = 4 then (c.d (field w 9 5) : Int) else signed 16 (c.d (field w 9 5))
  let p := product (bitAt w 21) x y
  let old := signed 40 (c.accNow ad)
  let v := if op = 1 ∨ op = 4 then old + p else if op = 2 then old - p else p
  let f := fit 40 32 (bitAt w 22) v
  ⟨[(.a c.inHandler ad, f.bits, 3)], f.sv, f.ov⟩

/-- ALU class. -/
def aluWord (c : Core) (w : Nat) : Slot2 :=
  let op := wOp w
  let wide := bitAt w 20
  let n := if wide then 32 else 16
  let rd := fun (r : Nat) => if wide then c.pair r else c.d r
  let ux := rd (field w 10 5)
  let uy := if aluTwo op then rd (field w 5 5) else 0
  let k := if bitAt w 4 then field w 5 5 else c.d (field w 5 5) % 32
  let f := aluResult op n (bitAt w 21) (signed n ux) (signed n uy) ux uy k
  ⟨toDW c wide (field w 15 5) f.bits 1, f.sv, f.ov⟩

/-- ACC class. -/
def accWord (c : Core) (w : Nat) : Slot2 :=
  let op := wOp w
  let sat := bitAt w 21
  let wide := bitAt w 20
  let ad := field w 18 2
  let dd := field w 11 5
  let sh := field w 5 6
  let a := signed 40 (c.a ad)
  let b := signed 40 (c.a (field w 16 2))
  let toA := fun (f : Fit) => (⟨[(.a c.inHandler ad, f.bits, 1)], f.sv, f.ov⟩ : Slot2)
  match op with
  | 0 => toA (fit 40 32 sat (a + b))
  | 1 => toA (fit 40 32 sat (a - b))
  | 2 => toA (if 40 ≤ sh then plain 40 0 else fit 40 32 sat (b * 2 ^ sh))
  | 3 => toA (if 40 ≤ sh then plain 40 (if b < 0 then -1 else 0) else fit 40 32 sat (b / 2 ^ sh))
  | 4 => toA (plain 40 0)
  | 5 =>
    let half : Int := if bitAt w 4 ∧ 0 < sh then 2 ^ (sh - 1) else 0
    let n := if wide then 32 else 16
    let f := fit n n sat ((b + half) / 2 ^ sh)
    ⟨toDW c wide dd f.bits 1, f.sv, f.ov⟩
  | 6 => toA (plain 40 b)
  | _ => toA (plain 40 (if wide then signed 32 (c.pair dd) else signed 16 (c.d dd)))

/-- The compute word of a bundle; class IMM moves a 16-bit immediate. -/
def computeWord (c : Core) (w : Nat) : Slot2 :=
  if wClass w = 1 then macWord c w
  else if wClass w = 2 then aluWord c w
  else if wClass w = 3 then accWord c w
  else ⟨toD c (field w 21 5) (field w 5 16) 1, false, false⟩

/-! ### Addressing (R324 to R327) -/

/-- Reverse the order of `b` bits. -/
def revBits (b v : Nat) : Nat :=
  (List.range b).foldl (fun a i => if bitAt v i then a + 2 ^ (b - 1 - i) else a) 0

/-- ceil(log2 n). -/
def ceilLog2 (n : Nat) : Nat := ((List.range 18).find? fun c => decide (n ≤ 2 ^ c)).getD 18

/-- R327: the pointer after a post-modification by `v`; `free` stands for the value that the spec
does not give where LEN or BITS is out of range. -/
def postMod (c : Core) (n : Nat) (v : Int) (free : Nat) : Nat :=
  let p := c.p n
  let mode := c.reg (.cr (16 + n))
  let len := field mode 4 17
  let b := field mode 21 5
  if mode % 4 = 0 ∨ (c.inHandler ∧ n < 8) then wrapTo 32 (p + v)
  else if mode % 4 = 1 then
    if len < 2 ∨ 65536 < len ∨ len % 2 = 1 then free
    else
      let base := p / 2 ^ ceilLog2 len * 2 ^ ceilLog2 len
      (base + (((p - base : Nat) : Int) + v).emod len |>.toNat) % 2 ^ 32
  else if b < 1 ∨ 16 < b then free
  else
    let e := field p 1 b
    let e' := revBits b (((revBits b e : Int) + v / 2).emod (2 ^ b)).toNat
    p - e * 2 + e' * 2

/-- The access of a LOAD or STORE: its address, and the pointer write. -/
def access (c : Core) (w free : Nat) : Nat × List (SReg × Nat × Nat) :=
  let n := field w 20 4
  let p := c.p n
  let z := if field w 24 2 = 1 then 4 else 2
  let off := field w 0 12 * z
  let after := fun (v : Int) => [(c.physP n, postMod c n v free, 1)]
  match field w 12 3 with
  | 0 => (p, [])
  | 1 => (p, after z)
  | 2 => (p, after (-(z : Int)))
  | 3 => (p, after (signed 32 (c.p (field w 8 4))))
  | 4 => ((p + off) % 2 ^ 32, [])
  | _ => (p, after off)

/-- ADDRESS or ALIGN (R324), as TRAP_CAUSE. -/
def addrTrap (a z : Nat) : Option Nat := if 0x20000 ≤ a then some 2 else if a % z ≠ 0 then some 3 else none

/-! ### The memory slot -/

/-- Where issue goes after a bundle (R331, R336, R341, R342, R344). -/
inductive Flow where
  /-- In sequence. -/
  | seq
  /-- A taken branch, to a word address. -/
  | jump (target : Int)
  /-- LOOP with a count of 0: to a word address, without bubbles. -/
  | skip (target : Nat)
  | reti
  | wait
  | halt
deriving DecidableEq, Repr

/-- What the memory word, FTAP or LONG word of a bundle does. -/
structure MemDo where
  slot : Slot2
  flow : Flow
  trap : Option Nat
  store : Option (Nat × List Byte)
  /-- A control register and the value written to it. -/
  cr : Option (Nat × Nat)
  /-- EI or DI. -/
  ie : Option Bool
  /-- LS, LE and LC that LOOP sets. -/
  loop : Option (Nat × Nat × Nat)
  /-- CYCLE_LO is read. -/
  latch : Bool
deriving DecidableEq, Repr

/-- A word without effect. -/
def MemDo.nop : MemDo :=
  { slot := Slot2.empty, flow := .seq, trap := none, store := none, cr := none, ie := none, loop := none,
    latch := false }

/-- Register results alone. -/
def MemDo.regs (l : List (SReg × Nat × Nat)) : MemDo := { MemDo.nop with slot := ⟨l, false, false⟩ }

/-- A branch condition (R322). -/
def condHolds (cond d : Nat) : Bool :=
  match cond with
  | 0 => true
  | 1 => d == 0
  | 2 => d != 0
  | 3 => decide (0x8000 ≤ d)
  | _ => decide (d < 0x8000)

/-- LOOP at word address `at_` (R335, R340). Where a loop is active in a handler both LOOP_NEST and
HANDLER apply. -/
def loopWord (c : Core) (w at_ : Nat) (pick : Bool) : MemDo :=
  let active := c.reg (.cr 2) % 65536 != 0
  let n := if bitAt w 20 then c.d (field w 15 5) else field w 10 10
  let le := at_ + field w 0 10
  if active ∧ c.inHandler then { MemDo.nop with trap := some (if pick then 4 else 5) }
  else if c.inHandler then { MemDo.nop with trap := some 5 }
  else if active then { MemDo.nop with trap := some 4 }
  else
    { MemDo.nop with
      loop := some ((at_ + 1) % 2 ^ 14, le % 2 ^ 14, (if bitAt w 21 then 65536 else 0) + n)
      flow := if n = 0 then .skip (le + 1) else .seq }

/-- CTRL class; `next` is the address of the next bundle. -/
def ctrlWord (c : Core) (w at_ next : Nat) (pick : Bool) : MemDo :=
  let target : Int := at_ + signed 14 (field w 0 14)
  match wOp w with
  | 0 => MemDo.nop
  | 1 => if condHolds (field w 19 3) (c.d (field w 14 5)) then { MemDo.nop with flow := .jump target } else MemDo.nop
  | 2 => { MemDo.regs [(.cr 5, next, 1)] with flow := .jump target }
  | 3 => { MemDo.nop with flow := .jump (c.reg (.cr 5)) }
  | 4 => loopWord c w at_ pick
  | 5 => if c.inHandler then { MemDo.nop with flow := .reti } else { MemDo.nop with trap := some 5 }
  | 6 => { MemDo.nop with flow := .wait }
  | 7 => { MemDo.nop with flow := .halt }
  | 8 => { MemDo.nop with ie := some true }
  | _ => { MemDo.nop with ie := some false }

/-- LOAD (R324). -/
def loadWord (c : Core) (w free : Nat) : MemDo :=
  let size := field w 24 2
  let z := if size = 1 then 4 else 2
  let (a, ptr) := access c w free
  match addrTrap a z with
  | some t => { MemDo.nop with trap := some t }
  | none =>
    let v := leNat (Memory.read c.data a z)
    let dst := if size = 2 then [(SReg.a c.inHandler (field w 15 2), wrapTo 40 (signed 16 v), 2)]
      else if size = 1 then toPair c (field w 15 5) v 2 else toD c (field w 15 5) v 2
    MemDo.regs (dst ++ ptr)

/-- STORE (R324). -/
def storeWord (c : Core) (w free : Nat) : MemDo :=
  let wide := decide (field w 24 2 = 1)
  let z := if wide then 4 else 2
  let (a, ptr) := access c w free
  match addrTrap a z with
  | some t => { MemDo.nop with trap := some t }
  | none =>
    let v := if wide then c.pair (field w 15 5) else c.d (field w 15 5)
    { MemDo.regs ptr with store := some (a, natLE z v) }

/-- ADDR class (R322): linear arithmetic. -/
def addrWord (c : Core) (w : Nat) : MemDo :=
  let n := field w 19 4
  let p := c.p n
  let m := c.p (field w 15 4)
  let imm := field w 0 15
  let v := match wOp w with
    | 0 => wrapTo 32 (p + signed 15 imm)
    | 1 => (p + m) % 2 ^ 32
    | 2 => wrapTo 32 ((p : Int) - m)
    | 3 => imm * 4
    | _ => m
  MemDo.regs [(c.physP n, v, 1)]

/-- MOVE class. -/
def moveWord (id : Nat) (c : Core) (w : Nat) : MemDo :=
  let dd := field w 17 5
  let n := field w 13 4
  let a := c.a (field w 11 2)
  let k := field w 5 6
  match wOp w with
  | 0 => MemDo.regs [(c.physP n, c.pair dd, 1)]
  | 1 => MemDo.regs (toPair c dd (c.p n) 1)
  | 2 => { MemDo.nop with cr := some (k, c.pair dd) }
  | 3 => { MemDo.regs (toPair c dd (c.crRead id k) 1) with latch := k == 10 }
  | 4 => MemDo.regs (toPair c dd (a % 2 ^ 32) 1)
  | _ => MemDo.regs (toD c dd (wrapTo 16 (signed 8 (a / 2 ^ 32))) 1)

/-- FTAP (R333, R334). -/
def ftapWord (c : Core) (w free : Nat) : MemDo :=
  let ad := field w 24 2
  let pc := field w 20 4
  let ps := field w 16 4
  let ac := c.p pc
  let as_ := c.p ps
  match (addrTrap ac 2).or ((addrTrap as_ 2).or (addrTrap ((as_ + 2) % 2 ^ 32) 2)) with
  | some t => { MemDo.nop with trap := some t }
  | none =>
    let x := Memory.read c.data as_ 2
    let p := product (bitAt w 14) (signed 16 (leNat (Memory.read c.data ac 2))) (signed 16 (leNat x))
    let v := if bitAt w 13 then p else signed 40 (c.accNow ad) + p
    let f := fit 40 32 (bitAt w 15) v
    let ptr := if pc = ps then [(c.physP pc, free, 1)]
      else [(c.physP pc, postMod c pc 2 free, 1), (c.physP ps, postMod c ps (-2) free, 1)]
    { MemDo.nop with
      slot := ⟨(.a c.inHandler ad, f.bits, 3) :: ptr, f.sv, f.ov⟩
      store := some (as_ + 2, x) }

/-- LONG class. -/
def longWord (c : Core) (w imm : Nat) : MemDo :=
  match wOp w with
  | 0 => MemDo.regs (toPair c (field w 17 5) imm 1)
  | 1 => MemDo.regs [(c.physP (field w 13 4), imm, 1)]
  | 2 => { MemDo.nop with cr := some (field w 7 6, imm) }
  | _ => { MemDo.nop with flow := .jump (field imm 0 14) }

/-- The second half of a bundle. -/
def memoryWord (id : Nat) (c : Core) (b : Bundle) (free : Nat) (pick : Bool) : MemDo :=
  match b.mem with
  | none => MemDo.nop
  | some w =>
    let k := wClass w
    if k = 0 then ctrlWord c w b.memAt (c.pc + b.len) pick
    else if k = 4 then loadWord c w free
    else if k = 5 then storeWord c w free
    else if k = 6 then addrWord c w
    else if k = 7 then moveWord id c w
    else if k = 8 then ftapWord c w free
    else longWord c w b.imm

end Sys2Proof.Machine
end

