-- ==== Sys2Proof/Machine/Sluice.lean ====
section
/-! DEFINITION. A sluice core issues a bundle: results, loop closes, traps and boundaries; one row
per instruction, then interrupts and the register writes that are commands of their own (R320 to
R349). -/

namespace Sys2Proof.Machine

/-- The loop that is active closes with this bundle (R336). -/
def closes (c : Core) (b : Bundle) (f : Flow) : Bool :=
  c.reg (.cr 2) % 65536 != 0 && decide (c.pc ≤ c.reg (.cr 4)) && decide (c.reg (.cr 4) < c.pc + b.len) &&
    (match f with
      | .seq => true
      | .wait => true
      | .halt => true
      | _ => false)

/-- The word address after a bundle. -/
def nextPc (c : Core) (b : Bundle) (f : Flow) : Int :=
  match f with
  | .jump t => t
  | .skip t => t
  | .reti => c.reg (.cr 6)
  | _ => if closes c b f ∧ 1 < c.reg (.cr 2) % 65536 then c.reg (.cr 3) else c.pc + b.len

/-- R323: the next address exists; HALT goes to none, and its PC wraps at 14 bits (R314). -/
def nextOk (c : Core) (b : Bundle) (f : Flow) : Bool :=
  f == .halt || (decide (0 ≤ nextPc c b f) && decide (nextPc c b f ≤ 16383))

/-- Cycles that a bundle and its bubbles take (R331, R341). -/
def Flow.cycles : Flow → Nat
  | .jump _ => 3
  | .reti => 4
  | _ => 1

/-- The results of a bundle are issued; the memory word's stands where both name a register (R329). -/
def pushAll (c : Core) (comp mem : Slot2) : Core :=
  let keep := comp.wr.filter fun x => mem.wr.all fun y => y.1 != x.1
  (keep ++ mem.wr).foldl (fun x w => x.push w.1 w.2.1 w.2.2) c

/-- SV and OV are set (R318). -/
def setFlags (c : Core) (sv ov : Bool) : Core :=
  let r := SReg.sw c.inHandler
  c.setReg r (c.reg r ||| (if sv then 1 else 0) ||| (if ov then 2 else 0))

/-- R336: what a loop close does to LC and RRB, LC becoming 0 with the last; a write of the bundle itself
to either stands. -/
def loopClose (c : Core) (rrbWas lcWas : Nat) : Core :=
  let lc := if lcWas % 65536 = 1 then 0 else lcWas - 1
  let c1 := if c.reg (.cr 2) = lcWas then c.setReg (.cr 2) lc else c
  if bitAt lcWas 16 ∧ c1.rrb = rrbWas then
    c1.setReg (.rrb c1.inHandler) (rrbWas / 16 * 16 + (rrbWas % 16 + 1) % c1.window)
  else c1

/-- EI, DI and LOOP. -/
def Core.control (c : Core) (m : MemDo) : Core :=
  let sw := SReg.sw c.inHandler
  let c1 := match m.ie with
    | some b => c.setReg sw (setBit (c.reg sw) 2 b)
    | none => c
  match m.loop with
  | some (ls, le, lc) => ((c1.setReg (.cr 3) ls).setReg (.cr 4) le).setReg (.cr 2) lc
  | none => c1

/-- What held in the cycle of a bundle (R337). -/
def Core.noteCycle (c : Core) (ni : Bool) : Core :=
  { c with
    lastIssue := c.cycle
    lastNI := ni
    lastIE := bitAt (c.reg (.sw false)) 2 && !c.inHandler
    lastEN := c.reg (.cr 7)
    lastPend := (c.tick c.cycle 1).irqPend }

/-- R341: the banks swap back once the handler's results have landed. -/
def Core.leaveHandler (c : Core) : Core := { c.landAll with inHandler := false }

/-- The core state after a bundle. -/
def Flow.state : Flow → CoreState
  | .wait => .waiting
  | .halt => .halted
  | _ => .running

/-- A legal bundle issues in cycle `c.cycle`; `c` holds the results that have landed. TIMER is set after what
the bundle itself writes (R19). -/
def issue (n : Nat) (c : Core) (b : Bundle) (m : MemDo) (s : State) : State :=
  let comp := match b.comp with
    | some w => computeWord c w
    | none => Slot2.empty
  let c1 := pushAll (c.noteCycle b.ni) comp m.slot
  let c2 := match m.store with
    | some (a, bytes) => { c1 with data := Memory.write c1.data a bytes }
    | none => c1
  let c3 := if m.latch then c2.latch else c2
  let s1 := setCore n c3 s
  let s2 := match m.cr with
    | some (k, v) => writeCr n k v s1
    | none => s1
  let c4 := setFlags ((core n s2).control m) (comp.sv || m.slot.sv) (comp.ov || m.slot.ov)
  let c4a := if c.timerHit c.cycle 1 then c4.request 2 else c4
  let c5 := if closes c b m.flow then loopClose c4a c.rrb (c.reg (.cr 2)) else c4a
  let k := m.flow.cycles
  let c6 := { c5.tick (c.cycle + 1) (k - 1) with
    pc := (nextPc c b m.flow).toNat % 2 ^ 14
    cycle := (c.cycle + k) % 2 ^ 64 }
  let c7 := if m.flow = .reti then c6.leaveHandler else if m.flow = .halt then c6.landAll else c6
  let s3 := coreState n m.flow.state (setCore n c7 (count .bundles n 1 s2))
  if (core n s3).stopSince.isSome ∧ !b.ni then stopNow n s3 else s3

/-- A corrected SRAM error of a core is counted (R311). -/
def countEcc (e : Ecc) (n : Nat) (s : State) : State := if e = .corrected then count .sramCorr n 1 s else s

/-- A core reaches its next bundle and the row is one of the bundle's instructions: the bundle traps
or issues (R311, R320, R323, R343); of a STOCK core's own code only the count shows (log entry 79). Free values for the bundle are drawn beside it. -/
def runBundle (row : Nat × Nat) (n : Nat) (ecc : Ecc) (s : State) : State :=
  let c := (core n s).land (core n s).cycle
  if (core n s).state ≠ .running then s
  else if ecc = .uncorrectable then trapCore n 6 s
  else if !c.host then count .bundles n 1 (countEcc ecc n s)
  else match fetchBundle c.prog c.pc with
    | none => trapCore n 1 (countEcc ecc n s)
    | some b =>
      if !b.has row then s
      else
        let (f, s1) := drawFree (countEcc ecc n s)
        let m := memoryWord n c b (Config.freeWord f % 2 ^ 32) (Config.freeChoice f)
        if !nextOk c b m.flow then trapCore n 1 s1
        else match m.trap with
          | some cause => trapCore n cause s1
          | none => issue n c b m s1

/-- The form of every instruction's meaning. -/
def sluiceRow (row : Nat × Nat) (n : Nat) (ecc : Ecc) (s : State) : Host.Outcome State Fault Refusal :=
  .next (settle (runBundle row n ecc s))

/-! ### MAC class -/

/-- MPY (R322). -/
def execMpy (n : Fin 64) (ecc : Ecc) (s : State) : Host.Outcome State Fault Refusal := sluiceRow (1, 0) n ecc s
/-- MAC (R322). -/
def execMac (n : Fin 64) (ecc : Ecc) (s : State) : Host.Outcome State Fault Refusal := sluiceRow (1, 1) n ecc s
/-- MSU (R322). -/
def execMsu (n : Fin 64) (ecc : Ecc) (s : State) : Host.Outcome State Fault Refusal := sluiceRow (1, 2) n ecc s
/-- MPYSU (R322). -/
def execMpysu (n : Fin 64) (ecc : Ecc) (s : State) : Host.Outcome State Fault Refusal := sluiceRow (1, 3) n ecc s
/-- MACSU (R322). -/
def execMacsu (n : Fin 64) (ecc : Ecc) (s : State) : Host.Outcome State Fault Refusal := sluiceRow (1, 4) n ecc s

/-! ### ALU class -/

/-- ADD (R322). -/
def execAdd (n : Fin 64) (ecc : Ecc) (s : State) : Host.Outcome State Fault Refusal := sluiceRow (2, 0) n ecc s
/-- SUB (R322). -/
def execSub (n : Fin 64) (ecc : Ecc) (s : State) : Host.Outcome State Fault Refusal := sluiceRow (2, 1) n ecc s
/-- AND (R322). -/
def execAnd (n : Fin 64) (ecc : Ecc) (s : State) : Host.Outcome State Fault Refusal := sluiceRow (2, 2) n ecc s
/-- OR (R322). -/
def execOr (n : Fin 64) (ecc : Ecc) (s : State) : Host.Outcome State Fault Refusal := sluiceRow (2, 3) n ecc s
/-- XOR (R322). -/
def execXor (n : Fin 64) (ecc : Ecc) (s : State) : Host.Outcome State Fault Refusal := sluiceRow (2, 4) n ecc s
/-- SHL (R322, R332). -/
def execShl (n : Fin 64) (ecc : Ecc) (s : State) : Host.Outcome State Fault Refusal := sluiceRow (2, 5) n ecc s
/-- SHRA (R322, R332). -/
def execShra (n : Fin 64) (ecc : Ecc) (s : State) : Host.Outcome State Fault Refusal := sluiceRow (2, 6) n ecc s
/-- SHRL (R322, R332). -/
def execShrl (n : Fin 64) (ecc : Ecc) (s : State) : Host.Outcome State Fault Refusal := sluiceRow (2, 7) n ecc s
/-- ABS (R322, R332). -/
def execAbs (n : Fin 64) (ecc : Ecc) (s : State) : Host.Outcome State Fault Refusal := sluiceRow (2, 8) n ecc s
/-- NEG (R322, R332). -/
def execNeg (n : Fin 64) (ecc : Ecc) (s : State) : Host.Outcome State Fault Refusal := sluiceRow (2, 9) n ecc s
/-- MIN (R322). -/
def execMin (n : Fin 64) (ecc : Ecc) (s : State) : Host.Outcome State Fault Refusal := sluiceRow (2, 10) n ecc s
/-- MAX (R322). -/
def execMax (n : Fin 64) (ecc : Ecc) (s : State) : Host.Outcome State Fault Refusal := sluiceRow (2, 11) n ecc s
/-- MOV (R322). -/
def execMov (n : Fin 64) (ecc : Ecc) (s : State) : Host.Outcome State Fault Refusal := sluiceRow (2, 12) n ecc s
/-- CMPLT (R322). -/
def execCmplt (n : Fin 64) (ecc : Ecc) (s : State) : Host.Outcome State Fault Refusal := sluiceRow (2, 13) n ecc s
/-- CMPEQ (R322). -/
def execCmpeq (n : Fin 64) (ecc : Ecc) (s : State) : Host.Outcome State Fault Refusal := sluiceRow (2, 14) n ecc s

/-! ### ACC class -/

/-- ADDA (R322). -/
def execAdda (n : Fin 64) (ecc : Ecc) (s : State) : Host.Outcome State Fault Refusal := sluiceRow (3, 0) n ecc s
/-- SUBA (R322). -/
def execSuba (n : Fin 64) (ecc : Ecc) (s : State) : Host.Outcome State Fault Refusal := sluiceRow (3, 1) n ecc s
/-- SHLA (R322). -/
def execShla (n : Fin 64) (ecc : Ecc) (s : State) : Host.Outcome State Fault Refusal := sluiceRow (3, 2) n ecc s
/-- SHRA of the ACC class (R322). -/
def execShraAcc (n : Fin 64) (ecc : Ecc) (s : State) : Host.Outcome State Fault Refusal := sluiceRow (3, 3) n ecc s
/-- CLRA (R322). -/
def execClra (n : Fin 64) (ecc : Ecc) (s : State) : Host.Outcome State Fault Refusal := sluiceRow (3, 4) n ecc s
/-- EXT (R322). -/
def execExt (n : Fin 64) (ecc : Ecc) (s : State) : Host.Outcome State Fault Refusal := sluiceRow (3, 5) n ecc s
/-- MOVA (R322). -/
def execMova (n : Fin 64) (ecc : Ecc) (s : State) : Host.Outcome State Fault Refusal := sluiceRow (3, 6) n ecc s
/-- INSA (R322). -/
def execInsa (n : Fin 64) (ecc : Ecc) (s : State) : Host.Outcome State Fault Refusal := sluiceRow (3, 7) n ecc s

/-! ### CTRL class -/

/-- NOP (R322). -/
def execNop (n : Fin 64) (ecc : Ecc) (s : State) : Host.Outcome State Fault Refusal := sluiceRow (0, 0) n ecc s
/-- BR (R322, R331). -/
def execBr (n : Fin 64) (ecc : Ecc) (s : State) : Host.Outcome State Fault Refusal := sluiceRow (0, 1) n ecc s
/-- CALL (R322, R331). -/
def execCall (n : Fin 64) (ecc : Ecc) (s : State) : Host.Outcome State Fault Refusal := sluiceRow (0, 2) n ecc s
/-- RET (R322, R331). -/
def execRet (n : Fin 64) (ecc : Ecc) (s : State) : Host.Outcome State Fault Refusal := sluiceRow (0, 3) n ecc s
/-- LOOP (R335). -/
def execLoop (n : Fin 64) (ecc : Ecc) (s : State) : Host.Outcome State Fault Refusal := sluiceRow (0, 4) n ecc s
/-- RETI (R341). -/
def execReti (n : Fin 64) (ecc : Ecc) (s : State) : Host.Outcome State Fault Refusal := sluiceRow (0, 5) n ecc s
/-- WAIT (R342). -/
def execWait (n : Fin 64) (ecc : Ecc) (s : State) : Host.Outcome State Fault Refusal := sluiceRow (0, 6) n ecc s
/-- HALT (R344). -/
def execHalt (n : Fin 64) (ecc : Ecc) (s : State) : Host.Outcome State Fault Refusal := sluiceRow (0, 7) n ecc s
/-- EI (R322). -/
def execEi (n : Fin 64) (ecc : Ecc) (s : State) : Host.Outcome State Fault Refusal := sluiceRow (0, 8) n ecc s
/-- DI (R322). -/
def execDi (n : Fin 64) (ecc : Ecc) (s : State) : Host.Outcome State Fault Refusal := sluiceRow (0, 9) n ecc s

/-! ### ADDR, MOVE and LONG classes -/

/-- ADDPI (R322). -/
def execAddpi (n : Fin 64) (ecc : Ecc) (s : State) : Host.Outcome State Fault Refusal := sluiceRow (6, 0) n ecc s
/-- ADDPP (R322). -/
def execAddpp (n : Fin 64) (ecc : Ecc) (s : State) : Host.Outcome State Fault Refusal := sluiceRow (6, 1) n ecc s
/-- SUBPP (R322). -/
def execSubpp (n : Fin 64) (ecc : Ecc) (s : State) : Host.Outcome State Fault Refusal := sluiceRow (6, 2) n ecc s
/-- MOVPI (R322). -/
def execMovpi (n : Fin 64) (ecc : Ecc) (s : State) : Host.Outcome State Fault Refusal := sluiceRow (6, 3) n ecc s
/-- MOVPP (R322). -/
def execMovpp (n : Fin 64) (ecc : Ecc) (s : State) : Host.Outcome State Fault Refusal := sluiceRow (6, 4) n ecc s
/-- MOVDP (R322). -/
def execMovdp (n : Fin 64) (ecc : Ecc) (s : State) : Host.Outcome State Fault Refusal := sluiceRow (7, 0) n ecc s
/-- MOVPD (R322). -/
def execMovpd (n : Fin 64) (ecc : Ecc) (s : State) : Host.Outcome State Fault Refusal := sluiceRow (7, 1) n ecc s
/-- MOVDC (R322, R317). -/
def execMovdc (n : Fin 64) (ecc : Ecc) (s : State) : Host.Outcome State Fault Refusal := sluiceRow (7, 2) n ecc s
/-- MOVCD (R322, R317). -/
def execMovcd (n : Fin 64) (ecc : Ecc) (s : State) : Host.Outcome State Fault Refusal := sluiceRow (7, 3) n ecc s
/-- MOVAD (R322). -/
def execMovad (n : Fin 64) (ecc : Ecc) (s : State) : Host.Outcome State Fault Refusal := sluiceRow (7, 4) n ecc s
/-- MOVGD (R322). -/
def execMovgd (n : Fin 64) (ecc : Ecc) (s : State) : Host.Outcome State Fault Refusal := sluiceRow (7, 5) n ecc s
/-- MOVI32 (R322). -/
def execMovi32 (n : Fin 64) (ecc : Ecc) (s : State) : Host.Outcome State Fault Refusal := sluiceRow (15, 0) n ecc s
/-- MOVIP (R322). -/
def execMovip (n : Fin 64) (ecc : Ecc) (s : State) : Host.Outcome State Fault Refusal := sluiceRow (15, 1) n ecc s
/-- MOVICR (R322, R317). -/
def execMovicr (n : Fin 64) (ecc : Ecc) (s : State) : Host.Outcome State Fault Refusal := sluiceRow (15, 2) n ecc s
/-- JMP (R322, R331). -/
def execJmp (n : Fin 64) (ecc : Ecc) (s : State) : Host.Outcome State Fault Refusal := sluiceRow (15, 3) n ecc s

/-! ### LOAD, STORE, FTAP, IMM -/

/-- LOAD (R324). -/
def execLoad (n : Fin 64) (ecc : Ecc) (s : State) : Host.Outcome State Fault Refusal := sluiceRow (4, 0) n ecc s
/-- STORE (R324). -/
def execStore (n : Fin 64) (ecc : Ecc) (s : State) : Host.Outcome State Fault Refusal := sluiceRow (5, 0) n ecc s
/-- FTAP (R333). -/
def execFtap (n : Fin 64) (ecc : Ecc) (s : State) : Host.Outcome State Fault Refusal := sluiceRow (8, 0) n ecc s
/-- IMM (R321). -/
def execImm (n : Fin 64) (ecc : Ecc) (s : State) : Host.Outcome State Fault Refusal := sluiceRow (9, 0) n ecc s

/-! ### Interrupts, the timer, and the stop (R317, R337 to R339, R342, R346) -/

/-- An interrupt is recognised at the boundary that the core stands at (R337, R342). -/
def Core.recognises (c : Core) : Bool :=
  c.interruptible && !c.inHandler &&
    (if c.state = .waiting then bitAt (c.reg (.sw false)) 2 && c.irqPend &&& c.reg (.cr 7) != 0
     else c.state == .running && c.lastIE && c.lastPend &&& c.lastEN != 0)

/-- R339: the cycle of the first handler bundle, 4 after that of the boundary's bundle; a core that
waits has let `waited` more cycles pass. -/
def Core.entryCycle (c : Core) (waited : Nat) : Nat :=
  if c.state = .waiting then c.cycle + waited + 3 else c.lastIssue + 4

/-- R339: results land in the main bank, IPC takes the next bundle's address, the banks swap. -/
def enterHandler (n waited : Nat) (s : State) : State :=
  let c := core n s
  let at_ := c.entryCycle waited
  let c1 := (c.landAll.setReg (.cr 6) c.pc).tick c.cycle (at_ - c.cycle)
  coreState n .running (setCore n { c1 with inHandler := true, pc := 8, cycle := at_ % 2 ^ 64 } s)

/-- INTERRUPT_ENTRY (R339). -/
def execInterruptEntry (t : Nat) (n : Fin 64) (waited : Nat) (s : State) : Host.Outcome State Fault Refusal :=
  act t (fun x => if (core n x).recognises then enterHandler n waited x else x) s

/-- TIMER_MATCH (R317): a core that waits lets the cycles pass until CYCLE_LO equals TIMER_CMP; one
that runs sets TIMER as its cycles pass. -/
def execTimerMatch (t : Nat) (n : Fin 64) (s : State) : Host.Outcome State Fault Refusal :=
  act t (fun x =>
    let c := core n x
    if c.state ≠ .waiting then x
    else
      let d := (c.reg (.cr 9) + 2 ^ 32 - c.cycle % 2 ^ 32) % 2 ^ 32
      setCore n (({ c.request 2 with cycle := (c.cycle + d + 1) % 2 ^ 64 }).land (c.cycle + d + 1)) x) s

/-- CYCLE_LO_READ (R317). -/
def execCycleLoRead (t : Nat) (n : Fin 64) (s : State) : Host.Outcome State Fault Refusal :=
  act t (fun x => if (core n x).state = .off then x else setCore n (core n x).latch x) s

/-- PEER_RAISE (R317). -/
def execPeerRaise (t : Nat) (n : Fin 64) (k : Fin 8) (s : State) : Host.Outcome State Fault Refusal :=
  act t (fun x => if (core n x).state = .off then x else peerRaise n k x) s

/-- MOVER_SUBMIT (R347). -/
def execMoverSubmit (t : Nat) (n : Fin 64) (addr : Nat) (s : State) : Host.Outcome State Fault Refusal :=
  act t (fun x => if (core n x).state = .off then x else moverSubmit n (addr % 2 ^ 32) x) s

/-- TAP_CTL_WRITE (R349). -/
def execTapCtlWrite (t : Nat) (n : Fin 64) (value : Nat) (s : State) : Host.Outcome State Fault Refusal :=
  act t (fun x => if (core n x).state = .off then x else tapCtl n (value % 2 ^ 32) x) s

/-- CORE_STOP_FORCED (R346). -/
def execCoreStopForced (t : Nat) (n : Fin 64) (s : State) : Host.Outcome State Fault Refusal :=
  act t (fun x => match (core n x).stopSince with
    | some t0 => if t0 + msT 1 ≤ x.time.now then stopNow n (count .forcedStops n 1 x) else x
    | none => x) s

/-- R359: firmware reloads and restarts a trapped STOCK core once; a second trap within 60 s leaves
it TRAPPED and its statistics pairs move to other cores. -/
def reloadStock (n : Nat) (s : State) : State :=
  let c := core n s
  if c.host ∨ c.state ≠ .trapped ∨ c.left then s
  else if c.again then
    let moved := s.sluice.stats.map fun x => if x.core = some n then { x with core := none } else x
    let stock := (List.range 64).filter fun k =>
      !(core k s).host && !(core k s).left && (core k s).state != .trapped && (core k s).state != .off
    let stats := moved.foldl (fun (l : List StatPair) x =>
      l ++ [if x.core.isSome then x else { x with core := statCore stock (l ++ moved.drop l.length) x.chan }]) []
    let lost := (stats.filter fun x => x.core.isNone).length - (s.sluice.stats.filter fun x => x.core.isNone).length
    setCore n { c with left := true }
      (fire .sluiceCore (count .statsUnassigned 0 lost { s with sluice := { s.sluice with stats := stats } }))
  else
    setCore n { resetCore with state := .running, trapAt := c.trapAt } s

/-- STOCK_CORE_RELOAD (R359). -/
def execStockCoreReload (t : Nat) (n : Fin 64) (s : State) : Host.Outcome State Fault Refusal :=
  act t (reloadStock n) s

end Sys2Proof.Machine
end

