-- ==== Sys2Proof/Machine/CanalOps.lean ====
section
/-! DEFINITION. The canal's targets (chapter 14): register blocks, the address map, what a read and a
write of a piece do at each target, and the errors that a master's record keeps (R18, R455 to R465,
R521 to R523). -/

namespace Sys2Proof.Machine

/-! ### Registers (R18, R20, R522, R523) -/

/-- An item whose register holds a code, so that R20 knows encodings that are reserved (log entry 103). -/
def Item.coded (i : Item) : Bool :=
  i.desc.ty = .enum || i.desc.ty = .bool ||
    i ∈ [.ingressFormat, .memMaxBin, .timingRefManual, .timingRefQlFixed, .timingDpllBw, .timingAcqBw]

/-- A POKE's write of the register behind a parameter: the hardware takes it at once, the journal keeps
what it held (R523); a reserved encoding is ignored (R20). -/
def pokeItem (i : Item) (inst elem v : Nat) (s : State) : State :=
  if i.coded ∧ !i.desc.range.ok (v % 2 ^ (8 * i.desc.ty.bytes)) then s
  else
  let k := itemKey i inst elem
  let was := match sFind s.canal.journal k with
    | some x => x
    | none => par i inst elem s
  { s with
    force := sPut keyReset s.force k (v % 2 ^ (8 * i.desc.ty.bytes))
    canal := { s.canal with journal := sSet s.canal.journal k was } }

/-- The journal's values return (R523): at a takeover. -/
def restoreJournal (s : State) : State :=
  { s with
    force := s.canal.journal.foldl (fun m e => sPut keyReset m e.1 e.2) s.force
    canal := { s.canal with journal := [] } }

/-- An error status record (R464). -/
def master (m : Nat) (s : State) : CanalMaster := s.canal.masters.getD m ⟨false, false, false, none, 0, 0⟩

/-- Change a master's record. -/
def setMaster (m : Nat) (x : CanalMaster) (s : State) : State :=
  { s with canal := { s.canal with masters := s.canal.masters.set m x } }

/-- A core as an access from outside finds it: the results that its cycle has reached have landed (R328). -/
def coreSeen (n : Nat) (s : State) : Core := (core n s).land (core n s).cycle

/-- A control register of a core by its key: SW and RRB of the main bank are 80 and 81, those of the shadow
bank 144 and 145 (R314, R343). -/
def Core.keyRead (c : Core) (n k : Nat) : Nat :=
  if k = 80 ∨ k = 144 then c.swOf (k == 144)
  else if k = 81 ∨ k = 145 then c.reg (.rrb (k == 145))
  else if 80 ≤ k ∧ k < 144 then c.crRead n (k - 80)
  else sGet (fun _ => 0) c.regs k

/-- The value of a register. -/
def Reg.read (r : Reg) (s : State) : Nat :=
  match r with
  | .item i inst elem => readItem i inst elem s
  | .ctr c inst => ctrGet c inst (countHolds s)
  | .errAddr m => (master m s).errAddr.getD (2 ^ 64 - 1)
  | .txts p => txtsStatus p s
  | .core n k => (coreSeen n s).keyRead n k

/-- The counters as a read finds them: the cycles of holds that stand are counted up to now (R277). -/
def ctrFresh (c : Ctr) (s : State) : State := if c = .spillHoldCycles then countHolds s else s

/-- What a read does besides: CYCLE_LO latches CYCLE_HI (R317), a register with access rc is cleared (R18,
R23, R521). -/
def Reg.onRead (r : Reg) (s : State) : State :=
  match r with
  | .core n 90 => setCore n (Machine.core n s).latch s
  | .ctr c inst => if Config.rcCounter c.index then ctrClear c inst (ctrFresh c s) else s
  | _ => s

/-- The width of a core register by its key: accumulators 40 bits, pointers and control registers 32,
data registers 16 (R314, R317). -/
def coreRegBits (k : Nat) : Nat := if k < 48 then 16 else if k < 56 then 40 else 32

/-- A write of a whole register by its access code (R18, R19). -/
def Reg.write (r : Reg) (v : Nat) (s : State) : State :=
  match r with
  | .item i inst elem =>
    if i = .faultSticky then takeImmediate .faultSticky 0 0 v s
    else if i = .moduleCanalStatus then
      let x := master inst s
      setMaster inst { x with
        decode := x.decode && !bitAt v 0
        errAddr := if bitAt v 0 then none else x.errAddr
        dataErr := x.dataErr && !bitAt v 1 } s
    else if i.desc.acc = .rw then pokeItem i inst elem v s
    else s
  | .ctr _ _ => s
  | .errAddr _ => s
  | .txts p =>
    let q := txQueue p s
    if bitAt v 8 then setTxQueue p { q with ovf := false } s else s
  | .core n k =>
    let s1 := setCore n (coreSeen n s) s
    let c := coreSeen n s
    if k = 80 ∨ k = 144 then setCore n (c.writeSw (k == 144) v) s1
    else if k = 81 ∨ k = 145 then setCore n (c.writeRrb (k == 145) v) s1
    else if 80 ≤ k ∧ k < 144 then writeCr n (k - 80) v s1
    else if k < 80 then setCore n { c with regs := sPut (fun _ => 0) c.regs k (v % 2 ^ coreRegBits k) } s1
    else s

/-- A register whose writes act and whose bits that are not written are zeros: w1c and wo. -/
def Reg.acts : Reg → Bool
  | .item i _ _ => i = .faultSticky || i = .moduleCanalStatus
  | .txts _ => true
  | .core _ k => k = 88 || k = 95 || k = 112
  | _ => false

/-- The register block of a unit kind's instance (R522); none where the instance names no block: such a
register lies in a block that is always up (log entry 103). -/
def scopeUnit (scope inst : Nat) : Option Nat :=
  match scope with
  | 1 => some (0x40 + inst)
  | 2 => some (0x50 + inst)
  | 3 => some (0x100 + inst)
  | 4 => some (0x48 + inst)
  | 6 => some 0x70
  | 7 => some (0x200 + inst)
  | 12 => some (0x10 + inst)
  | 13 => some (if inst < 128 then 0x10 + inst / 4 else 0x30 + (inst - 128))
  | 15 => some (0x80 + inst)
  | 16 => some (0x80 + inst / 16)
  | 17 => some 0x72
  | 22 => some inst
  | 23 => some (0x90 + inst)
  | 24 => some (0x80 + inst)
  | _ => none

/-- The register block that a register lies in. -/
def Reg.unit : Reg → Option Nat
  | .item i inst _ => scopeUnit i.desc.scope inst
  | .ctr c inst => scopeUnit c.info.2.1 inst
  | .errAddr _ => some 0x77
  | .txts _ => some 0x78
  | .core n _ => some (0x200 + n)

/-- The unit of a register is fitted and has power (R8, R42). -/
def Reg.up (r : Reg) (s : State) : Bool := r.unit.all fun u => unitUp u s

/-- The canal address of a register; its offset in the block is the catalogue's (R517, R522). -/
def Reg.addr (r : Reg) : Nat :=
  let off := match r with
    | .item i inst elem => Config.registerOffset i.index inst elem
    | .ctr c inst => Config.registerOffset (1000 + c.index) inst 0
    | .errAddr m => Config.registerOffset 2000 m 0
    | .txts p => Config.registerOffset 2001 p 0
    | .core n k => Config.registerOffset 2002 n k
  r.unit.getD 0 * 0x100000 + off % 0x100000

/-- The register and the 32-bit word of it that an address of the register blocks holds. -/
def regAt (a : Nat) : Option (Reg × Nat) :=
  match Config.registerAt a with
  | (1, i, inst, elem, h) => (Item.all[i]?).map fun x => (.item x inst elem, h)
  | (2, c, inst, _, h) => (Ctr.all[c]?).map fun x => (.ctr x inst, h)
  | (3, m, _, _, h) => some (.errAddr m, h)
  | (4, p, _, _, h) => some (.txts p, h)
  | (5, n, k, _, h) => some (.core n k, h)
  | _ => none

/-- A word of the register blocks; reserved ones read zero (R20). -/
def regWord (a : Nat) (s : State) : Nat :=
  match regAt a with
  | some (r, h) => r.read s / 2 ^ (32 * h) % 2 ^ 32
  | none => 0

/-- Reading a word of the register blocks. -/
def regRead (a : Nat) (s : State) : List Byte × State :=
  match regAt a with
  | some (r, _) => (natLE 4 (regWord a s), r.onRead s)
  | none => (natLE 4 0, s)

/-- Writing the enabled bytes of a word of the register blocks: the rest of the register is as it was, or
zero where a write acts. -/
def regWrite (a : Nat) (bytes : List (Nat × Byte)) (s : State) : State :=
  match regAt a with
  | none => s
  | some (r, h) =>
    let old := if r.acts then 0 else r.read s
    let word := if r.acts then 0 else regWord a s
    let new := leNat (bytes.foldl (fun l e => l.set e.1 e.2) (natLE 4 word))
    r.write (old - old / 2 ^ (32 * h) % 2 ^ 32 * 2 ^ (32 * h) + new * 2 ^ (32 * h)) s

/-! ### The address map (R455 to R457, R429) -/

/-- What a master reaches (R455). -/
def reaches (m : Nat) (t : Target) : Bool :=
  match t with
  | .regs | .sem => decide (m < 2)
  | .sram => decide (m < 2) || m == 11 || m == 14
  | .bb => decide (m < 2) || m == 11 || m == 13 || m == 14
  | .culvert _ => decide (m < 10) || m == 14
  | .tiles _ => decide (m < 11) || m == 12 || m == 14
  | .load _ => decide (m < 10) || m == 12 || m == 14
  | .dram _ => m != 10

/-- An address decodes to a target for a master's access (R429, R455 to R457). -/
def decodes (m : Nat) (write : Bool) (a : Nat) (s : State) : Bool :=
  match targetOf a with
  | none => false
  | some t =>
    reaches m t &&
      match t with
      | .regs => unitUp (a / 0x100000) s
      | .sram | .bb | .sem => true
      | .culvert d => !write && domain (24 + d) s == .on
      | .tiles n => (stack n s).fitted
      | .load n => (core n s).state == .loadable && decide (a % 0x40000 < 0x30000)
      | .dram dpa =>
        decide (dpa < capGiB s * 2 ^ 30) &&
          match regionAt dpa s with
          | some x => !(decide (1 ≤ x.kind ∧ x.kind ≤ 6) || (x.kind == 0 && decide (2 ≤ m ∧ m < 10)))
          | none => true

/-- The model's numbers of the target ports: register blocks 0, management SRAM 1, black-box SRAM 2,
semaphores 3, culverts 4 to 7, stack controllers 8 to 15, sluice load windows 16 to 79 (log entry 36). -/
def targetPort (a : Nat) (s : State) : Nat :=
  match targetOf a with
  | none => 0
  | some .regs => 0
  | some .sram => 1
  | some .bb => 2
  | some .sem => 3
  | some (.culvert d) => 4 + d
  | some (.tiles n) => 8 + n
  | some (.load n) => 16 + n
  | some (.dram dpa) => match locOf dpa s with
    | some l => 8 + l.1 / 16
    | none => 8

/-- The stack behind a piece is in an outage, or the piece writes where a retirement still marks: the
target holds it (R446, R449, R457). -/
def targetHeld (write : Bool) (a : Nat) (s : State) : Bool :=
  ((stackAt a s).any fun k => (stack k s).outage.isSome) ||
    match targetOf a with
    | some (.dram dpa) => match locOf dpa s with
      | some l => write && s.mem.marking && redirectPoison l.1 l.2 s
      | none => false
    | _ => false

/-- The target of some grain of a range holds a piece back (R457). -/
def rangeHeld (write : Bool) (a len : Nat) (s : State) : Bool :=
  (rangeStarts a len).any fun b => targetHeld write b s

/-! ### Bytes at the targets -/

/-- A record of the black-box ring that lies at an index (R535). -/
def bbAt (k : Nat) (s : State) : Option BBRec := s.fault.ring.find? fun r => r.seq % 8192 == k

/-- A record as its 32 bytes say (R536). -/
def BBRec.ofBytes (l : List Byte) (old : BBRec) : BBRec :=
  let w := leAt l 0 4
  { kind := w % 16, cls := w / 16 % 16, code := w / 256 % 2 ^ 16, seq := leAt l 4 4, boot := leAt l 8 2,
    time := if leAt l 12 12 = tide96 old.time then old.time else tideOf96 (leAt l 12 12)
    data := slice l 24 8 }

/-- A byte of SRAM: management SRAM, and black-box SRAM where no record lies. -/
def sramByte (a : Nat) (s : State) : Byte := s.canal.sram.byte (a - 0x100000000)

/-- Write a byte of SRAM. -/
def setSram (a : Nat) (b : Byte) (s : State) : State :=
  { s with canal := { s.canal with sram := s.canal.sram.setByte (a - 0x100000000) b } }

/-- A byte of the black-box SRAM. -/
def bbByte (a : Nat) (s : State) : Byte :=
  let off := a - 0x101000000
  match bbAt (off / 32) s with
  | some r => r.bytes.getD (off % 32) 0
  | none => sramByte a s

/-- Write a byte of the black-box SRAM. -/
def setBb (a : Nat) (b : Byte) (s : State) : State :=
  let off := a - 0x101000000
  match bbAt (off / 32) s with
  | some r =>
    let r1 := BBRec.ofBytes (r.bytes.set (off % 32) b) r
    { s with fault := { s.fault with ring := s.fault.ring.map fun x => if x.seq = r.seq then r1 else x } }
  | none => setSram a b s

/-- The slot of a die's culvert and the sub-block position in it that an offset lies in (R68). -/
def culvertSub (d off : Nat) (s : State) : Option (Plan × Nat × Nat) :=
  (planOf (die d s).epoch s).map fun p =>
    let i := off / p.blockBytes
    (p, i, off % p.blockBytes / p.subBytes ((die d s).slot i))

/-- A byte of a die's culvert: of a sub-block that is present, else what the memory still holds (R77,
R458). -/
def culvertByteAt (d off : Nat) (s : State) : Byte :=
  match culvertSub d off s with
  | none => (die d s).left.byte off
  | some (p, i, key) =>
    let v := (die d s).slot i
    match sFind v.subs key with
    | some l => l.getD (off % p.blockBytes % p.subBytes v) 0
    | none => (die d s).left.byte off

/-- R84: what a read of the culvert window finds: sub-blocks with an uncorrectable word, each once, and
words that it corrects. -/
def culvertFinds (d off : Nat) (beats : List Nat) (corrected : Nat) (s : State) : State :=
  let hits := (beats.map fun k => (culvertSub d (off / 64 * 64 + 64 * k) s).map (·.2)).eraseDups
  hits.foldl (fun x h =>
    match h with
    | some (i, key) =>
      if (sFind ((die d x).slot i).subs key).isSome then culvertErrors d i [key] 0 x
      else fire .culvertUncorr (count .culvertUncorr d 1 x)
    | none => fire .culvertUncorr (count .culvertUncorr d 1 x)) (count .culvertCorr d corrected s)

/-- A tile access window slot: its 32 bytes, and the master that wrote it (R149). -/
def windowSlot (a : Nat) (s : State) : List Byte × Nat :=
  match sFind s.data.windows (a / 32) with
  | some l => (l.take 32, (l.getD 32 0).toNat)
  | none => (List.replicate 28 0 ++ [0xFE] ++ List.replicate 3 0, 0)

/-- Write a slot. -/
def setWindow (a : Nat) (l : List Byte) (m : Nat) (s : State) : State :=
  { s with data := { s.data with
      windows := sSet s.data.windows (a / 32) (l.take 32 ++ [BitVec.ofNat 8 m]) } }

/-- A slot's operation is pending (R459). -/
def windowPending (a : Nat) (s : State) : Bool := (windowSlot a s).1.getD 28 0 == 0xFF

/-- R459: a slot is written whole: the operation starts, RESULT reads pending. -/
def writeWindow (m a : Nat) (l : List Byte) (s : State) : State :=
  let op := leAt l 0 1 % 16
  if op = 0 ∨ 4 < op then s else setWindow a (l.take 24 ++ List.replicate 4 0 ++ [0xFF, 0, 0, 0]) m s

/-- The bytes that a load space holds: program SRAM by words, then data SRAM (R345). -/
def loadByte (c : Core) (off : Nat) : Byte :=
  if off < 0x10000 then BitVec.ofNat 8 (sGet (fun _ => 0) c.prog (off / 4) / 2 ^ (8 * (off % 4)))
  else c.data.byte (off - 0x10000)

/-- Write a byte of a load space. -/
def setLoad (c : Core) (off : Nat) (b : Byte) : Core :=
  if off < 0x10000 then
    let w := natLE 4 (sGet (fun _ => 0) c.prog (off / 4))
    { c with prog := sPut (fun _ => 0) c.prog (off / 4) (leNat (w.set (off % 4) b)) }
  else { c with data := c.data.setByte (off - 0x10000) b }

/-- Bytes of one weight bank of that plan. -/
def bankSize (s : State) : Nat := match bankPlan s with
  | some p => p.bankBytes
  | none => 0

/-- The bank and the offset in it that a DPA of the WEIGHTS region holds: bank 0, then bank 1. -/
def weightAt (dpa : Nat) (s : State) : Option (Nat × Nat) :=
  match place 7 s with
  | some x =>
    let off := dpa - x.base
    if x.base ≤ dpa ∧ off < 2 * bankSize s then some (off / bankSize s, off % bankSize s) else none
  | none => none

/-- A byte of a weight bank (R173). -/
def bankByte (b off : Nat) (s : State) : Byte :=
  BitVec.ofNat 8 (sGet (fun _ => 0) (bank b s).weights (off / 4) / 2 ^ (8 * (off % 4)))

/-- Write a byte of a weight bank. -/
def setBankByte (b off : Nat) (v : Byte) (s : State) : State :=
  let k := bank b s
  let w := natLE 4 (sGet (fun _ => 0) k.weights (off / 4))
  setBank b { k with weights := sPut (fun _ => 0) k.weights (off / 4) (leNat (w.set (off % 4) v)) } s

/-- R177, R182: a master may write a bank: an upload or the decompressor under HOST, into a FREE bank. -/
def bankOpen (m b : Nat) (s : State) : Bool :=
  (m == 12 || m == 14) && par0 .weirWeightSource s == 0 && (bank b s).state == .free

/-- A byte of DRAM. -/
def dramByte (dpa : Nat) (s : State) : Byte :=
  match weightAt dpa s with
  | some (b, off) => bankByte b off s
  | none => cellByte dpa s

/-- Write a byte of DRAM. -/
def setDram (m dpa : Nat) (b : Byte) (s : State) : State :=
  match weightAt dpa s with
  | some (k, off) => if bankOpen m k s then setBankByte k off b s else s
  | none => setCell dpa b s

/-- The codeword of a DPA holds the poison marker. -/
def dramPoison (dpa : Nat) (s : State) : Bool :=
  match locOf dpa s with
  | some l => poisoned l.1 (l.2 / 64 * 64) s
  | none => false

/-- A byte as a read at a target returns it. -/
def byteAt (t : Target) (a : Nat) (s : State) : Byte :=
  match t with
  | .regs | .sem => 0
  | .sram => sramByte a s
  | .bb => bbByte a s
  | .culvert d => culvertByteAt d (a % 0x10000000) s
  | .tiles _ => (windowSlot a s).1.getD (a % 32) 0
  | .load n => loadByte (core n s) (a % 0x40000)
  | .dram dpa => dramByte dpa s

/-- R465: a read of SEM_TAKE returns FREE and takes the semaphore; SEM_GIVE reads zero. -/
def semRead (k : Nat) (s : State) : Nat × State :=
  let free := s.canal.semFree.getLsbD k
  (if free then 1 else 0, { s with canal := { s.canal with semFree := s.canal.semFree &&& ~~~(BitVec.ofNat 64 (2 ^ k)) } })

/-- R465: writing 1 to SEM_GIVE frees the semaphore. -/
def semGive (k v : Nat) (s : State) : State :=
  if v % 2 = 1 then { s with canal := { s.canal with semFree := s.canal.semFree ||| BitVec.ofNat 64 (2 ^ k) } } else s

/-- Words of register blocks or semaphores, one after another. -/
def readWords (t : Target) : Nat → Nat → State → List Byte × State
  | 0, _, s => ([], s)
  | n + 1, a, s =>
    let (w, s1) := match t with
      | .regs => regRead a s
      | _ =>
        if 0x102000200 ≤ a then (natLE 4 0, s)
        else if a % 8 = 0 then ((semRead (a % 0x1000 / 8) s).1 |> natLE 4, (semRead (a % 0x1000 / 8) s).2)
        else (natLE 4 0, s)
    let (r, s2) := readWords t n (a + 4) s1
    (w ++ r, s2)

/-- The bytes `[a, a + len)` of a target, and which of their beats cannot be trusted. -/
def targetRead (t : Target) (a len : Nat) (s : State) : List Byte × List Nat × State :=
  match t with
  | .regs | .sem =>
    let (l, s1) := readWords t (len / 4) a s
    (l, [], s1)
  | .dram dpa =>
    let beats := (List.range ((a + len + 63) / 64 - a / 64)).filter fun k => dramPoison (dpa / 64 * 64 + 64 * k) s
    ((List.range len).map fun i => byteAt (.dram (dpa + i)) (a + i) s, beats, s)
  | _ => ((List.range len).map fun i => byteAt t (a + i) s, [], s)

/-- The enabled bytes of a beat or word, as offsets from its start. -/
def bytesIn (start len : Nat) (data : List (Nat × Byte)) : List (Nat × Byte) :=
  (data.filter fun e => decide (start ≤ e.1 ∧ e.1 < start + len)).map fun e => (e.1 - start, e.2)

/-- The starts of the beats or words of `size` bytes that a write reaches, ascending. -/
def startsOf (size : Nat) (data : List (Nat × Byte)) : List Nat :=
  (data.map fun e => e.1 / size * size).eraseDups

/-- R459: a beat that reaches a window: applied where it selects exactly one slot that carries no
pending operation. -/
def windowBeat (m a : Nat) (data : List (Nat × Byte)) (s : State) : Bool × State :=
  let offs := data.map (·.1)
  let half := fun (h : Nat) => offs == (List.range 32).map (h + ·)
  let slot := if half 0 then some 0 else if half 32 then some 32 else none
  match slot with
  | none => (false, s)
  | some h => if windowPending (a + h) s then (false, s) else (true, writeWindow m (a + h) (data.map (·.2)) s)

/-- Writes of DRAM: a codeword that is written in part is read and keeps a marker that it held, one that is
written whole takes fresh check symbols (R435, R442). -/
def dramWrite (m : Nat) (data : List (Nat × Byte)) (s : State) : State :=
  let base := 0x10000000000
  let s1 := (startsOf 64 data).foldl (fun x b =>
    match locOf (b - base) x with
    | none => x
    | some l =>
      let off := l.2 / 64 * 64
      let taken := match weightAt (b - base) x with
        | some w => bankOpen m w.1 x
        | none => true
      if (bytesIn b 64 data).length ≠ 64 then readOutcome l.1 off (codewordEnd l.1 off [] x) x
      else if taken then setPoison l.1 off false x
      else x) s
  data.foldl (fun x e => setDram m (e.1 - base) e.2 x) s1

/-- Write the enabled bytes of a piece, by address, at its target; whether the target takes them all. -/
def targetWrite (m : Nat) (t : Target) (data : List (Nat × Byte)) (s : State) : Bool × State :=
  match t with
  | .regs => (true, (startsOf 4 data).foldl (fun x w => regWrite w (bytesIn w 4 data) x) s)
  | .sram => (true, data.foldl (fun x e => setSram e.1 e.2 x) s)
  | .bb => (true, data.foldl (fun x e => setBb e.1 e.2 x) s)
  | .sem =>
    (true, data.foldl (fun x e =>
      if e.1 % 8 = 4 ∧ e.1 < 0x102000200 then semGive (e.1 % 0x1000 / 8) e.2.toNat x else x) s)
  | .culvert _ => (false, s)
  | .tiles _ =>
    (startsOf 64 data).foldl (fun (acc : Bool × State) b =>
      let r := windowBeat m b (bytesIn b 64 data) acc.2
      (acc.1 && r.1, r.2)) (true, s)
  | .load n =>
    (true, setCore n (data.foldl (fun c e => setLoad c (e.1 % 0x40000) e.2) (core n s)) s)
  | .dram _ => (true, dramWrite m data s)

/-! ### Errors (R464, R467, R468) -/

/-- A piece answered DECODE. -/
def decodeError (m a : Nat) (s : State) : State :=
  let x := master m s
  fire .canalDecode (count .decodeErrors m 1
    (setMaster m { x with decode := true, errAddr := some (x.errAddr.getD a) } s))

/-- Beats or completions answered DATA_ERR. -/
def dataError (m n : Nat) (s : State) : State :=
  if n = 0 then s else count .dataErrors m n (setMaster m { master m s with dataErr := true } s)

/-! ### Whole pieces -/

/-- R442: the outcomes of reading `n` codewords of DRAM, of which `marked` hold the marker, `bad` are
uncorrectable and the first `corrected` others are corrected. -/
def dramFinds (dpa n : Nat) (marked bad : List Nat) (corrected : Nat) (s : State) : State :=
  let fine := ((List.range n).filter fun k => !(marked.contains k || bad.contains k)).take corrected
  (List.range n).foldl (fun x k =>
    let e : ReadEnd :=
      if marked.contains k then .poison
      else if bad.contains k then .uncorrectable
      else if fine.contains k then .corrected
      else .clean
    match locOf (dpa / 64 * 64 + 64 * k) x with
    | some l => readOutcome l.1 (l.2 / 64 * 64) e x
    | none => x) s

/-- What a target does about words that its code finds in a read of `n` beats: the culvert's sub-blocks
(R84), the SRAM of a sluice core (R311), the codewords of DRAM (R442). -/
def targetFinds (t : Target) (a n : Nat) (marked bad : List Nat) (corrected : Nat) (s : State) : State :=
  match t with
  | .dram dpa => dramFinds dpa n marked bad corrected s
  | .culvert d => culvertFinds d (a % 0x10000000) bad corrected s
  | .load n =>
    let s1 := count .sramCorr n corrected s
    if bad.isEmpty then s1 else trapCore n 6 s1
  | _ => s

/-- The beats that a piece touches. -/
def pieceBeats (a len : Nat) : Nat := (a + len + 63) / 64 - a / 64

/-- A read piece reaches its target: the bytes, the status. `bad` names beats with an uncorrectable word
beyond those that the state holds as poisoned, `corrected` counts words that the target's code corrects. -/
def pieceRead (m a len : Nat) (bad : List Nat) (corrected : Nat) (s : State) : List Byte × CanalStatus × State :=
  match targetOf a with
  | none => (List.replicate len 0, .decode, decodeError m a s)
  | some t =>
    if !decodes m false a s then (List.replicate len 0, .decode, decodeError m a s)
    else
      let (l, beats, s1) := targetRead t a len s
      let n := (beats ++ bad).eraseDups.length
      (l, if n = 0 then .okay else .dataErr,
        dataError m n (targetFinds t a (pieceBeats a len) beats bad corrected s1))

/-- A write piece reaches its target. -/
def pieceWrite (m a : Nat) (data : List (Nat × Byte)) (s : State) : CanalStatus × State :=
  match targetOf a with
  | none => (.decode, decodeError m a s)
  | some t =>
    if !decodes m true a s then (.decode, decodeError m a s)
    else
      let (whole, s1) := targetWrite m t data s
      if whole then (.okay, s1) else (.decode, decodeError m a s1)

/-- The pieces of a range: it is cut at every 1 KiB boundary (R461). -/
def cutRange : Nat → Nat → Nat → List (Nat × Nat)
  | 0, _, _ => []
  | n + 1, a, len =>
    if len = 0 then []
    else
      let k := min len (1024 - a % 1024)
      (a, k) :: cutRange n (a + k) (len - k)

/-- A piece's target has not responded for 1 ms (R464): so many beats or completions are DATA_ERR. -/
def pieceSilent (m n : Nat) (s : State) : State := fire .canalTimeout (dataError m n s)

/-- A master reads a range, piece by piece; culvert words that were corrected count at the first piece. -/
def rangeRead (m a len : Nat) (r : MoveIn) (s : State) : List Byte × CanalStatus × State :=
  ((cutRange (len / 1024 + 2) a len).zipIdx).foldl (fun (acc : List Byte × CanalStatus × State) p =>
    let s0 := count .pieces m 1 acc.2.2
    if r.silent.contains p.2 then
      (acc.1 ++ List.replicate p.1.2 0, .dataErr, pieceSilent m (pieceBeats p.1.1 p.1.2) s0)
    else
      let lo := p.1.1 / 64 - a / 64
      let bad := (r.bad.filter fun b => decide (lo ≤ b) && decide (b < lo + pieceBeats p.1.1 p.1.2)).map (· - lo)
      let (l, st, s1) := pieceRead m p.1.1 p.1.2 bad (if p.2 = 0 then r.corrected else 0) s0
      (acc.1 ++ l, acc.2.1.worse st, s1)) ([], .okay, s)

/-- A master writes a range, piece by piece. -/
def rangeWrite (m a : Nat) (bytes : List Byte) (r : MoveIn) (s : State) : CanalStatus × State :=
  ((cutRange (bytes.length / 1024 + 2) a bytes.length).zipIdx).foldl (fun (acc : CanalStatus × State) p =>
    let s0 := count .pieces m 1 acc.2
    if r.silent.contains p.2 then (.dataErr, pieceSilent m 1 s0)
    else
      let data := ((slice bytes (p.1.1 - a) p.1.2).zipIdx).map fun (b, i) => (p.1.1 + i, b)
      let (st, s1) := pieceWrite m p.1.1 data s0
      (acc.1.worse st, s1)) (.okay, s)

/-- A move that meets nothing of the kind. -/
def MoveIn.clean : MoveIn := { bad := [], silent := [], corrected := 0, ecc := .none }

end Sys2Proof.Machine
end

