-- ==== Sys2Proof/Machine/BulkOps.lean ====
section
/-! DEFINITION. Bulk transfers (R492 to R498): targets, ranges, what arrives and what is sent, the end of
a transfer. -/

namespace Sys2Proof.Machine

/-! ### Ranges of bytes -/

/-- The parts of [lo, hi) that a rising list of ranges leaves out. -/
def subtractRange : List (Nat × Nat) → Nat → Nat → List (Nat × Nat)
  | [], lo, hi => if lo < hi then [(lo, hi)] else []
  | (a, b) :: r, lo, hi =>
    if hi ≤ lo then []
    else if b ≤ lo then subtractRange r lo hi
    else (if lo < min a hi then [(lo, min a hi)] else []) ++ subtractRange r (max lo b) hi

/-- A rising list of ranges with [lo, hi) added. -/
def addRange : List (Nat × Nat) → Nat → Nat → List (Nat × Nat)
  | [], lo, hi => if lo < hi then [(lo, hi)] else []
  | (a, b) :: r, lo, hi =>
    if hi ≤ lo then (a, b) :: r
    else if b < lo then (a, b) :: addRange r lo hi
    else if hi < a then (lo, hi) :: (a, b) :: r
    else addRange r (min a lo) (max b hi)

/-- [lo, hi) lies in the ranges. -/
def inRanges (l : List (Nat × Nat)) (lo hi : Nat) : Bool := (subtractRange l lo hi).isEmpty

/-! ### Transfers -/

/-- A transfer that has not ended. -/
def Bulk.live (b : Bulk) : Bool := b.state == .open || b.state == .incomplete

/-- A session's transfer by identifier. -/
def bulkOf (slot id : Nat) (s : State) : Option Bulk := s.zcp.bulks.find? fun b => b.slot == slot && b.id == id

/-- Replace a transfer. -/
def setBulk (x : Bulk) (s : State) : State :=
  { s with zcp := { s.zcp with bulks := s.zcp.bulks.map fun b => if b.slot = x.slot ∧ b.id = x.id then x else b } }

/-- The first offset that is missing, and how many bytes are. -/
def Bulk.missing (b : Bulk) : Nat × Nat :=
  let l := subtractRange b.have_ 0 b.length
  ((l.head?.map (·.1)).getD b.length, (l.map fun r => r.2 - r.1).foldl (· + ·) 0)

/-- The bytes that a transfer takes up in its target (R493, R494). -/
def Bulk.span (b : Bulk) : Nat := if b.compressed then b.outLength else b.length

/-- A name for a waiting CLOSE of a transfer. -/
def bulkUnit (slot id : Nat) : Nat := slot * 65536 + id

/-- Send the reply of one waiting command. -/
def completeSeq (slot seq code : Nat) (body : List Byte) (s : State) : State :=
  match s.zcp.waiting.find? fun w => w.slot == slot && w.seq == seq with
  | none => s
  | some w =>
    sendReply slot seq w.typ code body { s with
      zcp := { s.zcp with waiting := s.zcp.waiting.filter fun x => !(x.slot == slot && x.seq == seq) } }

/-- RESULT of a CLOSE that finds a transfer ended (R482, R495). -/
def BulkState.result : BulkState → Nat
  | .stale => 0x4E | .destRefused => 0x4F | .takeover => 0x50 | .aborted => rAborted | _ => rOk

/-- A transfer ends otherwise than by a CLOSE reply (R498): its CLOSEs are answered, EV_BULK_END goes to
its session. -/
def endBulk (slot id : Nat) (st : BulkState) (s : State) : State :=
  match bulkOf slot id s with
  | none => s
  | some b =>
    let s1 := setBulk { b with state := st, closing := [], data := [] } s
    let s2 := b.closing.foldl (fun x c => completeSeq slot c.1 st.result [] x) s1
    let dest := if (session slot s2).isOpen then [slot] else []
    raiseIn dest .bulkEnd (Config.eventBody Ev.bulkEnd.code [id, st.code, b.moved]) s2

/-- The transfers of a session end as ABORTED and are forgotten; its jobs that have not started are
withdrawn (R476). -/
def dropBulks (slot : Nat) (s : State) : State :=
  let ids := (s.zcp.bulks.filter fun b => b.slot == slot && b.live).map (·.id)
  let s1 := ids.foldl (fun x id => endBulk slot id .aborted x) s
  { s1 with
    zcp := { s1.zcp with bulks := s1.zcp.bulks.filter (·.slot != slot) }
    egress := { s1.egress with jobs := s1.egress.jobs.filter fun j => j.started || j.slot != slot } }

/-- Count bytes applied or sent (R506). -/
def countBulk (out : Bool) (slot id n : Nat) (s : State) : State :=
  match bulkOf slot id s with
  | none => s
  | some b => count (if out then .zcpBulkBytesOut else .zcpBulkBytesIn) slot n (setBulk { b with moved := b.moved + n } s)

/-! ### Targets (R494) -/

/-- The bytes of the channel images of an area under a plan (R134). -/
def imagesSize (p : Plan) (area : Nat) : Nat := (p.areaChannels area).length * imageBytes p.k p.elemBytes

/-- The plan whose images a transfer of totals names: the committed one (R149). -/
def bulkPlan (s : State) : Option Plan := s.plan.running

/-- The size of firmware staging (R578). -/
def stagingSize : Nat := 2 ^ 26

/-- A flash slot of the black box as a byte string; erased bytes are all ones (R540, R541). -/
def flashBytes (k : Nat) (s : State) : List Byte :=
  match s.fault.slots.getD k none with
  | some b => b.header ++ b.records.flatMap BBRec.bytes
  | none => []

/-- The size of a flash slot: header and 8,192 records (R540). -/
def flashSize : Nat := 4096 + 8192 * 32

/-- A target's size; none where the instance does not exist. -/
def targetSize (target inst : Nat) (s : State) : Option Nat :=
  if target = 1 ∨ target = 2 then
    if 3 < inst then none
    else (bulkPlan s).map fun p =>
      if target = 1 then imagesSize p (inst / 2) else (p.areaChannels (inst / 2)).length * tilesOf p.k * 32
  else if target = 3 then (if inst < 2 then some (bankSize s) else none)
  else if target = 4 then (if inst < 64 then some 0x30000 else none)
  else if target = 5 then (if inst = 0 then some stagingSize else none)
  else if target = 6 then (if inst < 8 then some flashSize else none)
  else if target = 7 then (if inst = 0 then some (16 * s.sluice.stats.length) else none)
  else none

/-- The bytes that offsets and lengths in a target are multiples of. -/
def targetAlign (target : Nat) (s : State) : Nat :=
  if target = 1 then ((bulkPlan s).map Plan.elemBytes).getD 8
  else if target = 2 then 32
  else if target = 3 then 4
  else 1

/-- Why the owner of a target refuses an OPEN (R182, R345). -/
def ownerRefusal (inbound : Bool) (target inst : Nat) (s : State) : Option Nat :=
  if target = 3 ∧ inbound = true then
    if par0 .weirWeightSource s ≠ 0 then some 0x44
    else if (bank inst s).state ≠ .free then some 0x41 else none
  else if target = 4 then
    if 63 < inst then some 0x4B
    else if !(core inst s).host then some 0x4A
    else if (core inst s).state ≠ .loadable then some rBusy else none
  else none

/-- The directions of a target. -/
def dirOk (inbound : Bool) (target : Nat) : Bool :=
  target == 1 || target == 3 || target == 4 || (if inbound then target == 5 else target == 2 || target == 6 || target == 7)

/-- The tile ranges of a transfer of totals: [lo, hi) in the transfer, and the operation (R495). -/
def tileRanges (op : Nat) (p : Plan) (b : Bulk) : List (Nat × Nat × TileOp) :=
  let area := b.inst / 2 % 2
  let img := imageBytes p.k p.elemBytes
  let stop := b.offset + b.length
  ((p.areaChannels area).zipIdx).flatMap fun (chan, c) =>
    if stop ≤ c * img ∨ (c + 1) * img ≤ b.offset then []
    else (List.range (tilesOf p.k)).filterMap fun t =>
      let (i, j) := tileAt p.k t
      let start := c * img + tileOffset p.k p.elemBytes i j
      let lo := max b.offset start
      let hi := min stop (start + tileElems i j * p.elemBytes)
      if hi ≤ lo then none
      else some (lo - b.offset, hi - b.offset,
        { op := op, region := b.inst % 2, area := area, chan := chan, i := i, j := j
          first := (lo - start) / p.elemBytes, count := (hi - lo) / p.elemBytes
          integration := b.integration, buffer := 0 })

/-- The tiles of a transfer of records, 32 bytes each in channel-image order. -/
def recordRanges (p : Plan) (b : Bulk) : List (Nat × Nat × TileOp) :=
  let area := b.inst / 2 % 2
  ((p.areaChannels area).zipIdx).flatMap fun (chan, c) =>
    (List.range (tilesOf p.k)).filterMap fun t =>
      let start := (c * tilesOf p.k + t) * 32
      if start < b.offset ∨ b.offset + b.length ≤ start then none
      else some (start - b.offset, start + 32 - b.offset,
        { op := 3, region := b.inst % 2, area := area, chan := chan, i := (tileAt p.k t).1, j := (tileAt p.k t).2
          first := 0, count := 0, integration := b.integration, buffer := 0 })

/-! ### Data to the module (R495) -/

/-- Issue the WRITEs of the ranges that are complete in `now` and were not in `before`, until one is
refused; the bytes written, and whether every one was done. -/
def writeRanges (before now : List (Nat × Nat)) (data : Memory) :
    List (Nat × Nat × TileOp) → Nat → State → Nat × Bool × State
  | [], n, s => (n, true, s)
  | (lo, hi, o) :: r, n, s =>
    if inRanges now lo hi ∧ !inRanges before lo hi then
      let (e, s1) := tileWrite o (data.read lo (hi - lo)) s
      if e = .done then writeRanges before now data r (n + (hi - lo)) s1 else (n, false, s1)
    else writeRanges before now data r n s

/-- The canal address of a byte of a weights bank or a load space. -/
def bulkAddr (target inst off : Nat) (s : State) : Nat :=
  if target = 4 then 0x400000000 + inst * 0x40000 + off
  else 0x10000000000 + ((place 7 s).map (·.base)).getD 0 + inst * bankSize s + off

/-- Bytes that master `m` (R455) writes at a run of a transfer that is not of totals; false where the
destination refuses them. -/
def writeRun (m target inst at_ : Nat) (bytes : List Byte) (s : State) : Bool × State :=
  if target = 5 then
    (true, { s with boot := { s.boot with staging := s.boot.staging.write at_ bytes } })
  else if target = 3 ∧ !bankOpen m inst s then (false, s)
  else if target = 4 ∧ (core inst s).state ≠ .loadable then (false, s)
  else
    let (st, s1) := rangeWrite m (bulkAddr target inst at_ s) bytes .clean s
    (st == .okay, s1)

/-- Runs of fresh bytes applied one after another; the bytes written, and whether all were taken. -/
def writeRuns (b : Bulk) (lo : Nat) (bytes : List Byte) : List (Nat × Nat) → Nat → State → Nat × Bool × State
  | [], n, s => (n, true, s)
  | (x, y) :: r, n, s =>
    let (ok, s1) := writeRun 14 b.target b.inst (b.offset + x) (slice bytes (x - lo) (y - x)) s
    if ok then writeRuns b lo bytes r (n + (y - x)) s1 else (n, false, s1)

/-- Bytes arrive for a transfer to the module at offset `lo` of it; what has arrived already is not
written again, what lies beyond its length is ignored (R495). -/
def bulkArrive (b : Bulk) (lo : Nat) (bytes : List Byte) (s : State) : State :=
  let hi := min b.length (lo + bytes.length)
  let fresh := subtractRange b.have_ lo hi
  let now := addRange b.have_ lo hi
  let keep : Bool := b.compressed || b.target == 1
  let data := if keep then fresh.foldl (fun m r => m.write r.1 (slice bytes (r.1 - lo) (r.2 - r.1))) b.data else b.data
  let s1 := setBulk { b with have_ := now, data := data, lastAt := s.time.now } s
  let (n, ok, s2) :=
    if b.compressed then ((fresh.map fun r => r.2 - r.1).foldl (· + ·) 0, true, s1)
    else if b.target = 1 then
      match planOf b.epoch s with
      | some p => writeRanges b.have_ now data (tileRanges 2 p b) 0 s1
      | none => (0, false, s1)
    else writeRuns b lo bytes fresh 0 s1
  let s3 := countBulk false b.slot b.id n s2
  if ok then s3 else endBulk b.slot b.id .destRefused s3

/-! ### Data from the module (R497) -/

/-- READs or STATUSes until one is not done: the bytes, and whether every one was. -/
def readRanges : List (Nat × Nat × TileOp) → List Byte → State → List Byte × Bool × State
  | [], l, s => (l, true, s)
  | (lo, hi, o) :: r, l, s =>
    let (e, bytes, s1) := if o.op = 3 then tileStatus o s else tileRead o s
    if e = .done then readRanges r (l ++ bytes.take (hi - lo)) s1 else (l, false, s1)

/-- A stats table entry (R355). -/
def StatPair.bytes (x : StatPair) : List Byte :=
  natLE 4 x.power ++ natLE 4 x.sk ++ natLE 4 x.window ++ natLE 4 ((if x.flag then 1 else 0) + (if x.zero then 2 else 0))

/-- The bytes [lo, hi) of a transfer from the module, as many as can be read. -/
def bulkRead (b : Bulk) (lo hi : Nat) (s : State) : List Byte × Bool × State :=
  let n := hi - lo
  let at_ := b.offset + lo
  if b.target = 1 ∨ b.target = 2 then
    match planOf b.epoch s with
    | none => ([], false, s)
    | some p =>
      let all := if b.target = 1 then tileRanges 1 p b else recordRanges p b
      let due := all.filter fun r => decide (r.1 < hi) && decide (lo < r.2.1)
      let (l, ok, s1) := readRanges due [] s
      (slice l (lo - ((due.head?.map (·.1)).getD lo)) n, ok, s1)
  else if b.target = 6 then
    let l := flashBytes b.inst s
    (slice l at_ n ++ List.replicate (n - (slice l at_ n).length) 255, true, s)
  else if b.target = 7 then (slice (s.sluice.stats.flatMap StatPair.bytes) at_ n, true, s)
  else
    let (l, _, s1) := rangeRead 14 (bulkAddr b.target b.inst at_ s) n .clean s
    (l, true, s1)

/-- One ZCP_BULK_DATA message of the module: the OPEN's SEQUENCE, BULK set, on the OPEN's port. -/
def sendBulk (b : Bulk) (off : Nat) (l : List Byte) (s : State) : State :=
  zcpSendOn b.slot b.port (zcpBytes b.slot 0x0A03 b.openSeq 16 (natBE 2 b.id ++ natBE 6 off ++ l) s) s

/-- The module sends the bytes [lo, hi) of a transfer; a READ that is not done ends the data. -/
def bulkSend (b : Bulk) (lo hi : Nat) (s : State) : State :=
  let (l, ok, s1) := bulkRead b lo hi s
  let s2 := (runsOf 8184 (l.length + 1) 0 l).foldl (fun x r => sendBulk b (lo + r.1) r.2 x) s1
  let s3 := setBulk { b with have_ := addRange b.have_ lo (lo + l.length) } s2
  let s4 := countBulk true b.slot b.id l.length s3
  if ok then s4 else endBulk b.slot b.id .stale s4

end Sys2Proof.Machine
end

