-- ==== Sys2Proof/Machine/Bulk.lean ====
section
/-! DEFINITION. The commands of bulk transfers (R492 to R498) and the decompressor's jobs (R272 to R276). -/

namespace Sys2Proof.Machine

/-! ### Jobs (R272 to R276) -/

/-- Change the job queue. -/
def setJobs (l : List DecompJob) (s : State) : State := { s with egress := { s.egress with jobs := l } }

/-- The job descriptor (R272). -/
def DecompJob.bytes (j : DecompJob) : List Byte :=
  natLE 32 (j.dest + j.reserved * 16 + j.inst * 2 ^ 8 + j.inLen * 2 ^ 32 + j.outLen * 2 ^ 64 + j.offset * 2 ^ 96 +
    j.integration * 2 ^ 160 + j.produced * 2 ^ 192 + j.result * 2 ^ 224)

/-- The bulk target that a DEST stands for (R496). -/
def DecompJob.target (j : DecompJob) : Nat := if j.dest = 3 then 1 else if j.dest = 1 then 3 else if j.dest = 2 then 4 else 5

/-- A job ends: it is counted and reported, and its transfer's CLOSE is answered with its descriptor
(R274, R277, R278, R496). -/
def endJob (j : DecompJob) (produced result : Nat) (s : State) : State :=
  let j1 := { j with produced := produced, result := result }
  let s1 := raiseBytes .decompDone j1.bytes (count .decompJobs result 1 s)
  match bulkOf j.slot j.bulk s1 with
  | none => s1
  | some b =>
    if b.job then
      let s2 := setBulk { b with state := .done, job := false, closing := [], data := [] } s1
      complete .decomp (bulkUnit j.slot j.bulk) rOk j1.bytes s2
    else s1

/-- R273: RESULT of the check that a job at the head of the queue fails. -/
def jobRefusal (j : DecompJob) (s : State) : Option Nat :=
  let al := targetAlign j.target s
  let size := targetSize j.target j.inst s
  let past : Bool := match size with
    | some n => decide (n < j.offset + j.outLen) && !(j.dest == 3 && n == 0)
    | none => j.dest != 3
  if 1024 * j.inLen < j.outLen then some 1
  else if j.dest = 0 ∨ 4 < j.dest ∨ j.reserved ≠ 0 ∨ past ∨ j.offset % al ≠ 0 ∨ j.outLen % al ≠ 0 then some 2
  else if s.egress.decompOut ∨ (ownerRefusal true j.target j.inst s).isSome ∨ (j.dest = 3 ∧ (size.getD 0) = 0) then
    some 3
  else none

/-- DECOMP_JOB_START (R273, R276): the head of the queue starts when nothing runs. -/
def execDecompJobStart (t : Nat) (s : State) : Host.Outcome State Fault Refusal :=
  act t (fun x => match x.egress.jobs with
    | [] => x
    | j :: rest =>
      if j.started then x
      else match jobRefusal j x with
        | some r => endJob j 0 r (setJobs rest x)
        | none => setJobs ({ j with started := true } :: rest) x) s

/-- The transfer that writes a job's output as it would arrive. -/
def DecompJob.asBulk (j : DecompJob) (s : State) : Bulk :=
  { slot := j.slot, id := j.bulk, inbound := true, compressed := false, target := j.target, inst := j.inst
    offset := j.offset, length := j.outLen, outLength := 0, integration := j.integration
    epoch := ((bulkPlan s).map (·.epoch)).getD 0
    openSeq := 0, port := 0, state := .open, have_ := [], data := [], moved := 0, lastAt := 0, closing := []
    job := false }

/-- The output of a job written to its destination by the decompressor, master 12 of the canal (R275, R455): the bytes written, and whether every write
was taken. -/
def writeOutput (j : DecompJob) (out : List Byte) (s : State) : Nat × Bool × State :=
  let b := j.asBulk s
  if j.dest = 3 then
    match bulkPlan s with
    | some p => writeRanges [] [(0, out.length)] (Memory.write [] 0 out) (tileRanges 2 p b) 0 s
    | none => (0, false, s)
  else
    let (ok, s1) := writeRun 12 b.target b.inst b.offset out s
    if ok then (out.length, true, s1) else (0, false, s1)

/-- DECOMP_JOB_END (R274, R275). -/
def execDecompJobEnd (t : Nat) (s : State) : Host.Outcome State Fault Refusal :=
  act t (fun x => match x.egress.jobs with
    | [] => x
    | j :: rest =>
      if !j.started then x
      else
        let (out, result) := decodeJob j.outLen (j.input.length + 1) j.input []
        let (n, ok, x1) := if x.egress.decompOut then (0, false, x) else writeOutput j out x
        endJob j n (if ok then result else 3) (setJobs rest x1)) s

/-- R496: a COMPRESSED transfer becomes a job; a full queue refuses it (R276). -/
def queueJob (b : Bulk) (s : State) : State :=
  let j : DecompJob :=
    { dest := if b.target = 1 then 3 else if b.target = 3 then 1 else if b.target = 4 then 2 else 4
      inst := b.inst, reserved := 0, inLen := b.length, outLen := b.outLength, offset := b.offset
      integration := b.integration, produced := 0, result := 255, input := b.data.read 0 b.length
      slot := b.slot, bulk := b.id, started := false }
  let s1 := setBulk { b with job := true, data := [] } s
  if 16 ≤ s1.egress.jobs.length then endJob j 0 2 (count .decompQueueFull 0 1 s1)
  else setJobs (s1.egress.jobs ++ [j]) s1

/-! ### OPEN (R492 to R494) -/

/-- The transfer that an OPEN's descriptor names (R493). -/
def readOpen (c : Ctx) (s : State) : Bulk :=
  let l := c.payload
  let b2 := beAt l 2 1
  let inst := beAt l 3 1
  let inbound := b2 / 128 == 0
  { slot := c.slot, id := beAt l 0 2, inbound := inbound, compressed := bitAt b2 6, target := b2 % 16, inst := inst
    offset := beAt l 4 8, length := beAt l 12 8, outLength := beAt l 20 4, integration := beAt l 24 4
    epoch := ((bulkPlan s).map (·.epoch)).getD 0
    openSeq := c.seq, port := c.port, state := .open, have_ := [], data := [], moved := 0, lastAt := s.time.now
    closing := [], job := false }

/-- The descriptor itself breaks R493. -/
def openBad (c : Ctx) (b : Bulk) : Bool :=
  beAt c.payload 2 1 / 16 % 4 != 0 || beAt c.payload 28 4 != 0 ||
    (if b.compressed then
      !b.inbound || b.length == 0 || decide (2 ^ 32 ≤ b.length) || !(b.target == 1 || b.target == 3 || b.target == 4 || b.target == 5)
     else b.outLength != 0) ||
    !dirOk b.inbound b.target

/-- A range outside the target, or off its multiples. -/
def rangeOutside (b : Bulk) (s : State) : Bool :=
  let al := targetAlign b.target s
  match targetSize b.target b.inst s with
  | none => true
  | some n => decide (n < b.offset + b.span) || b.offset % al != 0 || b.span % al != 0

/-- ZCP_BULK_OPEN: limits, identifier, descriptor, owner, range; a weights bank or core refuses before
its range is looked at. -/
def bulkOpen (c : Ctx) (s : State) : Res :=
  let b := readOpen c s
  let live := s.zcp.bulks.filter Bulk.live
  if openBad c b then refuse rBadValue s
  else if 4 ≤ (live.filter (·.slot == c.slot)).length ∨ 16 ≤ live.length then refuse rBusy s
  else if live.any fun x => x.slot == c.slot && x.id == b.id then refuse rBadValue s
  else match ownerRefusal b.inbound b.target b.inst s with
    | some code => refuse code s
    | none =>
      if rangeOutside b s then refuse rBadValue s
      else
        let s1 := { s with zcp := { s.zcp with
          bulks := (s.zcp.bulks.filter fun x => !(x.slot == c.slot && x.id == b.id)) ++ [b] } }
        if b.inbound then answer rOk [] s1
        else ⟨some (rOk, []), s1, fun x => match bulkOf b.slot b.id x with
          | some y => bulkSend y 0 y.length x
          | none => x⟩

/-- ZCP_BULK_OPEN (R492 to R494). -/
def execZcpBulkOpen (t : Nat) (d : Dgram) (s : State) : Host.Outcome State Fault Refusal :=
  zcp 0x0A02 (sized 32 bulkOpen) t d s

/-- ZCP_SLUICE_LOAD (R481): an OPEN with TARGET 0x4. -/
def execZcpSluiceLoad (t : Nat) (d : Dgram) (s : State) : Host.Outcome State Fault Refusal :=
  zcp 0x0802 (sized 32 fun c x => if beAt c.payload 2 1 % 16 = 4 then bulkOpen c x else refuse rBadValue x) t d s

/-! ### DATA, CLOSE, REREAD, STATUS -/

/-- CLOSEs that wait for the last byte are answered once it is there (R495). -/
def closeIfWhole (slot id : Nat) (s : State) : State :=
  match bulkOf slot id s with
  | none => s
  | some b =>
    if b.live ∧ !b.closing.isEmpty ∧ b.missing.2 = 0 then
      if b.compressed then
        let s1 := { s with zcp := { s.zcp with waiting := s.zcp.waiting.map fun w =>
          if w.why = Why.bulkClose.code ∧ w.unit = bulkUnit slot id then { w with why := Why.decomp.code } else w } }
        queueJob { b with closing := [] } s1
      else
        b.closing.foldl (fun x c => completeSeq slot c.1 rOk [] x)
          (setBulk { b with state := .done, closing := [], data := [] } s)
    else s

/-- ZCP_BULK_DATA (R495): it has no reply; a payload too short to name a transfer names none. -/
def bulkData (c : Ctx) (s : State) : Res :=
  match bulkOf c.slot (beAt c.payload 0 2) s with
  | none => refuse rNotFound s
  | some b =>
    if c.payload.length < 8 then refuse rBadLength s
    else if !b.live ∨ !b.inbound ∨ b.job then refuse rNotFound s
    else answer rOk [] (closeIfWhole b.slot b.id (bulkArrive b (beAt c.payload 2 6) (c.payload.drop 8) s))

/-- ZCP_BULK_DATA. -/
def execZcpBulkData (t : Nat) (d : Dgram) (s : State) : Host.Outcome State Fault Refusal :=
  zcp 0x0A03 bulkData t d s

/-- ZCP_BULK_CLOSE: a transfer from the module ends; one to the module ends once it is whole, and its
CLOSE waits for that, or for its job (R495 to R497). -/
def bulkClose (id : Nat) (c : Ctx) (s : State) : Res :=
  match bulkOf c.slot id s with
  | none => refuse rNotFound s
  | some b =>
    if b.job then wait c .decomp (bulkUnit c.slot id) (setBulk { b with lastAt := s.time.now } s)
    else if !b.live then (if b.state = .done then refuse rNotFound s else refuse b.state.result s)
    else if !b.inbound then answer rOk [] (setBulk { b with state := .done } s)
    else if b.missing.2 = 0 ∧ !b.compressed then
      answer rOk [] (b.closing.foldl (fun x w => completeSeq c.slot w.1 rOk [] x)
        (setBulk { b with state := .done, closing := [], data := [] } s))
    else
      let r := wait c .bulkClose (bulkUnit c.slot id)
        (setBulk { b with closing := b.closing ++ [(c.seq, s.time.now)], lastAt := s.time.now } s)
      { r with state := closeIfWhole c.slot id r.state }

/-- ZCP_BULK_CLOSE. -/
def execZcpBulkClose (t : Nat) (d : Dgram) (id : Nat) (s : State) : Host.Outcome State Fault Refusal :=
  zcp 0x0A04 (laid (bulkClose id)) t d s

/-- ZCP_BULK_REREAD (R497). -/
def bulkReread (id offset length : Nat) (c : Ctx) (s : State) : Res :=
  match bulkOf c.slot id s with
  | none => refuse rNotFound s
  | some b =>
    if !b.live then (if b.state = .done then refuse rNotFound s else refuse b.state.result s)
    else if b.inbound ∨ b.length < offset + length then refuse rBadValue s
    else
      ⟨some (rOk, []), setBulk { b with lastAt := s.time.now } s, fun x => match bulkOf c.slot id x with
        | some y => bulkSend y offset (offset + length) x
        | none => x⟩

/-- ZCP_BULK_REREAD. -/
def execZcpBulkReread (t : Nat) (d : Dgram) (id offset length : Nat) (s : State) :
    Host.Outcome State Fault Refusal :=
  zcp 0x0A05 (laid (bulkReread id offset length)) t d s

/-- ZCP_BULK_STATUS (R498). -/
def bulkStatus (id : Nat) (c : Ctx) (s : State) : Res :=
  match bulkOf c.slot id s with
  | none => refuse rNotFound s
  | some b =>
    answer rOk (Config.replyBody 0x0A06 [b.state.code, b.moved, b.missing.1])
      (if b.live then setBulk { b with lastAt := s.time.now } s else s)

/-- ZCP_BULK_STATUS. -/
def execZcpBulkStatus (t : Nat) (d : Dgram) (id : Nat) (s : State) : Host.Outcome State Fault Refusal :=
  zcp 0x0A06 (laid (bulkStatus id)) t d s

/-! ### Expiries -/

/-- BULK_WAIT_EXPIRY (R495): the oldest CLOSE that has waited for zcp.bulk_wait is answered INCOMPLETE;
the transfer stays open. -/
def execBulkWaitExpiry (t : Nat) (slot : Fin 4) (id : Nat) (s : State) : Host.Outcome State Fault Refusal :=
  act t (fun x => match bulkOf slot id x with
    | none => x
    | some b => match b.closing with
      | [] => x
      | (q, since) :: rest =>
        if x.time.now < since + nsT (par0 .zcpBulkWait x) then x
        else
          let m := b.missing
          completeSeq slot q rIncomplete (Config.replyBody 0x0A04 [m.1, m.2])
            (setBulk { b with state := .incomplete, closing := rest } x)) s

/-- BULK_IDLE_EXPIRY (R497): a transfer without a host message for zcp.bulk_idle, other than one whose
job is queued or runs. -/
def execBulkIdleExpiry (t : Nat) (slot : Fin 4) (id : Nat) (s : State) : Host.Outcome State Fault Refusal :=
  act t (fun x => match bulkOf slot id x with
    | none => x
    | some b =>
      if b.live ∧ !b.job ∧ b.lastAt + nsT (par0 .zcpBulkIdle x) ≤ x.time.now then endBulk slot id .aborted x
      else x) s

end Sys2Proof.Machine
end

