-- ==== Sys2Proof/Machine/Canal.lean ====
section
/-! DEFINITION. The commands of the canal (chapter 14): requests, grants, timeouts, master resets,
semaphores and registers; the tile access windows (R149 to R151, R459) and the sluice movers (R347,
R348). -/

namespace Sys2Proof.Machine

/-! ### Requests and grants (R460 to R464, R467) -/

/-- Change the outstanding requests. -/
def setReqs (l : List CanalReq) (s : State) : State := { s with canal := { s.canal with reqs := l } }

/-- What a completed request returns to its master (R463). -/
def canalDone (x : CanalDone) (s : State) : State := { s with canal := { s.canal with done := x :: s.canal.done } }

/-- A master can issue: it is not draining a reset, and its unit has power. -/
def masterIssues (m : Nat) (s : State) : Bool :=
  !(master m s).resetting &&
    (if 2 ≤ m ∧ m < 10 then domain 33 s == .on else if m = 10 ∨ m = 11 then domain 39 s == .on else true)

/-- Every first piece that decodes to no target is answered DECODE by the canal itself (R464). -/
def answerDecodes : Nat → CanalReq → State → CanalReq × State
  | 0, r, s => (r, s)
  | n + 1, r, s =>
    match r.pieces with
    | [] => (r, s)
    | p :: rest =>
      if decodes r.master r.write p.addr s then (r, s)
      else
        let more := if r.write then [] else List.replicate (64 * p.beats) 0
        answerDecodes n { r with
          pieces := rest
          status := .worse r.status .decode
          read := r.read ++ more } (decodeError r.master p.addr s)

/-- A request stands with the pieces it has left, or completes. -/
def putReq (r : CanalReq) (s : State) : State :=
  let (r1, s1) := answerDecodes 17 r s
  let others := s1.canal.reqs.filter fun x => !(x.master == r.master && x.id == r.id)
  if r1.pieces.isEmpty then canalDone ⟨r1.master, r1.id, r1.status, r1.read⟩ (setReqs others s1)
  else setReqs (s1.canal.reqs.map fun x => if x.master = r.master ∧ x.id = r.id then r1 else x) s1

/-- A request that a reset took from its master is accounted for: its response is discarded (R466). -/
def dropReq (r : CanalReq) (s : State) : State :=
  setReqs (s.canal.reqs.filter fun x => !(x.master == r.master && x.id == r.id)) s

/-- A request's first piece waits for a grant at a port. -/
def CanalReq.waitsAt (r : CanalReq) (port : Nat) (s : State) : Bool :=
  r.granted.isNone && (match r.pieces with
    | [] => false
    | p :: _ => targetPort p.addr s == port)

/-- R467: the cycles of 1.25 GHz with a piece waiting at each port, up to now. -/
def arbWaits (s : State) : State :=
  let ports := (s.canal.waitSince.map (·.1) ++ s.canal.reqs.filterMap fun r =>
    r.pieces.head?.map fun p => targetPort p.addr s).eraseDups
  ports.foldl (fun x port =>
    let waits := x.canal.reqs.any fun r => r.waitsAt port x
    let x1 := match sFind x.canal.waitSince port with
      | some since => count .arbWaitCycles port (cycles 1250 (x.time.now - since)) x
      | none => x
    { x1 with canal := { x1.canal with
        waitSince := if waits then sSet x1.canal.waitSince port x1.time.now else sDel x1.canal.waitSince port } }) s

/-- R461: a burst is cut at every 1 KiB boundary. -/
def cutBurst (addr beats : Nat) (data : List (Nat × Byte)) : List CanalPiece :=
  (cutRange 20 addr (64 * beats)).map fun (a, len) =>
    { addr := a, beats := len / 64, data := bytesIn (a - addr) len data }

/-- CANAL_REQUEST (R460): `data` holds the bytes that a write enables, by offset from the address. -/
def execCanalRequest (t : Nat) (m : Fin 15) (id : Fin 32) (write : Bool) (addr beats : Nat)
    (data : List (Nat × Byte)) (s : State) : Host.Outcome State Fault Refusal :=
  act t (fun x =>
    let busy := x.canal.reqs.any fun r => r.master == m.val && r.id == id.val
    if !masterIssues m x ∨ busy ∨ addr % 64 ≠ 0 ∨ beats = 0 ∨ 256 < beats ∨ 2 ^ 64 ≤ addr then x
    else if (addr + 64 * beats - 1) / 16384 ≠ addr / 16384 then
      canalDone ⟨m, id, .decode, if write then [] else List.replicate (64 * beats) 0⟩ (decodeError m addr x)
    else
      let r : CanalReq := { master := m, id := id, write := write, pieces := cutBurst addr beats data
                            granted := none, status := .okay, read := [] }
      arbWaits (putReq r (setReqs (x.canal.reqs ++ [r]) (arbWaits x)))) s

/-- R462: the request whose first piece a port grants next: round-robin in ascending master number from
the master last granted. -/
def nextGrant (port : Nat) (s : State) : Option CanalReq :=
  let last := sGet (fun _ => 14) s.canal.lastGrant port
  let due := s.canal.reqs.filter fun r => r.waitsAt port s && (match r.pieces with
    | p :: _ => !rangeHeld r.write p.addr (64 * p.beats) s
    | [] => false)
  let busy := s.canal.reqs.any fun r => r.granted.isSome && (match r.pieces with
    | p :: _ => targetPort p.addr s == port
    | [] => false)
  if busy then none
  else (List.range 15).findSome? fun i => due.find? (·.master == (last + 1 + i) % 15)

/-- The first piece of a request transfers whole at its target (R461, R462). -/
def transferPiece (r : CanalReq) (p : CanalPiece) (rest : List CanalPiece) (bad : List Nat) (corrected : Nat)
    (s : State) : State :=
  if r.write then
    let (st, s1) := pieceWrite r.master p.addr (p.data.map fun e => (p.addr + e.1, e.2)) s
    putReq { r with pieces := rest, granted := none, status := .worse r.status st } s1
  else
    let (l, st, s1) := pieceRead r.master p.addr (64 * p.beats) (bad.filter fun b => decide (b < p.beats)) corrected s
    putReq { r with pieces := rest, granted := none, status := .worse r.status st, read := r.read ++ l } s1

/-- CANAL_PIECE_GRANT (R462): `responds` tells whether the target answers within 1 ms, `found` which beats
of a read hold an uncorrectable word and how many words it corrects (R84, R311). -/
def execCanalPieceGrant (t : Nat) (port : Fin 80) (responds : Bool) (found : CulvertIn) (s : State) :
    Host.Outcome State Fault Refusal :=
  act t (fun x =>
    match nextGrant port x with
    | none => x
    | some r =>
      match r.pieces with
      | [] => x
      | p :: rest =>
        let x1 := count .pieces r.master 1 (arbWaits x)
        let x2 := { x1 with canal := { x1.canal with lastGrant := sPut (fun _ => 14) x1.canal.lastGrant port r.master } }
        arbWaits (if responds then transferPiece r p rest found.bad found.corrected x2
          else setReqs (x2.canal.reqs.map fun y =>
            if y.master = r.master ∧ y.id = r.id then { y with granted := some x2.time.now } else y) x2)) s

/-- CANAL_TARGET_TIMEOUT (R464): the granted piece of a request has had no response for 1 ms, not counting
time held for an outage (R457). -/
def execCanalTargetTimeout (t : Nat) (m : Fin 15) (id : Fin 32) (s : State) : Host.Outcome State Fault Refusal :=
  act t (fun x =>
    match x.canal.reqs.find? fun r => r.master == m.val && r.id == id.val with
    | none => x
    | some r =>
      match r.granted, r.pieces with
      | some since, p :: rest =>
        if x.time.now < since + msT 1 ∨ rangeHeld r.write p.addr (64 * p.beats) x then x
        else
          let n := if r.write then 1 else p.beats
          let more := if r.write then [] else List.replicate (64 * p.beats) 0
          let x1 := pieceSilent m n x
          arbWaits (if (master m x).resetting then dropReq r x1
            else putReq { r with
              pieces := rest
              granted := none
              status := .worse r.status .dataErr
              read := r.read ++ more } x1)
      | _, _ => x) s

/-! ### Reset of a master (R466) -/

/-- A master is reset: pieces not yet granted are never issued, a granted piece stays until its target
answers or is silent for 1 ms, and what else is outstanding drains. -/
def masterReset (m : Nat) (s : State) : State :=
  let mine := s.canal.reqs.filter (·.master == m)
  let s1 := count .masterResets m 1 (arbWaits s)
  if mine.isEmpty then s1
  else
    let s2 := setMaster m { master m s1 with resetting := true } s1
    let kept := (s2.canal.reqs.filter fun r => r.master != m || r.granted.isSome).map fun r =>
      if r.master = m then { r with pieces := r.pieces.take 1 } else r
    let ids := (mine.filter fun r => r.granted.isNone).map fun r => 32 * m + r.id
    arbWaits { s2 with canal := { s2.canal with reqs := kept, draining := s2.canal.draining ++ ids } }

/-- MASTER_RESET_DRAINED (R466): no granted piece of the master is left at a target. -/
def execMasterResetDrained (t : Nat) (m : Fin 15) (s : State) : Host.Outcome State Fault Refusal :=
  act t (onlyIf (fun x => (master m x).resetting && !x.canal.reqs.any fun r => r.master == m.val) (fun x =>
    let x1 := setMaster m { master m x with resetting := false } x
    complete .other (64 + m.val) rOk []
      { x1 with
        canal := { x1.canal with draining := x1.canal.draining.filter fun d => d / 32 != m.val }
        power := { x1.power with reinit := x1.power.reinit.filter fun r => r.1 != 0xA || r.2.1 != m.val } })) s

/-! ### Semaphores and registers (R18, R23, R465) -/

/-- What a single access to a register or semaphore returns to its master. -/
def regDone (m : Nat) (value : Nat) (s : State) : State := canalDone ⟨m, 0, .okay, natLE 8 value⟩ s

/-- The address of a semaphore's SEM_TAKE. -/
def semAddr (k : Nat) : Nat := 0x102000000 + 8 * k

/-- SEM_TAKE (R465): a master that does not reach the block gets a decode error. -/
def execSemTake (t : Nat) (m : Fin 15) (k : Fin 64) (s : State) : Host.Outcome State Fault Refusal :=
  act t (fun x =>
    if !reaches m .sem then decodeError m (semAddr k) x
    else
      let (v, x1) := semRead k x
      regDone m v x1) s

/-- SEM_GIVE (R465). -/
def execSemGive (t : Nat) (m : Fin 15) (k : Fin 64) (value : Nat) (s : State) :
    Host.Outcome State Fault Refusal :=
  act t (fun x => if !reaches m .sem then decodeError m (semAddr k + 4) x else semGive k value x) s

/-- RC_READ (R23): a counter's register with access rc returns its value and is cleared in the same
operation; in a unit that is absent or has no power the access is a decode error (R8, R42). -/
def execRcRead (t : Nat) (m : Fin 2) (c : Ctr) (inst : Fin 4096) (s : State) : Host.Outcome State Fault Refusal :=
  act t (fun x =>
    let r := Reg.ctr c inst
    let y := ctrFresh c x
    if r.up x then ctrClear c inst (regDone m (ctrGet c inst y) y)
    else canalDone ⟨m, 0, .decode, natLE 8 0⟩ (decodeError m r.addr x)) s

/-- REGISTER_WRITE (R18, R8, R42). -/
def execRegisterWrite (t : Nat) (m : Fin 2) (r : Reg) (value : Nat) (s : State) :
    Host.Outcome State Fault Refusal :=
  act t (fun x => if r.up x then r.write value x else decodeError m r.addr x) s

/-! ### Tile access windows (R149 to R151, R459) -/

/-- The address of a window slot. -/
def slotAddr (stack slot : Nat) : Nat := 0x300000000 + stack * 0x10000 + slot * 32

/-- A descriptor's fields (R149). -/
def readDesc (l : List Byte) : TileOp :=
  let v := leNat l
  { op := field v 0 4, region := field v 4 1, area := field v 5 1, chan := field v 16 16, i := field v 32 6,
    j := field v 40 6, first := field v 48 14, count := field v 64 15, integration := field v 96 32,
    buffer := field v 128 64 }

/-- GENERATION of the tile that an operation names. -/
def opGeneration (o : TileOp) (s : State) : Nat :=
  match s.plan.running with
  | some p =>
    if p.hasTile o then (tileOf p o.area o.region o.chan (tileNumber p.k o.i o.j) s).generation else 0
  | none => 0

/-- The completion that the keeper writes into the slot. -/
def completeSlot (a : Nat) (e : TileEnd) (o : TileOp) (s : State) : State :=
  let (l, m) := windowSlot a s
  setWindow a (l.take 24 ++ natLE 4 (opGeneration o s) ++ natLE 1 e.code ++ [0, 0, 0]) m s

/-- The element bytes that a WRITE takes from BUFFER. -/
def writeLen (o : TileOp) (s : State) : Nat :=
  match s.plan.running with
  | some p => o.elems * p.elemBytes
  | none => 0

/-- The operation that waits in a slot, if it is `op`. -/
def slotOp (a op : Nat) (s : State) : Option TileOp :=
  let o := readDesc (windowSlot a s).1
  if windowPending a s ∧ o.op = op ∧ (stack ((a - 0x300000000) / 0x10000) s).outage.isNone then some o else none

/-- Run the operation of a slot. BUFFER is read and written on the account of the master that wrote the
descriptor. -/
def runSlot (a op : Nat) (s : State) : State :=
  match slotOp a op s with
  | none => s
  | some o =>
    let m := (windowSlot a s).2
    if op = 1 ∨ op = 3 then
      let (e, bytes, s1) := if op = 1 then tileRead o s else tileStatus o s
      completeSlot a e o (if e = .done then (rangeWrite m o.buffer bytes .clean s1).2 else s1)
    else if op = 2 then
      let (data, _, s1) := rangeRead m o.buffer (writeLen o s) .clean s
      let (e, s2) := tileWrite o data s1
      completeSlot a e o s2
    else
      let (e, s1) := tileReset o s
      completeSlot a e o s1

/-- TILE_READ (R150). -/
def execTileRead (t : Nat) (f : TileFrom) (s : State) : Host.Outcome State Fault Refusal :=
  act t (fun x => match f with
    | .window k n => runSlot (slotAddr k n) 1 x
    | .drain a sid => drainStep false a sid x) s

/-- TILE_WRITE (R150). -/
def execTileWrite (t : Nat) (k : Fin 8) (n : Fin 2048) (s : State) : Host.Outcome State Fault Refusal :=
  act t (fun x => runSlot (slotAddr k n) 2 x) s

/-- TILE_STATUS (R144). -/
def execTileStatus (t : Nat) (f : TileFrom) (s : State) : Host.Outcome State Fault Refusal :=
  act t (fun x => match f with
    | .window k n => runSlot (slotAddr k n) 3 x
    | .drain a sid => drainStep true a sid x) s

/-- TILE_RESET (R151). -/
def execTileReset (t : Nat) (k : Fin 8) (n : Fin 2048) (s : State) : Host.Outcome State Fault Refusal :=
  act t (fun x => runSlot (slotAddr k n) 4 x) s

/-! ### Movers (R347, R348) -/

/-- The core that a cluster's mover serves next. -/
def moverCore (cl : Nat) (s : State) : Option Nat :=
  let last := s.sluice.movers.getD cl 7
  ((List.range 8).map fun i => 8 * cl + (last + 1 + i) % 8).find? fun n => !(core n s).moverQueue.isEmpty

/-- A core's data SRAM is read or written by the mover: what its code finds (R311). -/
def moverEcc (n : Nat) (e : Ecc) (s : State) : State :=
  match e with
  | .none => s
  | .corrected => count .sramCorr n 1 s
  | .uncorrectable => trapCore n 6 s

/-- Move what a descriptor says; its RESULT. -/
def moveDesc (cl n : Nat) (d : List Byte) (r : MoveIn) (s : State) : Nat × State :=
  let v := leNat d
  let canal := field v 0 64
  let loc := field v 64 17
  let len := field v 88 16
  if 0x20000 < loc + len then (2, s)
  else if bitAt v 104 then
    (0, moverEcc n r.ecc (rangeWrite (2 + cl) canal ((core n s).data.read loc len) r s).2)
  else
    let (l, _, s1) := rangeRead (2 + cl) canal len r s
    let c := core n s1
    (0, moverEcc n r.ecc (setCore n { c with data := c.data.write loc l } s1))

/-- The descriptor that a core's queue shows first. -/
def moverHead (n : Nat) (s : State) : List Byte :=
  (core n s).data.read ((core n s).moverQueue.headD 0 % 0x20000) 32

/-- A target holds a piece of a descriptor's range back (R457). -/
def moverHeld (n : Nat) (s : State) : Bool :=
  let v := leNat (moverHead n s)
  rangeHeld (bitAt v 104) (field v 0 64) (field v 88 16) s

/-- MOVER_DESC_DONE (R348). -/
def execMoverDescDone (t : Nat) (r : MoverIn) (s : State) : Host.Outcome State Fault Refusal :=
  act t (fun x =>
    let cl := r.cluster
    match moverCore cl x with
    | none => x
    | some n =>
      if !masterIssues (2 + cl) x ∨ moverHeld n x then x
      else
        match (core n x).moverQueue with
        | [] => x
        | a :: rest =>
          let x1 := setCore n { core n x with moverQueue := rest } x
          let (res, x2) := moveDesc cl n (moverHead n x) r.move x1
          let c := core n x2
          let c1 := { c with data := c.data.setByte (resultAt a) (BitVec.ofNat 8 res) }
          let x3 := count .moverDescs n 1 (setCore n (c1.request 1) x2)
          { x3 with sluice := { x3.sluice with movers := x3.sluice.movers.set cl (n % 8) } }) s

end Sys2Proof.Machine
end

