-- ==== Sys2Proof/Machine/Sessions.lean ====
section
/-! DEFINITION. Sessions, keys and unsolicited messages (R473 to R491), and the active and standby
management cores (R499 to R504). -/

namespace Sys2Proof.Machine

/-! ### Closing (R476) -/

/-- Close a session: replies, unsolicited messages, transfers and waiting commands are discarded, and
EV_SESSION goes to the others; `cause` tells 0 a new OPEN, 1 ZCP_SESSION_CLOSE, 2 idle, 3 a new key, 4 a
reset. -/
def closeSession (k cause : Nat) (s : State) : State :=
  if !(session k s).isOpen then s
  else
    let s1 := setSession k (fun y => { y with
      isOpen := false
      key := []
      ends := .replicate 2 none
      ahead := []
      comps := []
      replies := []
      answered := []
      unsol := []
      inDoubt := [] }) s
    let s2 := { s1 with zcp := { s1.zcp with waiting := s1.zcp.waiting.filter (·.slot != k) } }
    let s3 := dropBulks k s2
    raiseIn (openSlots s3) .session (Config.eventBody Ev.session.code [k, 0, cause]) s3

/-- Close every session (R505). -/
def closeAll (cause : Nat) (s : State) : State := [0, 1, 2, 3].foldl (fun x k => closeSession k cause x) s

/-- ZCP_SESSION_CLOSE: the session closes after its reply. -/
def sessionClose (c : Ctx) (s : State) : Res := ⟨some (rOk, []), s, closeSession c.slot 1⟩

/-- ZCP_SESSION_CLOSE (R476). -/
def execZcpSessionClose (t : Nat) (d : Dgram) (s : State) : Host.Outcome State Fault Refusal :=
  zcp 0x0003 (sized 0 sessionClose) t d s

/-- SESSION_IDLE_TIMEOUT (R476). -/
def execSessionIdleTimeout (t : Nat) (k : Fin 4) (s : State) : Host.Outcome State Fault Refusal :=
  act t (fun x =>
    if (session k x).isOpen ∧ (session k x).lastAt + nsT (par0 .zcpIdleTimeout x) ≤ x.time.now then
      closeSession k 2 x
    else x) s

/-! ### Opening (R475) -/

/-- K_S of an OPEN (R475). -/
def sessionKey (longKey nh nm : List Byte) (k : Nat) : List Byte :=
  hmac longKey ([0x5A, 0x43, 0x50, 0x31] ++ natBE 1 k ++ nh ++ nm)

/-- The fields of an OPEN's reply (R475). -/
def openReply (k draw u0 : Nat) (s : State) : List Byte :=
  Config.replyBody 0x0002 [Config.nonce draw % 2 ^ 128, u0, par .zcpRights k 0 s, planIdNow s, par0 .egressModuleId s]

/-- A session starts afresh (R475, R484, R505). -/
def startSession (d : Dgram) (key nh : List Byte) (u0 : Nat) (now : Nat) (y : Session) : Session :=
  { y with
    isOpen := true
    key := key
    nonces := (nh :: y.nonces).take 16
    opens := now :: y.opens.filter fun x => decide (now < x + secT 1)
    ports := beAt d.payload 16 1
    ends := (RegFile.replicate 2 none).set d.port (some d.src)
    recv := d.seq
    ahead := []
    comps := []
    replies := []
    answered := []
    nextUnsol := u0
    ackPoint := (u0 + 2 ^ 32 - 1) % 2 ^ 32
    unsol := []
    lastAt := now
    inDoubt := []
    telemetryAt := now }

/-- An authentic ZCP_SESSION_OPEN: discarded where its payload is none of R475, its nonce is one of the
last 16 accepted, or ten were accepted within the second. -/
def openSession (d : Dgram) (s : State) : State :=
  let k := d.session
  let ss := session k s
  let nh := slice d.payload 0 16
  let recent := ss.opens.filter fun x => decide (s.time.now < x + secT 1)
  if d.payload.length ≠ 20 ∨ 2 < beAt d.payload 16 1 ∨ beAt d.payload 17 3 ≠ 0 ∨ nh ∈ ss.nonces ∨ 10 ≤ recent.length then s
  else
    let n := s.zcp.draws
    let u0 := Config.firstUnsol n % 2 ^ 32
    let key := sessionKey (ss.longKey.getD []) nh (natBE 16 (Config.nonce n)) k
    let s1 := closeSession k 0 { s with zcp := { s.zcp with draws := n + 1 } }
    let s2 := count (zcpRx d.port) k 1 (setSession k (startSession d key nh u0 s1.time.now) s1)
    sendReply k d.seq d.typ rOk (openReply k n u0 s2) s2

/-- ZCP_SESSION_OPEN (R475). -/
def execZcpSessionOpen (t : Nat) (d : Dgram) (s : State) : Host.Outcome State Fault Refusal :=
  act t (arrive (fun _ => false) (fun _ x => refuse rBadType x) openSession d) s

/-! ### Mailbox 0 -/

/-- ZCP_NOP. -/
def execZcpNop (t : Nat) (d : Dgram) (s : State) : Host.Outcome State Fault Refusal :=
  zcp 0x0004 (sized 0 fun _ x => answer rOk [] x) t d s

/-- The role of a Sminilo core: 0 active, 1 standby, 2 neither. -/
def coreRole (c : Nat) (s : State) : Nat :=
  if s.zcp.activeCore = c then 0 else if s.zcp.standbyOk then 1 else 2

/-- The version that an image slot of flash shows; erased flash reads all ones. -/
def imageVersion (k : Nat) (s : State) : Nat := ((s.boot.images.getD k none).map (·.version)).getD 0xFFFFFFFF

/-- ZCP_IDENTITY (R481). -/
def identity (_c : Ctx) (s : State) : Res :=
  answer rOk (Config.replyBody 0x0005 [s.boot.variant, Config.serial, Config.clockIdentity, par0 .egressModuleId s,
    imageVersion 0 s, imageVersion 1 s, s.boot.running, coreRole 0 s, coreRole 1 s]) s

/-- ZCP_IDENTITY. -/
def execZcpIdentity (t : Nat) (d : Dgram) (s : State) : Host.Outcome State Fault Refusal :=
  zcp 0x0005 (sized 0 identity) t d s

/-- ZCP_KEY_SET (R478): the key is written before the reply; an open slot closes after it. -/
def keySet (c : Ctx) (s : State) : Res :=
  let k := beAt c.payload 0 1
  let mask := hmac (session c.slot s).key ([0x4B, 0x45, 0x59] ++ natBE 4 c.seq)
  let key := List.zipWith (fun a b => a ^^^ b) (slice c.payload 4 32) mask
  if 3 < k ∨ beAt c.payload 1 3 ≠ 0 then refuse rBadValue s
  else ⟨some (rOk, []), setSession k (fun y => { y with longKey := some key }) s, closeSession k 3⟩

/-- ZCP_KEY_SET. -/
def execZcpKeySet (t : Nat) (d : Dgram) (s : State) : Host.Outcome State Fault Refusal :=
  zcp 0x0006 (sized 36 keySet) t d s

/-! ### Unsolicited messages (R489, R490) -/

/-- ZCP_ACK (R489): it is no command. -/
def execZcpAck (t : Nat) (d : Dgram) (s : State) : Host.Outcome State Fault Refusal :=
  act t (arrive (fun _ => false) (fun _ x => refuse rBadType x) (fun _ x => x) d) s

/-- An unacknowledged message of a session. -/
def unsolOf (k seq : Nat) (s : State) : Option Unsol := (session k s).unsol.find? (·.seq == seq)

/-- ZCP_UNSOL_RETRANSMIT (R490): each wait is twice the one before, up to 1 s. -/
def execZcpUnsolRetransmit (t : Nat) (k : Fin 4) (seq : Nat) (s : State) : Host.Outcome State Fault Refusal :=
  act t (fun x => match unsolOf k seq x with
    | none => x
    | some u => match u.sentAt with
      | none => x
      | some at_ =>
        if !(session k x).isOpen ∨ x.time.now < at_ + u.wait then x
        else
          let v := { u with sentAt := some x.time.now, wait := min (secT 1) (2 * u.wait) }
          let x1 := setSession k (fun y => { y with unsol := y.unsol.map fun w => if w.seq = seq then v else w }) x
          count .zcpUnsolRetx k 1 (zcpSend k (zcpBytes k u.typ seq 2 u.body x1) x1)) s

/-- ZCP_UNSOL_AGE_OUT (R490). -/
def execZcpUnsolAgeOut (t : Nat) (k : Fin 4) (seq : Nat) (s : State) : Host.Outcome State Fault Refusal :=
  act t (fun x => match unsolOf k seq x with
    | none => x
    | some u =>
      if x.time.now < u.raisedAt + nsT (par0 .zcpUnsolAge x) then x
      else
        count .zcpUnsolAged k 1
          (setSession k (fun y => { y with unsol := y.unsol.filter fun w => w.seq != seq }) x)) s

/-! ### The cores (R499 to R504) -/

/-- The Sminilo cores run (R575). -/
def coresRun (s : State) : Bool := s.boot.stage != .power && s.boot.stage != .failed

/-- HEARTBEAT (R502). -/
def execHeartbeat (t : Nat) (s : State) : Host.Outcome State Fault Refusal :=
  act t (onlyIf coresRun fun x =>
    { x with zcp := { x.zcp with heartbeatAt := x.time.now, heartbeats := x.zcp.heartbeats + 1 } }) s

/-- The standby leaves service: FS_MGMT_STANDBY and EV_MGMT_STANDBY (R504). -/
def standbyLost (s : State) : State :=
  raise .mgmtStandby [1 - s.zcp.activeCore, 0] (fire .mgmtStandby
    { s with zcp := { s.zcp with standbyOk := false } })

/-- MIRROR_CONFIRM_TIMEOUT (R504). -/
def execMirrorConfirmTimeout (t : Nat) (s : State) : Host.Outcome State Fault Refusal :=
  act t (onlyIf (fun x => coresRun x && x.zcp.standbyOk)
    fun x => standbyLost (count .mgmtMirrorTimeouts 0 1 x)) s

/-- STANDBY_HEARTBEAT_FAIL (R504). -/
def execStandbyHeartbeatFail (t : Nat) (s : State) : Host.Outcome State Fault Refusal :=
  act t (onlyIf (fun x => coresRun x && x.zcp.standbyBeat) fun x =>
    let x1 := { x with zcp := { x.zcp with standbyBeat := false } }
    if x.zcp.standbyOk then standbyLost x1 else x1) s

/-- STANDBY_RESYNC_DONE (R502, R504). -/
def execStandbyResyncDone (t : Nat) (s : State) : Host.Outcome State Fault Refusal :=
  act t (onlyIf (fun x => coresRun x && !x.zcp.standbyOk) fun x =>
    complete .other 80 rOk [] (raise .mgmtStandby [1 - x.zcp.activeCore, 1]
      { x with
        zcp := { x.zcp with standbyOk := true, standbyBeat := true }
        power := { x.power with reinit := x.power.reinit.filter fun r => r.1 != 0xB } })) s

/-- MGMT_WATCHDOG_EXPIRY (R527): no heartbeat from either core for 100 ms. -/
def execMgmtWatchdogExpiry (t : Nat) (s : State) : Host.Outcome State Fault Refusal :=
  act t (onlyIf (fun x => coresRun x && !x.zcp.standbyBeat && decide (x.zcp.heartbeatAt + msT 100 ≤ x.time.now))
    (fireStop .mgmtBoth)) s

/-! ### Takeover (R501 to R503) -/

/-- A datagram passes checks 1 to 7 of R472. -/
def passesChecks (d : Dgram) (s : State) : Bool :=
  hostUp d.port s && (earlyChecks d s).isNone && tagGood d s && decide (d.flags % 64 ∈ [0, 4, 8, 12]) &&
    (window (session d.session s) d.seq == .accept)

/-- R502: of the datagrams held, those beyond 8 MiB are discarded and counted; the rest are the commands
that follow. -/
def countHeld : List Dgram → Nat → State → State
  | [], _, s => s
  | d :: r, held, s =>
    if !passesChecks d s then countHeld r held s
    else if 2 ^ 23 < held + d.bytes.length then countHeld r held (count .zcpMboxFull d.mailbox 1 s)
    else countHeld r (held + d.bytes.length) s

/-- R501: a scheduled commit whose commit point passes during the takeover is withdrawn when it is less
than 5 ms away. -/
def withdrawCommit (s : State) : Nat × State :=
  match s.plan.next with
  | none => (0, s)
  | some p =>
    if !s.plan.pointPassed ∧ scTide p.sc s < s.time.tide + msT 5 then
      (p.id, { s with plan := { s.plan with next := none } })
    else (0, s)

/-- What a session loses in a takeover: the fields of its EV_TAKEOVER between the failed core and the
withdrawn commit (R502). -/
def takeoverLoss (k : Nat) (s : State) : List Nat :=
  let ss := session k s
  let doubt := (s.zcp.waiting.filter (·.slot == k)).map (·.seq)
  [doubt.length] ++ doubt ++
    [ss.unsol.length, ((ss.unsol.head?.map (·.seq)).getD ss.nextUnsol), (ss.nextUnsol + 2 ^ 32 - 1) % 2 ^ 32]

/-- A session goes on under the new core (R502, R503): whole replies and unsolicited messages are gone. -/
def takeoverSession (doubt : List Nat) (y : Session) : Session :=
  { y with inDoubt := y.inDoubt ++ doubt, replies := [], answered := [], unsol := [] }

/-- EV_TAKEOVER: counted and recorded once, with a body of its own for every open session (R502). -/
def raiseTakeover (failed withdrawn : Nat) (loss : List (Nat × List Nat)) (s : State) : State :=
  let body := fun (l : List Nat) => Config.eventBody Ev.takeover.code ([failed] ++ l ++ [withdrawn])
  let first := (loss.head?.map (·.2)).getD []
  let s1 := raiseIn [] .takeover (body first) s
  loss.foldl (fun x e => unsolicited e.1 0x0F01 (eventPayload Ev.takeover.code (body e.2) x) x) s1

/-- R502: the standby takes over. -/
def takeOver (held : List Dgram) (s : State) : State :=
  let failed := s.zcp.activeCore
  let open_ := openSlots s
  let loss := open_.map fun k => (k, takeoverLoss k s)
  let ids := (s.zcp.bulks.filter Bulk.live).map fun b => (b.slot, b.id)
  let s1 := fire .mgmtTakeover (count .mgmtTakeovers 0 1 (countHeld held 0 s))
  let s1r := bbWrite 4 0 4 [] { s1 with boot := { s1.boot with lastReset := 4 } }
  let s2 := restoreJournal (masterReset failed s1r)
  let s3 := open_.foldl (fun x k =>
    setSession k (takeoverSession ((x.zcp.waiting.filter (·.slot == k)).map (·.seq))) x) s2
  let (gone, s4) := withdrawCommit { s3 with
    zcp := { s3.zcp with
      waiting := []
      bulks := s3.zcp.bulks.map fun b => { b with closing := [], job := false }
      activeCore := 1 - failed
      standbyOk := false
      standbyBeat := false
      heartbeatAt := s3.time.now }
    egress := { s3.egress with jobs := s3.egress.jobs.filter (·.started) } }
  let s5 := ids.foldl (fun x b => endBulk b.1 b.2 .takeover x) s4
  raiseTakeover failed gone loss s5

/-- The condition of a takeover (R502). -/
def takeoverDue (c : TakeoverCause) (s : State) : Bool :=
  match c with
  | .missed => decide (s.zcp.heartbeatAt + par0 .mgmtHbMiss s * nsT (par0 .mgmtHbPeriod s) ≤ s.time.now)
  | .sram => true
  | .reaction => true

/-- HEARTBEAT_MISS_TAKEOVER (R502): `held` are the datagrams that arrive while it runs. -/
def execHeartbeatMissTakeover (t : Nat) (c : TakeoverCause) (held : List Dgram) (s : State) :
    Host.Outcome State Fault Refusal :=
  act t (onlyIf (fun x => coresRun x && x.zcp.standbyOk && takeoverDue c x) (takeOver held)) s

/-- ZCP_TAKEOVER (R502): the active core replies before it yields; without a standby it is refused. -/
def takeoverCommand (_c : Ctx) (s : State) : Res :=
  if s.zcp.standbyOk then ⟨some (rOk, []), s, takeOver []⟩ else refuse rRefused s

/-- ZCP_TAKEOVER. -/
def execZcpTakeover (t : Nat) (d : Dgram) (s : State) : Host.Outcome State Fault Refusal :=
  zcp 0x0009 (sized 0 takeoverCommand) t d s

end Sys2Proof.Machine
end

