-- ==== Sys2Proof/Machine/Faults.lean ====
section
/-! DEFINITION. Faults, the black box and the margin planner (chapter 17): the quiet period, the commands
of mailbox 9, the gauges. -/

namespace Sys2Proof.Machine

/-! ### Episodes (R530) -/

/-- The sticky bits of a class's sources. -/
def classSticky (c : Nat) (s : State) : Nat :=
  (Fs.all.filter fun f => f.cls == c && s.fault.sticky.getLsbD f.num).foldl (fun a f => a + 2 ^ f.num) 0

/-- R530: the quiet period of an OPEN episode ends. -/
def quietEnds (c : Nat) (s : State) : State :=
  let e := episode c s
  if e.state ≠ .open ∨ s.time.now < e.quietEnd then s
  else
    let n := min 0xFFFF (e.recoveries + 1)
    let s1 := setEpisode c { e with state := .idle, recoveries := n } s
    raise .faultClear [c, n, classSticky c s1] (bbWrite 3 c e.first (natLE 2 n) s1)

/-- QUIET_TIME_EXPIRY (R530). -/
def execQuietTimeExpiry (t : Nat) (c : Fin 4) (s : State) : Host.Outcome State Fault Refusal :=
  act t (quietEnds c) s

/-- ZCP_FAULT_STATUS (R550). -/
def faultStatus (_c : Ctx) (s : State) : Res :=
  answer rOk (Config.replyBody 0x0902
    ([s.fault.sticky.toNat] ++ (List.range 4).map (classStatus · s) ++ [s.fault.bootCount])) s

/-- ZCP_FAULT_STATUS. -/
def execZcpFaultStatus (t : Nat) (d : Dgram) (s : State) : Host.Outcome State Fault Refusal :=
  zcp 0x0902 (sized 0 faultStatus) t d s

/-! ### The black box (R540, R542, R550) -/

/-- A record by SEQUENCE: from SRAM, else from the mirror (R542). -/
def bbFind (q : Nat) (s : State) : Option BBRec :=
  match s.fault.ring.find? fun r => r.seq == q with
  | some r => some r
  | none => s.fault.mirror.find? fun r => r.seq == q

/-- The records from a SEQUENCE on, up to the first that is not held. -/
def bbRun (s : State) : Nat → Nat → List BBRec
  | 0, _ => []
  | n + 1, q =>
    match bbFind q s with
    | none => []
    | some r => r :: bbRun s n ((q + 1) % 2 ^ 32)

/-- ZCP_BB_READ's action (R542). -/
def bbRead (first count : Nat) (_c : Ctx) (s : State) : Res :=
  if count = 0 ∨ 240 < count then refuse rBadValue s
  else match bbRun s count (first % 2 ^ 32) with
    | [] => refuse rNotFound s
    | l => answer rOk (natBE 2 l.length ++ natBE 2 0 ++ l.flatMap BBRec.bytes) s

/-- ZCP_BB_READ: the first SEQUENCE and the count come as operands. -/
def execZcpBbRead (t : Nat) (d : Dgram) (first count : Nat) (s : State) : Host.Outcome State Fault Refusal :=
  zcp 0x0903 (laid (bbRead first count)) t d s

/-- ZCP_BB_FLUSH's action (R540): BUSY while the erase after a flush runs. Where the flash does not take the
program the slot stays incomplete, FS_FLASH fires, and the reply is REFUSED (DESIGN CHOICE, log entry
129). -/
def bbFlushCommand (flash : Bool) (_c : Ctx) (s : State) : Res :=
  if s.fault.erasing.isSome then refuse rBusy s
  else
    let (slot, s1) := bbFlush 0 s
    match slot with
    | none => refuse rBusy s1
    | some k =>
      if flash then answer rOk (Config.replyBody 0x0904 [k]) s1
      else
        let bad := (s1.fault.slots.getD k none).map fun b => { b with complete := false }
        refuse rRefused (fire .flash { s1 with fault := { s1.fault with slots := s1.fault.slots.set k bad } })

/-- ZCP_BB_FLUSH. -/
def execZcpBbFlush (t : Nat) (r : FlushIn) (s : State) : Host.Outcome State Fault Refusal :=
  zcp 0x0904 (sized 0 (bbFlushCommand r.flash)) t r.cmd s

/-- BB_SLOT_ERASE_DONE (R540): the slot is erased; another erase follows while fewer than two slots are. An
erase that fails fires FS_FLASH and leaves the slot written (DESIGN CHOICE, log entry 129). -/
def execBbSlotEraseDone (r : EraseIn) (s : State) : Host.Outcome State Fault Refusal :=
  act r.time (fun x =>
    match x.fault.erasing with
    | none => x
    | some k =>
      if !r.flash then fire .flash { x with fault := { x.fault with erasing := none } }
      else
      let slots := x.fault.slots.set k none
      let next := if (erasedSlots slots.toList).length < 2 then oldestSlot slots.toList else none
      { x with fault := { x.fault with slots := slots, erasing := next } }) s

/-- ZCP_BB_MARK (R550). -/
def bbMark (c : Ctx) (s : State) : Res := answer rOk [] (bbWrite 7 0 0 c.payload s)

/-- ZCP_BB_MARK. -/
def execZcpBbMark (t : Nat) (d : Dgram) (s : State) : Host.Outcome State Fault Refusal :=
  zcp 0x0905 (sized 8 bbMark) t d s

/-! ### The margin planner (R543 to R545) -/

/-- MARGIN as its 12-bit field, clipped to its range (R543). -/
def marginField (m : Int) : Nat := wrapTo 12 (max (-2048) (min 2047 m))

/-- The word of a gauge after a reading: MARGIN, the least since the planner ran, VALID. -/
def gaugeTake (m : Int) (old : Nat) : Nat :=
  let new := signed 12 (marginField m)
  let least := min new (signed 12 (field old 12 12))
  marginField m + marginField least * 4096 + 2 ^ 31

/-- A reading of a polder's gauge. -/
def takeGauge (n k : Nat) (m : Int) (s : State) : State :=
  let old := sGet (fun _ => gaugeReset) s.fault.gauges (2 * n + k)
  { s with fault := { s.fault with
    gauges := sPut (fun _ => gaugeReset) s.fault.gauges (2 * n + k) (gaugeTake m old) } }

/-- A reading of a hub island's gauge. -/
def takeHub (u : Nat) (m : Int) (s : State) : State :=
  let old := sGet (fun _ => gaugeReset) s.fault.hubGauges u
  { s with fault := { s.fault with
    hubGauges := sPut (fun _ => gaugeReset) s.fault.hubGauges u (gaugeTake m old) } }

/-- The planner has run on a polder: its gauges read at the new step, MARGIN_MIN begins anew. -/
def restartGauges (n : Nat) (m : Option (Int × Int)) (s : State) : State :=
  [0, 1].foldl (fun x k =>
    let old := sGet (fun _ => gaugeReset) x.fault.gauges (2 * n + k)
    let w := match m with
      | some (a, b) => marginField (if k = 0 then a else b)
      | none => field old 0 12
    { x with fault := { x.fault with
      gauges := sPut (fun _ => gaugeReset) x.fault.gauges (2 * n + k) (w + w * 4096 + 2 ^ 31) } }) s

/-- What the silicon shows of a polder; one that is not listed passes with ample margin. -/
def planOfPolder (n : Nat) (l : PlannerIn) : PolderPlan :=
  (l.find? fun p => p.polder == n).getD ⟨n, [], []⟩

/-- The physical rows that fail the lane-row test at a step. -/
def PolderPlan.failsAt (e : PolderPlan) (k : Nat) : List Nat :=
  match e.fails.find? fun x => x.1 == k with
  | some x => failedRows x.2
  | none => []

/-- The lane-row test passes at a step (R544). -/
def PolderPlan.passes (e : PolderPlan) (k : Nat) : Bool := (e.failsAt k).isEmpty

/-- The two margins at a step. -/
def marginsAt (e : PolderPlan) (k : Nat) : Int × Int :=
  match e.margins.find? fun x => x.1 == k with
  | some (_, a, b) => (a, b)
  | none => (2047, 2047)

/-- The loop of R544, from step `n` down. -/
def planStep (e : PolderPlan) (need : Int) : Nat → Option Nat
  | 0 => if e.passes 0 ∧ need ≤ min (marginsAt e 0).1 (marginsAt e 0).2 then some 0 else none
  | n + 1 =>
    if e.passes (n + 1) ∧ need ≤ min (marginsAt e (n + 1)).1 (marginsAt e (n + 1)).2 then some (n + 1)
    else planStep e need n

/-- Physical rows that fail in the tests of the loop of R544, which runs from step `top` down to the step
that it finds, or to 0 (R125). -/
def loopFails (e : PolderPlan) (need : Int) (top : Nat) : Nat :=
  sumN ((List.range (top + 1)).map fun k =>
    if (planStep e need top).getD 0 ≤ k then (e.failsAt k).length else 0)

/-- A new step for the next block boundary. -/
def setStep (n k : Nat) (s : State) : State :=
  let c := nextState n s
  if c.clockStep = k then s else setPolder n { polder n s with change := some { c with clockStep := k } } s

/-- The planner runs for one polder (R544): its step is set, or the polder is to be retired. `old` is the
step that a lowering is reported against. -/
def planPolder (l : PlannerIn) (n old : Nat) (s : State) : State :=
  let e := planOfPolder n l
  let need : Int := par0 .faultGaugeMargin s
  let cap := par0 .faultPolderCapStep s
  let s1 := count .rowTestFail n (loopFails e need cap) (count .marginRuns 0 1 s)
  let least := field (sGet (fun _ => gaugeReset) s.fault.gauges (2 * n)) 12 12
  let s2 := match planStep e need cap with
    | some k => setStep n k s1
    | none =>
      let y := rowTest n (e.failsAt 0) s1
      if (polder n y).retireDue then y else setStep n 0 y
  let new := (nextState n s2).clockStep
  let listed := (l.find? fun p => p.polder == n).isSome
  let s3 := restartGauges n (if listed then some (marginsAt e new) else none) s2
  if new < old ∧ !(polder n s2).retireDue then
    raise .margin [n, old, new, least] (fire .marginStep (count .marginStepsDown 0 1 s3))
  else s3

/-- The planner runs for the polders of a list that compute (R545, R547). -/
def planAll (l : PlannerIn) (ns : List Nat) (s : State) : State :=
  ns.foldl (fun x n => if (polder n x).powered then planPolder l n (nextState n x).clockStep x else x) s

/-- ZCP_MARGIN_RUN's action: one polder, or all of them with 0xFFF. -/
def marginRun (n : Nat) (plan : PlannerIn) (_c : Ctx) (s : State) : Res :=
  if n = 0xFFF then answer rOk [] (planAll plan (List.range 168) s)
  else if 168 ≤ n then refuse rBadValue s
  else answer rOk [] (planAll plan [n] s)

/-- ZCP_MARGIN_RUN (R545, R550): the polder comes as an operand, with what its tests show. -/
def execZcpMarginRun (t : Nat) (d : Dgram) (n : Nat) (plan : PlannerIn) (s : State) :
    Host.Outcome State Fault Refusal :=
  zcp 0x0907 (laid (marginRun n plan)) t d s

/-- PLANNER_PERIOD (R545). -/
def execPlannerPeriod (t : Nat) (plan : PlannerIn) (s : State) : Host.Outcome State Fault Refusal :=
  act t (onlyIf (fun x => x.boot.stage == .ready &&
      decide (x.fault.plannedAt + secT (par0 .faultPlannerPeriod x) ≤ x.time.now))
    fun x => planAll plan (List.range 168) { x with fault := { x.fault with plannedAt := x.time.now } }) s

/-- A hub island's gauge falls below fault.gauge_alarm (R545). -/
def hubAlarm (u : Nat) (m : Int) (s : State) : State :=
  let s1 := takeHub u m s
  if m < par0 .faultGaugeAlarm s then
    raise .margin [u, 0, 0, field (hubWord u s1) 12 12] (fire .hubMargin s1)
  else s1

/-- GAUGE_ALARM (R545): a gauge's reading, and what the planner finds where it runs. -/
def execGaugeAlarm (t : Nat) (g : GaugeAt) (margin : Int) (plan : PlannerIn) (s : State) :
    Host.Outcome State Fault Refusal :=
  act t (onlyIf (fun x => x.boot.stage == .ready) fun x =>
    match g with
    | .polder p k =>
      if !(polder p x).powered then x
      else
        let x1 := takeGauge p k margin x
        if margin < par0 .faultGaugeAlarm x then
          let old := (nextState p x1).clockStep
          planPolder plan p old (setStep p (old - 1) x1)
        else x1
    | .weir e =>
      if !unitUp (0x48 + e.val) x then x
      else
        let x1 := hubAlarm (0x48 + e.val) margin x
        if margin < 0 then engineOut e x1 else x1
    | .zoom =>
      if !unitUp 0x70 x then x
      else
        let x1 := hubAlarm 0x70 margin x
        if margin < 0 then zoomStop x1 else x1
    | .hub u => if unitUp u x then hubAlarm u margin x else x) s

/-! ### ZCP_FAULT_INJECT (R550) -/

/-- A compressor is taken out of service: its unit goes to another (R266, R549). -/
def compressorOut (c : Nat) (s : State) : State :=
  if s.egress.compOut.contains c then fire .compressor s
  else
    let s0 := countHold s c
    let ready := match s0.egress.comps.getD c none with
      | some j => insertReady { j with holdSince := none, held := 0 } s0.egress.ready
      | none => s0.egress.ready
    let s1 := { s0 with egress := { s0.egress with
      comps := s0.egress.comps.set c none
      ready := ready
      compOut := insertAsc c s0.egress.compOut } }
    capacityChanged 0x73 1 none (fire .compressor s1)

/-- A STOCK core is left TRAPPED (R359). -/
def leaveCore (n : Nat) (s : State) : State :=
  if (core n s).host ∨ domain 33 s ≠ .on then fire .sluiceCore s
  else reloadStock n (setCore n { core n s with state := .trapped, trapAt := some s.time.now, again := true, left := false } s)

/-- A source fires with the reaction of the unit `u` that it is drawn for. -/
def injectUnit (f : Fs) (u : Nat) (s : State) : State :=
  if f.cls = 3 then fireStop f s
  else if f = .domain then
    if domain (u % 40) s = .on ∨ domain (u % 40) s = .waking then domainTrip (u % 40) s else fire f s
  else if f = .ingressEngine then ingressEngineStop (u % 4) s
  else if f = .dieStopped then if (die (u % 4) s).stopped then fire f s else stopDie (u % 4) s
  else if f = .zoomEngine then zoomStop s
  else if f = .decomp then decompStop s
  else if f = .polderRetired then
    fire f (if (polder (u % 168) s).powered then
      setPolder (u % 168) { polder (u % 168) s with retireDue := true } s else s)
  else if f = .ringFive then readmit (fire f s)
  else if f = .ringRetired then
    if s.data.ringsRetired.contains (u % 24) then fire f s else retireRing (u % 24) s
  else if f = .weirEngine then
    if (s.weir.engines.getD (u % 8) ⟨false, none⟩).out then fire f s else engineOut (u % 8) s
  else if f = .weirPair then fire f (engineOut (2 * (u % 4) + 1) (engineOut (2 * (u % 4)) s))
  else if f = .compressor then compressorOut (u % 16) s
  else if f = .sluiceCore then leaveCore (u % 64) s
  else if f = .dramSpeedStep then
    let k := u % 8
    if (stack k s).fitted ∧ (stack k s).outage.isNone ∧ (stack k s).bin < 4 then
      beginOutage k ((stack k s).bin + 1) none s
    else fire f s
  else if f = .dramChannelRetired then
    let c := u % 128
    if s.mem.reserve ∧ !s.mem.marking ∧ (channelsUp s).contains c then retireChannel c s else fire f s
  else if f = .mgmtStandby then if s.zcp.standbyOk then standbyLost s else fire f s
  else fire f s

/-- ZCP_FAULT_INJECT's action; which unit of several reacts, the spec leaves open. -/
def faultInject (src : Nat) (c : Ctx) (s : State) : Res :=
  if c.slot ≠ 0 ∨ par0 .moduleDiagPoke s ≠ 1 then refuse rNotPermitted s
  else match Fs.all[src]? with
    | none => refuse rBadValue s
    | some f =>
      let (n, s1) := drawFree s
      ⟨some (rOk, []), s1, injectUnit f (Config.injectUnit n)⟩

/-- ZCP_FAULT_INJECT (R550): the source comes as an operand. -/
def execZcpFaultInject (t : Nat) (d : Dgram) (src : Nat) (s : State) : Host.Outcome State Fault Refusal :=
  zcp 0x0906 (laid (faultInject src)) t d s

end Sys2Proof.Machine
end

