-- ==== Sys2Proof/Machine/Ingress.lean ====
section
/-! DEFINITION. Ingress (chapter 2): the fifteen checks of a frame, culvert and corner-turn
admission, address resolution, block closing and the ingress links. -/

namespace Sys2Proof.Machine

/-! ### The F-frame header (R53) -/

/-- The frame's F-frame header and payload when its encapsulation is one of R52, with the UDP
datagram when it is UDP. -/
structure FFrame where
  udp : Option Udp
  bytes : List Byte

/-- VERSION. -/
def FFrame.version (f : FFrame) : Nat := beAt f.bytes 0 1 / 16
/-- FORMAT. -/
def FFrame.format (f : FFrame) : Nat := beAt f.bytes 0 1 % 16
/-- TIME_ORDERED. -/
def FFrame.timeOrdered (f : FFrame) : Bool := bitAt (beAt f.bytes 1 1) 1
/-- FLAGGED. -/
def FFrame.flagged (f : FFrame) : Bool := bitAt (beAt f.bytes 1 1) 0
/-- CHANNEL. -/
def FFrame.chan (f : FFrame) : Nat := beAt f.bytes 2 2
/-- FIRST_PATH. -/
def FFrame.first (f : FFrame) : Nat := beAt f.bytes 4 2
/-- PATH_COUNT. -/
def FFrame.paths (f : FFrame) : Nat := beAt f.bytes 6 2
/-- SAMPLE_COUNTER. -/
def FFrame.sc (f : FFrame) : Nat := beAt f.bytes 8 8
/-- SAMPLES_PER_PATH. -/
def FFrame.samples (f : FFrame) : Nat := beAt f.bytes 16 2
/-- SOURCE_ID. -/
def FFrame.source (f : FFrame) : Nat := beAt f.bytes 20 4
/-- The payload. -/
def FFrame.payload (f : FFrame) : List Byte := f.bytes.drop 32
/-- The header is whole. -/
def FFrame.whole (f : FFrame) : Bool := decide (32 ≤ f.bytes.length)

/-- Check 4: the F-frame in a frame, by R52. -/
def fframe (bs : List Byte) (s : State) : Option FFrame :=
  match parseUdp bs with
  | some u => if u.dst = par0 .ingressUdpPort s then some ⟨some u, u.seg.drop 8⟩ else none
  | none => if ethType bs = par0 .ingressEthertype s then some ⟨none, ethBody bs⟩ else none

/-- R50: the destination address is the port's, the broadcast address or a multicast address that
is configured for the port. -/
def addressed (port : Nat) (bs : List Byte) (s : State) : Bool :=
  let d := beAt bs 0 6
  d == 2 ^ 48 - 1 || d == par .ingressMac port 0 s ||
    (d != 0 && (List.range 16).any fun i => par .ingressMulticast port i s == d)

/-- R51: address resolution for a configured address, or PTP. -/
def handledElsewhere (port : Nat) (bs : List Byte) (s : State) : Bool :=
  isPtp bs || (match arpTarget bs with
    | some a => a != 0 && a == par .ingressIp4 port 0 s % 2 ^ 32
    | none => false) ||
  (match nsTarget bs with
    | some a => a != 0 && a == par .ingressIp6 port 0 s
    | none => false)

/-- R59: every path of the frame lies in entries that bear its SOURCE_ID. -/
def sourceOk (f : FFrame) (s : State) : Bool :=
  par0 .ingressSourceCheck s == 0 ||
    (List.range f.paths).all fun i =>
      (List.range 256).any fun e =>
        par .ingressSrcId 0 e s == f.source && decide (par .ingressSrcFirst 0 e s ≤ f.first + i) &&
          decide (f.first + i < par .ingressSrcFirst 0 e s + par .ingressSrcCount 0 e s)

/-- Checks 7 and 8 (R54, R56) under a FORMAT that the plan asks for, when there is one. -/
def formatOk (f : FFrame) (want : Option Nat) : Bool :=
  f.version == 1 && decide (1 ≤ f.format) && decide (f.format ≤ 3) && want.all (· == f.format)

/-- Check 8. -/
def lengthOk (f : FFrame) : Bool :=
  let n := f.paths * f.samples * formatBytes f.format
  f.whole && f.paths != 0 && f.samples != 0 && f.payload.length == n && decide (n ≤ 8192) &&
    f.udp.all fun u => u.len == n + 40

/-- Checks 5 to 15 with the plan that covers the frame's samples (R61, R62, R281): the counter of
the first that fails. -/
def frameChecks (f : FFrame) (s : State) : Option Ctr :=
  let covering := planAt f.sc s
  let p? := match covering with
    | some p => some p
    | none => (plans s).getLast?
  if f.udp.any fun u => !u.sumOk then some .discChecksum
  else if f.whole && onesSum (f.bytes.take 32) != 65535 then some .discHcheck
  else if f.whole && !formatOk f (p?.map (·.par0 .ingressFormat)) then some .discFormat
  else if !lengthOk f then some .discLength
  else if f.sc % 128 ≠ 0 ∨ f.samples % 128 ≠ 0 then some .discAlign
  else
    match p? with
    | none => some .discPlan
    | some p =>
      if f.sc / p.t ≠ (f.sc + f.samples - 1) / p.t then some .discAlign
      else if p.n < f.first + f.paths then some .discRange
      else if f.timeOrdered ≠ p.timeOrdered then some .discOrder
      else if (p.pos f.chan).isNone then
        some (if f.chan ∈ p.listed then .shedFrames else .discChannel)
      else if covering.isNone then some .discPlan
      else if !sourceOk f s then some .discSource
      else if p.skips (f.sc / p.t) ((p.pos f.chan).getD 0) then some .shedFrames
      else none

/-- Checks 1 to 15 (R61): the discard counter, or the F-frame; neither for a frame that R51 handles. -/
def ingressChecks (port : Nat) (f : EthIn) (s : State) : Option Ctr × Option FFrame :=
  if !f.fcsOk ∨ 9216 < f.bytes.length + 4 then (some .fcsErr, none)
  else if !addressed port f.bytes s then (some .discAddr, none)
  else if isFlowControl f.bytes then (some .discFlowctl, none)
  else
    match fframe f.bytes s with
    | none => (if handledElsewhere port f.bytes s then none else some .discNotFframe, none)
    | some ff =>
      match frameChecks ff s with
      | some c => (some c, none)
      | none => (none, some ff)

/-! ### Admission -/

/-- The bytes of sub-block `q` of path `i` of a frame (R56): 128 consecutive samples. -/
def frameSub (f : FFrame) (i q : Nat) : List Byte :=
  let b := formatBytes f.format
  (List.range 128).flatMap fun r => slice f.payload (((q * 128 + r) * f.paths + i) * b) b

/-- The sub-blocks of a frame: path, sub-block of the chunk, bytes. -/
def frameSubs (p : Plan) (f : FFrame) : List (Nat × Nat × List Byte) :=
  (List.range f.paths).flatMap fun i =>
    (List.range (f.samples / 128)).map fun q =>
      (f.first + i, f.sc % p.t / 128 + q, frameSub f i q)

/-- R86: an accepted frame counts for its source, with `len` bytes. The counts of an entry go on over a commit,
after which the sources take the entries anew (DESIGN CHOICE, log entry 125). -/
def countSource (f : FFrame) (len : Nat) (s : State) : State :=
  let known := s.data.sources.findIdx? (· == f.source)
  let (i, s1) := match known with
    | some i => (i, s)
    | none =>
      if s.data.sources.length < 256 then
        (s.data.sources.length, { s with data := { s.data with sources := s.data.sources ++ [f.source] } })
      else (256, s)
  count .srcBytes i len (count .srcFrames i 1 s1)

/-- R369: the lag of an accepted frame, in ns saturated to 32 bits. -/
def noteLag (port : Nat) (f : FFrame) (raw : Nat) (s : State) : State :=
  let at_ := rxStamp port raw s
  let done := scTide (f.sc + f.samples) s
  let lag : Int := ((at_ : Int) - done) / 65536
  let lag := max (-2147483648) (min 2147483647 lag)
  let i := (s.data.sources.findIdx? (· == f.source)).getD 256
  let lo := match sFind s.time.lagMin i with
    | some v => min v lag
    | none => lag
  let hi := match sFind s.time.lagMax i with
    | some v => max v lag
    | none => lag
  { s with time := { s.time with lagMin := sSet s.time.lagMin i lo, lagMax := sSet s.time.lagMax i hi } }

/-- An accepted frame's counts (R58, R86, R369). SRC_BYTES counts the whole frame, from destination address to
FCS (DESIGN CHOICE, log entry 125). -/
def accepted (port : Nat) (e : EthIn) (f : FFrame) (s : State) : State :=
  let s1 := noteLag port f e.raw (countSource f (e.bytes.length + 4) s)
  if f.flagged then count .flaggedFrames port 1 s1 else s1

/-- Block-ordered admission (R63, R70, R76, R72). -/
def admitFrame (port : Nat) (e : EthIn) (p : Plan) (f : FFrame) (s : State) : State :=
  let b := p.block (f.sc / p.t) ((p.pos f.chan).getD 0)
  let d := b % 4
  match admitBlock p b d s with
  | (.late, s1) => count .lateFrames d 1 s1
  | (.noSlot, s1) => count .noslotFrames d 1 s1
  | (.slot i, s1) =>
    let s2 := accepted port e f s1
    if f.flagged then s2
    else
      closeIfFull d i p
        ((frameSubs p f).foldl (fun x w => writeSub p d i (w.1 * p.s + w.2.1) w.2.2 x) s2)

/-! ### The corner turn (R64, R65, R67) -/

/-- The lowest chunk that the corner-turn buffer has not closed under a plan record. -/
def ctLowest (p : Plan) (s : State) : Nat :=
  if s.data.ctOpen.1 = p.epoch then s.data.ctOpen.2 else p.sc / p.t

/-- Chunks above it that have closed. -/
def ctAheadOf (p : Plan) (s : State) : List Nat := if s.data.ctOpen.1 = p.epoch then s.data.ctAhead else []

/-- A chunk has closed (R67). -/
def ctClosed (p : Plan) (chunk : Nat) (s : State) : Bool :=
  decide (chunk < ctLowest p s) || (ctAheadOf p s).contains chunk

/-- The area of a chunk. -/
def ctFind (p : Plan) (chunk : Nat) (s : State) : Option Nat :=
  s.data.ct.findIdx? fun a => a.epoch == p.epoch && a.chunk == chunk

/-- The lowest open chunk from `lo` on beside closed ones, and the closed ones above it. -/
def ctRaise : Nat → Nat → List Nat → Nat × List Nat
  | 0, lo, l => (lo, l)
  | n + 1, lo, l => if l.contains lo then ctRaise n (lo + 1) (l.filter (· != lo)) else (lo, l)

/-- Close an area (R67); a chunk that closes before a lower one leaves that one open. -/
def ctClose (p : Plan) (chunk : Nat) (s : State) : State :=
  let ct := s.data.ct.map fun a =>
    if a.epoch = p.epoch ∧ a.chunk = chunk then { a with closed := true } else a
  let l := chunk :: ctAheadOf p s
  let r := ctRaise (l.length + 1) (ctLowest p s) l
  { s with data := { s.data with
      ct := ct
      ctOpen := (p.epoch, r.1)
      ctAhead := r.2
      ctSeen := s.data.ctSeen.filter fun x => decide (r.1 < x.2.1) } }

/-- An empty area for a chunk, when one of the three is free: the lowest-numbered (log entry 28). -/
def ctNew (p : Plan) (chunk : Nat) (s : State) : Option State :=
  ((List.range 3).find? fun i => s.data.ct.all (·.area != i)).map fun i =>
    { s with data := { s.data with
      ct := s.data.ct ++ [{ area := i, epoch := p.epoch, chunk, closed := false, moved := 0,
                            firstAt := s.time.now, subs := [] }] } }

/-- The arrival of the first frame of a chunk (R67). -/
def ctSee (p : Plan) (chunk : Nat) (s : State) : State :=
  if s.data.ctSeen.any (fun x => x.1 == p.epoch && x.2.1 == chunk) then s
  else { s with data := { s.data with ctSeen := s.data.ctSeen ++ [(p.epoch, chunk, s.time.now)] } }

/-- The DPA of a sub-block of an area in the CORNER_TURN region (R64, R65, R430). -/
def ctDpa (p : Plan) (area key : Nat) (s : State) : Option Nat :=
  (place 9 s).map fun x => x.base + area * (p.c * p.blockBytes) + key * (128 * p.beta)

/-- Write a sub-block of an area to DRAM, unless it is present (R64, R76). -/
def ctWrite (p : Plan) (d i key : Nat) (bytes : List Byte) (s : State) : State :=
  match s.data.ct[i]? with
  | none => s
  | some a =>
    if a.subs.contains key then count .dupSubblocks d 1 s
    else
      let s1 := { s with data := { s.data with ct := s.data.ct.set i { a with subs := a.subs ++ [key] } } }
      match ctDpa p a.area key s with
      | some dpa => cellsWrite dpa bytes s1
      | none => s1

/-- Time-ordered admission (R64, R67). -/
def admitTurn (port : Nat) (e : EthIn) (p : Plan) (f : FFrame) (s : State) : State :=
  let chunk := f.sc / p.t
  let j := (p.pos f.chan).getD 0
  let d := p.block chunk j % 4
  if p.epoch < s.data.ctOpen.1 ∨ ctClosed p chunk s then count .lateFrames d 1 s
  else
    let s0 := ctSee p chunk s
    let got := match ctFind p chunk s0 with
      | some i => some (i, s0)
      | none => (ctNew p chunk s0).map fun x => (s0.data.ct.length, x)
    match got with
    | none => count .noslotFrames d 1 s0
    | some (i, s1) =>
      let s2 := accepted port e f s1
      if f.flagged then s2
      else
        let s3 := (frameSubs p f).foldl
          (fun x w => ctWrite p d i ((j * p.n + w.1) * p.s + w.2.1) w.2.2 x) s2
        if (s3.data.ct[i]?.map (·.subs.length)) = some (p.c * p.blockSubs) then ctClose p chunk s3 else s3

/-! ### Frames (R61, R86) -/

/-- A logical ingress link. -/
def ingressLink (port : Nat) (s : State) : LinkS :=
  sGet (fun _ => ⟨false, 0, false, false⟩) s.ingressLinks port

/-- Set a logical ingress link. -/
def setIngressLink (port : Nat) (l : LinkS) (s : State) : State :=
  { s with ingressLinks := sPut (fun _ => ⟨false, 0, false, false⟩) s.ingressLinks port l }

/-- R46: the logical ports In.k that a port mode provides. -/
def modeProvides (mode k : Nat) : Bool :=
  if mode = 0 then k == 0 else if mode = 1 then decide (k < 2) else decide (k < 4)

/-- The port is provided, its ingress domain is on and its link is up (R86). -/
def ingressUp (port : Nat) (s : State) : Bool :=
  modeProvides (par .ingressPortMode (port / 4) 0 s) (port % 4) && domain (34 + port / 32) s == .on &&
    (ingressLink port s).up

/-- The discard counters in the order of R61. -/
def discardCtrs : List Ctr :=
  [.fcsErr, .discAddr, .discFlowctl, .discNotFframe, .discChecksum, .discHcheck, .discFormat,
   .discLength, .discAlign, .discRange, .discOrder, .discChannel, .discPlan, .discSource, .shedFrames]

/-- Count a discard, and note it for EV_INGRESS_DISCARD (R87). -/
def discard (port : Nat) (c : Ctr) (s : State) : State :=
  let k := port * 32 + (discardCtrs.findIdx? (· == c)).getD 31
  let s1 := count c port 1 s
  { s1 with data := { s1.data with
      discards := sPut (fun _ => 0) s1.data.discards k (sGet (fun _ => 0) s1.data.discards k + 1) } }

/-- The counts of every received frame (R86): its length from destination address to FCS, and the codewords
of the link. -/
def countFrame (port len corr uncorr : Nat) (s : State) : State :=
  count .fecUncorr port uncorr (count .fecCorr port corr (count .rxBytes port len (count .rxFrames port 1 s)))

/-- They are counted for an Ethernet frame. -/
def received (port : Nat) (f : EthIn) (s : State) : State :=
  countFrame port (f.bytes.length + 4) f.fecCorr f.fecUncorr s

/-- A frame arrives on an ingress port. -/
def frameIn (port : Nat) (f : EthIn) (s : State) : State :=
  let s1 := received port f s
  match ingressChecks port f s1 with
  | (some c, _) => discard port c s1
  | (none, none) => s1
  | (none, some ff) =>
    match planAt ff.sc s1 with
    | none => s1
    | some p => if p.timeOrdered then admitTurn port f p ff s1 else admitFrame port f p ff s1

/-- F_FRAME_RECEIVE (R61). -/
def execFFrameReceive (t : Nat) (port : Fin 128) (f : EthIn) (s : State) :
    Host.Outcome State Fault Refusal :=
  act t (onlyIf (ingressUp port) (frameIn port f)) s

/-- R51: a frame that passes checks 1 to 3 and is a request for a configured address is answered. -/
def resolve (port : Nat) (f : EthIn) (target : Option Nat) (own : Nat) (reply : List Byte) (s : State) :
    State :=
  let s1 := received port f s
  match ingressChecks port f s1 with
  | (some c, _) => discard port c s1
  | (none, some _) => s1
  | (none, none) => if target = some own then emit (.eth port reply) s1 else s1

/-- ARP_REQUEST (R51). -/
def execArpRequest (t : Nat) (port : Fin 128) (f : EthIn) (s : State) :
    Host.Outcome State Fault Refusal :=
  act t (onlyIf (ingressUp port) fun x =>
    resolve port f (arpTarget f.bytes) (par .ingressIp4 port 0 x % 2 ^ 32)
      (arpReply f.bytes (par .ingressMac port 0 x)) x) s

/-- NEIGHBOUR_SOLICITATION (R51). -/
def execNeighbourSolicitation (t : Nat) (port : Fin 128) (f : EthIn) (s : State) :
    Host.Outcome State Fault Refusal :=
  act t (onlyIf (ingressUp port) fun x =>
    resolve port f (nsTarget f.bytes) (par .ingressIp6 port 0 x)
      (nsReply f.bytes (par .ingressMac port 0 x)) x) s

/-! ### Closing blocks -/

/-- R72: the deadline of a slot's block. -/
def deadline (p : Plan) (v : Slot) : Nat := v.openAt + p.arrival + p.closeWait

/-- BLOCK_DEADLINE (R72). -/
def execBlockDeadline (t : Nat) (d : Fin 4) (i : Fin 16) (s : State) :
    Host.Outcome State Fault Refusal :=
  act t (fun x =>
    let v := (die d x).slot i
    match planOf v.epoch x with
    | none => x
    | some p =>
      if v.state = .open ∧ deadline p v ≤ x.time.now then closeSlot d i p x else x) s

/-- CORNER_TURN_CLOSE_WAIT (R67): the wait since the first frame of chunk k + 1 is over. -/
def execCornerTurnCloseWait (t : Nat) (chunk : Nat) (s : State) : Host.Outcome State Fault Refusal :=
  act t (fun x =>
    match x.data.ctSeen.find? (fun y => y.2.1 == chunk + 1) with
    | none => x
    | some (e, _, at_) =>
      match planOf e x with
      | none => x
      | some p =>
        if ctClosed p chunk x ∨ x.time.now < at_ + p.closeWait then x
        else
          match ctFind p chunk x with
          | some _ => ctClose p chunk x
          | none =>
            match ctNew p chunk x with
            | some y => ctClose p chunk y
            | none => x) s

/-- Free an area whose last block has been moved. -/
def ctAdvance (i : Nat) (a : CtArea) (p : Plan) (s : State) : State :=
  let a' := { a with moved := a.moved + 1 }
  if p.c ≤ a'.moved then { s with data := { s.data with ct := s.data.ct.eraseIdx i } }
  else { s with data := { s.data with ct := s.data.ct.set i a' } }

/-- The closed area with the lowest chunk. -/
def ctOldest (s : State) : Option Nat :=
  ((List.range s.data.ct.length).foldl (fun (b : Option (Nat × Nat × Nat)) i =>
    match s.data.ct[i]? with
    | none => b
    | some a =>
      if !a.closed then b
      else match b with
        | none => some (i, a.epoch, a.chunk)
        | some (j, e, k) => if a.epoch < e ∨ (a.epoch = e ∧ a.chunk < k) then some (i, a.epoch, a.chunk)
                            else some (j, e, k)) none).map (·.1)

/-- CORNER_TURN_MOVE (R64, R70, R72, R200): the next block of the oldest closed chunk moves into a
culvert slot and closes; a block that finds no slot waits. -/
def execCornerTurnMove (t : Nat) (s : State) : Host.Outcome State Fault Refusal :=
  act t (fun x =>
    match ctOldest x with
    | none => x
    | some i =>
      match x.data.ct[i]? with
      | none => x
      | some a =>
        match planOf a.epoch x with
        | none => { x with data := { x.data with ct := x.data.ct.eraseIdx i } }
        | some p =>
          let b := p.block a.chunk a.moved
          let d := b % 4
          if p.skips a.chunk a.moved then ctAdvance i a p x
          else if (die d x).stopped then
            ctAdvance i a p (ledgerDue d 0 p.epoch (p.blockChan b) a.chunk x)
          else
            match admitBlock p b d x with
            | (.noSlot, _) => x
            | (.late, y) => ctAdvance i a p y
            | (.slot k, y) =>
              let lo := a.moved * p.blockSubs
              let subs := (sortAsc (a.subs.filter fun k => decide (lo ≤ k) && decide (k < lo + p.blockSubs))).map
                fun k => (k - lo, match ctDpa p a.area k y with
                  | some dpa => cellsRead dpa (128 * p.beta) y
                  | none => List.replicate (128 * p.beta) 0)
              let y1 := subs.foldl (fun u w => writeSub p d k w.1 w.2 u) y
              closeSlot d k p (ctAdvance i a p y1)) s

/-! ### Links (R87) -/

/-- INGRESS_LINK_CHANGE (R87). -/
def execIngressLinkChange (t : Nat) (port : Fin 128) (up : Bool) (s : State) :
    Host.Outcome State Fault Refusal :=
  act t (fun x =>
    let l := ingressLink port x
    let can := modeProvides (par .ingressPortMode (port / 4) 0 x) (port % 4) &&
      domain (34 + port / 32) x == .on
    if l.up = up ∨ (up ∧ !can) then x
    else
      let l' := if up then { l with up := true, beenUp := true, reported := false }
        else { l with up := false, downSince := x.time.now, reported := false }
      let x1 := setIngressLink port l' x
      let x2 := if up then x1 else count .linkDown port 1 x1
      raise .ingressLink [port, if up then 1 else 0, tide96 x2.time.tide] x2) s

/-- ingress.ports of the plan in force names the port, and its mode provides it (R286). -/
def inService (port : Nat) (s : State) : Bool :=
  match s.plan.running with
  | none => false
  | some p => bitAt (p.par0 .ingressPorts) port &&
      modeProvides (p.par .ingressPortMode (port / 4) 0) (port % 4)

/-- INGRESS_LINK_DOWN_TIMEOUT (R87): 1 s down after being up, or 2 s from the commit without. -/
def execIngressLinkDownTimeout (t : Nat) (port : Fin 128) (s : State) :
    Host.Outcome State Fault Refusal :=
  act t (fun x =>
    let l := ingressLink port x
    let wait := if l.beenUp then secT 1 else secT 2
    if inService port x ∧ !l.up ∧ !l.reported ∧ l.downSince + wait ≤ x.time.now then
      fire .ingressLink (setIngressLink port { l with reported := true } x)
    else x) s

end Sys2Proof.Machine
end

