-- ==== Sys2Proof/Machine/Ptp.lean ====
section
/-! DEFINITION. PTP: the time transmitter ports, the time receiver ports and the transparent clock
(chapter 11). Message layouts are those of IEEE 1588-2019, which R370 names (log entry 14). -/

namespace Sys2Proof.Machine

/-! ### Messages -/

/-- messageType. -/
def ptpType (b : List Byte) : Nat := (b.headD 0).toNat % 16
/-- versionPTP. -/
def ptpVersion (b : List Byte) : Nat := beAt b 1 1 % 16
/-- domainNumber. -/
def ptpDomain (b : List Byte) : Nat := beAt b 4 1
/-- twoStepFlag. -/
def ptpTwoStep (b : List Byte) : Bool := bitAt (beAt b 6 1) 1
/-- correctionField, signed. -/
def ptpCorr (b : List Byte) : Int := signed 64 (beAt b 8 8)
/-- sourcePortIdentity. -/
def ptpSource (b : List Byte) : Nat := beAt b 20 10
/-- sequenceId. -/
def ptpSeq (b : List Byte) : Nat := beAt b 30 2
/-- logMessageInterval, signed. -/
def ptpLog (b : List Byte) : Int := signed 8 (beAt b 33 1)
/-- A ten-byte timestamp at an offset, in units of 2^-16 ns. -/
def ptpStamp (b : List Byte) (off : Nat) : Nat :=
  beAt b off 6 * 65536000000000 + beAt b (off + 6) 4 * 65536

/-- The least length of each messageType. -/
def ptpMinLength (typ : Nat) : Nat :=
  [44, 44, 54, 54, 34, 34, 34, 34, 44, 54, 54, 64, 44, 48, 34, 34].getD typ 34

/-- R370: a frame is discarded unless its versionPTP is 2 and it is long enough. -/
def ptpSound (b : List Byte) : Bool :=
  ptpVersion b == 2 && decide (ptpMinLength (ptpType b) ≤ b.length)

/-- An event message: Sync, Delay_Req, Pdelay_Req, Pdelay_Resp (R379). -/
def ptpIsEvent (typ : Nat) : Bool := decide (typ < 4)

/-- The portIdentity of a logical port (R371). -/
def portIdentity (port : Nat) : Nat :=
  Config.clockIdentity % 2 ^ 64 * 65536 + (port + 1)

/-- A message header of 34 bytes with minorVersionPTP 1 (R370). -/
def ptpHeader (typ len domain flags : Nat) (corr : Int) (port seq ctl : Nat) (log : Int) :
    List Byte :=
  natBE 1 typ ++ natBE 1 0x12 ++ natBE 2 len ++ natBE 1 domain ++ natBE 1 0 ++ natBE 2 flags ++
    natBE 8 (wrapTo 64 corr) ++ natBE 4 0 ++ natBE 10 (portIdentity port) ++ natBE 2 seq ++
    natBE 1 ctl ++ natBE 1 (wrapTo 8 log)

/-- A timestamp's ten bytes: seconds and nanoseconds. -/
def stampBytes (x : Nat) : List Byte :=
  natBE 6 (x / 65536000000000) ++ natBE 4 (x / 65536 % 1000000000)

/-- What of a time the ten bytes leave to the correctionField. -/
def stampFrac (x : Nat) : Int := (x % 65536 : Nat)

/-! ### Ports -/

/-- A logical ingress link, or a host link, is up. -/
def portUp (port : Nat) (s : State) : Bool :=
  if port < 128 then (sGet (fun _ => (⟨false, 0, false, false⟩ : LinkS)) s.ingressLinks port).up
  else hostUp (port - 128) s

/-- A transmitter port's sequence and rate state. -/
def txPort (port : Nat) (s : State) : PtpTx := sGet (fun _ => ⟨0, 0, []⟩) s.time.tx port

/-- Set a transmitter port. -/
def setTxPort (port : Nat) (x : PtpTx) (s : State) : State :=
  { s with time := { s.time with tx := sPut (fun _ => ⟨0, 0, []⟩) s.time.tx port x } }

/-- R372: the transmitter port of a logical ingress port runs. -/
def txRuns (port : Nat) (s : State) : Bool :=
  timingRuns s && portUp port s && par0 .timingPtpTxEnable s == 1

/-- A receiver port that has measured nothing. -/
def PtpRx.idle : PtpRx :=
  { sel := none, pendSync := none, offset := none, pathDelay := none, syncDiff := none, req := none,
    resp := none, nextReq := 0 }

/-- A receiver port. -/
def rxPort (p : Nat) (s : State) : PtpRx := s.time.rx.getD p PtpRx.idle

/-- Set a receiver port. -/
def setRxPort (p : Nat) (x : PtpRx) (s : State) : State :=
  { s with time := { s.time with rx := s.time.rx.set p x } }

/-- Is the port in the P2P delay mechanism (R373)? -/
def isP2P (port : Nat) (s : State) : Bool := par .timingPtpDelayMech port 0 s == 1

/-- Where a port sends a message of a type (R370, R373): the multicast addresses of IEEE 1588 Annexes C, D
and E, with the scope of FF0E::181, and UDP port 319 for event messages (PRESUMED, log entry 118). -/
def ptpTo (port typ : Nat) (s : State) : PtpTo :=
  let peer : Bool := typ == 2 || typ == 3 || typ == 10
  let udp := if ptpIsEvent typ then 319 else 320
  let tr := par .timingPtpTransport port 0 s
  if tr = 0 then ⟨0, if peer then 0xE000006B else 0xE0000181, udp⟩
  else if tr = 1 then
    ⟨1, if peer then 0xFF02 * 2 ^ 112 + 0x6B else 0xFF0E * 2 ^ 112 + 0x181, udp⟩
  else ⟨2, if peer then 0x0180C200000E else 0x011B19000000, 0⟩

/-- A PTP message leaves a port. -/
def ptpOut (port : Nat) (b : List Byte) (at_ : Nat) (s : State) : State :=
  emit (.ptp port (ptpTo port (ptpType b) s) b at_) s

/-- timing.ptp_asym of a host port. -/
def asym (p : Nat) (s : State) : Int := signed 64 (par .timingPtpAsym (hostInst p) 0 s)

/-- Count a received event message (R394). -/
def countRx (port : Nat) (b : List Byte) (s : State) : State :=
  if ptpIsEvent (ptpType b) then count .ptpRxEvent port 1 s else s

/-- An event message that the module originates: it leaves, is counted and makes an entry (R379). -/
def sendEvent (port : Nat) (owner : Nat) (b : List Byte) (at_ : Nat) (s : State) : State :=
  let s1 := ptpOut port b at_ s
  if ptpIsEvent (ptpType b) then
    count .ptpTxEvent port 1 (txtsPush port
      { mtype := ptpType b, domain := ptpDomain b, owner, seq := ptpSeq b, stepped := false,
        time := at_ } s1)
  else s1

/-- The flags of R420's state in an Announce: ptpTimescale, timeTraceable, frequencyTraceable. -/
def announceFlags (s : State) : Nat :=
  8 + (if timeTraceable s then 16 else 0) + (if s.time.selected.isSome then 32 else 0)

/-! ### The time transmitter role -/

/-- PTP_SYNC_TX (R373, R381): a two-step Sync leaves at raw time `raw`; firmware reads its entry and
sends the Follow_Up. -/
def execPtpSyncTx (t : Nat) (port : Fin 128) (raw : Nat) (s : State) :
    Host.Outcome State Fault Refusal :=
  act t (onlyIf (txRuns port) fun s =>
    let x := txPort port s
    let dom := par0 .timingPtpTxDomain s
    let log := signed 32 (par0 .timingPtpTxSyncLog s)
    let at_ := txStamp port raw s
    let sync := ptpHeader 0 44 dom 0x0200 0 port x.syncSeq 0 log ++ natBE 10 0
    let s1 := sendEvent port 0 sync at_ (setTxPort port { x with syncSeq := (x.syncSeq + 1) % 65536 } s)
    match txtsTake port 0 dom x.syncSeq 0 s1 with
    | (some e, s2) =>
      ptpOut port (ptpHeader 8 44 dom 0 (stampFrac e.time) port x.syncSeq 2 log ++
        stampBytes e.time) at_ s2
    | (none, s2) => s2) s

/-- PTP_ANNOUNCE_TX (R373, R421). -/
def execPtpAnnounceTx (t : Nat) (port : Fin 128) (s : State) : Host.Outcome State Fault Refusal :=
  act t (onlyIf (txRuns port) fun s =>
    let x := txPort port s
    let (q, acc, var, src) := moduleClock s
    let b := ptpHeader 11 64 (par0 .timingPtpTxDomain s) (announceFlags s) 0 port x.announceSeq 5
        (signed 32 (par0 .timingPtpTxAnnounceLog s)) ++
      natBE 10 0 ++ natBE 2 Config.utcOffset ++ natBE 1 0 ++ natBE 1 128 ++
      natBE 1 (clockClassOf q) ++ natBE 1 acc ++ natBE 2 var ++ natBE 1 128 ++
      natBE 8 Config.clockIdentity ++ natBE 2 0 ++ natBE 1 src
    ptpOut port b s.time.tide
      (setTxPort port { x with announceSeq := (x.announceSeq + 1) % 65536 } s)) s

/-- R373: a request is answered while fewer than 128 were in the second before it. -/
def admitRequest (port : Nat) (s : State) : Bool × State :=
  let x := txPort port s
  let l := inLastSecond x.answers s
  if l.length < 128 then (true, setTxPort port { x with answers := s.time.now :: l } s)
  else (false, count .ptpRateDisc port 1 s)

/-- A PTP frame that a port takes in: bad ones are discarded and counted (R370). -/
def withPtp (port : Nat) (m : PtpIn) (f : State → State) (s : State) : State :=
  if !m.fcsOk then s
  else if !ptpSound m.bytes then count .ptpDisc port 1 s
  else f (countRx port m.bytes s)

/-- A frame with a PTP message arrives on a port whose link is up: an ingress port counts it whatever the
timing subsystem does (R86), and checks 1 to 4 of R61 pass it on (R51). -/
def ptpIn (port : Nat) (m : PtpIn) (runs : State → Bool) (f : State → State) (s : State) : State :=
  if port < 128 then
    let s1 := countFrame port m.len m.fecCorr m.fecUncorr s
    if !m.fcsOk ∨ 9216 < m.len then discard port .fcsErr s1
    else if runs s1 then withPtp port m f s1 else s1
  else if runs s then withPtp port m f s else s

/-- PTP_DELAY_REQ_RX (R373): the port answers with a Delay_Resp. -/
def execPtpDelayReqRx (t : Nat) (port : Fin 128) (m : PtpIn) (s : State) :
    Host.Outcome State Fault Refusal :=
  act t (onlyIf (portUp port) <| ptpIn port m (txRuns port) fun s =>
    if ptpType m.bytes ≠ 1 ∨ ptpDomain m.bytes ≠ par0 .timingPtpTxDomain s ∨ isP2P port s then s
    else
      match admitRequest port s with
      | (false, s1) => s1
      | (true, s1) =>
        let t4 := rxStamp port m.raw s
        let b := ptpHeader 9 54 (ptpDomain m.bytes) 0 (ptpCorr m.bytes - stampFrac t4) port
            (ptpSeq m.bytes) 3 (signed 32 (par0 .timingPtpTxDelayreqLog s)) ++
          stampBytes t4 ++ natBE 10 (ptpSource m.bytes)
        ptpOut port b s.time.tide s1) s

/-- R372, R374: a port's PTP runs: on an ingress port the transmitter role alone. -/
def ptpRuns (port : Nat) (s : State) : Bool :=
  if port < 128 then txRuns port s else timingRuns s && portUp port s

/-- PTP_PDELAY_REQ_RX (R370): a two-step Pdelay_Resp at raw time `raw`, then its Follow_Up. -/
def execPtpPdelayReqRx (t : Nat) (port : Fin 130) (m : PtpIn) (raw : Nat) (s : State) :
    Host.Outcome State Fault Refusal :=
  act t (onlyIf (portUp port) <| ptpIn port m (ptpRuns port) fun s =>
    let dom := if port.val < 128 then par0 .timingPtpTxDomain s else par .timingPtpRxDomain port 0 s
    if ptpType m.bytes ≠ 2 ∨ ptpDomain m.bytes ≠ dom ∨ !isP2P port s then s
    else
      match admitRequest port s with
      | (false, s1) => s1
      | (true, s1) =>
        let t2 := rxStamp port m.raw s
        let t3 := txStamp port raw s
        let resp := ptpHeader 3 54 dom 0x0200 (-stampFrac t2) port (ptpSeq m.bytes) 5 0x7F ++
          stampBytes t2 ++ natBE 10 (ptpSource m.bytes)
        let s2 := sendEvent port 0 resp t3 s1
        let (_, s3) := txtsTake port 3 dom (ptpSeq m.bytes) 0 s2
        ptpOut port (ptpHeader 10 54 dom 0 (ptpCorr m.bytes + stampFrac t3) port
          (ptpSeq m.bytes) 5 0x7F ++ stampBytes t3 ++ natBE 10 (ptpSource m.bytes)) t3 s3) s

/-! ### The time receiver role -/

/-- The dataset of an Announce. -/
def announceData (b : List Byte) : Dataset :=
  { prio1 := beAt b 47 1, cls := beAt b 48 1, acc := beAt b 49 1, var := beAt b 50 2,
    prio2 := beAt b 52 1, gm := beAt b 53 8, steps := beAt b 61 2 }

/-- The dataset comparison of R374: `a` is better than `b`. -/
def betterData (a : Dataset) (srcA : Nat) (b : Dataset) (srcB : Nat) : Bool :=
  if a.gm = b.gm then decide ([a.steps, srcA] < [b.steps, srcB])
  else decide ([a.prio1, a.cls, a.acc, a.var, a.prio2, a.gm] < [b.prio1, b.cls, b.acc, b.var, b.prio2, b.gm])

/-- The reference code of a host port's PTP (R396). -/
def ptpRef (p : Nat) : Nat := 2 + p

/-- R375: the selected transmitter is lost or changes: measurements are discarded, the reference is
disqualified, the loss counted and reported. `cause`: 0 ANNOUNCE_TIMEOUT, 1 SYNC_TIMEOUT, 2 CHANGED. -/
def transmitterLoss (p cause : Nat) (new : Option PtpSel) (s : State) : State :=
  let x := rxPort p s
  let old := match x.sel with
    | some y => y.src / 65536
    | none => 0
  let s1 := setRxPort p { PtpRx.idle with sel := new, nextReq := x.nextReq } s
  let r := ptpRef p
  let s2 := refreshRef r 4 (setRef r { ref r s1 with ptpOk := false } s1)
  let s3 := fire .ptpLoss (count .ptpTxLoss (hostInst p) 1 s2)
  raise .ptpTransmitter [hostInst p, cause, old, (new.map fun y => y.src / 65536).getD 0] s3

/-- Deliver a receiver port's measurements to its reference (R374, R396, R400). -/
def ptpUpdate (p : Nat) (s : State) : State :=
  let x := rxPort p s
  let r := ptpRef p
  let ok := x.sel.isSome && ptpMeasured x s.time.now
  let y := match x.offset with
    | some (o, _) => (ref r s).measured o
    | none => ref r s
  refreshRef r 4 (setRef r { y with ptpOk := ok } s)

/-- The offset from a complete Sync, once a path delay is known: tide time minus the transmitter's
time, with timing.ptp_asym (R370). -/
def takeOffset (p : Nat) (s : State) : State :=
  let x := rxPort p s
  match x.syncDiff, x.pathDelay with
  | some d, some (pd, _) =>
    setRxPort p { x with offset := some (d - pd - asym p s, s.time.now) } s
  | _, _ => s

/-- A complete Sync with origin time `t1`, received at `t2` (R375). -/
def completeSync (p : Nat) (t1 t2 : Nat) (corr log : Int) (s : State) : State :=
  let x := rxPort p s
  let sel := x.sel.map fun y => { y with lastSync := s.time.now, logSync := log }
  ptpUpdate p (takeOffset p (setRxPort p { x with
    sel := sel, pendSync := none, syncDiff := some ((t2 : Int) - t1 - corr) } s))

/-- A message of the receiver port's domain, from its selected transmitter. -/
def fromSelected (p : Nat) (b : List Byte) (s : State) : Bool :=
  ptpDomain b == par .timingPtpRxDomain (hostInst p) 0 s &&
    (match (rxPort p s).sel with | some y => y.src == ptpSource b | none => false)

/-- R374, R375: an Announce on a host port: transmitter selection. -/
def announceRx (p : Nat) (b : List Byte) (s : State) : State :=
  if ptpType b ≠ 11 ∨ ptpDomain b ≠ par .timingPtpRxDomain (hostInst p) 0 s then s
  else
    let x := rxPort p s
    let d := announceData b
    let new : PtpSel := { src := ptpSource b, data := d, lastAnnounce := s.time.now,
                          logAnnounce := ptpLog b, lastSync := s.time.now, logSync := 0 }
    let takeQl (s : State) :=
      let r := ptpRef p
      refreshRef r 6 (setRef r { ref r s with ql := qlOfClass d.cls } s)
    match x.sel with
    | none => takeQl (setRxPort p { x with sel := some new } s)
    | some y =>
      if y.src = ptpSource b then
        takeQl (setRxPort p { x with sel := some { y with
          data := d, lastAnnounce := s.time.now, logAnnounce := ptpLog b } } s)
      else if betterData d (ptpSource b) y.data y.src then takeQl (transmitterLoss p 2 (some new) s)
      else s

/-- PTP_ANNOUNCE_RX (R372, R374): an ingress port discards it, a host port selects. -/
def execPtpAnnounceRx (t : Nat) (port : Fin 130) (m : PtpIn) (s : State) :
    Host.Outcome State Fault Refusal :=
  act t (onlyIf (portUp port) <| ptpIn port m (ptpRuns port) fun s =>
    if port.val < 128 then count .announceIgnored port 1 s else announceRx (port.val - 128) m.bytes s) s

/-- PTP_SYNC_RX (R374): a one-step Sync completes at once, a two-step one waits for its Follow_Up. -/
def execPtpSyncRx (t : Nat) (p : Fin 2) (m : PtpIn) (s : State) : Host.Outcome State Fault Refusal :=
  act t (onlyIf (fun s => timingRuns s && hostUp p s) <| withPtp (hostInst p) m fun s =>
    if ptpType m.bytes ≠ 0 ∨ !fromSelected p m.bytes s then s
    else
      let t2 := rxStamp (hostInst p) m.raw s
      if ptpTwoStep m.bytes then
        setRxPort p { rxPort p s with
          pendSync := some ⟨ptpSeq m.bytes, ptpCorr m.bytes, t2⟩ } s
      else completeSync p (ptpStamp m.bytes 34) t2 (ptpCorr m.bytes) (ptpLog m.bytes) s) s

/-- PTP_FOLLOW_UP_RX (R374). -/
def execPtpFollowUpRx (t : Nat) (p : Fin 2) (m : PtpIn) (s : State) :
    Host.Outcome State Fault Refusal :=
  act t (onlyIf (fun s => timingRuns s && hostUp p s) <| withPtp (hostInst p) m fun s =>
    match (rxPort p s).pendSync with
    | some y =>
      if ptpType m.bytes = 8 ∧ fromSelected p m.bytes s ∧ y.seq = ptpSeq m.bytes then
        completeSync p (ptpStamp m.bytes 34) y.rxTime (y.corr + ptpCorr m.bytes) (ptpLog m.bytes) s
      else s
    | none => s) s

/-- PTP_DELAY_REQ_TX (R374, R379): a Delay_Req, or a Pdelay_Req under P2P, leaves at raw time `raw`, less
timing.ptp_asym in its correctionField (clause 16.8 of R370). -/
def execPtpDelayReqTx (t : Nat) (p : Fin 2) (raw : Nat) (s : State) :
    Host.Outcome State Fault Refusal :=
  act t (onlyIf (fun s => timingRuns s && hostUp p s && (rxPort p s).sel.isSome) fun s =>
    let port := hostInst p
    let x := rxPort p s
    let dom := par .timingPtpRxDomain port 0 s
    let at_ := txStamp port raw s
    let typ := if isP2P port s then 2 else 1
    let b := ptpHeader typ (if typ = 2 then 54 else 44) dom 0 (-asym p s) port x.nextReq
        (if typ = 2 then 5 else 1) 0x7F ++ natBE (if typ = 2 then 20 else 10) 0
    sendEvent port 0 b at_ (setRxPort p { x with
      req := some (x.nextReq, at_), resp := none, nextReq := (x.nextReq + 1) % 65536 } s)) s

/-- A measured mean path delay (R374). -/
def takeDelay (p : Nat) (d : Int) (s : State) : State :=
  let x := rxPort p s
  ptpUpdate p (takeOffset p (setRxPort p { x with
    pathDelay := some (d, s.time.now), req := none, resp := none } s))

/-- PTP_DELAY_RESP_RX (R374): a Delay_Resp, a Pdelay_Resp or a Pdelay_Resp_Follow_Up that answers
the outstanding request updates the path delay. -/
def execPtpDelayRespRx (t : Nat) (p : Fin 2) (m : PtpIn) (s : State) :
    Host.Outcome State Fault Refusal :=
  act t (onlyIf (fun s => timingRuns s && hostUp p s) <| withPtp (hostInst p) m fun s =>
    let port := hostInst p
    let x := rxPort p s
    let b := m.bytes
    let mine := beAt b 44 10 == portIdentity port &&
      ptpDomain b == par .timingPtpRxDomain port 0 s
    match x.req with
    | none => s
    | some (seq, t3) =>
      if !mine ∨ ptpSeq b ≠ seq then s
      else if ptpType b = 9 ∧ !isP2P port s then
        match x.syncDiff with
        | some d =>
          let back : Int := (ptpStamp b 34 : Int) - t3 - ptpCorr b
          takeDelay p ((d - asym p s + back) / 2) s
        | none => s
      else if ptpType b = 3 ∧ isP2P port s then
        let t4 := rxStamp port m.raw s
        if ptpTwoStep b then
          setRxPort p { x with resp := some (seq, ptpStamp b 34, t4, ptpCorr b) } s
        else takeDelay p (((t4 : Int) - t3 - ptpCorr b - asym p s) / 2) s
      else if ptpType b = 10 ∧ isP2P port s then
        match x.resp with
        | some (_, t2, t4, c) =>
          takeDelay p (((t4 : Int) - t3 - ((ptpStamp b 34 : Int) - t2) - c - ptpCorr b - asym p s) / 2) s
        | none => s
      else s) s

/-- A message interval 2^log seconds, in units of 2^-16 ns. -/
def logInterval (log : Int) : Nat :=
  match log with
  | .ofNat n => secT (2 ^ n)
  | .negSucc n => secT 1 / 2 ^ (n + 1)

/-- ANNOUNCE_TIMEOUT (R375). -/
def execAnnounceTimeout (t : Nat) (p : Fin 2) (s : State) : Host.Outcome State Fault Refusal :=
  act t (fun s =>
    match (rxPort p s).sel with
    | some y =>
      if y.lastAnnounce + par0 .timingPtpAnnounceTimeout s * logInterval y.logAnnounce ≤ s.time.now
      then transmitterLoss p 0 none s else s
    | none => s) s

/-- SYNC_TIMEOUT (R375). -/
def execSyncTimeout (t : Nat) (p : Fin 2) (s : State) : Host.Outcome State Fault Refusal :=
  act t (fun s =>
    match (rxPort p s).sel with
    | some y =>
      if y.lastSync + par0 .timingPtpSyncTimeout s * logInterval y.logSync ≤ s.time.now
      then transmitterLoss p 1 none s else s
    | none => s) s

/-! ### The transparent clock -/

/-- R376: the transparent clock runs. -/
def tcRuns (s : State) : Bool :=
  timingRuns s && par0 .timingPtpTcEnable s == 1 && !isP2P 128 s && !isP2P 129 s

/-- Forwarded messages: all but Pdelay_Req, Pdelay_Resp and Pdelay_Resp_Follow_Up (R376). -/
def tcForwards (typ : Nat) : Bool := !(typ == 2 || typ == 3 || typ == 10)

/-- The message with another correctionField. -/
def setCorr (b : List Byte) (c : Int) : List Byte := b.take 8 ++ natBE 8 (wrapTo 64 c) ++ b.drop 16

/-- RFC 1624: the checksum for a field that changes from one string of words to another. -/
def rfc1624 (old : Nat) (a b : List Byte) : Nat :=
  65535 - onesFold (onesFold (onesFold ((65535 - old) + (65535 * (a.length / 2) - wordSum a) + wordSum b)))

/-- R377, R378: forward a message that arrived on host port `p`, transmitted on the other at raw
time `txRaw`. -/
def tcForward (p : Nat) (m : PtpIn) (txRaw : Nat) (s : State) : State :=
  let q := 1 - p
  let held := s.time.tcHeld.filter fun x => decide (s.time.now < x.2)
  let s0 := { s with time := { s.time with tcHeld := held } }
  if !tcForwards (ptpType m.bytes) ∨ ptpSource m.bytes / 65536 = Config.clockIdentity % 2 ^ 64 then s0
  else if !hostUp q s0 ∨ 32 ≤ held.length then count .tcDropped (hostInst q) 1 s0
  else
    let typ := ptpType m.bytes
    let residence : Int := (txStamp (hostInst q) txRaw s : Int) - rxStamp (hostInst p) m.raw s
    let c := if typ < 2 then min (ptpCorr m.bytes + residence) (2 ^ 63 - 1) else ptpCorr m.bytes
    let b := setCorr m.bytes c
    let sum := if m.transport = 2 ∨ (m.transport = 0 ∧ m.udpSum = 0) then m.udpSum
      else rfc1624 m.udpSum (slice m.bytes 8 8) (slice b 8 8)
    let leave := s0.time.now + (txRaw - m.raw)
    let s1 := if ptpIsEvent typ then count .ptpTxEvent (hostInst q) 1 s0 else s0
    count .tcForwarded (hostInst q) 1 (emit (.tc (hostInst q) m.transport sum b)
      { s1 with time := { s1.time with tcHeld := s1.time.tcHeld ++ [(hostInst q, leave)] } })

/-- The messages whose arrival on a host port has a row of its own, which counts them (R394): Sync, the
Pdelay messages, Follow_Up, Delay_Resp and Announce. -/
def ptpHasRow (typ : Nat) : Bool := [0, 2, 3, 8, 9, 10, 11].contains typ

/-- TC_FORWARD (R377): the message reaches the transparent clock; one without a row of its own is counted
here (DESIGN CHOICE, log entry 124). -/
def execTcForward (t : Nat) (p : Fin 2) (m : PtpIn) (txRaw : Nat) (s : State) :
    Host.Outcome State Fault Refusal :=
  let pass := fun (x : State) => if tcRuns x then tcForward p m txRaw x else x
  act t (onlyIf (fun s => timingRuns s && hostUp p s) fun x =>
    if ptpHasRow (ptpType m.bytes) then (if m.fcsOk && ptpSound m.bytes then pass x else x)
    else withPtp (hostInst p) m pass x) s

end Sys2Proof.Machine
end

