-- ==== Sys2Proof/Machine/Refs.lean ====
section
/-! DEFINITION. Reference events (chapter 12): monitoring, selection, switches, holdover. -/

namespace Sys2Proof.Machine

/-- R396: a PPS edge arrives and is checked against the 10 MHz count: `deviation` is its distance
from the predicted position in 2^-16 ns. -/
def execPpsEdge (t : Nat) (r : Fin 2) (present10M : Bool) (deviation : Int) (s : State) :
    Host.Outcome State Fault Refusal :=
  act t (fun s =>
    let x := ref r s
    let ok := decide (deviation.natAbs ≤ usT 1)
    let labelled := decide (x.lastPps.getD 0 ≤ x.lastTod.getD 0)
    let y := match x.todSecond with
      | some sec => if labelled then x.measured ((s.time.tide : Int) - (secT sec : Nat)) else x
      | none => x
    let s1 := setRef r { y with sigOk := present10M, ppsOk := ok, lastPps := some s.time.now } s
    refreshRef r (if present10M then 2 else 1) s1) s

/-- Decimal digits of a field of a ToD sentence. -/
def decField (bs : List Byte) : Option Nat :=
  if bs.isEmpty then none
  else bs.foldl (fun a b =>
    match a with
    | none => none
    | some v => if 48 ≤ b.toNat ∧ b.toNat ≤ 57 then some (v * 10 + (b.toNat - 48)) else none) (some 0)

/-- Split a byte string at the first occurrence of a byte. -/
def splitAt (c : Nat) : List Byte → Option (List Byte × List Byte)
  | [] => none
  | b :: r => if b.toNat = c then some ([], r) else (splitAt c r).map fun (x, y) => (b :: x, y)

/-- The upper-case hexadecimal digit of a nibble. -/
def hexDigit (n : Nat) : Byte := BitVec.ofNat 8 (if n < 10 then 48 + n else 55 + n)

/-- R397: the seconds, level and flags of a sentence whose form and check are right. -/
def parseTod (bs : List Byte) : Option (Nat × Nat × Nat) :=
  match splitAt 0x24 bs with
  | some ([], rest) =>
    match splitAt 0x2A rest with
    | some (body, tail) =>
      let x := body.foldl (fun a b => a ^^^ b.toNat) 0
      if tail = [hexDigit (x / 16), hexDigit (x % 16), 13, 10] then
        match splitAt 0x2C body with
        | some (name, r1) =>
          match splitAt 0x2C r1 with
          | some (sec, r2) =>
            match splitAt 0x2C r2 with
            | some (ql, fl) =>
              match decField sec, decField ql, decField fl with
              | some a, some b, some c =>
                if name = [66, 84, 79, 68] ∧ b ≤ 15 ∧ c ≤ 255 then some (a, b, c) else none
              | _, _, _ => none
            | none => none
          | none => none
        | none => none
      else none
    | none => none
  | _ => none

/-- R397, R398: a ToD sentence that ended at `t`; `started` is when it began. -/
def execTodSentence (t : Nat) (r : Fin 2) (text : List Byte) (started : Nat) (s : State) :
    Host.Outcome State Fault Refusal :=
  act t (fun s =>
    let x := ref r s
    let inWindow := match x.lastPps with
      | some p => decide (p + msT 10 ≤ started) && decide (s.time.now + msT 100 ≤ p + secT 1)
      | none => false
    match parseTod text with
    | some (sec, ql, _) =>
      let follows := match (if x.todOk then x.todSecond else none) with
        | some p => decide (sec = p + 1)
        | none => true
      if inWindow && follows then
        refreshRef r 6 (setRef r { x with todOk := true, todSecond := some sec, ql := ql,
                                          lastTod := some s.time.now } s)
      else count .todBad r 1 s
    | none => count .todBad r 1 s) s

/-- Whether an instant, if there was one, lies `span` or more in the past. -/
def lapsed (x : Option Nat) (span : Nat) (s : State) : Bool := x.all fun t => decide (t + span ≤ s.time.now)

/-- R396: a cause is one of the reference's row, and what it names has lasted as long as the row asks; that
the 10 MHz is missing only the outside shows. -/
def lossDue (r : Nat) (cause : LossCause) (s : State) : Bool :=
  let x := ref r s
  match cause with
  | .signal => decide (r < 2)
  | .pps => decide (r < 2) && lapsed x.lastPps (msT 1500) s
  | .tod => decide (r < 2) && lapsed x.lastTod (nsT (par0 .timingTodTimeout s)) s
  | .ptp => decide (2 ≤ r) && decide (r < 4) &&
      !((s.time.rx.toList[r - 2]?).any fun q => q.sel.isSome && ptpMeasured q s.time.now)
  | .esmc => decide (4 ≤ r) && lapsed x.lastEsmc (secT 5) s
  | .link => decide (4 ≤ r) && !hostUp (r - 4) s

/-- R396: a hardware cause invalidates a reference. -/
def execRefSignalLoss (t : Nat) (r : Fin 6) (cause : LossCause) (s : State) :
    Host.Outcome State Fault Refusal :=
  act t (onlyIf (lossDue r cause) fun s =>
    let x := ref r s
    let x' := match cause with
      | .signal => { x with sigOk := false }
      | .pps => { x with ppsOk := false }
      | .tod => { x with todOk := false, todSecond := none }
      | .ptp => { x with ptpOk := false }
      | .esmc => { x with esmcOk := false }
      | .link => { x with linkOk := false }
    refreshRef r cause.code (setRef r x' s)) s

/-- R396, R398: an ESMC PDU arrives on a host port with an SSM code. -/
def execEsmcPduRx (t : Nat) (port : Fin 2) (ssm : Fin 16) (s : State) :
    Host.Outcome State Fault Refusal :=
  act t (onlyIf (fun s => hostUp port s) fun s =>
    let r := 4 + port.val
    refreshRef r 6 (setRef r { ref r s with esmcOk := true, linkOk := true, ql := qlOfSsm ssm,
                                            lastEsmc := some s.time.now } s)) s

/-- R396, R400: the 1 s frequency measurement completes, in units of 0.01 ppb. -/
def execRefFreqMeasure (t : Nat) (r : Fin 6) (freq : Int) (s : State) :
    Host.Outcome State Fault Refusal :=
  act t (fun s =>
    refreshRef r 7 (setRef r { ref r s with freq := freq } s)) s

/-- R399: a QUALIFYING or RESTORING reference completes its wait. -/
def execQualifyTimeExpiry (t : Nat) (r : Fin 6) (s : State) : Host.Outcome State Fault Refusal :=
  act t (onlyIf (fun s =>
      ((ref r s).mon == .qualifying || (ref r s).mon == .restoring) &&
        decide ((ref r s).since + qualifyWait r s ≤ s.time.now))
    (setMon r .selectable)) s

/-- Level on steps 1 to 3 of R403. -/
def equalRank (a b : Nat) (s : State) : Bool :=
  (par0 .timingFreqOnlyRank s != 0 || timeCapable a == timeCapable b) &&
    refQl a s == refQl b s && par .timingRefPriority a 0 s == par .timingRefPriority b 0 s

/-- R407: the kept reference of those of equal rank with `r`. -/
def keptOf (r : Nat) (freqs : List Int) (estimate : Int) (s : State) : Nat :=
  let group := (List.range 6).filter fun x => (ref x s).mon.usable && equalRank r x s
  match group.find? (fun x => s.time.selected = some x) with
  | some x => x
  | none =>
    let good := group.filter fun x => (ref x s).mon == .selectable
    (good.foldl (fun (b : Option Nat) x =>
      match b with
      | none => some x
      | some y => if ((freqs.getD x 0) - estimate).natAbs < ((freqs.getD y 0) - estimate).natAbs
          then some x else some y) none).getD r

/-- R407: one reference against the kept one of its rank. -/
def disagreeOne (freqs : List Int) (estimate : Int) (s : State) (r : Nat) : State :=
  let k := keptOf r freqs estimate s
  let diff := ((freqs.getD r 0) - (freqs.getD k 0)).natAbs
  let lim := par0 .timingDisagreePpb s * 100
  let report (s : State) := raise .refDisagree
    [r, k, satField 32 (freqs.getD r 0 - estimate), satField 32 (freqs.getD k 0 - estimate), k] s
  if k = r then s
  else if (ref r s).mon = .selectable ∧ lim < diff then
    report (fire .refDisagree (setMon r .suspect (setRef r { ref r s with disagrees := some k } s)))
  else if (ref r s).mon = .suspect ∧ 2 * diff ≤ lim then report (setMon r .selectable s)
  else s

/-- R407: a disagreement window completes, with every reference's frequency and the holdover
estimate against the OCXO in 0.01 ppb; windows follow one another (DESIGN CHOICE, log entry 123). -/
def execDisagreeWindow (t : Nat) (freqs : List Int) (estimate : Int) (s : State) :
    Host.Outcome State Fault Refusal :=
  act t (onlyIf (fun s => decide (s.time.disagreeAt + nsT (par0 .timingDisagreeWindow s) ≤ s.time.now)) fun s =>
    (List.range 6).foldl (disagreeOne freqs estimate)
      { s with time := { s.time with disagreeAt := s.time.now, estimate := estimate } }) s

/-- R402 to R406, R411, R412: an evaluation. -/
def execSelectionEvaluation (t : Nat) (s : State) : Host.Outcome State Fault Refusal :=
  act t (fun s => maybeSlew (evaluate s)) s

/-- R408: the switch window ends, with the offset measured over it. -/
def execSwitchCommit (t : Nat) (offset : Int) (s : State) : Host.Outcome State Fault Refusal :=
  act t (fun s =>
    match s.time.candidate with
    | some (c, t0) =>
      if t0 + nsT (par0 .timingSwitchWindow s) ≤ s.time.now then commitSwitch c offset s else s
    | none => s) s

/-- R417, R418: the phase error has stayed below 100 ns for 10 s. -/
def execDpllLock (t : Nat) (s : State) : Host.Outcome State Fault Refusal :=
  act t (onlyIf (fun s => s.time.dpll == .acquiring && s.time.selected.isSome && s.time.slew.isNone &&
      decide (s.time.acquireAt + secT 10 ≤ s.time.now))
    fun s => { s with time := { s.time with
      dpll := .locked
      lockedSince := some (s.time.lockedSince.getD s.time.now) } }) s

/-- R418: timing.holdover_spec passes in HOLDOVER. -/
def execHoldoverExpiry (t : Nat) (s : State) : Host.Outcome State Fault Refusal :=
  act t (onlyIf (fun s => s.time.dpll == .holdover &&
      decide (s.time.holdoverAt + nsT (par0 .timingHoldoverSpec s) ≤ s.time.now))
    fun s =>
      let s1 := { s with time := { s.time with dpll := .expired } }
      raise .holdover [1, tide96 s1.time.tide, if s1.time.estimateShort then 1 else 0]
        (fire .holdoverExpired s1)) s

/-- R413: tide time reaches S: it steps by −D, or the realignment is cancelled. -/
def execRealignDue (t : Nat) (s : State) : Host.Outcome State Fault Refusal :=
  act t (fun s =>
    match s.time.realign with
    | none => s
    | some sec =>
      if s.time.tide < secT sec then s
      else
        let d := debtNow s
        let s1 := { s with time := { s.time with realign := none } }
        let capable := match s.time.selected with
          | some r => timeCapable r
          | none => false
        if s.time.dpll = .switching ∨ s.time.dpll = .holdover ∨ s.time.dpll = .expired ∨ !capable then
          raise .timeRealign [sec, 0, 1] s1
        else
          let s2 := stepTide (tideShift s1.time.tide (-d))
            { s1 with time := { s1.time with debt := 0, slew := none } }
          raise .timeRealign [sec, wrapTo 64 d, 0] (count .realigns 0 1 s2)) s

/-- R414: |D| has fallen below 1 ns, so the slew ends. -/
def execSlewEnd (t : Nat) (s : State) : Host.Outcome State Fault Refusal :=
  act t (onlyIf (fun s => s.time.slew.isSome && decide ((debtNow s).natAbs < 65536))
    fun s => { s with time := { s.time with debt := debtNow s, slew := none } }) s

end Sys2Proof.Machine
end

