-- ==== Sys2Proof/Machine/HostCmds.lean ====
section
/-! DEFINITION. The commands of mailboxes 2, 6 and 7 that act on totals, on timing and on DRAM (R151,
R156, R362, R379 to R386, R406, R413, R415, R443 to R447). What their payloads name comes as operands,
as the spec gives no layout. -/

namespace Sys2Proof.Machine

/-! ### Totals (R151, R156) -/

/-- ZCP_SNAPSHOT's action: one snapshot at a time. -/
def snapshot (chans : List Nat) (_c : Ctx) (s : State) : Res :=
  match s.plan.running with
  | none => refuse rBadValue s
  | some p =>
    let busy := match s.data.snapshot with
      | some x => !x.channels.isEmpty
      | none => false
    if chans.isEmpty ∨ chans.any fun c => !p.channels.contains c then refuse rBadValue s
    else if busy then refuse rBusy s
    else
      let used := (s.data.snapshot.map (·.used)).getD 0
      let n := s.data.snapshots
      answer rOk (Config.replyBody 0x0206 [n]) { s with data := { s.data with
        snapshot := some { id := n, channels := chans, used := used, firstAt := none }
        snapshots := n + 1 } }

/-- ZCP_SNAPSHOT (R156). -/
def execZcpSnapshot (t : Nat) (d : Dgram) (chans : List Nat) (s : State) : Host.Outcome State Fault Refusal :=
  zcp 0x0206 (laid (snapshot chans)) t d s

/-- ZCP_TOTALS_RESET's action: a RESET for every tile of every channel of the region. -/
def totalsReset (area r : Nat) (_c : Ctx) (s : State) : Res :=
  match s.plan.running with
  | none => refuse rBadValue s
  | some p =>
    answer rOk [] ((p.areaChannels area).foldl (fun x chan =>
      (List.range (tilesOf p.k)).foldl (fun y t =>
        let (i, j) := tileAt p.k t
        (tileReset { op := 4, region := r, area := area, chan := chan, i := i, j := j, first := 0, count := 0
                     integration := 0, buffer := 0 } y).2) x) s)

/-- ZCP_TOTALS_RESET (R151). -/
def execZcpTotalsReset (t : Nat) (d : Dgram) (area r : Fin 2) (s : State) : Host.Outcome State Fault Refusal :=
  zcp 0x0207 (laid (totalsReset area r)) t d s

/-! ### Tide time (R362, R413, R415) -/

/-- ZCP_TIME_GET's answer: tide time and the timing state word, in one cycle. -/
def timeGet (_c : Ctx) (s : State) : Res :=
  answer rOk (Config.replyBody 0x0602 [tide96 s.time.tide, timingWord s]) s

/-- ZCP_TIME_GET (R362). -/
def execZcpTimeGet (t : Nat) (d : Dgram) (s : State) : Host.Outcome State Fault Refusal :=
  zcp 0x0602 (sized 0 timeGet) t d s

/-- ZCP_TIME_SET's action; `x` is a tide time as its 96 bits. -/
def timeSet (x : Nat) (_c : Ctx) (s : State) : Res :=
  if 2 ^ 96 ≤ x ∨ !tideValid x then refuse rBadTime s
  else if s.time.origin = 2 then refuse 0x48 s
  else answer rOk [] (stepTide (tideOf96 x) { s with time := { s.time with origin := 1 } })

/-- ZCP_TIME_SET (R415). -/
def execZcpTimeSet (t : Nat) (d : Dgram) (x : Nat) (s : State) : Host.Outcome State Fault Refusal :=
  zcp 0x0603 (laid (timeSet x)) t d s

/-- The selected reference is time-capable. -/
def selectedCapable (s : State) : Bool := match s.time.selected with
  | some r => timeCapable r
  | none => false

/-- ZCP_TIME_REALIGN's action, with the refusals of R413 in order. -/
def timeRealign (sec : Nat) (_c : Ctx) (s : State) : Res :=
  if secT sec < s.time.tide + secT 2 ∨ s.time.tide + secT 86400 < secT sec then refuse rBadTime s
  else if !selectedCapable s then refuse 0x46 s
  else if s.time.realign.isSome then refuse 0x47 s
  else answer rOk [] { s with time := { s.time with realign := some sec } }

/-- ZCP_TIME_REALIGN (R413). -/
def execZcpTimeRealign (t : Nat) (d : Dgram) (sec : Nat) (s : State) : Host.Outcome State Fault Refusal :=
  zcp 0x0604 (laid (timeRealign sec)) t d s

/-- ZCP_REF_SELECT's action (R406, R411): a switch to another reference that has not committed is
abandoned, and a switch begins to the one named, or to the one that R404 and R405 then make the target. -/
def refSelect (r : Nat) (_c : Ctx) (s : State) : Res :=
  if 5 < r then refuse rBadValue s
  else if !(ref r s).mon.usable then refuse 0x45 s
  else
    let s1 := setPar .timingRefManual 0 0 r (setPar .timingRefMode 0 0 1 s)
    let there : Bool := s1.time.selected = some r
    let s2 := { s1 with time := { s1.time with
      wanted := if there then Option.none else some r
      noHold := s1.time.noHold || !there } }
    let target := selectionTarget s2
    match s2.time.candidate with
    | some (c, _) => answer rOk [] (if target = some c then s2 else turnTo target 2 s2)
    | none => answer rOk [] s2

/-- ZCP_REF_SELECT (R406). -/
def execZcpRefSelect (t : Nat) (d : Dgram) (r : Nat) (s : State) : Host.Outcome State Fault Refusal :=
  zcp 0x0605 (laid (refSelect r)) t d s

/-! ### PTP messages of a host (R379 to R381) -/

/-- ZCP_PTP_SEND's action: the message leaves at raw time `raw`; an event message makes an entry that
the session owns. -/
def ptpSend (port : Nat) (msg : List Byte) (raw : Nat) (c : Ctx) (s : State) : Res :=
  if 129 < port ∨ !ptpSound msg then refuse rBadValue s
  else if !portUp port s then refuse rRefused s
  else answer rOk [] (sendEvent port (1 + c.slot) msg (txStamp port raw s) s)

/-- ZCP_PTP_SEND (R379). -/
def execZcpPtpSend (t : Nat) (d : Dgram) (port : Nat) (msg : List Byte) (raw : Nat) (s : State) :
    Host.Outcome State Fault Refusal :=
  zcp 0x0606 (laid (ptpSend port msg raw)) t d s

/-- ZCP_PTP_TXTS's action: the oldest entry with the key that this session owns. -/
def ptpTxts (port mtype domain seq : Nat) (c : Ctx) (s : State) : Res :=
  if 129 < port then refuse rBadValue s
  else match txtsTake port mtype domain seq (1 + c.slot) s with
    | (some e, s1) => answer rOk (e.bytes port) s1
    | (none, _) => refuse rNotFound s

/-- ZCP_PTP_TXTS (R380, R381). -/
def execZcpPtpTxts (t : Nat) (d : Dgram) (port mtype domain seq : Nat) (s : State) :
    Host.Outcome State Fault Refusal :=
  zcp 0x0607 (laid (ptpTxts port mtype domain seq)) t d s

/-! ### Pulse outputs (R384 to R386) -/

/-- The held values of an output's program come into force. -/
def takeArm (n : Nat) (s : State) : State :=
  armItems.foldl (fun x i => setPar i n 0 (parPend i n 0 x) x) s

/-- ZCP_TIDE_OUT_ARM's action. -/
def tideOutArm (n : Nat) (_c : Ctx) (s : State) : Res :=
  if 8 < n then refuse rBadValue s
  else
    let (mode, p) := heldProg n s
    match armRefusal mode p s.time.tide with
    | some code => refuse code s
    | none => answer rOk [] (endIfOver n (applyProg n mode p (takeArm n s)))

/-- ZCP_TIDE_OUT_ARM (R385, R386). -/
def execZcpTideOutArm (t : Nat) (d : Dgram) (n : Nat) (s : State) : Host.Outcome State Fault Refusal :=
  zcp 0x0608 (laid (tideOutArm n)) t d s

/-- ZCP_TIDE_OUT_STOP's action: the program ends as by an ARM, the output goes OFF. -/
def tideOutStop (n : Nat) (_c : Ctx) (s : State) : Res :=
  if 8 < n then refuse rBadValue s
  else answer rOk [] (applyProg n .off { (heldProg n s).2 with lowPol := (out n s).lowPol } s)

/-- ZCP_TIDE_OUT_STOP (R386). -/
def execZcpTideOutStop (t : Nat) (d : Dgram) (n : Nat) (s : State) : Host.Outcome State Fault Refusal :=
  zcp 0x0609 (laid (tideOutStop n)) t d s

/-! ### DRAM (R443, R444, R447) -/

/-- ZCP_MEM_RETRAIN's action: the reply follows the retraining, or the outage in which every channel
trains. -/
def memRetrain (chan : Nat) (c : Ctx) (s : State) : Res :=
  let st := (Machine.chan chan s).state
  if 127 < chan ∨ st = .absent ∨ st = .retired then refuse rBadValue s
  else wait c .retrain chan (queueRetrain chan .command s)

/-- ZCP_MEM_RETRAIN (R444). -/
def execZcpMemRetrain (t : Nat) (d : Dgram) (chan : Nat) (s : State) : Host.Outcome State Fault Refusal :=
  zcp 0x0702 (laid (memRetrain chan)) t d s

/-- ZCP_MEM_SPEED's action. -/
def memSpeed (k bin : Nat) (c : Ctx) (s : State) : Res :=
  let y := stack k s
  if 7 < k ∨ !y.fitted ∨ 4 < bin then refuse rBadValue s
  else if y.outage.isSome ∨ y.gather.isSome then wait c .speedHeld k (requestSpeed k bin s)
  else if y.bin = bin then answer rOk (Config.replyBody 0x0703 [bin]) (requestSpeed k bin s)
  else wait c .speed k (requestSpeed k bin s)

/-- ZCP_MEM_SPEED (R447). -/
def execZcpMemSpeed (t : Nat) (d : Dgram) (k bin : Nat) (s : State) : Host.Outcome State Fault Refusal :=
  zcp 0x0703 (laid (memSpeed k bin)) t d s

/-- ZCP_MEM_CLEAR_RETIRED's action: the flash record is erased; the next boot reads it. -/
def clearRetired (_c : Ctx) (s : State) : Res :=
  answer rOk [] { s with mem := { s.mem with retiredFlash := [] } }

/-- ZCP_MEM_CLEAR_RETIRED (R443). -/
def execZcpMemClearRetired (t : Nat) (d : Dgram) (s : State) : Host.Outcome State Fault Refusal :=
  zcp 0x0704 (sized 0 clearRetired) t d s

end Sys2Proof.Machine
end

