-- ==== Sys2Proof/Machine/BootOps.lean ====
section
/-! DEFINITION. Resets and boots (chapter 19): what each reset keeps, the stages of a boot, the warm reset. -/

namespace Sys2Proof.Machine

/-! ### What a cold reset keeps (R580, R590) -/

/-- An item whose value in force survives power-on: RESET items and zcp.rights (R590). -/
def inFlash (k : Nat) : Bool := (keyItem k).desc.apply == 3 || keyItem k == .zcpRights

/-- The values in force of RESET items become their pending values (R512, R590). -/
def takeResetItems (s : State) : Sparse Nat :=
  (s.pend.filter fun e => (keyItem e.1).desc.apply == 3).foldl (fun m e => sPut keyReset m e.1 e.2)
    (s.force.filter fun e => (keyItem e.1).desc.apply != 3)

/-- A polder as flash describes it (R107, R112, R122). -/
def polderInFlash (n : Nat) (s : State) : Polder :=
  let x := polder n s
  let c := nextState n s
  { resetPolder (n % 7) with
    role := if x.gone then 2 else x.role
    clockStep := c.clockStep
    rows := c.rows }

/-- R587: any reset during a trial ends it, and PREFERRED goes back to the other image. -/
def trialReset (b : BootS) : BootS :=
  if b.trial then { b with preferred := 1 - b.running, trial := false, trialFlag := false } else b

/-- The slots of the black box at a reset: an erase that it interrupts is completed. -/
def slotsAtReset (f : FaultS) : RegFile (Option BBSlot) 8 :=
  match f.erasing with
  | some k => f.slots.set k none
  | none => f.slots

/-- The module after a reset that loses everything but flash (R580): `ring` tells whether the black-box
SRAM ring survives, `kind` the reset that the next boot follows. -/
def coldState (ring : Bool) (kind : Nat) (s : State) : State :=
  let r := State.reset
  let b := trialReset s.boot
  let items := { s with force := takeResetItems s }
  { r with
    pending := s.pending
    sent := s.sent
    free := s.free
    force := items.force.filter fun e => inFlash e.1
    pend := s.pend.filter fun e => (keyItem e.1).desc.apply == 3
    power := { r.power with
      feeds := s.power.feeds
      inputPower := s.power.inputPower
      temps := s.power.temps
      slotId := s.power.slotId
      powerEn := s.power.powerEn
      resetN := s.power.resetN
      stageOn := s.power.stageOn
      startWaiting := s.power.startWaiting
      powerEnFell := s.power.powerEnFell
      holdUpSince := s.power.holdUpSince }
    boot := { r.boot with
      preferred := b.preferred
      trialFlag := b.trialFlag
      lastReset := kind
      images := b.images
      floor := b.floor
      variant := b.variant }
    fault := { r.fault with
      bootCount := s.fault.bootCount
      ring := if ring then s.fault.ring else []
      nextSeq := if ring then s.fault.nextSeq else 0
      slots := slotsAtReset s.fault
      flushes := s.fault.flushes
      flushedOff := s.fault.flushedOff }
    zcp := { r.zcp with
      slots := s.zcp.slots.map fun x => resetSession x.longKey
      draws := s.zcp.draws }
    time := { r.time with now := s.time.now }
    data := { r.data with
      polders := .ofFn 168 fun n => polderInFlash n s
      ringsRetired := s.data.ringsRetired }
    mem := { r.mem with retiredFlash := s.mem.retiredFlash } }

/-! ### The stages of a cold boot (R575, R577, R579) -/

/-- A stage cannot complete (R577). -/
def bootFails (s : State) : State :=
  { s with
    boot := { s.boot with stage := .failed }
    power := { s.power with readyPin := false } }

/-- A slot that a flush left incomplete is erased (R540). -/
def dropIncomplete (s : State) : State :=
  let bad := s.fault.slots.toList.any fun x => match x with
    | some b => !b.complete
    | none => false
  if bad then
    fire .bbFlush { s with fault := { s.fault with slots := s.fault.slots.map fun x => x.filter (·.complete) } }
  else s

/-- Every output is driven to its inactive level, and PPS_OUT runs its boot program (R384, R563). -/
def startOutputs (s : State) : State :=
  let s1 := (List.range 9).foldl (fun x n => drive n (out n x).lowPol x.time.tide x) s
  let (mode, p) := heldProg 8 s1
  applyProg 8 mode p s1

/-- A reference as monitoring begins (R399). -/
def freshRef (r : Nat) (s : State) : RefS :=
  { RefS.unseen with mon := if par .timingRefPriority r 0 s = 0 then .off else .failed }

/-- Steps 1 and 2 (R575): the boot is counted and recorded, the cores test themselves, the timing subsystem
starts with tide time at 0. -/
def startLogic (kind : Nat) (b : BootIn) (s : State) : State :=
  let s1 := bbWrite 4 0 kind [] { s with
    fault := { s.fault with bootCount := (s.fault.bootCount + 1) % 2 ^ 32 }
    boot := { s.boot with lastReset := kind, startedAt := s.time.now } }
  let s2 := advance (s1.time.now + msT b.timingMs) s1
  let s3 := { s2 with boot := { s2.boot with
    stage := .selftest
    core0Ok := b.core0
    core1Ok := b.core1 } }
  startOutputs { s3 with time := { s3.time with refs := .ofFn 6 fun r => freshRef r s3 } }

/-- R231: the reset value of egress.module_id is SLOT_ID as read at boot, in force and pending. -/
def resetModuleId (s : State) : State :=
  let x := setPar .egressModuleId 0 0 s.power.slotId s
  { x with pend := sPut keyReset x.pend (itemKey .egressModuleId 0 0) x.power.slotId }

/-- R6, R577: the self-test has found a core, and the variant code is one of the two. -/
def coreFound (b : BootIn) (s : State) : Bool := (b.core0 || b.core1) && (s.boot.variant == 1 || s.boot.variant == 2)

/-- A stack is fitted (R427). -/
def stackFitted (k : Nat) (s : State) : Bool := s.boot.variant != 2 || k % 2 == 0

/-- The steps down of a stack at boot (R443, R446). -/
def bootSteps (k : Nat) : Nat → Nat → State → State
  | 0, _, s => s
  | n + 1, bin, s =>
    bootSteps k n (bin + 1) (fire .dramSpeedStep (raise .memSpeed [k, bin, bin + 1, 0] (count .speedSteps k 1 s)))

/-- A stack after its training (R443). -/
def trainStack (b : BootIn) (s : State) (k : Nat) : State :=
  if !stackFitted k s then setStack k StackS.none s
  else
    let top := par .memMaxBin k 0 s
    let bin := min 4 (max top ((b.stackBins.getD k none).getD top))
    bootSteps k (bin - top) top (setStack k { stack k s with fitted := true, bin := bin } s)

/-- The channel list (R427). -/
def channelList (s : State) : List Nat :=
  (List.range 16).flatMap fun c => ((List.range 8).map fun k => 16 * k + c).filter fun n =>
    stackFitted (n / 16) s && !s.mem.retiredFlash.contains n

/-- A channel after boot training. -/
def chanAtBoot (s : State) (c : Nat) : ChanS :=
  let st := if !stackFitted (c / 16) s then ChanState.absent
    else if s.mem.retiredFlash.contains c then .retired else .online
  { ChanS.zero with state := st, tempAt := (stack (c / 16) s).temp, trainedAt := s.time.now, corrSince := s.time.now }

/-- DRAM boot training (R443, R427): channels that train at no bin are retired. -/
def trainDram (b : BootIn) (s : State) : State :=
  let s1 := (List.range 8).foldl (trainStack b) s
  let bad := sortAsc ((b.badChannels.filter fun c =>
    decide (c < 128) && stackFitted (c / 16) s && !s.mem.retiredFlash.contains c).eraseDups)
  let s2 := { s1 with mem := { s1.mem with retiredFlash := bad.foldl (fun l c => insertAsc c l) s1.mem.retiredFlash } }
  let s3 := { s2 with mem := { s2.mem with
    list := channelList s2
    grain := par0 .memInterleaveLog2 s2
    chans := .ofFn 128 (chanAtBoot s2) } }
  bad.foldl (fun x c => fire .dramChannelRetired (raise .memChannelRetired [c, capGiB x, 0] x)) (placeReserve s3)

/-- The planner on a polder at boot, where no block runs: its result acts at once (R545). -/
def bootPolder (l : PlannerIn) (s : State) (n : Nat) : State :=
  if (polder n s).role ≠ 0 ∨ ringGone (n / 7) s then s
  else
    let s1 := applyChange n (planPolder l n (polder n s).clockStep s)
    if (polder n s1).retireDue then retirePolder n { s1 with
      data := { s1.data with polders := s1.data.polders.set n { polder n s1 with retireDue := false } } }
    else s1

/-- The margin stage: the planner on every polder. -/
def bootMargin (b : BootIn) (s : State) : State :=
  (List.range 168).foldl (bootPolder b.planner)
    { s with fault := { s.fault with plannedAt := s.time.now } }

/-- The links stage: PD34 to PD38 are on, and the links that came up are; each raises its
event (R87, R256, R575). -/
def bootLinks (b : BootIn) (s : State) : State :=
  let s1 := [34, 35, 36, 37, 38].foldl (fun x pd => setDomain pd .on x) s
  let up := sortAsc ((b.linksUp.filter fun p => decide (p < 128) && modeProvides (par .ingressPortMode (p / 4) 0 s) (p % 4)).eraseDups)
  let s2 := { s1 with
    ingressLinks := up.map fun p => (p, ⟨true, s1.time.now, true, false⟩)
    hostLinks := .replicate 2 ⟨false, s1.time.now, false, false⟩ }
  let s3 := up.foldl (fun x p => raise .ingressLink [p, 1, tide96 x.time.tide] x) s2
  [0, 1].foldl (fun x p => setHostLink p (b.hostUp.getD p false) x) s3

/-- The reports of flushes made while PD38 was off (R552). -/
def reportFlushes (s : State) : State :=
  s.fault.flushedOff.foldl (fun x k => match x.fault.slots.getD k none with
    | some b => raise .bbFlushed [k, b.cause, b.flushNumber, b.records.length] x
    | none => x) { s with fault := { s.fault with flushedOff := [] } }

/-- R579: after READY an image that is not on trial raises the rollback floor. -/
def raiseFloor (s : State) : State :=
  match s.boot.images.getD s.boot.running none with
  | some i => if s.boot.trial then s else { s with boot := { s.boot with floor := max s.boot.floor i.security } }
  | none => s

/-- The management cores in service after a boot (R577). -/
def coresReady (s : State) : State :=
  let both := s.boot.core0Ok && s.boot.core1Ok
  { s with zcp := { s.zcp with
    activeCore := if s.boot.core0Ok then 0 else 1
    standbyOk := both
    standbyBeat := both
    heartbeatAt := s.time.now } }

/-- READY (R575, R579): `ms` after the boot began. -/
def reachReady (fallback : Bool) (ms : Nat) (s : State) : State :=
  let s1 := advance (s.boot.startedAt + msT ms) s
  let s2 := setDomain 39 .on s1
  let s3 := { s2 with
    boot := { s2.boot with
      stage := .ready
      bootMs := ms % 2 ^ 32
      readyAt := s2.time.now
      trial := s2.boot.trialFlag && s2.boot.running == s2.boot.preferred }
    power := { s2.power with readyPin := true }
    fault := { s2.fault with reportedAt := s2.time.now }
    egress := { s2.egress with hostSince := s2.time.now, telemetryAt := s2.time.now }
    hostLinks := s2.hostLinks.map fun l => { l with beenUp := l.up, reported := false } }
  let s4 := raiseFloor (coresReady s3)
  reportFlushes (if fallback then fire .imageFallback s4 else s4)

/-- An image's validity (R578): what was checked of it when it was written, and the floor. -/
def imageValid (k : Nat) (s : State) : Bool :=
  match s.boot.images.getD k none with
  | some i => i.sound && decide (s.boot.floor ≤ i.security)
  | none => false

/-- The result of the image check (R574). -/
def noteImages (s : State) : State :=
  { s with boot := { s.boot with aValid := imageValid 0 s, bValid := imageValid 1 s } }

/-- The image starts (R579). -/
def startImage (k : Nat) (fallback : Bool) (s : State) : State :=
  { s with boot := { s.boot with stage := .image, running := k, fallback := fallback, imageAt := s.time.now } }

/-- An image reaches READY within 10 s. -/
def BootIn.imageReady (b : BootIn) (k : Nat) : Bool := if k = 0 then b.readyA else b.readyB

/-- The stages after the image check in a boot that trains everything. -/
def bootStages (fallback : Bool) (b : BootIn) (s : State) : State :=
  let s1 := trainDram b s
  if s1.mem.list.isEmpty ∨ b.stageFails then bootFails s1
  else reachReady fallback b.ms (bootLinks b (bootMargin b s1))

/-- R579: the fallback resets the module with kind 5 and boots the other image. -/
def fallbackBoot (b : BootIn) (s : State) : State :=
  let other := 1 - s.boot.preferred
  if !imageValid other s then bootFails (noteImages s)
  else
    let s1 := startLogic 5 b (coldState true 5 s)
    if !coreFound b s1 then bootFails s1
    else
      let s2 := startImage other true (noteImages s1)
      if b.imageReady other then bootStages true b s2 else bootFails s2

/-- A cold boot (R575): an image that does not come to READY is left for IMAGE_READY_TIMEOUT. -/
def coldBoot (kind : Nat) (b : BootIn) (s : State) : State :=
  let s1 := startLogic kind b (resetModuleId { s with power := { s.power with slotId := b.slotId % 16 } })
  if !coreFound b s1 then bootFails s1
  else
    let s2 := noteImages (dropIncomplete s1)
    if !imageValid s2.boot.preferred s2 then fallbackBoot b s2
    else
      let s3 := startImage s2.boot.preferred false s2
      if b.imageReady s3.boot.preferred then bootStages false b s3 else s3

/-! ### The warm reset (R581) -/

/-- Timing goes on; a switch that runs is abandoned. The DPLL holds over and D stands while firmware
restarts; then the DPLL acquires its reference again (R415). -/
def warmTime (s : State) : TimeS :=
  let x := s.time
  let st := if x.candidate.isSome then x.prior else x.dpll
  { x with
    candidate := none
    wanted := none
    realign := none
    debt := debtNow s
    slew := none
    acquireAt := x.now
    dpll := if st = .locked then .acquiring else st }

/-- zoom.gate_windows is 0 after a warm reset, so an output that ran in gate mode is OFF (R383, R388, R590). -/
def gatesOff (s : State) : State :=
  (List.range 8).foldl (fun x n =>
    let o := out n x
    if o.mode = .gate then
      drive n o.lowPol x.time.tide (setOut n { o with
        mode := .off
        gate := ⟨false, [], [], 0⟩ } x)
    else x) s

/-- DRAM keeps its training and RESERVE; the rest is undefined, and reads as memory that nothing has written
(log entry 3). -/
def warmMem (s : State) : MemS :=
  let keep := fun (loc : Nat) => match dpaOf (loc / 2 ^ 30) (loc % 2 ^ 30) s with
    | some dpa => match regionAt dpa s with
      | some p => p.kind == 0
      | none => false
    | none => false
  { s.mem with
    places := s.mem.places.filter fun p => p.kind == 0
    oldPlaces := []
    grain := par0 .memInterleaveLog2 { s with force := takeResetItems s }
    cells := s.mem.cells.filter fun c => keep c.1
    poison := s.mem.poison.filter fun c => keep (c.1 * 64)
    sameStack := [] }

/-- The polders after PD00 to PD23 went off. -/
def warmPolder (x : Polder) : Polder :=
  { x with powered := false, jobs := [], subSums := [], active := none, shadow := none, held := none, waking := false }

/-- PD38 has tripped for good: no warm reset brings it back (R571). -/
def pd38Gone (s : State) : Bool := domain 38 s == .tripped && decide (2 ≤ s.power.pd38Trips)

/-- The units after a warm reset: no plan is in force, the functions that reactions stopped are back, and a
die whose rings are all retired is not (R281, R526, R548). -/
def warmUnits (s : State) : State :=
  let r := State.reset
  let domains := RegFile.ofFn 40 fun i =>
    let d := domain i s
    if i = 38 then (if pd38Gone s ∨ d ≠ .tripped then d else .waking)
    else if 34 ≤ i ∧ i < 38 then (if d = .tripped then DomainState.off else d)
    else .off
  let s1 := { s with
    force := (takeResetItems s).filter fun e => (keyItem e.1).desc.apply != 2 && keyItem e.1 != .moduleDiagPoke
    power := { s.power with
      domains := domains
      reinit := none
      pd38TripAt := none }
    plan := { r.plan with lastId := s.plan.lastId, lastEpoch := s.plan.lastEpoch }
    time := warmTime s
    mem := warmMem s
    data := { r.data with
      polders := s.data.polders.map warmPolder
      ringsRetired := s.data.ringsRetired
      windows := s.data.windows }
    zoom := r.zoom
    weir := r.weir
    egress := r.egress
    sluice := r.sluice
    canal := { s.canal with
      masters := s.canal.masters.map fun m => { m with resetting := false }
      reqs := []
      draining := []
      waitSince := []
      semFree := BitVec.allOnes 64
      journal := [] }
    fault := { s.fault with
      stopped := if pd38Gone s then [(7, 0)] else []
      frozen := false }
    zcp := { s.zcp with waiting := [], bulks := [], authFail := none } }
  (List.range 4).foldl (fun x d =>
    setDie d { die d x with stopped := ((List.range 6).all fun i => s.data.ringsRetired.contains (6 * d + i)) } x) s1

/-- A HELD module-stop episode becomes OPEN as READY is asserted (R532). -/
def stopOver (s : State) : State :=
  let e := episode 3 s
  if e.state = .held then
    setEpisode 3 { e with state := .open, quietEnd := s.time.now + secT (par .faultQuietTime 3 0 s) } s
  else s

/-- A warm reset with its boot (R581). -/
def warmReset (b : BootIn) (s : State) : State :=
  let s0 := restoreJournal (closeAll 4 s)
  let s1 := setPar .egressModuleId 0 0 s0.power.slotId (gatesOff (warmUnits { s0 with boot := trialReset s0.boot }))
  let s2 := bbWrite 4 0 2 [] { s1 with
    boot := { s1.boot with
      stage := .selftest
      lastReset := 2
      startedAt := s1.time.now
      core0Ok := b.core0
      core1Ok := b.core1 }
    power := { s1.power with readyPin := false } }
  if !coreFound b s2 then bootFails s2
  else
    let s3 := noteImages (dropIncomplete s2)
    if !imageValid s3.boot.preferred s3 then fallbackBoot b s3
    else
      let s4 := startImage s3.boot.preferred false s3
      if b.stageFails then bootFails s4
      else if b.imageReady s4.boot.preferred then stopOver (reachReady false b.ms s4)
      else s4

end Sys2Proof.Machine
end

