-- ==== Sys2Proof/Machine/Boot.lean ====
section
/-! DEFINITION. The rungs of the recovery ladder and firmware updates (chapter 19): warm reset, function
reinit, images. -/

namespace Sys2Proof.Machine

/-! ### Boots and fallbacks -/

/-- RESET_N_DEASSERT (R566, R575): with the power stage on and the logic in reset the boot runs; a RESET_N
that rises without power only shows its level. -/
def execResetNDeassert (t : Nat) (b : BootIn) (s : State) : Host.Outcome State Fault Refusal :=
  act t (fun x =>
    let x1 := { x with power := { x.power with resetN := true } }
    if x.power.stageOn ∧ x.boot.stage = .power then coldBoot x.boot.lastReset b x1 else x1) s

/-- IMAGE_READY_TIMEOUT (R579): the preferred image has not come to READY within 10 s of its start. -/
def execImageReadyTimeout (t : Nat) (b : BootIn) (s : State) : Host.Outcome State Fault Refusal :=
  act t (onlyIf (fun x => x.boot.stage == .image && !x.boot.fallback &&
      decide (x.boot.imageAt + secT 10 ≤ x.time.now))
    (fallbackBoot b)) s

/-- ZCP_MODULE_RESET (R505, R581): the reply leaves before the reset. -/
def moduleReset (b : BootIn) (_c : Ctx) (s : State) : Res := ⟨some (rOk, []), s, warmReset b⟩

/-- ZCP_MODULE_RESET. -/
def execZcpModuleReset (t : Nat) (d : Dgram) (b : BootIn) (s : State) : Host.Outcome State Fault Refusal :=
  zcp 0x0008 (sized 0 (moduleReset b)) t d s

/-- FW_TRIAL_EXPIRY (R587): 600 s after READY without ZCP_FW_ACCEPT. -/
def execFwTrialExpiry (t : Nat) (b : BootIn) (s : State) : Host.Outcome State Fault Refusal :=
  act t (onlyIf (fun x => x.boot.stage == .ready && x.boot.trial &&
      decide (x.boot.readyAt + secT 600 ≤ x.time.now))
    (warmReset b)) s

/-! ### ZCP_FUNC_REINIT (R582, R583) -/

/-- The instances of a FUNCTION; 0 for a code that is none. -/
def functionCount (fn : Nat) : Nat := [0, 4, 24, 4, 4, 1, 1, 1, 1, 1, 15, 1].getD fn 0

/-- R583: a ring or die that retirement keeps out of service, and the active core. -/
def reinitRefused (fn inst : Nat) (s : State) : Bool :=
  if fn = 2 then s.data.ringsRetired.contains inst
  else if fn = 3 then (die inst s).stopped && ringsLeft inst s == 0
  else if fn = 0xA then inst == s.zcp.activeCore
  else false

/-- The function's return changes the capacity record. -/
def reinitChanges (fn inst : Nat) (s : State) : Bool :=
  s.fault.stopped.contains (fn, inst) ||
    (if fn = 2 then domain inst s == .tripped
     else if fn = 3 then (die inst s).stopped
     else if fn = 4 then decide (dieEngines inst s < 2)
     else if fn = 5 then s.zoom.out
     else if fn = 8 then !s.egress.compOut.isEmpty
     else false)

/-- A function's domain goes off and begins to wake. -/
def reinitDomain (fn inst pd : Nat) (s : State) : State :=
  let changed := reinitChanges fn inst s
  let s1 := setDomain pd .off (switchOff pd s)
  let s2 := if fn = 3 then setDie inst { die inst s1 with stopped := true } s1 else s1
  let s3 := setDomain pd .waking s2
  { s3 with power := { s3.power with reinit := some (fn, inst, changed) } }

/-- The decompressor is reset: its jobs end DEST_REFUSED (R582). -/
def reinitDecomp (s : State) : State :=
  s.egress.jobs.foldl (fun x j => endJob j 0 3 x)
    { s with
      egress := { s.egress with jobs := [], decompOut := false }
      fault := { s.fault with stopped := s.fault.stopped.filter (· != (9, 0)) } }

/-- A function reset is recorded (R537, R580). -/
def noteReinit (s : State) : State := bbWrite 4 0 3 [] { s with boot := { s.boot with lastReset := 3 } }

/-- ZCP_FUNC_REINIT's action: the reply follows the return to service. -/
def funcReinit (c : Ctx) (s : State) : Res :=
  let fn := beAt c.payload 0 1
  let inst := beAt c.payload 2 2
  if beAt c.payload 1 1 ≠ 0 ∨ functionCount fn ≤ inst then refuse rBadValue s
  else if s.power.reinit.isSome then refuse rBusy s
  else if reinitRefused fn inst s then refuse rRefused s
  else match functionDomain fn inst with
    | some pd =>
      if stopped s then refuse rRefused s
      else wait c .other pd (reinitDomain fn inst pd (noteReinit s))
    | none =>
      let s1 := noteReinit s
      if fn = 9 then answer rOk [] (reinitDecomp s1)
      else if fn = 0xA then
        let s2 := masterReset inst s1
        if (master inst s2).resetting then
          wait c .other (64 + inst) { s2 with power := { s2.power with reinit := some (fn, inst, false) } }
        else answer rOk [] s2
      else
        wait c .other 80 { s1 with
          zcp := { s1.zcp with standbyOk := false, standbyBeat := false }
          power := { s1.power with reinit := some (fn, inst, false) } }

/-- ZCP_FUNC_REINIT. -/
def execZcpFuncReinit (t : Nat) (d : Dgram) (s : State) : Host.Outcome State Fault Refusal :=
  zcp 0x0007 (sized 4 funcReinit) t d s

/-! ### Firmware (R578, R585 to R587) -/

/-- A slot's IMAGE_VERSION and SECURITY_VERSION; erased flash reads all ones. -/
def imageFacts (k : Nat) (s : State) : List Nat :=
  [imageVersion k s, ((s.boot.images.getD k none).map (·.security)).getD 0xFFFF]

/-- ZCP_FW_STATUS (R585). -/
def fwStatus (_c : Ctx) (s : State) : Res :=
  answer rOk (Config.replyBody 0x0C02 ([bootStatus s] ++ imageFacts 0 s ++ imageFacts 1 s ++ [s.boot.floor])) s

/-- ZCP_FW_STATUS. -/
def execZcpFwStatus (t : Nat) (d : Dgram) (s : State) : Host.Outcome State Fault Refusal :=
  zcp 0x0C02 (sized 0 fwStatus) t d s

/-- The image header is well formed (R578). -/
def headerFormed (h : List Byte) : Bool :=
  beAt h 0 4 == 0x5A494C31 && beAt h 10 2 == 0 && decide (beAt h 12 4 ≤ 2 ^ 26 - 4096) &&
    (slice h 64 32).all (· == 0) && (h.drop 192).all (· == 0)

/-- The staged image under R578: what its header says, when it is valid. -/
def stagedImage (s : State) : Option Image :=
  let h := s.boot.staging.read 0 4096
  let body := s.boot.staging.read 4096 (beAt h 12 4)
  let sec := beAt h 8 2
  if headerFormed h && sha384 body == slice h 16 48 && Config.ecdsaValid (slice h 0 96) (slice h 96 96) &&
      decide (s.boot.floor ≤ sec) then
    some { version := beAt h 4 4, security := sec, sound := true }
  else none

/-- An image is written to a slot; the check that it passed, or the program that failed, is the last one of
that slot (R574, log entry 94). -/
def writeImage (slot : Nat) (i : Image) (s : State) : State :=
  { s with boot := { s.boot with
    images := s.boot.images.set slot (some i)
    aValid := if slot = 0 then i.sound else s.boot.aValid
    bValid := if slot = 1 then i.sound else s.boot.bValid } }

/-- ZCP_FW_INSTALL's action (R586). Where the flash does not take the program FS_FLASH fires, the image in
the slot is unsound, and the reply is REFUSED (DESIGN CHOICE, log entry 129). -/
def fwInstall (slot : Nat) (flash : Bool) (_c : Ctx) (s : State) : Res :=
  if 1 < slot then refuse rBadValue s
  else if slot = s.boot.running then refuse rBusy s
  else match stagedImage s with
    | none => refuse rRefused s
    | some i =>
      if flash then answer rOk [] (writeImage slot i s)
      else refuse rRefused (fire .flash (writeImage slot { i with sound := false } s))

/-- ZCP_FW_INSTALL: the slot comes as an operand. -/
def execZcpFwInstall (t : Nat) (d : Dgram) (r : InstallIn) (s : State) : Host.Outcome State Fault Refusal :=
  zcp 0x0C03 (laid (fwInstall r.slot r.flash)) t d s

/-- ZCP_FW_SET_BOOT's action (R585): the trial flag is set when the named image is not the running one. -/
def fwSetBoot (image : Nat) (_c : Ctx) (s : State) : Res :=
  if 1 < image then refuse rBadValue s
  else answer rOk [] { s with boot := { s.boot with
    preferred := image
    trialFlag := image != s.boot.running } }

/-- ZCP_FW_SET_BOOT: the image comes as an operand. -/
def execZcpFwSetBoot (t : Nat) (d : Dgram) (image : Nat) (s : State) : Host.Outcome State Fault Refusal :=
  zcp 0x0C04 (laid (fwSetBoot image)) t d s

/-- ZCP_FW_ACCEPT (R585, R587): without a trial it changes nothing; an image whose trial ends may raise the
rollback floor (R579). -/
def fwAccept (_c : Ctx) (s : State) : Res :=
  answer rOk []
    (if s.boot.trial then raiseFloor { s with boot := { s.boot with trial := false, trialFlag := false } } else s)

/-- ZCP_FW_ACCEPT. -/
def execZcpFwAccept (t : Nat) (d : Dgram) (s : State) : Host.Outcome State Fault Refusal :=
  zcp 0x0C05 (sized 0 fwAccept) t d s

end Sys2Proof.Machine
end

