-- ==== Sys2Proof/Machine/Diag.lean ====
section
/-! DEFINITION. ZCP_PEEK and ZCP_POKE (R521). -/

namespace Sys2Proof.Machine

/-- The 64-byte beats of a range: address and bytes of each. -/
def beatsOf : Nat → Nat → Nat → List (Nat × Nat)
  | 0, _, _ => []
  | n + 1, a, len =>
    if len = 0 then []
    else
      let k := min len (64 - a % 64)
      (a, k) :: beatsOf n (a + k) (len - k)

/-- The range touches the semaphore block. -/
def touchesSem (a len : Nat) : Bool := decide (a < 0x102001000) && decide (0x102000000 < a + len)

/-- Read a range beat by beat, as a core. -/
def peekBeats (m a len : Nat) (s : State) : List Byte × CanalStatus × State :=
  (beatsOf (len / 64 + 2) a len).foldl (fun (acc : List Byte × CanalStatus × State) p =>
    let (l, st, s1) := pieceRead m p.1 p.2 [] 0 (count .pieces m 1 acc.2.2)
    (acc.1 ++ l, acc.2.1.worse st, s1)) ([], .okay, s)

/-- Write a range beat by beat, as a core, with byte enables for the bytes named. -/
def pokeBeats (m a : Nat) (bytes : List Byte) (s : State) : CanalStatus × State :=
  (beatsOf (bytes.length / 64 + 2) a bytes.length).foldl (fun (acc : CanalStatus × State) p =>
    let data := ((slice bytes (p.1 - a) p.2).zipIdx).map fun (b, i) => (p.1 + i, b)
    let (st, s1) := pieceWrite m p.1 data (count .pieces m 1 acc.2)
    (acc.1.worse st, s1)) (.okay, s)

/-- The address and the length that a PEEK or POKE names break R521. -/
def diagBad (l : List Byte) (top : Nat) : Bool :=
  let len := beAt l 8 2
  beAt l 0 8 % 4 != 0 || len % 4 != 0 || decide (len < 4) || decide (top < len) || beAt l 10 6 != 0

/-- ZCP_PEEK. -/
def peek (c : Ctx) (s : State) : Res :=
  let a := beAt c.payload 0 8
  let len := beAt c.payload 8 2
  if diagBad c.payload 4096 then refuse rBadValue s
  else if touchesSem a len then refuse rNotPermitted s
  else
    let (l, st, s1) := peekBeats s.zcp.activeCore a len s
    answer rOk (natBE 1 st.code ++ natBE 3 0 ++ l) s1

/-- ZCP_POKE. -/
def poke (c : Ctx) (s : State) : Res :=
  let a := beAt c.payload 0 8
  let len := beAt c.payload 8 2
  if c.payload.length < 16 ∨ c.payload.length ≠ 16 + len then refuse rBadLength s
  else if diagBad c.payload 256 then refuse rBadValue s
  else if par0 .moduleDiagPoke s ≠ 1 ∨ touchesSem a len then refuse rNotPermitted s
  else
    let (st, s1) := pokeBeats s.zcp.activeCore a (c.payload.drop 16) s
    answer rOk (natBE 1 st.code ++ natBE 3 0) s1

/-- ZCP_PEEK (R521). -/
def execZcpPeek (t : Nat) (d : Dgram) (s : State) : Host.Outcome State Fault Refusal :=
  zcp 0x0B02 (sized 16 peek) t d s

/-- ZCP_POKE (R521). -/
def execZcpPoke (t : Nat) (d : Dgram) (s : State) : Host.Outcome State Fault Refusal :=
  zcp 0x0B03 poke t d s

end Sys2Proof.Machine
end

