-- ==== Sys2Proof/Machine/Power.lean ====
section
/-! DEFINITION. Feeds, the power stage, the sideband pins, domains and temperatures (chapter 18). -/

namespace Sys2Proof.Machine

/-! ### Feeds (R558, R567) -/

/-- Change a feed. -/
def setFeed (k : Nat) (f : Feed) (s : State) : State :=
  { s with power := { s.power with feeds := s.power.feeds.set k f } }

/-- Some feed is GOOD. -/
def feedGood (s : State) : Bool := s.power.feeds.toList.any fun f => f.state == .good

/-- The logic runs: firmware and the always-on logic see events. -/
def logicRuns (s : State) : Bool := s.boot.stage != .power

/-- EV_FEED, while there is a logic to raise it (R552, R567). -/
def feedEvent (k : Nat) (s : State) : State :=
  if logicRuns s then raise .feed [k, (feed k s).state.code, tide96 s.time.tide] s else s

/-- The power stage starts when POWER_EN asks for it and a feed is GOOD (R566). -/
def startStage (s : State) : State :=
  if s.power.startWaiting && feedGood s then
    { s with power := { s.power with stageOn := true, startWaiting := false } }
  else s

/-- FEED_QUALIFIED (R558, R567): the feed becomes GOOD and its ORing switch conducts. -/
def execFeedQualified (t : Nat) (k : Fin 2) (volt : Nat) (s : State) : Host.Outcome State Fault Refusal :=
  act t (onlyIf (fun x => (feed k x).state != .good && decide (3850 ≤ volt) && decide (volt ≤ 6100)) fun x =>
    let x1 := setFeed k { feed k x with volt := volt, state := .good, carrying := true } x
    startStage (feedEvent k { x1 with power := { x1.power with holdUpSince := none } })) s

/-- STATE of a lost feed (R568). -/
def LossKind.feedState : LossKind → FeedState
  | .low => .lostLow | .high => .lostHigh | .unmated => .unmated

/-- One feed is lost. -/
def feedLost (kind : LossKind) (volt : Nat) (s : State) (k : Nat) : State :=
  if (feed k s).state ≠ .good then s
  else
    feedEvent k (setFeed k { volt := volt, cur := 0, state := kind.feedState, carrying := false } s)

/-- FEED_LOSS (R567): feed A, feed B, or both within the same 20 µs. -/
def loseFeeds (ks : List Nat) (kind : LossKind) (volt : Nat) (s : State) : State :=
  let hit := ks.filter fun k => (feed k s).state == .good
  if hit.isEmpty then s
  else
    let s1 := hit.foldl (feedLost kind volt) s
    let s2 := if logicRuns s1 then fireAll (hit.map fun _ => .feedLoss) s1 else s1
    if feedGood s2 ∨ !s2.power.stageOn then s2
    else
      let s3 := { s2 with power := { s2.power with holdUpSince := some s2.time.now } }
      if logicRuns s3 then fireStop .feedBoth s3 else s3

/-- FEED_LOSS. -/
def execFeedLoss (t : Nat) (which : Fin 3) (kind : LossKind) (volt : Nat) (s : State) :
    Host.Outcome State Fault Refusal :=
  act t (loseFeeds (if which.val = 2 then [0, 1] else [which.val]) kind volt) s

/-- The module loses power (R566, R567, R580). -/
def powerDown (s : State) : State :=
  let s1 := coldState false 0 s
  { s1 with power := { s1.power with
    inputPower := 0
    temps := .replicate 7 0
    slotId := 0
    stageOn := false
    startWaiting := false
    holdUpSince := none } }

/-- HOLD_UP_EXHAUSTED (R567): at least 25 ms after the loss of the last feed. -/
def execHoldUpExhausted (t : Nat) (s : State) : Host.Outcome State Fault Refusal :=
  act t (onlyIf (fun x => !feedGood x && (match x.power.holdUpSince with
      | some t0 => decide (t0 + msT 25 ≤ x.time.now)
      | none => false)) fun x =>
    let x1 := powerDown x
    { x1 with power := { x1.power with startWaiting := x1.power.powerEn } }) s

/-! ### POWER_EN and RESET_N (R566) -/

/-- POWER_EN_RISE: it takes effect only after 500 ms low, and waits for a feed to become GOOD. -/
def execPowerEnRise (t : Nat) (s : State) : Host.Outcome State Fault Refusal :=
  act t (onlyIf (fun x => !x.power.powerEn) fun x =>
    let soon := match x.power.powerEnFell with
      | some t0 => decide (x.time.now < t0 + msT 500)
      | none => false
    startStage { x with power := { x.power with powerEn := true, startWaiting := !soon && !x.power.stageOn } }) s

/-- POWER_EN_FALL. -/
def execPowerEnFall (t : Nat) (s : State) : Host.Outcome State Fault Refusal :=
  act t (onlyIf (fun x => x.power.powerEn) fun x =>
    let x1 := if x.power.stageOn then powerDown x else x
    { x1 with power := { x1.power with
      powerEn := false
      startWaiting := false
      powerEnFell := some x1.time.now } }) s

/-- RESET_N_ASSERT: low for at least 10 µs while powered (R566, R580). -/
def execResetNAssert (t : Nat) (s : State) : Host.Outcome State Fault Refusal :=
  act t (fun x =>
    let x1 := if x.power.stageOn && logicRuns x then coldState true 1 x else x
    { x1 with power := { x1.power with resetN := false } }) s

/-! ### The power stage (R565) -/

/-- POWER_STAGE_REPORT_TIMEOUT. -/
def execPowerStageReportTimeout (t : Nat) (s : State) : Host.Outcome State Fault Refusal :=
  act t (onlyIf logicRuns (fireStop .powerStage)) s

/-- POWER_STAGE_FAULT_REPORT: each of the reports fires the source. -/
def execPowerStageFaultReport (t : Nat) (_kind : StageFault) (s : State) : Host.Outcome State Fault Refusal :=
  act t (onlyIf logicRuns (fireStop .powerStage)) s

/-! ### Domains and temperatures (R569 to R572) -/

/-- DOMAIN_TRIP (R571). -/
def execDomainTrip (t : Nat) (pd : Fin 40) (s : State) : Host.Outcome State Fault Refusal :=
  act t (domainTrip pd) s

/-- PD38_RETRY (R571): once, 1 s after the first trip. -/
def execPd38Retry (t : Nat) (s : State) : Host.Outcome State Fault Refusal :=
  act t (fun x => match x.power.pd38TripAt with
    | none => x
    | some t0 =>
      if x.time.now < t0 + secT 1 ∨ domain 38 x ≠ .tripped then x
      else
        let x1 := setDomain 38 .waking x
        { x1 with power := { x1.power with pd38TripAt := none } }) s

/-- TEMP_THRESHOLD (R572): a die passes 100 °C or 115 °C; `temp` is binary32. -/
def execTempThreshold (t : Nat) (d : Fin 5) (crit : Bool) (temp : Nat) (s : State) :
    Host.Outcome State Fault Refusal :=
  act t (onlyIf (fun x => logicRuns x && decide ((if crit then 0x42E60000 else 0x42C80000) < temp) &&
      decide (temp < 0x7F800000)) fun x =>
    let x1 := { x with power := { x.power with temps := x.power.temps.set d temp } }
    if crit then fireStop .tempCrit x1 else fire .tempWarn x1) s

end Sys2Proof.Machine
end

