-- ==== Sys2Proof/Machine/Pulse.lean ====
section
/-! DEFINITION. The pulse outputs and the timing inputs (chapter 11). -/

namespace Sys2Proof.Machine

/-- R385, R386: the next edge of a PULSE program falls due. -/
def pulseEdge (n : Nat) (s : State) : State :=
  let o := out n s
  match o.mode, o.prog with
  | .pulse, some p =>
    let e := p.start + p.next * p.period
    if p.over ∨ s.time.tide < e then s
    else
      let s1 := setOut n { o with prog := some { p with next := p.next + 1 } } s
      endIfOver n (if e < p.notBefore then skipEdges n 1 e s1 else assertPulse n p e s1)
  | _, _ => s

/-- PULSE_EDGE (R385): a PULSE program edge falls due and the output asserts. -/
def execPulseEdge (t : Nat) (n : Fin 9) (s : State) : Host.Outcome State Fault Refusal :=
  act t (onlyIf timingRuns (pulseEdge n)) s

/-- R385, R386, R393: an asserted pulse reaches its end. -/
def pulseEnd (n : Nat) (s : State) : State :=
  let o := out n s
  match o.pulse with
  | none => s
  | some u =>
    if s.time.tide < u.untilTide ∧ s.time.now < u.untilClock then s
    else
      let off := o.lowPol
      endIfOver n (drive n off (min u.untilTide s.time.tide)
        (setOut n { o with pulse := none } s))

/-- PULSE_DEASSERT (R385). -/
def execPulseDeassert (t : Nat) (n : Fin 9) (s : State) : Host.Outcome State Fault Refusal :=
  act t (onlyIf timingRuns (pulseEnd n)) s

/-- R387: when the boundary of a MARK program's next mark became known: the commit point of its plan or the
ARM, whichever is later. -/
def knownSince (p : Prog) (s : State) : Nat := max p.armed (((markPlan p s).map (·.known)).getD 0)

/-- R387: the next tide mark falls due: produced, or skipped when its boundary became known less
than 1 ms before. -/
def tideMark (n : Nat) (s : State) : State :=
  let o := out n s
  match o.mode, o.prog.map (·.settle s) with
  | .mark, some p =>
    match edgeTide .mark p p.next s with
    | none => s
    | some e =>
      if s.time.tide < e then s
      else
        let s1 := setOut n { o with prog := some { p with next := p.next + 1 } } s
        if e < knownSince p s + msT 1 ∨ e < p.notBefore then skipEdges n 1 e s1 else assertPulse n p e s1
  | _, _ => s

/-- TIDE_MARK (R387). -/
def execTideMark (t : Nat) (n : Fin 8) (s : State) : Host.Outcome State Fault Refusal :=
  act t (onlyIf timingRuns (tideMark n)) s

/-- A timing input. -/
def tin (n : Nat) (s : State) : TIn := s.time.tins.getD n ⟨none, [], 0, []⟩

/-- Set a timing input. -/
def setTin (n : Nat) (x : TIn) (s : State) : State :=
  { s with time := { s.time with tins := s.time.tins.set n x } }

/-- A capture record's 16 bytes (R391). -/
def EdgeRec.bytes (r : EdgeRec) : List Byte :=
  natBE 1 r.input ++ natBE 1 r.edge ++ natBE 2 r.seq ++ tideBytes r.time

/-- R392: deliver waiting records as EV_EDGE, at most 1,000 in any second: as they are captured, and once a
second (DESIGN CHOICE, log entry 120). -/
def deliverEdges (n : Nat) : Nat → State → State
  | 0, s => s
  | k + 1, s =>
    let x := tin n s
    let done := inLastSecond x.delivered s
    match x.waiting with
    | [] => s
    | r :: rest =>
      if 1000 ≤ done.length then s
      else deliverEdges n k (raiseBytes .edge r.bytes
        (setTin n { x with waiting := rest, delivered := s.time.now :: done } s))

/-- The edges that timing.in_edge selects (R390). -/
def edgeSelected (mode : Nat) (falling : Bool) : Bool :=
  match mode with
  | 1 => !falling
  | 2 => falling
  | 3 => true
  | _ => false

/-- R390, R391, R392: an edge on a timing input. -/
def captureEdge (n : Nat) (falling : Bool) (s : State) : State :=
  let x := tin n s
  if !edgeSelected (par .timingInEdge n 0 s) falling then s
  else if (match x.last with | some l => decide (s.time.now < l + nsT 50) | none => false) then
    count .edgeMissed n 1 s
  else
    let r : EdgeRec := { input := n, edge := if falling then 2 else 1, seq := x.nextSeq,
                         time := s.time.tide }
    let full := decide (64 ≤ x.waiting.length)
    let s1 := if full then count .edgeLost n 1 s else s
    let s2 := count .edgeCaptured n 1 (setTin n { x with
      last := some s.time.now
      waiting := (if full then x.waiting.drop 1 else x.waiting) ++ [r]
      nextSeq := (x.nextSeq + 1) % 65536 } s1)
    deliverEdges n 64 s2

/-- EDGE_CAPTURE (R390). -/
def execEdgeCapture (t : Nat) (n : Fin 2) (falling : Bool) (s : State) :
    Host.Outcome State Fault Refusal :=
  act t (onlyIf timingRuns (captureEdge n falling)) s

end Sys2Proof.Machine
end

