-- ==== Sys2Proof/Machine/Report.lean ====
section
/-! DEFINITION. What the module does once a second: the readings of the sensors (R543, R568), and the events
that are raised at most once per second, with what they report since the last. -/

namespace Sys2Proof.Machine

/-! ### Readings -/

/-- The voltages and currents of the feeds. -/
def readFeeds (l : List (Nat × Nat)) (s : State) : State :=
  { s with power := { s.power with feeds := .ofFn 2 fun i =>
    let f := s.power.feeds.getD i ⟨0, 0, .lostLow, false⟩
    match l[i]? with
    | some (v, c) => { f with volt := v, cur := c }
    | none => f } }

/-- The readings of R543 and R568 at the end of a second. -/
def readSensors (r : Sensors) (s : State) : State :=
  let s1 := readFeeds r.feeds s
  let s2 := { s1 with power := { s1.power with
    inputPower := r.power
    temps := .ofFn 7 fun i => r.temps.getD i (s1.power.temps.getD i 0) } }
  let s3 := r.gauges.foldl (fun x g =>
    if g.1 < 168 ∧ (polder g.1 x).powered then takeGauge g.1 1 g.2.2 (takeGauge g.1 0 g.2.1 x) else x) s2
  r.hub.foldl (fun x g => if unitUp g.1 x then takeHub g.1 g.2 x else x) s3

/-! ### Reports -/

/-- EV_INGRESS_DISCARD of a logical port (R87). -/
def reportDiscards (s : State) : State :=
  let ports := (s.data.discards.map fun e => e.1 / 32).eraseDups
  ports.foldl (fun x port =>
    let l := (List.range discardCtrs.length).map fun i => sGet (fun _ => 0) s.data.discards (port * 32 + i)
    raise .ingressDiscard (port :: l) x) { s with data := { s.data with discards := [] } }

/-- EV_INGRESS_GAP of a die (R87). -/
def reportGaps (s : State) : State :=
  (List.range 4).foldl (fun x d =>
    let y := die d x
    if y.gapIncomplete = 0 ∧ y.gapEmpty = 0 then x
    else
      raise .ingressGap [d, y.gapIncomplete, y.gapEmpty, y.gapLowest]
        (setDie d { y with gapIncomplete := 0, gapEmpty := 0, gapLowest := 0 } x)) s

/-- EV_LANE_MIRROR of a polder (R110). -/
def reportMirrors (s : State) : State :=
  (List.range 168).foldl (fun x n =>
    let y := polder n x
    if y.mirrorCount = 0 then x
    else
      raise .laneMirror [n, y.mirrorAt.1, y.mirrorAt.2.1, y.mirrorAt.2.2, y.mirrorCount]
        (setPolder n { y with mirrorCount := 0, mirrorAt := (0, 0, 0) } x)) s

/-- EV_BEAM_NONFINITE of a beam (R196). -/
def reportBeams (s : State) : State :=
  s.weir.nonfin.foldl (fun x e => raise .beamNonfinite [e.1, e.2.1, e.2.2.1, e.2.2.2] x)
    { s with weir := { s.weir with nonfin := [] } }

/-- EV_ZOOM_LOST of a window (R211). -/
def reportZoom (s : State) : State :=
  (List.range 32).foldl (fun x w =>
    let y := win w x
    if y.lost = 0 then x
    else raise .zoomLost [w, y.lost, y.lostLow] (setWin w { y with lost := 0, lostLow := 0 } x)) s

/-- EV_THRESHOLD_LOST (R222). -/
def reportThresholds (s : State) : State :=
  if s.zoom.lost = 0 then s
  else raise .thresholdLost [s.zoom.lost] { s with zoom := { s.zoom with lost := 0 } }

/-- EV_SPILLWAY_FULL (R278): the streams held, the free buffers, the hold cycles. -/
def reportSpillway (s0 : State) : State :=
  let s := countHolds s0
  if s.egress.spillHeld = 0 then s
  else
    let still := s.egress.comps.toList.filterMap fun c => match c with
      | some j => if j.holdSince.isSome then some j.unit.head.stream else none
      | none => none
    let streams := s.egress.heldStreams
    raise .spillwayFull ([streams.length] ++ streams ++ [(freeBuffers s).length, s.egress.spillHeld])
      { s with egress := { s.egress with
        spillHeld := 0
        heldStreams := still.eraseDups } }

/-- EV_RFI_FLAG (R355). -/
def reportRfi (s : State) : State :=
  if s.sluice.rfiChanged = 0 then s
  else
    raise .rfiFlag [s.sluice.rfiChanged, s.sluice.rfiFirst / 65536, s.sluice.rfiFirst % 65536]
      { s with sluice := { s.sluice with
        rfiChanged := 0
        rfiFirst := 0
        stats := s.sluice.stats.map fun x => { x with changed := false } } }

/-- EV_TXTS_OVERFLOW of a port (R381). -/
def reportTxts (s : State) : State :=
  s.time.txts.foldl (fun x e =>
    let q := txQueue e.1 x
    if q.removed = 0 then x
    else raise .txtsOverflow [e.1, q.removed] (setTxQueue e.1 { q with removed := 0 } x)) s

/-- EV_PULSE_SKIPPED of an output (R395). -/
def reportPulses (s : State) : State :=
  (List.range 9).foldl (fun x n =>
    let o := out n x
    if o.skipped = 0 then x
    else
      raise .pulseSkipped [n, o.skipped, tide96 o.firstSkipped]
        (setOut n { o with skipped := 0, firstSkipped := 0 } x)) s

/-- EV_MEM_ERRORS of a channel (R454). -/
def reportMem (s : State) : State :=
  (List.range 128).foldl (fun x c =>
    let y := chan c x
    let u := ctrGet .uncorr c x
    let p := ctrGet .poisonReads c x
    let x1 := if u = y.uncorrBase ∧ p = y.poisonBase then x
      else setChan c { y with uncorrBase := u, poisonBase := p } x
    if increase y.uncorrBase u = 0 ∧ increase y.poisonBase p = 0 then x1
    else raise .memErrors [c, increase y.uncorrBase u, increase y.poisonBase p] x1) s

/-- EV_CANAL_ERROR of a master (R468). -/
def reportCanal (s : State) : State :=
  (List.range 15).foldl (fun x m =>
    let y := master m x
    let d := ctrGet .decodeErrors m x
    let e := ctrGet .dataErrors m x
    let x1 := if d = y.decodeBase ∧ e = y.dataBase then x
      else setMaster m { y with decodeBase := d, dataBase := e } x
    if increase y.decodeBase d = 0 ∧ increase y.dataBase e = 0 then x1
    else raise .canalError [m, increase y.decodeBase d, increase y.dataBase e, y.errAddr.getD 0] x1) s

/-- EV_ZCP_AUTH (R472): the slot, the port and the source of the last failure. -/
def reportAuth (s : State) : State :=
  match s.zcp.authFail with
  | none => s
  | some (slot, port, src) =>
    raise .zcpAuth [slot, port, if src.v6 then 6 else 4, src.ip, src.udp]
      { s with zcp := { s.zcp with authFail := none } }

/-- Edge records that the limit of R392 held back. -/
def reportEdges (s : State) : State := deliverEdges 1 64 (deliverEdges 0 64 s)

/-- Every report that is due. -/
def reports (s : State) : State :=
  reportEdges <| reportAuth (reportCanal (reportMem (reportPulses (reportTxts (reportRfi (reportSpillway (reportThresholds
    (reportZoom (reportBeams (reportMirrors (reportGaps (reportDiscards s))))))))))))

/-- ONCE_PER_SECOND_REPORT (R87): what the sensors read comes with it. -/
def execOncePerSecondReport (t : Nat) (r : Sensors) (s : State) : Host.Outcome State Fault Refusal :=
  act t (onlyIf (fun x => coresRun x && decide (x.fault.reportedAt + secT 1 ≤ x.time.now)) fun x =>
    reports (readSensors r { x with fault := { x.fault with reportedAt := x.time.now } })) s

end Sys2Proof.Machine
end

