-- ==== Sys2Proof/Machine/SluiceCmd.lean ====
section
/-! DEFINITION. The commands of the sluice mailbox (R319, R345, R346, R356, R357), and domains that have
woken (R569). -/

namespace Sys2Proof.Machine

/-! ### HOST cores (R345, R346) -/

/-- Why a command that names a core is refused: a number above 63, a STOCK core, a core without power. -/
def coreRefusal (n : Nat) (s : State) : Option Nat :=
  if 63 < n then some 0x4B
  else if !(core n s).host then some 0x4A
  else if (core n s).state = .off then some rRefused
  else none

/-- R319: every register at its reset value, issue from word 0; the memories keep their contents. -/
def startCore (n : Nat) (s : State) : State :=
  let c := core n s
  let s1 := setCore n { resetCore with state := c.state, host := c.host, prog := c.prog, data := c.data, newHost := c.newHost } s
  coreState n .running { s1 with sluice := { s1.sluice with taps := s1.sluice.taps.filter (·.core != n) } }

/-- ZCP_SLUICE_START's action. -/
def sluiceStart (n : Nat) (_c : Ctx) (s : State) : Res :=
  match coreRefusal n s with
  | some code => refuse code s
  | none =>
    if (core n s).state = .running ∨ (core n s).state = .waiting then refuse rBusy s
    else answer rOk [] (startCore n s)

/-- ZCP_SLUICE_START (R319, R344, R345). -/
def execZcpSluiceStart (t : Nat) (d : Dgram) (n : Nat) (s : State) : Host.Outcome State Fault Refusal :=
  zcp 0x0803 (laid (sluiceStart n)) t d s

/-- ZCP_SLUICE_STOP's action. -/
def sluiceStop (n : Nat) (_c : Ctx) (s : State) : Res :=
  match coreRefusal n s with
  | some code => refuse code s
  | none => answer rOk [] (askStop n s)

/-- ZCP_SLUICE_STOP (R346). -/
def execZcpSluiceStop (t : Nat) (d : Dgram) (n : Nat) (s : State) : Host.Outcome State Fault Refusal :=
  zcp 0x0804 (laid (sluiceStop n)) t d s

/-- ZCP_SLUICE_STATUS's answer: a core without power has its status as well. -/
def sluiceStatus (n : Nat) (_c : Ctx) (s : State) : Res :=
  if 63 < n then refuse 0x4B s
  else if !(core n s).host then refuse 0x4A s
  else
    let c := core n s
    answer rOk (Config.replyBody 0x0805 [c.state.code, c.pc, c.reg (.cr 13), c.reg (.cr 14)]) s

/-- ZCP_SLUICE_STATUS (R345). -/
def execZcpSluiceStatus (t : Nat) (d : Dgram) (n : Nat) (s : State) : Host.Outcome State Fault Refusal :=
  zcp 0x0805 (laid (sluiceStatus n)) t d s

/-! ### The gain solve (R356, R357) -/

/-- A complex number with rational parts. -/
structure CRat where
  re : Rat
  im : Rat

/-- Sum. -/
def CRat.add (a b : CRat) : CRat := ⟨a.re + b.re, a.im + b.im⟩
/-- Product. -/
def CRat.mul (a b : CRat) : CRat := ⟨a.re * b.re - a.im * b.im, a.re * b.im + a.im * b.re⟩
/-- Product with a real number. -/
def CRat.scale (x : Rat) (a : CRat) : CRat := ⟨x * a.re, x * a.im⟩
/-- Complex conjugate. -/
def CRat.conj (a : CRat) : CRat := ⟨a.re, -a.im⟩
/-- Squared magnitude. -/
def CRat.sq (a : CRat) : Rat := a.re * a.re + a.im * a.im

/-- The rational number that a pattern of a format holds. -/
def fmtRat (f : Fmt) (v : Nat) : Option Rat :=
  match f.decode v with
  | .fin s m e =>
    let x : Rat := if 0 ≤ e then ((m * 2 ^ e.toNat : Nat) : Rat) else mkRat (m : Int) (2 ^ (-e).toNat)
    some (if s then -x else x)
  | _ => none

/-- V(p, q) of a channel, p ≠ q, in a region (R133, R356). -/
def visibility (p : Plan) (area r chan a b : Nat) (s : State) : Option CRat :=
  let (lo, hi) := if a ≤ b then (a, b) else (b, a)
  let x := tile (tileKey area r chan (tileNumber p.k (lo / 128) (hi / 128))) s
  let e := x.elem (elemIndex (lo / 128 == hi / 128) (lo % 128) (hi % 128))
  match fmtRat p.totalsFmt e.re, fmtRat p.totalsFmt e.im with
  | some u, some v => some (if a ≤ b then ⟨u, v⟩ else CRat.conj ⟨u, v⟩)
  | _, _ => none

/-- One path's gain in the next iteration. -/
def gainNext (v : Nat → Nat → Option CRat) (g : List CRat) (a : Nat) : Option CRat :=
  let others := (List.range g.length).filter (· != a)
  let top := others.foldl (fun acc q => match acc, v a q, g[q]? with
    | some t, some x, some y => some (CRat.add t (CRat.mul x y))
    | _, _, _ => none) (some ⟨0, 0⟩)
  let bottom := others.foldl (fun acc q => acc + ((g[q]?).map CRat.sq).getD 0) (0 : Rat)
  match top, g[a]? with
  | some t, some x => if bottom = 0 then none else some (CRat.add (CRat.scale (1 / 2) x) (CRat.scale (1 / (2 * bottom)) t))
  | _, _ => none

/-- The largest relative change lies below 10^-6. -/
def settled (g h : List CRat) : Bool :=
  (g.zip h).all fun w => decide ((CRat.add w.2 (CRat.scale (-1) w.1)).sq * 1000000000000 < w.1.sq)

/-- R356: the iteration from g = 1, in exact arithmetic; none where a step divides by zero or meets a
value that is not finite. -/
def gainIter (v : Nat → Nat → Option CRat) : Nat → List CRat → Option (List CRat)
  | 0, g => some g
  | n + 1, g =>
    let next := (List.range g.length).map (gainNext v g)
    if next.any (·.isNone) then none
    else
      let h := next.map fun x => x.getD ⟨0, 0⟩
      if settled g h then some h else gainIter v n h

/-- A component of a gain in binary32: the exact solution rounded, or a neighbour of that (log entry 37);
free where the iteration has none. -/
def gainBits (n k : Nat) : Option (Int × Nat) → Nat
  | none => Config.gainBits n k % 2 ^ 32
  | some (num, den) =>
    let v := f32.ofRatio num den
    let step := Config.gainBits n k % 3
    if v % 2 ^ 31 = 0 ∨ 0x7F7FFFFF ≤ v % 2 ^ 31 then v
    else if step = 1 then v + 1
    else if step = 2 then v - 1
    else v

/-- The gains of a channel as binary32 patterns. -/
def chanGains (p : Plan) (area r chan : Nat) (s : State) : List Nat × State :=
  let v := fun a b => visibility p area r chan a b s
  let g := gainIter v 32 (List.replicate p.n ⟨1, 0⟩)
  let (n, s1) := drawFree s
  let part := fun (sel : CRat → Rat) (a : Nat) => (g.bind fun l => l[a]?).map fun x => ((sel x).num, (sel x).den)
  ((List.range p.n).flatMap fun a =>
    [gainBits n (2 * a) (part CRat.re a), gainBits n (2 * a + 1) (part CRat.im a)], s1)

/-- The READs of every tile of a channel: 0 done, 1 INVALID, 2 STALE. -/
def solveReads (p : Plan) (area r chan integ : Nat) (s : State) : Nat × State :=
  (List.range (tilesOf p.k)).foldl (fun (acc : Nat × State) t =>
      let (i, j) := tileAt p.k t
      let o : TileOp := { op := 1, region := r, area := area, chan := chan, i := i, j := j, first := 0, count := 0
                          integration := integ % 2 ^ 32, buffer := 0 }
      let (e, _, s1) := tileRead o acc.2
      let x := tileOf p area r chan t acc.2
      (if e ≠ .done then 2 else if x.invalid then max acc.1 1 else acc.1, s1)) (0, s)

/-- A channel's part of the answer: its status, then its gains. -/
def solveChan (p : Plan) (area r integ : Nat) (acc : List Nat × State) (chan : Nat) : List Nat × State :=
  let (st, s1) := solveReads p area r chan integ acc.2
  if st ≠ 0 then (acc.1 ++ [chan, st], s1)
  else
    let (g, s2) := chanGains p area r chan s1
    (acc.1 ++ [chan, 0] ++ g, s2)

/-- R356: the solve of a region. -/
def solveGains (area r : Nat) (chans : List Nat) (s : State) : Nat × List Byte × State :=
  match s.plan.running with
  | none => (rRefused, [], s)
  | some p =>
    let g := region area r s
    if g.state ≠ .sealed then (rRefused, [], s)
    else if chans.any fun c => !(p.areaChannels area).contains c then (rBadValue, [], s)
    else
      let (l, s1) := chans.foldl (solveChan p area r g.integration) ([], s)
      (rOk, Config.replyBody 0x0806 l, s1)

/-- ZCP_SLUICE_GAIN_SOLVE's action: with PD33 off it waits until the array has woken. -/
def gainSolve (area r : Nat) (chans : List Nat) (c : Ctx) (s : State) : Res :=
  if (List.range 64).all fun n => (core n s).host then refuse rRefused s
  else if domain 33 s = .on then
    let (code, body, s1) := solveGains area r chans s
    answer code body s1
  else if domain 33 s = .tripped ∨ stopped s then refuse rRefused s
  else
    let s1 := switchOn 33 s
    let q : SolveReq := { slot := c.slot, seq := c.seq, area := area, region := r, chans := chans }
    wait c .solve 0 { s1 with sluice := { s1.sluice with solveHold := true, solves := s1.sluice.solves ++ [q] } }

/-- ZCP_SLUICE_GAIN_SOLVE (R356, R357): the area, the region and the channels come as operands. -/
def execZcpSluiceGainSolve (t : Nat) (d : Dgram) (area r : Fin 2) (chans : List Nat) (s : State) :
    Host.Outcome State Fault Refusal :=
  zcp 0x0806 (laid (gainSolve area r chans)) t d s

/-- The solves that waited run one after another; then PD33 goes off unless a plan keeps it (R357). -/
def runSolves (s : State) : State :=
  if !s.sluice.solveHold then s
  else
    let s1 := s.sluice.solves.foldl (fun x q =>
      let (code, body, y) := solveGains q.area q.region q.chans x
      completeSeq q.slot q.seq code body y) s
    trimDomains
      { s1 with sluice := { s1.sluice with solveHold := false, solves := [] } }

/-- PD33 is kept by the plan in force, or by one past its commit point (R357). -/
def solvesDone (s : State) : State :=
  let s1 := runSolves s
  let kept : Bool := s1.plan.pointPassed && s1.plan.next.any (·.needsSluice)
  if s.sluice.solveHold ∧ s1.plan.running.isNone ∧ !kept then switchOff 33 s1 else s1

/-! ### DOMAIN_WAKE_DONE (R569) -/

/-- A domain's wake is over; what waited for it goes on. -/
def wakeDone (pd : Nat) (s : State) : State :=
  if domain pd s ≠ .waking then s
  else
    let s1 := finishReinit pd (domainReady pd s)
    if pd = 33 then solvesDone s1
    else if pd = 39 then weirPump s1
    else s1

/-- DOMAIN_WAKE_DONE. -/
def execDomainWakeDone (t : Nat) (pd : Fin 40) (s : State) : Host.Outcome State Fault Refusal :=
  act t (wakeDone pd) s

end Sys2Proof.Machine
end

