-- ==== Sys2Proof/Machine/SluiceStock.lean ====
section
/-! DEFINITION. The culvert tap and the stock statistics kernels (R349 to R355). -/

namespace Sys2Proof.Machine

/-! ### Statistics (R354, R355) -/

/-- Σ|x|² and Σ|x|⁴ over integer samples. -/
def powerSums (l : List (Int × Int)) : Nat × Nat :=
  l.foldl (fun a x =>
    let e := (x.1 * x.1 + x.2 * x.2).toNat
    (a.1 + e, a.2 + e * e)) (0, 0)

/-- SK of R354 in binary32, rounded once: ((M + 1)/(M − 1)) × (M × S2/S1² − 1). -/
def skOf (m s1 s2 : Nat) : Nat :=
  f32.ofRatio (((m : Int) + 1) * ((m : Int) * s2 - (s1 : Int) * s1)) ((m - 1) * (s1 * s1))

/-- R354, R355: a window of `m` present samples completes with this power, SK and ZERO; a pair
whose FLAG has changed counts once for EV_RFI_FLAG. -/
def statWindow (p : Plan) (i power sk : Nat) (zero : Bool) (x : StatPair) (s : State) : State :=
  let flag := f32.lt sk (p.par0 .sluiceSkLow) || f32.lt (p.par0 .sluiceSkHigh) sk
  let y := { x with
    count := 0
    s1 := 0
    s2 := 0
    power := power
    sk := sk
    window := (x.window + 1) % 2 ^ 32
    flag := flag
    zero := zero
    changed := x.changed || flag != x.flag }
  let new : Bool := flag != x.flag && !x.changed
  { s with sluice := { s.sluice with
      stats := s.sluice.stats.set i y
      rfiChanged := s.sluice.rfiChanged + (if new then 1 else 0)
      rfiFirst := if s.sluice.rfiChanged = 0 ∧ new then x.chan * 65536 + x.path else s.sluice.rfiFirst } }

/-- What a sub-block adds to S1 and S2; of FP16 samples only whether they are zero matters, as their sums
are no integers (log entry 27). -/
def statSums (format : Nat) (bytes : List Byte) : Nat × Nat :=
  if format = 3 then
    (((halfSamples bytes).filter fun x => x.1 % 2 ^ 15 != 0 || x.2 % 2 ^ 15 != 0).length, 0)
  else powerSums (intSamples format bytes)

/-- A sub-block of a pair reaches its kernel; absent samples are skipped. -/
def statSub (p : Plan) (i : Nat) (bytes : List Byte) (s : State) : State :=
  match s.sluice.stats[i]? with
  | none => s
  | some x =>
    let m := 2 ^ p.par0 .sluiceStatsLog2
    let format := p.par0 .ingressFormat
    let sums := statSums format bytes
    let x1 := { x with count := x.count + 128, s1 := x.s1 + sums.1, s2 := x.s2 + sums.2 }
    if x1.count < m then { s with sluice := { s.sluice with stats := s.sluice.stats.set i x1 } }
    else if x1.s1 = 0 then statWindow p i 0 0 true x1 s
    else if format = 3 then
      let (f, s1) := drawFree s
      let v := Config.statsFp f
      statWindow p i (v.1 % 2 ^ 32) (v.2 % 2 ^ 32) false x1 s1
    else statWindow p i (f32.ofRatio x1.s1 m) (skOf m x1.s1 x1.s2) false x1 s

/-! ### TAP_RECORD (R350, R351) -/

/-- A record's header and payload (R350). -/
def tapRecord (sc chan path : Nat) (present : Bool) (payload : List Byte) : List Byte :=
  natLE 8 sc ++ natLE 2 chan ++ natLE 2 path ++ natLE 4 (if present then 1 else 0) ++ payload

/-- Bytes written into a ring that starts at `base` and wraps after `len`, within data SRAM. -/
def ringWrite (base len : Nat) : Nat → List Byte → Memory → Memory
  | _, [], m => m
  | pos, b :: r, m =>
    let a := base + pos % max 1 len
    ringWrite base len (pos + 1) r (if a < 0x20000 then m.setByte a b else m)

/-- R351: a record enters the ring of a HOST core, or is dropped and counted. -/
def ringRecord (n : Nat) (bytes : List Byte) (s : State) : State :=
  let c := core n s
  let len := c.reg (.cr 36)
  let wr := c.reg (.cr 37)
  if len < c.tapFill + bytes.length then count .tapOverrun n 1 s
  else
    let c1 := { c with data := ringWrite (c.reg (.cr 35)) len wr bytes c.data }
    count .tapRecords n 1 (setCore n (c1.setReg (.cr 37) ((wr + bytes.length) % 2 ^ 32)) s)

/-- The pairs of the statistics list that a STOCK core watches on a path. -/
def statIndices (n chan path : Nat) (s : State) : List Nat :=
  (List.range s.sluice.stats.length).filter fun i => match s.sluice.stats[i]? with
    | some x => x.core == some n && x.chan == chan && x.path == path
    | none => false

/-- A record enters the ring of a STOCK core, which lies where its firmware put it (log entry 79); the
kernel consumes it. -/
def stockRecord (n : Nat) (bytes : List Byte) (s : State) : State :=
  let c := core n s
  let ring := Config.stockRing n
  let wr := c.reg (.cr 37)
  let c1 := { c with data := ringWrite ring.1 ring.2 wr bytes c.data }
  let wr1 := (wr + bytes.length) % 2 ^ 32
  count .tapRecords n 1 (setCore n ((c1.setReg (.cr 37) wr1).setReg (.cr 38) wr1) s)

/-- The sub-block and the path of record number `k` of a block, in the order of R350. -/
def TapSet.record (ts : TapSet) (k : Nat) : Nat × Nat :=
  (k / ts.paths.length * ts.step, ts.paths.getD (k % ts.paths.length) 0)

/-- Record number `k` of a block; `full` tells that the ring of a STOCK core lacks room for it (R353). -/
def readRecord (n k : Nat) (p : Plan) (v : Slot) (ts : TapSet) (full : Bool) (s : State) : State :=
  let (q, path) := ts.record k
  let held := sFind v.subs (path * p.s + q)
  let payload := held.getD (List.replicate (128 * p.beta) 0)
  let bytes := tapRecord (v.chunk * p.t + 128 * q) v.chan path held.isSome payload
  if (core n s).host then ringRecord n bytes s
  else if full then count .tapOverrun n 1 s
  else
    let s1 := stockRecord n bytes s
    match held with
    | some l => (statIndices n v.chan path s1).foldl (fun x i => statSub p i l x) s1
    | none => s1

/-- The first block that still owes records to a core. -/
def tapNext (n : Nat) (s : State) : Option TapDue := s.sluice.taps.find? (·.core == n)

/-- What is owed once another record has been read. -/
def tapStep (x : TapDue) (s : State) : State :=
  let l := s.sluice.taps.erase x
  let more := if x.next + 1 < x.count then [{ x with next := x.next + 1 }] else []
  { s with sluice := { s.sluice with taps := more ++ l } }

/-- The tap of a core reads the next record of a closed block; `bad` tells that the read finds an
uncorrectable culvert error, `corrected` how many it corrects (R78, R84, R351). -/
def tapRead (n : Nat) (bad : Bool) (corrected : Nat) (full : Bool) (s : State) : State :=
  match tapNext n s with
  | none => s
  | some x =>
    match planOf x.epoch s with
    | none => tapStep x s
    | some p =>
      let v := (die x.die s).slot x.slot
      match tapOf n v.chan p s with
      | none => tapStep x s
      | some ts =>
        if v.block = x.block ∧ v.epoch = x.epoch ∧ x.next < ts.records p.s then
          let (q, path) := ts.record x.next
          let s1 := tapStep x s
          let s2 := culvertErrors x.die x.slot (if bad then [path * p.s + q] else []) corrected s1
          readRecord n x.next p ((die x.die s2).slot x.slot) ts full s2
        else tapStep x s

/-- TAP_RECORD (R351). -/
def execTapRecord (t : Nat) (n : Fin 64) (r : TapIn) (s : State) : Host.Outcome State Fault Refusal :=
  act t (tapRead n r.bad r.corrected r.full) s

end Sys2Proof.Machine
end

