-- ==== Sys2Proof/Machine/Telemetry.lean ====
section
/-! DEFINITION. TELEMETRY packets (R250) and ZCP_TELEMETRY (R491). -/

namespace Sys2Proof.Machine

/-- One TELEMETRY packet. -/
def telemetryPacket (s : State) (l : List (List Byte)) : State :=
  let flags := match s.plan.running with
    | some p => if p.shed = 0 then 0 else 1024
    | none => 0
  formPacket { stream := 0x8000, integration := 0, chan := 0, chans := 0, flags := flags }
    { fmt := 0x10, flags := 0, i := 0, j := 0, first := 0, elems := l.length, start := 0, stop := 0
      bytes := l.flatten } 0 .none none none s

/-- TELEMETRY_PERIOD (R250): the entries are latched as one snapshot, 512 to a packet; the lag extremes
of R369 begin anew. -/
def execTelemetryPeriod (t : Nat) (s : State) : Host.Outcome State Fault Refusal :=
  act t (fun x =>
    if x.boot.stage ≠ .ready ∨ x.time.now < x.egress.telemetryAt + nsT (par0 .egressTelemetryPeriod x) then x
    else
      let l := telemetryEntries .egressTelemetryKeys 0 x
      let x1 := if egressOn x then (runsOf 512 (l.length + 1) 0 l).foldl (fun y r => telemetryPacket y r.2) x else x
      { x1 with
        egress := { x1.egress with telemetryAt := x1.time.now }
        time := { x1.time with lagMin := [], lagMax := [] } }) s

/-- ZCP_TELEMETRY (R491): entries in the form of R250, as many messages as 8,192 bytes each need. -/
def execZcpTelemetry (t : Nat) (k : Fin 4) (s : State) : Host.Outcome State Fault Refusal :=
  act t (fun x =>
    let period := par .zcpTelemetryPeriod k 0 x
    let ss := session k x
    if !ss.isOpen ∨ period = 0 ∨ x.time.now < ss.telemetryAt + nsT period then x
    else
      let l := telemetryEntries .zcpTelemetryKeys k x
      let x1 := (runsOf 512 (l.length + 1) 0 l).foldl (fun y r => unsolicited k 0x0F02 r.2.flatten y) x
      setSession k (fun y => { y with telemetryAt := x1.time.now }) x1) s

end Sys2Proof.Machine
end

