-- ==== Sys2Proof/Machine/Dispatch.lean ====
section
/-! DEFINITION. One arm per command: the call of its meaning. -/

namespace Sys2Proof.Machine

/-- The effect of a command on everything but the queue. -/
def exec (i : Instr) (s : State) : Host.Outcome State Fault Refusal :=
  match i with
  | .powerEnRise t => Sys2Proof.Machine.execPowerEnRise t s
  | .powerEnFall t => Sys2Proof.Machine.execPowerEnFall t s
  | .resetNAssert t => Sys2Proof.Machine.execResetNAssert t s
  | .resetNDeassert t b => Sys2Proof.Machine.execResetNDeassert t b s
  | .feedQualified t feed volt => Sys2Proof.Machine.execFeedQualified t feed volt s
  | .feedLoss t which kind volt => Sys2Proof.Machine.execFeedLoss t which kind volt s
  | .powerStageReportTimeout t => Sys2Proof.Machine.execPowerStageReportTimeout t s
  | .powerStageFaultReport t kind => Sys2Proof.Machine.execPowerStageFaultReport t kind s
  | .domainTrip t pd => Sys2Proof.Machine.execDomainTrip t pd s
  | .pd38Retry t => Sys2Proof.Machine.execPd38Retry t s
  | .tempThreshold t die crit temp => Sys2Proof.Machine.execTempThreshold t die crit temp s
  | .dramStackTemp t stack temp => Sys2Proof.Machine.execDramStackTemp t stack temp s
  | .mgmtWatchdogExpiry t => Sys2Proof.Machine.execMgmtWatchdogExpiry t s
  | .fFrameReceive t port f => Sys2Proof.Machine.execFFrameReceive t port f s
  | .arpRequest t port f => Sys2Proof.Machine.execArpRequest t port f s
  | .neighbourSolicitation t port f => Sys2Proof.Machine.execNeighbourSolicitation t port f s
  | .blockDeadline t die slot => Sys2Proof.Machine.execBlockDeadline t die slot s
  | .cornerTurnCloseWait t chunk => Sys2Proof.Machine.execCornerTurnCloseWait t chunk s
  | .cornerTurnMove t => Sys2Proof.Machine.execCornerTurnMove t s
  | .ingressLinkChange t port up => Sys2Proof.Machine.execIngressLinkChange t port up s
  | .ingressLinkDownTimeout t port => Sys2Proof.Machine.execIngressLinkDownTimeout t port s
  | .blockStart t die weir0 weir1 => Sys2Proof.Machine.execBlockStart t die weir0 weir1 s
  | .accumulatorSwap t polder bad corrected faults => Sys2Proof.Machine.execAccumulatorSwap t polder bad corrected faults s
  | .shadowSetTake t die => Sys2Proof.Machine.execShadowSetTake t die s
  | .laneRowTest t polder fails => Sys2Proof.Machine.execLaneRowTest t polder fails s
  | .laneRowTestTimeout t polder => Sys2Proof.Machine.execLaneRowTestTimeout t polder s
  | .polderRetire t polder => Sys2Proof.Machine.execPolderRetire t polder s
  | .sparePolderActive t polder fails => Sys2Proof.Machine.execSparePolderActive t polder fails s
  | .polderChangeApply t polder => Sys2Proof.Machine.execPolderChangeApply t polder s
  | .promote t die => Sys2Proof.Machine.execPromote t die s
  | .ledgerOnly t area chan => Sys2Proof.Machine.execLedgerOnly t area chan s
  | .tileRead t f => Sys2Proof.Machine.execTileRead t f s
  | .tileWrite t k n => Sys2Proof.Machine.execTileWrite t k n s
  | .tileStatus t f => Sys2Proof.Machine.execTileStatus t f s
  | .tileReset t k n => Sys2Proof.Machine.execTileReset t k n s
  | .sealWaitExpiry t area region => Sys2Proof.Machine.execSealWaitExpiry t area region s
  | .snapshotChannelCopy t => Sys2Proof.Machine.execSnapshotChannelCopy t s
  | .slotRelease t die => Sys2Proof.Machine.execSlotRelease t die s
  | .weirBlockDone t engine => Sys2Proof.Machine.execWeirBlockDone t engine s
  | .bankRelease t => Sys2Proof.Machine.execBankRelease t s
  | .autoEpochFill t ref steer => Sys2Proof.Machine.execAutoEpochFill t ref steer s
  | .zoomSourceProcess t chan upto bad => Sys2Proof.Machine.execZoomSourceProcess t chan upto bad s
  | .zoomBlockDeliver t window => Sys2Proof.Machine.execZoomBlockDeliver t window s
  | .gateAssert t out => Sys2Proof.Machine.execGateAssert t out s
  | .gateDeassert t out => Sys2Proof.Machine.execGateDeassert t out s
  | .packetSend t stream => Sys2Proof.Machine.execPacketSend t stream s
  | .eventsPacketTimeout t => Sys2Proof.Machine.execEventsPacketTimeout t s
  | .telemetryPeriod t => Sys2Proof.Machine.execTelemetryPeriod t s
  | .hostLinkChange t port up => Sys2Proof.Machine.execHostLinkChange t port up s
  | .hostLinkTimeout t port => Sys2Proof.Machine.execHostLinkTimeout t port s
  | .hostFlowctlFrame t port => Sys2Proof.Machine.execHostFlowctlFrame t port s
  | .compressUnitAssign t => Sys2Proof.Machine.execCompressUnitAssign t s
  | .compressUnitDone t comp => Sys2Proof.Machine.execCompressUnitDone t comp s
  | .decompJobStart t => Sys2Proof.Machine.execDecompJobStart t s
  | .decompJobEnd t => Sys2Proof.Machine.execDecompJobEnd t s
  | .commitPoint t => Sys2Proof.Machine.execCommitPoint t s
  | .commitBoundary t => Sys2Proof.Machine.execCommitBoundary t s
  | .shedTakeEffect t => Sys2Proof.Machine.execShedTakeEffect t s
  | .mpy core ecc => Sys2Proof.Machine.execMpy core ecc s
  | .mac core ecc => Sys2Proof.Machine.execMac core ecc s
  | .msu core ecc => Sys2Proof.Machine.execMsu core ecc s
  | .mpysu core ecc => Sys2Proof.Machine.execMpysu core ecc s
  | .macsu core ecc => Sys2Proof.Machine.execMacsu core ecc s
  | .add core ecc => Sys2Proof.Machine.execAdd core ecc s
  | .sub core ecc => Sys2Proof.Machine.execSub core ecc s
  | .and core ecc => Sys2Proof.Machine.execAnd core ecc s
  | .or core ecc => Sys2Proof.Machine.execOr core ecc s
  | .xor core ecc => Sys2Proof.Machine.execXor core ecc s
  | .shl core ecc => Sys2Proof.Machine.execShl core ecc s
  | .shra core ecc => Sys2Proof.Machine.execShra core ecc s
  | .shrl core ecc => Sys2Proof.Machine.execShrl core ecc s
  | .abs core ecc => Sys2Proof.Machine.execAbs core ecc s
  | .neg core ecc => Sys2Proof.Machine.execNeg core ecc s
  | .min core ecc => Sys2Proof.Machine.execMin core ecc s
  | .max core ecc => Sys2Proof.Machine.execMax core ecc s
  | .mov core ecc => Sys2Proof.Machine.execMov core ecc s
  | .cmplt core ecc => Sys2Proof.Machine.execCmplt core ecc s
  | .cmpeq core ecc => Sys2Proof.Machine.execCmpeq core ecc s
  | .adda core ecc => Sys2Proof.Machine.execAdda core ecc s
  | .suba core ecc => Sys2Proof.Machine.execSuba core ecc s
  | .shla core ecc => Sys2Proof.Machine.execShla core ecc s
  | .shraAcc core ecc => Sys2Proof.Machine.execShraAcc core ecc s
  | .clra core ecc => Sys2Proof.Machine.execClra core ecc s
  | .ext core ecc => Sys2Proof.Machine.execExt core ecc s
  | .mova core ecc => Sys2Proof.Machine.execMova core ecc s
  | .insa core ecc => Sys2Proof.Machine.execInsa core ecc s
  | .nop core ecc => Sys2Proof.Machine.execNop core ecc s
  | .br core ecc => Sys2Proof.Machine.execBr core ecc s
  | .call core ecc => Sys2Proof.Machine.execCall core ecc s
  | .ret core ecc => Sys2Proof.Machine.execRet core ecc s
  | .loop core ecc => Sys2Proof.Machine.execLoop core ecc s
  | .reti core ecc => Sys2Proof.Machine.execReti core ecc s
  | .wait core ecc => Sys2Proof.Machine.execWait core ecc s
  | .halt core ecc => Sys2Proof.Machine.execHalt core ecc s
  | .ei core ecc => Sys2Proof.Machine.execEi core ecc s
  | .di core ecc => Sys2Proof.Machine.execDi core ecc s
  | .addpi core ecc => Sys2Proof.Machine.execAddpi core ecc s
  | .addpp core ecc => Sys2Proof.Machine.execAddpp core ecc s
  | .subpp core ecc => Sys2Proof.Machine.execSubpp core ecc s
  | .movpi core ecc => Sys2Proof.Machine.execMovpi core ecc s
  | .movpp core ecc => Sys2Proof.Machine.execMovpp core ecc s
  | .movdp core ecc => Sys2Proof.Machine.execMovdp core ecc s
  | .movpd core ecc => Sys2Proof.Machine.execMovpd core ecc s
  | .movdc core ecc => Sys2Proof.Machine.execMovdc core ecc s
  | .movcd core ecc => Sys2Proof.Machine.execMovcd core ecc s
  | .movad core ecc => Sys2Proof.Machine.execMovad core ecc s
  | .movgd core ecc => Sys2Proof.Machine.execMovgd core ecc s
  | .movi32 core ecc => Sys2Proof.Machine.execMovi32 core ecc s
  | .movip core ecc => Sys2Proof.Machine.execMovip core ecc s
  | .movicr core ecc => Sys2Proof.Machine.execMovicr core ecc s
  | .jmp core ecc => Sys2Proof.Machine.execJmp core ecc s
  | .load core ecc => Sys2Proof.Machine.execLoad core ecc s
  | .store core ecc => Sys2Proof.Machine.execStore core ecc s
  | .ftap core ecc => Sys2Proof.Machine.execFtap core ecc s
  | .imm core ecc => Sys2Proof.Machine.execImm core ecc s
  | .interruptEntry t core waited => Sys2Proof.Machine.execInterruptEntry t core waited s
  | .timerMatch t core => Sys2Proof.Machine.execTimerMatch t core s
  | .cycleLoRead t core => Sys2Proof.Machine.execCycleLoRead t core s
  | .peerRaise t core k => Sys2Proof.Machine.execPeerRaise t core k s
  | .moverSubmit t core addr => Sys2Proof.Machine.execMoverSubmit t core addr s
  | .moverDescDone t r => Sys2Proof.Machine.execMoverDescDone t r s
  | .tapCtlWrite t core value => Sys2Proof.Machine.execTapCtlWrite t core value s
  | .tapRecord t core r => Sys2Proof.Machine.execTapRecord t core r s
  | .coreStopForced t core => Sys2Proof.Machine.execCoreStopForced t core s
  | .stockCoreReload t core => Sys2Proof.Machine.execStockCoreReload t core s
  | .ptpSyncTx t port raw => Sys2Proof.Machine.execPtpSyncTx t port raw s
  | .ptpAnnounceTx t port => Sys2Proof.Machine.execPtpAnnounceTx t port s
  | .ptpDelayReqRx t port m => Sys2Proof.Machine.execPtpDelayReqRx t port m s
  | .ptpPdelayReqRx t port m raw => Sys2Proof.Machine.execPtpPdelayReqRx t port m raw s
  | .ptpAnnounceRx t port m => Sys2Proof.Machine.execPtpAnnounceRx t port m s
  | .ptpSyncRx t port m => Sys2Proof.Machine.execPtpSyncRx t port m s
  | .ptpFollowUpRx t port m => Sys2Proof.Machine.execPtpFollowUpRx t port m s
  | .ptpDelayReqTx t port raw => Sys2Proof.Machine.execPtpDelayReqTx t port raw s
  | .ptpDelayRespRx t port m => Sys2Proof.Machine.execPtpDelayRespRx t port m s
  | .announceTimeout t port => Sys2Proof.Machine.execAnnounceTimeout t port s
  | .syncTimeout t port => Sys2Proof.Machine.execSyncTimeout t port s
  | .tcForward t port m txRaw => Sys2Proof.Machine.execTcForward t port m txRaw s
  | .pulseEdge t out => Sys2Proof.Machine.execPulseEdge t out s
  | .pulseDeassert t out => Sys2Proof.Machine.execPulseDeassert t out s
  | .tideMark t out => Sys2Proof.Machine.execTideMark t out s
  | .edgeCapture t input falling => Sys2Proof.Machine.execEdgeCapture t input falling s
  | .ppsEdge t ref present10M deviation => Sys2Proof.Machine.execPpsEdge t ref present10M deviation s
  | .todSentence t ref text started => Sys2Proof.Machine.execTodSentence t ref text started s
  | .refSignalLoss t ref cause => Sys2Proof.Machine.execRefSignalLoss t ref cause s
  | .esmcPduRx t port ssm => Sys2Proof.Machine.execEsmcPduRx t port ssm s
  | .refFreqMeasure t ref freq => Sys2Proof.Machine.execRefFreqMeasure t ref freq s
  | .qualifyTimeExpiry t ref => Sys2Proof.Machine.execQualifyTimeExpiry t ref s
  | .disagreeWindow t freqs estimate => Sys2Proof.Machine.execDisagreeWindow t freqs estimate s
  | .selectionEvaluation t => Sys2Proof.Machine.execSelectionEvaluation t s
  | .switchCommit t offset => Sys2Proof.Machine.execSwitchCommit t offset s
  | .dpllLock t => Sys2Proof.Machine.execDpllLock t s
  | .holdoverExpiry t => Sys2Proof.Machine.execHoldoverExpiry t s
  | .realignDue t => Sys2Proof.Machine.execRealignDue t s
  | .dramRequest t port chan codeword kind flips inner waited => Sys2Proof.Machine.execDramRequest t port chan codeword kind flips inner waited s
  | .refreshDue t chan pc sid busy => Sys2Proof.Machine.execRefreshDue t chan pc sid busy s
  | .powerDownEntry t chan pc sid => Sys2Proof.Machine.execPowerDownEntry t chan pc sid s
  | .pageIdleClose t chan pc sid bank => Sys2Proof.Machine.execPageIdleClose t chan pc sid bank s
  | .retrainCorrRate t chan => Sys2Proof.Machine.execRetrainCorrRate t chan s
  | .retrainTempDrift t chan => Sys2Proof.Machine.execRetrainTempDrift t chan s
  | .retrainPeriod t chan => Sys2Proof.Machine.execRetrainPeriod t chan s
  | .gatherSlice t stack => Sys2Proof.Machine.execGatherSlice t stack s
  | .retrainApply t stack margin => Sys2Proof.Machine.execRetrainApply t stack margin s
  | .stackStepDownDone t stack fails => Sys2Proof.Machine.execStackStepDownDone t stack fails s
  | .retirementMarkersDone t => Sys2Proof.Machine.execRetirementMarkersDone t s
  | .canalRequest t m id write addr beats data => Sys2Proof.Machine.execCanalRequest t m id write addr beats data s
  | .canalPieceGrant t port responds r => Sys2Proof.Machine.execCanalPieceGrant t port responds r s
  | .canalTargetTimeout t m id => Sys2Proof.Machine.execCanalTargetTimeout t m id s
  | .masterResetDrained t m => Sys2Proof.Machine.execMasterResetDrained t m s
  | .semTake t m k => Sys2Proof.Machine.execSemTake t m k s
  | .semGive t m k value => Sys2Proof.Machine.execSemGive t m k value s
  | .rcRead t m c inst => Sys2Proof.Machine.execRcRead t m c inst s
  | .registerWrite t m r value => Sys2Proof.Machine.execRegisterWrite t m r value s
  | .zcpSessionOpen t d => Sys2Proof.Machine.execZcpSessionOpen t d s
  | .zcpSessionClose t d => Sys2Proof.Machine.execZcpSessionClose t d s
  | .zcpNop t d => Sys2Proof.Machine.execZcpNop t d s
  | .zcpIdentity t d => Sys2Proof.Machine.execZcpIdentity t d s
  | .zcpKeySet t d => Sys2Proof.Machine.execZcpKeySet t d s
  | .zcpFuncReinit t d => Sys2Proof.Machine.execZcpFuncReinit t d s
  | .zcpModuleReset t d b => Sys2Proof.Machine.execZcpModuleReset t d b s
  | .zcpTakeover t d => Sys2Proof.Machine.execZcpTakeover t d s
  | .zcpParamGet t d => Sys2Proof.Machine.execZcpParamGet t d s
  | .zcpParamSet t d => Sys2Proof.Machine.execZcpParamSet t d s
  | .zcpPlanCheck t d => Sys2Proof.Machine.execZcpPlanCheck t d s
  | .zcpPlanCommit t d boundary => Sys2Proof.Machine.execZcpPlanCommit t d boundary s
  | .zcpPlanCancel t d => Sys2Proof.Machine.execZcpPlanCancel t d s
  | .zcpCapacityRecord t d => Sys2Proof.Machine.execZcpCapacityRecord t d s
  | .zcpSnapshot t d chans => Sys2Proof.Machine.execZcpSnapshot t d chans s
  | .zcpTotalsReset t d area region => Sys2Proof.Machine.execZcpTotalsReset t d area region s
  | .zcpWeirEpoch t d bank boundary => Sys2Proof.Machine.execZcpWeirEpoch t d bank boundary s
  | .zcpWeirEpochCancel t d bank => Sys2Proof.Machine.execZcpWeirEpochCancel t d bank s
  | .zcpTimeGet t d => Sys2Proof.Machine.execZcpTimeGet t d s
  | .zcpTimeSet t d x => Sys2Proof.Machine.execZcpTimeSet t d x s
  | .zcpTimeRealign t d sec => Sys2Proof.Machine.execZcpTimeRealign t d sec s
  | .zcpRefSelect t d r => Sys2Proof.Machine.execZcpRefSelect t d r s
  | .zcpPtpSend t d port msg raw => Sys2Proof.Machine.execZcpPtpSend t d port msg raw s
  | .zcpPtpTxts t d port mtype domain seq => Sys2Proof.Machine.execZcpPtpTxts t d port mtype domain seq s
  | .zcpTideOutArm t d n => Sys2Proof.Machine.execZcpTideOutArm t d n s
  | .zcpTideOutStop t d n => Sys2Proof.Machine.execZcpTideOutStop t d n s
  | .zcpMemRetrain t d chan => Sys2Proof.Machine.execZcpMemRetrain t d chan s
  | .zcpMemSpeed t d k bin => Sys2Proof.Machine.execZcpMemSpeed t d k bin s
  | .zcpMemClearRetired t d => Sys2Proof.Machine.execZcpMemClearRetired t d s
  | .zcpSluiceLoad t d => Sys2Proof.Machine.execZcpSluiceLoad t d s
  | .zcpSluiceStart t d n => Sys2Proof.Machine.execZcpSluiceStart t d n s
  | .zcpSluiceStop t d n => Sys2Proof.Machine.execZcpSluiceStop t d n s
  | .zcpSluiceStatus t d n => Sys2Proof.Machine.execZcpSluiceStatus t d n s
  | .zcpSluiceGainSolve t d area region chans => Sys2Proof.Machine.execZcpSluiceGainSolve t d area region chans s
  | .zcpFaultStatus t d => Sys2Proof.Machine.execZcpFaultStatus t d s
  | .zcpBbRead t d first count => Sys2Proof.Machine.execZcpBbRead t d first count s
  | .zcpBbFlush t r => Sys2Proof.Machine.execZcpBbFlush t r s
  | .bbSlotEraseDone r => Sys2Proof.Machine.execBbSlotEraseDone r s
  | .zcpBbMark t d => Sys2Proof.Machine.execZcpBbMark t d s
  | .zcpFaultInject t d src => Sys2Proof.Machine.execZcpFaultInject t d src s
  | .zcpMarginRun t d n plan => Sys2Proof.Machine.execZcpMarginRun t d n plan s
  | .zcpBulkOpen t d => Sys2Proof.Machine.execZcpBulkOpen t d s
  | .zcpBulkData t d => Sys2Proof.Machine.execZcpBulkData t d s
  | .zcpBulkClose t d id => Sys2Proof.Machine.execZcpBulkClose t d id s
  | .zcpBulkReread t d id offset length => Sys2Proof.Machine.execZcpBulkReread t d id offset length s
  | .zcpBulkStatus t d id => Sys2Proof.Machine.execZcpBulkStatus t d id s
  | .zcpPeek t d => Sys2Proof.Machine.execZcpPeek t d s
  | .zcpPoke t d => Sys2Proof.Machine.execZcpPoke t d s
  | .zcpFwStatus t d => Sys2Proof.Machine.execZcpFwStatus t d s
  | .zcpFwInstall t d r => Sys2Proof.Machine.execZcpFwInstall t d r s
  | .zcpFwSetBoot t d image => Sys2Proof.Machine.execZcpFwSetBoot t d image s
  | .zcpFwAccept t d => Sys2Proof.Machine.execZcpFwAccept t d s
  | .zcpAck t d => Sys2Proof.Machine.execZcpAck t d s
  | .zcpUnsolRetransmit t slot seq => Sys2Proof.Machine.execZcpUnsolRetransmit t slot seq s
  | .zcpUnsolAgeOut t slot seq => Sys2Proof.Machine.execZcpUnsolAgeOut t slot seq s
  | .zcpTelemetry t slot => Sys2Proof.Machine.execZcpTelemetry t slot s
  | .sessionIdleTimeout t slot => Sys2Proof.Machine.execSessionIdleTimeout t slot s
  | .bulkWaitExpiry t slot id => Sys2Proof.Machine.execBulkWaitExpiry t slot id s
  | .bulkIdleExpiry t slot id => Sys2Proof.Machine.execBulkIdleExpiry t slot id s
  | .heartbeat t => Sys2Proof.Machine.execHeartbeat t s
  | .heartbeatMissTakeover t cause held => Sys2Proof.Machine.execHeartbeatMissTakeover t cause held s
  | .mirrorConfirmTimeout t => Sys2Proof.Machine.execMirrorConfirmTimeout t s
  | .standbyResyncDone t => Sys2Proof.Machine.execStandbyResyncDone t s
  | .quietTimeExpiry t cls => Sys2Proof.Machine.execQuietTimeExpiry t cls s
  | .gaugeAlarm t g margin plan => Sys2Proof.Machine.execGaugeAlarm t g margin plan s
  | .plannerPeriod t plan => Sys2Proof.Machine.execPlannerPeriod t plan s
  | .imageReadyTimeout t b => Sys2Proof.Machine.execImageReadyTimeout t b s
  | .fwTrialExpiry t b => Sys2Proof.Machine.execFwTrialExpiry t b s
  | .oncePerSecondReport t r => Sys2Proof.Machine.execOncePerSecondReport t r s
  | .holdUpExhausted t => Sys2Proof.Machine.execHoldUpExhausted t s
  | .slewEnd t => Sys2Proof.Machine.execSlewEnd t s
  | .standbyHeartbeatFail t => Sys2Proof.Machine.execStandbyHeartbeatFail t s
  | .domainWakeDone t pd => Sys2Proof.Machine.execDomainWakeDone t pd s
  | .boundaryItemApply t item inst => Sys2Proof.Machine.execBoundaryItemApply t item inst s

end Sys2Proof.Machine
end

