-- ==== Sys2Proof/Machine/Flags.lean ====
section
/-! DEFINITION. The flags that the module shows without being asked: the levels of its open-drain
sideband outputs (R534, R560, R577). The sticky SV and OV of a sluice core's SW (R318) are set
where the operations compute them, in SluiceCode.lean. -/

namespace Sys2Proof.Machine

/-- R534: ALERT_N is driven low while an advisory or degrading episode is OPEN. -/
def alertDriven (s : State) : Bool := (episode 0 s).state == .open || (episode 1 s).state == .open

/-- R534, R571, R577: FAULT_N is driven low while an isolating episode is OPEN, a function stays
stopped, a module-stop episode is HELD, boot has FAILED, or PD38 has tripped for good. -/
def faultDriven (s : State) : Bool :=
  (episode 2 s).state == .open || !s.fault.stopped.isEmpty || (episode 3 s).state == .held ||
    s.boot.stage == .failed || (decide (2 ≤ s.power.pd38Trips) && domain 38 s == .tripped)

/-- R560: READY is driven low once bring-up completes, until R532 or a reset releases it. -/
def readyDriven (s : State) : Bool := s.power.readyPin

end Sys2Proof.Machine
end

