-- ==== Sys2Proof/WellFormed.lean ====
section
/-! DEFINITION. Well-formed commands: operands that the outside world can bring. A meaning never asks
for it; statements may. What the type of an operand already bounds is not said again. -/

namespace Sys2Proof

open Machine

/-- A datagram fits a UDP payload (R469). -/
def Machine.Dgram.wf (d : Dgram) : Bool := decide (d.bytes.length ≤ 65507)

/-- A frame holds its two addresses and its EtherType (R50). -/
def Machine.EthIn.wf (f : EthIn) : Bool := decide (14 ≤ f.bytes.length)

/-- The UDP checksum has 16 bits (R378). -/
def Machine.PtpIn.wf (m : PtpIn) : Bool := decide (m.udpSum < 2 ^ 16) && decide (m.bytes.length + 18 ≤ m.len)

/-- Steps 0 to 24 of polders 0 to 167, physical rows 0 to 131 (R100, R544). -/
def Machine.PolderPlan.wf (p : PolderPlan) : Bool :=
  decide (p.polder < 168) && p.fails.all (fun f => decide (f.1 ≤ 24) && f.2.all (decide <| · < 132)) &&
    p.margins.all (decide <| ·.1 ≤ 24)

/-- A planner run's polders. -/
def plannerWf (l : PlannerIn) : Bool := l.all (·.wf)

/-- Eight stacks, channels 0 to 127, ingress ports 0 to 127, two host links, four strap pins. -/
def Machine.BootIn.wf (b : BootIn) : Bool :=
  b.stackBins.length == 8 && b.badChannels.all (decide <| · < 128) &&
    b.linksUp.all (decide <| · < 128) && b.hostUp.length == 2 && decide (b.slotId < 16) &&
    plannerWf b.planner

/-- Two feeds, and at most seven temperatures as binary32 (R543, R568). -/
def Machine.Sensors.wf (r : Sensors) : Bool :=
  r.feeds.length == 2 && r.temps.length == 7 && r.temps.all (decide <| · < 2 ^ 32)

/-- A steering entry: binary32 amplitude, polynomials of degree 0 to 3 with binary64 coefficients (R183). -/
def Machine.Steer.wf (x : Steer) : Bool :=
  decide (x.amp < 2 ^ 32) && decide (x.delay.length ≤ 4) && decide (x.phase.length ≤ 4) && x.delay.all (decide <| · < 2 ^ 64) && x.phase.all (decide <| · < 2 ^ 64)

/-- Every operand of the command is one that can come about. -/
def Instr.wf (i : Instr) : Bool :=
  match i with
  | .powerEnRise _ => true
  | .powerEnFall _ => true
  | .resetNAssert _ => true
  | .resetNDeassert _ b => b.wf
  | .feedQualified _ _ _ => true
  | .feedLoss _ _ _ _ => true
  | .powerStageReportTimeout _ => true
  | .powerStageFaultReport _ _ => true
  | .domainTrip _ _ => true
  | .pd38Retry _ => true
  | .tempThreshold _ _ _ temp => decide (temp < 2 ^ 32)
  | .dramStackTemp _ _ _ => true
  | .mgmtWatchdogExpiry _ => true
  | .fFrameReceive _ _ f => f.wf
  | .arpRequest _ _ f => f.wf
  | .neighbourSolicitation _ _ f => f.wf
  | .blockDeadline _ _ _ => true
  | .cornerTurnCloseWait _ _ => true
  | .cornerTurnMove _ => true
  | .ingressLinkChange _ _ _ => true
  | .ingressLinkDownTimeout _ _ => true
  | .blockStart _ _ _ _ => true
  | .accumulatorSwap _ _ _ _ faults => faults.all (decide <| ·.1 < 132 * 128)
  | .shadowSetTake _ _ => true
  | .laneRowTest _ _ fails => fails.all (decide <| · < 132)
  | .laneRowTestTimeout _ _ => true
  | .polderRetire _ _ => true
  | .sparePolderActive _ _ fails => fails.all (decide <| · < 132)
  | .polderChangeApply _ _ => true
  | .promote _ _ => true
  | .ledgerOnly _ _ _ => true
  | .tileRead _ _ => true
  | .tileWrite _ _ _ => true
  | .tileStatus _ _ => true
  | .tileReset _ _ _ => true
  | .sealWaitExpiry _ _ _ => true
  | .snapshotChannelCopy _ => true
  | .slotRelease _ _ => true
  | .weirBlockDone _ _ => true
  | .bankRelease _ => true
  | .autoEpochFill _ _ steer => steer.all (·.2.wf)
  | .zoomSourceProcess _ _ _ _ => true
  | .zoomBlockDeliver _ _ => true
  | .gateAssert _ _ => true
  | .gateDeassert _ _ => true
  | .packetSend _ stream => decide (stream < 2 ^ 16)
  | .eventsPacketTimeout _ => true
  | .telemetryPeriod _ => true
  | .hostLinkChange _ _ _ => true
  | .hostLinkTimeout _ _ => true
  | .hostFlowctlFrame _ _ => true
  | .compressUnitAssign _ => true
  | .compressUnitDone _ _ => true
  | .decompJobStart _ => true
  | .decompJobEnd _ => true
  | .commitPoint _ => true
  | .commitBoundary _ => true
  | .shedTakeEffect _ => true
  | .mpy _ _ => true
  | .mac _ _ => true
  | .msu _ _ => true
  | .mpysu _ _ => true
  | .macsu _ _ => true
  | .add _ _ => true
  | .sub _ _ => true
  | .and _ _ => true
  | .or _ _ => true
  | .xor _ _ => true
  | .shl _ _ => true
  | .shra _ _ => true
  | .shrl _ _ => true
  | .abs _ _ => true
  | .neg _ _ => true
  | .min _ _ => true
  | .max _ _ => true
  | .mov _ _ => true
  | .cmplt _ _ => true
  | .cmpeq _ _ => true
  | .adda _ _ => true
  | .suba _ _ => true
  | .shla _ _ => true
  | .shraAcc _ _ => true
  | .clra _ _ => true
  | .ext _ _ => true
  | .mova _ _ => true
  | .insa _ _ => true
  | .nop _ _ => true
  | .br _ _ => true
  | .call _ _ => true
  | .ret _ _ => true
  | .loop _ _ => true
  | .reti _ _ => true
  | .wait _ _ => true
  | .halt _ _ => true
  | .ei _ _ => true
  | .di _ _ => true
  | .addpi _ _ => true
  | .addpp _ _ => true
  | .subpp _ _ => true
  | .movpi _ _ => true
  | .movpp _ _ => true
  | .movdp _ _ => true
  | .movpd _ _ => true
  | .movdc _ _ => true
  | .movcd _ _ => true
  | .movad _ _ => true
  | .movgd _ _ => true
  | .movi32 _ _ => true
  | .movip _ _ => true
  | .movicr _ _ => true
  | .jmp _ _ => true
  | .load _ _ => true
  | .store _ _ => true
  | .ftap _ _ => true
  | .imm _ _ => true
  | .interruptEntry _ _ _ => true
  | .timerMatch _ _ => true
  | .cycleLoRead _ _ => true
  | .peerRaise _ _ _ => true
  | .moverSubmit _ _ addr => decide (addr < 2 ^ 32)
  | .moverDescDone _ _ => true
  | .tapCtlWrite _ _ value => decide (value < 2 ^ 32)
  | .tapRecord _ _ _ => true
  | .coreStopForced _ _ => true
  | .stockCoreReload _ _ => true
  | .ptpSyncTx _ _ _ => true
  | .ptpAnnounceTx _ _ => true
  | .ptpDelayReqRx _ _ m => m.wf
  | .ptpPdelayReqRx _ _ m _ => m.wf
  | .ptpAnnounceRx _ _ m => m.wf
  | .ptpSyncRx _ _ m => m.wf
  | .ptpFollowUpRx _ _ m => m.wf
  | .ptpDelayReqTx _ _ _ => true
  | .ptpDelayRespRx _ _ m => m.wf
  | .announceTimeout _ _ => true
  | .syncTimeout _ _ => true
  | .tcForward _ _ m _ => m.wf
  | .pulseEdge _ _ => true
  | .pulseDeassert _ _ => true
  | .tideMark _ _ => true
  | .edgeCapture _ _ _ => true
  | .ppsEdge _ _ _ _ => true
  | .todSentence _ _ text _ => decide (text.length ≤ 65507)
  | .refSignalLoss _ _ _ => true
  | .esmcPduRx _ _ _ => true
  | .refFreqMeasure _ _ _ => true
  | .qualifyTimeExpiry _ _ => true
  | .disagreeWindow _ freqs _ => freqs.length == 6
  | .selectionEvaluation _ => true
  | .switchCommit _ _ => true
  | .dpllLock _ => true
  | .holdoverExpiry _ => true
  | .realignDue _ => true
  | .dramRequest _ _ _ _ _ _ _ _ => true
  | .refreshDue _ _ _ _ _ => true
  | .powerDownEntry _ _ _ _ => true
  | .pageIdleClose _ _ _ _ _ => true
  | .retrainCorrRate _ _ => true
  | .retrainTempDrift _ _ => true
  | .retrainPeriod _ _ => true
  | .gatherSlice _ _ => true
  | .retrainApply _ _ _ => true
  | .stackStepDownDone _ _ _ => true
  | .retirementMarkersDone _ => true
  | .canalRequest _ _ _ _ _ beats _ => decide (1 ≤ beats) && decide (beats ≤ 256)
  | .canalPieceGrant _ _ _ _ => true
  | .canalTargetTimeout _ _ _ => true
  | .masterResetDrained _ _ => true
  | .semTake _ _ _ => true
  | .semGive _ _ _ _ => true
  | .rcRead _ _ _ _ => true
  | .registerWrite _ _ _ _ => true
  | .zcpSessionOpen _ d => d.wf
  | .zcpSessionClose _ d => d.wf
  | .zcpNop _ d => d.wf
  | .zcpIdentity _ d => d.wf
  | .zcpKeySet _ d => d.wf
  | .zcpFuncReinit _ d => d.wf
  | .zcpModuleReset _ d b => d.wf && b.wf
  | .zcpTakeover _ d => d.wf
  | .zcpParamGet _ d => d.wf
  | .zcpParamSet _ d => d.wf
  | .zcpPlanCheck _ d => d.wf
  | .zcpPlanCommit _ d _ => d.wf
  | .zcpPlanCancel _ d => d.wf
  | .zcpCapacityRecord _ d => d.wf
  | .zcpSnapshot _ d _ => d.wf
  | .zcpTotalsReset _ d _ _ => d.wf
  | .zcpWeirEpoch _ d _ _ => d.wf
  | .zcpWeirEpochCancel _ d _ => d.wf
  | .zcpTimeGet _ d => d.wf
  | .zcpTimeSet _ d _ => d.wf
  | .zcpTimeRealign _ d _ => d.wf
  | .zcpRefSelect _ d _ => d.wf
  | .zcpPtpSend _ d _ msg _ => d.wf && decide (msg.length ≤ 65507)
  | .zcpPtpTxts _ d _ _ _ _ => d.wf
  | .zcpTideOutArm _ d _ => d.wf
  | .zcpTideOutStop _ d _ => d.wf
  | .zcpMemRetrain _ d _ => d.wf
  | .zcpMemSpeed _ d _ _ => d.wf
  | .zcpMemClearRetired _ d => d.wf
  | .zcpSluiceLoad _ d => d.wf
  | .zcpSluiceStart _ d _ => d.wf
  | .zcpSluiceStop _ d _ => d.wf
  | .zcpSluiceStatus _ d _ => d.wf
  | .zcpSluiceGainSolve _ d _ _ _ => d.wf
  | .zcpFaultStatus _ d => d.wf
  | .zcpBbRead _ d _ _ => d.wf
  | .zcpBbFlush _ r => r.cmd.wf
  | .bbSlotEraseDone _ => true
  | .zcpBbMark _ d => d.wf
  | .zcpFaultInject _ d _ => d.wf
  | .zcpMarginRun _ d _ plan => d.wf && plannerWf plan
  | .zcpBulkOpen _ d => d.wf
  | .zcpBulkData _ d => d.wf
  | .zcpBulkClose _ d _ => d.wf
  | .zcpBulkReread _ d _ _ _ => d.wf
  | .zcpBulkStatus _ d _ => d.wf
  | .zcpPeek _ d => d.wf
  | .zcpPoke _ d => d.wf
  | .zcpFwStatus _ d => d.wf
  | .zcpFwInstall _ d _ => d.wf
  | .zcpFwSetBoot _ d _ => d.wf
  | .zcpFwAccept _ d => d.wf
  | .zcpAck _ d => d.wf
  | .zcpUnsolRetransmit _ _ _ => true
  | .zcpUnsolAgeOut _ _ _ => true
  | .zcpTelemetry _ _ => true
  | .sessionIdleTimeout _ _ => true
  | .bulkWaitExpiry _ _ _ => true
  | .bulkIdleExpiry _ _ _ => true
  | .heartbeat _ => true
  | .heartbeatMissTakeover _ _ held => held.all (·.wf)
  | .mirrorConfirmTimeout _ => true
  | .standbyResyncDone _ => true
  | .quietTimeExpiry _ _ => true
  | .gaugeAlarm _ _ _ plan => plannerWf plan
  | .plannerPeriod _ plan => plannerWf plan
  | .imageReadyTimeout _ b => b.wf
  | .fwTrialExpiry _ b => b.wf
  | .oncePerSecondReport _ r => r.wf
  | .holdUpExhausted _ => true
  | .slewEnd _ => true
  | .standbyHeartbeatFail _ => true
  | .domainWakeDone _ _ => true
  | .boundaryItemApply _ _ _ => true

end Sys2Proof
end

