-- ==== Sys2Proof/Safety.lean ====
section
/-! DEFINITION. The terms in which statements about the module are made: what an effect leaves apart
from its own reports, and what the module has reported. -/

namespace Sys2Proof.Machine

/-! ### Reports

Every event is queued in the open sessions, sent, counted among the ZCP counters and recorded in the
black box. `rest` is the state without that machinery, so that a statement can say what a command does
to everything else. -/

/-- The counters that sending and recording a report move (R506, R537). -/
def Ctr.reporting (c : Ctr) : Bool :=
  c == .zcpTxH0 || c == .zcpTxH1 || c == .zcpUnsolAged || c == .bbRecords || c == .bbDropped

/-- A session without its queue of unsolicited messages. -/
def Session.quiet (x : Session) : Session := { x with unsol := [], nextUnsol := 0 }

/-- The state without what reports touch: what was sent, the queues of unsolicited messages, the black-box
ring and its mirror, the counters and the counts of events. -/
def rest (s : State) : State :=
  { s with
    sent := []
    ctr := []
    satDue := []
    evCounts := []
    zcp := { s.zcp with slots := s.zcp.slots.map Session.quiet }
    fault := { s.fault with ring := [], nextSeq := 0, mirror := [], batch := [] } }

/-- How often an event was raised since it was last cleared (R520). -/
def eventCount (e : Ev) (s : State) : Nat := sGet (fun _ => 0) s.evCounts e.code

/-- Two states that agree in everything but what the module has sent, queued and recorded as reports;
EV_COUNTER_SAT, which any report can cause (R21), may differ in its count. -/
structure ReportEq (x y : State) : Prop where
  rest : rest x = rest y
  ctr : ∀ (c : Ctr) (i : Nat), c.reporting = false → ctrGet c i x = ctrGet c i y
  ev : ∀ e : Ev, e ≠ .counterSat → eventCount e x = eventCount e y

/-- What a source's firing does apart from its records (R524, R528, R529): the sticky bit is set; an IDLE
episode opens and raises EV_FAULT; an OPEN one starts its quiet period anew; class 3 is HELD. -/
def fired (f : Fs) (s : State) : State :=
  let s1 := { s with fault := { s.fault with sticky := s.fault.sticky ||| BitVec.ofNat 128 (2 ^ f.num) } }
  let e := episode f.cls s
  let quiet := s.time.now + secT (par .faultQuietTime f.cls 0 s)
  let st : EpState := if f.cls = 3 then .held else .open
  match e.state with
  | .idle => noteEvent .fault (setEpisode f.cls { e with state := st, first := f.num, quietEnd := quiet } s1)
  | .open => setEpisode f.cls { e with state := st, quietEnd := quiet } s1
  | .held => s1

/-! ### Commands of a host -/

/-- The state without the sessions, which the arrival of a message and its reply change as well. -/
def restZ (s : State) : State :=
  { rest s with zcp := { s.zcp with slots := .replicate 4 (resetSession none) } }

/-- A datagram that comes in on an up port of a module that is READY and passes the checks of R472: format,
session, tag and flags. -/
structure Authentic (d : Dgram) (s : State) : Prop where
  up : hostUp d.port s = true
  ready : s.boot.stage = .ready
  checks : earlyChecks d s = none
  tag : tagGood d s = true
  flags : d.flags % 64 ∈ [0, 4, 8, 12]

/-- An authentic datagram that the sequence window judges (R485): it opens no session, is no ZCP_ACK and
carries no data for a transfer that is not open to them. -/
structure Sequenced (d : Dgram) (s : State) : Prop extends Authentic d s where
  notOpen : d.isOpen = false
  notAck : ¬ (d.typ = 0x0F00 ∧ d.mailbox = 15)
  bulk : closedBulk d s = false

/-- A datagram that is accepted as a new command (R485), sent with a TYPE of its mailbox (R480) by a slot
with the right to it (R474). -/
structure Accepted (typ : Nat) (d : Dgram) (s : State) : Prop extends Sequenced d s where
  typ : d.typ = typ
  new : window (session d.session s) d.seq = .accept
  room : d.full = false
  right : permitted d.session d.typ d.mailbox s = true
  mailbox : d.typ / 256 = d.mailbox

/-- The context in which a datagram's command is executed. -/
def Dgram.ctx (d : Dgram) : Ctx :=
  { slot := d.session, seq := d.seq, typ := d.typ, port := d.port, payload := d.payload }

/-- What binding the source and taking the acknowledgement of a message leave. -/
def greet (d : Dgram) (s : State) : State :=
  if bitAt d.flags 2 then takeAck d.session d.ack (bindEnd d s) else bindEnd d s

/-- The state in which a new message's command is executed. -/
def taken (d : Dgram) (s : State) : State :=
  setSession d.session (markReceived d.seq) (count (zcpRx d.port) d.session 1 (greet d s))

/-- The last completion record of a session says that the command of a sequence ended with a RESULT
(R487). -/
def lastReply (d : Dgram) (x : State) : Option CompRec := (session d.session x).comps.head?

/-- The datagram of a row that a host sends, with its instant. -/
def hostDgram : Instr → Option (Nat × Dgram)
  | .zcpSessionOpen t d => some (t, d)
  | .zcpSessionClose t d => some (t, d)
  | .zcpNop t d => some (t, d)
  | .zcpIdentity t d => some (t, d)
  | .zcpKeySet t d => some (t, d)
  | .zcpFuncReinit t d => some (t, d)
  | .zcpModuleReset t d _ => some (t, d)
  | .zcpTakeover t d => some (t, d)
  | .zcpParamGet t d => some (t, d)
  | .zcpParamSet t d => some (t, d)
  | .zcpPlanCheck t d => some (t, d)
  | .zcpPlanCommit t d _ => some (t, d)
  | .zcpPlanCancel t d => some (t, d)
  | .zcpCapacityRecord t d => some (t, d)
  | .zcpSnapshot t d _ => some (t, d)
  | .zcpTotalsReset t d _ _ => some (t, d)
  | .zcpWeirEpoch t d _ _ => some (t, d)
  | .zcpWeirEpochCancel t d _ => some (t, d)
  | .zcpTimeGet t d => some (t, d)
  | .zcpTimeSet t d _ => some (t, d)
  | .zcpTimeRealign t d _ => some (t, d)
  | .zcpRefSelect t d _ => some (t, d)
  | .zcpPtpSend t d _ _ _ => some (t, d)
  | .zcpPtpTxts t d _ _ _ _ => some (t, d)
  | .zcpTideOutArm t d _ => some (t, d)
  | .zcpTideOutStop t d _ => some (t, d)
  | .zcpMemRetrain t d _ => some (t, d)
  | .zcpMemSpeed t d _ _ => some (t, d)
  | .zcpMemClearRetired t d => some (t, d)
  | .zcpSluiceLoad t d => some (t, d)
  | .zcpSluiceStart t d _ => some (t, d)
  | .zcpSluiceStop t d _ => some (t, d)
  | .zcpSluiceStatus t d _ => some (t, d)
  | .zcpSluiceGainSolve t d _ _ _ => some (t, d)
  | .zcpFaultStatus t d => some (t, d)
  | .zcpBbRead t d _ _ => some (t, d)
  | .zcpBbFlush t r => some (t, r.cmd)
  | .zcpBbMark t d => some (t, d)
  | .zcpFaultInject t d _ => some (t, d)
  | .zcpMarginRun t d _ _ => some (t, d)
  | .zcpBulkOpen t d => some (t, d)
  | .zcpBulkData t d => some (t, d)
  | .zcpBulkClose t d _ => some (t, d)
  | .zcpBulkReread t d _ _ _ => some (t, d)
  | .zcpBulkStatus t d _ => some (t, d)
  | .zcpPeek t d => some (t, d)
  | .zcpPoke t d => some (t, d)
  | .zcpFwStatus t d => some (t, d)
  | .zcpFwInstall t d _ => some (t, d)
  | .zcpFwSetBoot t d _ => some (t, d)
  | .zcpFwAccept t d => some (t, d)
  | .zcpAck t d => some (t, d)
  | _ => none

/-- The TYPE of a host's command and, where its payload has one length, that length (R480); for the other
rows, none. -/
def hostType : Instr → Option (Nat × Nat)
  | .zcpSessionClose _ _ => some (0x0003, 0)
  | .zcpNop _ _ => some (0x0004, 0)
  | .zcpIdentity _ _ => some (0x0005, 0)
  | .zcpKeySet _ _ => some (0x0006, 36)
  | .zcpFuncReinit _ _ => some (0x0007, 4)
  | .zcpModuleReset _ _ _ => some (0x0008, 0)
  | .zcpTakeover _ _ => some (0x0009, 0)
  | .zcpPlanCheck _ _ => some (0x0202, 0)
  | .zcpPlanCommit _ _ _ => some (0x0203, Config.payloadLength 0x0203)
  | .zcpPlanCancel _ _ => some (0x0204, 0)
  | .zcpCapacityRecord _ _ => some (0x0205, 0)
  | .zcpSnapshot _ _ _ => some (0x0206, Config.payloadLength 0x0206)
  | .zcpTotalsReset _ _ _ _ => some (0x0207, Config.payloadLength 0x0207)
  | .zcpWeirEpoch _ _ _ _ => some (0x0302, Config.payloadLength 0x0302)
  | .zcpWeirEpochCancel _ _ _ => some (0x0303, Config.payloadLength 0x0303)
  | .zcpTimeGet _ _ => some (0x0602, 0)
  | .zcpTimeSet _ _ _ => some (0x0603, Config.payloadLength 0x0603)
  | .zcpTimeRealign _ _ _ => some (0x0604, Config.payloadLength 0x0604)
  | .zcpRefSelect _ _ _ => some (0x0605, Config.payloadLength 0x0605)
  | .zcpPtpSend _ _ _ _ _ => some (0x0606, Config.payloadLength 0x0606)
  | .zcpPtpTxts _ _ _ _ _ _ => some (0x0607, Config.payloadLength 0x0607)
  | .zcpTideOutArm _ _ _ => some (0x0608, Config.payloadLength 0x0608)
  | .zcpTideOutStop _ _ _ => some (0x0609, Config.payloadLength 0x0609)
  | .zcpMemRetrain _ _ _ => some (0x0702, Config.payloadLength 0x0702)
  | .zcpMemSpeed _ _ _ _ => some (0x0703, Config.payloadLength 0x0703)
  | .zcpMemClearRetired _ _ => some (0x0704, 0)
  | .zcpSluiceLoad _ _ => some (0x0802, 32)
  | .zcpSluiceStart _ _ _ => some (0x0803, Config.payloadLength 0x0803)
  | .zcpSluiceStop _ _ _ => some (0x0804, Config.payloadLength 0x0804)
  | .zcpSluiceStatus _ _ _ => some (0x0805, Config.payloadLength 0x0805)
  | .zcpSluiceGainSolve _ _ _ _ _ => some (0x0806, Config.payloadLength 0x0806)
  | .zcpFaultStatus _ _ => some (0x0902, 0)
  | .zcpBbRead _ _ _ _ => some (0x0903, Config.payloadLength 0x0903)
  | .zcpBbFlush _ _ => some (0x0904, 0)
  | .zcpBbMark _ _ => some (0x0905, 8)
  | .zcpFaultInject _ _ _ => some (0x0906, Config.payloadLength 0x0906)
  | .zcpMarginRun _ _ _ _ => some (0x0907, Config.payloadLength 0x0907)
  | .zcpBulkOpen _ _ => some (0x0A02, 32)
  | .zcpBulkClose _ _ _ => some (0x0A04, Config.payloadLength 0x0A04)
  | .zcpBulkReread _ _ _ _ _ => some (0x0A05, Config.payloadLength 0x0A05)
  | .zcpBulkStatus _ _ _ => some (0x0A06, Config.payloadLength 0x0A06)
  | .zcpPeek _ _ => some (0x0B02, 16)
  | .zcpFwStatus _ _ => some (0x0C02, 0)
  | .zcpFwInstall _ _ _ => some (0x0C03, Config.payloadLength 0x0C03)
  | .zcpFwSetBoot _ _ _ => some (0x0C04, Config.payloadLength 0x0C04)
  | .zcpFwAccept _ _ => some (0x0C05, 0)
  | _ => none

/-! ### Sluice instructions -/

/-- The class and OP of a row that is a sluice instruction (R322), with the core whose next bundle it is in
and what its SRAM read finds; for the other rows, none. -/
def sluiceInstr : Instr → Option ((Nat × Nat) × Fin 64 × Ecc)
  | .mpy n e => some ((1, 0), n, e)
  | .mac n e => some ((1, 1), n, e)
  | .msu n e => some ((1, 2), n, e)
  | .mpysu n e => some ((1, 3), n, e)
  | .macsu n e => some ((1, 4), n, e)
  | .add n e => some ((2, 0), n, e)
  | .sub n e => some ((2, 1), n, e)
  | .and n e => some ((2, 2), n, e)
  | .or n e => some ((2, 3), n, e)
  | .xor n e => some ((2, 4), n, e)
  | .shl n e => some ((2, 5), n, e)
  | .shra n e => some ((2, 6), n, e)
  | .shrl n e => some ((2, 7), n, e)
  | .abs n e => some ((2, 8), n, e)
  | .neg n e => some ((2, 9), n, e)
  | .min n e => some ((2, 10), n, e)
  | .max n e => some ((2, 11), n, e)
  | .mov n e => some ((2, 12), n, e)
  | .cmplt n e => some ((2, 13), n, e)
  | .cmpeq n e => some ((2, 14), n, e)
  | .adda n e => some ((3, 0), n, e)
  | .suba n e => some ((3, 1), n, e)
  | .shla n e => some ((3, 2), n, e)
  | .shraAcc n e => some ((3, 3), n, e)
  | .clra n e => some ((3, 4), n, e)
  | .ext n e => some ((3, 5), n, e)
  | .mova n e => some ((3, 6), n, e)
  | .insa n e => some ((3, 7), n, e)
  | .nop n e => some ((0, 0), n, e)
  | .br n e => some ((0, 1), n, e)
  | .call n e => some ((0, 2), n, e)
  | .ret n e => some ((0, 3), n, e)
  | .loop n e => some ((0, 4), n, e)
  | .reti n e => some ((0, 5), n, e)
  | .wait n e => some ((0, 6), n, e)
  | .halt n e => some ((0, 7), n, e)
  | .ei n e => some ((0, 8), n, e)
  | .di n e => some ((0, 9), n, e)
  | .addpi n e => some ((6, 0), n, e)
  | .addpp n e => some ((6, 1), n, e)
  | .subpp n e => some ((6, 2), n, e)
  | .movpi n e => some ((6, 3), n, e)
  | .movpp n e => some ((6, 4), n, e)
  | .movdp n e => some ((7, 0), n, e)
  | .movpd n e => some ((7, 1), n, e)
  | .movdc n e => some ((7, 2), n, e)
  | .movcd n e => some ((7, 3), n, e)
  | .movad n e => some ((7, 4), n, e)
  | .movgd n e => some ((7, 5), n, e)
  | .movi32 n e => some ((15, 0), n, e)
  | .movip n e => some ((15, 1), n, e)
  | .movicr n e => some ((15, 2), n, e)
  | .jmp n e => some ((15, 3), n, e)
  | .load n e => some ((4, 0), n, e)
  | .store n e => some ((5, 0), n, e)
  | .ftap n e => some ((8, 0), n, e)
  | .imm n e => some ((9, 0), n, e)
  | _ => none

/-! ### What a command does -/

/-- A command leads to a next state, which is the state `y` but for reports. -/
def Does (i : Instr) (s y : State) : Prop := ∃ x, exec i s = .next x ∧ ReportEq x y

/-- A command leads to a next state with a property. -/
def Leads (i : Instr) (s : State) (p : State → Prop) : Prop := ∃ x, exec i s = .next x ∧ p x

/-- A host's command is answered with a RESULT, and the module is the state `y` but for sessions and
reports. -/
def Answers (i : Instr) (d : Dgram) (code : Nat) (s y : State) : Prop :=
  ∃ x, exec i s = .next x ∧ lastReply d x = some ⟨d.seq, d.typ, code⟩ ∧ restZ x = restZ y

/-- No counter is about to stop at all ones, so that a command's own counting makes no report due (R21). -/
def Unsaturated (s : State) : Prop := s.satDue = [] ∧ ∀ c i, ctrGet c i s + 2 ^ 20 < ctrMax

/-- An event that is counted while a condition holds. -/
def noteIf (c : Bool) (e : Ev) (s : State) : State := if c then noteEvent e s else s

end Sys2Proof.Machine
end

