-- ==== Sys2Proof/Certificates/Slice0/Obligations.lean ====
section
/-! DEFINITION. The statements for the provers: what the rules of the spec say of each command, of the units
and of the module as a whole. Times are those of `advance t s`, the state with its clock at the command. -/

open Sys2Proof Sys2Proof.Machine

/-- R472, R576: what a datagram that fails a check leaves, for every row that a host sends. -/
def Obligations.ForgedDatagramIsOnlyCounted : Prop :=
  ∀ i t d s, hostDgram i = some (t, d) →
    let x := advance t s
    let port := hostInst d.port
    (hostUp d.port x = false → Does i s x) ∧
    (hostUp d.port x = true → x.boot.stage ≠ .ready → Does i s (count .zcpDiscSession port 1 x)) ∧
    (hostUp d.port x = true → x.boot.stage = .ready →
      (∀ c, earlyChecks d x = some c → Does i s (count c port 1 x)) ∧
      (earlyChecks d x = none → tagGood d x = false →
        Does i s (fired .zcpAuth (count .zcpAuthFail port 1
          { x with zcp := { x.zcp with authFail := some (d.session, port, d.src) } }))) ∧
      (earlyChecks d x = none → tagGood d x = true → d.flags % 64 ∉ [0, 4, 8, 12] →
        Does i s (count .zcpDiscFormat port 1 x)))

/-- R485, R487, R483: what the sequence window turns away is not executed. -/
def Obligations.RefusedSequenceRunsNothing : Prop :=
  ∀ i t d s, hostDgram i = some (t, d) →
    let x := advance t s
    Sequenced d x →
    (window (session d.session x) d.seq = .beyond ∨
      (window (session d.session x) d.seq = .dup ∧ d.seq ∉ (session d.session x).inDoubt) ∨
      (window (session d.session x) d.seq = .accept ∧ d.full = true)) →
    Leads i s fun z => restZ z = restZ x ∧
      ∀ k, (session k z).comps = (session k x).comps ∧ (session k z).recv = (session k x).recv

/-- R474, R480: refusals that come before a command's own conditions. -/
def Obligations.CommandWithoutRightOrLength : Prop :=
  ∀ i t d s typ size, hostDgram i = some (t, d) → hostType i = some (typ, size) →
    let x := advance t s
    (Sequenced d x → window (session d.session x) d.seq = .accept → d.full = false →
      permitted d.session d.typ d.mailbox x = false → d.typ ≠ 0x0A03 → Answers i d rNotPermitted s x) ∧
    (Accepted typ d x → d.payload.length ≠ size → Answers i d rBadLength s x)

/-- R475, R476, R478: opening and closing a session. -/
def Obligations.SessionsOpenAndClose : Prop :=
  let closed : Nat → State → Prop := fun k z =>
    (session k z).isOpen = false ∧ (session k z).key = [] ∧ (session k z).comps = [] ∧ (session k z).replies = [] ∧
    (session k z).unsol = [] ∧ (∀ w ∈ z.zcp.waiting, w.slot ≠ k) ∧
    (∀ b ∈ z.zcp.bulks, b.slot ≠ k)
  (∀ t d s, let x := advance t s
    let ss := session d.session x
    let nh := slice d.payload 0 16
    Authentic d x → d.isOpen = true →
    (d.payload.length = 20 → beAt d.payload 16 1 ≤ 2 → beAt d.payload 17 3 = 0 → nh ∉ ss.nonces →
      (ss.opens.filter fun y => decide (x.time.now < y + secT 1)).length < 10 →
      Leads (.zcpSessionOpen t d) s fun z =>
        lastReply d z = some ⟨d.seq, d.typ, rOk⟩ ∧ (session d.session z).isOpen = true ∧
        (session d.session z).key =
          sessionKey (ss.longKey.getD []) nh (natBE 16 (Config.nonce x.zcp.draws)) d.session ∧
        (session d.session z).recv = d.seq ∧ (session d.session z).ahead = [] ∧
        (session d.session z).ports = beAt d.payload 16 1 ∧
        (session d.session z).ends = (RegFile.replicate 2 none).set d.port (some d.src) ∧
        z.zcp.draws = x.zcp.draws + 1 ∧ z.force = x.force ∧ z.boot = x.boot ∧ z.power = x.power ∧ z.mem = x.mem) ∧
    (nh ∈ ss.nonces ∨ 10 ≤ (ss.opens.filter fun y => decide (x.time.now < y + secT 1)).length →
      Does (.zcpSessionOpen t d) s x)) ∧
  (∀ t d s, let x := advance t s
    Accepted 0x0003 d x → d.payload.length = 0 → (session d.session x).isOpen = true →
    Leads (.zcpSessionClose t d) s fun z => closed d.session z ∧ z.force = x.force ∧ z.boot = x.boot ∧
      z.power = x.power ∧ z.mem = x.mem) ∧
  (∀ t d s, let x := advance t s
    let k := beAt d.payload 0 1
    Accepted 0x0006 d x → d.payload.length = 36 → k ≤ 3 → beAt d.payload 1 3 = 0 →
    Leads (.zcpKeySet t d) s fun z =>
      (session k z).longKey = some (List.zipWith (fun a b => a ^^^ b) (slice d.payload 4 32)
        (hmac (session d.session x).key ([0x4B, 0x45, 0x59] ++ natBE 4 d.seq))) ∧
      (session k z).isOpen = false ∧ ((session k x).isOpen = true → closed k z) ∧ z.force = x.force ∧ z.boot = x.boot ∧ z.power = x.power ∧ z.mem = x.mem) ∧
  (∀ t (k : Fin 4) s, let x := advance t s
    (session k x).isOpen = true → (session k x).lastAt + nsT (par0 .zcpIdleTimeout x) ≤ x.time.now →
    Leads (.sessionIdleTimeout t k) s fun z => closed k z ∧ z.force = x.force ∧ z.boot = x.boot ∧
      z.power = x.power ∧ z.mem = x.mem) ∧
  (∀ t (k : Fin 4) s, let x := advance t s
    x.time.now < (session k x).lastAt + nsT (par0 .zcpIdleTimeout x) → Does (.sessionIdleTimeout t k) s x)

/-- R481, R362, R550, R585: the commands that only ask. -/
def Obligations.QuestionsAreAnsweredAndChangeNothing : Prop :=
  (∀ t d s, let x := advance t s
    d.payload.length = 0 →
    (Accepted 0x0004 d x → Answers (.zcpNop t d) d rOk s x) ∧
    (Accepted 0x0005 d x → Answers (.zcpIdentity t d) d rOk s x) ∧
    (Accepted 0x0602 d x → Answers (.zcpTimeGet t d) d rOk s x) ∧
    (Accepted 0x0902 d x → Answers (.zcpFaultStatus t d) d rOk s x) ∧
    (Accepted 0x0C02 d x → Answers (.zcpFwStatus t d) d rOk s x)) ∧
  (∀ c x, (timeGet c x).reply = some (rOk, Config.replyBody 0x0602 [tide96 x.time.tide, timingWord x]) ∧
    (faultStatus c x).reply = some (rOk, Config.replyBody 0x0902
      ([x.fault.sticky.toNat] ++ (List.range 4).map (classStatus · x) ++ [x.fault.bootCount])))

/-- R489, R490: acknowledging, repeating and ageing out. -/
def Obligations.UnsolicitedMessagesAreAcknowledgedRepeatedAndAged : Prop :=
  (∀ t d s, let x := advance t s
    let ss := session d.session x
    Authentic d x → d.typ = 0x0F00 → d.mailbox = 15 → bitAt d.flags 2 = true → seqLater 32 d.ack ss.ackPoint = true →
    (seqLater 32 d.ack (lastSent ss) = false →
      Leads (.zcpAck t d) s fun z => (session d.session z).ackPoint = d.ack ∧ restZ z = restZ x) ∧
    (seqLater 32 d.ack (lastSent ss) = true →
      Leads (.zcpAck t d) s fun z => (session d.session z).ackPoint = ss.ackPoint ∧ restZ z = restZ x ∧
        ctrGet .zcpAckBad d.session z = min ctrMax (ctrGet .zcpAckBad d.session x + 1))) ∧
  (∀ ss : Session, let raised := (ss.nextUnsol + 2 ^ 32 - 1) % 2 ^ 32
    (seqAhead ss.ackPoint raised ≤ 256 → lastSent ss = raised) ∧
    (256 < seqAhead ss.ackPoint raised → lastSent ss = (ss.ackPoint + 256) % 2 ^ 32)) ∧
  (∀ t (k : Fin 4) seq u at_ s, let x := advance t s
    Unsaturated x → unsolOf k seq x = some u → u.sentAt = some at_ → (session k x).isOpen = true →
    at_ + u.wait ≤ x.time.now →
    let again : Unsol := { u with sentAt := some x.time.now, wait := min (secT 1) (2 * u.wait) }
    let y := setSession k (fun v => { v with unsol := v.unsol.map fun w => if w.seq = seq then again else w }) x
    exec (.zcpUnsolRetransmit t k seq) s =
      .next (count .zcpUnsolRetx k 1 (zcpSend k (zcpBytes k u.typ seq 2 u.body y) y))) ∧
  (∀ t (k : Fin 4) seq u s, let x := advance t s
    Unsaturated x → unsolOf k seq x = some u → u.raisedAt + nsT (par0 .zcpUnsolAge x) ≤ x.time.now →
    exec (.zcpUnsolAgeOut t k seq) s = .next (count .zcpUnsolAged k 1
      (setSession k (fun v => { v with unsol := v.unsol.filter fun w => w.seq != seq }) x)))

/-- R501 to R504: the active core and its standby. -/
def Obligations.CoresAndTakeover : Prop :=
  let yielded : State → State → Prop := fun x z =>
    z.zcp.activeCore = 1 - x.zcp.activeCore ∧ z.zcp.standbyOk = false ∧ z.zcp.standbyBeat = false ∧
    z.zcp.waiting = [] ∧ (∀ b ∈ z.zcp.bulks, b.live = false) ∧ z.boot.lastReset = 4 ∧ z.boot.stage = x.boot.stage ∧
    z.power = x.power ∧ z.data = x.data ∧ z.fault.sticky.getLsbD Fs.mgmtTakeover.num = true
  (∀ t s, let x := advance t s
    coresRun x = true → Does (.heartbeat t) s
      { x with zcp := { x.zcp with heartbeatAt := x.time.now, heartbeats := x.zcp.heartbeats + 1 } }) ∧
  (∀ t s, let x := advance t s
    coresRun x = true → x.zcp.standbyOk = true →
    Does (.mirrorConfirmTimeout t) s (noteEvent .mgmtStandby (fired .mgmtStandby
      (count .mgmtMirrorTimeouts 0 1 { x with zcp := { x.zcp with standbyOk := false } })))) ∧
  (∀ t s, let x := advance t s
    coresRun x = true → x.zcp.standbyOk = true → x.zcp.standbyBeat = true →
    Does (.standbyHeartbeatFail t) s (noteEvent .mgmtStandby (fired .mgmtStandby
      { x with zcp := { x.zcp with standbyOk := false, standbyBeat := false } }))) ∧
  (∀ t s, let x := advance t s
    coresRun x = true → x.zcp.standbyOk = false → (∀ w ∈ x.zcp.waiting, w.why = 7 → w.unit ≠ 80) →
    Does (.standbyResyncDone t) s (noteEvent .mgmtStandby { x with
      zcp := { x.zcp with standbyOk := true, standbyBeat := true }
      power := { x.power with reinit := x.power.reinit.filter fun r => r.1 != 0xB } })) ∧
  (∀ t c held s, let x := advance t s
    coresRun x = true → x.zcp.standbyOk = true → takeoverDue c x = true →
    Leads (.heartbeatMissTakeover t c held) s (yielded x)) ∧
  (∀ t d s, let x := advance t s
    Accepted 0x0009 d x → d.payload.length = 0 →
    (x.zcp.standbyOk = true → Leads (.zcpTakeover t d) s (yielded x)) ∧
    (x.zcp.standbyOk = false → Answers (.zcpTakeover t d) d rRefused s x)) ∧
  (∀ t s, let x := advance t s
    coresRun x = true → x.zcp.standbyBeat = false → x.zcp.heartbeatAt + msT 100 ≤ x.time.now →
    Leads (.mgmtWatchdogExpiry t) s fun z => z.power.readyPin = false ∧ (episode 3 z).state = .held ∧
      z.fault.sticky.getLsbD Fs.mgmtBoth.num = true ∧ z.boot = x.boot)

/-- R566, R567, R568: POWER_EN_RISE, FEED_QUALIFIED and the loss of one of two GOOD feeds. That a rise within
500 ms of the fall shows its level only is the model's reading (DEDUCED, log entry 40). -/
def Obligations.PowerStageStartsAndFeeds : Prop :=
  (∀ t s, let x := advance t s
    x.power.powerEn = false → x.power.stageOn = false →
    (∀ t0, x.power.powerEnFell = some t0 → t0 + msT 500 ≤ x.time.now) →
    Does (.powerEnRise t) s { x with power := { x.power with
      powerEn := true, stageOn := feedGood x, startWaiting := !feedGood x } }) ∧
  (∀ t t0 s, let x := advance t s
    x.power.powerEn = false → x.power.stageOn = false →
    x.power.powerEnFell = some t0 → x.time.now < t0 + msT 500 →
    Does (.powerEnRise t) s { x with power := { x.power with powerEn := true, startWaiting := false } }) ∧
  (∀ t (k : Fin 2) volt s, let x := advance t s
    (feed k x).state ≠ .good → 3850 ≤ volt → volt ≤ 6100 →
    Does (.feedQualified t k volt) s (noteIf (logicRuns x) .feed { x with power := { x.power with
      feeds := x.power.feeds.set k { feed k x with volt := volt, state := .good, carrying := true }
      holdUpSince := none
      stageOn := x.power.stageOn || x.power.startWaiting
      startWaiting := false } })) ∧
  (∀ t (which : Fin 3) kind volt s, let x := advance t s
    which.val < 2 → (feed which.val x).state = .good → (feed (1 - which.val) x).state = .good →
    let y : State := { x with power := { x.power with
      feeds := x.power.feeds.set which.val ⟨volt, 0, kind.feedState, false⟩ } }
    Does (.feedLoss t which kind volt) s
      (if logicRuns x then fired .feedLoss (noteEvent .feed y) else y))

/-- R566, R567, R580, R590: what the three ways to lose the running state keep. -/
def Obligations.PowerLossKeepsOnlyFlash : Prop :=
  let kept : Bool → State → State → Prop := fun ring x z =>
    z.boot.stage = .power ∧ (∀ pd < 40, domain pd z = .off) ∧ z.power.readyPin = false ∧
    (∀ k < 4, (session k z).isOpen = false ∧ (session k z).longKey = (session k x).longKey) ∧
    z.pending = x.pending ∧ z.boot.images = x.boot.images ∧ z.boot.floor = x.boot.floor ∧
    z.mem.retiredFlash = x.mem.retiredFlash ∧ z.data.ringsRetired = x.data.ringsRetired ∧
    z.fault.bootCount = x.fault.bootCount ∧ z.fault.flushes = x.fault.flushes ∧
    z.fault.ring = (if ring then x.fault.ring else []) ∧ z.fault.sticky = 0 ∧ z.time.tide = 0 ∧
    z.boot.lastReset = (if ring then 1 else 0) ∧ z.mem.cells = [] ∧ z.plan.running = none ∧
    (∀ (i : Item) inst elem, inst < 4096 → elem < 65536 → i.desc.apply ≠ 3 → i ≠ .zcpRights →
      par i inst elem z = i.resetAt inst)
  (∀ t s, let x := advance t s
    x.power.powerEn = true → x.power.stageOn = true →
    Leads (.powerEnFall t) s fun z => kept false x z ∧ z.power.stageOn = false ∧ z.power.powerEn = false ∧
      z.power.powerEnFell = some x.time.now ∧ z.power.startWaiting = false ∧ z.power.feeds = x.power.feeds) ∧
  (∀ t s, let x := advance t s
    x.power.powerEn = true → x.power.stageOn = false →
    Does (.powerEnFall t) s { x with power := { x.power with
      powerEn := false, startWaiting := false, powerEnFell := some x.time.now } }) ∧
  (∀ t t0 s, let x := advance t s
    feedGood x = false → x.power.holdUpSince = some t0 → t0 + msT 25 ≤ x.time.now →
    Leads (.holdUpExhausted t) s fun z => kept false x z ∧ z.power.stageOn = false ∧
      z.power.holdUpSince = none ∧ z.power.startWaiting = x.power.powerEn ∧ z.power.powerEn = x.power.powerEn) ∧
  (∀ t s, let x := advance t s
    x.power.stageOn = true → logicRuns x = true →
    Leads (.resetNAssert t) s fun z => kept true x z ∧ z.power.stageOn = true ∧ z.power.resetN = false ∧
      z.power.feeds = x.power.feeds) ∧
  (∀ t s, let x := advance t s
    x.power.stageOn = false ∨ logicRuns x = false →
    Does (.resetNAssert t) s { x with power := { x.power with resetN := false } })

/-- R532: a module-stop source switches every domain off, releases READY, holds its episode and freezes the
black box. -/
def Obligations.ModuleStopReleasesReady : Prop :=
  let halted : Fs → State → State → Prop := fun f x z =>
    (∀ pd < 40, domain pd z ≠ .on ∧ domain pd z ≠ .waking) ∧ z.power.readyPin = false ∧
    (episode 3 z).state = .held ∧ z.fault.frozen = true ∧ z.fault.sticky.getLsbD f.num = true ∧
    z.boot = x.boot ∧ z.mem = x.mem ∧ z.time = x.time
  (∀ t (which : Fin 3) kind volt s, let x := advance t s
    logicRuns x = true → x.power.stageOn = true →
    (∀ k < 2, (feed k x).state = .good → k = which.val ∨ which.val = 2) → feedGood x = true →
    Leads (.feedLoss t which kind volt) s fun z => halted .feedBoth x z ∧ z.power.holdUpSince = some x.time.now ∧
      feedGood z = false) ∧
  (∀ t s, let x := advance t s
    logicRuns x = true → Leads (.powerStageReportTimeout t) s (halted .powerStage x)) ∧
  (∀ t kind s, let x := advance t s
    logicRuns x = true → Leads (.powerStageFaultReport t kind) s (halted .powerStage x)) ∧
  (∀ t (d : Fin 5) temp s, let x := advance t s
    logicRuns x = true → 0x42E60000 < temp → temp < 0x7F800000 →
    Leads (.tempThreshold t d true temp) s fun z => halted .tempCrit x z ∧ z.power.temps.getD d 0 = temp) ∧
  (∀ t (d : Fin 5) temp s, let x := advance t s
    logicRuns x = true → 0x42C80000 < temp → temp < 0x7F800000 →
    Does (.tempThreshold t d false temp) s (fired .tempWarn { x with power := { x.power with
      temps := x.power.temps.set d temp } }))

/-- R569, R571: domains. -/
def Obligations.DomainsTripAndWake : Prop :=
  (∀ t (pd : Fin 40) s, let x := advance t s
    domain pd x = .on ∨ domain pd x = .waking →
    Leads (.domainTrip t pd) s fun z => domain pd z = .tripped ∧
      z.fault.sticky.getLsbD Fs.domain.num = true ∧
      (∀ q < 40, q ≠ pd.val → domain q z = domain q x ∨ domain q z = .off) ∧
      z.boot = x.boot ∧ z.mem = x.mem ∧ z.force = x.force ∧ z.time.tide = x.time.tide ∧
      (pd.val = 38 → z.power.pd38Trips = x.power.pd38Trips + 1)) ∧
  (∀ t (pd : Fin 40) s, let x := advance t s
    domain pd x = .off ∨ domain pd x = .tripped → Does (.domainTrip t pd) s x) ∧
  (∀ t t0 s, let x := advance t s
    x.power.pd38TripAt = some t0 → t0 + secT 1 ≤ x.time.now → domain 38 x = .tripped →
    Does (.pd38Retry t) s { x with power := { x.power with
      domains := x.power.domains.set 38 .waking, pd38TripAt := none } }) ∧
  (∀ t (pd : Fin 40) s, let x := advance t s
    domain pd x = .waking → x.power.reinit = none → (pd.val = 33 → x.sluice.solveHold = false) →
    Leads (.domainWakeDone t pd) s fun z => domain pd z = .on ∧
      (∀ q < 40, q ≠ pd.val → domain q z = domain q x) ∧ z.boot = x.boot ∧ z.mem = x.mem ∧ z.force = x.force ∧
      (∀ p, pd.val < 24 → p < 168 → p / 7 = pd.val → (polder p x).role = 0 → (polder p x).gone = false →
        (polder p z).powered = true)) ∧
  (∀ t (pd : Fin 40) s, let x := advance t s
    domain pd x ≠ .waking → Does (.domainWakeDone t pd) s x) ∧
  (∀ t (k : Fin 8) temp s, let x := advance t s
    (stack k x).fitted = true →
    let y := setStack k { stack k x with temp := temp } x
    Does (.dramStackTemp t k temp) s
      (if 95 < temp ∧ (stack k x).temp ≤ 95 then fired .dramTemp y else y))

/-- R575, R577: the power-on boot. -/
def Obligations.BootReachesReadyOrFails : Prop :=
  (∀ t b s, let x := advance t s
    x.power.stageOn = true → x.boot.stage = .power → (b.core0 = true ∨ b.core1 = true) →
    (x.boot.variant = 1 ∨ x.boot.variant = 2) → x.boot.preferred < 2 → imageValid x.boot.preferred x = true →
    b.imageReady x.boot.preferred = true → b.stageFails = false →
    (∃ c < 128, stackFitted (c / 16) x = true ∧ c ∉ x.mem.retiredFlash ∧ c ∉ b.badChannels) →
    Leads (.resetNDeassert t b) s fun z => z.boot.stage = .ready ∧ z.power.readyPin = true ∧
      z.power.resetN = true ∧ z.boot.bootMs = b.ms % 2 ^ 32 ∧ z.boot.lastReset = x.boot.lastReset ∧
      z.boot.running = x.boot.preferred ∧ z.boot.preferred = x.boot.preferred ∧ z.boot.fallback = false ∧
      z.fault.bootCount = (x.fault.bootCount + 1) % 2 ^ 32 ∧ domain 39 z = .on) ∧
  (∀ t b s, let x := advance t s
    x.power.stageOn = true → x.boot.stage = .power → b.core0 = false → b.core1 = false →
    Leads (.resetNDeassert t b) s fun z => z.boot.stage = .failed ∧ z.power.readyPin = false ∧
      z.power.resetN = true ∧ z.fault.bootCount = (x.fault.bootCount + 1) % 2 ^ 32) ∧
  (∀ t b s, let x := advance t s
    x.power.stageOn = false ∨ x.boot.stage ≠ .power →
    Does (.resetNDeassert t b) s { x with power := { x.power with resetN := true } }) ∧
  (∀ t b s, let x := advance t s
    x.time.now < x.boot.imageAt + secT 10 → Does (.imageReadyTimeout t b) s x) ∧
  (∀ t b s, let x := advance t s
    x.boot.stage = .image → x.boot.fallback = false → x.boot.imageAt + secT 10 ≤ x.time.now →
    (imageValid (1 - x.boot.preferred) x = false →
      Does (.imageReadyTimeout t b) s (bootFails (noteImages x))) ∧
    (imageValid (1 - x.boot.preferred) x = true → b.core0 = false → b.core1 = false →
      Leads (.imageReadyTimeout t b) s fun z => z.boot.stage = .failed ∧ z.boot.lastReset = 5 ∧
        z.boot.preferred = (trialReset x.boot).preferred ∧
        z.fault.bootCount = (x.fault.bootCount + 1) % 2 ^ 32) ∧
    (imageValid (1 - x.boot.preferred) x = true → (b.core0 = true ∨ b.core1 = true) →
      (x.boot.variant = 1 ∨ x.boot.variant = 2) → b.imageReady (1 - x.boot.preferred) = true → b.stageFails = false →
      (∃ c < 128, stackFitted (c / 16) x = true ∧ c ∉ x.mem.retiredFlash ∧ c ∉ b.badChannels) →
      Leads (.imageReadyTimeout t b) s fun z => z.boot.stage = .ready ∧ z.boot.lastReset = 5 ∧
        z.boot.running = 1 - x.boot.preferred ∧ z.boot.fallback = true ∧ z.power.readyPin = true)) ∧
  (∀ t b s, let x := advance t s
    x.boot.stage = .ready → x.boot.trial = true → x.time.now < x.boot.readyAt + secT 600 →
    Does (.fwTrialExpiry t b) s x)

/-- R581, R587: the warm reset. -/
def Obligations.WarmResetKeepsTimeAndStandby : Prop :=
  let warm : State → State → Prop := fun x z =>
    z.boot.stage = .ready ∧ z.power.readyPin = true ∧ z.boot.lastReset = 2 ∧ z.plan.running = none ∧
    z.plan.next = none ∧ z.zcp.bulks = [] ∧ z.zcp.waiting = [] ∧ (∀ k < 4, (session k z).isOpen = false) ∧
    (∀ k < 4, (session k z).longKey = (session k x).longKey) ∧ (∀ pd < 34, domain pd z = .off) ∧
    domain 39 z = .on ∧ z.fault.bootCount = x.fault.bootCount ∧ z.boot.images = x.boot.images ∧
    z.mem.retiredFlash = x.mem.retiredFlash ∧ z.data.ringsRetired = x.data.ringsRetired ∧ z.fault.stopped = [] ∧
    z.time.origin = x.time.origin ∧ z.time.selected = x.time.selected
  (∀ t d b s, let x := advance t s
    Accepted 0x0008 d x → d.payload.length = 0 → (b.core0 = true ∨ b.core1 = true) → b.stageFails = false →
    (x.boot.variant = 1 ∨ x.boot.variant = 2) → x.boot.trial = false → x.boot.preferred < 2 →
    imageValid x.boot.preferred x = true → b.imageReady x.boot.preferred = true → pd38Gone x = false →
    Leads (.zcpModuleReset t d b) s fun z => warm x z ∧ z.zcp.standbyOk = (b.core0 && b.core1) ∧ z.boot.preferred = x.boot.preferred ∧
      z.boot.running = x.boot.preferred) ∧
  (∀ t b s, let x := advance t s
    x.boot.stage = .ready → x.boot.trial = true → x.boot.readyAt + secT 600 ≤ x.time.now →
    x.boot.running < 2 → (b.core0 = true ∨ b.core1 = true) → b.stageFails = false →
    (x.boot.variant = 1 ∨ x.boot.variant = 2) → imageValid (1 - x.boot.running) x = true →
    b.imageReady (1 - x.boot.running) = true → pd38Gone x = false →
    Leads (.fwTrialExpiry t b) s fun z => warm x z ∧ z.zcp.standbyOk = (b.core0 && b.core1) ∧ z.boot.trial = false ∧
      z.boot.preferred = 1 - x.boot.running ∧ z.boot.running = 1 - x.boot.running)

/-- R585, R586, R587: firmware commands. -/
def Obligations.FirmwareInstallAndAccept : Prop :=
  (∀ t d slot s, let x := advance t s
    Accepted 0x0C03 d x → d.payload.length = Config.payloadLength 0x0C03 →
    (∀ i, slot ≤ 1 → slot ≠ x.boot.running → stagedImage x = some i →
      Answers (.zcpFwInstall t d ⟨slot, true⟩) d rOk s
        { x with boot := { x.boot with
          images := x.boot.images.set slot (some i)
          aValid := if slot = 0 then true else x.boot.aValid
          bValid := if slot = 1 then true else x.boot.bValid } } ∧
      Leads (.zcpFwInstall t d ⟨slot, false⟩) s fun z => lastReply d z = some ⟨d.seq, d.typ, rRefused⟩ ∧
        z.boot.images = x.boot.images.set slot (some { i with sound := false }) ∧
        z.fault.sticky.getLsbD Fs.flash.num = true) ∧
    (∀ flash, slot ≤ 1 → slot ≠ x.boot.running → stagedImage x = none →
      Answers (.zcpFwInstall t d ⟨slot, flash⟩) d rRefused s x) ∧
    (∀ flash, slot ≤ 1 → slot = x.boot.running → Answers (.zcpFwInstall t d ⟨slot, flash⟩) d rBusy s x) ∧
    (∀ flash, 1 < slot → Answers (.zcpFwInstall t d ⟨slot, flash⟩) d rBadValue s x)) ∧
  (∀ t d image s, let x := advance t s
    Accepted 0x0C04 d x → d.payload.length = Config.payloadLength 0x0C04 →
    (image ≤ 1 → Answers (.zcpFwSetBoot t d image) d rOk s { x with boot := { x.boot with
      preferred := image, trialFlag := image != x.boot.running } }) ∧
    (1 < image → Answers (.zcpFwSetBoot t d image) d rBadValue s x)) ∧
  (∀ t d s, let x := advance t s
    Accepted 0x0C05 d x → d.payload.length = 0 →
    Answers (.zcpFwAccept t d) d rOk s
      (if x.boot.trial then { x with boot := { x.boot with
        trial := false
        trialFlag := false
        floor := match x.boot.images.getD x.boot.running none with
          | some i => max x.boot.floor i.security
          | none => x.boot.floor } } else x))

/-- R61, R86: the order of the checks, and what a discarded frame leaves. -/
def Obligations.FramesFailTheFirstCheckOnly : Prop :=
  ∀ t (port : Fin 128) f s, let x := advance t s
    let y := received port f x
    (ingressUp port x = false → Does (.fFrameReceive t port f) s x) ∧
    (ingressUp port x = true →
      (f.fcsOk = false ∨ 9212 < f.bytes.length → Does (.fFrameReceive t port f) s (discard port .fcsErr y)) ∧
      (f.fcsOk = true → f.bytes.length ≤ 9212 →
        (addressed port f.bytes x = false → Does (.fFrameReceive t port f) s (discard port .discAddr y)) ∧
        (addressed port f.bytes x = true → isFlowControl f.bytes = true →
          Does (.fFrameReceive t port f) s (discard port .discFlowctl y)) ∧
        (addressed port f.bytes x = true → isFlowControl f.bytes = false →
          (fframe f.bytes x = none → handledElsewhere port f.bytes x = false →
            Does (.fFrameReceive t port f) s (discard port .discNotFframe y)) ∧
          (∀ ff c, fframe f.bytes x = some ff → frameChecks ff x = some c →
            Does (.fFrameReceive t port f) s (discard port c y)))))

/-- R70, R72, R76: admission to a culvert slot. -/
def Obligations.AcceptedFramesEnterTheirSlot : Prop :=
  (∀ t (port : Fin 128) f s ff p, let x := advance t s
    let y := received port f x
    let b := p.block (ff.sc / p.t) ((p.pos ff.chan).getD 0)
    let d := b % 4
    ingressUp port x = true → ingressChecks port f x = (none, some ff) → planAt ff.sc x = some p →
    p.timeOrdered = false →
    ((die d x).stopped = true → Does (.fFrameReceive t port f) s (count .noslotFrames d 1 y)) ∧
    ((die d x).stopped = false → p.epoch = (die d x).epoch → b < (die d x).released →
      Does (.fFrameReceive t port f) s (count .lateFrames d 1 y)) ∧
    (∀ i, (die d x).stopped = false → p.epoch = (die d x).epoch → (die d x).released ≤ b →
      (die d x).ahead.contains b = false → (die d x).find p.epoch b = some i → ((die d x).slot i).state = .open →
      Does (.fFrameReceive t port f) s
        (if ff.flagged then accepted port f ff y
         else closeIfFull d i p ((frameSubs p ff).foldl
           (fun w q => writeSub p d i (q.1 * p.s + q.2.1) q.2.2 w) (accepted port f ff y)))) ∧
    (∀ i l, (die d x).stopped = false → p.epoch = (die d x).epoch → (die d x).released ≤ b →
      (die d x).ahead.contains b = false → (die d x).find p.epoch b = none → toOpen p (die d x) b = some l →
      let opened := openAll p x.time.now (die d x) l
      opened.find p.epoch b = some i →
      let w := accepted port f ff (setDie d opened y)
      Does (.fFrameReceive t port f) s
        (if ff.flagged then w
         else closeIfFull d i p ((frameSubs p ff).foldl
           (fun w q => writeSub p d i (q.1 * p.s + q.2.1) q.2.2 w) w)))) ∧
  (∀ p d i key bytes x, d < 4 → i < (die d x).slots.length →
    (∀ old, sFind ((die d x).slot i).subs key = some old → writeSub p d i key bytes x = count .dupSubblocks d 1 x) ∧
    (sFind ((die d x).slot i).subs key = none →
      let z := writeSub p d i key bytes x
      sFind ((die d z).slot i).subs key = some bytes ∧
      (∀ k, k ≠ key → sFind ((die d z).slot i).subs k = sFind ((die d x).slot i).subs k) ∧
      (∀ j, j ≠ i → (die d z).slot j = (die d x).slot j) ∧
      (∀ e, e ≠ d → die e z = die e x) ∧ z.ctr = x.ctr ∧
      (p.sources.contains ((die d x).slot i).chan = false → z.mem = x.mem)))

/-- R51: what an ingress port answers, hands on and discards. -/
def Obligations.AddressResolutionAnswersConfiguredAddresses : Prop :=
  let frames : State → List Sent := fun z => z.sent.filter fun w => match w with
    | .eth _ _ => true
    | _ => false
  let silent : Instr → State → State → State → Prop := fun i s x y =>
    Leads i s fun z => ReportEq z y ∧ frames z = frames x
  (∀ t (port : Fin 128) f s a, let x := advance t s
    let y := received port f x
    ingressUp port x = true → f.fcsOk = true → f.bytes.length ≤ 9212 → addressed port f.bytes x = true →
    isFlowControl f.bytes = false → fframe f.bytes x = none →
    (arpTarget f.bytes = some a → a ≠ 0 → a = par .ingressIp4 port 0 x % 2 ^ 32 →
      Leads (.arpRequest t port f) s fun z => ReportEq z y ∧
        frames z = .eth port (arpReply f.bytes (par .ingressMac port 0 x)) :: frames x) ∧
    (nsTarget f.bytes = some a → a ≠ 0 → a = par .ingressIp6 port 0 x →
      Leads (.neighbourSolicitation t port f) s fun z => ReportEq z y ∧
        frames z = .eth port (nsReply f.bytes (par .ingressMac port 0 x)) :: frames x) ∧
    (handledElsewhere port f.bytes x = false →
      silent (.arpRequest t port f) s x (discard port .discNotFframe y) ∧
      silent (.neighbourSolicitation t port f) s x (discard port .discNotFframe y) ∧
      silent (.fFrameReceive t port f) s x (discard port .discNotFframe y))) ∧
  (∀ t (port : Fin 128) f s, let x := advance t s
    ingressUp port x = true → f.fcsOk = true → f.bytes.length ≤ 9212 → addressed port f.bytes x = true →
    isFlowControl f.bytes = true →
    Does (.arpRequest t port f) s (discard port .discFlowctl (received port f x)) ∧
    Does (.neighbourSolicitation t port f) s (discard port .discFlowctl (received port f x)) ∧
    Does (.fFrameReceive t port f) s (discard port .discFlowctl (received port f x))) ∧
  (∀ (port : Fin 128) bytes x, (isPtp bytes = true ∨
      (∃ a, arpTarget bytes = some a ∧ a ≠ 0 ∧ a = par .ingressIp4 port 0 x % 2 ^ 32) ∨
      (∃ a, nsTarget bytes = some a ∧ a ≠ 0 ∧ a = par .ingressIp6 port 0 x)) →
    handledElsewhere port bytes x = true)

/-- R67, R72: closing a block and a chunk, and moving the oldest chunk's blocks. -/
def Obligations.BlocksCloseAndChunksMove : Prop :=
  (∀ t (d : Fin 4) (i : Fin 16) s p, let x := advance t s
    let v := (die d x).slot i
    planOf v.epoch x = some p → v.state = .open →
    (deadline p v ≤ x.time.now → Leads (.blockDeadline t d i) s fun z =>
      ((die d z).slot i).state ≠ .open ∧
      ctrGet .blocksEmpty d z = min ctrMax (ctrGet .blocksEmpty d x + (if v.subs.isEmpty then 1 else 0)) ∧
      ctrGet .blocksIncomplete d z = min ctrMax (ctrGet .blocksIncomplete d x +
        (if v.subs.isEmpty ∨ v.subs.length = p.blockSubs then 0 else 1)) ∧
      z.mem = x.mem ∧ z.power = x.power ∧ z.force = x.force ∧ z.boot = x.boot) ∧
    (x.time.now < deadline p v → Does (.blockDeadline t d i) s x)) ∧
  (∀ t chunk s e at_ p, let x := advance t s
    x.data.ctSeen.find? (fun y => y.2.1 == chunk + 1) = some (e, chunk + 1, at_) → planOf e x = some p →
    ctClosed p chunk x = false →
    (at_ + p.closeWait ≤ x.time.now →
      (∀ i, ctFind p chunk x = some i → Does (.cornerTurnCloseWait t chunk) s (ctClose p chunk x)) ∧
      (∀ y, ctFind p chunk x = none → ctNew p chunk x = some y →
        Does (.cornerTurnCloseWait t chunk) s (ctClose p chunk y))) ∧
    (x.time.now < at_ + p.closeWait → Does (.cornerTurnCloseWait t chunk) s x)) ∧
  (∀ t s, let x := advance t s
    (∀ a ∈ x.data.ct, a.closed = false) → Does (.cornerTurnMove t) s x) ∧
  (∀ t s i a p, let x := advance t s
    ctOldest x = some i → x.data.ct[i]? = some a → planOf a.epoch x = some p →
    let b := p.block a.chunk a.moved
    let n := a.moved + 1
    (p.skips a.chunk a.moved = true → Does (.cornerTurnMove t) s { x with data := { x.data with
      ct := if p.c ≤ n then x.data.ct.eraseIdx i else x.data.ct.set i { a with moved := n } } }) ∧
    (p.skips a.chunk a.moved = false → (die (b % 4) x).stopped = false → (die (b % 4) x).epoch = p.epoch →
      (die (b % 4) x).released ≤ b → (die (b % 4) x).ahead.contains b = false →
      (die (b % 4) x).find p.epoch b = none → toOpen p (die (b % 4) x) b = none →
      Does (.cornerTurnMove t) s x) ∧
    (∀ k y, p.skips a.chunk a.moved = false → (die (b % 4) x).stopped = false →
      admitBlock p b (b % 4) x = (.slot k, y) →
      Leads (.cornerTurnMove t) s fun z => ((die (b % 4) z).slot k).state ≠ .open ∧
        z.data.ct = (if p.c ≤ n then x.data.ct.eraseIdx i else x.data.ct.set i { a with moved := n }) ∧
        z.power = x.power ∧ z.force = x.force ∧ z.boot = x.boot))

/-- R87: the ingress links. -/
def Obligations.IngressLinksAreWatched : Prop :=
  (∀ t (port : Fin 128) s, let x := advance t s
    let l := ingressLink port x
    (l.up = false → modeProvides (par .ingressPortMode (port.val / 4) 0 x) (port.val % 4) = true →
      domain (34 + port.val / 32) x = .on →
      Does (.ingressLinkChange t port true) s (noteEvent .ingressLink
        (setIngressLink port { l with up := true, beenUp := true, reported := false } x))) ∧
    (l.up = true → Does (.ingressLinkChange t port false) s (noteEvent .ingressLink (count .linkDown port 1
      (setIngressLink port { l with up := false, downSince := x.time.now, reported := false } x))))) ∧
  (∀ t (port : Fin 128) s, let x := advance t s
    let l := ingressLink port x
    let wait := if l.beenUp then secT 1 else secT 2
    (inService port x = true → l.up = false → l.reported = false → l.downSince + wait ≤ x.time.now →
      Does (.ingressLinkDownTimeout t port) s
        (fired .ingressLink (setIngressLink port { l with reported := true } x))) ∧
    (x.time.now < l.downSince + wait ∨ l.reported = true ∨ l.up = true →
      Does (.ingressLinkDownTimeout t port) s x))

/-- R114, R166: starting a block, and releasing its slot. -/
def Obligations.BlocksStartOnEveryRing : Prop :=
  (∀ t (d : Fin 4) weir0 weir1 s i p, let x := advance t s
    let v := (die d x).slot i
    let tiles := blockTiles p d (v.state == .zoom) x
    (die d x).stopped = false → domain (24 + d) x = .on → ringsIdle d x = true → boundaryClear d x = true →
    nextSlot d x = some i → planOf v.epoch x = some p → tiles ≠ [] →
    (∀ w ∈ tiles, (polder w.polder x).powered = true) →
    Leads (.blockStart t d weir0 weir1) s fun z =>
      (∃ r ∈ (die d z).runs, r.slot = i ∧ r.epoch = v.epoch ∧ r.block = v.block ∧ r.left = tiles.length) ∧
      ∀ n < 168, (polder n z).jobs = (polder n x).jobs ++
        (tiles.filter fun w => w.polder == n).map fun w =>
          ⟨w.a, w.b, w.period, i, if v.state == .zoom then 1 else 0, v.epoch, v.chan, v.chunk⟩) ∧
  (∀ t (d : Fin 4) weir0 weir1 s, let x := advance t s
    (die d x).stopped = true ∨ domain (24 + d) x ≠ .on ∨ ringsIdle d x = false ∨ boundaryClear d x = false →
    Does (.blockStart t d weir0 weir1) s x) ∧
  (∀ t (d : Fin 4) s, let x := advance t s
    (∀ r, finishedRun d x = some r →
      Leads (.slotRelease t d) s fun z => (die d z).slot r.slot = Slot.empty ∧
        (r.isZoom = false → r.epoch = (die d x).epoch → r.block = (die d x).released →
          (die d x).released + 4 ≤ (die d z).released)) ∧
    (finishedRun d x = none → Does (.slotRelease t d) s x))

/-- R99 to R101, R128, R129, R31: the swap, the stall and the take. -/
def Obligations.SwapsAndTakesLoseNothing : Prop :=
  (∀ t (n : Fin 168) bad corrected faults s j r p, let x := advance t s
    let q := polder n x
    let v := (die (n.val / 42) (culvertErrors (n.val / 42) j.slot bad corrected x)).slot j.slot
    let out := tileLanes v (jobFormat p j) (p.areaSubs j.area) j
    let filled : Shadow := ⟨j, jobFormat p j == 3, (faultyLanes q.rows faults out.1).map (·.acc), out.2⟩
    q.powered = true → q.jobs = j :: r → planOf j.epoch x = some p → q.active = none → ringTurn n j x = true →
    Leads (.accumulatorSwap t n bad corrected faults) s fun z =>
      (q.shadow = none → (polder n z).jobs = r ∧ (polder n z).held = none ∧ (polder n z).active = none ∧
        (polder n z).shadow = some filled) ∧
      (∀ h, q.shadow = some h → (polder n z).jobs = q.jobs ∧ (polder n z).held = some x.time.now ∧
        (polder n z).active = some filled ∧ (polder n z).shadow = some h) ∧
      (∀ m < 168, m ≠ n.val → polder m z = polder m x) ∧ z.mem = x.mem ∧ z.data.tiles = x.data.tiles) ∧
  (∀ t (n : Fin 168) bad corrected faults s, let x := advance t s
    (polder n x).powered = false ∨ (polder n x).jobs = [] ∨ (polder n x).active.isSome = true ∨
      (∃ j, (polder n x).jobs.head? = some j ∧ ringTurn n j x = false) →
    Does (.accumulatorSwap t n bad corrected faults) s x) ∧
  (∀ t (d : Fin 4) s r n l h, let x := advance t s
    (die d x).staging.length < 192 → takeRing d x = some r → readySets r x = n :: l → (polder n x).shadow = some h →
    Leads (.shadowSetTake t d) s fun z =>
      (polder n z).shadow = (polder n x).active ∧ (polder n z).active = none ∧
      ((polder n x).active.isSome = true → (polder n z).held = none ∧ (polder n z).jobs = (polder n x).jobs.drop 1) ∧
      (die d z).staging = (die d x).staging ++ [convert h] ∧
      (die d z).ringPtr = n / 7 ∧ ctrGet .tilesDone d z = min ctrMax (ctrGet .tilesDone d x + 1) ∧
      (h.job.a = h.job.b → mirrorFaults h.fp h.sums ≠ [] → (polder n z).testPending = true) ∧
      z.mem = x.mem ∧ z.data.tiles = x.data.tiles) ∧
  (∀ t (d : Fin 4) s, let x := advance t s
    192 ≤ (die d x).staging.length →
    Leads (.shadowSetTake t d) s fun z => z.data.polders = x.data.polders ∧ (die d z).staging = (die d x).staging)

/-- R108, R111, R112, R122: rows, polders and spares. -/
def Obligations.RowsAndPoldersRetire : Prop :=
  (∀ t (n : Fin 168) fails s, let x := advance t s
    let q := polder n x
    let new := newFailures n fails x
    let base := nextState n x
    let failed := (failedRows fails).length
    q.testPending = true → q.powered = true → q.jobs = [] →
    (new = [] → Does (.laneRowTest t n fails) s (count .rowTestFail n failed
      (setPolder n { q with testPending := false, testForced := false } x))) ∧
    (new ≠ [] → base.rows.length + new.length ≤ 4 →
      Leads (.laneRowTest t n fails) s fun z =>
        (polder n z).change = some { base with rows := sortAsc (new ++ base.rows) } ∧
        (polder n z).testPending = false ∧ z.fault.sticky.getLsbD Fs.laneRow.num = true ∧
        ctrGet .rowTestFail n z = min ctrMax (ctrGet .rowTestFail n x + failed)) ∧
    (new ≠ [] → 4 < base.rows.length + new.length →
      Does (.laneRowTest t n fails) s (count .rowTestFail n failed
        (setPolder n { q with testPending := false, testForced := false, retireDue := true } x)))) ∧
  (∀ t (n : Fin 168) s, let x := advance t s
    let q := polder n x
    (q.testPending = true → q.testSince + secT 1 ≤ x.time.now →
      Does (.laneRowTestTimeout t n) s (setPolder n { q with testForced := true } x)) ∧
    (q.testPending = false ∨ x.time.now < q.testSince + secT 1 → Does (.laneRowTestTimeout t n) s x)) ∧
  (∀ t (n : Fin 168) s, let x := advance t s
    let q := polder n x
    q.retireDue = true → q.gone = false → changeable n x = true →
    Leads (.polderRetire t n) s fun z =>
      (polder n z).gone = true ∧ (polder n z).powered = false ∧ (polder n z).jobs = [] ∧
      z.fault.sticky.getLsbD Fs.polderRetired.num = true ∧
      ((∃ k, k ≠ n.val ∧ k / 7 = n.val / 7 ∧ (polder k x).role = 1 ∧ (polder k x).waking = false ∧
          (polder k x).gone = false) →
        ∃ k, k / 7 = n.val / 7 ∧ (polder k x).role = 1 ∧ (polder k z).waking = true) ∧
      ((∀ k, k ≠ n.val → k / 7 = n.val / 7 → (polder k x).role ≠ 1 ∨ (polder k x).waking = true ∨
          (polder k x).gone = true) → (polder n z).role = 2)) ∧
  (∀ t (n : Fin 168) fails s, let x := advance t s
    let q := polder n x
    let new := newFailures n fails x
    let c := nextState n x
    q.waking = true → domain (n.val / 7) x = .on → atBoundary (n.val / 42) x = true →
    q.testSince + usT 200 ≤ x.time.now →
    (c.rows.length + new.length ≤ 4 → Leads (.sparePolderActive t n fails) s fun z =>
      (polder n z).role = 0 ∧ (polder n z).powered = true ∧ (polder n z).waking = false ∧
      (polder n z).rows = sortAsc (new ++ c.rows) ∧ (polder n z).clockStep = c.clockStep) ∧
    (4 < c.rows.length + new.length → Leads (.sparePolderActive t n fails) s fun z =>
      (polder n z).role = 2 ∧ (polder n z).gone = true ∧ (polder n z).waking = false ∧
      z.fault.sticky.getLsbD Fs.polderRetired.num = true)) ∧
  (∀ t (n : Fin 168) s, let x := advance t s
    (∀ c, changeable n x = true → (polder n x).change = some c →
      Leads (.polderChangeApply t n) s fun z => (polder n z).role = c.role ∧
        (polder n z).clockStep = c.clockStep ∧ (polder n z).rows = c.rows ∧ (polder n z).change = none ∧
        (∀ m < 168, m ≠ n.val → polder m z = polder m x)) ∧
    (changeable n x = false ∨ (polder n x).change = none → Does (.polderChangeApply t n) s x))

/-- R131, R139 to R144, R154: promotions. -/
def Obligations.PromotionsAreAppliedInOrder : Prop :=
  (∀ t (d : Fin 4) s g p, let x := advance t s
    promotable d x = some (g, p) →
    let n := integOf p g.area g.chunk
    let key := tileKey g.area (n % 2) g.chan (tileNumber p.k g.i g.j)
    (tooLate p g.area g.chunk x = true →
      Leads (.promote t d) s fun z => (die d z).staging = (die d x).staging.erase g ∧
        ctrGet .latePromotions d z = min ctrMax (ctrGet .latePromotions d x + 1) ∧
        z.data.tiles = x.data.tiles ∧ z.mem = x.mem) ∧
    (tooLate p g.area g.chunk x = false →
      (g.deficits = none ∨ ((tile key x).fresh? n = false ∧ (tile key x).berm.isSome = true) ∨
        (freeBerm p (region g.area (n % 2) x)).isSome = true) → (region g.area (n % 2) x).begun = true →
      planOf (region g.area (n % 2) x).epoch x = some p → (region g.area (n % 2) x).integration = n →
      Leads (.promote t d) s fun z => (die d z).staging = (die d x).staging.erase g ∧
        ctrGet .promotions d z = min ctrMax (ctrGet .promotions d x + 1) ∧
        (tile key z).touched = true ∧ (tile key z).lastChunk = g.chunk % 2 ^ 32 ∧
        (tile key z).integration = n % 2 ^ 32 ∧
        ((tile key x).fresh? n = true → (tile key z).generation = 1 ∧
          (tile key z).elems = addChunk p.totalsFmt true [] (chunkElems p.totalsFmt g)) ∧
        ((tile key x).fresh? n = false → (tile key z).generation = ((tile key x).generation + 1) % 2 ^ 32 ∧
          (tile key z).elems = addChunk p.totalsFmt false (tile key x).elems (chunkElems p.totalsFmt g)) ∧
        (∀ k, k ≠ key → tile k z = tile k x) ∧ z.mem.cells = x.mem.cells ∧
        (∀ b l, (tile key x).fresh? n = false → (tile key x).berm = some b → g.deficits = some l →
          (tile key z).berm = some (addDeficits b l)) ∧
        ((tile key x).fresh? n = false → z.mem = x.mem)) ∧
    (tooLate p g.area g.chunk x = false → g.deficits.isSome = true → (tile key x).fresh? n = false →
      (tile key x).berm = none → freeBerm p (region g.area (n % 2) x) = none → (region g.area (n % 2) x).begun = true →
      planOf (region g.area (n % 2) x).epoch x = some p → (region g.area (n % 2) x).integration = n →
      Leads (.promote t d) s fun z => (die d z).staging = (die d x).staging.erase g ∧
        ctrGet .promotions d z = min ctrMax (ctrGet .promotions d x + 1) ∧
        (tile key z).elems = (tile key x).elems ∧ (tile key z).chunks = ((tile key x).chunks + 1) % 2 ^ 32 ∧
        (tile key z).dropped = ((tile key x).dropped + 1) % 2 ^ 32 ∧
        ((region g.area (n % 2) x).bermReported = false →
          eventCount .bermFull z = min ctrMax (eventCount .bermFull x + 1)) ∧
        (∀ k, k ≠ key → tile k z = tile k x) ∧ z.mem = x.mem)) ∧
  (∀ t (d : Fin 4) s, let x := advance t s
    promotable d x = none → Does (.promote t d) s x) ∧
  (∀ t (area : Fin 2) chan s, let x := advance t s
    let y := advanceDies x
    (snapHolds area chan y = false → ledgerNext area chan y = none →
      exec (.ledgerOnly t area chan) s = .next (settle y)) ∧
    (∀ p k d, snapHolds area chan y = false → ledgerNext area chan y = some (p, k, d) →
      tooLate p area k y = true → k = (account p area chan y).next → tilesOf p.k ≤ (account p area chan y).tiles + 1 →
      Leads (.ledgerOnly t area chan) s fun z => (account p area chan z).next = k + 1 ∧
        ctrGet .latePromotions d z = min ctrMax (ctrGet .latePromotions d y + 1) ∧ z.data.tiles = y.data.tiles) ∧
    (∀ p k d, snapHolds area chan y = false → ledgerNext area chan y = some (p, k, d) → tooLate p area k y = false →
      let n := integOf p area k
      let i := ledgerTile p area chan k y
      let key := tileKey area (n % 2) chan i
      let keeper := keeperOf p area (n % 2) chan i y
      (region area (n % 2) y).begun = true → planOf (region area (n % 2) y).epoch y = some p →
      (region area (n % 2) y).integration = n →
      Leads (.ledgerOnly t area chan) s fun z =>
        let old := if (tile key y).fresh? n then Tile.fresh else tile key y
        (tile key z).touched = true ∧ (tile key z).integration = n % 2 ^ 32 ∧
        (tile key z).lastChunk = k % 2 ^ 32 ∧ (tile key z).chunks = (old.chunks + 1) % 2 ^ 32 ∧
        (tile key z).dropped = (old.dropped + 1) % 2 ^ 32 ∧ (tile key z).elems = old.elems ∧
        ctrGet .tileOpsLedgerOnly keeper z = min ctrMax (ctrGet .tileOpsLedgerOnly keeper y + 1) ∧
        ∀ q, q ≠ key → tile q z = tile q y))

/-- R149 to R151: the four operations. -/
def Obligations.TileOperationsOfTheWindow : Prop :=
  (∀ t (k : Fin 8) (n : Fin 2048) s, let x := advance t s
    let a := slotAddr k n
    (slotOp a 1 x = none → Does (.tileRead t (.window k n)) s x) ∧
    (slotOp a 2 x = none → Does (.tileWrite t k n) s x) ∧
    (slotOp a 3 x = none → Does (.tileStatus t (.window k n)) s x) ∧
    (slotOp a 4 x = none → Does (.tileReset t k n) s x) ∧
    (∀ o, slotOp a 4 x = some o →
      exec (.tileReset t k n) s = .next (settle (completeSlot a (tileReset o x).1 o (tileReset o x).2))) ∧
    (∀ o, slotOp a 3 x = some o →
      let r := tileStatus o x
      exec (.tileStatus t (.window k n)) s = .next (settle (completeSlot a r.1 o
        (if r.1 = .done then (rangeWrite (windowSlot a x).2 o.buffer r.2.1 .clean r.2.2).2 else r.2.2)))) ∧
    (∀ o, slotOp a 1 x = some o →
      let r := tileRead o x
      exec (.tileRead t (.window k n)) s = .next (settle (completeSlot a r.1 o
        (if r.1 = .done then (rangeWrite (windowSlot a x).2 o.buffer r.2.1 .clean r.2.2).2 else r.2.2)))) ∧
    (∀ o, slotOp a 2 x = some o →
      let r := rangeRead (windowSlot a x).2 o.buffer (writeLen o x) .clean x
      exec (.tileWrite t k n) s = .next (settle (completeSlot a (tileWrite o r.1 r.2.2).1 o (tileWrite o r.1 r.2.2).2)))) ∧
  (∀ o x, x.plan.running = none →
    (tileRead o x).1 = .badTile ∧ (tileStatus o x).1 = .badTile ∧ (tileReset o x).1 = .badTile) ∧
  (∀ o x p, x.plan.running = some p →
    let i := tileNumber p.k o.i o.j
    let key := tileKey o.area o.region o.chan i
    let keeper := keeperOf p o.area o.region o.chan i x
    let w := tileOf p o.area o.region o.chan i x
    let named : Prop := o.integration = 0xFFFFFFFF ∨ (w.touched = true ∧ w.integration = o.integration)
    (p.hasTile o = false → (tileRead o x).1 = .badTile ∧ (tileStatus o x).1 = .badTile ∧ (tileReset o x).1 = .badTile) ∧
    (p.hasTile o = true →
      (o.rangeBad = true → (tileRead o x).1 = .badRange) ∧
      (¬ named → (tileStatus o x).1 = .stale ∧ (o.rangeBad = false → (tileRead o x).1 = .stale)) ∧
      (named → (tileStatus o x).1 = .done ∧ (tileStatus o x).2.1 = w.records ∧
        (o.rangeBad = false → (tileRead o x).1 = .done ∧ (tileRead o x).2.1 =
          ((List.range o.elems).flatMap fun q => elemBytes p.totalsFmt (w.elem (o.first + q))) ++ w.records)) ∧
      (tileRead o x).2.2.data.tiles = x.data.tiles ∧ (tileStatus o x).2.2.data.tiles = x.data.tiles ∧
      (tileReset o x).1 = .done ∧
      ctrGet .tileOpsReset keeper (tileReset o x).2 = min ctrMax (ctrGet .tileOpsReset keeper x + 1) ∧
      (laidOut p o.area o.region x = false → (tileReset o x).2.data.tiles = x.data.tiles) ∧
      (laidOut p o.area o.region x = true →
        tile key (tileReset o x).2 = { w with touched := false, generation := 0, overflow := false,
                                              nonfinite := false, invalid := false, written := false, berm := none } ∧
        ∀ q, q ≠ key → tile q (tileReset o x).2 = tile q x))) ∧
  (∀ o data x p, x.plan.running = some p → p.hasTile o = true → o.integration % 2 = o.region → o.rangeBad = false →
    let key := tileKey o.area o.region o.chan (tileNumber p.k o.i o.j)
    let w := tileOf p o.area o.region o.chan (tileNumber p.k o.i o.j) x
    let g := region o.area o.region x
    let l := readElems p.totalsFmt o.elems data
    w.touched = true → w.integration = o.integration → g.integration = fullInteg g o.integration →
    (tileWrite o data x).1 = .done ∧ (tile key (tileWrite o data x).2).written = true ∧
    (tile key (tileWrite o data x).2).generation = (w.generation + 1) % 2 ^ 32 ∧
    (tile key (tileWrite o data x).2).elems = putElems w.elems o.first l ∧
    (tile key (tileWrite o data x).2).nonfinite = (w.nonfinite || l.any (cxBad p.totalsFmt)) ∧
    ∀ q, q ≠ key → tile q (tileWrite o data x).2 = tile q x)

/-- R151 to R157, R241: drains, seals and snapshots. -/
def Obligations.DrainsSealsAndSnapshots : Prop :=
  (∀ t (a : Fin 2) sid s, let x := advance t s
    (drainDue a sid x = none → Does (.tileRead t (.drain a sid)) s x ∧ Does (.tileStatus t (.drain a sid)) s x) ∧
    (∀ dr y it r p, drainDue a sid x = some (dr, y, it, r) → planOf dr.epoch x = some p →
      (it.isRecs = false → exec (.tileRead t (.drain a sid)) s = .next (settle (drainTake p dr y it r x)) ∧
        Does (.tileStatus t (.drain a sid)) s x) ∧
      (it.isRecs = true → exec (.tileStatus t (.drain a sid)) s = .next (settle (drainTake p dr y it r x)) ∧
        Does (.tileRead t (.drain a sid)) s x))) ∧
  (∀ t (a r : Fin 2) s p, let x := advance t s
    let g := region a r x
    planOf g.epoch x = some p → g.begun = true → g.state = .filling →
    (∀ t0, g.lastOp = some t0 → t0 + nsT (par0 .corrSealWait x) ≤ x.time.now → g.integration % 2 = r.val →
      Leads (.sealWaitExpiry t a r) s fun z => (region a r z).state ≠ .filling ∧
        (region a r z).integration = g.integration ∧ eventCount .sealed z = min ctrMax (eventCount .sealed x + 1) ∧
        z.power = x.power ∧ z.force = x.force) ∧
    ((∀ t0, g.lastOp = some t0 → x.time.now < t0 + nsT (par0 .corrSealWait x)) → Does (.sealWaitExpiry t a r) s x)) ∧
  (∀ t s, let x := advance t s
    (x.data.snapshot = none → Does (.snapshotChannelCopy t) s x) ∧
    (∀ y p c k, x.data.snapshot = some y → snapReady x = some (p, c, k) →
      Leads (.snapshotChannelCopy t) s fun z =>
        (z.data.snapshot.map fun w => w.channels) = some (y.channels.drop 1) ∧
        (z.data.snapshot.map fun w => w.id) = some y.id ∧ z.data.tiles = x.data.tiles)) ∧
  (∀ t d chans s, let x := advance t s
    Accepted 0x0206 d x → d.payload.length = Config.payloadLength 0x0206 →
    (x.plan.running = none ∨ chans = [] → Answers (.zcpSnapshot t d chans) d rBadValue s x) ∧
    (∀ p, x.plan.running = some p → (∃ c ∈ chans, c ∉ p.channels) → Answers (.zcpSnapshot t d chans) d rBadValue s x) ∧
    (∀ p, x.plan.running = some p → chans ≠ [] → (∀ c ∈ chans, c ∈ p.channels) →
      (∀ y, x.data.snapshot = some y → y.channels ≠ [] → Answers (.zcpSnapshot t d chans) d rBusy s x) ∧
      ((∀ y, x.data.snapshot = some y → y.channels = []) → Answers (.zcpSnapshot t d chans) d rOk s { x with data := { x.data with
        snapshot := some { id := x.data.snapshots, channels := chans, used := (x.data.snapshot.map (·.used)).getD 0, firstAt := none }
        snapshots := x.data.snapshots + 1 } }))) ∧
  (∀ t d (area r : Fin 2) s, let x := advance t s
    Accepted 0x0207 d x → d.payload.length = Config.payloadLength 0x0207 →
    (x.plan.running = none → Answers (.zcpTotalsReset t d area r) d rBadValue s x) ∧
    (∀ p, x.plan.running = some p →
      Leads (.zcpTotalsReset t d area r) s fun z => lastReply d z = some ⟨d.seq, d.typ, rOk⟩ ∧
        (∀ chan ∈ p.areaChannels area, ∀ n < tilesOf p.k, n < 4096 → (tileOf p area r chan n z).touched = false ∧
          (tileOf p area r chan n z).generation = 0) ∧ z.mem = x.mem ∧ z.force = x.force))

/-- R178, R180, R181: the banks of weights. -/
def Obligations.WeightEpochsAreArmedAndReleased : Prop :=
  (∀ t d (i : Fin 2) e s, let x := advance t s
    Accepted 0x0302 d x → d.payload.length = Config.payloadLength 0x0302 →
    (e % 1024 ≠ 0 → Answers (.zcpWeirEpoch t d i e) d 0x40 s x) ∧
    (e % 1024 = 0 → (bank i x).state ≠ .free → Answers (.zcpWeirEpoch t d i e) d 0x41 s x) ∧
    (e % 1024 = 0 → (bank i x).state = .free → (bank (1 - i) x).state = .armed ∨ (bank (1 - i) x).state = .draining →
      Answers (.zcpWeirEpoch t d i e) d 0x42 s x) ∧
    (e % 1024 = 0 → (bank i x).state = .free → (bank (1 - i) x).state ≠ .armed → (bank (1 - i) x).state ≠ .draining →
      (bankWriting i x = true → Answers (.zcpWeirEpoch t d i e) d 0x41 s x) ∧
      (bankWriting i x = false → e < x.weir.begun → Answers (.zcpWeirEpoch t d i e) d 0x43 s x) ∧
      (bankWriting i x = false → x.weir.begun ≤ e → Answers (.zcpWeirEpoch t d i e) d rOk s
        (setBank i { bank i x with state := .armed, boundary := e } x)))) ∧
  (∀ t d (i : Fin 2) s, let x := advance t s
    Accepted 0x0303 d x → d.payload.length = Config.payloadLength 0x0303 →
    ((bank i x).state = .free → Answers (.zcpWeirEpochCancel t d i) d rOk s x) ∧
    ((bank i x).state = .armed → Answers (.zcpWeirEpochCancel t d i) d rOk s
      (setBank i { bank i x with state := .free, boundary := 0 } x)) ∧
    ((bank i x).state = .inForce ∨ (bank i x).state = .draining →
      Answers (.zcpWeirEpochCancel t d i) d 0x43 s x)) ∧
  (∀ t s, let y := advanceDies (advance t s)
    Leads (.bankRelease t) s fun z => ∀ i < 2,
      (bank i z).weights = (bank i y).weights ∧
      ((bank i y).state = .draining → (∀ d < 4, dieDoneTo (bank i y).boundary d y = true) →
        (bank i z).state = .free ∧ (bank i z).boundary = 0) ∧
      ((bank i y).state ≠ .draining ∨ (∃ d < 4, dieDoneTo (bank i y).boundary d y = false) → bank i z = bank i y))

/-- R166, R184, R191: the end of a beam block, and the stock weight kernel's epoch. -/
def Obligations.BeamsAndAutomaticEpochs : Prop :=
  (∀ t (i : Fin 8) s, let x := advance t s
    ((∃ r ∈ (die (i.val / 2) x).runs, (i.val % 2) ∈ r.weirBusy) →
      Leads (.weirBlockDone t i) s fun z =>
        ctrGet .weirBlocks i z = min ctrMax (ctrGet .weirBlocks i x + 1) ∧ z.mem = x.mem ∧ z.power = x.power ∧
        z.data.polders = x.data.polders ∧ z.force = x.force) ∧
    ((∀ r ∈ (die (i.val / 2) x).runs, (i.val % 2) ∉ r.weirBusy) → Does (.weirBlockDone t i) s x)) ∧
  (∀ t ref steer s, let x := advance t s
    let w := { x.weir with ref := ref, steer := steer.foldl (fun m k => sSet m k.1 k.2) x.weir.steer }
    let y : State := { x with weir := w }
    (bankPlan x = none → Does (.autoEpochFill t ref steer) s x) ∧
    (∀ p, bankPlan x = some p →
      (p.par0 .weirAutoEpoch = 0 ∨ p.par0 .weirWeightSource ≠ 1 → Does (.autoEpochFill t ref steer) s y) ∧
      (p.par0 .weirAutoEpoch ≠ 0 → p.par0 .weirWeightSource = 1 →
        let d := p.par0 .weirAutoEpoch
        let e := nextEpoch ref d (if w.lastEpoch = 0 then tideSc x.time.tide x else w.lastEpoch)
        (e ≤ tideSc x.time.tide x →
          Does (.autoEpochFill t ref steer) s (noteEvent .weightLate { y with weir := { w with lastEpoch := e } })) ∧
        (∀ i, freeBank y = some i → epochRefusal i e y = none → tideSc x.time.tide x < e →
          (kernelCores p y = [] → Does (.autoEpochFill t ref steer) s y) ∧
          (kernelCores p y ≠ [] → Does (.autoEpochFill t ref steer) s { y with
            free := y.free + 1
            weir := { w with
              lastEpoch := e
              banks := w.banks.set i ⟨.armed, e, kernelBank p w.steer ref e d y.free⟩ } })))))

/-- R202, R210, R223: zoom windows, their blocks and the gates. -/
def Obligations.ZoomBlocksAndGates : Prop :=
  (∀ t chan hi bad s, let x := advance t s
    (domain 32 x ≠ .on ∨ x.zoom.out = true → Does (.zoomSourceProcess t chan hi bad) s x) ∧
    (∀ w p s0 z0, domain 32 x = .on → x.zoom.out = false → sourceWins chan x = ([(w, p)], s0) →
      sourceBlock p chan (win w s0).next s0 = some z0 → (win w s0).pos < min hi p.s →
      Leads (.zoomSourceProcess t chan hi bad) s fun z =>
        (p.s ≤ hi → (win w z).next = (win w s0).next + 1 ∧ (win w z).pos = 0) ∧
        (hi < p.s → (win w z).next = (win w s0).next ∧ (win w z).pos = hi) ∧
        z.mem = x.mem ∧ z.power = x.power ∧ z.force = x.force)) ∧
  (∀ t (w : Fin 32) s, let x := advance t s
    ((win w x).waiting = none → Does (.zoomBlockDeliver t w) s x) ∧
    (∀ b i l, (win w x).waiting = some b →
      let d := collectorFor (b.z % 4) x
      (die d x).freeSlots = i :: l → (die d x).stopped = false →
      (∀ v ∈ (die d x).slots, v.state ≠ .zoom) → firstForDie b.z d x = true →
      Does (.zoomBlockDeliver t w) s (count .zoomBlocks w 1 (setWin w { win w x with waiting := none }
        (setDie d ((die d x).setSlot i
          { state := .zoom, epoch := b.epoch, block := b.z, chan := b.win, chunk := b.chunk,
            openAt := x.time.now, closedAt := x.time.now, skip := false, subs := b.subs }) x)))) ∧
    (∀ b, (win w x).waiting = some b →
      let d := collectorFor (b.z % 4) x
      (die d x).freeSlots = [] ∨ (die d x).stopped = true ∨ (∃ v ∈ (die d x).slots, v.state = .zoom) ∨
        firstForDie b.z d x = false →
      Does (.zoomBlockDeliver t w) s x)) ∧
  (∀ t (o : Fin 8) s e, let x := advance t s
    let y := out o x
    earliest y.gate.assertAt = some e → y.mode = .gate →
    (e ≤ x.time.tide → (∀ k ∈ y.gate.deassertAt, e ≤ k) →
      Does (.gateAssert t o) s (drive o (!y.lowPol) e (setOut o { y with gate := { y.gate with
        asserted := true, assertAt := y.gate.assertAt.erase e } } x))) ∧
    (x.time.tide < e ∨ (∃ k ∈ y.gate.deassertAt, k < e) → Does (.gateAssert t o) s x)) ∧
  (∀ t (o : Fin 8) s e, let x := advance t s
    let y := out o x
    earliest y.gate.deassertAt = some e → y.mode = .gate →
    (e ≤ x.time.tide → (∀ k ∈ y.gate.assertAt, e ≤ k) →
      Does (.gateDeassert t o) s (drive o y.lowPol e (setOut o { y with gate := { y.gate with
        asserted := false, deassertAt := y.gate.deassertAt.erase e } } x))) ∧
    (x.time.tide < e ∨ (∃ k ∈ y.gate.assertAt, k < e) → Does (.gateDeassert t o) s x))

/-- R235 to R237, R249, R256, R230: packets and host links. -/
def Obligations.PacketsLeaveOnTheirPorts : Prop :=
  (∀ h p flags owner eoi ce x, let q := nextSeq h.stream x
    let z := formPacket h p flags owner eoi ce x
    nextSeq h.stream z = (q + 1) % 2 ^ 64 ∧ (∀ k, k ≠ h.stream → nextSeq k z = nextSeq k x) ∧
    ∃ pk : Packet, z.egress.queue = x.egress.queue ++ [pk] ∧ pk.stream = h.stream ∧ pk.seq = q ∧
      pk.bytes = productHeader h p q (h.flags ||| p.flags ||| flags) x ++ p.bytes) ∧
  (∀ t sid s, let x := advance t s
    (waitingPacket sid x = none → Does (.packetSend t sid) s x) ∧
    (∀ pk, waitingPacket sid x = some pk →
      exec (.packetSend t sid) s = .next (settle (sendPacket pk x)) ∧
      Leads (.packetSend t sid) s fun z =>
        (∀ port ∈ streamPorts sid x, hostUp port x = true → egressOn x = true →
          par .egressDestIp (streamInst sid) port x ≠ 0 → par .egressDestMac (streamInst sid) port x ≠ 0 →
          let v6 := streamPar .egressIpVersion sid port x
          let ip := par .egressDestIp (streamInst sid) port x
          let udp := par .egressDestPort (streamInst sid) port x
          Sent.product port (par .egressDestMac (streamInst sid) port x) v6 ip udp (par .egressDscp (streamInst sid) port x)
            (streamPar .egressVlan sid port x) (Config.hostAddr port v6) 45473
            (udpSum (v6 == 1) (Config.hostAddr port v6) ip 45473 udp pk.bytes) pk.bytes ∈ z.sent) ∧
        (∀ port ∈ streamPorts sid x, hostUp port x = false ∨ egressOn x = false →
          ctrGet .egressLinkDrop (128 + port) z = min ctrMax (ctrGet .egressLinkDrop (128 + port) x + 1)) ∧
        z.mem = x.mem ∧ z.force = x.force ∧ z.power = x.power)) ∧
  (∀ t s, let x := advance t s
    (x.zoom.records = [] → Does (.eventsPacketTimeout t) s x) ∧
    (∀ r l, x.zoom.records = r :: l →
      (x.time.now < r.1 + msT 1 → Does (.eventsPacketTimeout t) s x) ∧
      (egressOn x = false → Does (.eventsPacketTimeout t) s x) ∧
      (r.1 + msT 1 ≤ x.time.now → egressOn x = true → Leads (.eventsPacketTimeout t) s fun z =>
        z.zoom.records = x.zoom.records.drop 256 ∧ nextSeq 0x7000 z = (nextSeq 0x7000 x + 1) % 2 ^ 64 ∧
        z.zoom.inPackets = x.zoom.inPackets + min 256 x.zoom.records.length ∧
        (∃ pk, z.egress.queue = x.egress.queue ++ [pk] ∧ pk.stream = 0x7000) ∧ z.mem = x.mem ∧ z.force = x.force))) ∧
  (∀ t (port : Fin 2) up s, let x := advance t s
    let l := hostLink port x
    let l1 := if up then { l with up := true, beenUp := true, reported := false }
      else { l with up := false, downSince := x.time.now, reported := false }
    let x1 := if up then setRef (4 + port) { ref (4 + port) x with linkOk := true } x else x
    (domain 38 x ≠ .on → Does (.hostLinkChange t port up) s x) ∧
    (domain 38 x = .on → (up = false ∨ ∀ w ∈ x.zcp.waiting, w.why = 7 → w.unit ≠ 38) →
      (l.up = up → Does (.hostLinkChange t port up) s x) ∧
      (l.up ≠ up → Does (.hostLinkChange t port up) s
        (noteEvent .egressLink { x1 with hostLinks := x.hostLinks.set port l1 }))) ∧
    (domain 38 x = .on → Leads (.hostLinkChange t port up) s fun z => (hostLink port z).up = up ∧ z.mem = x.mem ∧
      z.force = x.force ∧ z.egress = x.egress)) ∧
  (∀ t (port : Fin 2) s, let x := advance t s
    (hostLinkLost port x = true → Does (.hostLinkTimeout t port) s
      (fired .hostLink { x with hostLinks := x.hostLinks.set port { hostLink port x with reported := true } })) ∧
    (hostLinkLost port x = false → Does (.hostLinkTimeout t port) s x)) ∧
  (∀ t (port : Fin 2) s, let x := advance t s
    (hostUp port x = true → Does (.hostFlowctlFrame t port) s (count .hostDiscFlowctl (128 + port) 1 x)) ∧
    (hostUp port x = false → Does (.hostFlowctlFrame t port) s x))

/-- R250, R257, R266, R268, R271, R277, R491: compressors and telemetry. -/
def Obligations.CompressorsAndTelemetryWork : Prop :=
  (∀ t s, let x := advance t s
    (x.egress.ready = [] ∨ egressOn x = false → Does (.compressUnitAssign t) s x) ∧
    (∀ u r, x.egress.ready = u :: r → egressOn x = true →
      let sid := u.unit.head.stream
      (streamPar .egressCompress sid 0 x ≠ 0 ∨ u.put ≠ 0 →
        (idleComp x = none → Does (.compressUnitAssign t) s x) ∧
        (∀ c, idleComp x = some c →
          let job : CompJob := { u with trim := if u.put = 0 then streamPar .egressCompTrim sid 0 x else u.trim }
          Does (.compressUnitAssign t) s { x with egress := { x.egress with
            ready := r
            comps := x.egress.comps.set c (some job) } })) ∧
      (streamPar .egressCompress sid 0 x = 0 → u.put = 0 →
        (streamInComp sid x = true → Does (.compressUnitAssign t) s x) ∧
        (streamInComp sid x = false → Leads (.compressUnitAssign t) s fun z => z.egress.ready = r ∧
          z.egress.queue.length = x.egress.queue.length + u.unit.pieces.length ∧ z.mem = x.mem ∧ z.force = x.force)))) ∧
  (∀ t (c : Fin 16) s, let x := advance t s
    (x.egress.comps.getD c none = none → Does (.compressUnitDone t c) s x) ∧
    (∀ j0, x.egress.comps.getD c none = some j0 →
      let y := countHold x c
      ∃ j, y.egress.comps.getD c none = some j ∧ j.unit = j0.unit ∧ j.put = j0.put ∧
      (oldestOfStream j y = false → Does (.compressUnitDone t c) s y) ∧
      (oldestOfStream j y = true →
        let sid := j.unit.head.stream
        let items := (compressUnit j.unit.whole.fmt j.trim j.unit.payload).1
        let put := chainPut sid items j.put y
        (j.put + put.1 < items.flatten.length →
          Does (.compressUnitDone t c) s (holdComp c { j with put := j.put + put.1 } put.2)) ∧
        (items.flatten.length ≤ j.put + put.1 → Leads (.compressUnitDone t c) s fun z =>
          z.egress.comps.getD c none = none ∧
          ctrGet .compUnits (streamInst sid) z = min ctrMax (ctrGet .compUnits (streamInst sid) x + 1) ∧
          ctrGet .compBytesIn (streamInst sid) z =
            min ctrMax (ctrGet .compBytesIn (streamInst sid) x + j.unit.payload.length) ∧
          ctrGet .compBytesOut (streamInst sid) z =
            min ctrMax (ctrGet .compBytesOut (streamInst sid) x + items.flatten.length) ∧
          z.mem = put.2.mem ∧ z.force = x.force ∧ z.power = x.power)))) ∧
  (∀ t s, let x := advance t s
    let y : State := { x with
      egress := { x.egress with telemetryAt := x.time.now }
      time := { x.time with lagMin := [], lagMax := [] } }
    (x.boot.stage ≠ .ready ∨ x.time.now < x.egress.telemetryAt + nsT (par0 .egressTelemetryPeriod x) →
      Does (.telemetryPeriod t) s x) ∧
    (x.boot.stage = .ready → x.egress.telemetryAt + nsT (par0 .egressTelemetryPeriod x) ≤ x.time.now →
      (egressOn x = false → Does (.telemetryPeriod t) s y) ∧
      (egressOn x = true → Leads (.telemetryPeriod t) s fun z =>
        (∃ l, z.egress.queue = x.egress.queue ++ l ∧ (∀ pk ∈ l, pk.stream = 0x8000) ∧
          l.length = ((telemetryEntries .egressTelemetryKeys 0 x).length + 511) / 512) ∧
        z.egress.telemetryAt = x.time.now ∧ z.time.lagMin = [] ∧ z.time.lagMax = [] ∧ z.mem = x.mem ∧
        z.force = x.force))) ∧
  (∀ t (k : Fin 4) s, let x := advance t s
    let period := par .zcpTelemetryPeriod k 0 x
    ((session k x).isOpen = false ∨ period = 0 ∨ x.time.now < (session k x).telemetryAt + nsT period →
      Does (.zcpTelemetry t k) s x) ∧
    let l := telemetryEntries .zcpTelemetryKeys k x
    let bodies := (runsOf 512 (l.length + 1) 0 l).map (·.2.flatten)
    ((session k x).isOpen = true → period ≠ 0 → (session k x).telemetryAt + nsT period ≤ x.time.now →
      Does (.zcpTelemetry t k) s (setSession k (fun y => { y with telemetryAt := x.time.now }) x) ∧
      (Unsaturated x → (session k x).unsol.length + bodies.length ≤ 4096 → Leads (.zcpTelemetry t k) s fun z =>
        (session k z).unsol.map (fun u => (u.typ, u.body)) =
          (session k x).unsol.map (fun u => (u.typ, u.body)) ++ bodies.map (fun b => (0x0F02, b)))))

/-- R273 to R276: the decompressor's queue. -/
def Obligations.DecompressionJobsRunInOrder : Prop :=
  (∀ t s, let x := advance t s
    (x.egress.jobs = [] → Does (.decompJobStart t) s x ∧ Does (.decompJobEnd t) s x) ∧
    (∀ j rest, x.egress.jobs = j :: rest →
      (j.started = true → Does (.decompJobStart t) s x) ∧
      (j.started = false → jobRefusal j x = none →
        Does (.decompJobStart t) s (setJobs ({ j with started := true } :: rest) x)) ∧
      (∀ r, j.started = false → jobRefusal j x = some r →
        exec (.decompJobStart t) s = .next (settle (endJob j 0 r (setJobs rest x))) ∧
        Leads (.decompJobStart t) s fun z => z.egress.jobs = rest ∧
          ctrGet .decompJobs r z = min ctrMax (ctrGet .decompJobs r x + 1) ∧
          eventCount .decompDone z = min ctrMax (eventCount .decompDone x + 1) ∧ z.mem = x.mem ∧ z.force = x.force) ∧
      (j.started = false → Does (.decompJobEnd t) s x) ∧
      (j.started = true → x.egress.decompOut = true → Leads (.decompJobEnd t) s fun z =>
        z.egress.jobs = rest ∧ ctrGet .decompJobs 3 z = min ctrMax (ctrGet .decompJobs 3 x + 1) ∧
        z.mem = x.mem ∧ z.force = x.force) ∧
      (j.started = true → x.egress.decompOut = false →
        let out := decodeJob j.outLen (j.input.length + 1) j.input []
        let w := writeOutput j out.1 x
        exec (.decompJobEnd t) s = .next (settle (endJob j w.1 (if w.2.1 then out.2 else 3) (setJobs rest w.2.2)))))) ∧
  (∀ j x,
    (1024 * j.inLen < j.outLen → jobRefusal j x = some 1) ∧
    (j.outLen ≤ 1024 * j.inLen → j.dest = 0 ∨ 4 < j.dest ∨ j.reserved ≠ 0 → jobRefusal j x = some 2) ∧
    (jobRefusal j x = none → j.outLen ≤ 1024 * j.inLen ∧ 1 ≤ j.dest ∧ j.dest ≤ 4 ∧ j.reserved = 0 ∧
      x.egress.decompOut = false) ∧
    (jobRefusal j x = some 3 → x.egress.decompOut = true ∨ (ownerRefusal true j.target j.inst x).isSome = true ∨
      j.dest = 3)) ∧
  (∀ j n r x, (endJob j n r x).egress.jobs = x.egress.jobs)

/-- R492 to R498, R481: bulk transfers. -/
def Obligations.BulkTransfersOpenCarryAndClose : Prop :=
  (∀ t d typ i s, let x := advance t s
    let b := readOpen d.ctx x
    let live := x.zcp.bulks.filter Bulk.live
    let mine := live.filter (·.slot == d.session)
    (typ = 0x0A02 ∧ i = Instr.zcpBulkOpen t d) ∨
      (typ = 0x0802 ∧ i = Instr.zcpSluiceLoad t d ∧ beAt d.payload 2 1 % 16 = 4) →
    Accepted typ d x → d.payload.length = 32 →
    (openBad d.ctx b = true → Answers i d rBadValue s x) ∧
    (openBad d.ctx b = false → 4 ≤ mine.length ∨ 16 ≤ live.length → Answers i d rBusy s x) ∧
    (openBad d.ctx b = false → mine.length < 4 → live.length < 16 →
      ((∃ w ∈ mine, w.id = b.id) → Answers i d rBadValue s x) ∧
      ((∀ w ∈ mine, w.id ≠ b.id) →
        (∀ code, ownerRefusal b.inbound b.target b.inst x = some code → Answers i d code s x) ∧
        (ownerRefusal b.inbound b.target b.inst x = none →
          (rangeOutside b x = true → Answers i d rBadValue s x) ∧
          (rangeOutside b x = false → b.inbound = true → Answers i d rOk s { x with zcp := { x.zcp with
            bulks := (x.zcp.bulks.filter fun w => !(w.slot == d.session && w.id == b.id)) ++ [b] } }) ∧
          (rangeOutside b x = false → b.inbound = false → Leads i s fun z =>
            lastReply d z = some ⟨d.seq, d.typ, rOk⟩ ∧ (bulkOf d.session b.id z).isSome = true ∧
            z.power = x.power ∧ z.force = x.force))))) ∧
  (∀ t d s, let x := advance t s
    Accepted 0x0802 d x → d.payload.length = 32 → beAt d.payload 2 1 % 16 ≠ 4 →
    Answers (.zcpSluiceLoad t d) d rBadValue s x) ∧
  (∀ t d s b, let x := advance t s
    Accepted 0x0A03 d x → 8 ≤ d.payload.length → bulkOf d.session (beAt d.payload 0 2) x = some b →
    b.live = true → b.inbound = true → b.job = false →
    Leads (.zcpBulkData t d) s fun z => restZ z =
      restZ (closeIfWhole b.slot b.id (bulkArrive b (beAt d.payload 2 6) (d.payload.drop 8) (taken d x))) ∧
      (b.closing = [] → lastReply d z = some ⟨d.seq, d.typ, rOk⟩ ∧ (session d.session z).replies = (session d.session x).replies)) ∧
  (∀ t d s, let x := advance t s
    Authentic d x → d.isOpen = false → closedBulk d x = true → bitAt d.flags 2 = false →
    Does (.zcpBulkData t d) s (count (zcpRx d.port) d.session 1 (bindEnd d x))) ∧
  (∀ t d id s, let x := advance t s
    Accepted 0x0A04 d x → d.payload.length = Config.payloadLength 0x0A04 →
    (bulkOf d.session id x = none → Answers (.zcpBulkClose t d id) d rNotFound s x) ∧
    (∀ b, bulkOf d.session id x = some b → b.live = false → b.job = false →
      Answers (.zcpBulkClose t d id) d (if b.state = .done then rNotFound else b.state.result) s x) ∧
    (∀ b, bulkOf d.session id x = some b → b.job = true → Leads (.zcpBulkClose t d id) s fun z => restZ z = restZ
      (let y := setBulk { b with lastAt := x.time.now } x
       { y with zcp := { y.zcp with
          waiting := x.zcp.waiting ++ [⟨d.session, d.seq, d.typ, 4, bulkUnit d.session id⟩] } })) ∧
    (∀ b, bulkOf d.session id x = some b → b.live = true → b.job = false →
      (b.inbound = false → Answers (.zcpBulkClose t d id) d rOk s (setBulk { b with state := .done } x)) ∧
      (b.inbound = true → b.missing.2 = 0 → b.compressed = false → b.closing = [] →
        Answers (.zcpBulkClose t d id) d rOk s (setBulk { b with state := .done, data := [] } x)) ∧
      (b.inbound = true → b.missing.2 = 0 → b.compressed = true → x.egress.jobs.length < 16 →
        Leads (.zcpBulkClose t d id) s fun z => z.egress.jobs.length = x.egress.jobs.length + 1 ∧
          (bulkOf d.session id z).map (·.job) = some true ∧
          ⟨d.session, d.seq, d.typ, 4, bulkUnit d.session id⟩ ∈ z.zcp.waiting ∧ z.mem = x.mem ∧ z.force = x.force) ∧
      (b.inbound = true → b.missing.2 ≠ 0 →
        let y := setBulk { b with closing := b.closing ++ [(d.seq, x.time.now)], lastAt := x.time.now } x
        Leads (.zcpBulkClose t d id) s fun z => restZ z = restZ { y with zcp := { y.zcp with
          waiting := x.zcp.waiting ++ [⟨d.session, d.seq, d.typ, 3, bulkUnit d.session id⟩] } }))) ∧
  (∀ t d id lo n s, let x := advance t s
    Accepted 0x0A05 d x → d.payload.length = Config.payloadLength 0x0A05 →
    (bulkOf d.session id x = none → Answers (.zcpBulkReread t d id lo n) d rNotFound s x) ∧
    (∀ b, bulkOf d.session id x = some b → b.live = false →
      Answers (.zcpBulkReread t d id lo n) d (if b.state = .done then rNotFound else b.state.result) s x) ∧
    (∀ b, bulkOf d.session id x = some b → b.live = true →
      (b.inbound = true ∨ b.length < lo + n → Answers (.zcpBulkReread t d id lo n) d rBadValue s x) ∧
      (b.inbound = false → lo + n ≤ b.length → b.closing = [] → Leads (.zcpBulkReread t d id lo n) s fun z =>
        lastReply d z = some ⟨d.seq, d.typ, rOk⟩ ∧ z.power = x.power ∧ z.force = x.force))) ∧
  (∀ t d id s, let x := advance t s
    Accepted 0x0A06 d x → d.payload.length = Config.payloadLength 0x0A06 →
    (bulkOf d.session id x = none → Answers (.zcpBulkStatus t d id) d rNotFound s x) ∧
    (∀ b, bulkOf d.session id x = some b → Answers (.zcpBulkStatus t d id) d rOk s
      (if b.live then setBulk { b with lastAt := x.time.now } x else x))) ∧
  (∀ t (slot : Fin 4) id s, let x := advance t s
    (bulkOf slot id x = none → Does (.bulkWaitExpiry t slot id) s x ∧ Does (.bulkIdleExpiry t slot id) s x) ∧
    (∀ b q since rest, bulkOf slot id x = some b → b.closing = (q, since) :: rest →
      (x.time.now < since + nsT (par0 .zcpBulkWait x) → Does (.bulkWaitExpiry t slot id) s x) ∧
      (since + nsT (par0 .zcpBulkWait x) ≤ x.time.now → Leads (.bulkWaitExpiry t slot id) s fun z =>
        (bulkOf slot id z).map (fun w => (w.state, w.closing)) = some (.incomplete, rest) ∧
        (∀ w, x.zcp.waiting.find? (fun v => v.slot == slot.val && v.seq == q) = some w →
          (session slot z).comps.head? = some ⟨q, w.typ, rIncomplete⟩) ∧
        z.mem = x.mem ∧ z.force = x.force)) ∧
    (∀ b, bulkOf slot id x = some b → b.closing = [] → Does (.bulkWaitExpiry t slot id) s x) ∧
    (∀ b, bulkOf slot id x = some b →
      (b.live = true → b.job = false → b.lastAt + nsT (par0 .zcpBulkIdle x) ≤ x.time.now →
        Leads (.bulkIdleExpiry t slot id) s fun z => (bulkOf slot id z).map (·.state) = some .aborted ∧
          z.mem = x.mem ∧ z.force = x.force ∧ z.power = x.power) ∧
      (b.live = false ∨ b.job = true ∨ x.time.now < b.lastAt + nsT (par0 .zcpBulkIdle x) →
        Does (.bulkIdleExpiry t slot id) s x)))

/-- R285, R294 to R298: how admission ends. `force` is a readmission's (R308). -/
def Obligations.AdmissionEndsInOneOfThreeOutcomes : Prop :=
  ∀ p id trans x,
    let a := admitPlan p id trans false x
    let fails := fun q : Plan => (q.figures (trans q) x).fails
    a.report.length = 48 ∧
    (p.validity ≠ 0 → a.outcome = 2 ∧ a.reason = p.validity ∧ a.plan = none) ∧
    (p.validity = 0 → fails p = 0 → a.outcome = 0 ∧ a.reason = 0 ∧ ∃ k, a.plan = some { p with skew := k }) ∧
    (p.validity = 0 → fails p ≠ 0 →
      a.reason = fails p ∧ (a.outcome = 1 ∧ a.plan ≠ none ∨ a.outcome = 2 ∧ a.plan = none) ∧
      (p.par0 .planShedPolicy = 0 → a.outcome = 2) ∧
      (p.par0 .planShedPolicy = 2 →
        (a.outcome = 2 ↔ ∀ n, 1 ≤ n → n ≤ 8 → fails { p with skipN := n, shed := 2 } ≠ 0) ∧
        ∀ q, a.plan = some q → 1 ≤ q.skipN ∧ q.skipN ≤ 8 ∧ q = { p with skipN := q.skipN, shed := 2, skew := q.skew } ∧
          fails { p with skipN := q.skipN, shed := 2 } = 0 ∧
          ∀ n, 1 ≤ n → n < q.skipN → fails { p with skipN := n, shed := 2 } ≠ 0) ∧
      (p.par0 .planShedPolicy = 1 → p.channels.Nodup →
        ∀ q, a.plan = some q → q = { p with channels := q.channels, shed := 1, skew := q.skew } ∧
          q.channels ≠ [] ∧ q.channels.Sublist p.channels ∧ q.channels.length < p.channels.length ∧
          (∀ c ∈ p.channels, c ∉ q.channels → ∀ k ∈ q.channels, k < c) ∧
          fails { p with channels := q.channels, shed := 1 } = 0 ∧
          (∀ l : List Nat, l.Sublist p.channels → (∀ c ∈ p.channels, c ∉ l → ∀ k ∈ l, k < c) →
            q.channels.length < l.length → l.length < p.channels.length →
            fails { p with channels := l, shed := 1 } ≠ 0)))

/-- R282 to R284, R300 to R302, R306, R307: commits up to their commit point. -/
def Obligations.PlansAreCheckedCommittedAndCancelled : Prop :=
  (∀ t d s, let x := advance t s
    d.payload.length = 0 →
    (Accepted 0x0202 d x → Answers (.zcpPlanCheck t d) d rOk s x) ∧
    (Accepted 0x0205 d x → Answers (.zcpCapacityRecord t d) d rOk s x)) ∧
  (∀ t d at_ s, let x := advance t s
    let a := admitPlan (stagedPlan x) (nextPlanId x) (transition x) false x
    Accepted 0x0203 d x → d.payload.length = Config.payloadLength 0x0203 →
    (x.plan.next ≠ none → Answers (.zcpPlanCommit t d at_) d 0x22 s x) ∧
    (x.plan.next = none →
      (a.plan = none → Answers (.zcpPlanCommit t d at_) d rRefused s x) ∧
      (∀ p, a.plan = some p →
        (at_ = none → nextIntegration p x = none → Answers (.zcpPlanCommit t d at_) d 0x20 s x) ∧
        (∀ sc, at_ = some sc ∨ (at_ = none ∧ nextIntegration p x = some sc) →
          (boundaryOk p sc x = false → Answers (.zcpPlanCommit t d at_) d 0x20 s x) ∧
          (boundaryOk p sc x = true → leadOk sc x = false → Answers (.zcpPlanCommit t d at_) d 0x21 s x) ∧
          (boundaryOk p sc x = true → leadOk sc x = true → Answers (.zcpPlanCommit t d at_) d rOk s
            { x with plan := { x.plan with
              next := some { p with
                id := (x.plan.lastId + 1) % 2 ^ 32
                epoch := x.plan.lastEpoch + 1
                commit := x.plan.lastEpoch + 1
                sc := sc
                freshBanks := needsFresh p x }
              pointPassed := false
              lastEpoch := x.plan.lastEpoch + 1 } }))))) ∧
  (∀ t d s, let x := advance t s
    Accepted 0x0204 d x → d.payload.length = 0 →
    (x.plan.next = none → Answers (.zcpPlanCancel t d) d rNotFound s x) ∧
    (∀ p, x.plan.next = some p →
      (x.plan.pointPassed = true ∨ scTide p.sc x ≤ x.time.tide + msT 20 → Answers (.zcpPlanCancel t d) d 0x23 s x) ∧
      (x.plan.pointPassed = false → x.time.tide + msT 20 < scTide p.sc x →
        Answers (.zcpPlanCancel t d) d rOk s { x with plan := { x.plan with next := none } }))) ∧
  (∀ t s, let x := advance t s
    (x.plan.next = none → Does (.commitPoint t) s x) ∧
    (∀ p, x.plan.next = some p →
      (x.plan.pointPassed = true ∨ x.time.tide + msT 20 < scTide p.sc x → Does (.commitPoint t) s x) ∧
      (x.plan.pointPassed = false → scTide p.sc x ≤ x.time.tide + msT 20 → Leads (.commitPoint t) s fun z =>
        z.plan = { x.plan with next := some { p with known := x.time.tide }, pointPassed := true, lastId := p.id } ∧
        (∀ pd ∈ p.needs x, domain pd x = .off → stopped x = false → domain pd z = .waking) ∧ z.force = x.force ∧ z.pend = x.pend ∧
        z.data = x.data ∧ z.egress = x.egress ∧ z.boot = x.boot)))

/-- R279, R303, R305, R308: a commit and a shed at their boundaries. -/
def Obligations.CommitsAndShedsTakeEffectAtTheirBoundary : Prop :=
  (∀ t s, let x := advance t s
    (x.plan.next = none → Does (.commitBoundary t) s x) ∧
    (∀ p, x.plan.next = some p →
      (x.plan.pointPassed = false ∨ x.time.tide < scTide p.sc x → Does (.commitBoundary t) s x) ∧
      (x.plan.pointPassed = true → scTide p.sc x ≤ x.time.tide → Leads (.commitBoundary t) s fun z =>
        z.plan.running = some p ∧ z.plan.next = none ∧ z.plan.pointPassed = false ∧ z.plan.lastId = x.plan.lastId ∧
        par0 .planId z = p.id ∧ z.pend = x.pend ∧ z.boot = x.boot ∧
        (sWf keyReset p.cfg = true → ∀ i inst elem, inst < 4096 → elem < 65536 → i.desc.apply = 2 → i ≠ .planId →
          par i inst elem z = p.par i inst elem)))) ∧
  (∀ t s, let x := advance t s
    (x.plan.shedDue = none → Does (.shedTakeEffect t) s x) ∧
    (∀ p, x.plan.shedDue = some p →
      (x.time.tide < scTide p.sc x → Does (.shedTakeEffect t) s x) ∧
      (scTide p.sc x ≤ x.time.tide → Leads (.shedTakeEffect t) s fun z =>
        z.plan = { x.plan with running := some p, shedDue := none, old := x.plan.running.toList ++ x.plan.old } ∧
        z.force = x.force ∧ z.data = x.data ∧ z.power = x.power ∧ z.egress = x.egress ∧ z.mem.cells = x.mem.cells)))

/-- R311, R320 to R343: a sluice instruction's bundle. -/
def Obligations.SluiceInstructionsIssueOrTrap : Prop :=
  ∀ i row n ecc s, sluiceInstr i = some (row, n, ecc) →
    let c := (core n s).land (core n s).cycle
    let m := fun b : Bundle => memoryWord n c b (Config.freeWord s.free % 2 ^ 32) (Config.freeChoice s.free)
    let traps : Nat → Prop := fun cause => Leads i s fun z =>
      (core n z).state = .trapped ∧ (core n z).reg (.cr 13) = cause ∧ (core n z).reg (.cr 14) = (core n s).pc ∧
      (core n z).data = (core n s).data ∧ (core n z).prog = (core n s).prog ∧
      ctrGet .traps n z = min ctrMax (ctrGet .traps n s + 1) ∧
      eventCount .sluiceTrap z = min ctrMax (eventCount .sluiceTrap s + 1) ∧
      z.fault.sticky.getLsbD Fs.sluiceTrap.num = true ∧ (∀ k, k ≠ n.val → core k z = core k s) ∧
      z.mem = s.mem ∧ z.data = s.data ∧ z.force = s.force ∧ z.power = s.power
    ((core n s).state ≠ .running → Does i s s) ∧
    ((core n s).state = .running →
      (ecc = .uncorrectable → traps 6) ∧
      (ecc ≠ .uncorrectable → (core n s).host = false →
        Does i s (count .bundles n 1 (countEcc ecc n s))) ∧
      (ecc ≠ .uncorrectable → (core n s).host = true →
        (fetchBundle c.prog c.pc = none → traps 1) ∧
        (∀ b, fetchBundle c.prog c.pc = some b →
          (b.has row = false → Does i s s) ∧
          (b.has row = true → nextOk c b (m b).flow = false → traps 1) ∧
          (∀ cause, b.has row = true → nextOk c b (m b).flow = true → (m b).trap = some cause → traps cause) ∧
          (b.has row = true → nextOk c b (m b).flow = true → (m b).trap = none → Leads i s fun z =>
            let comp := b.comp.elim Slot2.empty (computeWord c)
            (∀ w ∈ (comp.wr.filter fun x => (m b).slot.wr.all fun y => y.1 != x.1) ++ (m b).slot.wr,
              (core n z).landAll.reg w.1 = w.2.1) ∧
            (core n z).pc = (nextPc c b (m b).flow).toNat % 2 ^ 14 ∧
            (core n z).cycle = (c.cycle + (m b).flow.cycles) % 2 ^ 64 ∧
            ((core n s).stopSince = none ∨ b.ni = true → (core n z).state = (m b).flow.state) ∧
            (core n z).data = (match (m b).store, (m b).cr with
              | some w, _ => Memory.write c.data w.1 w.2
              | none, some (32, v) => if c.moverQueue.length < 8 then Memory.setByte c.data (resultAt v) 0xFF else c.data
              | none, _ => c.data) ∧
            (core n z).prog = c.prog) ∧
          (b.has row = true → nextOk c b (m b).flow = true → (m b).trap = none → Leads i s fun z =>
            ctrGet .bundles n z = min ctrMax (ctrGet .bundles n s + 1) ∧
            ((∀ v, (m b).cr ≠ some (15, v)) → ∀ k, k ≠ n.val → core k z = core k s) ∧
            z.free = s.free + 1 ∧ z.mem = s.mem ∧ z.data = s.data ∧ z.force = s.force ∧ z.power = s.power ∧
            z.egress = s.egress ∧ z.weir = s.weir))))

/-- R322, R332: the compute slot. P and NI stand above the class. -/
def Obligations.SluiceComputeWordsCompute : Prop :=
  (∀ n v, 2 ≤ n →
    (∀ cl, (fit n cl false v).bits = (v % 2 ^ n).toNat ∧ (fit n cl false v).sv = false ∧
      ((fit n cl false v).ov = true ↔ ¬ (-(2 ^ (n - 1) : Int) ≤ v ∧ v < 2 ^ (n - 1)))) ∧
    (∀ cl, 2 ≤ cl → cl ≤ n → (fit n cl true v).ov = false ∧
      ((fit n cl true v).sv = true ↔ ¬ (-(2 ^ (cl - 1) : Int) ≤ v ∧ v < 2 ^ (cl - 1))) ∧
      signed n (fit n cl true v).bits = max (-(2 ^ (cl - 1) : Int)) (min v (2 ^ (cl - 1) - 1)))) ∧
  (∀ c top op S F ad dx dy, top < 4 → op ≤ 4 → S < 2 → F < 2 → ad < 4 → dx < 32 → dy < 32 →
    let w := top * 2 ^ 30 + 1 * 2 ^ 26 + op * 2 ^ 23 + S * 2 ^ 22 + F * 2 ^ 21 + ad * 2 ^ 19 + dx * 2 ^ 14 + dy * 2 ^ 9
    let y : Int := if op = 3 ∨ op = 4 then (c.d dy : Int) else signed 16 (c.d dy)
    let p := (if F = 1 then 2 else 1) * (signed 16 (c.d dx) * y)
    let a := signed 40 (c.accNow ad)
    let f := fit 40 32 (S == 1) (if op = 1 ∨ op = 4 then a + p else if op = 2 then a - p else p)
    wordOk w = true ∧ isCompute w = true ∧ wRow w = (1, op) ∧
      computeWord c w = ⟨[(.a c.inHandler ad, f.bits, 3)], f.sv, f.ov⟩) ∧
  (∀ c top op S W dd d1 d2 I, top < 4 → op ≤ 14 → S < 2 → W < 2 → dd < 32 → d1 < 32 → d2 < 32 → I < 2 →
    (W = 1 → dd % 2 = 0 ∧ d1 % 2 = 0 ∧ (op ∈ [0, 1, 2, 3, 4, 10, 11, 13, 14] → d2 % 2 = 0)) →
    let w := top * 2 ^ 30 + 2 * 2 ^ 26 + op * 2 ^ 22 + S * 2 ^ 21 + W * 2 ^ 20 + dd * 2 ^ 15 + d1 * 2 ^ 10 + d2 * 2 ^ 5 + I * 2 ^ 4
    let n := if W = 1 then 32 else 16
    let u1 := if W = 1 then c.pair d1 else c.d d1
    let u2 := if W = 1 then c.pair d2 else c.d d2
    let x := signed n u1
    let y := signed n u2
    let k := if I = 1 then d2 else c.d d2 % 32
    let r : Fit := match op with
      | 0 => fit n n (S == 1) (x + y)
      | 1 => fit n n (S == 1) (x - y)
      | 2 => ⟨u1 &&& u2, false, false⟩
      | 3 => ⟨u1 ||| u2, false, false⟩
      | 4 => ⟨u1 ^^^ u2, false, false⟩
      | 5 => if n ≤ k then ⟨0, false, false⟩ else fit n n (S == 1) (x * 2 ^ k)
      | 6 => ⟨wrapTo n (if n ≤ k then (if x < 0 then -1 else 0) else x / 2 ^ k), false, false⟩
      | 7 => ⟨if n ≤ k then 0 else u1 / 2 ^ k, false, false⟩
      | 8 => fit n n (S == 1) (if x < 0 then -x else x)
      | 9 => fit n n (S == 1) (-x)
      | 10 => ⟨wrapTo n (min x y), false, false⟩
      | 11 => ⟨wrapTo n (max x y), false, false⟩
      | 12 => ⟨wrapTo n x, false, false⟩
      | 13 => ⟨if x < y then 1 else 0, false, false⟩
      | _ => ⟨if x = y then 1 else 0, false, false⟩
    wordOk w = true ∧ isCompute w = true ∧ wRow w = (2, op) ∧
      computeWord c w = ⟨if W = 1 then toPair c dd r.bits 1 else toD c dd r.bits 1, r.sv, r.ov⟩) ∧
  (∀ c top op S W ad as dd sh rnd, top < 4 → op ≤ 7 → S < 2 → W < 2 → ad < 4 → as < 4 → dd < 32 → sh < 64 → rnd < 2 →
    (W = 1 → op = 5 ∨ op = 7 → dd % 2 = 0) →
    let w := top * 2 ^ 30 + 3 * 2 ^ 26 + op * 2 ^ 22 + S * 2 ^ 21 + W * 2 ^ 20 + ad * 2 ^ 18 + as * 2 ^ 16 + dd * 2 ^ 11 +
      sh * 2 ^ 5 + rnd * 2 ^ 4
    let a := signed 40 (c.a ad)
    let b := signed 40 (c.a as)
    let acc := fun f : Fit => (⟨[(.a c.inHandler ad, f.bits, 1)], f.sv, f.ov⟩ : Slot2)
    let e := fit (if W = 1 then 32 else 16) (if W = 1 then 32 else 16) (S == 1)
      ((b + (if rnd = 1 ∧ 0 < sh then 2 ^ (sh - 1) else 0)) / 2 ^ sh)
    wordOk w = true ∧ isCompute w = true ∧ wRow w = (3, op) ∧
    (op = 0 → computeWord c w = acc (fit 40 32 (S == 1) (a + b))) ∧
    (op = 1 → computeWord c w = acc (fit 40 32 (S == 1) (a - b))) ∧
    (op = 2 → computeWord c w = acc (if 40 ≤ sh then ⟨0, false, false⟩ else fit 40 32 (S == 1) (b * 2 ^ sh))) ∧
    (op = 3 → computeWord c w = acc (if 40 ≤ sh then ⟨if b < 0 then 2 ^ 40 - 1 else 0, false, false⟩
      else fit 40 32 (S == 1) (b / 2 ^ sh))) ∧
    (op = 4 → computeWord c w = acc ⟨0, false, false⟩) ∧
    (op = 5 → computeWord c w = ⟨if W = 1 then toPair c dd e.bits 1 else toD c dd e.bits 1, e.sv, e.ov⟩) ∧
    (op = 6 → computeWord c w = acc ⟨wrapTo 40 b, false, false⟩) ∧
    (op = 7 → computeWord c w =
      acc ⟨wrapTo 40 (if W = 1 then signed 32 (c.pair dd) else signed 16 (c.d dd)), false, false⟩)) ∧
  (∀ c top dd imm, top < 4 → dd < 32 → imm < 2 ^ 16 →
    let w := top * 2 ^ 30 + 9 * 2 ^ 26 + dd * 2 ^ 21 + imm * 2 ^ 5
    wordOk w = true ∧ isCompute w = true ∧ wRow w = (9, 0) ∧ computeWord c w = ⟨[(c.physD dd, imm, 1)], false, false⟩)

/-- R322 to R327, R331, R333, R335: the memory slot. `g` stands for the free value of a pointer whose LEN or
BITS is out of range. -/
def Obligations.SluiceMemoryWordsAccessMoveAndBranch : Prop :=
  (∀ c n (v : Int) g, n < 8 → c.inHandler = true → postMod c n v g = ((c.p n + v) % 2 ^ 32).toNat) ∧
  (∀ c n (v : Int) g, n < 16 → c.inHandler = false ∨ 8 ≤ n →
    let mode := c.reg (.cr (16 + n))
    let len := field mode 4 17
    let b := field mode 21 5
    (mode % 4 = 0 → postMod c n v g = ((c.p n + v) % 2 ^ 32).toNat) ∧
    (mode % 4 = 1 → 2 ≤ len → len ≤ 65536 → len % 2 = 0 → c.p n < 2 ^ 32 →
      let base := c.p n / 2 ^ ceilLog2 len * 2 ^ ceilLog2 len
      len ≤ 2 ^ ceilLog2 len ∧ base ≤ postMod c n v g ∧ postMod c n v g < base + len ∧
      ((postMod c n v g : Int) - base) % len = ((c.p n : Int) - base + v) % len) ∧
    (mode % 4 = 2 → 1 ≤ b → b ≤ 16 →
      postMod c n v g % 2 = c.p n % 2 ∧ postMod c n v g / 2 ^ (b + 1) = c.p n / 2 ^ (b + 1) ∧
      (revBits b (field (postMod c n v g) 1 b) : Int) = (revBits b (field (c.p n) 1 b) + v / 2) % 2 ^ b)) ∧
  (∀ c ni cls size pn dd am off g, ni < 2 → cls = 4 ∨ cls = 5 → size ≤ 2 → (cls = 5 → size ≤ 1) → pn < 16 → dd < 32 →
    am ≤ 5 → off < 2 ^ 12 → (size = 1 → dd % 2 = 0) →
    let w := ni * 2 ^ 30 + cls * 2 ^ 26 + size * 2 ^ 24 + pn * 2 ^ 20 + dd * 2 ^ 15 + am * 2 ^ 12 + off
    let z : Nat := if size = 1 then 4 else 2
    let p := c.p pn
    let a := if am = 4 then (p + off * z) % 2 ^ 32 else p
    let ptr := fun v : Int => [(c.physP pn, postMod c pn v g, 1)]
    let after : List (SReg × Nat × Nat) := if am = 1 then ptr z else if am = 2 then ptr (-(z : Int))
      else if am = 3 then ptr (signed 32 (c.p (off / 2 ^ 8))) else if am = 5 then ptr ((off * z : Nat) : Int) else []
    wordOk w = true ∧ isMemory w = true ∧ wRow w = (cls, 0) ∧
    (0x20000 ≤ a → (loadWord c w g).trap = some 2 ∧ (storeWord c w g).trap = some 2) ∧
    (a < 0x20000 → a % z ≠ 0 → (loadWord c w g).trap = some 3 ∧ (storeWord c w g).trap = some 3) ∧
    (a < 0x20000 → a % z = 0 →
      let v := leNat (Memory.read c.data a z)
      (cls = 4 → loadWord c w g = { MemDo.nop with slot := ⟨(if size = 2 then
        [(.a c.inHandler (dd % 4), wrapTo 40 (signed 16 v), 2)] else if size = 1 then
        toPair c dd v 2 else toD c dd v 2) ++ after, false, false⟩ }) ∧
      (cls = 5 → storeWord c w g = { MemDo.nop with
        slot := ⟨after, false, false⟩
        store := some (a, natLE z (if size = 1 then c.pair dd else c.d dd)) }))) ∧
  (∀ c ni ad pn qn S F Z g, ni < 2 → ad < 4 → pn < 16 → qn < 16 → S < 2 → F < 2 → Z < 2 →
    let w := ni * 2 ^ 30 + 8 * 2 ^ 26 + ad * 2 ^ 24 + pn * 2 ^ 20 + qn * 2 ^ 16 + S * 2 ^ 15 + F * 2 ^ 14 + Z * 2 ^ 13
    let a := c.p pn
    let b := c.p qn
    let h := signed 16 (leNat (Memory.read c.data a 2))
    let x := signed 16 (leNat (Memory.read c.data b 2))
    let p := (if F = 1 then 2 else 1) * (h * x)
    let f := fit 40 32 (S == 1) (if Z = 1 then p else signed 40 (c.accNow ad) + p)
    wordOk w = true ∧ wRow w = (8, 0) ∧
    (a % 2 = 0 → b % 2 = 0 → a < 0x20000 → b < 0x1FFFE → (pn ≠ qn → ftapWord c w g = { MemDo.nop with
        slot := ⟨[(.a c.inHandler ad, f.bits, 3), (c.physP pn, postMod c pn 2 g, 1), (c.physP qn, postMod c qn (-2) g, 1)],
          f.sv, f.ov⟩
        store := some (b + 2, Memory.read c.data b 2) }) ∧
      (ftapWord c w g).trap = none ∧ (.a c.inHandler ad, f.bits, 3) ∈ (ftapWord c w g).slot.wr ∧
      (ftapWord c w g).store = some (b + 2, Memory.read c.data b 2)) ∧
    (0x20000 ≤ a → (ftapWord c w g).trap = some 2) ∧ (a < 0x20000 → a % 2 = 1 → (ftapWord c w g).trap = some 3)) ∧
  (∀ c ni op pn pm imm, ni < 2 → op ≤ 4 → pn < 16 → pm < 16 → imm < 2 ^ 15 →
    let w := ni * 2 ^ 30 + 6 * 2 ^ 26 + op * 2 ^ 23 + pn * 2 ^ 19 + pm * 2 ^ 15 + imm
    let v := match op with
      | 0 => wrapTo 32 (c.p pn + signed 15 imm)
      | 1 => (c.p pn + c.p pm) % 2 ^ 32
      | 2 => wrapTo 32 ((c.p pn : Int) - c.p pm)
      | 3 => imm * 4
      | _ => c.p pm
    wordOk w = true ∧ isMemory w = true ∧ wRow w = (6, op) ∧
      addrWord c w = { MemDo.nop with slot := ⟨[(c.physP pn, v, 1)], false, false⟩ }) ∧
  (∀ id c ni op dd pn ad k, ni < 2 → op ≤ 5 → dd < 32 → pn < 16 → ad < 4 → k < 64 → (op < 5 → dd % 2 = 0) →
    let w := ni * 2 ^ 30 + 7 * 2 ^ 26 + op * 2 ^ 22 + dd * 2 ^ 17 + pn * 2 ^ 13 + ad * 2 ^ 11 + k * 2 ^ 5
    let regs := fun l => { MemDo.nop with slot := (⟨l, false, false⟩ : Slot2) }
    wordOk w = true ∧ isMemory w = true ∧ wRow w = (7, op) ∧ moveWord id c w = match op with
      | 0 => regs [(c.physP pn, c.pair dd, 1)]
      | 1 => regs (toPair c dd (c.p pn) 1)
      | 2 => { MemDo.nop with cr := some (k, c.pair dd) }
      | 3 => { regs (toPair c dd (c.crRead id k) 1) with latch := decide (k = 10) }
      | 4 => regs (toPair c dd (c.a ad % 2 ^ 32) 1)
      | _ => regs (toD c dd (wrapTo 16 (signed 8 (c.a ad / 2 ^ 32))) 1)) ∧
  (∀ c ni op dd pn k imm, ni < 2 → op ≤ 3 → dd < 32 → pn < 16 → k < 64 → imm < 2 ^ 32 → (op = 0 → dd % 2 = 0) →
    let w := 2 ^ 31 + ni * 2 ^ 30 + 15 * 2 ^ 26 + op * 2 ^ 22 + dd * 2 ^ 17 + pn * 2 ^ 13 + k * 2 ^ 7
    wordOk w = true ∧ wRow w = (15, op) ∧ longWord c w imm = match op with
      | 0 => { MemDo.nop with slot := ⟨toPair c dd imm 1, false, false⟩ }
      | 1 => { MemDo.nop with slot := ⟨[(c.physP pn, imm, 1)], false, false⟩ }
      | 2 => { MemDo.nop with cr := some (k, imm) }
      | _ => { MemDo.nop with flow := .jump ((imm % 2 ^ 14 : Nat) : Int) }) ∧
  (∀ c (at_ next : Nat) pick (cond ds off : Nat), cond ≤ 4 → ds < 32 → off < 2 ^ 14 →
    let target : Int := at_ + (if off < 2 ^ 13 then (off : Int) else off - 2 ^ 14)
    let br := 1 * 2 ^ 22 + cond * 2 ^ 19 + ds * 2 ^ 14 + off
    let v := signed 16 (c.d ds)
    let holds : Prop := cond = 0 ∨ (cond = 1 ∧ v = 0) ∨ (cond = 2 ∧ v ≠ 0) ∨ (cond = 3 ∧ v < 0) ∨ (cond = 4 ∧ 0 ≤ v)
    wordOk br = true ∧ wRow br = (0, 1) ∧
    (c.d ds < 2 ^ 16 → (holds → ctrlWord c br at_ next pick = { MemDo.nop with flow := .jump target }) ∧
      (¬ holds → ctrlWord c br at_ next pick = MemDo.nop)) ∧
    ctrlWord c (2 * 2 ^ 22 + off) at_ next pick =
      { MemDo.nop with slot := ⟨[(.cr 5, next, 1)], false, false⟩, flow := .jump target } ∧
    ctrlWord c (3 * 2 ^ 22) at_ next pick = { MemDo.nop with flow := .jump (c.reg (.cr 5)) }) ∧
  (∀ c (at_ next : Nat) pick (rot count ds end_ : Nat), ds < 32 → rot < 2 → count < 2 ^ 10 → 0 < end_ → end_ < 2 ^ 10 → at_ + end_ < 2 ^ 14 →
    let w := 4 * 2 ^ 22 + rot * 2 ^ 21 + count * 2 ^ 10 + end_
    wordOk w = true ∧ wRow w = (0, 4) ∧
    (c.inHandler = false → c.reg (.cr 2) % 65536 = 0 → ctrlWord c w at_ next pick = { MemDo.nop with
      loop := some (at_ + 1, at_ + end_, rot * 65536 + count)
      flow := if count = 0 then .skip (at_ + end_ + 1) else .seq }) ∧
    (c.inHandler = false → c.reg (.cr 2) % 65536 = 0 →
      ctrlWord c (4 * 2 ^ 22 + rot * 2 ^ 21 + 2 ^ 20 + ds * 2 ^ 15 + end_) at_ next pick = { MemDo.nop with
        loop := some (at_ + 1, at_ + end_, rot * 65536 + c.d ds)
        flow := if c.d ds = 0 then .skip (at_ + end_ + 1) else .seq }) ∧
    (c.inHandler = true → c.reg (.cr 2) % 65536 = 0 → (ctrlWord c w at_ next pick).trap = some 5) ∧
    (c.inHandler = false → c.reg (.cr 2) % 65536 ≠ 0 → (ctrlWord c w at_ next pick).trap = some 4) ∧
    (c.inHandler = false → (ctrlWord c (5 * 2 ^ 22) at_ next pick).trap = some 5) ∧
    (c.inHandler = true → ctrlWord c (5 * 2 ^ 22) at_ next pick = { MemDo.nop with flow := .reti }) ∧
    ctrlWord c 0 at_ next pick = MemDo.nop ∧
    ctrlWord c (6 * 2 ^ 22) at_ next pick = { MemDo.nop with flow := .wait } ∧
    ctrlWord c (7 * 2 ^ 22) at_ next pick = { MemDo.nop with flow := .halt } ∧
    ctrlWord c (8 * 2 ^ 22) at_ next pick = { MemDo.nop with ie := some true } ∧
    ctrlWord c (9 * 2 ^ 22) at_ next pick = { MemDo.nop with ie := some false })

/-- R319. -/
def Obligations.StartSetsARegisterFileToReset : Prop :=
  ∀ t d n s, let x := advance t s
    Accepted 0x0803 d x → d.payload.length = Config.payloadLength 0x0803 → n ≤ 63 → (core n x).host = true →
    (core n x).state = .loadable ∨ (core n x).state = .halted ∨ (core n x).state = .trapped →
    Leads (.zcpSluiceStart t d n) s fun z =>
      lastReply d z = some ⟨d.seq, d.typ, rOk⟩ ∧ (core n z).state = .running ∧ (core n z).pc = 0 ∧
      (core n z).late = [] ∧ (∀ r, (core n z).reg r = 0) ∧
      (∀ k, k < 64 → (core n z).crRead n k = if k = 12 then n else if k = 33 then 8 else 0) ∧
      (core n z).prog = (core n x).prog ∧ (core n z).data = (core n x).data

/-- R345, R346, R356, R357: the sluice mailbox. -/
def Obligations.SluiceCommandsStopAskAndSolve : Prop :=
  (∀ t d n s, let x := advance t s
    (Accepted 0x0803 d x → d.payload.length = Config.payloadLength 0x0803 →
      (63 < n → Answers (.zcpSluiceStart t d n) d 0x4B s x) ∧
      (n ≤ 63 → (core n x).host = false → Answers (.zcpSluiceStart t d n) d 0x4A s x) ∧
      (n ≤ 63 → (core n x).host = true → (core n x).state = .running ∨ (core n x).state = .waiting →
        Answers (.zcpSluiceStart t d n) d rBusy s x) ∧
      (n ≤ 63 → (core n x).host = true → (core n x).state = .off → Answers (.zcpSluiceStart t d n) d rRefused s x)) ∧
    (Accepted 0x0804 d x → d.payload.length = Config.payloadLength 0x0804 →
      (63 < n → Answers (.zcpSluiceStop t d n) d 0x4B s x) ∧
      (n ≤ 63 → (core n x).host = false → Answers (.zcpSluiceStop t d n) d 0x4A s x) ∧
      (n ≤ 63 → (core n x).host = true → (core n x).state = .off → Answers (.zcpSluiceStop t d n) d rRefused s x) ∧
      (n ≤ 63 → (core n x).host = true → (core n x).state ≠ .off →
        ((core n x).state = .running ∨ (core n x).state = .waiting → (core n x).lastNI = true →
          Answers (.zcpSluiceStop t d n) d rOk s (setCore n { core n x with
            stopSince := some ((core n x).stopSince.getD x.time.now) } x)) ∧
        ((core n x).lastNI = false ∨ ((core n x).state ≠ .running ∧ (core n x).state ≠ .waiting) →
          (core n x).newHost = none → Answers (.zcpSluiceStop t d n) d rOk s
            (setCore n { (core n x).landAll with stopSince := none, state := .loadable } x)))) ∧
    (Accepted 0x0805 d x → d.payload.length = Config.payloadLength 0x0805 →
      (63 < n → Answers (.zcpSluiceStatus t d n) d 0x4B s x) ∧
      (n ≤ 63 → (core n x).host = false → Answers (.zcpSluiceStatus t d n) d 0x4A s x) ∧
      (n ≤ 63 → (core n x).host = true → Answers (.zcpSluiceStatus t d n) d rOk s x))) ∧
  (∀ t d (area r : Fin 2) chans s, let x := advance t s
    Accepted 0x0806 d x → d.payload.length = Config.payloadLength 0x0806 →
    ((∀ n < 64, (core n x).host = true) → Answers (.zcpSluiceGainSolve t d area r chans) d rRefused s x) ∧
    ((∃ n < 64, (core n x).host = false) → domain 33 x = .on →
      (x.plan.running = none ∨ (region area r x).state ≠ .sealed →
        Answers (.zcpSluiceGainSolve t d area r chans) d rRefused s x) ∧
      (∀ p, x.plan.running = some p → (region area r x).state = .sealed →
        ((∃ c ∈ chans, c ∉ p.areaChannels area) → Answers (.zcpSluiceGainSolve t d area r chans) d rBadValue s x) ∧
        ((∀ c ∈ chans, c ∈ p.areaChannels area) →
          Leads (.zcpSluiceGainSolve t d area r chans) s fun z => lastReply d z = some ⟨d.seq, d.typ, rOk⟩ ∧
            z.data = x.data ∧ z.mem = x.mem ∧ z.sluice = x.sluice ∧ z.power = x.power))) ∧
    ((∃ n < 64, (core n x).host = false) → domain 33 x ≠ .on → domain 33 x = .tripped ∨ stopped x = true →
      Answers (.zcpSluiceGainSolve t d area r chans) d rRefused s x) ∧
    ((∃ n < 64, (core n x).host = false) → domain 33 x ≠ .on → domain 33 x ≠ .tripped → stopped x = false →
      Leads (.zcpSluiceGainSolve t d area r chans) s fun z =>
        z.zcp.waiting = x.zcp.waiting ++ [⟨d.session, d.seq, d.typ, 5, 0⟩] ∧ z.sluice.solveHold = true ∧
        z.data = x.data ∧ z.mem = x.mem))

/-- R317, R337 to R339, R346 to R351, R359. -/
def Obligations.SluiceCoresInterruptTapAndMove : Prop :=
  (∀ t (n : Fin 64) waited s, let x := advance t s
    let c := core n x
    (c.recognises = false → Does (.interruptEntry t n waited) s x) ∧
    (c.recognises = true → Leads (.interruptEntry t n waited) s fun z =>
      (core n z).inHandler = true ∧ (core n z).pc = 8 ∧ (core n z).reg (.cr 6) = c.pc ∧ (core n z).late = [] ∧
      (core n z).state = .running ∧ (core n z).data = c.data ∧ (core n z).prog = c.prog ∧
      (core n z).cycle = (if c.state = .waiting then c.cycle + waited + 3 else c.lastIssue + 4) % 2 ^ 64 ∧
      (∀ r : SReg, r.key ≠ 86 → r.key ≠ 88 → (core n z).reg r = c.landAll.reg r) ∧
      (∀ k, k ≠ n.val → core k z = core k x) ∧ z.mem = x.mem ∧ z.data = x.data) ∧
    (c.recognises = true → c.inHandler = false ∧ c.lastNI = false)) ∧
  (∀ t (n : Fin 64) s, let x := advance t s
    let c := core n x
    (c.state ≠ .waiting → Does (.timerMatch t n) s x) ∧
    (c.state = .waiting → (∀ l ∈ c.late, l.reg.key ≠ 88) → Leads (.timerMatch t n) s fun z =>
      bitAt (core n z).irqPend 2 = true ∧ (core n z).cycle % 2 ^ 32 = (c.reg (.cr 9) + 1) % 2 ^ 32 ∧
      (core n z).pc = c.pc ∧ (core n z).state = .waiting ∧ (∀ k, k ≠ n.val → core k z = core k x) ∧ z.mem = x.mem) ∧
    (c.state = .off → Does (.cycleLoRead t n) s x ∧ (∀ k, Does (.peerRaise t n k) s x) ∧
      (∀ a, Does (.moverSubmit t n a) s x) ∧ ∀ v, Does (.tapCtlWrite t n v) s x) ∧
    (c.state ≠ .off →
      Does (.cycleLoRead t n) s (setCore n { c with cycleHi := c.cycle / 2 ^ 32 % 2 ^ 32 } x) ∧
      (∀ k : Fin 8, Leads (.peerRaise t n k) s fun z =>
        bitAt (core (n.val / 8 * 8 + k) z).irqPend 4 = true ∧
        (∀ j, j ≠ n.val / 8 * 8 + k → core j z = core j x) ∧ z.mem = x.mem ∧ z.data = x.data) ∧
      (∀ a, (8 ≤ c.moverQueue.length → Does (.moverSubmit t n a) s (count .moverDropped n 1 x)) ∧
        (c.moverQueue.length < 8 → Does (.moverSubmit t n a) s
          (setCore n { c with
            moverQueue := c.moverQueue ++ [a % 2 ^ 32]
            data := c.data.setByte (resultAt (a % 2 ^ 32)) 0xFF } x))) ∧
      (∀ v, Leads (.tapCtlWrite t n v) s fun z =>
        (core n z).reg (.cr 34) = v % 2 ^ 32 &&& 0x0FFFFF1D ∧
        (v % 2 = 1 → c.reg (.cr 34) % 2 = 0 → (core n z).reg (.cr 37) = 0 ∧ (core n z).reg (.cr 38) = 0) ∧
        (v % 2 = 0 → (∀ w ∈ z.sluice.taps, w.core ≠ n.val) ∧ (core n z).reg (.cr 37) = c.reg (.cr 37)) ∧
        (∀ k, k ≠ n.val → core k z = core k x) ∧ z.mem = x.mem ∧ z.data = x.data))) ∧
  (∀ t (cl : Fin 8) r s, let x := advance t s
    (moverCore cl x = none → Does (.moverDescDone t ⟨cl, r⟩) s x) ∧
    (∀ n, moverCore cl x = some n →
      (masterIssues (2 + cl) x = false ∨ moverHeld n x = true → Does (.moverDescDone t ⟨cl, r⟩) s x) ∧
      (masterIssues (2 + cl) x = true → moverHeld n x = false →
        let a := (core n x).moverQueue.headD 0
        let v := leNat ((core n x).data.read (a % 0x20000) 32)
        let far : Prop := 0x20000 < field v 64 17 + field v 88 16
        let x1 := setCore n { core n x with moverQueue := (core n x).moverQueue.drop 1 } x
        let y := (moveDesc cl n (moverHead n x) r x1).2
        Leads (.moverDescDone t ⟨cl, r⟩) s fun z =>
          (far → (core n z).moverQueue = (core n x).moverQueue.drop 1 ∧ z.mem = x.mem) ∧
          (core n z).moverQueue = (core n y).moverQueue ∧ bitAt (core n z).irqPend 1 = true ∧
          z.sluice.movers.getD cl 7 = n % 8 ∧ z.mem = y.mem ∧
          ((core n z).data.byte (resultAt a)).toNat = (if far then 2 else 0) ∧
          ctrGet .moverDescs n z = min ctrMax (ctrGet .moverDescs n y + 1)))) ∧
  (∀ t (n : Fin 64) corrected full s, let x := advance t s
    (∀ bad, tapNext n x = none → Does (.tapRecord t n ⟨bad, corrected, full⟩) s x) ∧
    (∀ bad d, tapNext n x = some d → Leads (.tapRecord t n ⟨bad, corrected, full⟩) s fun z =>
      z.sluice.taps = (tapStep d x).sluice.taps ∧ (∀ k, k ≠ n.val → core k z = core k x) ∧
      (bad = false → z.data = x.data) ∧ z.mem = x.mem ∧ z.force = x.force) ∧
    ((core n x).stopSince = none → Does (.coreStopForced t n) s x) ∧
    (∀ t0, (core n x).stopSince = some t0 →
      (x.time.now < t0 + msT 1 → Does (.coreStopForced t n) s x) ∧
      (t0 + msT 1 ≤ x.time.now → Leads (.coreStopForced t n) s fun z =>
        ctrGet .forcedStops n z = min ctrMax (ctrGet .forcedStops n x + 1) ∧ (core n z).stopSince = none ∧
        (core n z).late = [] ∧ ((core n x).newHost = none → (core n z).state = .loadable) ∧
        (core n z).data = (core n x).data ∧ (core n z).prog = (core n x).prog)) ∧
    ((core n x).host = true ∨ (core n x).state ≠ .trapped ∨ (core n x).left = true → Does (.stockCoreReload t n) s x) ∧
    ((core n x).host = false → (core n x).state = .trapped → (core n x).left = false →
      ((core n x).again = false → Does (.stockCoreReload t n) s
        (setCore n { resetCore with
          state := .running
          trapAt := (core n x).trapAt } x)) ∧
      ((core n x).again = true → Leads (.stockCoreReload t n) s fun z =>
        (core n z).left = true ∧ (core n z).state = .trapped ∧ z.fault.sticky.getLsbD Fs.sluiceCore.num = true ∧
        (∀ w ∈ z.sluice.stats, w.core ≠ some n.val) ∧ z.sluice.stats.length = x.sluice.stats.length))) ∧
  (∀ (n : Fin 64) cause x, let z := trapCore n cause x
    (core n z).trapAt = some x.time.now ∧
    ((core n z).again = true ↔ ∃ t0, (core n x).trapAt = some t0 ∧ x.time.now < t0 + secT 60)) ∧
  (∀ (n : Fin 64) bytes x, let c := core n x
    let room : Prop := c.tapFill + bytes.length ≤ c.reg (.cr 36)
    (¬ room → ringRecord n bytes x = count .tapOverrun n 1 x) ∧
    (room → (core n (ringRecord n bytes x)).reg (.cr 37) = (c.reg (.cr 37) + bytes.length) % 2 ^ 32 ∧
      ctrGet .tapRecords n (ringRecord n bytes x) = min ctrMax (ctrGet .tapRecords n x + 1)))

/-- R370 to R373: the time transmitter role. Message layouts are IEEE 1588's (log entry 14). -/
def Obligations.PtpTransmittersSendAndAnswer : Prop :=
  (∀ t (port : Fin 128) raw s, let x := advance t s
    let p := txPort port x
    (txRuns port x = false → Does (.ptpSyncTx t port raw) s x ∧ Does (.ptpAnnounceTx t port) s x ∧
      ∀ m, let y := countFrame port m.len m.fecCorr m.fecUncorr x
        (portUp port x = false → Does (.ptpDelayReqRx t port m) s x) ∧
        (portUp port x = true → m.fcsOk = true → m.len ≤ 9216 → Does (.ptpDelayReqRx t port m) s y)) ∧
    (txRuns port x = true → par0 .timingPtpTxDomain x < 256 → p.syncSeq < 2 ^ 16 →
      Leads (.ptpSyncTx t port raw) s fun z =>
        (∃ b, Sent.ptp port (ptpTo port 0 x) b (txStamp port raw x) ∈ z.sent ∧ ptpType b = 0 ∧ ptpTwoStep b = true ∧ ptpSeq b = p.syncSeq) ∧
        (∃ b, Sent.ptp port (ptpTo port 8 x) b (txStamp port raw x) ∈ z.sent ∧ ptpType b = 8 ∧ ptpSeq b = p.syncSeq) ∧
        (txPort port z).syncSeq = (p.syncSeq + 1) % 2 ^ 16 ∧
        ctrGet .ptpTxEvent port z = min ctrMax (ctrGet .ptpTxEvent port x + 1) ∧
        z.time.tide = x.time.tide ∧ z.mem = x.mem ∧ z.data = x.data ∧ z.force = x.force) ∧
    (txRuns port x = true → Leads (.ptpAnnounceTx t port) s fun z =>
      (∃ b, Sent.ptp port (ptpTo port 11 x) b x.time.tide ∈ z.sent ∧ ptpType b = 11 ∧ b.length = 64 ∧
        beAt b 48 1 = clockClassOf (moduleClock x).1 ∧ beAt b 50 2 = (moduleClock x).2.2.1) ∧
      (txPort port z).announceSeq = (p.announceSeq + 1) % 2 ^ 16 ∧
      z.time.tide = x.time.tide ∧ z.mem = x.mem ∧ z.data = x.data ∧ z.force = x.force)) ∧
  (∀ t (port : Fin 128) m s, let x := advance t s
    let y := countFrame port m.len m.fecCorr m.fecUncorr x
    let inSecond := inLastSecond (txPort port x).answers x
    (portUp port x = true → m.fcsOk = false ∨ 9216 < m.len →
      Does (.ptpDelayReqRx t port m) s (discard port .fcsErr y)) ∧
    (txRuns port x = true → m.fcsOk = true → m.len ≤ 9216 →
      (ptpSound m.bytes = false → Does (.ptpDelayReqRx t port m) s (count .ptpDisc port 1 y)) ∧
      (ptpSound m.bytes = true → ptpType m.bytes = 1 → ptpDomain m.bytes = par0 .timingPtpTxDomain x →
        isP2P port x = false →
        (inSecond.length < 128 → Leads (.ptpDelayReqRx t port m) s fun z =>
          (∃ b, Sent.ptp port (ptpTo port 9 x) b x.time.tide ∈ z.sent ∧ ptpType b = 9 ∧ ptpSeq b = ptpSeq m.bytes ∧
            beAt b 44 10 = ptpSource m.bytes ∧ ptpDomain b = ptpDomain m.bytes) ∧
          (txPort port z).answers = x.time.now :: inSecond ∧
          ctrGet .rxFrames port z = min ctrMax (ctrGet .rxFrames port x + 1) ∧
          ctrGet .ptpRxEvent port z = min ctrMax (ctrGet .ptpRxEvent port x + 1) ∧ z.mem = x.mem ∧ z.data = x.data) ∧
        (128 ≤ inSecond.length →
          Does (.ptpDelayReqRx t port m) s (count .ptpRateDisc port 1 (count .ptpRxEvent port 1 y)))))) ∧
  (∀ t (port : Fin 130) m raw s, let x := advance t s
    let y := if port.val < 128 then countFrame port m.len m.fecCorr m.fecUncorr x else x
    let dom := if port.val < 128 then par0 .timingPtpTxDomain x else par .timingPtpRxDomain port 0 x
    let inSecond := inLastSecond (txPort port x).answers x
    let taken : Prop := m.fcsOk = true ∧ (m.len ≤ 9216 ∨ 128 ≤ port.val)
    (portUp port x = false → Does (.ptpPdelayReqRx t port m raw) s x) ∧
    (portUp port x = true → port.val < 128 → m.fcsOk = false ∨ 9216 < m.len →
      Does (.ptpPdelayReqRx t port m raw) s (discard port .fcsErr y)) ∧
    (portUp port x = true → 128 ≤ port.val → m.fcsOk = false → Does (.ptpPdelayReqRx t port m raw) s x) ∧
    (portUp port x = true → taken → ptpRuns port x = false → Does (.ptpPdelayReqRx t port m raw) s y) ∧
    (portUp port x = true → taken → ptpRuns port x = true →
      (ptpSound m.bytes = false → Does (.ptpPdelayReqRx t port m raw) s (count .ptpDisc port 1 y)) ∧
      (ptpSound m.bytes = true → ptpType m.bytes = 2 → ptpDomain m.bytes = dom → isP2P port x = true →
        (inSecond.length < 128 → Leads (.ptpPdelayReqRx t port m raw) s fun z =>
          (∃ b, Sent.ptp port (ptpTo port 3 x) b (txStamp port raw x) ∈ z.sent ∧ ptpType b = 3 ∧ ptpSeq b = ptpSeq m.bytes ∧
            beAt b 44 10 = ptpSource m.bytes) ∧
          (∃ b, Sent.ptp port (ptpTo port 10 x) b (txStamp port raw x) ∈ z.sent ∧ ptpType b = 10 ∧
            ptpSeq b = ptpSeq m.bytes ∧ beAt b 44 10 = ptpSource m.bytes) ∧
          (txPort port z).answers = x.time.now :: inSecond ∧ z.mem = x.mem ∧ z.data = x.data) ∧
        (128 ≤ inSecond.length →
          Does (.ptpPdelayReqRx t port m raw) s (count .ptpRateDisc port 1 (count .ptpRxEvent port 1 y))))))

/-- R372 to R378: the time receiver role and the transparent clock. -/
def Obligations.PtpReceiversSelectMeasureAndForward : Prop :=
  (∀ t (port : Fin 130) m s, let x := advance t s
    let y := countFrame port m.len m.fecCorr m.fecUncorr x
    timingRuns x = true → portUp port x = true → m.fcsOk = true → ptpSound m.bytes = true → ptpType m.bytes = 11 →
    (port.val < 128 → m.len ≤ 9216 → Does (.ptpAnnounceRx t port m) s
      (if txRuns port x then count .announceIgnored port 1 y else y)) ∧
    (∀ p : Fin 2, port.val = 128 + p →
      ptpDomain m.bytes = par .timingPtpRxDomain (128 + p.val) 0 x →
      ((rxPort p x).sel = none → Leads (.ptpAnnounceRx t port m) s fun z =>
        (rxPort p z).sel = some { src := ptpSource m.bytes, data := announceData m.bytes, lastAnnounce := x.time.now
                                  logAnnounce := ptpLog m.bytes, lastSync := x.time.now, logSync := 0 } ∧
        (ref (2 + p) z).ql = qlOfClass (beAt m.bytes 48 1) ∧ z.mem = x.mem ∧ z.data = x.data) ∧
      (∀ y, (rxPort p x).sel = some y →
        (y.src = ptpSource m.bytes → Leads (.ptpAnnounceRx t port m) s fun z =>
          (rxPort p z).sel = some { y with data := announceData m.bytes, lastAnnounce := x.time.now
                                           logAnnounce := ptpLog m.bytes }) ∧
        (y.src ≠ ptpSource m.bytes → betterData (announceData m.bytes) (ptpSource m.bytes) y.data y.src = false →
          Does (.ptpAnnounceRx t port m) s x) ∧
        (y.src ≠ ptpSource m.bytes → betterData (announceData m.bytes) (ptpSource m.bytes) y.data y.src = true →
          Leads (.ptpAnnounceRx t port m) s fun z =>
            (rxPort p z).sel.map (·.src) = some (ptpSource m.bytes) ∧ (rxPort p z).offset = none ∧
            (rxPort p z).pathDelay = none ∧
            ctrGet .ptpTxLoss (128 + p) z = min ctrMax (ctrGet .ptpTxLoss (128 + p) x + 1))))) ∧
  (∀ t (p : Fin 2) m s, let x := advance t s
    let q := rxPort p x
    let t2 := rxStamp (128 + p) m.raw x
    let measured : State → Int → Prop := fun z diff =>
      (rxPort p z).syncDiff = some diff ∧ (rxPort p z).pendSync = none ∧
      (rxPort p z).sel.map (·.lastSync) = some x.time.now ∧
      (∀ d since, q.pathDelay = some (d, since) → (rxPort p z).offset =
        some (diff - d - signed 64 (par .timingPtpAsym (128 + p) 0 x), x.time.now)) ∧
      (q.pathDelay = none → (rxPort p z).offset = q.offset)
    (timingRuns x = false ∨ hostUp p x = false → Does (.ptpSyncRx t p m) s x ∧ Does (.ptpFollowUpRx t p m) s x) ∧
    (timingRuns x = true → hostUp p x = true → m.fcsOk = true → ptpSound m.bytes = true →
      fromSelected p m.bytes x = true →
      (ptpType m.bytes = 0 → ptpTwoStep m.bytes = true → Does (.ptpSyncRx t p m) s
        (setRxPort p { q with pendSync := some ⟨ptpSeq m.bytes, ptpCorr m.bytes, t2⟩ } (count .ptpRxEvent (128 + p) 1 x))) ∧
      (ptpType m.bytes = 0 → ptpTwoStep m.bytes = false → Leads (.ptpSyncRx t p m) s fun z =>
        measured z ((t2 : Int) - ptpStamp m.bytes 34 - ptpCorr m.bytes) ∧ z.mem = x.mem ∧ z.data = x.data) ∧
      (∀ y, q.pendSync = some y → ptpType m.bytes = 8 →
        (y.seq = ptpSeq m.bytes → Leads (.ptpFollowUpRx t p m) s fun z =>
          measured z ((y.rxTime : Int) - ptpStamp m.bytes 34 - (y.corr + ptpCorr m.bytes)) ∧ z.mem = x.mem ∧ z.data = x.data) ∧
        (y.seq ≠ ptpSeq m.bytes → Does (.ptpFollowUpRx t p m) s x)))) ∧
  (∀ t (p : Fin 2) raw s, let x := advance t s
    let q := rxPort p x
    let at_ := txStamp (128 + p) raw x
    (timingRuns x = false ∨ hostUp p x = false ∨ q.sel = none → Does (.ptpDelayReqTx t p raw) s x) ∧
    (timingRuns x = true → hostUp p x = true → q.sel ≠ none → q.nextReq < 2 ^ 16 →
      Leads (.ptpDelayReqTx t p raw) s fun z =>
        (rxPort p z).req = some (q.nextReq, at_) ∧ (rxPort p z).nextReq = (q.nextReq + 1) % 2 ^ 16 ∧
        (∃ b, Sent.ptp (128 + p) (ptpTo (128 + p) (ptpType b) x) b at_ ∈ z.sent ∧
          ptpType b = (if isP2P (128 + p) x then 2 else 1) ∧ ptpSeq b = q.nextReq ∧
          beAt b 8 8 = wrapTo 64 (-signed 64 (par .timingPtpAsym (128 + p) 0 x))) ∧
        ctrGet .ptpTxEvent (128 + p) z = min ctrMax (ctrGet .ptpTxEvent (128 + p) x + 1) ∧ z.mem = x.mem ∧ z.data = x.data)) ∧
  (∀ t (p : Fin 2) m seq t3 s, let x := advance t s
    let q := rxPort p x
    let b := m.bytes
    let asym := signed 64 (par .timingPtpAsym (128 + p) 0 x)
    let delay : Int → Prop := fun d => Leads (.ptpDelayRespRx t p m) s fun z =>
      (rxPort p z).pathDelay = some (d, x.time.now) ∧ (rxPort p z).req = none ∧ z.mem = x.mem ∧ z.data = x.data
    let mine : Prop := beAt b 44 10 = portIdentity (128 + p) ∧ ptpDomain b = par .timingPtpRxDomain (128 + p) 0 x
    timingRuns x = true → hostUp p x = true → m.fcsOk = true → ptpSound b = true → q.req = some (seq, t3) →
    (¬ mine ∨ ptpSeq b ≠ seq → Leads (.ptpDelayRespRx t p m) s fun z => z.time = x.time) ∧
    (mine → ptpSeq b = seq →
      (∀ d, ptpType b = 9 → isP2P (128 + p) x = false → q.syncDiff = some d →
        delay ((d - asym + ((ptpStamp b 34 : Int) - t3 - ptpCorr b)) / 2)) ∧
      (ptpType b = 3 → isP2P (128 + p) x = true → ptpTwoStep b = false →
        delay (((rxStamp (128 + p) m.raw x : Int) - t3 - ptpCorr b - asym) / 2)) ∧
      (ptpType b = 3 → isP2P (128 + p) x = true → ptpTwoStep b = true → Leads (.ptpDelayRespRx t p m) s fun z =>
        (rxPort p z).resp = some (seq, ptpStamp b 34, rxStamp (128 + p) m.raw x, ptpCorr b) ∧ (rxPort p z).req = q.req) ∧
      (∀ n t2 t4 c, ptpType b = 10 → isP2P (128 + p) x = true → q.resp = some (n, t2, t4, c) →
        delay (((t4 : Int) - t3 - ((ptpStamp b 34 : Int) - t2) - c - ptpCorr b - asym) / 2)))) ∧
  (∀ t (p : Fin 2) s, let x := advance t s
    let lost : State → Prop := fun z => (rxPort p z).sel = none ∧ (rxPort p z).offset = none ∧
      (rxPort p z).pathDelay = none ∧ (ref (2 + p) z).ptpOk = false ∧
      ctrGet .ptpTxLoss (128 + p) z = min ctrMax (ctrGet .ptpTxLoss (128 + p) x + 1) ∧
      z.fault.sticky.getLsbD Fs.ptpLoss.num = true ∧ z.mem = x.mem ∧ z.data = x.data
    ((rxPort p x).sel = none → Does (.announceTimeout t p) s x ∧ Does (.syncTimeout t p) s x) ∧
    (∀ y, (rxPort p x).sel = some y →
      let a := y.lastAnnounce + par0 .timingPtpAnnounceTimeout x * logInterval y.logAnnounce
      let b := y.lastSync + par0 .timingPtpSyncTimeout x * logInterval y.logSync
      (a ≤ x.time.now → Leads (.announceTimeout t p) s lost) ∧ (x.time.now < a → Does (.announceTimeout t p) s x) ∧
      (b ≤ x.time.now → Leads (.syncTimeout t p) s lost) ∧ (x.time.now < b → Does (.syncTimeout t p) s x))) ∧
  (∀ t (p : Fin 2) m raw s, let x := advance t s
    let held := x.time.tcHeld.filter fun w => decide (x.time.now < w.2)
    let go : Prop := timingRuns x = true ∧ par0 .timingPtpTcEnable x = 1 ∧ isP2P 128 x = false ∧ isP2P 129 x = false ∧
      hostUp p x = true ∧ m.fcsOk = true ∧ ptpSound m.bytes = true ∧ tcForwards (ptpType m.bytes) = true ∧
      ptpSource m.bytes / 65536 ≠ Config.clockIdentity % 2 ^ 64
    (timingRuns x = false ∨ hostUp p x = false → Does (.tcForward t p m raw) s x) ∧
    (ptpHasRow (ptpType m.bytes) = true → tcRuns x = false ∨ m.fcsOk = false ∨ ptpSound m.bytes = false →
      Does (.tcForward t p m raw) s x) ∧
    (timingRuns x = true → hostUp p x = true → ptpHasRow (ptpType m.bytes) = false →
      (m.fcsOk = false → Does (.tcForward t p m raw) s x) ∧
      (m.fcsOk = true → ptpSound m.bytes = false → Does (.tcForward t p m raw) s (count .ptpDisc (128 + p) 1 x)) ∧
      (m.fcsOk = true → ptpSound m.bytes = true → tcRuns x = false →
        Does (.tcForward t p m raw) s (countRx (128 + p) m.bytes x))) ∧
    (go → hostUp (1 - p.val) x = true → held.length < 32 → Leads (.tcForward t p m raw) s fun z =>
      ctrGet .tcForwarded (128 + (1 - p.val)) z = min ctrMax (ctrGet .tcForwarded (128 + (1 - p.val)) x + 1) ∧
      ctrGet .ptpTxEvent (128 + (1 - p.val)) z =
        min ctrMax (ctrGet .ptpTxEvent (128 + (1 - p.val)) x + if ptpType m.bytes < 2 then 1 else 0) ∧
      (∃ sum, Sent.tc (128 + (1 - p.val)) m.transport sum (setCorr m.bytes (if ptpType m.bytes < 2 then
        min (ptpCorr m.bytes + ((txStamp (128 + (1 - p.val)) raw x : Int) - rxStamp (128 + p) m.raw x)) (2 ^ 63 - 1)
        else ptpCorr m.bytes)) ∈ z.sent) ∧
      z.time.tcHeld = held ++ [(128 + (1 - p.val), x.time.now + (raw - m.raw))] ∧ z.mem = x.mem ∧ z.data = x.data) ∧
    (go → hostUp (1 - p.val) x = false ∨ 32 ≤ held.length → Leads (.tcForward t p m raw) s fun z =>
      ctrGet .tcDropped (128 + (1 - p.val)) z = min ctrMax (ctrGet .tcDropped (128 + (1 - p.val)) x + 1) ∧
      z.time.tcHeld = held ∧ z.mem = x.mem))

/-- R385 to R387, R393: pulse outputs. -/
def Obligations.PulseOutputsRunTheirPrograms : Prop :=
  let asserted : Nat → Prog → Nat → State → State := fun n p e x =>
    let o := out n x
    let run : Option Prog := some { p with next := p.next + 1 }
    setOut n (match o.pulse with
      | none => { o with prog := run, pulse := some ⟨e + p.width, x.time.now + p.width, p.lowPol⟩,
                         lowPol := p.lowPol, produced := o.produced + 1, pin := some (!p.lowPol) }
      | some u => { o with prog := run, produced := o.produced + 1,
                           pulse := some { u with untilTide := max u.untilTide (e + p.width),
                                                  untilClock := max u.untilClock (x.time.now + p.width) } }) x
  let skipped : Nat → Prog → Nat → State → State := fun n p e x =>
    let o := out n x
    count .pulseSkipped n 1 (setOut n { o with
      prog := some { p with next := p.next + 1 }
      skipped := o.skipped + 1
      firstSkipped := if o.skipped = 0 then e else o.firstSkipped } x)
  (∀ t (n : Fin 9) p s, let x := advance t s
    let o := out n x
    let e : Nat := p.start + p.next * p.period
    (timingRuns x = false ∨ o.mode ≠ .pulse ∨ o.prog = none → Does (.pulseEdge t n) s x) ∧
    (timingRuns x = true → o.mode = .pulse → o.prog = some p →
      (p.over = true ∨ x.time.tide < e → Does (.pulseEdge t n) s x) ∧
      (p.over = false → e ≤ x.time.tide →
        (p.notBefore ≤ e → Does (.pulseEdge t n) s (asserted n p e x)) ∧
        (e < p.notBefore → o.pulse.isSome ∨ p.count = 0 ∨ p.next + 1 < p.first + p.count →
          Does (.pulseEdge t n) s (skipped n p e x)) ∧
        (e < p.notBefore → o.pulse = none → p.count ≠ 0 → p.first + p.count ≤ p.next + 1 →
          Does (.pulseEdge t n) s (noteEvent .tideOutDone
            (setOut n { out n (skipped n p e x) with prog := none } (skipped n p e x))))))) ∧
  (∀ t (n : Fin 9) s, let x := advance t s
    let o := out n x
    (timingRuns x = false ∨ o.pulse = none → Does (.pulseDeassert t n) s x) ∧
    (∀ u, timingRuns x = true → o.pulse = some u →
      (x.time.tide < u.untilTide → x.time.now < u.untilClock → Does (.pulseDeassert t n) s x) ∧
      (u.untilTide ≤ x.time.tide ∨ u.untilClock ≤ x.time.now →
        let last : Bool := o.mode == .pulse && o.prog.any (·.over)
        Does (.pulseDeassert t n) s (noteIf last .tideOutDone (setOut n { o with
          pulse := none, pin := some o.lowPol, prog := if last then none else o.prog } x))))) ∧
  (∀ t (n : Fin 8) p s, let x := advance t s
    let o := out n x
    (timingRuns x = false ∨ o.mode ≠ .mark ∨ o.prog = none → Does (.tideMark t n) s x) ∧
    (timingRuns x = true → o.mode = .mark → o.prog = some p →
      let q := p.settle x
      (edgeTide .mark q q.next x = none → Does (.tideMark t n) s x) ∧
      (∀ e, edgeTide .mark q q.next x = some e →
        let soon : Prop := e < knownSince q x + msT 1 ∨ e < q.notBefore
        (x.time.tide < e → Does (.tideMark t n) s x) ∧
        (e ≤ x.time.tide → ¬ soon → Does (.tideMark t n) s (asserted n q e x)) ∧
        (e ≤ x.time.tide → soon → Does (.tideMark t n) s (skipped n q e x))))) ∧
  (∀ t d n s, let x := advance t s
    let mode := (heldProg n x).1
    let p := (heldProg n x).2
    Accepted 0x0608 d x → d.payload.length = Config.payloadLength 0x0608 →
    (8 < n → Answers (.zcpTideOutArm t d n) d rBadValue s x) ∧
    (n ≤ 8 →
      (mode = .pulse → p.period ≠ 0 → p.period - nsT 10 < p.width → Answers (.zcpTideOutArm t d n) d rBadValue s x) ∧
      (mode = .pulse → p.period = 0 → p.count ≠ 1 → Answers (.zcpTideOutArm t d n) d rBadValue s x) ∧
      (mode = .pulse → p.period = 0 → p.count = 1 → p.start < x.time.tide + msT 1 →
        Answers (.zcpTideOutArm t d n) d 0x0049 s x) ∧
      (armRefusal mode p x.time.tide = none →
        Answers (.zcpTideOutArm t d n) d rOk s (applyProg n mode p (takeArm n x)) ∧
        (∀ i ∈ armItems, par i n 0 (takeArm n x) = parPend i n 0 x) ∧
        (mode = .pulse → (out n x).mode ≠ .gate → ∃ q, (out n (applyProg n mode p (takeArm n x))).prog = some q ∧
          (out n (applyProg n mode p (takeArm n x))).mode = .pulse ∧ q.next = q.first ∧ q.armed = x.time.tide ∧
          (q.start, q.period, q.width, q.count, q.lowPol) = (p.start, p.period, p.width, p.count, p.lowPol) ∧
          ∀ k, x.time.tide + msT 1 ≤ p.start + k * p.period ↔ q.first ≤ k)))) ∧
  (∀ t d n s, let x := advance t s
    let o := out n x
    Accepted 0x0609 d x → d.payload.length = Config.payloadLength 0x0609 →
    (8 < n → Answers (.zcpTideOutStop t d n) d rBadValue s x) ∧
    (n ≤ 8 → Answers (.zcpTideOutStop t d n) d rOk s (setOut n { o with
      mode := if o.mode = .gate then .gate else .off
      prog := none
      produced := 0
      pin := if o.pulse.isSome ∨ o.mode = .gate then o.pin else some o.lowPol } x)))

/-- R390 to R392: timing inputs. -/
def Obligations.TimingInputsCaptureEdges : Prop :=
  (∀ t (n : Fin 2) (falling : Bool) s, let x := advance t s
    let i := tin n x
    let mode := par .timingInEdge n 0 x
    let selected := if falling then mode = 2 ∨ mode = 3 else mode = 1 ∨ mode = 3
    let r : EdgeRec := { input := n, edge := if falling then 2 else 1, seq := i.nextSeq, time := x.time.tide }
    let done := inLastSecond i.delivered x
    (timingRuns x = false ∨ ¬ selected → Does (.edgeCapture t n falling) s x) ∧
    (timingRuns x = true → selected →
      (∀ l, i.last = some l → x.time.now < l + nsT 50 →
        Does (.edgeCapture t n falling) s (count .edgeMissed n 1 x)) ∧
      ((∀ l, i.last = some l → l + nsT 50 ≤ x.time.now) →
        (i.waiting = [] → done.length < 1000 → Does (.edgeCapture t n falling) s (noteEvent .edge
          (count .edgeCaptured n 1 (setTin n { i with
            last := some x.time.now
            nextSeq := (i.nextSeq + 1) % 65536
            delivered := x.time.now :: done } x)))) ∧
        (1000 ≤ done.length → i.waiting.length < 64 → Does (.edgeCapture t n falling) s
          (count .edgeCaptured n 1 (setTin n { i with
            last := some x.time.now
            waiting := i.waiting ++ [r]
            nextSeq := (i.nextSeq + 1) % 65536 } x))) ∧
        (1000 ≤ done.length → 64 ≤ i.waiting.length → Does (.edgeCapture t n falling) s
          (count .edgeCaptured n 1 (count .edgeLost n 1 (setTin n { i with
            last := some x.time.now
            waiting := i.waiting.drop 1 ++ [r]
            nextSeq := (i.nextSeq + 1) % 65536 } x))))))) ∧
  (∀ r : EdgeRec, r.input < 2 → r.edge < 4 → r.seq < 2 ^ 16 → r.bytes.length = 16 ∧
    beAt r.bytes 0 1 = r.input ∧ beAt r.bytes 1 1 = r.edge ∧ beAt r.bytes 2 2 = r.seq ∧
    beAt r.bytes 4 12 = tide96 r.time)

/-- R396 to R400: reference monitoring. -/
def Obligations.ReferencesAreMonitored : Prop :=
  let moved : Nat → MonState → State → State := fun r m y =>
    noteEvent .refState (setRef r { ref r y with
      mon := m
      since := y.time.now
      disagrees := none
      offRange := if m = .failed then none else (ref r y).offRange } y)
  let monitored : Instr → State → Nat → Nat → State → Prop := fun i s r cause y0 =>
    let y := noteQl r (takeLimit r y0)
    let z := ref r y
    (par .timingRefPriority r 0 y = 0 →
      (z.mon = .off → Does i s y) ∧
      (z.mon ≠ .off → Does i s (noteEvent .refState (setRef r { z with
        mon := .off, since := y.time.now, been := false, disagrees := none } y)))) ∧
    (par .timingRefPriority r 0 y ≠ 0 → refValid r y = true →
      (z.mon ≠ .off → z.mon ≠ .failed → Does i s y) ∧
      (z.mon = .failed → Does i s (moved r (if z.been then .restoring else .qualifying) y)) ∧
      (z.mon = .off → Does i s (moved r .qualifying y))) ∧
    (par .timingRefPriority r 0 y ≠ 0 → refValid r y = false →
      (z.mon = .failed → Does i s y) ∧
      (z.mon ≠ .failed → z.mon.usable = false → Does i s (moved r .failed y)) ∧
      (z.mon.usable = true →
        let why := if z.freqOk then cause else 7
        let w := count .refDisqualify r 1 (moved r .failed (setRef r { z with cause := why } y))
        let left : Bool := (List.range 6).any fun k => k != r && (ref k y).mon.usable
        let runs : Prop := y.time.dpll = .acquiring ∨ y.time.dpll = .locked ∨ y.time.dpll = .switching
        (y.time.candidate.map (·.1) = some r → Leads i s fun v => (ref r v).mon = .failed ∧ (ref r v).cause = why ∧
          v.time.candidate = none ∧ ctrGet .refDisqualify r v = min ctrMax (ctrGet .refDisqualify r y + 1) ∧
          ctrGet .switchAbandoned 0 v = min ctrMax (ctrGet .switchAbandoned 0 y + 1)) ∧
        (y.time.candidate.map (·.1) ≠ some r →
          y.time.selected ≠ some r ∨ y.time.candidate ≠ none ∨ left = true ∨ ¬ runs → Does i s w) ∧
        (y.time.selected = some r → y.time.candidate = none → left = false → runs →
          let e := takeEstimate w
          Does i s (noteEvent .holdover (count .holdoverEntries 0 1 { e with time := { e.time with
            dpll := .holdover
            selected := none
            holdoverAt := y.time.now
            lockedSince := none
            debt := debtNow y
            slew := none } })))))
  (∀ t (r : Fin 2) (present : Bool) (dev : Int) s, let x := advance t s
    let old := ref r x
    let z := match old.todSecond with
      | some sec => if old.lastPps.getD 0 ≤ old.lastTod.getD 0 then old.measured ((x.time.tide : Int) - (secT sec : Nat)) else old
      | none => old
    monitored (.ppsEdge t r present dev) s r (if present then 2 else 1) (setRef r { z with
      sigOk := present
      ppsOk := decide (dev.natAbs ≤ usT 1)
      lastPps := some x.time.now } x)) ∧
  (∀ t (r : Fin 2) text started s, let x := advance t s
    let old := ref r x
    let inWindow := ∃ p, old.lastPps = some p ∧ p + msT 10 ≤ started ∧ x.time.now + msT 100 ≤ p + secT 1
    (parseTod text = none ∨ ¬ inWindow → Does (.todSentence t r text started) s (count .todBad r 1 x)) ∧
    (∀ sec ql fl, parseTod text = some (sec, ql, fl) →
      (old.todOk = true → (∃ p, old.todSecond = some p ∧ sec ≠ p + 1) →
        Does (.todSentence t r text started) s (count .todBad r 1 x)) ∧
      (inWindow → old.todOk = false ∨ (∀ p, old.todSecond = some p → sec = p + 1) →
        monitored (.todSentence t r text started) s r 6 (setRef r { old with
          todOk := true, todSecond := some sec, ql := ql, lastTod := some x.time.now } x)))) ∧
  (∀ t (r : Fin 6) cause s, let x := advance t s
    let old := ref r x
    (lossDue r cause x = false → Does (.refSignalLoss t r cause) s x) ∧
    (lossDue r cause x = true → monitored (.refSignalLoss t r cause) s r cause.code (setRef r (match cause with
      | .signal => { old with sigOk := false }
      | .pps => { old with ppsOk := false }
      | .tod => { old with todOk := false, todSecond := none }
      | .ptp => { old with ptpOk := false }
      | .esmc => { old with esmcOk := false }
      | .link => { old with linkOk := false }) x))) ∧
  (∀ (r : Fin 6) x, let z := ref r x
    (lossDue r .signal x = true ↔ r.val < 2) ∧
    (lossDue r .pps x = true ↔ r.val < 2 ∧ ∀ p, z.lastPps = some p → p + msT 1500 ≤ x.time.now) ∧
    (lossDue r .tod x = true ↔ r.val < 2 ∧ ∀ p, z.lastTod = some p → p + nsT (par0 .timingTodTimeout x) ≤ x.time.now) ∧
    (lossDue r .esmc x = true ↔ 4 ≤ r.val ∧ ∀ p, z.lastEsmc = some p → p + secT 5 ≤ x.time.now) ∧
    (lossDue r .link x = true ↔ 4 ≤ r.val ∧ hostUp (r - 4) x = false)) ∧
  (∀ t (port : Fin 2) (ssm : Fin 16) s, let x := advance t s
    let r : Nat := 4 + port
    (hostUp port x = false → Does (.esmcPduRx t port ssm) s x) ∧
    (hostUp port x = true → monitored (.esmcPduRx t port ssm) s r 6 (setRef r { ref r x with
      esmcOk := true, linkOk := true, ql := qlOfSsm ssm, lastEsmc := some x.time.now } x))) ∧
  (∀ t (r : Fin 6) (freq : Int) s, let x := advance t s
    monitored (.refFreqMeasure t r freq) s r 7 (setRef r { ref r x with freq := freq } x) ∧
    (ref r (takeLimit r (setRef r { ref r x with freq := freq } x))).freqOk =
      decide (freq.natAbs ≤ min (par0 .timingFreqLimit x) 11000 * 100)) ∧
  (∀ t (r : Fin 6) s, let x := advance t s
    let z := ref r x
    let q := nsT (par0 .timingQualifyTime x)
    (z.mon = .qualifying → z.since + q ≤ x.time.now →
      Does (.qualifyTimeExpiry t r) s (noteEvent .refState (setRef r { z with
        mon := .selectable, since := x.time.now, been := true, disagrees := none } x))) ∧
    (z.mon = .restoring → z.since + max (nsT (par0 .timingWtr x)) q ≤ x.time.now →
      Does (.qualifyTimeExpiry t r) s (noteEvent .refState (setRef r { z with
        mon := .selectable, since := x.time.now, been := true, disagrees := none } x))) ∧
    ((z.mon ≠ .qualifying ∨ x.time.now < z.since + q) →
      (z.mon ≠ .restoring ∨ x.time.now < z.since + max (nsT (par0 .timingWtr x)) q) →
      Does (.qualifyTimeExpiry t r) s x)) ∧
  ([2, 4, 8, 11, 15].map qlOfSsm = [0, 4, 7, 11, 15] ∧ ∀ c, c ∉ [2, 4, 8, 11, 15] → qlOfSsm c = 14)

/-- R402 to R407, R411, R412: selection. -/
def Obligations.SelectionFollowsQualityAndPriority : Prop :=
  (∀ x g, selectionTarget x = some g → g < 6 ∧ (ref g x).mon.usable = true ∧
    ((ref g x).mon = .suspect → (∀ k < 6, (ref k x).mon ≠ .selectable) ∧
      ∀ c, x.time.selected = some c → (ref c x).mon.usable = true → c ≠ g → (ref g x).disagrees ≠ some c) ∧
    (par0 .timingRefMode x = 0 → ∀ k < 6, (ref k x).mon = .selectable → outranks true k g x = false)) ∧
  (∀ x, selectionTarget x = none ↔ ∀ k < 6, (ref k x).mon.usable = false) ∧
  (∀ t s, let x := advance t s
    let y := refreshRefs x
    let go : Nat → Dpll → State → State := fun g prior w => { w with time := { w.time with
      candidate := some (g, w.time.now)
      prior := prior
      dpll := .switching
      debt := debtNow w
      slew := none } }
    (∀ c t0, y.time.candidate = some (c, t0) →
      (selectionTarget y = none → Leads (.selectionEvaluation t) s fun z => z.time.candidate = none ∧
        ctrGet .switchAbandoned 0 z = min ctrMax (ctrGet .switchAbandoned 0 y + 1)) ∧
      (selectionTarget y = some c → Does (.selectionEvaluation t) s (maybeSlew y)) ∧
      (∀ g, selectionTarget y = some g → g ≠ c →
        (y.time.selected ≠ some g → Does (.selectionEvaluation t) s (noteEvent .refSwitchAbandoned
          (count .switchAbandoned 0 1 (go g y.time.prior { y with time := { y.time with noHold := true } })))) ∧
        (y.time.selected = some g → Does (.selectionEvaluation t) s (maybeSlew (noteEvent .refSwitchAbandoned
          (count .switchAbandoned 0 1 { y with time := { y.time with
            candidate := none
            noHold := true
            dpll := y.time.prior } })))))) ∧
    (y.time.candidate = none →
      (selectionTarget y = none → y.time.selected = none → Does (.selectionEvaluation t) s (maybeSlew y)) ∧
      (selectionTarget y = none → y.time.selected ≠ none →
        (y.time.dpll = .acquiring ∨ y.time.dpll = .locked ∨ y.time.dpll = .switching →
          Leads (.selectionEvaluation t) s fun z => z.time.dpll = .holdover ∧ z.time.selected = none ∧
            z.time.holdoverAt = x.time.now ∧ z.time.tide = y.time.tide ∧ z.time.debt = debtNow y ∧ z.force = x.force) ∧
        (y.time.dpll = .holdover ∨ y.time.dpll = .expired ∨ y.time.dpll = .freerun →
          Does (.selectionEvaluation t) s (maybeSlew y))) ∧
      (∀ g, selectionTarget y = some g → y.time.selected ≠ some g →
        (y.time.selected = none ∨ y.time.noHold = true ∨ y.time.lastCommit = none ∨
            (∃ c, y.time.lastCommit = some c ∧ c + nsT (par0 .timingWtr y) ≤ y.time.now) ∨
            (∃ c, y.time.selected = some c ∧ (ref c y).mon.usable = false) →
          Does (.selectionEvaluation t) s (go g y.time.dpll y)) ∧
        (∀ c d, y.time.selected = some c → (ref c y).mon.usable = true → y.time.noHold = false →
          y.time.lastCommit = some d → y.time.now < d + nsT (par0 .timingWtr y) →
          Does (.selectionEvaluation t) s (maybeSlew y))) ∧
      (∀ g, selectionTarget y = some g → y.time.selected = some g → Does (.selectionEvaluation t) s (maybeSlew y)))) ∧
  (∀ y,
    (par0 .timingRealignMode y = 0 → maybeSlew y = if y.time.slew = none then y
      else { y with time := { y.time with debt := debtNow y, slew := none } }) ∧
    (par0 .timingRealignMode y ≠ 0 →
      (∀ g, y.time.selected = some g → g < 4 → 65536 ≤ y.time.debt.natAbs → y.time.slew = none → y.time.candidate = none →
        maybeSlew y = { y with time := { y.time with
          slew := some y.time.now
          dpll := .acquiring
          acquireAt := y.time.now } }) ∧
      ((∀ g, y.time.selected = some g → 4 ≤ g) ∨ y.time.debt.natAbs < 65536 ∨ y.time.slew ≠ none ∨
        y.time.candidate ≠ none → maybeSlew y = y))) ∧
  (∀ freqs est r y, let k := keptOf r freqs est y
    let apart := (freqs.getD r 0 - freqs.getD k 0).natAbs
    let limit := par0 .timingDisagreePpb y * 100
    r < 6 →
    (∀ c, y.time.selected = some c → c < 6 → (ref c y).mon.usable = true → equalRank r c y = true → k = c) ∧
    (k = r → disagreeOne freqs est y r = y) ∧
    (k ≠ r → (ref r y).mon = .selectable → limit < apart →
      ReportEq (disagreeOne freqs est y r) (noteEvent .refDisagree (fired .refDisagree (noteEvent .refState
        (setRef r { ref r y with mon := .suspect, since := y.time.now, disagrees := some k } y))))) ∧
    (k ≠ r → (ref r y).mon = .suspect → 2 * apart ≤ limit →
      ReportEq (disagreeOne freqs est y r) (noteEvent .refDisagree (noteEvent .refState
        (setRef r { ref r y with mon := .selectable, since := y.time.now, been := true, disagrees := none } y)))) ∧
    (k ≠ r → ((ref r y).mon = .selectable → apart ≤ limit) → ((ref r y).mon = .suspect → limit < 2 * apart) →
      disagreeOne freqs est y r = y)) ∧
  (∀ t freqs est s, let x := advance t s
    let due := x.time.disagreeAt + nsT (par0 .timingDisagreeWindow x)
    (x.time.now < due → Does (.disagreeWindow t freqs est) s x) ∧
    (due ≤ x.time.now → exec (.disagreeWindow t freqs est) s = .next (settle ((List.range 6).foldl (disagreeOne freqs est)
      { x with time := { x.time with disagreeAt := x.time.now, estimate := est } }))) ∧
    (due ≤ x.time.now → Leads (.disagreeWindow t freqs est) s fun z =>
      z.time.disagreeAt = x.time.now ∧ z.time.estimate = est ∧
      z.time.selected = x.time.selected ∧ z.time.dpll = x.time.dpll ∧ z.time.tide = x.time.tide ∧
      z.mem = x.mem ∧ z.force = x.force ∧ z.power = x.power ∧
      ∀ k < 6, (ref k z).mon = (ref k x).mon ∨
        ((ref k x).mon = .selectable ∧ (ref k z).mon = .suspect) ∨
        ((ref k x).mon = .suspect ∧ (ref k z).mon = .selectable)))

/-- R408 to R418: switches, holdover, realignment and steps of tide time. -/
def Obligations.SwitchesAreHitlessAndHoldoverEnds : Prop :=
  (∀ t (offset : Int) s, let x := advance t s
    (x.time.candidate = none → Does (.switchCommit t offset) s x) ∧
    (∀ c t0, x.time.candidate = some (c, t0) →
      (x.time.now < t0 + nsT (par0 .timingSwitchWindow x) → Does (.switchCommit t offset) s x) ∧
      (t0 + nsT (par0 .timingSwitchWindow x) ≤ x.time.now → Leads (.switchCommit t offset) s fun z =>
        let first := x.time.origin < 2 ∧ timeCapable c = true
        z.time.selected = some c ∧ z.time.candidate = none ∧ z.time.lastCommit = some x.time.now ∧
        z.time.dpll = .acquiring ∧
        ctrGet .refSwitches 0 z = min ctrMax (ctrGet .refSwitches 0 x + 1) ∧
        eventCount .refSwitch z = min ctrMax (eventCount .refSwitch x + 1) ∧
        (¬ first → z.time.tide = x.time.tide ∧ z.time.origin = x.time.origin ∧ z.time.outs = x.time.outs ∧
          z.time.debt = (if timeCapable c then offset else debtNow x)) ∧
        (first → z.time.tide = tideShift x.time.tide (-offset) ∧ z.time.origin = 2 ∧ z.time.debt = 0 ∧
          eventCount .timeStep z = min ctrMax (eventCount .timeStep x + 1)) ∧
        z.mem = x.mem ∧ z.force = x.force ∧ z.power = x.power))) ∧
  (∀ t s, let x := advance t s
    let due := x.time.acquireAt + secT 10
    (x.time.dpll = .acquiring → x.time.selected ≠ none → x.time.slew = none → due ≤ x.time.now →
      Does (.dpllLock t) s { x with time := { x.time with
        dpll := .locked
        lockedSince := some (x.time.lockedSince.getD x.time.now) } }) ∧
    (x.time.dpll ≠ .acquiring ∨ x.time.selected = none ∨ x.time.slew ≠ none ∨ x.time.now < due →
      Does (.dpllLock t) s x)) ∧
  (∀ t s, let x := advance t s
    let spec := x.time.holdoverAt + nsT (par0 .timingHoldoverSpec x)
    (x.time.dpll = .holdover → spec ≤ x.time.now → Does (.holdoverExpiry t) s
      (noteEvent .holdover (fired .holdoverExpired { x with time := { x.time with dpll := .expired } }))) ∧
    (x.time.dpll ≠ .holdover ∨ x.time.now < spec → Does (.holdoverExpiry t) s x)) ∧
  (∀ t s, let x := advance t s
    (x.time.realign = none → Does (.realignDue t) s x) ∧
    (∀ sec, x.time.realign = some sec →
      (x.time.tide < secT sec → Does (.realignDue t) s x) ∧
      (secT sec ≤ x.time.tide →
        x.time.dpll = .switching ∨ x.time.dpll = .holdover ∨ x.time.dpll = .expired ∨ selectedCapable x = false →
        Does (.realignDue t) s (noteEvent .timeRealign { x with time := { x.time with realign := none } })) ∧
      (secT sec ≤ x.time.tide → x.time.dpll ≠ .switching → x.time.dpll ≠ .holdover → x.time.dpll ≠ .expired →
        selectedCapable x = true →
        Leads (.realignDue t) s fun z =>
          z.time.tide = tideShift x.time.tide (-(debtNow x)) ∧ z.time.debt = 0 ∧ z.time.slew = none ∧
          z.time.realign = none ∧ z.time.selected = x.time.selected ∧ z.time.origin = x.time.origin ∧
          ctrGet .realigns 0 z = min ctrMax (ctrGet .realigns 0 x + 1) ∧
          eventCount .timeRealign z = min ctrMax (eventCount .timeRealign x + 1) ∧
          eventCount .timeStep z = min ctrMax (eventCount .timeStep x + 1) ∧ z.mem = x.mem ∧ z.force = x.force))) ∧
  (∀ t s, let x := advance t s
    (x.time.slew ≠ none → (debtNow x).natAbs < 65536 → Does (.slewEnd t) s { x with time := { x.time with
      debt := debtNow x
      slew := none } }) ∧
    (x.time.slew = none ∨ 65536 ≤ (debtNow x).natAbs → Does (.slewEnd t) s x)) ∧
  (∀ (new : Nat) x, let z := stepTide new x
    z.time = { x.time with
      tide := new
      txts := z.time.txts
      outs := z.time.outs
      refs := x.time.refs.map (RefS.shift ((new : Int) - x.time.tide)) } ∧
    (∀ port, (txQueue port z).entries = (txQueue port x).entries.map fun e => { e with stepped := true }) ∧
    eventCount .timeStep z = min ctrMax (eventCount .timeStep x + 1) ∧ z.mem = x.mem ∧ z.force = x.force ∧
    (∀ n < 9, (out n x).prog = none → (out n x).mode ≠ .gate → out n z = out n x)) ∧
  (∀ t d (v : Nat) s, let x := advance t s
    Accepted 0x0603 d x → d.payload.length = Config.payloadLength 0x0603 →
    (2 ^ 96 ≤ v ∨ tideValid v = false → Answers (.zcpTimeSet t d v) d rBadTime s x) ∧
    (v < 2 ^ 96 → tideValid v = true →
      (x.time.origin = 2 → Answers (.zcpTimeSet t d v) d 0x0048 s x) ∧
      (x.time.origin ≠ 2 → Answers (.zcpTimeSet t d v) d rOk s
        (stepTide (tideOf96 v) { x with time := { x.time with origin := 1 } })))) ∧
  (∀ t d (sec : Nat) s, let x := advance t s
    Accepted 0x0604 d x → d.payload.length = Config.payloadLength 0x0604 →
    (secT sec < x.time.tide + secT 2 ∨ x.time.tide + secT 86400 < secT sec →
      Answers (.zcpTimeRealign t d sec) d rBadTime s x) ∧
    (x.time.tide + secT 2 ≤ secT sec → secT sec ≤ x.time.tide + secT 86400 →
      (selectedCapable x = false → Answers (.zcpTimeRealign t d sec) d 0x0046 s x) ∧
      (selectedCapable x = true → x.time.realign ≠ none → Answers (.zcpTimeRealign t d sec) d 0x0047 s x) ∧
      (selectedCapable x = true → x.time.realign = none → Answers (.zcpTimeRealign t d sec) d rOk s
        { x with time := { x.time with realign := some sec } }))) ∧
  (∀ t d r s, let x := advance t s
    let manual := setPar .timingRefManual 0 0 r (setPar .timingRefMode 0 0 1 x)
    let named : State → State := fun w => { w with time := { w.time with
      wanted := if w.time.selected = some r then none else some r
      noHold := w.time.noHold || decide (w.time.selected ≠ some r) } }
    Accepted 0x0605 d x → d.payload.length = Config.payloadLength 0x0605 →
    (5 < r → Answers (.zcpRefSelect t d r) d rBadValue s x) ∧
    (r ≤ 5 → (ref r x).mon.usable = false → Answers (.zcpRefSelect t d r) d 0x0045 s x) ∧
    (r ≤ 5 → (ref r x).mon.usable = true →
      let y := named manual
      ((ref r x).mon = .selectable → selectionTarget y = some r) ∧
      (x.time.candidate = none ∨ selectionTarget y = x.time.candidate.map (·.1) →
        Answers (.zcpRefSelect t d r) d rOk s y) ∧
      (∀ c t0 g, x.time.candidate = some (c, t0) → selectionTarget y = some g → c ≠ g →
        (x.time.selected = some g → Answers (.zcpRefSelect t d r) d rOk s
          (count .switchAbandoned 0 1 { y with time := { y.time with
            candidate := none
            noHold := true
            dpll := x.time.prior } })) ∧
        (x.time.selected ≠ some g → Answers (.zcpRefSelect t d r) d rOk s
          (count .switchAbandoned 0 1 { y with time := { y.time with
            candidate := some (g, x.time.now)
            noHold := true
            dpll := .switching
            debt := debtNow x
            slew := none } })))))

/-- R366, R379 to R382: host PTP messages and transmit time-stamps. -/
def Obligations.HostsSendPtpAndReadItsTimeStamps : Prop :=
  (∀ t d port msg raw s, let x := advance t s
    let stamp := txStamp port raw x
    Accepted 0x0606 d x → d.payload.length = Config.payloadLength 0x0606 →
    (129 < port ∨ ptpSound msg = false → Answers (.zcpPtpSend t d port msg raw) d rBadValue s x) ∧
    (port ≤ 129 → ptpSound msg = true →
      (portUp port x = false → Answers (.zcpPtpSend t d port msg raw) d rRefused s x) ∧
      (portUp port x = true → Leads (.zcpPtpSend t d port msg raw) s fun z => Sent.ptp port (ptpTo port (ptpType msg) x) msg stamp ∈ z.sent) ∧
      (portUp port x = true → ptpType msg < 4 → (txQueue port x).entries.length < 64 →
        Answers (.zcpPtpSend t d port msg raw) d rOk s (setTxQueue port { txQueue port x with
          entries := (txQueue port x).entries ++ [{ mtype := ptpType msg, domain := ptpDomain msg
                                                    owner := 1 + d.session, seq := ptpSeq msg
                                                    stepped := false, time := stamp }] } x)) ∧
      (portUp port x = true → 4 ≤ ptpType msg → Answers (.zcpPtpSend t d port msg raw) d rOk s x))) ∧
  (∀ t d port mtype dom seq s, let x := advance t s
    let mine := fun e : TxTs => e.matches mtype dom seq (1 + d.session)
    Accepted 0x0607 d x → d.payload.length = Config.payloadLength 0x0607 →
    (129 < port → Answers (.zcpPtpTxts t d port mtype dom seq) d rBadValue s x) ∧
    (port ≤ 129 →
      ((∀ e ∈ (txQueue port x).entries, mine e = false) → Answers (.zcpPtpTxts t d port mtype dom seq) d rNotFound s x) ∧
      (∀ a e b, (txQueue port x).entries = a ++ e :: b → (∀ f ∈ a, mine f = false) → mine e = true →
        Answers (.zcpPtpTxts t d port mtype dom seq) d rOk s
          (setTxQueue port { txQueue port x with entries := a ++ b } x) ∧
        (ptpTxts port mtype dom seq d.ctx x).reply = some (rOk, e.bytes port)))) ∧
  (∀ port e x, let q := txQueue port x
    (64 ≤ q.entries.length → txQueue port (txtsPush port e x) =
        { entries := q.entries.drop 1 ++ [e], ovf := true, removed := q.removed + 1 } ∧
      ctrGet .txtsOverflow port (txtsPush port e x) = min ctrMax (ctrGet .txtsOverflow port x + 1)) ∧
    (q.entries.length < 64 → txQueue port (txtsPush port e x) = { q with entries := q.entries ++ [e] }) ∧
    (∀ k, k ≠ port → txQueue k (txtsPush port e x) = txQueue k x)) ∧
  (∀ port (e : TxTs), port < 256 → e.mtype < 16 → e.domain < 256 → e.owner < 5 → e.seq < 2 ^ 16 →
    (e.bytes port).length = 24 ∧ beAt (e.bytes port) 0 1 = port ∧ beAt (e.bytes port) 1 1 = 16 * e.mtype ∧
    beAt (e.bytes port) 2 1 = e.domain ∧ beAt (e.bytes port) 3 1 = e.owner ∧ beAt (e.bytes port) 4 2 = e.seq ∧
    beAt (e.bytes port) 6 1 = (if e.stepped then 1 else 0) ∧ beAt (e.bytes port) 8 12 = tide96 e.time) ∧
  (∀ port raw x, txStamp port raw x = tideShift raw (portDelay port 1 x + calUser port x) ∧
    rxStamp port raw x = tideShift raw (-(portDelay port 0 x) - calUser port x))

/-- R435 to R442: requests, outcomes, row disturbance, refresh, power-down. -/
def Obligations.DramServesProtectsAndRefreshes : Prop :=
  (∀ t (port : Fin 7) (c : Fin 128) (cw : Fin 16777216) kind flips inner waited s, let x := advance t s
    let off := cw.val * 64
    let k := rankOf c off
    let e := codewordEnd c off flips x
    let served := chan c x
    let i : Instr := .dramRequest t port c cw kind flips inner waited
    let keeper : (Nat → Prop) → Prop := fun q => keeperPort port = true ∧
      ∃ d a, dpaOf c off x = some d ∧ regionAt d x = some a ∧ q a.kind
    (served.state ≠ .online → served.state ≠ .retraining → Does i s x) ∧
    (portServes port c off x = false → Does i s x) ∧
    (kind ≠ .read → x.mem.marking = true → redirectPoison c off x = true → Does i s x) ∧
    (served.state = .online ∨ served.state = .retraining → portServes port c off x = true →
      kind = .read ∨ x.mem.marking = false ∨ redirectPoison c off x = false →
      Leads i s fun z =>
        ctrGet .innerCorr c z = min ctrMax (ctrGet .innerCorr c x + inner) ∧
        ctrGet (portWait (c / 16)) port z = min ctrMax (ctrGet (portWait (c / 16)) port x + waited) ∧
        rank k z = { rank k x with lastReq := x.time.now, powerDown := false } ∧
        z.mem.cells = x.mem.cells ∧ z.mem.redirects = x.mem.redirects ∧ (chan c z).state = served.state ∧
        z.force = x.force ∧ z.power = x.power ∧
        (kind ≠ .write →
          (e = .clean → ctrGet .outerCorr c z = ctrGet .outerCorr c x ∧ ctrGet .poisonReads c z = ctrGet .poisonReads c x ∧
            ctrGet .uncorr c z = ctrGet .uncorr c x) ∧
          (e = .corrected → ctrGet .outerCorr c z = min ctrMax (ctrGet .outerCorr c x + 1)) ∧
          (e = .poison → ctrGet .poisonReads c z = min ctrMax (ctrGet .poisonReads c x + 1)) ∧
          (e = .uncorrectable → ctrGet .uncorr c z = min ctrMax (ctrGet .uncorr c x + 1) ∧
            z.fault.sticky.getLsbD Fs.dramUncorr.num = true) ∧
          (e = .poison ∨ e = .uncorrectable →
            (¬ keeper (fun k => 1 ≤ k ∧ k ≤ 6) → poisoned c off z = true) ∧
            (keeper (fun k => 1 ≤ k ∧ k ≤ 4) → poisoned c off z = false))) ∧
        (kind = .write → poisoned c off z = false ∧ ctrGet .uncorr c z = ctrGet .uncorr c x) ∧
        (kind = .merge → e = .clean ∨ e = .corrected → poisoned c off z = false))) ∧
  (readEnd [] = .clean ∧ readEnd markerErr = .poison ∧
    ∀ (j : Fin 68) (b : Byte), b ≠ 0 → readEnd [(j, b)] = .corrected) ∧
  (∀ row (old : List (Nat × Nat)), old.length ≤ 32 →
    let l := tableRows old
    let r := activateRow row old
    ∃ i q n, l[i]? = some (q, n) ∧ r.2 = n + 1 ∧ r.1 = l.set i (row, n + 1) ∧ r.1.length = 32 ∧
      (q = row ∨ ((∀ e ∈ l, e.1 ≠ row) ∧ ∀ j e, l[j]? = some e → n < e.2 ∨ (n = e.2 ∧ i ≤ j)))) ∧
  (∀ c bank row x,
    let old := match sFind x.mem.tables bank with
      | some b => if b.window = refreshWindow x then b.rows else []
      | none => []
    let r := activateRow row old
    (r.2 < par0 .memRhThreshold x →
      activate c bank row x = { x with mem := { x.mem with tables := sSet x.mem.tables bank ⟨refreshWindow x, r.1⟩ } }) ∧
    (par0 .memRhThreshold x ≤ r.2 →
      ctrGet .rhRefresh c (activate c bank row x) = min ctrMax (ctrGet .rhRefresh c x + 1) ∧
      (sFind (activate c bank row x).mem.tables bank) =
        some ⟨refreshWindow x, r.1.map fun e => if e.1 = row then (row, 0) else e⟩)) ∧
  (∀ t (c : Fin 128) (pc : Fin 2) (sid : Fin 4) (busy : Bool) s, let x := advance t s
    let k : Nat := (c.val * 2 + pc.val) * 4 + sid.val
    let due := (rank k x).dueAt + refreshInterval (c / 16) x
    let r : RankS := { rank k x with dueAt := x.time.now }
    let done := closeRank k (setRank k { r with postponed := 0, powerDown := false } x)
    refreshInterval (c / 16) x = (if 85 < (stack (c / 16) x).temp then nsT 1950 else nsT 3900) ∧
    (serving c x = false ∨ x.time.now < due → Does (.refreshDue t c pc sid busy) s x) ∧
    (serving c x = true → due ≤ x.time.now →
      (busy = false → Does (.refreshDue t c pc sid busy) s done) ∧
      (busy = true → (rank k x).postponed < 8 →
        Does (.refreshDue t c pc sid busy) s (setRank k { r with postponed := r.postponed + 1 } x)) ∧
      (busy = true → 8 ≤ (rank k x).postponed →
        Does (.refreshDue t c pc sid busy) s (count .refreshBursts c 1 done)))) ∧
  (∀ t (c : Fin 128) (pc : Fin 2) (sid : Fin 4) s, let x := advance t s
    let k : Nat := (c.val * 2 + pc.val) * 4 + sid.val
    let idle := (rank k x).lastReq + nsT (par0 .memPdTimer x)
    (serving c x = true → idle ≤ x.time.now →
      Does (.powerDownEntry t c pc sid) s (setRank k { rank k x with powerDown := true } x)) ∧
    (serving c x = false ∨ x.time.now < idle → Does (.powerDownEntry t c pc sid) s x)) ∧
  (∀ t (c : Fin 128) (pc : Fin 2) (sid : Fin 4) (bank : Fin 16) s, let x := advance t s
    let k : Nat := ((c.val * 2 + pc.val) * 4 + sid.val) * 16 + bank.val
    (sFind x.mem.openRows k = none → Does (.pageIdleClose t c pc sid bank) s x) ∧
    (∀ row last, sFind x.mem.openRows k = some (row, last) →
      (last + nsT (par0 .memPageIdle x) ≤ x.time.now → Does (.pageIdleClose t c pc sid bank) s
        { x with mem := { x.mem with openRows := sDel x.mem.openRows k } }) ∧
      (x.time.now < last + nsT (par0 .memPageIdle x) → Does (.pageIdleClose t c pc sid bank) s x)))

/-- R443 to R450: training, retraining, speed and retirement. -/
def Obligations.ChannelsRetrainStepDownAndRetire : Prop :=
  (∀ (c : Nat) g x, let k := stack (c / 16) x
    let z := queueRetrain c g x
    c < 128 →
    ((chan c x).state ≠ .online ∨ (∃ e ∈ k.queue, e.1 = c) → z = x) ∧
    ((chan c x).state = .online → (∀ e ∈ k.queue, e.1 ≠ c) →
      (stack (c / 16) z).queue = k.queue ++ [(c, g)] ∧
      (k.queue = [] → (stack (c / 16) z).gather = some 0 ∧ (chan c z).state = .retraining) ∧
      (k.queue ≠ [] → (stack (c / 16) z).gather = k.gather ∧ (chan c z).state = .online) ∧
      ∀ j < 8, j ≠ c / 16 → stack j z = stack j x)) ∧
  (∀ t (c : Fin 128) s, let x := advance t s
    let y := chan c x
    let n := ctrGet .outerCorr c x
    (par0 .memRetrainCorr x < increase y.corrBase n → x.time.now ≤ y.corrSince + secT 1 → Does (.retrainCorrRate t c) s
      (queueRetrain c .corr (setChan c { y with corrBase := n, corrSince := x.time.now } x))) ∧
    (increase y.corrBase n ≤ par0 .memRetrainCorr x ∨ y.corrSince + secT 1 < x.time.now → Does (.retrainCorrRate t c) s x) ∧
    (10 < ((stack (c / 16) x).temp - y.tempAt).natAbs → Does (.retrainTempDrift t c) s (queueRetrain c .temp x)) ∧
    (((stack (c / 16) x).temp - y.tempAt).natAbs ≤ 10 → Does (.retrainTempDrift t c) s x) ∧
    (y.trainedAt + nsT (par0 .memRetrainPeriod x) ≤ x.time.now → Does (.retrainPeriod t c) s (queueRetrain c .period x)) ∧
    (x.time.now < y.trainedAt + nsT (par0 .memRetrainPeriod x) → Does (.retrainPeriod t c) s x)) ∧
  (∀ t (k : Fin 8) s, let x := advance t s
    let y := stack k x
    let due := y.sliceAt + refreshInterval k x
    (∀ n, y.gather = some n → n < 256 → due ≤ x.time.now → Does (.gatherSlice t k) s
      (setStack k { y with gather := some (n + 1), sliceAt := x.time.now } x)) ∧
    ((∀ n, y.gather = some n → 256 ≤ n) ∨ x.time.now < due → Does (.gatherSlice t k) s x)) ∧
  (∀ t (k : Fin 8) (margin : Bool) s, let x := advance t s
    let y := stack k x
    (y.queue = [] ∨ y.gather ≠ some 256 → Does (.retrainApply t k margin) s x) ∧
    (∀ (c : Nat) g r, y.queue = (c, g) :: r → y.gather = some 256 → c < 128 → (∀ e ∈ r, e.1 ≠ c) →
      (margin = true → y.held = none → Leads (.retrainApply t k margin) s fun z =>
        (chan c z).state = .online ∧ (chan c z).tempAt = y.temp ∧ (chan c z).trainedAt = x.time.now ∧
        (stack k z).queue = r ∧ (stack k z).gather = (if r = [] then none else some 0) ∧ (stack k z).bin = y.bin ∧
        (∀ e ∈ r.head?, e.1 < 128 → (chan e.1 z).state = .retraining) ∧
        ctrGet .retrains c z = min ctrMax (ctrGet .retrains c x + 1) ∧
        eventCount .memRetrain z = min ctrMax (eventCount .memRetrain x + 1)) ∧
      (∀ b, y.held = some b → b ≠ y.bin → Leads (.retrainApply t k margin) s fun z =>
        (stack k z).outage = some { since := x.time.now, bin := b, from_ := y.bin, asked := some b } ∧
        (stack k z).bin = b ∧ (stack k z).held = none ∧ (stack k z).queue = [] ∧
        (chan c z).trainedAt = (chan c x).trainedAt ∧ eventCount .memSpeed z = min ctrMax (eventCount .memSpeed x + 1)) ∧
      (margin = false → y.held = none → y.bin < 4 → Leads (.retrainApply t k margin) s fun z =>
        (stack k z).outage = some { since := x.time.now, bin := y.bin + 1, from_ := y.bin, asked := none } ∧
        (stack k z).bin = y.bin + 1 ∧ (stack k z).queue = [] ∧
        (∀ j ∈ stackChans k x, (chan j z).state = .outage) ∧
        ctrGet .speedSteps k z = min ctrMax (ctrGet .speedSteps k x + 1) ∧
        eventCount .memSpeed z = min ctrMax (eventCount .memSpeed x + 1) ∧
        z.fault.sticky.getLsbD Fs.dramSpeedStep.num = true))) ∧
  (∀ t (k : Fin 8) fails s, let x := advance t s
    let y := stack k x
    let bad := sortAsc ((fails.map fun c => 16 * k.val + c.val).filter (stackChans k x).contains)
    (y.outage = none → Does (.stackStepDownDone t k fails) s x) ∧
    (∀ o, y.outage = some o →
      (bad = [] → y.held = none → y.queue = [] → Leads (.stackStepDownDone t k fails) s fun z =>
        (stack k z).outage = none ∧ (stack k z).bin = y.bin ∧
        (∀ j ∈ stackChans k x, (chan j z).state = .online ∧ (chan j z).trainedAt = x.time.now) ∧
        (o.asked ≠ none → par .memMaxBin k 0 z = y.bin) ∧ z.mem.cells = x.mem.cells) ∧
      (bad ≠ [] → y.held = none → y.queue = [] → (∃ b, o.asked = some b ∧ b < o.from_) →
        Leads (.stackStepDownDone t k fails) s fun z =>
          (stack k z).outage = none ∧ (stack k z).bin = o.from_ ∧ par .memMaxBin k 0 z = o.from_ ∧
          z.mem.redirects = x.mem.redirects) ∧
      (bad ≠ [] → (∀ b, o.asked = some b → o.from_ ≤ b) → o.bin < 4 → Leads (.stackStepDownDone t k fails) s fun z =>
        (stack k z).outage = some { o with bin := o.bin + 1, since := x.time.now } ∧ (stack k z).bin = o.bin + 1 ∧
        z.mem.redirects = x.mem.redirects) ∧
      (∀ c r, bad = c :: r → (∀ b, o.asked = some b → o.from_ ≤ b) → 4 ≤ o.bin → x.mem.reserve = true →
        x.mem.marking = false → Leads (.stackStepDownDone t k fails) s fun z =>
        (chan c z).state = .retired ∧ z.mem.redirects = x.mem.redirects ++ [(c, capGiB x)] ∧ z.mem.marking = true ∧
        z.mem.reserve = false ∧ capGiB z = capGiB x - 1 ∧ c ∈ z.mem.retiredFlash ∧
        (stack k z).outage = some { o with bin := o.from_, since := x.time.now } ∧ (stack k z).bin = o.from_))) ∧
  (∀ t s, let x := advance t s
    (x.mem.marking = false → Does (.retirementMarkersDone t) s x) ∧
    (x.mem.marking = true → Leads (.retirementMarkersDone t) s fun z => z.mem.marking = false ∧
      z.mem.redirects = x.mem.redirects ∧ z.mem.cells = x.mem.cells ∧
      eventCount .memChannelRetired z = min ctrMax (eventCount .memChannelRetired x + 1) ∧
      z.fault.sticky.getLsbD Fs.dramChannelRetired.num = true)) ∧
  (∀ t d (c : Nat) s, let x := advance t s
    let st := (chan c x).state
    Accepted 0x0702 d x → d.payload.length = Config.payloadLength 0x0702 →
    (127 < c ∨ st = .absent ∨ st = .retired → Answers (.zcpMemRetrain t d c) d rBadValue s x) ∧
    (c ≤ 127 → st ≠ .absent → st ≠ .retired → Leads (.zcpMemRetrain t d c) s fun z =>
      z.mem = (queueRetrain c .command x).mem ∧ z.force = x.force ∧
      (∃ w ∈ z.zcp.waiting, w.why = Why.retrain.code ∧ w.unit = c ∧ w.slot = d.session ∧ w.seq = d.seq))) ∧
  (∀ t d k bin s, let x := advance t s
    let y := stack k x
    Accepted 0x0703 d x → d.payload.length = Config.payloadLength 0x0703 →
    (7 < k ∨ y.fitted = false ∨ 4 < bin → Answers (.zcpMemSpeed t d k bin) d rBadValue s x) ∧
    (k ≤ 7 → y.fitted = true → bin ≤ 4 →
      (y.outage ≠ none ∨ y.gather ≠ none → Leads (.zcpMemSpeed t d k bin) s fun z =>
        (stack k z).held = some bin ∧ (stack k z).bin = y.bin ∧ (stack k z).outage = y.outage ∧
        (∃ w ∈ z.zcp.waiting, w.why = Why.speedHeld.code ∧ w.unit = k ∧ w.slot = d.session ∧ w.seq = d.seq)) ∧
      (y.outage = none → y.gather = none → y.bin = bin →
        Answers (.zcpMemSpeed t d k bin) d rOk s (setPar .memMaxBin k 0 bin x)) ∧
      (y.outage = none → y.gather = none → y.bin ≠ bin → Leads (.zcpMemSpeed t d k bin) s fun z =>
        (stack k z).outage = some { since := x.time.now, bin := bin, from_ := y.bin, asked := some bin } ∧
        (stack k z).bin = bin ∧
        (∃ w ∈ z.zcp.waiting, w.why = Why.speed.code ∧ w.unit = k ∧ w.slot = d.session ∧ w.seq = d.seq)))) ∧
  (∀ t d s, let x := advance t s
    Accepted 0x0704 d x → d.payload.length = 0 →
    Answers (.zcpMemClearRetired t d) d rOk s { x with mem := { x.mem with retiredFlash := [] } })

/-- R455 to R468: transactions on the canal. -/
def Obligations.CanalCutsGrantsAndReportsErrors : Prop :=
  let refused : Nat → Nat → State → State := fun m a x =>
    fired .canalDecode (count .decodeErrors m 1
      (setMaster m { master m x with decode := true, errAddr := some ((master m x).errAddr.getD a) } x))
  (∀ t (m : Fin 15) (id : Fin 32) write addr beats data s, let x := advance t s
    let i : Instr := .canalRequest t m id write addr beats data
    let bad := masterIssues m x = false ∨ (∃ r ∈ x.canal.reqs, r.master = m ∧ r.id = id) ∨ addr % 64 ≠ 0 ∨
      beats = 0 ∨ 256 < beats ∨ 2 ^ 64 ≤ addr
    let zeros : List Byte := if write then [] else List.replicate (64 * beats) 0
    (bad → Does i s x) ∧
    (¬ bad → (addr + 64 * beats - 1) / 16384 ≠ addr / 16384 →
      Does i s (canalDone ⟨m, id, .decode, zeros⟩ (refused m addr x))) ∧
    (¬ bad → (addr + 64 * beats - 1) / 16384 = addr / 16384 → decodes m write addr x = true → Leads i s fun z =>
      z.canal.reqs = x.canal.reqs ++ [{ master := m, id := id, write := write, pieces := cutBurst addr beats data
                                        granted := none, status := .okay, read := [] }] ∧
      z.canal.done = x.canal.done ∧ z.canal.masters = x.canal.masters ∧ z.mem = x.mem ∧ z.canal.sram = x.canal.sram)) ∧
  (∀ addr beats data, addr % 64 = 0 → 0 < beats → beats ≤ 256 →
    let l := cutBurst addr beats data
    ((l.map (·.beats)).foldl (· + ·) 0 = beats) ∧ (l.head?.map (·.addr) = some addr) ∧
    ∀ p ∈ l, 0 < p.beats ∧ p.addr / 1024 = (p.addr + 64 * p.beats - 1) / 1024) ∧
  (∀ port r x, nextGrant port x = some r →
    let due := fun q : CanalReq => q.waitsAt port x = true ∧
      ∃ p l, q.pieces = p :: l ∧ rangeHeld q.write p.addr (64 * p.beats) x = false
    let last := sGet (fun _ => 14) x.canal.lastGrant port
    r ∈ x.canal.reqs ∧ due r ∧
    (∀ q ∈ x.canal.reqs, q.granted.isSome = true → ∀ p l, q.pieces = p :: l → targetPort p.addr x ≠ port) ∧
    ∀ q ∈ x.canal.reqs, q.master < 15 → due q → (r.master + 14 - last % 15) % 15 ≤ (q.master + 14 - last % 15) % 15) ∧
  (∀ t (port : Fin 80) (responds : Bool) bad corrected s, let x := advance t s
    let i : Instr := .canalPieceGrant t port responds ⟨bad, corrected⟩
    (nextGrant port x = none → Does i s x) ∧
    (∀ r p rest, nextGrant port x = some r → r.pieces = p :: rest → Leads i s fun z =>
      let y := count .pieces r.master 1 (arbWaits x)
      let y' := { y with canal := { y.canal with lastGrant := sPut (fun _ => 14) y.canal.lastGrant port r.master } }
      let got := pieceRead r.master p.addr (64 * p.beats) (bad.filter fun b => decide (b < p.beats)) corrected y'
      let put := pieceWrite r.master p.addr (p.data.map fun e => (p.addr + e.1, e.2)) y'
      ctrGet .pieces r.master y = min ctrMax (ctrGet .pieces r.master x + 1) ∧
      (responds = false ∨ targetOf p.addr ≠ some .regs →
        ctrGet .pieces r.master z = min ctrMax (ctrGet .pieces r.master x + 1)) ∧
      sGet (fun _ => 14) z.canal.lastGrant port = r.master ∧
      (responds = true → rest = [] → (∀ q ∈ z.canal.reqs, q.master = r.master → q.id ≠ r.id) ∧
        (r.write = false → z.canal.done = ⟨r.master, r.id, r.status.worse got.2.1, r.read ++ got.1⟩ :: x.canal.done) ∧
        (r.write = true → z.canal.done = ⟨r.master, r.id, r.status.worse put.1, r.read⟩ :: x.canal.done)) ∧
      (responds = false →
        (∃ q ∈ z.canal.reqs, q = { r with granted := some x.time.now }) ∧
        z.canal.done = x.canal.done ∧ z.mem = x.mem ∧ z.canal.sram = x.canal.sram))) ∧
  (∀ t (m : Fin 15) (id : Fin 32) s, let x := advance t s
    let mine := x.canal.reqs.find? fun r => r.master == m.val && r.id == id.val
    (mine = none → Does (.canalTargetTimeout t m id) s x) ∧
    (∀ r, mine = some r → r.granted = none → Does (.canalTargetTimeout t m id) s x) ∧
    (∀ r since p l, mine = some r → r.granted = some since → r.pieces = p :: l →
      x.time.now < since + msT 1 ∨ rangeHeld r.write p.addr (64 * p.beats) x = true →
      Does (.canalTargetTimeout t m id) s x) ∧
    (∀ r since p, mine = some r → r.granted = some since → r.pieces = [p] → 0 < p.beats → since + msT 1 ≤ x.time.now →
      rangeHeld r.write p.addr (64 * p.beats) x = false → Leads (.canalTargetTimeout t m id) s fun z =>
        ctrGet .dataErrors m z = min ctrMax (ctrGet .dataErrors m x + (if r.write then 1 else p.beats)) ∧
        (master m z).dataErr = true ∧ z.fault.sticky.getLsbD Fs.canalTimeout.num = true ∧
        ((master m x).resetting = true → z.canal.done = x.canal.done) ∧
        ((master m x).resetting = false → z.canal.done =
          ⟨m, id, .dataErr, r.read ++ (if r.write then [] else List.replicate (64 * p.beats) 0)⟩ :: x.canal.done) ∧
        (∀ q ∈ z.canal.reqs, q.master = m → q.id ≠ id) ∧ z.mem = x.mem ∧ z.canal.sram = x.canal.sram)) ∧
  (∀ t (m : Fin 15) s, let x := advance t s
    ((master m x).resetting = false ∨ (∃ r ∈ x.canal.reqs, r.master = m) → Does (.masterResetDrained t m) s x) ∧
    ((master m x).resetting = true → (∀ r ∈ x.canal.reqs, r.master ≠ m) → (∀ w ∈ x.zcp.waiting, w.why = 7 → w.unit ≠ 64 + m.val) →
      let y := setMaster m { master m x with resetting := false } x
      Does (.masterResetDrained t m) s
        { y with
          canal := { y.canal with draining := y.canal.draining.filter fun d => d / 32 != m.val }
          power := { y.power with reinit := y.power.reinit.filter fun r => r.1 != 0xA || r.2.1 != m.val } })) ∧
  (∀ (m : Nat) x, let z := masterReset m x
    let left := z.canal.reqs.filter fun r => r.master == m
    ctrGet .masterResets m z = min ctrMax (ctrGet .masterResets m x + 1) ∧ z.canal.done = x.canal.done ∧
    (∀ q ∈ left, ∃ r ∈ x.canal.reqs, r.granted ≠ none ∧ q = { r with pieces := r.pieces.take 1 }) ∧
    (z.canal.reqs.filter fun r => r.master != m) = (x.canal.reqs.filter fun r => r.master != m) ∧
    (m < 15 → (∃ r ∈ x.canal.reqs, r.master = m) → (master m z).resetting = true ∧
      (master m z).decode = (master m x).decode ∧ (master m z).dataErr = (master m x).dataErr)) ∧
  (∀ m a len bad corrected x, targetOf a = none ∨ decodes m false a x = false →
    let got := pieceRead m a len bad corrected x
    got.1 = List.replicate len 0 ∧ got.2.1 = .decode ∧ ReportEq got.2.2 (refused m a x)) ∧
  (∀ m a data x, targetOf a = none ∨ decodes m true a x = false →
    (pieceWrite m a data x).1 = .decode ∧ ReportEq (pieceWrite m a data x).2 (refused m a x)) ∧
  (∀ m a (data : List (Nat × Byte)) x, targetOf a = some .sram → reaches m .sram = true →
    (∀ e ∈ data, 0x100000000 ≤ e.1) → (data.map (·.1)).Nodup →
    (pieceWrite m a data x).1 = .okay ∧
    (∀ e ∈ data, sramByte e.1 (pieceWrite m a data x).2 = e.2) ∧
    (∀ b, 0x100000000 ≤ b → (∀ e ∈ data, e.1 ≠ b) → sramByte b (pieceWrite m a data x).2 = sramByte b x))

/-- R18, R465, R523: registers and semaphores. -/
def Obligations.RegistersAndSemaphoresAnswerTheirMaster : Prop :=
  let refused : Nat → Nat → State → State := fun m a x =>
    fired .canalDecode (count .decodeErrors m 1
      (setMaster m { master m x with decode := true, errAddr := some ((master m x).errAddr.getD a) } x))
  (∀ t (m : Fin 15) (k : Fin 64) s, let x := advance t s
    (2 ≤ m.val → Does (.semTake t m k) s (refused m (semAddr k) x)) ∧
    (m.val < 2 → Leads (.semTake t m k) s fun z =>
      z.canal.done = ⟨m, 0, .okay, natLE 8 (if x.canal.semFree.getLsbD k then 1 else 0)⟩ :: x.canal.done ∧
      z.canal.semFree.getLsbD k = false ∧ (∀ j < 64, j ≠ k.val → z.canal.semFree.getLsbD j = x.canal.semFree.getLsbD j) ∧
      z.canal.masters = x.canal.masters ∧ z.mem = x.mem ∧ z.force = x.force)) ∧
  (∀ t (m : Fin 15) (k : Fin 64) value s, let x := advance t s
    (2 ≤ m.val → Does (.semGive t m k value) s (refused m (semAddr k + 4) x)) ∧
    (m.val < 2 → value % 2 = 0 → Does (.semGive t m k value) s x) ∧
    (m.val < 2 → value % 2 = 1 → Leads (.semGive t m k value) s fun z =>
      z.canal = { x.canal with semFree := z.canal.semFree } ∧ z.canal.semFree.getLsbD k = true ∧
      (∀ j < 64, j ≠ k.val → z.canal.semFree.getLsbD j = x.canal.semFree.getLsbD j) ∧ z.mem = x.mem ∧ z.force = x.force)) ∧
  (∀ t (m : Fin 2) v s, let x := advance t s
    (∀ r : Reg, r.up x = false → Does (.registerWrite t m r v) s (refused m r.addr x)) ∧
    (∀ c inst, (Reg.ctr c inst).up x = true → Does (.registerWrite t m (.ctr c inst) v) s x) ∧
    (∀ n, Does (.registerWrite t m (.errAddr n) v) s x) ∧
    (∀ p, (bitAt v 8 = true → Does (.registerWrite t m (.txts p) v) s (setTxQueue p { txQueue p x with ovf := false } x)) ∧
      (bitAt v 8 = false → Does (.registerWrite t m (.txts p) v) s x)) ∧
    (∀ inst elem, (Reg.item .faultSticky inst elem).up x = true → Leads (.registerWrite t m (.item .faultSticky inst elem) v) s fun z =>
      (∀ j < 128, z.fault.sticky.getLsbD j = (x.fault.sticky.getLsbD j && !v.testBit j)) ∧
      z.fault.episodes = x.fault.episodes ∧ z.force = x.force) ∧
    (∀ n elem, let r := master n x
      (Reg.item .moduleCanalStatus n elem).up x = true → Does (.registerWrite t m (.item .moduleCanalStatus n elem) v) s (setMaster n { r with
        decode := r.decode && !bitAt v 0
        errAddr := if bitAt v 0 then none else r.errAddr
        dataErr := r.dataErr && !bitAt v 1 } x)) ∧
    (∀ (i : Item) inst elem, i ≠ .faultSticky → i ≠ .moduleCanalStatus →
      (Reg.item i inst elem).up x = true → let reserved := i.coded && !i.desc.range.ok (v % 2 ^ (8 * i.desc.ty.bytes))
      (i.desc.acc ≠ .rw ∨ reserved = true → Does (.registerWrite t m (.item i inst elem) v) s x) ∧
      (i.desc.acc = .rw → reserved = false → Leads (.registerWrite t m (.item i inst elem) v) s fun z =>
        par i inst elem z = v % 2 ^ (8 * i.desc.ty.bytes) ∧
        (∀ j a b, itemKey j a b ≠ itemKey i inst elem → par j a b z = par j a b x) ∧
        par i inst elem (restoreJournal z) =
          (match sFind x.canal.journal (itemKey i inst elem) with
            | some w => w
            | none => par i inst elem x) ∧
        z.pend = x.pend ∧ z.mem = x.mem ∧ z.fault.sticky = x.fault.sticky)) ∧
    (∀ n (sh : Bool), (Reg.core n (if sh then 144 else 80)).up x = true →
      Leads (.registerWrite t m (.core n (if sh then 144 else 80)) v) s fun z =>
        (core n z).reg (.sw sh) = ((coreSeen n x).reg (.sw sh) % 4 &&& (3 - v % 4)) ||| (v / 4 % 2 * 4)) ∧
    (∀ n k, (Reg.core n k).up x = true → k < 80 → Leads (.registerWrite t m (.core n k) v) s fun z =>
      z.sluice = { x.sluice with cores := z.sluice.cores } ∧
      (core n z).regs = sPut (fun _ => 0) (coreSeen n x).regs k
        (v % 2 ^ (if k < 48 then 16 else if k < 56 then 40 else 32)) ∧
      (∀ j < 64, j ≠ n → core j z = core j x) ∧ z.mem = x.mem ∧ z.force = x.force))

/-- R21 to R23: event and error counters. -/
def Obligations.CountersStopClearAndReport : Prop :=
  let refused : Nat → Nat → State → State := fun m a x =>
    fired .canalDecode (count .decodeErrors m 1
      (setMaster m { master m x with decode := true, errAddr := some ((master m x).errAddr.getD a) } x))
  (∀ c inst n x, let v := ctrGet c inst x
    let z := count c inst n x
    ctrGet c inst z = min ctrMax (v + n) ∧
    (∀ d k, ctrKey d k ≠ ctrKey c inst → ctrGet d k z = ctrGet d k x) ∧
    (v < ctrMax → ctrMax ≤ v + n → z.satDue = x.satDue ++ [(c.index, inst)] ∧ (Named.ctr c).sat inst z = true) ∧
    (v + n < ctrMax → z.satDue = x.satDue ∧ (Named.ctr c).sat inst z = false) ∧
    (v = ctrMax → z.satDue = x.satDue ∧ ctrGet c inst z = ctrMax)) ∧
  (∀ c inst x, let z := ctrClear c inst x
    ctrGet c inst z = 0 ∧ (Named.ctr c).sat inst z = false ∧ ctrGet c inst (count c inst 1 z) = 1 ∧
    (∀ d k, ctrKey d k ≠ ctrKey c inst → ctrGet d k z = ctrGet d k x) ∧
    (∀ n, ctrMax ≤ n → (count c inst n z).satDue = z.satDue ++ [(c.index, inst)])) ∧
  (∀ t (m : Fin 2) c (inst : Fin 4096) s, let x := advance t s
    let y := ctrFresh c x
    let up := (Reg.ctr c inst).up x
    (up = true → Does (.rcRead t m c inst) s (ctrClear c inst
      { y with canal := { y.canal with done := ⟨m, 0, .okay, natLE 8 (ctrGet c inst y)⟩ :: y.canal.done } })) ∧
    (c ≠ .spillHoldCycles → y = x) ∧
    (up = true → c.reporting = false → Leads (.rcRead t m c inst) s fun z => ctrGet c inst z = 0) ∧
    (up = false → Does (.rcRead t m c inst) s (canalDone ⟨m, 0, .decode, natLE 8 0⟩
      (refused m (Reg.ctr c inst).addr x)))) ∧
  (∀ e x, let z := noteEvent e x
    eventCount e z = min ctrMax (eventCount e x + 1) ∧ (∀ d, d ≠ e → eventCount d z = eventCount d x) ∧
    (eventCount e x + 1 = ctrMax → z.satDue = x.satDue ++ [(2000 + e.code, 0)]) ∧
    (eventCount e x + 1 ≠ ctrMax → z.satDue = x.satDue)) ∧
  (∀ c i x, x.satDue = [(c, i)] → eventCount .counterSat x + 1 < ctrMax → (∀ d k, d.reporting = true → ctrGet d k x + 2 ^ 20 < ctrMax) →
    settle x = raise .counterSat [c, i] { x with satDue := [] } ∧
    eventCount .counterSat (settle x) = min ctrMax (eventCount .counterSat x + 1) ∧ (settle x).satDue = [])

/-- R511 to R516, R521, R582, R583: parameters, the diagnostic window, function resets. -/
def Obligations.ParametersAreReadAndSetWhole : Prop :=
  (∀ t d s, let x := advance t s
    let n := beAt d.payload 0 2
    let staged := bitAt (beAt d.payload 2 1) 0
    let body := (piecesOf 8 n (d.payload.drop 4)).flatMap fun r => getEntry d.mailbox staged r x
    Accepted d.typ d x → d.typ % 256 = 0 → d.typ / 256 ≤ 9 →
    (d.payload.length ≠ 4 + 8 * n → Answers (.zcpParamGet t d) d rBadLength s x) ∧
    (d.payload.length = 4 + 8 * n → n = 0 ∨ 256 < n → Answers (.zcpParamGet t d) d rBadValue s x) ∧
    (d.payload.length = 4 + 8 * n → 1 ≤ n → n ≤ 256 →
      (8188 < body.length → Answers (.zcpParamGet t d) d rBadLength s x) ∧
      (body.length ≤ 8188 → Answers (.zcpParamGet t d) d rOk s x ∧ (paramGet d.ctx x).reply = some (rOk, body)))) ∧
  (∀ t d s, let x := advance t s
    let n := beAt d.payload 0 2
    Accepted d.typ d x → d.typ % 256 = 1 → d.typ / 256 ≤ 9 → 4 ≤ d.payload.length →
    (n = 0 ∨ 256 < n → Answers (.zcpParamSet t d) d rBadValue s x) ∧
    (∀ l, 1 ≤ n → n ≤ 256 → setEntries n (d.payload.drop 4) = some l →
      (∀ a e b code, l = a ++ e :: b → (∀ f ∈ a, setRefusal d.mailbox d.session f = none) →
        setRefusal d.mailbox d.session e = some code →
        Answers (.zcpParamSet t d) d code s x ∧
        (paramSet d.ctx x).reply = some (code, natBE 2 a.length ++ natBE 2 0)) ∧
      ((∀ e ∈ l, setRefusal d.mailbox d.session e = none) →
        Answers (.zcpParamSet t d) d rOk s (l.foldl applyEntry x)))) ∧
  (∀ mailbox slot e, setRefusal mailbox slot e = none → ∃ y, namedIn (keyGroup e.key) (keyNum e.key) = some y ∧
    (keyInst e.key = 0xFFF → e.num = 1) ∧ (keyInst e.key ≠ 0xFFF → instOk y.scope (keyInst e.key) = true) ∧
    (mailbox = 0 ∨ groupMailbox (keyGroup e.key) = mailbox) ∧ y.readOnly = false ∧ e.ty = y.ty.code ∧
    e.first + e.num ≤ y.elems ∧ ∀ v ∈ e.numbers, y.accepts v = true) ∧
  (∀ (i : Item) inst elem v x, let z := applyElem i inst elem v x
    (i.desc.apply = 0 → i ≠ .faultSticky → i ≠ .memMaxBin → par i inst elem z = v ∧ z.pend = x.pend) ∧
    (i = .memMaxBin → z = requestSpeed inst v (setPar i inst elem v x)) ∧
    (i.desc.apply = 1 → x.plan.running = none → par i inst elem z = v ∨ i.desc.elems ≤ elem) ∧
    (i.desc.apply = 1 → x.plan.running ≠ none → parPend i inst elem z = v ∧ z.force = x.force ∧
      (itemKey i inst 0, x.time.now) ∈ z.boundary) ∧
    (2 ≤ i.desc.apply → parPend i inst elem z = v ∧ z.force = x.force ∧ z.boundary = x.boundary)) ∧
  (∀ (c : Ctr) inst first v r x, applyInst (.ctr c) inst first (v :: r) x = ctrClear c inst x) ∧
  (∀ t (i : Item) (inst : Fin 4096) s, let x := advance t s
    let set := x.boundary.find? (·.1 == itemKey i inst 0)
    (set = none → Does (.boundaryItemApply t i inst) s x) ∧
    (∀ k since, set = some (k, since) →
      (boundaryPassed since x = false → Does (.boundaryItemApply t i inst) s x) ∧
      (boundaryPassed since x = true → Leads (.boundaryItemApply t i inst) s fun z =>
        (∀ e < i.desc.elems, par i inst e z = parPend i inst e x) ∧ z.pend = x.pend ∧
        z.boundary = x.boundary.filter (·.1 != itemKey i inst 0) ∧ z.mem = x.mem ∧ z.plan = x.plan))) ∧
  (∀ t d s, let x := advance t s
    let a := beAt d.payload 0 8
    let len := beAt d.payload 8 2
    Accepted 0x0B02 d x → d.payload.length = 16 →
    (diagBad d.payload 4096 = true → Answers (.zcpPeek t d) d rBadValue s x) ∧
    (diagBad d.payload 4096 = false → touchesSem a len = true → Answers (.zcpPeek t d) d rNotPermitted s x) ∧
    (diagBad d.payload 4096 = false → touchesSem a len = false →
      Leads (.zcpPeek t d) s (fun z => lastReply d z = some ⟨d.seq, d.typ, rOk⟩) ∧
      (0x100000000 ≤ a → a + len ≤ 0x101000000 → x.zcp.activeCore < 2 → Answers (.zcpPeek t d) d rOk s x ∧
        (peek d.ctx x).reply = some (rOk, [0, 0, 0, 0] ++ (List.range len).map fun k => sramByte (a + k) x)))) ∧
  (∀ t d s, let x := advance t s
    let a := beAt d.payload 0 8
    let len := beAt d.payload 8 2
    Accepted 0x0B03 d x →
    (d.payload.length < 16 ∨ d.payload.length ≠ 16 + len → Answers (.zcpPoke t d) d rBadLength s x) ∧
    (16 ≤ d.payload.length → d.payload.length = 16 + len →
      (diagBad d.payload 256 = true → Answers (.zcpPoke t d) d rBadValue s x) ∧
      (diagBad d.payload 256 = false → par0 .moduleDiagPoke x ≠ 1 ∨ touchesSem a len = true →
        Answers (.zcpPoke t d) d rNotPermitted s x) ∧
      (diagBad d.payload 256 = false → par0 .moduleDiagPoke x = 1 → 0x100000000 ≤ a → a + len ≤ 0x101000000 →
        x.zcp.activeCore < 2 → Leads (.zcpPoke t d) s fun z =>
          lastReply d z = some ⟨d.seq, d.typ, rOk⟩ ∧
          (∀ k < len, sramByte (a + k) z = d.payload.getD (16 + k) 0) ∧
          (∀ b, 0x100000000 ≤ b → b < a ∨ a + len ≤ b → sramByte b z = sramByte b x) ∧
          z.force = x.force ∧ z.mem = x.mem ∧ z.power = x.power))) ∧
  (∀ t d s, let x := advance t s
    let fn := beAt d.payload 0 1
    let inst := beAt d.payload 2 2
    Accepted 0x0007 d x → d.payload.length = 4 →
    (beAt d.payload 1 1 ≠ 0 ∨ functionCount fn ≤ inst → Answers (.zcpFuncReinit t d) d rBadValue s x) ∧
    (beAt d.payload 1 1 = 0 → inst < functionCount fn →
      (x.power.reinit ≠ none → Answers (.zcpFuncReinit t d) d rBusy s x) ∧
      (x.power.reinit = none → reinitRefused fn inst x = true → Answers (.zcpFuncReinit t d) d rRefused s x) ∧
      (x.power.reinit = none → reinitRefused fn inst x = false →
        (∀ pd, functionDomain fn inst = some pd →
          (stopped x = true → Answers (.zcpFuncReinit t d) d rRefused s x) ∧
          (stopped x = false → Leads (.zcpFuncReinit t d) s fun z => domain pd z = .waking ∧
            z.power.reinit = some (fn, inst, reinitChanges fn inst x) ∧ z.boot.lastReset = 3 ∧ z.force = x.force ∧
            z.time.tide = x.time.tide ∧
            ∃ w ∈ z.zcp.waiting, w.why = 7 ∧ w.unit = pd ∧ w.slot = d.session ∧ w.seq = d.seq)) ∧
        (fn = 9 → Leads (.zcpFuncReinit t d) s fun z => lastReply d z = some ⟨d.seq, d.typ, rOk⟩ ∧
          z.egress.jobs = [] ∧ z.egress.decompOut = false ∧ z.boot.lastReset = 3) ∧
        (fn = 0xB → Leads (.zcpFuncReinit t d) s fun z => z.zcp.standbyOk = false ∧ z.zcp.standbyBeat = false ∧
          z.power.reinit = some (0xB, inst, false) ∧ z.zcp.activeCore = x.zcp.activeCore ∧
          ∃ w ∈ z.zcp.waiting, w.why = 7 ∧ w.unit = 80 ∧ w.slot = d.session ∧ w.seq = d.seq) ∧
        (fn = 0xA → (∀ r ∈ x.canal.reqs, r.master ≠ inst) → (master inst x).resetting = false →
          Leads (.zcpFuncReinit t d) s fun z => lastReply d z = some ⟨d.seq, d.typ, rOk⟩ ∧
            ctrGet .masterResets inst z = min ctrMax (ctrGet .masterResets inst x + 1) ∧ z.canal.reqs = x.canal.reqs) ∧
        (fn = 0xA → (∃ r ∈ x.canal.reqs, r.master = inst) → Leads (.zcpFuncReinit t d) s fun z =>
          (master inst z).resetting = true ∧ z.power.reinit = some (0xA, inst, false) ∧
          (∀ q ∈ z.canal.reqs, q.master = inst → q.granted ≠ none ∧ q.pieces.length ≤ 1) ∧
          (∀ q, q.master ≠ inst → (q ∈ z.canal.reqs ↔ q ∈ x.canal.reqs)) ∧
          (master inst z).decode = (master inst x).decode ∧
          ∃ w ∈ z.zcp.waiting, w.why = 7 ∧ w.unit = 64 + inst ∧ w.slot = d.session ∧ w.seq = d.seq))))

/-- R530, R540 to R545, R550: episodes, the black box, gauges and the planner. -/
def Obligations.EpisodesRecordsAndMarginsAreKept : Prop :=
  (∀ t (c : Fin 4) s, let x := advance t s
    let e := episode c x
    (e.state ≠ .open ∨ x.time.now < e.quietEnd → Does (.quietTimeExpiry t c) s x) ∧
    (e.state = .open → e.quietEnd ≤ x.time.now → Does (.quietTimeExpiry t c) s (noteEvent .faultClear
      (setEpisode c { e with state := .idle, recoveries := min 0xFFFF (e.recoveries + 1) } x)))) ∧
  (∀ t d first n s, let x := advance t s
    let l := bbRun x n (first % 2 ^ 32)
    Accepted 0x0903 d x → d.payload.length = Config.payloadLength 0x0903 →
    (n = 0 ∨ 240 < n → Answers (.zcpBbRead t d first n) d rBadValue s x) ∧
    (1 ≤ n → n ≤ 240 →
      (bbFind (first % 2 ^ 32) x = none → Answers (.zcpBbRead t d first n) d rNotFound s x) ∧
      (∀ r, bbFind (first % 2 ^ 32) x = some r → Answers (.zcpBbRead t d first n) d rOk s x ∧
        (bbRead first n d.ctx x).reply = some (rOk, natBE 2 l.length ++ natBE 2 0 ++ l.flatMap BBRec.bytes) ∧
        l.head? = some r ∧ l.length ≤ n ∧ ∀ k q, l[k]? = some q → q.seq = (first + k) % 2 ^ 32))) ∧
  (∀ t d s, let x := advance t s
    let free := erasedSlots x.fault.slots.toList
    Accepted 0x0904 d x → d.payload.length = 0 →
    (∀ flash, x.fault.erasing ≠ none ∨ free = [] → Answers (.zcpBbFlush t ⟨d, flash⟩) d rBusy s x) ∧
    (∀ k r, x.fault.erasing = none → free = k :: r → Leads (.zcpBbFlush t ⟨d, false⟩) s fun z =>
      lastReply d z = some ⟨d.seq, d.typ, rRefused⟩ ∧ z.fault.sticky.getLsbD Fs.flash.num = true ∧
      (∃ b, z.fault.slots.getD k none = some b ∧ b.complete = false) ∧
      (∀ j, j ≠ k → z.fault.slots.getD j none = x.fault.slots.getD j none)) ∧
    (∀ k r, x.fault.erasing = none → free = k :: r → Leads (.zcpBbFlush t ⟨d, true⟩) s fun z =>
      lastReply d z = some ⟨d.seq, d.typ, rOk⟩ ∧ z.fault.flushes = x.fault.flushes + 1 ∧
      (∃ b, z.fault.slots.getD k none = some b ∧ b.complete = true ∧ b.cause = 0 ∧ b.records = x.fault.ring ∧
        b.flushNumber = x.fault.flushes + 1 ∧ b.flushTime = x.time.tide ∧ b.bootCount = x.fault.bootCount) ∧
      (∀ j, j ≠ k → z.fault.slots.getD j none = x.fault.slots.getD j none) ∧
      (2 ≤ r.length → z.fault.erasing = none) ∧ (r.length < 2 → z.fault.erasing = oldestSlot z.fault.slots.toList))) ∧
  (∀ t s, let x := advance t s
    (∀ flash, x.fault.erasing = none → Does (.bbSlotEraseDone ⟨t, flash⟩) s x) ∧
    (∀ k, x.fault.erasing = some k → Leads (.bbSlotEraseDone ⟨t, false⟩) s fun z => z.fault.slots = x.fault.slots ∧
      z.fault.erasing = none ∧ z.fault.sticky.getLsbD Fs.flash.num = true) ∧
    (∀ k, x.fault.erasing = some k → let slots := x.fault.slots.set k none
      Does (.bbSlotEraseDone ⟨t, true⟩) s { x with fault := { x.fault with
        slots := slots
        erasing := if (erasedSlots slots.toList).length < 2 then oldestSlot slots.toList else none } })) ∧
  (∀ t d s, let x := advance t s
    Accepted 0x0905 d x → d.payload.length = 8 → Answers (.zcpBbMark t d) d rOk s x ∧
    (x.fault.frozen = false → Leads (.zcpBbMark t d) s fun z => ∃ r ∈ z.fault.ring, r.kind = 7 ∧ r.data = d.payload ∧
      r.time = x.time.tide ∧ r.seq = x.fault.nextSeq)) ∧
  (∀ t d src s, let x := advance t s
    Accepted 0x0906 d x → d.payload.length = Config.payloadLength 0x0906 →
    (d.session ≠ 0 ∨ par0 .moduleDiagPoke x ≠ 1 → Answers (.zcpFaultInject t d src) d rNotPermitted s x) ∧
    (d.session = 0 → par0 .moduleDiagPoke x = 1 → 44 ≤ src → Answers (.zcpFaultInject t d src) d rBadValue s x) ∧
    (∀ f : Fs, d.session = 0 → par0 .moduleDiagPoke x = 1 → src = f.num → Leads (.zcpFaultInject t d src) s fun z =>
      (x.zcp.waiting = [] → lastReply d z = some ⟨d.seq, d.typ, rOk⟩) ∧
      (f ≠ .dramChannelRetired → z.fault.sticky.getLsbD f.num = true) ∧
      (f.cls = 3 → z.power.readyPin = false))) ∧
  (∀ e need top k, planStep e need top = some k ↔ k ≤ top ∧ e.passes k = true ∧
    need ≤ min (marginsAt e k).1 (marginsAt e k).2 ∧
    ∀ j, k < j → j ≤ top → ¬ (e.passes j = true ∧ need ≤ min (marginsAt e j).1 (marginsAt e j).2)) ∧
  (∀ plan n old x, n < 168 →
    let z := planPolder plan n old x
    let e := planOfPolder n plan
    let step := planStep e (par0 .faultGaugeMargin x) (par0 .faultPolderCapStep x)
    let new := newFailures n (e.failsAt 0) x
    ctrGet .marginRuns 0 z = min ctrMax (ctrGet .marginRuns 0 x + 1) ∧ (polder n z).powered = (polder n x).powered ∧
    (∀ k, step = some k → (nextState n z).clockStep = k ∧
      ((polder n x).retireDue = false → k < old → z.fault.sticky.getLsbD Fs.marginStep.num = true ∧
        ctrGet .marginStepsDown 0 z = min ctrMax (ctrGet .marginStepsDown 0 x + 1) ∧
        eventCount .margin z = min ctrMax (eventCount .margin x + 1))) ∧
    (step = none → new ≠ [] → 4 < (nextState n x).rows.length + new.length → (polder n z).retireDue = true) ∧
    (step = none → (polder n x).retireDue = false → new = [] ∨ (nextState n x).rows.length + new.length ≤ 4 →
      (nextState n z).clockStep = 0)) ∧
  (∀ t d n plan s, let x := advance t s
    Accepted 0x0907 d x → d.payload.length = Config.payloadLength 0x0907 →
    (168 ≤ n → n ≠ 0xFFF → Answers (.zcpMarginRun t d n plan) d rBadValue s x) ∧
    (n = 0xFFF → Answers (.zcpMarginRun t d n plan) d rOk s (planAll plan (List.range 168) x)) ∧
    (n < 168 → (polder n x).powered = false → Answers (.zcpMarginRun t d n plan) d rOk s x) ∧
    (n < 168 → (polder n x).powered = true → Answers (.zcpMarginRun t d n plan) d rOk s
      (planPolder plan n (nextState n x).clockStep x))) ∧
  (∀ t plan s, let x := advance t s
    let due := x.boot.stage = .ready ∧ x.fault.plannedAt + secT (par0 .faultPlannerPeriod x) ≤ x.time.now
    (¬ due → Does (.plannerPeriod t plan) s x) ∧
    (due → Leads (.plannerPeriod t plan) s fun z => z.fault.plannedAt = x.time.now ∧
      ctrGet .marginRuns 0 z =
        min ctrMax (ctrGet .marginRuns 0 x + ((List.range 168).filter fun n => (polder n x).powered).length))) ∧
  (∀ t g (m : Int) plan s, let x := advance t s
    let alarm : Int := par0 .faultGaugeAlarm x
    (x.boot.stage ≠ .ready → Does (.gaugeAlarm t g m plan) s x) ∧
    (x.boot.stage = .ready →
      (∀ p k, g = .polder p k →
        ((polder p x).powered = false → Does (.gaugeAlarm t g m plan) s x) ∧
        ((polder p x).powered = true → alarm ≤ m → Does (.gaugeAlarm t g m plan) s (takeGauge p k m x)) ∧
        ((polder p x).powered = true → m < alarm → Leads (.gaugeAlarm t g m plan) s fun z =>
          ctrGet .marginRuns 0 z = min ctrMax (ctrGet .marginRuns 0 x + 1) ∧
          ∀ c, planStep (planOfPolder p plan) (par0 .faultGaugeMargin x) (par0 .faultPolderCapStep x) = some c →
            (nextState p z).clockStep = c)) ∧
      (∀ u, g = .hub u ∨ (∃ e : Fin 8, g = .weir e ∧ u = 0x48 + e.val) ∨ (g = .zoom ∧ u = 0x70) →
        (unitUp u x = false → Does (.gaugeAlarm t g m plan) s x) ∧
        (unitUp u x = true → alarm ≤ m → 0 ≤ m → Does (.gaugeAlarm t g m plan) s (takeHub u m x)) ∧
        (unitUp u x = true → m < alarm → 0 ≤ m ∨ g = .hub u → Does (.gaugeAlarm t g m plan) s
          (noteEvent .margin (fired .hubMargin (takeHub u m x))))) ∧
      (∀ e : Fin 8, g = .weir e → unitUp (0x48 + e.val) x = true → m < 0 → Leads (.gaugeAlarm t g m plan) s fun z =>
        ∃ w, z.weir.engines.getD e ⟨false, none⟩ = w ∧ w.out = true) ∧
      (g = .zoom → unitUp 0x70 x = true → m < 0 → Leads (.gaugeAlarm t g m plan) s fun z => z.zoom.out = true ∧
        z.fault.sticky.getLsbD Fs.zoomEngine.num = true ∧ (5, 0) ∈ z.fault.stopped))) ∧
  (∀ n k (m : Int) x, let w := sGet (fun _ => gaugeReset) (takeGauge n k m x).fault.gauges (2 * n + k)
    let old := sGet (fun _ => gaugeReset) x.fault.gauges (2 * n + k)
    m ≤ 2047 → -2048 ≤ m → signed 12 (field w 0 12) = m ∧
      signed 12 (field w 12 12) = min m (signed 12 (field old 12 12)) ∧ bitAt w 31 = true) ∧
  (∀ t r s, let x := advance t s
    let due := coresRun x = true ∧ x.fault.reportedAt + secT 1 ≤ x.time.now
    (¬ due → Does (.oncePerSecondReport t r) s x) ∧
    (due → Leads (.oncePerSecondReport t r) s fun z =>
      z.fault.reportedAt = x.time.now ∧ z.power.inputPower = r.power ∧ z.data.discards = [] ∧ z.weir.nonfin = [] ∧
      z.zoom.lost = 0 ∧ z.egress.spillHeld = 0 ∧ z.sluice.rfiChanged = 0 ∧ z.zcp.authFail = none ∧
      (∀ n < 9, (out n z).skipped = 0) ∧ (∀ n < 168, (polder n z).mirrorCount = 0) ∧
      (x.zcp.authFail ≠ none → eventCount .zcpAuth z = min ctrMax (eventCount .zcpAuth x + 1)) ∧
      (x.zcp.authFail = none → eventCount .zcpAuth z = eventCount .zcpAuth x) ∧
      (x.sluice.rfiChanged ≠ 0 → eventCount .rfiFlag z = min ctrMax (eventCount .rfiFlag x + 1)) ∧
      (x.zoom.lost ≠ 0 → eventCount .thresholdLost z = min ctrMax (eventCount .thresholdLost x + 1)) ∧
      z.mem.cells = x.mem.cells ∧ z.force = x.force ∧ z.time.tide = x.time.tide))

/-- How commands come to take effect (log entry 4). -/
def Obligations.StepRunsTheFrontCommand : Prop :=
  (∀ (c : Instr) (s : State), step { s with pending := c :: s.pending } = exec c s) ∧
  (∀ s : State, s.pending = [] → step s = .next s)

/-- R21: reports of saturation do not outlast the command that made them due. -/
def Obligations.EveryCommandCompletesAndReports : Prop :=
  (∀ (i : Instr) (s : State), ∃ x, exec i s = .next x ∧ x.satDue = []) ∧
  (∀ s x : State, s.satDue = [] → step s = .next x → x.satDue = []) ∧
  State.reset.satDue = []

/-- The queue is no part of what a command acts on (log entry 4). -/
def Obligations.CommandsLeaveTheQueueAlone : Prop :=
  ∀ (i : Instr) (s x : State), exec i s = .next x → x.pending = s.pending

/-- The reset values that the spec states; the clock step, the domains and cores OFF and the empty queue are
the model's choice (log entries 4, 6, 7). -/
def Obligations.ResetHoldsTheSpecsValues : Prop :=
  let s := State.reset
  (∀ (i : Item) inst elem, inst < 4096 → elem < 65536 → par i inst elem s = i.resetAt inst ∧ parPend i inst elem s = i.resetAt inst) ∧
  (∀ c i, ctrGet c i s = 0) ∧ s.fault.sticky = 0 ∧ (∀ e : Ev, eventCount e s = 0) ∧
  (∀ k < 4, (session k s).isOpen = false) ∧ (∀ c < 4, (episode c s).state = .idle ∧ (episode c s).recoveries = 0) ∧
  (∀ pd < 40, domain pd s = .off) ∧ (∀ k < 2, (feed k s).state = .lostLow) ∧ s.power.readyPin = false ∧
  s.time.tide = 0 ∧ s.time.origin = 0 ∧ s.time.dpll = .freerun ∧ s.time.selected = none ∧
  (∀ r < 6, (ref r s).mon = .failed ∧ (ref r s).ql = 15 ∧ (ref r s).cause = 0) ∧
  (∀ n < 9, (out n s).mode = .off) ∧ s.canal.semFree = BitVec.allOnes 64 ∧
  (bank 0 s).state = .inForce ∧ (bank 1 s).state = .free ∧
  (∀ n < 168, (polder n s).clockStep = 16 ∧ ((polder n s).role = 1 ↔ n % 7 = 6)) ∧
  (∀ n < 64, (core n s).state = .off) ∧
  (∀ k, sGet (fun _ => gaugeReset) s.fault.gauges k = 0x7FF000) ∧
  s.pending = [] ∧ s.mem.cells.wf = true ∧ s.canal.sram.wf = true ∧ ∀ n < 64, (core n s).data.wf = true
end

