-- ==== Sys2Proof/Laws/PerInstr.lean ====
section
/-! SUPPORT. Facts of the command syntax, one lemma per constructor. -/

open Sys2Proof Sys2Proof.Machine

/-- A host's command with a TYPE is sent in a datagram, is no sluice instruction, and its TYPE lies in a
mailbox of R480; its payload fits R470's 8,192 bytes. -/
def Sys2Proof.Laws.HostRows.Statement (i : Instr) : Prop :=
  ∀ typ size, hostType i = some (typ, size) →
    (hostDgram i).isSome = true ∧ sluiceInstr i = none ∧ typ / 256 ≤ 12 ∧ size ≤ 8192

/-- A free payload length fits a payload. -/
theorem Sys2Proof.Config.payloadLength_le (typ : Nat) : Config.payloadLength typ ≤ 8192 := by
  unfold Config.payloadLength
  omega

/-- A row that is no host's command with a TYPE. -/
theorem Sys2Proof.Laws.HostRows.of_none {i : Instr} (h : hostType i = none) : Laws.HostRows.Statement i := by
  intro typ size e
  rw [h] at e
  cases e

/-- A row whose TYPE and payload length are known. -/
theorem Sys2Proof.Laws.HostRows.of_some {i : Instr} {a b : Nat} (h : hostType i = some (a, b))
    (hd : (hostDgram i).isSome = true) (hs : sluiceInstr i = none) (ha : a / 256 ≤ 12) (hb : b ≤ 8192) :
    Laws.HostRows.Statement i := by
  intro typ size e
  rw [h] at e
  cases e
  exact ⟨hd, hs, ha, hb⟩

theorem Sys2Proof.Laws.HostRows.powerEnRise (t : Nat) :
    Laws.HostRows.Statement (.powerEnRise t) :=
  Laws.HostRows.of_none rfl

theorem Sys2Proof.Laws.HostRows.powerEnFall (t : Nat) :
    Laws.HostRows.Statement (.powerEnFall t) :=
  Laws.HostRows.of_none rfl

theorem Sys2Proof.Laws.HostRows.resetNAssert (t : Nat) :
    Laws.HostRows.Statement (.resetNAssert t) :=
  Laws.HostRows.of_none rfl

theorem Sys2Proof.Laws.HostRows.resetNDeassert (t : Nat) (b : BootIn) :
    Laws.HostRows.Statement (.resetNDeassert t b) :=
  Laws.HostRows.of_none rfl

theorem Sys2Proof.Laws.HostRows.feedQualified (t : Nat) (feed : Fin 2) (volt : Nat) :
    Laws.HostRows.Statement (.feedQualified t feed volt) :=
  Laws.HostRows.of_none rfl

theorem Sys2Proof.Laws.HostRows.feedLoss (t : Nat) (which : Fin 3) (kind : LossKind) (volt : Nat) :
    Laws.HostRows.Statement (.feedLoss t which kind volt) :=
  Laws.HostRows.of_none rfl

theorem Sys2Proof.Laws.HostRows.powerStageReportTimeout (t : Nat) :
    Laws.HostRows.Statement (.powerStageReportTimeout t) :=
  Laws.HostRows.of_none rfl

theorem Sys2Proof.Laws.HostRows.powerStageFaultReport (t : Nat) (kind : StageFault) :
    Laws.HostRows.Statement (.powerStageFaultReport t kind) :=
  Laws.HostRows.of_none rfl

theorem Sys2Proof.Laws.HostRows.domainTrip (t : Nat) (pd : Fin 40) :
    Laws.HostRows.Statement (.domainTrip t pd) :=
  Laws.HostRows.of_none rfl

theorem Sys2Proof.Laws.HostRows.pd38Retry (t : Nat) :
    Laws.HostRows.Statement (.pd38Retry t) :=
  Laws.HostRows.of_none rfl

theorem Sys2Proof.Laws.HostRows.tempThreshold (t : Nat) (die : Fin 5) (crit : Bool) (temp : Nat) :
    Laws.HostRows.Statement (.tempThreshold t die crit temp) :=
  Laws.HostRows.of_none rfl

theorem Sys2Proof.Laws.HostRows.dramStackTemp (t : Nat) (stack : Fin 8) (temp : Int) :
    Laws.HostRows.Statement (.dramStackTemp t stack temp) :=
  Laws.HostRows.of_none rfl

theorem Sys2Proof.Laws.HostRows.mgmtWatchdogExpiry (t : Nat) :
    Laws.HostRows.Statement (.mgmtWatchdogExpiry t) :=
  Laws.HostRows.of_none rfl

theorem Sys2Proof.Laws.HostRows.fFrameReceive (t : Nat) (port : Fin 128) (f : EthIn) :
    Laws.HostRows.Statement (.fFrameReceive t port f) :=
  Laws.HostRows.of_none rfl

theorem Sys2Proof.Laws.HostRows.arpRequest (t : Nat) (port : Fin 128) (f : EthIn) :
    Laws.HostRows.Statement (.arpRequest t port f) :=
  Laws.HostRows.of_none rfl

theorem Sys2Proof.Laws.HostRows.neighbourSolicitation (t : Nat) (port : Fin 128) (f : EthIn) :
    Laws.HostRows.Statement (.neighbourSolicitation t port f) :=
  Laws.HostRows.of_none rfl

theorem Sys2Proof.Laws.HostRows.blockDeadline (t : Nat) (die : Fin 4) (slot : Fin 16) :
    Laws.HostRows.Statement (.blockDeadline t die slot) :=
  Laws.HostRows.of_none rfl

theorem Sys2Proof.Laws.HostRows.cornerTurnCloseWait (t : Nat) (chunk : Nat) :
    Laws.HostRows.Statement (.cornerTurnCloseWait t chunk) :=
  Laws.HostRows.of_none rfl

theorem Sys2Proof.Laws.HostRows.cornerTurnMove (t : Nat) :
    Laws.HostRows.Statement (.cornerTurnMove t) :=
  Laws.HostRows.of_none rfl

theorem Sys2Proof.Laws.HostRows.ingressLinkChange (t : Nat) (port : Fin 128) (up : Bool) :
    Laws.HostRows.Statement (.ingressLinkChange t port up) :=
  Laws.HostRows.of_none rfl

theorem Sys2Proof.Laws.HostRows.ingressLinkDownTimeout (t : Nat) (port : Fin 128) :
    Laws.HostRows.Statement (.ingressLinkDownTimeout t port) :=
  Laws.HostRows.of_none rfl

theorem Sys2Proof.Laws.HostRows.blockStart (t : Nat) (die : Fin 4) (weir0 weir1 : CulvertIn) :
    Laws.HostRows.Statement (.blockStart t die weir0 weir1) :=
  Laws.HostRows.of_none rfl

theorem Sys2Proof.Laws.HostRows.accumulatorSwap (t : Nat) (polder : Fin 168) (bad : List Nat) (corrected : Nat) (faults : List (Nat × Int × Int)) :
    Laws.HostRows.Statement (.accumulatorSwap t polder bad corrected faults) :=
  Laws.HostRows.of_none rfl

theorem Sys2Proof.Laws.HostRows.shadowSetTake (t : Nat) (die : Fin 4) :
    Laws.HostRows.Statement (.shadowSetTake t die) :=
  Laws.HostRows.of_none rfl

theorem Sys2Proof.Laws.HostRows.laneRowTest (t : Nat) (polder : Fin 168) (fails : List Nat) :
    Laws.HostRows.Statement (.laneRowTest t polder fails) :=
  Laws.HostRows.of_none rfl

theorem Sys2Proof.Laws.HostRows.laneRowTestTimeout (t : Nat) (polder : Fin 168) :
    Laws.HostRows.Statement (.laneRowTestTimeout t polder) :=
  Laws.HostRows.of_none rfl

theorem Sys2Proof.Laws.HostRows.polderRetire (t : Nat) (polder : Fin 168) :
    Laws.HostRows.Statement (.polderRetire t polder) :=
  Laws.HostRows.of_none rfl

theorem Sys2Proof.Laws.HostRows.sparePolderActive (t : Nat) (polder : Fin 168) (fails : List Nat) :
    Laws.HostRows.Statement (.sparePolderActive t polder fails) :=
  Laws.HostRows.of_none rfl

theorem Sys2Proof.Laws.HostRows.polderChangeApply (t : Nat) (polder : Fin 168) :
    Laws.HostRows.Statement (.polderChangeApply t polder) :=
  Laws.HostRows.of_none rfl

theorem Sys2Proof.Laws.HostRows.promote (t : Nat) (die : Fin 4) :
    Laws.HostRows.Statement (.promote t die) :=
  Laws.HostRows.of_none rfl

theorem Sys2Proof.Laws.HostRows.ledgerOnly (t : Nat) (area : Fin 2) (chan : Nat) :
    Laws.HostRows.Statement (.ledgerOnly t area chan) :=
  Laws.HostRows.of_none rfl

theorem Sys2Proof.Laws.HostRows.tileRead (t : Nat) (f : TileFrom) :
    Laws.HostRows.Statement (.tileRead t f) :=
  Laws.HostRows.of_none rfl

theorem Sys2Proof.Laws.HostRows.tileWrite (t : Nat) (k : Fin 8) (n : Fin 2048) :
    Laws.HostRows.Statement (.tileWrite t k n) :=
  Laws.HostRows.of_none rfl

theorem Sys2Proof.Laws.HostRows.tileStatus (t : Nat) (f : TileFrom) :
    Laws.HostRows.Statement (.tileStatus t f) :=
  Laws.HostRows.of_none rfl

theorem Sys2Proof.Laws.HostRows.tileReset (t : Nat) (k : Fin 8) (n : Fin 2048) :
    Laws.HostRows.Statement (.tileReset t k n) :=
  Laws.HostRows.of_none rfl

theorem Sys2Proof.Laws.HostRows.sealWaitExpiry (t : Nat) (area region : Fin 2) :
    Laws.HostRows.Statement (.sealWaitExpiry t area region) :=
  Laws.HostRows.of_none rfl

theorem Sys2Proof.Laws.HostRows.snapshotChannelCopy (t : Nat) :
    Laws.HostRows.Statement (.snapshotChannelCopy t) :=
  Laws.HostRows.of_none rfl

theorem Sys2Proof.Laws.HostRows.slotRelease (t : Nat) (die : Fin 4) :
    Laws.HostRows.Statement (.slotRelease t die) :=
  Laws.HostRows.of_none rfl

theorem Sys2Proof.Laws.HostRows.weirBlockDone (t : Nat) (engine : Fin 8) :
    Laws.HostRows.Statement (.weirBlockDone t engine) :=
  Laws.HostRows.of_none rfl

theorem Sys2Proof.Laws.HostRows.bankRelease (t : Nat) :
    Laws.HostRows.Statement (.bankRelease t) :=
  Laws.HostRows.of_none rfl

theorem Sys2Proof.Laws.HostRows.autoEpochFill (t : Nat) (ref : Nat) (steer : List (Nat × Steer)) :
    Laws.HostRows.Statement (.autoEpochFill t ref steer) :=
  Laws.HostRows.of_none rfl

theorem Sys2Proof.Laws.HostRows.zoomSourceProcess (t : Nat) (chan upto : Nat) (bad : List Nat) :
    Laws.HostRows.Statement (.zoomSourceProcess t chan upto bad) :=
  Laws.HostRows.of_none rfl

theorem Sys2Proof.Laws.HostRows.zoomBlockDeliver (t : Nat) (window : Fin 32) :
    Laws.HostRows.Statement (.zoomBlockDeliver t window) :=
  Laws.HostRows.of_none rfl

theorem Sys2Proof.Laws.HostRows.gateAssert (t : Nat) (out : Fin 8) :
    Laws.HostRows.Statement (.gateAssert t out) :=
  Laws.HostRows.of_none rfl

theorem Sys2Proof.Laws.HostRows.gateDeassert (t : Nat) (out : Fin 8) :
    Laws.HostRows.Statement (.gateDeassert t out) :=
  Laws.HostRows.of_none rfl

theorem Sys2Proof.Laws.HostRows.packetSend (t : Nat) (stream : Nat) :
    Laws.HostRows.Statement (.packetSend t stream) :=
  Laws.HostRows.of_none rfl

theorem Sys2Proof.Laws.HostRows.eventsPacketTimeout (t : Nat) :
    Laws.HostRows.Statement (.eventsPacketTimeout t) :=
  Laws.HostRows.of_none rfl

theorem Sys2Proof.Laws.HostRows.telemetryPeriod (t : Nat) :
    Laws.HostRows.Statement (.telemetryPeriod t) :=
  Laws.HostRows.of_none rfl

theorem Sys2Proof.Laws.HostRows.hostLinkChange (t : Nat) (port : Fin 2) (up : Bool) :
    Laws.HostRows.Statement (.hostLinkChange t port up) :=
  Laws.HostRows.of_none rfl

theorem Sys2Proof.Laws.HostRows.hostLinkTimeout (t : Nat) (port : Fin 2) :
    Laws.HostRows.Statement (.hostLinkTimeout t port) :=
  Laws.HostRows.of_none rfl

theorem Sys2Proof.Laws.HostRows.hostFlowctlFrame (t : Nat) (port : Fin 2) :
    Laws.HostRows.Statement (.hostFlowctlFrame t port) :=
  Laws.HostRows.of_none rfl

theorem Sys2Proof.Laws.HostRows.compressUnitAssign (t : Nat) :
    Laws.HostRows.Statement (.compressUnitAssign t) :=
  Laws.HostRows.of_none rfl

theorem Sys2Proof.Laws.HostRows.compressUnitDone (t : Nat) (comp : Fin 16) :
    Laws.HostRows.Statement (.compressUnitDone t comp) :=
  Laws.HostRows.of_none rfl

theorem Sys2Proof.Laws.HostRows.decompJobStart (t : Nat) :
    Laws.HostRows.Statement (.decompJobStart t) :=
  Laws.HostRows.of_none rfl

theorem Sys2Proof.Laws.HostRows.decompJobEnd (t : Nat) :
    Laws.HostRows.Statement (.decompJobEnd t) :=
  Laws.HostRows.of_none rfl

theorem Sys2Proof.Laws.HostRows.commitPoint (t : Nat) :
    Laws.HostRows.Statement (.commitPoint t) :=
  Laws.HostRows.of_none rfl

theorem Sys2Proof.Laws.HostRows.commitBoundary (t : Nat) :
    Laws.HostRows.Statement (.commitBoundary t) :=
  Laws.HostRows.of_none rfl

theorem Sys2Proof.Laws.HostRows.shedTakeEffect (t : Nat) :
    Laws.HostRows.Statement (.shedTakeEffect t) :=
  Laws.HostRows.of_none rfl

theorem Sys2Proof.Laws.HostRows.mpy (core : Fin 64) (ecc : Ecc) :
    Laws.HostRows.Statement (.mpy core ecc) :=
  Laws.HostRows.of_none rfl

theorem Sys2Proof.Laws.HostRows.mac (core : Fin 64) (ecc : Ecc) :
    Laws.HostRows.Statement (.mac core ecc) :=
  Laws.HostRows.of_none rfl

theorem Sys2Proof.Laws.HostRows.msu (core : Fin 64) (ecc : Ecc) :
    Laws.HostRows.Statement (.msu core ecc) :=
  Laws.HostRows.of_none rfl

theorem Sys2Proof.Laws.HostRows.mpysu (core : Fin 64) (ecc : Ecc) :
    Laws.HostRows.Statement (.mpysu core ecc) :=
  Laws.HostRows.of_none rfl

theorem Sys2Proof.Laws.HostRows.macsu (core : Fin 64) (ecc : Ecc) :
    Laws.HostRows.Statement (.macsu core ecc) :=
  Laws.HostRows.of_none rfl

theorem Sys2Proof.Laws.HostRows.add (core : Fin 64) (ecc : Ecc) :
    Laws.HostRows.Statement (.add core ecc) :=
  Laws.HostRows.of_none rfl

theorem Sys2Proof.Laws.HostRows.sub (core : Fin 64) (ecc : Ecc) :
    Laws.HostRows.Statement (.sub core ecc) :=
  Laws.HostRows.of_none rfl

theorem Sys2Proof.Laws.HostRows.and (core : Fin 64) (ecc : Ecc) :
    Laws.HostRows.Statement (.and core ecc) :=
  Laws.HostRows.of_none rfl

theorem Sys2Proof.Laws.HostRows.or (core : Fin 64) (ecc : Ecc) :
    Laws.HostRows.Statement (.or core ecc) :=
  Laws.HostRows.of_none rfl

theorem Sys2Proof.Laws.HostRows.xor (core : Fin 64) (ecc : Ecc) :
    Laws.HostRows.Statement (.xor core ecc) :=
  Laws.HostRows.of_none rfl

theorem Sys2Proof.Laws.HostRows.shl (core : Fin 64) (ecc : Ecc) :
    Laws.HostRows.Statement (.shl core ecc) :=
  Laws.HostRows.of_none rfl

theorem Sys2Proof.Laws.HostRows.shra (core : Fin 64) (ecc : Ecc) :
    Laws.HostRows.Statement (.shra core ecc) :=
  Laws.HostRows.of_none rfl

theorem Sys2Proof.Laws.HostRows.shrl (core : Fin 64) (ecc : Ecc) :
    Laws.HostRows.Statement (.shrl core ecc) :=
  Laws.HostRows.of_none rfl

theorem Sys2Proof.Laws.HostRows.abs (core : Fin 64) (ecc : Ecc) :
    Laws.HostRows.Statement (.abs core ecc) :=
  Laws.HostRows.of_none rfl

theorem Sys2Proof.Laws.HostRows.neg (core : Fin 64) (ecc : Ecc) :
    Laws.HostRows.Statement (.neg core ecc) :=
  Laws.HostRows.of_none rfl

theorem Sys2Proof.Laws.HostRows.min (core : Fin 64) (ecc : Ecc) :
    Laws.HostRows.Statement (.min core ecc) :=
  Laws.HostRows.of_none rfl

theorem Sys2Proof.Laws.HostRows.max (core : Fin 64) (ecc : Ecc) :
    Laws.HostRows.Statement (.max core ecc) :=
  Laws.HostRows.of_none rfl

theorem Sys2Proof.Laws.HostRows.mov (core : Fin 64) (ecc : Ecc) :
    Laws.HostRows.Statement (.mov core ecc) :=
  Laws.HostRows.of_none rfl

theorem Sys2Proof.Laws.HostRows.cmplt (core : Fin 64) (ecc : Ecc) :
    Laws.HostRows.Statement (.cmplt core ecc) :=
  Laws.HostRows.of_none rfl

theorem Sys2Proof.Laws.HostRows.cmpeq (core : Fin 64) (ecc : Ecc) :
    Laws.HostRows.Statement (.cmpeq core ecc) :=
  Laws.HostRows.of_none rfl

theorem Sys2Proof.Laws.HostRows.adda (core : Fin 64) (ecc : Ecc) :
    Laws.HostRows.Statement (.adda core ecc) :=
  Laws.HostRows.of_none rfl

theorem Sys2Proof.Laws.HostRows.suba (core : Fin 64) (ecc : Ecc) :
    Laws.HostRows.Statement (.suba core ecc) :=
  Laws.HostRows.of_none rfl

theorem Sys2Proof.Laws.HostRows.shla (core : Fin 64) (ecc : Ecc) :
    Laws.HostRows.Statement (.shla core ecc) :=
  Laws.HostRows.of_none rfl

theorem Sys2Proof.Laws.HostRows.shraAcc (core : Fin 64) (ecc : Ecc) :
    Laws.HostRows.Statement (.shraAcc core ecc) :=
  Laws.HostRows.of_none rfl

theorem Sys2Proof.Laws.HostRows.clra (core : Fin 64) (ecc : Ecc) :
    Laws.HostRows.Statement (.clra core ecc) :=
  Laws.HostRows.of_none rfl

theorem Sys2Proof.Laws.HostRows.ext (core : Fin 64) (ecc : Ecc) :
    Laws.HostRows.Statement (.ext core ecc) :=
  Laws.HostRows.of_none rfl

theorem Sys2Proof.Laws.HostRows.mova (core : Fin 64) (ecc : Ecc) :
    Laws.HostRows.Statement (.mova core ecc) :=
  Laws.HostRows.of_none rfl

theorem Sys2Proof.Laws.HostRows.insa (core : Fin 64) (ecc : Ecc) :
    Laws.HostRows.Statement (.insa core ecc) :=
  Laws.HostRows.of_none rfl

theorem Sys2Proof.Laws.HostRows.nop (core : Fin 64) (ecc : Ecc) :
    Laws.HostRows.Statement (.nop core ecc) :=
  Laws.HostRows.of_none rfl

theorem Sys2Proof.Laws.HostRows.br (core : Fin 64) (ecc : Ecc) :
    Laws.HostRows.Statement (.br core ecc) :=
  Laws.HostRows.of_none rfl

theorem Sys2Proof.Laws.HostRows.call (core : Fin 64) (ecc : Ecc) :
    Laws.HostRows.Statement (.call core ecc) :=
  Laws.HostRows.of_none rfl

theorem Sys2Proof.Laws.HostRows.ret (core : Fin 64) (ecc : Ecc) :
    Laws.HostRows.Statement (.ret core ecc) :=
  Laws.HostRows.of_none rfl

theorem Sys2Proof.Laws.HostRows.loop (core : Fin 64) (ecc : Ecc) :
    Laws.HostRows.Statement (.loop core ecc) :=
  Laws.HostRows.of_none rfl

theorem Sys2Proof.Laws.HostRows.reti (core : Fin 64) (ecc : Ecc) :
    Laws.HostRows.Statement (.reti core ecc) :=
  Laws.HostRows.of_none rfl

theorem Sys2Proof.Laws.HostRows.wait (core : Fin 64) (ecc : Ecc) :
    Laws.HostRows.Statement (.wait core ecc) :=
  Laws.HostRows.of_none rfl

theorem Sys2Proof.Laws.HostRows.halt (core : Fin 64) (ecc : Ecc) :
    Laws.HostRows.Statement (.halt core ecc) :=
  Laws.HostRows.of_none rfl

theorem Sys2Proof.Laws.HostRows.ei (core : Fin 64) (ecc : Ecc) :
    Laws.HostRows.Statement (.ei core ecc) :=
  Laws.HostRows.of_none rfl

theorem Sys2Proof.Laws.HostRows.di (core : Fin 64) (ecc : Ecc) :
    Laws.HostRows.Statement (.di core ecc) :=
  Laws.HostRows.of_none rfl

theorem Sys2Proof.Laws.HostRows.addpi (core : Fin 64) (ecc : Ecc) :
    Laws.HostRows.Statement (.addpi core ecc) :=
  Laws.HostRows.of_none rfl

theorem Sys2Proof.Laws.HostRows.addpp (core : Fin 64) (ecc : Ecc) :
    Laws.HostRows.Statement (.addpp core ecc) :=
  Laws.HostRows.of_none rfl

theorem Sys2Proof.Laws.HostRows.subpp (core : Fin 64) (ecc : Ecc) :
    Laws.HostRows.Statement (.subpp core ecc) :=
  Laws.HostRows.of_none rfl

theorem Sys2Proof.Laws.HostRows.movpi (core : Fin 64) (ecc : Ecc) :
    Laws.HostRows.Statement (.movpi core ecc) :=
  Laws.HostRows.of_none rfl

theorem Sys2Proof.Laws.HostRows.movpp (core : Fin 64) (ecc : Ecc) :
    Laws.HostRows.Statement (.movpp core ecc) :=
  Laws.HostRows.of_none rfl

theorem Sys2Proof.Laws.HostRows.movdp (core : Fin 64) (ecc : Ecc) :
    Laws.HostRows.Statement (.movdp core ecc) :=
  Laws.HostRows.of_none rfl

theorem Sys2Proof.Laws.HostRows.movpd (core : Fin 64) (ecc : Ecc) :
    Laws.HostRows.Statement (.movpd core ecc) :=
  Laws.HostRows.of_none rfl

theorem Sys2Proof.Laws.HostRows.movdc (core : Fin 64) (ecc : Ecc) :
    Laws.HostRows.Statement (.movdc core ecc) :=
  Laws.HostRows.of_none rfl

theorem Sys2Proof.Laws.HostRows.movcd (core : Fin 64) (ecc : Ecc) :
    Laws.HostRows.Statement (.movcd core ecc) :=
  Laws.HostRows.of_none rfl

theorem Sys2Proof.Laws.HostRows.movad (core : Fin 64) (ecc : Ecc) :
    Laws.HostRows.Statement (.movad core ecc) :=
  Laws.HostRows.of_none rfl

theorem Sys2Proof.Laws.HostRows.movgd (core : Fin 64) (ecc : Ecc) :
    Laws.HostRows.Statement (.movgd core ecc) :=
  Laws.HostRows.of_none rfl

theorem Sys2Proof.Laws.HostRows.movi32 (core : Fin 64) (ecc : Ecc) :
    Laws.HostRows.Statement (.movi32 core ecc) :=
  Laws.HostRows.of_none rfl

theorem Sys2Proof.Laws.HostRows.movip (core : Fin 64) (ecc : Ecc) :
    Laws.HostRows.Statement (.movip core ecc) :=
  Laws.HostRows.of_none rfl

theorem Sys2Proof.Laws.HostRows.movicr (core : Fin 64) (ecc : Ecc) :
    Laws.HostRows.Statement (.movicr core ecc) :=
  Laws.HostRows.of_none rfl

theorem Sys2Proof.Laws.HostRows.jmp (core : Fin 64) (ecc : Ecc) :
    Laws.HostRows.Statement (.jmp core ecc) :=
  Laws.HostRows.of_none rfl

theorem Sys2Proof.Laws.HostRows.load (core : Fin 64) (ecc : Ecc) :
    Laws.HostRows.Statement (.load core ecc) :=
  Laws.HostRows.of_none rfl

theorem Sys2Proof.Laws.HostRows.store (core : Fin 64) (ecc : Ecc) :
    Laws.HostRows.Statement (.store core ecc) :=
  Laws.HostRows.of_none rfl

theorem Sys2Proof.Laws.HostRows.ftap (core : Fin 64) (ecc : Ecc) :
    Laws.HostRows.Statement (.ftap core ecc) :=
  Laws.HostRows.of_none rfl

theorem Sys2Proof.Laws.HostRows.imm (core : Fin 64) (ecc : Ecc) :
    Laws.HostRows.Statement (.imm core ecc) :=
  Laws.HostRows.of_none rfl

theorem Sys2Proof.Laws.HostRows.interruptEntry (t : Nat) (core : Fin 64) (waited : Nat) :
    Laws.HostRows.Statement (.interruptEntry t core waited) :=
  Laws.HostRows.of_none rfl

theorem Sys2Proof.Laws.HostRows.timerMatch (t : Nat) (core : Fin 64) :
    Laws.HostRows.Statement (.timerMatch t core) :=
  Laws.HostRows.of_none rfl

theorem Sys2Proof.Laws.HostRows.cycleLoRead (t : Nat) (core : Fin 64) :
    Laws.HostRows.Statement (.cycleLoRead t core) :=
  Laws.HostRows.of_none rfl

theorem Sys2Proof.Laws.HostRows.peerRaise (t : Nat) (core : Fin 64) (k : Fin 8) :
    Laws.HostRows.Statement (.peerRaise t core k) :=
  Laws.HostRows.of_none rfl

theorem Sys2Proof.Laws.HostRows.moverSubmit (t : Nat) (core : Fin 64) (addr : Nat) :
    Laws.HostRows.Statement (.moverSubmit t core addr) :=
  Laws.HostRows.of_none rfl

theorem Sys2Proof.Laws.HostRows.moverDescDone (t : Nat) (r : MoverIn) :
    Laws.HostRows.Statement (.moverDescDone t r) :=
  Laws.HostRows.of_none rfl

theorem Sys2Proof.Laws.HostRows.tapCtlWrite (t : Nat) (core : Fin 64) (value : Nat) :
    Laws.HostRows.Statement (.tapCtlWrite t core value) :=
  Laws.HostRows.of_none rfl

theorem Sys2Proof.Laws.HostRows.tapRecord (t : Nat) (core : Fin 64) (r : TapIn) :
    Laws.HostRows.Statement (.tapRecord t core r) :=
  Laws.HostRows.of_none rfl

theorem Sys2Proof.Laws.HostRows.coreStopForced (t : Nat) (core : Fin 64) :
    Laws.HostRows.Statement (.coreStopForced t core) :=
  Laws.HostRows.of_none rfl

theorem Sys2Proof.Laws.HostRows.stockCoreReload (t : Nat) (core : Fin 64) :
    Laws.HostRows.Statement (.stockCoreReload t core) :=
  Laws.HostRows.of_none rfl

theorem Sys2Proof.Laws.HostRows.ptpSyncTx (t : Nat) (port : Fin 128) (raw : Nat) :
    Laws.HostRows.Statement (.ptpSyncTx t port raw) :=
  Laws.HostRows.of_none rfl

theorem Sys2Proof.Laws.HostRows.ptpAnnounceTx (t : Nat) (port : Fin 128) :
    Laws.HostRows.Statement (.ptpAnnounceTx t port) :=
  Laws.HostRows.of_none rfl

theorem Sys2Proof.Laws.HostRows.ptpDelayReqRx (t : Nat) (port : Fin 128) (m : PtpIn) :
    Laws.HostRows.Statement (.ptpDelayReqRx t port m) :=
  Laws.HostRows.of_none rfl

theorem Sys2Proof.Laws.HostRows.ptpPdelayReqRx (t : Nat) (port : Fin 130) (m : PtpIn) (raw : Nat) :
    Laws.HostRows.Statement (.ptpPdelayReqRx t port m raw) :=
  Laws.HostRows.of_none rfl

theorem Sys2Proof.Laws.HostRows.ptpAnnounceRx (t : Nat) (port : Fin 130) (m : PtpIn) :
    Laws.HostRows.Statement (.ptpAnnounceRx t port m) :=
  Laws.HostRows.of_none rfl

theorem Sys2Proof.Laws.HostRows.ptpSyncRx (t : Nat) (port : Fin 2) (m : PtpIn) :
    Laws.HostRows.Statement (.ptpSyncRx t port m) :=
  Laws.HostRows.of_none rfl

theorem Sys2Proof.Laws.HostRows.ptpFollowUpRx (t : Nat) (port : Fin 2) (m : PtpIn) :
    Laws.HostRows.Statement (.ptpFollowUpRx t port m) :=
  Laws.HostRows.of_none rfl

theorem Sys2Proof.Laws.HostRows.ptpDelayReqTx (t : Nat) (port : Fin 2) (raw : Nat) :
    Laws.HostRows.Statement (.ptpDelayReqTx t port raw) :=
  Laws.HostRows.of_none rfl

theorem Sys2Proof.Laws.HostRows.ptpDelayRespRx (t : Nat) (port : Fin 2) (m : PtpIn) :
    Laws.HostRows.Statement (.ptpDelayRespRx t port m) :=
  Laws.HostRows.of_none rfl

theorem Sys2Proof.Laws.HostRows.announceTimeout (t : Nat) (port : Fin 2) :
    Laws.HostRows.Statement (.announceTimeout t port) :=
  Laws.HostRows.of_none rfl

theorem Sys2Proof.Laws.HostRows.syncTimeout (t : Nat) (port : Fin 2) :
    Laws.HostRows.Statement (.syncTimeout t port) :=
  Laws.HostRows.of_none rfl

theorem Sys2Proof.Laws.HostRows.tcForward (t : Nat) (port : Fin 2) (m : PtpIn) (txRaw : Nat) :
    Laws.HostRows.Statement (.tcForward t port m txRaw) :=
  Laws.HostRows.of_none rfl

theorem Sys2Proof.Laws.HostRows.pulseEdge (t : Nat) (out : Fin 9) :
    Laws.HostRows.Statement (.pulseEdge t out) :=
  Laws.HostRows.of_none rfl

theorem Sys2Proof.Laws.HostRows.pulseDeassert (t : Nat) (out : Fin 9) :
    Laws.HostRows.Statement (.pulseDeassert t out) :=
  Laws.HostRows.of_none rfl

theorem Sys2Proof.Laws.HostRows.tideMark (t : Nat) (out : Fin 8) :
    Laws.HostRows.Statement (.tideMark t out) :=
  Laws.HostRows.of_none rfl

theorem Sys2Proof.Laws.HostRows.edgeCapture (t : Nat) (input : Fin 2) (falling : Bool) :
    Laws.HostRows.Statement (.edgeCapture t input falling) :=
  Laws.HostRows.of_none rfl

theorem Sys2Proof.Laws.HostRows.ppsEdge (t : Nat) (ref : Fin 2) (present10M : Bool) (deviation : Int) :
    Laws.HostRows.Statement (.ppsEdge t ref present10M deviation) :=
  Laws.HostRows.of_none rfl

theorem Sys2Proof.Laws.HostRows.todSentence (t : Nat) (ref : Fin 2) (text : List Byte) (started : Nat) :
    Laws.HostRows.Statement (.todSentence t ref text started) :=
  Laws.HostRows.of_none rfl

theorem Sys2Proof.Laws.HostRows.refSignalLoss (t : Nat) (ref : Fin 6) (cause : LossCause) :
    Laws.HostRows.Statement (.refSignalLoss t ref cause) :=
  Laws.HostRows.of_none rfl

theorem Sys2Proof.Laws.HostRows.esmcPduRx (t : Nat) (port : Fin 2) (ssm : Fin 16) :
    Laws.HostRows.Statement (.esmcPduRx t port ssm) :=
  Laws.HostRows.of_none rfl

theorem Sys2Proof.Laws.HostRows.refFreqMeasure (t : Nat) (ref : Fin 6) (freq : Int) :
    Laws.HostRows.Statement (.refFreqMeasure t ref freq) :=
  Laws.HostRows.of_none rfl

theorem Sys2Proof.Laws.HostRows.qualifyTimeExpiry (t : Nat) (ref : Fin 6) :
    Laws.HostRows.Statement (.qualifyTimeExpiry t ref) :=
  Laws.HostRows.of_none rfl

theorem Sys2Proof.Laws.HostRows.disagreeWindow (t : Nat) (freqs : List Int) (estimate : Int) :
    Laws.HostRows.Statement (.disagreeWindow t freqs estimate) :=
  Laws.HostRows.of_none rfl

theorem Sys2Proof.Laws.HostRows.selectionEvaluation (t : Nat) :
    Laws.HostRows.Statement (.selectionEvaluation t) :=
  Laws.HostRows.of_none rfl

theorem Sys2Proof.Laws.HostRows.switchCommit (t : Nat) (offset : Int) :
    Laws.HostRows.Statement (.switchCommit t offset) :=
  Laws.HostRows.of_none rfl

theorem Sys2Proof.Laws.HostRows.dpllLock (t : Nat) :
    Laws.HostRows.Statement (.dpllLock t) :=
  Laws.HostRows.of_none rfl

theorem Sys2Proof.Laws.HostRows.holdoverExpiry (t : Nat) :
    Laws.HostRows.Statement (.holdoverExpiry t) :=
  Laws.HostRows.of_none rfl

theorem Sys2Proof.Laws.HostRows.realignDue (t : Nat) :
    Laws.HostRows.Statement (.realignDue t) :=
  Laws.HostRows.of_none rfl

theorem Sys2Proof.Laws.HostRows.dramRequest (t : Nat) (port : Fin 7) (chan : Fin 128) (codeword : Fin 16777216) (kind : ReqKind) (flips : List (Fin 68 × Byte)) (inner waited : Nat) :
    Laws.HostRows.Statement (.dramRequest t port chan codeword kind flips inner waited) :=
  Laws.HostRows.of_none rfl

theorem Sys2Proof.Laws.HostRows.refreshDue (t : Nat) (chan : Fin 128) (pc : Fin 2) (sid : Fin 4) (busy : Bool) :
    Laws.HostRows.Statement (.refreshDue t chan pc sid busy) :=
  Laws.HostRows.of_none rfl

theorem Sys2Proof.Laws.HostRows.powerDownEntry (t : Nat) (chan : Fin 128) (pc : Fin 2) (sid : Fin 4) :
    Laws.HostRows.Statement (.powerDownEntry t chan pc sid) :=
  Laws.HostRows.of_none rfl

theorem Sys2Proof.Laws.HostRows.pageIdleClose (t : Nat) (chan : Fin 128) (pc : Fin 2) (sid : Fin 4) (bank : Fin 16) :
    Laws.HostRows.Statement (.pageIdleClose t chan pc sid bank) :=
  Laws.HostRows.of_none rfl

theorem Sys2Proof.Laws.HostRows.retrainCorrRate (t : Nat) (chan : Fin 128) :
    Laws.HostRows.Statement (.retrainCorrRate t chan) :=
  Laws.HostRows.of_none rfl

theorem Sys2Proof.Laws.HostRows.retrainTempDrift (t : Nat) (chan : Fin 128) :
    Laws.HostRows.Statement (.retrainTempDrift t chan) :=
  Laws.HostRows.of_none rfl

theorem Sys2Proof.Laws.HostRows.retrainPeriod (t : Nat) (chan : Fin 128) :
    Laws.HostRows.Statement (.retrainPeriod t chan) :=
  Laws.HostRows.of_none rfl

theorem Sys2Proof.Laws.HostRows.gatherSlice (t : Nat) (stack : Fin 8) :
    Laws.HostRows.Statement (.gatherSlice t stack) :=
  Laws.HostRows.of_none rfl

theorem Sys2Proof.Laws.HostRows.retrainApply (t : Nat) (stack : Fin 8) (margin : Bool) :
    Laws.HostRows.Statement (.retrainApply t stack margin) :=
  Laws.HostRows.of_none rfl

theorem Sys2Proof.Laws.HostRows.stackStepDownDone (t : Nat) (stack : Fin 8) (fails : List (Fin 16)) :
    Laws.HostRows.Statement (.stackStepDownDone t stack fails) :=
  Laws.HostRows.of_none rfl

theorem Sys2Proof.Laws.HostRows.retirementMarkersDone (t : Nat) :
    Laws.HostRows.Statement (.retirementMarkersDone t) :=
  Laws.HostRows.of_none rfl

theorem Sys2Proof.Laws.HostRows.canalRequest (t : Nat) (m : Fin 15) (id : Fin 32) (write : Bool) (addr beats : Nat) (data : List (Nat × Byte)) :
    Laws.HostRows.Statement (.canalRequest t m id write addr beats data) :=
  Laws.HostRows.of_none rfl

theorem Sys2Proof.Laws.HostRows.canalPieceGrant (t : Nat) (port : Fin 80) (responds : Bool) (r : CulvertIn) :
    Laws.HostRows.Statement (.canalPieceGrant t port responds r) :=
  Laws.HostRows.of_none rfl

theorem Sys2Proof.Laws.HostRows.canalTargetTimeout (t : Nat) (m : Fin 15) (id : Fin 32) :
    Laws.HostRows.Statement (.canalTargetTimeout t m id) :=
  Laws.HostRows.of_none rfl

theorem Sys2Proof.Laws.HostRows.masterResetDrained (t : Nat) (m : Fin 15) :
    Laws.HostRows.Statement (.masterResetDrained t m) :=
  Laws.HostRows.of_none rfl

theorem Sys2Proof.Laws.HostRows.semTake (t : Nat) (m : Fin 15) (k : Fin 64) :
    Laws.HostRows.Statement (.semTake t m k) :=
  Laws.HostRows.of_none rfl

theorem Sys2Proof.Laws.HostRows.semGive (t : Nat) (m : Fin 15) (k : Fin 64) (value : Nat) :
    Laws.HostRows.Statement (.semGive t m k value) :=
  Laws.HostRows.of_none rfl

theorem Sys2Proof.Laws.HostRows.rcRead (t : Nat) (m : Fin 2) (c : Ctr) (inst : Fin 4096) :
    Laws.HostRows.Statement (.rcRead t m c inst) :=
  Laws.HostRows.of_none rfl

theorem Sys2Proof.Laws.HostRows.registerWrite (t : Nat) (m : Fin 2) (r : Reg) (value : Nat) :
    Laws.HostRows.Statement (.registerWrite t m r value) :=
  Laws.HostRows.of_none rfl

theorem Sys2Proof.Laws.HostRows.zcpSessionOpen (t : Nat) (d : Dgram) :
    Laws.HostRows.Statement (.zcpSessionOpen t d) :=
  Laws.HostRows.of_none rfl

theorem Sys2Proof.Laws.HostRows.zcpSessionClose (t : Nat) (d : Dgram) :
    Laws.HostRows.Statement (.zcpSessionClose t d) :=
  Laws.HostRows.of_some rfl rfl rfl (by decide) (by decide)

theorem Sys2Proof.Laws.HostRows.zcpNop (t : Nat) (d : Dgram) :
    Laws.HostRows.Statement (.zcpNop t d) :=
  Laws.HostRows.of_some rfl rfl rfl (by decide) (by decide)

theorem Sys2Proof.Laws.HostRows.zcpIdentity (t : Nat) (d : Dgram) :
    Laws.HostRows.Statement (.zcpIdentity t d) :=
  Laws.HostRows.of_some rfl rfl rfl (by decide) (by decide)

theorem Sys2Proof.Laws.HostRows.zcpKeySet (t : Nat) (d : Dgram) :
    Laws.HostRows.Statement (.zcpKeySet t d) :=
  Laws.HostRows.of_some rfl rfl rfl (by decide) (by decide)

theorem Sys2Proof.Laws.HostRows.zcpFuncReinit (t : Nat) (d : Dgram) :
    Laws.HostRows.Statement (.zcpFuncReinit t d) :=
  Laws.HostRows.of_some rfl rfl rfl (by decide) (by decide)

theorem Sys2Proof.Laws.HostRows.zcpModuleReset (t : Nat) (d : Dgram) (b : BootIn) :
    Laws.HostRows.Statement (.zcpModuleReset t d b) :=
  Laws.HostRows.of_some rfl rfl rfl (by decide) (by decide)

theorem Sys2Proof.Laws.HostRows.zcpTakeover (t : Nat) (d : Dgram) :
    Laws.HostRows.Statement (.zcpTakeover t d) :=
  Laws.HostRows.of_some rfl rfl rfl (by decide) (by decide)

theorem Sys2Proof.Laws.HostRows.zcpParamGet (t : Nat) (d : Dgram) :
    Laws.HostRows.Statement (.zcpParamGet t d) :=
  Laws.HostRows.of_none rfl

theorem Sys2Proof.Laws.HostRows.zcpParamSet (t : Nat) (d : Dgram) :
    Laws.HostRows.Statement (.zcpParamSet t d) :=
  Laws.HostRows.of_none rfl

theorem Sys2Proof.Laws.HostRows.zcpPlanCheck (t : Nat) (d : Dgram) :
    Laws.HostRows.Statement (.zcpPlanCheck t d) :=
  Laws.HostRows.of_some rfl rfl rfl (by decide) (by decide)

theorem Sys2Proof.Laws.HostRows.zcpPlanCommit (t : Nat) (d : Dgram) (boundary : Option Nat) :
    Laws.HostRows.Statement (.zcpPlanCommit t d boundary) :=
  Laws.HostRows.of_some rfl rfl rfl (by decide) (Config.payloadLength_le _)

theorem Sys2Proof.Laws.HostRows.zcpPlanCancel (t : Nat) (d : Dgram) :
    Laws.HostRows.Statement (.zcpPlanCancel t d) :=
  Laws.HostRows.of_some rfl rfl rfl (by decide) (by decide)

theorem Sys2Proof.Laws.HostRows.zcpCapacityRecord (t : Nat) (d : Dgram) :
    Laws.HostRows.Statement (.zcpCapacityRecord t d) :=
  Laws.HostRows.of_some rfl rfl rfl (by decide) (by decide)

theorem Sys2Proof.Laws.HostRows.zcpSnapshot (t : Nat) (d : Dgram) (chans : List Nat) :
    Laws.HostRows.Statement (.zcpSnapshot t d chans) :=
  Laws.HostRows.of_some rfl rfl rfl (by decide) (Config.payloadLength_le _)

theorem Sys2Proof.Laws.HostRows.zcpTotalsReset (t : Nat) (d : Dgram) (area region : Fin 2) :
    Laws.HostRows.Statement (.zcpTotalsReset t d area region) :=
  Laws.HostRows.of_some rfl rfl rfl (by decide) (Config.payloadLength_le _)

theorem Sys2Proof.Laws.HostRows.zcpWeirEpoch (t : Nat) (d : Dgram) (bank : Fin 2) (boundary : Nat) :
    Laws.HostRows.Statement (.zcpWeirEpoch t d bank boundary) :=
  Laws.HostRows.of_some rfl rfl rfl (by decide) (Config.payloadLength_le _)

theorem Sys2Proof.Laws.HostRows.zcpWeirEpochCancel (t : Nat) (d : Dgram) (bank : Fin 2) :
    Laws.HostRows.Statement (.zcpWeirEpochCancel t d bank) :=
  Laws.HostRows.of_some rfl rfl rfl (by decide) (Config.payloadLength_le _)

theorem Sys2Proof.Laws.HostRows.zcpTimeGet (t : Nat) (d : Dgram) :
    Laws.HostRows.Statement (.zcpTimeGet t d) :=
  Laws.HostRows.of_some rfl rfl rfl (by decide) (by decide)

theorem Sys2Proof.Laws.HostRows.zcpTimeSet (t : Nat) (d : Dgram) (x : Nat) :
    Laws.HostRows.Statement (.zcpTimeSet t d x) :=
  Laws.HostRows.of_some rfl rfl rfl (by decide) (Config.payloadLength_le _)

theorem Sys2Proof.Laws.HostRows.zcpTimeRealign (t : Nat) (d : Dgram) (sec : Nat) :
    Laws.HostRows.Statement (.zcpTimeRealign t d sec) :=
  Laws.HostRows.of_some rfl rfl rfl (by decide) (Config.payloadLength_le _)

theorem Sys2Proof.Laws.HostRows.zcpRefSelect (t : Nat) (d : Dgram) (r : Nat) :
    Laws.HostRows.Statement (.zcpRefSelect t d r) :=
  Laws.HostRows.of_some rfl rfl rfl (by decide) (Config.payloadLength_le _)

theorem Sys2Proof.Laws.HostRows.zcpPtpSend (t : Nat) (d : Dgram) (port : Nat) (msg : List Byte) (raw : Nat) :
    Laws.HostRows.Statement (.zcpPtpSend t d port msg raw) :=
  Laws.HostRows.of_some rfl rfl rfl (by decide) (Config.payloadLength_le _)

theorem Sys2Proof.Laws.HostRows.zcpPtpTxts (t : Nat) (d : Dgram) (port mtype domain seq : Nat) :
    Laws.HostRows.Statement (.zcpPtpTxts t d port mtype domain seq) :=
  Laws.HostRows.of_some rfl rfl rfl (by decide) (Config.payloadLength_le _)

theorem Sys2Proof.Laws.HostRows.zcpTideOutArm (t : Nat) (d : Dgram) (n : Nat) :
    Laws.HostRows.Statement (.zcpTideOutArm t d n) :=
  Laws.HostRows.of_some rfl rfl rfl (by decide) (Config.payloadLength_le _)

theorem Sys2Proof.Laws.HostRows.zcpTideOutStop (t : Nat) (d : Dgram) (n : Nat) :
    Laws.HostRows.Statement (.zcpTideOutStop t d n) :=
  Laws.HostRows.of_some rfl rfl rfl (by decide) (Config.payloadLength_le _)

theorem Sys2Proof.Laws.HostRows.zcpMemRetrain (t : Nat) (d : Dgram) (chan : Nat) :
    Laws.HostRows.Statement (.zcpMemRetrain t d chan) :=
  Laws.HostRows.of_some rfl rfl rfl (by decide) (Config.payloadLength_le _)

theorem Sys2Proof.Laws.HostRows.zcpMemSpeed (t : Nat) (d : Dgram) (k bin : Nat) :
    Laws.HostRows.Statement (.zcpMemSpeed t d k bin) :=
  Laws.HostRows.of_some rfl rfl rfl (by decide) (Config.payloadLength_le _)

theorem Sys2Proof.Laws.HostRows.zcpMemClearRetired (t : Nat) (d : Dgram) :
    Laws.HostRows.Statement (.zcpMemClearRetired t d) :=
  Laws.HostRows.of_some rfl rfl rfl (by decide) (by decide)

theorem Sys2Proof.Laws.HostRows.zcpSluiceLoad (t : Nat) (d : Dgram) :
    Laws.HostRows.Statement (.zcpSluiceLoad t d) :=
  Laws.HostRows.of_some rfl rfl rfl (by decide) (by decide)

theorem Sys2Proof.Laws.HostRows.zcpSluiceStart (t : Nat) (d : Dgram) (n : Nat) :
    Laws.HostRows.Statement (.zcpSluiceStart t d n) :=
  Laws.HostRows.of_some rfl rfl rfl (by decide) (Config.payloadLength_le _)

theorem Sys2Proof.Laws.HostRows.zcpSluiceStop (t : Nat) (d : Dgram) (n : Nat) :
    Laws.HostRows.Statement (.zcpSluiceStop t d n) :=
  Laws.HostRows.of_some rfl rfl rfl (by decide) (Config.payloadLength_le _)

theorem Sys2Proof.Laws.HostRows.zcpSluiceStatus (t : Nat) (d : Dgram) (n : Nat) :
    Laws.HostRows.Statement (.zcpSluiceStatus t d n) :=
  Laws.HostRows.of_some rfl rfl rfl (by decide) (Config.payloadLength_le _)

theorem Sys2Proof.Laws.HostRows.zcpSluiceGainSolve (t : Nat) (d : Dgram) (area region : Fin 2) (chans : List Nat) :
    Laws.HostRows.Statement (.zcpSluiceGainSolve t d area region chans) :=
  Laws.HostRows.of_some rfl rfl rfl (by decide) (Config.payloadLength_le _)

theorem Sys2Proof.Laws.HostRows.zcpFaultStatus (t : Nat) (d : Dgram) :
    Laws.HostRows.Statement (.zcpFaultStatus t d) :=
  Laws.HostRows.of_some rfl rfl rfl (by decide) (by decide)

theorem Sys2Proof.Laws.HostRows.zcpBbRead (t : Nat) (d : Dgram) (first count : Nat) :
    Laws.HostRows.Statement (.zcpBbRead t d first count) :=
  Laws.HostRows.of_some rfl rfl rfl (by decide) (Config.payloadLength_le _)

theorem Sys2Proof.Laws.HostRows.zcpBbFlush (t : Nat) (r : FlushIn) :
    Laws.HostRows.Statement (.zcpBbFlush t r) :=
  Laws.HostRows.of_some rfl rfl rfl (by decide) (by decide)

theorem Sys2Proof.Laws.HostRows.bbSlotEraseDone (r : EraseIn) :
    Laws.HostRows.Statement (.bbSlotEraseDone r) :=
  Laws.HostRows.of_none rfl

theorem Sys2Proof.Laws.HostRows.zcpBbMark (t : Nat) (d : Dgram) :
    Laws.HostRows.Statement (.zcpBbMark t d) :=
  Laws.HostRows.of_some rfl rfl rfl (by decide) (by decide)

theorem Sys2Proof.Laws.HostRows.zcpFaultInject (t : Nat) (d : Dgram) (src : Nat) :
    Laws.HostRows.Statement (.zcpFaultInject t d src) :=
  Laws.HostRows.of_some rfl rfl rfl (by decide) (Config.payloadLength_le _)

theorem Sys2Proof.Laws.HostRows.zcpMarginRun (t : Nat) (d : Dgram) (n : Nat) (plan : PlannerIn) :
    Laws.HostRows.Statement (.zcpMarginRun t d n plan) :=
  Laws.HostRows.of_some rfl rfl rfl (by decide) (Config.payloadLength_le _)

theorem Sys2Proof.Laws.HostRows.zcpBulkOpen (t : Nat) (d : Dgram) :
    Laws.HostRows.Statement (.zcpBulkOpen t d) :=
  Laws.HostRows.of_some rfl rfl rfl (by decide) (by decide)

theorem Sys2Proof.Laws.HostRows.zcpBulkData (t : Nat) (d : Dgram) :
    Laws.HostRows.Statement (.zcpBulkData t d) :=
  Laws.HostRows.of_none rfl

theorem Sys2Proof.Laws.HostRows.zcpBulkClose (t : Nat) (d : Dgram) (id : Nat) :
    Laws.HostRows.Statement (.zcpBulkClose t d id) :=
  Laws.HostRows.of_some rfl rfl rfl (by decide) (Config.payloadLength_le _)

theorem Sys2Proof.Laws.HostRows.zcpBulkReread (t : Nat) (d : Dgram) (id offset length : Nat) :
    Laws.HostRows.Statement (.zcpBulkReread t d id offset length) :=
  Laws.HostRows.of_some rfl rfl rfl (by decide) (Config.payloadLength_le _)

theorem Sys2Proof.Laws.HostRows.zcpBulkStatus (t : Nat) (d : Dgram) (id : Nat) :
    Laws.HostRows.Statement (.zcpBulkStatus t d id) :=
  Laws.HostRows.of_some rfl rfl rfl (by decide) (Config.payloadLength_le _)

theorem Sys2Proof.Laws.HostRows.zcpPeek (t : Nat) (d : Dgram) :
    Laws.HostRows.Statement (.zcpPeek t d) :=
  Laws.HostRows.of_some rfl rfl rfl (by decide) (by decide)

theorem Sys2Proof.Laws.HostRows.zcpPoke (t : Nat) (d : Dgram) :
    Laws.HostRows.Statement (.zcpPoke t d) :=
  Laws.HostRows.of_none rfl

theorem Sys2Proof.Laws.HostRows.zcpFwStatus (t : Nat) (d : Dgram) :
    Laws.HostRows.Statement (.zcpFwStatus t d) :=
  Laws.HostRows.of_some rfl rfl rfl (by decide) (by decide)

theorem Sys2Proof.Laws.HostRows.zcpFwInstall (t : Nat) (d : Dgram) (r : InstallIn) :
    Laws.HostRows.Statement (.zcpFwInstall t d r) :=
  Laws.HostRows.of_some rfl rfl rfl (by decide) (Config.payloadLength_le _)

theorem Sys2Proof.Laws.HostRows.zcpFwSetBoot (t : Nat) (d : Dgram) (image : Nat) :
    Laws.HostRows.Statement (.zcpFwSetBoot t d image) :=
  Laws.HostRows.of_some rfl rfl rfl (by decide) (Config.payloadLength_le _)

theorem Sys2Proof.Laws.HostRows.zcpFwAccept (t : Nat) (d : Dgram) :
    Laws.HostRows.Statement (.zcpFwAccept t d) :=
  Laws.HostRows.of_some rfl rfl rfl (by decide) (by decide)

theorem Sys2Proof.Laws.HostRows.zcpAck (t : Nat) (d : Dgram) :
    Laws.HostRows.Statement (.zcpAck t d) :=
  Laws.HostRows.of_none rfl

theorem Sys2Proof.Laws.HostRows.zcpUnsolRetransmit (t : Nat) (slot : Fin 4) (seq : Nat) :
    Laws.HostRows.Statement (.zcpUnsolRetransmit t slot seq) :=
  Laws.HostRows.of_none rfl

theorem Sys2Proof.Laws.HostRows.zcpUnsolAgeOut (t : Nat) (slot : Fin 4) (seq : Nat) :
    Laws.HostRows.Statement (.zcpUnsolAgeOut t slot seq) :=
  Laws.HostRows.of_none rfl

theorem Sys2Proof.Laws.HostRows.zcpTelemetry (t : Nat) (slot : Fin 4) :
    Laws.HostRows.Statement (.zcpTelemetry t slot) :=
  Laws.HostRows.of_none rfl

theorem Sys2Proof.Laws.HostRows.sessionIdleTimeout (t : Nat) (slot : Fin 4) :
    Laws.HostRows.Statement (.sessionIdleTimeout t slot) :=
  Laws.HostRows.of_none rfl

theorem Sys2Proof.Laws.HostRows.bulkWaitExpiry (t : Nat) (slot : Fin 4) (id : Nat) :
    Laws.HostRows.Statement (.bulkWaitExpiry t slot id) :=
  Laws.HostRows.of_none rfl

theorem Sys2Proof.Laws.HostRows.bulkIdleExpiry (t : Nat) (slot : Fin 4) (id : Nat) :
    Laws.HostRows.Statement (.bulkIdleExpiry t slot id) :=
  Laws.HostRows.of_none rfl

theorem Sys2Proof.Laws.HostRows.heartbeat (t : Nat) :
    Laws.HostRows.Statement (.heartbeat t) :=
  Laws.HostRows.of_none rfl

theorem Sys2Proof.Laws.HostRows.heartbeatMissTakeover (t : Nat) (cause : TakeoverCause) (held : List Dgram) :
    Laws.HostRows.Statement (.heartbeatMissTakeover t cause held) :=
  Laws.HostRows.of_none rfl

theorem Sys2Proof.Laws.HostRows.mirrorConfirmTimeout (t : Nat) :
    Laws.HostRows.Statement (.mirrorConfirmTimeout t) :=
  Laws.HostRows.of_none rfl

theorem Sys2Proof.Laws.HostRows.standbyResyncDone (t : Nat) :
    Laws.HostRows.Statement (.standbyResyncDone t) :=
  Laws.HostRows.of_none rfl

theorem Sys2Proof.Laws.HostRows.quietTimeExpiry (t : Nat) (cls : Fin 4) :
    Laws.HostRows.Statement (.quietTimeExpiry t cls) :=
  Laws.HostRows.of_none rfl

theorem Sys2Proof.Laws.HostRows.gaugeAlarm (t : Nat) (g : GaugeAt) (margin : Int) (plan : PlannerIn) :
    Laws.HostRows.Statement (.gaugeAlarm t g margin plan) :=
  Laws.HostRows.of_none rfl

theorem Sys2Proof.Laws.HostRows.plannerPeriod (t : Nat) (plan : PlannerIn) :
    Laws.HostRows.Statement (.plannerPeriod t plan) :=
  Laws.HostRows.of_none rfl

theorem Sys2Proof.Laws.HostRows.imageReadyTimeout (t : Nat) (b : BootIn) :
    Laws.HostRows.Statement (.imageReadyTimeout t b) :=
  Laws.HostRows.of_none rfl

theorem Sys2Proof.Laws.HostRows.fwTrialExpiry (t : Nat) (b : BootIn) :
    Laws.HostRows.Statement (.fwTrialExpiry t b) :=
  Laws.HostRows.of_none rfl

theorem Sys2Proof.Laws.HostRows.oncePerSecondReport (t : Nat) (r : Sensors) :
    Laws.HostRows.Statement (.oncePerSecondReport t r) :=
  Laws.HostRows.of_none rfl

theorem Sys2Proof.Laws.HostRows.holdUpExhausted (t : Nat) :
    Laws.HostRows.Statement (.holdUpExhausted t) :=
  Laws.HostRows.of_none rfl

theorem Sys2Proof.Laws.HostRows.slewEnd (t : Nat) :
    Laws.HostRows.Statement (.slewEnd t) :=
  Laws.HostRows.of_none rfl

theorem Sys2Proof.Laws.HostRows.standbyHeartbeatFail (t : Nat) :
    Laws.HostRows.Statement (.standbyHeartbeatFail t) :=
  Laws.HostRows.of_none rfl

theorem Sys2Proof.Laws.HostRows.domainWakeDone (t : Nat) (pd : Fin 40) :
    Laws.HostRows.Statement (.domainWakeDone t pd) :=
  Laws.HostRows.of_none rfl

theorem Sys2Proof.Laws.HostRows.boundaryItemApply (t : Nat) (item : Item) (inst : Fin 4096) :
    Laws.HostRows.Statement (.boundaryItemApply t item inst) :=
  Laws.HostRows.of_none rfl
end

