-- ==== Sys2Proof/Laws/Store.lean ====
section
/-! SUPPORT. What sparse stores, memories and files of a fixed number of like things do: a read after
a write, and the canonical form. -/

namespace Sys2Proof.Machine

section
variable {α : Type} (d : Nat → α)

/-! ### Reads after writes -/

theorem sGet_sDel (m : Sparse α) (k k' : Nat) :
    sGet d (sDel m k) k' = if k' = k then d k' else sGet d m k' := by
  induction m with
  | nil => simp [sDel, sGet]
  | cons e r ih =>
    obtain ⟨j, w⟩ := e
    by_cases h : k = j
    · subst h
      by_cases h' : k' = k
      · subst h'
        simpa [sDel] using ih
      · simp [sDel, sGet, ih, h']
    · by_cases h' : k' = j
      · subst h'
        simp [sDel, sGet, h, Ne.symm h]
      · simp [sDel, sGet, h, ih, h']

theorem sDel_ne (m : Sparse α) (k : Nat) : ∀ e ∈ sDel m k, e.1 ≠ k := by
  induction m with
  | nil => simp [sDel]
  | cons e r ih =>
    obtain ⟨j, w⟩ := e
    by_cases h : k = j
    · subst h
      simpa [sDel] using ih
    · simp only [sDel, h, if_false, List.mem_cons, forall_eq_or_imp]
      exact ⟨fun e => h e.symm, ih⟩

theorem sGet_sIns (m : Sparse α) (k k' : Nat) (v : α) (hm : ∀ e ∈ m, e.1 ≠ k) :
    sGet d (sIns m k v) k' = if k' = k then v else sGet d m k' := by
  induction m with
  | nil => simp [sIns, sGet]
  | cons e r ih =>
    obtain ⟨j, w⟩ := e
    have hj : j ≠ k := hm (j, w) List.mem_cons_self
    have ih' := ih fun e he => hm e (List.mem_cons_of_mem _ he)
    by_cases h : k < j
    · simp [sIns, sGet, h]
    · by_cases h' : k' = j
      · subst h'
        simp [sIns, sGet, h, hj]
      · simp [sIns, sGet, h, ih', h']

theorem sGet_sSet (m : Sparse α) (k k' : Nat) (v : α) :
    sGet d (sSet m k v) k' = if k' = k then v else sGet d m k' := by
  rw [sSet, sGet_sIns d _ _ _ _ (sDel_ne m k), sGet_sDel]
  by_cases h : k' = k <;> simp [h]

theorem sGet_sPut [DecidableEq α] (m : Sparse α) (k k' : Nat) (v : α) :
    sGet d (sPut d m k v) k' = if k' = k then v else sGet d m k' := by
  unfold sPut
  split
  · rename_i h
    rw [sGet_sDel]
    by_cases h' : k' = k
    · simp [h', h]
    · simp [h']
  · exact sGet_sSet d m k k' v

@[simp] theorem sGet_sPut_same [DecidableEq α] (m : Sparse α) (k : Nat) (v : α) :
    sGet d (sPut d m k v) k = v := by simp [sGet_sPut]

theorem sGet_sPut_of_ne [DecidableEq α] (m : Sparse α) {k k' : Nat} (v : α) (h : k' ≠ k) :
    sGet d (sPut d m k v) k' = sGet d m k' := by simp [sGet_sPut, h]

theorem sFind_sDel (m : Sparse α) (k k' : Nat) :
    sFind (sDel m k) k' = if k' = k then none else sFind m k' := by
  induction m with
  | nil => simp [sDel, sFind]
  | cons e r ih =>
    obtain ⟨j, w⟩ := e
    by_cases h : k = j
    · subst h
      by_cases h' : k' = k
      · subst h'
        simpa [sDel] using ih
      · simp [sDel, sFind, ih, h']
    · by_cases h' : k' = j
      · subst h'
        simp [sDel, sFind, h, Ne.symm h]
      · simp [sDel, sFind, h, ih, h']

theorem sFind_sSet (m : Sparse α) (k k' : Nat) (v : α) :
    sFind (sSet m k v) k' = if k' = k then some v else sFind m k' := by
  have key : ∀ l : Sparse α, (∀ e ∈ l, e.1 ≠ k) →
      sFind (sIns l k v) k' = if k' = k then some v else sFind l k' := by
    intro l hl
    induction l with
    | nil => simp [sIns, sFind]
    | cons e r ih =>
      obtain ⟨j, w⟩ := e
      have hj : j ≠ k := hl (j, w) List.mem_cons_self
      have ih' := ih fun e he => hl e (List.mem_cons_of_mem _ he)
      by_cases h : k < j
      · simp [sIns, sFind, h]
      · by_cases h' : k' = j
        · subst h'
          simp [sIns, sFind, h, hj]
        · simp [sIns, sFind, h, ih', h']
  rw [sSet, key _ (sDel_ne m k), sFind_sDel]
  by_cases h : k' = k <;> simp [h]

@[simp] theorem sFind_sSet_same (m : Sparse α) (k : Nat) (v : α) : sFind (sSet m k v) k = some v := by
  simp [sFind_sSet]

/-! ### The canonical form -/

variable [DecidableEq α]

theorem sWfFrom_mono {lo lo' : Nat} (h : lo ≤ lo') (m : Sparse α) (hm : sWfFrom d lo' m = true) :
    sWfFrom d lo m = true := by
  cases m with
  | nil => rfl
  | cons e r =>
    obtain ⟨j, w⟩ := e
    simp only [sWfFrom, Bool.and_eq_true, decide_eq_true_eq] at hm ⊢
    exact ⟨⟨Nat.le_trans h hm.1.1, hm.1.2⟩, hm.2⟩

theorem sWfFrom_sDel (m : Sparse α) (k lo : Nat) (hm : sWfFrom d lo m = true) :
    sWfFrom d lo (sDel m k) = true := by
  induction m generalizing lo with
  | nil => rfl
  | cons e r ih =>
    obtain ⟨j, w⟩ := e
    simp only [sWfFrom, Bool.and_eq_true, decide_eq_true_eq] at hm
    have ihr := ih _ hm.2
    by_cases h : k = j
    · subst h
      simp only [sDel, if_true]
      exact sWfFrom_mono d (Nat.le_trans hm.1.1 (Nat.le_succ _)) _ ihr
    · simp only [sDel, h, if_false, sWfFrom, Bool.and_eq_true, decide_eq_true_eq]
      exact ⟨hm.1, ihr⟩

theorem sWfFrom_sIns (m : Sparse α) (k lo : Nat) (v : α) (hv : v ≠ d k) (hlo : lo ≤ k)
    (hk : ∀ e ∈ m, e.1 ≠ k) (hm : sWfFrom d lo m = true) : sWfFrom d lo (sIns m k v) = true := by
  induction m generalizing lo with
  | nil => simp [sIns, sWfFrom, hv, hlo]
  | cons e r ih =>
    obtain ⟨j, w⟩ := e
    simp only [sWfFrom, Bool.and_eq_true, decide_eq_true_eq] at hm
    have hj : j ≠ k := hk (j, w) List.mem_cons_self
    by_cases h : k < j
    · simp only [sIns, h, if_true, sWfFrom, Bool.and_eq_true, decide_eq_true_eq]
      exact ⟨⟨hlo, hv⟩, ⟨h, hm.1.2⟩, hm.2⟩
    · simp only [sIns, h, if_false, sWfFrom, Bool.and_eq_true, decide_eq_true_eq]
      exact ⟨hm.1, ih (j + 1) (by omega) (fun e he => hk e (List.mem_cons_of_mem _ he)) hm.2⟩

theorem sWf_sPut (m : Sparse α) (k : Nat) (v : α) (hm : sWf d m = true) :
    sWf d (sPut d m k v) = true := by
  unfold sPut sWf at *
  split
  · exact sWfFrom_sDel d m k 0 hm
  · rename_i h
    exact sWfFrom_sIns d _ k 0 v h (Nat.zero_le _) (sDel_ne m k) (sWfFrom_sDel d m k 0 hm)

end

/-! ### Memories -/

theorem Memory.byte_setByte (m : Memory) (a a' : Nat) (b : Byte) :
    (m.setByte a b).byte a' = if a' = a then b else m.byte a' := sGet_sPut memDefault m a a' b

theorem Memory.wf_setByte (m : Memory) (a : Nat) (b : Byte) (h : m.wf = true) :
    (m.setByte a b).wf = true := sWf_sPut memDefault m a b h

theorem Memory.wf_write (m : Memory) (a : Nat) (l : List Byte) (h : m.wf = true) :
    (m.write a l).wf = true := by
  induction l generalizing m a with
  | nil => exact h
  | cons b r ih => exact ih _ _ (wf_setByte m a b h)

theorem Memory.byte_write_before (m : Memory) (a a' : Nat) (l : List Byte) (h : a' < a) :
    (m.write a l).byte a' = m.byte a' := by
  induction l generalizing m a with
  | nil => rfl
  | cons b r ih =>
    rw [Memory.write, ih _ _ (by omega), byte_setByte, if_neg (by omega)]

theorem Memory.byte_write (m : Memory) (a a' : Nat) (l : List Byte) :
    (m.write a l).byte a' = if a ≤ a' ∧ a' < a + l.length then l.getD (a' - a) 0 else m.byte a' := by
  induction l generalizing m a with
  | nil => simp only [Memory.write, List.length_nil, Nat.add_zero]; rw [if_neg (by omega)]
  | cons b r ih =>
    rw [Memory.write, ih, byte_setByte]
    by_cases h1 : a' = a
    · subst h1
      rw [if_neg (by omega), if_pos rfl, if_pos (by simp only [List.length_cons]; omega)]
      simp
    · by_cases h2 : a + 1 ≤ a' ∧ a' < a + 1 + r.length
      · rw [if_pos h2, if_pos (by simp only [List.length_cons]; omega)]
        obtain ⟨i, hi⟩ : ∃ i, a' - a = i + 1 := ⟨a' - a - 1, by omega⟩
        rw [hi, List.getD_cons_succ]
        congr 1
        omega
      · rw [if_neg h2, if_neg h1, if_neg (by simp only [List.length_cons]; omega)]

theorem Memory.read_length (m : Memory) (a n : Nat) : (m.read a n).length = n := by
  induction n generalizing a with
  | zero => rfl
  | succ n ih => simp [Memory.read, ih]

/-! ### Files -/

section
variable {α : Type} {n : Nat}

theorem RegFile.getD_set (r : RegFile α n) (k i : Nat) (v x : α) :
    (r.set k v).getD i x = if i = k ∧ k < n then v else r.getD i x := by
  have hs := r.size
  simp only [RegFile.getD, RegFile.set, List.getD_eq_getElem?_getD, List.getElem?_set, hs]
  by_cases h : k = i
  · subst h
    by_cases hk : k < n
    · simp [hk]
    · have : r.toList[k]? = none := List.getElem?_eq_none (by omega)
      simp [hk, this]
  · simp [h, Ne.symm h]

@[simp] theorem RegFile.getD_set_same (r : RegFile α n) (k : Nat) (v x : α) (h : k < n) :
    (r.set k v).getD k x = v := by simp [RegFile.getD_set, h]

theorem RegFile.getD_set_of_ne (r : RegFile α n) {k i : Nat} (v x : α) (h : i ≠ k) :
    (r.set k v).getD i x = r.getD i x := by simp [RegFile.getD_set, h]

@[simp] theorem RegFile.getD_ofFn (f : Nat → α) (k : Nat) (x : α) (h : k < n) :
    (RegFile.ofFn n f).getD k x = f k := by
  simp [RegFile.getD, RegFile.ofFn, List.getD_eq_getElem?_getD, h]

@[simp] theorem RegFile.getD_replicate (v : α) (k : Nat) (x : α) (h : k < n) :
    (RegFile.replicate n v).getD k x = v := by
  simp [RegFile.getD, RegFile.replicate, List.getD_eq_getElem?_getD, h]

@[simp] theorem RegFile.getD_map (f : α → α) (r : RegFile α n) (k : Nat) (x : α) (h : k < n) :
    (r.map f).getD k x = f (r.getD k x) := by
  have hs : k < r.toList.length := by rw [r.size]; exact h
  simp [RegFile.getD, RegFile.map, List.getD_eq_getElem?_getD, List.getElem?_map, List.getElem?_eq_getElem hs]

end

end Sys2Proof.Machine
end

