-- ==== Sys2Proof/Laws/Report.lean ====
section
/-! SUPPORT. What reporting does: counting, recording, queueing and sending change nothing that `rest`
keeps, and each moves only counters and event counts of its own. -/

namespace Sys2Proof.Machine

/-! ### Keys of counters and codes of events -/

theorem Ctr.index_inj {c c' : Ctr} (h : c.index = c'.index) : c = c' := by
  rw [← Ctr.ofNat_ctorIdx c, ← Ctr.ofNat_ctorIdx c']
  exact congrArg Ctr.ofNat h

theorem ctrKey_inj {c c' : Ctr} {i i' : Nat} (h : ctrKey c i = ctrKey c' i') : c = c' ∧ i % 4096 = i' % 4096 := by
  unfold ctrKey at h
  have h1 : c.index = c'.index := by omega
  exact ⟨Ctr.index_inj h1, by omega⟩

theorem ctrKey_ne {c c' : Ctr} (h : c ≠ c') (i i' : Nat) : ctrKey c i ≠ ctrKey c' i' :=
  fun e => h (ctrKey_inj e).1

theorem Ev.ctorIdx_lt (e : Ev) : e.ctorIdx < evCodes.length := by cases e <;> decide

theorem evCodes_nodup : evCodes.Nodup := by decide

theorem Ev.code_inj {e e' : Ev} (h : e.code = e'.code) : e = e' := by
  have h1 : e.ctorIdx = e'.ctorIdx := by
    have he := e.ctorIdx_lt
    have he' := e'.ctorIdx_lt
    unfold Ev.code at h
    rw [List.getD_eq_getElem?_getD, List.getD_eq_getElem?_getD, List.getElem?_eq_getElem he,
      List.getElem?_eq_getElem he'] at h
    exact (List.getElem_inj evCodes_nodup).1 h
  rw [← Ev.ofNat_ctorIdx e, ← Ev.ofNat_ctorIdx e', h1]

/-! ### Counters -/

theorem ctrGet_count (c c' : Ctr) (i i' n : Nat) (s : State) :
    ctrGet c i (count c' i' n s) =
      if ctrKey c i = ctrKey c' i' then min ctrMax (ctrGet c' i' s + n) else ctrGet c i s := by
  simp only [ctrGet, count, sGet_sPut]

@[simp] theorem ctrGet_count_same (c : Ctr) (i n : Nat) (s : State) :
    ctrGet c i (count c i n s) = min ctrMax (ctrGet c i s + n) := by simp [ctrGet_count]

theorem ctrGet_count_of_ne {c c' : Ctr} (h : c ≠ c') (i i' n : Nat) (s : State) :
    ctrGet c i (count c' i' n s) = ctrGet c i s := by simp [ctrGet_count, ctrKey_ne h]

theorem reporting_ne {c c' : Ctr} (h : c.reporting = false) (h' : c'.reporting = true) : c ≠ c' := by
  rintro rfl
  simp [h] at h'

theorem ctrGet_count_reporting {c c' : Ctr} (h : c.reporting = false) (h' : c'.reporting = true)
    (i i' n : Nat) (s : State) : ctrGet c i (count c' i' n s) = ctrGet c i s :=
  ctrGet_count_of_ne (reporting_ne h h') i i' n s

/-! ### An agreement of two states -/

theorem ReportEq.rfl' (x : State) : ReportEq x x := ⟨rfl, fun _ _ _ => rfl, fun _ _ => rfl⟩

theorem ReportEq.symm {x y : State} (h : ReportEq x y) : ReportEq y x :=
  ⟨h.rest.symm, fun c i hc => (h.ctr c i hc).symm, fun e he => (h.ev e he).symm⟩

theorem ReportEq.trans {x y z : State} (h : ReportEq x y) (h' : ReportEq y z) : ReportEq x z :=
  ⟨h.rest.trans h'.rest, fun c i hc => (h.ctr c i hc).trans (h'.ctr c i hc),
    fun e he => (h.ev e he).trans (h'.ev e he)⟩

theorem ReportEq.of_fields {x y : State} (h : Machine.rest x = Machine.rest y) (hc : x.ctr = y.ctr)
    (he : x.evCounts = y.evCounts) : ReportEq x y :=
  ⟨h, fun c i _ => by rw [ctrGet, ctrGet, hc], fun e _ => by rw [eventCount, eventCount, he]⟩

theorem ReportEq.of_reporting_count {c : Ctr} (h : c.reporting = true) (i n : Nat) (s : State) :
    ReportEq (count c i n s) s :=
  ⟨rfl, fun _ j hc => ctrGet_count_reporting hc h j i n s, fun _ _ => rfl⟩

theorem ReportEq.of_count {x y : State} (h : ReportEq x y) (c : Ctr) (i n : Nat) :
    ReportEq (count c i n x) (count c i n y) := by
  refine ⟨h.rest, fun c' j hc => ?_, h.ev⟩
  rw [ctrGet_count, ctrGet_count, h.ctr c' j hc]
  split
  · rename_i e
    rw [← (ctrKey_inj e).1, h.ctr c' i hc]
  · rfl

theorem ReportEq.of_noteEvent {x y : State} (h : ReportEq x y) (e : Ev) :
    ReportEq (noteEvent e x) (noteEvent e y) := by
  refine ⟨h.rest, h.ctr, fun e' he => ?_⟩
  simp only [eventCount, noteEvent, sGet_sPut]
  split
  · rename_i hc
    have := h.ev e' he
    simp only [eventCount] at this
    rw [← hc, this]
  · exact h.ev e' he

/-! ### Sending -/

theorem emit_eq (x : Sent) (s : State) : ReportEq (emit x s) s := ⟨rfl, fun _ _ _ => rfl, fun _ _ => rfl⟩

theorem zcpSendOn_eq (k p : Nat) (b : List Byte) (s : State) : ReportEq (zcpSendOn k p b s) s := by
  unfold zcpSendOn
  split
  · exact .rfl' s
  · split
    · have hr : (zcpTx p).reporting = true := by unfold zcpTx; split <;> decide
      exact (ReportEq.of_reporting_count hr _ _ _).trans (emit_eq _ s)
    · exact .rfl' s

theorem zcpSend_eq (k : Nat) (b : List Byte) (s : State) : ReportEq (zcpSend k b s) s := by
  unfold zcpSend
  split
  · exact (zcpSendOn_eq _ _ _ _).trans (zcpSendOn_eq _ _ _ _)
  · exact zcpSendOn_eq _ _ _ _
  · exact zcpSendOn_eq _ _ _ _

/-! ### The black box -/

theorem bbWrite_eq (kind cls code : Nat) (data : List Byte) (s : State) :
    ReportEq (bbWrite kind cls code data s) s := by
  unfold bbWrite
  split
  · exact .of_reporting_count (by decide) _ _ _
  · exact (ReportEq.of_reporting_count (by decide) _ _ _).trans
      (.of_fields (by simp only [rest]) rfl rfl)

/-! ### Unsolicited messages and events -/

theorem setSession_quiet (k : Nat) (f : Session → Session) (s : State)
    (h : (f (session k s)).quiet = (session k s).quiet) :
    (s.zcp.slots.set k (f (session k s))).map Session.quiet = s.zcp.slots.map Session.quiet := by
  unfold RegFile.map RegFile.set
  congr 1
  rw [List.map_set]
  apply List.ext_getElem?
  intro i
  rw [List.getElem?_set]
  split
  · rename_i hi
    subst hi
    split
    · rename_i hk
      rw [h]
      rw [List.length_map] at hk
      simp only [session, RegFile.getD, List.getElem?_map, List.getElem?_eq_getElem hk,
        List.getD_eq_getElem?_getD, Option.getD_some, Option.map_some]
    · rename_i hk
      exact (List.getElem?_eq_none (by omega)).symm
  · rfl

theorem setSession_eq (k : Nat) (f : Session → Session) (s : State)
    (h : (f (session k s)).quiet = (session k s).quiet) : ReportEq (setSession k f s) s := by
  refine ⟨?_, fun _ _ _ => rfl, fun _ _ => rfl⟩
  unfold setSession rest
  simp only [setSession_quiet k f s h]

theorem unsolicited_eq (k typ : Nat) (b : List Byte) (s : State) : ReportEq (unsolicited k typ b s) s := by
  have h1 : ∀ x : State, ReportEq (if 4096 ≤ (session k s).unsol.length then count .zcpUnsolAged k 1 x else x) x := by
    intro x
    split
    · exact .of_reporting_count (by decide) _ _ _
    · exact .rfl' x
  unfold unsolicited
  simp only
  split
  · refine (zcpSend_eq _ _ _).trans ((setSession_eq _ _ _ ?_).trans ?_)
    · rfl
    · simpa using h1 s
  · refine (setSession_eq _ _ _ ?_).trans ?_
    · rfl
    · simpa using h1 s

theorem raiseIn_eq (dest : List Nat) (e : Ev) (b : List Byte) (s : State) :
    ReportEq (raiseIn dest e b s) (noteEvent e s) := by
  have hf : ∀ (l : List Nat) (x : State),
      ReportEq (l.foldl (fun x k => unsolicited k 0x0F01 (eventPayload e.code b x) x) x) x := by
    intro l
    induction l with
    | nil => exact ReportEq.rfl'
    | cons k r ih => exact fun x => (ih _).trans (unsolicited_eq _ _ _ x)
  unfold raiseIn
  simp only
  split
  · exact hf _ _
  · exact (bbWrite_eq _ _ _ _ _).trans (hf _ _)

theorem raiseBytes_eq (e : Ev) (b : List Byte) (s : State) : ReportEq (raiseBytes e b s) (noteEvent e s) :=
  raiseIn_eq _ e b s

theorem raise_eq (e : Ev) (l : List Nat) (s : State) : ReportEq (raise e l s) (noteEvent e s) :=
  raiseIn_eq _ e _ s

theorem noteEvent_counterSat (s : State) : ReportEq (noteEvent .counterSat s) s := by
  refine ⟨rfl, fun _ _ _ => rfl, fun e he => ?_⟩
  simp only [eventCount, noteEvent, sGet_sPut]
  rw [if_neg fun h => he (Ev.code_inj h)]

/-! ### The end of a command -/

theorem flushSat_eq (n : Nat) (s : State) : ReportEq (flushSat n s) s := by
  induction n generalizing s with
  | zero => exact .rfl' s
  | succ n ih =>
    unfold flushSat
    split
    · exact .rfl' s
    · refine (ih _).trans ((raise_eq _ _ _).trans ((noteEvent_counterSat _).trans ?_))
      exact ⟨rfl, fun _ _ _ => rfl, fun _ _ => rfl⟩

theorem settle_eq (s : State) : ReportEq (settle s) s := flushSat_eq _ s

/-! ### What agreeing states have in common -/

theorem ReportEq.pending {x y : State} (h : ReportEq x y) : x.pending = y.pending := congrArg (·.pending) h.rest
theorem ReportEq.free {x y : State} (h : ReportEq x y) : x.free = y.free := congrArg (·.free) h.rest
theorem ReportEq.force {x y : State} (h : ReportEq x y) : x.force = y.force := congrArg (·.force) h.rest
theorem ReportEq.pend {x y : State} (h : ReportEq x y) : x.pend = y.pend := congrArg (·.pend) h.rest
theorem ReportEq.boundary {x y : State} (h : ReportEq x y) : x.boundary = y.boundary := congrArg (·.boundary) h.rest
theorem ReportEq.power {x y : State} (h : ReportEq x y) : x.power = y.power := congrArg (·.power) h.rest
theorem ReportEq.hostLinks {x y : State} (h : ReportEq x y) : x.hostLinks = y.hostLinks := congrArg (·.hostLinks) h.rest
theorem ReportEq.boot {x y : State} (h : ReportEq x y) : x.boot = y.boot := congrArg (·.boot) h.rest
theorem ReportEq.time {x y : State} (h : ReportEq x y) : x.time = y.time := congrArg (·.time) h.rest
theorem ReportEq.ingressLinks {x y : State} (h : ReportEq x y) : x.ingressLinks = y.ingressLinks := congrArg (·.ingressLinks) h.rest
theorem ReportEq.plan {x y : State} (h : ReportEq x y) : x.plan = y.plan := congrArg (·.plan) h.rest
theorem ReportEq.data {x y : State} (h : ReportEq x y) : x.data = y.data := congrArg (·.data) h.rest
theorem ReportEq.zoom {x y : State} (h : ReportEq x y) : x.zoom = y.zoom := congrArg (·.zoom) h.rest
theorem ReportEq.weir {x y : State} (h : ReportEq x y) : x.weir = y.weir := congrArg (·.weir) h.rest
theorem ReportEq.egress {x y : State} (h : ReportEq x y) : x.egress = y.egress := congrArg (·.egress) h.rest
theorem ReportEq.mem {x y : State} (h : ReportEq x y) : x.mem = y.mem := congrArg (·.mem) h.rest
theorem ReportEq.sluice {x y : State} (h : ReportEq x y) : x.sluice = y.sluice := congrArg (·.sluice) h.rest
theorem ReportEq.canal {x y : State} (h : ReportEq x y) : x.canal = y.canal := congrArg (·.canal) h.rest
theorem ReportEq.fault_sticky {x y : State} (h : ReportEq x y) : x.fault.sticky = y.fault.sticky := congrArg (·.fault.sticky) h.rest
theorem ReportEq.fault_episodes {x y : State} (h : ReportEq x y) : x.fault.episodes = y.fault.episodes := congrArg (·.fault.episodes) h.rest
theorem ReportEq.fault_stopped {x y : State} (h : ReportEq x y) : x.fault.stopped = y.fault.stopped := congrArg (·.fault.stopped) h.rest
theorem ReportEq.fault_bootCount {x y : State} (h : ReportEq x y) : x.fault.bootCount = y.fault.bootCount := congrArg (·.fault.bootCount) h.rest
theorem ReportEq.fault_frozen {x y : State} (h : ReportEq x y) : x.fault.frozen = y.fault.frozen := congrArg (·.fault.frozen) h.rest
theorem ReportEq.fault_slots {x y : State} (h : ReportEq x y) : x.fault.slots = y.fault.slots := congrArg (·.fault.slots) h.rest
theorem ReportEq.fault_flushes {x y : State} (h : ReportEq x y) : x.fault.flushes = y.fault.flushes := congrArg (·.fault.flushes) h.rest
theorem ReportEq.fault_erasing {x y : State} (h : ReportEq x y) : x.fault.erasing = y.fault.erasing := congrArg (·.fault.erasing) h.rest
theorem ReportEq.fault_flushedOff {x y : State} (h : ReportEq x y) : x.fault.flushedOff = y.fault.flushedOff := congrArg (·.fault.flushedOff) h.rest
theorem ReportEq.fault_gauges {x y : State} (h : ReportEq x y) : x.fault.gauges = y.fault.gauges := congrArg (·.fault.gauges) h.rest
theorem ReportEq.fault_hubGauges {x y : State} (h : ReportEq x y) : x.fault.hubGauges = y.fault.hubGauges := congrArg (·.fault.hubGauges) h.rest
theorem ReportEq.fault_plannedAt {x y : State} (h : ReportEq x y) : x.fault.plannedAt = y.fault.plannedAt := congrArg (·.fault.plannedAt) h.rest
theorem ReportEq.fault_reportedAt {x y : State} (h : ReportEq x y) : x.fault.reportedAt = y.fault.reportedAt := congrArg (·.fault.reportedAt) h.rest
theorem ReportEq.zcp_bulks {x y : State} (h : ReportEq x y) : x.zcp.bulks = y.zcp.bulks := congrArg (·.zcp.bulks) h.rest
theorem ReportEq.zcp_waiting {x y : State} (h : ReportEq x y) : x.zcp.waiting = y.zcp.waiting := congrArg (·.zcp.waiting) h.rest
theorem ReportEq.zcp_authFail {x y : State} (h : ReportEq x y) : x.zcp.authFail = y.zcp.authFail := congrArg (·.zcp.authFail) h.rest
theorem ReportEq.zcp_activeCore {x y : State} (h : ReportEq x y) : x.zcp.activeCore = y.zcp.activeCore := congrArg (·.zcp.activeCore) h.rest
theorem ReportEq.zcp_standbyOk {x y : State} (h : ReportEq x y) : x.zcp.standbyOk = y.zcp.standbyOk := congrArg (·.zcp.standbyOk) h.rest
theorem ReportEq.zcp_standbyBeat {x y : State} (h : ReportEq x y) : x.zcp.standbyBeat = y.zcp.standbyBeat := congrArg (·.zcp.standbyBeat) h.rest
theorem ReportEq.zcp_heartbeatAt {x y : State} (h : ReportEq x y) : x.zcp.heartbeatAt = y.zcp.heartbeatAt := congrArg (·.zcp.heartbeatAt) h.rest
theorem ReportEq.zcp_heartbeats {x y : State} (h : ReportEq x y) : x.zcp.heartbeats = y.zcp.heartbeats := congrArg (·.zcp.heartbeats) h.rest
theorem ReportEq.zcp_draws {x y : State} (h : ReportEq x y) : x.zcp.draws = y.zcp.draws := congrArg (·.zcp.draws) h.rest

/-! ### A source fires -/

theorem ReportEq.of_setEpisode {x y : State} (h : ReportEq x y) (c : Nat) (e : Episode) :
    ReportEq (setEpisode c e x) (setEpisode c e y) := by
  refine ⟨?_, h.ctr, h.ev⟩
  have key : ∀ z : State, Machine.rest (setEpisode c e z) = setEpisode c e (Machine.rest z) := fun _ => rfl
  rw [key, key, h.rest]

theorem fire_eq (f : Fs) (s : State) : ReportEq (fire f s) (fired f s) := by
  have h2 : ∀ (p : Prop) [Decidable p] (x : State),
      ReportEq (if p then x else bbWrite 1 f.cls f.num [] x) x := by
    intro p _ x
    split
    · exact .rfl' x
    · exact bbWrite_eq _ _ _ _ x
  unfold fire fired
  simp only
  generalize hs1 : ({ s with fault := { s.fault with
    sticky := s.fault.sticky ||| BitVec.ofNat 128 (2 ^ f.num) } } : State) = s1
  have hx := h2 (s.fault.sticky.getLsbD f.num = true) s1
  generalize (if s.fault.sticky.getLsbD f.num = true then s1 else bbWrite 1 f.cls f.num [] s1) = s2 at hx
  have he : episode f.cls s2 = episode f.cls s := by
    have h3 := hx.fault_episodes
    rw [episode, episode, h3, ← hs1]
  rw [he]
  cases hst : (episode f.cls s).state
  · refine (raise_eq _ _ _).trans (ReportEq.of_noteEvent ?_ _)
    exact (bbWrite_eq _ _ _ _ _).trans (hx.of_setEpisode _ _)
  · exact hx.of_setEpisode _ _
  · exact hx

/-! ### What is read after a report -/

@[simp] theorem raise_pending (e : Ev) (l : List Nat) (s : State) : (raise e l s).pending = s.pending := (raise_eq e l s).pending
@[simp] theorem raise_free (e : Ev) (l : List Nat) (s : State) : (raise e l s).free = s.free := (raise_eq e l s).free
@[simp] theorem raise_force (e : Ev) (l : List Nat) (s : State) : (raise e l s).force = s.force := (raise_eq e l s).force
@[simp] theorem raise_pend (e : Ev) (l : List Nat) (s : State) : (raise e l s).pend = s.pend := (raise_eq e l s).pend
@[simp] theorem raise_boundary (e : Ev) (l : List Nat) (s : State) : (raise e l s).boundary = s.boundary := (raise_eq e l s).boundary
@[simp] theorem raise_power (e : Ev) (l : List Nat) (s : State) : (raise e l s).power = s.power := (raise_eq e l s).power
@[simp] theorem raise_hostLinks (e : Ev) (l : List Nat) (s : State) : (raise e l s).hostLinks = s.hostLinks := (raise_eq e l s).hostLinks
@[simp] theorem raise_boot (e : Ev) (l : List Nat) (s : State) : (raise e l s).boot = s.boot := (raise_eq e l s).boot
@[simp] theorem raise_time (e : Ev) (l : List Nat) (s : State) : (raise e l s).time = s.time := (raise_eq e l s).time
@[simp] theorem raise_ingressLinks (e : Ev) (l : List Nat) (s : State) : (raise e l s).ingressLinks = s.ingressLinks := (raise_eq e l s).ingressLinks
@[simp] theorem raise_plan (e : Ev) (l : List Nat) (s : State) : (raise e l s).plan = s.plan := (raise_eq e l s).plan
@[simp] theorem raise_data (e : Ev) (l : List Nat) (s : State) : (raise e l s).data = s.data := (raise_eq e l s).data
@[simp] theorem raise_zoom (e : Ev) (l : List Nat) (s : State) : (raise e l s).zoom = s.zoom := (raise_eq e l s).zoom
@[simp] theorem raise_weir (e : Ev) (l : List Nat) (s : State) : (raise e l s).weir = s.weir := (raise_eq e l s).weir
@[simp] theorem raise_egress (e : Ev) (l : List Nat) (s : State) : (raise e l s).egress = s.egress := (raise_eq e l s).egress
@[simp] theorem raise_mem (e : Ev) (l : List Nat) (s : State) : (raise e l s).mem = s.mem := (raise_eq e l s).mem
@[simp] theorem raise_sluice (e : Ev) (l : List Nat) (s : State) : (raise e l s).sluice = s.sluice := (raise_eq e l s).sluice
@[simp] theorem raise_canal (e : Ev) (l : List Nat) (s : State) : (raise e l s).canal = s.canal := (raise_eq e l s).canal
@[simp] theorem raise_fault_sticky (e : Ev) (l : List Nat) (s : State) : (raise e l s).fault.sticky = s.fault.sticky := (raise_eq e l s).fault_sticky
@[simp] theorem raise_fault_episodes (e : Ev) (l : List Nat) (s : State) : (raise e l s).fault.episodes = s.fault.episodes := (raise_eq e l s).fault_episodes
@[simp] theorem raise_fault_stopped (e : Ev) (l : List Nat) (s : State) : (raise e l s).fault.stopped = s.fault.stopped := (raise_eq e l s).fault_stopped
@[simp] theorem raise_fault_bootCount (e : Ev) (l : List Nat) (s : State) : (raise e l s).fault.bootCount = s.fault.bootCount := (raise_eq e l s).fault_bootCount
@[simp] theorem raise_fault_frozen (e : Ev) (l : List Nat) (s : State) : (raise e l s).fault.frozen = s.fault.frozen := (raise_eq e l s).fault_frozen
@[simp] theorem raise_fault_slots (e : Ev) (l : List Nat) (s : State) : (raise e l s).fault.slots = s.fault.slots := (raise_eq e l s).fault_slots
@[simp] theorem raise_fault_flushes (e : Ev) (l : List Nat) (s : State) : (raise e l s).fault.flushes = s.fault.flushes := (raise_eq e l s).fault_flushes
@[simp] theorem raise_fault_erasing (e : Ev) (l : List Nat) (s : State) : (raise e l s).fault.erasing = s.fault.erasing := (raise_eq e l s).fault_erasing
@[simp] theorem raise_fault_flushedOff (e : Ev) (l : List Nat) (s : State) : (raise e l s).fault.flushedOff = s.fault.flushedOff := (raise_eq e l s).fault_flushedOff
@[simp] theorem raise_fault_gauges (e : Ev) (l : List Nat) (s : State) : (raise e l s).fault.gauges = s.fault.gauges := (raise_eq e l s).fault_gauges
@[simp] theorem raise_fault_hubGauges (e : Ev) (l : List Nat) (s : State) : (raise e l s).fault.hubGauges = s.fault.hubGauges := (raise_eq e l s).fault_hubGauges
@[simp] theorem raise_fault_plannedAt (e : Ev) (l : List Nat) (s : State) : (raise e l s).fault.plannedAt = s.fault.plannedAt := (raise_eq e l s).fault_plannedAt
@[simp] theorem raise_fault_reportedAt (e : Ev) (l : List Nat) (s : State) : (raise e l s).fault.reportedAt = s.fault.reportedAt := (raise_eq e l s).fault_reportedAt
@[simp] theorem raise_zcp_bulks (e : Ev) (l : List Nat) (s : State) : (raise e l s).zcp.bulks = s.zcp.bulks := (raise_eq e l s).zcp_bulks
@[simp] theorem raise_zcp_waiting (e : Ev) (l : List Nat) (s : State) : (raise e l s).zcp.waiting = s.zcp.waiting := (raise_eq e l s).zcp_waiting
@[simp] theorem raise_zcp_authFail (e : Ev) (l : List Nat) (s : State) : (raise e l s).zcp.authFail = s.zcp.authFail := (raise_eq e l s).zcp_authFail
@[simp] theorem raise_zcp_activeCore (e : Ev) (l : List Nat) (s : State) : (raise e l s).zcp.activeCore = s.zcp.activeCore := (raise_eq e l s).zcp_activeCore
@[simp] theorem raise_zcp_standbyOk (e : Ev) (l : List Nat) (s : State) : (raise e l s).zcp.standbyOk = s.zcp.standbyOk := (raise_eq e l s).zcp_standbyOk
@[simp] theorem raise_zcp_standbyBeat (e : Ev) (l : List Nat) (s : State) : (raise e l s).zcp.standbyBeat = s.zcp.standbyBeat := (raise_eq e l s).zcp_standbyBeat
@[simp] theorem raise_zcp_heartbeatAt (e : Ev) (l : List Nat) (s : State) : (raise e l s).zcp.heartbeatAt = s.zcp.heartbeatAt := (raise_eq e l s).zcp_heartbeatAt
@[simp] theorem raise_zcp_heartbeats (e : Ev) (l : List Nat) (s : State) : (raise e l s).zcp.heartbeats = s.zcp.heartbeats := (raise_eq e l s).zcp_heartbeats
@[simp] theorem raise_zcp_draws (e : Ev) (l : List Nat) (s : State) : (raise e l s).zcp.draws = s.zcp.draws := (raise_eq e l s).zcp_draws

@[simp] theorem raiseBytes_pending (e : Ev) (l : List Byte) (s : State) : (raiseBytes e l s).pending = s.pending := (raiseBytes_eq e l s).pending
@[simp] theorem raiseBytes_free (e : Ev) (l : List Byte) (s : State) : (raiseBytes e l s).free = s.free := (raiseBytes_eq e l s).free
@[simp] theorem raiseBytes_force (e : Ev) (l : List Byte) (s : State) : (raiseBytes e l s).force = s.force := (raiseBytes_eq e l s).force
@[simp] theorem raiseBytes_pend (e : Ev) (l : List Byte) (s : State) : (raiseBytes e l s).pend = s.pend := (raiseBytes_eq e l s).pend
@[simp] theorem raiseBytes_boundary (e : Ev) (l : List Byte) (s : State) : (raiseBytes e l s).boundary = s.boundary := (raiseBytes_eq e l s).boundary
@[simp] theorem raiseBytes_power (e : Ev) (l : List Byte) (s : State) : (raiseBytes e l s).power = s.power := (raiseBytes_eq e l s).power
@[simp] theorem raiseBytes_hostLinks (e : Ev) (l : List Byte) (s : State) : (raiseBytes e l s).hostLinks = s.hostLinks := (raiseBytes_eq e l s).hostLinks
@[simp] theorem raiseBytes_boot (e : Ev) (l : List Byte) (s : State) : (raiseBytes e l s).boot = s.boot := (raiseBytes_eq e l s).boot
@[simp] theorem raiseBytes_time (e : Ev) (l : List Byte) (s : State) : (raiseBytes e l s).time = s.time := (raiseBytes_eq e l s).time
@[simp] theorem raiseBytes_ingressLinks (e : Ev) (l : List Byte) (s : State) : (raiseBytes e l s).ingressLinks = s.ingressLinks := (raiseBytes_eq e l s).ingressLinks
@[simp] theorem raiseBytes_plan (e : Ev) (l : List Byte) (s : State) : (raiseBytes e l s).plan = s.plan := (raiseBytes_eq e l s).plan
@[simp] theorem raiseBytes_data (e : Ev) (l : List Byte) (s : State) : (raiseBytes e l s).data = s.data := (raiseBytes_eq e l s).data
@[simp] theorem raiseBytes_zoom (e : Ev) (l : List Byte) (s : State) : (raiseBytes e l s).zoom = s.zoom := (raiseBytes_eq e l s).zoom
@[simp] theorem raiseBytes_weir (e : Ev) (l : List Byte) (s : State) : (raiseBytes e l s).weir = s.weir := (raiseBytes_eq e l s).weir
@[simp] theorem raiseBytes_egress (e : Ev) (l : List Byte) (s : State) : (raiseBytes e l s).egress = s.egress := (raiseBytes_eq e l s).egress
@[simp] theorem raiseBytes_mem (e : Ev) (l : List Byte) (s : State) : (raiseBytes e l s).mem = s.mem := (raiseBytes_eq e l s).mem
@[simp] theorem raiseBytes_sluice (e : Ev) (l : List Byte) (s : State) : (raiseBytes e l s).sluice = s.sluice := (raiseBytes_eq e l s).sluice
@[simp] theorem raiseBytes_canal (e : Ev) (l : List Byte) (s : State) : (raiseBytes e l s).canal = s.canal := (raiseBytes_eq e l s).canal
@[simp] theorem raiseBytes_fault_sticky (e : Ev) (l : List Byte) (s : State) : (raiseBytes e l s).fault.sticky = s.fault.sticky := (raiseBytes_eq e l s).fault_sticky
@[simp] theorem raiseBytes_fault_episodes (e : Ev) (l : List Byte) (s : State) : (raiseBytes e l s).fault.episodes = s.fault.episodes := (raiseBytes_eq e l s).fault_episodes
@[simp] theorem raiseBytes_fault_stopped (e : Ev) (l : List Byte) (s : State) : (raiseBytes e l s).fault.stopped = s.fault.stopped := (raiseBytes_eq e l s).fault_stopped
@[simp] theorem raiseBytes_fault_bootCount (e : Ev) (l : List Byte) (s : State) : (raiseBytes e l s).fault.bootCount = s.fault.bootCount := (raiseBytes_eq e l s).fault_bootCount
@[simp] theorem raiseBytes_fault_frozen (e : Ev) (l : List Byte) (s : State) : (raiseBytes e l s).fault.frozen = s.fault.frozen := (raiseBytes_eq e l s).fault_frozen
@[simp] theorem raiseBytes_fault_slots (e : Ev) (l : List Byte) (s : State) : (raiseBytes e l s).fault.slots = s.fault.slots := (raiseBytes_eq e l s).fault_slots
@[simp] theorem raiseBytes_fault_flushes (e : Ev) (l : List Byte) (s : State) : (raiseBytes e l s).fault.flushes = s.fault.flushes := (raiseBytes_eq e l s).fault_flushes
@[simp] theorem raiseBytes_fault_erasing (e : Ev) (l : List Byte) (s : State) : (raiseBytes e l s).fault.erasing = s.fault.erasing := (raiseBytes_eq e l s).fault_erasing
@[simp] theorem raiseBytes_fault_flushedOff (e : Ev) (l : List Byte) (s : State) : (raiseBytes e l s).fault.flushedOff = s.fault.flushedOff := (raiseBytes_eq e l s).fault_flushedOff
@[simp] theorem raiseBytes_fault_gauges (e : Ev) (l : List Byte) (s : State) : (raiseBytes e l s).fault.gauges = s.fault.gauges := (raiseBytes_eq e l s).fault_gauges
@[simp] theorem raiseBytes_fault_hubGauges (e : Ev) (l : List Byte) (s : State) : (raiseBytes e l s).fault.hubGauges = s.fault.hubGauges := (raiseBytes_eq e l s).fault_hubGauges
@[simp] theorem raiseBytes_fault_plannedAt (e : Ev) (l : List Byte) (s : State) : (raiseBytes e l s).fault.plannedAt = s.fault.plannedAt := (raiseBytes_eq e l s).fault_plannedAt
@[simp] theorem raiseBytes_fault_reportedAt (e : Ev) (l : List Byte) (s : State) : (raiseBytes e l s).fault.reportedAt = s.fault.reportedAt := (raiseBytes_eq e l s).fault_reportedAt
@[simp] theorem raiseBytes_zcp_bulks (e : Ev) (l : List Byte) (s : State) : (raiseBytes e l s).zcp.bulks = s.zcp.bulks := (raiseBytes_eq e l s).zcp_bulks
@[simp] theorem raiseBytes_zcp_waiting (e : Ev) (l : List Byte) (s : State) : (raiseBytes e l s).zcp.waiting = s.zcp.waiting := (raiseBytes_eq e l s).zcp_waiting
@[simp] theorem raiseBytes_zcp_authFail (e : Ev) (l : List Byte) (s : State) : (raiseBytes e l s).zcp.authFail = s.zcp.authFail := (raiseBytes_eq e l s).zcp_authFail
@[simp] theorem raiseBytes_zcp_activeCore (e : Ev) (l : List Byte) (s : State) : (raiseBytes e l s).zcp.activeCore = s.zcp.activeCore := (raiseBytes_eq e l s).zcp_activeCore
@[simp] theorem raiseBytes_zcp_standbyOk (e : Ev) (l : List Byte) (s : State) : (raiseBytes e l s).zcp.standbyOk = s.zcp.standbyOk := (raiseBytes_eq e l s).zcp_standbyOk
@[simp] theorem raiseBytes_zcp_standbyBeat (e : Ev) (l : List Byte) (s : State) : (raiseBytes e l s).zcp.standbyBeat = s.zcp.standbyBeat := (raiseBytes_eq e l s).zcp_standbyBeat
@[simp] theorem raiseBytes_zcp_heartbeatAt (e : Ev) (l : List Byte) (s : State) : (raiseBytes e l s).zcp.heartbeatAt = s.zcp.heartbeatAt := (raiseBytes_eq e l s).zcp_heartbeatAt
@[simp] theorem raiseBytes_zcp_heartbeats (e : Ev) (l : List Byte) (s : State) : (raiseBytes e l s).zcp.heartbeats = s.zcp.heartbeats := (raiseBytes_eq e l s).zcp_heartbeats
@[simp] theorem raiseBytes_zcp_draws (e : Ev) (l : List Byte) (s : State) : (raiseBytes e l s).zcp.draws = s.zcp.draws := (raiseBytes_eq e l s).zcp_draws

@[simp] theorem bbWrite_pending (a b c : Nat) (l : List Byte) (s : State) : (bbWrite a b c l s).pending = s.pending := (bbWrite_eq a b c l s).pending
@[simp] theorem bbWrite_free (a b c : Nat) (l : List Byte) (s : State) : (bbWrite a b c l s).free = s.free := (bbWrite_eq a b c l s).free
@[simp] theorem bbWrite_force (a b c : Nat) (l : List Byte) (s : State) : (bbWrite a b c l s).force = s.force := (bbWrite_eq a b c l s).force
@[simp] theorem bbWrite_pend (a b c : Nat) (l : List Byte) (s : State) : (bbWrite a b c l s).pend = s.pend := (bbWrite_eq a b c l s).pend
@[simp] theorem bbWrite_boundary (a b c : Nat) (l : List Byte) (s : State) : (bbWrite a b c l s).boundary = s.boundary := (bbWrite_eq a b c l s).boundary
@[simp] theorem bbWrite_power (a b c : Nat) (l : List Byte) (s : State) : (bbWrite a b c l s).power = s.power := (bbWrite_eq a b c l s).power
@[simp] theorem bbWrite_hostLinks (a b c : Nat) (l : List Byte) (s : State) : (bbWrite a b c l s).hostLinks = s.hostLinks := (bbWrite_eq a b c l s).hostLinks
@[simp] theorem bbWrite_boot (a b c : Nat) (l : List Byte) (s : State) : (bbWrite a b c l s).boot = s.boot := (bbWrite_eq a b c l s).boot
@[simp] theorem bbWrite_time (a b c : Nat) (l : List Byte) (s : State) : (bbWrite a b c l s).time = s.time := (bbWrite_eq a b c l s).time
@[simp] theorem bbWrite_ingressLinks (a b c : Nat) (l : List Byte) (s : State) : (bbWrite a b c l s).ingressLinks = s.ingressLinks := (bbWrite_eq a b c l s).ingressLinks
@[simp] theorem bbWrite_plan (a b c : Nat) (l : List Byte) (s : State) : (bbWrite a b c l s).plan = s.plan := (bbWrite_eq a b c l s).plan
@[simp] theorem bbWrite_data (a b c : Nat) (l : List Byte) (s : State) : (bbWrite a b c l s).data = s.data := (bbWrite_eq a b c l s).data
@[simp] theorem bbWrite_zoom (a b c : Nat) (l : List Byte) (s : State) : (bbWrite a b c l s).zoom = s.zoom := (bbWrite_eq a b c l s).zoom
@[simp] theorem bbWrite_weir (a b c : Nat) (l : List Byte) (s : State) : (bbWrite a b c l s).weir = s.weir := (bbWrite_eq a b c l s).weir
@[simp] theorem bbWrite_egress (a b c : Nat) (l : List Byte) (s : State) : (bbWrite a b c l s).egress = s.egress := (bbWrite_eq a b c l s).egress
@[simp] theorem bbWrite_mem (a b c : Nat) (l : List Byte) (s : State) : (bbWrite a b c l s).mem = s.mem := (bbWrite_eq a b c l s).mem
@[simp] theorem bbWrite_sluice (a b c : Nat) (l : List Byte) (s : State) : (bbWrite a b c l s).sluice = s.sluice := (bbWrite_eq a b c l s).sluice
@[simp] theorem bbWrite_canal (a b c : Nat) (l : List Byte) (s : State) : (bbWrite a b c l s).canal = s.canal := (bbWrite_eq a b c l s).canal
@[simp] theorem bbWrite_fault_sticky (a b c : Nat) (l : List Byte) (s : State) : (bbWrite a b c l s).fault.sticky = s.fault.sticky := (bbWrite_eq a b c l s).fault_sticky
@[simp] theorem bbWrite_fault_episodes (a b c : Nat) (l : List Byte) (s : State) : (bbWrite a b c l s).fault.episodes = s.fault.episodes := (bbWrite_eq a b c l s).fault_episodes
@[simp] theorem bbWrite_fault_stopped (a b c : Nat) (l : List Byte) (s : State) : (bbWrite a b c l s).fault.stopped = s.fault.stopped := (bbWrite_eq a b c l s).fault_stopped
@[simp] theorem bbWrite_fault_bootCount (a b c : Nat) (l : List Byte) (s : State) : (bbWrite a b c l s).fault.bootCount = s.fault.bootCount := (bbWrite_eq a b c l s).fault_bootCount
@[simp] theorem bbWrite_fault_frozen (a b c : Nat) (l : List Byte) (s : State) : (bbWrite a b c l s).fault.frozen = s.fault.frozen := (bbWrite_eq a b c l s).fault_frozen
@[simp] theorem bbWrite_fault_slots (a b c : Nat) (l : List Byte) (s : State) : (bbWrite a b c l s).fault.slots = s.fault.slots := (bbWrite_eq a b c l s).fault_slots
@[simp] theorem bbWrite_fault_flushes (a b c : Nat) (l : List Byte) (s : State) : (bbWrite a b c l s).fault.flushes = s.fault.flushes := (bbWrite_eq a b c l s).fault_flushes
@[simp] theorem bbWrite_fault_erasing (a b c : Nat) (l : List Byte) (s : State) : (bbWrite a b c l s).fault.erasing = s.fault.erasing := (bbWrite_eq a b c l s).fault_erasing
@[simp] theorem bbWrite_fault_flushedOff (a b c : Nat) (l : List Byte) (s : State) : (bbWrite a b c l s).fault.flushedOff = s.fault.flushedOff := (bbWrite_eq a b c l s).fault_flushedOff
@[simp] theorem bbWrite_fault_gauges (a b c : Nat) (l : List Byte) (s : State) : (bbWrite a b c l s).fault.gauges = s.fault.gauges := (bbWrite_eq a b c l s).fault_gauges
@[simp] theorem bbWrite_fault_hubGauges (a b c : Nat) (l : List Byte) (s : State) : (bbWrite a b c l s).fault.hubGauges = s.fault.hubGauges := (bbWrite_eq a b c l s).fault_hubGauges
@[simp] theorem bbWrite_fault_plannedAt (a b c : Nat) (l : List Byte) (s : State) : (bbWrite a b c l s).fault.plannedAt = s.fault.plannedAt := (bbWrite_eq a b c l s).fault_plannedAt
@[simp] theorem bbWrite_fault_reportedAt (a b c : Nat) (l : List Byte) (s : State) : (bbWrite a b c l s).fault.reportedAt = s.fault.reportedAt := (bbWrite_eq a b c l s).fault_reportedAt
@[simp] theorem bbWrite_zcp_bulks (a b c : Nat) (l : List Byte) (s : State) : (bbWrite a b c l s).zcp.bulks = s.zcp.bulks := (bbWrite_eq a b c l s).zcp_bulks
@[simp] theorem bbWrite_zcp_waiting (a b c : Nat) (l : List Byte) (s : State) : (bbWrite a b c l s).zcp.waiting = s.zcp.waiting := (bbWrite_eq a b c l s).zcp_waiting
@[simp] theorem bbWrite_zcp_authFail (a b c : Nat) (l : List Byte) (s : State) : (bbWrite a b c l s).zcp.authFail = s.zcp.authFail := (bbWrite_eq a b c l s).zcp_authFail
@[simp] theorem bbWrite_zcp_activeCore (a b c : Nat) (l : List Byte) (s : State) : (bbWrite a b c l s).zcp.activeCore = s.zcp.activeCore := (bbWrite_eq a b c l s).zcp_activeCore
@[simp] theorem bbWrite_zcp_standbyOk (a b c : Nat) (l : List Byte) (s : State) : (bbWrite a b c l s).zcp.standbyOk = s.zcp.standbyOk := (bbWrite_eq a b c l s).zcp_standbyOk
@[simp] theorem bbWrite_zcp_standbyBeat (a b c : Nat) (l : List Byte) (s : State) : (bbWrite a b c l s).zcp.standbyBeat = s.zcp.standbyBeat := (bbWrite_eq a b c l s).zcp_standbyBeat
@[simp] theorem bbWrite_zcp_heartbeatAt (a b c : Nat) (l : List Byte) (s : State) : (bbWrite a b c l s).zcp.heartbeatAt = s.zcp.heartbeatAt := (bbWrite_eq a b c l s).zcp_heartbeatAt
@[simp] theorem bbWrite_zcp_heartbeats (a b c : Nat) (l : List Byte) (s : State) : (bbWrite a b c l s).zcp.heartbeats = s.zcp.heartbeats := (bbWrite_eq a b c l s).zcp_heartbeats
@[simp] theorem bbWrite_zcp_draws (a b c : Nat) (l : List Byte) (s : State) : (bbWrite a b c l s).zcp.draws = s.zcp.draws := (bbWrite_eq a b c l s).zcp_draws

@[simp] theorem zcpSend_pending (k : Nat) (l : List Byte) (s : State) : (zcpSend k l s).pending = s.pending := (zcpSend_eq k l s).pending
@[simp] theorem zcpSend_free (k : Nat) (l : List Byte) (s : State) : (zcpSend k l s).free = s.free := (zcpSend_eq k l s).free
@[simp] theorem zcpSend_force (k : Nat) (l : List Byte) (s : State) : (zcpSend k l s).force = s.force := (zcpSend_eq k l s).force
@[simp] theorem zcpSend_pend (k : Nat) (l : List Byte) (s : State) : (zcpSend k l s).pend = s.pend := (zcpSend_eq k l s).pend
@[simp] theorem zcpSend_boundary (k : Nat) (l : List Byte) (s : State) : (zcpSend k l s).boundary = s.boundary := (zcpSend_eq k l s).boundary
@[simp] theorem zcpSend_power (k : Nat) (l : List Byte) (s : State) : (zcpSend k l s).power = s.power := (zcpSend_eq k l s).power
@[simp] theorem zcpSend_hostLinks (k : Nat) (l : List Byte) (s : State) : (zcpSend k l s).hostLinks = s.hostLinks := (zcpSend_eq k l s).hostLinks
@[simp] theorem zcpSend_boot (k : Nat) (l : List Byte) (s : State) : (zcpSend k l s).boot = s.boot := (zcpSend_eq k l s).boot
@[simp] theorem zcpSend_time (k : Nat) (l : List Byte) (s : State) : (zcpSend k l s).time = s.time := (zcpSend_eq k l s).time
@[simp] theorem zcpSend_ingressLinks (k : Nat) (l : List Byte) (s : State) : (zcpSend k l s).ingressLinks = s.ingressLinks := (zcpSend_eq k l s).ingressLinks
@[simp] theorem zcpSend_plan (k : Nat) (l : List Byte) (s : State) : (zcpSend k l s).plan = s.plan := (zcpSend_eq k l s).plan
@[simp] theorem zcpSend_data (k : Nat) (l : List Byte) (s : State) : (zcpSend k l s).data = s.data := (zcpSend_eq k l s).data
@[simp] theorem zcpSend_zoom (k : Nat) (l : List Byte) (s : State) : (zcpSend k l s).zoom = s.zoom := (zcpSend_eq k l s).zoom
@[simp] theorem zcpSend_weir (k : Nat) (l : List Byte) (s : State) : (zcpSend k l s).weir = s.weir := (zcpSend_eq k l s).weir
@[simp] theorem zcpSend_egress (k : Nat) (l : List Byte) (s : State) : (zcpSend k l s).egress = s.egress := (zcpSend_eq k l s).egress
@[simp] theorem zcpSend_mem (k : Nat) (l : List Byte) (s : State) : (zcpSend k l s).mem = s.mem := (zcpSend_eq k l s).mem
@[simp] theorem zcpSend_sluice (k : Nat) (l : List Byte) (s : State) : (zcpSend k l s).sluice = s.sluice := (zcpSend_eq k l s).sluice
@[simp] theorem zcpSend_canal (k : Nat) (l : List Byte) (s : State) : (zcpSend k l s).canal = s.canal := (zcpSend_eq k l s).canal
@[simp] theorem zcpSend_fault_sticky (k : Nat) (l : List Byte) (s : State) : (zcpSend k l s).fault.sticky = s.fault.sticky := (zcpSend_eq k l s).fault_sticky
@[simp] theorem zcpSend_fault_episodes (k : Nat) (l : List Byte) (s : State) : (zcpSend k l s).fault.episodes = s.fault.episodes := (zcpSend_eq k l s).fault_episodes
@[simp] theorem zcpSend_fault_stopped (k : Nat) (l : List Byte) (s : State) : (zcpSend k l s).fault.stopped = s.fault.stopped := (zcpSend_eq k l s).fault_stopped
@[simp] theorem zcpSend_fault_bootCount (k : Nat) (l : List Byte) (s : State) : (zcpSend k l s).fault.bootCount = s.fault.bootCount := (zcpSend_eq k l s).fault_bootCount
@[simp] theorem zcpSend_fault_frozen (k : Nat) (l : List Byte) (s : State) : (zcpSend k l s).fault.frozen = s.fault.frozen := (zcpSend_eq k l s).fault_frozen
@[simp] theorem zcpSend_fault_slots (k : Nat) (l : List Byte) (s : State) : (zcpSend k l s).fault.slots = s.fault.slots := (zcpSend_eq k l s).fault_slots
@[simp] theorem zcpSend_fault_flushes (k : Nat) (l : List Byte) (s : State) : (zcpSend k l s).fault.flushes = s.fault.flushes := (zcpSend_eq k l s).fault_flushes
@[simp] theorem zcpSend_fault_erasing (k : Nat) (l : List Byte) (s : State) : (zcpSend k l s).fault.erasing = s.fault.erasing := (zcpSend_eq k l s).fault_erasing
@[simp] theorem zcpSend_fault_flushedOff (k : Nat) (l : List Byte) (s : State) : (zcpSend k l s).fault.flushedOff = s.fault.flushedOff := (zcpSend_eq k l s).fault_flushedOff
@[simp] theorem zcpSend_fault_gauges (k : Nat) (l : List Byte) (s : State) : (zcpSend k l s).fault.gauges = s.fault.gauges := (zcpSend_eq k l s).fault_gauges
@[simp] theorem zcpSend_fault_hubGauges (k : Nat) (l : List Byte) (s : State) : (zcpSend k l s).fault.hubGauges = s.fault.hubGauges := (zcpSend_eq k l s).fault_hubGauges
@[simp] theorem zcpSend_fault_plannedAt (k : Nat) (l : List Byte) (s : State) : (zcpSend k l s).fault.plannedAt = s.fault.plannedAt := (zcpSend_eq k l s).fault_plannedAt
@[simp] theorem zcpSend_fault_reportedAt (k : Nat) (l : List Byte) (s : State) : (zcpSend k l s).fault.reportedAt = s.fault.reportedAt := (zcpSend_eq k l s).fault_reportedAt
@[simp] theorem zcpSend_zcp_bulks (k : Nat) (l : List Byte) (s : State) : (zcpSend k l s).zcp.bulks = s.zcp.bulks := (zcpSend_eq k l s).zcp_bulks
@[simp] theorem zcpSend_zcp_waiting (k : Nat) (l : List Byte) (s : State) : (zcpSend k l s).zcp.waiting = s.zcp.waiting := (zcpSend_eq k l s).zcp_waiting
@[simp] theorem zcpSend_zcp_authFail (k : Nat) (l : List Byte) (s : State) : (zcpSend k l s).zcp.authFail = s.zcp.authFail := (zcpSend_eq k l s).zcp_authFail
@[simp] theorem zcpSend_zcp_activeCore (k : Nat) (l : List Byte) (s : State) : (zcpSend k l s).zcp.activeCore = s.zcp.activeCore := (zcpSend_eq k l s).zcp_activeCore
@[simp] theorem zcpSend_zcp_standbyOk (k : Nat) (l : List Byte) (s : State) : (zcpSend k l s).zcp.standbyOk = s.zcp.standbyOk := (zcpSend_eq k l s).zcp_standbyOk
@[simp] theorem zcpSend_zcp_standbyBeat (k : Nat) (l : List Byte) (s : State) : (zcpSend k l s).zcp.standbyBeat = s.zcp.standbyBeat := (zcpSend_eq k l s).zcp_standbyBeat
@[simp] theorem zcpSend_zcp_heartbeatAt (k : Nat) (l : List Byte) (s : State) : (zcpSend k l s).zcp.heartbeatAt = s.zcp.heartbeatAt := (zcpSend_eq k l s).zcp_heartbeatAt
@[simp] theorem zcpSend_zcp_heartbeats (k : Nat) (l : List Byte) (s : State) : (zcpSend k l s).zcp.heartbeats = s.zcp.heartbeats := (zcpSend_eq k l s).zcp_heartbeats
@[simp] theorem zcpSend_zcp_draws (k : Nat) (l : List Byte) (s : State) : (zcpSend k l s).zcp.draws = s.zcp.draws := (zcpSend_eq k l s).zcp_draws

@[simp] theorem settle_pending (s : State) : (settle s).pending = s.pending := (settle_eq s).pending
@[simp] theorem settle_free (s : State) : (settle s).free = s.free := (settle_eq s).free
@[simp] theorem settle_force (s : State) : (settle s).force = s.force := (settle_eq s).force
@[simp] theorem settle_pend (s : State) : (settle s).pend = s.pend := (settle_eq s).pend
@[simp] theorem settle_boundary (s : State) : (settle s).boundary = s.boundary := (settle_eq s).boundary
@[simp] theorem settle_power (s : State) : (settle s).power = s.power := (settle_eq s).power
@[simp] theorem settle_hostLinks (s : State) : (settle s).hostLinks = s.hostLinks := (settle_eq s).hostLinks
@[simp] theorem settle_boot (s : State) : (settle s).boot = s.boot := (settle_eq s).boot
@[simp] theorem settle_time (s : State) : (settle s).time = s.time := (settle_eq s).time
@[simp] theorem settle_ingressLinks (s : State) : (settle s).ingressLinks = s.ingressLinks := (settle_eq s).ingressLinks
@[simp] theorem settle_plan (s : State) : (settle s).plan = s.plan := (settle_eq s).plan
@[simp] theorem settle_data (s : State) : (settle s).data = s.data := (settle_eq s).data
@[simp] theorem settle_zoom (s : State) : (settle s).zoom = s.zoom := (settle_eq s).zoom
@[simp] theorem settle_weir (s : State) : (settle s).weir = s.weir := (settle_eq s).weir
@[simp] theorem settle_egress (s : State) : (settle s).egress = s.egress := (settle_eq s).egress
@[simp] theorem settle_mem (s : State) : (settle s).mem = s.mem := (settle_eq s).mem
@[simp] theorem settle_sluice (s : State) : (settle s).sluice = s.sluice := (settle_eq s).sluice
@[simp] theorem settle_canal (s : State) : (settle s).canal = s.canal := (settle_eq s).canal
@[simp] theorem settle_fault_sticky (s : State) : (settle s).fault.sticky = s.fault.sticky := (settle_eq s).fault_sticky
@[simp] theorem settle_fault_episodes (s : State) : (settle s).fault.episodes = s.fault.episodes := (settle_eq s).fault_episodes
@[simp] theorem settle_fault_stopped (s : State) : (settle s).fault.stopped = s.fault.stopped := (settle_eq s).fault_stopped
@[simp] theorem settle_fault_bootCount (s : State) : (settle s).fault.bootCount = s.fault.bootCount := (settle_eq s).fault_bootCount
@[simp] theorem settle_fault_frozen (s : State) : (settle s).fault.frozen = s.fault.frozen := (settle_eq s).fault_frozen
@[simp] theorem settle_fault_slots (s : State) : (settle s).fault.slots = s.fault.slots := (settle_eq s).fault_slots
@[simp] theorem settle_fault_flushes (s : State) : (settle s).fault.flushes = s.fault.flushes := (settle_eq s).fault_flushes
@[simp] theorem settle_fault_erasing (s : State) : (settle s).fault.erasing = s.fault.erasing := (settle_eq s).fault_erasing
@[simp] theorem settle_fault_flushedOff (s : State) : (settle s).fault.flushedOff = s.fault.flushedOff := (settle_eq s).fault_flushedOff
@[simp] theorem settle_fault_gauges (s : State) : (settle s).fault.gauges = s.fault.gauges := (settle_eq s).fault_gauges
@[simp] theorem settle_fault_hubGauges (s : State) : (settle s).fault.hubGauges = s.fault.hubGauges := (settle_eq s).fault_hubGauges
@[simp] theorem settle_fault_plannedAt (s : State) : (settle s).fault.plannedAt = s.fault.plannedAt := (settle_eq s).fault_plannedAt
@[simp] theorem settle_fault_reportedAt (s : State) : (settle s).fault.reportedAt = s.fault.reportedAt := (settle_eq s).fault_reportedAt
@[simp] theorem settle_zcp_bulks (s : State) : (settle s).zcp.bulks = s.zcp.bulks := (settle_eq s).zcp_bulks
@[simp] theorem settle_zcp_waiting (s : State) : (settle s).zcp.waiting = s.zcp.waiting := (settle_eq s).zcp_waiting
@[simp] theorem settle_zcp_authFail (s : State) : (settle s).zcp.authFail = s.zcp.authFail := (settle_eq s).zcp_authFail
@[simp] theorem settle_zcp_activeCore (s : State) : (settle s).zcp.activeCore = s.zcp.activeCore := (settle_eq s).zcp_activeCore
@[simp] theorem settle_zcp_standbyOk (s : State) : (settle s).zcp.standbyOk = s.zcp.standbyOk := (settle_eq s).zcp_standbyOk
@[simp] theorem settle_zcp_standbyBeat (s : State) : (settle s).zcp.standbyBeat = s.zcp.standbyBeat := (settle_eq s).zcp_standbyBeat
@[simp] theorem settle_zcp_heartbeatAt (s : State) : (settle s).zcp.heartbeatAt = s.zcp.heartbeatAt := (settle_eq s).zcp_heartbeatAt
@[simp] theorem settle_zcp_heartbeats (s : State) : (settle s).zcp.heartbeats = s.zcp.heartbeats := (settle_eq s).zcp_heartbeats
@[simp] theorem settle_zcp_draws (s : State) : (settle s).zcp.draws = s.zcp.draws := (settle_eq s).zcp_draws

@[simp] theorem fired_pending (f : Fs) (s : State) : (fired f s).pending = s.pending := by
  cases h : (episode f.cls s).state <;> simp only [fired, h] <;> rfl
@[simp] theorem fired_free (f : Fs) (s : State) : (fired f s).free = s.free := by
  cases h : (episode f.cls s).state <;> simp only [fired, h] <;> rfl
@[simp] theorem fired_force (f : Fs) (s : State) : (fired f s).force = s.force := by
  cases h : (episode f.cls s).state <;> simp only [fired, h] <;> rfl
@[simp] theorem fired_pend (f : Fs) (s : State) : (fired f s).pend = s.pend := by
  cases h : (episode f.cls s).state <;> simp only [fired, h] <;> rfl
@[simp] theorem fired_boundary (f : Fs) (s : State) : (fired f s).boundary = s.boundary := by
  cases h : (episode f.cls s).state <;> simp only [fired, h] <;> rfl
@[simp] theorem fired_power (f : Fs) (s : State) : (fired f s).power = s.power := by
  cases h : (episode f.cls s).state <;> simp only [fired, h] <;> rfl
@[simp] theorem fired_hostLinks (f : Fs) (s : State) : (fired f s).hostLinks = s.hostLinks := by
  cases h : (episode f.cls s).state <;> simp only [fired, h] <;> rfl
@[simp] theorem fired_boot (f : Fs) (s : State) : (fired f s).boot = s.boot := by
  cases h : (episode f.cls s).state <;> simp only [fired, h] <;> rfl
@[simp] theorem fired_time (f : Fs) (s : State) : (fired f s).time = s.time := by
  cases h : (episode f.cls s).state <;> simp only [fired, h] <;> rfl
@[simp] theorem fired_ingressLinks (f : Fs) (s : State) : (fired f s).ingressLinks = s.ingressLinks := by
  cases h : (episode f.cls s).state <;> simp only [fired, h] <;> rfl
@[simp] theorem fired_plan (f : Fs) (s : State) : (fired f s).plan = s.plan := by
  cases h : (episode f.cls s).state <;> simp only [fired, h] <;> rfl
@[simp] theorem fired_data (f : Fs) (s : State) : (fired f s).data = s.data := by
  cases h : (episode f.cls s).state <;> simp only [fired, h] <;> rfl
@[simp] theorem fired_zoom (f : Fs) (s : State) : (fired f s).zoom = s.zoom := by
  cases h : (episode f.cls s).state <;> simp only [fired, h] <;> rfl
@[simp] theorem fired_weir (f : Fs) (s : State) : (fired f s).weir = s.weir := by
  cases h : (episode f.cls s).state <;> simp only [fired, h] <;> rfl
@[simp] theorem fired_egress (f : Fs) (s : State) : (fired f s).egress = s.egress := by
  cases h : (episode f.cls s).state <;> simp only [fired, h] <;> rfl
@[simp] theorem fired_mem (f : Fs) (s : State) : (fired f s).mem = s.mem := by
  cases h : (episode f.cls s).state <;> simp only [fired, h] <;> rfl
@[simp] theorem fired_sluice (f : Fs) (s : State) : (fired f s).sluice = s.sluice := by
  cases h : (episode f.cls s).state <;> simp only [fired, h] <;> rfl
@[simp] theorem fired_canal (f : Fs) (s : State) : (fired f s).canal = s.canal := by
  cases h : (episode f.cls s).state <;> simp only [fired, h] <;> rfl
@[simp] theorem fired_fault_stopped (f : Fs) (s : State) : (fired f s).fault.stopped = s.fault.stopped := by
  cases h : (episode f.cls s).state <;> simp only [fired, h] <;> rfl
@[simp] theorem fired_fault_bootCount (f : Fs) (s : State) : (fired f s).fault.bootCount = s.fault.bootCount := by
  cases h : (episode f.cls s).state <;> simp only [fired, h] <;> rfl
@[simp] theorem fired_fault_frozen (f : Fs) (s : State) : (fired f s).fault.frozen = s.fault.frozen := by
  cases h : (episode f.cls s).state <;> simp only [fired, h] <;> rfl
@[simp] theorem fired_fault_slots (f : Fs) (s : State) : (fired f s).fault.slots = s.fault.slots := by
  cases h : (episode f.cls s).state <;> simp only [fired, h] <;> rfl
@[simp] theorem fired_fault_flushes (f : Fs) (s : State) : (fired f s).fault.flushes = s.fault.flushes := by
  cases h : (episode f.cls s).state <;> simp only [fired, h] <;> rfl
@[simp] theorem fired_fault_erasing (f : Fs) (s : State) : (fired f s).fault.erasing = s.fault.erasing := by
  cases h : (episode f.cls s).state <;> simp only [fired, h] <;> rfl
@[simp] theorem fired_fault_flushedOff (f : Fs) (s : State) : (fired f s).fault.flushedOff = s.fault.flushedOff := by
  cases h : (episode f.cls s).state <;> simp only [fired, h] <;> rfl
@[simp] theorem fired_fault_gauges (f : Fs) (s : State) : (fired f s).fault.gauges = s.fault.gauges := by
  cases h : (episode f.cls s).state <;> simp only [fired, h] <;> rfl
@[simp] theorem fired_fault_hubGauges (f : Fs) (s : State) : (fired f s).fault.hubGauges = s.fault.hubGauges := by
  cases h : (episode f.cls s).state <;> simp only [fired, h] <;> rfl
@[simp] theorem fired_fault_plannedAt (f : Fs) (s : State) : (fired f s).fault.plannedAt = s.fault.plannedAt := by
  cases h : (episode f.cls s).state <;> simp only [fired, h] <;> rfl
@[simp] theorem fired_fault_reportedAt (f : Fs) (s : State) : (fired f s).fault.reportedAt = s.fault.reportedAt := by
  cases h : (episode f.cls s).state <;> simp only [fired, h] <;> rfl
@[simp] theorem fired_zcp_bulks (f : Fs) (s : State) : (fired f s).zcp.bulks = s.zcp.bulks := by
  cases h : (episode f.cls s).state <;> simp only [fired, h] <;> rfl
@[simp] theorem fired_zcp_waiting (f : Fs) (s : State) : (fired f s).zcp.waiting = s.zcp.waiting := by
  cases h : (episode f.cls s).state <;> simp only [fired, h] <;> rfl
@[simp] theorem fired_zcp_authFail (f : Fs) (s : State) : (fired f s).zcp.authFail = s.zcp.authFail := by
  cases h : (episode f.cls s).state <;> simp only [fired, h] <;> rfl
@[simp] theorem fired_zcp_activeCore (f : Fs) (s : State) : (fired f s).zcp.activeCore = s.zcp.activeCore := by
  cases h : (episode f.cls s).state <;> simp only [fired, h] <;> rfl
@[simp] theorem fired_zcp_standbyOk (f : Fs) (s : State) : (fired f s).zcp.standbyOk = s.zcp.standbyOk := by
  cases h : (episode f.cls s).state <;> simp only [fired, h] <;> rfl
@[simp] theorem fired_zcp_standbyBeat (f : Fs) (s : State) : (fired f s).zcp.standbyBeat = s.zcp.standbyBeat := by
  cases h : (episode f.cls s).state <;> simp only [fired, h] <;> rfl
@[simp] theorem fired_zcp_heartbeatAt (f : Fs) (s : State) : (fired f s).zcp.heartbeatAt = s.zcp.heartbeatAt := by
  cases h : (episode f.cls s).state <;> simp only [fired, h] <;> rfl
@[simp] theorem fired_zcp_heartbeats (f : Fs) (s : State) : (fired f s).zcp.heartbeats = s.zcp.heartbeats := by
  cases h : (episode f.cls s).state <;> simp only [fired, h] <;> rfl
@[simp] theorem fired_zcp_draws (f : Fs) (s : State) : (fired f s).zcp.draws = s.zcp.draws := by
  cases h : (episode f.cls s).state <;> simp only [fired, h] <;> rfl
@[simp] theorem fired_sticky (f : Fs) (s : State) : (fired f s).fault.sticky = s.fault.sticky ||| BitVec.ofNat 128 (2 ^ f.num) := by
  cases h : (episode f.cls s).state <;> simp only [fired, h] <;> rfl
@[simp] theorem fire_pending (f : Fs) (s : State) : (fire f s).pending = s.pending := (fire_eq f s).pending.trans (fired_pending f s)
@[simp] theorem fire_free (f : Fs) (s : State) : (fire f s).free = s.free := (fire_eq f s).free.trans (fired_free f s)
@[simp] theorem fire_force (f : Fs) (s : State) : (fire f s).force = s.force := (fire_eq f s).force.trans (fired_force f s)
@[simp] theorem fire_pend (f : Fs) (s : State) : (fire f s).pend = s.pend := (fire_eq f s).pend.trans (fired_pend f s)
@[simp] theorem fire_boundary (f : Fs) (s : State) : (fire f s).boundary = s.boundary := (fire_eq f s).boundary.trans (fired_boundary f s)
@[simp] theorem fire_power (f : Fs) (s : State) : (fire f s).power = s.power := (fire_eq f s).power.trans (fired_power f s)
@[simp] theorem fire_hostLinks (f : Fs) (s : State) : (fire f s).hostLinks = s.hostLinks := (fire_eq f s).hostLinks.trans (fired_hostLinks f s)
@[simp] theorem fire_boot (f : Fs) (s : State) : (fire f s).boot = s.boot := (fire_eq f s).boot.trans (fired_boot f s)
@[simp] theorem fire_time (f : Fs) (s : State) : (fire f s).time = s.time := (fire_eq f s).time.trans (fired_time f s)
@[simp] theorem fire_ingressLinks (f : Fs) (s : State) : (fire f s).ingressLinks = s.ingressLinks := (fire_eq f s).ingressLinks.trans (fired_ingressLinks f s)
@[simp] theorem fire_plan (f : Fs) (s : State) : (fire f s).plan = s.plan := (fire_eq f s).plan.trans (fired_plan f s)
@[simp] theorem fire_data (f : Fs) (s : State) : (fire f s).data = s.data := (fire_eq f s).data.trans (fired_data f s)
@[simp] theorem fire_zoom (f : Fs) (s : State) : (fire f s).zoom = s.zoom := (fire_eq f s).zoom.trans (fired_zoom f s)
@[simp] theorem fire_weir (f : Fs) (s : State) : (fire f s).weir = s.weir := (fire_eq f s).weir.trans (fired_weir f s)
@[simp] theorem fire_egress (f : Fs) (s : State) : (fire f s).egress = s.egress := (fire_eq f s).egress.trans (fired_egress f s)
@[simp] theorem fire_mem (f : Fs) (s : State) : (fire f s).mem = s.mem := (fire_eq f s).mem.trans (fired_mem f s)
@[simp] theorem fire_sluice (f : Fs) (s : State) : (fire f s).sluice = s.sluice := (fire_eq f s).sluice.trans (fired_sluice f s)
@[simp] theorem fire_canal (f : Fs) (s : State) : (fire f s).canal = s.canal := (fire_eq f s).canal.trans (fired_canal f s)
@[simp] theorem fire_fault_stopped (f : Fs) (s : State) : (fire f s).fault.stopped = s.fault.stopped := (fire_eq f s).fault_stopped.trans (fired_fault_stopped f s)
@[simp] theorem fire_fault_bootCount (f : Fs) (s : State) : (fire f s).fault.bootCount = s.fault.bootCount := (fire_eq f s).fault_bootCount.trans (fired_fault_bootCount f s)
@[simp] theorem fire_fault_frozen (f : Fs) (s : State) : (fire f s).fault.frozen = s.fault.frozen := (fire_eq f s).fault_frozen.trans (fired_fault_frozen f s)
@[simp] theorem fire_fault_slots (f : Fs) (s : State) : (fire f s).fault.slots = s.fault.slots := (fire_eq f s).fault_slots.trans (fired_fault_slots f s)
@[simp] theorem fire_fault_flushes (f : Fs) (s : State) : (fire f s).fault.flushes = s.fault.flushes := (fire_eq f s).fault_flushes.trans (fired_fault_flushes f s)
@[simp] theorem fire_fault_erasing (f : Fs) (s : State) : (fire f s).fault.erasing = s.fault.erasing := (fire_eq f s).fault_erasing.trans (fired_fault_erasing f s)
@[simp] theorem fire_fault_flushedOff (f : Fs) (s : State) : (fire f s).fault.flushedOff = s.fault.flushedOff := (fire_eq f s).fault_flushedOff.trans (fired_fault_flushedOff f s)
@[simp] theorem fire_fault_gauges (f : Fs) (s : State) : (fire f s).fault.gauges = s.fault.gauges := (fire_eq f s).fault_gauges.trans (fired_fault_gauges f s)
@[simp] theorem fire_fault_hubGauges (f : Fs) (s : State) : (fire f s).fault.hubGauges = s.fault.hubGauges := (fire_eq f s).fault_hubGauges.trans (fired_fault_hubGauges f s)
@[simp] theorem fire_fault_plannedAt (f : Fs) (s : State) : (fire f s).fault.plannedAt = s.fault.plannedAt := (fire_eq f s).fault_plannedAt.trans (fired_fault_plannedAt f s)
@[simp] theorem fire_fault_reportedAt (f : Fs) (s : State) : (fire f s).fault.reportedAt = s.fault.reportedAt := (fire_eq f s).fault_reportedAt.trans (fired_fault_reportedAt f s)
@[simp] theorem fire_zcp_bulks (f : Fs) (s : State) : (fire f s).zcp.bulks = s.zcp.bulks := (fire_eq f s).zcp_bulks.trans (fired_zcp_bulks f s)
@[simp] theorem fire_zcp_waiting (f : Fs) (s : State) : (fire f s).zcp.waiting = s.zcp.waiting := (fire_eq f s).zcp_waiting.trans (fired_zcp_waiting f s)
@[simp] theorem fire_zcp_authFail (f : Fs) (s : State) : (fire f s).zcp.authFail = s.zcp.authFail := (fire_eq f s).zcp_authFail.trans (fired_zcp_authFail f s)
@[simp] theorem fire_zcp_activeCore (f : Fs) (s : State) : (fire f s).zcp.activeCore = s.zcp.activeCore := (fire_eq f s).zcp_activeCore.trans (fired_zcp_activeCore f s)
@[simp] theorem fire_zcp_standbyOk (f : Fs) (s : State) : (fire f s).zcp.standbyOk = s.zcp.standbyOk := (fire_eq f s).zcp_standbyOk.trans (fired_zcp_standbyOk f s)
@[simp] theorem fire_zcp_standbyBeat (f : Fs) (s : State) : (fire f s).zcp.standbyBeat = s.zcp.standbyBeat := (fire_eq f s).zcp_standbyBeat.trans (fired_zcp_standbyBeat f s)
@[simp] theorem fire_zcp_heartbeatAt (f : Fs) (s : State) : (fire f s).zcp.heartbeatAt = s.zcp.heartbeatAt := (fire_eq f s).zcp_heartbeatAt.trans (fired_zcp_heartbeatAt f s)
@[simp] theorem fire_zcp_heartbeats (f : Fs) (s : State) : (fire f s).zcp.heartbeats = s.zcp.heartbeats := (fire_eq f s).zcp_heartbeats.trans (fired_zcp_heartbeats f s)
@[simp] theorem fire_zcp_draws (f : Fs) (s : State) : (fire f s).zcp.draws = s.zcp.draws := (fire_eq f s).zcp_draws.trans (fired_zcp_draws f s)
@[simp] theorem fire_sticky (f : Fs) (s : State) : (fire f s).fault.sticky = s.fault.sticky ||| BitVec.ofNat 128 (2 ^ f.num) :=
  (fire_eq f s).fault_sticky.trans (fired_sticky f s)

end Sys2Proof.Machine
end

