-- ==== Sys2Proof/Laws/State.lean ====
section
/-! SUPPORT. One lemma per field of the state and per named update: what the update leaves, and what
is read back after it. Written out by a script from the list of updates. -/

namespace Sys2Proof.Machine

/-! ### `emit` -/

@[simp] theorem emit_pending (y : Sent) (s : State) : (emit y s).pending = s.pending := rfl
@[simp] theorem emit_free (y : Sent) (s : State) : (emit y s).free = s.free := rfl
@[simp] theorem emit_force (y : Sent) (s : State) : (emit y s).force = s.force := rfl
@[simp] theorem emit_pend (y : Sent) (s : State) : (emit y s).pend = s.pend := rfl
@[simp] theorem emit_boundary (y : Sent) (s : State) : (emit y s).boundary = s.boundary := rfl
@[simp] theorem emit_ctr (y : Sent) (s : State) : (emit y s).ctr = s.ctr := rfl
@[simp] theorem emit_satDue (y : Sent) (s : State) : (emit y s).satDue = s.satDue := rfl
@[simp] theorem emit_evCounts (y : Sent) (s : State) : (emit y s).evCounts = s.evCounts := rfl
@[simp] theorem emit_power (y : Sent) (s : State) : (emit y s).power = s.power := rfl
@[simp] theorem emit_hostLinks (y : Sent) (s : State) : (emit y s).hostLinks = s.hostLinks := rfl
@[simp] theorem emit_boot (y : Sent) (s : State) : (emit y s).boot = s.boot := rfl
@[simp] theorem emit_fault (y : Sent) (s : State) : (emit y s).fault = s.fault := rfl
@[simp] theorem emit_zcp (y : Sent) (s : State) : (emit y s).zcp = s.zcp := rfl
@[simp] theorem emit_time (y : Sent) (s : State) : (emit y s).time = s.time := rfl
@[simp] theorem emit_ingressLinks (y : Sent) (s : State) : (emit y s).ingressLinks = s.ingressLinks := rfl
@[simp] theorem emit_plan (y : Sent) (s : State) : (emit y s).plan = s.plan := rfl
@[simp] theorem emit_data (y : Sent) (s : State) : (emit y s).data = s.data := rfl
@[simp] theorem emit_zoom (y : Sent) (s : State) : (emit y s).zoom = s.zoom := rfl
@[simp] theorem emit_weir (y : Sent) (s : State) : (emit y s).weir = s.weir := rfl
@[simp] theorem emit_egress (y : Sent) (s : State) : (emit y s).egress = s.egress := rfl
@[simp] theorem emit_mem (y : Sent) (s : State) : (emit y s).mem = s.mem := rfl
@[simp] theorem emit_sluice (y : Sent) (s : State) : (emit y s).sluice = s.sluice := rfl
@[simp] theorem emit_canal (y : Sent) (s : State) : (emit y s).canal = s.canal := rfl

/-! ### `count` -/

@[simp] theorem count_pending (c : Ctr) (i n : Nat) (s : State) : (count c i n s).pending = s.pending := rfl
@[simp] theorem count_sent (c : Ctr) (i n : Nat) (s : State) : (count c i n s).sent = s.sent := rfl
@[simp] theorem count_free (c : Ctr) (i n : Nat) (s : State) : (count c i n s).free = s.free := rfl
@[simp] theorem count_force (c : Ctr) (i n : Nat) (s : State) : (count c i n s).force = s.force := rfl
@[simp] theorem count_pend (c : Ctr) (i n : Nat) (s : State) : (count c i n s).pend = s.pend := rfl
@[simp] theorem count_boundary (c : Ctr) (i n : Nat) (s : State) : (count c i n s).boundary = s.boundary := rfl
@[simp] theorem count_evCounts (c : Ctr) (i n : Nat) (s : State) : (count c i n s).evCounts = s.evCounts := rfl
@[simp] theorem count_power (c : Ctr) (i n : Nat) (s : State) : (count c i n s).power = s.power := rfl
@[simp] theorem count_hostLinks (c : Ctr) (i n : Nat) (s : State) : (count c i n s).hostLinks = s.hostLinks := rfl
@[simp] theorem count_boot (c : Ctr) (i n : Nat) (s : State) : (count c i n s).boot = s.boot := rfl
@[simp] theorem count_fault (c : Ctr) (i n : Nat) (s : State) : (count c i n s).fault = s.fault := rfl
@[simp] theorem count_zcp (c : Ctr) (i n : Nat) (s : State) : (count c i n s).zcp = s.zcp := rfl
@[simp] theorem count_time (c : Ctr) (i n : Nat) (s : State) : (count c i n s).time = s.time := rfl
@[simp] theorem count_ingressLinks (c : Ctr) (i n : Nat) (s : State) : (count c i n s).ingressLinks = s.ingressLinks := rfl
@[simp] theorem count_plan (c : Ctr) (i n : Nat) (s : State) : (count c i n s).plan = s.plan := rfl
@[simp] theorem count_data (c : Ctr) (i n : Nat) (s : State) : (count c i n s).data = s.data := rfl
@[simp] theorem count_zoom (c : Ctr) (i n : Nat) (s : State) : (count c i n s).zoom = s.zoom := rfl
@[simp] theorem count_weir (c : Ctr) (i n : Nat) (s : State) : (count c i n s).weir = s.weir := rfl
@[simp] theorem count_egress (c : Ctr) (i n : Nat) (s : State) : (count c i n s).egress = s.egress := rfl
@[simp] theorem count_mem (c : Ctr) (i n : Nat) (s : State) : (count c i n s).mem = s.mem := rfl
@[simp] theorem count_sluice (c : Ctr) (i n : Nat) (s : State) : (count c i n s).sluice = s.sluice := rfl
@[simp] theorem count_canal (c : Ctr) (i n : Nat) (s : State) : (count c i n s).canal = s.canal := rfl

/-! ### `ctrClear` -/

@[simp] theorem ctrClear_pending (c : Ctr) (i : Nat) (s : State) : (ctrClear c i s).pending = s.pending := rfl
@[simp] theorem ctrClear_sent (c : Ctr) (i : Nat) (s : State) : (ctrClear c i s).sent = s.sent := rfl
@[simp] theorem ctrClear_free (c : Ctr) (i : Nat) (s : State) : (ctrClear c i s).free = s.free := rfl
@[simp] theorem ctrClear_force (c : Ctr) (i : Nat) (s : State) : (ctrClear c i s).force = s.force := rfl
@[simp] theorem ctrClear_pend (c : Ctr) (i : Nat) (s : State) : (ctrClear c i s).pend = s.pend := rfl
@[simp] theorem ctrClear_boundary (c : Ctr) (i : Nat) (s : State) : (ctrClear c i s).boundary = s.boundary := rfl
@[simp] theorem ctrClear_satDue (c : Ctr) (i : Nat) (s : State) : (ctrClear c i s).satDue = s.satDue := rfl
@[simp] theorem ctrClear_evCounts (c : Ctr) (i : Nat) (s : State) : (ctrClear c i s).evCounts = s.evCounts := rfl
@[simp] theorem ctrClear_power (c : Ctr) (i : Nat) (s : State) : (ctrClear c i s).power = s.power := rfl
@[simp] theorem ctrClear_hostLinks (c : Ctr) (i : Nat) (s : State) : (ctrClear c i s).hostLinks = s.hostLinks := rfl
@[simp] theorem ctrClear_boot (c : Ctr) (i : Nat) (s : State) : (ctrClear c i s).boot = s.boot := rfl
@[simp] theorem ctrClear_fault (c : Ctr) (i : Nat) (s : State) : (ctrClear c i s).fault = s.fault := rfl
@[simp] theorem ctrClear_zcp (c : Ctr) (i : Nat) (s : State) : (ctrClear c i s).zcp = s.zcp := rfl
@[simp] theorem ctrClear_time (c : Ctr) (i : Nat) (s : State) : (ctrClear c i s).time = s.time := rfl
@[simp] theorem ctrClear_ingressLinks (c : Ctr) (i : Nat) (s : State) : (ctrClear c i s).ingressLinks = s.ingressLinks := rfl
@[simp] theorem ctrClear_plan (c : Ctr) (i : Nat) (s : State) : (ctrClear c i s).plan = s.plan := rfl
@[simp] theorem ctrClear_data (c : Ctr) (i : Nat) (s : State) : (ctrClear c i s).data = s.data := rfl
@[simp] theorem ctrClear_zoom (c : Ctr) (i : Nat) (s : State) : (ctrClear c i s).zoom = s.zoom := rfl
@[simp] theorem ctrClear_weir (c : Ctr) (i : Nat) (s : State) : (ctrClear c i s).weir = s.weir := rfl
@[simp] theorem ctrClear_egress (c : Ctr) (i : Nat) (s : State) : (ctrClear c i s).egress = s.egress := rfl
@[simp] theorem ctrClear_mem (c : Ctr) (i : Nat) (s : State) : (ctrClear c i s).mem = s.mem := rfl
@[simp] theorem ctrClear_sluice (c : Ctr) (i : Nat) (s : State) : (ctrClear c i s).sluice = s.sluice := rfl
@[simp] theorem ctrClear_canal (c : Ctr) (i : Nat) (s : State) : (ctrClear c i s).canal = s.canal := rfl

/-! ### `noteEvent` -/

@[simp] theorem noteEvent_pending (e : Ev) (s : State) : (noteEvent e s).pending = s.pending := rfl
@[simp] theorem noteEvent_sent (e : Ev) (s : State) : (noteEvent e s).sent = s.sent := rfl
@[simp] theorem noteEvent_free (e : Ev) (s : State) : (noteEvent e s).free = s.free := rfl
@[simp] theorem noteEvent_force (e : Ev) (s : State) : (noteEvent e s).force = s.force := rfl
@[simp] theorem noteEvent_pend (e : Ev) (s : State) : (noteEvent e s).pend = s.pend := rfl
@[simp] theorem noteEvent_boundary (e : Ev) (s : State) : (noteEvent e s).boundary = s.boundary := rfl
@[simp] theorem noteEvent_ctr (e : Ev) (s : State) : (noteEvent e s).ctr = s.ctr := rfl
@[simp] theorem noteEvent_power (e : Ev) (s : State) : (noteEvent e s).power = s.power := rfl
@[simp] theorem noteEvent_hostLinks (e : Ev) (s : State) : (noteEvent e s).hostLinks = s.hostLinks := rfl
@[simp] theorem noteEvent_boot (e : Ev) (s : State) : (noteEvent e s).boot = s.boot := rfl
@[simp] theorem noteEvent_fault (e : Ev) (s : State) : (noteEvent e s).fault = s.fault := rfl
@[simp] theorem noteEvent_zcp (e : Ev) (s : State) : (noteEvent e s).zcp = s.zcp := rfl
@[simp] theorem noteEvent_time (e : Ev) (s : State) : (noteEvent e s).time = s.time := rfl
@[simp] theorem noteEvent_ingressLinks (e : Ev) (s : State) : (noteEvent e s).ingressLinks = s.ingressLinks := rfl
@[simp] theorem noteEvent_plan (e : Ev) (s : State) : (noteEvent e s).plan = s.plan := rfl
@[simp] theorem noteEvent_data (e : Ev) (s : State) : (noteEvent e s).data = s.data := rfl
@[simp] theorem noteEvent_zoom (e : Ev) (s : State) : (noteEvent e s).zoom = s.zoom := rfl
@[simp] theorem noteEvent_weir (e : Ev) (s : State) : (noteEvent e s).weir = s.weir := rfl
@[simp] theorem noteEvent_egress (e : Ev) (s : State) : (noteEvent e s).egress = s.egress := rfl
@[simp] theorem noteEvent_mem (e : Ev) (s : State) : (noteEvent e s).mem = s.mem := rfl
@[simp] theorem noteEvent_sluice (e : Ev) (s : State) : (noteEvent e s).sluice = s.sluice := rfl
@[simp] theorem noteEvent_canal (e : Ev) (s : State) : (noteEvent e s).canal = s.canal := rfl

/-! ### `setPar` -/

@[simp] theorem setPar_pending (i : Item) (n e v : Nat) (s : State) : (setPar i n e v s).pending = s.pending := rfl
@[simp] theorem setPar_sent (i : Item) (n e v : Nat) (s : State) : (setPar i n e v s).sent = s.sent := rfl
@[simp] theorem setPar_free (i : Item) (n e v : Nat) (s : State) : (setPar i n e v s).free = s.free := rfl
@[simp] theorem setPar_pend (i : Item) (n e v : Nat) (s : State) : (setPar i n e v s).pend = s.pend := rfl
@[simp] theorem setPar_boundary (i : Item) (n e v : Nat) (s : State) : (setPar i n e v s).boundary = s.boundary := rfl
@[simp] theorem setPar_ctr (i : Item) (n e v : Nat) (s : State) : (setPar i n e v s).ctr = s.ctr := rfl
@[simp] theorem setPar_satDue (i : Item) (n e v : Nat) (s : State) : (setPar i n e v s).satDue = s.satDue := rfl
@[simp] theorem setPar_evCounts (i : Item) (n e v : Nat) (s : State) : (setPar i n e v s).evCounts = s.evCounts := rfl
@[simp] theorem setPar_power (i : Item) (n e v : Nat) (s : State) : (setPar i n e v s).power = s.power := rfl
@[simp] theorem setPar_hostLinks (i : Item) (n e v : Nat) (s : State) : (setPar i n e v s).hostLinks = s.hostLinks := rfl
@[simp] theorem setPar_boot (i : Item) (n e v : Nat) (s : State) : (setPar i n e v s).boot = s.boot := rfl
@[simp] theorem setPar_fault (i : Item) (n e v : Nat) (s : State) : (setPar i n e v s).fault = s.fault := rfl
@[simp] theorem setPar_zcp (i : Item) (n e v : Nat) (s : State) : (setPar i n e v s).zcp = s.zcp := rfl
@[simp] theorem setPar_time (i : Item) (n e v : Nat) (s : State) : (setPar i n e v s).time = s.time := rfl
@[simp] theorem setPar_ingressLinks (i : Item) (n e v : Nat) (s : State) : (setPar i n e v s).ingressLinks = s.ingressLinks := rfl
@[simp] theorem setPar_plan (i : Item) (n e v : Nat) (s : State) : (setPar i n e v s).plan = s.plan := rfl
@[simp] theorem setPar_data (i : Item) (n e v : Nat) (s : State) : (setPar i n e v s).data = s.data := rfl
@[simp] theorem setPar_zoom (i : Item) (n e v : Nat) (s : State) : (setPar i n e v s).zoom = s.zoom := rfl
@[simp] theorem setPar_weir (i : Item) (n e v : Nat) (s : State) : (setPar i n e v s).weir = s.weir := rfl
@[simp] theorem setPar_egress (i : Item) (n e v : Nat) (s : State) : (setPar i n e v s).egress = s.egress := rfl
@[simp] theorem setPar_mem (i : Item) (n e v : Nat) (s : State) : (setPar i n e v s).mem = s.mem := rfl
@[simp] theorem setPar_sluice (i : Item) (n e v : Nat) (s : State) : (setPar i n e v s).sluice = s.sluice := rfl

/-! ### `setSession` -/

@[simp] theorem setSession_pending (k : Nat) (f : Session → Session) (s : State) : (setSession k f s).pending = s.pending := rfl
@[simp] theorem setSession_sent (k : Nat) (f : Session → Session) (s : State) : (setSession k f s).sent = s.sent := rfl
@[simp] theorem setSession_free (k : Nat) (f : Session → Session) (s : State) : (setSession k f s).free = s.free := rfl
@[simp] theorem setSession_force (k : Nat) (f : Session → Session) (s : State) : (setSession k f s).force = s.force := rfl
@[simp] theorem setSession_pend (k : Nat) (f : Session → Session) (s : State) : (setSession k f s).pend = s.pend := rfl
@[simp] theorem setSession_boundary (k : Nat) (f : Session → Session) (s : State) : (setSession k f s).boundary = s.boundary := rfl
@[simp] theorem setSession_ctr (k : Nat) (f : Session → Session) (s : State) : (setSession k f s).ctr = s.ctr := rfl
@[simp] theorem setSession_satDue (k : Nat) (f : Session → Session) (s : State) : (setSession k f s).satDue = s.satDue := rfl
@[simp] theorem setSession_evCounts (k : Nat) (f : Session → Session) (s : State) : (setSession k f s).evCounts = s.evCounts := rfl
@[simp] theorem setSession_power (k : Nat) (f : Session → Session) (s : State) : (setSession k f s).power = s.power := rfl
@[simp] theorem setSession_hostLinks (k : Nat) (f : Session → Session) (s : State) : (setSession k f s).hostLinks = s.hostLinks := rfl
@[simp] theorem setSession_boot (k : Nat) (f : Session → Session) (s : State) : (setSession k f s).boot = s.boot := rfl
@[simp] theorem setSession_fault (k : Nat) (f : Session → Session) (s : State) : (setSession k f s).fault = s.fault := rfl
@[simp] theorem setSession_time (k : Nat) (f : Session → Session) (s : State) : (setSession k f s).time = s.time := rfl
@[simp] theorem setSession_ingressLinks (k : Nat) (f : Session → Session) (s : State) : (setSession k f s).ingressLinks = s.ingressLinks := rfl
@[simp] theorem setSession_plan (k : Nat) (f : Session → Session) (s : State) : (setSession k f s).plan = s.plan := rfl
@[simp] theorem setSession_data (k : Nat) (f : Session → Session) (s : State) : (setSession k f s).data = s.data := rfl
@[simp] theorem setSession_zoom (k : Nat) (f : Session → Session) (s : State) : (setSession k f s).zoom = s.zoom := rfl
@[simp] theorem setSession_weir (k : Nat) (f : Session → Session) (s : State) : (setSession k f s).weir = s.weir := rfl
@[simp] theorem setSession_egress (k : Nat) (f : Session → Session) (s : State) : (setSession k f s).egress = s.egress := rfl
@[simp] theorem setSession_mem (k : Nat) (f : Session → Session) (s : State) : (setSession k f s).mem = s.mem := rfl
@[simp] theorem setSession_sluice (k : Nat) (f : Session → Session) (s : State) : (setSession k f s).sluice = s.sluice := rfl
@[simp] theorem setSession_canal (k : Nat) (f : Session → Session) (s : State) : (setSession k f s).canal = s.canal := rfl

/-! ### `setDomain` -/

@[simp] theorem setDomain_pending (k : Nat) (d : DomainState) (s : State) : (setDomain k d s).pending = s.pending := rfl
@[simp] theorem setDomain_sent (k : Nat) (d : DomainState) (s : State) : (setDomain k d s).sent = s.sent := rfl
@[simp] theorem setDomain_free (k : Nat) (d : DomainState) (s : State) : (setDomain k d s).free = s.free := rfl
@[simp] theorem setDomain_force (k : Nat) (d : DomainState) (s : State) : (setDomain k d s).force = s.force := rfl
@[simp] theorem setDomain_pend (k : Nat) (d : DomainState) (s : State) : (setDomain k d s).pend = s.pend := rfl
@[simp] theorem setDomain_boundary (k : Nat) (d : DomainState) (s : State) : (setDomain k d s).boundary = s.boundary := rfl
@[simp] theorem setDomain_ctr (k : Nat) (d : DomainState) (s : State) : (setDomain k d s).ctr = s.ctr := rfl
@[simp] theorem setDomain_satDue (k : Nat) (d : DomainState) (s : State) : (setDomain k d s).satDue = s.satDue := rfl
@[simp] theorem setDomain_evCounts (k : Nat) (d : DomainState) (s : State) : (setDomain k d s).evCounts = s.evCounts := rfl
@[simp] theorem setDomain_hostLinks (k : Nat) (d : DomainState) (s : State) : (setDomain k d s).hostLinks = s.hostLinks := rfl
@[simp] theorem setDomain_boot (k : Nat) (d : DomainState) (s : State) : (setDomain k d s).boot = s.boot := rfl
@[simp] theorem setDomain_fault (k : Nat) (d : DomainState) (s : State) : (setDomain k d s).fault = s.fault := rfl
@[simp] theorem setDomain_zcp (k : Nat) (d : DomainState) (s : State) : (setDomain k d s).zcp = s.zcp := rfl
@[simp] theorem setDomain_time (k : Nat) (d : DomainState) (s : State) : (setDomain k d s).time = s.time := rfl
@[simp] theorem setDomain_ingressLinks (k : Nat) (d : DomainState) (s : State) : (setDomain k d s).ingressLinks = s.ingressLinks := rfl
@[simp] theorem setDomain_plan (k : Nat) (d : DomainState) (s : State) : (setDomain k d s).plan = s.plan := rfl
@[simp] theorem setDomain_data (k : Nat) (d : DomainState) (s : State) : (setDomain k d s).data = s.data := rfl
@[simp] theorem setDomain_zoom (k : Nat) (d : DomainState) (s : State) : (setDomain k d s).zoom = s.zoom := rfl
@[simp] theorem setDomain_weir (k : Nat) (d : DomainState) (s : State) : (setDomain k d s).weir = s.weir := rfl
@[simp] theorem setDomain_egress (k : Nat) (d : DomainState) (s : State) : (setDomain k d s).egress = s.egress := rfl
@[simp] theorem setDomain_mem (k : Nat) (d : DomainState) (s : State) : (setDomain k d s).mem = s.mem := rfl
@[simp] theorem setDomain_sluice (k : Nat) (d : DomainState) (s : State) : (setDomain k d s).sluice = s.sluice := rfl
@[simp] theorem setDomain_canal (k : Nat) (d : DomainState) (s : State) : (setDomain k d s).canal = s.canal := rfl
@[simp] theorem domain_setDomain_same (k : Nat) (d : DomainState) (s : State) (h : k < 40) : domain k (setDomain k d s) = d := by
  simp [domain, setDomain, h]
theorem domain_setDomain_of_ne {k j : Nat} (d : DomainState) (s : State) (h : j ≠ k) : domain j (setDomain k d s) = domain j s := by
  simp [domain, setDomain, RegFile.getD_set_of_ne _ _ _ h]

/-! ### `setEpisode` -/

@[simp] theorem setEpisode_pending (k : Nat) (d : Episode) (s : State) : (setEpisode k d s).pending = s.pending := rfl
@[simp] theorem setEpisode_sent (k : Nat) (d : Episode) (s : State) : (setEpisode k d s).sent = s.sent := rfl
@[simp] theorem setEpisode_free (k : Nat) (d : Episode) (s : State) : (setEpisode k d s).free = s.free := rfl
@[simp] theorem setEpisode_force (k : Nat) (d : Episode) (s : State) : (setEpisode k d s).force = s.force := rfl
@[simp] theorem setEpisode_pend (k : Nat) (d : Episode) (s : State) : (setEpisode k d s).pend = s.pend := rfl
@[simp] theorem setEpisode_boundary (k : Nat) (d : Episode) (s : State) : (setEpisode k d s).boundary = s.boundary := rfl
@[simp] theorem setEpisode_ctr (k : Nat) (d : Episode) (s : State) : (setEpisode k d s).ctr = s.ctr := rfl
@[simp] theorem setEpisode_satDue (k : Nat) (d : Episode) (s : State) : (setEpisode k d s).satDue = s.satDue := rfl
@[simp] theorem setEpisode_evCounts (k : Nat) (d : Episode) (s : State) : (setEpisode k d s).evCounts = s.evCounts := rfl
@[simp] theorem setEpisode_power (k : Nat) (d : Episode) (s : State) : (setEpisode k d s).power = s.power := rfl
@[simp] theorem setEpisode_hostLinks (k : Nat) (d : Episode) (s : State) : (setEpisode k d s).hostLinks = s.hostLinks := rfl
@[simp] theorem setEpisode_boot (k : Nat) (d : Episode) (s : State) : (setEpisode k d s).boot = s.boot := rfl
@[simp] theorem setEpisode_zcp (k : Nat) (d : Episode) (s : State) : (setEpisode k d s).zcp = s.zcp := rfl
@[simp] theorem setEpisode_time (k : Nat) (d : Episode) (s : State) : (setEpisode k d s).time = s.time := rfl
@[simp] theorem setEpisode_ingressLinks (k : Nat) (d : Episode) (s : State) : (setEpisode k d s).ingressLinks = s.ingressLinks := rfl
@[simp] theorem setEpisode_plan (k : Nat) (d : Episode) (s : State) : (setEpisode k d s).plan = s.plan := rfl
@[simp] theorem setEpisode_data (k : Nat) (d : Episode) (s : State) : (setEpisode k d s).data = s.data := rfl
@[simp] theorem setEpisode_zoom (k : Nat) (d : Episode) (s : State) : (setEpisode k d s).zoom = s.zoom := rfl
@[simp] theorem setEpisode_weir (k : Nat) (d : Episode) (s : State) : (setEpisode k d s).weir = s.weir := rfl
@[simp] theorem setEpisode_egress (k : Nat) (d : Episode) (s : State) : (setEpisode k d s).egress = s.egress := rfl
@[simp] theorem setEpisode_mem (k : Nat) (d : Episode) (s : State) : (setEpisode k d s).mem = s.mem := rfl
@[simp] theorem setEpisode_sluice (k : Nat) (d : Episode) (s : State) : (setEpisode k d s).sluice = s.sluice := rfl
@[simp] theorem setEpisode_canal (k : Nat) (d : Episode) (s : State) : (setEpisode k d s).canal = s.canal := rfl
@[simp] theorem episode_setEpisode_same (k : Nat) (d : Episode) (s : State) (h : k < 4) : episode k (setEpisode k d s) = d := by
  simp [episode, setEpisode, h]
theorem episode_setEpisode_of_ne {k j : Nat} (d : Episode) (s : State) (h : j ≠ k) : episode j (setEpisode k d s) = episode j s := by
  simp [episode, setEpisode, RegFile.getD_set_of_ne _ _ _ h]

/-! ### `setFeed` -/

@[simp] theorem setFeed_pending (k : Nat) (d : Feed) (s : State) : (setFeed k d s).pending = s.pending := rfl
@[simp] theorem setFeed_sent (k : Nat) (d : Feed) (s : State) : (setFeed k d s).sent = s.sent := rfl
@[simp] theorem setFeed_free (k : Nat) (d : Feed) (s : State) : (setFeed k d s).free = s.free := rfl
@[simp] theorem setFeed_force (k : Nat) (d : Feed) (s : State) : (setFeed k d s).force = s.force := rfl
@[simp] theorem setFeed_pend (k : Nat) (d : Feed) (s : State) : (setFeed k d s).pend = s.pend := rfl
@[simp] theorem setFeed_boundary (k : Nat) (d : Feed) (s : State) : (setFeed k d s).boundary = s.boundary := rfl
@[simp] theorem setFeed_ctr (k : Nat) (d : Feed) (s : State) : (setFeed k d s).ctr = s.ctr := rfl
@[simp] theorem setFeed_satDue (k : Nat) (d : Feed) (s : State) : (setFeed k d s).satDue = s.satDue := rfl
@[simp] theorem setFeed_evCounts (k : Nat) (d : Feed) (s : State) : (setFeed k d s).evCounts = s.evCounts := rfl
@[simp] theorem setFeed_hostLinks (k : Nat) (d : Feed) (s : State) : (setFeed k d s).hostLinks = s.hostLinks := rfl
@[simp] theorem setFeed_boot (k : Nat) (d : Feed) (s : State) : (setFeed k d s).boot = s.boot := rfl
@[simp] theorem setFeed_fault (k : Nat) (d : Feed) (s : State) : (setFeed k d s).fault = s.fault := rfl
@[simp] theorem setFeed_zcp (k : Nat) (d : Feed) (s : State) : (setFeed k d s).zcp = s.zcp := rfl
@[simp] theorem setFeed_time (k : Nat) (d : Feed) (s : State) : (setFeed k d s).time = s.time := rfl
@[simp] theorem setFeed_ingressLinks (k : Nat) (d : Feed) (s : State) : (setFeed k d s).ingressLinks = s.ingressLinks := rfl
@[simp] theorem setFeed_plan (k : Nat) (d : Feed) (s : State) : (setFeed k d s).plan = s.plan := rfl
@[simp] theorem setFeed_data (k : Nat) (d : Feed) (s : State) : (setFeed k d s).data = s.data := rfl
@[simp] theorem setFeed_zoom (k : Nat) (d : Feed) (s : State) : (setFeed k d s).zoom = s.zoom := rfl
@[simp] theorem setFeed_weir (k : Nat) (d : Feed) (s : State) : (setFeed k d s).weir = s.weir := rfl
@[simp] theorem setFeed_egress (k : Nat) (d : Feed) (s : State) : (setFeed k d s).egress = s.egress := rfl
@[simp] theorem setFeed_mem (k : Nat) (d : Feed) (s : State) : (setFeed k d s).mem = s.mem := rfl
@[simp] theorem setFeed_sluice (k : Nat) (d : Feed) (s : State) : (setFeed k d s).sluice = s.sluice := rfl
@[simp] theorem setFeed_canal (k : Nat) (d : Feed) (s : State) : (setFeed k d s).canal = s.canal := rfl
@[simp] theorem feed_setFeed_same (k : Nat) (d : Feed) (s : State) (h : k < 2) : feed k (setFeed k d s) = d := by
  simp [feed, setFeed, h]
theorem feed_setFeed_of_ne {k j : Nat} (d : Feed) (s : State) (h : j ≠ k) : feed j (setFeed k d s) = feed j s := by
  simp [feed, setFeed, RegFile.getD_set_of_ne _ _ _ h]

/-! ### `setChan` -/

@[simp] theorem setChan_pending (k : Nat) (d : ChanS) (s : State) : (setChan k d s).pending = s.pending := rfl
@[simp] theorem setChan_sent (k : Nat) (d : ChanS) (s : State) : (setChan k d s).sent = s.sent := rfl
@[simp] theorem setChan_free (k : Nat) (d : ChanS) (s : State) : (setChan k d s).free = s.free := rfl
@[simp] theorem setChan_force (k : Nat) (d : ChanS) (s : State) : (setChan k d s).force = s.force := rfl
@[simp] theorem setChan_pend (k : Nat) (d : ChanS) (s : State) : (setChan k d s).pend = s.pend := rfl
@[simp] theorem setChan_boundary (k : Nat) (d : ChanS) (s : State) : (setChan k d s).boundary = s.boundary := rfl
@[simp] theorem setChan_ctr (k : Nat) (d : ChanS) (s : State) : (setChan k d s).ctr = s.ctr := rfl
@[simp] theorem setChan_satDue (k : Nat) (d : ChanS) (s : State) : (setChan k d s).satDue = s.satDue := rfl
@[simp] theorem setChan_evCounts (k : Nat) (d : ChanS) (s : State) : (setChan k d s).evCounts = s.evCounts := rfl
@[simp] theorem setChan_power (k : Nat) (d : ChanS) (s : State) : (setChan k d s).power = s.power := rfl
@[simp] theorem setChan_hostLinks (k : Nat) (d : ChanS) (s : State) : (setChan k d s).hostLinks = s.hostLinks := rfl
@[simp] theorem setChan_boot (k : Nat) (d : ChanS) (s : State) : (setChan k d s).boot = s.boot := rfl
@[simp] theorem setChan_fault (k : Nat) (d : ChanS) (s : State) : (setChan k d s).fault = s.fault := rfl
@[simp] theorem setChan_zcp (k : Nat) (d : ChanS) (s : State) : (setChan k d s).zcp = s.zcp := rfl
@[simp] theorem setChan_time (k : Nat) (d : ChanS) (s : State) : (setChan k d s).time = s.time := rfl
@[simp] theorem setChan_ingressLinks (k : Nat) (d : ChanS) (s : State) : (setChan k d s).ingressLinks = s.ingressLinks := rfl
@[simp] theorem setChan_plan (k : Nat) (d : ChanS) (s : State) : (setChan k d s).plan = s.plan := rfl
@[simp] theorem setChan_data (k : Nat) (d : ChanS) (s : State) : (setChan k d s).data = s.data := rfl
@[simp] theorem setChan_zoom (k : Nat) (d : ChanS) (s : State) : (setChan k d s).zoom = s.zoom := rfl
@[simp] theorem setChan_weir (k : Nat) (d : ChanS) (s : State) : (setChan k d s).weir = s.weir := rfl
@[simp] theorem setChan_egress (k : Nat) (d : ChanS) (s : State) : (setChan k d s).egress = s.egress := rfl
@[simp] theorem setChan_sluice (k : Nat) (d : ChanS) (s : State) : (setChan k d s).sluice = s.sluice := rfl
@[simp] theorem setChan_canal (k : Nat) (d : ChanS) (s : State) : (setChan k d s).canal = s.canal := rfl
@[simp] theorem chan_setChan_same (k : Nat) (d : ChanS) (s : State) (h : k < 128) : chan k (setChan k d s) = d := by
  simp [chan, setChan, h]
theorem chan_setChan_of_ne {k j : Nat} (d : ChanS) (s : State) (h : j ≠ k) : chan j (setChan k d s) = chan j s := by
  simp [chan, setChan, RegFile.getD_set_of_ne _ _ _ h]

/-! ### `setStack` -/

@[simp] theorem setStack_pending (k : Nat) (d : StackS) (s : State) : (setStack k d s).pending = s.pending := rfl
@[simp] theorem setStack_sent (k : Nat) (d : StackS) (s : State) : (setStack k d s).sent = s.sent := rfl
@[simp] theorem setStack_free (k : Nat) (d : StackS) (s : State) : (setStack k d s).free = s.free := rfl
@[simp] theorem setStack_force (k : Nat) (d : StackS) (s : State) : (setStack k d s).force = s.force := rfl
@[simp] theorem setStack_pend (k : Nat) (d : StackS) (s : State) : (setStack k d s).pend = s.pend := rfl
@[simp] theorem setStack_boundary (k : Nat) (d : StackS) (s : State) : (setStack k d s).boundary = s.boundary := rfl
@[simp] theorem setStack_ctr (k : Nat) (d : StackS) (s : State) : (setStack k d s).ctr = s.ctr := rfl
@[simp] theorem setStack_satDue (k : Nat) (d : StackS) (s : State) : (setStack k d s).satDue = s.satDue := rfl
@[simp] theorem setStack_evCounts (k : Nat) (d : StackS) (s : State) : (setStack k d s).evCounts = s.evCounts := rfl
@[simp] theorem setStack_power (k : Nat) (d : StackS) (s : State) : (setStack k d s).power = s.power := rfl
@[simp] theorem setStack_hostLinks (k : Nat) (d : StackS) (s : State) : (setStack k d s).hostLinks = s.hostLinks := rfl
@[simp] theorem setStack_boot (k : Nat) (d : StackS) (s : State) : (setStack k d s).boot = s.boot := rfl
@[simp] theorem setStack_fault (k : Nat) (d : StackS) (s : State) : (setStack k d s).fault = s.fault := rfl
@[simp] theorem setStack_zcp (k : Nat) (d : StackS) (s : State) : (setStack k d s).zcp = s.zcp := rfl
@[simp] theorem setStack_time (k : Nat) (d : StackS) (s : State) : (setStack k d s).time = s.time := rfl
@[simp] theorem setStack_ingressLinks (k : Nat) (d : StackS) (s : State) : (setStack k d s).ingressLinks = s.ingressLinks := rfl
@[simp] theorem setStack_plan (k : Nat) (d : StackS) (s : State) : (setStack k d s).plan = s.plan := rfl
@[simp] theorem setStack_data (k : Nat) (d : StackS) (s : State) : (setStack k d s).data = s.data := rfl
@[simp] theorem setStack_zoom (k : Nat) (d : StackS) (s : State) : (setStack k d s).zoom = s.zoom := rfl
@[simp] theorem setStack_weir (k : Nat) (d : StackS) (s : State) : (setStack k d s).weir = s.weir := rfl
@[simp] theorem setStack_egress (k : Nat) (d : StackS) (s : State) : (setStack k d s).egress = s.egress := rfl
@[simp] theorem setStack_sluice (k : Nat) (d : StackS) (s : State) : (setStack k d s).sluice = s.sluice := rfl
@[simp] theorem setStack_canal (k : Nat) (d : StackS) (s : State) : (setStack k d s).canal = s.canal := rfl
@[simp] theorem stack_setStack_same (k : Nat) (d : StackS) (s : State) (h : k < 8) : stack k (setStack k d s) = d := by
  simp [stack, setStack, h]
theorem stack_setStack_of_ne {k j : Nat} (d : StackS) (s : State) (h : j ≠ k) : stack j (setStack k d s) = stack j s := by
  simp [stack, setStack, RegFile.getD_set_of_ne _ _ _ h]

/-! ### `setDie` -/

@[simp] theorem setDie_pending (k : Nat) (d : Die) (s : State) : (setDie k d s).pending = s.pending := rfl
@[simp] theorem setDie_sent (k : Nat) (d : Die) (s : State) : (setDie k d s).sent = s.sent := rfl
@[simp] theorem setDie_free (k : Nat) (d : Die) (s : State) : (setDie k d s).free = s.free := rfl
@[simp] theorem setDie_force (k : Nat) (d : Die) (s : State) : (setDie k d s).force = s.force := rfl
@[simp] theorem setDie_pend (k : Nat) (d : Die) (s : State) : (setDie k d s).pend = s.pend := rfl
@[simp] theorem setDie_boundary (k : Nat) (d : Die) (s : State) : (setDie k d s).boundary = s.boundary := rfl
@[simp] theorem setDie_ctr (k : Nat) (d : Die) (s : State) : (setDie k d s).ctr = s.ctr := rfl
@[simp] theorem setDie_satDue (k : Nat) (d : Die) (s : State) : (setDie k d s).satDue = s.satDue := rfl
@[simp] theorem setDie_evCounts (k : Nat) (d : Die) (s : State) : (setDie k d s).evCounts = s.evCounts := rfl
@[simp] theorem setDie_power (k : Nat) (d : Die) (s : State) : (setDie k d s).power = s.power := rfl
@[simp] theorem setDie_hostLinks (k : Nat) (d : Die) (s : State) : (setDie k d s).hostLinks = s.hostLinks := rfl
@[simp] theorem setDie_boot (k : Nat) (d : Die) (s : State) : (setDie k d s).boot = s.boot := rfl
@[simp] theorem setDie_fault (k : Nat) (d : Die) (s : State) : (setDie k d s).fault = s.fault := rfl
@[simp] theorem setDie_zcp (k : Nat) (d : Die) (s : State) : (setDie k d s).zcp = s.zcp := rfl
@[simp] theorem setDie_time (k : Nat) (d : Die) (s : State) : (setDie k d s).time = s.time := rfl
@[simp] theorem setDie_ingressLinks (k : Nat) (d : Die) (s : State) : (setDie k d s).ingressLinks = s.ingressLinks := rfl
@[simp] theorem setDie_plan (k : Nat) (d : Die) (s : State) : (setDie k d s).plan = s.plan := rfl
@[simp] theorem setDie_zoom (k : Nat) (d : Die) (s : State) : (setDie k d s).zoom = s.zoom := rfl
@[simp] theorem setDie_weir (k : Nat) (d : Die) (s : State) : (setDie k d s).weir = s.weir := rfl
@[simp] theorem setDie_egress (k : Nat) (d : Die) (s : State) : (setDie k d s).egress = s.egress := rfl
@[simp] theorem setDie_mem (k : Nat) (d : Die) (s : State) : (setDie k d s).mem = s.mem := rfl
@[simp] theorem setDie_sluice (k : Nat) (d : Die) (s : State) : (setDie k d s).sluice = s.sluice := rfl
@[simp] theorem setDie_canal (k : Nat) (d : Die) (s : State) : (setDie k d s).canal = s.canal := rfl
@[simp] theorem die_setDie_same (k : Nat) (d : Die) (s : State) (h : k < 4) : die k (setDie k d s) = d := by
  simp [die, setDie, h]
theorem die_setDie_of_ne {k j : Nat} (d : Die) (s : State) (h : j ≠ k) : die j (setDie k d s) = die j s := by
  simp [die, setDie, RegFile.getD_set_of_ne _ _ _ h]

/-! ### `setPolder` -/

@[simp] theorem setPolder_pending (k : Nat) (d : Polder) (s : State) : (setPolder k d s).pending = s.pending := rfl
@[simp] theorem setPolder_sent (k : Nat) (d : Polder) (s : State) : (setPolder k d s).sent = s.sent := rfl
@[simp] theorem setPolder_free (k : Nat) (d : Polder) (s : State) : (setPolder k d s).free = s.free := rfl
@[simp] theorem setPolder_force (k : Nat) (d : Polder) (s : State) : (setPolder k d s).force = s.force := rfl
@[simp] theorem setPolder_pend (k : Nat) (d : Polder) (s : State) : (setPolder k d s).pend = s.pend := rfl
@[simp] theorem setPolder_boundary (k : Nat) (d : Polder) (s : State) : (setPolder k d s).boundary = s.boundary := rfl
@[simp] theorem setPolder_ctr (k : Nat) (d : Polder) (s : State) : (setPolder k d s).ctr = s.ctr := rfl
@[simp] theorem setPolder_satDue (k : Nat) (d : Polder) (s : State) : (setPolder k d s).satDue = s.satDue := rfl
@[simp] theorem setPolder_evCounts (k : Nat) (d : Polder) (s : State) : (setPolder k d s).evCounts = s.evCounts := rfl
@[simp] theorem setPolder_power (k : Nat) (d : Polder) (s : State) : (setPolder k d s).power = s.power := rfl
@[simp] theorem setPolder_hostLinks (k : Nat) (d : Polder) (s : State) : (setPolder k d s).hostLinks = s.hostLinks := rfl
@[simp] theorem setPolder_boot (k : Nat) (d : Polder) (s : State) : (setPolder k d s).boot = s.boot := rfl
@[simp] theorem setPolder_fault (k : Nat) (d : Polder) (s : State) : (setPolder k d s).fault = s.fault := rfl
@[simp] theorem setPolder_zcp (k : Nat) (d : Polder) (s : State) : (setPolder k d s).zcp = s.zcp := rfl
@[simp] theorem setPolder_time (k : Nat) (d : Polder) (s : State) : (setPolder k d s).time = s.time := rfl
@[simp] theorem setPolder_ingressLinks (k : Nat) (d : Polder) (s : State) : (setPolder k d s).ingressLinks = s.ingressLinks := rfl
@[simp] theorem setPolder_plan (k : Nat) (d : Polder) (s : State) : (setPolder k d s).plan = s.plan := rfl
@[simp] theorem setPolder_zoom (k : Nat) (d : Polder) (s : State) : (setPolder k d s).zoom = s.zoom := rfl
@[simp] theorem setPolder_weir (k : Nat) (d : Polder) (s : State) : (setPolder k d s).weir = s.weir := rfl
@[simp] theorem setPolder_egress (k : Nat) (d : Polder) (s : State) : (setPolder k d s).egress = s.egress := rfl
@[simp] theorem setPolder_mem (k : Nat) (d : Polder) (s : State) : (setPolder k d s).mem = s.mem := rfl
@[simp] theorem setPolder_sluice (k : Nat) (d : Polder) (s : State) : (setPolder k d s).sluice = s.sluice := rfl
@[simp] theorem setPolder_canal (k : Nat) (d : Polder) (s : State) : (setPolder k d s).canal = s.canal := rfl
@[simp] theorem polder_setPolder_same (k : Nat) (d : Polder) (s : State) (h : k < 168) : polder k (setPolder k d s) = d := by
  simp [polder, setPolder, h]
theorem polder_setPolder_of_ne {k j : Nat} (d : Polder) (s : State) (h : j ≠ k) : polder j (setPolder k d s) = polder j s := by
  simp [polder, setPolder, RegFile.getD_set_of_ne _ _ _ h]

/-! ### `setRef` -/

@[simp] theorem setRef_pending (k : Nat) (d : RefS) (s : State) : (setRef k d s).pending = s.pending := rfl
@[simp] theorem setRef_sent (k : Nat) (d : RefS) (s : State) : (setRef k d s).sent = s.sent := rfl
@[simp] theorem setRef_free (k : Nat) (d : RefS) (s : State) : (setRef k d s).free = s.free := rfl
@[simp] theorem setRef_force (k : Nat) (d : RefS) (s : State) : (setRef k d s).force = s.force := rfl
@[simp] theorem setRef_pend (k : Nat) (d : RefS) (s : State) : (setRef k d s).pend = s.pend := rfl
@[simp] theorem setRef_boundary (k : Nat) (d : RefS) (s : State) : (setRef k d s).boundary = s.boundary := rfl
@[simp] theorem setRef_ctr (k : Nat) (d : RefS) (s : State) : (setRef k d s).ctr = s.ctr := rfl
@[simp] theorem setRef_satDue (k : Nat) (d : RefS) (s : State) : (setRef k d s).satDue = s.satDue := rfl
@[simp] theorem setRef_evCounts (k : Nat) (d : RefS) (s : State) : (setRef k d s).evCounts = s.evCounts := rfl
@[simp] theorem setRef_power (k : Nat) (d : RefS) (s : State) : (setRef k d s).power = s.power := rfl
@[simp] theorem setRef_hostLinks (k : Nat) (d : RefS) (s : State) : (setRef k d s).hostLinks = s.hostLinks := rfl
@[simp] theorem setRef_boot (k : Nat) (d : RefS) (s : State) : (setRef k d s).boot = s.boot := rfl
@[simp] theorem setRef_fault (k : Nat) (d : RefS) (s : State) : (setRef k d s).fault = s.fault := rfl
@[simp] theorem setRef_zcp (k : Nat) (d : RefS) (s : State) : (setRef k d s).zcp = s.zcp := rfl
@[simp] theorem setRef_ingressLinks (k : Nat) (d : RefS) (s : State) : (setRef k d s).ingressLinks = s.ingressLinks := rfl
@[simp] theorem setRef_plan (k : Nat) (d : RefS) (s : State) : (setRef k d s).plan = s.plan := rfl
@[simp] theorem setRef_data (k : Nat) (d : RefS) (s : State) : (setRef k d s).data = s.data := rfl
@[simp] theorem setRef_zoom (k : Nat) (d : RefS) (s : State) : (setRef k d s).zoom = s.zoom := rfl
@[simp] theorem setRef_weir (k : Nat) (d : RefS) (s : State) : (setRef k d s).weir = s.weir := rfl
@[simp] theorem setRef_egress (k : Nat) (d : RefS) (s : State) : (setRef k d s).egress = s.egress := rfl
@[simp] theorem setRef_mem (k : Nat) (d : RefS) (s : State) : (setRef k d s).mem = s.mem := rfl
@[simp] theorem setRef_sluice (k : Nat) (d : RefS) (s : State) : (setRef k d s).sluice = s.sluice := rfl
@[simp] theorem setRef_canal (k : Nat) (d : RefS) (s : State) : (setRef k d s).canal = s.canal := rfl
@[simp] theorem ref_setRef_same (k : Nat) (d : RefS) (s : State) (h : k < 6) : ref k (setRef k d s) = d := by
  simp [ref, setRef, h]
theorem ref_setRef_of_ne {k j : Nat} (d : RefS) (s : State) (h : j ≠ k) : ref j (setRef k d s) = ref j s := by
  simp [ref, setRef, RegFile.getD_set_of_ne _ _ _ h]

/-! ### `setOut` -/

@[simp] theorem setOut_pending (k : Nat) (d : Out) (s : State) : (setOut k d s).pending = s.pending := rfl
@[simp] theorem setOut_sent (k : Nat) (d : Out) (s : State) : (setOut k d s).sent = s.sent := rfl
@[simp] theorem setOut_free (k : Nat) (d : Out) (s : State) : (setOut k d s).free = s.free := rfl
@[simp] theorem setOut_force (k : Nat) (d : Out) (s : State) : (setOut k d s).force = s.force := rfl
@[simp] theorem setOut_pend (k : Nat) (d : Out) (s : State) : (setOut k d s).pend = s.pend := rfl
@[simp] theorem setOut_boundary (k : Nat) (d : Out) (s : State) : (setOut k d s).boundary = s.boundary := rfl
@[simp] theorem setOut_ctr (k : Nat) (d : Out) (s : State) : (setOut k d s).ctr = s.ctr := rfl
@[simp] theorem setOut_satDue (k : Nat) (d : Out) (s : State) : (setOut k d s).satDue = s.satDue := rfl
@[simp] theorem setOut_evCounts (k : Nat) (d : Out) (s : State) : (setOut k d s).evCounts = s.evCounts := rfl
@[simp] theorem setOut_power (k : Nat) (d : Out) (s : State) : (setOut k d s).power = s.power := rfl
@[simp] theorem setOut_hostLinks (k : Nat) (d : Out) (s : State) : (setOut k d s).hostLinks = s.hostLinks := rfl
@[simp] theorem setOut_boot (k : Nat) (d : Out) (s : State) : (setOut k d s).boot = s.boot := rfl
@[simp] theorem setOut_fault (k : Nat) (d : Out) (s : State) : (setOut k d s).fault = s.fault := rfl
@[simp] theorem setOut_zcp (k : Nat) (d : Out) (s : State) : (setOut k d s).zcp = s.zcp := rfl
@[simp] theorem setOut_ingressLinks (k : Nat) (d : Out) (s : State) : (setOut k d s).ingressLinks = s.ingressLinks := rfl
@[simp] theorem setOut_plan (k : Nat) (d : Out) (s : State) : (setOut k d s).plan = s.plan := rfl
@[simp] theorem setOut_data (k : Nat) (d : Out) (s : State) : (setOut k d s).data = s.data := rfl
@[simp] theorem setOut_zoom (k : Nat) (d : Out) (s : State) : (setOut k d s).zoom = s.zoom := rfl
@[simp] theorem setOut_weir (k : Nat) (d : Out) (s : State) : (setOut k d s).weir = s.weir := rfl
@[simp] theorem setOut_egress (k : Nat) (d : Out) (s : State) : (setOut k d s).egress = s.egress := rfl
@[simp] theorem setOut_mem (k : Nat) (d : Out) (s : State) : (setOut k d s).mem = s.mem := rfl
@[simp] theorem setOut_sluice (k : Nat) (d : Out) (s : State) : (setOut k d s).sluice = s.sluice := rfl
@[simp] theorem setOut_canal (k : Nat) (d : Out) (s : State) : (setOut k d s).canal = s.canal := rfl
@[simp] theorem out_setOut_same (k : Nat) (d : Out) (s : State) (h : k < 9) : out k (setOut k d s) = d := by
  simp [out, setOut, h]
theorem out_setOut_of_ne {k j : Nat} (d : Out) (s : State) (h : j ≠ k) : out j (setOut k d s) = out j s := by
  simp [out, setOut, RegFile.getD_set_of_ne _ _ _ h]

/-! ### `setTin` -/

@[simp] theorem setTin_pending (k : Nat) (d : TIn) (s : State) : (setTin k d s).pending = s.pending := rfl
@[simp] theorem setTin_sent (k : Nat) (d : TIn) (s : State) : (setTin k d s).sent = s.sent := rfl
@[simp] theorem setTin_free (k : Nat) (d : TIn) (s : State) : (setTin k d s).free = s.free := rfl
@[simp] theorem setTin_force (k : Nat) (d : TIn) (s : State) : (setTin k d s).force = s.force := rfl
@[simp] theorem setTin_pend (k : Nat) (d : TIn) (s : State) : (setTin k d s).pend = s.pend := rfl
@[simp] theorem setTin_boundary (k : Nat) (d : TIn) (s : State) : (setTin k d s).boundary = s.boundary := rfl
@[simp] theorem setTin_ctr (k : Nat) (d : TIn) (s : State) : (setTin k d s).ctr = s.ctr := rfl
@[simp] theorem setTin_satDue (k : Nat) (d : TIn) (s : State) : (setTin k d s).satDue = s.satDue := rfl
@[simp] theorem setTin_evCounts (k : Nat) (d : TIn) (s : State) : (setTin k d s).evCounts = s.evCounts := rfl
@[simp] theorem setTin_power (k : Nat) (d : TIn) (s : State) : (setTin k d s).power = s.power := rfl
@[simp] theorem setTin_hostLinks (k : Nat) (d : TIn) (s : State) : (setTin k d s).hostLinks = s.hostLinks := rfl
@[simp] theorem setTin_boot (k : Nat) (d : TIn) (s : State) : (setTin k d s).boot = s.boot := rfl
@[simp] theorem setTin_fault (k : Nat) (d : TIn) (s : State) : (setTin k d s).fault = s.fault := rfl
@[simp] theorem setTin_zcp (k : Nat) (d : TIn) (s : State) : (setTin k d s).zcp = s.zcp := rfl
@[simp] theorem setTin_ingressLinks (k : Nat) (d : TIn) (s : State) : (setTin k d s).ingressLinks = s.ingressLinks := rfl
@[simp] theorem setTin_plan (k : Nat) (d : TIn) (s : State) : (setTin k d s).plan = s.plan := rfl
@[simp] theorem setTin_data (k : Nat) (d : TIn) (s : State) : (setTin k d s).data = s.data := rfl
@[simp] theorem setTin_zoom (k : Nat) (d : TIn) (s : State) : (setTin k d s).zoom = s.zoom := rfl
@[simp] theorem setTin_weir (k : Nat) (d : TIn) (s : State) : (setTin k d s).weir = s.weir := rfl
@[simp] theorem setTin_egress (k : Nat) (d : TIn) (s : State) : (setTin k d s).egress = s.egress := rfl
@[simp] theorem setTin_mem (k : Nat) (d : TIn) (s : State) : (setTin k d s).mem = s.mem := rfl
@[simp] theorem setTin_sluice (k : Nat) (d : TIn) (s : State) : (setTin k d s).sluice = s.sluice := rfl
@[simp] theorem setTin_canal (k : Nat) (d : TIn) (s : State) : (setTin k d s).canal = s.canal := rfl
@[simp] theorem tin_setTin_same (k : Nat) (d : TIn) (s : State) (h : k < 2) : tin k (setTin k d s) = d := by
  simp [tin, setTin, h]
theorem tin_setTin_of_ne {k j : Nat} (d : TIn) (s : State) (h : j ≠ k) : tin j (setTin k d s) = tin j s := by
  simp [tin, setTin, RegFile.getD_set_of_ne _ _ _ h]

/-! ### `setRxPort` -/

@[simp] theorem setRxPort_pending (k : Nat) (d : PtpRx) (s : State) : (setRxPort k d s).pending = s.pending := rfl
@[simp] theorem setRxPort_sent (k : Nat) (d : PtpRx) (s : State) : (setRxPort k d s).sent = s.sent := rfl
@[simp] theorem setRxPort_free (k : Nat) (d : PtpRx) (s : State) : (setRxPort k d s).free = s.free := rfl
@[simp] theorem setRxPort_force (k : Nat) (d : PtpRx) (s : State) : (setRxPort k d s).force = s.force := rfl
@[simp] theorem setRxPort_pend (k : Nat) (d : PtpRx) (s : State) : (setRxPort k d s).pend = s.pend := rfl
@[simp] theorem setRxPort_boundary (k : Nat) (d : PtpRx) (s : State) : (setRxPort k d s).boundary = s.boundary := rfl
@[simp] theorem setRxPort_ctr (k : Nat) (d : PtpRx) (s : State) : (setRxPort k d s).ctr = s.ctr := rfl
@[simp] theorem setRxPort_satDue (k : Nat) (d : PtpRx) (s : State) : (setRxPort k d s).satDue = s.satDue := rfl
@[simp] theorem setRxPort_evCounts (k : Nat) (d : PtpRx) (s : State) : (setRxPort k d s).evCounts = s.evCounts := rfl
@[simp] theorem setRxPort_power (k : Nat) (d : PtpRx) (s : State) : (setRxPort k d s).power = s.power := rfl
@[simp] theorem setRxPort_hostLinks (k : Nat) (d : PtpRx) (s : State) : (setRxPort k d s).hostLinks = s.hostLinks := rfl
@[simp] theorem setRxPort_boot (k : Nat) (d : PtpRx) (s : State) : (setRxPort k d s).boot = s.boot := rfl
@[simp] theorem setRxPort_fault (k : Nat) (d : PtpRx) (s : State) : (setRxPort k d s).fault = s.fault := rfl
@[simp] theorem setRxPort_zcp (k : Nat) (d : PtpRx) (s : State) : (setRxPort k d s).zcp = s.zcp := rfl
@[simp] theorem setRxPort_ingressLinks (k : Nat) (d : PtpRx) (s : State) : (setRxPort k d s).ingressLinks = s.ingressLinks := rfl
@[simp] theorem setRxPort_plan (k : Nat) (d : PtpRx) (s : State) : (setRxPort k d s).plan = s.plan := rfl
@[simp] theorem setRxPort_data (k : Nat) (d : PtpRx) (s : State) : (setRxPort k d s).data = s.data := rfl
@[simp] theorem setRxPort_zoom (k : Nat) (d : PtpRx) (s : State) : (setRxPort k d s).zoom = s.zoom := rfl
@[simp] theorem setRxPort_weir (k : Nat) (d : PtpRx) (s : State) : (setRxPort k d s).weir = s.weir := rfl
@[simp] theorem setRxPort_egress (k : Nat) (d : PtpRx) (s : State) : (setRxPort k d s).egress = s.egress := rfl
@[simp] theorem setRxPort_mem (k : Nat) (d : PtpRx) (s : State) : (setRxPort k d s).mem = s.mem := rfl
@[simp] theorem setRxPort_sluice (k : Nat) (d : PtpRx) (s : State) : (setRxPort k d s).sluice = s.sluice := rfl
@[simp] theorem setRxPort_canal (k : Nat) (d : PtpRx) (s : State) : (setRxPort k d s).canal = s.canal := rfl
@[simp] theorem rxPort_setRxPort_same (k : Nat) (d : PtpRx) (s : State) (h : k < 2) : rxPort k (setRxPort k d s) = d := by
  simp [rxPort, setRxPort, h]
theorem rxPort_setRxPort_of_ne {k j : Nat} (d : PtpRx) (s : State) (h : j ≠ k) : rxPort j (setRxPort k d s) = rxPort j s := by
  simp [rxPort, setRxPort, RegFile.getD_set_of_ne _ _ _ h]

/-! ### `setCore` -/

@[simp] theorem setCore_pending (k : Nat) (d : Core) (s : State) : (setCore k d s).pending = s.pending := rfl
@[simp] theorem setCore_sent (k : Nat) (d : Core) (s : State) : (setCore k d s).sent = s.sent := rfl
@[simp] theorem setCore_free (k : Nat) (d : Core) (s : State) : (setCore k d s).free = s.free := rfl
@[simp] theorem setCore_force (k : Nat) (d : Core) (s : State) : (setCore k d s).force = s.force := rfl
@[simp] theorem setCore_pend (k : Nat) (d : Core) (s : State) : (setCore k d s).pend = s.pend := rfl
@[simp] theorem setCore_boundary (k : Nat) (d : Core) (s : State) : (setCore k d s).boundary = s.boundary := rfl
@[simp] theorem setCore_ctr (k : Nat) (d : Core) (s : State) : (setCore k d s).ctr = s.ctr := rfl
@[simp] theorem setCore_satDue (k : Nat) (d : Core) (s : State) : (setCore k d s).satDue = s.satDue := rfl
@[simp] theorem setCore_evCounts (k : Nat) (d : Core) (s : State) : (setCore k d s).evCounts = s.evCounts := rfl
@[simp] theorem setCore_power (k : Nat) (d : Core) (s : State) : (setCore k d s).power = s.power := rfl
@[simp] theorem setCore_hostLinks (k : Nat) (d : Core) (s : State) : (setCore k d s).hostLinks = s.hostLinks := rfl
@[simp] theorem setCore_boot (k : Nat) (d : Core) (s : State) : (setCore k d s).boot = s.boot := rfl
@[simp] theorem setCore_fault (k : Nat) (d : Core) (s : State) : (setCore k d s).fault = s.fault := rfl
@[simp] theorem setCore_zcp (k : Nat) (d : Core) (s : State) : (setCore k d s).zcp = s.zcp := rfl
@[simp] theorem setCore_time (k : Nat) (d : Core) (s : State) : (setCore k d s).time = s.time := rfl
@[simp] theorem setCore_ingressLinks (k : Nat) (d : Core) (s : State) : (setCore k d s).ingressLinks = s.ingressLinks := rfl
@[simp] theorem setCore_plan (k : Nat) (d : Core) (s : State) : (setCore k d s).plan = s.plan := rfl
@[simp] theorem setCore_data (k : Nat) (d : Core) (s : State) : (setCore k d s).data = s.data := rfl
@[simp] theorem setCore_zoom (k : Nat) (d : Core) (s : State) : (setCore k d s).zoom = s.zoom := rfl
@[simp] theorem setCore_weir (k : Nat) (d : Core) (s : State) : (setCore k d s).weir = s.weir := rfl
@[simp] theorem setCore_egress (k : Nat) (d : Core) (s : State) : (setCore k d s).egress = s.egress := rfl
@[simp] theorem setCore_mem (k : Nat) (d : Core) (s : State) : (setCore k d s).mem = s.mem := rfl
@[simp] theorem setCore_canal (k : Nat) (d : Core) (s : State) : (setCore k d s).canal = s.canal := rfl
@[simp] theorem core_setCore_same (k : Nat) (d : Core) (s : State) (h : k < 64) : core k (setCore k d s) = d := by
  simp [core, setCore, h]
theorem core_setCore_of_ne {k j : Nat} (d : Core) (s : State) (h : j ≠ k) : core j (setCore k d s) = core j s := by
  simp [core, setCore, RegFile.getD_set_of_ne _ _ _ h]

/-! ### `setMaster` -/

@[simp] theorem setMaster_pending (k : Nat) (d : CanalMaster) (s : State) : (setMaster k d s).pending = s.pending := rfl
@[simp] theorem setMaster_sent (k : Nat) (d : CanalMaster) (s : State) : (setMaster k d s).sent = s.sent := rfl
@[simp] theorem setMaster_free (k : Nat) (d : CanalMaster) (s : State) : (setMaster k d s).free = s.free := rfl
@[simp] theorem setMaster_force (k : Nat) (d : CanalMaster) (s : State) : (setMaster k d s).force = s.force := rfl
@[simp] theorem setMaster_pend (k : Nat) (d : CanalMaster) (s : State) : (setMaster k d s).pend = s.pend := rfl
@[simp] theorem setMaster_boundary (k : Nat) (d : CanalMaster) (s : State) : (setMaster k d s).boundary = s.boundary := rfl
@[simp] theorem setMaster_ctr (k : Nat) (d : CanalMaster) (s : State) : (setMaster k d s).ctr = s.ctr := rfl
@[simp] theorem setMaster_satDue (k : Nat) (d : CanalMaster) (s : State) : (setMaster k d s).satDue = s.satDue := rfl
@[simp] theorem setMaster_evCounts (k : Nat) (d : CanalMaster) (s : State) : (setMaster k d s).evCounts = s.evCounts := rfl
@[simp] theorem setMaster_power (k : Nat) (d : CanalMaster) (s : State) : (setMaster k d s).power = s.power := rfl
@[simp] theorem setMaster_hostLinks (k : Nat) (d : CanalMaster) (s : State) : (setMaster k d s).hostLinks = s.hostLinks := rfl
@[simp] theorem setMaster_boot (k : Nat) (d : CanalMaster) (s : State) : (setMaster k d s).boot = s.boot := rfl
@[simp] theorem setMaster_fault (k : Nat) (d : CanalMaster) (s : State) : (setMaster k d s).fault = s.fault := rfl
@[simp] theorem setMaster_zcp (k : Nat) (d : CanalMaster) (s : State) : (setMaster k d s).zcp = s.zcp := rfl
@[simp] theorem setMaster_time (k : Nat) (d : CanalMaster) (s : State) : (setMaster k d s).time = s.time := rfl
@[simp] theorem setMaster_ingressLinks (k : Nat) (d : CanalMaster) (s : State) : (setMaster k d s).ingressLinks = s.ingressLinks := rfl
@[simp] theorem setMaster_plan (k : Nat) (d : CanalMaster) (s : State) : (setMaster k d s).plan = s.plan := rfl
@[simp] theorem setMaster_data (k : Nat) (d : CanalMaster) (s : State) : (setMaster k d s).data = s.data := rfl
@[simp] theorem setMaster_zoom (k : Nat) (d : CanalMaster) (s : State) : (setMaster k d s).zoom = s.zoom := rfl
@[simp] theorem setMaster_weir (k : Nat) (d : CanalMaster) (s : State) : (setMaster k d s).weir = s.weir := rfl
@[simp] theorem setMaster_egress (k : Nat) (d : CanalMaster) (s : State) : (setMaster k d s).egress = s.egress := rfl
@[simp] theorem setMaster_mem (k : Nat) (d : CanalMaster) (s : State) : (setMaster k d s).mem = s.mem := rfl
@[simp] theorem setMaster_sluice (k : Nat) (d : CanalMaster) (s : State) : (setMaster k d s).sluice = s.sluice := rfl
@[simp] theorem master_setMaster_same (k : Nat) (d : CanalMaster) (s : State) (h : k < 15) : master k (setMaster k d s) = d := by
  simp [master, setMaster, h]
theorem master_setMaster_of_ne {k j : Nat} (d : CanalMaster) (s : State) (h : j ≠ k) : master j (setMaster k d s) = master j s := by
  simp [master, setMaster, RegFile.getD_set_of_ne _ _ _ h]

/-! ### `setBank` -/

@[simp] theorem setBank_pending (k : Nat) (d : Bank) (s : State) : (setBank k d s).pending = s.pending := rfl
@[simp] theorem setBank_sent (k : Nat) (d : Bank) (s : State) : (setBank k d s).sent = s.sent := rfl
@[simp] theorem setBank_free (k : Nat) (d : Bank) (s : State) : (setBank k d s).free = s.free := rfl
@[simp] theorem setBank_force (k : Nat) (d : Bank) (s : State) : (setBank k d s).force = s.force := rfl
@[simp] theorem setBank_pend (k : Nat) (d : Bank) (s : State) : (setBank k d s).pend = s.pend := rfl
@[simp] theorem setBank_boundary (k : Nat) (d : Bank) (s : State) : (setBank k d s).boundary = s.boundary := rfl
@[simp] theorem setBank_ctr (k : Nat) (d : Bank) (s : State) : (setBank k d s).ctr = s.ctr := rfl
@[simp] theorem setBank_satDue (k : Nat) (d : Bank) (s : State) : (setBank k d s).satDue = s.satDue := rfl
@[simp] theorem setBank_evCounts (k : Nat) (d : Bank) (s : State) : (setBank k d s).evCounts = s.evCounts := rfl
@[simp] theorem setBank_power (k : Nat) (d : Bank) (s : State) : (setBank k d s).power = s.power := rfl
@[simp] theorem setBank_hostLinks (k : Nat) (d : Bank) (s : State) : (setBank k d s).hostLinks = s.hostLinks := rfl
@[simp] theorem setBank_boot (k : Nat) (d : Bank) (s : State) : (setBank k d s).boot = s.boot := rfl
@[simp] theorem setBank_fault (k : Nat) (d : Bank) (s : State) : (setBank k d s).fault = s.fault := rfl
@[simp] theorem setBank_zcp (k : Nat) (d : Bank) (s : State) : (setBank k d s).zcp = s.zcp := rfl
@[simp] theorem setBank_time (k : Nat) (d : Bank) (s : State) : (setBank k d s).time = s.time := rfl
@[simp] theorem setBank_ingressLinks (k : Nat) (d : Bank) (s : State) : (setBank k d s).ingressLinks = s.ingressLinks := rfl
@[simp] theorem setBank_plan (k : Nat) (d : Bank) (s : State) : (setBank k d s).plan = s.plan := rfl
@[simp] theorem setBank_data (k : Nat) (d : Bank) (s : State) : (setBank k d s).data = s.data := rfl
@[simp] theorem setBank_zoom (k : Nat) (d : Bank) (s : State) : (setBank k d s).zoom = s.zoom := rfl
@[simp] theorem setBank_egress (k : Nat) (d : Bank) (s : State) : (setBank k d s).egress = s.egress := rfl
@[simp] theorem setBank_mem (k : Nat) (d : Bank) (s : State) : (setBank k d s).mem = s.mem := rfl
@[simp] theorem setBank_sluice (k : Nat) (d : Bank) (s : State) : (setBank k d s).sluice = s.sluice := rfl
@[simp] theorem setBank_canal (k : Nat) (d : Bank) (s : State) : (setBank k d s).canal = s.canal := rfl
@[simp] theorem bank_setBank_same (k : Nat) (d : Bank) (s : State) (h : k < 2) : bank k (setBank k d s) = d := by
  simp [bank, setBank, h]
theorem bank_setBank_of_ne {k j : Nat} (d : Bank) (s : State) (h : j ≠ k) : bank j (setBank k d s) = bank j s := by
  simp [bank, setBank, RegFile.getD_set_of_ne _ _ _ h]

/-! ### `setWin` -/

@[simp] theorem setWin_pending (k : Nat) (d : ZWin) (s : State) : (setWin k d s).pending = s.pending := rfl
@[simp] theorem setWin_sent (k : Nat) (d : ZWin) (s : State) : (setWin k d s).sent = s.sent := rfl
@[simp] theorem setWin_free (k : Nat) (d : ZWin) (s : State) : (setWin k d s).free = s.free := rfl
@[simp] theorem setWin_force (k : Nat) (d : ZWin) (s : State) : (setWin k d s).force = s.force := rfl
@[simp] theorem setWin_pend (k : Nat) (d : ZWin) (s : State) : (setWin k d s).pend = s.pend := rfl
@[simp] theorem setWin_boundary (k : Nat) (d : ZWin) (s : State) : (setWin k d s).boundary = s.boundary := rfl
@[simp] theorem setWin_ctr (k : Nat) (d : ZWin) (s : State) : (setWin k d s).ctr = s.ctr := rfl
@[simp] theorem setWin_satDue (k : Nat) (d : ZWin) (s : State) : (setWin k d s).satDue = s.satDue := rfl
@[simp] theorem setWin_evCounts (k : Nat) (d : ZWin) (s : State) : (setWin k d s).evCounts = s.evCounts := rfl
@[simp] theorem setWin_power (k : Nat) (d : ZWin) (s : State) : (setWin k d s).power = s.power := rfl
@[simp] theorem setWin_hostLinks (k : Nat) (d : ZWin) (s : State) : (setWin k d s).hostLinks = s.hostLinks := rfl
@[simp] theorem setWin_boot (k : Nat) (d : ZWin) (s : State) : (setWin k d s).boot = s.boot := rfl
@[simp] theorem setWin_fault (k : Nat) (d : ZWin) (s : State) : (setWin k d s).fault = s.fault := rfl
@[simp] theorem setWin_zcp (k : Nat) (d : ZWin) (s : State) : (setWin k d s).zcp = s.zcp := rfl
@[simp] theorem setWin_time (k : Nat) (d : ZWin) (s : State) : (setWin k d s).time = s.time := rfl
@[simp] theorem setWin_ingressLinks (k : Nat) (d : ZWin) (s : State) : (setWin k d s).ingressLinks = s.ingressLinks := rfl
@[simp] theorem setWin_plan (k : Nat) (d : ZWin) (s : State) : (setWin k d s).plan = s.plan := rfl
@[simp] theorem setWin_data (k : Nat) (d : ZWin) (s : State) : (setWin k d s).data = s.data := rfl
@[simp] theorem setWin_weir (k : Nat) (d : ZWin) (s : State) : (setWin k d s).weir = s.weir := rfl
@[simp] theorem setWin_egress (k : Nat) (d : ZWin) (s : State) : (setWin k d s).egress = s.egress := rfl
@[simp] theorem setWin_mem (k : Nat) (d : ZWin) (s : State) : (setWin k d s).mem = s.mem := rfl
@[simp] theorem setWin_sluice (k : Nat) (d : ZWin) (s : State) : (setWin k d s).sluice = s.sluice := rfl
@[simp] theorem setWin_canal (k : Nat) (d : ZWin) (s : State) : (setWin k d s).canal = s.canal := rfl
@[simp] theorem win_setWin_same (k : Nat) (d : ZWin) (s : State) (h : k < 32) : win k (setWin k d s) = d := by
  simp [win, setWin, h]
theorem win_setWin_of_ne {k j : Nat} (d : ZWin) (s : State) (h : j ≠ k) : win j (setWin k d s) = win j s := by
  simp [win, setWin, RegFile.getD_set_of_ne _ _ _ h]

/-! ### `advance` -/

@[simp] theorem advance_pending (t : Nat) (s : State) : (advance t s).pending = s.pending := by
  unfold advance
  split <;> rfl
@[simp] theorem advance_sent (t : Nat) (s : State) : (advance t s).sent = s.sent := by
  unfold advance
  split <;> rfl
@[simp] theorem advance_free (t : Nat) (s : State) : (advance t s).free = s.free := by
  unfold advance
  split <;> rfl
@[simp] theorem advance_force (t : Nat) (s : State) : (advance t s).force = s.force := by
  unfold advance
  split <;> rfl
@[simp] theorem advance_pend (t : Nat) (s : State) : (advance t s).pend = s.pend := by
  unfold advance
  split <;> rfl
@[simp] theorem advance_boundary (t : Nat) (s : State) : (advance t s).boundary = s.boundary := by
  unfold advance
  split <;> rfl
@[simp] theorem advance_ctr (t : Nat) (s : State) : (advance t s).ctr = s.ctr := by
  unfold advance
  split <;> rfl
@[simp] theorem advance_satDue (t : Nat) (s : State) : (advance t s).satDue = s.satDue := by
  unfold advance
  split <;> rfl
@[simp] theorem advance_evCounts (t : Nat) (s : State) : (advance t s).evCounts = s.evCounts := by
  unfold advance
  split <;> rfl
@[simp] theorem advance_power (t : Nat) (s : State) : (advance t s).power = s.power := by
  unfold advance
  split <;> rfl
@[simp] theorem advance_hostLinks (t : Nat) (s : State) : (advance t s).hostLinks = s.hostLinks := by
  unfold advance
  split <;> rfl
@[simp] theorem advance_boot (t : Nat) (s : State) : (advance t s).boot = s.boot := by
  unfold advance
  split <;> rfl
@[simp] theorem advance_fault (t : Nat) (s : State) : (advance t s).fault = s.fault := by
  unfold advance
  split <;> rfl
@[simp] theorem advance_zcp (t : Nat) (s : State) : (advance t s).zcp = s.zcp := by
  unfold advance
  split <;> rfl
@[simp] theorem advance_ingressLinks (t : Nat) (s : State) : (advance t s).ingressLinks = s.ingressLinks := by
  unfold advance
  split <;> rfl
@[simp] theorem advance_plan (t : Nat) (s : State) : (advance t s).plan = s.plan := by
  unfold advance
  split <;> rfl
@[simp] theorem advance_data (t : Nat) (s : State) : (advance t s).data = s.data := by
  unfold advance
  split <;> rfl
@[simp] theorem advance_zoom (t : Nat) (s : State) : (advance t s).zoom = s.zoom := by
  unfold advance
  split <;> rfl
@[simp] theorem advance_weir (t : Nat) (s : State) : (advance t s).weir = s.weir := by
  unfold advance
  split <;> rfl
@[simp] theorem advance_egress (t : Nat) (s : State) : (advance t s).egress = s.egress := by
  unfold advance
  split <;> rfl
@[simp] theorem advance_mem (t : Nat) (s : State) : (advance t s).mem = s.mem := by
  unfold advance
  split <;> rfl
@[simp] theorem advance_sluice (t : Nat) (s : State) : (advance t s).sluice = s.sluice := by
  unfold advance
  split <;> rfl
@[simp] theorem advance_canal (t : Nat) (s : State) : (advance t s).canal = s.canal := by
  unfold advance
  split <;> rfl
@[simp] theorem advance_time_tx (t : Nat) (s : State) : (advance t s).time.tx = s.time.tx := by
  unfold advance
  split <;> rfl
@[simp] theorem advance_time_rx (t : Nat) (s : State) : (advance t s).time.rx = s.time.rx := by
  unfold advance
  split <;> rfl
@[simp] theorem advance_time_txts (t : Nat) (s : State) : (advance t s).time.txts = s.time.txts := by
  unfold advance
  split <;> rfl
@[simp] theorem advance_time_tcHeld (t : Nat) (s : State) : (advance t s).time.tcHeld = s.time.tcHeld := by
  unfold advance
  split <;> rfl
@[simp] theorem advance_time_outs (t : Nat) (s : State) : (advance t s).time.outs = s.time.outs := by
  unfold advance
  split <;> rfl
@[simp] theorem advance_time_tins (t : Nat) (s : State) : (advance t s).time.tins = s.time.tins := by
  unfold advance
  split <;> rfl
@[simp] theorem advance_time_refs (t : Nat) (s : State) : (advance t s).time.refs = s.time.refs := by
  unfold advance
  split <;> rfl
@[simp] theorem advance_time_dpll (t : Nat) (s : State) : (advance t s).time.dpll = s.time.dpll := by
  unfold advance
  split <;> rfl
@[simp] theorem advance_time_prior (t : Nat) (s : State) : (advance t s).time.prior = s.time.prior := by
  unfold advance
  split <;> rfl
@[simp] theorem advance_time_origin (t : Nat) (s : State) : (advance t s).time.origin = s.time.origin := by
  unfold advance
  split <;> rfl
@[simp] theorem advance_time_selected (t : Nat) (s : State) : (advance t s).time.selected = s.time.selected := by
  unfold advance
  split <;> rfl
@[simp] theorem advance_time_candidate (t : Nat) (s : State) : (advance t s).time.candidate = s.time.candidate := by
  unfold advance
  split <;> rfl
@[simp] theorem advance_time_lastCommit (t : Nat) (s : State) : (advance t s).time.lastCommit = s.time.lastCommit := by
  unfold advance
  split <;> rfl
@[simp] theorem advance_time_noHold (t : Nat) (s : State) : (advance t s).time.noHold = s.time.noHold := by
  unfold advance
  split <;> rfl
@[simp] theorem advance_time_wanted (t : Nat) (s : State) : (advance t s).time.wanted = s.time.wanted := by
  unfold advance
  split <;> rfl
@[simp] theorem advance_time_debt (t : Nat) (s : State) : (advance t s).time.debt = s.time.debt := by
  unfold advance
  split <;> rfl
@[simp] theorem advance_time_slew (t : Nat) (s : State) : (advance t s).time.slew = s.time.slew := by
  unfold advance
  split <;> rfl
@[simp] theorem advance_time_realign (t : Nat) (s : State) : (advance t s).time.realign = s.time.realign := by
  unfold advance
  split <;> rfl
@[simp] theorem advance_time_estimateShort (t : Nat) (s : State) : (advance t s).time.estimateShort = s.time.estimateShort := by
  unfold advance
  split <;> rfl
@[simp] theorem advance_time_lastQl (t : Nat) (s : State) : (advance t s).time.lastQl = s.time.lastQl := by
  unfold advance
  split <;> rfl
@[simp] theorem advance_time_holdoverAt (t : Nat) (s : State) : (advance t s).time.holdoverAt = s.time.holdoverAt := by
  unfold advance
  split <;> rfl
@[simp] theorem advance_time_lockedSince (t : Nat) (s : State) : (advance t s).time.lockedSince = s.time.lockedSince := by
  unfold advance
  split <;> rfl
@[simp] theorem advance_time_acquireAt (t : Nat) (s : State) : (advance t s).time.acquireAt = s.time.acquireAt := by
  unfold advance
  split <;> rfl
@[simp] theorem advance_time_estimate (t : Nat) (s : State) : (advance t s).time.estimate = s.time.estimate := by
  unfold advance
  split <;> rfl
@[simp] theorem advance_time_drift (t : Nat) (s : State) : (advance t s).time.drift = s.time.drift := by
  unfold advance
  split <;> rfl
@[simp] theorem advance_time_disagreeAt (t : Nat) (s : State) : (advance t s).time.disagreeAt = s.time.disagreeAt := by
  unfold advance
  split <;> rfl
@[simp] theorem advance_time_lagMin (t : Nat) (s : State) : (advance t s).time.lagMin = s.time.lagMin := by
  unfold advance
  split <;> rfl
@[simp] theorem advance_time_lagMax (t : Nat) (s : State) : (advance t s).time.lagMax = s.time.lagMax := by
  unfold advance
  split <;> rfl
@[simp] theorem advance_now (t : Nat) (s : State) : (advance t s).time.now = max t s.time.now := by
  unfold advance
  split <;> rfl

end Sys2Proof.Machine
end

