-- ==== Sys2Proof/Laws/Zcp.lean ====
section
/-! SUPPORT. What the arrival of an accepted command and its reply do (R472, R484 to R487). -/

namespace Sys2Proof.Machine

/-! ### `restZ` -/

theorem restZ_of_rest {x y : State} (h : rest x = rest y) : restZ x = restZ y := by
  have key : ∀ z : State, restZ z =
      { rest z with zcp := { (rest z).zcp with slots := .replicate 4 (resetSession none) } } := fun _ => rfl
  rw [key, key, h]

theorem ReportEq.restZ {x y : State} (h : ReportEq x y) : Machine.restZ x = Machine.restZ y :=
  restZ_of_rest h.rest

@[simp] theorem restZ_setSession (k : Nat) (f : Session → Session) (s : State) :
    restZ (setSession k f s) = restZ s := rfl

@[simp] theorem restZ_count (c : Ctr) (i n : Nat) (s : State) : restZ (count c i n s) = restZ s := rfl

@[simp] theorem restZ_zcpSend (k : Nat) (b : List Byte) (s : State) : restZ (zcpSend k b s) = restZ s :=
  (zcpSend_eq k b s).restZ

@[simp] theorem restZ_settle (s : State) : restZ (settle s) = restZ s := (settle_eq s).restZ

@[simp] theorem restZ_sendReply (k seq typ code : Nat) (b : List Byte) (s : State) :
    restZ (sendReply k seq typ code b s) = restZ s := by
  unfold sendReply
  simp

theorem restZ_sendWindow (k : Nat) (s : State) : restZ (sendWindow k s) = restZ s := by
  have key : ∀ (l : List Unsol) (x : State), restZ (l.foldl (fun x u =>
      let x1 := setSession k (fun y => { y with unsol := y.unsol.map fun v =>
        if v.seq = u.seq then { v with sentAt := some x.time.now } else v }) x
      zcpSend k (zcpBytes k u.typ u.seq 2 u.body x1) x1) x) = restZ x := by
    intro l
    induction l with
    | nil => exact fun _ => rfl
    | cons u r ih => exact fun x => (ih _).trans (by simp)
  exact key _ s

theorem restZ_takeAck (k ack : Nat) (s : State) : restZ (takeAck k ack s) = restZ s := by
  unfold takeAck
  simp only
  split
  · rfl
  · split
    · rfl
    · rw [restZ_sendWindow, restZ_setSession]

/-! ### Sessions -/

theorem session_setSession (k j : Nat) (f : Session → Session) (s : State) :
    session j (setSession k f s) = if j = k ∧ k < 4 then f (session k s) else session j s := by
  simp only [session, setSession, RegFile.getD_set]

@[simp] theorem session_setSession_same (k : Nat) (f : Session → Session) (s : State) (h : k < 4) :
    session k (setSession k f s) = f (session k s) := by simp [session_setSession, h]

@[simp] theorem session_count (c : Ctr) (i n k : Nat) (s : State) : session k (count c i n s) = session k s := rfl

theorem session_zcpSendOn (k p j : Nat) (b : List Byte) (s : State) :
    session j (zcpSendOn k p b s) = session j s := by
  unfold zcpSendOn
  split
  · rfl
  · split <;> rfl

@[simp] theorem session_zcpSend (k j : Nat) (b : List Byte) (s : State) :
    session j (zcpSend k b s) = session j s := by
  unfold zcpSend
  split <;> simp [session_zcpSendOn]

/-- A session but for its queue of unsolicited messages and its acknowledged point. -/
def Session.noAck (x : Session) : Session := { x with unsol := [], ackPoint := 0 }

theorem noAck_sendWindow (k : Nat) (s : State) :
    (session k (sendWindow k s)).noAck = (session k s).noAck := by
  have key : ∀ (l : List Unsol) (x : State), (session k (l.foldl (fun x u =>
      let x1 := setSession k (fun y => { y with unsol := y.unsol.map fun v =>
        if v.seq = u.seq then { v with sentAt := some x.time.now } else v }) x
      zcpSend k (zcpBytes k u.typ u.seq 2 u.body x1) x1) x)).noAck = (session k x).noAck := by
    intro l
    induction l with
    | nil => exact fun _ => rfl
    | cons u r ih =>
      refine fun x => (ih _).trans ?_
      simp only [session_zcpSend, session_setSession]
      split <;> rfl
  exact key _ s

theorem noAck_takeAck (k ack : Nat) (s : State) : (session k (takeAck k ack s)).noAck = (session k s).noAck := by
  unfold takeAck
  simp only
  split
  · rfl
  · split
    · rfl
    · rw [noAck_sendWindow, session_setSession]
      split <;> rfl

/-! ### Other unsolicited messages leave completion records alone -/

theorem comps_unsolicited (k typ j : Nat) (b : List Byte) (s : State) :
    (session j (unsolicited k typ b s)).comps = (session j s).comps := by
  have h1 : ∀ p : Prop, [Decidable p] → ∀ f : Session → Session, (∀ y, (f y).comps = y.comps) →
      (session j (setSession k f (if p then count .zcpUnsolAged k 1 s else s))).comps = (session j s).comps := by
    intro p _ f hf
    rw [session_setSession]
    split <;> split <;> simp_all
  unfold unsolicited
  simp only
  split
  · rw [session_zcpSend]
    exact h1 _ _ (fun _ => rfl)
  · exact h1 _ _ (fun _ => rfl)

theorem session_bbWrite (kind cls code k : Nat) (d : List Byte) (s : State) :
    session k (bbWrite kind cls code d s) = session k s := by
  unfold bbWrite
  split <;> rfl

theorem comps_raiseIn (dest : List Nat) (e : Ev) (j : Nat) (b : List Byte) (s : State) :
    (session j (raiseIn dest e b s)).comps = (session j s).comps := by
  have hf : ∀ (l : List Nat) (x : State),
      (session j (l.foldl (fun x k => unsolicited k 0x0F01 (eventPayload e.code b x) x) x)).comps =
        (session j x).comps := by
    intro l
    induction l with
    | nil => exact fun _ => rfl
    | cons k r ih => exact fun x => (ih _).trans (comps_unsolicited _ _ _ _ x)
  unfold raiseIn
  simp only
  split
  · exact hf _ _
  · rw [session_bbWrite]
    exact hf _ _

@[simp] theorem comps_raise (e : Ev) (l : List Nat) (j : Nat) (s : State) :
    (session j (raise e l s)).comps = (session j s).comps := comps_raiseIn _ e j _ s

theorem comps_flushSat (n j : Nat) (s : State) : (session j (flushSat n s)).comps = (session j s).comps := by
  induction n generalizing s with
  | zero => rfl
  | succ n ih =>
    unfold flushSat
    split
    · rfl
    · rw [ih, comps_raise]
      rfl

@[simp] theorem comps_settle (j : Nat) (s : State) : (session j (settle s)).comps = (session j s).comps :=
  comps_flushSat _ j s

theorem lastReply_settle (d : Dgram) (s : State) : lastReply d (settle s) = lastReply d s := by
  simp [lastReply]

theorem lastReply_sendReply (d : Dgram) (typ code : Nat) (b : List Byte) (s : State) (h : d.session < 4) :
    lastReply d (sendReply d.session d.seq typ code b s) = some ⟨d.seq, typ, code⟩ := by
  simp [lastReply, sendReply, h]

/-! ### An accepted command -/

theorem early_session {d : Dgram} {s : State} (h : earlyChecks d s = none) : d.session < 4 := by
  unfold earlyChecks at h
  split at h
  · cases h
  · split at h
    · cases h
    · split at h
      · cases h
      · rename_i h3
        omega

/-- What follows a command's execution: its reply and what it leaves to be done after it. -/
def finish (d : Dgram) (r : Res) : State :=
  match r.reply with
  | some (code, b) =>
    if d.typ = 0x0A03 then r.after (recordOnly d.session d.seq d.typ code r.state)
    else r.after (sendReply d.session d.seq d.typ code b r.state)
  | none => r.after r.state

/-- A session without what the arrival of a message changes. -/
def Session.core (x : Session) : Session :=
  { x with unsol := [], ackPoint := 0, recv := 0, ahead := [], ends := .replicate 2 none, lastAt := 0 }

theorem core_of_noAck {x y : Session} (h : x.noAck = y.noAck) : x.core = y.core := by
  have key : ∀ z : Session, z.core =
      { z.noAck with recv := 0, ahead := [], ends := .replicate 2 none, lastAt := 0 } := fun _ => rfl
  rw [key, key, h]

theorem session_takeAck_of_ne {k j : Nat} (h : j ≠ k) (ack : Nat) (s : State) :
    session j (takeAck k ack s) = session j s := by
  have key : ∀ (l : List Unsol) (x : State), session j (l.foldl (fun x u =>
      let x1 := setSession k (fun y => { y with unsol := y.unsol.map fun v =>
        if v.seq = u.seq then { v with sentAt := some x.time.now } else v }) x
      zcpSend k (zcpBytes k u.typ u.seq 2 u.body x1) x1) x) = session j x := by
    intro l
    induction l with
    | nil => exact fun _ => rfl
    | cons u r ih => exact fun x => (ih _).trans (by simp [session_setSession, h])
  unfold takeAck
  simp only
  split
  · rfl
  · split
    · rfl
    · exact (key _ _).trans (by simp [session_setSession, h])

theorem restZ_greet (d : Dgram) (s : State) : restZ (greet d s) = restZ s := by
  unfold greet
  split
  · rw [restZ_takeAck]
    rfl
  · rfl

theorem noAck_greet (d : Dgram) (s : State) :
    (session d.session (greet d s)).noAck = (session d.session (bindEnd d s)).noAck := by
  unfold greet
  split
  · exact noAck_takeAck _ _ _
  · rfl

theorem core_greet (d : Dgram) (k : Nat) (s : State) : (session k (greet d s)).core = (session k s).core := by
  have hb : (session k (bindEnd d s)).core = (session k s).core := by
    unfold bindEnd
    rw [session_setSession]
    split
    · rename_i h
      rw [h.1]
      rfl
    · rfl
  rw [← hb]
  unfold greet
  split
  · by_cases h : k = d.session
    · rw [h]
      exact core_of_noAck (noAck_takeAck _ _ _)
    · rw [session_takeAck_of_ne h]
  · rfl

theorem window_greet {d : Dgram} (h : d.session < 4) (s : State) :
    window (session d.session (greet d s)) d.seq = window (session d.session s) d.seq := by
  have hs := noAck_greet d s
  have h1 := congrArg Session.recv hs
  have h2 := congrArg Session.ahead hs
  simp only [Session.noAck, bindEnd, session_setSession_same _ _ _ h] at h1 h2
  unfold window
  rw [h1, h2]

/-- A message that the sequence window judges meets the window with its source bound and its acknowledgement
taken. -/
theorem arrive_sequenced (isTyp : Nat → Bool) (body : Ctx → State → Res) (open_ : Dgram → State → State)
    {d : Dgram} {x : State} (h : Sequenced d x) :
    arrive isTyp body open_ d x =
      match window (session d.session x) d.seq with
      | .beyond => count .zcpSeqWindow d.session 1 (greet d x)
      | .dup =>
        let s3 := count .zcpDupDiscard d.session 1 (greet d x)
        if !d.retry ∨ d.typ = 0x0A03 then s3
        else if d.seq ∈ (session d.session s3).inDoubt then
          let s4 := setSession d.session (fun y => { y with inDoubt := y.inDoubt.erase d.seq }) s3
          if repeatable d.typ then runCommand isTyp body d s4
          else sendReply d.session d.seq d.typ rInDoubt [] s4
        else replay d.session d.seq d.typ s3
      | .accept =>
        if d.full then count .zcpMboxFull d.mailbox 1 (greet d x)
        else
          runCommand isTyp body d
            (setSession d.session (markReceived d.seq) (count (zcpRx d.port) d.session 1 (greet d x))) := by
  obtain ⟨⟨up, ready, checks, tag, flags⟩, notOpen, notAck, bulk⟩ := h
  have hk := early_session checks
  have hbulk : closedBulk d (greet d x) = false := by
    have : (greet d x).zcp.bulks = x.zcp.bulks := congrArg (·.zcp.bulks) (restZ_greet d x)
    unfold closedBulk at bulk ⊢
    rw [this]
    exact bulk
  unfold arrive
  rw [if_neg (by simp [up]), if_neg (by simp [ready])]
  simp only [checks]
  rw [if_neg (by simp [tag]), if_neg (by simp [flags]), if_neg (by simp [notOpen])]
  have e : (if bitAt d.flags 2 then takeAck d.session d.ack (bindEnd d x) else bindEnd d x) = greet d x := rfl
  simp only [e]
  rw [if_neg (by simp only [hbulk, Bool.false_eq_true, or_false]; exact notAck), window_greet hk]
  all_goals (cases window (session d.session x) d.seq <;> rfl)

theorem restZ_taken (d : Dgram) (s : State) : restZ (taken d s) = restZ s := by
  unfold taken
  rw [restZ_setSession, restZ_count, restZ_greet]

theorem core_taken (d : Dgram) (k : Nat) (s : State) : (session k (taken d s)).core = (session k s).core := by
  unfold taken
  rw [session_setSession]
  split
  · rename_i h
    rw [h.1, session_count, ← core_greet d d.session s]
    unfold markReceived
    rfl
  · rw [session_count, core_greet]

theorem permitted_taken (k typ mailbox : Nat) (d : Dgram) (s : State) :
    permitted k typ mailbox (taken d s) = permitted k typ mailbox s := by
  have : (taken d s).force = s.force := congrArg (·.force) (restZ_taken d s)
  unfold permitted par
  rw [this]

theorem arrive_new (isTyp : Nat → Bool) (body : Ctx → State → Res) (open_ : Dgram → State → State)
    {d : Dgram} {x : State} (h : Sequenced d x) (new : window (session d.session x) d.seq = .accept)
    (room : d.full = false) : arrive isTyp body open_ d x = runCommand isTyp body d (taken d x) := by
  rw [arrive_sequenced isTyp body open_ h, new]
  simp only [room, Bool.false_eq_true, if_false]
  rfl

/-- An accepted command is executed in a state that differs from the one it finds in its session and in
counters only. -/
theorem arrive_accepted (isTyp : Nat → Bool) (body : Ctx → State → Res) (open_ : Dgram → State → State)
    {typ : Nat} {d : Dgram} {x : State} (h : Accepted typ d x) (hi : isTyp d.typ = true) :
    arrive isTyp body open_ d x = finish d (body d.ctx (taken d x)) := by
  rw [arrive_new isTyp body open_ h.toSequenced h.new h.room]
  unfold runCommand finish Dgram.ctx
  simp only [permitted_taken, h.right, hi, h.mailbox]
  simp
  all_goals rfl

theorem zcp_accepted {typ t : Nat} {d : Dgram} {s : State} (body : Ctx → State → Res)
    (h : Accepted typ d (advance t s)) :
    zcp typ body t d s = .next (settle (finish d (body d.ctx (taken d (advance t s))))) := by
  unfold zcp act
  rw [arrive_accepted _ body _ h (by simp [h.typ])]

/-! ### An answered command -/

theorem restZ_recordOnly (k seq typ code : Nat) (s : State) : restZ (recordOnly k seq typ code s) = restZ s := rfl

theorem finish_answer {d : Dgram} (code : Nat) (b : List Byte) (x : State) (h : d.typ ≠ 0x0A03) :
    finish d (answer code b x) = sendReply d.session d.seq d.typ code b x := by
  simp [finish, answer, h]

/-- A command is answered: its action gives a RESULT whatever its session and the counters hold. -/
theorem answers_of {i : Instr} {typ t code : Nat} {d : Dgram} {s y : State} {body : Ctx → State → Res}
    (hx : exec i s = zcp typ body t d s) (h : Accepted typ d (advance t s)) (hb : typ ≠ 0x0A03)
    (hr : ∀ s', restZ s' = restZ (advance t s) →
      ∃ b s'', body d.ctx s' = answer code b s'' ∧ restZ s'' = restZ y) : Answers i d code s y := by
  obtain ⟨b, s'', h1, h2⟩ := hr _ (restZ_taken d (advance t s))
  refine ⟨_, hx.trans (zcp_accepted body h), ?_, ?_⟩
  · rw [h1, finish_answer _ _ _ (h.typ ▸ hb), lastReply_settle]
    exact lastReply_sendReply _ _ _ _ _ (early_session h.checks)
  · rw [h1, finish_answer _ _ _ (h.typ ▸ hb), restZ_settle, restZ_sendReply, h2]

theorem answers_refuse {i : Instr} {typ t code : Nat} {d : Dgram} {s : State} {body : Ctx → State → Res}
    (hx : exec i s = zcp typ body t d s) (h : Accepted typ d (advance t s)) (hb : typ ≠ 0x0A03)
    (hr : ∀ s', restZ s' = restZ (advance t s) → body d.ctx s' = refuse code s') :
    Answers i d code s (advance t s) :=
  answers_of hx h hb fun s' hs => ⟨[], s', hr s' hs, hs⟩

end Sys2Proof.Machine
end

