-- ==== Sys2Proof/Tests/Slice0.lean ====
section
/-! SUPPORT. Tests: the checks of WellFormed, worked examples of the spec, and for the statements of
Certificates/Slice0 states and operands that meet their premises. -/

namespace Sys2Proof.Machine.Try

set_option Elab.async false

/-! ### A module that is READY -/

/-- A module that is READY: both feeds GOOD, every domain ON, both host ports up, session 0 open. -/
def s0 : State := { State.reset with
  power := { resetPower with
    powerEn := true
    resetN := true
    stageOn := true
    readyPin := true
    feeds := .replicate 2 ⟨4800, 0, .good, true⟩
    domains := .replicate 40 .on }
  boot := { resetBoot with stage := .ready }
  hostLinks := .replicate 2 ⟨true, 0, true, false⟩
  zcp := { resetZcp with
    slots := .replicate 4 { resetSession (some []) with isOpen := true }
    standbyOk := true
    standbyBeat := true } }

/-- A module without power. -/
def off : State := State.reset

/-! ### Datagrams -/

/-- The header of a message of R470 without its tag. -/
def head (slot seq typ flags len : Nat) : List Byte :=
  [0x46, 0x5A, 1, .ofNat 8 slot, .ofNat 8 (typ / 256), 0, .ofNat 8 (typ / 256), .ofNat 8 typ,
    .ofNat 8 (seq / 16777216), .ofNat 8 (seq / 65536), .ofNat 8 (seq / 256), .ofNat 8 seq, 0, 0, 0, 0,
    .ofNat 8 (len / 256), .ofNat 8 len, 0, .ofNat 8 flags, 0, 0, 0, 0, 0, 0, 0, 0, 0, 0, 0, 0]

/-- A message with the tag that the slot's empty key gives it. -/
def signed_ (slot seq typ flags : Nat) (p : List Byte) (full : Bool := false) : Dgram :=
  let h := head slot seq typ flags p.length
  { port := 0, src := ⟨false, 0x0A000002, 45471⟩, bytes := h ++ (hmac [] (h ++ p)).take 16 ++ p, full := full }

/-- A command of slot 0 with sequence 1. -/
def cmd (typ : Nat) (p : List Byte) : Dgram := signed_ 0 1 typ 0 p

/-- A payload of zeros of the length that the command takes. -/
def laidOut (typ : Nat) : List Byte := .replicate (Config.payloadLength typ) 0

theorem laidOut_length (typ : Nat) : (laidOut typ).length = Config.payloadLength typ := by simp [laidOut]

theorem laidOut_le (typ : Nat) : (laidOut typ).length ≤ 8192 := by
  rw [laidOut_length]
  unfold Config.payloadLength
  omega

theorem natLE_length : ∀ n v, (natLE n v).length = n := by
  intro n
  induction n with
  | zero => intro v; rfl
  | succ n ih => intro v; simp [natLE, ih]

theorem natBE_length (n v : Nat) : (natBE n v).length = n := by simp [natBE, natLE_length]

theorem sha256_length (bs : List Byte) : (sha256 bs).length = 32 := by
  unfold sha256 padTo
  simp only [List.length_append, List.length_take, List.length_replicate]
  omega

theorem hmac_length (key msg : List Byte) : (hmac key msg).length = 32 := sha256_length _

theorem signed_payload (slot seq typ flags : Nat) (p : List Byte) (full : Bool) :
    (signed_ slot seq typ flags p full).payload = p := by
  have h : (head slot seq typ flags p.length ++ (hmac [] (head slot seq typ flags p.length ++ p)).take 16).length = 48 := by
    rw [List.length_append, List.length_take, hmac_length]
    rfl
  show (head slot seq typ flags p.length ++ (hmac [] (head slot seq typ flags p.length ++ p)).take 16 ++ p).drop 48 = p
  rw [← h, List.drop_left]

/-- The session, the TYPE and the sequence that a message bears. -/
theorem signed_fields (slot seq typ flags : Nat) (p : List Byte) (full : Bool) (hs : slot < 4) (hq : seq < 2 ^ 32) (ht : typ < 4096)
    (hf : flags < 64) (hp : p.length ≤ 8192) :
    let d := signed_ slot seq typ flags p full
    d.session = slot ∧ d.typ = typ ∧ d.mailbox = typ / 256 ∧ d.seq = seq ∧ d.flags = flags ∧ d.length = p.length ∧
      d.magic = 0x465A ∧ d.version = 1 ∧ d.reservedZero = true ∧ d.bytes.length = 48 + p.length ∧
      d.ack = 0 := by
  intro d
  have hb : d.bytes.length = 48 + p.length := by
    show (head slot seq typ flags p.length ++ (hmac [] (head slot seq typ flags p.length ++ p)).take 16 ++ p).length = _
    rw [List.length_append, List.length_append, List.length_take, hmac_length]
    rfl
  have f1 : d.session = slot := by
    show beNat [BitVec.ofNat 8 slot] = slot
    simp [beNat]; omega
  have f2 : d.typ = typ := by
    show beNat [BitVec.ofNat 8 (typ / 256), BitVec.ofNat 8 typ] = typ
    simp [beNat]; omega
  have f3 : d.mailbox = typ / 256 := by
    show beNat [BitVec.ofNat 8 (typ / 256)] % 16 = typ / 256
    simp [beNat]; omega
  have f4 : d.seq = seq := by
    show beNat [BitVec.ofNat 8 (seq / 16777216), BitVec.ofNat 8 (seq / 65536), BitVec.ofNat 8 (seq / 256), BitVec.ofNat 8 seq] = seq
    simp [beNat]; omega
  have f5 : d.flags = flags := by
    show beNat [0, BitVec.ofNat 8 flags] = flags
    simp [beNat]; omega
  have f6 : d.length = p.length := by
    show beNat [BitVec.ofNat 8 (p.length / 256), BitVec.ofNat 8 p.length] = p.length
    simp [beNat]; omega
  have f7 : d.reservedZero = true := by
    have h1 : beAt d.bytes 4 1 < 16 := by
      show beNat [BitVec.ofNat 8 (typ / 256)] < 16
      simp [beNat]; omega
    have h2 : beAt d.bytes 5 1 = 0 := rfl
    have h3 : beAt d.bytes 20 12 = 0 := rfl
    unfold Dgram.reservedZero
    rw [h2, h3, f5]
    simp [h1, hf]
  exact ⟨f1, f2, f3, f4, f5, f6, rfl, rfl, f7, hb, rfl⟩

theorem signed_tag (slot seq typ flags : Nat) (p : List Byte) (full : Bool) (s : State)
    (hk : (if (signed_ slot seq typ flags p full).isOpen then (session (signed_ slot seq typ flags p full).session s).longKey.getD []
      else (session (signed_ slot seq typ flags p full).session s).key) = []) :
    tagGood (signed_ slot seq typ flags p full) s = true := by
  have h32 : (head slot seq typ flags p.length).length = 32 := rfl
  have ht : ((hmac [] (head slot seq typ flags p.length ++ p)).take 16).length = 16 := by
    rw [List.length_take, hmac_length]; rfl
  have e1 : (signed_ slot seq typ flags p full).bytes.take 32 = head slot seq typ flags p.length := by
    show (head slot seq typ flags p.length ++ _ ++ p).take 32 = _
    rw [List.append_assoc, ← h32, List.take_left]
  have e2 : (signed_ slot seq typ flags p full).tag = (hmac [] (head slot seq typ flags p.length ++ p)).take 16 := by
    show ((head slot seq typ flags p.length ++ (hmac [] (head slot seq typ flags p.length ++ p)).take 16 ++ p).drop 32).take 16 = _
    rw [List.append_assoc, ← h32, List.drop_left]
    rw [List.take_append_of_le_length (by omega), List.take_of_length_le (by omega)]
  unfold tagGood
  simp only [hk, e1, e2, signed_payload]
  simp

/-- What a state must show for a message of a slot to be authentic. -/
def knows (slot : Nat) (s : State) : Bool :=
  hostUp 0 s && decide (s.boot.stage = .ready) && (session slot s).longKey == some [] && (session slot s).key == [] &&
    (session slot s).isOpen

/-- A signed message passes the checks before the one of FLAGS. -/
theorem signed_passes (slot seq typ flags : Nat) (p : List Byte) (full : Bool) (s : State) (hs : slot < 4)
    (hq : seq < 2 ^ 32) (ht : typ < 4096) (hf : flags < 64) (hp : p.length ≤ 8192) (hk : knows slot s = true) :
    let d := signed_ slot seq typ flags p full
    hostUp d.port s = true ∧ s.boot.stage = .ready ∧ earlyChecks d s = none ∧ tagGood d s = true := by
  intro d
  obtain ⟨f1, f2, f3, f4, f5, f6, f7, f8, f9, f10, _⟩ := signed_fields slot seq typ flags p full hs hq ht hf hp
  simp only [knows, Bool.and_eq_true, beq_iff_eq, decide_eq_true_eq] at hk
  obtain ⟨⟨⟨⟨h1, h2⟩, h3⟩, h4⟩, h5⟩ := hk
  refine ⟨h1, h2, ?_, ?_⟩
  · unfold earlyChecks
    rw [if_neg (by rw [f10, f7]; omega), if_neg (by rw [f8]; simp), if_neg (by rw [f1, f9, f6, f10]; simp; omega)]
    have e : d.session = slot := f1
    simp only [e, h3, h5]
    rfl
  · refine signed_tag slot seq typ flags p full s ?_
    rw [f1]
    split
    · rw [h3]; rfl
    · exact h4

theorem signed_authentic (slot seq typ flags : Nat) (p : List Byte) (full : Bool) (s : State) (hs : slot < 4)
    (hq : seq < 2 ^ 32) (ht : typ < 4096) (hf : flags ∈ [0, 4, 8, 12]) (hp : p.length ≤ 8192)
    (hk : knows slot s = true) : Authentic (signed_ slot seq typ flags p full) s := by
  have hf' : flags < 64 := by
    simp only [List.mem_cons, List.not_mem_nil, or_false] at hf
    omega
  obtain ⟨h1, h2, h3, h4⟩ := signed_passes slot seq typ flags p full s hs hq ht hf' hp hk
  refine ⟨h1, h2, h3, h4, ?_⟩
  rw [(signed_fields slot seq typ flags p full hs hq ht hf' hp).2.2.2.2.1, Nat.mod_eq_of_lt hf']
  exact hf

/-- A signed message that is no OPEN, no ZCP_ACK and no ZCP_BULK_DATA comes before the window. -/
theorem signed_sequenced (slot seq typ : Nat) (p : List Byte) (full : Bool) (s : State) (hs : slot < 4)
    (hq : seq < 2 ^ 32) (ht : typ < 4096) (h2 : typ ≠ 2) (h3 : typ ≠ 0x0F00) (hp : p.length ≤ 8192)
    (hk : knows slot s = true) (hb : typ ≠ 0x0A03 ∨ closedBulk (signed_ slot seq typ 0 p full) s = false) :
    Sequenced (signed_ slot seq typ 0 p full) s := by
  obtain ⟨f1, f2, f3, f4, -⟩ := signed_fields slot seq typ 0 p full hs hq ht (by omega) hp
  refine ⟨signed_authentic slot seq typ 0 p full s hs hq ht (by simp) hp hk, ?_, ?_, ?_⟩
  · show ((signed_ slot seq typ 0 p full).typ == 2 && _) = false
    rw [f2]
    simp [h2]
  · omega
  · rcases hb with hb | hb
    · show ((signed_ slot seq typ 0 p full).typ == 0x0A03 && _ && _) = false
      rw [f2]
      simp [hb]
    · exact hb

/-- What a state must show to accept a command of slot 0 with sequence 1. -/
def takes (typ : Nat) (s : State) : Bool :=
  knows 0 s && decide (typ < 4096) && typ != 0x0002 && typ != 0x0F00 && permitted 0 typ (typ / 256) s &&
    decide (window (session 0 s) 1 = .accept)

theorem cmd_accepted (typ : Nat) (p : List Byte) (s : State) (hp : p.length ≤ 8192) (h : takes typ s = true)
    (hb : typ ≠ 0x0A03 ∨ closedBulk (cmd typ p) s = false) : Accepted typ (cmd typ p) s := by
  simp only [takes, Bool.and_eq_true, decide_eq_true_eq, bne_iff_ne] at h
  obtain ⟨⟨⟨⟨⟨hk, ht⟩, h2⟩, h3⟩, hr⟩, hw⟩ := h
  obtain ⟨f1, f2, f3, f4, -⟩ := signed_fields 0 1 typ 0 p false (by omega) (by omega) ht (by omega) hp
  have e1 : (cmd typ p).session = 0 := f1
  have e2 : (cmd typ p).typ = typ := f2
  have e3 : (cmd typ p).mailbox = typ / 256 := f3
  have e4 : (cmd typ p).seq = 1 := f4
  refine ⟨signed_sequenced 0 1 typ p false s (by omega) (by omega) ht h2 h3 hp hk hb, e2, ?_, rfl, ?_, ?_⟩
  · rw [e1, e4]
    exact hw
  · rw [e1, e2, e3]
    exact hr
  · rw [e2, e3]

/-- A command without payload layout of its own, in a state that takes it. -/
theorem cmd_laid (typ : Nat) (s : State) (h : takes typ s = true) (hb : typ ≠ 0x0A03 := by decide) :
    Accepted typ (cmd typ (laidOut typ)) s ∧ (cmd typ (laidOut typ)).payload.length = Config.payloadLength typ :=
  ⟨cmd_accepted typ _ s (laidOut_le typ) h (Or.inl hb), by rw [show (cmd typ (laidOut typ)).payload = laidOut typ from signed_payload ..]; exact laidOut_length typ⟩

/-- A command with a payload that is written out. -/
theorem cmd_with (typ : Nat) (p : List Byte) (s : State) (hp : p.length ≤ 8192) (h : takes typ s = true)
    (hb : typ ≠ 0x0A03 := by decide) : Accepted typ (cmd typ p) s ∧ (cmd typ p).payload = p :=
  ⟨cmd_accepted typ p s hp h (Or.inl hb), signed_payload ..⟩

theorem takes_ready : ∀ typ ∈ [0x0003, 0x0004, 0x0005, 0x0006, 0x0007, 0x0008, 0x0009, 0x0100, 0x0201, 0x0202, 0x0B03,
    0x0C05, 0x0A03], takes typ (advance 0 s0) = true := by decide +kernel

/-! ### Well-formed commands -/

/-- An Ethernet frame of so many zeros. -/
def zeros (n : Nat) : EthIn := ⟨true, List.replicate n 0, 0, 0, 0⟩

/-- What a boot finds. -/
def bootOf (bins : Nat) (bad up : List Nat) (hosts slot : Nat) : BootIn :=
  ⟨true, true, 0, true, true, List.replicate bins (some 0), bad, [], up, List.replicate hosts true, slot, 0, false⟩

theorem test_wf : (Instr.laneRowTest 0 0 [131]).wf = true ∧ (Instr.fFrameReceive 0 0 (zeros 14)).wf = true ∧
    (Instr.resetNDeassert 0 (bootOf 8 [127] [127] 2 15)).wf = true ∧
    (Instr.canalRequest 0 0 0 false 0 256 []).wf = true ∧ (Instr.disagreeWindow 0 [0, 0, 0, 0, 0, 0] 0).wf = true := by
  repeat' refine And.intro ?_ ?_
  all_goals decide +kernel

/-- Each check refuses a term that breaks it. -/
theorem test_ill_formed :
    (Instr.laneRowTest 0 0 [132]).wf = false ∧ (Instr.sparePolderActive 0 6 [132]).wf = false ∧
    (Instr.tempThreshold 0 0 false (2 ^ 32)).wf = false ∧ (Instr.packetSend 0 (2 ^ 16)).wf = false ∧
    (Instr.moverSubmit 0 0 (2 ^ 32)).wf = false ∧ (Instr.tapCtlWrite 0 0 (2 ^ 32)).wf = false ∧
    (Instr.canalRequest 0 0 0 false 0 0 []).wf = false ∧ (Instr.canalRequest 0 0 0 false 0 257 []).wf = false ∧
    (Instr.disagreeWindow 0 [0, 0, 0, 0, 0] 0).wf = false ∧ (Instr.fFrameReceive 0 0 (zeros 13)).wf = false ∧
    (Instr.arpRequest 0 0 (zeros 13)).wf = false ∧ (Instr.ptpSyncRx 0 0 ⟨true, 0, 2 ^ 16, 0, 0, 0, 0, []⟩).wf = false ∧
    (Instr.autoEpochFill 0 0 [(0, ⟨2 ^ 32, [], []⟩)]).wf = false ∧ (Instr.autoEpochFill 0 0 [(0, ⟨0, [2 ^ 64], []⟩)]).wf = false ∧
    (Instr.autoEpochFill 0 0 [(0, ⟨0, [], [2 ^ 64]⟩)]).wf = false := by
  repeat' refine And.intro ?_ ?_
  all_goals decide +kernel

theorem test_ill_formed_inputs :
    (Instr.plannerPeriod 0 [⟨168, [], []⟩]).wf = false ∧ (Instr.plannerPeriod 0 [⟨0, [(25, [])], []⟩]).wf = false ∧
    (Instr.plannerPeriod 0 [⟨0, [], [(25, 0, 0)]⟩]).wf = false ∧ (Instr.plannerPeriod 0 [⟨0, [(0, [132])], []⟩]).wf = false ∧
    (Instr.resetNDeassert 0 (bootOf 7 [] [] 2 0)).wf = false ∧ (Instr.resetNDeassert 0 (bootOf 8 [128] [] 2 0)).wf = false ∧
    (Instr.resetNDeassert 0 (bootOf 8 [] [128] 2 0)).wf = false ∧ (Instr.resetNDeassert 0 (bootOf 8 [] [] 1 0)).wf = false ∧
    (Instr.resetNDeassert 0 (bootOf 8 [] [] 2 16)).wf = false ∧
    (Instr.resetNDeassert 0 { bootOf 8 [] [] 2 0 with planner := [⟨168, [], []⟩] }).wf = false ∧
    (Instr.oncePerSecondReport 0 ⟨[(0, 0)], 0, List.replicate 7 0, [], []⟩).wf = false ∧
    (Instr.oncePerSecondReport 0 ⟨[(0, 0), (0, 0)], 0, List.replicate 8 0, [], []⟩).wf = false ∧
    (Instr.oncePerSecondReport 0 ⟨[(0, 0), (0, 0)], 0, List.replicate 7 (2 ^ 32), [], []⟩).wf = false := by
  repeat' refine And.intro ?_ ?_
  all_goals decide +kernel

/-- A datagram longer than R469 allows. -/
theorem test_long_datagrams (p : List Byte) (h : 65507 < p.length) :
    (Instr.zcpNop 0 ⟨0, ⟨false, 0, 0⟩, p, false⟩).wf = false ∧ (Instr.todSentence 0 0 p 0).wf = false ∧
    (Instr.zcpPtpSend 0 ⟨0, ⟨false, 0, 0⟩, [], false⟩ 0 p 0).wf = false := by
  simp [Instr.wf, Dgram.wf]
  omega

/-! ### The spec's worked examples -/

/-- R24's comparison. -/
theorem test_later : seqLater 32 0x00000005 0xFFFFFFF0 = true ∧ seqLater 32 0xFFFFFFF0 0x00000005 = false := by
  repeat' refine And.intro ?_ ?_
  all_goals decide +kernel

/-! ### Messages and sessions -/

/-- Two messages that differ in the tag alone. -/
def tagged (b : Byte) : Dgram :=
  { port := 0, src := ⟨false, 0, 0⟩, bytes := head 0 1 0x0004 0 0 ++ .replicate 16 b, full := false }

theorem test_badTag : ∃ d, earlyChecks d (advance 0 s0) = none ∧ tagGood d (advance 0 s0) = false := by
  cases h : tagGood (tagged 0) (advance 0 s0)
  · exact ⟨tagged 0, by decide, h⟩
  · refine ⟨tagged 1, by decide, ?_⟩
    cases h1 : tagGood (tagged 1) (advance 0 s0)
    · rfl
    · exfalso
      simp only [tagGood, beq_iff_eq] at h h1
      have e : (tagged 0).tag = (tagged 1).tag := h.trans h1.symm
      revert e
      decide

theorem test_forged :
    hostDgram (.zcpNop 0 (cmd 0x0004 [])) = some (0, cmd 0x0004 []) ∧ hostUp (cmd 0x0004 []).port (advance 0 off) = false ∧
      (hostUp 0 (advance 0 { s0 with boot := resetBoot }) = true ∧
        (advance 0 { s0 with boot := resetBoot }).boot.stage ≠ .ready) ∧
      earlyChecks { cmd 0x0004 [] with bytes := .replicate 47 0 } (advance 0 s0) = some .zcpDiscFormat ∧
      earlyChecks (signed_ 0 1 0x0004 1 []) (advance 0 s0) = none ∧ tagGood (signed_ 0 1 0x0004 1 []) (advance 0 s0) = true ∧
      (signed_ 0 1 0x0004 1 []).flags % 64 ∉ [0, 4, 8, 12] := by
  refine ⟨rfl, by decide, by decide, by decide, ?_, ?_, by decide⟩
  · exact (signed_passes 0 1 4 1 [] false _ (by omega) (by omega) (by omega) (by omega) (by simp) (by decide)).2.2.1
  · exact (signed_passes 0 1 4 1 [] false _ (by omega) (by omega) (by omega) (by omega) (by simp) (by decide)).2.2.2

theorem test_sequence :
    (Sequenced (signed_ 0 1025 0x0004 0 []) (advance 0 s0) ∧
      window (session (signed_ 0 1025 0x0004 0 []).session (advance 0 s0)) (signed_ 0 1025 0x0004 0 []).seq = .beyond) ∧
    (Sequenced (signed_ 0 0 0x0004 0 []) (advance 0 s0) ∧
      window (session (signed_ 0 0 0x0004 0 []).session (advance 0 s0)) (signed_ 0 0 0x0004 0 []).seq = .dup ∧
      (signed_ 0 0 0x0004 0 []).seq ∉ (session (signed_ 0 0 0x0004 0 []).session (advance 0 s0)).inDoubt) ∧
    (Sequenced (signed_ 0 1024 0x0004 0 [] true) (advance 0 s0) ∧
      window (session (signed_ 0 1024 0x0004 0 [] true).session (advance 0 s0)) (signed_ 0 1024 0x0004 0 [] true).seq = .accept ∧
      (signed_ 0 1024 0x0004 0 [] true).full = true) :=
  ⟨⟨signed_sequenced _ _ _ _ _ _ (by decide) (by decide) (by decide) (by decide) (by decide) (by decide) (by decide) (Or.inl (by decide)), by decide⟩,
   ⟨signed_sequenced _ _ _ _ _ _ (by decide) (by decide) (by decide) (by decide) (by decide) (by decide) (by decide) (Or.inl (by decide)), by decide, by decide⟩,
   ⟨signed_sequenced _ _ _ _ _ _ (by decide) (by decide) (by decide) (by decide) (by decide) (by decide) (by decide) (Or.inl (by decide)), by decide, by decide⟩⟩

theorem test_right :
    (hostType (.zcpFuncReinit 0 (signed_ 1 1 0x0007 0 [])) = some (0x0007, 4) ∧
      Sequenced (signed_ 1 1 0x0007 0 []) (advance 0 s0) ∧
      window (session (signed_ 1 1 0x0007 0 []).session (advance 0 s0)) (signed_ 1 1 0x0007 0 []).seq = .accept ∧
      permitted (signed_ 1 1 0x0007 0 []).session (signed_ 1 1 0x0007 0 []).typ (signed_ 1 1 0x0007 0 []).mailbox
        (advance 0 s0) = false ∧ (signed_ 1 1 0x0007 0 []).typ ≠ 0x0A03) ∧
    (hostType (.zcpNop 0 (cmd 0x0004 [0])) = some (0x0004, 0) ∧
      Accepted 0x0004 (cmd 0x0004 [0]) (advance 0 s0) ∧ (cmd 0x0004 [0]).payload.length ≠ 0) :=
  ⟨⟨rfl, signed_sequenced _ _ _ _ _ _ (by decide) (by decide) (by decide) (by decide) (by decide) (by decide) (by decide) (Or.inl (by decide)), by decide, by decide, by decide⟩,
   rfl, (cmd_with 0x0004 [0] _ (by decide) (by decide)).1, by rw [(cmd_with 0x0004 [0] (advance 0 s0) (by decide) (by decide)).2]; decide⟩

/-- The READY module at its first instant. -/
abbrev n0 : State := advance 0 s0

/-- The READY module with the sessions' slots changed. -/
def withSession (f : Session → Session) : State :=
  advance 0 { s0 with zcp := { s0.zcp with slots := s0.zcp.slots.map f } }

/-- The OPEN of slot 0 whose N_h is zero and whose PORTS is H1. -/
def openMsg : Dgram := signed_ 0 1 2 0 (List.replicate 16 0 ++ [2, 0, 0, 0])

theorem test_open : (Authentic openMsg n0 ∧ openMsg.isOpen = true ∧ openMsg.payload.length = 20 ∧ beAt openMsg.payload 16 1 ≤ 2 ∧
      beAt openMsg.payload 17 3 = 0 ∧ slice openMsg.payload 0 16 ∉ (session openMsg.session n0).nonces ∧
      ((session openMsg.session n0).opens.filter fun y => decide (n0.time.now < y + secT 1)).length < 10) ∧
    (let x := withSession (fun y => { y with nonces := [List.replicate 16 0] });
      Authentic openMsg x ∧ slice openMsg.payload 0 16 ∈ (session openMsg.session x).nonces) ∧
    (let x := withSession (fun y => { y with opens := List.replicate 10 0 });
      Authentic openMsg x ∧
        10 ≤ ((session openMsg.session x).opens.filter fun y => decide (x.time.now < y + secT 1)).length) := by
  have p : openMsg.payload = List.replicate 16 0 ++ [2, 0, 0, 0] := signed_payload ..
  refine ⟨⟨signed_authentic _ _ _ _ _ _ _ (by decide) (by decide) (by decide) (by decide) (by decide) (by decide), by decide, ?_⟩,
    ⟨signed_authentic _ _ _ _ _ _ _ (by decide) (by decide) (by decide) (by decide) (by decide) (by decide), ?_⟩,
    ⟨signed_authentic _ _ _ _ _ _ _ (by decide) (by decide) (by decide) (by decide) (by decide) (by decide), by decide⟩⟩
  · rw [p]
    decide
  · rw [p]
    decide

theorem test_close : (Accepted 0x0003 (cmd 0x0003 []) n0 ∧ (cmd 0x0003 []).payload = []) ∧
    (session (cmd 0x0003 []).session n0).isOpen = true ∧
    (Accepted 0x0006 (cmd 0x0006 ([3, 0, 0, 0] ++ List.replicate 32 0)) n0 ∧
      (cmd 0x0006 ([3, 0, 0, 0] ++ List.replicate 32 0)).payload = [3, 0, 0, 0] ++ List.replicate 32 0) ∧
    ((session 3 (advance (secT 3600) s0)).isOpen = true ∧
      (session 3 (advance (secT 3600) s0)).lastAt + nsT (par0 .zcpIdleTimeout (advance (secT 3600) s0)) ≤
        (advance (secT 3600) s0).time.now) ∧
    n0.time.now < (session 0 n0).lastAt + nsT (par0 .zcpIdleTimeout n0) :=
  ⟨cmd_with _ _ _ (by decide) (by decide), by decide, cmd_with _ _ _ (by decide) (by decide), by decide, by decide⟩

/-- The commands without payload that the module only answers. -/
theorem test_questions : ∀ typ ∈ [0x0004, 0x0005, 0x0602, 0x0902, 0x0C02, 0x0202, 0x0205],
    Accepted typ (cmd typ []) n0 ∧ (cmd typ []).payload = [] := by
  intro typ h
  have t : takes typ n0 = true ∧ typ ≠ 0x0A03 := by
    revert typ
    decide
  exact cmd_with typ [] n0 (by decide) t.1 t.2

set_option maxRecDepth 100000 in
theorem ready_unsaturated {s : State} (h : s.ctr = [] := by rfl) (h1 : s.satDue = [] := by rfl) : Unsaturated s := by
  refine ⟨h1, fun c i => ?_⟩
  unfold ctrGet
  rw [h]
  show 0 + 2 ^ 20 < ctrMax
  decide

/-- A message that slot 2 has not acknowledged. -/
def unsolWaits : State := { s0 with zcp := { s0.zcp with
  slots := s0.zcp.slots.map fun y => { y with
    unsol := [⟨7, 0x0F01, [], 0, some 0, msT 20⟩]
    ackPoint := 2 ^ 32 - 1
    nextUnsol := 1 } } }

theorem test_unsolicited :
    (Authentic (signed_ 0 1 0x0F00 4 []) (advance 0 unsolWaits) ∧
      (let d := signed_ 0 1 0x0F00 4 []
       let ss := session d.session (advance 0 unsolWaits)
       d.typ = 0x0F00 ∧ d.mailbox = 15 ∧ bitAt d.flags 2 = true ∧ seqLater 32 d.ack ss.ackPoint = true ∧
        seqLater 32 d.ack (lastSent ss) = false)) ∧
    (let x := advance (msT 20) unsolWaits
     Unsaturated x ∧ unsolOf 2 7 x = some ⟨7, 0x0F01, [], 0, some 0, msT 20⟩ ∧ (session 2 x).isOpen = true ∧
      0 + msT 20 ≤ x.time.now) ∧
    (let x := advance (secT 3600) unsolWaits
     Unsaturated x ∧ unsolOf 2 7 x = some ⟨7, 0x0F01, [], 0, some 0, msT 20⟩ ∧ 0 + nsT (par0 .zcpUnsolAge x) ≤ x.time.now) :=
  ⟨⟨signed_authentic _ _ _ _ _ _ _ (by decide) (by decide) (by decide) (by decide) (by decide) (by decide), by decide⟩,
    ⟨ready_unsaturated, by decide⟩, ready_unsaturated, by decide⟩

/-- Slot 2 with nothing raised since its acknowledged point. -/
def unsolNone : State := { s0 with zcp := { s0.zcp with
  slots := s0.zcp.slots.map fun y => { y with
    unsol := []
    ackPoint := 2 ^ 32 - 1
    nextUnsol := 0 } } }

theorem test_ack_late :
    Authentic (signed_ 0 1 0x0F00 4 []) (advance 0 unsolNone) ∧
    (let ss := session (signed_ 0 1 0x0F00 4 []).session (advance 0 unsolNone)
     seqLater 32 (signed_ 0 1 0x0F00 4 []).ack ss.ackPoint = true ∧
      seqLater 32 (signed_ 0 1 0x0F00 4 []).ack (lastSent ss) = true ∧
      256 < seqAhead ss.ackPoint (({ ss with nextUnsol := 257 }.nextUnsol + 2 ^ 32 - 1) % 2 ^ 32)) :=
  ⟨signed_authentic _ _ _ _ _ _ _ (by decide) (by decide) (by decide) (by decide) (by decide) (by decide), by decide⟩

theorem test_cores : coresRun n0 = true ∧ n0.zcp.standbyOk = true ∧ n0.zcp.standbyBeat = true ∧
    (let x := advance 0 { s0 with zcp := { s0.zcp with standbyOk := false } }
     coresRun x = true ∧ x.zcp.standbyOk = false ∧ (∀ w ∈ x.zcp.waiting, w.why = 7 → w.unit ≠ 80) ∧
      takes 0x0009 x = true) ∧
    (∀ c ∈ [TakeoverCause.missed, .sram, .reaction], takeoverDue c (advance (secT 1) s0) = true) ∧
    (Accepted 0x0009 (cmd 0x0009 []) n0 ∧ (cmd 0x0009 []).payload = []) ∧
    (let x := advance (msT 100) { s0 with zcp := { s0.zcp with standbyBeat := false } }
     coresRun x = true ∧ x.zcp.standbyBeat = false ∧ x.zcp.heartbeatAt + msT 100 ≤ x.time.now) :=
  ⟨by decide, by decide, by decide, by decide, by decide, cmd_with _ _ _ (by decide) (by decide), by decide⟩

/-! ### Power and boot -/

/-- A boot in which everything works. -/
def goodBoot : BootIn :=
  { core0 := true, core1 := true, timingMs := 1, readyA := true, readyB := true, stackBins := List.replicate 8 (some 0)
    badChannels := [], planner := [], linksUp := [], hostUp := [true, true], slotId := 3, ms := 2400
    stageFails := false }

/-- A powered module whose logic has not left reset. -/
def held : State := { off with power := { resetPower with
  powerEn := true
  stageOn := true
  feeds := .replicate 2 ⟨4800, 0, .good, true⟩ } }

theorem test_power :
    (let x := advance 0 off
     x.power.powerEn = false ∧ x.power.stageOn = false ∧ x.power.powerEnFell = none) ∧
    (let x := advance (msT 500) { off with power := { resetPower with powerEnFell := some 0 } }
     x.power.powerEn = false ∧ x.power.stageOn = false ∧ x.power.powerEnFell = some 0 ∧ 0 + msT 500 ≤ x.time.now) ∧
    (let x := advance (msT 500 - 1) { off with power := { resetPower with powerEnFell := some 0 } }
     x.power.powerEn = false ∧ x.power.stageOn = false ∧ x.power.powerEnFell = some 0 ∧ x.time.now < 0 + msT 500) ∧
    (feed 0 (advance 0 off)).state ≠ .good ∧
    ((feed 0 n0).state = .good ∧ (feed (1 - 0) n0).state = .good ∧ (feed 1 n0).state = .good ∧ (feed (1 - 1) n0).state = .good) ∧
    (n0.power.powerEn = true ∧ n0.power.stageOn = true ∧ logicRuns n0 = true) ∧
    (let x := advance (msT 25) { s0 with power := { s0.power with feeds := resetPower.feeds, holdUpSince := some 0 } }
     feedGood x = false ∧ x.power.holdUpSince = some 0 ∧ 0 + msT 25 ≤ x.time.now) ∧
    (advance 0 off).power.stageOn = false ∧
    ((∀ k < 2, (feed k n0).state = .good → k = 2 ∨ (2 : Fin 3) = 2) ∧ feedGood n0 = true) := by
  repeat' refine And.intro ?_ ?_
  all_goals decide +kernel

theorem test_domains :
    domain 38 n0 = .on ∧
    (let x := advance (secT 1) { s0 with power := { s0.power with domains := s0.power.domains.set 38 .tripped, pd38TripAt := some 0 } }
     domain 38 x = .tripped ∧ x.power.pd38TripAt = some 0 ∧ 0 + secT 1 ≤ x.time.now) ∧
    (let x := advance 0 { s0 with power := { s0.power with domains := s0.power.domains.set 33 .waking } }
     domain 33 x = .waking ∧ x.power.reinit = none ∧ x.sluice.solveHold = false) ∧
    (domain 5 n0 ≠ .waking ∧ domain 5 (advance 0 off) = .off) ∧
    (stack 7 n0).fitted = true ∧
    ((0x42E60000 : Nat) < 0x42E60001 ∧ (0x42E60001 : Nat) < 0x7F800000) := by
  repeat' refine And.intro ?_ ?_
  all_goals decide +kernel

theorem test_boot :
    (let x := advance 0 held
     x.power.stageOn = true ∧ x.boot.stage = .power ∧ goodBoot.core0 = true ∧ x.boot.variant = 1 ∧ x.boot.preferred < 2 ∧
      imageValid x.boot.preferred x = true ∧ goodBoot.imageReady x.boot.preferred = true ∧ goodBoot.stageFails = false ∧
      (∃ c < 128, stackFitted (c / 16) x = true ∧ c ∉ x.mem.retiredFlash ∧ c ∉ goodBoot.badChannels)) ∧
    (advance 0 off).power.stageOn = false ∧ n0.boot.stage ≠ .power ∧
    (advance 0 held).time.now < (advance 0 held).boot.imageAt + secT 10 ∧
    (let x := advance (secT 10) { held with boot := { resetBoot with stage := .image } }
     x.boot.stage = .image ∧ x.boot.fallback = false ∧ x.boot.imageAt + secT 10 ≤ x.time.now ∧
      imageValid (1 - x.boot.preferred) x = true) ∧
    (let x := advance (secT 10) { held with boot := { resetBoot with stage := .image, images := .replicate 2 none } }
     imageValid (1 - x.boot.preferred) x = false) ∧
    (let x := advance (secT 599) { s0 with boot := { s0.boot with trial := true } }
     x.boot.stage = .ready ∧ x.boot.trial = true ∧ x.time.now < x.boot.readyAt + secT 600) ∧
    (let x := advance (secT 600) { s0 with boot := { s0.boot with trial := true } }
     x.boot.stage = .ready ∧ x.boot.trial = true ∧ x.boot.readyAt + secT 600 ≤ x.time.now ∧ x.boot.running < 2 ∧
      x.boot.variant = 1 ∧ imageValid (1 - x.boot.running) x = true ∧ goodBoot.imageReady (1 - x.boot.running) = true ∧
      pd38Gone x = false) := by
  repeat' refine And.intro ?_ ?_
  all_goals decide +kernel

theorem test_moduleReset : (Accepted 0x0008 (cmd 0x0008 []) n0 ∧ (cmd 0x0008 []).payload = []) ∧ goodBoot.core0 = true ∧
    goodBoot.stageFails = false ∧ n0.boot.variant = 1 ∧ n0.boot.trial = false ∧ n0.boot.preferred < 2 ∧
    imageValid n0.boot.preferred n0 = true ∧ goodBoot.imageReady n0.boot.preferred = true ∧
    pd38Gone (advance 0 n0) = false :=
  ⟨cmd_with _ _ _ (by decide) (by decide), by decide⟩

/-- The bytes of a memory from address 0 on. -/
def cellsOf (bs : List Byte) : Memory := (bs.zipIdx.filter fun b => b.1 != 0).map fun b => (b.2, b.1)

/-- SHA-384 of the empty string, from FIPS 180-4's test vectors. -/
def emptyDigest : List Byte :=
  [0x38, 0xb0, 0x60, 0xa7, 0x51, 0xac, 0x96, 0x38, 0x4c, 0xd9, 0x32, 0x7e, 0xb1, 0xb1, 0xe3, 0x6a,
   0x21, 0xfd, 0xb7, 0x11, 0x14, 0xbe, 0x07, 0x43, 0x4c, 0x0c, 0xc7, 0xbf, 0x63, 0xf6, 0xe1, 0xda,
   0x27, 0x4e, 0xde, 0xbf, 0xe7, 0x6f, 0x65, 0xfb, 0xd5, 0x1a, 0xd2, 0xf1, 0x48, 0x98, 0xb9, 0x5b]

theorem test_sha384 : sha384 [] = emptyDigest := by decide +kernel

/-- A staged image of version 2 without a body. -/
def staged2 : State := { s0 with boot := { s0.boot with staging := cellsOf ([0x5A, 0x49, 0x4C, 0x31, 0, 0, 0, 2, 0, 0, 0, 0, 0, 0, 0, 0] ++ emptyDigest) } }

theorem read_drop (m : Memory) : ∀ (k a n : Nat), (m.read a (k + n)).drop k = m.read (a + k) n
  | 0, a, n => by rw [Nat.zero_add]; rfl
  | k + 1, a, n => by
    rw [show k + 1 + n = (k + n) + 1 by omega]
    show (m.read (a + 1) (k + n)).drop k = _
    rw [read_drop m k (a + 1) n, show a + 1 + k = a + (k + 1) by omega]

theorem byte_past : ∀ (m : Memory) (a : Nat), (∀ e ∈ m, e.1 < a) → m.byte a = 0
  | [], _, _ => rfl
  | (j, v) :: r, a, h => by
    have h1 := h (j, v) (by simp)
    show (if a = j then v else Memory.byte r a) = 0
    rw [if_neg (by simp only at h1; omega)]
    exact byte_past r a fun e he => h e (by simp [he])

theorem read_past (m : Memory) : ∀ (n a : Nat), (∀ e ∈ m, e.1 < a) → (m.read a n).all (· == 0) = true
  | 0, _, _ => rfl
  | n + 1, a, h => by
    show (m.byte a == 0 && (m.read (a + 1) n).all (· == 0)) = true
    rw [byte_past m a h, read_past m n (a + 1) fun e he => Nat.lt_succ_of_lt (h e he)]
    rfl

/-- Whether a signature holds is the environment's (R578): with one that does, the staged image is valid. -/
theorem test_staged (h : Config.ecdsaValid (slice (staged2.boot.staging.read 0 4096) 0 96)
    (slice (staged2.boot.staging.read 0 4096) 96 96) = true) :
    stagedImage (advance 0 staged2) = some ⟨2, 0, true⟩ := by
  have e0 : (advance 0 staged2).boot.staging = staged2.boot.staging := rfl
  have z : ((staged2.boot.staging.read 0 4096).drop 192).all (· == 0) = true := by
    rw [show (4096 : Nat) = 192 + 3904 from rfl, read_drop]
    exact read_past _ _ _ (by decide)
  have e1 : headerFormed (staged2.boot.staging.read 0 4096) = true := by
    unfold headerFormed
    rw [z, Bool.and_true]
    decide +kernel
  have e2 : beAt (staged2.boot.staging.read 0 4096) 12 4 = 0 := by decide +kernel
  have e3 : slice (staged2.boot.staging.read 0 4096) 16 48 = emptyDigest := by decide +kernel
  have e4 : beAt (staged2.boot.staging.read 0 4096) 4 4 = 2 := by decide +kernel
  have e5 : beAt (staged2.boot.staging.read 0 4096) 8 2 = 0 := by decide +kernel
  have e6 : (Memory.read staged2.boot.staging 4096 0) = [] := rfl
  have e7 : (advance 0 staged2).boot.floor = 0 := rfl
  unfold stagedImage
  simp only [e0, e1, e2, e3, e4, e5, e6, e7, h, test_sha384]
  rfl

theorem test_firmware :
    (Accepted 0x0C03 (cmd 0x0C03 (laidOut 0x0C03)) n0 ∧ (cmd 0x0C03 (laidOut 0x0C03)).payload.length = Config.payloadLength 0x0C03) ∧
    (1 ≠ n0.boot.running ∧ stagedImage n0 = none) ∧ 0 = n0.boot.running ∧
    (Accepted 0x0C04 (cmd 0x0C04 (laidOut 0x0C04)) n0 ∧ (cmd 0x0C04 (laidOut 0x0C04)).payload.length = Config.payloadLength 0x0C04) ∧
    (Accepted 0x0C05 (cmd 0x0C05 []) n0 ∧ (cmd 0x0C05 []).payload = []) := by
  refine ⟨cmd_laid _ _ (by decide), ⟨by decide, ?_⟩, rfl, cmd_laid _ _ (by decide), cmd_with _ _ _ (by decide) (by decide)⟩
  have e : headerFormed (n0.boot.staging.read 0 4096) = false := by decide +kernel
  unfold stagedImage
  simp only [e]
  rfl

/-! ### Ingress -/

/-- The plan whose parameters all have their reset values: 128 paths, channel 0. -/
def p1 : Plan :=
  { id := 1, epoch := 1, commit := 1, sc := 0, cfg := [], channels := [0], skipN := 0, shed := 0, skew := 0, freshBanks := false, known := 0 }

/-- The READY module with that plan in force, its dies laid out and I0's link up. -/
def s1 : State := { s0 with
  plan := { s0.plan with running := some p1, lastId := 1, lastEpoch := 1 }
  ingressLinks := [(0, ⟨true, 0, true, false⟩)]
  data := { s0.data with dies := .replicate 4 { resetDie with slots := List.replicate 16 Slot.empty, epoch := 1 } } }

/-- That module with its data path changed. -/
def withData (f : DataS → DataS) : State := { s1 with data := f s1.data }

/-- That module with die 0 changed. -/
def withDie (f : Die → Die) : State := withData fun x => { x with dies := x.dies.set 0 (f (x.dies.getD 0 Die.none)) }

/-- A frame to the broadcast address: EtherType and what follows. -/
def bcast (typ : Nat) (bs : List Byte) : EthIn :=
  { fcsOk := true, bytes := List.replicate 6 0xFF ++ List.replicate 6 0 ++ natBE 2 typ ++ bs, raw := 0, fecCorr := 0, fecUncorr := 0 }

/-- The F-frame header of one path of 128 samples of channel 0; R55's check is 0xEE7E. -/
def fhead (flags : Byte) (check : Nat) : List Byte :=
  [0x11, flags, 0, 0, 0, 0, 0, 1, 0, 0, 0, 0, 0, 0, 0, 0, 0, 128] ++ natBE 2 check ++ List.replicate 12 0

/-- An F-frame in raw Ethernet. -/
def goodFrame : EthIn := bcast 0x88B5 (fhead 0 0xEE7E ++ List.replicate 128 0x21)

/-- The same with a wrong header check. -/
def badFrame : EthIn := bcast 0x88B5 (fhead 0 0xEE7F ++ List.replicate 128 0x21)

/-- The F-frame in the good frame. -/
def goodF : FFrame := ⟨none, fhead 0 0xEE7E ++ List.replicate 128 0x21⟩

set_option maxRecDepth 100000 in
theorem test_frames : (let x := advance 0 s1
    ingressUp 1 x = false ∧ ingressUp 0 x = true ∧ { goodFrame with fcsOk := false : EthIn }.fcsOk = false ∧
    goodFrame.fcsOk = true ∧ goodFrame.bytes.length ≤ 9212 ∧ 9212 < (bcast 0 (List.replicate 9199 0)).bytes.length ∧
    addressed 0 { goodFrame with bytes := List.replicate 5 0xFF ++ [0xFE] : EthIn }.bytes x = false ∧ addressed 0 goodFrame.bytes x = true ∧
    isFlowControl (bcast 0x8808 [0, 1]).bytes = true ∧ addressed 0 (bcast 0x8808 [0, 1]).bytes x = true ∧
    isFlowControl (bcast 0x8808 [1, 1]).bytes = true ∧ isFlowControl goodFrame.bytes = false ∧
    isFlowControl (bcast 0x1234 []).bytes = false ∧ (fframe (bcast 0x1234 []).bytes x).isNone = true ∧
    handledElsewhere 0 (bcast 0x1234 []).bytes x = false ∧
    (fframe badFrame.bytes x).map (frameChecks · x) = some (some .discHcheck) ∧
    (fframe goodFrame.bytes x).map (frameChecks · x) = some none) := by
  repeat' refine And.intro ?_ ?_
  all_goals decide +kernel

set_option maxRecDepth 100000 in
theorem test_good : ingressChecks 0 goodFrame (advance 0 s1) = (none, some goodF) := by rfl

theorem test_admission :
    planAt goodF.sc (advance 0 s1) = some p1 ∧ p1.timeOrdered = false ∧ p1.block (goodF.sc / p1.t) ((p1.pos goodF.chan).getD 0) = 0 ∧
    (die 0 (advance 0 (withDie fun d => { d with stopped := true }))).stopped = true ∧
    (let y := die 0 (advance 0 (withDie fun d => { d with released := 1 }))
     y.stopped = false ∧ p1.epoch = y.epoch ∧ 0 < y.released) ∧
    (let x := advance 0 (withDie fun d => { d with slots := d.slots.set 2 { Slot.empty with state := .open, epoch := 1, subs := [(5, [])] } })
     let y := die 0 x
     y.stopped = false ∧ p1.epoch = y.epoch ∧ y.released ≤ 0 ∧ y.ahead.contains 0 = false ∧ y.find p1.epoch 0 = some 2 ∧
      (y.slot 2).state = .open ∧ 2 < y.slots.length ∧ sFind (y.slot 2).subs 5 = some [] ∧ sFind (y.slot 2).subs 6 = none) := by
  repeat' refine And.intro ?_ ?_
  all_goals decide +kernel

/-- An ARP request for 10.0.0.9 and a neighbour solicitation for the address 9. -/
def arpAsk : EthIn := bcast 0x0806 ([0, 1, 8, 0, 6, 4, 0, 1] ++ List.replicate 16 0 ++ [10, 0, 0, 9])

/-- A neighbour solicitation for the address 9. -/
def nsAsk : EthIn := bcast 0x86DD ([0x60, 0, 0, 0, 0, 24, 58, 255] ++ List.replicate 32 0 ++ [135, 0, 0, 0, 0, 0, 0, 0] ++ natBE 16 9)

theorem test_resolution : (let x := advance 0 (setPar .ingressIp4 0 0 0x0A000009 (setPar .ingressIp6 0 0 9 s1))
    ingressUp 0 x = true ∧ addressed 0 arpAsk.bytes x = true ∧ addressed 0 nsAsk.bytes x = true ∧
    isFlowControl arpAsk.bytes = false ∧ isFlowControl nsAsk.bytes = false ∧ (fframe arpAsk.bytes x).isNone = true ∧
    (fframe nsAsk.bytes x).isNone = true ∧ arpTarget arpAsk.bytes = some 0x0A000009 ∧
    (0x0A000009 : Nat) = par .ingressIp4 0 0 x % 2 ^ 32 ∧ nsTarget nsAsk.bytes = some 9 ∧ (9 : Nat) = par .ingressIp6 0 0 x ∧
    isPtp (bcast 0x88F7 []).bytes = true) := by
  repeat' refine And.intro ?_ ?_
  all_goals decide +kernel

/-- A block that is open since instant 0, in slot 0 of die 0. -/
def openBlock : State := withDie fun d => { d with slots := d.slots.set 0 { Slot.empty with state := .open, epoch := 1 } }

/-- When that block's deadline comes. -/
def due0 : Nat := deadline p1 { Slot.empty with state := .open, epoch := 1 }

theorem test_closing :
    (let x := advance due0 openBlock
     let v := (die 0 x).slot 0
     planOf v.epoch x = some p1 ∧ v.state = .open ∧ p1.timeOrdered = false ∧ deadline p1 v ≤ x.time.now) ∧
    (let x := advance (due0 - 1) openBlock
     x.time.now < deadline p1 ((die 0 x).slot 0)) ∧
    (let x := advance p1.closeWait (withData fun y => { y with ctSeen := [(1, 1, 0)] })
     x.data.ctSeen.find? (fun y => y.2.1 == 0 + 1) = some (1, 0 + 1, 0) ∧ planOf 1 x = some p1 ∧ ctClosed p1 0 x = false ∧
      0 + p1.closeWait ≤ x.time.now ∧ ctFind p1 0 x = none ∧ (ctNew p1 0 x).isSome = true) ∧
    (let p := { p1 with skew := 5 }
     let x := advance 4 { withData (fun y => { y with ctSeen := [(1, 1, 0)], ct := [⟨0, 1, 0, false, 0, 0, []⟩] }) with plan := { s1.plan with running := some p } }
     x.data.ctSeen.find? (fun y => y.2.1 == 0 + 1) = some (1, 0 + 1, 0) ∧ planOf 1 x = some p ∧ ctClosed p 0 x = false ∧
      x.time.now < 0 + p.closeWait ∧ ctFind p 0 x = some 0 ∧ (∀ a ∈ x.data.ct, a.closed = false)) ∧
    (let p := { p1 with skipN := 1 }
     let x := advance 0 { withData (fun y => { y with ct := [⟨0, 1, 0, true, 0, 0, []⟩] }) with plan := { s1.plan with running := some p } }
     ctOldest x = some 0 ∧ x.data.ct[0]? = some ⟨0, 1, 0, true, 0, 0, []⟩ ∧ planOf 1 x = some p ∧ p.skips 0 0 = true) ∧
    (let x := advance 0 (withData fun y => { y with ct := [⟨0, 1, 0, true, 0, 0, []⟩], dies := .replicate 4 { resetDie with epoch := 1 } })
     let b := p1.block 0 0
     ctOldest x = some 0 ∧ x.data.ct[0]? = some ⟨0, 1, 0, true, 0, 0, []⟩ ∧ planOf 1 x = some p1 ∧ p1.skips 0 0 = false ∧
      (die (b % 4) x).stopped = false ∧ (die (b % 4) x).epoch = p1.epoch ∧ (die (b % 4) x).released ≤ b ∧
      (die (b % 4) x).ahead.contains b = false ∧ (die (b % 4) x).find p1.epoch b = none ∧ toOpen p1 (die (b % 4) x) b = none) ∧
    (let x := advance 0 (withData fun y => { y with ct := [⟨0, 1, 0, true, 0, 0, []⟩] })
     let b := p1.block 0 0
     ctOldest x = some 0 ∧ x.data.ct[0]? = some ⟨0, 1, 0, true, 0, 0, []⟩ ∧ planOf 1 x = some p1 ∧ p1.skips 0 0 = false ∧
      (die (b % 4) x).stopped = false ∧ (admitBlock p1 b (b % 4) x).1 = .slot 0) := by
  repeat' refine And.intro ?_ ?_
  all_goals decide +kernel

theorem test_links :
    (let x := advance 0 s1
     (ingressLink 4 x).up = false ∧ modeProvides (par .ingressPortMode (4 / 4) 0 x) (4 % 4) = true ∧ domain (34 + 4 / 32) x = .on ∧
      (ingressLink 0 x).up = true) ∧
    (let x := advance (secT 2) s1
     inService 4 x = true ∧ (ingressLink 4 x).up = false ∧ (ingressLink 4 x).reported = false ∧
      (ingressLink 4 x).downSince + (if (ingressLink 4 x).beenUp then secT 1 else secT 2) ≤ x.time.now) ∧
    (let x := advance (secT 2 - 1) s1
     x.time.now < (ingressLink 4 x).downSince + (if (ingressLink 4 x).beenUp then secT 1 else secT 2)) ∧
    (let x := advance (secT 1) { s1 with ingressLinks := [(0, ⟨false, 0, true, false⟩)] }
     inService 0 x = true ∧ (ingressLink 0 x).up = false ∧
      (ingressLink 0 x).downSince + (if (ingressLink 0 x).beenUp then secT 1 else secT 2) ≤ x.time.now) := by
  repeat' refine And.intro ?_ ?_
  all_goals decide +kernel

/-! ### The array, the keeper and the weir -/

/-- The module with its polders powered. -/
def s2 : State := withData fun x => { x with polders := .ofFn 168 fun n => { resetPolder (n % 7) with powered := n % 7 != 6 } }

/-- That module with its data path changed. -/
def with2 (f : DataS → DataS) : State := { s2 with data := f s2.data }

/-- Die 0 with a changed record. -/
def with2Die (f : Die → Die) : State := with2 fun x => { x with dies := x.dies.set 0 (f (x.dies.getD 0 Die.none)) }

/-- One polder changed. -/
def with2Polder (n : Nat) (f : Polder → Polder) : State :=
  with2 fun x => { x with polders := x.polders.set n (f (x.polders.getD n (resetPolder 0))) }

/-- Block 0 closed in slot 0 of die 0. -/
def closed0 : State := with2Die fun d => { d with slots := d.slots.set 0 { Slot.empty with state := .closed, epoch := 1, subs := [(0, [])] } }

/-- A tile job of that block. -/
def job0 : TileJob := ⟨0, 0, 0, 0, 0, 1, 0, 0⟩

/-- A converted chunk of that block. -/
def staged0 : Staged := ⟨0, 0, 1, 0, 0, 0, 0, false, [(1, 0)], [], none⟩

/-- A run of that block with nothing left to do. -/
def run0 : Running := ⟨0, false, 1, 0, 0, 0, 0, [], [], []⟩

theorem test_starts :
    (let x := advance 0 closed0
     let v := (die 0 x).slot 0
     let tiles := blockTiles p1 0 (v.state == .zoom) x
     (die 0 x).stopped = false ∧ domain (24 + 0) x = .on ∧ ringsIdle 0 x = true ∧ boundaryClear 0 x = true ∧
      nextSlot 0 x = some 0 ∧ planOf v.epoch x = some p1 ∧ tiles ≠ [] ∧ ∀ w ∈ tiles, (polder w.polder x).powered = true) ∧
    ringsIdle 0 (advance 0 (with2Polder 1 fun q => { q with jobs := [job0, job0] })) = false ∧
    finishedRun 0 (advance 0 (with2Die fun d => { d with runs := [run0] })) = some run0 ∧
    finishedRun 0 (advance 0 (with2Die fun d => { d with runs := [{ run0 with left := 1 }] })) = none := by
  repeat' refine And.intro ?_ ?_
  all_goals decide +kernel

theorem test_swaps :
    (let x := advance 0 (with2Polder 167 fun q => { q with powered := true, jobs := [job0] })
     (polder 167 x).powered = true ∧ (polder 167 x).jobs = [job0] ∧ planOf job0.epoch x = some p1 ∧ (polder 167 x).active = none ∧
      ringTurn 167 job0 x = true ∧ (polder 167 x).shadow = none) ∧
    (let x := advance 0 (with2Polder 0 fun q => { q with jobs := [job0], shadow := some ⟨job0, false, [], none⟩ })
     (polder 0 x).powered = true ∧ (polder 0 x).jobs = [job0] ∧ planOf job0.epoch x = some p1 ∧
      (polder 0 x).shadow = some ⟨job0, false, [], none⟩ ∧ (polder 0 x).active = none ∧ ringTurn 0 job0 x = true ∧ (die 0 x).staging.length < 192 ∧ takeRing 0 x = some 0 ∧
      readySets 0 x = [0]) ∧
    (let x := advance 0 (with2Polder 0 fun q => { q with jobs := [job0], active := some ⟨job0, false, [], none⟩, held := some 0 })
     (polder 0 x).active.isSome = true) ∧
    (let x := advance 0 (with2Polder 0 fun q => { q with jobs := [{ job0 with period := 1 }] })
     let y := setPolder 1 { polder 1 x with jobs := [job0] } x
     (polder 0 y).jobs.head? = some { job0 with period := 1 } ∧ ringTurn 0 { job0 with period := 1 } y = false) ∧
    (polder 0 (advance 0 s2)).jobs = [] ∧
    192 ≤ (die 0 (advance 0 (with2Die fun d => { d with staging := List.replicate 192 staged0 }))).staging.length := by
  repeat' refine And.intro ?_ ?_
  all_goals decide +kernel

theorem test_rows :
    (let x := advance 0 (with2Polder 0 fun q => { q with testPending := true, rows := [7, 8, 9] })
     (polder 0 x).testPending = true ∧ (polder 0 x).powered = true ∧ (polder 0 x).jobs = [] ∧ newFailures 0 [132] x = [] ∧
      newFailures 0 [131] x = [131] ∧ (polder 0 x).rows.length + [131].length ≤ 4 ∧
      newFailures 0 [131, 0] x = [0, 131] ∧ 4 < (polder 0 x).rows.length + [0, 131].length) ∧
    (let x := advance (secT 1) (with2Polder 0 fun q => { q with testPending := true })
     (polder 0 x).testPending = true ∧ (polder 0 x).testSince + secT 1 ≤ x.time.now) ∧
    (let x := advance (secT 1 - 1) (with2Polder 0 fun q => { q with testPending := true })
     x.time.now < (polder 0 x).testSince + secT 1) ∧
    (let x := advance 0 (with2Polder 0 fun q => { q with retireDue := true })
     (polder 0 x).retireDue = true ∧ (polder 0 x).gone = false ∧ changeable 0 x = true ∧
      (polder 6 x).role = 1 ∧ (polder 6 x).waking = false ∧ (polder 6 x).gone = false) ∧
    (let x := advance (usT 200) (with2Polder 6 fun q => { q with waking := true, rows := [1, 2, 3] })
     (polder 6 x).waking = true ∧ domain (6 / 7) x = .on ∧ atBoundary (6 / 42) x = true ∧ (polder 6 x).testSince + usT 200 ≤ x.time.now ∧
      (polder 6 x).rows.length + (newFailures 6 [0] x).length ≤ 4 ∧ 4 < (polder 6 x).rows.length + (newFailures 6 [0, 131] x).length) ∧
    (let x := advance 0 (with2Polder 0 fun q => { q with change := some ⟨2, 8, [5]⟩ })
     changeable 0 x = true ∧ (polder 0 x).change = some ⟨2, 8, [5]⟩) ∧
    changeable 0 (advance 0 (with2Polder 1 fun q => { q with jobs := [job0] })) = false := by
  repeat' refine And.intro ?_ ?_
  all_goals decide +kernel

/-- The module with tile 0 of channel 0 begun in region 0 of integration 0. -/
def begun0 (due : List LedgerDue) (g : List Staged) (n : Nat) (v : RegionState := .filling) : State := with2 fun x => { x with
  dies := x.dies.set 0 { x.dies.getD 0 Die.none with staging := g, ledgerDue := due }
  regions := x.regions.set 0 { x.regions.getD 0 Region.empty with state := v, epoch := 1, begun := true, integration := n } }

theorem test_promotions :
    (let x := advance 0 (begun0 [] [staged0] 0)
     promotable 0 x = some (staged0, p1) ∧ tooLate p1 0 0 x = false ∧ (region 0 0 x).begun = true ∧
      planOf (region 0 0 x).epoch x = some p1 ∧ (region 0 0 x).integration = integOf p1 0 0 ∧
      (tile (tileKey 0 0 0 0) x).fresh? 0 = true) ∧
    (let x := advance 0 (begun0 [] [staged0] 2)
     promotable 0 x = some (staged0, p1) ∧ tooLate p1 0 0 x = true) ∧
    promotable 0 (advance 0 s2) = none ∧
    (let y := advanceDies (advance 0 s2)
     snapHolds 0 0 y = false ∧ ledgerNext 0 0 y = none) ∧
    (let y := advanceDies (advance 0 (begun0 [⟨0, 1, 0, 0⟩] [] 2))
     snapHolds 0 0 y = false ∧ ledgerNext 0 0 y = some (p1, 0, 0) ∧ tooLate p1 0 0 y = true ∧ (0 : Nat) = (account p1 0 0 y).next ∧
      tilesOf p1.k ≤ (account p1 0 0 y).tiles + 1) := by
  repeat' refine And.intro ?_ ?_
  all_goals decide +kernel

/-- A plan with one element set. -/
def withPar (i : Item) (inst v : Nat) (p : Plan) : Plan := { p with cfg := sPut keyReset p.cfg (itemKey i inst 0) v }

/-- A module with that plan in force. -/
def running (p : Plan) (s : State) : State := { s with plan := { s.plan with running := some p } }

/-- The last slot of the last tile window holds a pending operation of the kind. -/
def window1 (op : Byte) : State :=
  with2 fun x => { x with windows := [(slotAddr 7 2047 / 32, op :: List.replicate 27 0 ++ [0xFF, 0, 0, 0, 0])] }

/-- A tile operation on tile (0, 0) of channel 0, region 0. -/
def op0 (i first count integ : Nat) : TileOp := ⟨1, 0, 0, 0, i, 0, first, count, integ, 0⟩

/-- The module with tile 0 touched in integration 0. -/
def touched0 : State := with2 fun x => { x with
  tiles := [(tileKey 0 0 0 0, { Tile.fresh with touched := true, generation := 5 })]
  regions := x.regions.set 0 { x.regions.getD 0 Region.empty with state := .filling, epoch := 1, begun := true, lastOp := some 0 } }

/-- That module with a staged chunk of that tile that carries deficits, and a berm entry or none. -/
def bermed (e : Option BermEntry) (used : List Nat) : State := { touched0 with data := { touched0.data with
  dies := touched0.data.dies.set 0 { touched0.data.dies.getD 0 Die.none with staging := [{ staged0 with deficits := some [1] }] }
  tiles := [(tileKey 0 0 0 0, { Tile.fresh with touched := true, generation := 5, berm := e })]
  regions := touched0.data.regions.set 0 { touched0.data.regions.getD 0 Region.empty with bermUsed := used } } }

/-- A plan without berm entries. -/
def noBerm : Plan := withPar .ingressBermEntries 0 0 p1

theorem test_berm :
    (let x := advance 0 (bermed (some ⟨3, [(0, 2)]⟩) [3])
     promotable 0 x = some ({ staged0 with deficits := some [1] }, p1) ∧ tooLate p1 0 0 x = false ∧
      (tile (tileKey 0 0 0 0) x).fresh? 0 = false ∧ (tile (tileKey 0 0 0 0) x).berm.isSome = true ∧ (region 0 0 x).begun = true ∧
      planOf (region 0 0 x).epoch x = some p1 ∧ (region 0 0 x).integration = 0) ∧
    (let x := advance 0 (bermed none [0])
     freeBerm p1 (region 0 0 x) = some 1 ∧ (tile (tileKey 0 0 0 0) x).berm = none) ∧
    (let x := advance 0 (running noBerm (bermed none []))
     promotable 0 x = some ({ staged0 with deficits := some [1] }, noBerm) ∧ tooLate noBerm 0 0 x = false ∧
      (tile (tileKey 0 0 0 0) x).fresh? 0 = false ∧ (tile (tileKey 0 0 0 0) x).berm = none ∧
      freeBerm noBerm (region 0 0 x) = none ∧ planOf (region 0 0 x).epoch x = some noBerm ∧
      (region 0 0 x).bermReported = false) := by
  repeat' refine And.intro ?_ ?_
  all_goals decide +kernel

theorem test_tileOps :
    ((slotOp (slotAddr 7 2047) 1 (advance 0 (window1 1))).isSome = true ∧ (slotOp (slotAddr 7 2047) 2 (advance 0 (window1 2))).isSome = true ∧
     (slotOp (slotAddr 7 2047) 3 (advance 0 (window1 3))).isSome = true ∧ (slotOp (slotAddr 7 2047) 4 (advance 0 (window1 4))).isSome = true ∧
     slotOp (slotAddr 0 0) 1 (advance 0 s2) = none ∧ slotOp (slotAddr 0 0) 2 (advance 0 s2) = none ∧
     slotOp (slotAddr 0 0) 3 (advance 0 s2) = none ∧ slotOp (slotAddr 0 0) 4 (advance 0 s2) = none) ∧
    (let x := advance 0 touched0
     x.plan.running = some p1 ∧ Machine.laidOut p1 0 0 x = true ∧ p1.hasTile (op0 1 0 0 0) = false ∧ p1.hasTile (op0 0 0 1 0) = true ∧
      (op0 0 8255 1 0).rangeBad = false ∧ (op0 0 8256 1 0).rangeBad = true ∧ (op0 0 0 1 0).integration % 2 = (op0 0 0 1 0).region ∧
      (tileOf p1 0 0 0 0 x).touched = true ∧ (tileOf p1 0 0 0 0 x).integration = 0 ∧
      (region 0 0 x).integration = fullInteg (region 0 0 x) 0 ∧
      ¬((op0 0 0 1 1).integration = 0xFFFFFFFF ∨ ((tileOf p1 0 0 0 0 x).touched = true ∧
        (tileOf p1 0 0 0 0 x).integration = (op0 0 0 1 1).integration))) := by
  repeat' refine And.intro ?_ ?_
  all_goals decide +kernel

/-- corr.seal_wait as the module has it at reset. -/
def sealWait : Nat := nsT (par0 .corrSealWait s0)

/-- A drain of region 0 with one stream and one item. -/
def drain0 (it : DrainItem) : Drain := ⟨0, 0, 0, 1, 0, [⟨0, [it], [], 0, false⟩], [], []⟩

/-- The module with that drain. -/
def draining0 (it : DrainItem) : State := { touched0 with egress := { touched0.egress with drains := [drain0 it] } }

/-- The module with a snapshot of channel 0 under way and chunk 0 accounted for. -/
def snapping : State := with2 fun x => { x with snapshot := some ⟨0, [0], 0, none⟩, accounts := [(acctKey 1 0 0, ⟨1, 0⟩)] }

theorem test_drains :
    drainDue 0 0 (advance 0 s2) = none ∧
    (let x := advance 0 (draining0 (.elems [0] 0))
     drainDue 0 0 x = some (drain0 (.elems [0] 0), ⟨0, [.elems [0] 0], [], 0, false⟩, .elems [0] 0, []) ∧ planOf 1 x = some p1 ∧
      DrainItem.isRecs (.elems [0] 0) = false) ∧
    (let x := advance 0 (draining0 (.recs 0))
     drainDue 0 0 x = some (drain0 (.recs 0), ⟨0, [.recs 0], [], 0, false⟩, .recs 0, []) ∧ planOf 1 x = some p1 ∧
      DrainItem.isRecs (.recs 0) = true) ∧
    (let x := advance sealWait touched0
     planOf (region 0 0 x).epoch x = some p1 ∧ (region 0 0 x).begun = true ∧ (region 0 0 x).state = .filling ∧
      (region 0 0 x).lastOp = some 0 ∧ 0 + nsT (par0 .corrSealWait x) ≤ x.time.now ∧ (region 0 0 x).integration % 2 = 0) ∧
    (let x := advance (sealWait - 1) touched0
     (region 0 0 x).lastOp = some 0 ∧ x.time.now < 0 + nsT (par0 .corrSealWait x)) ∧
    (advance 0 s2).data.snapshot = none ∧ (advance 0 s2).plan.running = some p1 ∧
    (∀ c ∈ [0], c ∈ p1.channels) ∧
    (let x := advance 0 (running (withPar .corrSnapBytes 0 (2 ^ 30) p1) snapping)
     x.data.snapshot = some ⟨0, [0], 0, none⟩ ∧ snapReady x = some (withPar .corrSnapBytes 0 (2 ^ 30) p1, 0, 0)) ∧
    (advance 0 s0).plan.running = none ∧ (advance 0 touched0).plan.running = some p1 := by
  repeat' refine And.intro ?_ ?_
  all_goals decide +kernel

theorem takes_array : ∀ typ ∈ [0x0206, 0x0207, 0x0302, 0x0303], takes typ (advance 0 s2) = true ∧ takes typ (advance 0 snapping) = true ∧
    takes typ (advance 0 s0) = true := by decide +kernel

/-- The module with its two banks of weights. -/
def banked (a b : Bank) (begun : Nat := 0) : State := { s2 with weir := { s2.weir with banks := ⟨[a, b], rfl⟩, begun := begun } }

theorem test_banks :
    (1024 % 1024 = 0 ∧ 1023 % 1024 ≠ 0) ∧
    (let x := advance 0 (banked ⟨.inForce, 0, []⟩ ⟨.free, 0, []⟩ 1024)
     (bank 1 x).state = .free ∧ (bank 0 x).state = .inForce ∧ bankWriting 1 x = false ∧ 0 < x.weir.begun ∧ x.weir.begun ≤ 1024) ∧
    (let x := advance 0 (banked ⟨.armed, 1024, []⟩ ⟨.free, 0, []⟩)
     (bank 1 x).state = .free ∧ (bank 0 x).state = .armed ∧ takes 0x0303 x = true ∧ takes 0x0302 x = true) ∧
    (let x := advance 0 { banked ⟨.inForce, 0, []⟩ ⟨.free, 0, []⟩ with egress := { s2.egress with
        jobs := [⟨1, 1, 0, 0, 0, 0, 0, 0, 0, [], 0, 0, true⟩] } }
     (bank 1 x).state = .free ∧ bankWriting 1 x = true ∧ takes 0x0302 x = true) ∧
    (let y := advanceDies (advance 0 { banked ⟨.draining, 0, []⟩ ⟨.inForce, 0, []⟩ with
        data := { s2.data with dies := .replicate 4 { resetDie with epoch := 1, released := 4 } } })
     (bank 0 y).state = .draining ∧ (∀ d < 4, dieDoneTo (bank 0 y).boundary d y = true) ∧ (bank 1 y).state ≠ .draining) ∧
    (let y := advanceDies (advance 0 (banked ⟨.draining, 1024, []⟩ ⟨.inForce, 0, []⟩))
     (bank 0 y).state = .draining ∧ dieDoneTo (bank 0 y).boundary 0 y = false) := by
  repeat' refine And.intro ?_ ?_
  all_goals decide +kernel

theorem test_beams :
    (let x := advance 0 (with2Die fun d => { d with runs := [{ run0 with weirBusy := [1] }] })
     (∃ r ∈ (die (1 / 2) x).runs, (1 % 2) ∈ r.weirBusy) ∧ (∀ r ∈ (die (0 / 2) x).runs, (0 % 2) ∉ r.weirBusy)) ∧
    bankPlan (advance 0 s0) = none ∧
    (p1.par0 .weirAutoEpoch = 0 ∧ bankPlan (advance 0 s2) = some p1) ∧
    (let p := withPar .weirAutoEpoch 0 1024 (withPar .weirWeightSource 0 1 p1)
     let x := advance 0 (running p s2)
     let k := advance 0 (setCore 63 { core 63 s2 with state := .running } (running p s2))
     bankPlan x = some p ∧ p.par0 .weirAutoEpoch ≠ 0 ∧ p.par0 .weirWeightSource = 1 ∧ kernelCores p x = [] ∧
      kernelCores p k = [63] ∧ bankPlan k = some p ∧ freeBank k = some 1 ∧ epochRefusal 1 1024 k = none ∧ x.weir.lastEpoch = 0 ∧
      (let y := advance (secT 1) (running p s2)
       nextEpoch 0 1024 1024 ≤ tideSc y.time.tide y) ∧
      nextEpoch 0 1024 (tideSc x.time.tide x) = 1024 ∧ freeBank x = some 1 ∧ epochRefusal 1 1024 x = none ∧
      tideSc x.time.tide x < 1024) := by
  repeat' refine And.intro ?_ ?_
  all_goals decide +kernel

/-! ### Zoom, egress and bulk transfers -/

/-- A plan with window 31 on channel 0. -/
def pZ : Plan := withPar .zoomEnable 31 1 p1

/-- A module whose window 31 has processed one sub-block of chunk 0. -/
def zooming (out : Bool) (hold : List ZSource) : State :=
  let s := running pZ s2
  { s with zoom := { s.zoom with
      out := out
      sources := hold
      wins := s.zoom.wins.set 31 { s.zoom.wins.getD 31 ⟨0, 0, 0, 0, [], 0, [], none, 0, [], 0, 0, 0⟩ with epoch := 1 } } }

/-- The collector's copy of chunk 0 of channel 0. -/
def source0 : ZSource := ⟨1, 0, 0, 0, true, []⟩

/-- A zoom block that waits. -/
def zblock0 : ZBlock := ⟨0, 0, 1, 0, []⟩

/-- A module whose window 0 has a block that waits for a slot. -/
def delivering (slots : List Slot) : State :=
  let s := with2Die fun d => { d with slots := slots }
  { s with zoom := { s.zoom with wins := s.zoom.wins.set 0 { win 0 s with waiting := some zblock0 } } }

/-- A module with a gate on output 7. -/
def gated (g : GateS) : State := setOut 7 { resetOut with mode := .gate, gate := g } s2

theorem test_zoom :
    (advance 0 (zooming true [])).zoom.out = true ∧
    (let x := advance 0 (zooming false [source0])
     domain 32 x = .on ∧ x.zoom.out = false ∧ (sourceWins 0 x).1 = [(31, pZ)] ∧
      sourceBlock pZ 0 (win 31 (sourceWins 0 x).2).next (sourceWins 0 x).2 = some source0 ∧
      (win 31 (sourceWins 0 x).2).pos < min 1 pZ.s ∧ pZ.s ≤ 4096 ∧ 0 < pZ.s) ∧
    (win 1 (advance 0 s2)).waiting = none ∧
    (let x := advance 0 (delivering [Slot.empty])
     (win 0 x).waiting = some zblock0 ∧ collectorFor (zblock0.z % 4) x = 0 ∧ (die 0 x).freeSlots = [0] ∧
      (die 0 x).stopped = false ∧ (∀ v ∈ (die 0 x).slots, v.state ≠ .zoom) ∧ firstForDie zblock0.z 0 x = true) ∧
    (let x := advance 0 (delivering [])
     (win 0 x).waiting = some zblock0 ∧ (die (collectorFor (zblock0.z % 4) x) x).freeSlots = []) ∧
    (let x := advance 5 (gated ⟨false, [9, 5], [7, 5], 0⟩)
     earliest (out 7 x).gate.assertAt = some 5 ∧ (out 7 x).mode = .gate ∧ (5 : Nat) ≤ x.time.tide ∧
      earliest (out 7 x).gate.deassertAt = some 5 ∧ (∀ k ∈ (out 7 x).gate.deassertAt, 5 ≤ k) ∧
      (∀ k ∈ (out 7 x).gate.assertAt, 5 ≤ k)) ∧
    (let x := advance 5 (gated ⟨false, [5], [4], 0⟩)
     earliest (out 7 x).gate.assertAt = some 5 ∧ (∃ k ∈ (out 7 x).gate.deassertAt, k < 5)) ∧
    (let x := advance 5 (gated ⟨true, [4], [5], 0⟩)
     earliest (out 7 x).gate.deassertAt = some 5 ∧ (∃ k ∈ (out 7 x).gate.assertAt, k < 5)) ∧
    (advance 4 (gated ⟨false, [9, 5], [5], 0⟩)).time.tide < 5 := by
  repeat' refine And.intro ?_ ?_
  all_goals decide +kernel

/-- A packet of stream 0. -/
def packet0 : Packet := ⟨0, 0, [], .none, none, none⟩

/-- The module with its egress changed. -/
def withEgress (f : EgressS → EgressS) : State := { s2 with egress := f s2.egress }

/-- The module whose port H0 came down at instant 0. -/
def h0Down (been : Bool) : State := { s2 with hostLinks := s2.hostLinks.set 0 ⟨false, 0, been, false⟩ }

theorem test_packets :
    waitingPacket 1 (advance 0 (withEgress fun e => { e with queue := [packet0] })) = none ∧
    waitingPacket 0 (advance 0 (withEgress fun e => { e with queue := [packet0] })) = some packet0 ∧
    (let x := advance 0 (setPar .egressDestIp 0 0 1 (setPar .egressDestMac 0 0 1 s2))
     0 ∈ streamPorts 0 x ∧ hostUp 0 x = true ∧ egressOn x = true ∧ par .egressDestIp (streamInst 0) 0 x ≠ 0 ∧
      par .egressDestMac (streamInst 0) 0 x ≠ 0) ∧
    (advance 0 s2).zoom.records = [] ∧
    (let s : State := { s2 with zoom := { s2.zoom with records := [(0, [])] } }
     (advance (msT 1 - 1) s).zoom.records = [(0, [])] ∧ (advance (msT 1 - 1) s).time.now < 0 + msT 1 ∧
      0 + msT 1 ≤ (advance (msT 1) s).time.now ∧ egressOn (advance (msT 1) s) = true) ∧
    (let x := advance 0 s2
     domain 38 x = .on ∧ (hostLink 0 x).up ≠ false ∧ (∀ w ∈ x.zcp.waiting, w.why = 7 → w.unit ≠ 38) ∧ hostUp 0 x = true) ∧
    (let x := advance 0 (h0Down true)
     (hostLink 0 x).up = false ∧ hostLinkLost 0 x = false ∧ hostUp 0 x = false) ∧
    hostLinkLost 0 (advance (secT 1) (h0Down true)) = true ∧
    hostLinkLost 0 (advance (secT 2 - 1) (h0Down false)) = false ∧
    hostLinkLost 0 (advance (secT 2) (h0Down false)) = true := by
  repeat' refine And.intro ?_ ?_
  all_goals decide +kernel

/-- A unit of stream 0 of one packet. -/
def unit0 : EUnit :=
  let x : Piece := ⟨0, 0, 0, 0, 0, 0, 0, 0, []⟩
  ⟨⟨0, 0, 0, 1, 0⟩, x, [x], true, .none, none⟩

/-- A compressor's job with that unit. -/
def comp0 (order : Nat) : CompJob := ⟨unit0, 0, order, none, 0, 0⟩

/-- A plan that compresses stream 0. -/
def pC : Plan := withPar .egressCompress 0 1 p1

theorem test_compressors :
    (advance 0 s2).egress.ready = [] ∧
    (let x := advance 0 (running pC (withEgress fun e => { e with ready := [comp0 0] }))
     x.egress.ready = [comp0 0] ∧ egressOn x = true ∧ streamPar .egressCompress unit0.head.stream 0 x ≠ 0 ∧ idleComp x = some 0) ∧
    (let x := advance 0 (running pC (withEgress fun e => { e with ready := [comp0 0], comps := .replicate 16 (some (comp0 0)) }))
     x.egress.ready = [comp0 0] ∧ idleComp x = none) ∧
    (let x := advance 0 (withEgress fun e => { e with ready := [comp0 0], comps := .replicate 16 (some (comp0 0)) })
     x.egress.ready = [comp0 0] ∧ streamPar .egressCompress unit0.head.stream 0 x = 0 ∧ streamInComp unit0.head.stream x = true) ∧
    (let x := advance 0 (withEgress fun e => { e with ready := [comp0 0] })
     streamPar .egressCompress unit0.head.stream 0 x = 0 ∧ streamInComp unit0.head.stream x = false) ∧
    (let x := advance 0 (withEgress fun e => { e with comps := (e.comps.set 0 (some (comp0 1))).set 15 (some (comp0 0)) })
     x.egress.comps.getD 0 none = some (comp0 1) ∧ oldestOfStream (comp0 1) x = false ∧ x.egress.comps.getD 15 none = some (comp0 0) ∧
      oldestOfStream (comp0 0) x = true ∧ x.egress.comps.getD 1 none = none) ∧
    (let x := advance 0 (withEgress fun e => { e with comps := e.comps.set 0 (some (comp0 0)) })
     let items := (compressUnit 0 0 unit0.payload).1
     x.egress.comps.getD 0 none = some (comp0 0) ∧ oldestOfStream (comp0 0) (countHold x 0) = true ∧
      items.flatten.length ≤ 0 + (chainPut 0 items 0 (countHold x 0)).1) ∧
    (let u : EUnit := { unit0 with pieces := [⟨0, 0, 0, 0, 0, 0, 0, 0, [7]⟩] }
     let x := advance 0 (setPar .egressStagingBuffers 0 0 0 (withEgress fun e => { e with comps := e.comps.set 0 (some { comp0 0 with unit := u }) }))
     x.egress.comps.getD 0 none = some { comp0 0 with unit := u } ∧ oldestOfStream { comp0 0 with unit := u } x = true ∧
      (let items := (compressUnit u.whole.fmt 0 u.payload).1
       0 + (chainPut 0 items 0 (countHold x 0)).1 < items.flatten.length)) ∧
    (let x := advance (nsT (par0 .egressTelemetryPeriod s2)) s2
     x.boot.stage = .ready ∧ x.egress.telemetryAt + nsT (par0 .egressTelemetryPeriod x) ≤ x.time.now ∧ egressOn x = true) ∧
    (let s : State := { s2 with power := { s2.power with domains := s2.power.domains.set 39 .off } }
     egressOn (advance 0 s) = false ∧ (advance 0 s).boot.stage = .ready) ∧
    (let x := advance 99 (setPar .zcpTelemetryPeriod 0 0 1 s2)
     (session 0 x).isOpen = true ∧ par .zcpTelemetryPeriod 0 0 x ≠ 0 ∧ x.time.now < (session 0 x).telemetryAt + nsT (par .zcpTelemetryPeriod 0 0 x)) ∧
    (let x := advance (nsT 1) (setPar .zcpTelemetryPeriod 0 0 1 s2)
     (session 0 x).telemetryAt + nsT (par .zcpTelemetryPeriod 0 0 x) ≤ x.time.now) ∧
    (let x := advance 0 s2
     par .zcpTelemetryPeriod 3 0 x = 0) := by
  repeat' refine And.intro ?_ ?_
  all_goals decide +kernel

/-- A decompression job to a bulk target. -/
def job1 (dest inLen outLen : Nat) (started : Bool) : DecompJob := ⟨dest, 0, 0, inLen, outLen, 0, 0, 0, 0, [], 0, 0, started⟩

theorem test_decompression :
    (let x := advance 0 s2
     x.egress.jobs = [] ∧ x.egress.decompOut = false ∧ jobRefusal (job1 4 1 1024 false) x = none ∧ jobRefusal (job1 4 1 1025 false) x = some 1 ∧
      jobRefusal (job1 5 1 1024 false) x = some 2) ∧
    (advance 0 (withEgress fun e => { e with jobs := [job1 4 1 1024 true] })).egress.jobs = [job1 4 1 1024 true] ∧
    (advance 0 (withEgress fun e => { e with jobs := [job1 4 1 1024 true], decompOut := true })).egress.decompOut = true := by
  repeat' refine And.intro ?_ ?_
  all_goals decide +kernel

/-- What a command of slot 0 says to its mailbox. -/
theorem cmd_ctx (typ : Nat) (p : List Byte) (ht : typ < 4096) (hp : p.length ≤ 8192) :
    (cmd typ p).ctx = { slot := 0, seq := 1, typ := typ, port := 0, payload := p } := by
  obtain ⟨f1, f2, f3, f4, -⟩ := signed_fields 0 1 typ 0 p false (by omega) (by omega) ht (by omega) hp
  have e1 : (cmd typ p).session = 0 := f1
  have e2 : (cmd typ p).typ = typ := f2
  have e4 : (cmd typ p).seq = 1 := f4
  have e5 : (cmd typ p).payload = p := signed_payload ..
  show Ctx.mk _ _ _ _ _ = _
  rw [e1, e2, e4, e5]
  rfl

/-- The descriptor of a transfer of identifier 1: target with direction, instance, length. -/
def descOf (target inst len : Nat) : List Byte :=
  [0, 1, .ofNat 8 target, .ofNat 8 inst] ++ natBE 8 0 ++ natBE 8 len ++ List.replicate 12 0

/-- The transfer that an OPEN with that descriptor asks for. -/
def asked (target inst len : Nat) (x : State) : Bulk :=
  readOpen { slot := 0, seq := 1, typ := 0x0A02, port := 0, payload := descOf target inst len } x

/-- Why a descriptor is bad. -/
def askedBad (target inst len : Nat) (x : State) : Bool :=
  openBad { slot := 0, seq := 1, typ := 0x0A02, port := 0, payload := descOf target inst len } (asked target inst len x)

/-- A live transfer into flash staging. -/
def bulk1 (id : Nat) (inbound : Bool) (got : List (Nat × Nat)) : Bulk :=
  ⟨0, id, inbound, false, 5, 0, 0, 16, 0, 0, 0, 1, 0, .open, got, [], 0, 0, [], false⟩

/-- The module with those transfers. -/
def bulking (l : List Bulk) : State := { s2 with zcp := { s2.zcp with bulks := l } }

theorem test_bulk_open :
    (let x := advance 0 s2
     takes 0x0A02 x = true ∧ takes 0x0802 x = true ∧ (descOf 5 0 16).length = 32 ∧ askedBad 0x15 0 16 x = true ∧
      askedBad 5 0 16 x = false ∧ ownerRefusal (asked 5 0 16 x).inbound (asked 5 0 16 x).target (asked 5 0 16 x).inst x = none ∧
      rangeOutside (asked 5 0 16 x) x = false ∧ (asked 5 0 16 x).inbound = true ∧ (asked 5 0 16 x).id = 1 ∧
      rangeOutside (asked 5 0 (2 ^ 40) x) x = true ∧ askedBad 5 0 (2 ^ 40) x = false ∧
      askedBad 4 63 16 x = false ∧ ownerRefusal (asked 4 63 16 x).inbound (asked 4 63 16 x).target (asked 4 63 16 x).inst x = some 0x4A ∧
      askedBad 0x86 0 16 x = false ∧ ownerRefusal (asked 0x86 0 16 x).inbound (asked 0x86 0 16 x).target (asked 0x86 0 16 x).inst x = none ∧
      rangeOutside (asked 0x86 0 16 x) x = false ∧ (asked 0x86 0 16 x).inbound = false ∧
      beAt (descOf 4 63 16) 2 1 % 16 = 4 ∧ beAt (descOf 5 0 16) 2 1 % 16 ≠ 4) ∧
    (let x := advance 0 (bulking [bulk1 1 true []])
     takes 0x0A02 x = true ∧ askedBad 5 0 16 x = false ∧ ((x.zcp.bulks.filter Bulk.live).filter (·.slot == 0)).length < 4 ∧
      (∃ w ∈ (x.zcp.bulks.filter Bulk.live).filter (·.slot == 0), w.id = (asked 5 0 16 x).id)) ∧
    (let x := advance 0 (bulking ((List.range 4).map fun i => bulk1 (i + 2) true []))
     takes 0x0A02 x = true ∧ askedBad 5 0 16 x = false ∧ 4 ≤ ((x.zcp.bulks.filter Bulk.live).filter (·.slot == 0)).length) := by
  repeat' refine And.intro ?_ ?_
  all_goals decide +kernel

/-- The OPEN command with that descriptor reads as it. -/
theorem opens_ctx (target inst len : Nat) : (cmd 0x0A02 (descOf target inst len)).ctx =
    { slot := 0, seq := 1, typ := 0x0A02, port := 0, payload := descOf target inst len } :=
  cmd_ctx _ _ (by decide) (by simp [descOf, natBE_length])

set_option maxRecDepth 100000 in
theorem test_bulk_data : (let x := advance 0 (bulking [bulk1 1 true []])
    Accepted 0x0A03 (cmd 0x0A03 [0, 1, 0, 0, 0, 0, 0, 0, 9]) x ∧
      bulkOf 0 (beAt ([0, 1, 0, 0, 0, 0, 0, 0, 9] : List Byte) 0 2) x = some (bulk1 1 true [])) := by
  refine ⟨cmd_accepted 0x0A03 _ _ (by decide) (by decide) (Or.inr ?_), by decide⟩
  have e := cmd_ctx 0x0A03 [0, 1, 0, 0, 0, 0, 0, 0, 9] (by decide) (by decide)
  have e1 : (cmd 0x0A03 [0, 1, 0, 0, 0, 0, 0, 0, 9]).session = 0 := congrArg Ctx.slot e
  have e2 : (cmd 0x0A03 [0, 1, 0, 0, 0, 0, 0, 0, 9]).payload = [0, 1, 0, 0, 0, 0, 0, 0, 9] := congrArg Ctx.payload e
  unfold closedBulk
  rw [e1, e2]
  simp only [Bool.and_eq_false_iff]
  exact Or.inr (by decide)

theorem test_bulk_rest :
    (let x := advance 0 (bulking [bulk1 1 true [], bulk1 2 true [(0, 16)], bulk1 3 false [], { bulk1 4 true [] with closing := [(1, 0)] }])
     (∀ typ ∈ [0x0A04, 0x0A05, 0x0A06], takes typ x = true) ∧ bulkOf 0 9 x = none ∧ bulkOf 0 1 x = some (bulk1 1 true []) ∧
      bulkOf 0 2 x = some (bulk1 2 true [(0, 16)]) ∧ bulkOf 0 3 x = some (bulk1 3 false []) ∧ (bulk1 1 true []).live = true ∧
      (bulk1 1 true []).missing.2 ≠ 0 ∧ (bulk1 2 true [(0, 16)]).missing.2 = 0 ∧ 15 + 1 ≤ (bulk1 3 false []).length ∧
      (bulk1 3 false []).length < 16 + 1 ∧ bulkOf 0 4 x = some { bulk1 4 true [] with closing := [(1, 0)] } ∧
      x.time.now < 0 + nsT (par0 .zcpBulkWait x)) ∧
    (let x := advance (nsT (par0 .zcpBulkWait s2)) (bulking [{ bulk1 4 true [] with closing := [(1, 0)] }])
     0 + nsT (par0 .zcpBulkWait x) ≤ x.time.now) ∧
    (let x := advance (nsT (par0 .zcpBulkIdle s2)) (bulking [bulk1 1 true []])
     (bulk1 1 true []).lastAt + nsT (par0 .zcpBulkIdle x) ≤ x.time.now) ∧
    (let x := advance (nsT (par0 .zcpBulkIdle s2) - 1) (bulking [bulk1 1 true []])
     x.time.now < (bulk1 1 true []).lastAt + nsT (par0 .zcpBulkIdle x)) := by
  repeat' refine And.intro ?_ ?_
  all_goals decide +kernel

/-! ### Plans -/

/-- The module with all its DRAM channels online. -/
def s4 : State := { s2 with mem := { s2.mem with list := List.range 128, chans := .replicate 128 ⟨.online, 0, 0, 0, 0, 0, 0⟩ } }

/-- Whether the plan fails a budget. -/
def failsOf (p : Plan) (x : State) : Nat := (p.figures (transition x p) x).fails

/-- A plan of too many bytes for a module without DRAM. -/
def shedBy (policy : Nat) : Plan := withPar .planShedPolicy 0 policy p1

theorem test_outcomes :
    (withPar .corrPaths 0 127 p1).validity ≠ 0 ∧ p1.validity = 0 ∧ failsOf p1 (advance 0 s4) = 0 ∧
    (∀ n < 3, (shedBy n).validity = 0 ∧ failsOf (shedBy n) (advance 0 s2) ≠ 0 ∧ (shedBy n).par0 .planShedPolicy = n) ∧
    p1.channels.Nodup := by
  repeat' refine And.intro ?_ ?_
  all_goals decide +kernel

/-- The next plan that a commit to the boundary named leaves. -/
def staged1 (x : State) : Option Plan := (admitPlan (stagedPlan x) (nextPlanId x) (transition x) false x).plan

/-- The plan that waits for its boundary at 1,048,576. -/
def p2 : Plan := { p1 with id := 2, epoch := 2, commit := 2, sc := 1048576 }

/-- The module with a plan committed. -/
def committed (passed : Bool) : State := { s4 with plan := { s4.plan with next := some p2, pointPassed := passed } }

/-- The tide time of that boundary. -/
def at2 : Nat := scTide p2.sc s4

theorem test_plans :
    (let x := advance 0 s4
     (∀ typ ∈ [0x0202, 0x0203, 0x0204, 0x0205], takes typ x = true) ∧ x.plan.next = none ∧ (staged1 x).isSome = true ∧
      (∀ p ∈ staged1 x, (nextIntegration p x).isSome = true ∧ boundaryOk p 16384 x = true ∧ leadOk 16384 x = false ∧
        boundaryOk p (2 ^ 40) x = true ∧ leadOk (2 ^ 40) x = true ∧ boundaryOk p 1 x = false)) ∧
    (let x := advance 0 s2
     takes 0x0203 x = true ∧ x.plan.next = none ∧ staged1 x = none) ∧
    (let x := advance 0 { s4 with plan := { s4.plan with running := none } }
     takes 0x0203 x = true ∧ ∀ p ∈ staged1 x, nextIntegration p x = none) ∧
    (let x := advance 0 (committed false)
     takes 0x0203 x = true ∧ takes 0x0204 x = true ∧ x.plan.next = some p2 ∧ x.plan.pointPassed = false ∧
      x.time.tide + msT 20 < scTide p2.sc x) ∧
    (let x := advance (at2 - msT 20) (committed false)
     takes 0x0204 x = true ∧ x.plan.next = some p2 ∧ x.plan.pointPassed = false ∧ scTide p2.sc x ≤ x.time.tide + msT 20) := by
  repeat' refine And.intro ?_ ?_
  all_goals decide +kernel

theorem test_boundaries :
    (advance 0 s4).plan.next = none ∧ (advance 0 s4).plan.shedDue = none ∧
    (let x := advance (at2 - 1) (committed true)
     x.plan.next = some p2 ∧ x.plan.pointPassed = true ∧ x.time.tide < scTide p2.sc x) ∧
    (let x := advance at2 (committed true)
     x.plan.next = some p2 ∧ x.plan.pointPassed = true ∧ scTide p2.sc x ≤ x.time.tide ∧ sWf keyReset p2.cfg = true) ∧
    (let s : State := { s4 with plan := { s4.plan with shedDue := some p2 } }
     (advance at2 s).plan.shedDue = some p2 ∧ scTide p2.sc (advance at2 s) ≤ (advance at2 s).time.tide ∧
      (advance (at2 - 1) s).time.tide < scTide p2.sc (advance (at2 - 1) s)) := by
  repeat' refine And.intro ?_ ?_
  all_goals decide +kernel

/-! ### Sluice cores -/

/-- Core 63 with a program and a state, of the host's. -/
def coreWith (f : Core → Core) : State := setCore 63 (f { resetCore with state := .running, host := true }) s2

/-- The command that runs the NOP row there. -/
def runs63 : Instr := .nop 63 .none

/-- R320's words of each row, with an immediate for LONG class. -/
def rowWords : List ((Nat × Nat) × Nat) :=
  ((List.range 5).map fun op => ((1, op), 2 ^ 26 + op * 2 ^ 23)) ++ ((List.range 15).map fun op => ((2, op), 2 ^ 27 + op * 2 ^ 22)) ++
  ((List.range 8).map fun op => ((3, op), 3 * 2 ^ 26 + op * 2 ^ 22)) ++ [((9, 0), 9 * 2 ^ 26), ((4, 0), 4 * 2 ^ 26), ((5, 0), 5 * 2 ^ 26),
    ((8, 0), 8 * 2 ^ 26 + 2 ^ 20)] ++
  ((List.range 5).map fun op => ((6, op), 6 * 2 ^ 26 + op * 2 ^ 23)) ++ ((List.range 6).map fun op => ((7, op), 7 * 2 ^ 26 + op * 2 ^ 22)) ++
  ((List.range 4).map fun op => ((15, op), 2 ^ 31 + 15 * 2 ^ 26 + op * 2 ^ 22)) ++
  ((List.range 10).map fun op => ((0, op), op * 2 ^ 22 + if op = 4 then 1 else 0))

/-- Core 63 about to run one word; P1 and the alternate bank are as RETI and FTAP need them. -/
def about (row : Nat × Nat) (w : Nat) : Core :=
  { resetCore with state := .running, host := true, prog := [(0, w)], inHandler := row == (0, 5) }

/-- A core whose bundle issues without a trap. -/
def issues (row : Nat × Nat) (c : Core) : Bool :=
  match fetchBundle c.prog c.pc with
  | some b => let m := memoryWord 63 c b 0 false; b.has row && nextOk c b m.flow && m.trap.isNone
  | none => false

/-- Every row of the sluice's table completes on some bundle. -/
theorem test_rows_issue : ∀ x ∈ rowWords, issues x.1 (about x.1 x.2) = true := by decide +kernel

theorem test_issue :
    sluiceInstr runs63 = some ((0, 0), 63, .none) ∧
    (core 63 (advance 0 s2)).state ≠ .running ∧
    (let s := coreWith id
     (core 63 s).state = .running ∧ (core 63 s).host = true ∧
      ∃ b, fetchBundle (core 63 s).prog (core 63 s).pc = some b ∧ b.has (0, 0) = true ∧ b.has (1, 0) = false ∧
        (memoryWord 63 (core 63 s) b 0 false).trap = none) ∧
    (core 63 (coreWith fun c => { c with host := false })).host = false ∧
    fetchBundle (core 63 (coreWith fun c => { c with prog := [(0, 10 * 2 ^ 22)] })).prog 0 = none ∧
    (let c := core 63 (coreWith fun c => { c with prog := [(0, 2 ^ 22 + 2 ^ 13)] })
     ∃ b, fetchBundle c.prog c.pc = some b ∧ b.has (0, 1) = true ∧ nextOk c b (memoryWord 63 c b 0 false).flow = false) ∧
    (let c := core 63 (coreWith fun c => { c with prog := [(0, 5 * 2 ^ 22)] })
     ∃ b, fetchBundle c.prog c.pc = some b ∧ b.has (0, 5) = true ∧ nextOk c b (memoryWord 63 c b 0 false).flow = true ∧
       (memoryWord 63 c b 0 false).trap = some 5) := by
  refine ⟨rfl, by decide +kernel, ⟨by decide +kernel, by decide +kernel, _, rfl, by decide +kernel, by decide +kernel, by decide +kernel⟩, by decide +kernel,
    by decide +kernel, ⟨_, rfl, by decide +kernel, by decide +kernel⟩, ⟨_, rfl, by decide +kernel, by decide +kernel, by decide +kernel⟩⟩

/-- The worked kernel of chapter 10: MAC A0, D16, D16 with LD.H D18, [P0]+, and LOOP with ROT, COUNT 254 and END 2. -/
theorem test_words : wRow 0x84842000 = (1, 1) ∧ wRow 0x10091000 = (4, 0) ∧ wRow 0x0123F802 = (0, 4) ∧
    (let c := resetCore.setReg (.p false 0) 0x1000
     fetchBundle [(0, 0x84842000), (1, 0x10091000)] 0 = some ⟨some 0x84842000, some 0x10091000, 1, 0, 2, false⟩ ∧
      (computeWord c 0x84842000).wr.map (·.1) = [.a false 0] ∧
      (loadWord c 0x10091000 0).slot.wr.map (fun w => (w.1, w.2.1)) = [(.rot 2, 0), (.p false 0, 0x1002)] ∧
      (ctrlWord c 0x0123F802 7 8 false).loop = some (8, 9, 65536 + 254)) := by
  repeat' refine And.intro ?_ ?_
  all_goals decide +kernel

theorem test_pointers :
    (let c := resetCore.setReg (.cr 16) (1 + 6 * 2 ^ 4)
     c.reg (.cr 16) % 4 = 1 ∧ field (c.reg (.cr 16)) 4 17 = 6 ∧ c.p 0 < 2 ^ 32) ∧
    (let c := resetCore.setReg (.cr 31) (2 + 16 * 2 ^ 21)
     c.reg (.cr (16 + 15)) % 4 = 2 ∧ field (c.reg (.cr (16 + 15))) 21 5 = 16) ∧
    (let c := resetCore.setReg (.p false 0) 0x1FFFF
     c.p 0 < 0x20000 ∧ c.p 0 % 2 ≠ 0) ∧
    0x20000 ≤ (resetCore.setReg (.p false 0) 0x20000).p 0 ∧
    (resetCore.inHandler = false ∧ resetCore.reg (.cr 2) % 65536 = 0 ∧ (resetCore.setReg (.cr 2) 1).reg (.cr 2) % 65536 ≠ 0 ∧
      resetCore.d 31 < 2 ^ 16) := by
  repeat' refine And.intro ?_ ?_
  all_goals decide +kernel

theorem test_sluice_mailbox :
    (let x := advance 0 (coreWith fun c => { c with state := .loadable })
     (∀ typ ∈ [0x0803, 0x0804, 0x0805, 0x0806], takes typ x = true) ∧ (core 63 x).host = true ∧ (core 63 x).state = .loadable ∧
      (core 63 x).lastNI = false ∧ (core 63 x).newHost = none ∧ (core 0 x).host = false ∧ 63 < 64) ∧
    (let x := advance 0 (coreWith fun c => { c with lastNI := true })
     takes 0x0803 x = true ∧ takes 0x0804 x = true ∧ (core 63 x).state = .running ∧ (core 63 x).lastNI = true) ∧
    (let x := advance 0 { s2 with sluice := { s2.sluice with cores := .replicate 64 { resetCore with host := true } } }
     takes 0x0806 x = true ∧ ∀ n < 64, (core n x).host = true) ∧
    (let x := advance 0 { touched0 with data := { touched0.data with
        regions := touched0.data.regions.set 0 { touched0.data.regions.getD 0 Region.empty with state := .sealed } } }
     takes 0x0806 x = true ∧ (core 0 x).host = false ∧ domain 33 x = .on ∧ x.plan.running = some p1 ∧ (region 0 0 x).state = .sealed) ∧
    (let x := advance 0 touched0
     takes 0x0806 x = true ∧ x.plan.running = some p1 ∧ (region 0 0 x).state ≠ .sealed) ∧
    (let x := advance 0 { s2 with power := { s2.power with domains := s2.power.domains.set 33 .off } }
     takes 0x0806 x = true ∧ domain 33 x ≠ .on ∧ domain 33 x ≠ .tripped ∧ stopped x = false) := by
  repeat' refine And.intro ?_ ?_
  all_goals decide +kernel

/-- A tap that owes core 63 two records. -/
def tap0 : TapDue := ⟨63, 3, 0, 1, 0, 0, 2⟩

theorem test_core_events :
    (let x := advance 0 (coreWith fun c => { c with lastIE := true, lastPend := 4, lastEN := 4 })
     (core 63 x).recognises = true) ∧
    (let x := advance 0 s2
     (core 63 x).recognises = false ∧ (core 63 x).state = .off ∧ moverCore 7 x = none ∧ tapNext 63 x = none ∧ (core 63 x).stopSince = none ∧
      (core 63 x).state ≠ .trapped) ∧
    (let x := advance 0 (coreWith fun c => { c with state := .waiting })
     (core 63 x).state = .waiting ∧ (core 63 x).state ≠ .off ∧ (core 63 x).moverQueue.length < 8) ∧
    (let x := advance 0 (coreWith fun c => { c with moverQueue := List.replicate 8 0 })
     8 ≤ (core 63 x).moverQueue.length ∧ moverCore 7 x = some 63 ∧ masterIssues 9 x = true ∧
      moverHeld 63 x = false) ∧
    (let x := advance 0 (let s := coreWith fun c => { c with moverQueue := [0], data := Memory.write [] 0 ([0, 0, 0, 0, 3, 0, 0, 0]) }
       setStack 0 { stack 0 s with outage := some ⟨0, 0, 0, none⟩ } s)
     moverCore 7 x = some 63 ∧ moverHeld 63 x = true) ∧
    (let x := advance 0 (let s := coreWith fun c => { c with moverQueue := [0] }
       { s with power := { s.power with domains := s.power.domains.set 33 .off } })
     moverCore 7 x = some 63 ∧ masterIssues 9 x = false) ∧
    (let x := advance 0 (let s := coreWith id; { s with sluice := { s.sluice with taps := [tap0] } })
     tapNext 63 x = some tap0) ∧
    (let x := advance (msT 1) (coreWith fun c => { c with stopSince := some 0 })
     (core 63 x).stopSince = some 0 ∧ 0 + msT 1 ≤ x.time.now ∧ (core 63 x).newHost = none) ∧
    (advance (msT 1 - 1) (coreWith fun c => { c with stopSince := some 0 })).time.now < 0 + msT 1 ∧
    (let x := advance 0 (coreWith fun c => { c with host := false, state := .trapped, trapAt := some 0, again := true })
     (core 63 x).host = false ∧ (core 63 x).state = .trapped ∧ (core 63 x).left = false ∧ (core 63 x).again = true) ∧
    (core 63 (advance 0 (coreWith fun c => { c with host := false, state := .trapped }))).again = false ∧
    (core 63 (advance 0 (coreWith fun c => { c with trapAt := some 0 }))).trapAt = some 0 ∧
    (let c := resetCore.setReg (.cr 36) 1024
     c.tapFill + 1024 ≤ c.reg (.cr 36) ∧ ¬ (c.tapFill + 1025 ≤ c.reg (.cr 36))) := by
  repeat' refine And.intro ?_ ?_
  all_goals decide +kernel

/-- The first bundle of the four-tap filter of chapter 10. -/
theorem test_ftap : (let c := { (resetCore.setReg (.p false 1) 0x406).setReg (.p false 2) 0x800 with data := (Memory.write (Memory.write [] 0x406 [2, 0]) 0x800 [1, 0]) }
    ftapWord c 0x20212000 0 = { MemDo.nop with
      slot := ⟨[(.a false 0, 2, 3), (.p false 2, 0x802, 1), (.p false 1, 0x404, 1)], false, false⟩, store := some (0x408, [2, 0]) } ∧
    ftapWord c 0x20210000 0 = { MemDo.nop with
      slot := ⟨[(.a false 0, 2, 3), (.p false 2, 0x802, 1), (.p false 1, 0x404, 1)], false, false⟩, store := some (0x408, [2, 0]) }) := by decide +kernel

/-! ### Timing -/

/-- A PTP message of domain 0 with all other fields zero. -/
def pmsg (typ flags src : Byte) : List Byte :=
  [typ, 0x12, 0, 0, 0, 0, flags, 0] ++ List.replicate 21 0 ++ [src] ++ List.replicate 34 0

/-- That message as it arrives. -/
def pin_ (typ flags src : Byte) : PtpIn := ⟨true, 0, 0, 0, 72, 0, 0, pmsg typ flags src⟩

/-- The READY module, I0 up, with a receiver port. -/
def heard (q : PtpRx) : State := setRxPort 0 q s1

/-- A transmitter with the source given. -/
def selOf (src cls : Nat) : PtpSel := ⟨src, ⟨0, cls, 0, 0, 0, 1, 0⟩, 0, 0, 0, 0⟩

/-- A module that answered so many in the first second. -/
def answeredBy (port n : Nat) : State := setTxPort port ⟨0, 0, List.replicate n 0⟩ s1

theorem test_transmitters :
    txRuns 1 (advance 0 s1) = false ∧
    (let x := advance 0 s1
     txRuns 0 x = true ∧ par0 .timingPtpTxDomain x < 256 ∧ (txPort 0 x).syncSeq < 2 ^ 16 ∧ ptpSound (pin_ 1 0 0).bytes = true ∧
      ptpSound (pmsg 1 0 0).tail = false ∧ ptpType (pin_ 1 0 0).bytes = 1 ∧ ptpDomain (pin_ 1 0 0).bytes = par0 .timingPtpTxDomain x ∧
      isP2P 0 x = false ∧ (inLastSecond (txPort 0 x).answers x).length < 128 ∧ portUp 1 x = false ∧
      portUp 129 x = true ∧ portUp 0 x = true ∧ (pin_ 1 0 0).fcsOk = true ∧ (pin_ 1 0 0).len ≤ 9216) ∧
    (let x := advance 0 (answeredBy 0 128)
     txRuns 0 x = true ∧ 128 ≤ (inLastSecond (txPort 0 x).answers x).length) ∧
    (let x := advance 0 (setPar .timingPtpDelayMech 0 0 1 (setPar .timingPtpDelayMech 129 0 1 s1))
     timingRuns x = true ∧ portUp 0 x = true ∧ portUp 129 x = true ∧ ptpSound (pin_ 2 0 0).bytes = true ∧ ptpType (pin_ 2 0 0).bytes = 2 ∧
      isP2P 0 x = true ∧ isP2P 129 x = true ∧ ptpRuns 0 x = true ∧ ptpRuns 129 x = true ∧ ptpDomain (pin_ 2 0 0).bytes = par .timingPtpRxDomain 129 0 x) := by
  repeat' refine And.intro ?_ ?_
  all_goals decide +kernel

theorem test_receivers :
    (let x := advance 0 s1
     timingRuns x = true ∧ portUp 0 x = true ∧ portUp 128 x = true ∧ ptpSound (pin_ 11 0 1).bytes = true ∧ ptpType (pin_ 11 0 1).bytes = 11 ∧
      ptpDomain (pin_ 11 0 1).bytes = par .timingPtpRxDomain (128 + 0) 0 x ∧ (rxPort 0 x).sel = none ∧ ptpSource (pin_ 11 0 1).bytes = 1) ∧
    betterData (announceData (pmsg 11 0 1)) 1 (selOf 2 9).data 2 = true ∧
    betterData (announceData (pmsg 11 0 3)) 3 { (selOf 2 0).data with gm := 0 } 2 = false ∧
    (let q := { PtpRx.idle with sel := some (selOf 1 0), pendSync := some ⟨0, 0, 0⟩, pathDelay := some (7, 0), syncDiff := some 5 }
     let x := advance 0 (heard q)
     rxPort 0 x = q ∧ hostUp 0 x = true ∧ fromSelected 0 (pmsg 0 2 1) x = true ∧ ptpTwoStep (pmsg 0 2 1) = true ∧ ptpTwoStep (pmsg 0 0 1) = false ∧
      ptpSound (pmsg 0 2 1) = true ∧ fromSelected 0 (pmsg 8 0 1) x = true ∧ ptpType (pmsg 8 0 1) = 8 ∧ ptpSeq (pmsg 8 0 1) = 0 ∧
      q.nextReq < 2 ^ 16 ∧ x.time.now < (selOf 1 0).lastAnnounce + par0 .timingPtpAnnounceTimeout x * logInterval 0 ∧
      x.time.now < (selOf 1 0).lastSync + par0 .timingPtpSyncTimeout x * logInterval 0) ∧
    (let x := advance (secT 10) (heard { PtpRx.idle with sel := some (selOf 1 0) })
     (selOf 1 0).lastAnnounce + par0 .timingPtpAnnounceTimeout x * logInterval 0 ≤ x.time.now ∧
      (selOf 1 0).lastSync + par0 .timingPtpSyncTimeout x * logInterval 0 ≤ x.time.now) ∧
    (let x := advance 0 s1
     hostUp 0 x = true ∧ hostUp (1 - 0) x = true ∧ par0 .timingPtpTcEnable x = 1 ∧ isP2P 128 x = false ∧ isP2P 129 x = false ∧
      tcForwards (ptpType (pmsg 0 0 0)) = true ∧ (x.time.tcHeld.filter fun w => decide (x.time.now < w.2)).length < 32) ∧
    (let x := advance 0 { s1 with time := { s1.time with tcHeld := List.replicate 32 (129, 1) } }
     32 ≤ (x.time.tcHeld.filter fun w => decide (x.time.now < w.2)).length) := by
  repeat' refine And.intro ?_ ?_
  all_goals decide +kernel

/-- The transparent clock forwards what another clock sent. -/
theorem test_other_clock : ∃ src : Byte, ptpSource (pmsg 0 0 src ++ []) / 65536 ≠ Config.clockIdentity % 2 ^ 64 ∨
    ptpSource (([0, 0x12] : List Byte) ++ List.replicate 18 0 ++ [1] ++ List.replicate 43 0) / 65536 ≠ Config.clockIdentity % 2 ^ 64 := by
  refine ⟨0, ?_⟩
  have a : ptpSource (pmsg 0 0 0 ++ []) / 65536 = 0 := by decide +kernel
  have b : ptpSource (([0, 0x12] : List Byte) ++ List.replicate 18 0 ++ [1] ++ List.replicate 43 0) / 65536 = 2 ^ 56 := by decide +kernel
  rw [a, b]
  omega

/-- A Delay_Resp to H0's receiver, its requestingPortIdentity at byte 44. -/
def toMe (typ : Byte) : List Byte := (pmsg typ 0 1).take 44 ++ natBE 10 (portIdentity 128)

theorem beNat_append (a b : List Byte) : beNat (a ++ b) = beNat a * 256 ^ b.length + beNat b := by
  have h : ∀ (l : List Byte) n, l.foldl (fun a b => a * 256 + b.toNat) n = n * 256 ^ l.length + beNat l := by
    intro l
    induction l with
    | nil => intro n; simp [beNat]
    | cons x r ih =>
      intro n
      have e : beNat (x :: r) = x.toNat * 256 ^ r.length + beNat r := by
        show List.foldl _ _ _ = _
        rw [List.foldl_cons, ih]
        simp
      rw [List.foldl_cons, ih, e, List.length_cons, Nat.pow_succ, Nat.add_mul, Nat.mul_assoc, Nat.mul_comm 256]
      omega
  show List.foldl _ _ (a ++ b) = _
  rw [List.foldl_append, h]
  rfl

theorem beNat_natBE : ∀ n v, beNat (natBE n v) = v % 256 ^ n := by
  intro n
  induction n with
  | zero => intro v; simp [natBE, natLE, beNat, Nat.mod_one]
  | succ n ih =>
    intro v
    have e : natBE (n + 1) v = natBE n (v / 256) ++ [BitVec.ofNat 8 v] := by simp [natBE, natLE]
    rw [e, beNat_append, ih]
    simp only [List.length_singleton, Nat.pow_one]
    have : beNat [BitVec.ofNat 8 v] = v % 256 := by simp [beNat]
    rw [this, Nat.pow_succ, Nat.mul_comm (256 ^ n) 256, Nat.mod_mul, Nat.add_comm, Nat.mul_comm]

theorem test_responses :
    beAt (toMe 9) 44 10 = portIdentity (128 + 0) ∧
    (let x := advance 0 (heard { PtpRx.idle with req := some (0, 0), syncDiff := some 5, resp := some (0, 0, 0, 0) })
     timingRuns x = true ∧ hostUp 0 x = true ∧ (rxPort 0 x).req = some (0, 0) ∧ isP2P (128 + 0) x = false ∧ (rxPort 0 x).syncDiff = some 5) ∧
    isP2P (128 + 0) (advance 0 (setPar .timingPtpDelayMech 128 0 1 s1)) = true := by
  refine ⟨?_, by decide +kernel, by decide +kernel⟩
  have h : ((pmsg 9 0 1).take 44).length = 44 := by decide
  show beNat ((((pmsg 9 0 1).take 44 ++ natBE 10 (portIdentity 128)).drop 44).take 10) = _
  have e : ((pmsg 9 0 1).take 44 ++ natBE 10 (portIdentity 128)).drop 44 = natBE 10 (portIdentity 128) := by
    rw [List.drop_append_of_le_length (by omega), List.drop_of_length_le (by omega), List.nil_append]
  rw [e, List.take_of_length_le (Nat.le_of_eq (natBE_length 10 _)), beNat_natBE]
  have k : portIdentity 128 < 2 ^ 64 * 65536 := by
    have m : Config.clockIdentity % 2 ^ 64 < 2 ^ 64 := Nat.mod_lt _ (Nat.two_pow_pos 64)
    show Config.clockIdentity % 2 ^ 64 * 65536 + 129 < _
    generalize Config.clockIdentity % 2 ^ 64 = v at m ⊢
    omega
  exact Nat.mod_eq_of_lt (Nat.lt_of_lt_of_le k (by decide))

/-- A program of one pulse of 1 µs. -/
def prog1 : Prog := ⟨100, 0, usT 1, 1, false, 0, 0, 0, 0, 0, 0, 0⟩

/-- The module with an output. -/
def pulsing (n : Nat) (o : Out) : State := setOut n o s2

theorem test_pulses :
    (let x := advance 100 (pulsing 8 { resetOut with mode := .pulse, prog := some prog1 })
     timingRuns x = true ∧ (out 8 x).mode = .pulse ∧ (out 8 x).prog = some prog1 ∧ prog1.over = false ∧ 100 ≤ x.time.tide ∧
      prog1.notBefore ≤ prog1.start) ∧
    (advance 99 (pulsing 8 { resetOut with mode := .pulse, prog := some prog1 })).time.tide < prog1.start + prog1.next * prog1.period ∧
    (let p := { prog1 with count := 0, period := 1000, notBefore := 101 }
     p.over = false ∧ p.start + p.next * p.period < p.notBefore ∧ p.count = 0) ∧
    (out 0 (advance 0 s2)).pulse = none ∧ (out 0 (advance 0 s2)).prog = none ∧
    (let x := advance 9 (pulsing 8 { resetOut with pulse := some ⟨9, 10, false⟩ })
     timingRuns x = true ∧ (out 8 x).pulse = some ⟨9, 10, false⟩ ∧ 9 ≤ x.time.tide ∧ x.time.now < 10) ∧
    (let x := advance 8 (pulsing 8 { resetOut with pulse := some ⟨9, 10, false⟩ })
     x.time.tide < 9 ∧ x.time.now < 10) ∧
    (let p := { prog1 with start := 0, period := secT 1, markOff := 0, markSrc := 0 }
     let x := advance (secT 1) (pulsing 7 { resetOut with mode := .mark, prog := some { p with notBefore := 0 } })
     timingRuns x = true ∧ (out 7 x).mode = .mark ∧ (out 7 x).prog = some p ∧ p.armed + msT 1 ≤ secT 1) ∧
    (advance 0 s2).boot.stage ≠ .power := by
  repeat' refine And.intro ?_ ?_
  all_goals decide +kernel

/-- The module with output 8's pending parameters. -/
def armable (period width count : Nat) (start : Nat) : State :=
  let pd := fun (i : Item) (v : Nat) (s : State) => ({ s with pend := sPut keyReset s.pend (itemKey i 8 0) v } : State)
  pd .timingOutMode 1 (pd .timingOutPeriod period (pd .timingOutWidth width (pd .timingOutCount count (pd .timingOutStart start s2))))

theorem test_arming :
    (∀ typ ∈ [0x0608, 0x0609], takes typ (advance 0 s2) = true ∧ takes typ (advance 0 (armable 1000000 100 0 0)) = true) ∧ 8 < 9 ∧
    (let x := advance 0 (armable 1000000 100 0 (2 ^ 90))
     (heldProg 8 x).1 = .pulse ∧ armRefusal (heldProg 8 x).1 (heldProg 8 x).2 x.time.tide = none ∧ (out 8 x).mode ≠ .gate) ∧
    (let x := advance 0 (armable 1000000 1000000 0 0)
     (heldProg 8 x).1 = .pulse ∧ (heldProg 8 x).2.period ≠ 0 ∧ (heldProg 8 x).2.period - nsT 10 < (heldProg 8 x).2.width) ∧
    (let x := advance 0 (armable 0 100 2 0)
     (heldProg 8 x).1 = .pulse ∧ (heldProg 8 x).2.period = 0 ∧ (heldProg 8 x).2.count ≠ 1) ∧
    (let x := advance 0 (armable 0 100 1 0)
     (heldProg 8 x).1 = .pulse ∧ (heldProg 8 x).2.period = 0 ∧ (heldProg 8 x).2.count = 1 ∧ (heldProg 8 x).2.start < x.time.tide + msT 1) := by
  repeat' refine And.intro ?_ ?_
  all_goals decide +kernel

/-- Timing input 1, set to both edges, in a state of its own. -/
def tined (i : TIn) : State := setPar .timingInEdge 1 0 3 (setTin 1 i s2)

theorem test_edges :
    (let x := advance (nsT 50) (tined ⟨some 0, [], 0, List.replicate 999 0⟩)
     timingRuns x = true ∧ par .timingInEdge 1 0 x = 3 ∧ (tin 1 x).last = some 0 ∧ 0 + nsT 50 ≤ x.time.now ∧ (tin 1 x).waiting = [] ∧
      (inLastSecond (tin 1 x).delivered x).length < 1000) ∧
    (advance (nsT 50 - 1) (tined ⟨some 0, [], 0, []⟩)).time.now < 0 + nsT 50 ∧
    (let x := advance (nsT 50) (tined ⟨some 0, List.replicate 63 ⟨1, 1, 0, 0⟩, 0, List.replicate 1000 0⟩)
     1000 ≤ (inLastSecond (tin 1 x).delivered x).length ∧ (tin 1 x).waiting.length < 64) ∧
    (let x := advance (nsT 50) (tined ⟨some 0, List.replicate 64 ⟨1, 1, 0, 0⟩, 0, List.replicate 1000 0⟩)
     1000 ≤ (inLastSecond (tin 1 x).delivered x).length ∧ 64 ≤ (tin 1 x).waiting.length) ∧
    par .timingInEdge 0 0 (advance 0 s2) = 0 := by
  repeat' refine And.intro ?_ ?_
  all_goals decide +kernel

theorem test_ptp_frames :
    (let x := advance 0 (setPar .timingPtpTxEnable 0 0 0 s1)
     portUp 0 x = true ∧ txRuns 0 x = false ∧ ptpRuns 0 x = false ∧ timingRuns x = true) ∧
    ptpHasRow (ptpType (pmsg 13 0 0)) = false ∧ ptpHasRow (ptpType (pmsg 0 0 0)) = true ∧
    (let x := advance 0 (setPar .timingPtpTcEnable 0 0 0 s1)
     tcRuns x = false ∧ timingRuns x = true ∧ hostUp 0 x = true) ∧ ptpSound (pmsg 13 0 0) = true := by
  repeat' refine And.intro ?_ ?_
  all_goals decide +kernel

/-- A tide mark on output 7 for the main integrations of the plan in force. -/
def marking (known now : Nat) : State :=
  let s := running { p1 with known := known } (pulsing 7 { resetOut with
    mode := .mark
    prog := some { prog1 with start := 0, count := 0, plan := 1, next := 1 } })
  advance now s

/-- The tide time of that mark. -/
def markAt : Nat := (({ p1 with known := 0 }).markTide { prog1 with start := 0, count := 0 } 1).getD 0

theorem test_marks :
    (let x := marking 0 markAt
     let p : Prog := { prog1 with start := 0, count := 0, plan := 1, next := 1 }
     timingRuns x = true ∧ (out 7 x).mode = .mark ∧ (out 7 x).prog = some p ∧
      edgeTide .mark (p.settle x) (p.settle x).next x = some markAt ∧ markAt ≤ x.time.tide ∧
      knownSince (p.settle x) x + msT 1 ≤ markAt ∧ (p.settle x).notBefore ≤ markAt) ∧
    (let x := marking (markAt - 1) markAt
     let p : Prog := { prog1 with start := 0, count := 0, plan := 1, next := 1 }
     edgeTide .mark (p.settle x) (p.settle x).next x = some markAt ∧ markAt ≤ x.time.tide ∧
      markAt < knownSince (p.settle x) x + msT 1) ∧
    (marking 0 (markAt - 1)).time.tide < markAt ∧
    (let x := advance 0 (pulsing 7 { resetOut with mode := .mark, prog := some prog1 })
     let x0 : State := { x with plan := { x.plan with running := none } }
     edgeTide .mark (prog1.settle x0) (prog1.settle x0).next x0 = none) := by
  repeat' refine And.intro ?_ ?_
  all_goals decide +kernel

/-- A reference that every condition of R396 holds for. -/
def fit_ (m : MonState) : RefS :=
  { resetRef with mon := m, ql := 2, sigOk := true, ppsOk := true, todOk := true, ptpOk := true, esmcOk := true, linkOk := true }

/-- The module with its references, and the rest of its clock, changed. -/
def reffed (l : List (Nat × RefS)) (f : TimeS → TimeS := id) : State :=
  let s := l.foldl (fun x k => setRef k.1 k.2 x) s2
  { s with time := f s.time }

/-- R397's sentence. -/
def todText : List Byte := "$BTOD,1700017180,2,0*3A".toUTF8.toList.map (fun b => BitVec.ofNat 8 b.toNat) ++ [13, 10]

theorem test_tod : parseTod todText = some (1700017180, 2, 0) ∧ parseTod (todText.set 6 0x32) = none := by
  repeat' refine And.intro ?_ ?_
  all_goals decide +kernel

theorem test_references :
    (let y := advance 0 (reffed [(0, fit_ .failed), (1, fit_ .off), (2, fit_ .selectable), (3, { fit_ .selectable with ptpOk := false }),
        (4, { fit_ .qualifying with linkOk := false }), (5, { fit_ .failed with linkOk := false })])
     (∀ r < 6, par .timingRefPriority r 0 y ≠ 0) ∧ refValid 0 y = true ∧ refValid 1 y = true ∧ refValid 2 y = true ∧
      refValid 3 y = false ∧ refValid 4 y = false ∧ refValid 5 y = false ∧ (ref 0 y).mon = .failed ∧ (ref 1 y).mon = .off ∧
      (ref 2 y).mon ≠ .off ∧ (ref 3 y).mon.usable = true ∧ (ref 4 y).mon.usable = false ∧ (ref 5 y).mon = .failed ∧
      y.time.candidate.map (·.1) ≠ some 3 ∧ y.time.selected ≠ some 3) ∧
    (let y := advance 0 (reffed [(5, { fit_ .selectable with linkOk := false })] fun x => { x with selected := some 5, dpll := .locked })
     refValid 5 y = false ∧ (ref 5 y).mon.usable = true ∧ y.time.selected = some 5 ∧ y.time.candidate = none ∧
      ((List.range 6).any fun k => k != 5 && (ref k y).mon.usable) = false ∧ y.time.dpll = .locked) ∧
    (let y := advance 0 (setPar .timingRefPriority 5 0 0 (reffed [(4, fit_ .off), (5, fit_ .failed)]))
     par .timingRefPriority 5 0 y = 0 ∧ (ref 5 y).mon ≠ .off ∧ (ref 5 y).mon.usable = false) ∧
    (let x := advance (msT 900) (reffed [(0, { fit_ .failed with lastPps := some 0, todSecond := some 1700017179 })])
     (ref 0 x).lastPps = some 0 ∧ 0 + msT 10 ≤ msT 10 ∧ x.time.now + msT 100 ≤ 0 + secT 1 ∧ (ref 0 x).todOk = true ∧
      (ref 0 x).todSecond = some 1700017179 ∧ 1700017180 = 1700017179 + 1) ∧
    (let x := advance 0 (reffed [(1, { fit_ .failed with todSecond := some 7 })])
     (ref 1 x).todOk = true ∧ (ref 1 x).todSecond = some 7 ∧ (1700017180 : Nat) ≠ 7 + 1) ∧
    hostUp 1 (advance 0 s2) = true ∧ hostUp 0 (advance 0 (h0Down true)) = false ∧
    (let s := reffed [(0, fit_ .qualifying), (1, fit_ .restoring)]
     let q := nsT (par0 .timingQualifyTime s)
     let w := max (nsT (par0 .timingWtr s)) q
     (ref 0 (advance q s)).mon = .qualifying ∧ (ref 0 (advance q s)).since + q ≤ (advance q s).time.now ∧
      (ref 1 (advance w s)).mon = .restoring ∧ (ref 1 (advance w s)).since + w ≤ (advance w s).time.now ∧
      (advance (q - 1) s).time.now < 0 + q ∧ (advance (w - 1) s).time.now < 0 + w) := by
  repeat' refine And.intro ?_ ?_
  all_goals decide +kernel

theorem test_selection :
    selectionTarget (advance 0 (reffed [(0, fit_ .selectable), (1, fit_ .selectable)])) = some 0 ∧
    selectionTarget (advance 0 (reffed [(4, fit_ .suspect)])) = some 4 ∧ selectionTarget (advance 0 s2) = none ∧
    (let y := refreshRefs (advance 0 (reffed [(0, fit_ .selectable), (1, fit_ .selectable)] fun x => { x with candidate := some (1, 0) }))
     y.time.candidate = some (1, 0) ∧ selectionTarget y = some 0 ∧ y.time.selected ≠ some 0) ∧
    (let y := refreshRefs (advance 0 (reffed [(1, fit_ .selectable)] fun x => { x with candidate := some (1, 0) }))
     selectionTarget y = some 1) ∧
    (let y := refreshRefs (advance 0 (reffed [(0, fit_ .selectable)]))
     y.time.candidate = none ∧ selectionTarget y = some 0 ∧ y.time.selected = none) ∧
    (let y := refreshRefs (advance 0 s2)
     y.time.candidate = none ∧ selectionTarget y = none ∧ y.time.selected = none) ∧
    (let y := refreshRefs (advance 0 (reffed [] fun x => { x with selected := some 0, dpll := .locked }))
     y.time.candidate = none ∧ selectionTarget y = none ∧ y.time.selected ≠ none ∧ y.time.dpll = .locked) ∧
    (let y := refreshRefs (advance 0 (reffed [(0, fit_ .selectable), (1, fit_ .selectable)] fun x =>
        { x with selected := some 1, dpll := .locked, lastCommit := some 0 }))
     selectionTarget y = some 0 ∧ y.time.selected = some 1 ∧ (ref 1 y).mon.usable = true ∧ y.time.noHold = false ∧
      y.time.lastCommit = some 0 ∧ y.time.now < 0 + nsT (par0 .timingWtr y) ∧ par0 .timingRealignMode y ≠ 1) ∧
    (let y := refreshRefs (advance 0 (setPar .timingRealignMode 0 0 1 (reffed [(0, fit_ .selectable)] fun x =>
        { x with selected := some 0, dpll := .locked, debt := -65536 })))
     selectionTarget y = some 0 ∧ y.time.selected = some 0 ∧ par0 .timingRealignMode y = 1 ∧ 65536 ≤ y.time.debt.natAbs ∧ y.time.slew = none) := by
  repeat' refine And.intro ?_ ?_
  all_goals decide +kernel

theorem test_disagreement :
    (let y := advance 0 (reffed [(0, fit_ .selectable), (1, fit_ .selectable)] fun x => { x with selected := some 0 })
     let z := setPar .timingRefPriority 1 0 1 y
     keptOf 1 [0, 5001] 0 z = 0 ∧ (ref 1 z).mon = .selectable ∧ par0 .timingDisagreePpb z * 100 < (5001 - 0 : Int).natAbs ∧
      z.time.selected = some 0 ∧ (ref 0 z).mon.usable = true ∧ equalRank 1 0 z = true ∧ keptOf 0 [0, 5001] 0 z = 0 ∧
      (5000 - 0 : Int).natAbs ≤ par0 .timingDisagreePpb z * 100) ∧
    (let y := setPar .timingRefPriority 1 0 1 (advance 0 (reffed [(0, fit_ .selectable), (1, fit_ .suspect)]))
     keptOf 1 [0, 2500] 0 y = 0 ∧ (ref 1 y).mon = .suspect ∧ 2 * (2500 - 0 : Int).natAbs ≤ par0 .timingDisagreePpb y * 100 ∧
      par0 .timingDisagreePpb y * 100 < 2 * (2501 - 0 : Int).natAbs) := by
  repeat' refine And.intro ?_ ?_
  all_goals decide +kernel

theorem test_switches :
    (let s := reffed [] fun x => { x with candidate := some (3, 0) }
     let w := nsT (par0 .timingSwitchWindow s)
     (advance w s).time.candidate = some (3, 0) ∧ 0 + w ≤ (advance w s).time.now ∧ (advance (w - 1) s).time.now < 0 + w ∧
      (advance w s).time.origin < 2 ∧ timeCapable 3 = true ∧ timeCapable 4 = false) ∧
    (let x := advance 0 (reffed [] fun x => { x with dpll := .acquiring, selected := some 0 })
     x.time.dpll = .acquiring ∧ x.time.selected ≠ none ∧ x.time.slew = none) ∧
    (let s := reffed [] fun x => { x with dpll := .holdover }
     let h := nsT (par0 .timingHoldoverSpec s)
     (advance h s).time.dpll = .holdover ∧ (advance h s).time.holdoverAt + h ≤ (advance h s).time.now ∧
      (advance (h - 1) s).time.now < 0 + h) ∧
    (let s := reffed [] fun x => { x with realign := some 1, dpll := .locked, selected := some 3 }
     (advance (secT 1) s).time.realign = some 1 ∧ secT 1 ≤ (advance (secT 1) s).time.tide ∧ (advance (secT 1) s).time.dpll = .locked ∧
      selectedCapable (advance (secT 1) s) = true ∧ (advance (secT 1 - 1) s).time.tide < secT 1) ∧
    (let x := advance (secT 1) (reffed [] fun x => { x with realign := some 1, dpll := .holdover })
     secT 1 ≤ x.time.tide ∧ x.time.dpll = .holdover) ∧
    (let x := advance 0 (reffed [] fun x => { x with slew := some 0, debt := 65535 })
     x.time.slew ≠ none ∧ (debtNow x).natAbs < 65536) ∧
    (let x := advance 0 (reffed [] fun x => { x with slew := some 0, debt := 65536 })
     65536 ≤ (debtNow x).natAbs) ∧
    ((out 0 (advance 0 s2)).prog = none ∧ (out 0 (advance 0 s2)).mode ≠ .gate) := by
  repeat' refine And.intro ?_ ?_
  all_goals decide +kernel

theorem test_time_commands :
    (∀ typ ∈ [0x0603, 0x0604, 0x0605], takes typ (advance 0 s2) = true) ∧
    tideValid (65536 * 999999999) = true ∧ tideValid (65536 * 1000000000) = false ∧ (advance 0 s2).time.origin ≠ 2 ∧
    (let x := advance 0 (reffed [] fun x => { x with origin := 2 })
     takes 0x0603 x = true ∧ x.time.origin = 2) ∧
    (let x := advance 0 (reffed [] fun x => { x with selected := some 3 })
     takes 0x0604 x = true ∧ secT 1 < x.time.tide + secT 2 ∧ x.time.tide + secT 2 ≤ secT 2 ∧ secT 86400 ≤ x.time.tide + secT 86400 ∧
      x.time.tide + secT 86400 < secT 86401 ∧ selectedCapable x = true ∧ x.time.realign = none ∧ selectedCapable (advance 0 s2) = false) ∧
    (let x := advance 0 (reffed [] fun x => { x with selected := some 3, realign := some 9 })
     takes 0x0604 x = true ∧ selectedCapable x = true ∧ x.time.realign ≠ none) ∧
    (let x := advance 0 (reffed [(5, fit_ .selectable)] fun x => { x with candidate := some (0, 0), selected := some 5 })
     takes 0x0605 x = true ∧ (ref 5 x).mon.usable = true ∧ (ref 0 x).mon.usable = false ∧ x.time.candidate = some (0, 0) ∧ 0 ≠ 5 ∧
      x.time.selected = some 5) ∧
    (let x := advance 0 (reffed [(5, fit_ .selectable)])
     takes 0x0605 x = true ∧ (ref 5 x).mon.usable = true ∧ x.time.candidate = none ∧ x.time.selected ≠ some 5) := by
  repeat' refine And.intro ?_ ?_
  all_goals decide +kernel

/-- A transmit time-stamp of session 0. -/
def stamp0 : TxTs := ⟨0, 0, 1, 0, false, 5⟩

theorem test_host_ptp :
    (let x := advance 0 s2
     takes 0x0606 x = true ∧ takes 0x0607 x = true ∧ portUp 129 x = true ∧ portUp 1 x = false ∧ ptpSound (pmsg 0 0 0) = true ∧
      ptpType (pmsg 0 0 0) < 4 ∧ 4 ≤ ptpType (pmsg 11 0 0) ∧ ptpSound (pmsg 11 0 0) = true ∧ (txQueue 129 x).entries.length < 64 ∧
      ∀ e ∈ (txQueue 129 x).entries, e.matches 0 0 0 1 = false) ∧
    (let x := advance 0 (setTxQueue 0 ⟨[{ stamp0 with seq := 9 }, stamp0], false, 0⟩ s2)
     takes 0x0607 x = true ∧ (txQueue 0 x).entries = [{ stamp0 with seq := 9 }] ++ stamp0 :: [] ∧
      (∀ f ∈ [{ stamp0 with seq := 9 }], f.matches 0 0 0 (1 + 0) = false) ∧ stamp0.matches 0 0 0 (1 + 0) = true) ∧
    64 ≤ (txQueue 0 (setTxQueue 0 ⟨List.replicate 64 stamp0, false, 0⟩ s2)).entries.length := by
  repeat' refine And.intro ?_ ?_
  all_goals decide +kernel

theorem test_losses :
    (let s := reffed [(0, { fit_ .selectable with lastPps := some 0, lastTod := some 0 }), (5, { fit_ .selectable with lastEsmc := some 0 })]
     lossDue 0 .pps (advance (msT 1500) s) = true ∧ lossDue 0 .pps (advance (msT 1500 - 1) s) = false ∧
      lossDue 0 .tod (advance (nsT (par0 .timingTodTimeout s)) s) = true ∧
      lossDue 5 .esmc (advance (secT 5) s) = true ∧ lossDue 5 .esmc (advance (secT 5 - 1) s) = false ∧
      lossDue 5 .link (advance 0 s) = false ∧ lossDue 4 .link (advance 0 (h0Down true)) = true ∧
      lossDue 1 .signal (advance 0 s) = true) ∧
    (let x := advance (secT 10) (reffed [] fun x => { x with dpll := .acquiring, selected := some 0 })
     x.time.dpll = .acquiring ∧ x.time.selected ≠ none ∧ x.time.slew = none ∧ x.time.acquireAt + secT 10 ≤ x.time.now) ∧
    (let s := reffed [(0, fit_ .selectable)]
     (advance (nsT (par0 .timingDisagreeWindow s)) s).time.disagreeAt + nsT (par0 .timingDisagreeWindow s) ≤
      (advance (nsT (par0 .timingDisagreeWindow s)) s).time.now ∧
      (advance 0 s).time.now < (advance 0 s).time.disagreeAt + nsT (par0 .timingDisagreeWindow (advance 0 s))) := by
  repeat' refine And.intro ?_ ?_
  all_goals decide +kernel

/-! ### DRAM, canal, registers and counters -/

/-- The module with its DRAM changed. -/
def withMem (f : MemS → MemS) : State := { s4 with mem := f s4.mem }

/-- One stack changed. -/
def withStack (k : Nat) (f : StackS → StackS) : State :=
  withMem fun m => { m with stackFile := m.stackFile.set k (f (m.stackFile.getD k StackS.none)) }

/-- One channel changed. -/
def withChan (c : Nat) (f : ChanS → ChanS) : State := withMem fun m => { m with chans := m.chans.set c (f (m.chans.getD c ChanS.zero)) }

theorem test_dram :
    ((chan 127 (advance 0 s2)).state ≠ .online ∧ (chan 127 (advance 0 s2)).state ≠ .retraining ∧ serving 127 (advance 0 s2) = false) ∧
    (let x := advance 0 s4
     (chan 127 x).state = .online ∧ x.mem.marking = false ∧ serving 127 x = true ∧ codewordEnd 127 0 [] x = .clean ∧
      codewordEnd 127 0 [(67, 1)] x = .corrected ∧ codewordEnd 127 0 [(0, 1), (1, 1), (2, 3)] x = .uncorrectable) ∧
    codewordEnd 127 (16777215 * 64) [] (setPoison 127 (16777215 * 64) true (advance 0 s4)) = .poison ∧
    (let x := advance 0 (withMem fun m => { m with redirects := [(0, 127)], marking := true })
     x.mem.marking = true ∧ (chan 127 x).state = .online) ∧
    (let x := advance (nsT 3900) s4
     let y := advance (nsT 1950) (setRank 1023 ⟨8, 0, 0, false⟩ (withStack 7 fun k => { k with temp := 86 }))
     (rank 0 x).postponed < 8 ∧ (rank 0 x).dueAt + refreshInterval (0 / 16) x ≤ x.time.now ∧ serving 127 y = true ∧
      (advance (nsT 3900 - 1) s4).time.now < 0 + refreshInterval (127 / 16) s4 ∧
      8 ≤ (rank 1023 y).postponed ∧ (rank 1023 y).dueAt + refreshInterval (127 / 16) y ≤ y.time.now) ∧
    (let w := nsT (par0 .memPdTimer s4)
     (rank 1023 (advance w s4)).lastReq + w ≤ (advance w s4).time.now ∧ (advance (w - 1) s4).time.now < 0 + w) ∧
    (let s := withMem fun m => { m with openRows := [(16383, (5, 0))] }
     let w := nsT (par0 .memPageIdle s)
     sFind (advance w s).mem.openRows 16383 = some (5, 0) ∧ 0 + w ≤ (advance w s).time.now ∧ (advance (w - 1) s).time.now < 0 + w ∧
      sFind (advance 0 s4).mem.openRows 16383 = none) ∧
    ((activateRow 7 [(7, par0 .memRhThreshold s4 - 1)]).2 = par0 .memRhThreshold s4 ∧ (activateRow 7 []).2 < par0 .memRhThreshold s4) := by
  repeat' refine And.intro ?_ ?_
  all_goals decide +kernel

/-- A channel whose location some grain has taken over is held back from writes while it is marked. -/
theorem test_redirect : redirectPoison 1 0 (withMem fun m => { m with list := [0, 1], grain := 30, redirects := [(0, 1)], marking := true }) = true := by decide +kernel

/-- Tile records lie at DPA 0 on, and the rest of the DRAM serves the canal alone (R43, R138). -/
def placed : State := withMem fun m => { m with list := channelList s4, places := [⟨5, 0, 2 ^ 20⟩] }

theorem test_ports :
    (let x := advance 0 placed
     let c := (locOf 0 x).map (·.1)
     c = some 0 ∧ portServes 4 127 0 x = true ∧ portServes 0 0 0 x = false ∧ portServes 1 0 0 x = true ∧ keeperPort 1 = true ∧
      keeperPort 0 = false ∧ dpaOf 0 0 x = some 0 ∧ (regionAt 0 x).map (·.kind) = some 5 ∧ chan 0 x = ⟨.online, 0, 0, 0, 0, 0, 0⟩) ∧
    readEnd [(67, 255)] = .corrected := by
  repeat' refine And.intro ?_ ?_
  all_goals decide +kernel

theorem test_retraining :
    ((chan 0 (advance 0 s2)).state ≠ .online ∧ (chan 127 (advance 0 s4)).state = .online ∧ (stack 7 (advance 0 s4)).queue = []) ∧
    (let x := advance (nsT 3900) (withStack 7 fun k => { k with queue := [(127, .corr)], gather := some 255 })
     (stack 7 x).queue ≠ [] ∧ (stack 7 x).gather = some 255 ∧ (stack 7 x).sliceAt + refreshInterval 7 x ≤ x.time.now ∧
      (advance (nsT 3900 - 1) s4).time.now < (stack 7 s4).sliceAt + refreshInterval 7 s4) ∧
    (let x := advance 0 (withStack 7 fun k => { k with queue := [(127, .corr)], gather := some 256 })
     (stack 7 x).queue = [(127, .corr)] ∧ (stack 7 x).gather = some 256 ∧ (stack 7 x).held = none ∧ (stack 7 x).bin < 4) ∧
    (let x := advance 0 (withStack 7 fun k => { k with queue := [(127, .corr)], gather := some 256, held := some 4 })
     (stack 7 x).held = some 4 ∧ 4 ≠ (stack 7 x).bin) ∧
    (let s := { withChan 127 id with ctr := [(ctrKey .outerCorr 127, par0 .memRetrainCorr s4 + 1)] }
     let x := advance (secT 1) s
     par0 .memRetrainCorr x < increase (chan 127 x).corrBase (ctrGet .outerCorr 127 x) ∧ x.time.now ≤ (chan 127 x).corrSince + secT 1 ∧
      (chan 127 (advance (secT 1 + 1) s)).corrSince + secT 1 < (advance (secT 1 + 1) s).time.now) ∧
    (10 < ((stack 7 (advance 0 (withStack 7 fun k => { k with temp := 11 }))).temp - (chan 127 s4).tempAt).natAbs ∧
      ((stack 7 (advance 0 (withStack 7 fun k => { k with temp := -10 }))).temp - (chan 127 s4).tempAt).natAbs ≤ 10) ∧
    (let w := nsT (par0 .memRetrainPeriod s4)
     (chan 127 (advance w s4)).trainedAt + w ≤ (advance w s4).time.now ∧ (advance (w - 1) s4).time.now < 0 + w) := by
  repeat' refine And.intro ?_ ?_
  all_goals decide +kernel

/-- An outage of stack 7. -/
def outage0 (bin : Nat) (ask : Option Nat) : Outage := ⟨0, bin, bin - 1, ask⟩

theorem test_outages :
    (stack 7 (advance 0 s4)).outage = none ∧ 127 ∈ stackChans 7 (advance 0 s4) ∧
    (let x := advance 0 (withStack 7 fun k => { k with outage := some (outage0 1 none), bin := 1 })
     (stack 7 x).outage = some (outage0 1 none) ∧ (stack 7 x).held = none ∧ (stack 7 x).queue = [] ∧ (outage0 1 none).bin < 4) ∧
    (let x := advance 0 (withStack 7 fun k => { k with outage := some ⟨0, 0, 1, some 0⟩ })
     (stack 7 x).outage = some ⟨0, 0, 1, some 0⟩ ∧ ∃ b, (⟨0, 0, 1, some 0⟩ : Outage).asked = some b ∧ b < 1) ∧
    (let x := advance 0 { (withStack 7 fun k => { k with outage := some (outage0 4 none), bin := 4 }) with
        mem := { (withStack 7 fun k => { k with outage := some (outage0 4 none), bin := 4 }).mem with reserve := true } }
     (stack 7 x).outage = some (outage0 4 none) ∧ 4 ≤ (outage0 4 none).bin ∧ x.mem.reserve = true ∧ x.mem.marking = false) ∧
    (advance 0 (withMem fun m => { m with marking := true })).mem.marking = true := by
  refine ⟨?_, ?_, ?_, ⟨?_, 0, rfl, ?_⟩, ?_, ?_⟩ <;> decide +kernel

theorem test_mem_commands :
    (∀ typ ∈ [0x0702, 0x0703, 0x0704], takes typ (advance 0 s4) = true ∧
      takes typ (advance 0 (withStack 7 fun k => { k with gather := some 0 })) = true) ∧
    (chan 127 (advance 0 (withChan 127 fun c => { c with state := .absent }))).state = .absent ∧
    (let x := advance 0 s4
     (chan 127 x).state ≠ .absent ∧ (chan 127 x).state ≠ .retired ∧ (stack 7 x).fitted = true ∧ (stack 7 x).outage = none ∧
      (stack 7 x).gather = none ∧ (stack 7 x).bin = 0 ∧ (0 : Nat) ≠ 4) ∧
    (stack 7 (advance 0 (withStack 7 fun k => { k with gather := some 0 }))).gather ≠ none := by
  repeat' refine And.intro ?_ ?_
  all_goals decide +kernel

/-- A read of the management SRAM by master 0. -/
def read0 (granted : Option Nat) : CanalReq :=
  { master := 0, id := 31, write := false, pieces := [⟨0x100000000, 1, []⟩], granted := granted, status := .okay, read := [] }

/-- The module with that read. -/
def reading (granted : Option Nat) : State := { s4 with canal := { s4.canal with reqs := [read0 granted] } }

theorem test_canal :
    (let x := advance 0 s4
     masterIssues 0 x = true ∧ x.canal.reqs = [] ∧ 0x100003FC0 % 64 = 0 ∧ (0x100003FC0 + 64 * 1 - 1) / 16384 = 0x100003FC0 / 16384 ∧
      (0x100003FC0 + 64 * 2 - 1) / 16384 ≠ 0x100003FC0 / 16384 ∧ decodes 0 true 0x100003FC0 x = true ∧
      nextGrant (targetPort 0x100000000 x) x = none ∧ (master 14 x).resetting = false) ∧
    (let x := advance 0 (reading none)
     nextGrant (targetPort 0x100000000 x) x = some (read0 none) ∧ targetPort 0x100000000 x < 80 ∧
      x.canal.reqs.find? (fun r => r.master == 0 && r.id == 31) = some (read0 none)) ∧
    (let x := advance (msT 1) (reading (some 0))
     x.canal.reqs.find? (fun r => r.master == 0 && r.id == 31) = some (read0 (some 0)) ∧ 0 + msT 1 ≤ x.time.now ∧
      rangeHeld false 0x100000000 (64 * 1) x = false ∧ (master 0 x).resetting = false ∧
      (advance (msT 1 - 1) (reading (some 0))).time.now < 0 + msT 1) ∧
    (let x := advance (msT 1) (setMaster 0 ⟨false, false, true, none, 0, 0⟩ (reading (some 0)))
     (master 0 x).resetting = true ∧ ∃ r ∈ x.canal.reqs, r.master = 0) ∧
    (rangeHeld false 0x300070000 64 (advance (msT 1) (withStack 7 fun k => { k with outage := some (outage0 1 none) })) = true) ∧
    (let x := advance 0 (setMaster 14 ⟨false, false, true, none, 0, 0⟩ s4)
     (master 14 x).resetting = true ∧ (∀ r ∈ x.canal.reqs, r.master ≠ 14) ∧ ∀ w ∈ x.zcp.waiting, w.why = 7 → w.unit ≠ 64 + 14) ∧
    (targetOf 0x40000000 = none ∧ targetOf 0x3FFFFFFF ≠ none ∧ targetOf 0x100FFFFFF = some .sram ∧ reaches 0 .sram = true ∧
      decodes 2 false 0x100FFFFFF (advance 0 s4) = false) := by
  repeat' refine And.intro ?_ ?_
  all_goals decide +kernel

/-- A read that waits at a stack in an outage is passed over, and a port grants nothing while a piece is granted (R457, R462). -/
theorem test_grants :
    (let x := advance 0 (reading (some 0))
     nextGrant (targetPort 0x100000000 x) x = none ∧ rangeHeld false 0x100000000 64 x = false) ∧
    (let x := advance 0 { s4 with canal := { s4.canal with reqs := [read0 none, { read0 none with master := 1 }], lastGrant := [(targetPort 0x100000000 s4, 0)] } }
     (nextGrant (targetPort 0x100000000 x) x).map (·.master) = some 1) ∧
    targetOf 0x100000000 = some .sram := by
  repeat' refine And.intro ?_ ?_
  all_goals decide +kernel

/-- Registers of units with power and without, reserved encodings, and a core's control registers (R20, R42). -/
theorem test_register_units :
    (let x := advance 0 s4
     (∀ r ∈ [Reg.ctr .ptpDisc 0, .item .moduleDiagPoke 0 0, .item .faultSticky 0 0, .item .moduleCanalStatus 14 0, .core 63 80, .core 63 144,
       .core 0 79, .errAddr 14, .txts 3], r.up x = true) ∧
      (∀ i ∈ [Item.moduleVariant, .ingressFormat], (Reg.item i 0 0).up x = true)) ∧
    (let x := advance 0 off
     ∀ r ∈ [Reg.core 63 80, .ctr .bundles 0], r.up x = false) ∧
    Item.ingressFormat.coded = true ∧ Item.ingressFormat.desc.range.ok 7 = false ∧ Item.moduleDiagPoke.coded = true ∧
    Item.moduleDiagPoke.desc.range.ok 1 = true := by
  repeat' refine And.intro ?_ ?_
  all_goals decide +kernel

theorem test_registers :
    bitAt 256 8 = true ∧ bitAt 255 8 = false ∧ Item.moduleDiagPoke ≠ .faultSticky ∧ Item.moduleDiagPoke ≠ .moduleCanalStatus ∧
    Item.moduleDiagPoke.desc.acc = .rw ∧ Item.moduleVariant.desc.acc ≠ .rw := by
  repeat' refine And.intro ?_ ?_
  all_goals decide +kernel

theorem test_counters :
    (let x : State := { State.reset with ctr := [(ctrKey .ptpDisc 0, ctrMax - 1)] }
     ctrGet .ptpDisc 0 x < ctrMax ∧ ctrMax ≤ ctrGet .ptpDisc 0 x + 1 ∧ ctrGet .ptpDisc 1 x + 1 < ctrMax ∧
      ctrGet .ptpDisc 0 { x with ctr := [(ctrKey .ptpDisc 0, ctrMax)] } = ctrMax) ∧
    Ctr.ptpDisc.reporting = false ∧ ({ State.reset with satDue := [(Ctr.ptpDisc.index, 0)] : State }).satDue = [(Ctr.ptpDisc.index, 0)] := by
  repeat' refine And.intro ?_ ?_
  all_goals decide +kernel

/-- R427's worked example: the DPA, its channel S7.C12 and channel offset, its rank and bank, and the next 4 KiB. -/
theorem test_dpa : (let x := withMem fun m => { m with list := channelList s4 }
    locOf 0x1234567000 x = some (16 * 7 + 12, 0x2468A000) ∧ rankOf (16 * 7 + 12) 0x2468A000 = ((16 * 7 + 12) * 2 + 0) * 4 + 1 ∧
      bankOf (16 * 7 + 12) 0x2468A000 % 16 = 0 * 4 + 1 ∧ (locOf 0x1234568000 x).map (·.1) = some 13 ∧
      dpaOf (16 * 7 + 12) 0x2468A000 x = some 0x1234567000) := by
  repeat' refine And.intro ?_ ?_
  all_goals decide +kernel

/-! ### Parameters and faults -/

/-- A GET of module.variant. -/
def getOne : List Byte := [0, 1, 0, 0] ++ [0, 0, 0, 1, 0, 0, 0, 1]

/-- A SET of module.diag_poke to 1. -/
def setOne : List Byte := [0, 1, 0, 0] ++ [0, 0, 0, 2, 0, 0, 0, 1, 1, 0, 0, 0, 1, 0, 0, 0]

/-- A PEEK or POKE of bytes of the management SRAM. -/
def diagAt (a len : Nat) : List Byte := natBE 8 a ++ natBE 2 len ++ List.replicate 6 0

theorem test_parameters :
    (∀ typ ∈ [0x0000, 0x0001, 0x0900, 0x0901], takes typ (advance 0 s2) = true) ∧ getOne.length = 4 + 8 * beAt getOne 0 2 ∧
    beAt getOne 0 2 = 1 ∧
    ((piecesOf 8 1 (getOne.drop 4)).flatMap fun r => getEntry 0 false r (advance 0 s2)).length ≤ 8188 ∧
    (beAt setOne 0 2 = 1 ∧ 4 ≤ setOne.length ∧ (setEntries 1 (setOne.drop 4)).isSome = true ∧
      (∀ e ∈ (setEntries 1 (setOne.drop 4)).getD [], setRefusal 0 0 e = none ∧ setRefusal 9 0 e ≠ none)) ∧
    (Item.moduleDiagPoke.desc.apply = 0 ∧ Item.corrIntChunks.desc.apply = 1 ∨ 2 ≤ Item.corrIntChunks.desc.apply) ∧
    ((advance 0 s0).plan.running = none ∧ (advance 0 s2).plan.running ≠ none) := by
  repeat' refine And.intro ?_ ?_
  all_goals decide +kernel

/-- A BOUNDARY item that waits since instant 0. -/
def bounded (plan : Bool) : State :=
  { (if plan then s2 else s0) with boundary := [(itemKey .corrIntChunks 0 0, 0)] }

theorem test_boundary_items :
    (let x := advance 0 (bounded true)
     x.boundary.find? (·.1 == itemKey .corrIntChunks 0 0) = some (itemKey .corrIntChunks 0 0, 0) ∧ boundaryPassed 0 x = false) ∧
    boundaryPassed 0 (advance 0 (bounded false)) = true ∧ (advance 0 s2).boundary = [] := by
  repeat' refine And.intro ?_ ?_
  all_goals decide +kernel

theorem test_diagnostics :
    (∀ typ ∈ [0x0B02, 0x0B03, 0x0007], takes typ (advance 0 s2) = true) ∧ (diagAt 0x100FFFFFC 4).length = 16 ∧
    diagBad (diagAt 0x100FFFFFC 4) 4096 = false ∧ touchesSem 0x100FFFFFC 4 = false ∧ 0x100FFFFFC + 4 ≤ 0x101000000 ∧
    (diagBad (diagAt 0x102000000 4) 4096 = false ∧ touchesSem 0x102000000 4 = true) ∧ diagBad (diagAt 2 4) 4096 = true ∧
    beAt (diagAt 0x100FFFFFC 4) 0 8 = 0x100FFFFFC ∧ beAt (diagAt 0x100FFFFFC 4) 8 2 = 4 ∧
    (diagAt 0x100FFFFFC 4 ++ [1, 2, 3, 4]).length = 16 + 4 ∧ par0 .moduleDiagPoke (advance 0 s2) ≠ 1 ∧
    (let x := advance 0 (setPar .moduleDiagPoke 0 0 1 s2)
     par0 .moduleDiagPoke x = 1 ∧ takes 0x0B03 x = true ∧ takes 0x0906 x = true ∧ x.zcp.activeCore < 2) ∧
    (let x := advance 0 s2
     functionCount 2 = 24 ∧ x.power.reinit = none ∧ reinitRefused 0xA 0 x = true ∧ (∀ k ∈ [(1, 3), (2, 23), (3, 3), (4, 3), (8, 0)],
       reinitRefused k.1 k.2 x = false ∧ (functionDomain k.1 k.2).isSome = true) ∧ reinitRefused 9 0 x = false ∧
      reinitRefused 0xB 0 x = false ∧ reinitRefused 0xA 14 x = false ∧ stopped x = false ∧ (∀ r ∈ x.canal.reqs, r.master ≠ 14) ∧
      (master 14 x).resetting = false) ∧
    ((advance 0 { s2 with power := { s2.power with reinit := some (9, 0, false) } }).power.reinit ≠ none) ∧
    (let x := advance 0 { s4 with canal := { s4.canal with reqs := [{ read0 none with master := 14 }] } }
     ∃ r ∈ x.canal.reqs, r.master = 14) := by
  repeat' refine And.intro ?_ ?_
  all_goals decide +kernel

/-- A record of the black box. -/
def rec0 : BBRec := ⟨7, 0, 0, 0, 0, 0, List.replicate 8 0⟩

/-- The module with its faults changed. -/
def faulty (f : FaultS → FaultS) : State := { s2 with fault := f s2.fault }

theorem test_episodes :
    (let s := faulty fun x => { x with episodes := x.episodes.set 2 ⟨.open, 1, 0, 9⟩ }
     (episode 2 (advance 9 s)).state = .open ∧ (episode 2 (advance 9 s)).quietEnd ≤ (advance 9 s).time.now ∧
      (advance 8 s).time.now < (episode 2 (advance 8 s)).quietEnd ∧ (episode 3 (advance 9 s)).state ≠ .open) ∧
    (∀ typ ∈ [0x0903, 0x0904, 0x0905, 0x0906, 0x0907], takes typ (advance 0 s2) = true) ∧
    bbFind 0 (advance 0 s2) = none ∧ bbFind 0 (advance 0 (faulty fun x => { x with ring := [rec0] })) = some rec0 ∧
    (let x := advance 0 s2
     x.fault.erasing = none ∧ erasedSlots x.fault.slots.toList = [0, 1, 2, 3, 4, 5, 6, 7] ∧ x.fault.frozen = false) ∧
    (advance 0 (faulty fun x => { x with erasing := some 7 })).fault.erasing = some 7 := by
  repeat' refine And.intro ?_ ?_
  all_goals decide +kernel

/-- What the silicon shows a planner: polder 167 passes at every step, its margins falling with the step. -/
def shown : PolderPlan := ⟨167, [], [(24, 0, 0), (23, 40, 30)]⟩

theorem test_planner :
    planStep shown 30 24 = some 23 ∧ planStep shown 31 23 = some 22 ∧ planStep { shown with fails := (List.range 25).map fun k => (k, [0, 1, 2, 3, 4]) } 0 24 = none ∧
    (let x := advance 0 s2
     (polder 167 x).powered = false ∧ (polder 166 x).powered = true ∧ unitUp 0x48 x = true ∧ unitUp 0x70 x = true) ∧
    (let w := secT (par0 .faultPlannerPeriod s2)
     (advance w s2).boot.stage = .ready ∧ (advance w s2).fault.plannedAt + w ≤ (advance w s2).time.now ∧ (advance (w - 1) s2).time.now < 0 + w) ∧
    (let x := advance (secT 1) s2
     coresRun x = true ∧ x.fault.reportedAt + secT 1 ≤ x.time.now ∧ (advance (secT 1 - 1) s2).time.now < 0 + secT 1 ∧ x.zcp.authFail = none) := by
  repeat' refine And.intro ?_ ?_
  all_goals decide +kernel

end Sys2Proof.Machine.Try
end

section
/-! What reporting counts (R21, R506, R537): which counters a report moves, that they make at most fifteen
EV_COUNTER_SAT due, and that a command therefore ends with none due. -/

namespace Sys2Proof.Machine

/-! ### Event counts -/

theorem eventCount_noteEvent (d e : Ev) (s : State) :
    eventCount d (noteEvent e s) = if d = e then min ctrMax (eventCount e s + 1) else eventCount d s := by
  have hcode : d.code = e.code ↔ d = e := ⟨Ev.code_inj, congrArg Ev.code⟩
  simp only [eventCount, noteEvent, sGet_sPut, hcode]

theorem noteEvent_satDue (e : Ev) (s : State) :
    (noteEvent e s).satDue =
      if eventCount e s + 1 = ctrMax then s.satDue ++ [(2000 + e.code, 0)] else s.satDue := rfl

theorem count_satDue (c : Ctr) (i n : Nat) (s : State) :
    (count c i n s).satDue = if ctrGet c i s < ctrMax ∧ ctrMax ≤ ctrGet c i s + n
      then s.satDue ++ [(c.index, i)] else s.satDue := by
  have h : min ctrMax (ctrGet c i s + n) = ctrMax ↔ ctrMax ≤ ctrGet c i s + n := by omega
  simp only [count, h]

/-! ### The reports that can still become due -/

/-- The counters that sending and recording a report move: two of sent datagrams and one of aged messages
for each session, and two of the black box. -/
def reportCtrs : List (Ctr × Nat) :=
  (List.range 4).flatMap (fun k => [(.zcpTxH0, k), (.zcpTxH1, k), (.zcpUnsolAged, k)]) ++
    [(.bbRecords, 0), (.bbDropped, 0)]

/-- A counter has not stopped at all ones. -/
def ctrOpen (s : State) (p : Ctr × Nat) : Bool := decide (ctrGet p.1 p.2 s < ctrMax)

/-- How many of the counters of `reportCtrs` have not stopped at all ones. -/
def openCount (s : State) : Nat := reportCtrs.countP (ctrOpen s)

/-- The saturation reports that are due, and those that raising reports can still make due. -/
def satLoad (s : State) : Nat :=
  s.satDue.length + openCount s + if eventCount .counterSat s < ctrMax then 1 else 0

theorem satLoad_le (s : State) : satLoad s ≤ s.satDue.length + 15 := by
  have hcount : openCount s ≤ reportCtrs.length := List.countP_le_length
  have h14 : reportCtrs.length = 14 := by decide
  unfold satLoad
  split <;> omega

theorem satLoad_congr {x y : State} (hc : y.ctr = x.ctr) (hd : y.satDue = x.satDue)
    (he : y.evCounts = x.evCounts) : satLoad y = satLoad x := by
  have hopen : ctrOpen y = ctrOpen x := funext fun p => by rw [ctrOpen, ctrOpen, ctrGet, ctrGet, hc]
  have hev : eventCount .counterSat y = eventCount .counterSat x := by rw [eventCount, eventCount, he]
  rw [satLoad, satLoad, openCount, openCount, hopen, hev, hd]

theorem satLoad_cons {s : State} {e : Nat × Nat} {r : List (Nat × Nat)} (h : s.satDue = e :: r) :
    satLoad s = satLoad { s with satDue := r } + 1 := by
  have hopen : openCount { s with satDue := r } = openCount s := rfl
  have hev : eventCount .counterSat { s with satDue := r } = eventCount .counterSat s := rfl
  have hdue : ({ s with satDue := r } : State).satDue = r := rfl
  rw [satLoad, satLoad, hopen, hev, h, hdue, List.length_cons]
  omega

/-- A predicate that implies another and fails where the other holds counts fewer elements. -/
theorem countP_lt_of_mem {α : Type} {p q : α → Bool} {l : List α} (h : ∀ x, q x = true → p x = true) {a : α}
    (ha : a ∈ l) (hp : p a = true) (hq : q a = false) : l.countP q < l.countP p := by
  induction l with
  | nil => cases ha
  | cons b r ih =>
    rw [List.countP_cons, List.countP_cons]
    cases ha with
    | head =>
      have := List.countP_mono_left (l := r) fun x _ => h x
      rw [if_pos hp, if_neg (ne_true_of_eq_false hq)]
      omega
    | tail _ har =>
      have hr := ih har
      by_cases hb : q b = true
      · rw [if_pos hb, if_pos (h b hb)]
        omega
      · rw [if_neg hb]
        omega

theorem ctrOpen_of_count {c : Ctr} {i n : Nat} {s : State} (p : Ctr × Nat)
    (h : ctrOpen (count c i n s) p = true) : ctrOpen s p = true := by
  simp only [ctrOpen, decide_eq_true_eq, ctrGet_count] at h ⊢
  split at h
  · rename_i hkey
    have : ctrGet p.1 p.2 s = ctrGet c i s := by rw [ctrGet, hkey, ctrGet]
    omega
  · exact h

theorem satLoad_count_le {c : Ctr} {i : Nat} (h : (c, i) ∈ reportCtrs) (n : Nat) (s : State) :
    satLoad (count c i n s) ≤ satLoad s := by
  have hev : eventCount .counterSat (count c i n s) = eventCount .counterSat s := rfl
  unfold satLoad
  rw [hev, count_satDue]
  split
  · rename_i hsat
    have hin : ctrOpen s (c, i) = true := decide_eq_true hsat.1
    have hstop : ctrGet c i (count c i n s) = ctrMax := by
      rw [ctrGet_count_same]
      exact Nat.min_eq_left hsat.2
    have hout : ctrOpen (count c i n s) (c, i) = false :=
      decide_eq_false fun hlt => Nat.lt_irrefl ctrMax (hstop ▸ hlt)
    have hfewer : openCount (count c i n s) < openCount s := countP_lt_of_mem ctrOpen_of_count h hin hout
    rw [List.length_append, List.length_singleton]
    omega
  · have hle : openCount (count c i n s) ≤ openCount s := List.countP_mono_left fun p _ => ctrOpen_of_count p
    omega

theorem satLoad_noteEvent_counterSat_le (s : State) : satLoad (noteEvent .counterSat s) ≤ satLoad s := by
  have hopen : openCount (noteEvent .counterSat s) = openCount s := rfl
  unfold satLoad
  rw [hopen, noteEvent_satDue, eventCount_noteEvent, if_pos rfl]
  by_cases hsat : eventCount .counterSat s + 1 = ctrMax
  · rw [if_pos hsat, if_neg (by omega), if_pos (by omega), List.length_append, List.length_singleton]
    omega
  · rw [if_neg hsat]
    split <;> split <;> omega

/-! ### A state far from saturation -/

/-- No saturation report is due, and every counter that reports move can count `k` more without stopping. -/
def ReportRoom (k : Nat) (s : State) : Prop :=
  s.satDue = [] ∧ ∀ c i, c.reporting = true → ctrGet c i s + k < ctrMax

theorem ReportRoom.count {k : Nat} {s : State} (h : ReportRoom (k + 1) s) {c : Ctr} (hc : c.reporting = true)
    (i : Nat) : ReportRoom k (Machine.count c i 1 s) := by
  obtain ⟨hdue, hroom⟩ := h
  have hci := hroom c i hc
  refine ⟨?_, fun d j hd => ?_⟩
  · rw [count_satDue, if_neg (by omega), hdue]
  · have hdj := hroom d j hd
    rw [ctrGet_count]
    split <;> omega

theorem reporting_of_mem {c : Ctr} {i : Nat} (h : (c, i) ∈ reportCtrs) : c.reporting = true := by
  have hall : ∀ p ∈ reportCtrs, p.1.reporting = true := by decide
  exact hall _ h

/-! ### What sending and recording count -/

/-- What sending and recording do to the counts: `y` comes from `x` by at most `n` single counts of the
counters of `reportCtrs`, and no event is counted. -/
structure Tallied (n : Nat) (x y : State) : Prop where
  ev : y.evCounts = x.evCounts
  load : satLoad y ≤ satLoad x
  room : ∀ k, ReportRoom (k + n) x → ReportRoom k y

theorem Tallied.of_fields {x y : State} (hc : y.ctr = x.ctr) (hd : y.satDue = x.satDue)
    (he : y.evCounts = x.evCounts) : Tallied 0 x y where
  ev := he
  load := Nat.le_of_eq (satLoad_congr hc hd he)
  room k h := by simpa only [ReportRoom, ctrGet, hc, hd, Nat.add_zero] using h

theorem Tallied.trans {n m : Nat} {x y z : State} (h : Tallied n x y) (h' : Tallied m y z) :
    Tallied (n + m) x z where
  ev := h'.ev.trans h.ev
  load := Nat.le_trans h'.load h.load
  room k hk := h'.room k (h.room (k + m) (by rwa [Nat.add_assoc, Nat.add_comm m]))

theorem Tallied.mono {n m : Nat} {x y : State} (h : Tallied n x y) (hnm : n ≤ m) : Tallied m x y where
  ev := h.ev
  load := h.load
  room k hk := h.room k ⟨hk.1, fun c i hc => by have := hk.2 c i hc; omega⟩

theorem tallied_count {c : Ctr} {i : Nat} (h : (c, i) ∈ reportCtrs) (s : State) : Tallied 1 s (count c i 1 s) where
  ev := rfl
  load := satLoad_count_le h 1 s
  room _ hk := hk.count (reporting_of_mem h) i

theorem mem_reportCtrs_of_session {c : Ctr} (hc : c = .zcpTxH0 ∨ c = .zcpTxH1 ∨ c = .zcpUnsolAged) {k : Nat}
    (hk : k < 4) : (c, k) ∈ reportCtrs := by
  refine List.mem_append_left _ (List.mem_flatMap.2 ⟨k, List.mem_range.2 hk, ?_⟩)
  rcases hc with rfl | rfl | rfl
  · exact List.mem_cons_self
  · exact List.mem_cons_of_mem _ List.mem_cons_self
  · exact List.mem_cons_of_mem _ (List.mem_cons_of_mem _ List.mem_cons_self)

theorem zcpSendOn_tallied {k : Nat} (hk : k < 4) (p : Nat) (b : List Byte) (s : State) :
    Tallied 1 s (zcpSendOn k p b s) := by
  have hsame : Tallied 1 s s := (Tallied.of_fields rfl rfl rfl).mono (Nat.zero_le 1)
  have hport : zcpTx p = .zcpTxH0 ∨ zcpTx p = .zcpTxH1 ∨ zcpTx p = .zcpUnsolAged := by
    unfold zcpTx
    split <;> simp
  unfold zcpSendOn
  split
  · exact hsame
  · split
    · have hemit (x : Sent) : Tallied 0 s (emit x s) := .of_fields rfl rfl rfl
      exact ((hemit _).trans (tallied_count (mem_reportCtrs_of_session hport hk) _)).mono (by omega)
    · exact hsame

theorem zcpSend_tallied {k : Nat} (hk : k < 4) (b : List Byte) (s : State) : Tallied 2 s (zcpSend k b s) := by
  unfold zcpSend
  split
  · exact (zcpSendOn_tallied hk 0 b s).trans (zcpSendOn_tallied hk 1 b _)
  · exact (zcpSendOn_tallied hk 0 b s).mono (by omega)
  · exact (zcpSendOn_tallied hk 1 b s).mono (by omega)

theorem bbWrite_tallied (kind cls code : Nat) (data : List Byte) (s : State) :
    Tallied 1 s (bbWrite kind cls code data s) := by
  unfold bbWrite
  split
  · exact tallied_count (by decide) s
  · refine Tallied.trans (n := 0) ?_ (tallied_count (by decide) _)
    exact .of_fields rfl rfl rfl

theorem unsolicited_tallied {k : Nat} (hk : k < 4) (typ : Nat) (b : List Byte) (s : State) :
    Tallied 3 s (unsolicited k typ b s) := by
  have haged : Tallied 1 s
      (if decide (4096 ≤ (session k s).unsol.length) = true then count .zcpUnsolAged k 1 s else s) := by
    split
    · exact tallied_count (mem_reportCtrs_of_session (by simp) hk) s
    · exact (Tallied.of_fields rfl rfl rfl).mono (Nat.zero_le 1)
  have hqueued := fun f => haged.trans (Tallied.of_fields (y := setSession k f _) rfl rfl rfl)
  unfold unsolicited
  simp only
  split
  · exact (hqueued _).trans (zcpSend_tallied hk _ _)
  · exact (hqueued _).mono (by omega)

theorem unsolicited_foldl_tallied (typ : Nat) (b : State → List Byte) (l : List Nat) (hl : ∀ k ∈ l, k < 4)
    (s : State) : Tallied (3 * l.length) s (l.foldl (fun x k => unsolicited k typ (b x) x) s) := by
  induction l generalizing s with
  | nil => exact .of_fields rfl rfl rfl
  | cons k r ih =>
    have hhead := unsolicited_tallied (hl k List.mem_cons_self) typ (b s) s
    have htail := ih (fun j hj => hl j (List.mem_cons_of_mem k hj)) (unsolicited k typ (b s) s)
    exact (hhead.trans htail).mono (by rw [List.length_cons]; omega)

/-- Raising an event counts it, and sends at most two datagrams and ages at most one message in each of the four
sessions, and writes at most one record. -/
theorem raise_tallied (e : Ev) (fields : List Nat) (s : State) :
    Tallied 13 (noteEvent e s) (raise e fields s) := by
  have hslots : ∀ k ∈ openSlots s, k < 4 := fun k hk => List.mem_range.1 (List.mem_filter.1 hk).1
  have hlen : (openSlots s).length ≤ 4 := List.length_filter_le _ (List.range 4)
  have hsent := unsolicited_foldl_tallied 0x0F01 (fun x => eventPayload e.code (Config.eventBody e.code fields) x)
    (openSlots s) hslots (noteEvent e s)
  unfold raise raiseBytes raiseIn
  simp only
  split
  · exact hsent.mono (by omega)
  · exact (hsent.trans (bbWrite_tallied _ _ _ _ _)).mono (by omega)

theorem eventCount_raise (d e : Ev) (fields : List Nat) (s : State) :
    eventCount d (raise e fields s) = eventCount d (noteEvent e s) := by
  rw [eventCount, (raise_tallied e fields s).ev, eventCount]

/-! ### The end of a command -/

theorem flushSat_of_satDue_nil (n : Nat) {s : State} (h : s.satDue = []) : flushSat n s = s := by
  cases n with
  | zero => rfl
  | succ n =>
    unfold flushSat
    rw [h]

theorem flushSat_cons (n : Nat) {s : State} {c i : Nat} {r : List (Nat × Nat)} (h : s.satDue = (c, i) :: r) :
    flushSat (n + 1) s = flushSat n (raise .counterSat [c, i] { s with satDue := r }) := by
  rw [flushSat, h]

theorem satDue_flushSat {n : Nat} {s : State} (h : satLoad s ≤ n) : (flushSat n s).satDue = [] := by
  induction n generalizing s with
  | zero =>
    have hlen : s.satDue.length ≤ satLoad s := by
      unfold satLoad
      omega
    exact List.length_eq_zero_iff.1 (Nat.le_zero.1 (Nat.le_trans hlen h))
  | succ n ih =>
    cases hdue : s.satDue with
    | nil => rw [flushSat_of_satDue_nil _ hdue, hdue]
    | cons e r =>
      obtain ⟨c, i⟩ := e
      rw [flushSat_cons n hdue]
      apply ih
      have hone := satLoad_cons hdue
      have hraise := (raise_tallied .counterSat [c, i] { s with satDue := r }).load
      have hnote := satLoad_noteEvent_counterSat_le { s with satDue := r }
      omega

@[simp] theorem settle_satDue (s : State) : (settle s).satDue = [] :=
  satDue_flushSat (Nat.le_trans (satLoad_le s) (by omega))

/-- A single report that is due, with room left in every counter that it moves, makes no other due. -/
theorem settle_of_single {c i : Nat} {s : State} (hdue : s.satDue = [(c, i)])
    (hev : eventCount .counterSat s + 1 < ctrMax)
    (hroom : ∀ d k, d.reporting = true → ctrGet d k s + 13 < ctrMax) :
    settle s = raise .counterSat [c, i] { s with satDue := [] } := by
  have hnote : ReportRoom (0 + 13) (noteEvent .counterSat { s with satDue := [] }) := by
    refine ⟨?_, hroom⟩
    rw [noteEvent_satDue, if_neg]
    exact Nat.ne_of_lt hev
  obtain ⟨hquiet, -⟩ := (raise_tallied .counterSat [c, i] { s with satDue := [] }).room 0 hnote
  rw [settle, flushSat_cons _ hdue, flushSat_of_satDue_nil _ hquiet]

/-! ### Every command settles -/

/-- An outcome that is a next state, its saturation reports raised. -/
def Settles (o : Host.Outcome State Fault Refusal) : Prop := ∃ y, o = .next (settle y)

/-- Every arm of `exec` hands the state that its effect leaves to `settle`: through `act`, or through `sluiceRow` for
a sluice instruction. -/
theorem exec_settles (i : Instr) (s : State) : Settles (exec i s) := by
  cases i <;> exact ⟨_, rfl⟩

/-- Settles O58: every command ends in `settle`, and `settle` raises reports for as long as any can be due, since
each report that becomes due uses up one of the fifteen counts that can still stop. -/
theorem everyCommandCompletesAndReports : Obligations.EveryCommandCompletesAndReports := by
  have hexec : ∀ (i : Instr) (s : State), ∃ x, exec i s = .next x ∧ x.satDue = [] := by
    intro i s
    obtain ⟨y, hy⟩ := exec_settles i s
    exact ⟨settle y, hy, settle_satDue y⟩
  refine ⟨hexec, fun s x hs hstep => ?_, rfl⟩
  unfold step at hstep
  split at hstep
  · cases hstep
    exact hs
  · obtain ⟨z, hz, hdue⟩ := hexec _ _
    rw [hz] at hstep
    cases hstep
    exact hdue

end Sys2Proof.Machine
end

section
/-! Counters stop, clear and report (R21 to R23), and the canal's answer to an access that reaches no unit
(R464). -/

namespace Sys2Proof.Machine

/-! ### Commands that are one effect -/

theorem does_act {i : Instr} {t : Nat} {f : State → State} {s y : State} (hx : exec i s = act t f s)
    (h : ReportEq (f (advance t s)) y) : Does i s y :=
  ⟨_, hx, (settle_eq _).trans h⟩

theorem leads_act {i : Instr} {t : Nat} {f : State → State} {s : State} {p : State → Prop}
    (hx : exec i s = act t f s) (h : p (settle (f (advance t s)))) : Leads i s p :=
  ⟨_, hx, h⟩

/-! ### Accesses that reach no unit -/

/-- What an access that is answered DECODE leaves, its reports apart: the error in its master's record with the
first address, its count, and the source that fires (R464). -/
def refusedAccess (m a : Nat) (x : State) : State :=
  fired .canalDecode (count .decodeErrors m 1
    (setMaster m { master m x with decode := true, errAddr := some ((master m x).errAddr.getD a) } x))

theorem decodeError_eq (m a : Nat) (s : State) : ReportEq (decodeError m a s) (refusedAccess m a s) :=
  fire_eq _ _

theorem ReportEq.of_canalDone {x y : State} (h : ReportEq x y) (e : CanalDone) :
    ReportEq (canalDone e x) (canalDone e y) := by
  have hcanal (z : State) : Machine.rest (canalDone e z) = canalDone e (Machine.rest z) := rfl
  exact ⟨by rw [hcanal, hcanal, h.rest], h.ctr, h.ev⟩

/-! ### One counter -/

theorem ctrGet_ctrClear (c d : Ctr) (i k : Nat) (s : State) :
    ctrGet d k (ctrClear c i s) = if ctrKey d k = ctrKey c i then 0 else ctrGet d k s := by
  simp only [ctrGet, ctrClear, sGet_sPut]

theorem sat_ctr (c : Ctr) (i : Nat) (s : State) :
    (Named.ctr c).sat i s = true ↔ ctrGet c i s = ctrMax := by simp [Named.sat]

theorem sat_ctr_eq_false (c : Ctr) (i : Nat) (s : State) :
    (Named.ctr c).sat i s = false ↔ ctrGet c i s ≠ ctrMax := by simp [Named.sat]

/-- R21: what counting does to the counter, to the others and to the reports that are due. -/
theorem count_stops (c : Ctr) (i n : Nat) (s : State) :
    let v := ctrGet c i s
    let z := count c i n s
    ctrGet c i z = min ctrMax (v + n) ∧
    (∀ d k, ctrKey d k ≠ ctrKey c i → ctrGet d k z = ctrGet d k s) ∧
    (v < ctrMax → ctrMax ≤ v + n → z.satDue = s.satDue ++ [(c.index, i)] ∧ (Named.ctr c).sat i z = true) ∧
    (v + n < ctrMax → z.satDue = s.satDue ∧ (Named.ctr c).sat i z = false) ∧
    (v = ctrMax → z.satDue = s.satDue ∧ ctrGet c i z = ctrMax) := by
  intro v z
  have hz : ctrGet c i z = min ctrMax (v + n) := ctrGet_count_same c i n s
  have hdue : z.satDue = if v < ctrMax ∧ ctrMax ≤ v + n then s.satDue ++ [(c.index, i)] else s.satDue :=
    count_satDue c i n s
  refine ⟨hz, fun d k hk => ?_, fun hv hn => ⟨?_, ?_⟩, fun hn => ⟨?_, ?_⟩, fun hv => ⟨?_, ?_⟩⟩
  · rw [ctrGet_count, if_neg hk]
  · rw [hdue, if_pos ⟨hv, hn⟩]
  · rw [sat_ctr]
    omega
  · rw [hdue, if_neg (by omega)]
  · rw [sat_ctr_eq_false]
    omega
  · rw [hdue, if_neg (by omega)]
  · omega

/-- R22: a cleared counter reads 0, counts on from there and reports again. -/
theorem ctrClear_rearms (c : Ctr) (i : Nat) (s : State) :
    let z := ctrClear c i s
    ctrGet c i z = 0 ∧ (Named.ctr c).sat i z = false ∧ ctrGet c i (count c i 1 z) = 1 ∧
    (∀ d k, ctrKey d k ≠ ctrKey c i → ctrGet d k z = ctrGet d k s) ∧
    (∀ n, ctrMax ≤ n → (count c i n z).satDue = z.satDue ++ [(c.index, i)]) := by
  intro z
  have hz : ctrGet c i z = 0 := by rw [ctrGet_ctrClear, if_pos rfl]
  have hmax : ctrMax = 281474976710655 := rfl
  refine ⟨hz, ?_, ?_, fun d k hk => ?_, fun n hn => ?_⟩
  · rw [sat_ctr_eq_false]
    omega
  · rw [ctrGet_count_same]
    omega
  · rw [ctrGet_ctrClear, if_neg hk]
  · rw [count_satDue, if_pos (by omega)]

/-- R520: a count of events stops like a counter. -/
theorem noteEvent_stops (e : Ev) (s : State) :
    let z := noteEvent e s
    eventCount e z = min ctrMax (eventCount e s + 1) ∧ (∀ d, d ≠ e → eventCount d z = eventCount d s) ∧
    (eventCount e s + 1 = ctrMax → z.satDue = s.satDue ++ [(2000 + e.code, 0)]) ∧
    (eventCount e s + 1 ≠ ctrMax → z.satDue = s.satDue) := by
  refine ⟨?_, fun d hd => ?_, fun h => ?_, fun h => ?_⟩
  · rw [eventCount_noteEvent, if_pos rfl]
  · rw [eventCount_noteEvent, if_neg hd]
  · rw [noteEvent_satDue, if_pos h]
  · rw [noteEvent_satDue, if_neg h]

/-! ### RC_READ -/

/-- What RC_READ does before its reports are raised (R23, R42). -/
theorem exec_rcRead (t : Nat) (m : Fin 2) (c : Ctr) (i : Fin 4096) (s : State) :
    exec (.rcRead t m c i) s = act t (fun x =>
      if (Reg.ctr c i).up x then ctrClear c i (regDone m (ctrGet c i (ctrFresh c x)) (ctrFresh c x))
      else canalDone ⟨m, 0, .decode, natLE 8 0⟩ (decodeError m (Reg.ctr c i).addr x)) s := rfl

theorem rcRead_clears (t : Nat) (m : Fin 2) (c : Ctr) (i : Fin 4096) (s : State) :
    let x := advance t s
    let y := ctrFresh c x
    let up := (Reg.ctr c i).up x
    (up = true → Does (.rcRead t m c i) s (ctrClear c i
      { y with canal := { y.canal with done := ⟨m, 0, .okay, natLE 8 (ctrGet c i y)⟩ :: y.canal.done } })) ∧
    (c ≠ .spillHoldCycles → y = x) ∧
    (up = true → c.reporting = false → Leads (.rcRead t m c i) s fun z => ctrGet c i z = 0) ∧
    (up = false → Does (.rcRead t m c i) s (canalDone ⟨m, 0, .decode, natLE 8 0⟩
      (refusedAccess m (Reg.ctr c i).addr x))) := by
  intro x y up
  refine ⟨fun hup => does_act (exec_rcRead t m c i s) ?_, fun hc => if_neg hc,
    fun hup hc => leads_act (exec_rcRead t m c i s) ?_, fun hup => does_act (exec_rcRead t m c i s) ?_⟩
  · rw [if_pos hup]
    exact .rfl' _
  · rw [(settle_eq _).ctr c i hc, if_pos hup, ctrGet_ctrClear, if_pos rfl]
  · rw [if_neg (ne_true_of_eq_false hup)]
    exact (decodeError_eq m _ x).of_canalDone _

/-- Settles O54: the counter's own laws, the count of events' and RC_READ's, and the one report that a command made
due, which finds room in every counter that raising it moves. -/
theorem countersStopClearAndReport : Obligations.CountersStopClearAndReport := by
  refine ⟨count_stops, ctrClear_rearms, rcRead_clears, noteEvent_stops, fun c i x hdue hev hroom => ?_⟩
  have hsettle := settle_of_single hdue hev fun d k hd => by have := hroom d k hd; omega
  refine ⟨hsettle, ?_, settle_satDue x⟩
  rw [hsettle, eventCount_raise, eventCount_noteEvent, if_pos rfl]
  rfl

end Sys2Proof.Machine
end

section
/-! SEM_TAKE, SEM_GIVE and REGISTER_WRITE (R18 to R20, R455, R464, R465, R523). -/

namespace Sys2Proof.Machine

/-! ### Single bits of a word -/

theorem getLsbD_and_not_ofNat {w : Nat} (x : BitVec w) (v : Nat) {j : Nat} (hj : j < w) :
    (x &&& ~~~(BitVec.ofNat w v)).getLsbD j = (x.getLsbD j && !v.testBit j) := by
  rw [BitVec.getLsbD_and, BitVec.getLsbD_not, BitVec.getLsbD_ofNat, decide_eq_true hj, Bool.true_and, Bool.true_and]

theorem getLsbD_or_ofNat {w : Nat} (x : BitVec w) (v : Nat) {j : Nat} (hj : j < w) :
    (x ||| BitVec.ofNat w v).getLsbD j = (x.getLsbD j || v.testBit j) := by
  rw [BitVec.getLsbD_or, BitVec.getLsbD_ofNat, decide_eq_true hj, Bool.true_and]

/-! ### Semaphores (R465) -/

theorem reaches_sem_of_le {m : Nat} (h : 2 ≤ m) : (!reaches m .sem) = true := by
  simpa [reaches] using Nat.not_lt.2 h

theorem reaches_sem_of_lt {m : Nat} (h : m < 2) : ¬ (!reaches m .sem) = true := by simp [reaches, h]

/-- What SEM_TAKE does before its reports are raised. -/
theorem exec_semTake (t : Nat) (m : Fin 15) (k : Fin 64) (s : State) :
    exec (.semTake t m k) s = act t (fun x => if !reaches m .sem then decodeError m (semAddr k) x
      else regDone m (semRead k x).1 (semRead k x).2) s := rfl

/-- What SEM_GIVE does before its reports are raised. -/
theorem exec_semGive (t : Nat) (m : Fin 15) (k : Fin 64) (value : Nat) (s : State) :
    exec (.semGive t m k value) s = act t (fun x => if !reaches m .sem then decodeError m (semAddr k + 4) x
      else semGive k value x) s := rfl

theorem semTake_takes (t : Nat) (m : Fin 15) (k : Fin 64) (s : State) :
    let x := advance t s
    (2 ≤ m.val → Does (.semTake t m k) s (refusedAccess m (semAddr k) x)) ∧
    (m.val < 2 → Leads (.semTake t m k) s fun z =>
      z.canal.done = ⟨m, 0, .okay, natLE 8 (if x.canal.semFree.getLsbD k then 1 else 0)⟩ :: x.canal.done ∧
      z.canal.semFree.getLsbD k = false ∧ (∀ j < 64, j ≠ k.val → z.canal.semFree.getLsbD j = x.canal.semFree.getLsbD j) ∧
      z.canal.masters = x.canal.masters ∧ z.mem = x.mem ∧ z.force = x.force) := by
  intro x
  refine ⟨fun hm => does_act (exec_semTake t m k s) ?_, fun hm => leads_act (exec_semTake t m k s) ?_⟩
  · rw [if_pos (reaches_sem_of_le hm)]
    exact decodeError_eq m _ x
  · rw [if_neg (reaches_sem_of_lt hm), settle_canal, settle_mem, settle_force]
    refine ⟨rfl, ?_, fun j hj hjk => ?_, rfl, rfl, rfl⟩
    · exact (getLsbD_and_not_ofNat _ _ k.isLt).trans (by rw [Nat.testBit_two_pow_self, Bool.not_true, Bool.and_false])
    · exact (getLsbD_and_not_ofNat _ _ hj).trans (by rw [Nat.testBit_two_pow_of_ne hjk.symm, Bool.not_false, Bool.and_true])

theorem semGive_frees (t : Nat) (m : Fin 15) (k : Fin 64) (value : Nat) (s : State) :
    let x := advance t s
    (2 ≤ m.val → Does (.semGive t m k value) s (refusedAccess m (semAddr k + 4) x)) ∧
    (m.val < 2 → value % 2 = 0 → Does (.semGive t m k value) s x) ∧
    (m.val < 2 → value % 2 = 1 → Leads (.semGive t m k value) s fun z =>
      z.canal = { x.canal with semFree := z.canal.semFree } ∧ z.canal.semFree.getLsbD k = true ∧
      (∀ j < 64, j ≠ k.val → z.canal.semFree.getLsbD j = x.canal.semFree.getLsbD j) ∧ z.mem = x.mem ∧ z.force = x.force) := by
  intro x
  refine ⟨fun hm => does_act (exec_semGive t m k value s) ?_, fun hm hv => does_act (exec_semGive t m k value s) ?_,
    fun hm hv => leads_act (exec_semGive t m k value s) ?_⟩
  · rw [if_pos (reaches_sem_of_le hm)]
    exact decodeError_eq m _ x
  · rw [if_neg (reaches_sem_of_lt hm), semGive, if_neg (by omega)]
    exact .rfl' x
  · rw [if_neg (reaches_sem_of_lt hm), semGive, if_pos hv, settle_canal, settle_mem, settle_force]
    refine ⟨rfl, ?_, fun j hj hjk => ?_, rfl, rfl⟩
    · exact (getLsbD_or_ofNat _ _ k.isLt).trans (by rw [Nat.testBit_two_pow_self, Bool.or_true])
    · exact (getLsbD_or_ofNat _ _ hj).trans (by rw [Nat.testBit_two_pow_of_ne hjk.symm, Bool.or_false])

/-! ### The journal (R523) -/

theorem sGet_foldl_sPut_of_notMem {α : Type} [DecidableEq α] (d : Nat → α) (l m : Sparse α) {k : Nat}
    (hl : ∀ e ∈ l, e.1 ≠ k) : sGet d (l.foldl (fun m e => sPut d m e.1 e.2) m) k = sGet d m k := by
  induction l generalizing m with
  | nil => rfl
  | cons e r ih =>
    have hr := ih (sPut d m e.1 e.2) fun f hf => hl f (List.mem_cons_of_mem e hf)
    exact hr.trans (sGet_sPut_of_ne d m e.2 (hl e List.mem_cons_self).symm)

theorem sGet_foldl_sPut_sIns {α : Type} [DecidableEq α] (d : Nat → α) (l m : Sparse α) {k : Nat} (v : α)
    (hl : ∀ e ∈ l, e.1 ≠ k) : sGet d ((sIns l k v).foldl (fun m e => sPut d m e.1 e.2) m) k = v := by
  induction l generalizing m with
  | nil => exact sGet_sPut_same d m k v
  | cons e r ih =>
    unfold sIns
    split
    · exact (sGet_foldl_sPut_of_notMem d (e :: r) _ hl).trans (sGet_sPut_same d m k v)
    · exact ih _ fun f hf => hl f (List.mem_cons_of_mem e hf)

/-- Of an entry set in a journal, its value returns. -/
theorem sGet_foldl_sPut_sSet {α : Type} [DecidableEq α] (d : Nat → α) (l m : Sparse α) (k : Nat) (v : α) :
    sGet d ((sSet l k v).foldl (fun m e => sPut d m e.1 e.2) m) k = v :=
  sGet_foldl_sPut_sIns d (sDel l k) m v (sDel_ne l k)

theorem pokeItem_of_reserved {i : Item} {v : Nat}
    (h : (i.coded && !i.desc.range.ok (v % 2 ^ (8 * i.desc.ty.bytes))) = true) (inst elem : Nat) (s : State) :
    pokeItem i inst elem v s = s := if_pos (by simpa using h)

/-- A read-write item takes the value at its width; the journal keeps what it held for a takeover. -/
theorem pokeItem_takes {i : Item} {v : Nat}
    (h : (i.coded && !i.desc.range.ok (v % 2 ^ (8 * i.desc.ty.bytes))) = false) (inst elem : Nat) (s : State) :
    let z := pokeItem i inst elem v s
    par i inst elem z = v % 2 ^ (8 * i.desc.ty.bytes) ∧
    (∀ j a b, itemKey j a b ≠ itemKey i inst elem → par j a b z = par j a b s) ∧
    par i inst elem (restoreJournal z) =
      (match sFind s.canal.journal (itemKey i inst elem) with
        | some w => w
        | none => par i inst elem s) ∧
    z.pend = s.pend ∧ z.mem = s.mem ∧ z.fault = s.fault := by
  have hfree : ¬ (i.coded = true ∧ (!i.desc.range.ok (v % 2 ^ (8 * i.desc.ty.bytes))) = true) := by
    simpa using h
  unfold pokeItem
  rw [if_neg hfree]
  refine ⟨?_, fun j a b hj => ?_, ?_, rfl, rfl, rfl⟩
  · exact sGet_sPut_same keyReset s.force _ _
  · exact sGet_sPut_of_ne keyReset s.force _ hj
  · exact sGet_foldl_sPut_sSet keyReset _ _ _ _

/-! ### Registers of a core (R314, R318, R328) -/

@[simp] theorem Core.reg_setReg_same (c : Core) (r : SReg) (v : Nat) : (c.setReg r v).reg r = v :=
  sGet_sPut_same _ c.regs r.key v

theorem lt_of_core_up {n k : Nat} {s : State} (h : (Reg.core n k).up s = true) : n < 64 := by
  refine Nat.lt_of_not_le fun hn => ?_
  have hout : unitUp (0x200 + n) s = false := by
    unfold unitUp
    repeat rw [if_neg (by omega)]
  simp [Reg.up, Reg.unit, hout] at h

theorem write_core_sw (n : Nat) (sh : Bool) (v : Nat) (s : State) :
    (Reg.core n (if sh then 144 else 80)).write v s =
      setCore n ((coreSeen n s).writeSw sh v) (setCore n (coreSeen n s) s) := by
  cases sh <;> rfl

theorem write_core_data {k : Nat} (hk : k < 80) (n v : Nat) (s : State) :
    (Reg.core n k).write v s =
      setCore n { coreSeen n s with regs := sPut (fun _ => 0) (coreSeen n s).regs k (v % 2 ^ coreRegBits k) }
        (setCore n (coreSeen n s) s) := by
  simp only [Reg.write]
  rw [if_neg (by omega), if_neg (by omega), if_neg (by omega), if_pos hk]

/-! ### REGISTER_WRITE (R18) -/

theorem write_item {i : Item} (hs : i ≠ .faultSticky) (hc : i ≠ .moduleCanalStatus) (inst elem v : Nat) (s : State) :
    (Reg.item i inst elem).write v s = if i.desc.acc = .rw then pokeItem i inst elem v s else s := by
  simp only [Reg.write]
  rw [if_neg hs, if_neg hc]

theorem write_txts (p v : Nat) (s : State) :
    (Reg.txts p).write v s = if bitAt v 8 then setTxQueue p { txQueue p s with ovf := false } s else s := rfl

/-- What REGISTER_WRITE does before its reports are raised. -/
theorem exec_registerWrite (t : Nat) (m : Fin 2) (r : Reg) (v : Nat) (s : State) :
    exec (.registerWrite t m r v) s =
      act t (fun x => if r.up x then r.write v x else decodeError m r.addr x) s := rfl

section
variable {t : Nat} {m : Fin 2} {r : Reg} {v : Nat} {s : State}

theorem registerWrite_refused (h : r.up (advance t s) = false) :
    Does (.registerWrite t m r v) s (refusedAccess m r.addr (advance t s)) := by
  refine does_act (exec_registerWrite t m r v s) ?_
  rw [if_neg (ne_true_of_eq_false h)]
  exact decodeError_eq m _ _

theorem registerWrite_does {y : State} (h : r.up (advance t s) = true) (hy : r.write v (advance t s) = y) :
    Does (.registerWrite t m r v) s y := by
  refine does_act (exec_registerWrite t m r v s) ?_
  rw [if_pos h, hy]
  exact .rfl' y

theorem registerWrite_leads {p : State → Prop} (h : r.up (advance t s) = true)
    (hp : p (settle (r.write v (advance t s)))) : Leads (.registerWrite t m r v) s p := by
  refine leads_act (exec_registerWrite t m r v s) ?_
  rwa [if_pos h]

end

/-- A write of the sticky bits clears those where a 1 is written. -/
theorem registerWrite_faultSticky {t : Nat} {m : Fin 2} {v inst elem : Nat} {s : State}
    (h : (Reg.item .faultSticky inst elem).up (advance t s) = true) :
    let x := advance t s
    Leads (.registerWrite t m (.item .faultSticky inst elem) v) s fun z =>
      (∀ j < 128, z.fault.sticky.getLsbD j = (x.fault.sticky.getLsbD j && !v.testBit j)) ∧
      z.fault.episodes = x.fault.episodes ∧ z.force = x.force := by
  refine registerWrite_leads h ⟨fun j hj => ?_, settle_fault_episodes _, settle_force _⟩
  rw [settle_fault_sticky]
  exact getLsbD_and_not_ofNat _ v hj

/-- A plain item takes a value that its access and its encodings allow. -/
theorem registerWrite_item {t : Nat} {m : Fin 2} {v : Nat} {s : State} (i : Item) (inst elem : Nat)
    (hs : i ≠ .faultSticky) (hc : i ≠ .moduleCanalStatus) (hup : (Reg.item i inst elem).up (advance t s) = true) :
    let x := advance t s
    let reserved := i.coded && !i.desc.range.ok (v % 2 ^ (8 * i.desc.ty.bytes))
    (i.desc.acc ≠ .rw ∨ reserved = true → Does (.registerWrite t m (.item i inst elem) v) s x) ∧
    (i.desc.acc = .rw → reserved = false → Leads (.registerWrite t m (.item i inst elem) v) s fun z =>
      par i inst elem z = v % 2 ^ (8 * i.desc.ty.bytes) ∧
      (∀ j a b, itemKey j a b ≠ itemKey i inst elem → par j a b z = par j a b x) ∧
      par i inst elem (restoreJournal z) =
        (match sFind x.canal.journal (itemKey i inst elem) with
          | some w => w
          | none => par i inst elem x) ∧
      z.pend = x.pend ∧ z.mem = x.mem ∧ z.fault.sticky = x.fault.sticky) := by
  intro x reserved
  have hw := write_item hs hc inst elem v x
  refine ⟨fun h => registerWrite_does hup (hw.trans ?_), fun hrw hfree => registerWrite_leads hup ?_⟩
  · rcases h with hacc | hres
    · exact if_neg hacc
    · rw [pokeItem_of_reserved hres, ite_self]
  · obtain ⟨htake, hother, hback, hpend, hmem, hfault⟩ := pokeItem_takes hfree inst elem x
    rw [hw, if_pos hrw]
    have hpar (j : Item) (a b : Nat) (y : State) : par j a b (settle y) = par j a b y := by
      rw [par, settle_force, par]
    have hjournal (y : State) : par i inst elem (restoreJournal (settle y)) = par i inst elem (restoreJournal y) := by
      simp only [par, restoreJournal, settle_force, settle_canal]
    refine ⟨(hpar _ _ _ _).trans htake, fun j a b hj => (hpar _ _ _ _).trans (hother j a b hj),
      (hjournal _).trans hback, (settle_pend _).trans hpend, (settle_mem _).trans hmem, ?_⟩
    rw [settle_fault_sticky, hfault]

theorem core_settle (n : Nat) (s : State) : core n (settle s) = core n s := by
  rw [core, settle_sluice, core]

/-- In SW of a core, OV and SV clear where a 1 is written (R318). -/
theorem registerWrite_core_sw {t : Nat} {m : Fin 2} {v : Nat} {s : State} (n : Nat) (sh : Bool)
    (hup : (Reg.core n (if sh then 144 else 80)).up (advance t s) = true) :
    let x := advance t s
    Leads (.registerWrite t m (.core n (if sh then 144 else 80)) v) s fun z =>
      (core n z).reg (.sw sh) = ((coreSeen n x).reg (.sw sh) % 4 &&& (3 - v % 4)) ||| (v / 4 % 2 * 4) := by
  refine registerWrite_leads hup ?_
  rw [core_settle, write_core_sw, core_setCore_same _ _ _ (lt_of_core_up hup)]
  exact Core.reg_setReg_same _ _ _

/-- A data register, accumulator or pointer of a core takes the value at its width, after the results that were
due. -/
theorem registerWrite_core_data {t : Nat} {m : Fin 2} {v : Nat} {s : State} (n k : Nat)
    (hup : (Reg.core n k).up (advance t s) = true) (hk : k < 80) :
    let x := advance t s
    Leads (.registerWrite t m (.core n k) v) s fun z =>
      z.sluice = { x.sluice with cores := z.sluice.cores } ∧
      (core n z).regs = sPut (fun _ => 0) (coreSeen n x).regs k
        (v % 2 ^ (if k < 48 then 16 else if k < 56 then 40 else 32)) ∧
      (∀ j < 64, j ≠ n → core j z = core j x) ∧ z.mem = x.mem ∧ z.force = x.force := by
  refine registerWrite_leads hup ?_
  rw [write_core_data hk]
  refine ⟨?_, ?_, fun j _ hj => ?_, settle_mem _, settle_force _⟩
  · rw [settle_sluice]
    rfl
  · rw [core_settle, core_setCore_same _ _ _ (lt_of_core_up hup)]
    rfl
  · rw [core_settle, core_setCore_of_ne _ _ hj, core_setCore_of_ne _ _ hj]

/-- Settles O53: the semaphores' bits, and REGISTER_WRITE by the kind of its register. -/
theorem registersAndSemaphoresAnswerTheirMaster : Obligations.RegistersAndSemaphoresAnswerTheirMaster := by
  refine ⟨semTake_takes, semGive_frees, fun t m v s => ⟨fun r => registerWrite_refused,
    fun c inst hup => registerWrite_does hup rfl, fun n => registerWrite_does rfl rfl, fun p => ⟨?_, ?_⟩,
    fun inst elem => registerWrite_faultSticky, fun n elem hup => registerWrite_does hup rfl,
    registerWrite_item, registerWrite_core_sw, registerWrite_core_data⟩⟩
  · exact fun h => registerWrite_does rfl ((write_txts p v _).trans (if_pos h))
  · exact fun h => registerWrite_does rfl ((write_txts p v _).trans (if_neg (ne_true_of_eq_false h)))

end Sys2Proof.Machine
end

section
/-! ACCUMULATOR_SWAP and SHADOW_SET_TAKE (R31, R99 to R101, R118, R128, R129). -/

namespace Sys2Proof.Machine

/-! ### Reads through reports -/

theorem polder_settle (n : Nat) (s : State) : polder n (settle s) = polder n s := by
  rw [polder, settle_data, polder]

theorem die_settle (d : Nat) (s : State) : die d (settle s) = die d s := by
  rw [die, settle_data, die]

theorem ctrGet_fire {c : Ctr} (h : c.reporting = false) (i : Nat) (f : Fs) (s : State) :
    ctrGet c i (fire f s) = ctrGet c i s := by
  refine ((fire_eq f s).ctr c i h).trans ?_
  unfold fired
  simp only
  split <;> rfl

/-! ### What stays outside one polder -/

/-- Beyond polder `n`, its die and the reports, the array's work leaves a state as it was: the other polders, the
memories and the totals. -/
structure LeavesOthers (n : Nat) (x z : State) : Prop where
  polders : ∀ m, m ≠ n → polder m z = polder m x
  mem : z.mem = x.mem
  tiles : z.data.tiles = x.data.tiles

namespace LeavesOthers

variable {n : Nat} {x y z : State}

theorem trans (h : LeavesOthers n x y) (h' : LeavesOthers n y z) : LeavesOthers n x z where
  polders m hm := (h'.polders m hm).trans (h.polders m hm)
  mem := h'.mem.trans h.mem
  tiles := h'.tiles.trans h.tiles

theorem of_fields (hp : z.data.polders = x.data.polders) (hm : z.mem = x.mem)
    (ht : z.data.tiles = x.data.tiles) : LeavesOthers n x z where
  polders m _ := by rw [polder, hp, polder]
  mem := hm
  tiles := ht

theorem setPolder (q : Polder) (s : State) : LeavesOthers n s (setPolder n q s) where
  polders _ hm := polder_setPolder_of_ne q s hm
  mem := rfl
  tiles := rfl

theorem settle (s : State) : LeavesOthers n s (settle s) :=
  of_fields (by rw [settle_data]) (settle_mem s) (by rw [settle_data])

end LeavesOthers

/-! ### Reads that find uncorrectable sub-blocks (R84) -/

/-- Read errors of a slot change a die, two counters and the faults: what these leave alone stays. -/
theorem culvertErrors_keeps {α : Type} (f : State → α) (hcount : ∀ c i n s, f (count c i n s) = f s)
    (hdie : ∀ k x s, f (setDie k x s) = f s) (hfire : ∀ e s, f (fire e s) = f s) (d slot : Nat) (bad : List Nat)
    (corrected : Nat) (s : State) : f (culvertErrors d slot bad corrected s) = f s := by
  unfold culvertErrors
  refine Eq.trans ?_ (hcount .culvertCorr d corrected s)
  generalize count .culvertCorr d corrected s = s0
  induction bad generalizing s0 with
  | nil => rfl
  | cons key rest ih =>
    refine (ih _).trans ?_
    simp only
    split
    · rfl
    · rw [hfire, hcount, hdie]

section
variable (d slot : Nat) (bad : List Nat) (corrected : Nat) (s : State)

theorem culvertErrors_time : (culvertErrors d slot bad corrected s).time = s.time :=
  culvertErrors_keeps (·.time) (fun _ _ _ _ => rfl) (fun _ _ _ => rfl) fire_time d slot bad corrected s

theorem culvertErrors_mem : (culvertErrors d slot bad corrected s).mem = s.mem :=
  culvertErrors_keeps (·.mem) (fun _ _ _ _ => rfl) (fun _ _ _ => rfl) fire_mem d slot bad corrected s

theorem culvertErrors_polders : (culvertErrors d slot bad corrected s).data.polders = s.data.polders :=
  culvertErrors_keeps (·.data.polders) (fun _ _ _ _ => rfl) (fun _ _ _ => rfl)
    (fun e s => congrArg DataS.polders (fire_data e s)) d slot bad corrected s

theorem culvertErrors_tiles : (culvertErrors d slot bad corrected s).data.tiles = s.data.tiles :=
  culvertErrors_keeps (·.data.tiles) (fun _ _ _ _ => rfl) (fun _ _ _ => rfl)
    (fun e s => congrArg DataS.tiles (fire_data e s)) d slot bad corrected s

theorem polder_culvertErrors (n : Nat) : polder n (culvertErrors d slot bad corrected s) = polder n s := by
  rw [polder, culvertErrors_polders, polder]

theorem culvertErrors_leavesOthers (n : Nat) : LeavesOthers n s (culvertErrors d slot bad corrected s) :=
  .of_fields (culvertErrors_polders ..) (culvertErrors_mem ..) (culvertErrors_tiles ..)

end

/-! ### The collector's hold (R129) -/

/-- The hold changes nothing but since when its die holds, and the count of its cycles. -/
theorem collectorHold_cases (d : Nat) (s : State) :
    collectorHold d s = s ∨ (∃ h, collectorHold d s = setDie d { die d s with hold := h } s) ∨
      ∃ k, collectorHold d s = count .collectorHoldCycles d k (setDie d { die d s with hold := none } s) := by
  unfold collectorHold
  simp only
  split
  · split
    · exact .inr (.inl ⟨_, rfl⟩)
    · exact .inl rfl
  · split
    · exact .inl rfl
    · exact .inr (.inr ⟨_, rfl⟩)

theorem collectorHold_polders (d : Nat) (s : State) : (collectorHold d s).data.polders = s.data.polders := by
  rcases collectorHold_cases d s with h | ⟨_, h⟩ | ⟨_, h⟩ <;> rw [h] <;> rfl

theorem polder_collectorHold (n d : Nat) (s : State) : polder n (collectorHold d s) = polder n s := by
  rw [polder, collectorHold_polders, polder]

theorem collectorHold_leavesOthers (n d : Nat) (s : State) : LeavesOthers n s (collectorHold d s) := by
  rcases collectorHold_cases d s with h | ⟨_, h⟩ | ⟨_, h⟩ <;> rw [h] <;> exact .of_fields rfl rfl rfl

theorem die_collectorHold {d : Nat} (hd : d < 4) (s : State) :
    ∃ h, die d (collectorHold d s) = { die d s with hold := h } := by
  rcases collectorHold_cases d s with h | ⟨t, h⟩ | ⟨k, h⟩
  · exact ⟨(die d s).hold, by rw [h]⟩
  · exact ⟨t, by rw [h, die_setDie_same _ _ _ hd]⟩
  · exact ⟨none, by rw [h]; exact die_setDie_same _ _ _ hd⟩

theorem ctrGet_collectorHold {c : Ctr} (hc : c ≠ .collectorHoldCycles) (i d : Nat) (s : State) :
    ctrGet c i (collectorHold d s) = ctrGet c i s := by
  rcases collectorHold_cases d s with h | ⟨_, h⟩ | ⟨_, h⟩ <;> rw [h]
  · rfl
  · exact ctrGet_count_of_ne hc _ _ _ _

/-! ### Filling the active pairs (R98, R99) -/

/-- The active pairs at the end of a tile: its lanes' sums over the slot, with those of the faulty lanes. -/
def filledPair (rows : List Nat) (v : Slot) (p : Plan) (j : TileJob) (faults : List (Nat × Int × Int)) : Shadow :=
  let out := tileLanes v (jobFormat p j) (p.areaSubs j.area) j
  ⟨j, jobFormat p j == 3, (faultyLanes rows faults out.1).map (·.acc), out.2⟩

theorem polder_fillActive {n : Nat} (hn : n < 168) (j : TileJob) (p : Plan) (faults : List (Nat × Int × Int))
    (s : State) : ∃ u, polder n (fillActive n j p faults s) =
      { polder n s with
        subSums := u
        active := some (filledPair (polder n s).rows ((die (n / 42) s).slot j.slot) p j faults) } :=
  ⟨_, polder_setPolder_same _ _ _ hn⟩

/-! ### The exchange and the hold (R99, R100) -/

theorem exchange_of_clear {n : Nat} {s : State} (h : (polder n s).active = none) : exchange n s = s := by
  simp only [exchange, h]

theorem exchange_of_filled {n : Nat} {s : State} {a : Shadow} (h : (polder n s).active = some a) :
    ∃ k, exchange n s = count .swapStallCycles (n / 7) k (setPolder n
      { polder n s with jobs := (polder n s).jobs.drop 1, held := none, active := none, shadow := some a } s) := by
  simp only [exchange, h]
  exact ⟨_, rfl⟩

theorem polder_exchange {n : Nat} (hn : n < 168) {s : State} {a : Shadow} (h : (polder n s).active = some a) :
    polder n (exchange n s) =
      { polder n s with jobs := (polder n s).jobs.drop 1, held := none, active := none, shadow := some a } := by
  obtain ⟨k, hx⟩ := exchange_of_filled h
  rw [hx]
  exact polder_setPolder_same _ _ _ hn

theorem exchange_leavesOthers (n : Nat) (s : State) : LeavesOthers n s (exchange n s) := by
  cases h : (polder n s).active with
  | none => rw [exchange_of_clear h]; exact .of_fields rfl rfl rfl
  | some a =>
    obtain ⟨k, hx⟩ := exchange_of_filled h
    rw [hx]
    exact (LeavesOthers.setPolder _ s).trans (.of_fields rfl rfl rfl)

theorem die_exchange (d n : Nat) (s : State) : die d (exchange n s) = die d s := by
  cases h : (polder n s).active with
  | none => rw [exchange_of_clear h]
  | some a => obtain ⟨k, hx⟩ := exchange_of_filled h; rw [hx]; rfl

theorem ctrGet_exchange {c : Ctr} (hc : c ≠ .swapStallCycles) (i n : Nat) (s : State) :
    ctrGet c i (exchange n s) = ctrGet c i s := by
  cases h : (polder n s).active with
  | none => rw [exchange_of_clear h]
  | some a => obtain ⟨k, hx⟩ := exchange_of_filled h; rw [hx]; exact ctrGet_count_of_ne hc _ _ _ _

/-! ### The swap (R31, R99, R100) -/

/-- A swap that is not due: no tile, active pairs that are filled, or another polder's turn in the ring. -/
theorem swap_of_not_due {n : Nat} {s : State} (h : (polder n s).jobs = [] ∨ (polder n s).active.isSome = true ∨
    ∃ j, (polder n s).jobs.head? = some j ∧ ringTurn n j s = false) (bad : List Nat) (corrected : Nat)
    (faults : List (Nat × Int × Int)) : swap n bad corrected faults s = s := by
  unfold swap
  simp only
  split
  · rfl
  · next j r hjobs =>
    have hwait : ((polder n s).active.isSome || !ringTurn n j s) = true := by
      rcases h with h | h | ⟨k, hk, hturn⟩
      · simp [hjobs] at h
      · rw [h, Bool.true_or]
      · obtain rfl : j = k := by simpa [hjobs] using hk
        rw [hturn, Bool.not_false, Bool.or_true]
    split
    · rfl
    · rw [if_pos hwait]

/-- The state in which the active pairs of a tile that is due are filled. -/
def filledState (n : Nat) (j : TileJob) (p : Plan) (bad : List Nat) (corrected : Nat)
    (faults : List (Nat × Int × Int)) (s : State) : State :=
  fillActive n j p faults (culvertErrors (n / 42) j.slot bad corrected s)

section
variable {n : Nat} {s : State} {j : TileJob} {r : List TileJob} {p : Plan} (hn : n < 168)
  (hjobs : (polder n s).jobs = j :: r) (hplan : planOf j.epoch s = some p) (hact : (polder n s).active = none)
  (hturn : ringTurn n j s = true) (bad : List Nat) (corrected : Nat) (faults : List (Nat × Int × Int))

theorem filledState_leavesOthers : LeavesOthers n s (filledState n j p bad corrected faults s) :=
  (culvertErrors_leavesOthers _ _ _ _ _ n).trans (.setPolder _ _)

theorem filledState_time : (filledState n j p bad corrected faults s).time = s.time :=
  culvertErrors_time ..

include hn in
theorem polder_filledState : ∃ u, polder n (filledState n j p bad corrected faults s) =
    { polder n s with
      subSums := u
      active := some (filledPair (polder n s).rows
        ((die (n / 42) (culvertErrors (n / 42) j.slot bad corrected s)).slot j.slot) p j faults) } := by
  obtain ⟨u, hu⟩ := polder_fillActive hn j p faults (culvertErrors (n / 42) j.slot bad corrected s)
  rw [polder_culvertErrors] at hu
  exact ⟨u, hu⟩

include hjobs hplan hact hturn

theorem swap_of_due : swap n bad corrected faults s = collectorHold (n / 42)
    (if (polder n s).shadow.isSome then holdSwap n (filledState n j p bad corrected faults s)
      else exchange n (filledState n j p bad corrected faults s)) := by
  simp only [swap, hjobs, hplan, hact, hturn]
  rfl

theorem swap_leavesOthers : LeavesOthers n s (swap n bad corrected faults s) := by
  rw [swap_of_due hjobs hplan hact hturn]
  have hfill : LeavesOthers n s (filledState n j p bad corrected faults s) :=
    filledState_leavesOthers bad corrected faults
  split
  · exact (hfill.trans (.setPolder _ _)).trans (collectorHold_leavesOthers ..)
  · exact (hfill.trans (exchange_leavesOthers _ _)).trans (collectorHold_leavesOthers ..)

include hn

/-- With the shadow pair empty, the swap makes the filled pairs the shadow set and ends the tile (R99). -/
theorem polder_swap_of_empty (hshadow : (polder n s).shadow = none) :
    ∃ u, polder n (swap n bad corrected faults s) =
      { polder n s with
        subSums := u, jobs := r, held := none, active := none
        shadow := some (filledPair (polder n s).rows
          ((die (n / 42) (culvertErrors (n / 42) j.slot bad corrected s)).slot j.slot) p j faults) } := by
  obtain ⟨u, hu⟩ := polder_filledState (s := s) (j := j) (p := p) hn bad corrected faults
  have hfull := congrArg Polder.active hu
  refine ⟨u, ?_⟩
  rw [swap_of_due hjobs hplan hact hturn, polder_collectorHold, if_neg (by simp [hshadow]),
    polder_exchange hn hfull, hu, hjobs]
  rfl

/-- With the shadow set not released, the polder holds with its active pairs filled (R100). -/
theorem polder_swap_of_full {h : Shadow} (hshadow : (polder n s).shadow = some h) :
    ∃ u, polder n (swap n bad corrected faults s) =
      { polder n s with
        subSums := u, held := some s.time.now
        active := some (filledPair (polder n s).rows
          ((die (n / 42) (culvertErrors (n / 42) j.slot bad corrected s)).slot j.slot) p j faults) } := by
  obtain ⟨u, hu⟩ := polder_filledState (s := s) (j := j) (p := p) hn bad corrected faults
  refine ⟨u, ?_⟩
  rw [swap_of_due hjobs hplan hact hturn, polder_collectorHold, if_pos (by simp [hshadow]), holdSwap,
    polder_setPolder_same _ _ _ hn, hu, filledState_time]

end

/-- What ACCUMULATOR_SWAP does before its reports are raised. -/
theorem exec_accumulatorSwap (t : Nat) (n : Fin 168) (bad : List Nat) (corrected : Nat)
    (faults : List (Nat × Int × Int)) (s : State) : exec (.accumulatorSwap t n bad corrected faults) s =
      act t (onlyIf (fun x => (polder n x).powered) (swap n bad corrected faults)) s := rfl

/-- R99, R100: the swap of a powered polder whose tile is due. -/
theorem accumulatorSwap_leads (t : Nat) (n : Fin 168) (bad : List Nat) (corrected : Nat)
    (faults : List (Nat × Int × Int)) (s : State) (j : TileJob) (r : List TileJob) (p : Plan) :
    let x := advance t s
    let q := polder n x
    let filled := filledPair q.rows
      ((die (n.val / 42) (culvertErrors (n.val / 42) j.slot bad corrected x)).slot j.slot) p j faults
    q.powered = true → q.jobs = j :: r → planOf j.epoch x = some p → q.active = none → ringTurn n j x = true →
    Leads (.accumulatorSwap t n bad corrected faults) s fun z =>
      (q.shadow = none → (polder n z).jobs = r ∧ (polder n z).held = none ∧ (polder n z).active = none ∧
        (polder n z).shadow = some filled) ∧
      (∀ h, q.shadow = some h → (polder n z).jobs = q.jobs ∧ (polder n z).held = some x.time.now ∧
        (polder n z).active = some filled ∧ (polder n z).shadow = some h) ∧
      (∀ m < 168, m ≠ n.val → polder m z = polder m x) ∧ z.mem = x.mem ∧ z.data.tiles = x.data.tiles := by
  intro x q filled hpow hjobs hplan hact hturn
  have hothers : LeavesOthers n x (settle (swap n bad corrected faults x)) :=
    (swap_leavesOthers hjobs hplan hact hturn bad corrected faults).trans (.settle _)
  refine leads_act (exec_accumulatorSwap t n bad corrected faults s) ?_
  rw [onlyIf, if_pos hpow, polder_settle]
  refine ⟨fun hshadow => ?_, fun h hshadow => ?_, fun m _ hm => hothers.polders m hm, hothers.mem, hothers.tiles⟩
  · obtain ⟨u, hz⟩ := polder_swap_of_empty n.isLt hjobs hplan hact hturn bad corrected faults hshadow
    rw [hz]
    exact ⟨rfl, rfl, rfl, rfl⟩
  · obtain ⟨u, hz⟩ := polder_swap_of_full n.isLt hjobs hplan hact hturn bad corrected faults hshadow
    rw [hz]
    exact ⟨rfl, rfl, rfl, hshadow⟩

theorem accumulatorSwap_does_nothing (t : Nat) (n : Fin 168) (bad : List Nat) (corrected : Nat)
    (faults : List (Nat × Int × Int)) (s : State) : let x := advance t s
    (polder n x).powered = false ∨ (polder n x).jobs = [] ∨ (polder n x).active.isSome = true ∨
      (∃ j, (polder n x).jobs.head? = some j ∧ ringTurn n j x = false) →
    Does (.accumulatorSwap t n bad corrected faults) s x := by
  intro x h
  have hsame : onlyIf (fun x => (polder n x).powered) (swap n bad corrected faults) x = x := by
    unfold onlyIf
    rcases h with hoff | h
    · rw [if_neg (ne_true_of_eq_false hoff)]
    · rw [swap_of_not_due h, ite_self]
  refine does_act (exec_accumulatorSwap t n bad corrected faults s) ?_
  rw [hsame]
  exact .rfl' x

/-! ### The mirror check (R109, R110) -/

theorem polder_testDue {n : Nat} (hn : n < 168) (s : State) :
    ∃ since, polder n (testDue n s) = { polder n s with testPending := true, testSince := since } := by
  by_cases h : (polder n s).testPending = true
  · refine ⟨(polder n s).testSince, ?_⟩
    rw [testDue, if_pos h, ← h]
  · refine ⟨s.time.now, ?_⟩
    rw [testDue, if_neg h, polder_setPolder_same _ _ _ hn]

theorem testDue_cases (n : Nat) (s : State) : testDue n s = s ∨ ∃ q, testDue n s = setPolder n q s := by
  by_cases h : (polder n s).testPending = true
  · exact .inl (by rw [testDue, if_pos h])
  · exact .inr ⟨_, by rw [testDue, if_neg h]⟩

theorem testDue_leavesOthers (n : Nat) (s : State) : LeavesOthers n s (testDue n s) := by
  rcases testDue_cases n s with h | ⟨q, h⟩ <;> rw [h]
  · exact .of_fields rfl rfl rfl
  · exact .setPolder q s

theorem testDue_dies (n : Nat) (s : State) : (testDue n s).data.dies = s.data.dies := by
  rcases testDue_cases n s with h | ⟨q, h⟩ <;> rw [h]
  rfl

theorem ctrGet_testDue (c : Ctr) (i n : Nat) (s : State) : ctrGet c i (testDue n s) = ctrGet c i s := by
  rcases testDue_cases n s with h | ⟨q, h⟩ <;> rw [h]
  rfl

/-- The check passes and changes nothing, or a diagonal tile has mismatches: they are counted and noted in the
polder, FS_LANE_MIRROR fires and a row test is due. -/
theorem mirrorCheck_cases (n : Nat) (h : Shadow) (s : State) :
    (¬ (h.job.a = h.job.b ∧ mirrorFaults h.fp h.sums ≠ []) ∧ mirrorCheck n h s = s) ∨
    ∃ k c p, mirrorCheck n h s = testDue n (fire .laneMirror (count .mirrorMismatch n k
      (setPolder n { polder n s with mirrorCount := c, mirrorAt := p } s))) := by
  unfold mirrorCheck
  split
  · next hne => exact .inl ⟨fun hbad => hne hbad.1, rfl⟩
  · split
    · next hnil => exact .inl ⟨fun hbad => hbad.2 hnil, rfl⟩
    · exact .inr ⟨_, _, _, rfl⟩

/-- Of its polder, the check changes only what records mismatches and the row test that they make due. -/
theorem polder_mirrorCheck {n : Nat} (hn : n < 168) (h : Shadow) (s : State) :
    ∃ due since c p, polder n (mirrorCheck n h s) =
        { polder n s with testPending := due, testSince := since, mirrorCount := c, mirrorAt := p } ∧
      (h.job.a = h.job.b → mirrorFaults h.fp h.sums ≠ [] → due = true) := by
  rcases mirrorCheck_cases n h s with ⟨hok, hsame⟩ | ⟨k, c, p, hbad⟩
  · refine ⟨_, _, _, _, by rw [hsame], fun hab hfaults => absurd ⟨hab, hfaults⟩ hok⟩
  · generalize hy : fire .laneMirror (count .mirrorMismatch n k
      (setPolder n { polder n s with mirrorCount := c, mirrorAt := p } s)) = y at hbad
    have hnoted : polder n y = { polder n s with mirrorCount := c, mirrorAt := p } := by
      rw [← hy, polder, fire_data]
      exact polder_setPolder_same _ _ _ hn
    obtain ⟨since, hdue⟩ := polder_testDue hn y
    exact ⟨true, since, c, p, by rw [hbad, hdue, hnoted], fun _ _ => rfl⟩

theorem mirrorCheck_leavesOthers (n : Nat) (h : Shadow) (s : State) : LeavesOthers n s (mirrorCheck n h s) := by
  rcases mirrorCheck_cases n h s with ⟨-, hsame⟩ | ⟨k, c, p, hbad⟩
  · rw [hsame]
    exact .of_fields rfl rfl rfl
  · have hreport (y : State) : LeavesOthers n y (fire .laneMirror (count .mirrorMismatch n k y)) :=
      .of_fields (by rw [fire_data, count_data]) (fire_mem _ _) (by rw [fire_data, count_data])
    rw [hbad]
    exact ((LeavesOthers.setPolder _ s).trans (hreport _)).trans (testDue_leavesOthers _ _)

theorem die_mirrorCheck (d n : Nat) (h : Shadow) (s : State) : die d (mirrorCheck n h s) = die d s := by
  rcases mirrorCheck_cases n h s with ⟨-, hsame⟩ | ⟨k, c, p, hbad⟩
  · rw [hsame]
  · rw [hbad, die, testDue_dies, fire_data]
    rfl

theorem ctrGet_mirrorCheck {c : Ctr} (hc : c ≠ .mirrorMismatch) (hr : c.reporting = false) (i n : Nat) (h : Shadow)
    (s : State) : ctrGet c i (mirrorCheck n h s) = ctrGet c i s := by
  rcases mirrorCheck_cases n h s with ⟨-, hsame⟩ | ⟨k, m, p, hbad⟩
  · rw [hsame]
  · rw [hbad, ctrGet_testDue, ctrGet_fire hr, ctrGet_count_of_ne hc]
    rfl

/-! ### The collector's pointer (R128) -/

theorem takeRing_lt {d r : Nat} (hd : d < 4) {s : State} (h : takeRing d s = some r) : r < 24 := by
  obtain ⟨i, -, rfl⟩ := List.mem_map.1 (List.mem_of_find?_eq_some h)
  omega

theorem lt_of_mem_readySets {r n : Nat} (hr : r < 24) {s : State} (h : n ∈ readySets r s) : n < 168 := by
  obtain ⟨i, hi, rfl⟩ := List.mem_map.1 (List.mem_filter.1 h).1
  have := List.mem_range.1 hi
  omega

/-! ### The take (R100, R101, R118, R129) -/

/-- The collector's state once it has released polder `n`'s shadow set and a held swap has taken place. -/
def releasedState (n : Nat) (s : State) : State := exchange n (setPolder n { polder n s with shadow := none } s)

/-- The state in which the collector has staged the conversion of a shadow set. -/
def stagedState (d n : Nat) (h : Shadow) (s : State) : State :=
  setDie d { die d s with staging := (die d s).staging ++ [convert h], ringPtr := n / 7 } s

theorem takeSet_eq (d n : Nat) (h : Shadow) (s : State) : ∃ flags, takeSet d n h s =
    mirrorCheck n h (count .guardFlags d flags (count .tilesDone d 1 (stagedState d n h (releasedState n s)))) :=
  ⟨_, rfl⟩

theorem releasedState_leavesOthers (n : Nat) (s : State) : LeavesOthers n s (releasedState n s) :=
  (LeavesOthers.setPolder _ s).trans (exchange_leavesOthers n _)

/-- The release: filled active pairs that waited take the set's place, and end their tile (R100). -/
theorem polder_releasedState {n : Nat} (hn : n < 168) (s : State) :
    let y := polder n (releasedState n s)
    y.shadow = (polder n s).active ∧ y.active = none ∧
      ((polder n s).active.isSome = true → y.held = none ∧ y.jobs = (polder n s).jobs.drop 1) := by
  have hempty := polder_setPolder_same n { polder n s with shadow := none } s hn
  cases hact : (polder n s).active with
  | none =>
    rw [releasedState, exchange_of_clear ((congrArg Polder.active hempty).trans hact), hempty]
    exact ⟨rfl, hact, fun hsome => by cases hsome⟩
  | some a =>
    rw [releasedState, polder_exchange hn ((congrArg Polder.active hempty).trans hact), hempty]
    exact ⟨rfl, rfl, fun _ => ⟨rfl, rfl⟩⟩

theorem takeSet_leavesOthers (d n : Nat) (h : Shadow) (s : State) : LeavesOthers n s (takeSet d n h s) := by
  obtain ⟨flags, htake⟩ := takeSet_eq d n h s
  rw [htake]
  refine (releasedState_leavesOthers n s).trans (LeavesOthers.trans ?_ (mirrorCheck_leavesOthers n h _))
  exact .of_fields rfl rfl rfl

theorem polder_takeSet {n : Nat} (hn : n < 168) (d : Nat) (h : Shadow) (s : State) :
    ∃ due since c p, polder n (takeSet d n h s) =
        { polder n (releasedState n s) with testPending := due, testSince := since, mirrorCount := c, mirrorAt := p } ∧
      (h.job.a = h.job.b → mirrorFaults h.fp h.sums ≠ [] → due = true) := by
  obtain ⟨flags, htake⟩ := takeSet_eq d n h s
  have hstaged (y : State) : polder n (count .guardFlags d flags (count .tilesDone d 1 (stagedState d n h y))) =
      polder n y := rfl
  rw [htake, ← hstaged (releasedState n s)]
  exact polder_mirrorCheck hn h _

theorem die_takeSet {d : Nat} (hd : d < 4) (n : Nat) (h : Shadow) (s : State) : die d (takeSet d n h s) =
    { die d s with staging := (die d s).staging ++ [convert h], ringPtr := n / 7 } := by
  obtain ⟨flags, htake⟩ := takeSet_eq d n h s
  have hdie : die d (releasedState n s) = die d s := die_exchange d n _
  rw [htake, die_mirrorCheck, ← hdie]
  exact die_setDie_same _ _ _ hd

theorem tilesDone_takeSet (d n : Nat) (h : Shadow) (s : State) :
    ctrGet .tilesDone d (takeSet d n h s) = min ctrMax (ctrGet .tilesDone d s + 1) := by
  obtain ⟨flags, htake⟩ := takeSet_eq d n h s
  have hbefore : ctrGet .tilesDone d (stagedState d n h (releasedState n s)) = ctrGet .tilesDone d s :=
    ctrGet_exchange (by decide) d n _
  rw [htake, ctrGet_mirrorCheck (by decide) (by decide), ctrGet_count_of_ne (by decide), ctrGet_count_same, hbefore]

/-- The effect of SHADOW_SET_TAKE, its reports apart. -/
def collect (d : Nat) (x : State) : State :=
  if 192 ≤ (die d x).staging.length then collectorHold d x
  else match takeRing d x with
    | none => x
    | some r =>
      match readySets r x with
      | [] => x
      | n :: _ =>
        match (polder n x).shadow with
        | none => x
        | some h => collectorHold d (takeSet d n h x)

/-- What SHADOW_SET_TAKE does before its reports are raised. -/
theorem exec_shadowSetTake (t : Nat) (d : Fin 4) (s : State) :
    exec (.shadowSetTake t d) s = act t (collect d) s := rfl

theorem collect_of_full {d : Nat} {x : State} (h : 192 ≤ (die d x).staging.length) :
    collect d x = collectorHold d x := if_pos h

theorem collect_of_ready {d r n : Nat} {l : List Nat} {h : Shadow} {x : State} (hroom : (die d x).staging.length < 192)
    (hring : takeRing d x = some r) (hready : readySets r x = n :: l) (hshadow : (polder n x).shadow = some h) :
    collect d x = collectorHold d (takeSet d n h x) := by
  rw [collect, if_neg (Nat.not_le.2 hroom)]
  simp only [hring, hready, hshadow]

/-- R100, R101, R128: the take of the first ready set of the ring that the pointer reaches. -/
theorem shadowSetTake_leads (t : Nat) (d : Fin 4) (s : State) (r n : Nat) (l : List Nat) (h : Shadow) :
    let x := advance t s
    (die d x).staging.length < 192 → takeRing d x = some r → readySets r x = n :: l → (polder n x).shadow = some h →
    Leads (.shadowSetTake t d) s fun z =>
      (polder n z).shadow = (polder n x).active ∧ (polder n z).active = none ∧
      ((polder n x).active.isSome = true → (polder n z).held = none ∧ (polder n z).jobs = (polder n x).jobs.drop 1) ∧
      (die d z).staging = (die d x).staging ++ [convert h] ∧
      (die d z).ringPtr = n / 7 ∧ ctrGet .tilesDone d z = min ctrMax (ctrGet .tilesDone d x + 1) ∧
      (h.job.a = h.job.b → mirrorFaults h.fp h.sums ≠ [] → (polder n z).testPending = true) ∧
      z.mem = x.mem ∧ z.data.tiles = x.data.tiles := by
  intro x hroom hring hready hshadow
  have hn : n < 168 := lt_of_mem_readySets (takeRing_lt d.isLt hring) (hready ▸ List.mem_cons_self)
  obtain ⟨hset, hclear, hheld⟩ := polder_releasedState hn x
  obtain ⟨due, since, c, p, hpolder, hdue⟩ := polder_takeSet hn d h x
  obtain ⟨hold, hdie⟩ := die_collectorHold d.isLt (takeSet d n h x)
  have hothers : LeavesOthers n x (settle (collectorHold d (takeSet d n h x))) :=
    (takeSet_leavesOthers d n h x).trans ((collectorHold_leavesOthers n d _).trans (.settle _))
  have hcount : ctrGet .tilesDone d (settle (collectorHold d (takeSet d n h x))) =
      min ctrMax (ctrGet .tilesDone d x + 1) := by
    rw [(settle_eq _).ctr _ _ (by decide), ctrGet_collectorHold (by decide), tilesDone_takeSet]
  refine leads_act (exec_shadowSetTake t d s) ?_
  rw [collect_of_ready hroom hring hready hshadow, polder_settle, polder_collectorHold, hpolder, die_settle, hdie,
    die_takeSet d.isLt]
  exact ⟨hset, hclear, hheld, rfl, rfl, hcount, hdue, hothers.mem, hothers.tiles⟩

/-- R129: without room in staging the collector takes nothing. -/
theorem shadowSetTake_of_full (t : Nat) (d : Fin 4) (s : State) : let x := advance t s
    192 ≤ (die d x).staging.length →
    Leads (.shadowSetTake t d) s fun z =>
      z.data.polders = x.data.polders ∧ (die d z).staging = (die d x).staging := by
  intro x hfull
  obtain ⟨hold, hdie⟩ := die_collectorHold d.isLt x
  refine leads_act (exec_shadowSetTake t d s) ?_
  rw [collect_of_full hfull, settle_data, die_settle, hdie]
  exact ⟨collectorHold_polders d x, rfl⟩

/-- Settles O21: ACCUMULATOR_SWAP when it is due and when it is not, and SHADOW_SET_TAKE with room in staging and
without. -/
theorem swapsAndTakesLoseNothing : Obligations.SwapsAndTakesLoseNothing :=
  ⟨accumulatorSwap_leads, accumulatorSwap_does_nothing, shadowSetTake_leads, shadowSetTake_of_full⟩

end Sys2Proof.Machine
end

section
/-! F_FRAME_RECEIVE, ARP_REQUEST and NEIGHBOUR_SOLICITATION: the checks of R61 and what an ingress port answers
(R49 to R52, R86). -/

namespace Sys2Proof.Machine

/-! ### Commands that act under a condition -/

section
variable {i : Instr} {t : Nat} {c : State → Bool} {f : State → State} {s : State}
  (hx : exec i s = act t (onlyIf c f) s)
include hx

theorem does_onlyIf {y : State} (hc : c (advance t s) = true) (h : ReportEq (f (advance t s)) y) : Does i s y :=
  does_act hx (by rwa [onlyIf, if_pos hc])

theorem leads_onlyIf {p : State → Prop} (hc : c (advance t s) = true) (h : p (settle (f (advance t s)))) :
    Leads i s p :=
  leads_act hx (by rwa [onlyIf, if_pos hc])

theorem does_onlyIf_of_not (hc : c (advance t s) = false) : Does i s (advance t s) :=
  does_act hx (by rw [onlyIf, if_neg (ne_true_of_eq_false hc)]; exact .rfl' _)

end

/-! ### The checks of R61, in their order -/

section
variable {x y : State} (hforce : y.force = x.force)
include hforce

theorem par_congr (i : Item) (inst elem : Nat) : par i inst elem y = par i inst elem x := by
  rw [par, hforce, par]

theorem par0_congr (i : Item) : par0 i y = par0 i x := par_congr hforce i 0 0

theorem addressed_congr (port : Nat) (bs : List Byte) : addressed port bs y = addressed port bs x := by
  simp only [addressed, par_congr hforce]

theorem fframe_congr (bs : List Byte) : fframe bs y = fframe bs x := by
  unfold fframe
  rw [par0_congr hforce, par0_congr hforce]

theorem handledElsewhere_congr (port : Nat) (bs : List Byte) :
    handledElsewhere port bs y = handledElsewhere port bs x := by
  unfold handledElsewhere
  rw [par_congr hforce, par_congr hforce]

theorem sourceOk_congr (ff : FFrame) : sourceOk ff y = sourceOk ff x := by
  simp only [sourceOk, par_congr hforce, par0_congr hforce]

/-- The checks read parameters in force and plan records, and nothing else of the state. -/
theorem ingressChecks_congr (hplan : y.plan = x.plan) (port : Nat) (f : EthIn) :
    ingressChecks port f y = ingressChecks port f x := by
  have hplans : plans y = plans x := by rw [plans, hplan, plans]
  have hframe (ff : FFrame) : frameChecks ff y = frameChecks ff x := by
    unfold frameChecks planAt
    rw [hplans, sourceOk_congr hforce]
  simp only [ingressChecks, addressed_congr hforce, fframe_congr hforce, handledElsewhere_congr hforce, hframe]

end

@[simp] theorem received_force (port : Nat) (f : EthIn) (s : State) : (received port f s).force = s.force := by
  simp only [received, countFrame, count_force]

@[simp] theorem received_plan (port : Nat) (f : EthIn) (s : State) : (received port f s).plan = s.plan := by
  simp only [received, countFrame, count_plan]

theorem ingressChecks_received (port : Nat) (f : EthIn) (s : State) :
    ingressChecks port f (received port f s) = ingressChecks port f s :=
  ingressChecks_congr (received_force port f s) (received_plan port f s) port f

section
variable {port : Nat} {f : EthIn} {s : State}

/-- Check 1: a bad FCS, or more than 9,216 bytes with the FCS. -/
theorem ingressChecks_of_bad (h : f.fcsOk = false ∨ 9212 < f.bytes.length) :
    ingressChecks port f s = (some .fcsErr, none) := by
  have hbad : (!f.fcsOk) = true ∨ 9216 < f.bytes.length + 4 := by
    rcases h with h | h
    · exact .inl (by rw [h, Bool.not_false])
    · exact .inr (by omega)
  rw [ingressChecks, if_pos hbad]

variable (hfcs : f.fcsOk = true) (hlen : f.bytes.length ≤ 9212)
include hfcs hlen

theorem not_badFrame : ¬ ((!f.fcsOk) = true ∨ 9216 < f.bytes.length + 4) := by
  rw [hfcs, Bool.not_true, not_or]
  exact ⟨Bool.false_ne_true, by omega⟩

theorem ingressChecks_of_notAddressed (h : addressed port f.bytes s = false) :
    ingressChecks port f s = (some .discAddr, none) := by
  rw [ingressChecks, if_neg (not_badFrame hfcs hlen), if_pos (by rw [h, Bool.not_false])]

variable (haddr : addressed port f.bytes s = true)
include haddr

theorem ingressChecks_of_flowControl (h : isFlowControl f.bytes = true) :
    ingressChecks port f s = (some .discFlowctl, none) := by
  rw [ingressChecks, if_neg (not_badFrame hfcs hlen), if_neg (by simp [haddr]), if_pos h]

variable (hflow : isFlowControl f.bytes = false)
include hflow

/-- Check 4 of a frame that holds no F-frame. -/
theorem ingressChecks_of_notFframe (h : fframe f.bytes s = none) : ingressChecks port f s =
    (if handledElsewhere port f.bytes s then none else some .discNotFframe, none) := by
  rw [ingressChecks, if_neg (not_badFrame hfcs hlen), if_neg (by simp [haddr]), if_neg (by simp [hflow])]
  simp only [h]

/-- Checks 5 to 15 of an F-frame: the first that fails names the counter. -/
theorem ingressChecks_of_frameChecks {ff : FFrame} {c : Ctr} (h : fframe f.bytes s = some ff)
    (hc : frameChecks ff s = some c) : ingressChecks port f s = (some c, none) := by
  rw [ingressChecks, if_neg (not_badFrame hfcs hlen), if_neg (by simp [haddr]), if_neg (by simp [hflow])]
  simp only [h, hc]

end

/-! ### Discards (R61, R86) -/

theorem frameIn_of_discard {port : Nat} {f : EthIn} {s : State} {c : Ctr} {o : Option FFrame}
    (h : ingressChecks port f s = (some c, o)) : frameIn port f s = discard port c (received port f s) := by
  simp only [frameIn, ingressChecks_received, h]

theorem resolve_of_discard {port : Nat} {f : EthIn} {s : State} {c : Ctr} {o : Option FFrame}
    (h : ingressChecks port f s = (some c, o)) (target : Option Nat) (own : Nat) (reply : List Byte) :
    resolve port f target own reply s = discard port c (received port f s) := by
  simp only [resolve, ingressChecks_received, h]

theorem exec_fFrameReceive (t : Nat) (port : Fin 128) (f : EthIn) (s : State) :
    exec (.fFrameReceive t port f) s = act t (onlyIf (ingressUp port) (frameIn port f)) s := rfl

theorem fFrameReceive_discards {t : Nat} {port : Fin 128} {f : EthIn} {s : State} {c : Ctr} {o : Option FFrame}
    (hup : ingressUp port (advance t s) = true) (h : ingressChecks port f (advance t s) = (some c, o)) :
    Does (.fFrameReceive t port f) s (discard port c (received port f (advance t s))) :=
  does_onlyIf (exec_fFrameReceive t port f s) hup (by rw [frameIn_of_discard h]; exact .rfl' _)

/-- Settles O15: each check of R61 that fails first gives its counter, and a frame on a port that is not up meets no
check. -/
theorem framesFailTheFirstCheckOnly : Obligations.FramesFailTheFirstCheckOnly := by
  intro t port f s x y
  refine ⟨does_onlyIf_of_not (exec_fFrameReceive t port f s), fun hup => ⟨fun hbad => ?_, fun hfcs hlen => ?_⟩⟩
  · exact fFrameReceive_discards hup (ingressChecks_of_bad hbad)
  · refine ⟨fun haddr => ?_, fun haddr hflow => ?_, fun haddr hflow => ⟨fun hnone helse => ?_, fun ff c hff hc => ?_⟩⟩
    · exact fFrameReceive_discards hup (ingressChecks_of_notAddressed hfcs hlen haddr)
    · exact fFrameReceive_discards hup (ingressChecks_of_flowControl hfcs hlen haddr hflow)
    · refine fFrameReceive_discards hup (o := none) ?_
      rw [ingressChecks_of_notFframe hfcs hlen haddr hflow hnone, if_neg (ne_true_of_eq_false helse)]
    · exact fFrameReceive_discards hup (ingressChecks_of_frameChecks hfcs hlen haddr hflow hff hc)

end Sys2Proof.Machine
end

section
/-! INGRESS_LINK_CHANGE and INGRESS_LINK_DOWN_TIMEOUT (R46, R87). -/

namespace Sys2Proof.Machine

section
variable {t : Nat} {port : Fin 128} {s : State}

/-- R46, R87: a link comes up on a port that its mode provides, in a powered group. -/
theorem ingressLinkChange_up (hdown : (ingressLink port (advance t s)).up = false)
    (hmode : modeProvides (par .ingressPortMode (port.val / 4) 0 (advance t s)) (port.val % 4) = true)
    (hdomain : domain (34 + port.val / 32) (advance t s) = .on) :
    Does (.ingressLinkChange t port true) s (noteEvent .ingressLink (setIngressLink port
      { ingressLink port (advance t s) with up := true, beenUp := true, reported := false } (advance t s))) := by
  refine does_act (show execIngressLinkChange t port true s = _ from rfl) ?_
  simp only [hdown, hmode, hdomain]
  exact raise_eq _ _ _

/-- R87: a link goes down. -/
theorem ingressLinkChange_down (hup : (ingressLink port (advance t s)).up = true) :
    Does (.ingressLinkChange t port false) s (noteEvent .ingressLink (count .linkDown port 1 (setIngressLink port
      { ingressLink port (advance t s) with up := false, downSince := (advance t s).time.now, reported := false }
      (advance t s)))) := by
  refine does_act (show execIngressLinkChange t port false s = _ from rfl) ?_
  simp only [hup]
  exact raise_eq _ _ _

/-- What a link's outage must last for FS_INGRESS_LINK: 1 s, or 2 s where the link has not been up (R87). -/
def outageWait (l : LinkS) : Nat := if l.beenUp then secT 1 else secT 2

/-- R87: the outage of a port in service has lasted its time and fires the fault source. -/
theorem ingressLinkDownTimeout_fires (hin : inService port (advance t s) = true)
    (hdown : (ingressLink port (advance t s)).up = false) (hfirst : (ingressLink port (advance t s)).reported = false)
    (hdue : (ingressLink port (advance t s)).downSince + outageWait (ingressLink port (advance t s)) ≤
      (advance t s).time.now) :
    Does (.ingressLinkDownTimeout t port) s (fired .ingressLink
      (setIngressLink port { ingressLink port (advance t s) with reported := true } (advance t s))) := by
  refine does_act (show execIngressLinkDownTimeout t port s = _ from rfl) ?_
  simp only
  rw [if_pos ⟨hin, by rw [hdown]; rfl, by rw [hfirst]; rfl, hdue⟩]
  exact fire_eq _ _

/-- R87: sooner, after the source has fired, or with the link up, the timeout does nothing. -/
theorem ingressLinkDownTimeout_idles (h : (advance t s).time.now <
      (ingressLink port (advance t s)).downSince + outageWait (ingressLink port (advance t s)) ∨
    (ingressLink port (advance t s)).reported = true ∨ (ingressLink port (advance t s)).up = true) :
    Does (.ingressLinkDownTimeout t port) s (advance t s) := by
  refine does_act (show execIngressLinkDownTimeout t port s = _ from rfl) ?_
  simp only
  rw [if_neg]
  · exact .rfl' _
  · rintro ⟨-, hdown, hfirst, hdue⟩
    rcases h with hsoon | hagain | hup
    · exact absurd hdue (Nat.not_le.2 hsoon)
    · simp [hagain] at hfirst
    · simp [hup] at hdown

end

/-- Settles O19: a link's two changes, and its timeout when the outage is due and when it is not. -/
theorem ingressLinksAreWatched : Obligations.IngressLinksAreWatched :=
  ⟨fun _ _ _ => ⟨ingressLinkChange_up, ingressLinkChange_down⟩,
    fun _ _ _ => ⟨ingressLinkDownTimeout_fires, ingressLinkDownTimeout_idles⟩⟩

end Sys2Proof.Machine
end

section
/-! What an ingress port answers, and the frames that have left the module (R51). -/

namespace Sys2Proof.Machine

/-! ### Reports send datagrams to hosts and no Ethernet frame -/

/-- What left the module as an Ethernet frame of its own. -/
def Sent.isFrame : Sent → Bool
  | .eth _ _ => true
  | _ => false

/-- The Ethernet frames that have left the module, newest first. -/
def ethFrames (s : State) : List Sent := s.sent.filter Sent.isFrame

theorem ethFrames_congr {x y : State} (h : y.sent = x.sent) : ethFrames y = ethFrames x := by
  rw [ethFrames, h, ethFrames]

theorem ethFrames_zcpSendOn (k p : Nat) (b : List Byte) (s : State) :
    ethFrames (zcpSendOn k p b s) = ethFrames s := by
  unfold zcpSendOn
  split
  · rfl
  · split <;> rfl

theorem ethFrames_zcpSend (k : Nat) (b : List Byte) (s : State) : ethFrames (zcpSend k b s) = ethFrames s := by
  unfold zcpSend
  split
  · exact (ethFrames_zcpSendOn ..).trans (ethFrames_zcpSendOn ..)
  · exact ethFrames_zcpSendOn ..
  · exact ethFrames_zcpSendOn ..

theorem ethFrames_bbWrite (kind cls code : Nat) (data : List Byte) (s : State) :
    ethFrames (bbWrite kind cls code data s) = ethFrames s := by
  unfold bbWrite
  split <;> rfl

theorem ethFrames_unsolicited (k typ : Nat) (b : List Byte) (s : State) :
    ethFrames (unsolicited k typ b s) = ethFrames s := by
  have hqueued (f : Session → Session) (c : Bool) :
      ethFrames (setSession k f (if c then count .zcpUnsolAged k 1 s else s)) = ethFrames s := by cases c <;> rfl
  unfold unsolicited
  simp only
  split
  · exact (ethFrames_zcpSend ..).trans (hqueued ..)
  · exact hqueued ..

theorem ethFrames_raise (e : Ev) (fields : List Nat) (s : State) : ethFrames (raise e fields s) = ethFrames s := by
  have hsent (b : List Byte) (l : List Nat) (x : State) :
      ethFrames (l.foldl (fun x k => unsolicited k 0x0F01 (eventPayload e.code b x) x) x) = ethFrames x := by
    induction l generalizing x with
    | nil => rfl
    | cons k r ih => exact (ih _).trans (ethFrames_unsolicited ..)
  unfold raise raiseBytes raiseIn
  simp only
  split
  · exact hsent ..
  · exact (ethFrames_bbWrite ..).trans (hsent ..)

theorem ethFrames_flushSat (n : Nat) (s : State) : ethFrames (flushSat n s) = ethFrames s := by
  induction n generalizing s with
  | zero => rfl
  | succ n ih =>
    unfold flushSat
    split
    · rfl
    · exact (ih _).trans (ethFrames_raise ..)

@[simp] theorem ethFrames_settle (s : State) : ethFrames (settle s) = ethFrames s := ethFrames_flushSat ..

theorem ethFrames_emit (port : Nat) (b : List Byte) (s : State) :
    ethFrames (emit (.eth port b) s) = .eth port b :: ethFrames s := rfl

theorem ethFrames_received (port : Nat) (f : EthIn) (s : State) : ethFrames (received port f s) = ethFrames s :=
  ethFrames_congr (by simp only [received, countFrame, count_sent])

theorem ethFrames_discard (port : Nat) (c : Ctr) (s : State) : ethFrames (discard port c s) = ethFrames s := rfl

/-! ### Requests for a configured address (R51) -/

theorem handledElsewhere_of_ptp {port : Nat} {bs : List Byte} {s : State} (h : isPtp bs = true) :
    handledElsewhere port bs s = true := by
  rw [handledElsewhere, h, Bool.true_or, Bool.true_or]

section
variable {port : Nat} {bs : List Byte} {s : State} {a : Nat} (hne : a ≠ 0)
include hne

theorem handledElsewhere_of_arp (h : arpTarget bs = some a) (ha : a = par .ingressIp4 port 0 s % 2 ^ 32) :
    handledElsewhere port bs s = true := by
  have hasked : (a != 0 && a == par .ingressIp4 port 0 s % 2 ^ 32) = true := by rw [← ha]; simp [hne]
  unfold handledElsewhere
  simp only [h, hasked, Bool.or_true, Bool.true_or]

theorem handledElsewhere_of_ns (h : nsTarget bs = some a) (ha : a = par .ingressIp6 port 0 s) :
    handledElsewhere port bs s = true := by
  have hasked : (a != 0 && a == par .ingressIp6 port 0 s) = true := by rw [← ha]; simp [hne]
  unfold handledElsewhere
  simp only [h, hasked, Bool.or_true]

end

/-! ### Address resolution (R51) -/

theorem exec_arpRequest (t : Nat) (port : Fin 128) (f : EthIn) (s : State) : exec (.arpRequest t port f) s =
    act t (onlyIf (ingressUp port) fun x => resolve port f (arpTarget f.bytes) (par .ingressIp4 port 0 x % 2 ^ 32)
      (arpReply f.bytes (par .ingressMac port 0 x)) x) s := rfl

theorem exec_neighbourSolicitation (t : Nat) (port : Fin 128) (f : EthIn) (s : State) :
    exec (.neighbourSolicitation t port f) s = act t (onlyIf (ingressUp port) fun x =>
      resolve port f (nsTarget f.bytes) (par .ingressIp6 port 0 x) (nsReply f.bytes (par .ingressMac port 0 x)) x) s :=
  rfl

section
variable {i : Instr} {t : Nat} {port : Fin 128} {f : EthIn} {s : State} {target : Option Nat} {own : State → Nat}
  {reply : State → List Byte}
  (hx : exec i s = act t (onlyIf (ingressUp port) fun x => resolve port f target (own x) (reply x) x) s)
  (hup : ingressUp port (advance t s) = true)
include hx hup

/-- A request that passes the checks and asks for the port's own address is answered in one frame. -/
theorem resolve_answers (hchecks : ingressChecks port f (advance t s) = (none, none))
    (hown : target = some (own (advance t s))) : Leads i s fun z => ReportEq z (received port f (advance t s)) ∧
      ethFrames z = .eth port (reply (advance t s)) :: ethFrames (advance t s) := by
  have hresolve : resolve port f target (own (advance t s)) (reply (advance t s)) (advance t s) =
      emit (.eth port (reply (advance t s))) (received port f (advance t s)) := by
    simp only [resolve, ingressChecks_received, hchecks, if_pos hown]
  refine leads_onlyIf hx hup ?_
  simp only [hresolve, ethFrames_settle, ethFrames_emit, ethFrames_received]
  exact ⟨(settle_eq _).trans (emit_eq _ _), trivial⟩

theorem resolve_discards {c : Ctr} {o : Option FFrame} (h : ingressChecks port f (advance t s) = (some c, o)) :
    Does i s (discard port c (received port f (advance t s))) :=
  does_onlyIf hx hup (by simp only [resolve_of_discard h]; exact .rfl' _)

end

/-- A frame that is discarded makes the port send no frame. -/
theorem leads_silently {i : Instr} {t : Nat} {port : Fin 128} {f : EthIn} {c : Ctr} {g : State → State} {s : State}
    (hx : exec i s = act t (onlyIf (ingressUp port) g) s) (hup : ingressUp port (advance t s) = true)
    (hg : g (advance t s) = discard port c (received port f (advance t s))) :
    Leads i s fun z => ReportEq z (discard port c (received port f (advance t s))) ∧
      ethFrames z = ethFrames (advance t s) := by
  refine leads_onlyIf hx hup ?_
  rw [hg, ethFrames_settle, ethFrames_discard, ethFrames_received]
  exact ⟨settle_eq _, rfl⟩

/-- Settles O17: requests for the port's addresses are answered, others discarded in silence; flow control fails
check 3, and what R51 names passes check 4. -/
theorem addressResolutionAnswersConfiguredAddresses : Obligations.AddressResolutionAnswersConfiguredAddresses := by
  unfold Obligations.AddressResolutionAnswersConfiguredAddresses
  intro frames silent
  refine ⟨fun t port f s a hup hfcs hlen haddr hflow hff => ?_, fun t port f s hup hfcs hlen haddr hflow => ?_,
    fun port bytes x h => ?_⟩
  · have hchecks := ingressChecks_of_notFframe hfcs hlen haddr hflow hff
    refine ⟨fun harp hne ha => ?_, fun hns hne ha => ?_, fun helse => ?_⟩
    · rw [if_pos (handledElsewhere_of_arp hne harp ha)] at hchecks
      exact resolve_answers (exec_arpRequest t port f s) hup hchecks (harp.trans (congrArg some ha))
    · rw [if_pos (handledElsewhere_of_ns hne hns ha)] at hchecks
      exact resolve_answers (exec_neighbourSolicitation t port f s) hup hchecks (hns.trans (congrArg some ha))
    · rw [if_neg (ne_true_of_eq_false helse)] at hchecks
      exact ⟨leads_silently (exec_arpRequest t port f s) hup (resolve_of_discard hchecks ..),
        leads_silently (exec_neighbourSolicitation t port f s) hup (resolve_of_discard hchecks ..),
        leads_silently (exec_fFrameReceive t port f s) hup (frameIn_of_discard hchecks)⟩
  · have hchecks := ingressChecks_of_flowControl hfcs hlen haddr hflow
    exact ⟨resolve_discards (exec_arpRequest t port f s) hup hchecks,
      resolve_discards (exec_neighbourSolicitation t port f s) hup hchecks, fFrameReceive_discards hup hchecks⟩
  · rcases h with hptp | ⟨a, harp, hne, ha⟩ | ⟨a, hns, hne, ha⟩
    · exact handledElsewhere_of_ptp hptp
    · exact handledElsewhere_of_arp hne harp ha
    · exact handledElsewhere_of_ns hne hns ha

end Sys2Proof.Machine
end

section
/-! Admission of a block-ordered frame to a culvert slot (R63, R70, R72, R76, R200). -/

namespace Sys2Proof.Machine

/-! ### Admission of a block (R70, R72) -/

theorem admitBlock_of_stopped {p : Plan} {b d : Nat} {s : State} (h : (die d s).stopped = true) :
    admitBlock p b d s = (.noSlot, s) := by
  rw [admitBlock, if_pos h]

/-- The plan record that a die works on is neither an earlier one nor a later one (R305). -/
theorem not_lt_of_epoch_eq {p : Plan} {x : Die} (h : p.epoch = x.epoch) :
    ¬ p.epoch < x.epoch ∧ ¬ x.epoch < p.epoch := by omega

section
variable {p : Plan} {b d : Nat} {s : State} (hrun : (die d s).stopped = false) (hepoch : p.epoch = (die d s).epoch)
include hrun hepoch

/-- A block of the plan record that its die works on, below the lowest that is not released. -/
theorem admitBlock_of_released (h : b < (die d s).released) : admitBlock p b d s = (.late, s) := by
  simp only [admitBlock, hrun, not_lt_of_epoch_eq hepoch, h, Bool.false_eq_true, false_and, true_or, if_false,
    if_true]

variable (hnew : (die d s).released ≤ b) (hahead : (die d s).ahead.contains b = false)
include hnew hahead

theorem admitBlock_of_open {i : Nat} (hfind : (die d s).find p.epoch b = some i)
    (hopen : ((die d s).slot i).state = .open) : admitBlock p b d s = (.slot i, s) := by
  simp only [admitBlock, hrun, not_lt_of_epoch_eq hepoch, Nat.not_lt.2 hnew, hahead, hfind, hopen, Bool.false_eq_true,
    false_and, or_self, if_false, if_true]

variable (hfind : (die d s).find p.epoch b = none)
include hfind

theorem admitBlock_of_full (hfull : toOpen p (die d s) b = none) : admitBlock p b d s = (.noSlot, s) := by
  simp only [admitBlock, hrun, not_lt_of_epoch_eq hepoch, Nat.not_lt.2 hnew, hahead, hfind, hfull, Bool.false_eq_true,
    false_and, or_self, if_false]

theorem admitBlock_of_free (hd : d < 4) {l : List Nat} {i : Nat} (hroom : toOpen p (die d s) b = some l)
    (hopened : (openAll p s.time.now (die d s) l).find p.epoch b = some i) :
    admitBlock p b d s = (.slot i, setDie d (openAll p s.time.now (die d s) l) s) := by
  simp only [admitBlock, hrun, not_lt_of_epoch_eq hepoch, Nat.not_lt.2 hnew, hahead, hfind, hroom, hopened,
    die_setDie_same _ _ _ hd, Bool.false_eq_true, false_and, or_self, if_false]

end

/-! ### The staged copy of a zoom source (R200) -/

theorem foldl_changes_mem {α : Type} {f : State → α → State} (hf : ∀ x a, ∃ m, f x a = { x with mem := m })
    (l : List α) (s : State) : ∃ m, l.foldl f s = { s with mem := m } := by
  refine l.foldlRecOn f (motive := fun y => ∃ m, y = { s with mem := m }) ⟨s.mem, rfl⟩ fun y hy a _ => ?_
  obtain ⟨m, rfl⟩ := hy
  obtain ⟨m', h⟩ := hf { s with mem := m } a
  exact ⟨m', h⟩

/-- A byte written at a location, if there is one: `setCell` with its location taken as given, so that no proof
about the write evaluates where a DPA lies. -/
def putCell (loc : Option (Nat × Nat)) (b : Byte) (s : State) : State :=
  match loc with
  | some l => { s with mem := { s.mem with cells := s.mem.cells.setByte (l.1 * 2 ^ 30 + l.2) b } }
  | none => s

theorem setCell_eq (dpa : Nat) (b : Byte) (s : State) : setCell dpa b s = putCell (locOf dpa s) b s := rfl

theorem setCell_changes_mem (dpa : Nat) (b : Byte) (s : State) : ∃ m, setCell dpa b s = { s with mem := m } := by
  rw [setCell_eq]
  cases locOf dpa s with
  | none => exact ⟨s.mem, rfl⟩
  | some l => exact ⟨_, rfl⟩

theorem freshCodewords_changes_mem (dpa n : Nat) (s : State) : ∃ m, freshCodewords dpa n s = { s with mem := m } := by
  unfold freshCodewords
  simp only
  split
  · exact ⟨_, rfl⟩
  · refine foldl_changes_mem (fun x i => ?_) _ s
    split
    · exact ⟨_, rfl⟩
    · exact ⟨x.mem, rfl⟩

theorem cellsWrite_changes_mem (dpa : Nat) (bytes : List Byte) (s : State) :
    ∃ m, cellsWrite dpa bytes s = { s with mem := m } := by
  obtain ⟨m, hm⟩ := freshCodewords_changes_mem dpa bytes.length s
  obtain ⟨m', hw⟩ := foldl_changes_mem (fun x (e : Byte × Nat) => setCell_changes_mem (dpa + e.2) e.1 x)
    bytes.zipIdx (freshCodewords dpa bytes.length s)
  exact ⟨m', by rw [cellsWrite, hw, hm]⟩

theorem stageOpen_changes_zoom (p : Plan) (chan chunk : Nat) (s : State) :
    ∃ z, stageOpen p chan chunk s = { s with zoom := z } := by
  unfold stageOpen
  split
  · exact ⟨s.zoom, rfl⟩
  · split
    · exact ⟨s.zoom, rfl⟩
    · exact ⟨_, rfl⟩

/-- The copy changes the staging area and its bitmaps. -/
theorem stageSub_changes_zoom_mem (p : Plan) (chan chunk key : Nat) (bytes : List Byte) (s : State) :
    ∃ z m, stageSub p chan chunk key bytes s = { s with zoom := z, mem := m } := by
  unfold stageSub
  split
  · exact ⟨s.zoom, s.mem, rfl⟩
  · obtain ⟨z, hz⟩ := stageOpen_changes_zoom p chan chunk s
    simp only [hz]
    split
    · exact ⟨z, s.mem, rfl⟩
    · obtain ⟨m, hm⟩ := cellsWrite_changes_mem _ _ _
      exact ⟨_, m, hm⟩

theorem die_stageSub (p : Plan) (chan chunk key : Nat) (bytes : List Byte) (e : Nat) (s : State) :
    die e (stageSub p chan chunk key bytes s) = die e s := by
  obtain ⟨z, m, h⟩ := stageSub_changes_zoom_mem p chan chunk key bytes s
  rw [h]
  rfl

theorem stageSub_ctr (p : Plan) (chan chunk key : Nat) (bytes : List Byte) (s : State) :
    (stageSub p chan chunk key bytes s).ctr = s.ctr := by
  obtain ⟨z, m, h⟩ := stageSub_changes_zoom_mem p chan chunk key bytes s
  rw [h]

theorem stageSub_of_not_source {p : Plan} {chan : Nat} (h : p.sources.contains chan = false) (chunk key : Nat)
    (bytes : List Byte) (s : State) : stageSub p chan chunk key bytes s = s := by
  have hcopies : copies p chan s = false := by rw [copies, h, Bool.false_and, Bool.false_and]
  rw [stageSub, if_pos (by rw [hcopies, Bool.not_false])]

/-! ### Writing a sub-block (R76) -/

theorem Die.slot_setSlot (x : Die) (i j : Nat) (v : Slot) :
    (x.setSlot i v).slot j = if j = i ∧ i < x.slots.length then v else x.slot j := by
  unfold Die.slot Die.setSlot
  rw [List.getD_eq_getElem?_getD, List.getD_eq_getElem?_getD, List.getElem?_set]
  by_cases hji : j = i
  · subst hji
    by_cases hlen : j < x.slots.length
    · simp [hlen]
    · simp [hlen]
  · simp [hji, Ne.symm hji]

theorem Die.slot_setSlot_same {x : Die} {i : Nat} (h : i < x.slots.length) (v : Slot) :
    (x.setSlot i v).slot i = v := by rw [Die.slot_setSlot, if_pos ⟨rfl, h⟩]

theorem Die.slot_setSlot_of_ne {i j : Nat} (h : j ≠ i) (x : Die) (v : Slot) : (x.setSlot i v).slot j = x.slot j := by
  rw [Die.slot_setSlot, if_neg fun hji => h hji.1]

/-- A slot with a sub-block stored. -/
def Slot.store (v : Slot) (key : Nat) (bytes : List Byte) : Slot := { v with subs := sSet v.subs key bytes }

theorem writeSub_of_present {d i key : Nat} {s : State} {old : List Byte}
    (h : sFind ((die d s).slot i).subs key = some old) (p : Plan) (bytes : List Byte) :
    writeSub p d i key bytes s = count .dupSubblocks d 1 s := by
  simp only [writeSub, h]

theorem writeSub_of_absent {d i key : Nat} {s : State} (h : sFind ((die d s).slot i).subs key = none) (p : Plan)
    (bytes : List Byte) : writeSub p d i key bytes s =
      stageSub p ((die d s).slot i).chan ((die d s).slot i).chunk key bytes
        (setDie d ((die d s).setSlot i (((die d s).slot i).store key bytes)) s) := by
  simp only [writeSub, h]
  rfl

theorem writeSub_stores {p : Plan} {d i key : Nat} {bytes : List Byte} {x : State} (hd : d < 4)
    (hi : i < (die d x).slots.length) (habsent : sFind ((die d x).slot i).subs key = none) :
    let z := writeSub p d i key bytes x
    sFind ((die d z).slot i).subs key = some bytes ∧
    (∀ k, k ≠ key → sFind ((die d z).slot i).subs k = sFind ((die d x).slot i).subs k) ∧
    (∀ j, j ≠ i → (die d z).slot j = (die d x).slot j) ∧
    (∀ e, e ≠ d → die e z = die e x) ∧ z.ctr = x.ctr ∧
    (p.sources.contains ((die d x).slot i).chan = false → z.mem = x.mem) := by
  intro z
  have hz : z = _ := writeSub_of_absent habsent p bytes
  clear_value z
  have hdies (e : Nat) : die e z =
      die e (setDie d ((die d x).setSlot i (((die d x).slot i).store key bytes)) x) := by rw [hz, die_stageSub]
  have hslot : (die d z).slot i = ((die d x).slot i).store key bytes := by
    rw [hdies, die_setDie_same _ _ _ hd, Die.slot_setSlot_same hi]
  refine ⟨?_, fun k hk => ?_, fun j hj => ?_, fun e he => ?_, ?_, fun hsource => ?_⟩
  · rw [hslot]
    exact sFind_sSet_same _ _ _
  · rw [hslot]
    exact (sFind_sSet _ _ _ _).trans (if_neg hk)
  · rw [hdies, die_setDie_same _ _ _ hd, Die.slot_setSlot_of_ne hj]
  · rw [hdies, die_setDie_of_ne _ _ he]
  · rw [hz, stageSub_ctr, setDie_ctr]
  · rw [hz, stageSub_of_not_source hsource, setDie_mem]

/-! ### Frames that pass the checks (R61, R63, R70) -/

/-- What a frame leaves that is admitted to slot `i`: its counts, and its sub-blocks unless it is flagged, the slot
closed when it is complete (R58, R72, R76). -/
def entered (port : Nat) (f : EthIn) (ff : FFrame) (p : Plan) (d i : Nat) (s : State) : State :=
  if ff.flagged then accepted port f ff s
  else closeIfFull d i p ((frameSubs p ff).foldl
    (fun w q => writeSub p d i (q.1 * p.s + q.2.1) q.2.2 w) (accepted port f ff s))

section
variable {port : Nat} {f : EthIn} {ff : FFrame} {p : Plan} {s : State}

theorem frameIn_of_checked (hchecks : ingressChecks port f s = (none, some ff)) (hplan : planAt ff.sc s = some p)
    (hblock : p.timeOrdered = false) : frameIn port f s = admitFrame port f p ff (received port f s) := by
  have hplan' : planAt ff.sc (received port f s) = some p := hplan
  simp only [frameIn, ingressChecks_received, hchecks, hplan', hblock]
  rfl

/-- The block that a frame's samples belong to (R63). -/
def FFrame.block (ff : FFrame) (p : Plan) : Nat := p.block (ff.sc / p.t) ((p.pos ff.chan).getD 0)

theorem admitFrame_of_late {y : State} (h : admitBlock p (ff.block p) (ff.block p % 4) s = (.late, y)) :
    admitFrame port f p ff s = count .lateFrames (ff.block p % 4) 1 y := by
  simp only [FFrame.block] at h
  simp only [admitFrame, h]
  rfl

theorem admitFrame_of_noSlot {y : State} (h : admitBlock p (ff.block p) (ff.block p % 4) s = (.noSlot, y)) :
    admitFrame port f p ff s = count .noslotFrames (ff.block p % 4) 1 y := by
  simp only [FFrame.block] at h
  simp only [admitFrame, h]
  rfl

theorem admitFrame_of_slot {y : State} {i : Nat} (h : admitBlock p (ff.block p) (ff.block p % 4) s = (.slot i, y)) :
    admitFrame port f p ff s = entered port f ff p (ff.block p % 4) i y := by
  simp only [FFrame.block] at h
  simp only [admitFrame, h]
  rfl

end

/-! ### F_FRAME_RECEIVE of a block-ordered plan -/

theorem die_received (port : Nat) (f : EthIn) (d : Nat) (s : State) : die d (received port f s) = die d s := by
  simp only [die, received, countFrame, count_data]

theorem received_time (port : Nat) (f : EthIn) (s : State) : (received port f s).time = s.time := by
  simp only [received, countFrame, count_time]

section
variable {t : Nat} {port : Fin 128} {f : EthIn} {ff : FFrame} {p : Plan} {s : State}
  (hup : ingressUp port (advance t s) = true) (hchecks : ingressChecks port f (advance t s) = (none, some ff))
  (hplan : planAt ff.sc (advance t s) = some p) (hblock : p.timeOrdered = false)
include hup hchecks hplan hblock

theorem fFrameReceive_admits {y : State} (h : admitFrame port f p ff (received port f (advance t s)) = y) :
    Does (.fFrameReceive t port f) s y :=
  does_onlyIf (exec_fFrameReceive t port f s) hup (by rw [frameIn_of_checked hchecks hplan hblock, h]; exact .rfl' _)

/-- R548: a stopped die takes no frame. -/
theorem fFrameReceive_stopped (h : (die (ff.block p % 4) (advance t s)).stopped = true) :
    Does (.fFrameReceive t port f) s
      (count .noslotFrames (ff.block p % 4) 1 (received port f (advance t s))) := by
  rw [← die_received port f] at h
  exact fFrameReceive_admits hup hchecks hplan hblock (admitFrame_of_noSlot (admitBlock_of_stopped h))

variable (hrun : (die (ff.block p % 4) (advance t s)).stopped = false)
  (hepoch : p.epoch = (die (ff.block p % 4) (advance t s)).epoch)
include hrun hepoch

/-- R72: a frame of a released block is late. -/
theorem fFrameReceive_late (h : ff.block p < (die (ff.block p % 4) (advance t s)).released) :
    Does (.fFrameReceive t port f) s
      (count .lateFrames (ff.block p % 4) 1 (received port f (advance t s))) := by
  rw [← die_received port f] at h hrun hepoch
  exact fFrameReceive_admits hup hchecks hplan hblock (admitFrame_of_late (admitBlock_of_released hrun hepoch h))

variable (hnew : (die (ff.block p % 4) (advance t s)).released ≤ ff.block p)
  (hahead : (die (ff.block p % 4) (advance t s)).ahead.contains (ff.block p) = false)
include hnew hahead

/-- R70, R76: a frame enters the OPEN slot of its block. -/
theorem fFrameReceive_enters {i : Nat}
    (hfind : (die (ff.block p % 4) (advance t s)).find p.epoch (ff.block p) = some i)
    (hopen : ((die (ff.block p % 4) (advance t s)).slot i).state = .open) :
    Does (.fFrameReceive t port f) s (entered port f ff p (ff.block p % 4) i (received port f (advance t s))) := by
  rw [← die_received port f] at hrun hepoch hnew hahead hfind hopen
  exact fFrameReceive_admits hup hchecks hplan hblock
    (admitFrame_of_slot (admitBlock_of_open hrun hepoch hnew hahead hfind hopen))

/-- R70: FREE slots open for the blocks up to the frame's, and it enters its own. -/
theorem fFrameReceive_opens {i : Nat} {l : List Nat}
    (hfind : (die (ff.block p % 4) (advance t s)).find p.epoch (ff.block p) = none)
    (hroom : toOpen p (die (ff.block p % 4) (advance t s)) (ff.block p) = some l)
    (hopened : (openAll p (advance t s).time.now (die (ff.block p % 4) (advance t s)) l).find p.epoch (ff.block p) =
      some i) :
    Does (.fFrameReceive t port f) s (entered port f ff p (ff.block p % 4) i
      (setDie (ff.block p % 4) (openAll p (advance t s).time.now (die (ff.block p % 4) (advance t s)) l)
        (received port f (advance t s)))) := by
  have hd : ff.block p % 4 < 4 := Nat.mod_lt _ (by decide)
  rw [← die_received port f, ← received_time port f] at hopened
  rw [← die_received port f] at hrun hepoch hnew hahead hfind hroom
  rw [← die_received port f, ← received_time port f]
  exact fFrameReceive_admits hup hchecks hplan hblock
    (admitFrame_of_slot (admitBlock_of_free hrun hepoch hnew hahead hfind hd hroom hopened))

end

/-- Settles O16: admission of the frame's block in its cases, and what a present and an absent sub-block do. -/
theorem acceptedFramesEnterTheirSlot : Obligations.AcceptedFramesEnterTheirSlot :=
  ⟨fun _ _ _ _ _ _ hup hchecks hplan hblock =>
    ⟨fFrameReceive_stopped hup hchecks hplan hblock, fFrameReceive_late hup hchecks hplan hblock,
      fun _ hrun hepoch hnew hahead => fFrameReceive_enters hup hchecks hplan hblock hrun hepoch hnew hahead,
      fun _ _ hrun hepoch hnew hahead => fFrameReceive_opens hup hchecks hplan hblock hrun hepoch hnew hahead⟩,
    fun p _ _ _ bytes _ hd hi =>
      ⟨fun _ hpresent => writeSub_of_present hpresent p bytes, fun habsent => writeSub_stores hd hi habsent⟩⟩

end Sys2Proof.Machine
end

section
/-! BLOCK_DEADLINE (R72, R73, R76): the close of a block, and the release of a die's leading blocks. -/

namespace Sys2Proof.Machine

/-! ### What work on the culverts leaves alone -/

/-- Beyond the dies, their counters, the staged copies and the taps, work on culvert slots leaves a state as it was:
power, parameters, boot status and the corner-turn areas. -/
structure InCulverts (x z : State) : Prop where
  ct : z.data.ct = x.data.ct
  power : z.power = x.power
  force : z.force = x.force
  boot : z.boot = x.boot

namespace InCulverts

variable {x y z : State}

theorem refl (x : State) : InCulverts x x := ⟨rfl, rfl, rfl, rfl⟩

theorem trans (h : InCulverts x y) (h' : InCulverts y z) : InCulverts x z where
  ct := h'.ct.trans h.ct
  power := h'.power.trans h.power
  force := h'.force.trans h.force
  boot := h'.boot.trans h.boot

theorem count (c : Ctr) (i n : Nat) (s : State) : InCulverts s (count c i n s) := ⟨rfl, rfl, rfl, rfl⟩

theorem setDie (d : Nat) (v : Die) (s : State) : InCulverts s (setDie d v s) := ⟨rfl, rfl, rfl, rfl⟩

theorem foldl {α : Type} {f : State → α → State} (hf : ∀ s a, InCulverts s (f s a)) (l : List α) (s : State) :
    InCulverts s (l.foldl f s) :=
  l.foldlRecOn f (refl s) fun y h a _ => h.trans (hf y a)

end InCulverts

/-- The counters that move when blocks are released without being computed (R171, R351, R545). -/
def releaseCtrs : List Ctr := [.dieBeamBlocksLost, .beamBlocksSkipped, .tapMissed]

/-- The release of blocks keeps the memories and every counter but those of `releaseCtrs`, and opens no slot. -/
structure Releases (x z : State) : Prop extends InCulverts x z where
  mem : z.mem = x.mem
  ctr : ∀ c i, c ∉ releaseCtrs → ctrGet c i z = ctrGet c i x
  notOpen : ∀ d i, ((die d x).slot i).state ≠ .open → ((die d z).slot i).state ≠ .open

namespace Releases

variable {x y z : State}

theorem refl (x : State) : Releases x x := ⟨.refl x, rfl, fun _ _ _ => rfl, fun _ _ h => h⟩

theorem trans (h : Releases x y) (h' : Releases y z) : Releases x z where
  toInCulverts := h.toInCulverts.trans h'.toInCulverts
  mem := h'.mem.trans h.mem
  ctr c i hc := (h'.ctr c i hc).trans (h.ctr c i hc)
  notOpen d i hd := h'.notOpen d i (h.notOpen d i hd)

theorem count {c : Ctr} (hc : c ∈ releaseCtrs) (i n : Nat) (s : State) : Releases s (count c i n s) where
  toInCulverts := .count c i n s
  mem := rfl
  ctr e j he := ctrGet_count_of_ne (by rintro rfl; exact he hc) j i n s
  notOpen _ _ h := h

theorem setDie {d : Nat} {v : Die} {s : State}
    (h : ∀ i, ((die d s).slot i).state ≠ .open → (v.slot i).state ≠ .open) : Releases s (setDie d v s) where
  toInCulverts := .setDie d v s
  mem := rfl
  ctr _ _ _ := rfl
  notOpen e i hi := by
    have hdie : die e (Machine.setDie d v s) = if e = d ∧ d < 4 then v else die e s := RegFile.getD_set _ _ _ _ _
    rw [hdie]
    split
    · next hed => exact h i (hed.1 ▸ hi)
    · exact hi

theorem foldl {α : Type} {f : State → α → State} (hf : ∀ s a, Releases s (f s a)) (l : List α) (s : State) :
    Releases s (l.foldl f s) :=
  l.foldlRecOn f (refl s) fun y h a _ => h.trans (hf y a)

end Releases

/-! ### The release of leading blocks (R71, R73) -/

theorem countBeamSkip_releases (p : Plan) (d : Nat) (s : State) : Releases s (countBeamSkip p d s) := by
  unfold countBeamSkip
  split
  · exact .refl s
  · split
    · exact .count (by decide) _ _ _
    · exact .foldl (fun x e => .count (by decide) _ _ _) _ s

theorem ledgerDue_releases (d area epoch chan chunk : Nat) (s : State) :
    Releases s (ledgerDue d area epoch chan chunk s) := .setDie fun _ h => h

theorem missTaps_releases (d slot : Nat) (s : State) : Releases s (missTaps d slot s) := by
  have htaps (taps : List TapDue) : Releases s { s with sluice := { s.sluice with taps := taps } } :=
    ⟨⟨rfl, rfl, rfl, rfl⟩, rfl, fun _ _ _ => rfl, fun _ _ h => h⟩
  exact (htaps _).trans (.foldl (fun y x => .count (by decide) _ _ _) _ _)

theorem Die.slot_freeSlot_notOpen (p : Plan) (x : Die) (i j : Nat) (h : (x.slot j).state ≠ .open) :
    ((x.freeSlot p i).slot j).state ≠ .open := by
  rw [Die.freeSlot, Die.slot_setSlot]
  split
  · exact SlotState.noConfusion
  · exact h

theorem dieAdvance_releases (n d : Nat) (s : State) : Releases s (dieAdvance n d s) := by
  induction n generalizing s with
  | zero => exact .refl s
  | succ n ih =>
    unfold dieAdvance
    simp only
    split
    · exact .refl s
    next p _ =>
      split
      · refine (((Releases.setDie fun _ h => ?_).trans (ledgerDue_releases ..)).trans
          (countBeamSkip_releases ..)).trans (ih _)
        exact h
      · split
        · refine (Releases.setDie fun _ h => ?_).trans (ih _)
          exact h
        · split
          · exact .refl s
          next i _ =>
            split
            · refine ((((Releases.setDie fun j h => ?_).trans (missTaps_releases ..)).trans
                (ledgerDue_releases ..)).trans (countBeamSkip_releases ..)).trans (ih _)
              exact Die.slot_freeSlot_notOpen p _ i j h
            · exact .refl s

/-! ### The close of a block (R72, R201, R351) -/

theorem stageClose_changes_zoom (p : Plan) (v : Slot) (s : State) : ∃ z, stageClose p v s = { s with zoom := z } := by
  unfold stageClose
  split
  · exact ⟨s.zoom, rfl⟩
  · obtain ⟨z, hz⟩ := stageOpen_changes_zoom p v.chan v.chunk s
    simp only [hz]
    exact ⟨_, rfl⟩

/-- The counts of a block that closes empty, complete, or neither (R72). -/
def countClosed (d : Nat) (empty full : Bool) (s : State) : State :=
  if empty then count .blocksEmpty d 1 s else if full then s else count .blocksIncomplete d 1 s

theorem tapBlock_releases (d i : Nat) (p : Plan) (s : State) : Releases s (tapBlock d i p s) :=
  ⟨⟨rfl, rfl, rfl, rfl⟩, rfl, fun _ _ _ => rfl, fun _ _ h => h⟩

theorem stageClose_releases (p : Plan) (v : Slot) (s : State) : Releases s (stageClose p v s) := by
  obtain ⟨z, hz⟩ := stageClose_changes_zoom p v s
  rw [hz]
  exact ⟨⟨rfl, rfl, rfl, rfl⟩, rfl, fun _ _ _ => rfl, fun _ _ h => h⟩

/-- A block closes: its slot is CLOSED, the block is counted, and the die's leading blocks are released. -/
theorem closeSlot_releases (d i : Nat) (p : Plan) (s : State) :
    let v := (die d s).slot i
    ∃ (w : Slot) (x : Die), w.state = .closed ∧ x.slots = (die d s).slots.set i w ∧
      Releases (countClosed d v.subs.isEmpty (decide (v.subs.length = p.blockSubs)) (setDie d x s))
        (closeSlot d i p s) :=
  ⟨_, _, rfl, rfl, ((stageClose_releases ..).trans (tapBlock_releases ..)).trans (dieAdvance_releases ..)⟩

theorem countClosed_inCulverts (d : Nat) (empty full : Bool) (s : State) :
    InCulverts s (countClosed d empty full s) := by
  cases empty <;> cases full <;> exact ⟨rfl, rfl, rfl, rfl⟩

theorem die_countClosed (d e : Nat) (empty full : Bool) (s : State) :
    die e (countClosed d empty full s) = die e s := by
  cases empty <;> cases full <;> rfl

theorem countClosed_mem (d : Nat) (empty full : Bool) (s : State) : (countClosed d empty full s).mem = s.mem := by
  cases empty <;> cases full <;> rfl

theorem ctrGet_blocksEmpty_countClosed (d : Nat) (empty full : Bool) (s : State) :
    ctrGet .blocksEmpty d (countClosed d empty full s) =
      if empty then min ctrMax (ctrGet .blocksEmpty d s + 1) else ctrGet .blocksEmpty d s := by
  cases empty
  · cases full
    · exact ctrGet_count_of_ne (by decide) ..
    · rfl
  · exact ctrGet_count_same ..

theorem ctrGet_blocksIncomplete_countClosed (d : Nat) (empty full : Bool) (s : State) :
    ctrGet .blocksIncomplete d (countClosed d empty full s) =
      if empty || full then ctrGet .blocksIncomplete d s else min ctrMax (ctrGet .blocksIncomplete d s + 1) := by
  cases empty
  · cases full
    · exact ctrGet_count_same ..
    · rfl
  · exact ctrGet_count_of_ne (by decide) ..

section
variable (d i : Nat) (p : Plan) (s : State)

theorem closeSlot_inCulverts : InCulverts s (closeSlot d i p s) := by
  obtain ⟨w, x, -, -, h⟩ := closeSlot_releases d i p s
  exact ((InCulverts.setDie d x s).trans (countClosed_inCulverts ..)).trans h.toInCulverts

theorem closeSlot_mem : (closeSlot d i p s).mem = s.mem := by
  obtain ⟨w, x, -, -, h⟩ := closeSlot_releases d i p s
  rw [h.mem, countClosed_mem, setDie_mem]

/-- R72: the closed slot is not OPEN, whatever its die releases. -/
theorem closeSlot_notOpen {d : Nat} (hd : d < 4) : ((die d (closeSlot d i p s)).slot i).state ≠ .open := by
  obtain ⟨w, x, hw, hx, h⟩ := closeSlot_releases d i p s
  refine h.notOpen d i ?_
  have hset : x.slot i = ((die d s).setSlot i w).slot i := by rw [Die.slot, hx, Die.slot, Die.setSlot]
  rw [die_countClosed, die_setDie_same _ _ _ hd, hset, Die.slot_setSlot]
  split
  · rw [hw]
    exact SlotState.noConfusion
  · next hout =>
    rw [Die.slot, List.getD_eq_getElem?_getD, List.getElem?_eq_none (by omega)]
    exact SlotState.noConfusion

theorem ctrGet_closeSlot {c : Ctr} (hc : c ∉ releaseCtrs) (j : Nat) :
    let v := (die d s).slot i
    ctrGet c j (closeSlot d i p s) =
      ctrGet c j (countClosed d v.subs.isEmpty (decide (v.subs.length = p.blockSubs)) s) := by
  intro v
  obtain ⟨w, x, -, -, h⟩ := closeSlot_releases d i p s
  rw [h.ctr c j hc, ctrGet, ctrGet]
  unfold countClosed
  split
  · rfl
  · split <;> rfl

theorem ctrGet_blocksEmpty_closeSlot :
    ctrGet .blocksEmpty d (closeSlot d i p s) = if ((die d s).slot i).subs.isEmpty
      then min ctrMax (ctrGet .blocksEmpty d s + 1) else ctrGet .blocksEmpty d s :=
  (ctrGet_closeSlot d i p s (by decide) d).trans (ctrGet_blocksEmpty_countClosed ..)

theorem ctrGet_blocksIncomplete_closeSlot :
    ctrGet .blocksIncomplete d (closeSlot d i p s) =
      if ((die d s).slot i).subs.isEmpty ∨ ((die d s).slot i).subs.length = p.blockSubs
      then ctrGet .blocksIncomplete d s else min ctrMax (ctrGet .blocksIncomplete d s + 1) := by
  rw [ctrGet_closeSlot d i p s (by decide), ctrGet_blocksIncomplete_countClosed]
  simp only [Bool.or_eq_true, decide_eq_true_eq]

end

/-! ### BLOCK_DEADLINE (R72) -/

section
variable {t : Nat} {d : Fin 4} {i : Fin 16} {s : State} {p : Plan}
  (hplan : planOf ((die d (advance t s)).slot i).epoch (advance t s) = some p)
include hplan

theorem exec_blockDeadline_of_due (hopen : ((die d (advance t s)).slot i).state = .open)
    (hdue : deadline p ((die d (advance t s)).slot i) ≤ (advance t s).time.now) :
    exec (.blockDeadline t d i) s = .next (settle (closeSlot d i p (advance t s))) := by
  refine (show exec (.blockDeadline t d i) s = execBlockDeadline t d i s from rfl).trans ?_
  simp only [execBlockDeadline, act, hplan]
  rw [if_pos ⟨hopen, hdue⟩]

/-- R72: before its deadline a block stays open. -/
theorem blockDeadline_waits (hsoon : (advance t s).time.now < deadline p ((die d (advance t s)).slot i)) :
    Does (.blockDeadline t d i) s (advance t s) := by
  refine does_act (show execBlockDeadline t d i s = _ from rfl) ?_
  simp only [hplan]
  rw [if_neg fun h => Nat.not_le.2 hsoon h.2]
  exact .rfl' _

/-- R72, R76: an OPEN slot closes at its deadline. An empty block counts BLOCKS_EMPTY, and one that lacks sub-blocks
BLOCKS_INCOMPLETE, in counters of 48 bits (R21). -/
theorem blockDeadline_closes (hopen : ((die d (advance t s)).slot i).state = .open)
    (hdue : deadline p ((die d (advance t s)).slot i) ≤ (advance t s).time.now)
    (hempty : ctrGet .blocksEmpty d (advance t s) ≤ ctrMax)
    (hincomplete : ctrGet .blocksIncomplete d (advance t s) ≤ ctrMax) :
    let x := advance t s
    let v := (die d x).slot i
    Leads (.blockDeadline t d i) s fun z =>
      ((die d z).slot i).state ≠ .open ∧
      ctrGet .blocksEmpty d z = min ctrMax (ctrGet .blocksEmpty d x + (if v.subs.isEmpty then 1 else 0)) ∧
      ctrGet .blocksIncomplete d z = min ctrMax (ctrGet .blocksIncomplete d x +
        (if v.subs.isEmpty ∨ v.subs.length = p.blockSubs then 0 else 1)) ∧
      z.mem = x.mem ∧ z.power = x.power ∧ z.force = x.force ∧ z.boot = x.boot := by
  intro x v
  obtain ⟨-, hpower, hforce, hboot⟩ := closeSlot_inCulverts d i p x
  refine ⟨_, exec_blockDeadline_of_due hplan hopen hdue, ?_, ?_, ?_, ?_, ?_, ?_, ?_⟩
  · rw [die_settle]
    exact closeSlot_notOpen i p x d.isLt
  · rw [(settle_eq _).ctr _ _ (by decide), ctrGet_blocksEmpty_closeSlot]
    split
    · rfl
    · exact (Nat.min_eq_right hempty).symm
  · rw [(settle_eq _).ctr _ _ (by decide), ctrGet_blocksIncomplete_closeSlot]
    split
    · exact (Nat.min_eq_right hincomplete).symm
    · rfl
  · rw [settle_mem, closeSlot_mem]
  · rw [settle_power, hpower]
  · rw [settle_force, hforce]
  · rw [settle_boot, hboot]

end

end Sys2Proof.Machine
end

section
/-! CORNER_TURN_CLOSE_WAIT and CORNER_TURN_MOVE (R64, R67, R70, R72). -/

namespace Sys2Proof.Machine

/-! ### CORNER_TURN_CLOSE_WAIT (R67) -/

section
variable {t chunk : Nat} {s : State} {e at_ : Nat} {p : Plan}
  (hseen : (advance t s).data.ctSeen.find? (fun y => y.2.1 == chunk + 1) = some (e, chunk + 1, at_))
  (hplan : planOf e (advance t s) = some p)
include hseen hplan

/-- Sooner than ingress.close_wait after the first frame of chunk k + 1, chunk k stays open. -/
theorem cornerTurnCloseWait_waits (hsoon : (advance t s).time.now < at_ + p.closeWait) :
    Does (.cornerTurnCloseWait t chunk) s (advance t s) := by
  refine does_act (show execCornerTurnCloseWait t chunk s = _ from rfl) ?_
  simp only [hseen, hplan, hsoon, or_true, if_true]
  exact .rfl' _

variable (hct : ctClosed p chunk (advance t s) = false) (hdue : at_ + p.closeWait ≤ (advance t s).time.now)
include hct hdue

/-- A chunk with an area closes there. -/
theorem cornerTurnCloseWait_closes {i : Nat} (hfind : ctFind p chunk (advance t s) = some i) :
    Does (.cornerTurnCloseWait t chunk) s (ctClose p chunk (advance t s)) := by
  refine does_act (show execCornerTurnCloseWait t chunk s = _ from rfl) ?_
  simp only [hseen, hplan, hct, Nat.not_lt.2 hdue, hfind, Bool.false_eq_true, or_self, if_false]
  exact .rfl' _

/-- A chunk of which no sub-block came takes a free area to close in. -/
theorem cornerTurnCloseWait_opens {y : State} (hfind : ctFind p chunk (advance t s) = none)
    (hnew : ctNew p chunk (advance t s) = some y) :
    Does (.cornerTurnCloseWait t chunk) s (ctClose p chunk y) := by
  refine does_act (show execCornerTurnCloseWait t chunk s = _ from rfl) ?_
  simp only [hseen, hplan, hct, Nat.not_lt.2 hdue, hfind, hnew, Bool.false_eq_true, or_self, if_false]
  exact .rfl' _

end

/-! ### Work on the culverts and the corner-turn areas -/

theorem ledgerDue_inCulverts (d area epoch chan chunk : Nat) (s : State) :
    InCulverts s (ledgerDue d area epoch chan chunk s) := (ledgerDue_releases ..).toInCulverts

theorem dieSwitch_inCulverts (p : Plan) (d : Nat) (s : State) : InCulverts s (dieSwitch p d s) := by
  unfold dieSwitch
  simp only
  refine InCulverts.trans ?_ (.setDie _ _ _)
  split
  · exact .refl s
  · exact .foldl (fun y b => (ledgerDue_inCulverts ..).trans (countBeamSkip_releases ..).toInCulverts) _ s

theorem admitBlock_inCulverts (p : Plan) (b d : Nat) (s : State) : InCulverts s (admitBlock p b d s).2 := by
  have hswitched : InCulverts s (if (die d s).epoch < p.epoch then dieSwitch p d s else s) := by
    split
    · exact dieSwitch_inCulverts p d s
    · exact .refl s
  unfold admitBlock
  simp only
  generalize (if (die d s).epoch < p.epoch then dieSwitch p d s else s) = s1 at hswitched
  split
  · exact .refl s
  · split
    · exact .refl s
    · split
      · exact .refl s
      · split
        · exact hswitched
        · split
          · split <;> exact hswitched
          · split
            · exact .refl s
            · split <;> exact hswitched.trans (.setDie _ _ _)

theorem writeSub_inCulverts (p : Plan) (d i key : Nat) (bytes : List Byte) (s : State) :
    InCulverts s (writeSub p d i key bytes s) := by
  cases h : sFind ((die d s).slot i).subs key with
  | some old => rw [writeSub_of_present h]; exact .count _ _ _ _
  | none =>
    rw [writeSub_of_absent h]
    obtain ⟨z, m, hz⟩ := stageSub_changes_zoom_mem p ((die d s).slot i).chan ((die d s).slot i).chunk key bytes
      (setDie d ((die d s).setSlot i (((die d s).slot i).store key bytes)) s)
    rw [hz]
    exact ⟨rfl, rfl, rfl, rfl⟩

/-- The corner-turn areas once the next block of area `i` has been moved (R64). -/
def movedAreas (i : Nat) (a : CtArea) (p : Plan) (ct : List CtArea) : List CtArea :=
  if p.c ≤ a.moved + 1 then ct.eraseIdx i else ct.set i { a with moved := a.moved + 1 }

theorem ctAdvance_eq (i : Nat) (a : CtArea) (p : Plan) (s : State) :
    ctAdvance i a p s = { s with data := { s.data with ct := movedAreas i a p s.data.ct } } := by
  unfold ctAdvance movedAreas
  simp only
  split <;> rfl

/-! ### CORNER_TURN_MOVE (R64, R70, R72) -/

/-- With no closed area there is no oldest one. -/
theorem ctOldest_of_open {s : State} (h : ∀ a ∈ s.data.ct, a.closed = false) : ctOldest s = none := by
  unfold ctOldest
  refine Option.map_eq_none_iff.2 (List.foldlRecOn (motive := fun b => b = none) _ _ rfl fun b hb i _ => ?_)
  split
  · exact hb
  · next a ha => rw [h a (List.mem_of_getElem? ha), Bool.not_false, if_pos rfl, hb]

theorem cornerTurnMove_idles {t : Nat} {s : State} (h : ∀ a ∈ (advance t s).data.ct, a.closed = false) :
    Does (.cornerTurnMove t) s (advance t s) := by
  refine does_act (show execCornerTurnMove t s = _ from rfl) ?_
  simp only [ctOldest_of_open h]
  exact .rfl' _

section
variable {t : Nat} {s : State} {i : Nat} {a : CtArea} {p : Plan}
  (hold : ctOldest (advance t s) = some i) (harea : (advance t s).data.ct[i]? = some a)
  (hplan : planOf a.epoch (advance t s) = some p)
include hold harea hplan

/-- R298: a block that is shed counts as moved. -/
theorem cornerTurnMove_skips (hskip : p.skips a.chunk a.moved = true) :
    Does (.cornerTurnMove t) s { advance t s with data := { (advance t s).data with
      ct := movedAreas i a p (advance t s).data.ct } } := by
  refine does_act (show execCornerTurnMove t s = _ from rfl) ?_
  simp only [hold, harea, hplan, hskip, if_true, ctAdvance_eq]
  exact .rfl' _

variable (hskip : p.skips a.chunk a.moved = false)
  (hrun : (die (p.block a.chunk a.moved % 4) (advance t s)).stopped = false)
include hskip hrun

/-- R70: a block that finds no slot stays where it is. -/
theorem cornerTurnMove_waits (hepoch : p.epoch = (die (p.block a.chunk a.moved % 4) (advance t s)).epoch)
    (hnew : (die (p.block a.chunk a.moved % 4) (advance t s)).released ≤ p.block a.chunk a.moved)
    (hahead : (die (p.block a.chunk a.moved % 4) (advance t s)).ahead.contains (p.block a.chunk a.moved) = false)
    (hfind : (die (p.block a.chunk a.moved % 4) (advance t s)).find p.epoch (p.block a.chunk a.moved) = none)
    (hfull : toOpen p (die (p.block a.chunk a.moved % 4) (advance t s)) (p.block a.chunk a.moved) = none) :
    Does (.cornerTurnMove t) s (advance t s) := by
  refine does_act (show execCornerTurnMove t s = _ from rfl) ?_
  simp only [hold, harea, hplan, hskip, hrun, admitBlock_of_full hrun hepoch hnew hahead hfind hfull,
    Bool.false_eq_true, if_false]
  exact .rfl' _

/-- R64, R72: a block that is admitted fills its slot, closes there and counts as moved. -/
theorem cornerTurnMove_closes {k : Nat} {y : State}
    (hslot : admitBlock p (p.block a.chunk a.moved) (p.block a.chunk a.moved % 4) (advance t s) = (.slot k, y)) :
    let x := advance t s
    Leads (.cornerTurnMove t) s fun z => ((die (p.block a.chunk a.moved % 4) z).slot k).state ≠ .open ∧
      z.data.ct = movedAreas i a p x.data.ct ∧ z.power = x.power ∧ z.force = x.force ∧ z.boot = x.boot := by
  intro x
  have hd : p.block a.chunk a.moved % 4 < 4 := Nat.mod_lt _ (by decide)
  have hadmit : InCulverts x y := by
    have h := admitBlock_inCulverts p (p.block a.chunk a.moved) (p.block a.chunk a.moved % 4) x
    rwa [hslot] at h
  have hfill (l : List (Nat × List Byte)) :
      InCulverts x (l.foldl (fun u w => writeSub p (p.block a.chunk a.moved % 4) k w.1 w.2 u) y) :=
    hadmit.trans (.foldl (fun u w => writeSub_inCulverts ..) l y)
  refine leads_act (show execCornerTurnMove t s = _ from rfl) ?_
  simp only [hold, harea, hplan, hskip, hrun, hslot, Bool.false_eq_true, if_false, ctAdvance_eq, die_settle,
    settle_data, settle_power, settle_force, settle_boot]
  exact ⟨closeSlot_notOpen k p _ hd,
    (closeSlot_inCulverts ..).ct.trans (congrArg (movedAreas i a p) (hfill _).ct),
    (closeSlot_inCulverts ..).power.trans (hfill _).power, (closeSlot_inCulverts ..).force.trans (hfill _).force,
    (closeSlot_inCulverts ..).boot.trans (hfill _).boot⟩

end

end Sys2Proof.Machine
end

section
/-! A counter beyond its 48 bits at BLOCK_DEADLINE: what the statement of O18 asks of it (R21, R72). -/

namespace Sys2Proof.Machine

namespace Overrun

/-- A plan record of one channel, with every COMMIT item at its reset value. -/
def plan : Plan :=
  { id := 1, epoch := 1, commit := 1, sc := 0, cfg := [], channels := [0], skipN := 0, shed := 0, skew := 0
    freshBanks := false, known := 0 }

/-- An OPEN slot that holds one sub-block. -/
def slot : Slot := { Slot.empty with state := .open, epoch := 1, subs := [(0, List.replicate 128 0)] }

/-- Die 0 fills the slot, and its BLOCKS_EMPTY reads 2^48, more than a counter holds (R21). -/
def state : State :=
  { State.reset with
    plan := { State.reset.plan with running := some plan }
    data := { resetData with dies := .replicate 4 { resetDie with slots := [slot] } }
    ctr := [(ctrKey .blocksEmpty 0, 2 ^ 48)] }

section
variable (t : Nat)

theorem slot_advance : (die (0 : Fin 4) (advance t state)).slot (0 : Fin 16) = slot := by
  rw [die, advance_data]
  rfl

theorem planOf_slot : planOf ((die (0 : Fin 4) (advance t state)).slot (0 : Fin 16)).epoch (advance t state) =
    some plan := by
  rw [slot_advance, planOf, plans, advance_plan]
  rfl

theorem slot_open : ((die (0 : Fin 4) (advance t state)).slot (0 : Fin 16)).state = .open := by
  rw [slot_advance]
  rfl

theorem deadline_passed : deadline plan ((die (0 : Fin 4) (advance (deadline plan slot) state)).slot (0 : Fin 16)) ≤
    (advance (deadline plan slot) state).time.now := by
  rw [slot_advance, advance_now]
  exact Nat.le_max_left _ _

/-- The block that closes is not empty: BLOCKS_EMPTY still reads 2^48. -/
theorem blocksEmpty_closed : ctrGet .blocksEmpty (0 : Fin 4)
    (settle (closeSlot (0 : Fin 4) (0 : Fin 16) plan (advance t state))) = 2 ^ 48 := by
  rw [(settle_eq _).ctr _ _ (by decide), ctrGet_blocksEmpty_closeSlot, slot_advance, if_neg (by decide), ctrGet,
    advance_ctr]
  rfl

end

end Overrun

/-- Refutes O18: in a state whose BLOCKS_EMPTY reads more than all ones, a block that is not empty leaves the counter
as it is at its deadline, and the statement asks for all ones. With counters of 48 bits that clause holds
(`blockDeadline_closes`), and the other clauses hold of every state (`blockDeadline_waits`,
`cornerTurnCloseWait_closes`, `cornerTurnCloseWait_opens`, `cornerTurnCloseWait_waits`, `cornerTurnMove_idles`,
`cornerTurnMove_skips`, `cornerTurnMove_waits`, `cornerTurnMove_closes`). -/
theorem not_blocksCloseAndChunksMove : ¬ Obligations.BlocksCloseAndChunksMove := by
  rintro ⟨hdeadline, -⟩
  let t := deadline Overrun.plan Overrun.slot
  obtain ⟨hcloses, -⟩ := hdeadline t 0 0 Overrun.state Overrun.plan (Overrun.planOf_slot t) (Overrun.slot_open t)
  obtain ⟨z, hz, -, hcount, -⟩ := hcloses Overrun.deadline_passed
  have hexec := exec_blockDeadline_of_due (Overrun.planOf_slot t) (Overrun.slot_open t) Overrun.deadline_passed
  obtain rfl : settle _ = z := Host.Outcome.next.inj (hexec.symm.trans hz)
  have hmax : 2 ^ 48 ≤ ctrMax := (Overrun.blocksEmpty_closed t).symm.trans hcount ▸ Nat.min_le_left _ _
  exact absurd hmax (by decide)

end Sys2Proof.Machine
end

section
/-! The values that the module holds at reset (R107, R176, R317, R360, R383, R400, R415, R418, R465, R543, R568,
R589). -/

namespace Sys2Proof.Machine

/-! ### Store keys of elements (R512) -/

theorem Item.all_getD_index (i : Item) : Item.all.getD i.index .moduleVariant = i := by
  cases i <;> rfl

section
variable (i : Item) {inst elem : Nat} (hinst : inst < 4096) (helem : elem < 65536)
include hinst helem

/-- The key of an element names its item. -/
theorem keyItem_itemKey : keyItem (itemKey i inst elem) = i := by
  have hindex : itemKey i inst elem / 2 ^ 28 = i.index := by
    unfold itemKey
    omega
  rw [keyItem, hindex, Item.all_getD_index]

/-- What an element reads where its store does not list it (R589). -/
theorem keyReset_itemKey : keyReset (itemKey i inst elem) = i.resetAt inst := by
  have hinst' : itemKey i inst elem / 2 ^ 16 % 4096 = inst := by
    unfold itemKey
    omega
  rw [keyReset, keyItem_itemKey i hinst helem, hinst']

end

/-! ### The units at reset -/

theorem session_reset {k : Nat} (hk : k < 4) :
    session k State.reset = resetSession (if k = 0 then some Config.factoryKey else none) :=
  RegFile.getD_ofFn _ _ _ hk

theorem episode_reset {c : Nat} (hc : c < 4) : episode c State.reset = ⟨.idle, 0, 0, 0⟩ :=
  RegFile.getD_replicate _ _ _ hc

theorem domain_reset {pd : Nat} (hpd : pd < 40) : domain pd State.reset = .off :=
  RegFile.getD_replicate _ _ _ hpd

theorem feed_reset {k : Nat} (hk : k < 2) : feed k State.reset = ⟨0, 0, .lostLow, false⟩ :=
  RegFile.getD_replicate _ _ _ hk

theorem ref_reset {r : Nat} (hr : r < 6) : ref r State.reset = resetRef :=
  RegFile.getD_replicate _ _ _ hr

theorem out_reset {n : Nat} (hn : n < 9) : out n State.reset = resetOut :=
  RegFile.getD_replicate _ _ _ hn

theorem polder_reset {n : Nat} (hn : n < 168) : polder n State.reset = resetPolder (n % 7) :=
  RegFile.getD_ofFn _ _ _ hn

theorem core_reset {n : Nat} (hn : n < 64) : core n State.reset = resetCore :=
  RegFile.getD_replicate _ _ _ hn

/-- R9, R107: polder 6 of its ring, and no other, is the spare. -/
theorem resetPolder_spare (p : Nat) : (resetPolder p).role = 1 ↔ p = 6 := by
  by_cases h : p = 6 <;> simp [resetPolder, h]

/-- Settles O60: each element reads what the key of its unlisted entry names, and each unit of a file is the file's
one reset value. -/
theorem resetHoldsTheSpecsValues : Obligations.ResetHoldsTheSpecsValues := by
  unfold Obligations.ResetHoldsTheSpecsValues
  intro s
  have hpar : ∀ (i : Item) (inst elem : Nat), inst < 4096 → elem < 65536 →
      par i inst elem s = i.resetAt inst ∧ parPend i inst elem s = i.resetAt inst :=
    fun i _ _ hinst helem => ⟨keyReset_itemKey i hinst helem, keyReset_itemKey i hinst helem⟩
  refine ⟨hpar, fun _ _ => rfl, rfl, fun _ => rfl, fun k hk => by rw [session_reset hk]; rfl,
    fun c hc => by rw [episode_reset hc]; exact ⟨rfl, rfl⟩, fun _ => domain_reset,
    fun k hk => by rw [feed_reset hk], rfl, rfl, rfl, rfl, rfl,
    fun r hr => by rw [ref_reset hr]; exact ⟨rfl, rfl, rfl⟩, fun n hn => by rw [out_reset hn]; rfl, rfl, rfl, rfl,
    fun n hn => ?_, fun n hn => by rw [core_reset hn]; rfl, fun _ => rfl, rfl, rfl, rfl,
    fun n hn => by rw [core_reset hn]; rfl⟩
  rw [polder_reset hn]
  exact ⟨rfl, resetPolder_spare _⟩

end Sys2Proof.Machine
end

section
/-! LANE_ROW_TEST and its timeout, POLDER_RETIRE, SPARE_POLDER_ACTIVE and POLDER_CHANGE_APPLY (R106, R108, R110 to
R112, R122, R546). -/

namespace Sys2Proof.Machine

/-! ### Sticky bits (R524) -/

theorem Fs.num_lt (f : Fs) : f.num < 128 := by cases f <;> decide

/-- A source that fires keeps the sticky bits that are set. -/
theorem sticky_fire_of_set {f : Fs} {k : Nat} {s : State} (h : s.fault.sticky.getLsbD k = true) :
    (fire f s).fault.sticky.getLsbD k = true := by
  rw [fire_sticky, BitVec.getLsbD_or, h, Bool.true_or]

/-- A source that fires sets its sticky bit. -/
theorem sticky_fire_same (f : Fs) (s : State) : (fire f s).fault.sticky.getLsbD f.num = true := by
  rw [fire_sticky, getLsbD_or_ofNat _ _ f.num_lt, Nat.testBit_two_pow_self, Bool.or_true]

/-! ### What readmission keeps (R308) -/

/-- Readmission reports, and changes the plan status and nothing else (R308). -/
theorem readmit_keeps {α : Type} {π : State → α} (hraise : ∀ e b s, π (raiseBytes e b s) = π s)
    (hplan : ∀ p s, π { s with plan := p } = π s) (s : State) : π (readmit s) = π s := by
  unfold readmit
  split
  · rfl
  · extract_lets base a s1 b
    split
    · exact (hraise ..).trans (hraise ..)
    · extract_lets j due
      split
      · exact hraise ..
      · exact (hplan ..).trans (hraise ..)

theorem readmit_data (s : State) : (readmit s).data = s.data :=
  readmit_keeps raiseBytes_data (fun _ _ => rfl) s

theorem readmit_sticky (s : State) : (readmit s).fault.sticky = s.fault.sticky :=
  readmit_keeps (π := (·.fault.sticky)) raiseBytes_fault_sticky (fun _ _ => rfl) s

theorem capacityChanged_data (unit st : Nat) (ring : Option Nat) (s : State) :
    (capacityChanged unit st ring s).data = s.data :=
  (readmit_data _).trans (raise_data ..)

theorem capacityChanged_sticky (unit st : Nat) (ring : Option Nat) (s : State) :
    (capacityChanged unit st ring s).fault.sticky = s.fault.sticky :=
  (readmit_sticky _).trans (raise_fault_sticky ..)

theorem paceReadmit_data (ring pace : Nat) (s : State) : (paceReadmit ring pace s).data = s.data := by
  unfold paceReadmit
  split
  · rfl
  · exact readmit_data s

theorem paceReadmit_sticky (ring pace : Nat) (s : State) :
    (paceReadmit ring pace s).fault.sticky = s.fault.sticky := by
  unfold paceReadmit
  split
  · rfl
  · exact readmit_sticky s

theorem polder_of_data {x y : State} (h : y.data = x.data) (n : Nat) : polder n y = polder n x := by
  rw [polder, h, polder]

/-! ### Units that lose their power (R546 to R548) -/

/-- A polder keeps its role, and what it has lost it does not get back. -/
structure Polder.Fades (q r : Polder) : Prop where
  role : r.role = q.role
  gone : r.gone = q.gone
  powered : q.powered = false → r.powered = false
  jobs : q.jobs = [] → r.jobs = []
  waking : q.waking = false → r.waking = false

theorem Polder.Fades.refl (q : Polder) : q.Fades q := ⟨rfl, rfl, id, id, id⟩

theorem Polder.Fades.trans {q r w : Polder} (h : q.Fades r) (h' : r.Fades w) : q.Fades w where
  role := h'.role.trans h.role
  gone := h'.gone.trans h.gone
  powered hq := h'.powered (h.powered hq)
  jobs hq := h'.jobs (h.jobs hq)
  waking hq := h'.waking (h.waking hq)

/-- Every polder fades, and no sticky bit is lost. -/
structure Fades (x z : State) : Prop where
  polders : ∀ m, (polder m x).Fades (polder m z)
  sticky : ∀ k, x.fault.sticky.getLsbD k = true → z.fault.sticky.getLsbD k = true

namespace Fades

variable {x y z : State}

theorem trans (h : Fades x y) (h' : Fades y z) : Fades x z where
  polders m := (h.polders m).trans (h'.polders m)
  sticky k hk := h'.sticky k (h.sticky k hk)

theorem of_fields (hp : z.data.polders = x.data.polders) (hs : z.fault.sticky = x.fault.sticky) : Fades x z where
  polders m := by rw [polder, polder, hp]; exact .refl _
  sticky k hk := hs ▸ hk

theorem refl (x : State) : Fades x x := of_fields rfl rfl

theorem fire (f : Fs) (s : State) : Fades s (fire f s) where
  polders m := by rw [polder_of_data (fire_data f s)]; exact .refl _
  sticky _ hk := sticky_fire_of_set hk

theorem capacityChanged (unit st : Nat) (ring : Option Nat) (s : State) :
    Fades s (capacityChanged unit st ring s) :=
  of_fields (congrArg _ (capacityChanged_data ..)) (capacityChanged_sticky ..)

theorem setPolder {k : Nat} {q : Polder} {s : State} (h : (polder k s).Fades q) : Fades s (setPolder k q s) where
  polders m := by
    have hpolder : polder m (Machine.setPolder k q s) = if m = k ∧ k < 168 then q else polder m s :=
      RegFile.getD_set ..
    rw [hpolder]
    split
    · next hm => exact hm.1 ▸ h
    · exact .refl _
  sticky _ hk := hk

theorem foldl {α : Type} {f : State → α → State} (hf : ∀ s a, Fades s (f s a)) (l : List α) (s : State) :
    Fades s (l.foldl f s) :=
  l.foldlRecOn f (refl s) fun y h a _ => h.trans (hf y a)

end Fades

theorem clearPolder_fades (n : Nat) (s : State) : Fades s (clearPolder n s) :=
  .setPolder ⟨rfl, rfl, id, fun _ => rfl, id⟩

theorem count_fades (c : Ctr) (i n : Nat) (s : State) : Fades s (count c i n s) := .of_fields rfl rfl

theorem setDie_fades (d : Nat) (v : Die) (s : State) : Fades s (setDie d v s) := .of_fields rfl rfl

theorem setDomain_fades (pd : Nat) (v : DomainState) (s : State) : Fades s (setDomain pd v s) := .of_fields rfl rfl

theorem tileDone_fades (d slot : Nat) (s : State) : Fades s (tileDone d slot s) := setDie_fades ..

theorem ledgerDue_fades (d area epoch chan chunk : Nat) (s : State) :
    Fades s (ledgerDue d area epoch chan chunk s) := setDie_fades ..

theorem polderOff_fades (n : Nat) (s : State) : Fades s (polderOff n s) := by
  unfold polderOff
  exact ((clearPolder_fades n s).trans (.foldl (fun y j => tileDone_fades _ _ y) _ _)).trans
    (.setPolder ⟨rfl, rfl, fun _ => rfl, id, fun _ => rfl⟩)

theorem missTaps_fades (d slot : Nat) (s : State) : Fades s (missTaps d slot s) := by
  have htaps (taps : List TapDue) : Fades s { s with sluice := { s.sluice with taps := taps } } := .of_fields rfl rfl
  exact (htaps _).trans (.foldl (fun y x => count_fades _ _ _ y) _ _)

theorem endHold_fades (e : Nat) (s : State) : Fades s (endHold e s) := by
  unfold endHold
  simp only
  split
  · exact .refl s
  · exact .of_fields rfl rfl

theorem dropDie_fades (d : Nat) (s : State) : Fades s (dropDie d s) := by
  have hweir (w : WeirS) (y : State) : Fades y { y with weir := w } := .of_fields rfl rfl
  unfold dropDie
  refine Fades.trans ?_ (.foldl (fun y l => ledgerDue_fades _ _ _ _ _ y) _ _)
  refine Fades.trans ?_ ((endHold_fades _ _).trans (endHold_fades _ _))
  refine Fades.trans ?_ (hweir _ _)
  refine Fades.trans ?_ (.foldl (fun y n => clearPolder_fades _ y) _ _)
  exact (setDie_fades d _ s).trans (.foldl (fun y i => missTaps_fades d i y) _ _)

/-- A ring or a die that is switched off (R569). -/
theorem switchOff_fades {pd : Nat} (hpd : pd < 28) (s : State) : Fades s (switchOff pd s) := by
  have hlost (y : State) : Fades y (unitLost pd y) := by
    unfold unitLost
    rw [if_pos hpd]
    split
    · exact .foldl (fun x p => polderOff_fades _ x) _ y
    · exact dropDie_fades _ y
  unfold switchOff
  split
  · exact (setDomain_fades ..).trans (hlost _)
  · exact .refl s

theorem stopFunction_fades (fn inst : Nat) (s : State) : Fades s (stopFunction fn inst s) := by
  unfold stopFunction
  split
  · exact .refl s
  · exact .of_fields rfl rfl

theorem stopDie_fades {d : Nat} (hd : d < 4) (s : State) : Fades s (stopDie d s) := by
  unfold stopDie
  simp only
  split
  · exact .refl s
  · refine .trans ?_ (.capacityChanged ..)
    have hstopped : Fades s (stopFunction 3 d (fire .dieStopped (setDie d { die d s with stopped := true } s))) :=
      ((setDie_fades ..).trans (.fire ..)).trans (stopFunction_fades ..)
    split
    · exact hstopped.trans (dropDie_fades ..)
    · exact (hstopped.trans (dropDie_fades ..)).trans (switchOff_fades (by omega) _)

theorem retireRing_fades {ring : Nat} (hring : ring < 24) (s : State) : Fades s (retireRing ring s) := by
  have hlost (y : State) : Fades y (ringLost ring y) := by
    unfold ringLost
    simp only
    split
    · exact (Fades.capacityChanged ..).trans (stopDie_fades (by omega) _)
    · exact .capacityChanged ..
  unfold retireRing
  simp only
  split
  · exact .refl s
  · refine .trans ?_ (hlost _)
    refine .trans ?_ (switchOff_fades (by omega) _)
    have hwritten (l : List Nat) : Fades s { s with data := { s.data with ringsRetired := l } } := .of_fields rfl rfl
    exact (hwritten _).trans (.fire ..)

/-- R546: a ring that runs short lets its polders fade. -/
theorem ringShort_fades {ring : Nat} (hring : ring < 24) (s : State) : Fades s (ringShort ring s) := by
  unfold ringShort
  split
  · exact retireRing_fades hring s
  · exact (Fades.fire ..).trans (.capacityChanged ..)

/-! ### Retired rows (R112, R126) -/

/-- Reports of retired rows keep what raised events and fired sources keep. -/
theorem reportRows_keeps {α : Type} {π : State → α} (hraise : ∀ e l s, π (raise e l s) = π s)
    (hfire : ∀ f s, π (fire f s) = π s) (n : Nat) (l : List Nat) (used : Nat) (s : State) :
    π (reportRows n l used s) = π s := by
  induction l generalizing used s with
  | nil => rfl
  | cons r rest ih => exact (ih ..).trans ((hfire ..).trans (hraise ..))

theorem reportRows_data (n : Nat) (l : List Nat) (used : Nat) (s : State) :
    (reportRows n l used s).data = s.data := reportRows_keeps raise_data fire_data n l used s

theorem ctrGet_reportRows {c : Ctr} (hc : c.reporting = false) (i n : Nat) (l : List Nat) (used : Nat) (s : State) :
    ctrGet c i (reportRows n l used s) = ctrGet c i s :=
  reportRows_keeps (fun e l y => (raise_eq e l y).ctr c i hc) (fun f y => ctrGet_fire hc i f y) n l used s

theorem sticky_reportRows_of_set {k : Nat} (n : Nat) (l : List Nat) (used : Nat) {s : State}
    (h : s.fault.sticky.getLsbD k = true) : (reportRows n l used s).fault.sticky.getLsbD k = true := by
  induction l generalizing used s with
  | nil => exact h
  | cons r rest ih => exact ih _ (sticky_fire_of_set (by rwa [raise_fault_sticky]))

/-- R112: a row that is retired fires FS_LANE_ROW. -/
theorem sticky_reportRows {l : List Nat} (hl : l ≠ []) (n used : Nat) (s : State) :
    (reportRows n l used s).fault.sticky.getLsbD Fs.laneRow.num = true := by
  cases l with
  | nil => exact absurd rfl hl
  | cons r rest => exact sticky_reportRows_of_set n rest _ (sticky_fire_same ..)

/-! ### LANE_ROW_TEST (R111, R112) -/

section
variable {n : Nat} {fails : List Nat} {s : State}

theorem rowTest_of_none (h : newFailures n fails s = []) : rowTest n fails s =
    setPolder n { polder n s with testPending := false, testForced := false }
      (count .rowTestFail n (failedRows fails).length s) := by
  rw [rowTest, h]
  rfl

theorem rowTest_of_many (h : newFailures n fails s ≠ [])
    (hmany : 4 < (nextState n s).rows.length + (newFailures n fails s).length) : rowTest n fails s =
    setPolder n { polder n s with testPending := false, testForced := false, retireDue := true }
      (count .rowTestFail n (failedRows fails).length s) := by
  simp only [rowTest, List.isEmpty_iff, h, hmany, if_true, if_false]

theorem rowTest_of_few (h : newFailures n fails s ≠ [])
    (hfew : (nextState n s).rows.length + (newFailures n fails s).length ≤ 4) : rowTest n fails s =
    reportRows n (newFailures n fails s) (nextState n s).rows.length (setPolder n
      { polder n s with
        testPending := false, testForced := false
        change := some { nextState n s with rows := sortAsc (newFailures n fails s ++ (nextState n s).rows) } }
      (count .rowTestFail n (failedRows fails).length s)) := by
  simp only [rowTest, List.isEmpty_iff, h, Nat.not_lt.2 hfew, if_false]

end

section
variable {t : Nat} {n : Fin 168} {s : State} (fails : List Nat)
  (hpend : (polder n (advance t s)).testPending = true) (hpow : (polder n (advance t s)).powered = true)
  (hjobs : (polder n (advance t s)).jobs = [])
include hpend hpow hjobs

/-- The test of an idle powered polder takes place when it is due. -/
theorem laneRowTest_does {y : State} (h : ReportEq (rowTest n fails (advance t s)) y) :
    Does (.laneRowTest t n fails) s y :=
  does_onlyIf (show _ = execLaneRowTest t n fails s from rfl) (by rw [hpend, hpow, hjobs]; rfl) h

/-- R108, R112: up to four retired rows in all wait for the block boundary. -/
theorem laneRowTest_retiresRows (hnew : newFailures n fails (advance t s) ≠ [])
    (hfew : (nextState n (advance t s)).rows.length + (newFailures n fails (advance t s)).length ≤ 4) :
    let x := advance t s
    let base := nextState n x
    Leads (.laneRowTest t n fails) s fun z =>
      (polder n z).change = some { base with rows := sortAsc (newFailures n fails x ++ base.rows) } ∧
      (polder n z).testPending = false ∧ z.fault.sticky.getLsbD Fs.laneRow.num = true ∧
      ctrGet .rowTestFail n z = min ctrMax (ctrGet .rowTestFail n x + (failedRows fails).length) := by
  intro x base
  refine leads_onlyIf (show _ = execLaneRowTest t n fails s from rfl) (by rw [hpend, hpow, hjobs]; rfl) ?_
  rw [rowTest_of_few hnew hfew, polder_settle, polder_of_data (reportRows_data ..), polder_setPolder_same _ _ _ n.isLt,
    (settle_eq _).fault_sticky, (settle_eq _).ctr _ _ (by decide), ctrGet_reportRows (by decide)]
  exact ⟨rfl, rfl, sticky_reportRows hnew .., ctrGet_count_same ..⟩

end

/-! ### LANE_ROW_TEST_TIMEOUT (R111) -/

/-- The effect of LANE_ROW_TEST_TIMEOUT, its reports apart. -/
theorem exec_laneRowTestTimeout (t : Nat) (n : Fin 168) (s : State) :
    exec (.laneRowTestTimeout t n) s = act t (fun x =>
      if (polder n x).testPending ∧ (polder n x).testSince + secT 1 ≤ x.time.now
      then setPolder n { polder n x with testForced := true } x else x) s := rfl

/-! ### POLDER_RETIRE (R122, R546) -/

/-- The state in which a polder has left service: it is without power, its work is dropped, and FS_POLDER_RETIRED has
fired. -/
def retiredState (n : Nat) (s : State) : State :=
  fire .polderRetired (setPolder n { polder n s with
    gone := true, powered := false, jobs := [], subSums := [], active := none, held := none, change := none
    testPending := false, testForced := false } s)

theorem sticky_retiredState (n : Nat) (s : State) :
    (retiredState n s).fault.sticky.getLsbD Fs.polderRetired.num = true := sticky_fire_same ..

theorem polder_retiredState_of_ne {n k : Nat} (h : k ≠ n) (s : State) :
    polder k (retiredState n s) = polder k s :=
  (polder_of_data (fire_data ..) k).trans (polder_setPolder_of_ne _ _ h)

theorem polder_retiredState {n : Nat} (hn : n < 168) (s : State) : polder n (retiredState n s) =
    { polder n s with
      gone := true, powered := false, jobs := [], subSums := [], active := none, held := none, change := none
      testPending := false, testForced := false } :=
  (polder_of_data (fire_data ..) n).trans (polder_setPolder_same _ _ _ hn)

/-- The state in which spare `k` is on its way, and its test falls due. -/
def wokenState (k : Nat) (s : State) : State :=
  setPolder k { polder k s with waking := true, testSince := s.time.now } s

theorem retirePolder_eq (n : Nat) (s : State) : retirePolder n s =
    match ringSpare (n / 7) (retiredState n s) with
    | some k => paceReadmit (n / 7) (ringPace (n / 7) s) (wokenState k (retiredState n s))
    | none => ringShort (n / 7) (setPolder n { polder n (retiredState n s) with role := 2 } (retiredState n s)) :=
  rfl

/-- A polder can stand in for one of its ring: a spare that is neither on its way nor gone. -/
def Polder.Spare (q : Polder) : Prop := q.role = 1 ∧ q.waking = false ∧ q.gone = false

theorem Polder.not_spare_iff (q : Polder) : ¬ q.Spare ↔ q.role ≠ 1 ∨ q.waking = true ∨ q.gone = true := by
  simp only [Polder.Spare, Decidable.not_and_iff_not_or_not, Bool.not_eq_false, ne_eq]

theorem ringSpare_some {ring k : Nat} {s : State} (h : ringSpare ring s = some k) :
    k / 7 = ring ∧ (polder k s).Spare := by
  obtain ⟨i, hi, rfl⟩ := List.mem_map.1 (List.mem_of_find?_eq_some h)
  have hspare := List.find?_some h
  simp only [Bool.and_eq_true, beq_iff_eq, Bool.not_eq_true'] at hspare
  have := List.mem_range.1 hi
  exact ⟨by omega, hspare.1.1, hspare.1.2, hspare.2⟩

theorem ringSpare_none {ring k : Nat} {s : State} (h : ringSpare ring s = none) (hk : k / 7 = ring) :
    ¬ (polder k s).Spare := by
  intro ⟨hrole, hwaking, hgone⟩
  have hmem : k ∈ (List.range 7).map (7 * ring + ·) :=
    List.mem_map.2 ⟨k % 7, List.mem_range.2 (Nat.mod_lt _ (by decide)), by omega⟩
  exact List.find?_eq_none.1 h k hmem (by rw [hrole, hwaking, hgone]; rfl)

/-- The polder that retires is no spare of its ring, and the others are as they were. -/
theorem spare_retiredState {n k : Nat} (hn : n < 168) (s : State) :
    (polder k (retiredState n s)).Spare ↔ k ≠ n ∧ (polder k s).Spare := by
  by_cases h : k = n
  · subst h
    rw [polder_retiredState hn]
    exact iff_of_false (fun ⟨_, _, hgone⟩ => Bool.noConfusion hgone) fun ⟨hne, _⟩ => hne rfl
  · rw [polder_retiredState_of_ne h]
    exact ⟨fun hspare => ⟨h, hspare⟩, And.right⟩

/-- R122, R123: polder `n` has left service, and a spare of its ring wakes, or there is none and the polder's ROLE
shows it retired. -/
structure PolderRetired (n : Nat) (x z : State) : Prop where
  gone : (polder n z).gone = true
  powered : (polder n z).powered = false
  jobs : (polder n z).jobs = []
  sticky : z.fault.sticky.getLsbD Fs.polderRetired.num = true
  spare : (∃ k, k ≠ n ∧ k / 7 = n / 7 ∧ (polder k x).Spare ∧ (polder k z).waking = true) ∨
    ((∀ k, k ≠ n → k / 7 = n / 7 → ¬ (polder k x).Spare) ∧ (polder n z).role = 2)

theorem PolderRetired.settle {n : Nat} {x z : State} (h : PolderRetired n x z) : PolderRetired n x (settle z) := by
  obtain ⟨hgone, hpow, hjobs, hsticky, hspare⟩ := h
  constructor <;> simpa only [polder_settle, (settle_eq z).fault_sticky]

section
variable {n : Nat} (hn : n < 168) {s : State}
include hn

theorem polderRetired_of_spare {k : Nat} (hspare : ringSpare (n / 7) (retiredState n s) = some k) :
    PolderRetired n s (paceReadmit (n / 7) (ringPace (n / 7) s) (wokenState k (retiredState n s))) := by
  obtain ⟨hring, hk⟩ := ringSpare_some hspare
  obtain ⟨hkn, hks⟩ := (spare_retiredState hn s).1 hk
  have hpolder (m : Nat) := polder_of_data
    (paceReadmit_data (n / 7) (ringPace (n / 7) s) (wokenState k (retiredState n s))) m
  have hwoken : (polder k (wokenState k (retiredState n s))).waking = true := by
    rw [wokenState, polder_setPolder_same _ _ _ (by omega)]
  have hretired := polder_retiredState hn s
  rw [← polder_setPolder_of_ne _ _ (Ne.symm hkn), ← wokenState, ← hpolder] at hretired
  exact
    { gone := by rw [hretired]
      powered := by rw [hretired]
      jobs := by rw [hretired]
      sticky := by rw [paceReadmit_sticky]; exact sticky_retiredState n s
      spare := .inl ⟨k, hkn, hring, hks, by rw [hpolder, hwoken]⟩ }

theorem polderRetired_of_no_spare (hspare : ringSpare (n / 7) (retiredState n s) = none) :
    PolderRetired n s (ringShort (n / 7)
      (setPolder n { polder n (retiredState n s) with role := 2 } (retiredState n s))) := by
  have hpolder := polder_setPolder_same n { polder n (retiredState n s) with role := 2 } (retiredState n s) hn
  have hsticky := sticky_retiredState n s
  rw [← setPolder_fault n { polder n (retiredState n s) with role := 2 }] at hsticky
  generalize setPolder n { polder n (retiredState n s) with role := 2 } (retiredState n s) = y at hpolder hsticky ⊢
  have hfades := ringShort_fades (ring := n / 7) (by omega) y
  obtain ⟨hrole, hgone, hpow, hjobs, -⟩ := hfades.polders n
  rw [hpolder, polder_retiredState hn] at hrole hgone hpow hjobs
  have hnone (k : Nat) (hkn : k ≠ n) (hk : k / 7 = n / 7) : ¬ (polder k s).Spare := fun hks =>
    ringSpare_none hspare hk ((spare_retiredState hn s).2 ⟨hkn, hks⟩)
  exact ⟨hgone, hpow rfl, hjobs rfl, hfades.sticky _ hsticky, .inr ⟨hnone, hrole⟩⟩

theorem retirePolder_retires : PolderRetired n s (retirePolder n s) := by
  rw [retirePolder_eq]
  split
  · next k hspare => exact polderRetired_of_spare hn hspare
  · next hspare => exact polderRetired_of_no_spare hn hspare

end

/-- R122: a polder that is due to retire leaves service at a block boundary of its die. -/
theorem polderRetire_leads {t : Nat} {n : Fin 168} {s : State} (hdue : (polder n (advance t s)).retireDue = true)
    (hserves : (polder n (advance t s)).gone = false) (hchange : changeable n (advance t s) = true) :
    Leads (.polderRetire t n) s (PolderRetired n (advance t s)) :=
  leads_onlyIf (show _ = execPolderRetire t n s from rfl) (by rw [hdue, hserves, hchange]; rfl)
    (retirePolder_retires n.isLt).settle

/-! ### SPARE_POLDER_ACTIVE (R122) -/

/-- The state in which the woken spare's test is counted and the polder that it replaces is retired by ROLE. -/
def replacedState (n : Nat) (fails : List Nat) (s : State) : State :=
  let s1 := count .rowTestFail n (failedRows fails).length s
  let old := (ringRetiring (n / 7) s1).headD n
  if old = n then s1 else setPolder old { polder old s1 with role := 2 } s1

section
variable {n : Nat} {fails : List Nat} {s : State}

theorem spareTested_of_few (h : (nextState n s).rows.length + (newFailures n fails s).length ≤ 4) :
    ∃ l y, spareTested n fails s = paceReadmit (n / 7) (ringPace (n / 7) s) (raise .polderSpared l y) ∧
      y = reportRows n (newFailures n fails s) (nextState n s).rows.length (setPolder n
        { polder n s with
          role := 0, powered := true, waking := false, change := none, clockStep := (nextState n s).clockStep
          rows := sortAsc (newFailures n fails s ++ (nextState n s).rows) } (replacedState n fails s)) := by
  simp only [spareTested, Nat.not_lt.2 h, if_false]
  exact ⟨_, _, rfl, rfl⟩

theorem spareTested_of_many (h : 4 < (nextState n s).rows.length + (newFailures n fails s).length) :
    spareTested n fails s = ringShort (n / 7) (fire .polderRetired (setPolder n
      { polder n s with role := 2, gone := true, waking := false } (replacedState n fails s))) := by
  simp only [spareTested, h, if_true]
  rfl

end

section
variable {t : Nat} {n : Fin 168} {s : State} (fails : List Nat)
  (hwaking : (polder n (advance t s)).waking = true) (hon : domain (n.val / 7) (advance t s) = .on)
  (hboundary : atBoundary (n.val / 42) (advance t s) = true)
  (htested : (polder n (advance t s)).testSince + usT 200 ≤ (advance t s).time.now)
include hwaking hon hboundary htested

/-- A woken spare is tested at a block boundary, 200 µs after it was woken. -/
theorem sparePolderActive_leads {p : State → Prop} (h : p (settle (spareTested n fails (advance t s)))) :
    Leads (.sparePolderActive t n fails) s p :=
  leads_onlyIf (show _ = execSparePolderActive t n fails s from rfl)
    (by rw [hwaking, hon, hboundary, decide_eq_true htested]; rfl) h

theorem sparePolderActive_serves
    (hfew : (nextState n (advance t s)).rows.length + (newFailures n fails (advance t s)).length ≤ 4) :
    let x := advance t s
    let c := nextState n x
    Leads (.sparePolderActive t n fails) s fun z =>
      (polder n z).role = 0 ∧ (polder n z).powered = true ∧ (polder n z).waking = false ∧
      (polder n z).rows = sortAsc (newFailures n fails x ++ c.rows) ∧ (polder n z).clockStep = c.clockStep := by
  intro x c
  obtain ⟨l, y, hspare, hy⟩ := spareTested_of_few hfew
  refine sparePolderActive_leads fails hwaking hon hboundary htested ?_
  rw [polder_settle, hspare, polder_of_data (paceReadmit_data ..), polder_of_data (raise_data ..), hy,
    polder_of_data (reportRows_data ..), polder_setPolder_same _ _ _ n.isLt]
  exact ⟨rfl, rfl, rfl, rfl, rfl⟩

/-- R122, R546: the spare that would need a fifth retired row is retired itself. -/
theorem sparePolderActive_retires
    (hmany : 4 < (nextState n (advance t s)).rows.length + (newFailures n fails (advance t s)).length) :
    Leads (.sparePolderActive t n fails) s fun z =>
      (polder n z).role = 2 ∧ (polder n z).gone = true ∧ (polder n z).waking = false ∧
      z.fault.sticky.getLsbD Fs.polderRetired.num = true := by
  refine sparePolderActive_leads fails hwaking hon hboundary htested ?_
  rw [polder_settle, (settle_eq _).fault_sticky, spareTested_of_many hmany]
  have hfades := ringShort_fades (ring := n.val / 7) (by omega) (fire .polderRetired (setPolder n
    { polder n (advance t s) with role := 2, gone := true, waking := false } (replacedState n fails (advance t s))))
  obtain ⟨hrole, hgone, -, -, hasleep⟩ := hfades.polders n
  rw [polder_of_data (fire_data ..), polder_setPolder_same _ _ _ n.isLt] at hrole hgone hasleep
  exact ⟨hrole, hgone, hasleep rfl, hfades.sticky _ (sticky_fire_same ..)⟩

end

/-! ### POLDER_CHANGE_APPLY (R108) -/

theorem applyChange_of_none {n : Nat} {s : State} (h : (polder n s).change = none) : applyChange n s = s := by
  simp only [applyChange, h]

theorem applyChange_data {n : Nat} {c : PolderChange} {s : State} (h : (polder n s).change = some c) :
    (applyChange n s).data = (setPolder n
      { polder n s with change := none, role := c.role, clockStep := c.clockStep, rows := c.rows } s).data := by
  simp only [applyChange, h]
  exact paceReadmit_data ..

/-- R108: a change takes effect at a block boundary, in its polder alone. -/
theorem polderChangeApply_leads {t : Nat} {n : Fin 168} {s : State} {c : PolderChange}
    (hchange : changeable n (advance t s) = true) (hc : (polder n (advance t s)).change = some c) :
    Leads (.polderChangeApply t n) s fun z => (polder n z).role = c.role ∧
      (polder n z).clockStep = c.clockStep ∧ (polder n z).rows = c.rows ∧ (polder n z).change = none ∧
      (∀ m < 168, m ≠ n.val → polder m z = polder m (advance t s)) := by
  refine leads_onlyIf (show _ = execPolderChangeApply t n s from rfl) hchange ?_
  rw [polder_settle, polder_of_data (applyChange_data hc), polder_setPolder_same _ _ _ n.isLt]
  refine ⟨rfl, rfl, rfl, rfl, fun m _ hm => ?_⟩
  rw [polder_settle, polder_of_data (applyChange_data hc), polder_setPolder_of_ne _ _ hm]

theorem polderChangeApply_idles {t : Nat} {n : Fin 168} {s : State}
    (h : changeable n (advance t s) = false ∨ (polder n (advance t s)).change = none) :
    Does (.polderChangeApply t n) s (advance t s) := by
  refine does_act (show _ = execPolderChangeApply t n s from rfl) ?_
  unfold onlyIf
  split
  · next hchange =>
    rw [applyChange_of_none (h.resolve_left (by rw [hchange]; exact Bool.noConfusion))]
    exact .rfl' _
  · exact .rfl' _

/-- Settles O22: row tests by the rows that they find, retirement by whether its ring has a spare, spares by their own
test, and changes at a block boundary. -/
theorem rowsAndPoldersRetire : Obligations.RowsAndPoldersRetire := by
  unfold Obligations.RowsAndPoldersRetire
  refine ⟨?rows, ?timeout, ?retire, ?spare, ?change⟩
  case rows =>
    intro t n fails s x q new base failed hpend hpow hjobs
    refine ⟨fun hnew => ?_, fun hnew hfew => laneRowTest_retiresRows fails hpend hpow hjobs hnew hfew,
      fun hnew hmany => ?_⟩
    · exact laneRowTest_does fails hpend hpow hjobs (rowTest_of_none hnew ▸ .rfl' _)
    · exact laneRowTest_does fails hpend hpow hjobs (rowTest_of_many hnew hmany ▸ .rfl' _)
  case timeout =>
    intro t n s x q
    refine ⟨fun hpend hlate => ?_, fun h => ?_⟩
    · exact does_act (exec_laneRowTestTimeout t n s) (by rw [if_pos ⟨hpend, hlate⟩]; exact .rfl' _)
    · have hwaits : ¬ (q.testPending = true ∧ q.testSince + secT 1 ≤ x.time.now) := by
        rintro ⟨hpend, hlate⟩
        rcases h with h | h
        · rw [h] at hpend
          cases hpend
        · omega
      exact does_act (exec_laneRowTestTimeout t n s) (by rw [if_neg hwaits]; exact .rfl' _)
  case retire =>
    intro t n s x q hdue hserves hchange
    obtain ⟨z, hz, hgone, hpow, hjobs, hsticky, hcase⟩ := polderRetire_leads hdue hserves hchange
    refine ⟨z, hz, hgone, hpow, hjobs, hsticky, ?_, ?_⟩
    · rintro ⟨k, hkn, hk, hspare⟩
      rcases hcase with ⟨j, -, hj, ⟨hrole, -⟩, hwakes⟩ | ⟨hnone, -⟩
      · exact ⟨j, hj, hrole, hwakes⟩
      · exact absurd hspare (hnone k hkn hk)
    · intro hnone
      rcases hcase with ⟨j, hjn, hj, hspare, -⟩ | ⟨-, hrole⟩
      · exact absurd hspare ((Polder.not_spare_iff _).2 (hnone j hjn hj))
      · exact hrole
  case spare =>
    intro t n fails s x q new c hwaking hon hboundary htested
    exact ⟨sparePolderActive_serves fails hwaking hon hboundary htested,
      sparePolderActive_retires fails hwaking hon hboundary htested⟩
  case change =>
    intro t n s x
    exact ⟨fun c hchange hc => polderChangeApply_leads hchange hc, polderChangeApply_idles⟩

end Sys2Proof.Machine
end

section
/-! What zoom detectors and product units leave alone: everything that ingress, the array and the totals hold. -/

namespace Sys2Proof.Machine

/-- What every step of a fold keeps, the fold keeps. -/
theorem foldl_keeps {α β : Type} {π : State → β} {f : State → α → State} (hf : ∀ s a, π (f s a) = π s)
    (l : List α) (s : State) : π (l.foldl f s) = π s :=
  l.foldlRecOn (motive := fun y => π y = π s) f rfl fun y h a _ => (hf y a).trans h

/-! ### Gates of pulse outputs (R223, R389) -/

theorem drive_data (n : Nat) (level : Bool) (at_ : Nat) (s : State) : (drive n level at_ s).data = s.data := by
  unfold drive
  simp only
  split <;> rfl

theorem gateAssert_data (o due : Nat) (s : State) : (gateAssert o due s).data = s.data := by
  unfold gateAssert
  simp only
  split
  · refine (drive_data ..).trans ((setOut_data ..).trans ?_)
    split <;> rfl
  · rfl

theorem gateDeassert_data (o due : Nat) (s : State) : (gateDeassert o due s).data = s.data := by
  unfold gateDeassert
  simp only
  split
  · refine (drive_data ..).trans ((setOut_data ..).trans ?_)
    split <;> rfl
  · rfl

theorem gateLeave_data (tide : Nat) (s : State) (o : Nat) : (gateLeave tide s o).data = s.data := by
  unfold gateLeave
  simp only
  split
  · rfl
  · split
    · exact gateDeassert_data ..
    · rfl

theorem gateRecord_data (w was new tide : Nat) (s : State) (o : Nat) :
    (gateRecord w was new tide s o).data = s.data := by
  unfold gateRecord
  simp only
  split
  · rfl
  · split
    · rfl
    · split
      · exact gateAssert_data ..
      · exact gateLeave_data ..

/-! ### Units on their way to the packetiser (R235, R247, R249) -/

theorem formPieces_data (u : EUnit) (l : List Piece) (s : State) : (formPieces u l s).data = s.data := by
  induction l generalizing s with
  | nil => rfl
  | cons x r ih =>
    cases r with
    | nil => rfl
    | cons y r => exact ih _

theorem unitReady_data (u : EUnit) (s : State) : (unitReady u s).data = s.data := by
  unfold unitReady
  split
  · rfl
  · split
    · rfl
    · exact formPieces_data ..

theorem formEvents_data (s : State) : (formEvents s).data = s.data := by
  unfold formEvents
  simp only
  split <;> rfl

/-! ### Averages and detectors (R217 to R220) -/

theorem produceRecord_data (w kind index was new : Nat) (skipped : Bool) (end_ value : Nat) (s : State) :
    (produceRecord w kind index was new skipped end_ value s).data = s.data := by
  unfold produceRecord
  simp only
  refine (foldl_keeps (π := State.data) (gateRecord_data w was new _) _ _).trans ?_
  split
  · rfl
  · split
    · exact (formEvents_data _).trans (raiseBytes_data ..)
    · exact raiseBytes_data ..

theorem detAverage_data (p : Plan) (w kind index : Nat) (skip : Bool) (value end_ : Nat) (s : State) :
    (detAverage p w kind index skip value end_ s).data = s.data := by
  unfold detAverage
  simp only
  split
  · rfl
  · split
    · rfl
    · split
      · rfl
      · exact produceRecord_data ..

theorem evalAvg_data (s : State) (a : Avg) : (evalAvg s a).data = s.data := by
  unfold evalAvg
  split
  · exact detAverage_data ..
  · rfl

theorem releaseAvgs_data (l : List Avg) (s : State) : (releaseAvgs l s).data = s.data := by
  induction l generalizing s with
  | nil => rfl
  | cons a r ih =>
    unfold releaseAvgs
    split
    · rfl
    · exact (ih _).trans (evalAvg_data s a)

theorem takeAvgs_data (l : List Avg) (s : State) : (takeAvgs l s).data = s.data := releaseAvgs_data ..

theorem flushAvgs_data (w : Nat) (s : State) : (flushAvgs w s).data = s.data :=
  foldl_keeps (π := State.data) evalAvg_data ..

theorem concludeBeams_data (p : Plan) (s : State) (w : Nat) : (concludeBeams p s w).data = s.data := by
  refine foldl_keeps (π := State.data) (fun x b => ?_) (List.range 128) s
  simp only
  split
  · rfl
  · exact takeAvgs_data ..

theorem restartDets_data (w at_ : Nat) (keep : Nat → Bool) (s : State) :
    (restartDets w at_ keep s).data = s.data :=
  (foldl_keeps (π := State.data) (gateLeave_data _) ..).trans (flushAvgs_data w s)

theorem restartBeamDets_data (p : Plan) (s : State) (w : Nat) : (restartBeamDets p s w).data = s.data := by
  unfold restartBeamDets
  simp only
  split
  · rfl
  · exact restartDets_data ..

/-- R217: beam detectors that go on change nothing of the array. -/
theorem beamsGoOn_data (s : State) : (beamsGoOn s).data = s.data := by
  unfold beamsGoOn
  split
  · rfl
  · refine (foldl_keeps (π := State.data) (fun x w => ?_) (List.range 32) _).trans (takeAvgs_data [] s)
    split
    · exact concludeBeams_data ..
    · rfl

end Sys2Proof.Machine
end

section
/-! SLOT_RELEASE (R71, R73, R166): the slot of a finished block, and what its release sets going. -/

namespace Sys2Proof.Machine

/-! ### Units that go off (R313, R569) -/

theorem complete_data (why : Why) (unit code : Nat) (body : List Byte) (s : State) :
    (complete why unit code body s).data = s.data := by
  unfold complete
  refine foldl_keeps (π := State.data) (fun x w => ?_) _ _
  split
  · exact zcpSend_data ..
  · rfl

theorem coreState_data (n : Nat) (st : CoreState) (s : State) : (coreState n st s).data = s.data := by
  unfold coreState
  simp only
  split
  · exact raise_data ..
  · rfl

theorem sluiceOff_data (s : State) : (sluiceOff s).data = s.data := by
  unfold sluiceOff
  refine (foldl_keeps (π := State.data) (fun x n => ?_) (List.range 64) _).trans (complete_data ..)
  exact coreState_data n .off x

theorem ingressDown_data (ports : List Nat) (s : State) : (ingressDown ports s).data = s.data := by
  refine foldl_keeps (π := State.data) (fun x port => ?_) ports s
  split
  · split
    · exact raise_data ..
    · rfl
  · rfl

theorem endHold_data (e : Nat) (s : State) : (endHold e s).data = s.data := by
  unfold endHold
  simp only
  split <;> rfl

theorem missTaps_data (d slot : Nat) (s : State) : (missTaps d slot s).data = s.data :=
  foldl_keeps (π := State.data) (fun _ _ => count_data ..) _ _

theorem countBeamSkip_data (p : Plan) (d : Nat) (s : State) : (countBeamSkip p d s).data = s.data := by
  unfold countBeamSkip
  split
  · rfl
  · split
    · rfl
    · exact foldl_keeps (π := State.data) (fun _ _ => count_data ..) _ _

/-! ### What a release keeps -/

/-- Slots that are empty stay so, and no die takes a release back. -/
structure KeepsReleased (x z : State) : Prop where
  empty : ∀ d i, (die d x).slot i = Slot.empty → (die d z).slot i = Slot.empty
  released : ∀ d, (die d x).released ≤ (die d z).released

namespace KeepsReleased

variable {x y z : State}

theorem trans (h : KeepsReleased x y) (h' : KeepsReleased y z) : KeepsReleased x z where
  empty d i hi := h'.empty d i (h.empty d i hi)
  released d := Nat.le_trans (h.released d) (h'.released d)

theorem of_dies (h : z.data.dies = x.data.dies) : KeepsReleased x z where
  empty d i hi := by rwa [die, h]
  released d := Nat.le_of_eq (by rw [die, die, h])

theorem of_data (h : z.data = x.data) : KeepsReleased x z := of_dies (congrArg DataS.dies h)

theorem refl (x : State) : KeepsReleased x x := of_data rfl

theorem setDie {d : Nat} {v : Die} {s : State}
    (hempty : ∀ i, (die d s).slot i = Slot.empty → v.slot i = Slot.empty)
    (hrel : (die d s).released ≤ v.released) : KeepsReleased s (setDie d v s) := by
  have hdie (e : Nat) : die e (Machine.setDie d v s) = if e = d ∧ d < 4 then v else die e s := RegFile.getD_set ..
  constructor
  · intro e i hi
    rw [hdie]
    split
    · next hed => exact hempty i (hed.1 ▸ hi)
    · exact hi
  · intro e
    rw [hdie]
    split
    · next hed => exact hed.1 ▸ hrel
    · exact Nat.le_refl _

theorem foldl {α : Type} {f : State → α → State} (l : List α) (hf : ∀ s, ∀ a ∈ l, KeepsReleased s (f s a))
    (s : State) : KeepsReleased s (l.foldl f s) :=
  l.foldlRecOn f (refl s) fun y h a ha => h.trans (hf y a ha)

end KeepsReleased

/-! ### The release of leading blocks (R71, R73) -/

theorem Die.block_of_find {x : Die} {epoch block i : Nat} (h : x.find epoch block = some i) :
    (x.slot i).block = block := by
  obtain ⟨hi, hp, -⟩ := List.findIdx?_eq_some_iff_getElem.1 h
  simp only [Bool.and_eq_true, beq_iff_eq] at hp
  rw [Die.slot, List.getD_eq_getElem?_getD, List.getElem?_eq_getElem hi, Option.getD_some, hp.2]

theorem Die.slot_setSlot_empty (x : Die) (i j : Nat) (h : j = i ∨ x.slot j = Slot.empty) :
    (x.setSlot i Slot.empty).slot j = Slot.empty := by
  rw [Die.slot_setSlot]
  split
  · rfl
  · next hout =>
    rcases h with rfl | h
    · rw [Die.slot, List.getD_eq_getElem?_getD, List.getElem?_eq_none (by omega)]
      rfl
    · exact h

theorem Die.slot_freeSlot_empty (p : Plan) (x : Die) (i j : Nat) (h : j = i ∨ x.slot j = Slot.empty) :
    (x.freeSlot p i).slot j = Slot.empty := Die.slot_setSlot_empty _ i j h

theorem ledgerDue_keepsReleased (d area epoch chan chunk : Nat) (s : State) :
    KeepsReleased s (ledgerDue d area epoch chan chunk s) := .setDie (fun _ h => h) (Nat.le_refl _)

theorem dieAdvance_keepsReleased (n d : Nat) (s : State) : KeepsReleased s (dieAdvance n d s) := by
  induction n generalizing s with
  | zero => exact .refl s
  | succ n ih =>
    have hgo {y : State} (h : KeepsReleased s y) : KeepsReleased s (dieAdvance n d y) := h.trans (ih y)
    unfold dieAdvance
    simp only
    split
    · exact .refl s
    next p _ =>
      split
      · refine hgo (.trans (.trans (.setDie ?_ ?_) (ledgerDue_keepsReleased ..)) (.of_data (countBeamSkip_data ..)))
        · exact fun _ h => h
        · exact Nat.le_add_right _ _
      · split
        · refine hgo (.setDie ?_ ?_)
          · exact fun _ h => h
          · exact Nat.le_add_right _ _
        · split
          · exact .refl s
          next i hfind =>
            split
            · have hblock := Die.block_of_find hfind
              refine hgo (.trans (.trans (.trans (.setDie ?_ ?_) (.of_data (missTaps_data ..)))
                (ledgerDue_keepsReleased ..)) (.of_data (countBeamSkip_data ..)))
              · exact fun j h => Die.slot_freeSlot_empty p _ i j (.inr h)
              · exact hblock ▸ Nat.le_add_right _ _
            · exact .refl s

/-! ### Domains that the plan in force does not use (R305) -/

theorem polderOff_keepsReleased (n : Nat) (s : State) : KeepsReleased s (polderOff n s) := by
  unfold polderOff
  simp only
  refine .trans (y := clearPolder n s) (.of_dies rfl) (.trans (.foldl _ (fun y j _ => ?_) _) (.of_dies rfl))
  exact .setDie (fun _ h => h) (Nat.le_refl _)

theorem clearPolder_keepsReleased (n : Nat) (s : State) : KeepsReleased s (clearPolder n s) := .of_dies rfl

theorem dropDie_keepsReleased (d : Nat) (s : State) : KeepsReleased s (dropDie d s) := by
  unfold dropDie
  extract_lets x main zoom s1 s2
  have hs1 : KeepsReleased s s1 := by
    refine .setDie (fun i _ => ?_) (Nat.le_refl _)
    rw [Die.slot, List.getD_eq_getElem?_getD, List.getElem?_map]
    cases x.slots[i]? <;> rfl
  have hs2 : KeepsReleased s1 s2 :=
    (KeepsReleased.foldl _ (fun y i _ => .of_data (missTaps_data d i y)) s1).trans
      (.foldl _ (fun y n _ => clearPolder_keepsReleased _ y) _)
  have hweir (w : WeirS) : KeepsReleased s2 { s2 with weir := w } := .of_data rfl
  have hhold (e : Nat) (y : State) : KeepsReleased y (endHold e y) := .of_data (endHold_data e y)
  refine KeepsReleased.trans ?_ (.foldl _ (fun y l _ => ledgerDue_keepsReleased _ _ _ _ _ y) _)
  exact hs1.trans (hs2.trans ((hweir _).trans ((hhold _ _).trans (hhold _ _))))

theorem dropBeams_keepsReleased (d : Nat) (s : State) : KeepsReleased s (dropBeams d s) := by
  unfold dropBeams
  extract_lets x s0 s1
  have hs0 : s0.data = s.data := (endHold_data ..).trans (endHold_data ..)
  have hdie : die d s0 = x := by rw [die, hs0]; rfl
  have hs1 : KeepsReleased s0 s1 := .setDie (fun i h => hdie ▸ h) (hdie ▸ Nat.le_refl _)
  exact ((KeepsReleased.of_data hs0).trans hs1).trans (.of_data rfl)

theorem switchOff_keepsReleased {pd : Nat} (hpd : pd < 38) (s : State) : KeepsReleased s (switchOff pd s) := by
  have hlost (y : State) : KeepsReleased y (unitLost pd y) := by
    unfold unitLost
    rw [if_pos hpd]
    split
    · exact .foldl _ (fun x p _ => polderOff_keepsReleased _ x) y
    · split
      · exact dropDie_keepsReleased ..
      · split
        · exact dropBeams_keepsReleased ..
        · split
          · exact .of_data rfl
          · split
            · exact .of_data (sluiceOff_data y)
            · exact .of_data (ingressDown_data ..)
  have hdomain (v : DomainState) : KeepsReleased s (setDomain pd v s) := .of_data rfl
  unfold switchOff
  split
  · exact (hdomain _).trans (hlost _)
  · exact .refl s

theorem trimDomains_keepsReleased (s : State) : KeepsReleased s (trimDomains s) := by
  unfold trimDomains
  split
  · exact .refl s
  · extract_lets keep s1
    have hs1 : KeepsReleased s s1 := by
      refine .foldl _ (fun x pd hpd => ?_) s
      have hoff := switchOff_keepsReleased (List.mem_range.1 hpd) x
      split
      · exact .refl x
      · split
        · split
          · exact hoff
          · exact .refl x
        · exact hoff
    split
    · exact hs1.trans (.of_data rfl)
    · exact hs1

theorem placeReserve_data (s : State) : (placeReserve s).data = s.data := by
  unfold placeReserve
  simp only
  split <;> rfl

theorem freePlaces_data (s : State) : (freePlaces s).data = s.data := by
  unfold freePlaces
  split
  · rfl
  · exact placeReserve_data _

/-! ### SLOT_RELEASE (R166) -/

/-- What a release sets going keeps it. -/
theorem releaseRun_keepsReleased (d : Nat) (r : Running) (s : State) :
    ∃ x : Die, x.slot r.slot = Slot.empty ∧
      (r.isZoom = false → r.epoch = (die d s).epoch → r.block = (die d s).released →
        x.released = (die d s).released + 4) ∧
      KeepsReleased (setDie d x s) (releaseRun d r s) := by
  unfold releaseRun
  extract_lets x x0 x1
  have hslot : x0.slot r.slot = Slot.empty := by
    unfold x0
    split
    · exact Die.slot_freeSlot_empty _ _ _ _ (.inl rfl)
    · exact Die.slot_setSlot_empty _ _ _ (.inl rfl)
  refine ⟨x1, hslot, fun hmain hepoch hblock => ?_, ?_⟩
  · show (if _ then _ else _) = _
    rw [hmain, hepoch, hblock, if_pos (by simp [x])]
  · exact .trans (.trans (.trans (.trans (.trans (.of_data (missTaps_data ..)) (dieAdvance_keepsReleased ..))
      (trimDomains_keepsReleased _)) (.of_data (freePlaces_data _))) (.of_data rfl)) (.of_data (beamsGoOn_data _))

theorem exec_slotRelease (t : Nat) (d : Fin 4) (s : State) : exec (.slotRelease t d) s = act t (fun x =>
    match finishedRun d x with
    | some r => releaseRun d r x
    | none => x) s := rfl

/-- R166: the slot of the first run that everybody has finished with is freed, and the released block moves on. -/
theorem slotRelease_frees {t : Nat} {d : Fin 4} {s : State} {r : Running}
    (h : finishedRun d (advance t s) = some r) :
    let x := advance t s
    Leads (.slotRelease t d) s fun z => (die d z).slot r.slot = Slot.empty ∧
      (r.isZoom = false → r.epoch = (die d x).epoch → r.block = (die d x).released →
        (die d x).released + 4 ≤ (die d z).released) := by
  intro x
  obtain ⟨v, hslot, hrel, hkeeps⟩ := releaseRun_keepsReleased d r x
  have hv : die d (setDie d v x) = v := die_setDie_same _ _ _ d.isLt
  refine leads_act (exec_slotRelease t d s) ?_
  simp only [h, die_settle]
  refine ⟨hkeeps.empty d _ (hv.symm ▸ hslot), fun hmain hepoch hblock => ?_⟩
  rw [← hrel hmain hepoch hblock]
  exact hv ▸ hkeeps.released d

theorem slotRelease_idles {t : Nat} {d : Fin 4} {s : State} (h : finishedRun d (advance t s) = none) :
    Does (.slotRelease t d) s (advance t s) := by
  refine does_act (exec_slotRelease t d s) ?_
  simp only [h]
  exact .rfl' _

end Sys2Proof.Machine
end

section
/-! BLOCK_START (R71, R74, R113, R114, R117, R163): the tiles of a block go to their polders, and its run begins. -/

namespace Sys2Proof.Machine

/-! ### What the weir engines leave alone (R163, R191) -/

/-- A run without what its weir engines do. -/
def Running.noWeir (r : Running) : Running := { r with weirWait := [], weirBusy := [] }

/-- The work of the weir engines leaves the polders as they are, and of the runs all but what the engines do. -/
structure WeirWork (x z : State) : Prop where
  polders : z.data.polders = x.data.polders
  runs : ∀ d, (die d z).runs.map Running.noWeir = (die d x).runs.map Running.noWeir

namespace WeirWork

variable {x y z : State}

theorem trans (h : WeirWork x y) (h' : WeirWork y z) : WeirWork x z where
  polders := h'.polders.trans h.polders
  runs d := (h'.runs d).trans (h.runs d)

theorem of_data (h : z.data = x.data) : WeirWork x z where
  polders := congrArg DataS.polders h
  runs d := by rw [die, h, die]

theorem refl (x : State) : WeirWork x x := of_data rfl

theorem setDie {d : Nat} {v : Die} {s : State}
    (h : v.runs.map Running.noWeir = (die d s).runs.map Running.noWeir) : WeirWork s (setDie d v s) where
  polders := rfl
  runs e := by
    have hdie : die e (Machine.setDie d v s) = if e = d ∧ d < 4 then v else die e s := RegFile.getD_set ..
    rw [hdie]
    split
    · next hed => exact hed.1 ▸ h
    · rfl

theorem foldl {α : Type} {f : State → α → State} (hf : ∀ s a, WeirWork s (f s a)) (l : List α) (s : State) :
    WeirWork s (l.foldl f s) :=
  l.foldlRecOn f (refl s) fun y h a _ => h.trans (hf y a)

end WeirWork

/-- Read errors change a die's slots (R84). -/
theorem culvertErrors_weirWork (d slot : Nat) (keys : List Nat) (corrected : Nat) (s : State) :
    WeirWork s (culvertErrors d slot keys corrected s) := by
  have hfire (f : Fs) (y : State) : WeirWork y (fire f y) := .of_data (fire_data f y)
  have hcount (c : Ctr) (i n : Nat) (y : State) : WeirWork y (count c i n y) := .of_data rfl
  refine (hcount .culvertCorr d corrected s).trans (.foldl (fun x key => ?_) keys _)
  simp only
  split
  · exact .refl x
  · refine .trans (.trans (.setDie ?_) (hcount ..)) (hfire ..)
    split <;> rfl

theorem setBanksOf_data (p : Plan) (l : RegFile Bank 2) (s : State) : (setBanksOf p l s).data = s.data := by
  unfold setBanksOf
  split <;> rfl

theorem epochInForce_data (p : Plan) (r : Running) (s : State) : (epochInForce p r s).data = s.data := by
  unfold epochInForce
  simp only
  split
  · rfl
  · exact (raise_data ..).trans (setBanksOf_data ..)

theorem countBeam_data (p : Plan) (chunk : Nat) (s : State) (m : BeamMade) : (countBeam p chunk s m).data = s.data := by
  unfold countBeam
  simp only
  split <;> rfl

theorem mapRun_weirWork {f : Running → Running} (hf : ∀ r, (f r).noWeir = r.noWeir) (d slot : Nat) (s : State) :
    WeirWork s (mapRun d slot f s) := by
  refine .setDie ?_
  rw [List.map_map]
  refine List.map_congr_left fun r _ => ?_
  rw [Function.comp_apply]
  split
  · exact hf r
  · rfl

theorem feedBeam_data (p : Plan) (s : State) (x : BeamFeed) : (feedBeam p s x).data = s.data := rfl

/-- R164, R179, R191: an engine begins a block. -/
theorem engineBegin_weirWork (d e : Nat) (r : Running) (p : Plan) (s : State) :
    WeirWork s (engineBegin d e r p s) := by
  unfold engineBegin
  extract_lets _ s1 found s2 v made s3 s4 blk outs rest _ s5 wins s6
  have h1 : WeirWork s s1 := .of_data (endHold_data ..)
  have h2 : WeirWork s1 s2 := (culvertErrors_weirWork ..).trans (.of_data (epochInForce_data ..))
  have h3 : WeirWork s2 s3 := .of_data (foldl_keeps (π := State.data) (countBeam_data p r.chunk) made s2)
  have h4 : WeirWork s3 s4 := by
    refine mapRun_weirWork ?_ d r.slot s3
    exact fun _ => rfl
  have h5 : WeirWork s s5 := (h1.trans (h2.trans (h3.trans h4))).trans (.of_data rfl)
  split
  · exact h5
  · refine h5.trans (.of_data ?_)
    exact ((foldl_keeps (π := State.data) (concludeBeams_data p) wins _).trans
      (foldl_keeps (π := State.data) (feedBeam_data p) _ s6)).trans
      (foldl_keeps (π := State.data) (restartBeamDets_data p) wins s5)

theorem engineTry_weirWork (d e : Nat) (s : State) : WeirWork s (engineTry d e s) := by
  unfold engineTry
  simp only
  split
  · exact .refl s
  · split
    · exact .refl s
    · split
      · exact .refl s
      · split
        · exact engineBegin_weirWork ..
        · exact .of_data rfl

theorem packetiseBlock_data (s : State) (k : BeamBlock) : (packetiseBlock s k).data = s.data := by
  unfold packetiseBlock
  split
  · rfl
  · split
    · rfl
    · exact foldl_keeps (π := State.data) (fun y u => unitReady_data u y) _ _

theorem weirPump_weirWork (s : State) : WeirWork s (weirPump s) :=
  (WeirWork.of_data (foldl_keeps (π := State.data) packetiseBlock_data s.weir.blocks s)).trans
    (.foldl (fun y _ => engineTry_weirWork _ _ y) _ _)

/-! ### BLOCK_START (R114, R128) -/

/-- A tile joins the work of its polder. -/
def giveTile (job : Placed → TileJob) (s : State) (w : Placed) : State :=
  setPolder w.polder { polder w.polder s with jobs := (polder w.polder s).jobs ++ [job w] } s

/-- The tiles of a block reach each polder in their order (R114). -/
theorem jobs_giveTiles {n : Nat} (hn : n < 168) (job : Placed → TileJob) (tiles : List Placed) (s : State) :
    (polder n (tiles.foldl (giveTile job) s)).jobs =
      (polder n s).jobs ++ (tiles.filter fun w => w.polder == n).map job := by
  induction tiles generalizing s with
  | nil => rw [List.foldl_nil, List.filter_nil, List.map_nil, List.append_nil]
  | cons w rest ih =>
    rw [List.foldl_cons, ih]
    by_cases h : w.polder = n
    · rw [giveTile, h, polder_setPolder_same _ _ _ hn, List.filter_cons_of_pos (by rw [h, beq_self_eq_true]),
        List.map_cons, List.append_assoc, List.singleton_append]
    · rw [giveTile, polder_setPolder_of_ne _ _ (Ne.symm h), List.filter_cons_of_neg (by rwa [beq_iff_eq])]

theorem giveTile_dies (job : Placed → TileJob) (s : State) (w : Placed) :
    (giveTile job s w).data.dies = s.data.dies := rfl

theorem giveTiles_dies (job : Placed → TileJob) (tiles : List Placed) (s : State) :
    (tiles.foldl (giveTile job) s).data.dies = s.data.dies :=
  foldl_keeps (π := fun s => s.data.dies) (giveTile_dies job) tiles s

/-- The job of a tile of the block in slot `i` (R71, R117). -/
def blockJob (i : Nat) (v : Slot) (w : Placed) : TileJob :=
  ⟨w.a, w.b, w.period, i, if v.state == .zoom then 1 else 0, v.epoch, v.chan, v.chunk⟩

section
variable (p : Plan) (d i : Nat) (reads : List CulvertIn) (s : State)

/-- Before the weir engines are set going, the block's run has joined those of its die, and its tiles are with
their polders. -/
theorem startBlock_eq : let v := (die d s).slot i
    let tiles := blockTiles p d (v.state == .zoom) s
    ∃ (x : Die) (y : State), startBlock p d i reads s = weirPump y ∧
      (∃ r, x.runs = (die d s).runs ++ [r] ∧ r.slot = i ∧ r.epoch = v.epoch ∧ r.block = v.block ∧
        r.left = tiles.length) ∧
      y.data = (tiles.foldl (giveTile (blockJob i v)) (setDie d x s)).data := by
  intro v tiles
  unfold startBlock
  extract_lets x v' isZoom tiles' weirs run s1 s2 s3
  refine ⟨{ x with runs := x.runs ++ [run], ringPtr := (ringsInUse p d s).headD (6 * d) }, s3, rfl,
    ⟨run, rfl, rfl, rfl, rfl, rfl⟩, ?_⟩
  unfold s3
  split <;> rfl

/-- R114: each polder of the die has the jobs of its tiles. -/
theorem jobs_startBlock {n : Nat} (hn : n < 168) : let v := (die d s).slot i
    (polder n (startBlock p d i reads s)).jobs = (polder n s).jobs ++
      ((blockTiles p d (v.state == .zoom) s).filter fun w => w.polder == n).map (blockJob i v) := by
  intro v
  obtain ⟨x, y, hstart, -, hdata⟩ := startBlock_eq p d i reads s
  have hpump : polder n (weirPump y) = polder n y := by rw [polder, (weirPump_weirWork y).polders, polder]
  rw [hstart, hpump, polder_of_data hdata]
  exact jobs_giveTiles hn _ _ _

/-- R114, R166: the die holds a run of the block with all its tiles to come. -/
theorem runs_startBlock (hd : d < 4) : let v := (die d s).slot i
    ∃ r ∈ (die d (startBlock p d i reads s)).runs, r.slot = i ∧ r.epoch = v.epoch ∧ r.block = v.block ∧
      r.left = (blockTiles p d (v.state == .zoom) s).length := by
  intro v
  obtain ⟨x, y, hstart, ⟨run, hruns, hslot, hepoch, hblock, hleft⟩, hdata⟩ := startBlock_eq p d i reads s
  have hdie : die d y = x := by
    rw [die, hdata, giveTiles_dies]
    exact die_setDie_same _ _ _ hd
  have hmem : run.noWeir ∈ (die d (weirPump y)).runs.map Running.noWeir := by
    rw [(weirPump_weirWork y).runs d, hdie, hruns]
    exact List.mem_map_of_mem (List.mem_append_right _ List.mem_cons_self)
  obtain ⟨r, hr, hsame⟩ := List.mem_map.1 hmem
  rw [hstart]
  exact ⟨r, hr, (congrArg Running.slot hsame).trans hslot, (congrArg Running.epoch hsame).trans hepoch,
    (congrArg Running.block hsame).trans hblock, (congrArg Running.left hsame).trans hleft⟩

end

section
variable {t : Nat} {d : Fin 4} {weir0 weir1 : CulvertIn} {s : State}

/-- A block starts when its die serves, nothing of the die is in the way, and its tiles have powered polders. -/
theorem exec_blockStart_of_due {i : Nat} {p : Plan} : let x := advance t s
    let tiles := blockTiles p d (((die d x).slot i).state == .zoom) x
    (die d x).stopped = false → domain (24 + d) x = .on → ringsIdle d x = true → boundaryClear d x = true →
    nextSlot d x = some i → planOf ((die d x).slot i).epoch x = some p → tiles ≠ [] →
    (∀ w ∈ tiles, (polder w.polder x).powered = true) →
    exec (.blockStart t d weir0 weir1) s = .next (settle (startBlock p d i [weir0, weir1] x)) := by
  intro x tiles hrun hon hidle hclear hnext hplan htiles hpow
  have hready : ¬ (tiles.isEmpty = true ∨ (tiles.any fun w => !(polder w.polder x).powered) = true) := by
    rintro (hempty | hoff)
    · exact htiles (List.isEmpty_iff.1 hempty)
    · obtain ⟨w, hw, hwoff⟩ := List.any_eq_true.1 hoff
      rw [hpow w hw] at hwoff
      cases hwoff
  refine (show _ = execBlockStart t d weir0 weir1 s from rfl).trans ?_
  refine congrArg (fun y => Host.Outcome.next (settle y)) ?_
  show (if _ then _ else _) = _
  rw [if_neg (by simp [x, hrun, hon, hidle, hclear])]
  simp only [x, hnext, hplan]
  rw [if_neg hready]

theorem blockStart_idles : let x := advance t s
    (die d x).stopped = true ∨ domain (24 + d) x ≠ .on ∨ ringsIdle d x = false ∨ boundaryClear d x = false →
    Does (.blockStart t d weir0 weir1) s x := by
  intro x h
  refine does_act (show _ = execBlockStart t d weir0 weir1 s from rfl) ?_
  rw [if_pos (by simpa [x] using h)]
  exact .rfl' _

end

/-- Settles O20: a block that starts, one that does not, and the release of a finished block's slot. -/
theorem blocksStartOnEveryRing : Obligations.BlocksStartOnEveryRing := by
  unfold Obligations.BlocksStartOnEveryRing
  refine ⟨?_, fun t d weir0 weir1 s => blockStart_idles,
    fun t d s => ⟨fun r hr => slotRelease_frees hr, fun hnone => slotRelease_idles hnone⟩⟩
  intro t d weir0 weir1 s i p x v tiles hrun hon hidle hclear hnext hplan htiles hpow
  refine ⟨_, exec_blockStart_of_due hrun hon hidle hclear hnext hplan htiles hpow, ?_, fun n hn => ?_⟩
  · rw [die_settle]
    exact runs_startBlock p d i _ x d.isLt
  · rw [polder_settle]
    exact jobs_startBlock p d i _ x hn

end Sys2Proof.Machine
end

section
/-! ZCP_WEIR_EPOCH, ZCP_WEIR_EPOCH_CANCEL and BANK_RELEASE (R178, R180, R181): banks are armed, freed and released. -/

namespace Sys2Proof.Machine

/-! ### Banks of the current pair (R176) -/

section
variable {x y : State} (h : restZ y = restZ x)
include h

/-- Banks lie outside the sessions. -/
theorem bank_of_restZ (i : Nat) : bank i y = bank i x := by
  show bank i (restZ y) = bank i (restZ x)
  rw [h]

/-- R178's conditions lie outside the sessions. -/
theorem epochRefusal_of_restZ (i e : Nat) : epochRefusal i e y = epochRefusal i e x := by
  show epochRefusal i e (restZ y) = epochRefusal i e (restZ x)
  rw [h]

theorem setBank_of_restZ (i : Nat) (b : Bank) : restZ (setBank i b y) = restZ (setBank i b x) :=
  congrArg (fun z => setBank i b z) h

end

section
variable {i e : Nat} {x : State}

/-! ### R178's conditions in their order -/

theorem epochRefusal_badAlign (halign : e % 1024 ≠ 0) : epochRefusal i e x = some 0x40 := if_pos halign

theorem epochRefusal_bankBusy (halign : e % 1024 = 0) (hbusy : (bank i x).state ≠ .free) :
    epochRefusal i e x = some 0x41 := by
  simp [epochRefusal, halign, hbusy]

theorem epochRefusal_pending (halign : e % 1024 = 0) (hfree : (bank i x).state = .free)
    (hother : (bank (1 - i) x).state = .armed ∨ (bank (1 - i) x).state = .draining) :
    epochRefusal i e x = some 0x42 := by
  simp [epochRefusal, halign, hfree, hother]

/-- A FREE bank beside one that is neither ARMED nor DRAINING is refused for a write to it or for the engines' progress
alone. -/
theorem epochRefusal_of_free (halign : e % 1024 = 0) (hfree : (bank i x).state = .free)
    (harmed : (bank (1 - i) x).state ≠ .armed) (hdrain : (bank (1 - i) x).state ≠ .draining) :
    epochRefusal i e x = if bankWriting i x then some 0x41 else if e < x.weir.begun then some 0x43 else none := by
  simp [epochRefusal, halign, hfree, harmed, hdrain]

/-- A boundary that R178 admits is a multiple of 1,024 that no engine has passed. -/
theorem admitted_of_epochRefusal_none (h : epochRefusal i e x = none) : e % 1024 = 0 ∧ x.weir.begun ≤ e := by
  have hadmits {code : Nat} (href : epochRefusal i e x = some code) : False :=
    Option.some_ne_none code (href.symm.trans h)
  have halign : e % 1024 = 0 := Decidable.not_not.1 fun hbad => hadmits (epochRefusal_badAlign hbad)
  have hfree : (bank i x).state = .free := Decidable.not_not.1 fun hbusy => hadmits (epochRefusal_bankBusy halign hbusy)
  have hother : ¬ ((bank (1 - i) x).state = .armed ∨ (bank (1 - i) x).state = .draining) := fun hpending =>
    hadmits (epochRefusal_pending halign hfree hpending)
  obtain ⟨harmed, hdrain⟩ := not_or.1 hother
  have href := epochRefusal_of_free halign hfree harmed hdrain
  refine ⟨halign, Nat.not_lt.1 fun hlate => ?_⟩
  rw [if_pos hlate] at href
  split at href
  · exact hadmits href
  · exact hadmits href

end

theorem laid_of_length (body : Ctx → State → Res) {c : Ctx} (h : c.payload.length = Config.payloadLength c.typ)
    (s : State) : laid body c s = body c s := if_pos h

section
variable {t : Nat} {d : Dgram} {i : Fin 2} {e : Nat} {s : State}

/-! ### ZCP_WEIR_EPOCH (R178) -/

section
variable (hd : Accepted 0x0302 d (advance t s)) (hlen : d.payload.length = Config.payloadLength 0x0302)
include hd hlen

theorem laid_zcpWeirEpoch (y : State) : laid (weirEpoch i e) d.ctx y = weirEpoch i e d.ctx y :=
  laid_of_length _ (hlen.trans (congrArg Config.payloadLength hd.typ.symm)) y

/-- An epoch that R178 refuses changes no bank. -/
theorem zcpWeirEpoch_refused {code : Nat} (href : epochRefusal i e (advance t s) = some code) :
    Answers (.zcpWeirEpoch t d i e) d code s (advance t s) := by
  refine answers_of (show _ = execZcpWeirEpoch t d i e s from rfl) hd (by decide) fun y hy => ?_
  refine ⟨[], count .epochRefused 0 1 y, ?_, hy⟩
  rw [laid_zcpWeirEpoch hd hlen, weirEpoch, epochRefusal_of_restZ hy, href]
  rfl

/-- An epoch that R178 does not refuse arms its bank. -/
theorem zcpWeirEpoch_armed (href : epochRefusal i e (advance t s) = none) :
    Answers (.zcpWeirEpoch t d i e) d rOk s (armBank i e (advance t s)) := by
  refine answers_of (show _ = execZcpWeirEpoch t d i e s from rfl) hd (by decide) fun y hy => ?_
  refine ⟨[], armBank i e y, ?_, ?_⟩
  · rw [laid_zcpWeirEpoch hd hlen, weirEpoch, epochRefusal_of_restZ hy, href]
  · rw [armBank, bank_of_restZ hy]
    exact setBank_of_restZ hy i _

end

/-! ### ZCP_WEIR_EPOCH_CANCEL (R181) -/

section
variable (hd : Accepted 0x0303 d (advance t s)) (hlen : d.payload.length = Config.payloadLength 0x0303)
include hd hlen

/-- A cancel's answer follows from the state of its bank alone. -/
theorem zcpWeirEpochCancel_answers {code : Nat} {z : State}
    (hbody : ∀ y, restZ y = restZ (advance t s) →
      ∃ y', weirCancel i d.ctx y = answer code [] y' ∧ restZ y' = restZ z) :
    Answers (.zcpWeirEpochCancel t d i) d code s z := by
  refine answers_of (show _ = execZcpWeirEpochCancel t d i s from rfl) hd (by decide) fun y hy => ?_
  rw [laid_of_length _ (hlen.trans (congrArg Config.payloadLength hd.typ.symm))]
  exact ⟨[], hbody y hy⟩

theorem zcpWeirEpochCancel_free (hfree : (bank i (advance t s)).state = .free) :
    Answers (.zcpWeirEpochCancel t d i) d rOk s (advance t s) := by
  refine zcpWeirEpochCancel_answers hd hlen fun y hy => ⟨y, ?_, hy⟩
  rw [weirCancel, bank_of_restZ hy]
  simp only [hfree]

theorem zcpWeirEpochCancel_armed (harmed : (bank i (advance t s)).state = .armed) :
    Answers (.zcpWeirEpochCancel t d i) d rOk s
      (setBank i { bank i (advance t s) with state := .free, boundary := 0 } (advance t s)) := by
  refine zcpWeirEpochCancel_answers hd hlen fun y hy => ⟨_, ?_, setBank_of_restZ hy i _⟩
  rw [weirCancel, bank_of_restZ hy]
  simp only [harmed]

/-- A bank whose weights blocks still use is not freed. -/
theorem zcpWeirEpochCancel_used
    (hused : (bank i (advance t s)).state = .inForce ∨ (bank i (advance t s)).state = .draining) :
    Answers (.zcpWeirEpochCancel t d i) d 0x43 s (advance t s) := by
  refine zcpWeirEpochCancel_answers hd hlen fun y hy => ⟨y, ?_, hy⟩
  rw [weirCancel, bank_of_restZ hy]
  rcases hused with h | h <;> simp only [h] <;> rfl

end

end

/-! ### BANK_RELEASE (R180) -/

/-- A bank that drains, and that no block uses any more. -/
def Bank.Drained (b : Bank) (s : State) : Prop := b.state = .draining ∧ ∀ d < 4, dieDoneTo b.boundary d s = true

section
variable {y z : State} (hz : z.weir.banks = releaseBanks y y.weir.banks) {i : Nat} (hi : i < 2)
include hz hi

theorem bank_of_released : bank i z =
    if (bank i y).state = .draining ∧ (List.range 4).all (fun d => dieDoneTo (bank i y).boundary d y) = true then
      { bank i y with state := .free, boundary := 0 }
    else bank i y := by
  rw [bank, hz, releaseBanks, RegFile.getD_map _ _ _ _ hi]
  rfl

/-- A release frees a drained bank, which keeps the weights that it holds. -/
theorem bank_of_drained (hdrained : (bank i y).Drained y) :
    bank i z = { bank i y with state := .free, boundary := 0 } := by
  rw [bank_of_released hz hi, if_pos]
  simpa only [Bank.Drained, List.all_eq_true, List.mem_range] using hdrained

/-- A release leaves a bank that is not drained. -/
theorem bank_of_not_drained (hnot : ¬ (bank i y).Drained y) : bank i z = bank i y := by
  rw [bank_of_released hz hi, if_neg]
  simpa only [Bank.Drained, List.all_eq_true, List.mem_range] using hnot

end

/-- BANK_RELEASE leaves the pair that `releaseBanks` makes once the dies have gone on. -/
theorem bankRelease_leads {t : Nat} {s : State} {p : State → Prop} : let y := advanceDies (advance t s)
    (∀ z, z.weir.banks = releaseBanks y y.weir.banks → p z) → Leads (.bankRelease t) s p :=
  fun h => leads_act (show _ = execBankRelease t s from rfl) (h _ (by rw [settle_weir]))

/-- Settles O26: ZCP_WEIR_EPOCH by the first of R178's conditions that fails, ZCP_WEIR_EPOCH_CANCEL by the state of its
bank, and BANK_RELEASE bank by bank. -/
theorem weightEpochsAreArmedAndReleased : Obligations.WeightEpochsAreArmedAndReleased := by
  unfold Obligations.WeightEpochsAreArmedAndReleased
  refine ⟨?epoch, ?cancel, ?release⟩
  case epoch =>
    intro t d i e s x hd hlen
    refine ⟨fun halign => ?_, fun halign hstate => ?_, fun halign hfree hother => ?_,
      fun halign hfree harmed hdrain => ?_⟩
    · exact zcpWeirEpoch_refused hd hlen (epochRefusal_badAlign halign)
    · exact zcpWeirEpoch_refused hd hlen (epochRefusal_bankBusy halign hstate)
    · exact zcpWeirEpoch_refused hd hlen (epochRefusal_pending halign hfree hother)
    · have href := epochRefusal_of_free halign hfree harmed hdrain
      refine ⟨fun hwrite => ?_, fun hwrite hlate => ?_, fun hwrite htime => ?_⟩
      · exact zcpWeirEpoch_refused hd hlen (href.trans (if_pos hwrite))
      · rw [hwrite, if_neg Bool.false_ne_true] at href
        exact zcpWeirEpoch_refused hd hlen (href.trans (if_pos hlate))
      · rw [hwrite, if_neg Bool.false_ne_true] at href
        exact zcpWeirEpoch_armed hd hlen (href.trans (if_neg (Nat.not_lt.2 htime)))
  case cancel =>
    intro t d i s x hd hlen
    exact ⟨zcpWeirEpochCancel_free hd hlen, zcpWeirEpochCancel_armed hd hlen, zcpWeirEpochCancel_used hd hlen⟩
  case release =>
    intro t s
    refine bankRelease_leads fun z hz i hi => ?_
    generalize advanceDies (advance t s) = y at hz ⊢
    by_cases hdrained : (bank i y).Drained y
    · rw [bank_of_drained hz hi hdrained]
      obtain ⟨hdraining, hdone⟩ := hdrained
      refine ⟨rfl, fun _ _ => ⟨rfl, rfl⟩, ?_⟩
      rintro (hnot | ⟨d, hd, hundone⟩)
      · exact absurd hdraining hnot
      · exact absurd (hdone d hd) (ne_true_of_eq_false hundone)
    · rw [bank_of_not_drained hz hi hdrained]
      exact ⟨rfl, fun hdraining hdone => absurd ⟨hdraining, hdone⟩ hdrained, fun _ => rfl⟩

end Sys2Proof.Machine
end

section
/-! WEIR_BLOCK_DONE (R191): an engine's block is counted, and the engines that it sets going keep to beams. -/

namespace Sys2Proof.Machine

/-! ### What beams on their way out never touch (R191, R217, R235) -/

/-- The DRAM, power, parameters and one engine's WEIR_BLOCKS. -/
def beamAside (i : Nat) (s : State) : MemS × PowerS × Sparse Nat × Nat :=
  (s.mem, s.power, s.force, ctrGet .weirBlocks i s)

theorem ReportEq.beamAside {x y : State} (h : ReportEq x y) (i : Nat) : beamAside i x = beamAside i y := by
  rw [Machine.beamAside, h.mem, h.power, h.force, h.ctr .weirBlocks i rfl, Machine.beamAside]

section
variable (i : Nat)

theorem beamAside_count {c : Ctr} (hc : .weirBlocks ≠ c) (k n : Nat) (s : State) :
    beamAside i (count c k n s) = beamAside i s := by
  rw [beamAside, ctrGet_count_of_ne hc, beamAside, count_mem, count_power, count_force]

theorem beamAside_raise (e : Ev) (l : List Nat) (s : State) : beamAside i (raise e l s) = beamAside i s :=
  (raise_eq e l s).beamAside i

theorem beamAside_raiseBytes (e : Ev) (l : List Byte) (s : State) : beamAside i (raiseBytes e l s) = beamAside i s :=
  (raiseBytes_eq e l s).beamAside i

theorem beamAside_fire (f : Fs) (s : State) : beamAside i (fire f s) = beamAside i s := by
  rw [beamAside, fire_mem, fire_power, fire_force, ctrGet_fire rfl, beamAside]

/-! #### Gates of pulse outputs (R223, R389) -/

theorem beamAside_setOut (n : Nat) (o : Out) (s : State) : beamAside i (setOut n o s) = beamAside i s := rfl

theorem beamAside_drive (n : Nat) (level : Bool) (at_ : Nat) (s : State) :
    beamAside i (drive n level at_ s) = beamAside i s := by
  unfold drive
  simp only
  split <;> rfl

theorem beamAside_gateAssert (o due : Nat) (s : State) : beamAside i (gateAssert o due s) = beamAside i s := by
  unfold gateAssert
  simp only
  split
  · refine (beamAside_drive ..).trans ((beamAside_setOut ..).trans ?_)
    split
    · rfl
    · exact beamAside_count i (by decide) ..
  · rfl

theorem beamAside_gateDeassert (o due : Nat) (s : State) : beamAside i (gateDeassert o due s) = beamAside i s := by
  unfold gateDeassert
  simp only
  split
  · refine (beamAside_drive ..).trans ((beamAside_setOut ..).trans ?_)
    split
    · exact beamAside_count i (by decide) ..
    · rfl
  · rfl

theorem beamAside_gateLeave (tide : Nat) (s : State) (o : Nat) : beamAside i (gateLeave tide s o) = beamAside i s := by
  unfold gateLeave
  simp only
  split
  · rfl
  · split
    · exact beamAside_gateDeassert ..
    · rfl

theorem beamAside_gateRecord (w was new tide : Nat) (s : State) (o : Nat) :
    beamAside i (gateRecord w was new tide s o) = beamAside i s := by
  unfold gateRecord
  simp only
  split
  · rfl
  · split
    · rfl
    · split
      · exact beamAside_gateAssert ..
      · exact beamAside_gateLeave ..

/-! #### Units on their way to the packetiser (R235, R247, R249) -/

theorem beamAside_formPieces (u : EUnit) (l : List Piece) (s : State) :
    beamAside i (formPieces u l s) = beamAside i s := by
  induction l generalizing s with
  | nil => rfl
  | cons x r ih =>
    cases r with
    | nil => rfl
    | cons y r => exact ih _

theorem beamAside_unitReady (u : EUnit) (s : State) : beamAside i (unitReady u s) = beamAside i s := by
  unfold unitReady
  split
  · rfl
  · split
    · rfl
    · exact beamAside_formPieces ..

theorem beamAside_packetiseBlock (s : State) (k : BeamBlock) :
    beamAside i (packetiseBlock s k) = beamAside i s := by
  unfold packetiseBlock
  split
  · rfl
  · split
    · rfl
    · exact foldl_keeps (fun y u => beamAside_unitReady i u y) _ _

theorem beamAside_formEvents (s : State) : beamAside i (formEvents s) = beamAside i s := by
  unfold formEvents
  simp only
  split <;> rfl

/-! #### Averages and detectors (R217 to R220) -/

theorem beamAside_produceRecord (w kind index was new : Nat) (skipped : Bool) (end_ value : Nat) (s : State) :
    beamAside i (produceRecord w kind index was new skipped end_ value s) = beamAside i s := by
  unfold produceRecord
  extract_lets x tide r s1 z x1 s2
  have h1 : beamAside i s1 = beamAside i s := beamAside_count i (by decide) ..
  have h2 : beamAside i s2 = beamAside i s1 := by
    unfold s2
    split
    · exact beamAside_count i (by decide) ..
    · split
      · exact (beamAside_formEvents i x1).trans (beamAside_raiseBytes ..)
      · exact beamAside_raiseBytes ..
  exact (foldl_keeps (beamAside_gateRecord i w was new _) _ _).trans (h2.trans h1)

theorem beamAside_detAverage (p : Plan) (w kind index : Nat) (skip : Bool) (value end_ : Nat) (s : State) :
    beamAside i (detAverage p w kind index skip value end_ s) = beamAside i s := by
  unfold detAverage
  simp only
  split
  · exact beamAside_count i (by decide) ..
  · split
    · rfl
    · split
      · rfl
      · exact beamAside_produceRecord ..

theorem beamAside_evalAvg (s : State) (a : Avg) : beamAside i (evalAvg s a) = beamAside i s := by
  unfold evalAvg
  split
  · exact beamAside_detAverage ..
  · rfl

theorem beamAside_releaseAvgs (l : List Avg) (s : State) : beamAside i (releaseAvgs l s) = beamAside i s := by
  induction l generalizing s with
  | nil => rfl
  | cons a r ih =>
    unfold releaseAvgs
    split
    · rfl
    · exact (ih _).trans (beamAside_evalAvg i s a)

theorem beamAside_takeAvgs (l : List Avg) (s : State) : beamAside i (takeAvgs l s) = beamAside i s :=
  beamAside_releaseAvgs ..

theorem beamAside_flushAvgs (w : Nat) (s : State) : beamAside i (flushAvgs w s) = beamAside i s :=
  foldl_keeps (beamAside_evalAvg i) ..

theorem beamAside_concludeBeams (p : Plan) (s : State) (w : Nat) :
    beamAside i (concludeBeams p s w) = beamAside i s := by
  refine foldl_keeps (π := beamAside i) (fun x b => ?_) (List.range 128) s
  simp only
  split
  · rfl
  · exact beamAside_takeAvgs ..

theorem beamAside_restartDets (w at_ : Nat) (keep : Nat → Bool) (s : State) :
    beamAside i (restartDets w at_ keep s) = beamAside i s :=
  (foldl_keeps (beamAside_gateLeave i _) ..).trans (beamAside_flushAvgs i w s)

theorem beamAside_restartBeamDets (p : Plan) (s : State) (w : Nat) :
    beamAside i (restartBeamDets p s w) = beamAside i s := by
  unfold restartBeamDets
  simp only
  split
  · rfl
  · exact beamAside_restartDets ..

theorem beamAside_feedBeam (p : Plan) (s : State) (x : BeamFeed) : beamAside i (feedBeam p s x) = beamAside i s := rfl

/-! ### The weir's engines (R164, R179, R191) -/

theorem beamAside_endHold (e : Nat) (s : State) : beamAside i (endHold e s) = beamAside i s := by
  unfold endHold
  simp only
  split
  · rfl
  · exact beamAside_count i (by decide) ..

theorem beamAside_setBanksOf (p : Plan) (l : RegFile Bank 2) (s : State) :
    beamAside i (setBanksOf p l s) = beamAside i s := by
  unfold setBanksOf
  split <;> rfl

theorem beamAside_epochInForce (p : Plan) (r : Running) (s : State) :
    beamAside i (epochInForce p r s) = beamAside i s := by
  unfold epochInForce
  simp only
  split
  · rfl
  · exact (beamAside_raise ..).trans ((beamAside_count i (by decide) ..).trans (beamAside_setBanksOf ..))

theorem beamAside_culvertErrors (d slot : Nat) (keys : List Nat) (corrected : Nat) (s : State) :
    beamAside i (culvertErrors d slot keys corrected s) = beamAside i s := by
  refine (foldl_keeps (π := beamAside i) (fun x key => ?_) keys _).trans (beamAside_count i (by decide) ..)
  simp only
  split
  · rfl
  · exact (beamAside_fire ..).trans (beamAside_count i (by decide) ..)

theorem beamAside_countBeam (p : Plan) (chunk : Nat) (s : State) (m : BeamMade) :
    beamAside i (countBeam p chunk s m) = beamAside i s := by
  unfold countBeam
  extract_lets b s1
  have h1 : beamAside i s1 = beamAside i s :=
    (beamAside_count i (by decide) ..).trans
      ((beamAside_count i (by decide) ..).trans (beamAside_count i (by decide) ..))
  split
  · exact h1
  · exact h1

/-- An engine that begins a block keeps to its beams. -/
theorem beamAside_engineBegin (d e : Nat) (r : Running) (p : Plan) (s : State) :
    beamAside i (engineBegin d e r p s) = beamAside i s := by
  unfold engineBegin
  extract_lets _ s1 found s2 v made s3 s4 blk outs rest _ s5 wins s6
  have h1 : beamAside i s1 = beamAside i s := beamAside_endHold ..
  have h2 : beamAside i s2 = beamAside i s1 := (beamAside_epochInForce ..).trans (beamAside_culvertErrors ..)
  have h3 : beamAside i s3 = beamAside i s2 := foldl_keeps (beamAside_countBeam i p r.chunk) made s2
  have h5 : beamAside i s5 = beamAside i s := h3.trans (h2.trans h1)
  split
  · exact h5
  · exact (foldl_keeps (beamAside_concludeBeams i p) wins _).trans
      ((foldl_keeps (beamAside_feedBeam i p) _ s6).trans
        ((foldl_keeps (beamAside_restartBeamDets i p) wins s5).trans h5))

theorem beamAside_engineTry (d e : Nat) (s : State) : beamAside i (engineTry d e s) = beamAside i s := by
  unfold engineTry
  simp only
  split
  · rfl
  · split
    · rfl
    · split
      · rfl
      · split
        · exact beamAside_engineBegin ..
        · rfl

/-- R191: the engines that go on keep to their beams. -/
theorem beamAside_weirPump (s : State) : beamAside i (weirPump s) = beamAside i s :=
  (foldl_keeps (fun y _ => beamAside_engineTry i _ _ y) _ _).trans
    (foldl_keeps (beamAside_packetiseBlock i) s.weir.blocks s)

/-! ### WEIR_BLOCK_DONE (R191) -/

/-- An engine without a block in work has written nothing. -/
theorem weirDone_of_idle {s : State} (hidle : ∀ r ∈ (die (i / 2) s).runs, i % 2 ∉ r.weirBusy) :
    weirDone i s = s := by
  have hnone : (die (i / 2) s).runs.find? (fun r => r.weirBusy.contains (i % 2)) = none :=
    List.find?_eq_none.2 fun r hr hbusy => hidle r hr (List.contains_iff_mem.1 hbusy)
  simp only [weirDone, hnone]

/-- The state in which the block is counted and the engine has left its run, before the engines go on. -/
theorem weirDone_of_busy {s : State} (hbusy : ∃ r ∈ (die (i / 2) s).runs, i % 2 ∈ r.weirBusy) :
    ∃ y, weirDone i s = weirPump (count .weirBlocks i 1 y) ∧ beamAside i y = beamAside i s ∧
      y.data.polders = s.data.polders := by
  obtain ⟨r, hr, hmem⟩ := hbusy
  have hsome : ((die (i / 2) s).runs.find? fun r => r.weirBusy.contains (i % 2)).isSome :=
    List.find?_isSome.2 ⟨r, hr, List.contains_iff_mem.2 hmem⟩
  obtain ⟨run, hrun⟩ := Option.isSome_iff_exists.1 hsome
  simp only [weirDone, hrun]
  exact ⟨_, rfl, rfl, rfl⟩

end

/-- What WEIR_BLOCK_DONE leaves when the engine has a block in work. -/
theorem weirBlockDone_leads {t : Nat} {i : Fin 8} {s : State} : let x := advance t s
    (∃ r ∈ (die (i.val / 2) x).runs, i.val % 2 ∈ r.weirBusy) →
    Leads (.weirBlockDone t i) s fun z =>
      ctrGet .weirBlocks i z = min ctrMax (ctrGet .weirBlocks i x + 1) ∧ z.mem = x.mem ∧ z.power = x.power ∧
        z.data.polders = x.data.polders ∧ z.force = x.force := by
  intro x hbusy
  obtain ⟨y, hdone, haside, hpolders⟩ := weirDone_of_busy i hbusy
  have hpump := beamAside_weirPump i (count .weirBlocks i 1 y)
  simp only [beamAside, Prod.mk.injEq, count_mem, count_power, count_force, ctrGet_count_same] at haside hpump
  obtain ⟨hmem, hpower, hforce, hctr⟩ := haside
  obtain ⟨hmem', hpower', hforce', hctr'⟩ := hpump
  refine leads_act (show _ = execWeirBlockDone t i s from rfl) ?_
  rw [(settle_eq _).ctr _ _ rfl, settle_mem, settle_power, settle_data, settle_force, hdone]
  exact ⟨hctr'.trans (by rw [hctr]), hmem'.trans hmem, hpower'.trans hpower,
    (weirPump_weirWork _).polders.trans hpolders, hforce'.trans hforce⟩

theorem weirBlockDone_idles {t : Nat} {i : Fin 8} {s : State}
    (hidle : ∀ r ∈ (die (i.val / 2) (advance t s)).runs, i.val % 2 ∉ r.weirBusy) :
    Does (.weirBlockDone t i) s (advance t s) := by
  refine does_act (show _ = execWeirBlockDone t i s from rfl) ?_
  rw [weirDone_of_idle i hidle]
  exact .rfl' _

end Sys2Proof.Machine
end

section
/-! AUTO_EPOCH_FILL (R183, R184, R352, R353): the stock weight kernel fills a FREE bank and arms it. -/

namespace Sys2Proof.Machine

/-- The boundary that is next for the kernel after the last that it filled or gave up. -/
def dueEpoch (d : Nat) (s : State) : Nat :=
  nextEpoch s.weir.ref d (if s.weir.lastEpoch = 0 then tideSc s.time.tide s else s.weir.lastEpoch)

/-- The kernel has done with a boundary. -/
def pastEpoch (e : Nat) (s : State) : State := { s with weir := { s.weir with lastEpoch := e } }

/-- What makes the kernel give a boundary up. -/
def epochMissed (e : Nat) (s : State) : Bool :=
  decide (e < s.weir.begun) || decide (e ≤ tideSc s.time.tide s) || decide (e % 1024 ≠ 0)

/-- The kernel's bank, filled with a draw of the free values and ARMED. -/
def fillBank (p : Plan) (d i e : Nat) (s : State) : State :=
  pastEpoch e (setBank i ⟨.armed, e, kernelBank p s.weir.steer s.weir.ref e d s.free⟩ (drawFree s).2)

theorem freeBank_lt {i : Nat} {s : State} (h : freeBank s = some i) : i < 2 := by
  have hmem : i ∈ [0, 1] := List.mem_of_find?_eq_some h
  simp only [List.mem_cons, List.not_mem_nil, or_false] at hmem
  omega

/-- A bank that is written and then ARMED is written once. -/
theorem armBank_setBank {i : Nat} (hi : i < 2) (e : Nat) (b : Bank) (s : State) :
    armBank i e (setBank i b s) = setBank i { b with state := .armed, boundary := e } s := by
  have hbank : bank i (setBank i b s) = b := RegFile.getD_set_same _ _ _ _ hi
  rw [armBank, hbank]
  simp only [setBank, RegFile.set, List.set_set]

section
variable {p : Plan} {d : Nat} {s : State}

/-- A boundary that the kernel misses is given up with EV_WEIGHT_LATE, whether a bank is FREE or not. -/
theorem autoEpoch_of_missed (hmissed : epochMissed (dueEpoch d s) s = true) :
    ReportEq (autoEpoch p d s) (noteEvent .weightLate (pastEpoch (dueEpoch d s) s)) := by
  unfold autoEpoch
  extract_lets w e skip missed
  have hgiven : ReportEq skip (noteEvent .weightLate (pastEpoch (dueEpoch d s) s)) := raise_eq ..
  have hmiss : missed = true := hmissed
  split
  · rwa [if_pos hmiss]
  · rwa [if_pos hmiss]

theorem epochMissed_of_passed {e : Nat} (hpassed : e ≤ tideSc s.time.tide s) : epochMissed e s = true := by
  simp [epochMissed, hpassed]

/-- A boundary that R178 admits and that is still to come is not missed. -/
theorem epochMissed_of_ahead {i e : Nat} (href : epochRefusal i e s = none) (hahead : tideSc s.time.tide s < e) :
    epochMissed e s = false := by
  obtain ⟨halign, hbegun⟩ := admitted_of_epochRefusal_none href
  simp [epochMissed, halign, Nat.not_lt.2 hbegun, Nat.not_le.2 hahead]

/-- With a FREE bank and a boundary that R178 admits and that is still to come, the kernel fills the bank when it has a
core to run on. -/
theorem autoEpoch_of_free {i : Nat} (hfree : freeBank s = some i) (href : epochRefusal i (dueEpoch d s) s = none)
    (hahead : tideSc s.time.tide s < dueEpoch d s) :
    autoEpoch p d s = if kernelCores p s = [] then s else fillBank p d i (dueEpoch d s) s := by
  have hmiss := epochMissed_of_ahead href hahead
  unfold autoEpoch
  extract_lets w e skip missed
  have hnot : ¬ missed = true := ne_true_of_eq_false hmiss
  have hcores : (kernelCores p s).isEmpty = true ↔ kernelCores p s = [] := List.isEmpty_iff
  simp only [hfree, if_neg hnot, hcores]
  split
  · rfl
  · have hfill : epochRefusal i e s = none := href
    simp only [hfill]
    exact congrArg (pastEpoch e) (armBank_setBank (freeBank_lt hfree) ..)

end

/-! ### AUTO_EPOCH_FILL -/

/-- The state with the steering that has reached the kernel. -/
def steered (ref : Nat) (steer : List (Nat × Steer)) (s : State) : State :=
  { s with weir := { s.weir with ref := ref, steer := steer.foldl (fun m k => sSet m k.1 k.2) s.weir.steer } }

section
variable {t ref : Nat} {steer : List (Nat × Steer)} {s : State}

theorem autoEpochFill_of_no_plan (hplan : bankPlan (advance t s) = none) :
    Does (.autoEpochFill t ref steer) s (advance t s) := by
  refine does_act (show _ = execAutoEpochFill t ref steer s from rfl) ?_
  simp only [hplan]
  exact .rfl' _

section
variable {p : Plan} (hplan : bankPlan (advance t s) = some p)
include hplan

theorem autoEpochFill_of_off (hoff : p.par0 .weirAutoEpoch = 0 ∨ p.par0 .weirWeightSource ≠ 1) :
    Does (.autoEpochFill t ref steer) s (steered ref steer (advance t s)) := by
  refine does_act (show _ = execAutoEpochFill t ref steer s from rfl) ?_
  simp only [hplan]
  rw [if_pos hoff]
  exact .rfl' _

/-- With automatic epochs on, the kernel goes on with the steering. -/
theorem autoEpochFill_of_on (hauto : p.par0 .weirAutoEpoch ≠ 0) (hsource : p.par0 .weirWeightSource = 1) {z : State}
    (h : ReportEq (autoEpoch p (p.par0 .weirAutoEpoch) (steered ref steer (advance t s))) z) :
    Does (.autoEpochFill t ref steer) s z := by
  refine does_act (show _ = execAutoEpochFill t ref steer s from rfl) ?_
  simp only [hplan]
  rw [if_neg (by simp [hauto, hsource])]
  exact h

end

end

/-- Settles O27: WEIR_BLOCK_DONE by whether the engine has a block in work, and AUTO_EPOCH_FILL by the plan, the
boundary that is due and the kernel's cores. -/
theorem beamsAndAutomaticEpochs : Obligations.BeamsAndAutomaticEpochs := by
  unfold Obligations.BeamsAndAutomaticEpochs
  refine ⟨fun t i s => ⟨weirBlockDone_leads, weirBlockDone_idles⟩, fun t ref steer s => ?_⟩
  intro x w y
  refine ⟨autoEpochFill_of_no_plan, fun p hplan => ⟨autoEpochFill_of_off hplan, fun hauto hsource => ?_⟩⟩
  intro d e
  refine ⟨fun hpassed => ?_, fun i hfree href hahead => ?_⟩
  · exact autoEpochFill_of_on hplan hauto hsource (autoEpoch_of_missed (epochMissed_of_passed hpassed))
  · have hfill := autoEpoch_of_free (p := p) (d := d) (s := y) hfree href hahead
    refine ⟨fun hnone => ?_, fun hcores => ?_⟩
    · exact autoEpochFill_of_on hplan hauto hsource ((hfill.trans (if_pos hnone)) ▸ .rfl' _)
    · exact autoEpochFill_of_on hplan hauto hsource ((hfill.trans (if_neg hcores)) ▸ .rfl' _)

end Sys2Proof.Machine
end

section
/-! What the zoom engine's detectors and blocks leave alone (R202, R210, R216 to R223): how far a window has streamed
its source, the DRAM, the power and the parameters. -/

namespace Sys2Proof.Machine

/-! ### Gates (R223) -/

theorem drive_zoom (n : Nat) (level : Bool) (at_ : Nat) (s : State) : (drive n level at_ s).zoom = s.zoom := by
  unfold drive
  simp only
  split <;> rfl

theorem gateAssert_zoom (o due : Nat) (s : State) : (gateAssert o due s).zoom = s.zoom := by
  unfold gateAssert
  simp only
  split
  · refine (drive_zoom ..).trans ((setOut_zoom ..).trans ?_)
    split <;> rfl
  · rfl

theorem gateDeassert_zoom (o due : Nat) (s : State) : (gateDeassert o due s).zoom = s.zoom := by
  unfold gateDeassert
  simp only
  split
  · refine (drive_zoom ..).trans ((setOut_zoom ..).trans ?_)
    split <;> rfl
  · rfl

theorem gateLeave_zoom (tide : Nat) (s : State) (o : Nat) : (gateLeave tide s o).zoom = s.zoom := by
  unfold gateLeave
  simp only
  split
  · rfl
  · split
    · exact gateDeassert_zoom ..
    · rfl

theorem gateRecord_zoom (w was new tide : Nat) (s : State) (o : Nat) :
    (gateRecord w was new tide s o).zoom = s.zoom := by
  unfold gateRecord
  simp only
  split
  · rfl
  · split
    · rfl
    · split
      · exact gateAssert_zoom ..
      · exact gateLeave_zoom ..

/-! ### Where a window stands in its source (R202) -/

/-- The source block that a window streams next, and the sub-blocks of it already streamed. -/
def streamedTo (w : Nat) (s : State) : Nat × Nat := ((win w s).next, (win w s).pos)

section
variable (w : Nat)

theorem win_settle (s : State) : win w (settle s) = win w s := by
  rw [win, settle_zoom, win]

theorem streamedTo_of_zoom {x z : State} (h : z.zoom = x.zoom) : streamedTo w z = streamedTo w x := by
  rw [streamedTo, win, h, streamedTo, win]

/-- A change of a window that leaves where it stands leaves where every window stands. -/
theorem streamedTo_setWin {k : Nat} {x : ZWin} {s : State} (h : (x.next, x.pos) = streamedTo k s) :
    streamedTo w (setWin k x s) = streamedTo w s := by
  have hwin : win w (setWin k x s) = if w = k ∧ k < 32 then x else win w s := RegFile.getD_set ..
  rw [streamedTo, hwin]
  split
  · next hwk => exact h.trans (by rw [hwk.1])
  · rfl

theorem streamedTo_setDet (k kind index : Nat) (d : Det) (s : State) :
    streamedTo w (setDet k kind index d s) = streamedTo w s :=
  streamedTo_setWin w rfl

theorem streamedTo_formEvents (s : State) : streamedTo w (formEvents s) = streamedTo w s := by
  unfold formEvents
  simp only
  split <;> rfl

theorem streamedTo_produceRecord (k kind index was new : Nat) (skipped : Bool) (end_ value : Nat) (s : State) :
    streamedTo w (produceRecord k kind index was new skipped end_ value s) = streamedTo w s := by
  unfold produceRecord
  extract_lets x tide r s1 z x1 s2
  have h1 : streamedTo w s1 = streamedTo w s := streamedTo_setWin w rfl
  have h2 : streamedTo w s2 = streamedTo w s1 := by
    unfold s2
    split
    · rfl
    · have hraise : streamedTo w x1 = streamedTo w s1 := (streamedTo_of_zoom w (raiseBytes_zoom ..)).trans rfl
      split
      · exact (streamedTo_formEvents w x1).trans hraise
      · exact hraise
  have hgates : ((List.range 8).foldl (gateRecord k was new tide) s2).zoom = s2.zoom :=
    foldl_keeps (π := State.zoom) (gateRecord_zoom k was new tide) _ s2
  exact (streamedTo_of_zoom w hgates).trans (h2.trans h1)

theorem streamedTo_detAverage (p : Plan) (k kind index : Nat) (skip : Bool) (value end_ : Nat) (s : State) :
    streamedTo w (detAverage p k kind index skip value end_ s) = streamedTo w s := by
  unfold detAverage
  simp only
  split
  · exact streamedTo_setDet ..
  · split
    · exact streamedTo_setDet ..
    · split
      · exact streamedTo_setDet ..
      · exact (streamedTo_produceRecord ..).trans (streamedTo_setDet ..)

theorem streamedTo_evalAvg (s : State) (a : Avg) : streamedTo w (evalAvg s a) = streamedTo w s := by
  unfold evalAvg
  split
  · exact streamedTo_detAverage ..
  · rfl

theorem streamedTo_takeAvgs (l : List Avg) (s : State) : streamedTo w (takeAvgs l s) = streamedTo w s := by
  unfold takeAvgs
  generalize l.foldl (fun m a => insertAvg a m) s.zoom.avgs = avgs
  induction avgs generalizing s with
  | nil => rfl
  | cons a r ih =>
    unfold releaseAvgs
    split
    · rfl
    · exact (ih _).trans (streamedTo_evalAvg w s a)

end

/-! ### Completed zoom blocks (R210, R211) -/

/-- Where a window stands, with all that beams leave alone too. -/
def streamAside (w : Nat) (s : State) : (Nat × Nat) × MemS × PowerS × Sparse Nat × Nat :=
  (streamedTo w s, beamAside 0 s)

section
variable (w : Nat)

theorem streamAside_takeAvgs (l : List Avg) (s : State) : streamAside w (takeAvgs l s) = streamAside w s :=
  Prod.ext (streamedTo_takeAvgs w l s) (beamAside_takeAvgs 0 l s)

theorem streamAside_count {c : Ctr} (hc : .weirBlocks ≠ c) (k n : Nat) (s : State) :
    streamAside w (count c k n s) = streamAside w s :=
  Prod.ext rfl (beamAside_count 0 hc k n s)

theorem streamAside_setWin {k : Nat} {x : ZWin} {s : State} (h : (x.next, x.pos) = streamedTo k s) :
    streamAside w (setWin k x s) = streamAside w s :=
  Prod.ext (streamedTo_setWin w h) rfl

theorem streamAside_ledgerDue (d area epoch chan chunk : Nat) (s : State) :
    streamAside w (ledgerDue d area epoch chan chunk s) = streamAside w s := rfl

theorem streamAside_zoomComplete (p : Plan) (k chunk : Nat) (subs : Sparse (List Byte)) (s : State) :
    streamAside w (zoomComplete p k chunk subs s) = streamAside w s := by
  unfold zoomComplete
  extract_lets z zoom s1 x
  have h1 : streamAside w s1 = streamAside w s := rfl
  split
  · exact h1
  · split
    · refine (streamAside_ledgerDue ..).trans
        ((streamAside_count w (by decide) ..).trans ((streamAside_setWin w ?_).trans h1))
      rfl
    · refine (streamAside_setWin w ?_).trans h1
      rfl

theorem streamAside_zoomChunks (p : Plan) (k n : Nat) (s : State) :
    streamAside w (zoomChunks p k n s) = streamAside w s := by
  induction n generalizing s with
  | zero => rfl
  | succ n ih =>
    unfold zoomChunks
    extract_lets x subs s1
    have h1 : streamAside w s1 = streamAside w s := streamAside_setWin w rfl
    split
    · rfl
    · refine (ih _).trans ?_
      split
      · exact (streamAside_zoomComplete ..).trans h1
      · exact h1

theorem streamAside_dropSources (s : State) : streamAside w (dropSources s) = streamAside w s := rfl

end

end Sys2Proof.Machine
end

section
/-! ZOOM_SOURCE_PROCESS (R199 to R202): a window streams its next source block. -/

namespace Sys2Proof.Machine

/-! ### The windows of a channel (R199) -/

theorem beamAside_setWin (i k : Nat) (x : ZWin) (s : State) : beamAside i (setWin k x s) = beamAside i s := rfl

theorem beamAside_startWin (i : Nat) (p : Plan) (w at_ : Nat) (s : State) :
    beamAside i (startWin p w at_ s) = beamAside i s :=
  (beamAside_setWin ..).trans (beamAside_restartDets ..)

theorem beamAside_winPlan (i w : Nat) (s : State) : beamAside i (winPlan w s).2 = beamAside i s := by
  unfold winPlan
  extract_lets x cur later
  clear_value later cur
  split
  · rfl
  · split
    · exact (beamAside_setWin ..).trans (beamAside_restartDets ..)
    · split
      · split
        · rfl
        · exact beamAside_startWin ..
      · exact beamAside_startWin ..

/-- A source channel has windows of the 32 alone, and finding them keeps to what beams leave alone. -/
theorem sourceWins_keeps (i chan : Nat) (s : State) :
    (∀ v ∈ (sourceWins chan s).1, v.1 < 32) ∧ beamAside i (sourceWins chan s).2 = beamAside i s := by
  refine List.foldlRecOn (motive := fun acc : List (Nat × Plan) × State =>
    (∀ v ∈ acc.1, v.1 < 32) ∧ beamAside i acc.2 = beamAside i s)
    (List.range 32) _ ⟨fun v hv => (List.not_mem_nil hv).elim, rfl⟩ fun acc hacc w hw => ?_
  obtain ⟨hwins, haside⟩ := hacc
  have hplan := (beamAside_winPlan i w acc.2).trans haside
  simp only
  split
  · split
    · refine ⟨fun v hv => ?_, hplan⟩
      rcases List.mem_append.1 hv with hold | hnew
      · exact hwins v hold
      · rw [List.mem_singleton.1 hnew]
        exact List.mem_range.1 hw
    · exact ⟨hwins, hplan⟩
  · exact ⟨hwins, hplan⟩

/-! ### One window of its channel streams (R202) -/

theorem beamAside_streamWin (i : Nat) (p : Plan) (w lo hi : Nat) (sub : Nat → Option (List Byte)) (s : State) :
    beamAside i (streamWin p w lo hi sub s).1 = beamAside i s :=
  (beamAside_count i (by decide) ..).trans (beamAside_count i (by decide) ..)

/-- A window that has streamed a block whole stands at the next, else at the sub-block that it was to come to. -/
theorem streamedTo_streamWin {w : Nat} (hw : w < 32) (p : Plan) (lo hi : Nat) (sub : Nat → Option (List Byte))
    (s : State) : streamedTo w (streamWin p w lo hi sub s).1 =
      if p.s ≤ hi then ((win w s).next + 1, 0) else ((win w s).next, hi) := by
  unfold streamWin
  extract_lets x runs dets done x1 s1
  have hwin : win w s1 = x1 := win_setWin_same w x1 s hw
  rw [streamedTo, hwin]
  simp only [x1, done, decide_eq_true_eq]
  split <;> rfl

theorem streamAside_stageErrors (w : Nat) (z : ZSource) (keys : List Nat) (s : State) :
    streamAside w (stageErrors z keys s) = streamAside w s := streamAside_count w (by decide) ..

section
variable {chan hi : Nat} {bad : List Nat} {w : Nat} {p : Plan} {x s0 : State} {z0 : ZSource}
  (hwins : sourceWins chan x = ([(w, p)], s0)) (hsource : sourceBlock p chan (win w s0).next s0 = some z0)
  (hahead : (win w s0).pos < min hi p.s)
include hwins hsource hahead

/-- The channel's only window streams from where it stands; its averages reach their detectors and its zoom chunks
complete. -/
theorem zoomProcess_of_one_window : ∃ sub, zoomProcess chan hi bad x =
    let q := streamWin p w (win w s0).pos (min hi p.s) sub (stageErrors z0 bad s0)
    dropSources (zoomChunks p w 64 (takeAvgs q.2 q.1)) := by
  unfold zoomProcess
  rw [hwins]
  have hold : oldestWin [(w, p)] s0 = some (w, p) := rfl
  have hwin : win w (stageErrors z0 bad s0) = win w s0 := rfl
  simp only [hold, hsource, hwin, List.filter_cons, List.filter_nil, beq_self_eq_true, Bool.and_self, if_true,
    List.foldl_cons, List.foldl_nil, if_neg (Nat.not_le.2 hahead), List.nil_append]
  exact ⟨_, rfl⟩

/-- R202: where the window then stands, the rest of what streaming touches left as it was. -/
theorem streamAside_zoomProcess : streamAside w (zoomProcess chan hi bad x) =
    (if p.s ≤ hi then ((win w s0).next + 1, 0) else ((win w s0).next, hi), beamAside 0 x) := by
  obtain ⟨hlt, hfound⟩ := sourceWins_keeps 0 chan x
  rw [hwins] at hlt hfound
  have hw : w < 32 := hlt (w, p) List.mem_cons_self
  obtain ⟨sub, hproc⟩ := zoomProcess_of_one_window (bad := bad) hwins hsource hahead
  have hafter (l : List Avg) (y : State) :
      streamAside w (dropSources (zoomChunks p w 64 (takeAvgs l y))) = streamAside w y :=
    (streamAside_dropSources ..).trans ((streamAside_zoomChunks ..).trans (streamAside_takeAvgs w l y))
  have hread := congrArg Prod.snd (streamAside_stageErrors w z0 bad s0)
  have hwhole : p.s ≤ min hi p.s ↔ p.s ≤ hi := by omega
  refine ((congrArg (streamAside w) hproc).trans (hafter _ _)).trans (Prod.ext ?_ ?_)
  · refine (streamedTo_streamWin hw ..).trans ?_
    simp only [hwhole]
    split
    · rfl
    · next hpart => rw [Nat.min_eq_left (Nat.le_of_not_le hpart)]; rfl
  · exact (beamAside_streamWin ..).trans (hread.trans hfound)

end

theorem zoomSourceProcess_streams {t chan hi : Nat} {bad : List Nat} {s : State} {w : Nat} {p : Plan} {s0 : State}
    {z0 : ZSource} : let x := advance t s
    domain 32 x = .on → x.zoom.out = false → sourceWins chan x = ([(w, p)], s0) →
    sourceBlock p chan (win w s0).next s0 = some z0 → (win w s0).pos < min hi p.s →
    Leads (.zoomSourceProcess t chan hi bad) s fun z =>
      (p.s ≤ hi → (win w z).next = (win w s0).next + 1 ∧ (win w z).pos = 0) ∧
      (hi < p.s → (win w z).next = (win w s0).next ∧ (win w z).pos = hi) ∧
      z.mem = x.mem ∧ z.power = x.power ∧ z.force = x.force := by
  intro x hon hin hwins hsource hahead
  have hproc := streamAside_zoomProcess (bad := bad) hwins hsource hahead
  simp only [streamAside, beamAside, Prod.mk.injEq] at hproc
  obtain ⟨hstands, hmem, hpower, hforce, -⟩ := hproc
  refine leads_onlyIf (show _ = execZoomSourceProcess t chan hi bad s from rfl) (by rw [hon, hin]; rfl) ?_
  rw [win_settle, settle_mem, settle_power, settle_force]
  refine ⟨fun hwhole => ?_, fun hpart => ?_, hmem, hpower, hforce⟩
  · rw [streamedTo, if_pos hwhole] at hstands
    exact Prod.mk.inj hstands
  · rw [streamedTo, if_neg (Nat.not_le.2 hpart)] at hstands
    exact Prod.mk.inj hstands

theorem zoomSourceProcess_idles {t chan hi : Nat} {bad : List Nat} {s : State}
    (hoff : domain 32 (advance t s) ≠ .on ∨ (advance t s).zoom.out = true) :
    Does (.zoomSourceProcess t chan hi bad) s (advance t s) :=
  does_onlyIf_of_not (show _ = execZoomSourceProcess t chan hi bad s from rfl)
    (by simpa [Decidable.imp_iff_not_or] using hoff)

end Sys2Proof.Machine
end

section
/-! ZOOM_BLOCK_DELIVER (R74, R210), and GATE_ASSERT and GATE_DEASSERT (R223). -/

namespace Sys2Proof.Machine

/-! ### Zoom blocks on their way to a die (R210) -/

section
variable {w : Nat} {s : State}

theorem zoomDeliver_of_none (h : (win w s).waiting = none) : zoomDeliver w s = s := by
  simp only [zoomDeliver, h]

section
variable {b : ZBlock} (hb : (win w s).waiting = some b)
include hb

/-- What keeps a waiting block from its die. -/
theorem zoomDeliver_of_barred : let d := collectorFor (b.z % 4) s
    ((die d s).freeSlots = [] ∨ (die d s).stopped = true ∨ (∃ v ∈ (die d s).slots, v.state = .zoom) ∨
      firstForDie b.z d s = false) → zoomDeliver w s = s := by
  intro d hbar
  simp only [zoomDeliver, hb]
  split
  · rfl
  · next i l hfree =>
    have hnonempty : (die d s).freeSlots ≠ [] := hfree ▸ List.cons_ne_nil i l
    refine if_pos ?_
    simpa using hbar.resolve_left hnonempty

/-- With a FREE slot and nothing in the way, the block takes the lowest. -/
theorem zoomDeliver_of_free {i : Nat} {l : List Nat} : let d := collectorFor (b.z % 4) s
    (die d s).freeSlots = i :: l → (die d s).stopped = false → (∀ v ∈ (die d s).slots, v.state ≠ .zoom) →
    firstForDie b.z d s = true →
    zoomDeliver w s = count .zoomBlocks w 1 (setWin w { win w s with waiting := none }
      (setDie d ((die d s).setSlot i
        { state := .zoom, epoch := b.epoch, block := b.z, chan := b.win, chunk := b.chunk,
          openAt := s.time.now, closedAt := s.time.now, skip := false, subs := b.subs }) s)) := by
  intro d hfree hserves hnone hfirst
  simp only [zoomDeliver, hb]
  rw [show (die (collectorFor (b.z % 4) s) s).freeSlots = i :: l from hfree]
  have hclear : ¬ ((die d s).stopped = true ∨ ((die d s).slots.any fun v => v.state == .zoom) = true ∨
      (!firstForDie b.z d s) = true) := by
    simpa [hserves, hfirst] using hnone
  exact if_neg hclear

end

end

theorem zoomBlockDeliver_does {t : Nat} {w : Fin 32} {s y : State} (h : zoomDeliver w (advance t s) = y) :
    Does (.zoomBlockDeliver t w) s y :=
  does_act (show _ = execZoomBlockDeliver t w s from rfl) (h ▸ .rfl' _)

/-! ### Changes of a gate output, in the order of their times (R223) -/

/-- What keeps a change due at `e` from an output: it is no gate, `e` is still to come, or one of the changes of the
other kind comes before it. -/
theorem gateHeld_iff {o : Out} {tide e : Nat} {others : List Nat} (hmode : o.mode = .gate) :
    (o.mode ≠ .gate ∨ tide < e ∨ (others.any fun k => decide (k < e)) = true) ↔
      (tide < e ∨ ∃ k ∈ others, k < e) := by
  simp [hmode]

theorem not_gateHeld {o : Out} {tide e : Nat} {others : List Nat} (hmode : o.mode = .gate) (hdue : e ≤ tide)
    (hfirst : ∀ k ∈ others, e ≤ k) :
    ¬ (o.mode ≠ .gate ∨ tide < e ∨ (others.any fun k => decide (k < e)) = true) := by
  rw [gateHeld_iff hmode]
  rintro (hearly | ⟨k, hk, hlt⟩)
  · exact Nat.not_lt.2 hdue hearly
  · exact Nat.not_lt.2 (hfirst k hk) hlt

section
variable {t : Nat} {o : Fin 8} {s : State} {e : Nat}

section
variable (he : earliest (out o (advance t s)).gate.assertAt = some e) (hmode : (out o (advance t s)).mode = .gate)
include he hmode

theorem gateAssert_waits (h : (advance t s).time.tide < e ∨ ∃ k ∈ (out o (advance t s)).gate.deassertAt, k < e) :
    Does (.gateAssert t o) s (advance t s) := by
  refine does_act (show _ = execGateAssert t o s from rfl) ?_
  simp only [he]
  rw [if_pos ((gateHeld_iff hmode).2 h)]
  exact .rfl' _

theorem gateAssert_drives : let x := advance t s
    let y := out o x
    e ≤ x.time.tide → (∀ k ∈ y.gate.deassertAt, e ≤ k) →
    Does (.gateAssert t o) s (drive o (!y.lowPol) e (setOut o { y with gate := { y.gate with
      asserted := true, assertAt := y.gate.assertAt.erase e } } x)) := by
  intro x y hdue hfirst
  refine does_act (show _ = execGateAssert t o s from rfl) ?_
  simp only [he]
  rw [if_neg (not_gateHeld hmode hdue hfirst)]
  exact .rfl' _

end

section
variable (he : earliest (out o (advance t s)).gate.deassertAt = some e) (hmode : (out o (advance t s)).mode = .gate)
include he hmode

theorem gateDeassert_waits (h : (advance t s).time.tide < e ∨ ∃ k ∈ (out o (advance t s)).gate.assertAt, k < e) :
    Does (.gateDeassert t o) s (advance t s) := by
  refine does_act (show _ = execGateDeassert t o s from rfl) ?_
  simp only [he]
  rw [if_pos ((gateHeld_iff hmode).2 h)]
  exact .rfl' _

theorem gateDeassert_drives : let x := advance t s
    let y := out o x
    e ≤ x.time.tide → (∀ k ∈ y.gate.assertAt, e ≤ k) →
    Does (.gateDeassert t o) s (drive o y.lowPol e (setOut o { y with gate := { y.gate with
      asserted := false, deassertAt := y.gate.deassertAt.erase e } } x)) := by
  intro x y hdue hfirst
  refine does_act (show _ = execGateDeassert t o s from rfl) ?_
  simp only [he]
  rw [if_neg (not_gateHeld hmode hdue hfirst)]
  exact .rfl' _

end

end

/-- Settles O28: ZOOM_SOURCE_PROCESS without its engine and for a channel with one window, ZOOM_BLOCK_DELIVER by what
its die has for the block, and each gate's change by whether it is due and the next. -/
theorem zoomBlocksAndGates : Obligations.ZoomBlocksAndGates := by
  unfold Obligations.ZoomBlocksAndGates
  refine ⟨fun t chan hi bad s => ⟨zoomSourceProcess_idles, fun w p s0 z0 => zoomSourceProcess_streams⟩,
    fun t w s => ⟨?_, ?_, ?_⟩,
    fun t o s e he hmode => ⟨gateAssert_drives he hmode, gateAssert_waits he hmode⟩,
    fun t o s e he hmode => ⟨gateDeassert_drives he hmode, gateDeassert_waits he hmode⟩⟩
  · exact fun hnone => zoomBlockDeliver_does (zoomDeliver_of_none hnone)
  · exact fun b i l hb hfree hserves hnone hfirst =>
      zoomBlockDeliver_does (zoomDeliver_of_free hb hfree hserves hnone hfirst)
  · exact fun b hb hbar => zoomBlockDeliver_does (zoomDeliver_of_barred hb hbar)

end Sys2Proof.Machine
end

section
/-! What the units behind egress do when a packet or a unit leaves: the weir's engines and the drains go on, and
leave what egress has done as it is (R155, R191, R241). -/

namespace Sys2Proof.Machine

/-! ### Reports take nothing back that has left the module -/

theorem zcpSendOn_sent (k p : Nat) (b : List Byte) (s : State) : s.sent <:+ (zcpSendOn k p b s).sent := by
  unfold zcpSendOn
  split
  · exact List.suffix_rfl
  · split
    · exact List.suffix_cons ..
    · exact List.suffix_rfl

theorem zcpSend_sent (k : Nat) (b : List Byte) (s : State) : s.sent <:+ (zcpSend k b s).sent := by
  unfold zcpSend
  split
  · exact (zcpSendOn_sent ..).trans (zcpSendOn_sent ..)
  · exact zcpSendOn_sent ..
  · exact zcpSendOn_sent ..

theorem unsolicited_sent (k typ : Nat) (b : List Byte) (s : State) : s.sent <:+ (unsolicited k typ b s).sent := by
  unfold unsolicited
  extract_lets ss seq full s1 inWindow u s2
  have hqueued : s2.sent = s.sent := by
    unfold s2 s1
    rw [setSession_sent]
    split <;> rfl
  split
  · exact hqueued ▸ zcpSend_sent ..
  · exact hqueued ▸ List.suffix_rfl

theorem bbWrite_sent (kind cls code : Nat) (data : List Byte) (s : State) :
    (bbWrite kind cls code data s).sent = s.sent := by
  unfold bbWrite
  split <;> rfl

theorem unsolicited_foldl_sent (typ : Nat) (b : State → List Byte) (l : List Nat) (s : State) :
    s.sent <:+ (l.foldl (fun x k => unsolicited k typ (b x) x) s).sent := by
  induction l generalizing s with
  | nil => exact List.suffix_rfl
  | cons k r ih => exact (unsolicited_sent k typ (b s) s).trans (ih _)

theorem raiseIn_sent (dest : List Nat) (e : Ev) (b : List Byte) (s : State) :
    s.sent <:+ (raiseIn dest e b s).sent := by
  have hqueued := unsolicited_foldl_sent 0x0F01 (eventPayload e.code b) dest (noteEvent e s)
  unfold raiseIn
  extract_lets s2
  split
  · exact hqueued
  · rw [bbWrite_sent]
    exact hqueued

theorem raise_sent (e : Ev) (l : List Nat) (s : State) : s.sent <:+ (raise e l s).sent := raiseIn_sent ..

theorem fire_sent (f : Fs) (s : State) : s.sent <:+ (fire f s).sent := by
  unfold fire
  extract_lets was sticky s1 s2 e quiet s3
  have hrecorded : s2.sent = s.sent := by
    unfold s2
    split
    · rfl
    · exact bbWrite_sent ..
  rw [← hrecorded]
  split
  · have hopened : (bbWrite 2 f.cls f.num [] s3).sent = s2.sent := bbWrite_sent ..
    exact hopened ▸ raise_sent ..
  · exact List.suffix_rfl
  · exact List.suffix_rfl

theorem settle_sent (s : State) : s.sent <:+ (settle s).sent := by
  unfold settle
  generalize s.satDue.length + 16 = n
  induction n generalizing s with
  | zero => exact List.suffix_rfl
  | succ n ih =>
    unfold flushSat
    split
    · exact List.suffix_rfl
    · next c i r _ => exact (raise_sent .counterSat [c, i] { s with satDue := r }).trans (ih _)

/-! ### What egress has done -/

/-- The counters of packets that no port could send and of compressed units. -/
def egressCtrs : List Ctr := [.egressLinkDrop, .compUnits, .compBytesIn, .compBytesOut]

/-- What egress has counted stays, with power and the parameters. -/
structure KeepsCounts (x z : State) : Prop where
  power : z.power = x.power
  force : z.force = x.force
  ctr : ∀ c ∈ egressCtrs, ∀ i, ctrGet c i z = ctrGet c i x

namespace KeepsCounts

variable {x y z : State}

theorem trans (h : KeepsCounts x y) (h' : KeepsCounts y z) : KeepsCounts x z where
  power := h'.power.trans h.power
  force := h'.force.trans h.force
  ctr c hc i := (h'.ctr c hc i).trans (h.ctr c hc i)

theorem of_fields (hpower : z.power = x.power) (hforce : z.force = x.force) (hctr : z.ctr = x.ctr) :
    KeepsCounts x z :=
  ⟨hpower, hforce, fun c _ i => by rw [ctrGet, hctr, ctrGet]⟩

theorem count {c : Ctr} (h : KeepsCounts x y) (hc : c ∉ egressCtrs) (i n : Nat) :
    KeepsCounts x (count c i n y) where
  power := h.power
  force := h.force
  ctr d hd j := (ctrGet_count_of_ne (ne_of_mem_of_not_mem hd hc) ..).trans (h.ctr d hd j)

end KeepsCounts

/-- What has left the module and what stands in the compressors stay as well, and the DRAM. -/
structure KeepsEgress (x z : State) : Prop extends KeepsCounts x z where
  mem : z.mem = x.mem
  comps : z.egress.comps = x.egress.comps
  sent : x.sent <:+ z.sent

/-- The fields that `KeepsEgress` speaks of. -/
def egressAside (s : State) : MemS × PowerS × Sparse Nat × RegFile (Option CompJob) 16 × List Sent × Sparse Nat :=
  (s.mem, s.power, s.force, s.egress.comps, s.sent, s.ctr)

namespace KeepsEgress

variable {x y z : State}

theorem of_aside (h : egressAside z = egressAside x) : KeepsEgress x z := by
  simp only [egressAside, Prod.mk.injEq] at h
  obtain ⟨hmem, hpower, hforce, hcomps, hsent, hctr⟩ := h
  exact ⟨.of_fields hpower hforce hctr, hmem, hcomps, hsent ▸ List.suffix_rfl⟩

theorem refl (x : State) : KeepsEgress x x := of_aside rfl

theorem trans (h : KeepsEgress x y) (h' : KeepsEgress y z) : KeepsEgress x z where
  toKeepsCounts := h.toKeepsCounts.trans h'.toKeepsCounts
  mem := h'.mem.trans h.mem
  comps := h'.comps.trans h.comps
  sent := h.sent.trans h'.sent

/-- `trans` with the later step first, which names the state between. -/
theorem after (h' : KeepsEgress y z) (h : KeepsEgress x y) : KeepsEgress x z := h.trans h'

theorem foldl {α : Type} {f : State → α → State} (hf : ∀ s a, KeepsEgress s (f s a)) (l : List α) (s : State) :
    KeepsEgress s (l.foldl f s) :=
  l.foldlRecOn f (refl s) fun y h a _ => h.trans (hf y a)

theorem count {c : Ctr} (hc : c ∉ egressCtrs) (i n : Nat) (s : State) : KeepsEgress s (count c i n s) where
  toKeepsCounts := .count (.of_fields rfl rfl rfl) hc i n
  mem := rfl
  comps := rfl
  sent := List.suffix_rfl

theorem report (h : ReportEq z x) (hsent : x.sent <:+ z.sent) : KeepsEgress x z where
  mem := h.mem
  power := h.power
  force := h.force
  comps := congrArg EgressS.comps h.egress
  sent := hsent
  ctr c hc i := h.ctr c i ((by decide : ∀ c ∈ egressCtrs, c.reporting = false) c hc)

theorem raiseIn (dest : List Nat) (e : Ev) (b : List Byte) (s : State) : KeepsEgress s (raiseIn dest e b s) :=
  after (report (raiseIn_eq ..) (raiseIn_sent dest e b s)) (of_aside rfl)

theorem raise (e : Ev) (l : List Nat) (s : State) : KeepsEgress s (raise e l s) := raiseIn ..

theorem fire (f : Fs) (s : State) : KeepsEgress s (fire f s) := by
  have hfired : egressAside (fired f s) = egressAside s := by
    unfold fired
    extract_lets s1 e quiet st
    split <;> rfl
  have hsent : (fired f s).sent = s.sent := congrArg (·.2.2.2.2.1) hfired
  exact (of_aside hfired).trans (report (fire_eq f s) (hsent ▸ fire_sent f s))

theorem settle (s : State) : KeepsEgress s (settle s) := report (settle_eq s) (settle_sent s)

end KeepsEgress

/-! ### Gates of pulse outputs (R223, R389) -/

theorem drive_keepsEgress (n : Nat) (level : Bool) (at_ : Nat) (s : State) : KeepsEgress s (drive n level at_ s) := by
  unfold drive
  extract_lets o
  split
  · exact .refl s
  · exact ⟨.of_fields rfl rfl rfl, rfl, rfl, List.suffix_cons ..⟩

theorem gateAssert_keepsEgress (o due : Nat) (s : State) : KeepsEgress s (gateAssert o due s) := by
  unfold gateAssert
  extract_lets x keep s1
  split
  · have h1 : KeepsEgress s s1 := by
      unfold s1
      split
      · exact .refl s
      · exact .count (by decide) ..
    exact .after (drive_keepsEgress ..) (h1.trans (.of_aside rfl))
  · exact .of_aside rfl

theorem gateDeassert_keepsEgress (o due : Nat) (s : State) : KeepsEgress s (gateDeassert o due s) := by
  unfold gateDeassert
  extract_lets x s1
  split
  · have h1 : KeepsEgress s s1 := by
      unfold s1
      split
      · exact .count (by decide) ..
      · exact .refl s
    exact .after (drive_keepsEgress ..) (h1.trans (.of_aside rfl))
  · exact .of_aside rfl

theorem gateLeave_keepsEgress (tide : Nat) (s : State) (o : Nat) : KeepsEgress s (gateLeave tide s o) := by
  unfold gateLeave
  simp only
  split
  · exact .refl s
  · split
    · exact .after (gateDeassert_keepsEgress ..) (.of_aside rfl)
    · exact .of_aside rfl

theorem gateRecord_keepsEgress (w was new tide : Nat) (s : State) (o : Nat) :
    KeepsEgress s (gateRecord w was new tide s o) := by
  unfold gateRecord
  simp only
  split
  · exact .refl s
  · split
    · exact .refl s
    · split
      · exact .after (gateAssert_keepsEgress ..) (.of_aside rfl)
      · exact gateLeave_keepsEgress ..

/-! ### Units on their way to the packetiser (R235, R247, R249) -/

theorem formPieces_keepsEgress (u : EUnit) (l : List Piece) (s : State) : KeepsEgress s (formPieces u l s) := by
  induction l generalizing s with
  | nil => exact .refl s
  | cons x r ih =>
    cases r with
    | nil => exact .of_aside rfl
    | cons y r => exact .after (ih _) (.of_aside rfl)

theorem unitReady_keepsEgress (u : EUnit) (s : State) : KeepsEgress s (unitReady u s) := by
  unfold unitReady
  split
  · exact .refl s
  · split
    · exact .of_aside rfl
    · exact formPieces_keepsEgress ..

theorem packetiseBlock_keepsEgress (s : State) (k : BeamBlock) : KeepsEgress s (packetiseBlock s k) := by
  unfold packetiseBlock
  split
  · exact .refl s
  · split
    · exact .refl s
    · exact .after (.foldl (fun y u => unitReady_keepsEgress u y) ..) (.of_aside rfl)

theorem formEvents_keepsEgress (s : State) : KeepsEgress s (formEvents s) := by
  unfold formEvents
  extract_lets l end_ flags
  split
  · exact .refl s
  · exact .of_aside rfl

/-! ### Averages and detectors (R217 to R220) -/

theorem produceRecord_keepsEgress (w kind index was new : Nat) (skipped : Bool) (end_ value : Nat) (s : State) :
    KeepsEgress s (produceRecord w kind index was new skipped end_ value s) := by
  unfold produceRecord
  extract_lets x tide r s1 z x1 s2
  have h1 : KeepsEgress s s1 := .after (.count (by decide) ..) (.of_aside rfl)
  have h2 : KeepsEgress s1 s2 := by
    have hraise : KeepsEgress s1 x1 := .after (.raiseIn ..) (.of_aside rfl)
    unfold s2
    split
    · exact .after (.count (by decide) ..) (.of_aside rfl)
    · split
      · exact hraise.trans (formEvents_keepsEgress x1)
      · exact hraise
  exact .after (.foldl (gateRecord_keepsEgress w was new tide) ..) (h1.trans h2)

theorem detAverage_keepsEgress (p : Plan) (w kind index : Nat) (skip : Bool) (value end_ : Nat) (s : State) :
    KeepsEgress s (detAverage p w kind index skip value end_ s) := by
  unfold detAverage
  simp only
  split
  · exact .after (.count (by decide) ..) (.of_aside rfl)
  · split
    · exact .of_aside rfl
    · split
      · exact .of_aside rfl
      · exact .after (produceRecord_keepsEgress ..) (.of_aside rfl)

theorem evalAvg_keepsEgress (s : State) (a : Avg) : KeepsEgress s (evalAvg s a) := by
  unfold evalAvg
  split
  · exact detAverage_keepsEgress ..
  · exact .refl s

theorem releaseAvgs_keepsEgress (l : List Avg) (s : State) : KeepsEgress s (releaseAvgs l s) := by
  induction l generalizing s with
  | nil => exact .of_aside rfl
  | cons a r ih =>
    unfold releaseAvgs
    split
    · exact .of_aside rfl
    · exact .after (ih _) (evalAvg_keepsEgress s a)

theorem concludeBeams_keepsEgress (p : Plan) (s : State) (w : Nat) : KeepsEgress s (concludeBeams p s w) := by
  refine .foldl (fun x b => ?_) (List.range 128) s
  simp only
  split
  · exact .refl x
  · exact .after (releaseAvgs_keepsEgress ..) (.of_aside rfl)

theorem flushAvgs_keepsEgress (w : Nat) (s : State) : KeepsEgress s (flushAvgs w s) :=
  .after (.foldl evalAvg_keepsEgress ..) (.of_aside rfl)

theorem restartDets_keepsEgress (w at_ : Nat) (keep : Nat → Bool) (s : State) :
    KeepsEgress s (restartDets w at_ keep s) :=
  (flushAvgs_keepsEgress w s).trans (.after (.foldl (gateLeave_keepsEgress _) ..) (.of_aside rfl))

theorem restartBeamDets_keepsEgress (p : Plan) (s : State) (w : Nat) : KeepsEgress s (restartBeamDets p s w) := by
  unfold restartBeamDets
  simp only
  split
  · exact .refl s
  · exact .after (restartDets_keepsEgress ..) (.of_aside rfl)

theorem feedBeam_keepsEgress (p : Plan) (s : State) (x : BeamFeed) : KeepsEgress s (feedBeam p s x) := .of_aside rfl

/-! ### The weir's engines (R164, R179, R191) -/

theorem endHold_keepsEgress (e : Nat) (s : State) : KeepsEgress s (endHold e s) := by
  unfold endHold
  simp only
  split
  · exact .refl s
  · exact .after (.count (by decide) ..) (.of_aside rfl)

theorem epochInForce_keepsEgress (p : Plan) (r : Running) (s : State) : KeepsEgress s (epochInForce p r s) := by
  have hbanks (l : RegFile Bank 2) : KeepsEgress s (setBanksOf p l s) := by
    unfold setBanksOf
    split
    · exact .of_aside rfl
    · exact .of_aside rfl
  unfold epochInForce
  simp only
  split
  · exact .refl s
  · exact .after (.raise ..) (.after (.count (by decide) ..) (hbanks _))

theorem culvertErrors_keepsEgress (d slot : Nat) (keys : List Nat) (corrected : Nat) (s : State) :
    KeepsEgress s (culvertErrors d slot keys corrected s) := by
  refine .after (.foldl (fun x key => ?_) keys _) (.count (by decide) ..)
  simp only
  split
  · exact .refl x
  · exact .after (.fire ..) (.after (.count (by decide) ..) (.of_aside rfl))

theorem countBeam_keepsEgress (p : Plan) (chunk : Nat) (s : State) (m : BeamMade) :
    KeepsEgress s (countBeam p chunk s m) := by
  unfold countBeam
  extract_lets b s1
  have h1 : KeepsEgress s s1 :=
    .after (.count (by decide) ..) (.after (.count (by decide) ..) (.count (by decide) ..))
  split
  · exact h1
  · exact h1.trans (.of_aside rfl)

theorem engineBegin_keepsEgress (d e : Nat) (r : Running) (p : Plan) (s : State) :
    KeepsEgress s (engineBegin d e r p s) := by
  unfold engineBegin
  extract_lets _ s1 found s2 v made s3 s4 blk outs rest _ s5 wins s6
  have h1 : KeepsEgress s s1 := .after (endHold_keepsEgress ..) (.of_aside rfl)
  have h2 : KeepsEgress s1 s2 := .after (epochInForce_keepsEgress ..) (culvertErrors_keepsEgress ..)
  have h3 : KeepsEgress s2 s3 := .foldl (countBeam_keepsEgress p r.chunk) ..
  have h5 : KeepsEgress s s5 := (h1.trans (h2.trans h3)).trans (.of_aside rfl)
  split
  · exact h5
  · exact .after (.foldl (concludeBeams_keepsEgress p) ..)
      (.after (.foldl (feedBeam_keepsEgress p) ..) (.after (.foldl (restartBeamDets_keepsEgress p) ..) h5))

theorem engineTry_keepsEgress (d e : Nat) (s : State) : KeepsEgress s (engineTry d e s) := by
  unfold engineTry
  simp only
  split
  · exact .refl s
  · split
    · exact .refl s
    · split
      · exact .refl s
      · split
        · exact engineBegin_keepsEgress ..
        · exact .of_aside rfl

/-- R191: the engines that go on leave what egress has done. -/
theorem weirPump_keepsEgress (s : State) : KeepsEgress s (weirPump s) :=
  .after (.foldl (fun y _ => engineTry_keepsEgress _ _ y) ..) (.foldl packetiseBlock_keepsEgress ..)

/-! ### What a packet's leaving frees (R155, R157, R191, R222, R241, R270) -/

theorem freeOwner_keepsEgress (o : Owner) (s : State) : KeepsEgress s (freeOwner o s) := by
  cases o <;> exact .of_aside rfl

theorem drainFinished_keepsEgress (dr : Drain) (s : State) : KeepsEgress s (drainFinished dr s) := by
  unfold drainFinished
  extract_lets s1
  split
  · have h1 : KeepsEgress s s1 := .raise ..
    split
    · exact h1.trans (.of_aside rfl)
    · exact h1
  · exact .refl s

theorem drainSent_keepsEgress (pk : Packet) (s : State) : KeepsEgress s (drainSent pk s) := by
  unfold drainSent
  split
  · exact .refl s
  · split
    · exact .refl s
    · split
      · exact .refl s
      · extract_lets flight x1 dr1 s1 late
        split
        · exact .of_aside rfl
        · exact .after (drainFinished_keepsEgress ..) (.after (.count (by decide) ..) (.of_aside rfl))

end Sys2Proof.Machine
end

section
/-! PACKET_SEND and EVENTS_PACKET_TIMEOUT (R228 to R237, R241, R249, R252, R591). -/

namespace Sys2Proof.Machine

/-! ### Packets are formed (R235) -/

/-- A packet that is formed takes its stream's SEQUENCE and joins the queue. -/
theorem formPacket_joins (h : Head) (p : Piece) (flags : Nat) (owner : Owner) (eoi chainEnd : Option Nat) (s : State) :
    let q := nextSeq h.stream s
    let z := formPacket h p flags owner eoi chainEnd s
    nextSeq h.stream z = (q + 1) % 2 ^ 64 ∧ (∀ k, k ≠ h.stream → nextSeq k z = nextSeq k s) ∧
    ∃ pk : Packet, z.egress.queue = s.egress.queue ++ [pk] ∧ pk.stream = h.stream ∧ pk.seq = q ∧
      pk.bytes = productHeader h p q (h.flags ||| p.flags ||| flags) s ++ p.bytes :=
  ⟨sGet_sPut_same .., fun _ hk => sGet_sPut_of_ne _ _ _ hk, _, rfl, rfl, rfl, rfl⟩

/-! ### One copy of a packet (R236, R237, R241, R591) -/

/-- The frame that carries a packet on a port. -/
def productCopy (pk : Packet) (port : Nat) (s : State) : Sent :=
  let v6 := streamPar .egressIpVersion pk.stream port s
  let src := Config.hostAddr port v6
  let ip := par .egressDestIp (streamInst pk.stream) port s
  let udp := par .egressDestPort (streamInst pk.stream) port s
  .product port (par .egressDestMac (streamInst pk.stream) port s) v6 ip udp
    (par .egressDscp (streamInst pk.stream) port s) (streamPar .egressVlan pk.stream port s) src productPort
    (udpSum (v6 == 1) src ip productPort udp pk.bytes) pk.bytes

/-- A port cannot send: its link is down, or PD39 is off. -/
def PortSilent (port : Nat) (s : State) : Prop := hostUp port s = false ∨ egressOn s = false

/-- A port sends the packets of a stream: its link is up, PD39 is on and the destination is set. -/
structure PortSends (sid port : Nat) (s : State) : Prop where
  up : hostUp port s = true
  on : egressOn s = true
  ip : par .egressDestIp (streamInst sid) port s ≠ 0
  mac : par .egressDestMac (streamInst sid) port s ≠ 0

section
variable (pk : Packet) (port : Nat) (s : State)

theorem sendCopy_of_silent (h : PortSilent port s) :
    sendCopy pk port s = count .egressLinkDrop (128 + port) 1 s := if_pos (by simpa [PortSilent] using h)

theorem productCopy_mem_sendCopy (h : PortSends pk.stream port s) :
    productCopy pk port s ∈ (sendCopy pk port s).sent := by
  unfold sendCopy
  rw [if_neg (by simp [h.up, h.on]), if_neg (by simp [h.ip, h.mac])]
  exact List.mem_cons_self

/-- A copy changes what has left the module and counters, and drops are counted on its own port. -/
theorem sendCopy_reports : ∃ sent ctr due,
    sendCopy pk port s = { s with sent := sent, ctr := ctr, satDue := due } ∧ s.sent <:+ sent ∧
    ∀ k, k % 4096 ≠ (128 + port) % 4096 →
      ctrGet .egressLinkDrop k (sendCopy pk port s) = ctrGet .egressLinkDrop k s := by
  unfold sendCopy
  split
  · refine ⟨_, _, _, rfl, List.suffix_rfl, fun k hk => ?_⟩
    rw [ctrGet_count, if_neg fun hkey => hk (ctrKey_inj hkey).2]
  · split
    · refine ⟨_, _, _, rfl, List.suffix_rfl, fun k _ => ctrGet_count_of_ne ?_ ..⟩
      split <;> decide
    · refine ⟨_, _, _, rfl, List.suffix_cons .., fun k _ =>
        (ctrGet_count_of_ne ?_ ..).trans ((ctrGet_count_of_ne ?_ ..).trans rfl)⟩
      · split <;> decide
      · split <;> decide

end

/-! ### The copies of a packet on the ports of its stream (R236) -/

theorem streamPorts_mem (sid : Nat) (s : State) : streamPorts sid s ∈ [[0, 1], [0], [1]] := by
  unfold streamPorts
  extract_lets r
  split
  · exact List.mem_cons_self
  · split
    · exact List.mem_cons_of_mem _ List.mem_cons_self
    · exact List.mem_cons_of_mem _ (List.mem_cons_of_mem _ List.mem_cons_self)

theorem streamPorts_nodup (sid : Nat) (s : State) : (streamPorts sid s).Nodup :=
  (by decide : ∀ l ∈ [[0, 1], [0], [1]], l.Nodup) _ (streamPorts_mem sid s)

theorem streamPorts_lt (sid : Nat) (s : State) : ∀ port ∈ streamPorts sid s, port < 2 :=
  (by decide : ∀ l ∈ [[0, 1], [0], [1]], ∀ port ∈ l, port < 2) _ (streamPorts_mem sid s)

/-- A packet goes out on each of a list of ports. -/
def sendCopies (pk : Packet) (l : List Nat) (s : State) : State := l.foldl (fun x port => sendCopy pk port x) s

section
variable (pk : Packet) {l : List Nat} {port : Nat} {s : State}

/-- All else stays as it was while the copies leave. -/
theorem sendCopies_reports (l : List Nat) (s : State) : ∃ sent ctr due,
    sendCopies pk l s = { s with sent := sent, ctr := ctr, satDue := due } ∧ s.sent <:+ sent := by
  induction l generalizing s with
  | nil => exact ⟨_, _, _, rfl, List.suffix_rfl⟩
  | cons p r ih =>
    obtain ⟨sent, ctr, due, hcopy, hsent, -⟩ := sendCopy_reports pk p s
    obtain ⟨sent', ctr', due', hrest, hsent'⟩ := ih (sendCopy pk p s)
    rw [hcopy] at hsent'
    exact ⟨sent', ctr', due', hrest.trans (by rw [hcopy]), hsent.trans hsent'⟩

theorem productCopy_mem_sendCopies (hport : port ∈ l) (h : PortSends pk.stream port s) :
    productCopy pk port s ∈ (sendCopies pk l s).sent := by
  induction l generalizing s with
  | nil => cases hport
  | cons p r ih =>
    rcases List.mem_cons.1 hport with rfl | hr
    · obtain ⟨sent, ctr, due, hrest, hsent⟩ := sendCopies_reports pk r (sendCopy pk port s)
      have hlater : sendCopies pk (port :: r) s = _ := hrest
      rw [hlater]
      exact hsent.mem (productCopy_mem_sendCopy pk port s h)
    · obtain ⟨sent, ctr, due, hcopy, -⟩ := sendCopy_reports pk p s
      have hnext : PortSends pk.stream port (sendCopy pk p s) := hcopy ▸ ⟨h.up, h.on, h.ip, h.mac⟩
      have hsame : productCopy pk port (sendCopy pk p s) = productCopy pk port s := by
        rw [hcopy]
        rfl
      exact hsame ▸ ih hr hnext

/-- A port that no copy goes out on counts no drop. -/
theorem linkDrop_sendCopies_of_notMem (hl : ∀ p ∈ l, p < 2) (hport : port ∉ l) (hlt : port < 2) :
    ctrGet .egressLinkDrop (128 + port) (sendCopies pk l s) = ctrGet .egressLinkDrop (128 + port) s := by
  induction l generalizing s with
  | nil => rfl
  | cons p r ih =>
    obtain ⟨hp, hr⟩ := List.forall_mem_cons.1 hl
    obtain ⟨hne, hport⟩ := List.ne_and_not_mem_of_not_mem_cons hport
    obtain ⟨-, -, -, -, -, hdrop⟩ := sendCopy_reports pk p s
    exact (ih hr hport).trans (hdrop _ (by omega))

/-- A port that cannot send counts the copy that goes out on it. -/
theorem linkDrop_sendCopies_of_silent (hl : ∀ p ∈ l, p < 2) (hnodup : l.Nodup) (hport : port ∈ l)
    (h : PortSilent port s) : ctrGet .egressLinkDrop (128 + port) (sendCopies pk l s) =
      min ctrMax (ctrGet .egressLinkDrop (128 + port) s + 1) := by
  induction l generalizing s with
  | nil => cases hport
  | cons p r ih =>
    have hlt := hl port hport
    obtain ⟨hp, hr⟩ := List.forall_mem_cons.1 hl
    obtain ⟨hnot, hnodup⟩ := List.nodup_cons.1 hnodup
    rcases List.mem_cons.1 hport with rfl | hin
    · refine (linkDrop_sendCopies_of_notMem pk hr hnot hlt).trans ?_
      exact (congrArg _ (sendCopy_of_silent pk port s h)).trans (ctrGet_count_same ..)
    · obtain ⟨sent, ctr, due, hcopy, -, hdrop⟩ := sendCopy_reports pk p s
      have hne : port ≠ p := ne_of_mem_of_not_mem hin hnot
      have hnext : PortSilent port (sendCopy pk p s) := hcopy ▸ h
      exact (ih hr hnodup hin hnext).trans (by rw [hdrop _ (by omega)])

end

/-! ### PACKET_SEND -/

/-- The state without a stream's oldest packet. -/
def popped (sid : Nat) (s : State) : State :=
  { s with egress := { s.egress with queue := popPacket sid s.egress.queue } }

/-- What a packet's leaving frees keeps its copies and what they counted. -/
theorem sendPacket_keepsEgress (pk : Packet) (s : State) :
    KeepsEgress (sendCopies pk (streamPorts pk.stream s) (popped pk.stream s)) (sendPacket pk s) := by
  unfold sendPacket
  extract_lets _ s1 s2 s3 s4
  have h3 : KeepsEgress s2 s3 := freeOwner_keepsEgress ..
  have h4 : KeepsEgress s3 s4 := by
    unfold s4
    split
    · exact .of_aside rfl
    · exact .refl s3
  exact .after (weirPump_keepsEgress _) (.after (drainSent_keepsEgress ..) (h3.trans h4))

theorem stream_of_waitingPacket {sid : Nat} {pk : Packet} {s : State} (h : waitingPacket sid s = some pk) :
    pk.stream = sid := beq_iff_eq.1 (List.find?_some (p := fun k : Packet => k.stream == sid) h)

section
variable {t sid : Nat} {s : State}

theorem packetSend_idles (h : waitingPacket sid (advance t s) = none) :
    Does (.packetSend t sid) s (advance t s) := by
  refine does_act (show _ = execPacketSend t sid s from rfl) ?_
  simp only [h]
  exact .rfl' _

theorem exec_packetSend {pk : Packet} (h : waitingPacket sid (advance t s) = some pk) :
    exec (.packetSend t sid) s = .next (settle (sendPacket pk (advance t s))) := by
  refine (show _ = execPacketSend t sid s from rfl).trans ?_
  simp only [execPacketSend, act, h]

/-- What PACKET_SEND leaves: a copy on each port that sends, a count on each that cannot, all else that it could touch
as it was. -/
theorem packetSend_leads {pk : Packet} : let x := advance t s
    waitingPacket sid x = some pk →
    Leads (.packetSend t sid) s fun z =>
      (∀ port ∈ streamPorts sid x, PortSends sid port x → productCopy pk port x ∈ z.sent) ∧
      (∀ port ∈ streamPorts sid x, PortSilent port x →
        ctrGet .egressLinkDrop (128 + port) z = min ctrMax (ctrGet .egressLinkDrop (128 + port) x + 1)) ∧
      z.mem = x.mem ∧ z.force = x.force ∧ z.power = x.power := by
  intro x hwait
  obtain rfl := stream_of_waitingPacket hwait
  have hkeep := (sendPacket_keepsEgress pk x).trans (.settle _)
  obtain ⟨sent, ctr, due, hcopies, -⟩ := sendCopies_reports pk (streamPorts pk.stream x) (popped pk.stream x)
  refine ⟨_, exec_packetSend hwait, fun port hport h => hkeep.sent.mem ?_, fun port hport h => ?_,
    hkeep.mem.trans (by rw [hcopies]; rfl), hkeep.force.trans (by rw [hcopies]; rfl),
    hkeep.power.trans (by rw [hcopies]; rfl)⟩
  · have hpopped : PortSends pk.stream port (popped pk.stream x) := ⟨h.up, h.on, h.ip, h.mac⟩
    exact productCopy_mem_sendCopies pk hport hpopped
  · rw [hkeep.ctr _ (by decide)]
    exact linkDrop_sendCopies_of_silent pk (streamPorts_lt _ x) (streamPorts_nodup ..) hport h

end

/-! ### EVENTS_PACKET_TIMEOUT (R249) -/

theorem nextSeq_settle (sid : Nat) (s : State) : nextSeq sid (settle s) = nextSeq sid s := by
  rw [nextSeq, settle_egress, nextSeq]

theorem formEvents_of_off {s : State} (h : egressOn s = false) : formEvents s = s := if_pos (by simp [h])

/-- The packet of the oldest records, with the records taken from those that wait. -/
theorem formEvents_of_on {s : State} (hrec : s.zoom.records ≠ []) (hon : egressOn s = true) :
    ∃ (h : Head) (p : Piece) (owner : Owner), h.stream = 0x7000 ∧
      formEvents s = formPacket h p 0 owner none none { s with zoom := { s.zoom with
        records := s.zoom.records.drop 256
        inPackets := s.zoom.inPackets + min 256 s.zoom.records.length } } := by
  have htaken : ((s.zoom.records.take 256).map (·.2)).length = min 256 s.zoom.records.length := by
    rw [List.length_map, List.length_take]
  unfold formEvents
  extract_lets l end_ flags
  rw [if_neg (by simp [l, hrec, hon]), ← htaken]
  exact ⟨_, _, _, rfl, rfl⟩

section
variable {t : Nat} {s : State}

theorem eventsPacketTimeout_of_none (h : (advance t s).zoom.records = []) :
    Does (.eventsPacketTimeout t) s (advance t s) := by
  refine does_act (show _ = execEventsPacketTimeout t s from rfl) ?_
  simp only [h]
  exact .rfl' _

section
variable {r : Nat × List Byte} {l : List (Nat × List Byte)} (hrec : (advance t s).zoom.records = r :: l)
include hrec

theorem eventsPacketTimeout_waits (h : (advance t s).time.now < r.1 + msT 1) :
    Does (.eventsPacketTimeout t) s (advance t s) := by
  refine does_act (show _ = execEventsPacketTimeout t s from rfl) ?_
  simp only [hrec, if_neg (Nat.not_le.2 h)]
  exact .rfl' _

theorem eventsPacketTimeout_of_off (h : egressOn (advance t s) = false) :
    Does (.eventsPacketTimeout t) s (advance t s) := by
  refine does_act (show _ = execEventsPacketTimeout t s from rfl) ?_
  simp only [hrec, formEvents_of_off h, ite_self]
  exact .rfl' _

theorem eventsPacketTimeout_forms (hdue : r.1 + msT 1 ≤ (advance t s).time.now)
    (hon : egressOn (advance t s) = true) :
    let x := advance t s
    Leads (.eventsPacketTimeout t) s fun z =>
      z.zoom.records = x.zoom.records.drop 256 ∧ nextSeq 0x7000 z = (nextSeq 0x7000 x + 1) % 2 ^ 64 ∧
      z.zoom.inPackets = x.zoom.inPackets + min 256 x.zoom.records.length ∧
      (∃ pk, z.egress.queue = x.egress.queue ++ [pk] ∧ pk.stream = 0x7000) ∧
      z.mem = x.mem ∧ z.force = x.force := by
  intro x
  obtain ⟨h, p, owner, hstream, hform⟩ := formEvents_of_on (s := x) (hrec ▸ List.cons_ne_nil r l) hon
  obtain ⟨hseq, -, pk, hqueue, hpk, -⟩ := formPacket_joins h p 0 owner none none { x with zoom := { x.zoom with
    records := x.zoom.records.drop 256
    inPackets := x.zoom.inPackets + min 256 x.zoom.records.length } }
  rw [hstream] at hseq hpk
  refine leads_act (show _ = execEventsPacketTimeout t s from rfl) ?_
  simp only [hrec, if_pos hdue]
  rw [show formEvents (advance t s) = _ from hform, settle_zoom, settle_mem, settle_force, nextSeq_settle,
    settle_egress]
  exact ⟨rfl, hseq, rfl, ⟨pk, hqueue, hpk⟩, rfl, rfl⟩

end

end

end Sys2Proof.Machine
end

section
/-! HOST_LINK_CHANGE, HOST_LINK_TIMEOUT and HOST_FLOWCTL_FRAME (R230, R256). -/

namespace Sys2Proof.Machine

/-! ### Replies that wait for a unit -/

theorem complete_of_none {why : Why} {unit code : Nat} {body : List Byte} {s : State}
    (h : ∀ w ∈ s.zcp.waiting, w.why = why.code → w.unit ≠ unit) : complete why unit code body s = s := by
  have hnone : s.zcp.waiting.filter (fun w => w.why == why.code && w.unit == unit) = [] :=
    List.filter_eq_nil_iff.2 fun w hw => by simpa using h w hw
  have hall : s.zcp.waiting.filter (not ∘ fun w => w.why == why.code && w.unit == unit) = s.zcp.waiting :=
    List.filter_eq_self.2 fun w hw => by simpa [Decidable.imp_iff_not_or] using h w hw
  unfold complete
  simp only [List.partition_eq_filter_filter, hnone, hall, List.foldl_nil]

/-- Replies touch sessions, waiting commands and reports. -/
theorem complete_keeps (why : Why) (unit code : Nat) (body : List Byte) (s : State) :
    let z := complete why unit code body s
    (∀ port, hostLink port z = hostLink port s) ∧ z.mem = s.mem ∧ z.force = s.force ∧ z.egress = s.egress := by
  intro z
  have hrest : restZ z = restZ { s with zcp := { s.zcp with
      waiting := (s.zcp.waiting.partition fun w => w.why == why.code && w.unit == unit).2 } } := by
    refine foldl_keeps (π := restZ) (fun x w => ?_) _ _
    split
    · exact restZ_sendReply ..
    · rfl
  exact ⟨fun port => (congrArg (hostLink port) hrest :), congrArg (·.mem) hrest, congrArg (·.force) hrest,
    congrArg (·.egress) hrest⟩

/-! ### HOST_LINK_CHANGE (R256) -/

/-- A host link after its change at an instant. -/
def LinkS.changed (up : Bool) (now : Nat) (l : LinkS) : LinkS :=
  if up then { l with up := true, beenUp := true, reported := false }
  else { l with up := false, downSince := now, reported := false }

/-- The state with a host link changed, and the reference that the link recovers known to be there, its report
apart. -/
def linkChanged (port : Nat) (up : Bool) (s : State) : State :=
  { (if up then setRef (4 + port) { ref (4 + port) s with linkOk := true } s else s) with
    hostLinks := s.hostLinks.set port ((hostLink port s).changed up s.time.now) }

section
variable {port : Nat} {up : Bool} {s : State}

theorem setHostLink_of_same (h : (hostLink port s).up = up) : setHostLink port up s = s := if_pos h

theorem setHostLink_of_change (h : (hostLink port s).up ≠ up) :
    ∃ fields, setHostLink port up s = raise .egressLink fields (linkChanged port up s) := by
  unfold setHostLink
  simp only [if_neg h]
  cases up <;> exact ⟨_, rfl⟩

theorem linkChanged_keeps : let z := linkChanged port up s
    z.mem = s.mem ∧ z.force = s.force ∧ z.egress = s.egress ∧ z.zcp = s.zcp := by
  cases up <;> exact ⟨rfl, rfl, rfl, rfl⟩

/-- The link stands as it was told to; the memories, the parameters, egress and what waits stand as they did. -/
theorem setHostLink_keeps (hport : port < 2) : let z := setHostLink port up s
    (hostLink port z).up = up ∧ z.mem = s.mem ∧ z.force = s.force ∧ z.egress = s.egress ∧
      z.zcp.waiting = s.zcp.waiting := by
  intro z
  by_cases h : (hostLink port s).up = up
  · have hz : z = s := setHostLink_of_same h
    rw [hz]
    exact ⟨h, rfl, rfl, rfl, rfl⟩
  · obtain ⟨fields, hz⟩ : ∃ fields, z = _ := setHostLink_of_change h
    obtain ⟨hmem, hforce, hegress, hzcp⟩ := linkChanged_keeps (port := port) (up := up) (s := s)
    rw [hz, hostLink, raise_hostLinks, raise_mem, raise_force, raise_egress, raise_zcp_waiting, hzcp]
    refine ⟨?_, hmem, hforce, hegress, rfl⟩
    refine (congrArg LinkS.up (RegFile.getD_set_same _ _ _ _ hport)).trans ?_
    cases up <;> rfl

end

section
variable {t : Nat} {port : Fin 2} {up : Bool} {s : State}

theorem hostLink_settle (port : Nat) (s : State) : hostLink port (settle s) = hostLink port s := by
  rw [hostLink, settle_hostLinks, hostLink]

theorem hostLinkChange_of_off (h : domain 38 (advance t s) ≠ .on) :
    Does (.hostLinkChange t port up) s (advance t s) :=
  does_onlyIf_of_not (show _ = execHostLinkChange t port up s from rfl) (by simpa using h)

section
variable (hon : domain 38 (advance t s) = .on)
include hon

/-- While PD38 is on and no reply waits for it, the change of the link is all. -/
theorem hostLinkChange_does {y : State} (h : ReportEq (setHostLink port up (advance t s)) y)
    (hwait : up = false ∨ ∀ w ∈ (advance t s).zcp.waiting, w.why = 7 → w.unit ≠ 38) :
    Does (.hostLinkChange t port up) s y := by
  refine does_onlyIf (show _ = execHostLinkChange t port up s from rfl) (by simpa using hon) ?_
  rcases hwait with rfl | hwait
  · exact h
  · obtain ⟨-, -, -, -, hwaiting⟩ := setHostLink_keeps (up := up) (s := advance t s) port.isLt
    have hnone : complete .other 38 rOk [] (setHostLink port up (advance t s)) =
        setHostLink port up (advance t s) := complete_of_none (hwaiting ▸ hwait)
    simp only [hnone, ite_self]
    exact h

theorem hostLinkChange_leads : let x := advance t s
    Leads (.hostLinkChange t port up) s fun z =>
      (hostLink port z).up = up ∧ z.mem = x.mem ∧ z.force = x.force ∧ z.egress = x.egress := by
  intro x
  obtain ⟨hup, hmem, hforce, hegress, -⟩ := setHostLink_keeps (up := up) (s := x) port.isLt
  refine leads_onlyIf (show _ = execHostLinkChange t port up s from rfl) (by simpa using hon) ?_
  rw [hostLink_settle, settle_mem, settle_force, settle_egress]
  cases up with
  | false => exact ⟨hup, hmem, hforce, hegress⟩
  | true =>
    obtain ⟨hlink', hmem', hforce', hegress'⟩ := complete_keeps .other 38 rOk [] (setHostLink port true x)
    exact ⟨(congrArg LinkS.up (hlink' port)).trans hup, hmem'.trans hmem, hforce'.trans hforce,
      hegress'.trans hegress⟩

end

/-! ### HOST_LINK_TIMEOUT and HOST_FLOWCTL_FRAME (R230, R256) -/

theorem hostLinkTimeout_fires : let x := advance t s
    hostLinkLost port x = true → Does (.hostLinkTimeout t port) s
      (fired .hostLink { x with hostLinks := x.hostLinks.set port { hostLink port x with reported := true } }) := by
  intro x h
  refine does_act (show _ = execHostLinkTimeout t port s from rfl) ?_
  rw [if_pos h]
  exact fire_eq ..

theorem hostLinkTimeout_idles (h : hostLinkLost port (advance t s) = false) :
    Does (.hostLinkTimeout t port) s (advance t s) := by
  refine does_act (show _ = execHostLinkTimeout t port s from rfl) ?_
  rw [if_neg (ne_true_of_eq_false h)]
  exact .rfl' _

theorem hostFlowctlFrame_counts : let x := advance t s
    hostUp port x = true → Does (.hostFlowctlFrame t port) s (count .hostDiscFlowctl (128 + port) 1 x) := by
  intro x h
  refine does_act (show _ = execHostFlowctlFrame t port s from rfl) ?_
  rw [if_pos h]
  exact .rfl' _

theorem hostFlowctlFrame_idles (h : hostUp port (advance t s) = false) :
    Does (.hostFlowctlFrame t port) s (advance t s) := by
  refine does_act (show _ = execHostFlowctlFrame t port s from rfl) ?_
  rw [if_neg (ne_true_of_eq_false h)]
  exact .rfl' _

end

/-- Settles O29: the forming of a packet, PACKET_SEND by its stream's oldest packet, EVENTS_PACKET_TIMEOUT by the first
record, and the host links' events by whether their conditions hold. -/
theorem packetsLeaveOnTheirPorts : Obligations.PacketsLeaveOnTheirPorts := by
  unfold Obligations.PacketsLeaveOnTheirPorts
  refine ⟨formPacket_joins, fun t sid s => ⟨packetSend_idles, fun pk hwait => ⟨exec_packetSend hwait, ?_⟩⟩,
    fun t s => ⟨eventsPacketTimeout_of_none, fun r l hrec => ⟨eventsPacketTimeout_waits hrec,
      eventsPacketTimeout_of_off hrec, eventsPacketTimeout_forms hrec⟩⟩,
    fun t port up s => ⟨hostLinkChange_of_off, fun hon hwait => ⟨fun hsame => ?_, fun hchange => ?_⟩,
      hostLinkChange_leads⟩,
    fun t port s => ⟨hostLinkTimeout_fires, hostLinkTimeout_idles⟩,
    fun t port s => ⟨hostFlowctlFrame_counts, hostFlowctlFrame_idles⟩⟩
  · obtain ⟨z, hz, hsent, hdrop, hkept⟩ := packetSend_leads hwait
    obtain rfl := stream_of_waitingPacket hwait
    exact ⟨z, hz, fun port hport hup hon hip hmac => hsent port hport ⟨hup, hon, hip, hmac⟩, hdrop, hkept⟩
  · exact hostLinkChange_does hon ((setHostLink_of_same hsame).symm ▸ .rfl' _) hwait
  · obtain ⟨fields, hraise⟩ := setHostLink_of_change hchange
    exact hostLinkChange_does hon (hraise ▸ raise_eq ..) hwait

end Sys2Proof.Machine
end

section
/-! COMPRESS_UNIT_ASSIGN and COMPRESS_UNIT_DONE (R257, R258, R266, R268 to R271, R277). -/

namespace Sys2Proof.Machine

/-! ### COMPRESS_UNIT_ASSIGN (R257, R266) -/

/-- A unit whose packets are formed gives the queue a packet for each piece, and takes nothing from the units that
wait. -/
theorem formPieces_joins (u : EUnit) (l : List Piece) (s : State) : let z := formPieces u l s
    z.egress.ready = s.egress.ready ∧ z.egress.queue.length = s.egress.queue.length + l.length := by
  induction l generalizing s with
  | nil => exact ⟨rfl, rfl⟩
  | cons x r ih =>
    have hone (flags : Nat) (owner : Owner) (eoi : Option Nat) :
        (formPacket u.head x flags owner eoi none s).egress.queue.length = s.egress.queue.length + 1 :=
      List.length_append
    cases r with
    | nil => exact ⟨rfl, hone ..⟩
    | cons y r =>
      obtain ⟨hready, hqueue⟩ := ih (formPacket u.head x 0 .none none none s)
      exact ⟨hready, hqueue.trans (by rw [hone, List.length_cons (a := x)]; omega)⟩

/-- A unit on its way into a compressor, under the trim in force unless its compression has begun. -/
def trimmed (u : CompJob) (s : State) : CompJob :=
  { u with trim := if u.put = 0 then streamPar .egressCompTrim u.unit.head.stream 0 s else u.trim }

section
variable {u : CompJob} {r : List CompJob} {s : State}

section
variable (hcomp : streamPar .egressCompress u.unit.head.stream 0 s ≠ 0 ∨ u.put ≠ 0)
include hcomp

theorem assignUnit_of_no_comp (hidle : idleComp s = none) : assignUnit u s = s := by
  unfold assignUnit
  simp only [hidle]
  exact if_neg (by simpa [Decidable.imp_iff_not_or] using hcomp)

theorem assignUnit_of_comp (hready : s.egress.ready = u :: r) {c : Nat} (hidle : idleComp s = some c) :
    assignUnit u s = { s with egress := { s.egress with
      ready := r
      comps := s.egress.comps.set c (some (trimmed u s)) } } := by
  unfold assignUnit
  simp only [hidle, hready, List.erase_cons_head]
  exact if_neg (by simpa [Decidable.imp_iff_not_or] using hcomp)

end

section
variable (hoff : streamPar .egressCompress u.unit.head.stream 0 s = 0) (hput : u.put = 0)
include hoff hput

theorem assignUnit_of_older (hin : streamInComp u.unit.head.stream s = true) : assignUnit u s = s := by
  unfold assignUnit
  simp only [hin, if_true]
  exact if_pos ⟨hoff, hput⟩

theorem assignUnit_of_uncompressed (hready : s.egress.ready = u :: r)
    (hin : streamInComp u.unit.head.stream s = false) :
    assignUnit u s = formPieces u.unit u.unit.pieces { s with egress := { s.egress with ready := r } } := by
  unfold assignUnit
  simp only [hready, List.erase_cons_head, hin, Bool.false_eq_true, if_false]
  exact if_pos ⟨hoff, hput⟩

end

end

section
variable {t : Nat} {s : State}

theorem compressUnitAssign_idles (h : (advance t s).egress.ready = [] ∨ egressOn (advance t s) = false) :
    Does (.compressUnitAssign t) s (advance t s) := by
  refine does_act (show _ = execCompressUnitAssign t s from rfl) ?_
  cases hready : (advance t s).egress.ready with
  | nil => exact .rfl' _
  | cons u r =>
    have hoff : egressOn (advance t s) = false := h.resolve_left (hready ▸ List.cons_ne_nil u r)
    simp only [hoff, Bool.false_eq_true, if_false]
    exact .rfl' _

section
variable {u : CompJob} {r : List CompJob} (hready : (advance t s).egress.ready = u :: r)
  (hon : egressOn (advance t s) = true)
include hready hon

theorem compressUnitAssign_does {y : State} (h : assignUnit u (advance t s) = y) :
    Does (.compressUnitAssign t) s y := by
  refine does_act (show _ = execCompressUnitAssign t s from rfl) ?_
  simp only [hready, hon, if_true, h]
  exact .rfl' _

theorem compressUnitAssign_forms (hoff : streamPar .egressCompress u.unit.head.stream 0 (advance t s) = 0)
    (hput : u.put = 0) (hin : streamInComp u.unit.head.stream (advance t s) = false) : let x := advance t s
    Leads (.compressUnitAssign t) s fun z => z.egress.ready = r ∧
      z.egress.queue.length = x.egress.queue.length + u.unit.pieces.length ∧ z.mem = x.mem ∧ z.force = x.force := by
  intro x
  let y : State := { x with egress := { x.egress with ready := r } }
  obtain ⟨hready', hqueue⟩ := formPieces_joins u.unit u.unit.pieces y
  have hkeep := formPieces_keepsEgress u.unit u.unit.pieces y
  refine leads_act (show _ = execCompressUnitAssign t s from rfl) ?_
  simp only [hready, hon, if_true, assignUnit_of_uncompressed hoff hput hready hin]
  rw [settle_egress, settle_mem, settle_force]
  exact ⟨hready', hqueue, hkeep.mem, hkeep.force⟩

end

end

/-! ### Holds (R271, R277) -/

theorem countHold_of_idle {c : Nat} {s : State} (h : s.egress.comps.getD c none = none) : countHold s c = s := by
  simp only [countHold, h]

/-- The unit of a hold that is counted goes on where it stood. -/
theorem countHold_of_busy {c : Nat} {j0 : CompJob} {s : State} (hc : c < 16)
    (h : s.egress.comps.getD c none = some j0) : ∃ j,
    (countHold s c).egress.comps.getD c none = some j ∧ j.unit = j0.unit ∧ j.put = j0.put := by
  simp only [countHold, h]
  cases j0.holdSince with
  | none => exact ⟨j0, h, rfl, rfl⟩
  | some t0 => exact ⟨_, RegFile.getD_set_same _ _ _ _ hc, rfl, rfl⟩

theorem countHold_keepsCounts (s : State) (c : Nat) : KeepsCounts s (countHold s c) := by
  unfold countHold
  split
  · exact .of_fields rfl rfl rfl
  · split
    · exact .of_fields rfl rfl rfl
    · refine .count ?_ (by decide) ..
      exact .of_fields rfl rfl rfl

/-! ### Bytes enter a chain (R268, R269) -/

theorem stageBytes_changes_mem (pos : Nat) (bytes : List Byte) (l : List ChainBuf) (s : State) :
    ∃ m, stageBytes pos bytes l s = { s with mem := m } := by
  unfold stageBytes
  split
  · exact ⟨s.mem, rfl⟩
  · exact foldl_changes_mem (fun _ _ => cellsWrite_changes_mem ..) ..

theorem chainPut_keepsCounts (sid : Nat) (items : List (List Byte)) (start : Nat) (s : State) :
    KeepsCounts s (chainPut sid items start s).2 := by
  unfold chainPut
  extract_lets bytes pos room free n first fresh next old mine
  dsimp only
  refine .count ?_ (by decide) ..
  obtain ⟨m, hm⟩ := stageBytes_changes_mem (pos + start) ((bytes.drop start).take n) mine
    { s with egress := { s.egress with
        chains := old ++ fresh
        written := sPut (fun _ => 0) s.egress.written sid (pos + start + n) } }
  exact hm ▸ .of_fields rfl rfl rfl

/-! ### A compressor's output (R266, R271, R277) -/

theorem formCompressed_keepsEgress (u : EUnit) (pos : Nat) (l : List Piece) (s : State) :
    KeepsEgress s (formCompressed u pos l s) := by
  induction l generalizing pos s with
  | nil => exact .refl s
  | cons x r ih =>
    cases r with
    | nil => exact .of_aside rfl
    | cons y r => exact .after (ih _ _) (.of_aside rfl)

theorem freeIfBeam_keepsEgress (o : Owner) (s : State) : KeepsEgress s (freeIfBeam o s) := by
  cases o <;> exact .of_aside rfl

/-- The compressed unit of a compressor, and the number of its stored blocks. -/
def CompJob.output (j : CompJob) : List (List Byte) × Nat :=
  compressUnit j.unit.whole.fmt j.trim j.unit.payload

/-- How many bytes of a compressor's output its stream's chain takes, and the state with them there. -/
def chainTakes (j : CompJob) (s : State) : Nat × State := chainPut j.unit.head.stream j.output.1 j.put s

/-- A unit has left its compressor and is counted (R277). -/
def unitEnded (c : Nat) (j : CompJob) (s : State) : State :=
  let inst := streamInst j.unit.head.stream
  count .compUnits inst 1 (count .compBytesIn inst j.unit.payload.length
    (count .compBytesOut inst j.output.1.flatten.length (count .compStoredBlocks inst j.output.2
      { s with egress := { s.egress with comps := s.egress.comps.set c none } })))

theorem unitEnded_counts (c : Nat) (j : CompJob) (s : State) : let inst := streamInst j.unit.head.stream
    let z := unitEnded c j s
    ctrGet .compUnits inst z = min ctrMax (ctrGet .compUnits inst s + 1) ∧
    ctrGet .compBytesIn inst z = min ctrMax (ctrGet .compBytesIn inst s + j.unit.payload.length) ∧
    ctrGet .compBytesOut inst z = min ctrMax (ctrGet .compBytesOut inst s + j.output.1.flatten.length) := by
  simp only [unitEnded, ctrGet_count_same, ctrGet_count_of_ne, ne_eq, reduceCtorEq, not_false_eq_true]
  exact ⟨rfl, rfl, rfl⟩

theorem unitEnded_leaves (c : Nat) (j : CompJob) (s : State) : let z := unitEnded c j s
    z.egress.comps = s.egress.comps.set c none ∧ z.mem = s.mem ∧ z.force = s.force ∧ z.power = s.power := by
  simp only [unitEnded, count_egress, count_mem, count_force, count_power, and_self]

section
variable {c : Nat} {j : CompJob} {s : State}

/-- The end of a unit's compression, by what the chain takes of it (R271). -/
theorem compDone_eq (c : Nat) (j : CompJob) (s : State) : compDone c j s =
    if j.put + (chainTakes j s).1 < j.output.1.flatten.length then
      holdComp c { j with put := j.put + (chainTakes j s).1 } (chainTakes j s).2
    else weirPump (freeIfBeam j.unit.owner (formCompressed j.unit (writtenBy j.unit.head.stream s - j.put)
      (compPieces j.unit j.output.1.flatten) (unitEnded c j (chainTakes j s).2))) := by
  simp only [compDone, chainTakes, unitEnded, CompJob.output]
  congr 1

theorem compDone_of_over (h : j.put + (chainTakes j s).1 < j.output.1.flatten.length) :
    compDone c j s = holdComp c { j with put := j.put + (chainTakes j s).1 } (chainTakes j s).2 := by
  rw [compDone_eq, if_pos h]

/-- The packets of a unit whose output the chain has taken whole, and what its end sets going, leave the unit's end as
it was counted. -/
theorem compDone_of_whole (h : j.output.1.flatten.length ≤ j.put + (chainTakes j s).1) :
    KeepsEgress (unitEnded c j (chainTakes j s).2) (compDone c j s) := by
  rw [compDone_eq, if_neg (Nat.not_lt.2 h)]
  exact .after (weirPump_keepsEgress _) (.after (freeIfBeam_keepsEgress ..) (formCompressed_keepsEgress ..))

end

/-! ### COMPRESS_UNIT_DONE -/

section
variable {t : Nat} {c : Fin 16} {s : State}

theorem compressUnitDone_of_idle (h : (advance t s).egress.comps.getD c none = none) :
    Does (.compressUnitDone t c) s (advance t s) := by
  refine does_act (show _ = execCompressUnitDone t c s from rfl) ?_
  simp only [countHold_of_idle h, h]
  exact .rfl' _

section
variable {j : CompJob} (hj : (countHold (advance t s) c).egress.comps.getD c none = some j)
include hj

theorem compressUnitDone_of_younger (h : oldestOfStream j (countHold (advance t s) c) = false) :
    Does (.compressUnitDone t c) s (countHold (advance t s) c) := by
  refine does_act (show _ = execCompressUnitDone t c s from rfl) ?_
  simp only [hj, h, Bool.false_eq_true, if_false]
  exact .rfl' _

section
variable (hold : oldestOfStream j (countHold (advance t s) c) = true)
include hold

theorem exec_compressUnitDone :
    exec (.compressUnitDone t c) s = .next (settle (compDone c j (countHold (advance t s) c))) := by
  refine (show _ = execCompressUnitDone t c s from rfl).trans ?_
  simp only [execCompressUnitDone, act, hj, hold, if_true]

theorem compressUnitDone_holds : let y := countHold (advance t s) c
    j.put + (chainTakes j y).1 < j.output.1.flatten.length →
    Does (.compressUnitDone t c) s
      (holdComp c { j with put := j.put + (chainTakes j y).1 } (chainTakes j y).2) := by
  intro y hover
  exact ⟨_, exec_compressUnitDone hj hold, compDone_of_over hover ▸ settle_eq _⟩

/-- What the end of a unit leaves whose output the chain has taken whole. -/
theorem compressUnitDone_ends : let x := advance t s
    let y := countHold x c
    let inst := streamInst j.unit.head.stream
    j.output.1.flatten.length ≤ j.put + (chainTakes j y).1 →
    Leads (.compressUnitDone t c) s fun z =>
      z.egress.comps.getD c none = none ∧
      ctrGet .compUnits inst z = min ctrMax (ctrGet .compUnits inst x + 1) ∧
      ctrGet .compBytesIn inst z = min ctrMax (ctrGet .compBytesIn inst x + j.unit.payload.length) ∧
      ctrGet .compBytesOut inst z = min ctrMax (ctrGet .compBytesOut inst x + j.output.1.flatten.length) ∧
      z.mem = (chainTakes j y).2.mem ∧ z.force = x.force ∧ z.power = x.power := by
  intro x y inst hwhole
  have hbefore : KeepsCounts x (chainTakes j y).2 := (countHold_keepsCounts x c).trans (chainPut_keepsCounts ..)
  have hafter := (compDone_of_whole (c := c) hwhole).trans (.settle _)
  obtain ⟨hunits, hin, hout⟩ := unitEnded_counts c j (chainTakes j y).2
  obtain ⟨hcomps, hmem, hforce, hpower⟩ := unitEnded_leaves c j (chainTakes j y).2
  rw [hbefore.ctr _ (by decide)] at hunits hin hout
  refine ⟨_, exec_compressUnitDone hj hold, ?_, (hafter.ctr _ (by decide) _).trans hunits,
    (hafter.ctr _ (by decide) _).trans hin, (hafter.ctr _ (by decide) _).trans hout, hafter.mem.trans hmem,
    (hafter.force.trans hforce).trans hbefore.force, (hafter.power.trans hpower).trans hbefore.power⟩
  rw [hafter.comps, hcomps]
  exact RegFile.getD_set_same _ _ _ _ c.isLt

end

end

end

end Sys2Proof.Machine
end

section
/-! TELEMETRY_PERIOD and ZCP_TELEMETRY (R250, R369, R488, R491). -/

namespace Sys2Proof.Machine

theorem leads_of_exec {i : Instr} {s x : State} {p : State → Prop} (hx : exec i s = .next x) (hp : p x) :
    Leads i s p := ⟨x, hx, hp⟩

/-! ### Entries, 512 to a packet or message -/

theorem length_runsOf {α : Type} {n : Nat} (hn : 0 < n) (fuel at_ : Nat) (l : List α) (h : l.length ≤ fuel) :
    (runsOf n fuel at_ l).length = (l.length + (n - 1)) / n := by
  induction fuel generalizing at_ l with
  | zero =>
    rw [List.length_eq_zero_iff.1 (Nat.le_zero.1 h)]
    exact (Nat.div_eq_of_lt (by simp; omega)).symm
  | succ fuel ih =>
    cases l with
    | nil => exact (Nat.div_eq_of_lt (by simp; omega)).symm
    | cons a r =>
      have hrest := ih (at_ + n) ((a :: r).drop n) (by rw [List.length_drop]; omega)
      have hruns : runsOf n (fuel + 1) at_ (a :: r) =
          (at_, (a :: r).take n) :: runsOf n fuel (at_ + n) ((a :: r).drop n) := if_neg (by simp; omega)
      rw [hruns, List.length_cons, hrest, List.length_drop, ← Nat.add_div_right _ hn]
      by_cases hlong : n ≤ (a :: r).length
      · congr 1
        omega
      · have hpos : 0 < (a :: r).length := List.length_pos_of_mem List.mem_cons_self
        rw [Nat.sub_eq_zero_of_le (Nat.le_of_not_le hlong), Nat.div_eq_of_lt_le (k := 1) (by omega) (by omega),
          Nat.div_eq_of_lt_le (k := 1) (by omega) (by omega)]

/-! ### TELEMETRY_PERIOD (R250, R369) -/

/-- The packets of a snapshot join the queue, and change egress alone. -/
theorem telemetryPackets_join (l : List (Nat × List (List Byte))) (s : State) : ∃ e,
    l.foldl (fun y r => telemetryPacket y r.2) s = { s with egress := e } ∧
    ∃ new, e.queue = s.egress.queue ++ new ∧ (∀ pk ∈ new, pk.stream = 0x8000) ∧ new.length = l.length := by
  induction l generalizing s with
  | nil => exact ⟨s.egress, rfl, [], (List.append_nil _).symm, by simp, rfl⟩
  | cons r rest ih =>
    obtain ⟨e, hone, pk, hqueue, hpk⟩ : ∃ e, telemetryPacket s r.2 = { s with egress := e } ∧
      ∃ pk, e.queue = s.egress.queue ++ [pk] ∧ pk.stream = 0x8000 := ⟨_, rfl, _, rfl, rfl⟩
    obtain ⟨e', hrest, new, hqueue', hnew, hlen⟩ := ih { s with egress := e }
    rw [List.foldl_cons, hone]
    refine ⟨e', hrest, pk :: new, ?_, List.forall_mem_cons.2 ⟨hpk, hnew⟩,
      congrArg (· + 1) hlen⟩
    rw [hqueue', hqueue, List.append_assoc, List.singleton_append]

/-- The snapshot is latched, and the lag extremes begin anew. -/
def latched (s : State) : State :=
  { s with
    egress := { s.egress with telemetryAt := s.time.now }
    time := { s.time with lagMin := [], lagMax := [] } }

section
variable {t : Nat} {s : State}

theorem telemetryPeriod_waits (h : (advance t s).boot.stage ≠ .ready ∨
    (advance t s).time.now < (advance t s).egress.telemetryAt + nsT (par0 .egressTelemetryPeriod (advance t s))) :
    Does (.telemetryPeriod t) s (advance t s) := by
  refine does_act (show _ = execTelemetryPeriod t s from rfl) ?_
  rw [if_pos h]
  exact .rfl' _

section
variable (hready : (advance t s).boot.stage = .ready) (hdue : (advance t s).egress.telemetryAt +
  nsT (par0 .egressTelemetryPeriod (advance t s)) ≤ (advance t s).time.now)
include hready hdue

theorem exec_telemetryPeriod : let x := advance t s
    let l := telemetryEntries .egressTelemetryKeys 0 x
    exec (.telemetryPeriod t) s = .next (settle (latched (if egressOn x then
      (runsOf 512 (l.length + 1) 0 l).foldl (fun y r => telemetryPacket y r.2) x else x))) := by
  intro x l
  refine (show _ = execTelemetryPeriod t s from rfl).trans ?_
  have hnow : ¬ (x.boot.stage ≠ .ready ∨
      x.time.now < x.egress.telemetryAt + nsT (par0 .egressTelemetryPeriod x)) :=
    fun h => h.elim (fun h => h hready) (Nat.not_lt.2 hdue)
  exact congrArg (fun y => Host.Outcome.next (settle y)) (if_neg hnow)

theorem telemetryPeriod_of_off (hoff : egressOn (advance t s) = false) :
    Does (.telemetryPeriod t) s (latched (advance t s)) :=
  ⟨_, exec_telemetryPeriod hready hdue, by rw [if_neg (ne_true_of_eq_false hoff)]; exact settle_eq _⟩

theorem telemetryPeriod_forms (hon : egressOn (advance t s) = true) : let x := advance t s
    Leads (.telemetryPeriod t) s fun z =>
      (∃ l, z.egress.queue = x.egress.queue ++ l ∧ (∀ pk ∈ l, pk.stream = 0x8000) ∧
        l.length = ((telemetryEntries .egressTelemetryKeys 0 x).length + 511) / 512) ∧
      z.egress.telemetryAt = x.time.now ∧ z.time.lagMin = [] ∧ z.time.lagMax = [] ∧ z.mem = x.mem ∧
      z.force = x.force := by
  intro x
  let l := telemetryEntries .egressTelemetryKeys 0 x
  obtain ⟨e, hpackets, new, hqueue, hnew, hlen⟩ := telemetryPackets_join (runsOf 512 (l.length + 1) 0 l) x
  refine leads_of_exec (exec_telemetryPeriod hready hdue) ?_
  rw [if_pos hon, hpackets, settle_egress, settle_time, settle_mem, settle_force]
  refine ⟨⟨new, hqueue, hnew, ?_⟩, rfl, rfl, rfl, rfl, rfl⟩
  rw [hlen, length_runsOf (by decide) _ _ _ (Nat.le_succ _)]

end

end

/-! ### ZCP_TELEMETRY (R488, R491) -/

theorem settle_of_satDue_nil {s : State} (h : s.satDue = []) : settle s = s := flushSat_of_satDue_nil _ h

theorem RegFile.map_set {α : Type} {n : Nat} (f : α → α) (r : RegFile α n) (k : Nat) (v : α) :
    (r.set k v).map f = (r.map f).set k (f v) := by
  simp only [RegFile.map, RegFile.set, List.map_set]

/-- The state with other sessions. -/
def withSlots (slots : RegFile Session 4) (s : State) : State := { s with zcp := { s.zcp with slots := slots } }

/-- A change of a session that leaves its queue alone keeps an agreement but for reports. -/
theorem ReportEq.of_setSession {x y : State} (h : ReportEq x y) {k : Nat} (hk : k < 4) {f : Session → Session}
    (hf : ∀ ss, (f ss).quiet = f ss.quiet) : ReportEq (setSession k f x) (setSession k f y) := by
  have hrest (z : State) : Machine.rest (setSession k f z) =
      withSlots ((z.zcp.slots.set k (f (session k z))).map Session.quiet) (Machine.rest z) := rfl
  have hslots (z : State) : (z.zcp.slots.set k (f (session k z))).map Session.quiet =
      (z.zcp.slots.map Session.quiet).set k (f ((z.zcp.slots.map Session.quiet).getD k (resetSession none))) := by
    rw [RegFile.map_set, hf, RegFile.getD_map _ _ _ _ hk]
    rfl
  have hquiet : x.zcp.slots.map Session.quiet = y.zcp.slots.map Session.quiet := congrArg (·.zcp.slots) h.rest
  exact ⟨by rw [hrest, hrest, hslots, hslots, hquiet, h.rest], h.ctr, h.ev⟩

/-- The entries of a session's snapshot, 512 to a message (R491). -/
def telemetryRuns (k : Nat) (s : State) : List (Nat × List (List Byte)) :=
  let l := telemetryEntries .zcpTelemetryKeys k s
  runsOf 512 (l.length + 1) 0 l

/-- A session's snapshot is taken at this instant. -/
def telemetryNoted (k : Nat) (s : State) : State :=
  setSession k (fun y => { y with telemetryAt := s.time.now }) s

theorem telemetryNoted_satDue (k : Nat) (s : State) : (telemetryNoted k s).satDue = s.satDue := rfl

/-- The messages of a snapshot. -/
def sendTelemetry (k : Nat) (l : List (Nat × List (List Byte))) (s : State) : State :=
  l.foldl (fun y r => unsolicited k 0x0F02 r.2.flatten y) s

theorem sendTelemetry_cons (k : Nat) (r : Nat × List (List Byte)) (l : List (Nat × List (List Byte))) (s : State) :
    sendTelemetry k (r :: l) s = sendTelemetry k l (unsolicited k 0x0F02 r.2.flatten s) := List.foldl_cons ..

theorem sendTelemetry_eq (k : Nat) (l : List (Nat × List (List Byte))) (s : State) :
    ReportEq (sendTelemetry k l s) s :=
  l.foldlRecOn (motive := fun y => ReportEq y s) _ (.rfl' s) fun _ h _ _ => (unsolicited_eq ..).trans h

theorem sendTelemetry_tallied {k : Nat} (hk : k < 4) (l : List (Nat × List (List Byte))) (s : State) :
    Tallied (3 * l.length) s (sendTelemetry k l s) := by
  induction l generalizing s with
  | nil => exact .of_fields rfl rfl rfl
  | cons r rest ih =>
    rw [sendTelemetry_cons]
    exact ((unsolicited_tallied hk 0x0F02 r.2.flatten s).trans (ih _)).mono (by rw [List.length_cons]; omega)

/-- The messages that wait in a session. -/
def queued (k : Nat) (s : State) : List (Nat × List Byte) := (session k s).unsol.map fun u => (u.typ, u.body)

theorem queued_telemetryNoted {k : Nat} (hk : k < 4) (s : State) : queued k (telemetryNoted k s) = queued k s := by
  rw [queued, telemetryNoted, session_setSession_same _ _ _ hk]
  rfl

/-- With room in its queue, a session keeps every message that waits and takes the new one. -/
theorem queued_unsolicited {k : Nat} (hk : k < 4) (typ : Nat) (b : List Byte) {s : State}
    (hroom : (session k s).unsol.length < 4096) : queued k (unsolicited k typ b s) = queued k s ++ [(typ, b)] := by
  unfold unsolicited
  extract_lets ss seq full s1 inWindow u s2
  have hfull : ¬ full = true := by simpa [full, ss] using hroom
  have hs1 : s1 = s := if_neg hfull
  have hqueued : queued k s2 = queued k s ++ [(typ, b)] := by
    simp only [queued, s2, session_setSession_same _ _ _ hk, if_neg hfull, hs1, List.map_append, u]
    rfl
  split
  · rw [queued, session_zcpSend]
    exact hqueued
  · exact hqueued

theorem queued_sendTelemetry {k : Nat} (hk : k < 4) (l : List (Nat × List (List Byte))) {s : State}
    (hroom : (session k s).unsol.length + l.length ≤ 4096) :
    queued k (sendTelemetry k l s) = queued k s ++ (l.map (·.2.flatten)).map fun b => (0x0F02, b) := by
  induction l generalizing s with
  | nil => exact (List.append_nil _).symm
  | cons r rest ih =>
    rw [List.length_cons] at hroom
    have hone := queued_unsolicited hk 0x0F02 r.2.flatten (s := s) (by omega)
    have hlen := congrArg List.length hone
    simp only [queued, List.length_append, List.length_map, List.length_singleton] at hlen
    rw [sendTelemetry_cons, ih (by omega), hone, List.append_assoc, List.map_cons, List.map_cons,
      List.singleton_append]

section
variable {t : Nat} {k : Fin 4} {s : State}

theorem zcpTelemetry_waits (h : (session k (advance t s)).isOpen = false ∨
    par .zcpTelemetryPeriod k 0 (advance t s) = 0 ∨ (advance t s).time.now <
      (session k (advance t s)).telemetryAt + nsT (par .zcpTelemetryPeriod k 0 (advance t s))) :
    Does (.zcpTelemetry t k) s (advance t s) := by
  refine does_act (show _ = execZcpTelemetry t k s from rfl) ?_
  simp only
  rw [if_pos (by simpa using h)]
  exact .rfl' _

section
variable (hopen : (session k (advance t s)).isOpen = true) (hperiod : par .zcpTelemetryPeriod k 0 (advance t s) ≠ 0)
  (hdue : (session k (advance t s)).telemetryAt + nsT (par .zcpTelemetryPeriod k 0 (advance t s)) ≤
    (advance t s).time.now)
include hopen hperiod hdue

theorem exec_zcpTelemetry : exec (.zcpTelemetry t k) s =
    .next (settle (telemetryNoted k (sendTelemetry k (telemetryRuns k (advance t s)) (advance t s)))) := by
  refine (show _ = execZcpTelemetry t k s from rfl).trans ?_
  unfold execZcpTelemetry act telemetryNoted sendTelemetry telemetryRuns
  simp only
  rw [if_neg]
  simp only [hopen, hperiod, Bool.not_true, Bool.false_eq_true, false_or]
  exact Nat.not_lt.2 hdue

/-- The instant of the snapshot is noted, its messages apart. -/
theorem zcpTelemetry_notes : Does (.zcpTelemetry t k) s (telemetryNoted k (advance t s)) := by
  have hsent := sendTelemetry_eq k (telemetryRuns k (advance t s)) (advance t s)
  refine ⟨_, exec_zcpTelemetry hopen hperiod hdue, (settle_eq _).trans ?_⟩
  rw [telemetryNoted, hsent.time]
  exact hsent.of_setSession k.isLt fun _ => rfl

/-- Far from saturation and with room in the session's queue, every message waits in it. -/
theorem zcpTelemetry_queues : let x := advance t s
    let bodies := (telemetryRuns k x).map (·.2.flatten)
    Unsaturated x → (session k x).unsol.length + bodies.length ≤ 4096 → Leads (.zcpTelemetry t k) s fun z =>
      queued k z = queued k x ++ bodies.map fun b => (0x0F02, b) := by
  intro x bodies ⟨hquiet, hfar⟩ hroom
  rw [List.length_map] at hroom
  obtain ⟨hnone, -⟩ : ReportRoom 0 (sendTelemetry k (telemetryRuns k x) x) :=
    (sendTelemetry_tallied k.isLt _ x).room 0 ⟨hquiet, fun c i _ => by have := hfar c i; omega⟩
  refine leads_of_exec (exec_zcpTelemetry hopen hperiod hdue) ?_
  rw [settle_of_satDue_nil ((telemetryNoted_satDue ..).trans hnone), queued_telemetryNoted k.isLt]
  exact queued_sendTelemetry k.isLt _ hroom

end

end

/-- Settles O30: COMPRESS_UNIT_ASSIGN by the oldest ready unit and its stream's compression, COMPRESS_UNIT_DONE by the
unit's place in its stream and what the chain takes, and the two telemetries by whether they are due. -/
theorem compressorsAndTelemetryWork : Obligations.CompressorsAndTelemetryWork := by
  unfold Obligations.CompressorsAndTelemetryWork
  refine ⟨fun t s => ⟨compressUnitAssign_idles, fun u r hready hon => ?_⟩,
    fun t c s => ⟨compressUnitDone_of_idle, fun j0 hj0 => ?_⟩,
    fun t s => ⟨telemetryPeriod_waits, fun hready hdue =>
      ⟨telemetryPeriod_of_off hready hdue, telemetryPeriod_forms hready hdue⟩⟩,
    fun t k s => ⟨zcpTelemetry_waits, fun hopen hperiod hdue =>
      ⟨zcpTelemetry_notes hopen hperiod hdue, zcpTelemetry_queues hopen hperiod hdue⟩⟩⟩
  · exact ⟨fun hcomp => ⟨fun hidle => compressUnitAssign_does hready hon (assignUnit_of_no_comp hcomp hidle),
        fun c hidle => compressUnitAssign_does hready hon (assignUnit_of_comp hcomp hready hidle)⟩,
      fun hoff hput => ⟨fun hin => compressUnitAssign_does hready hon (assignUnit_of_older hoff hput hin),
        compressUnitAssign_forms hready hon hoff hput⟩⟩
  · obtain ⟨j, hj, hunit, hput⟩ := countHold_of_busy c.isLt hj0
    exact ⟨j, hj, hunit, hput, compressUnitDone_of_younger hj,
      fun hold => ⟨compressUnitDone_holds hj hold, compressUnitDone_ends hj hold⟩⟩

end Sys2Proof.Machine
end

section
/-! DECOMP_JOB_START and DECOMP_JOB_END (R272 to R278, R496): the queue of decompression jobs. -/

namespace Sys2Proof.Machine

/-! ### Counts that replies leave alone (R506) -/

/-- A reply moves counters that sending counts, and no count of events but EV_COUNTER_SAT's. -/
theorem sendReply_counts (k seq typ code : Nat) (body : List Byte) (s : State) :
    let z := sendReply k seq typ code body s
    (∀ c i, c.reporting = false → ctrGet c i z = ctrGet c i s) ∧
    ∀ e, e ≠ Ev.counterSat → eventCount e z = eventCount e s :=
  have hsent := zcpSend_eq k (zcpBytes k typ seq 1 (replyPayload code body) s) (setSession k _ s)
  ⟨hsent.ctr, hsent.ev⟩

/-- What each reply and the list of waiting commands leave, the end of a wait leaves. -/
theorem complete_invariant {β : Type} {π : State → β}
    (hreply : ∀ k seq typ code body s, π (sendReply k seq typ code body s) = π s)
    (hwaiting : ∀ l (s : State), π { s with zcp := { s.zcp with waiting := l } } = π s)
    (why : Why) (unit code : Nat) (body : List Byte) (s : State) : π (complete why unit code body s) = π s := by
  refine (foldl_keeps (fun x w => ?_) _ _).trans (hwaiting _ s)
  split
  · exact hreply ..
  · rfl

theorem ctrGet_complete {c : Ctr} (hc : c.reporting = false) (i : Nat) (why : Why) (unit code : Nat)
    (body : List Byte) (s : State) : ctrGet c i (complete why unit code body s) = ctrGet c i s :=
  complete_invariant (fun k seq typ code body s => (sendReply_counts k seq typ code body s).1 c i hc)
    (fun _ _ => rfl) ..

theorem eventCount_complete {e : Ev} (he : e ≠ .counterSat) (why : Why) (unit code : Nat) (body : List Byte)
    (s : State) : eventCount e (complete why unit code body s) = eventCount e s :=
  complete_invariant (fun k seq typ code body s => (sendReply_counts k seq typ code body s).2 e he)
    (fun _ _ => rfl) ..

/-! ### The end of a job (R274, R277, R496) -/

/-- A job's end counted under its RESULT and reported with its descriptor (R274, R277). -/
def jobReported (j : DecompJob) (produced result : Nat) (s : State) : State :=
  raiseBytes .decompDone { j with produced := produced, result := result }.bytes (count .decompJobs result 1 s)

/-- What the end of a job leaves as it was: egress with its queue, the memories and the parameters in force. -/
def jobAside (s : State) : EgressS × MemS × Sparse Nat := (s.egress, s.mem, s.force)

section
variable (j : DecompJob) (n r : Nat) (s : State)

/-- What transfers and answers to waiting commands leave, the end of a job leaves as its report did. -/
theorem endJob_invariant {β : Type} {π : State → β} (hbulk : ∀ b s, π (setBulk b s) = π s)
    (hreply : ∀ why unit code body s, π (complete why unit code body s) = π s) :
    π (endJob j n r s) = π (jobReported j n r s) := by
  unfold endJob
  extract_lets j1 s1
  split
  · rfl
  · split
    · exact (hreply ..).trans (hbulk ..)
    · rfl

theorem endJob_keeps : let z := endJob j n r s
    z.egress = s.egress ∧ z.mem = s.mem ∧ z.force = s.force := by
  have hreply (why unit code body x) : jobAside (complete why unit code body x) = jobAside x := by
    obtain ⟨-, hmem, hforce, hegress⟩ := complete_keeps why unit code body x
    rw [jobAside, hegress, hmem, hforce, jobAside]
  have hreport : jobAside (jobReported j n r s) = jobAside s := by
    rw [jobAside, jobReported, raiseBytes_egress, raiseBytes_mem, raiseBytes_force]
    rfl
  simpa only [jobAside, Prod.mk.injEq] using (endJob_invariant j n r s (fun _ _ => rfl) hreply).trans hreport

theorem endJob_counts :
    ctrGet .decompJobs r (endJob j n r s) = min ctrMax (ctrGet .decompJobs r s + 1) := by
  refine (endJob_invariant j n r s (fun _ _ => rfl) (ctrGet_complete (by decide) r)).trans ?_
  exact ((raiseBytes_eq ..).ctr .decompJobs r (by decide)).trans (ctrGet_count_same ..)

theorem endJob_notes :
    eventCount .decompDone (endJob j n r s) = min ctrMax (eventCount .decompDone s + 1) := by
  refine (endJob_invariant j n r s (fun _ _ => rfl) (eventCount_complete (by decide))).trans ?_
  refine ((raiseBytes_eq ..).ev .decompDone (by decide)).trans ?_
  rw [eventCount_noteEvent, if_pos rfl]
  rfl

end

/-- From `x` to `z` a job is taken off the queue, which keeps `rest`, and it is counted under RESULT `r` and
reported; the memories and the parameters stay. -/
structure JobTakenOff (rest : List DecompJob) (r : Nat) (x z : State) : Prop where
  jobs : z.egress.jobs = rest
  counted : ctrGet .decompJobs r z = min ctrMax (ctrGet .decompJobs r x + 1)
  noted : eventCount .decompDone z = min ctrMax (eventCount .decompDone x + 1)
  mem : z.mem = x.mem
  force : z.force = x.force

theorem jobTakenOff_settle_endJob (j : DecompJob) (rest : List DecompJob) (n r : Nat) (x : State) :
    JobTakenOff rest r x (settle (endJob j n r (setJobs rest x))) := by
  obtain ⟨hegress, hmem, hforce⟩ := endJob_keeps j n r (setJobs rest x)
  have hsettle := settle_eq (endJob j n r (setJobs rest x))
  exact
    { jobs := congrArg EgressS.jobs (hsettle.egress.trans hegress)
      counted := (hsettle.ctr .decompJobs r (by decide)).trans (endJob_counts j n r (setJobs rest x))
      noted := (hsettle.ev .decompDone (by decide)).trans (endJob_notes j n r (setJobs rest x))
      mem := hsettle.mem.trans hmem
      force := hsettle.force.trans hforce }

/-! ### The check of the queue's head (R273) -/

section
variable {j : DecompJob} {x : State}

theorem jobRefusal_of_expansion (h : 1024 * j.inLen < j.outLen) : jobRefusal j x = some 1 := if_pos h

theorem jobRefusal_of_bad_descriptor (h : j.outLen ≤ 1024 * j.inLen)
    (hbad : j.dest = 0 ∨ 4 < j.dest ∨ j.reserved ≠ 0) : jobRefusal j x = some 2 := by
  refine (if_neg (Nat.not_lt.2 h)).trans (if_pos ?_)
  rcases hbad with hdest | hdest | hres
  · exact .inl hdest
  · exact .inr (.inl hdest)
  · exact .inr (.inr (.inl hres))

theorem sound_of_jobRefusal_eq_none (h : jobRefusal j x = none) :
    j.outLen ≤ 1024 * j.inLen ∧ 1 ≤ j.dest ∧ j.dest ≤ 4 ∧ j.reserved = 0 ∧ x.egress.decompOut = false := by
  unfold jobRefusal at h
  extract_lets al size past at h
  split at h
  · cases h
  · rename_i hratio
    split at h
    · cases h
    · rename_i hsound
      split at h
      · cases h
      · rename_i htaken
        simp only [not_or, Decidable.not_not, Bool.not_eq_true] at hsound htaken
        obtain ⟨hdest, hdest', hres, -⟩ := hsound
        exact ⟨Nat.not_lt.1 hratio, Nat.pos_of_ne_zero hdest, Nat.not_lt.1 hdest', hres, htaken.1⟩

theorem refuses_of_jobRefusal_eq_three (h : jobRefusal j x = some 3) :
    x.egress.decompOut = true ∨ (ownerRefusal true j.target j.inst x).isSome = true ∨ j.dest = 3 := by
  unfold jobRefusal at h
  extract_lets al size past at h
  split at h
  · cases h
  · split at h
    · cases h
    · split at h
      · rename_i hrefuses
        exact hrefuses.imp_right (Or.imp_right And.left)
      · cases h

end

/-! ### The queue's head (R273, R274) -/

section
variable {t : Nat} {s : State} {j : DecompJob} {rest : List DecompJob}

theorem decompJobs_idle (h : (advance t s).egress.jobs = []) :
    Does (.decompJobStart t) s (advance t s) ∧ Does (.decompJobEnd t) s (advance t s) := by
  refine ⟨does_act (show _ = execDecompJobStart t s from rfl) ?_,
    does_act (show _ = execDecompJobEnd t s from rfl) ?_⟩
  · simp only [h]
    exact .rfl' _
  · simp only [h]
    exact .rfl' _

section
variable (hjobs : (advance t s).egress.jobs = j :: rest)
include hjobs

theorem decompJobStart_of_started (hrun : j.started = true) : Does (.decompJobStart t) s (advance t s) := by
  refine does_act (show _ = execDecompJobStart t s from rfl) ?_
  simp only [hjobs, if_pos hrun]
  exact .rfl' _

theorem decompJobStart_starts (hwait : j.started = false) (hsound : jobRefusal j (advance t s) = none) :
    Does (.decompJobStart t) s (setJobs ({ j with started := true } :: rest) (advance t s)) := by
  refine does_act (show _ = execDecompJobStart t s from rfl) ?_
  simp only [hjobs, if_neg (ne_true_of_eq_false hwait), hsound]
  exact .rfl' _

theorem exec_decompJobStart_of_refused {r : Nat} (hwait : j.started = false)
    (hbad : jobRefusal j (advance t s) = some r) :
    exec (.decompJobStart t) s = .next (settle (endJob j 0 r (setJobs rest (advance t s)))) := by
  refine (show _ = execDecompJobStart t s from rfl).trans ?_
  simp only [execDecompJobStart, act, hjobs, if_neg (ne_true_of_eq_false hwait), hbad]

theorem decompJobEnd_of_waiting (hwait : j.started = false) : Does (.decompJobEnd t) s (advance t s) := by
  refine does_act (show _ = execDecompJobEnd t s from rfl) ?_
  simp only [hjobs, hwait, Bool.not_false, if_true]
  exact .rfl' _

theorem exec_decompJobEnd_of_out (hrun : j.started = true) (hout : (advance t s).egress.decompOut = true) :
    exec (.decompJobEnd t) s = .next (settle (endJob j 0 3 (setJobs rest (advance t s)))) := by
  refine (show _ = execDecompJobEnd t s from rfl).trans ?_
  simp only [execDecompJobEnd, act, hjobs, hrun, hout, Bool.not_true, Bool.false_eq_true, if_false, if_true]

theorem exec_decompJobEnd_of_in_service (hrun : j.started = true)
    (hin : (advance t s).egress.decompOut = false) :
    let out := decodeJob j.outLen (j.input.length + 1) j.input []
    let w := writeOutput j out.1 (advance t s)
    exec (.decompJobEnd t) s =
      .next (settle (endJob j w.1 (if w.2.1 then out.2 else 3) (setJobs rest w.2.2))) := by
  refine (show _ = execDecompJobEnd t s from rfl).trans ?_
  simp only [execDecompJobEnd, act, hjobs, hrun, hin, Bool.not_true, Bool.false_eq_true, if_false]

end

end

/-- Settles O31: the queue's head by whether it runs and what R273's check says, and the end of a running job by
whether the decompressor is in service. -/
theorem decompressionJobsRunInOrder : Obligations.DecompressionJobsRunInOrder := by
  unfold Obligations.DecompressionJobsRunInOrder
  refine ⟨fun t s => ⟨decompJobs_idle, fun j rest hjobs => ⟨decompJobStart_of_started hjobs,
      decompJobStart_starts hjobs, fun r hwait hbad => ?_, decompJobEnd_of_waiting hjobs, fun hrun hout => ?_,
      exec_decompJobEnd_of_in_service hjobs⟩⟩,
    fun j x => ⟨jobRefusal_of_expansion, jobRefusal_of_bad_descriptor, sound_of_jobRefusal_eq_none,
      refuses_of_jobRefusal_eq_three⟩,
    fun j n r x => congrArg EgressS.jobs (endJob_keeps j n r x).1⟩
  · obtain ⟨hrest, hcounted, hnoted, hmem, hforce⟩ := jobTakenOff_settle_endJob j rest 0 r (advance t s)
    have hexec := exec_decompJobStart_of_refused hjobs hwait hbad
    exact ⟨hexec, leads_of_exec hexec ⟨hrest, hcounted, hnoted, hmem, hforce⟩⟩
  · obtain ⟨hrest, hcounted, -, hmem, hforce⟩ := jobTakenOff_settle_endJob j rest 0 3 (advance t s)
    exact leads_of_exec (exec_decompJobEnd_of_out hjobs hrun hout) ⟨hrest, hcounted, hmem, hforce⟩

end Sys2Proof.Machine
end

section
/-! Admission (R285, R294 to R298): its three outcomes, the shed that it finds and the length of its report. -/

namespace Sys2Proof.Machine

/-! ### The report (R295) -/

theorem length_natLE (n v : Nat) : (natLE n v).length = n := by
  induction n generalizing v with
  | zero => rfl
  | succ n ih => exact congrArg (· + 1) (ih _)

theorem length_natBE (n v : Nat) : (natBE n v).length = n := by rw [natBE, List.length_reverse, length_natLE]

theorem length_report (outcome reason : Nat) (p : Plan) (id : Nat) (f : Figures) :
    (report outcome reason p id f).length = 48 := by
  unfold report
  repeat rw [List.length_append]
  repeat rw [length_natBE]

theorem length_invalidReport (reason listed : Nat) : (invalidReport reason listed).length = 48 := by
  simp only [invalidReport, List.length_append, length_natBE, List.length_replicate]

theorem length_admitPlan_report (p : Plan) (id : Nat) (trans : Plan → Nat) (force : Bool) (s : State) :
    (admitPlan p id trans force s).report.length = 48 := by
  unfold admitPlan
  extract_lets code f policy found
  split
  · exact length_invalidReport ..
  · split
    · exact length_report ..
    · cases found with
      | none => exact length_report ..
      | some w => exact length_report ..

/-! ### What SHED_CHANNELS may leave of a list (R297) -/

/-- Of the channels `m` the channels `l` are kept, and every channel dropped has a higher number than they. -/
structure KeepsLowest (l m : List Nat) : Prop where
  sublist : l.Sublist m
  lower : ∀ c ∈ m, c ∉ l → ∀ k ∈ l, k < c

theorem max?_eq_foldl {l : List Nat} (h : l ≠ []) : l.max? = some (l.foldl max 0) := by
  cases l with
  | nil => exact absurd rfl h
  | cons x r => rw [List.max?_cons', List.foldl_cons, Nat.zero_max]

/-- The channel that goes is the highest of the list. -/
theorem highest_mem_and_le {l : List Nat} (h : l ≠ []) : l.foldl max 0 ∈ l ∧ ∀ k ∈ l, k ≤ l.foldl max 0 :=
  List.max?_eq_some_iff.1 (max?_eq_foldl h)

theorem length_dropHighest {m : List Nat} (h : m ≠ []) : (dropHighest m).length + 1 = m.length := by
  have hlen : (dropHighest m).length = m.length - 1 := List.length_erase_of_mem (highest_mem_and_le h).1
  have hpos := List.length_pos_iff.2 h
  omega

namespace KeepsLowest

variable {l m n : List Nat}

theorem trans (h : KeepsLowest l m) (h' : KeepsLowest m n) : KeepsLowest l n where
  sublist := h.sublist.trans h'.sublist
  lower c hc hl k hk := by
    by_cases hm : c ∈ m
    · exact h.lower c hm hl k hk
    · exact h'.lower c hc hm k (h.sublist.subset hk)

theorem of_dropHighest (hm : m ≠ []) (hnodup : m.Nodup) : KeepsLowest (dropHighest m) m where
  sublist := List.erase_sublist
  lower c hc hdropped k hk := by
    have hc_highest : c = m.foldl max 0 :=
      Decidable.not_not.1 fun hne => hdropped ((List.mem_erase_of_ne hne).2 hc)
    obtain ⟨hne, hmem⟩ := hnodup.mem_erase_iff.1 hk
    exact hc_highest ▸ Nat.lt_of_le_of_ne ((highest_mem_and_le hm).2 k hmem) hne

/-- Whatever keeps fewer channels drops the highest. -/
theorem highest_notMem (h : KeepsLowest l m) (hm : m ≠ []) (hnodup : m.Nodup) (hlt : l.length < m.length) :
    m.foldl max 0 ∉ l := by
  intro hkept
  have hsubset : m ⊆ l := fun c hc => Decidable.not_not.1 fun hdropped =>
    Nat.not_lt.2 ((highest_mem_and_le hm).2 c hc) (h.lower c hc hdropped _ hkept)
  exact Nat.not_lt.2 (hnodup.length_le_of_subset hsubset) hlt

theorem dropHighest (h : KeepsLowest l m) (hm : m ≠ []) (hnodup : m.Nodup) (hlt : l.length < m.length) :
    KeepsLowest l (dropHighest m) where
  sublist := List.erase_of_not_mem (h.highest_notMem hm hnodup hlt) ▸ h.sublist.erase (m.foldl max 0)
  lower c hc := h.lower c (List.mem_of_mem_erase hc)

end KeepsLowest

/-! ### The sheds (R297, R298) -/

/-- The first budget that a candidate fails, 0 when all hold. -/
def Plan.firstFail (trans : Plan → Nat) (s : State) (q : Plan) : Nat := (q.figures (trans q) s).fails

/-- A plan under SHED_CHANNELS with these channels. -/
def Plan.withChannels (p : Plan) (l : List Nat) : Plan := { p with channels := l, shed := 1 }

/-- A plan under SHED_BLOCKS with this n. -/
def Plan.skipping (p : Plan) (n : Nat) : Plan := { p with skipN := n, shed := 2 }

section
variable {trans : Plan → Nat} {s : State}

/-- `q` is `p` under the smallest SHED_CHANNELS for which every budget holds. -/
structure SmallestShed (trans : Plan → Nat) (s : State) (p q : Plan) : Prop where
  plan : q = p.withChannels q.channels
  nonempty : q.channels ≠ []
  lowest : KeepsLowest q.channels p.channels
  fewer : q.channels.length < p.channels.length
  fits : q.firstFail trans s = 0
  smallest : ∀ l, KeepsLowest l p.channels → q.channels.length < l.length → l.length < p.channels.length →
    (p.withChannels l).firstFail trans s ≠ 0

section
variable {p : Plan} (hchannels : 1 < p.channels.length) (hnodup : p.channels.Nodup)
include hchannels hnodup

/-- One channel fewer is the smallest shed where it is enough. -/
theorem smallestShed_of_fits (hfits : (p.withChannels (dropHighest p.channels)).firstFail trans s = 0) :
    SmallestShed trans s p (p.withChannels (dropHighest p.channels)) := by
  have hne : p.channels ≠ [] := List.ne_nil_of_length_pos (by omega)
  have hlen := length_dropHighest hne
  exact
    { plan := rfl
      nonempty := List.ne_nil_of_length_pos (show 0 < (dropHighest p.channels).length by omega)
      lowest := .of_dropHighest hne hnodup
      fewer := show (dropHighest p.channels).length < _ by omega
      fits := hfits
      smallest := fun l _ (hmore : (dropHighest p.channels).length < _) hfewer => by omega }

/-- Where one channel fewer is not enough, the smallest shed from there on is the smallest of all. -/
theorem SmallestShed.of_next (hfails : (p.withChannels (dropHighest p.channels)).firstFail trans s ≠ 0) {q : Plan}
    (h : SmallestShed trans s (p.withChannels (dropHighest p.channels)) q) : SmallestShed trans s p q := by
  have hne : p.channels ≠ [] := List.ne_nil_of_length_pos (by omega)
  have hlen := length_dropHighest hne
  have hfewer : q.channels.length < (dropHighest p.channels).length := h.fewer
  refine ⟨h.plan, h.nonempty, h.lowest.trans (.of_dropHighest hne hnodup), by omega, h.fits, fun l hl hmore hless => ?_⟩
  have hnext : KeepsLowest l (dropHighest p.channels) := hl.dropHighest hne hnodup hless
  rcases Nat.lt_or_eq_of_le hnext.sublist.length_le with hlt | heq
  · exact h.smallest l hnext hmore hlt
  · exact hnext.sublist.eq_of_length heq ▸ hfails

end

theorem smallestShed_of_shedChannels {n : Nat} {p q : Plan} {f : Figures} (hnodup : p.channels.Nodup)
    (h : shedChannels trans s n p = some (q, f)) : SmallestShed trans s p q := by
  induction n generalizing p with
  | zero => exact absurd h nofun
  | succ n ih =>
    unfold shedChannels at h
    split at h
    · exact absurd h nofun
    next hc =>
      have hchannels : 1 < p.channels.length := Nat.not_le.1 hc
      extract_lets p1 f1 at h
      split at h
      next hfits =>
        obtain ⟨rfl, -⟩ := Prod.mk.inj (Option.some.inj h)
        exact smallestShed_of_fits hchannels hnodup hfits
      next hfails =>
        exact .of_next hchannels hnodup hfails (ih (hnodup.sublist List.erase_sublist) h)

theorem shedBlocks_eq (p : Plan) : shedBlocks p trans s =
    ((List.range 8).find? fun i => (p.skipping (i + 1)).firstFail trans s == 0).map fun i =>
      (p.skipping (i + 1), (p.skipping (i + 1)).figures (trans (p.skipping (i + 1))) s) := List.find?_map ..

/-- No n is found exactly when there is none for which every budget holds. -/
theorem shedBlocks_eq_none_iff {p : Plan} : shedBlocks p trans s = none ↔
    ∀ n, 1 ≤ n → n ≤ 8 → (p.skipping n).firstFail trans s ≠ 0 := by
  rw [shedBlocks_eq, Option.map_eq_none_iff, List.find?_eq_none]
  constructor
  · intro h n hpos hle
    have hn := h (n - 1) (List.mem_range.2 (by omega))
    rw [Nat.sub_add_cancel hpos] at hn
    simpa using hn
  · intro h i hi
    have hi := h (i + 1) (by omega) (Nat.succ_le_of_lt (List.mem_range.1 hi))
    simpa using hi

/-- The n found is the smallest for which every budget holds. -/
theorem smallest_of_shedBlocks {p q : Plan} {f : Figures} (h : shedBlocks p trans s = some (q, f)) :
    ∃ n, 1 ≤ n ∧ n ≤ 8 ∧ q = p.skipping n ∧ (p.skipping n).firstFail trans s = 0 ∧
      ∀ m, 1 ≤ m → m < n → (p.skipping m).firstFail trans s ≠ 0 := by
  rw [shedBlocks_eq] at h
  obtain ⟨i, hfound, hi⟩ := Option.map_eq_some_iff.1 h
  obtain ⟨hfits, hrange, hbefore⟩ := List.find?_range_eq_some.1 hfound
  refine ⟨i + 1, by omega, Nat.succ_le_of_lt (List.mem_range.1 hrange), (congrArg Prod.fst hi).symm,
    by simpa using hfits, fun m hpos hlt => ?_⟩
  have hm := hbefore (m - 1) (by omega)
  rw [Nat.sub_add_cancel hpos] at hm
  simpa using hm

/-- What admission without a readmission's force finds for a plan that fails a budget (R296). -/
def Plan.shedFound (p : Plan) (trans : Plan → Nat) (s : State) : Option (Plan × Figures) :=
  if p.par0 .planShedPolicy = 1 then shedChannels trans s p.c p
  else if p.par0 .planShedPolicy = 2 then shedBlocks p trans s else none

theorem shedFound_of_none {p : Plan} (h : p.par0 .planShedPolicy = 0) : p.shedFound trans s = none := by
  simp [Plan.shedFound, h]

theorem shedFound_of_channels {p : Plan} (h : p.par0 .planShedPolicy = 1) :
    p.shedFound trans s = shedChannels trans s p.c p := if_pos h

theorem shedFound_of_blocks {p : Plan} (h : p.par0 .planShedPolicy = 2) :
    p.shedFound trans s = shedBlocks p trans s := by
  simp [Plan.shedFound, h]

/-! ### The outcomes (R294) -/

section
variable {p : Plan} {id : Nat}

theorem admitPlan_of_invalid (h : p.validity ≠ 0) :
    admitPlan p id trans false s = ⟨2, p.validity, invalidReport p.validity p.c0, none⟩ := if_pos h

section
variable (hvalid : p.validity = 0)
include hvalid

theorem admitPlan_of_fits (hfits : p.firstFail trans s = 0) :
    let f := p.figures (trans p) s
    admitPlan p id trans false s = ⟨0, 0, report 0 0 p id f, some { p with skew := skewTicks f.skew }⟩ :=
  (if_neg (Decidable.not_not.2 hvalid)).trans (if_pos hfits)

section
variable (hfails : p.firstFail trans s ≠ 0)
include hfails

theorem admitPlan_of_shed {q : Plan} {f : Figures} (hshed : p.shedFound trans s = some (q, f)) :
    admitPlan p id trans false s = ⟨1, p.firstFail trans s, report 1 (p.firstFail trans s) q id f,
      some { q with skew := skewTicks f.skew }⟩ := by
  unfold admitPlan
  extract_lets code g policy found
  have hfound : found = some (q, f) := hshed
  refine (if_neg (Decidable.not_not.2 hvalid)).trans ((if_neg hfails).trans ?_)
  simp only [hfound]
  rfl

theorem admitPlan_of_no_shed (hshed : p.shedFound trans s = none) :
    admitPlan p id trans false s =
      ⟨2, p.firstFail trans s, report 2 (p.firstFail trans s) p id (p.figures (trans p) s), none⟩ := by
  unfold admitPlan
  extract_lets code g policy found
  have hfound : found = none := hshed
  refine (if_neg (Decidable.not_not.2 hvalid)).trans ((if_neg hfails).trans ?_)
  simp only [hfound]
  rfl

end

end

end

end

/-- Settles O33: by the validity checks, by the budgets of the plan as submitted, and by what shedding finds. -/
theorem admissionEndsInOneOfThreeOutcomes : Obligations.AdmissionEndsInOneOfThreeOutcomes := by
  unfold Obligations.AdmissionEndsInOneOfThreeOutcomes
  intro p id trans x a fails
  refine ⟨length_admitPlan_report .., fun hinvalid => ?_, fun hvalid hfits => ?_, fun hvalid hfails => ?_⟩
  · have ha : a = _ := admitPlan_of_invalid hinvalid
    rw [ha]
    exact ⟨rfl, rfl, rfl⟩
  · have ha : a = _ := admitPlan_of_fits hvalid hfits
    rw [ha]
    exact ⟨rfl, rfl, _, rfl⟩
  · cases hshed : p.shedFound trans x with
    | none =>
      have ha : a = _ := admitPlan_of_no_shed hvalid hfails hshed
      rw [ha]
      refine ⟨rfl, .inr ⟨rfl, rfl⟩, fun _ => rfl, fun hblocks => ⟨⟨fun _ => ?_, fun _ => rfl⟩, nofun⟩,
        fun _ _ => nofun⟩
      exact shedBlocks_eq_none_iff.1 ((shedFound_of_blocks hblocks).symm.trans hshed)
    | some w =>
      obtain ⟨q, f⟩ := w
      have ha : a = _ := admitPlan_of_shed hvalid hfails hshed
      rw [ha]
      refine ⟨rfl, .inl ⟨rfl, nofun⟩, fun hnone => ?_, fun hblocks => ?_, fun hchannels hnodup r hr => ?_⟩
      · exact absurd ((shedFound_of_none hnone).symm.trans hshed) nofun
      · obtain ⟨n, hpos, hle, rfl, hfits, hbefore⟩ :=
          smallest_of_shedBlocks ((shedFound_of_blocks hblocks).symm.trans hshed)
        refine ⟨⟨fun h => absurd h (show 1 ≠ 2 by decide), fun h => absurd hfits (h n hpos hle)⟩, fun r hr => ?_⟩
        obtain rfl := Option.some.inj hr
        exact ⟨hpos, hle, rfl, hfits, hbefore⟩
      · have h := smallestShed_of_shedChannels hnodup ((shedFound_of_channels hchannels).symm.trans hshed)
        obtain rfl := Option.some.inj hr
        exact ⟨congrArg (fun r : Plan => { r with skew := skewTicks f.skew }) h.plan, h.nonempty, h.lowest.sublist,
          h.fewer, h.lowest.lower, h.plan ▸ h.fits, fun l hl hlower => h.smallest l ⟨hl, hlower⟩⟩

end Sys2Proof.Machine
end

section
/-! ZCP_PLAN_CHECK, ZCP_PLAN_COMMIT, ZCP_PLAN_CANCEL and ZCP_CAPACITY_RECORD (R282 to R284, R300 to R302, R306,
R307). -/

namespace Sys2Proof.Machine

/-- The admission that ZCP_PLAN_COMMIT asks for (R283). -/
def commitAdmission (s : State) : Admission := admitPlan (stagedPlan s) (nextPlanId s) (transition s) false s

/-- The state with a commit of a plan scheduled (R282, R306). -/
def scheduled (p : Plan) (sc : Nat) (s : State) : State :=
  { s with plan := { s.plan with
      next := some { p with
        id := nextPlanId s
        epoch := s.plan.lastEpoch + 1
        commit := s.plan.lastEpoch + 1
        sc := sc
        freshBanks := needsFresh p s }
      pointPassed := false
      lastEpoch := s.plan.lastEpoch + 1 } }

/-- The state with no commit scheduled. -/
def cancelled (s : State) : State := { s with plan := { s.plan with next := none } }

/-- The boundary that a commit asks for: the one that it names, else NEXT_INTEGRATION (R302). -/
def AsksFor (at_ : Option Nat) (p : Plan) (sc : Nat) (s : State) : Prop :=
  at_ = some sc ∨ at_ = none ∧ nextIntegration p s = some sc

/-! ### What these commands read lies outside the sessions -/

section
variable {x y : State} (h : restZ y = restZ x)
include h

theorem plan_of_restZ : y.plan = x.plan := (congrArg State.plan h :)

theorem time_of_restZ : y.time = x.time := (congrArg State.time h :)

theorem figures_of_restZ (p : Plan) (trans : Nat) : p.figures trans y = p.figures trans x := by
  show p.figures trans (restZ y) = p.figures trans (restZ x)
  rw [h]

theorem shedChannels_of_restZ (trans : Plan → Nat) (n : Nat) (p : Plan) :
    shedChannels trans y n p = shedChannels trans x n p := by
  induction n generalizing p with
  | zero => rfl
  | succ n ih => simp only [shedChannels, figures_of_restZ h, ih]

theorem shedBlocks_of_restZ (p : Plan) (trans : Plan → Nat) : shedBlocks p trans y = shedBlocks p trans x := by
  simp only [shedBlocks, figures_of_restZ h]

theorem admitPlan_of_restZ (p : Plan) (id : Nat) (trans : Plan → Nat) (force : Bool) :
    admitPlan p id trans force y = admitPlan p id trans force x := by
  simp only [admitPlan, figures_of_restZ h, shedChannels_of_restZ h, shedBlocks_of_restZ h]

theorem commitAdmission_of_restZ : commitAdmission y = commitAdmission x := by
  rw [commitAdmission, admitPlan_of_restZ h]
  show admitPlan (stagedPlan (restZ y)) (nextPlanId (restZ y)) (transition (restZ y)) false x = _
  rw [h]
  rfl

theorem boundaryOk_of_restZ (p : Plan) (sc : Nat) : boundaryOk p sc y = boundaryOk p sc x := by
  show boundaryOk p sc (restZ y) = boundaryOk p sc (restZ x)
  rw [h]

theorem leadOk_of_restZ (sc : Nat) : leadOk sc y = leadOk sc x := by
  show leadOk sc (restZ y) = leadOk sc (restZ x)
  rw [h]

theorem nextIntegration_of_restZ (p : Plan) : nextIntegration p y = nextIntegration p x := by
  show nextIntegration p (restZ y) = nextIntegration p (restZ x)
  rw [h]

theorem asksFor_of_restZ {at_ : Option Nat} {p : Plan} {sc : Nat} (hx : AsksFor at_ p sc x) : AsksFor at_ p sc y := by
  rwa [AsksFor, nextIntegration_of_restZ h]

theorem scheduled_of_restZ (p : Plan) (sc : Nat) : restZ (scheduled p sc y) = restZ (scheduled p sc x) :=
  congrArg (scheduled p sc) h

theorem cancelled_of_restZ : restZ (cancelled y) = restZ (cancelled x) := congrArg cancelled h

theorem scTide_of_restZ (sc : Nat) : scTide sc y = scTide sc x := by
  show scTide sc (restZ y) = scTide sc (restZ x)
  rw [h]

end

/-! ### ZCP_PLAN_COMMIT by what it finds (R283, R300 to R307) -/

section
variable {at_ : Option Nat} {c : Ctx} {s : State}

theorem planCommit_of_pending (h : s.plan.next ≠ none) : planCommit at_ c s = refuse rCommitPending s :=
  if_pos (Option.isSome_iff_ne_none.2 h)

section
variable (hnext : s.plan.next = none)
include hnext

theorem planCommit_of_refused (h : (commitAdmission s).plan = none) :
    planCommit at_ c s = answer rRefused (commitAdmission s).report s := by
  unfold planCommit
  extract_lets a
  have ha : a.plan = none := h
  simp only [hnext, Option.isSome_none, ha]
  rfl

section
variable {p : Plan} (hplan : (commitAdmission s).plan = some p)
include hplan

theorem planCommit_of_no_boundary (hat : at_ = none) (h : nextIntegration p s = none) :
    planCommit at_ c s = refuse rBadBoundary s := by
  unfold planCommit
  extract_lets a
  have ha : a.plan = some p := hplan
  simp only [hnext, Option.isSome_none, ha, hat, h]
  rfl

/-- With a boundary, its place and its lead decide (R300, R301, R307). -/
theorem planCommit_of_boundary {sc : Nat} (h : AsksFor at_ p sc s) : ∃ b, planCommit at_ c s =
    if boundaryOk p sc s = false then refuse rBadBoundary s
    else if leadOk sc s = false then refuse rCommitLate s
    else answer rOk b (scheduled p sc s) := by
  unfold planCommit
  extract_lets a
  have ha : a.plan = some p := hplan
  rcases h with hat | ⟨hat, hsc⟩
  · simp only [hnext, Option.isSome_none, ha, hat, Bool.not_eq_true']
    exact ⟨_, rfl⟩
  · simp only [hnext, Option.isSome_none, ha, hat, hsc, Bool.not_eq_true']
    exact ⟨_, rfl⟩

/-- The same in a state that differs in sessions and reports. -/
theorem planCommit_judges {sc : Nat} (h : AsksFor at_ p sc s) {y : State} (hy : restZ y = restZ s) :
    ∃ b, planCommit at_ c y =
      if boundaryOk p sc s = false then refuse rBadBoundary y
      else if leadOk sc s = false then refuse rCommitLate y
      else answer rOk b (scheduled p sc y) := by
  rw [← boundaryOk_of_restZ hy, ← leadOk_of_restZ hy]
  exact planCommit_of_boundary ((plan_of_restZ hy).symm ▸ hnext) ((commitAdmission_of_restZ hy).symm ▸ hplan)
    (asksFor_of_restZ hy h)

end

end

end

/-! ### ZCP_PLAN_CANCEL by what it finds (R306, R307) -/

section
variable {c : Ctx} {s : State}

theorem planCancel_of_none (h : s.plan.next = none) : planCancel c s = refuse rNotFound s := by
  rw [planCancel, h]

section
variable {p : Plan} (hnext : s.plan.next = some p)
include hnext

theorem planCancel_of_late (h : s.plan.pointPassed = true ∨ scTide p.sc s ≤ s.time.tide + msT 20) :
    planCancel c s = refuse rCancelLate s := by
  simp only [planCancel, hnext, if_pos h]

theorem planCancel_of_early (hpoint : s.plan.pointPassed = false) (htime : s.time.tide + msT 20 < scTide p.sc s) :
    planCancel c s = answer rOk [] (cancelled s) := by
  unfold planCancel
  simp only [hnext]
  exact if_neg (by simp [hpoint, htime])

end

end

/-! ### The answers -/

theorem sized_of_length (body : Ctx → State → Res) {n : Nat} {c : Ctx} (h : c.payload.length = n) (s : State) :
    sized n body c s = body c s := if_pos h

section
variable {t : Nat} {d : Dgram} {s : State}

/-- A command without a payload is answered as its body answers. -/
theorem answers_of_sized {i : Instr} {typ code : Nat} {body : Ctx → State → Res} {z : State}
    (hx : exec i s = zcp typ (sized 0 body) t d s) (hd : Accepted typ d (advance t s)) (htyp : typ ≠ 0x0A03)
    (hlen : d.payload.length = 0) (hbody : ∀ y, restZ y = restZ (advance t s) →
      ∃ b y', body d.ctx y = answer code b y' ∧ restZ y' = restZ z) : Answers i d code s z :=
  answers_of hx hd htyp fun y hy => sized_of_length body (c := d.ctx) hlen y ▸ hbody y hy

theorem zcpPlanCheck_answers (hd : Accepted 0x0202 d (advance t s)) (hlen : d.payload.length = 0) :
    Answers (.zcpPlanCheck t d) d rOk s (advance t s) :=
  answers_of_sized (show _ = execZcpPlanCheck t d s from rfl) hd (by decide) hlen fun y hy => ⟨_, y, rfl, hy⟩

theorem zcpCapacityRecord_answers (hd : Accepted 0x0205 d (advance t s)) (hlen : d.payload.length = 0) :
    Answers (.zcpCapacityRecord t d) d rOk s (advance t s) :=
  answers_of_sized (show _ = execZcpCapacityRecord t d s from rfl) hd (by decide) hlen fun y hy => ⟨_, y, rfl, hy⟩

section
variable (hd : Accepted 0x0204 d (advance t s)) (hlen : d.payload.length = 0)
include hd hlen

theorem zcpPlanCancel_of_none (hnext : (advance t s).plan.next = none) :
    Answers (.zcpPlanCancel t d) d rNotFound s (advance t s) :=
  answers_of_sized (show _ = execZcpPlanCancel t d s from rfl) hd (by decide) hlen fun y hy =>
    ⟨[], y, planCancel_of_none ((plan_of_restZ hy).symm ▸ hnext), hy⟩

section
variable {p : Plan} (hnext : (advance t s).plan.next = some p)
include hnext

theorem zcpPlanCancel_of_late (hlate : (advance t s).plan.pointPassed = true ∨
      scTide p.sc (advance t s) ≤ (advance t s).time.tide + msT 20) :
    Answers (.zcpPlanCancel t d) d 0x23 s (advance t s) := by
  refine answers_of_sized (show _ = execZcpPlanCancel t d s from rfl) hd (by decide) hlen fun y hy => ⟨[], y, ?_, hy⟩
  exact planCancel_of_late ((plan_of_restZ hy).symm ▸ hnext)
    (by rwa [plan_of_restZ hy, scTide_of_restZ hy, time_of_restZ hy])

theorem zcpPlanCancel_of_early (hpoint : (advance t s).plan.pointPassed = false)
    (htime : (advance t s).time.tide + msT 20 < scTide p.sc (advance t s)) :
    Answers (.zcpPlanCancel t d) d rOk s (cancelled (advance t s)) := by
  refine answers_of_sized (show _ = execZcpPlanCancel t d s from rfl) hd (by decide) hlen fun y hy =>
    ⟨[], cancelled y, ?_, cancelled_of_restZ hy⟩
  exact planCancel_of_early ((plan_of_restZ hy).symm ▸ hnext) ((plan_of_restZ hy).symm ▸ hpoint)
    (by rwa [scTide_of_restZ hy, time_of_restZ hy])

end

end

section
variable {at_ : Option Nat} (hd : Accepted 0x0203 d (advance t s))
  (hlen : d.payload.length = Config.payloadLength 0x0203)
include hd hlen

/-- A commit's answer is that of its body. -/
theorem zcpPlanCommit_answers {code : Nat} {z : State} (hbody : ∀ y, restZ y = restZ (advance t s) →
      ∃ b y', planCommit at_ d.ctx y = answer code b y' ∧ restZ y' = restZ z) :
    Answers (.zcpPlanCommit t d at_) d code s z := by
  refine answers_of (show _ = execZcpPlanCommit t d at_ s from rfl) hd (by decide) fun y hy => ?_
  rw [laid_of_length _ (hlen.trans (congrArg Config.payloadLength hd.typ.symm))]
  exact hbody y hy

theorem zcpPlanCommit_of_pending (h : (advance t s).plan.next ≠ none) :
    Answers (.zcpPlanCommit t d at_) d 0x22 s (advance t s) :=
  zcpPlanCommit_answers hd hlen fun y hy => ⟨[], y, planCommit_of_pending ((plan_of_restZ hy).symm ▸ h), hy⟩

section
variable (hnext : (advance t s).plan.next = none)
include hnext

theorem zcpPlanCommit_of_refused (h : (commitAdmission (advance t s)).plan = none) :
    Answers (.zcpPlanCommit t d at_) d rRefused s (advance t s) :=
  zcpPlanCommit_answers hd hlen fun y hy => ⟨_, y,
    planCommit_of_refused ((plan_of_restZ hy).symm ▸ hnext) ((commitAdmission_of_restZ hy).symm ▸ h), hy⟩

section
variable {p : Plan} (hplan : (commitAdmission (advance t s)).plan = some p)
include hplan

theorem zcpPlanCommit_of_no_boundary (hat : at_ = none) (h : nextIntegration p (advance t s) = none) :
    Answers (.zcpPlanCommit t d at_) d 0x20 s (advance t s) :=
  zcpPlanCommit_answers hd hlen fun y hy => ⟨[], y, planCommit_of_no_boundary ((plan_of_restZ hy).symm ▸ hnext)
    ((commitAdmission_of_restZ hy).symm ▸ hplan) hat ((nextIntegration_of_restZ hy p).trans h), hy⟩

section
variable {sc : Nat} (hsc : AsksFor at_ p sc (advance t s))
include hsc

theorem zcpPlanCommit_of_bad_boundary (hbad : boundaryOk p sc (advance t s) = false) :
    Answers (.zcpPlanCommit t d at_) d 0x20 s (advance t s) := by
  refine zcpPlanCommit_answers hd hlen fun y hy => ⟨[], y, ?_, hy⟩
  obtain ⟨b, hb⟩ := planCommit_judges hnext hplan hsc hy
  exact hb.trans (if_pos hbad)

section
variable (hok : boundaryOk p sc (advance t s) = true)
include hok

theorem zcpPlanCommit_of_late (hlate : leadOk sc (advance t s) = false) :
    Answers (.zcpPlanCommit t d at_) d 0x21 s (advance t s) := by
  refine zcpPlanCommit_answers hd hlen fun y hy => ⟨[], y, ?_, hy⟩
  obtain ⟨b, hb⟩ := planCommit_judges hnext hplan hsc hy
  exact hb.trans ((if_neg (ne_false_of_eq_true hok)).trans (if_pos hlate))

theorem zcpPlanCommit_of_lead (hlead : leadOk sc (advance t s) = true) :
    Answers (.zcpPlanCommit t d at_) d rOk s (scheduled p sc (advance t s)) := by
  refine zcpPlanCommit_answers hd hlen fun y hy => ?_
  obtain ⟨b, hb⟩ := planCommit_judges hnext hplan hsc hy
  exact ⟨b, _, hb.trans ((if_neg (ne_false_of_eq_true hok)).trans (if_neg (ne_false_of_eq_true hlead))),
    scheduled_of_restZ hy p sc⟩

end

end

end

end

end

end

end Sys2Proof.Machine
end

section
/-! COMMIT_POINT (R281, R306, R313, R344, R354). -/

namespace Sys2Proof.Machine

/-! ### Domains that are switched on (R569) -/

theorem switchOn_of_off {pd : Nat} {s : State} (hoff : domain pd s = .off) (hruns : stopped s = false) :
    switchOn pd s = setDomain pd .waking s := if_pos ⟨hoff, by simp [hruns]⟩

theorem switchOn_of_not_off {pd : Nat} {s : State} (h : domain pd s ≠ .off) : switchOn pd s = s :=
  if_neg fun hon => h hon.1

/-- A domain that is switched on leaves what no domain's state bears on. -/
theorem switchOn_keeps {β : Type} {π : State → β} (hdomain : ∀ pd v s, π (setDomain pd v s) = π s) (pd : Nat)
    (s : State) : π (switchOn pd s) = π s := by
  unfold switchOn
  split
  · exact hdomain ..
  · rfl

theorem stopped_switchOn (pd : Nat) (s : State) : stopped (switchOn pd s) = stopped s :=
  switchOn_keeps (fun _ _ _ => rfl) pd s

theorem domain_switchOn_of_ne {pd k : Nat} (h : k ≠ pd) (s : State) : domain k (switchOn pd s) = domain k s := by
  unfold switchOn
  split
  · exact domain_setDomain_of_ne _ _ h
  · rfl

/-- Of several domains that are switched on, those that are off wake. -/
theorem domain_foldl_switchOn {k : Nat} (hk : k < 40) (l : List Nat) {s : State} (hruns : stopped s = false)
    (h : domain k s = .waking ∨ domain k s = .off ∧ k ∈ l) :
    domain k (l.foldl (fun y pd => switchOn pd y) s) = .waking := by
  induction l generalizing s with
  | nil => exact h.resolve_right fun hmem => absurd hmem.2 List.not_mem_nil
  | cons pd r ih =>
    refine ih ((stopped_switchOn pd s).trans hruns) ?_
    show domain k (switchOn pd s) = .waking ∨ domain k (switchOn pd s) = .off ∧ k ∈ r
    by_cases hpd : k = pd
    · subst hpd
      rcases h with hwaking | ⟨hoff, -⟩
      · rw [switchOn_of_not_off (by rw [hwaking]; decide)]
        exact .inl hwaking
      · rw [switchOn_of_off hoff hruns]
        exact .inl (domain_setDomain_same k _ s hk)
    · rw [domain_switchOn_of_ne hpd]
      exact h.imp_right fun hoff => ⟨hoff.1, (List.mem_cons.1 hoff.2).resolve_left hpd⟩

theorem lt_of_mem_ringsInUse {p : Plan} {d r : Nat} {s : State} (hd : d < 4) (h : r ∈ ringsInUse p d s) : r < 24 := by
  obtain ⟨i, hi, rfl⟩ := List.mem_map.1 (List.mem_filter.1 (List.mem_of_mem_take h)).1
  have := List.mem_range.1 hi
  omega

theorem lt_of_mem_liveDies {d : Nat} {s : State} (h : d ∈ liveDies s) : d < 4 :=
  List.mem_range.1 (List.mem_filter.1 h).1

/-- A plan needs domains of the module only. -/
theorem lt_of_mem_needs {p : Plan} {pd : Nat} {s : State} (h : pd ∈ p.needs s) : pd < 40 := by
  unfold Plan.needs at h
  simp only [List.mem_append, List.mem_flatMap, List.mem_map, List.mem_ite_nil_left, List.mem_ite_nil_right,
    List.mem_singleton, List.mem_filter, List.mem_range] at h
  obtain ((((⟨d, hd, hr⟩ | ⟨d, hd, rfl⟩) | ⟨-, d, hd, rfl⟩) | ⟨-, rfl⟩) | ⟨-, rfl⟩) | ⟨g, ⟨hg, -⟩, rfl⟩ := h
  · have := lt_of_mem_ringsInUse (lt_of_mem_liveDies hd) hr
    omega
  · have := lt_of_mem_liveDies hd
    omega
  · have := lt_of_mem_liveDies hd
    omega
  · decide
  · decide
  · omega

/-! ### The new plan's banks (R176) -/

/-- The new plan's banks take places in DRAM and clear weights; nothing else changes but reports. -/
theorem commitBanks_rest (p : Plan) (s : State) :
    ∃ m w, rest (commitBanks p s) = rest { s with mem := m, weir := w } := by
  unfold commitBanks
  split
  · exact ⟨s.mem, _, rfl⟩
  · exact ⟨_, _, (raise_eq ..).rest⟩

/-- What a plan needs does not depend on banks and places. -/
theorem needs_commitBanks (p : Plan) (s : State) : p.needs (commitBanks p s) = p.needs s := by
  obtain ⟨m, w, h⟩ := commitBanks_rest p s
  show p.needs (rest (commitBanks p s)) = p.needs s
  rw [h]
  rfl

/-! ### Cores that stop (R344, R346) -/

section
variable {β : Type} {π : State → β} (hraise : ∀ e l s, π (raise e l s) = π s)
  (hcore : ∀ n c s, π (setCore n c s) = π s)
include hraise hcore

theorem coreState_keeps (n : Nat) (st : CoreState) (s : State) : π (coreState n st s) = π s := by
  unfold coreState
  extract_lets c s1 quiet
  split
  · exact (hraise ..).trans (hcore ..)
  · exact hcore ..

theorem stopNow_keeps (n : Nat) (s : State) : π (stopNow n s) = π s := by
  have hpass (y : State) : π (passOwner n y) = π y := by
    unfold passOwner
    extract_lets c
    split
    · rfl
    · exact hcore ..
  exact (hpass _).trans ((coreState_keeps hraise hcore ..).trans (hcore ..))

theorem askStop_keeps (n : Nat) (s : State) : π (askStop n s) = π s := by
  unfold askStop
  extract_lets c runs
  split
  · exact hcore ..
  · exact stopNow_keeps hraise hcore ..

/-- The owners of the cores under a new plan change cores alone. -/
theorem commitOwners_keeps (p : Plan) (s : State) : π (commitOwners p s) = π s := by
  refine foldl_keeps (fun x n => ?_) _ s
  extract_lets c host
  split
  · exact hcore ..
  · split
    · exact hcore ..
    · exact (askStop_keeps hraise hcore ..).trans (hcore ..)

end

/-! ### COMMIT_POINT -/

/-- The state with the commit point of a plan passed (R306). -/
def pointTaken (p : Plan) (s : State) : State :=
  { s with plan := { s.plan with next := some { p with known := s.time.tide }, pointPassed := true, lastId := p.id } }

/-- What the commit point does to units: banks, domains and cores. -/
def pointEffects (p : Plan) (s : State) : State :=
  commitStats p (commitOwners p ((p.needs (commitBanks p s)).foldl (fun y pd => switchOn pd y) (commitBanks p s)))

/-- What banks, domains and cores have no part in. -/
def besidesUnits (s : State) : PlanS × Sparse Nat × Sparse Nat × DataS × EgressS × BootS :=
  (s.plan, s.force, s.pend, s.data, s.egress, s.boot)

/-- What cores and statistics have no part in. -/
def besidesCores (s : State) : PowerS × PlanS × Sparse Nat × Sparse Nat × DataS × EgressS × BootS :=
  (s.power, besidesUnits s)

theorem besidesCores_commitOwners (p : Plan) (s : State) : besidesCores (commitOwners p s) = besidesCores s :=
  commitOwners_keeps
    (fun e l s => by
      simp only [besidesCores, besidesUnits, raise_plan, raise_power, raise_force, raise_pend, raise_data, raise_egress,
        raise_boot])
    (fun _ _ _ => rfl) p s

theorem besidesCores_commitStats (p : Plan) (s : State) : besidesCores (commitStats p s) = besidesCores s := rfl

section
variable (p : Plan) (s : State)

/-- The state with a new plan's banks, and the domains that it needs switched on. -/
def pointPowered : State := (p.needs s).foldl (fun y pd => switchOn pd y) (commitBanks p s)

theorem besidesCores_pointEffects : besidesCores (pointEffects p s) = besidesCores (pointPowered p s) := by
  rw [pointEffects, besidesCores_commitStats, besidesCores_commitOwners, needs_commitBanks, pointPowered]

theorem power_pointEffects : (pointEffects p s).power = (pointPowered p s).power :=
  (Prod.mk.inj (besidesCores_pointEffects p s)).1

theorem besidesUnits_pointEffects : besidesUnits (pointEffects p s) = besidesUnits s := by
  have hcores : besidesUnits (pointEffects p s) = besidesUnits (pointPowered p s) :=
    (Prod.mk.inj (besidesCores_pointEffects p s)).2
  have hdomains : besidesUnits (pointPowered p s) = besidesUnits (commitBanks p s) :=
    foldl_keeps (fun y pd => switchOn_keeps (π := besidesUnits) (fun _ _ _ => rfl) pd y) ..
  obtain ⟨m, w, h⟩ := commitBanks_rest p s
  exact (hcores.trans hdomains).trans (congrArg besidesUnits h :)

/-- Domains that the plan needs and that are off wake. -/
theorem domain_pointEffects {pd : Nat} (hneeds : pd ∈ p.needs s) (hoff : domain pd s = .off)
    (hruns : stopped s = false) : domain pd (pointEffects p s) = .waking := by
  obtain ⟨m, w, h⟩ := commitBanks_rest p s
  have hdomain : domain pd (commitBanks p s) = domain pd s := (congrArg (domain pd) h :)
  have hstopped : stopped (commitBanks p s) = stopped s := (congrArg stopped h :)
  rw [domain, power_pointEffects]
  exact domain_foldl_switchOn (lt_of_mem_needs hneeds) _ (hstopped.trans hruns) (.inr ⟨hdomain.trans hoff, hneeds⟩)

end

section
variable {t : Nat} {s : State}

theorem exec_commitPoint : exec (.commitPoint t) s = act t (fun x =>
    match x.plan.next with
    | none => x
    | some p =>
      if x.plan.pointPassed ∨ x.time.tide + msT 20 < scTide p.sc x then x else pointEffects p (pointTaken p x)) s := rfl

theorem commitPoint_of_none (h : (advance t s).plan.next = none) : Does (.commitPoint t) s (advance t s) := by
  refine does_act exec_commitPoint ?_
  simp only [h]
  exact .rfl' _

section
variable {p : Plan} (hnext : (advance t s).plan.next = some p)
include hnext

theorem commitPoint_idles (h : (advance t s).plan.pointPassed = true ∨
      (advance t s).time.tide + msT 20 < scTide p.sc (advance t s)) : Does (.commitPoint t) s (advance t s) := by
  refine does_act exec_commitPoint ?_
  simp only [hnext, if_pos h]
  exact .rfl' _

theorem commitPoint_passes {q : State → Prop} (hpoint : (advance t s).plan.pointPassed = false)
    (htime : scTide p.sc (advance t s) ≤ (advance t s).time.tide + msT 20)
    (h : q (settle (pointEffects p (pointTaken p (advance t s))))) : Leads (.commitPoint t) s q := by
  refine leads_act exec_commitPoint ?_
  simp only [hnext, if_neg (not_or.2 ⟨ne_true_of_eq_false hpoint, Nat.not_lt.2 htime⟩)]
  exact h

end

end

/-- Settles O34: the commands by what their bodies find, and COMMIT_POINT by whether a commit is scheduled and its point
due. -/
theorem plansAreCheckedCommittedAndCancelled : Obligations.PlansAreCheckedCommittedAndCancelled := by
  unfold Obligations.PlansAreCheckedCommittedAndCancelled
  refine ⟨fun t d s => ?check, fun t d at_ s => ?commit, fun t d s => ?cancel, fun t s => ?point⟩
  case check =>
    intro x hlen
    exact ⟨fun hd => zcpPlanCheck_answers hd hlen, fun hd => zcpCapacityRecord_answers hd hlen⟩
  case commit =>
    intro x a hd hlen
    refine ⟨zcpPlanCommit_of_pending hd hlen, fun hnext => ⟨zcpPlanCommit_of_refused hd hlen hnext, fun p hplan =>
      ⟨zcpPlanCommit_of_no_boundary hd hlen hnext hplan, fun sc hsc => ⟨?_, fun hok => ?_, fun hok => ?_⟩⟩⟩⟩
    · exact zcpPlanCommit_of_bad_boundary hd hlen hnext hplan hsc
    · exact zcpPlanCommit_of_late hd hlen hnext hplan hsc hok
    · exact zcpPlanCommit_of_lead hd hlen hnext hplan hsc hok
  case cancel =>
    intro x hd hlen
    exact ⟨zcpPlanCancel_of_none hd hlen, fun p hnext =>
      ⟨zcpPlanCancel_of_late hd hlen hnext, zcpPlanCancel_of_early hd hlen hnext⟩⟩
  case point =>
    intro x
    refine ⟨commitPoint_of_none, fun p hnext => ⟨commitPoint_idles hnext, fun hpoint htime => ?_⟩⟩
    have hkept := besidesUnits_pointEffects p (pointTaken p x)
    simp only [besidesUnits, Prod.mk.injEq] at hkept
    obtain ⟨hplan, hforce, hpend, hdata, hegress, hboot⟩ := hkept
    refine commitPoint_passes hnext hpoint htime ?_
    rw [settle_plan, settle_force, settle_pend, settle_data, settle_egress, settle_boot]
    refine ⟨hplan, fun pd hneeds hoff hruns => ?_, hforce, hpend, hdata, hegress, hboot⟩
    rw [domain, settle_power]
    exact domain_pointEffects p _ hneeds hoff hruns

end Sys2Proof.Machine
end

section
/-! COMMIT_BOUNDARY and SHED_TAKE_EFFECT (R279, R303, R305, R308, R512). -/

namespace Sys2Proof.Machine

/-! ### The values that a plan brings into force (R512) -/

section
variable {α : Type} (d : Nat → α)

theorem sGet_of_notMem {m : Sparse α} {k : Nat} (h : ∀ e ∈ m, e.1 ≠ k) : sGet d m k = d k := by
  induction m with
  | nil => rfl
  | cons e r ih =>
    exact (if_neg (h e List.mem_cons_self).symm).trans (ih fun f hf => h f (List.mem_cons_of_mem e hf))

variable [DecidableEq α]

theorem le_of_mem_of_sWfFrom {l : Sparse α} {lo : Nat} (hwf : sWfFrom d lo l = true) : ∀ e ∈ l, lo ≤ e.1 := by
  induction l generalizing lo with
  | nil => exact nofun
  | cons e r ih =>
    simp only [sWfFrom, Bool.and_eq_true, decide_eq_true_eq] at hwf
    obtain ⟨⟨hlo, -⟩, hr⟩ := hwf
    intro f hf
    rcases List.mem_cons.1 hf with rfl | hf
    · exact hlo
    · exact Nat.le_trans hlo (Nat.le_of_succ_le (ih hr f hf))

/-- Entries of a canonical store that are put where a key reads as unlisted make the key read as in the store. -/
theorem sGet_foldl_sPut_of_sWfFrom {l m : Sparse α} {lo k : Nat} (hwf : sWfFrom d lo l = true)
    (hm : sGet d m k = d k) : sGet d (l.foldl (fun m e => sPut d m e.1 e.2) m) k = sGet d l k := by
  induction l generalizing lo m with
  | nil => exact hm
  | cons e r ih =>
    have hr : sWfFrom d (e.1 + 1) r = true := by
      simp only [sWfFrom, Bool.and_eq_true] at hwf
      exact hwf.2
    by_cases hk : k = e.1
    · subst hk
      have hnot : ∀ f ∈ r, f.1 ≠ e.1 := fun f hf => Nat.ne_of_gt (le_of_mem_of_sWfFrom d hr f hf)
      exact ((sGet_foldl_sPut_of_notMem d r _ hnot).trans (sGet_sPut_same d m e.1 e.2)).trans (if_pos rfl).symm
    · exact (ih hr ((sGet_sPut_of_ne d m e.2 hk).trans hm)).trans (if_neg hk).symm

end

section
variable (p : Plan) (s : State)

theorem par0_planId_takeForce : par0 .planId (takeForce p s) = p.id := sGet_sPut_same keyReset _ _ _

/-- A COMMIT value in force is the one that the plan carried. -/
theorem par_takeForce {p : Plan} (hwf : sWf keyReset p.cfg = true) {i : Item} {inst elem : Nat} (hinst : inst < 4096)
    (helem : elem < 65536) (hcommit : i.desc.apply = 2) (hi : i ≠ .planId) :
    par i inst elem (takeForce p s) = p.par i inst elem := by
  have hitem : keyItem (itemKey i inst elem) = i := keyItem_itemKey i hinst helem
  have hkey : itemKey i inst elem ≠ itemKey .planId 0 0 := fun h =>
    hi (hitem.symm.trans ((congrArg keyItem h).trans (keyItem_itemKey .planId (by decide) (by decide))))
  have hrest : sGet keyReset (s.force.filter fun e => (keyItem e.1).desc.apply != 2) (itemKey i inst elem) =
      keyReset (itemKey i inst elem) := by
    refine sGet_of_notMem keyReset fun e he hek => ?_
    have hother := (List.mem_filter.1 he).2
    rw [hek, hitem, hcommit] at hother
    exact absurd hother (by decide)
  exact (sGet_sPut_of_ne keyReset _ _ hkey).trans (sGet_foldl_sPut_of_sWfFrom keyReset hwf hrest)

end

/-! ### What units at the boundary leave (R303, R305) -/

/-- The plans, the boot state and the parameters. -/
def planAside (s : State) : PlanS × BootS × Sparse Nat × Sparse Nat := (s.plan, s.boot, s.pend, s.force)

theorem planAside_of_restZ {x y : State} (h : restZ x = restZ y) : planAside x = planAside y :=
  (congrArg planAside h :)

section
variable (s : State)

theorem planAside_raise (e : Ev) (l : List Nat) : planAside (raise e l s) = planAside s :=
  planAside_of_restZ (raise_eq e l s).restZ

theorem planAside_fire (f : Fs) : planAside (fire f s) = planAside s := by
  rw [planAside, fire_plan, fire_boot, fire_pend, fire_force, planAside]

theorem planAside_bbWrite (kind cls code : Nat) (data : List Byte) :
    planAside (bbWrite kind cls code data s) = planAside s :=
  planAside_of_restZ (bbWrite_eq kind cls code data s).restZ

theorem planAside_complete (why : Why) (unit code : Nat) (body : List Byte) :
    planAside (complete why unit code body s) = planAside s :=
  complete_invariant (fun _ _ _ _ _ _ => planAside_of_restZ (restZ_sendReply ..)) (fun _ _ => rfl) ..

/-! #### Units that go off (R313, R569) -/

theorem planAside_coreState (n : Nat) (st : CoreState) : planAside (coreState n st s) = planAside s :=
  coreState_keeps (fun e l s => planAside_raise s e l) (fun _ _ _ => rfl) ..

theorem planAside_sluiceOff : planAside (sluiceOff s) = planAside s := by
  unfold sluiceOff
  refine (foldl_keeps (π := planAside) (fun x n => ?_) (List.range 64) _).trans (planAside_complete ..)
  exact planAside_coreState x n .off

theorem planAside_ingressDown (ports : List Nat) : planAside (ingressDown ports s) = planAside s := by
  refine foldl_keeps (fun x port => ?_) ports s
  split
  · split
    · exact planAside_raise ..
    · rfl
  · rfl

theorem planAside_endHold (e : Nat) : planAside (endHold e s) = planAside s := by
  unfold endHold
  extract_lets x
  split <;> rfl

theorem planAside_setDie (d : Nat) (v : Die) : planAside (setDie d v s) = planAside s := rfl

theorem planAside_polderOff (n : Nat) : planAside (polderOff n s) = planAside s := by
  unfold polderOff
  extract_lets p jobs s1
  have hs1 : planAside s1 = planAside s :=
    foldl_keeps (π := planAside) (fun y (j : TileJob) => planAside_setDie y (n / 42) _) jobs (clearPolder n s)
  clear_value s1
  exact hs1

theorem planAside_withWeir (w : WeirS) : planAside { s with weir := w } = planAside s := rfl

theorem planAside_clearPolder (n : Nat) : planAside (clearPolder n s) = planAside s := rfl

theorem planAside_missTaps (d slot : Nat) : planAside (missTaps d slot s) = planAside s :=
  foldl_keeps (π := planAside) (fun y _ => (rfl : planAside (count .tapMissed _ _ y) = planAside y)) _ _

theorem planAside_ledgerDue (d area epoch chan chunk : Nat) :
    planAside (ledgerDue d area epoch chan chunk s) = planAside s := rfl

theorem planAside_dropDie (d : Nat) : planAside (dropDie d s) = planAside s := by
  unfold dropDie
  extract_lets x main zoom s1 s2
  have hs1 : planAside s1 = planAside s := planAside_setDie ..
  clear_value s1
  have htaps := foldl_keeps (π := planAside) (fun y i => planAside_missTaps y d i) (List.range x.slots.length) s1
  have hs2 : planAside s2 = planAside s1 :=
    (foldl_keeps (fun y n => planAside_clearPolder y (42 * d + n)) (List.range 42) _).trans htaps
  clear_value s2
  refine (foldl_keeps (π := planAside) (fun y (l : LedgerDue) => planAside_ledgerDue y d ..) _ _).trans ?_
  exact (planAside_endHold ..).trans ((planAside_endHold ..).trans ((planAside_withWeir ..).trans (hs2.trans hs1)))

theorem planAside_dropBeams (d : Nat) : planAside (dropBeams d s) = planAside s := by
  unfold dropBeams
  extract_lets x s0 s1
  have hs0 : planAside s0 = planAside s := (planAside_endHold ..).trans (planAside_endHold ..)
  have hs1 : planAside s1 = planAside s0 := planAside_setDie ..
  clear_value s1
  exact hs1.trans hs0

theorem planAside_switchOff {pd : Nat} (hpd : pd < 38) : planAside (switchOff pd s) = planAside s := by
  have hlost (y : State) : planAside (unitLost pd y) = planAside y := by
    unfold unitLost
    rw [if_pos hpd]
    split
    · exact foldl_keeps (fun x p => planAside_polderOff x (pd * 7 + p)) _ y
    · split
      · exact planAside_dropDie ..
      · split
        · exact planAside_dropBeams ..
        · split
          · rfl
          · split
            · exact planAside_sluiceOff y
            · exact planAside_ingressDown ..
  unfold switchOff
  split
  · exact hlost _
  · rfl

theorem planAside_trimDomains : planAside (trimDomains s) = planAside s := by
  have hoff (x : State) (pd : Nat) (h : pd ∈ List.range 38) : planAside (switchOff pd x) = planAside x :=
    planAside_switchOff x (List.mem_range.1 h)
  unfold trimDomains
  split
  · rfl
  · extract_lets keep s1
    have hs1 : planAside s1 = planAside s := by
      refine List.foldlRecOn _ _ (motive := fun y => planAside y = planAside s) rfl fun x hx pd hpd => ?_
      refine Eq.trans ?_ hx
      split
      · rfl
      · split
        · split
          · exact hoff x pd hpd
          · rfl
        · exact hoff x pd hpd
    clear_value s1
    split <;> exact hs1

/-! #### Places and records (R431, R432) -/

/-- RESERVE's return to its place changes where regions lie, and nothing that they hold. -/
theorem placeReserve_eq : ∃ r l, placeReserve s = { s with mem := { s.mem with reserve := r, places := l } } := by
  unfold placeReserve
  extract_lets base
  split
  · exact ⟨_, _, rfl⟩
  · exact ⟨_, _, rfl⟩

theorem planAside_freePlaces : planAside (freePlaces s) = planAside s := by
  unfold freePlaces
  split
  · rfl
  · extract_lets busy dies old
    obtain ⟨r, l, h⟩ := placeReserve_eq { s with mem := { s.mem with oldPlaces := old } }
    exact (congrArg planAside h :)

theorem planAside_checkRecords : planAside (checkRecords s) = planAside s := by
  unfold checkRecords
  generalize (if s.boot.variant = 2 then 64 else 128) = whole
  split
  · rfl
  · extract_lets new g
    split
    · rfl
    · extract_lets s1
      have hs1 : planAside s1 = planAside s := by
        refine foldl_keeps (π := planAside) (fun x i => ?_) new s
        rfl
      split
      · rfl
      · exact (planAside_fire ..).trans hs1

/-! #### Regions, ports and pulse outputs (R48, R87, R223, R303) -/

theorem planAside_discardRegion (old : Plan) (area sc : Nat) :
    planAside (discardRegion old area sc s) = planAside s := by
  refine foldl_keeps (fun x n => ?_) _ s
  extract_lets g here lost g1 x1
  split
  · have hx1 : planAside x1 = planAside x := by
      unfold x1
      split <;> rfl
    exact (planAside_raise ..).trans hx1
  · rfl

theorem planAside_modeChanges (old : Option Plan) (p : Plan) : planAside (modeChanges old p s) = planAside s := by
  refine foldl_keeps (fun x n => ?_) _ s
  extract_lets was
  split
  · rfl
  · exact planAside_ingressDown ..

theorem planAside_linkWaits (old : Option Plan) (p : Plan) : planAside (linkWaits old p s) = planAside s := by
  refine foldl_keeps (fun x port => ?_) _ s
  split <;> rfl

theorem planAside_drive (n : Nat) (level : Bool) (at_ : Nat) : planAside (drive n level at_ s) = planAside s := by
  unfold drive
  extract_lets o
  split <;> rfl

theorem planAside_gateDeassert (o due : Nat) : planAside (gateDeassert o due s) = planAside s := by
  unfold gateDeassert
  extract_lets x s1
  have hs1 : planAside s1 = planAside s := by
    unfold s1
    split <;> rfl
  split
  · exact (planAside_drive ..).trans hs1
  · rfl

theorem planAside_gateLeave (tide o : Nat) : planAside (gateLeave tide s o) = planAside s := by
  unfold gateLeave
  simp only
  split
  · rfl
  · split
    · exact planAside_gateDeassert ..
    · rfl

theorem planAside_commitGate (p : Plan) (n : Nat) : planAside (commitGate p s n) = planAside s := by
  unfold commitGate
  extract_lets o on
  split
  · exact planAside_gateLeave ..
  · split
    · exact planAside_drive ..
    · rfl

end

/-! ### COMMIT_BOUNDARY -/

/-- The boundary of a plan with its regions placed and its ports' links looked after (R48, R87, R303, R431). -/
def boundaryLaid (p : Plan) (x : State) : State :=
  let x1 := match x.plan.running with
    | some o =>
      if p.par0 .planTransition = 1 then
        [0, 1].foldl (fun y a => if sameLayout o p a then y else discardRegion o a p.sc y) x
      else x
    | none => x
  let kinds := if p.freshBanks then [1, 2, 3, 4, 5, 6, 8, 9, 10, 11] else [1, 2, 3, 4, 5, 6, 7, 8, 9, 10, 11]
  linkWaits x.plan.running p (modeChanges x.plan.running p (checkRecords (placeRegions kinds p x1)))

/-- The plan runs after `old` (R305). -/
def boundaryRun (p : Plan) (old : Option Plan) (s : State) : State :=
  { s with
    plan := { s.plan with
      running := some p
      next := none
      pointPassed := false
      shedDue := none
      old := old.toList ++ s.plan.old }
    data := { s.data with sources := [] }
    time := { s.time with lagMin := [], lagMax := [] }
    egress := { s.egress with atCommit := s.egress.written } }

/-- Outputs in gate mode, the record of the commit and what the plans before give up (R223, R305, R431). -/
def boundaryEnded (p : Plan) (s : State) : State :=
  freeIdleChains (freePlaces (trimDomains (bbWrite 5 0 0 (natLE 4 p.id) ((List.range 8).foldl (commitGate p) s))))

/-- The commit of a plan at its boundary. -/
def boundaryTaken (p : Plan) (x : State) : State :=
  boundaryEnded p (takeForce p (restartEpochs x.plan.running p (boundaryRun p x.plan.running (boundaryLaid p x))))

section
variable (p : Plan) (s : State)

theorem planAside_boundaryLaid : planAside (boundaryLaid p s) = planAside s := by
  unfold boundaryLaid
  extract_lets x1 kinds
  have hx1 : planAside x1 = planAside s := by
    unfold x1
    split
    · split
      · refine foldl_keeps (π := planAside) (fun y a => ?_) _ s
        split
        · rfl
        · exact planAside_discardRegion ..
      · rfl
    · rfl
  refine (planAside_linkWaits ..).trans ((planAside_modeChanges ..).trans ((planAside_checkRecords ..).trans ?_))
  exact hx1

theorem planAside_restartEpochs (old : Option Plan) : planAside (restartEpochs old p s) = planAside s := by
  unfold restartEpochs
  split <;> rfl

theorem planAside_boundaryEnded : planAside (boundaryEnded p s) = planAside s := by
  refine (planAside_freePlaces _).trans ((planAside_trimDomains _).trans ((planAside_bbWrite ..).trans ?_))
  exact foldl_keeps (fun x n => planAside_commitGate x p n) _ s

/-- At its boundary the plan comes into force, and the boot state and the pending values stay. -/
theorem boundaryTaken_takes : let z := boundaryTaken p s
    z.plan = (boundaryRun p s.plan.running s).plan ∧ z.boot = s.boot ∧ z.pend = s.pend ∧
      ∃ y, z.force = (takeForce p y).force := by
  have hlaid := planAside_boundaryLaid p s
  unfold boundaryTaken
  generalize boundaryLaid p s = w at hlaid ⊢
  have hrun := planAside_restartEpochs p (boundaryRun p s.plan.running w) s.plan.running
  generalize restartEpochs s.plan.running p (boundaryRun p s.plan.running w) = y at hrun ⊢
  have hended := planAside_boundaryEnded p (takeForce p y)
  generalize boundaryEnded p (takeForce p y) = z at hended ⊢
  simp only [planAside, Prod.mk.injEq] at hlaid hrun hended
  obtain ⟨hplan0, hboot0, hpend0, -⟩ := hlaid
  obtain ⟨hplan1, hboot1, hpend1, -⟩ := hrun
  obtain ⟨hplan2, hboot2, hpend2, hforce⟩ := hended
  refine ⟨hplan2.trans (hplan1.trans ?_), hboot2.trans (hboot1.trans hboot0), hpend2.trans (hpend1.trans hpend0),
    _, hforce⟩
  simp only [boundaryRun, hplan0]

end

section
variable {t : Nat} {s : State}

theorem exec_commitBoundary : exec (.commitBoundary t) s = act t (fun x =>
    match x.plan.next with
    | none => x
    | some p => if !x.plan.pointPassed ∨ x.time.tide < scTide p.sc x then x else boundaryTaken p x) s := rfl

theorem commitBoundary_of_none (h : (advance t s).plan.next = none) : Does (.commitBoundary t) s (advance t s) := by
  refine does_act exec_commitBoundary ?_
  simp only [h]
  exact .rfl' _

section
variable {p : Plan} (hnext : (advance t s).plan.next = some p)
include hnext

theorem commitBoundary_idles (h : (advance t s).plan.pointPassed = false ∨
      (advance t s).time.tide < scTide p.sc (advance t s)) : Does (.commitBoundary t) s (advance t s) := by
  refine does_act exec_commitBoundary ?_
  simp only [hnext, if_pos (h.imp_left fun hpoint => Bool.not_eq_true' _ ▸ hpoint)]
  exact .rfl' _

theorem commitBoundary_takes {q : State → Prop} (hpoint : (advance t s).plan.pointPassed = true)
    (htime : scTide p.sc (advance t s) ≤ (advance t s).time.tide)
    (h : q (settle (boundaryTaken p (advance t s)))) : Leads (.commitBoundary t) s q := by
  refine leads_act exec_commitBoundary ?_
  have hdue : ¬ ((!(advance t s).plan.pointPassed) = true ∨ (advance t s).time.tide < scTide p.sc (advance t s)) :=
    not_or.2 ⟨by rw [hpoint]; decide, Nat.not_lt.2 htime⟩
  simp only [hnext, if_neg hdue]
  exact h

end

/-! ### SHED_TAKE_EFFECT (R308) -/

/-- The state with a shed in force, each of whose regions lies in the space of the region that it replaces. -/
def shedTaken (p : Plan) (x : State) : State :=
  { x with
    plan := { x.plan with
      running := some p
      shedDue := none
      old := x.plan.running.toList ++ x.plan.old }
    mem := { x.mem with places := x.mem.places.map fun r =>
      if r.kind = 0 then r else { r with size := min r.size (p.regionSize r.kind) } } }

theorem exec_shedTakeEffect : exec (.shedTakeEffect t) s = act t (fun x =>
    match x.plan.shedDue with
    | none => x
    | some p => if x.time.tide < scTide p.sc x then x else placeReserve (shedTaken p x)) s := rfl

theorem shedTakeEffect_of_none (h : (advance t s).plan.shedDue = none) : Does (.shedTakeEffect t) s (advance t s) := by
  refine does_act exec_shedTakeEffect ?_
  simp only [h]
  exact .rfl' _

section
variable {p : Plan} (hdue : (advance t s).plan.shedDue = some p)
include hdue

theorem shedTakeEffect_waits (h : (advance t s).time.tide < scTide p.sc (advance t s)) :
    Does (.shedTakeEffect t) s (advance t s) := by
  refine does_act exec_shedTakeEffect ?_
  simp only [hdue, if_pos h]
  exact .rfl' _

theorem shedTakeEffect_takes (h : scTide p.sc (advance t s) ≤ (advance t s).time.tide) : let x := advance t s
    Leads (.shedTakeEffect t) s fun z => z.plan = (shedTaken p x).plan ∧ z.force = x.force ∧ z.data = x.data ∧
      z.power = x.power ∧ z.egress = x.egress ∧ z.mem.cells = x.mem.cells := by
  intro x
  refine leads_act exec_shedTakeEffect ?_
  simp only [hdue, if_neg (Nat.not_lt.2 h)]
  obtain ⟨r, l, hplaced⟩ := placeReserve_eq (shedTaken p x)
  rw [hplaced, settle_plan, settle_force, settle_data, settle_power, settle_egress, settle_mem]
  exact ⟨rfl, rfl, rfl, rfl, rfl, rfl⟩

end

end

/-- Settles O35: COMMIT_BOUNDARY by whether a commit is scheduled, past its point and due, and SHED_TAKE_EFFECT by
whether a shed is due. -/
theorem commitsAndShedsTakeEffectAtTheirBoundary : Obligations.CommitsAndShedsTakeEffectAtTheirBoundary := by
  unfold Obligations.CommitsAndShedsTakeEffectAtTheirBoundary
  refine ⟨fun t s => ⟨commitBoundary_of_none, fun p hnext => ⟨commitBoundary_idles hnext, fun hpoint htime => ?_⟩⟩,
    fun t s => ⟨shedTakeEffect_of_none, fun p hdue => ⟨shedTakeEffect_waits hdue, shedTakeEffect_takes hdue⟩⟩⟩
  obtain ⟨hplan, hboot, hpend, y, hforce⟩ := boundaryTaken_takes p (advance t s)
  have hpar (i : Item) (inst elem : Nat) :
      par i inst elem (settle (boundaryTaken p (advance t s))) = par i inst elem (takeForce p y) := by
    rw [par, settle_force, hforce, par]
  refine commitBoundary_takes hnext hpoint htime ?_
  rw [settle_plan, settle_pend, settle_boot, hplan]
  refine ⟨rfl, rfl, rfl, rfl, ?_, hpend, hboot, fun hwf i inst elem hinst helem hcommit hi => ?_⟩
  · exact (hpar .planId 0 0).trans (par0_planId_takeForce p y)
  · exact (hpar i inst elem).trans (par_takeForce y hwf hinst helem hcommit hi)

end Sys2Proof.Machine
end

section
/-! What the operations on a sluice core do to its register file, to the other cores and to the rest of the module
(R314, R328, R344, R346, R359). -/

namespace Sys2Proof.Machine

/-! ### Cores of the array -/

theorem setCore_setCore (n : Nat) (c c' : Core) (s : State) : setCore n c (setCore n c' s) = setCore n c s := by
  simp only [setCore, RegFile.set, List.set_set]

section
variable {x y : State} (h : restZ y = restZ x)
include h

theorem core_of_restZ (n : Nat) : core n y = core n x := (congrArg (core n) h :)

theorem setCore_of_restZ (n : Nat) (c : Core) : restZ (setCore n c y) = restZ (setCore n c x) :=
  congrArg (setCore n c) h

end

section
variable (n : Nat) (st : CoreState) (s : State)

/-- A change of a core's state is the change and, of a HOST core, its event (R359). -/
theorem coreState_eq : ∃ told, ReportEq (coreState n st s)
    (noteIf told .sluiceState (setCore n { core n s with state := st } s)) := by
  unfold coreState
  extract_lets c s1 quiet
  split
  · exact ⟨true, raise_eq ..⟩
  · exact ⟨false, .rfl' _⟩

theorem rest_coreState : rest (coreState n st s) = rest (setCore n { core n s with state := st } s) := by
  obtain ⟨told, heq⟩ := coreState_eq n st s
  cases told <;> exact heq.rest

theorem ctrGet_coreState {c : Ctr} (hc : c.reporting = false) (i : Nat) :
    ctrGet c i (coreState n st s) = ctrGet c i s := by
  obtain ⟨told, heq⟩ := coreState_eq n st s
  cases told <;> exact heq.ctr c i hc

variable {n}

theorem core_coreState_same (hn : n < 64) : core n (coreState n st s) = { core n s with state := st } :=
  (congrArg (core n) (rest_coreState n st s) :).trans (core_setCore_same n _ s hn)

end

/-! ### Registers (R314, R317) -/

theorem Core.reg_setReg_of_ne {r q : SReg} (h : q.key ≠ r.key) (c : Core) (v : Nat) : (c.setReg r v).reg q = c.reg q :=
  sGet_sPut_of_ne _ c.regs v h

/-! ### Results that land (R328, R339) -/

/-- Results that land write registers. -/
theorem foldl_setReg_eq (l : List Late) (c : Core) :
    ∃ m, l.foldl (fun x l => x.setReg l.reg l.val) c = { c with regs := m } := by
  induction l generalizing c with
  | nil => exact ⟨c.regs, rfl⟩
  | cons e r ih => exact ih _

theorem Core.landAll_eq (c : Core) : c.landAll = { c with regs := c.landAll.regs, late := [] } := by
  obtain ⟨m, hm⟩ := foldl_setReg_eq c.late c
  simp only [Core.landAll, hm]

theorem Core.land_eq (c : Core) (cyc : Nat) :
    c.land cyc = { c with regs := (c.land cyc).regs, late := c.late.filter fun l => decide (cyc < l.land) } := by
  obtain ⟨m, hm⟩ := foldl_setReg_eq (c.late.filter fun l => decide (l.land ≤ cyc)) c
  simp only [Core.land, hm]

/-- A register that no result on its way names keeps its value as results land. -/
theorem Core.reg_land (c : Core) (cyc : Nat) {r : SReg} (h : ∀ l ∈ c.late, l.reg.key ≠ r.key) :
    (c.land cyc).reg r = c.reg r := by
  have hfold : ((c.late.filter fun l => decide (l.land ≤ cyc)).foldl (fun x l => x.setReg l.reg l.val) c).reg r =
      c.reg r :=
    List.foldlRecOn (motive := fun x : Core => x.reg r = c.reg r) _ _ rfl
      fun x hx l hl => (x.reg_setReg_of_ne (h l ((List.mem_filter.1 hl).1)).symm l.val).trans hx
  exact hfold

/-! ### Stops (R346) -/

/-- A core at the end of a stop: its results have landed and it is LOADABLE. -/
def Core.halted (c : Core) : Core := { c.landAll with stopSince := none, state := .loadable }

theorem Core.halted_eq (c : Core) :
    c.halted = { c with regs := c.landAll.regs, late := [], stopSince := none, state := .loadable } := by
  rw [Core.halted, c.landAll_eq]

section
variable {n : Nat} {s : State}

/-- A core that runs inside an NI run stops later. -/
theorem askStop_of_ni (hruns : (core n s).state = .running ∨ (core n s).state = .waiting)
    (hni : (core n s).lastNI = true) :
    askStop n s = setCore n { core n s with stopSince := some ((core n s).stopSince.getD s.time.now) } s :=
  if_pos (by simpa [Core.interruptible, hni] using hruns)

/-- A core at an interruptible boundary, or one that issues nothing, stops at once. -/
theorem askStop_of_interruptible
    (h : (core n s).lastNI = false ∨ ((core n s).state ≠ .running ∧ (core n s).state ≠ .waiting)) :
    askStop n s = stopNow n s := by
  refine if_neg fun hwaits => ?_
  simp only [Core.interruptible, Bool.or_eq_true, beq_iff_eq, Bool.not_not] at hwaits
  obtain ⟨hruns, hni⟩ := hwaits
  rcases h with hfree | ⟨hrun, hwait⟩
  · exact Bool.false_ne_true (hfree.symm.trans hni)
  · exact hruns.elim hrun hwait

/-- The core between its stop and the passing to a new owner. -/
theorem core_halted (hn : n < 64) :
    core n (coreState n .loadable (setCore n { (core n s).landAll with stopSince := none } s)) = (core n s).halted := by
  rw [core_coreState_same _ _ hn, core_setCore_same _ _ _ hn, Core.halted]

/-- A core that no commit gives to another owner stops and stays LOADABLE. -/
theorem rest_stopNow (hn : n < 64) (hnew : (core n s).newHost = none) :
    rest (stopNow n s) = rest (setCore n (core n s).halted s) := by
  have hkeeps : (core n s).halted.newHost = none := (congrArg Core.newHost (core n s).halted_eq :).trans hnew
  have hpass : stopNow n s = coreState n .loadable (setCore n { (core n s).landAll with stopSince := none } s) := by
    unfold stopNow passOwner
    simp only [core_halted hn, hkeeps]
  rw [hpass, rest_coreState, core_setCore_same _ _ _ hn, setCore_setCore, Core.halted]

end

end Sys2Proof.Machine
end


section
/-! ZCP_SLUICE_START, STOP, STATUS and GAIN_SOLVE (R319, R344 to R346, R356, R357). -/

namespace Sys2Proof.Machine

/-! ### Commands whose payload has one length (R480) -/

section
variable {i : Instr} {typ t code : Nat} {d : Dgram} {s : State} {body : Ctx → State → Res}
  (hx : exec i s = zcp typ (laid body) t d s) (hd : Accepted typ d (advance t s))
  (hlen : d.payload.length = Config.payloadLength typ)
include hd hlen

theorem laid_accepted (y : State) : laid body d.ctx y = body d.ctx y :=
  laid_of_length _ (hlen.trans (congrArg Config.payloadLength hd.typ.symm)) y

include hx

/-- A command of one length is answered as its body answers. -/
theorem answers_of_laid (htyp : typ ≠ 0x0A03) {z : State} (hbody : ∀ y, restZ y = restZ (advance t s) →
      ∃ b y', body d.ctx y = answer code b y' ∧ restZ y' = restZ z) : Answers i d code s z :=
  answers_of hx hd htyp fun y hy => laid_accepted hd hlen y ▸ hbody y hy

/-- A command of one length that is answered leads to its completion record, and to what its body leaves but for
sessions and reports. -/
theorem leads_of_laid (htyp : typ ≠ 0x0A03) {b : List Byte} {y : State} {p : State → Prop}
    (hbody : body d.ctx (taken d (advance t s)) = answer code b y)
    (hp : ∀ z, lastReply d z = some ⟨d.seq, d.typ, code⟩ → restZ z = restZ y → p z) : Leads i s p := by
  refine ⟨_, hx.trans (zcp_accepted _ hd), ?_⟩
  rw [laid_accepted hd hlen, hbody, finish_answer _ _ _ (hd.typ ▸ htyp)]
  exact hp _ ((lastReply_settle ..).trans (lastReply_sendReply _ _ _ _ _ (early_session hd.checks)))
    (by rw [restZ_settle, restZ_sendReply])

/-- A command of one length that waits leads to what its body leaves. -/
theorem leads_of_waits {why : Why} {unit : Nat} {y : State} {p : State → Prop}
    (hbody : body d.ctx (taken d (advance t s)) = wait d.ctx why unit y)
    (hp : p (settle (wait d.ctx why unit y).state)) : Leads i s p := by
  refine ⟨_, hx.trans (zcp_accepted _ hd), ?_⟩
  rwa [laid_accepted hd hlen, hbody]

end

/-! ### Which core a command names (R345) -/

section
variable {n : Nat} {s : State}

theorem coreRefusal_of_restZ {x y : State} (h : restZ y = restZ x) (n : Nat) : coreRefusal n y = coreRefusal n x := by
  simp only [coreRefusal, core_of_restZ h]

theorem coreRefusal_badCore (hn : 63 < n) : coreRefusal n s = some 0x4B := if_pos hn

theorem coreRefusal_notOwner (hn : n ≤ 63) (hhost : (core n s).host = false) : coreRefusal n s = some 0x4A := by
  simp [coreRefusal, Nat.not_lt.2 hn, hhost]

theorem coreRefusal_off (hn : n ≤ 63) (hhost : (core n s).host = true) (hoff : (core n s).state = .off) :
    coreRefusal n s = some rRefused := by
  simp [coreRefusal, Nat.not_lt.2 hn, hhost, hoff]

theorem coreRefusal_none (hn : n ≤ 63) (hhost : (core n s).host = true) (hoff : (core n s).state ≠ .off) :
    coreRefusal n s = none := by
  simp [coreRefusal, Nat.not_lt.2 hn, hhost, hoff]

end

/-! ### ZCP_SLUICE_START (R319, R344) -/

/-- A core as ZCP_SLUICE_START leaves it (R319): the registers at reset, the memories as they were. -/
def Core.started (c : Core) : Core :=
  { resetCore with state := .running, host := c.host, prog := c.prog, data := c.data, newHost := c.newHost }

theorem core_startCore {n : Nat} (hn : n ≤ 63) (s : State) : core n (startCore n s) = (core n s).started := by
  refine (core_coreState_same _ _ (Nat.lt_succ_of_le hn)).trans ?_
  exact congrArg (fun c : Core => { c with state := .running }) (core_setCore_same n _ s (Nat.lt_succ_of_le hn))

/-- Every control register of a started core reads its reset value (R317). -/
theorem Core.crRead_started (n : Nat) (c : Core) (k : Nat) :
    c.started.crRead n k = if k = 12 then n else if k = 33 then 8 else 0 := by
  have hsw : c.started.sw = 0 := rfl
  have hrrb : c.started.rrb = 0 := rfl
  have hready : c.started.tapReady = false := rfl
  have hrequests : c.started.reg (.cr 8) = 0 := rfl
  have hirq : c.started.irqPend = 0 := by simp [Core.irqPend, hready, hrequests]
  have hcycle : c.started.cycle = 0 := rfl
  have hhigh : c.started.cycleHi = 0 := rfl
  have hqueue : c.started.moverQueue.length = 0 := rfl
  have hreg : c.started.reg (.cr k) = 0 := rfl
  unfold Core.crRead
  rw [hsw, hrrb, hirq, hcycle, hhigh, hqueue, hreg]
  grind

/-- A core that issues nothing starts. -/
theorem sluiceStart_starts {n : Nat} {s : State} (hn : n ≤ 63) (hhost : (core n s).host = true)
    (hidle : (core n s).state = .loadable ∨ (core n s).state = .halted ∨ (core n s).state = .trapped) (c : Ctx) :
    sluiceStart n c s = answer rOk [] (startCore n s) := by
  have hon : (core n s).state ≠ .off := by
    rcases hidle with h | h | h <;> exact h ▸ CoreState.noConfusion
  have hquiet : ¬ ((core n s).state = .running ∨ (core n s).state = .waiting) := by
    rcases hidle with h | h | h <;> simp [h]
  rw [sluiceStart, coreRefusal_none hn hhost hon]
  exact if_neg hquiet

section
variable {t : Nat} {d : Dgram} {n : Nat} {s : State} (hd : Accepted 0x0803 d (advance t s))
  (hlen : d.payload.length = Config.payloadLength 0x0803)
include hd hlen

theorem zcpSluiceStart_refused {code : Nat} (href : coreRefusal n (advance t s) = some code) :
    Answers (.zcpSluiceStart t d n) d code s (advance t s) := by
  refine answers_of_laid (show _ = execZcpSluiceStart t d n s from rfl) hd hlen (by decide) fun y hy => ⟨[], y, ?_, hy⟩
  rw [sluiceStart, coreRefusal_of_restZ hy, href]
  rfl

section
variable (hn : n ≤ 63) (hhost : (core n (advance t s)).host = true)
include hn hhost

theorem zcpSluiceStart_busy
    (hruns : (core n (advance t s)).state = .running ∨ (core n (advance t s)).state = .waiting) :
    Answers (.zcpSluiceStart t d n) d rBusy s (advance t s) := by
  refine answers_of_laid (show _ = execZcpSluiceStart t d n s from rfl) hd hlen (by decide) fun y hy => ⟨[], y, ?_, hy⟩
  have hon : (core n (advance t s)).state ≠ .off := by
    rcases hruns with h | h <;> exact h ▸ CoreState.noConfusion
  rw [sluiceStart, coreRefusal_of_restZ hy, coreRefusal_none hn hhost hon]
  rw [core_of_restZ hy]
  exact if_pos hruns

end

end

/-! ### ZCP_SLUICE_STOP (R346) -/

section
variable {t : Nat} {d : Dgram} {n : Nat} {s : State} (hd : Accepted 0x0804 d (advance t s))
  (hlen : d.payload.length = Config.payloadLength 0x0804)
include hd hlen

theorem zcpSluiceStop_refused {code : Nat} (href : coreRefusal n (advance t s) = some code) :
    Answers (.zcpSluiceStop t d n) d code s (advance t s) := by
  refine answers_of_laid (show _ = execZcpSluiceStop t d n s from rfl) hd hlen (by decide) fun y hy => ⟨[], y, ?_, hy⟩
  rw [sluiceStop, coreRefusal_of_restZ hy, href]
  rfl

/-- A stop that no rule refuses is asked for. -/
theorem zcpSluiceStop_asks {z : State} (href : coreRefusal n (advance t s) = none)
    (hask : ∀ y, restZ y = restZ (advance t s) → restZ (askStop n y) = restZ z) :
    Answers (.zcpSluiceStop t d n) d rOk s z := by
  refine answers_of_laid (show _ = execZcpSluiceStop t d n s from rfl) hd hlen (by decide) fun y hy =>
    ⟨[], askStop n y, ?_, hask y hy⟩
  rw [sluiceStop, coreRefusal_of_restZ hy, href]

section
variable (hn : n ≤ 63) (hhost : (core n (advance t s)).host = true) (hon : (core n (advance t s)).state ≠ .off)
include hn hhost hon

/-- Inside an NI run the stop waits. -/
theorem zcpSluiceStop_waits
    (hruns : (core n (advance t s)).state = .running ∨ (core n (advance t s)).state = .waiting)
    (hni : (core n (advance t s)).lastNI = true) : let x := advance t s
    Answers (.zcpSluiceStop t d n) d rOk s
      (setCore n { core n x with stopSince := some ((core n x).stopSince.getD x.time.now) } x) := by
  refine zcpSluiceStop_asks hd hlen (coreRefusal_none hn hhost hon) fun y hy => ?_
  rw [askStop_of_ni (core_of_restZ hy n ▸ hruns) (core_of_restZ hy n ▸ hni), core_of_restZ hy, time_of_restZ hy]
  exact setCore_of_restZ hy n _

/-- At an interruptible boundary the core stops. -/
theorem zcpSluiceStop_stops
    (h : (core n (advance t s)).lastNI = false ∨
      ((core n (advance t s)).state ≠ .running ∧ (core n (advance t s)).state ≠ .waiting))
    (hnew : (core n (advance t s)).newHost = none) :
    Answers (.zcpSluiceStop t d n) d rOk s (setCore n (core n (advance t s)).halted (advance t s)) := by
  refine zcpSluiceStop_asks hd hlen (coreRefusal_none hn hhost hon) fun y hy => ?_
  rw [askStop_of_interruptible (core_of_restZ hy n ▸ h),
    restZ_of_rest (rest_stopNow (Nat.lt_succ_of_le hn) (core_of_restZ hy n ▸ hnew)), core_of_restZ hy]
  exact setCore_of_restZ hy n _

end

end

/-! ### ZCP_SLUICE_STATUS (R345) -/

section
variable {t : Nat} {d : Dgram} {n : Nat} {s : State} (hd : Accepted 0x0805 d (advance t s))
  (hlen : d.payload.length = Config.payloadLength 0x0805)
include hd hlen

theorem zcpSluiceStatus_badCore (hn : 63 < n) : Answers (.zcpSluiceStatus t d n) d 0x4B s (advance t s) :=
  answers_of_laid (show _ = execZcpSluiceStatus t d n s from rfl) hd hlen (by decide) fun y hy =>
    ⟨[], y, if_pos hn, hy⟩

theorem zcpSluiceStatus_notOwner (hn : n ≤ 63) (hhost : (core n (advance t s)).host = false) :
    Answers (.zcpSluiceStatus t d n) d 0x4A s (advance t s) := by
  refine answers_of_laid (show _ = execZcpSluiceStatus t d n s from rfl) hd hlen (by decide) fun y hy => ⟨[], y, ?_, hy⟩
  rw [sluiceStatus, if_neg (Nat.not_lt.2 hn), core_of_restZ hy, hhost]
  rfl

theorem zcpSluiceStatus_ok (hn : n ≤ 63) (hhost : (core n (advance t s)).host = true) :
    Answers (.zcpSluiceStatus t d n) d rOk s (advance t s) := by
  refine answers_of_laid (show _ = execZcpSluiceStatus t d n s from rfl) hd hlen (by decide) fun y hy => ?_
  have hown : ¬ ((!(core n y).host) = true) := by simp [core_of_restZ hy, hhost]
  exact ⟨_, y, (if_neg (Nat.not_lt.2 hn)).trans (if_neg hown), hy⟩

end

/-! ### The reads of a gain solve (R150, R356) -/

section
variable {β : Type} {π : State → β} (hcount : ∀ c i n s, π (count c i n s) = π s)
include hcount

theorem tileRead_keeps (o : TileOp) (s : State) : π (tileRead o s).2.2 = π s := by
  unfold tileRead
  split
  · rfl
  · split
    · rfl
    · split
      · rfl
      · extract_lets x s1
        split
        · exact (hcount ..).trans (hcount ..)
        · exact hcount ..

theorem solveReads_keeps (p : Plan) (area r chan integ : Nat) (s : State) :
    π (solveReads p area r chan integ s).2 = π s :=
  List.foldlRecOn (motive := fun acc : Nat × State => π acc.2 = π s) _ _ rfl
    fun acc hacc _ _ => (tileRead_keeps hcount _ acc.2).trans hacc

variable (hfree : ∀ k s, π { s with free := k } = π s)
include hfree

theorem solveChan_keeps (p : Plan) (area r integ : Nat) (acc : List Nat × State) (chan : Nat) :
    π (solveChan p area r integ acc chan).2 = π acc.2 := by
  unfold solveChan
  have hreads := solveReads_keeps hcount p area r chan integ acc.2
  generalize solveReads p area r chan integ acc.2 = reads at hreads ⊢
  obtain ⟨st, s1⟩ := reads
  simp only
  split
  · exact hreads
  · exact (hfree ..).trans hreads

/-- A solve counts its reads and draws free values; it changes nothing else. -/
theorem solveGains_keeps (area r : Nat) (chans : List Nat) (s : State) : π (solveGains area r chans s).2.2 = π s := by
  unfold solveGains
  split
  · rfl
  · extract_lets g
    split
    · rfl
    · split
      · rfl
      · exact List.foldlRecOn (motive := fun acc : List Nat × State => π acc.2 = π s) _ _ rfl
          fun acc hacc chan _ => (solveChan_keeps hcount hfree _ area r _ acc chan).trans hacc

end

/-! ### The RESULT of a gain solve (R356) -/

section
variable {area r : Nat} {chans : List Nat} {s : State}

theorem solveGains_refused (h : s.plan.running = none ∨ (region area r s).state ≠ .sealed) :
    solveGains area r chans s = (rRefused, [], s) := by
  unfold solveGains
  split
  · rfl
  · next p hplan =>
    exact if_pos (h.resolve_left fun hnone => Option.some_ne_none p (hplan.symm.trans hnone))

section
variable {p : Plan} (hplan : s.plan.running = some p) (hsealed : (region area r s).state = .sealed)
include hplan hsealed

theorem solveGains_badValue (h : ∃ c ∈ chans, c ∉ p.areaChannels area) :
    solveGains area r chans s = (rBadValue, [], s) := by
  unfold solveGains
  simp only [hplan, hsealed, ne_eq, not_true_eq_false, if_false]
  exact if_pos (by simpa using h)

theorem solveGains_solves (h : ∀ c ∈ chans, c ∈ p.areaChannels area) : (solveGains area r chans s).1 = rOk := by
  unfold solveGains
  simp only [hplan, hsealed, ne_eq, not_true_eq_false, if_false]
  rw [if_neg (by simpa using h)]

end

end

/-! ### ZCP_SLUICE_GAIN_SOLVE (R356, R357) -/

/-- The state with PD33 held on for a solve that waits (R357). -/
def solveHeld (q : SolveReq) (s : State) : State :=
  { switchOn 33 s with
    sluice := { (switchOn 33 s).sluice with solveHold := true, solves := (switchOn 33 s).sluice.solves ++ [q] } }

section
variable (q : SolveReq) (s : State)

theorem zcp_solveHeld : (solveHeld q s).zcp = s.zcp := switchOn_keeps (π := (·.zcp)) (fun _ _ _ => rfl) 33 s

theorem data_solveHeld : (solveHeld q s).data = s.data := switchOn_keeps (π := (·.data)) (fun _ _ _ => rfl) 33 s

theorem mem_solveHeld : (solveHeld q s).mem = s.mem := switchOn_keeps (π := (·.mem)) (fun _ _ _ => rfl) 33 s

end

section
variable {area r : Nat} {chans : List Nat} {c : Ctx} {s : State}

theorem gainSolve_of_hosts (h : ∀ n < 64, (core n s).host = true) : gainSolve area r chans c s = refuse rRefused s :=
  if_pos (by simpa using h)

section
variable (hstock : ∃ n < 64, (core n s).host = false)
include hstock

theorem not_all_hosts : ¬ ((List.range 64).all fun n => (core n s).host) = true := by
  simpa using hstock

/-- With PD33 on the solve runs at once. -/
theorem gainSolve_of_on (hon : domain 33 s = .on) : gainSolve area r chans c s =
    answer (solveGains area r chans s).1 (solveGains area r chans s).2.1 (solveGains area r chans s).2.2 := by
  rw [gainSolve, if_neg (not_all_hosts hstock), if_pos hon]

section
variable (hoff : domain 33 s ≠ .on)
include hoff

theorem gainSolve_of_tripped (h : domain 33 s = .tripped ∨ stopped s = true) :
    gainSolve area r chans c s = refuse rRefused s := by
  rw [gainSolve, if_neg (not_all_hosts hstock), if_neg hoff, if_pos h]

theorem gainSolve_waits (h : ¬ (domain 33 s = .tripped ∨ stopped s = true)) : gainSolve area r chans c s =
    wait c .solve 0 (solveHeld { slot := c.slot, seq := c.seq, area, region := r, chans } s) := by
  rw [gainSolve, if_neg (not_all_hosts hstock), if_neg hoff, if_neg h]
  rfl

end

end

end

theorem region_of_restZ {x y : State} (h : restZ y = restZ x) (area r : Nat) : region area r y = region area r x :=
  (congrArg (region area r) h :)

theorem stock_of_restZ {x y : State} (h : restZ y = restZ x) (hstock : ∃ n < 64, (core n x).host = false) :
    ∃ n < 64, (core n y).host = false := by
  obtain ⟨n, hn, hhost⟩ := hstock
  exact ⟨n, hn, by rwa [core_of_restZ h]⟩

theorem domain_of_restZ {x y : State} (h : restZ y = restZ x) (pd : Nat) : domain pd y = domain pd x :=
  (congrArg (domain pd) h :)

theorem stopped_of_restZ {x y : State} (h : restZ y = restZ x) : stopped y = stopped x := (congrArg stopped h :)

theorem waiting_of_restZ {x y : State} (h : restZ y = restZ x) : y.zcp.waiting = x.zcp.waiting :=
  (congrArg (·.zcp.waiting) h :)

theorem data_of_restZ {x y : State} (h : restZ y = restZ x) : y.data = x.data := (congrArg (·.data) h :)

theorem mem_of_restZ {x y : State} (h : restZ y = restZ x) : y.mem = x.mem := (congrArg (·.mem) h :)

/-- What a solve leaves alone. -/
def besidesSolve (s : State) : DataS × MemS × SluiceS × PowerS := (s.data, s.mem, s.sluice, s.power)

section
variable {t : Nat} {d : Dgram} {area r : Fin 2} {chans : List Nat} {s : State}

theorem exec_zcpSluiceGainSolve : exec (.zcpSluiceGainSolve t d area r chans) s =
    zcp 0x0806 (laid (gainSolve area r chans)) t d s := rfl

section
variable (hd : Accepted 0x0806 d (advance t s)) (hlen : d.payload.length = Config.payloadLength 0x0806)
include hd hlen

/-- A solve that its body refuses whatever the sessions hold is answered so. -/
theorem zcpSluiceGainSolve_refused {code : Nat}
    (h : ∀ y, restZ y = restZ (advance t s) → gainSolve area r chans d.ctx y = refuse code y) :
    Answers (.zcpSluiceGainSolve t d area r chans) d code s (advance t s) :=
  answers_of_laid exec_zcpSluiceGainSolve hd hlen (by decide) fun y hy => ⟨[], y, h y hy, hy⟩

section
variable (hstock : ∃ n < 64, (core n (advance t s)).host = false)
include hstock

section
variable (hon : domain 33 (advance t s) = .on)
include hon

/-- With PD33 on, the RESULT of a refused solve is that of its conditions. -/
theorem zcpSluiceGainSolve_solve_refused {code : Nat}
    (h : ∀ y, restZ y = restZ (advance t s) → solveGains area r chans y = (code, [], y)) :
    Answers (.zcpSluiceGainSolve t d area r chans) d code s (advance t s) := by
  refine zcpSluiceGainSolve_refused hd hlen fun y hy => ?_
  rw [gainSolve_of_on (stock_of_restZ hy hstock) ((domain_of_restZ hy 33).trans hon), h y hy]
  rfl

theorem zcpSluiceGainSolve_unsealed
    (h : (advance t s).plan.running = none ∨ (region area r (advance t s)).state ≠ .sealed) :
    Answers (.zcpSluiceGainSolve t d area r chans) d rRefused s (advance t s) := by
  refine zcpSluiceGainSolve_solve_refused hd hlen hstock hon fun y hy => solveGains_refused ?_
  rwa [plan_of_restZ hy, region_of_restZ hy]

section
variable {p : Plan} (hplan : (advance t s).plan.running = some p)
  (hsealed : (region area r (advance t s)).state = .sealed)
include hplan hsealed

theorem zcpSluiceGainSolve_badValue (h : ∃ c ∈ chans, c ∉ p.areaChannels area) :
    Answers (.zcpSluiceGainSolve t d area r chans) d rBadValue s (advance t s) :=
  zcpSluiceGainSolve_solve_refused hd hlen hstock hon fun _ hy =>
    solveGains_badValue (plan_of_restZ hy ▸ hplan) (region_of_restZ hy area r ▸ hsealed) h

/-- A solve of a SEALED region is answered OK and changes no tile. -/
theorem zcpSluiceGainSolve_solves (h : ∀ c ∈ chans, c ∈ p.areaChannels area) : let x := advance t s
    Leads (.zcpSluiceGainSolve t d area r chans) s fun z => lastReply d z = some ⟨d.seq, d.typ, rOk⟩ ∧
      z.data = x.data ∧ z.mem = x.mem ∧ z.sluice = x.sluice ∧ z.power = x.power := by
  intro x
  have hx : restZ (taken d x) = restZ x := restZ_taken d x
  have hok : (solveGains area r chans (taken d x)).1 = rOk :=
    solveGains_solves (plan_of_restZ hx ▸ hplan) (region_of_restZ hx area r ▸ hsealed) h
  refine leads_of_laid exec_zcpSluiceGainSolve hd hlen (by decide)
    (gainSolve_of_on (stock_of_restZ hx hstock) ((domain_of_restZ hx 33).trans hon))
    fun z hreply hz => ⟨hok ▸ hreply, ?_⟩
  have hkeeps : besidesSolve z = besidesSolve x := (congrArg besidesSolve hz :).trans
    ((solveGains_keeps (π := besidesSolve) (fun _ _ _ _ => rfl) (fun _ _ => rfl) area r chans _).trans
      (congrArg besidesSolve hx :))
  obtain ⟨hdata, hmem, hsluice, hpower⟩ : z.data = x.data ∧ z.mem = x.mem ∧ z.sluice = x.sluice ∧ z.power = x.power := by
    simpa only [besidesSolve, Prod.mk.injEq] using hkeeps
  exact ⟨hdata, hmem, hsluice, hpower⟩

end

end

section
variable (hoff : domain 33 (advance t s) ≠ .on)
include hoff

theorem zcpSluiceGainSolve_tripped (h : domain 33 (advance t s) = .tripped ∨ stopped (advance t s) = true) :
    Answers (.zcpSluiceGainSolve t d area r chans) d rRefused s (advance t s) := by
  refine zcpSluiceGainSolve_refused hd hlen fun y hy => gainSolve_of_tripped (stock_of_restZ hy hstock) ?_ ?_
  · rwa [domain_of_restZ hy]
  · rwa [domain_of_restZ hy, stopped_of_restZ hy]

/-- A solve that PD33 has yet to wake for waits, and PD33 is held on for it (R357). -/
theorem zcpSluiceGainSolve_waits (h : ¬ (domain 33 (advance t s) = .tripped ∨ stopped (advance t s) = true)) :
    let x := advance t s
    Leads (.zcpSluiceGainSolve t d area r chans) s fun z =>
      z.zcp.waiting = x.zcp.waiting ++ [⟨d.session, d.seq, d.typ, 5, 0⟩] ∧ z.sluice.solveHold = true ∧
      z.data = x.data ∧ z.mem = x.mem := by
  intro x
  have hx : restZ (taken d x) = restZ x := restZ_taken d x
  refine leads_of_waits exec_zcpSluiceGainSolve hd hlen (gainSolve_waits (stock_of_restZ hx hstock)
    (by rwa [domain_of_restZ hx]) (by rwa [domain_of_restZ hx, stopped_of_restZ hx])) ?_
  rw [settle_zcp_waiting, settle_sluice, settle_data, settle_mem]
  generalize SolveReq.mk d.ctx.slot d.ctx.seq area r chans = q
  generalize taken d x = y at hx ⊢
  have hwaiting : (solveHeld q y).zcp.waiting = x.zcp.waiting :=
    (congrArg (·.waiting) (zcp_solveHeld q _)).trans (waiting_of_restZ hx)
  exact ⟨congrArg (· ++ [_]) hwaiting, rfl, (data_solveHeld q _).trans (data_of_restZ hx),
    (mem_solveHeld q _).trans (mem_of_restZ hx)⟩

end

end

end

end

/-- Settles O39: what ZCP_SLUICE_START leaves of a core is `Core.started`. -/
theorem startSetsARegisterFileToReset : Obligations.StartSetsARegisterFileToReset := by
  unfold Obligations.StartSetsARegisterFileToReset
  intro t d n s x hd hlen hn hhost hidle
  have htaken : core n (taken d x) = core n x := core_of_restZ (restZ_taken d x) n
  refine leads_of_laid (show _ = execZcpSluiceStart t d n s from rfl) hd hlen (by decide)
    (sluiceStart_starts hn (htaken ▸ hhost) (htaken ▸ hidle) d.ctx) fun z hreply hz => ?_
  have hcore : core n z = (core n x).started := by rw [core_of_restZ hz, core_startCore hn, htaken]
  rw [hcore]
  exact ⟨hreply, rfl, rfl, rfl, fun _ => rfl, fun k _ => Core.crRead_started n _ k, rfl, rfl⟩

/-- Settles O40: the commands by what `coreRefusal` and the core's state say, the solve by its conditions. -/
theorem sluiceCommandsStopAskAndSolve : Obligations.SluiceCommandsStopAskAndSolve := by
  unfold Obligations.SluiceCommandsStopAskAndSolve
  refine ⟨fun t d n s => ⟨?start, ?stop, ?status⟩, fun t d area r chans s => ?solve⟩
  case start =>
    intro hd hlen
    exact ⟨fun hn => zcpSluiceStart_refused hd hlen (coreRefusal_badCore hn),
      fun hn hhost => zcpSluiceStart_refused hd hlen (coreRefusal_notOwner hn hhost),
      zcpSluiceStart_busy hd hlen,
      fun hn hhost hoff => zcpSluiceStart_refused hd hlen (coreRefusal_off hn hhost hoff)⟩
  case stop =>
    intro hd hlen
    exact ⟨fun hn => zcpSluiceStop_refused hd hlen (coreRefusal_badCore hn),
      fun hn hhost => zcpSluiceStop_refused hd hlen (coreRefusal_notOwner hn hhost),
      fun hn hhost hoff => zcpSluiceStop_refused hd hlen (coreRefusal_off hn hhost hoff),
      fun hn hhost hon => ⟨zcpSluiceStop_waits hd hlen hn hhost hon, zcpSluiceStop_stops hd hlen hn hhost hon⟩⟩
  case status =>
    intro hd hlen
    exact ⟨zcpSluiceStatus_badCore hd hlen, zcpSluiceStatus_notOwner hd hlen, zcpSluiceStatus_ok hd hlen⟩
  case solve =>
    intro x hd hlen
    refine ⟨fun hhosts => zcpSluiceGainSolve_refused hd hlen fun y hy => gainSolve_of_hosts ?_,
      fun hstock hon => ⟨zcpSluiceGainSolve_unsealed hd hlen hstock hon, fun p hplan hsealed =>
        ⟨zcpSluiceGainSolve_badValue hd hlen hstock hon hplan hsealed,
          zcpSluiceGainSolve_solves hd hlen hstock hon hplan hsealed⟩⟩,
      zcpSluiceGainSolve_tripped hd hlen, fun hstock hoff htripped hruns =>
        zcpSluiceGainSolve_waits hd hlen hstock hoff (not_or.2 ⟨htripped, ne_true_of_eq_false hruns⟩)⟩
    intro n hn
    rw [core_of_restZ hy]
    exact hhosts n hn

end Sys2Proof.Machine
end


section
/-! Interrupts, the timer, register writes that act, movers, taps, forced stops and reloads of the sluice cores
(R317, R337 to R339, R346 to R351, R359). -/

namespace Sys2Proof.Machine

/-! ### Changes of one core -/

/-- A core has become another one; the other cores, DRAM and the data path are as they were. -/
structure OnlyCore (n : Nat) (c : Core) (x z : State) : Prop where
  core : core n z = c
  others : ∀ k, k ≠ n → Machine.core k z = Machine.core k x
  mem : z.mem = x.mem
  data : z.data = x.data

namespace OnlyCore

variable {n : Nat} {c : Core} {x y z : State}

theorem setCore (hn : n < 64) (c : Core) (x : State) : OnlyCore n c x (setCore n c x) where
  core := core_setCore_same n c x hn
  others _ hk := core_setCore_of_ne c x hk
  mem := rfl
  data := rfl

theorem of_rest (h : rest z = rest y) (hy : OnlyCore n c x y) : OnlyCore n c x z where
  core := (congrArg (Machine.core n) h :).trans hy.core
  others k hk := (congrArg (Machine.core k) h :).trans (hy.others k hk)
  mem := (congrArg (·.mem) h :).trans hy.mem
  data := (congrArg (·.data) h :).trans hy.data

theorem settle (h : OnlyCore n c x z) : OnlyCore n c x (settle z) := of_rest (settle_eq z).rest h

end OnlyCore

/-! ### Requests (R317) -/

theorem bitAt_setBit_true (v i : Nat) : bitAt (setBit v i true) i = true := by
  unfold setBit
  split
  · assumption
  · next hbit =>
    simp only [bitAt, Nat.shiftRight_eq_div_pow, beq_iff_eq] at hbit ⊢
    rw [if_pos trivial, Nat.add_div_right v (Nat.two_pow_pos i)]
    omega

/-- The requests of IRQ_PEND but TAP_READY are the bits that the register holds. -/
theorem Core.bitAt_irqPend (c : Core) {bit : Nat} (hlow : 0 < bit) (hhigh : bit < 5) :
    bitAt c.irqPend bit = bitAt (c.reg (.cr 8)) bit := by
  have hready : (if c.tapReady then 1 else 0) < 2 := by split <;> decide
  unfold Core.irqPend
  generalize (if c.tapReady then 1 else 0) = ready at hready ⊢
  simp only [bitAt, Nat.shiftRight_eq_div_pow]
  rw [Bool.eq_iff_iff, beq_iff_eq, beq_iff_eq]
  rcases (by omega : bit = 1 ∨ bit = 2 ∨ bit = 3 ∨ bit = 4) with rfl | rfl | rfl | rfl <;> omega

theorem Core.reg_request_same (c : Core) (bit : Nat) :
    (c.request bit).reg (.cr 8) = setBit (c.reg (.cr 8)) bit true := Core.reg_setReg_same ..

theorem Core.bitAt_irqPend_request (c : Core) {bit : Nat} (hlow : 0 < bit) (hhigh : bit < 5) :
    bitAt (c.request bit).irqPend bit = true := by
  rw [Core.bitAt_irqPend _ hlow hhigh, Core.reg_request_same, bitAt_setBit_true]

/-- The passing of cycles sets TIMER, or nothing. -/
theorem Core.tick_cases (c : Core) (start n : Nat) : c.tick start n = c ∨ c.tick start n = c.request 2 := by
  unfold Core.tick
  split
  · exact .inr rfl
  · exact .inl rfl

theorem Core.reg_tick (c : Core) (start n : Nat) {r : SReg} (h : r.key ≠ 88) : (c.tick start n).reg r = c.reg r := by
  rcases c.tick_cases start n with hc | hc <;> rw [hc]
  exact Core.reg_setReg_of_ne h ..

theorem Core.tick_eq (c : Core) (start n : Nat) : c.tick start n = { c with regs := (c.tick start n).regs } := by
  rcases c.tick_cases start n with hc | hc <;> rw [hc]
  rfl

/-! ### INTERRUPT_ENTRY (R337, R339) -/

/-- A core in the first bundle of its handler, `waited` cycles after it began to wait (R339). -/
def Core.entered (c : Core) (waited : Nat) : Core :=
  { (c.landAll.setReg (.cr 6) c.pc).tick c.cycle (c.entryCycle waited - c.cycle) with
    state := .running
    inHandler := true
    pc := 8
    cycle := c.entryCycle waited % 2 ^ 64 }

theorem Core.entered_eq (c : Core) (waited : Nat) : c.entered waited = { c with
    regs := (c.entered waited).regs
    late := []
    state := .running
    inHandler := true
    pc := 8
    cycle := c.entryCycle waited % 2 ^ 64 } := by
  have hlanded : c.landAll.setReg (.cr 6) c.pc = { c with
      regs := (c.landAll.setReg (.cr 6) c.pc).regs
      late := [] } :=
    congrArg (fun y : Core => { y with regs := (c.landAll.setReg (.cr 6) c.pc).regs }) c.landAll_eq
  unfold Core.entered
  rw [Core.tick_eq]
  generalize ((c.landAll.setReg (.cr 6) c.pc).tick _ _).regs = m
  rw [hlanded]

theorem Core.reg_entered_ipc (c : Core) (waited : Nat) : (c.entered waited).reg (.cr 6) = c.pc :=
  ((c.landAll.setReg (.cr 6) c.pc).reg_tick c.cycle (c.entryCycle waited - c.cycle) (by decide)).trans
    (Core.reg_setReg_same ..)

theorem Core.reg_entered (c : Core) (waited : Nat) {r : SReg} (hipc : r.key ≠ 86) (hpend : r.key ≠ 88) :
    (c.entered waited).reg r = c.landAll.reg r :=
  ((c.landAll.setReg (.cr 6) c.pc).reg_tick c.cycle (c.entryCycle waited - c.cycle) hpend).trans
    (Core.reg_setReg_of_ne hipc ..)

theorem enterHandler_onlyCore {n : Nat} (hn : n < 64) (waited : Nat) (s : State) :
    OnlyCore n ((core n s).entered waited) s (enterHandler n waited s) := by
  unfold enterHandler
  refine .of_rest (rest_coreState ..) ?_
  rw [core_setCore_same _ _ _ hn, setCore_setCore]
  exact .setCore hn _ s

/-- An interrupt is recognised in the main bank, at an interruptible boundary. -/
theorem Core.outside_of_recognises {c : Core} (h : c.recognises = true) : c.inHandler = false ∧ c.lastNI = false := by
  simp only [Core.recognises, Core.interruptible, Bool.and_eq_true, Bool.not_eq_true'] at h
  obtain ⟨⟨hni, hin⟩, -⟩ := h
  exact ⟨hin, hni⟩

section
variable {t : Nat} {n : Fin 64} {s : State}

theorem exec_interruptEntry (waited : Nat) : exec (.interruptEntry t n waited) s =
    act t (fun x => if (core n x).recognises then enterHandler n waited x else x) s := rfl

theorem interruptEntry_idles {waited : Nat} (h : (core n (advance t s)).recognises = false) :
    Does (.interruptEntry t n waited) s (advance t s) := by
  refine does_act (exec_interruptEntry waited) ?_
  rw [if_neg (ne_true_of_eq_false h)]
  exact .rfl' _

theorem interruptEntry_enters {waited : Nat} {p : State → Prop} (h : (core n (advance t s)).recognises = true)
    (hp : ∀ z, OnlyCore n ((core n (advance t s)).entered waited) (advance t s) z → p z) :
    Leads (.interruptEntry t n waited) s p := by
  refine leads_act (exec_interruptEntry waited) ?_
  rw [if_pos h]
  exact hp _ (enterHandler_onlyCore n.isLt waited _).settle

/-! ### TIMER_MATCH (R317) -/

/-- The cycles until CYCLE_LO equals TIMER_CMP. -/
def Core.untilTimer (c : Core) : Nat := (c.reg (.cr 9) + 2 ^ 32 - c.cycle % 2 ^ 32) % 2 ^ 32

/-- A core with TIMER pending in a later cycle, the results landed that are due by another. -/
def Core.timerAt (c : Core) (cycle due : Nat) : Core := ({ c.request 2 with cycle }).land due

theorem Core.timerAt_eq (c : Core) (cycle due : Nat) : c.timerAt cycle due =
    { c with regs := (c.timerAt cycle due).regs, late := (c.timerAt cycle due).late, cycle } :=
  Core.land_eq ..

theorem Core.bitAt_irqPend_timerAt {c : Core} (h : ∀ l ∈ c.late, l.reg.key ≠ 88) (cycle due : Nat) :
    bitAt (c.timerAt cycle due).irqPend 2 = true := by
  have hreg : (c.timerAt cycle due).reg (.cr 8) = (c.request 2).reg (.cr 8) := Core.reg_land _ _ h
  rw [Core.bitAt_irqPend _ (by decide) (by decide), hreg, Core.reg_request_same, bitAt_setBit_true]

/-- A waiting core once CYCLE_LO has equalled TIMER_CMP (R317): the next cycle after that. -/
def Core.timed (c : Core) : Core := c.timerAt ((c.cycle + c.untilTimer + 1) % 2 ^ 64) (c.cycle + c.untilTimer + 1)

theorem Core.cycle_timed (c : Core) : c.timed.cycle % 2 ^ 32 = (c.reg (.cr 9) + 1) % 2 ^ 32 := by
  have hcycle : c.timed.cycle = (c.cycle + c.untilTimer + 1) % 2 ^ 64 := congrArg (·.cycle) (c.timerAt_eq ..)
  rw [hcycle, Core.untilTimer]
  omega

theorem exec_timerMatch : exec (.timerMatch t n) s =
    act t (fun x => if (core n x).state ≠ .waiting then x else setCore n (core n x).timed x) s := rfl

theorem timerMatch_idles (h : (core n (advance t s)).state ≠ .waiting) : Does (.timerMatch t n) s (advance t s) := by
  refine does_act exec_timerMatch ?_
  rw [if_pos h]
  exact .rfl' _

theorem timerMatch_times {p : State → Prop} (h : (core n (advance t s)).state = .waiting)
    (hp : ∀ z, OnlyCore n (core n (advance t s)).timed (advance t s) z → p z) : Leads (.timerMatch t n) s p := by
  refine leads_act exec_timerMatch ?_
  rw [if_neg (not_not_intro h)]
  exact hp _ (OnlyCore.setCore n.isLt ..).settle

/-! ### Register writes that act (R317, R347, R349) -/

theorem exec_cycleLoRead : exec (.cycleLoRead t n) s =
    act t (fun x => if (core n x).state = .off then x else setCore n (core n x).latch x) s := rfl

theorem exec_peerRaise (k : Fin 8) : exec (.peerRaise t n k) s =
    act t (fun x => if (core n x).state = .off then x else peerRaise n k x) s := rfl

theorem exec_moverSubmit (a : Nat) : exec (.moverSubmit t n a) s =
    act t (fun x => if (core n x).state = .off then x else moverSubmit n (a % 2 ^ 32) x) s := rfl

theorem exec_tapCtlWrite (v : Nat) : exec (.tapCtlWrite t n v) s =
    act t (fun x => if (core n x).state = .off then x else tapCtl n (v % 2 ^ 32) x) s := rfl

/-- What acts on a core that has power does nothing to one that is off. -/
theorem does_of_off {i : Instr} {f : State → State}
    (hx : exec i s = act t (fun x => if (core n x).state = .off then x else f x) s)
    (hoff : (core n (advance t s)).state = .off) : Does i s (advance t s) := by
  refine does_act hx ?_
  rw [if_pos hoff]
  exact .rfl' _

theorem does_of_on {i : Instr} {f : State → State} {y : State}
    (hx : exec i s = act t (fun x => if (core n x).state = .off then x else f x) s)
    (hon : (core n (advance t s)).state ≠ .off) (hy : f (advance t s) = y) : Does i s y := by
  refine does_act hx ?_
  rw [if_neg hon, hy]
  exact .rfl' _

theorem leads_of_on {i : Instr} {f : State → State} {p : State → Prop}
    (hx : exec i s = act t (fun x => if (core n x).state = .off then x else f x) s)
    (hon : (core n (advance t s)).state ≠ .off) (hp : p (settle (f (advance t s)))) : Leads i s p := by
  refine leads_act hx ?_
  rwa [if_neg hon]

end

/-- PEER is set pending on the core of that number in the cluster (R317). -/
theorem peerRaise_onlyCore {n k : Nat} (hn : n < 64) (hk : k < 8) (s : State) :
    OnlyCore (n / 8 * 8 + k) ((core (n / 8 * 8 + k) s).request 4) s (peerRaise n k s) := by
  unfold peerRaise
  rw [Nat.mod_eq_of_lt hk]
  exact .setCore (by omega) _ s

theorem moverSubmit_full {n a : Nat} {s : State} (h : 8 ≤ (core n s).moverQueue.length) :
    moverSubmit n a s = count .moverDropped n 1 s := if_pos h

theorem moverSubmit_takes {n a : Nat} {s : State} (h : (core n s).moverQueue.length < 8) :
    moverSubmit n a s = setCore n { core n s with
      moverQueue := (core n s).moverQueue ++ [a]
      data := (core n s).data.setByte (resultAt a) 0xFF } s := if_neg (Nat.not_le.2 h)

/-- A core whose TAP_CTL is written (R349). -/
def Core.tapSet (c : Core) (v : Nat) : Core :=
  if v % 2 = 1 ∧ c.reg (.cr 34) % 2 = 0 then
    ((c.setReg (.cr 34) (v &&& crMask 34)).setReg (.cr 37) 0).setReg (.cr 38) 0
  else c.setReg (.cr 34) (v &&& crMask 34)

section
variable {n : Nat} {v : Nat}

theorem tapCtl_onlyCore (hn : n < 64) (v : Nat) (s : State) : OnlyCore n ((core n s).tapSet v) s (tapCtl n v s) := by
  unfold tapCtl Core.tapSet
  extract_lets c c1
  split
  · exact .setCore hn _ s
  · split
    · exact { OnlyCore.setCore hn c1 s with }
    · exact .setCore hn c1 s

/-- A tap that is not enabled is owed no records. -/
theorem taps_tapCtl_of_disable (h : v % 2 = 0) (s : State) : ∀ w ∈ (tapCtl n v s).sluice.taps, w.core ≠ n := by
  unfold tapCtl
  extract_lets c c1
  rw [if_neg (fun henable => by omega), if_pos h]
  intro w hw
  simpa using (List.mem_filter.1 hw).2

theorem Core.reg_tapSet_ctl (c : Core) (v : Nat) : (c.tapSet v).reg (.cr 34) = v &&& crMask 34 := by
  unfold Core.tapSet
  split
  · rw [Core.reg_setReg_of_ne (by decide), Core.reg_setReg_of_ne (by decide), Core.reg_setReg_same]
  · exact Core.reg_setReg_same ..

theorem Core.reg_tapSet_of_enable {c : Core} (hv : v % 2 = 1) (hc : c.reg (.cr 34) % 2 = 0) :
    (c.tapSet v).reg (.cr 37) = 0 ∧ (c.tapSet v).reg (.cr 38) = 0 := by
  unfold Core.tapSet
  rw [if_pos ⟨hv, hc⟩]
  exact ⟨(Core.reg_setReg_of_ne (by decide) ..).trans (Core.reg_setReg_same ..), Core.reg_setReg_same ..⟩

theorem Core.reg_tapSet_of_disable {c : Core} (hv : v % 2 = 0) : (c.tapSet v).reg (.cr 37) = c.reg (.cr 37) := by
  unfold Core.tapSet
  rw [if_neg (fun henable => by omega)]
  exact Core.reg_setReg_of_ne (by decide) ..

end

/-! ### MOVER_DESC_DONE (R347, R348) -/

/-- A cluster's mover serves a core of the cluster that has a descriptor. -/
theorem moverCore_serves {cl n : Nat} (hcl : cl < 8) {s : State} (h : moverCore cl s = some n) :
    n < 64 ∧ (core n s).moverQueue ≠ [] := by
  unfold moverCore at h
  have hmem := List.mem_of_find?_eq_some h
  obtain ⟨i, -, rfl⟩ := List.mem_map.1 hmem
  exact ⟨by omega, by simpa using List.find?_some h⟩

/-- A range that reaches past data SRAM is not moved: RESULT is 2 (R347). -/
theorem moveDesc_far {cl n : Nat} {d : List Byte} {r : MoveIn} {s : State}
    (h : 0x20000 < field (leNat d) 64 17 + field (leNat d) 88 16) : moveDesc cl n d r s = (2, s) := if_pos h

/-- A range within data SRAM is moved one way or the other: RESULT is 0 (R347). -/
theorem moveDesc_near {cl n : Nat} {d : List Byte} {r : MoveIn} {s : State}
    (h : ¬ 0x20000 < field (leNat d) 64 17 + field (leNat d) 88 16) : (moveDesc cl n d r s).1 = 0 := by
  unfold moveDesc
  extract_lets v canal loc len
  rw [if_neg h]
  split <;> rfl

theorem moveDesc_result (cl n : Nat) (d : List Byte) (r : MoveIn) (s : State) : (moveDesc cl n d r s).1 =
    if 0x20000 < field (leNat d) 64 17 + field (leNat d) 88 16 then 2 else 0 := by
  split
  · next h => rw [moveDesc_far h]
  · next h => exact moveDesc_near h

/-- What the end of a descriptor leaves: RESULT is written, DESC_DONE is set, the mover has served the core. -/
def descDone (cl n a res : Nat) (y : State) : State :=
  let c := { core n y with data := (core n y).data.setByte (resultAt a) (BitVec.ofNat 8 res) }
  let z := count .moverDescs n 1 (setCore n (c.request 1) y)
  { z with sluice := { z.sluice with movers := z.sluice.movers.set cl (n % 8) } }

/-- The state with the oldest descriptor of a core taken from its queue. -/
def descTaken (n : Nat) (s : State) : State :=
  setCore n { core n s with moverQueue := (core n s).moverQueue.drop 1 } s

/-- The course of a descriptor that its mover serves. -/
def descMoved (cl n : Nat) (r : MoveIn) (s : State) : State :=
  let out := moveDesc cl n (moverHead n s) r (descTaken n s)
  descDone cl n ((core n s).moverQueue.headD 0) out.1 out.2

section
variable {n : Nat} (hn : n < 64) (cl a res : Nat) (y : State)

theorem core_descDone (hn : n < 64) : core n (descDone cl n a res y) =
    ({ core n y with data := (core n y).data.setByte (resultAt a) (BitVec.ofNat 8 res) } : Core).request 1 :=
  core_setCore_same n _ y hn

theorem ctrGet_descDone : ctrGet .moverDescs n (descDone cl n a res y) = min ctrMax (ctrGet .moverDescs n y + 1) :=
  ctrGet_count_same .moverDescs n 1 (setCore n _ y)

end

section
variable {t : Nat} {cl : Fin 8} {r : MoveIn} {s : State}

theorem moverDescDone_of_none (h : moverCore cl (advance t s) = none) :
    Does (.moverDescDone t ⟨cl, r⟩) s (advance t s) := by
  refine does_act (show _ = execMoverDescDone t ⟨cl, r⟩ s from rfl) ?_
  simp only [h]
  exact .rfl' _

section
variable {n : Nat} (hserve : moverCore cl (advance t s) = some n)
include hserve

theorem moverDescDone_idles (h : masterIssues (2 + cl) (advance t s) = false ∨ moverHeld n (advance t s) = true) :
    Does (.moverDescDone t ⟨cl, r⟩) s (advance t s) := by
  refine does_act (show _ = execMoverDescDone t ⟨cl, r⟩ s from rfl) ?_
  simp only [hserve]
  rw [if_pos (h.imp_left fun hstill => by rw [hstill]; rfl)]
  exact .rfl' _

theorem moverDescDone_moves {p : State → Prop} (hissues : masterIssues (2 + cl) (advance t s) = true)
    (hfree : moverHeld n (advance t s) = false) (hp : p (settle (descMoved cl n r (advance t s)))) :
    Leads (.moverDescDone t ⟨cl, r⟩) s p := by
  refine leads_act (show _ = execMoverDescDone t ⟨cl, r⟩ s from rfl) ?_
  obtain ⟨a, rest, hqueue⟩ := List.exists_cons_of_ne_nil (moverCore_serves cl.isLt hserve).2
  simp only [hserve, hissues, hfree]
  simp only [descMoved, descTaken, hqueue] at hp
  simpa [hqueue, descDone] using hp

end

end

end Sys2Proof.Machine
end


section
/-! TAP_RECORD, CORE_STOP_FORCED, STOCK_CORE_RELOAD and traps (R343, R346, R350, R351, R354, R359). -/

namespace Sys2Proof.Machine

/-! ### TAP_RECORD (R350, R351) -/

section
variable {β : Type} {π : State → β} {n : Nat} (hcount : ∀ c i k s, π (count c i k s) = π s)
  (hfree : ∀ k s, π { s with free := k } = π s) (hcore : ∀ c s, π (setCore n c s) = π s)
  (hstats : ∀ l k j s, π { s with sluice := { s.sluice with stats := l, rfiChanged := k, rfiFirst := j } } = π s)
include hstats

theorem statWindow_keeps (p : Plan) (i power sk : Nat) (zero : Bool) (x : StatPair) (s : State) :
    π (statWindow p i power sk zero x s) = π s := hstats ..

include hfree in
/-- A kernel's window changes the statistics and draws free values; nothing else. -/
theorem statSub_keeps (p : Plan) (i : Nat) (bytes : List Byte) (s : State) : π (statSub p i bytes s) = π s := by
  unfold statSub
  split
  · rfl
  · extract_lets m format sums x1
    split
    · exact hstats ..
    · split
      · exact statWindow_keeps hstats ..
      · split
        · exact (statWindow_keeps hstats ..).trans (hfree ..)
        · exact statWindow_keeps hstats ..

omit hstats in
include hcount hcore in
theorem ringRecord_keeps (bytes : List Byte) (s : State) : π (ringRecord n bytes s) = π s := by
  unfold ringRecord
  extract_lets c len wr
  split
  · exact hcount ..
  · exact (hcount ..).trans (hcore ..)

include hcount hfree hcore

/-- A record changes its core and the statistics, counts, and draws free values; nothing else. -/
theorem readRecord_keeps (k : Nat) (p : Plan) (v : Slot) (ts : TapSet) (full : Bool) (s : State) :
    π (readRecord n k p v ts full s) = π s := by
  have hstock (bytes : List Byte) : π (stockRecord n bytes s) = π s := (hcount ..).trans (hcore ..)
  unfold readRecord
  dsimp only
  split
  · exact ringRecord_keeps hcount hcore ..
  · split
    · exact hcount ..
    · split
      · exact (foldl_keeps (fun x i => statSub_keeps hfree hstats p i _ x) _ _).trans (hstock _)
      · exact hstock _

/-- A tap's read leaves what is owed one record less, and beyond that the core, the statistics and, of a read that
finds an uncorrectable error, the die. -/
theorem tapRead_keeps {bad : Bool} {d : TapDue} {s : State} (corrected : Nat) (full : Bool) (hnext : tapNext n s = some d)
    (herrors : ∀ die slot keys x, (bad = false → keys = []) → π (culvertErrors die slot keys corrected x) = π x) :
    π (tapRead n bad corrected full s) = π (tapStep d s) := by
  unfold tapRead
  simp only [hnext]
  split
  · rfl
  · split
    · rfl
    · split
      · refine (readRecord_keeps hcount hfree hcore hstats ..).trans (herrors _ _ _ _ fun hgood => ?_)
        rw [hgood]
        rfl
      · rfl

end

section
variable {t : Nat} {n : Fin 64} {corrected : Nat} {full : Bool} {s : State}

theorem exec_tapRecord (bad : Bool) : exec (.tapRecord t n ⟨bad, corrected, full⟩) s =
    act t (tapRead n bad corrected full) s := rfl

theorem tapRecord_of_none {bad : Bool} (h : tapNext n (advance t s) = none) :
    Does (.tapRecord t n ⟨bad, corrected, full⟩) s (advance t s) := by
  refine does_act (exec_tapRecord bad) ?_
  unfold tapRead
  simp only [h]
  exact .rfl' _

theorem tapRecord_reads {bad : Bool} {d : TapDue} (hnext : tapNext n (advance t s) = some d) : let x := advance t s
    Leads (.tapRecord t n ⟨bad, corrected, full⟩) s fun z =>
      z.sluice.taps = (tapStep d x).sluice.taps ∧ (∀ k, k ≠ n.val → core k z = core k x) ∧
      (bad = false → z.data = x.data) ∧ z.mem = x.mem ∧ z.force = x.force := by
  refine leads_act (exec_tapRecord bad) ?_
  rw [settle_sluice, settle_data, settle_mem, settle_force]
  refine ⟨?_, fun k hk => ?_, fun hgood => ?_, ?_, ?_⟩
  · exact tapRead_keeps (π := (·.sluice.taps)) (fun _ _ _ _ => rfl) (fun _ _ => rfl) (fun _ _ => rfl)
      (fun _ _ _ _ => rfl) corrected full hnext fun _ _ _ _ _ => culvertErrors_keeps (·.sluice.taps)
        (fun _ _ _ _ => rfl) (fun _ _ _ => rfl) (fun e y => congrArg (·.taps) (fire_sluice e y)) ..
  · rw [core_settle]
    exact tapRead_keeps (π := core k) (fun _ _ _ _ => rfl) (fun _ _ => rfl) (fun c y => core_setCore_of_ne c y hk)
      (fun _ _ _ _ => rfl) corrected full hnext fun _ _ _ _ _ => culvertErrors_keeps (core k)
        (fun _ _ _ _ => rfl) (fun _ _ _ => rfl) (fun e y => by rw [core, fire_sluice, core]) ..
  · refine tapRead_keeps (π := (·.data)) (fun _ _ _ _ => rfl) (fun _ _ => rfl) (fun _ _ => rfl)
      (fun _ _ _ _ => rfl) corrected full hnext fun die slot keys y hkeys => ?_
    rw [hkeys hgood]
    rfl
  · exact tapRead_keeps (π := (·.mem)) (fun _ _ _ _ => rfl) (fun _ _ => rfl) (fun _ _ => rfl)
      (fun _ _ _ _ => rfl) corrected full hnext fun _ _ _ _ _ => culvertErrors_mem ..
  · exact tapRead_keeps (π := (·.force)) (fun _ _ _ _ => rfl) (fun _ _ => rfl) (fun _ _ => rfl)
      (fun _ _ _ _ => rfl) corrected full hnext fun _ _ _ _ _ => culvertErrors_keeps (·.force)
        (fun _ _ _ _ => rfl) (fun _ _ _ => rfl) fire_force ..

end

theorem ringRecord_overruns {n : Nat} {bytes : List Byte} {s : State}
    (h : ¬ (core n s).tapFill + bytes.length ≤ (core n s).reg (.cr 36)) :
    ringRecord n bytes s = count .tapOverrun n 1 s := if_pos (Nat.not_le.1 h)

/-- A record for which there is room moves TAP_WR and is counted. -/
theorem ringRecord_enters {n : Nat} (hn : n < 64) {bytes : List Byte} {s : State}
    (h : (core n s).tapFill + bytes.length ≤ (core n s).reg (.cr 36)) :
    (core n (ringRecord n bytes s)).reg (.cr 37) = ((core n s).reg (.cr 37) + bytes.length) % 2 ^ 32 ∧
      ctrGet .tapRecords n (ringRecord n bytes s) = min ctrMax (ctrGet .tapRecords n s + 1) := by
  unfold ringRecord
  extract_lets c len wr
  rw [if_neg (Nat.not_lt.2 h)]
  refine ⟨?_, ctrGet_count_same .tapRecords n 1 _⟩
  exact (congrArg (·.reg (.cr 37)) (core_setCore_same n _ s hn)).trans (Core.reg_setReg_same ..)

/-! ### CORE_STOP_FORCED (R346) -/

/-- A stopped core under the owner that a commit gave it (R344). -/
def Core.passed (c : Core) : Core :=
  match c.newHost with
  | none => c
  | some h => { c with host := h, newHost := none, state := if h then .loadable else .running }

theorem Core.passed_eq (c : Core) :
    c.passed = { c with host := c.passed.host, newHost := c.passed.newHost, state := c.passed.state } := by
  unfold Core.passed
  split <;> rfl

theorem Core.passed_of_none {c : Core} (h : c.newHost = none) : c.passed = c := by
  unfold Core.passed
  rw [h]

/-- A core that has stopped and passed to its new owner: nothing is on its way, the memories are as they were. -/
theorem Core.passed_halted (c : Core) : c.halted.passed.stopSince = none ∧ c.halted.passed.late = [] ∧
    (c.newHost = none → c.halted.passed.state = .loadable) ∧ c.halted.passed.data = c.data ∧
    c.halted.passed.prog = c.prog := by
  have hpassed := c.halted.passed_eq
  have hhalted := c.halted_eq
  have hnew : c.halted.newHost = c.newHost := (congrArg Core.newHost hhalted :)
  refine ⟨(congrArg Core.stopSince hpassed :), (congrArg Core.late hpassed :).trans (congrArg Core.late hhalted :),
    fun h => ?_, (congrArg Core.data hpassed :).trans (congrArg Core.data hhalted :),
    (congrArg Core.prog hpassed :).trans (congrArg Core.prog hhalted :)⟩
  rw [Core.passed_of_none (hnew.trans h), Core.halted]

section
variable {n : Nat} (s : State)

theorem core_passOwner (hn : n < 64) : core n (passOwner n s) = (core n s).passed := by
  cases hnew : (core n s).newHost with
  | none => simp only [passOwner, Core.passed, hnew]
  | some h =>
    simp only [passOwner, Core.passed, hnew]
    exact core_setCore_same n _ s hn

theorem core_stopNow (hn : n < 64) : core n (stopNow n s) = (core n s).halted.passed := by
  rw [← core_halted hn, ← core_passOwner _ hn, stopNow]

theorem ctrGet_stopNow {c : Ctr} (hc : c.reporting = false) (i : Nat) : ctrGet c i (stopNow n s) = ctrGet c i s := by
  have hpass (y : State) : ctrGet c i (passOwner n y) = ctrGet c i y := by
    unfold passOwner
    extract_lets d
    split <;> rfl
  exact (hpass _).trans (ctrGet_coreState n .loadable _ hc i)

end

section
variable {t : Nat} {n : Fin 64} {s : State}

theorem exec_coreStopForced : exec (.coreStopForced t n) s = act t (fun x => match (core n x).stopSince with
    | some t0 => if t0 + msT 1 ≤ x.time.now then stopNow n (count .forcedStops n 1 x) else x
    | none => x) s := rfl

theorem coreStopForced_of_none (h : (core n (advance t s)).stopSince = none) :
    Does (.coreStopForced t n) s (advance t s) := by
  refine does_act exec_coreStopForced ?_
  simp only [h]
  exact .rfl' _

section
variable {t0 : Nat} (hstop : (core n (advance t s)).stopSince = some t0)
include hstop

theorem coreStopForced_waits (h : (advance t s).time.now < t0 + msT 1) :
    Does (.coreStopForced t n) s (advance t s) := by
  refine does_act exec_coreStopForced ?_
  simp only [hstop, if_neg (Nat.not_le.2 h)]
  exact .rfl' _

theorem coreStopForced_stops {p : State → Prop} (h : t0 + msT 1 ≤ (advance t s).time.now)
    (hp : p (settle (stopNow n (count .forcedStops n 1 (advance t s))))) : Leads (.coreStopForced t n) s p := by
  refine leads_act exec_coreStopForced ?_
  simp only [hstop, if_pos h]
  exact hp

end

end

/-! ### STOCK_CORE_RELOAD (R354, R359) -/

/-- A pair goes to one of the cores that are offered. -/
theorem mem_of_statCore {stock : List Nat} {l : List StatPair} {chan c : Nat} (h : statCore stock l chan = some c) :
    c ∈ stock := by
  unfold statCore at h
  extract_lets own at h
  split at h
  · next k hfind =>
    cases h
    exact List.mem_of_find?_eq_some hfind
  · exact List.mem_of_find?_eq_some h

section
variable {α : Type} (f : List α → α → α)

theorem length_foldl_append_one (l acc : List α) :
    (l.foldl (fun a x => a ++ [f a x]) acc).length = acc.length + l.length := by
  induction l generalizing acc with
  | nil => rfl
  | cons x r ih =>
    rw [List.foldl_cons, ih, List.length_append, List.length_singleton, List.length_cons]
    omega

/-- What holds of every value that a fold appends holds of all its values. -/
theorem forall_mem_foldl_append_one {P : α → Prop} {l : List α} (hf : ∀ acc, ∀ x ∈ l, P (f acc x)) :
    ∀ w ∈ l.foldl (fun a x => a ++ [f a x]) [], P w :=
  List.foldlRecOn (motive := fun a : List α => ∀ w ∈ a, P w) l _ (fun _ hw => absurd hw List.not_mem_nil)
    fun a ha x hx w hw => (List.mem_append.1 hw).elim (ha w) fun hnew => List.mem_singleton.1 hnew ▸ hf a x hx

end

/-- The STOCK cores that pairs can move to (R359). -/
def stockCores (s : State) : List Nat := (List.range 64).filter fun k =>
  !(core k s).host && !(core k s).left && (core k s).state != .trapped && (core k s).state != .off

/-- The pairs with those of one core given up. -/
def pairsLeft (n : Nat) (s : State) : List StatPair :=
  s.sluice.stats.map fun x => if x.core = some n then { x with core := none } else x

/-- A pair without a core goes to a STOCK core, if one takes it. -/
def reassign (stock : List Nat) (all : List StatPair) (l : List StatPair) (x : StatPair) : StatPair :=
  if x.core.isSome then x else { x with core := statCore stock (l ++ all.drop l.length) x.chan }

/-- The pairs after a core has been left TRAPPED (R359). -/
def pairsMoved (n : Nat) (s : State) : List StatPair :=
  (pairsLeft n s).foldl (fun l x => l ++ [reassign (stockCores s) (pairsLeft n s) l x]) []

section
variable {n : Nat} {s : State}

theorem length_pairsMoved : (pairsMoved n s).length = s.sluice.stats.length := by
  rw [pairsMoved, length_foldl_append_one, pairsLeft, List.length_map, List.length_nil, Nat.zero_add]

/-- A trapped core is none of those that pairs move to. -/
theorem notMem_stockCores (h : (core n s).state = .trapped) : n ∉ stockCores s := fun hmem => by
  have hfree := (List.mem_filter.1 hmem).2
  simp [h] at hfree

theorem core_ne_of_mem_pairsLeft : ∀ w ∈ pairsLeft n s, w.core ≠ some n := by
  intro w hw
  obtain ⟨y, -, rfl⟩ := List.mem_map.1 hw
  split
  · exact Option.some_ne_none n ∘ Eq.symm
  · assumption

/-- No pair stays with a core that is left TRAPPED. -/
theorem core_ne_of_mem_pairsMoved (h : (core n s).state = .trapped) : ∀ w ∈ pairsMoved n s, w.core ≠ some n := by
  refine forall_mem_foldl_append_one _ fun acc x hx => ?_
  unfold reassign
  split
  · exact core_ne_of_mem_pairsLeft x hx
  · exact fun hcore => notMem_stockCores h (mem_of_statCore hcore)

theorem reloadStock_idles (h : (core n s).host = true ∨ (core n s).state ≠ .trapped ∨ (core n s).left = true) :
    reloadStock n s = s := if_pos h

section
variable (hhost : (core n s).host = false) (htrap : (core n s).state = .trapped) (hleft : (core n s).left = false)
include hhost htrap hleft

theorem not_reloadStock_idles :
    ¬ ((core n s).host = true ∨ (core n s).state ≠ .trapped ∨ (core n s).left = true) := by
  simp [hhost, htrap, hleft]

theorem reloadStock_restarts (h : (core n s).again = false) :
    reloadStock n s = setCore n { resetCore with state := .running, trapAt := (core n s).trapAt } s :=
  (if_neg (not_reloadStock_idles hhost htrap hleft)).trans (if_neg (ne_true_of_eq_false h))

/-- After a second trap within 60 s the core stays TRAPPED and its pairs leave it. -/
theorem reloadStock_leaves (h : (core n s).again = true) : ∃ lost, reloadStock n s =
    setCore n { core n s with left := true }
      (fire .sluiceCore (count .statsUnassigned 0 lost
        { s with sluice := { s.sluice with stats := pairsMoved n s } })) :=
  ⟨_, (if_neg (not_reloadStock_idles hhost htrap hleft)).trans (if_pos h)⟩

end

end

section
variable {t : Nat} {n : Fin 64} {s : State}

theorem exec_stockCoreReload : exec (.stockCoreReload t n) s = act t (reloadStock n) s := rfl

theorem stockCoreReload_does {y : State} (h : reloadStock n (advance t s) = y) : Does (.stockCoreReload t n) s y :=
  does_act exec_stockCoreReload (h ▸ .rfl' _)

theorem stockCoreReload_leaves (hhost : (core n (advance t s)).host = false)
    (htrap : (core n (advance t s)).state = .trapped) (hleft : (core n (advance t s)).left = false)
    (hagain : (core n (advance t s)).again = true) : let x := advance t s
    Leads (.stockCoreReload t n) s fun z =>
      (core n z).left = true ∧ (core n z).state = .trapped ∧ z.fault.sticky.getLsbD Fs.sluiceCore.num = true ∧
      (∀ w ∈ z.sluice.stats, w.core ≠ some n.val) ∧ z.sluice.stats.length = x.sluice.stats.length := by
  intro x
  obtain ⟨lost, hreload⟩ := reloadStock_leaves hhost htrap hleft hagain
  refine leads_act exec_stockCoreReload ?_
  rw [hreload, core_settle, core_setCore_same _ _ _ n.isLt, settle_fault_sticky, settle_sluice]
  generalize hy : count .statsUnassigned 0 lost { x with sluice := { x.sluice with stats := pairsMoved n x } } = y
  have hstats : (setCore n { core n x with left := true } (fire .sluiceCore y)).sluice.stats = pairsMoved n x :=
    (congrArg (·.stats) (fire_sluice .sluiceCore y)).trans (by rw [← hy]; rfl)
  rw [hstats]
  exact ⟨rfl, htrap, sticky_fire_same .sluiceCore y, core_ne_of_mem_pairsMoved htrap, length_pairsMoved⟩

end

/-! ### Traps (R343, R359) -/

/-- A core that has trapped at an instant (R343, R359). -/
def Core.trappedAt (c : Core) (cause now : Nat) : Core :=
  { (c.landAll.setReg (.cr 13) cause).setReg (.cr 14) c.pc with
    state := .trapped
    trapAt := some now
    again := match c.trapAt with
      | some t0 => decide (now < t0 + secT 60)
      | none => false }

theorem core_trapCore {n : Nat} (hn : n < 64) (cause : Nat) (s : State) :
    core n (trapCore n cause s) = (core n s).trappedAt cause s.time.now := by
  unfold trapCore
  dsimp only
  rw [core, raise_sluice, fire_sluice]
  refine (core_coreState_same .trapped _ hn).trans ?_
  rw [core_setCore_same _ _ _ hn]
  rfl

/-- A trap is another within 60 s exactly when the core trapped less than 60 s before. -/
theorem again_trapCore {n : Nat} (hn : n < 64) (cause : Nat) (s : State) : (core n (trapCore n cause s)).again = true ↔
    ∃ t0, (core n s).trapAt = some t0 ∧ s.time.now < t0 + secT 60 := by
  rw [core_trapCore hn, Core.trappedAt]
  cases (core n s).trapAt with
  | none => simp
  | some t0 => simp

/-- Settles O41: each row by what it makes of its core, `OnlyCore` where it changes nothing else. -/
theorem sluiceCoresInterruptTapAndMove : Obligations.SluiceCoresInterruptTapAndMove := by
  unfold Obligations.SluiceCoresInterruptTapAndMove
  refine ⟨fun t n waited s => ?interrupt, fun t n s => ?registers, fun t cl r s => ?mover,
    fun t n corrected full s => ?taps, fun n cause x => ?trap, fun n bytes x => ?ring⟩
  case interrupt =>
    intro x c
    refine ⟨interruptEntry_idles, fun h => interruptEntry_enters h fun z hz => ?_, Core.outside_of_recognises⟩
    obtain ⟨hcore, hothers, hmem, hdata⟩ := hz
    have heq := c.entered_eq waited
    rw [hcore]
    exact ⟨congrArg (·.inHandler) heq, congrArg (·.pc) heq, c.reg_entered_ipc waited, congrArg (·.late) heq,
      congrArg (·.state) heq, congrArg (·.data) heq, congrArg (·.prog) heq, congrArg (·.cycle) heq,
      fun r => c.reg_entered waited, hothers, hmem, hdata⟩
  case registers =>
    intro x c
    refine ⟨timerMatch_idles, fun hwaits hlate => timerMatch_times hwaits fun z hz => ?_, fun hoff =>
      ⟨does_of_off exec_cycleLoRead hoff, fun k => does_of_off (exec_peerRaise k) hoff,
        fun a => does_of_off (exec_moverSubmit a) hoff, fun v => does_of_off (exec_tapCtlWrite v) hoff⟩, fun hon =>
      ⟨does_of_on exec_cycleLoRead hon rfl, fun k => leads_of_on (exec_peerRaise k) hon ?_, fun a =>
        ⟨fun hfull => does_of_on (exec_moverSubmit a) hon (moverSubmit_full hfull),
          fun hroom => does_of_on (exec_moverSubmit a) hon (moverSubmit_takes hroom)⟩,
        fun v => leads_of_on (exec_tapCtlWrite v) hon ?_⟩⟩
    · obtain ⟨hcore, hothers, hmem, -⟩ := hz
      have heq := c.timerAt_eq ((c.cycle + c.untilTimer + 1) % 2 ^ 64) (c.cycle + c.untilTimer + 1)
      rw [hcore]
      exact ⟨Core.bitAt_irqPend_timerAt hlate .., c.cycle_timed, congrArg (·.pc) heq,
        (congrArg (·.state) heq).trans hwaits, hothers, hmem⟩
    · obtain ⟨hcore, hothers, hmem, hdata⟩ := (peerRaise_onlyCore n.isLt k.isLt x).settle
      rw [hcore]
      exact ⟨Core.bitAt_irqPend_request _ (by decide) (by decide), hothers, hmem, hdata⟩
    · obtain ⟨hcore, hothers, hmem, hdata⟩ := (tapCtl_onlyCore n.isLt (v % 2 ^ 32) x).settle
      have hparity : v % 2 ^ 32 % 2 = v % 2 := by omega
      rw [hcore, settle_sluice]
      exact ⟨c.reg_tapSet_ctl _, fun hv => Core.reg_tapSet_of_enable (hparity.trans hv),
        fun hv => ⟨taps_tapCtl_of_disable (hparity.trans hv) x, Core.reg_tapSet_of_disable (hparity.trans hv)⟩,
        hothers, hmem, hdata⟩
  case mover =>
    intro x
    refine ⟨moverDescDone_of_none, fun n hserve => ⟨moverDescDone_idles hserve, fun hissues hfree => ?_⟩⟩
    intro a v far x1 y
    have hn := (moverCore_serves cl.isLt hserve).1
    have hqueue : (core n x1).moverQueue = (core n x).moverQueue.drop 1 :=
      congrArg Core.moverQueue (core_setCore_same n _ x hn)
    have hmem : x1.mem = x.mem := rfl
    have hfar : far → y = x1 := fun h => congrArg Prod.snd (moveDesc_far h)
    have hstate : descMoved cl n r x = descDone cl n a (if far then 2 else 0) y :=
      congrArg (descDone cl n a · y) (moveDesc_result ..)
    refine moverDescDone_moves hserve hissues hfree ?_
    rw [hstate]
    clear_value y x1
    rw [core_settle, settle_sluice, settle_mem, core_descDone _ _ _ _ hn]
    refine ⟨fun h => ?_, rfl, Core.bitAt_irqPend_request _ (by decide) (by decide), ?_, rfl, ?_, ?_⟩
    · rw [← hqueue, ← hmem, hfar h]
      exact ⟨rfl, rfl⟩
    · exact RegFile.getD_set_same _ _ _ _ cl.isLt
    · refine (congrArg BitVec.toNat (Memory.byte_setByte ..)).trans ?_
      rw [if_pos rfl]
      split <;> rfl
    · exact ((settle_eq _).ctr .moverDescs n rfl).trans (ctrGet_descDone ..)
  case taps =>
    intro x
    refine ⟨fun bad => tapRecord_of_none, fun bad d => tapRecord_reads, coreStopForced_of_none, fun t0 hstop =>
      ⟨coreStopForced_waits hstop, fun hdue => coreStopForced_stops hstop hdue ?_⟩,
      fun h => stockCoreReload_does (reloadStock_idles h), fun hhost htrap hleft =>
      ⟨fun h => stockCoreReload_does (reloadStock_restarts hhost htrap hleft h),
        stockCoreReload_leaves hhost htrap hleft⟩⟩
    obtain ⟨hsince, hlate, hloadable, hdata, hprog⟩ := (core n x).passed_halted
    have hcore : core n (settle (stopNow n (count .forcedStops n 1 x))) = (core n x).halted.passed :=
      (core_settle ..).trans (core_stopNow _ n.isLt)
    rw [hcore]
    refine ⟨?_, hsince, hlate, hloadable, hdata, hprog⟩
    refine ((settle_eq _).ctr .forcedStops n rfl).trans ((ctrGet_stopNow _ rfl n).trans ?_)
    exact ctrGet_count_same ..
  case trap =>
    intro z
    exact ⟨congrArg (·.trapAt) (core_trapCore n.isLt cause x), again_trapCore n.isLt cause x⟩
  case ring =>
    intro c room
    exact ⟨ringRecord_overruns, ringRecord_enters n.isLt⟩

end Sys2Proof.Machine
end


section
/-! The compute slot (R316, R321, R322, R330, R332): the fields of MAC, ALU, ACC and IMM words, and the fitting of
results. -/

namespace Sys2Proof.Machine

/-! ### Fields (R15) -/

theorem field_eq (v lo n : Nat) : field v lo n = v / 2 ^ lo % 2 ^ n := by rw [field, Nat.shiftRight_eq_div_pow]

theorem bitAt_eq_field (v i : Nat) : bitAt v i = (field v i 1 == 1) := rfl

/-! ### Two's complement (R332) -/

theorem two_pow_pos (n : Nat) : (0 : Int) < 2 ^ n := Int.pow_pos (by decide)

theorem two_pow_eq_twice {n : Nat} (hn : 1 ≤ n) : (2 ^ n : Int) = 2 * 2 ^ (n - 1) := by
  rw [← Int.pow_succ', Nat.sub_add_cancel hn]

theorem two_pow_le_two_pow {m n : Nat} (h : m ≤ n) : (2 ^ m : Int) ≤ 2 ^ n := by
  have hnat : 2 ^ m ≤ 2 ^ n := Nat.pow_le_pow_right (by decide) h
  exact_mod_cast hnat

theorem wrapTo_zero (n : Nat) : wrapTo n 0 = 0 := by rw [wrapTo, Int.zero_emod, Int.toNat_zero]

theorem wrapTo_bit {n : Nat} (hn : 1 ≤ n) (p : Prop) [Decidable p] :
    wrapTo n (if p then 1 else 0) = if p then 1 else 0 := by
  have hhalf := two_pow_pos (n - 1)
  have hone : (1 : Int) < 2 ^ n := by
    rw [two_pow_eq_twice hn]
    omega
  split
  · rw [wrapTo, Int.emod_eq_of_lt (by decide) hone, Int.toNat_one]
  · exact wrapTo_zero n

/-- A field of `n` bits reads as the integer that was wrapped into it exactly when that lies in the range of `n`
bits. -/
theorem signed_wrapTo {n : Nat} (hn : 1 ≤ n) (v : Int) :
    signed n (wrapTo n v) = v ↔ -(2 ^ (n - 1)) ≤ v ∧ v < 2 ^ (n - 1) := by
  have hcast : ((wrapTo n v : Nat) : Int) = v % 2 ^ n := Int.toNat_of_nonneg (Int.emod_nonneg _ (Int.ne_of_gt (two_pow_pos n)))
  have hlow := Int.emod_nonneg v (Int.ne_of_gt (two_pow_pos n))
  have hhigh := Int.emod_lt_of_pos v (two_pow_pos n)
  have hlt : wrapTo n v < 2 ^ (n - 1) ↔ v % 2 ^ n < 2 ^ (n - 1) := by rw [← hcast]; norm_cast
  have hpos := two_pow_pos (n - 1)
  simp only [signed, hlt, hcast]
  rw [two_pow_eq_twice hn] at *
  generalize (2 ^ (n - 1) : Int) = half at *
  constructor
  · intro h
    split at h <;> omega
  · rintro ⟨hge, hle⟩
    rcases Int.lt_or_le v 0 with hneg | hnonneg
    · rw [← Int.add_emod_right, Int.emod_eq_of_lt (by omega) (by omega), if_neg (by omega)]
      omega
    · rw [Int.emod_eq_of_lt hnonneg (by omega), if_pos hle]

/-! ### Fitting (R332) -/

section
variable {n : Nat} (hn : 2 ≤ n) (cl : Nat) (v : Int)
include hn

/-- Without saturation OV says that the value changed. -/
theorem fit_wrap_ov : (fit n cl false v).ov = true ↔ ¬ (-(2 ^ (n - 1) : Int) ≤ v ∧ v < 2 ^ (n - 1)) := by
  rw [← signed_wrapTo (by omega)]
  simp [fit]

omit hn in
/-- With saturation SV says that the value changed. -/
theorem fit_clamp_sv : (fit n cl true v).sv = true ↔ ¬ (-(2 ^ (cl - 1) : Int) ≤ v ∧ v < 2 ^ (cl - 1)) := by
  have hpos := two_pow_pos (cl - 1)
  simp only [fit, if_true, bne_iff_ne]
  generalize (2 ^ (cl - 1) : Int) = bound at *
  (repeat' split) <;> omega

/-- A clamped result is the value moved into the range of the clamp. -/
theorem signed_fit_clamp {cl : Nat} (hcl : cl ≤ n) :
    signed n (fit n cl true v).bits = max (-(2 ^ (cl - 1) : Int)) (min v (2 ^ (cl - 1) - 1)) := by
  have hpos := two_pow_pos (cl - 1)
  have hle : (2 ^ (cl - 1) : Int) ≤ 2 ^ (n - 1) := two_pow_le_two_pow (by omega)
  simp only [fit, if_true]
  rw [(signed_wrapTo (by omega) _).2]
  · (repeat' split) <;> omega
  · (repeat' split) <;> omega

end

/-! ### MAC words (R321, R322) -/

/-- The fields of a word of class MAC. -/
theorem fields_of_mac {top op S F ad dx dy w : Nat} (hop : op ≤ 4) (hS : S < 2) (hF : F < 2) (had : ad < 4)
    (hdx : dx < 32) (hdy : dy < 32)
    (hw : w = top * 2 ^ 30 + 1 * 2 ^ 26 + op * 2 ^ 23 + S * 2 ^ 22 + F * 2 ^ 21 + ad * 2 ^ 19 + dx * 2 ^ 14 + dy * 2 ^ 9) :
    wClass w = 1 ∧ field w 23 3 = op ∧ field w 22 1 = S ∧ field w 21 1 = F ∧ field w 19 2 = ad ∧ field w 14 5 = dx ∧
      field w 9 5 = dy ∧ field w 0 9 = 0 := by
  simp only [wClass, field_eq]
  omega

theorem product_eq (frac : Bool) (x y : Int) : product frac x y = (if frac then 2 else 1) * (x * y) := by
  cases frac
  · exact (Int.one_mul _).symm
  · exact Int.mul_assoc 2 x y

theorem computeWord_mac {c : Core} {w : Nat} (hclass : wClass w = 1) :
    wOp w = field w 23 3 ∧ isCompute w = true ∧ computeWord c w = macWord c w :=
  ⟨if_pos (.inl hclass), by rw [isCompute, hclass]; rfl, if_pos hclass⟩

/-! ### ALU words (R316, R321, R322) -/

/-- The fields of a word of class ALU. -/
theorem fields_of_alu {top op S W dd d1 d2 I w : Nat} (hop : op ≤ 14) (hS : S < 2) (hW : W < 2) (hdd : dd < 32)
    (hd1 : d1 < 32) (hd2 : d2 < 32) (hI : I < 2)
    (hw : w = top * 2 ^ 30 + 2 * 2 ^ 26 + op * 2 ^ 22 + S * 2 ^ 21 + W * 2 ^ 20 + dd * 2 ^ 15 + d1 * 2 ^ 10 + d2 * 2 ^ 5 +
      I * 2 ^ 4) :
    wClass w = 2 ∧ field w 22 4 = op ∧ field w 21 1 = S ∧ field w 20 1 = W ∧ field w 15 5 = dd ∧ field w 10 5 = d1 ∧
      field w 5 5 = d2 ∧ field w 4 1 = I ∧ field w 0 4 = 0 := by
  simp only [wClass, field_eq]
  omega

theorem computeWord_alu {c : Core} {w : Nat} (hclass : wClass w = 2) :
    wOp w = field w 22 4 ∧ isCompute w = true ∧ computeWord c w = aluWord c w := by
  refine ⟨?_, by rw [isCompute, hclass]; rfl, ?_⟩
  · rw [wOp, hclass]
    rfl
  · rw [computeWord, hclass]
    rfl

/-- An operation with one source, or a shift, does not read a second value. -/
theorem aluResult_of_second {op n : Nat} {sat : Bool} {x : Int} {ux uy uz k : Nat} (hop : op ≤ 14)
    (h : aluTwo op = true → uy = uz) :
    aluResult op n sat x (signed n uy) ux uy k = aluResult op n sat x (signed n uz) ux uz k := by
  by_cases htwo : aluTwo op = true
  · rw [h htwo]
  · have hone : op = 5 ∨ op = 6 ∨ op = 7 ∨ op = 8 ∨ op = 9 ∨ op = 12 := by
      simp [aluTwo] at htwo
      omega
    rcases hone with rfl | rfl | rfl | rfl | rfl | rfl <;> rfl

/-- The results of R322, a left shift by the width or more 0 and a comparison a bit. -/
theorem aluResult_eq {op n : Nat} (hn : 1 ≤ n) (sat : Bool) (x y : Int) (ux uy k : Nat) :
    op ≤ 14 → aluResult op n sat x y ux uy k = match op with
      | 0 => fit n n sat (x + y)
      | 1 => fit n n sat (x - y)
      | 2 => ⟨ux &&& uy, false, false⟩
      | 3 => ⟨ux ||| uy, false, false⟩
      | 4 => ⟨ux ^^^ uy, false, false⟩
      | 5 => if n ≤ k then ⟨0, false, false⟩ else fit n n sat (x * 2 ^ k)
      | 6 => ⟨wrapTo n (if n ≤ k then (if x < 0 then -1 else 0) else x / 2 ^ k), false, false⟩
      | 7 => ⟨if n ≤ k then 0 else ux / 2 ^ k, false, false⟩
      | 8 => fit n n sat (if x < 0 then -x else x)
      | 9 => fit n n sat (-x)
      | 10 => ⟨wrapTo n (min x y), false, false⟩
      | 11 => ⟨wrapTo n (max x y), false, false⟩
      | 12 => ⟨wrapTo n x, false, false⟩
      | 13 => ⟨if x < y then 1 else 0, false, false⟩
      | _ => ⟨if x = y then 1 else 0, false, false⟩ := by
  intro hop
  rcases (by omega : op ≤ 4 ∨ op = 5 ∨ (6 ≤ op ∧ op ≤ 12) ∨ op = 13 ∨ op = 14) with
    hlow | rfl | ⟨hge, hle⟩ | rfl | rfl
  · rcases (by omega : op = 0 ∨ op = 1 ∨ op = 2 ∨ op = 3 ∨ op = 4) with rfl | rfl | rfl | rfl | rfl <;> rfl
  · exact congrArg (if n ≤ k then Fit.mk · false false else fit n n sat (x * 2 ^ k)) (wrapTo_zero n)
  · rcases (by omega : op = 6 ∨ op = 7 ∨ op = 8 ∨ op = 9 ∨ op = 10 ∨ op = 11 ∨ op = 12) with
      rfl | rfl | rfl | rfl | rfl | rfl | rfl <;> rfl
  · exact congrArg (Fit.mk · false false) (wrapTo_bit hn (x < y))
  · exact congrArg (Fit.mk · false false) (wrapTo_bit hn (x = y))

/-! ### ACC words (R321, R322) -/

/-- The fields of a word of class ACC. -/
theorem fields_of_acc {top op S W ad as dd sh rnd w : Nat} (hop : op ≤ 7) (hS : S < 2) (hW : W < 2) (had : ad < 4)
    (has : as < 4) (hdd : dd < 32) (hsh : sh < 64) (hrnd : rnd < 2)
    (hw : w = top * 2 ^ 30 + 3 * 2 ^ 26 + op * 2 ^ 22 + S * 2 ^ 21 + W * 2 ^ 20 + ad * 2 ^ 18 + as * 2 ^ 16 + dd * 2 ^ 11 +
      sh * 2 ^ 5 + rnd * 2 ^ 4) :
    wClass w = 3 ∧ field w 22 4 = op ∧ field w 21 1 = S ∧ field w 20 1 = W ∧ field w 18 2 = ad ∧ field w 16 2 = as ∧
      field w 11 5 = dd ∧ field w 5 6 = sh ∧ field w 4 1 = rnd ∧ field w 0 4 = 0 := by
  simp only [wClass, field_eq]
  omega

theorem computeWord_acc {c : Core} {w : Nat} (hclass : wClass w = 3) :
    wOp w = field w 22 4 ∧ isCompute w = true ∧ computeWord c w = accWord c w := by
  refine ⟨?_, by rw [isCompute, hclass]; rfl, ?_⟩
  · rw [wOp, hclass]
    rfl
  · rw [computeWord, hclass]
    rfl

/-! ### IMM words (R321) -/

/-- The fields of a word of class IMM. -/
theorem fields_of_imm {top dd imm w : Nat} (hdd : dd < 32) (himm : imm < 2 ^ 16)
    (hw : w = top * 2 ^ 30 + 9 * 2 ^ 26 + dd * 2 ^ 21 + imm * 2 ^ 5) :
    wClass w = 9 ∧ field w 21 5 = dd ∧ field w 5 16 = imm ∧ field w 0 5 = 0 := by
  simp only [wClass, field_eq]
  omega

/-- Settles O37: each class by the fields of its words. -/
theorem sluiceComputeWordsCompute : Obligations.SluiceComputeWordsCompute := by
  unfold Obligations.SluiceComputeWordsCompute
  refine ⟨fun n v hn => ?fit, ?mac, ?alu, ?acc, ?imm⟩
  case fit =>
    exact ⟨fun cl => ⟨rfl, rfl, fit_wrap_ov hn cl v⟩, fun cl _ hcl =>
      ⟨rfl, fit_clamp_sv cl v, signed_fit_clamp hn v hcl⟩⟩
  case mac =>
    intro c top op S F ad dx dy _ hop hS hF had hdx hdy w y p a f
    obtain ⟨hclass, hfop, hfS, hfF, hfad, hfdx, hfdy, hzero⟩ := fields_of_mac hop hS hF had hdx hdy (show w = _ from rfl)
    obtain ⟨hwop, hslot, hword⟩ := computeWord_mac (c := c) hclass
    rw [hfop] at hwop
    clear_value w
    refine ⟨?_, hslot, by rw [wRow, hclass, hwop], ?_⟩
    · simp [wordOk, hclass, hwop, hzero, hop]
    · have hp : product (F == 1) (signed 16 (c.d dx)) y = p := by
        rw [product_eq]
        simp only [beq_iff_eq, p]
      rw [hword, macWord]
      simp only [hwop, bitAt_eq_field, hfS, hfF, hfad, hfdx, hfdy]
      rw [show (if op = 3 ∨ op = 4 then (c.d dy : Int) else signed 16 (c.d dy)) = y from rfl, hp]
  case alu =>
    intro c top op S W dd d1 d2 I _ hop hS hW hdd hd1 hd2 hI hpairs w n u1 u2 x y k r
    obtain ⟨hclass, hfop, hfS, hfW, hfdd, hfd1, hfd2, hfI, hzero⟩ :=
      fields_of_alu hop hS hW hdd hd1 hd2 hI (show w = _ from rfl)
    obtain ⟨hwop, hslot, hword⟩ := computeWord_alu (c := c) hclass
    rw [hfop] at hwop
    clear_value w
    have hn : 1 ≤ n := by simp only [n]; split <;> decide
    have hr : aluResult op n (S == 1) x y u1 u2 k = r := aluResult_eq hn _ _ _ _ _ _ hop
    refine ⟨?_, hslot, by rw [wRow, hclass, hwop], ?_⟩
    · have hpairsOk : aluPairsOk w = true := by
        simp only [aluPairsOk, hfop, hfW, hfdd, hfd1, hfd2, Bool.or_eq_true, Bool.and_eq_true, beq_iff_eq,
          Bool.not_eq_true']
        rcases (by omega : W = 0 ∨ W = 1) with hW | hW
        · exact .inl hW
        · obtain ⟨hdd, hd1, hd2⟩ := hpairs hW
          exact .inr ⟨⟨hdd, hd1⟩, (Bool.eq_false_or_eq_true (aluTwo op)).symm.imp_right fun htwo =>
            hd2 (by simpa [aluTwo] using htwo)⟩
      simp [wordOk, hclass, hwop, hzero, hop, hpairsOk]
    · rw [hword, aluWord]
      simp only [hwop, bitAt_eq_field, hfS, hfW, hfdd, hfd1, hfd2, hfI, beq_iff_eq, toDW]
      rw [aluResult_of_second (uz := if W = 1 then c.pair d2 else c.d d2) hop fun htwo => if_pos htwo]
      exact congrArg (fun f : Fit =>
        (⟨if W = 1 then toPair c dd f.bits 1 else toD c dd f.bits 1, f.sv, f.ov⟩ : Slot2)) hr
  case acc =>
    intro c top op S W ad as dd sh rnd _ hop hS hW had has hdd hsh hrnd hpairs w a b acc e
    obtain ⟨hclass, hfop, hfS, hfW, hfad, hfas, hfdd, hfsh, hfrnd, hzero⟩ :=
      fields_of_acc hop hS hW had has hdd hsh hrnd (show w = _ from rfl)
    obtain ⟨hwop, hslot, hword⟩ := computeWord_acc (c := c) hclass
    rw [hfop] at hwop
    clear_value w
    refine ⟨?_, hslot, by rw [wRow, hclass, hwop], ?_⟩
    · have heven : W = 0 ∨ ¬ (op = 5 ∨ op = 7) ∨ dd % 2 = 0 := by omega
      simpa [wordOk, hclass, hwop, hzero, hop, hfW, hfdd, or_assoc] using heven
    · rw [hword, accWord]
      simp only [hwop, bitAt_eq_field, hfS, hfW, hfad, hfas, hfdd, hfsh, hfrnd, beq_iff_eq, toDW]
      refine ⟨?_, ?_, ?_, ?_, ?_, ?_, ?_, ?_⟩ <;> rintro rfl
      case refine_4 =>
        have hsign : plain 40 (if b < 0 then -1 else 0) = ⟨if b < 0 then 2 ^ 40 - 1 else 0, false, false⟩ := by
          split <;> rfl
        exact congrArg (fun f => acc (if 40 ≤ sh then f else fit 40 32 (S == 1) (b / 2 ^ sh))) hsign
      all_goals rfl
  case imm =>
    intro c top dd imm _ hdd himm w
    obtain ⟨hclass, hfdd, hfimm, hzero⟩ := fields_of_imm hdd himm (show w = _ from rfl)
    clear_value w
    have hop : wOp w = 0 := by rw [wOp, hclass]; rfl
    refine ⟨by rw [wordOk, hclass]; simp [hzero], by rw [isCompute, hclass]; rfl, by rw [wRow, hclass, hop], ?_⟩
    rw [computeWord, hclass, hfdd, hfimm, toD, Nat.mod_eq_of_lt (show imm < 65536 from himm)]
    rfl

end Sys2Proof.Machine
end


section
/-! The pointers of a sluice core (R325 to R327): linear, modulo and bit-reversed post-modification. -/

namespace Sys2Proof.Machine

/-! ### Modulo buffers (R327) -/

/-- A length up to 2^16 fits a power of two that is not greater. -/
theorem ceilLog2_spec {len : Nat} (h : len ≤ 65536) : len ≤ 2 ^ ceilLog2 len ∧ ceilLog2 len ≤ 16 := by
  unfold ceilLog2
  cases hfind : (List.range 18).find? fun c => decide (len ≤ 2 ^ c) with
  | none => exact absurd (List.find?_eq_none.1 hfind 16 (by decide)) (by simpa using h)
  | some c =>
    obtain ⟨hfits, -, hleast⟩ := List.find?_range_eq_some.1 hfind
    refine ⟨by simpa using hfits, Nat.le_of_not_lt fun hlt => ?_⟩
    have hsmaller := hleast 16 hlt
    simp only [Bool.not_eq_true', decide_eq_false_iff_not] at hsmaller
    exact hsmaller h

section
variable {c : Core} {n : Nat} {v : Int} {g : Nat}

theorem postMod_linear (h : c.reg (.cr (16 + n)) % 4 = 0 ∨ (c.inHandler ∧ n < 8)) :
    postMod c n v g = wrapTo 32 (c.p n + v) := if_pos h

section
variable (hbank : c.inHandler = false ∨ 8 ≤ n)
include hbank

theorem not_linear {mode : Nat} (h : mode % 4 ≠ 0) : ¬ (mode % 4 = 0 ∨ (c.inHandler = true ∧ n < 8)) := by
  rintro (hlinear | ⟨hin, hn⟩)
  · exact h hlinear
  · rcases hbank with hout | hhigh
    · exact Bool.false_ne_true (hout.symm.trans hin)
    · omega

/-- A modulo pointer stays in its buffer and moves by `v` modulo LEN. -/
theorem postMod_modulo (hmode : c.reg (.cr (16 + n)) % 4 = 1) {len : Nat}
    (hlen : field (c.reg (.cr (16 + n))) 4 17 = len) (hlow : 2 ≤ len) (hhigh : len ≤ 65536) (heven : len % 2 = 0)
    (hp : c.p n < 2 ^ 32) {base : Nat} (hbase : base = c.p n / 2 ^ ceilLog2 len * 2 ^ ceilLog2 len) :
    base ≤ postMod c n v g ∧ postMod c n v g < base + len ∧
      ((postMod c n v g : Int) - base) % len = ((c.p n : Int) - base + v) % len := by
  obtain ⟨hfits, hlog⟩ := ceilLog2_spec hhigh
  have hbelow : base ≤ c.p n := hbase ▸ Nat.div_mul_le_self ..
  have htop : base + 2 ^ ceilLog2 len ≤ 2 ^ 32 := by
    obtain ⟨k, hk⟩ := Nat.pow_dvd_pow 2 (show ceilLog2 len ≤ 32 by omega)
    rw [hbase, ← Nat.succ_mul, hk, Nat.mul_comm]
    exact Nat.mul_le_mul_left _ (Nat.div_lt_of_lt_mul (hk ▸ hp))
  generalize hr : ((c.p n : Int) - base + v) % len = r
  have hnonneg : 0 ≤ r := hr ▸ Int.emod_nonneg _ (by omega)
  have hlt : r < len := hr ▸ Int.emod_lt_of_pos _ (by omega)
  have hpost : postMod c n v g = base + r.toNat := by
    unfold postMod
    simp only [hlen]
    rw [if_neg (not_linear hbank (by omega)), if_pos hmode, if_neg (by omega), ← hbase]
    have hstep : (((c.p n - base : Nat) : Int) + v).emod len = r := by
      rw [← hr, Int.ofNat_sub hbelow]
      rfl
    rw [hstep]
    omega
  have hdiff : ((base + r.toNat : Nat) : Int) - base = r := by omega
  rw [hpost, hdiff, Int.emod_eq_of_lt hnonneg hlt]
  exact ⟨by omega, by omega, rfl⟩

end

end

/-! ### Reversed bits (R327) -/

theorem bitAt_iff {v i : Nat} : bitAt v i = true ↔ v / 2 ^ i % 2 = 1 := by
  rw [bitAt_eq_field, field_eq, Nat.pow_one, beq_iff_eq]

/-- The lowest `m` bits of `v`, each at its place in the reversed order of `b` bits. -/
def reversedSum (b v : Nat) : Nat → Nat
  | 0 => 0
  | m + 1 => reversedSum b v m + (if bitAt v m then 2 ^ (b - 1 - m) else 0)

theorem revBits_eq_reversedSum (b v : Nat) : revBits b v = reversedSum b v b := by
  have hfold (m : Nat) : (List.range m).foldl (fun a i => if bitAt v i then a + 2 ^ (b - 1 - i) else a) 0 =
      reversedSum b v m := by
    induction m with
    | zero => rfl
    | succ m ih =>
      rw [List.range_succ, List.foldl_append, ih, List.foldl_cons, List.foldl_nil, reversedSum]
      split <;> rfl
  exact hfold b

/-- One place more doubles the place of each bit. -/
theorem reversedSum_succ_width {b m : Nat} (v : Nat) (h : m ≤ b) :
    reversedSum (b + 1) v m = 2 * reversedSum b v m := by
  induction m with
  | zero => rfl
  | succ m ih =>
    have hexp : b + 1 - 1 - m = b - 1 - m + 1 := by omega
    rw [reversedSum, reversedSum, ih (by omega), hexp, Nat.pow_succ']
    split <;> omega

/-- The lowest bit apart, the places are those of the bits above it. -/
theorem reversedSum_succ_low (b v m : Nat) :
    reversedSum (b + 1) v (m + 1) = reversedSum b (v / 2) m + (if bitAt v 0 then 2 ^ b else 0) := by
  induction m with
  | zero => rfl
  | succ m ih =>
    have hbit : bitAt v (m + 1) = bitAt (v / 2) m := by
      rw [bitAt_eq_field, bitAt_eq_field, field_eq, field_eq, Nat.pow_succ', Nat.div_div_eq_div_mul]
    have hexp : b + 1 - 1 - (m + 1) = b - 1 - m := by omega
    rw [reversedSum, ih, hbit, hexp, reversedSum]
    omega

/-- The highest bit becomes the lowest one. -/
theorem revBits_succ (b v : Nat) : revBits (b + 1) v = 2 * revBits b v + (if bitAt v b then 1 else 0) := by
  rw [revBits_eq_reversedSum, revBits_eq_reversedSum, reversedSum, reversedSum_succ_width v (Nat.le_refl b),
    Nat.add_sub_cancel, Nat.sub_self, Nat.pow_zero]

/-- The lowest bit becomes the highest one. -/
theorem revBits_succ_low (b v : Nat) :
    revBits (b + 1) v = revBits b (v / 2) + (if bitAt v 0 then 2 ^ b else 0) := by
  rw [revBits_eq_reversedSum, revBits_eq_reversedSum, reversedSum_succ_low]

theorem revBits_lt (b v : Nat) : revBits b v < 2 ^ b := by
  induction b with
  | zero => exact Nat.one_pos
  | succ b ih =>
    rw [revBits_succ, Nat.pow_succ']
    split <;> omega

/-- Reversing twice leaves the bits as they were. -/
theorem revBits_revBits (b v : Nat) : revBits b (revBits b v) = v % 2 ^ b := by
  induction b with
  | zero => rw [Nat.pow_zero, Nat.mod_one]; rfl
  | succ b ih =>
    have hmod : v % 2 ^ (b + 1) = v % 2 ^ b + 2 ^ b * (v / 2 ^ b % 2) := Nat.mod_pow_succ
    rw [revBits_succ_low, revBits_succ, hmod]
    rcases Nat.mod_two_eq_zero_or_one (v / 2 ^ b) with htop | htop
    · have hbit : ¬ bitAt v b = true := by rw [bitAt_iff]; omega
      have hlow : ¬ bitAt (2 * revBits b v + 0) 0 = true := by rw [bitAt_iff, Nat.pow_zero]; omega
      rw [if_neg hbit, if_neg hlow, htop, show (2 * revBits b v + 0) / 2 = revBits b v by omega, ih, Nat.mul_zero]
    · have hbit : bitAt v b = true := bitAt_iff.2 htop
      have hlow : bitAt (2 * revBits b v + 1) 0 = true := by rw [bitAt_iff, Nat.pow_zero]; omega
      rw [if_pos hbit, if_pos hlow, htop, show (2 * revBits b v + 1) / 2 = revBits b v by omega, ih, Nat.mul_one]

section
variable {c : Core} {n : Nat} {v : Int} {g b : Nat}

/-- A bit-reversed pointer changes its element index alone, by `v / 2` in the reversed order. -/
theorem postMod_reversed (hbank : c.inHandler = false ∨ 8 ≤ n) (hmode : c.reg (.cr (16 + n)) % 4 = 2)
    (hb : field (c.reg (.cr (16 + n))) 21 5 = b) (hlow : 1 ≤ b) (hhigh : b ≤ 16) :
    postMod c n v g % 2 = c.p n % 2 ∧ postMod c n v g / 2 ^ (b + 1) = c.p n / 2 ^ (b + 1) ∧
      (revBits b (field (postMod c n v g) 1 b) : Int) = (revBits b (field (c.p n) 1 b) + v / 2) % 2 ^ b := by
  generalize hi : ((revBits b (field (c.p n) 1 b) : Int) + v / 2) % 2 ^ b = i
  have hnonneg : 0 ≤ i := hi ▸ Int.emod_nonneg _ (Int.ne_of_gt (two_pow_pos b))
  have hlt : i < 2 ^ b := hi ▸ Int.emod_lt_of_pos _ (two_pow_pos b)
  have hpost : postMod c n v g = c.p n - field (c.p n) 1 b * 2 + revBits b i.toNat * 2 := by
    unfold postMod
    simp only [hb]
    rw [if_neg (not_linear hbank (by omega)), if_neg (by omega), if_neg (by omega)]
    exact congrArg (fun i : Int => c.p n - field (c.p n) 1 b * 2 + revBits b i.toNat * 2) hi
  have hindex : field (c.p n) 1 b = c.p n / 2 % 2 ^ b := field_eq ..
  have hrev := revBits_lt b i.toNat
  have hsplit := Nat.div_add_mod (c.p n / 2) (2 ^ b)
  have hhalf : postMod c n v g / 2 = 2 ^ b * (c.p n / 2 / 2 ^ b) + revBits b i.toNat := by
    rw [hpost, hindex]
    omega
  refine ⟨?_, ?_, ?_⟩
  · rw [hpost, hindex]
    omega
  · rw [Nat.pow_succ', ← Nat.div_div_eq_div_mul, ← Nat.div_div_eq_div_mul, hhalf, Nat.mul_add_div (Nat.two_pow_pos b),
      Nat.div_eq_of_lt hrev, Nat.add_zero]
  · rw [field_eq, Nat.pow_one, hhalf, Nat.mul_add_mod, Nat.mod_eq_of_lt hrev, revBits_revBits]
    have hsmall : i.toNat < 2 ^ b := by
      rw [Int.toNat_lt hnonneg]
      exact_mod_cast hlt
    rw [Nat.mod_eq_of_lt hsmall]
    omega

end

end Sys2Proof.Machine
end


section
/-! The memory slot (R321, R322, R324, R331, R333, R335, R341): the fields of LOAD, STORE, FTAP, ADDR, MOVE, LONG and
CTRL words, and what these words do. -/

namespace Sys2Proof.Machine

/-! ### The OP of a word by its class (R321) -/

section
variable {w : Nat}

theorem wOp_of_access (h : wClass w = 4 ∨ wClass w = 5 ∨ wClass w = 8) : wOp w = 0 := by
  rcases h with h | h | h <;> (rw [wOp, h]; rfl)

theorem wOp_of_addr (h : wClass w = 6) : wOp w = field w 23 3 := by
  rw [wOp, h]
  rfl

theorem wOp_of_move (h : wClass w = 0 ∨ wClass w = 7 ∨ wClass w = 15) : wOp w = field w 22 4 := by
  rcases h with h | h | h <;> (rw [wOp, h]; rfl)

theorem wOp_ctrl (h : wClass w = 0) : wOp w = field w 22 4 := wOp_of_move (.inl h)

theorem isMemory_of_class (h : wClass w = 0 ∨ wClass w = 4 ∨ wClass w = 5 ∨ wClass w = 6 ∨ wClass w = 7) :
    isMemory w = true := by
  simpa [isMemory] using h

end

/-! ### Addresses (R324) -/

section
variable {a z : Nat}

theorem addrTrap_address (h : 0x20000 ≤ a) : addrTrap a z = some 2 := if_pos h

theorem addrTrap_align (h : a < 0x20000) (halign : a % z ≠ 0) : addrTrap a z = some 3 :=
  (if_neg (Nat.not_le.2 h)).trans (if_pos halign)

theorem addrTrap_none (h : a < 0x20000) (halign : a % z = 0) : addrTrap a z = none :=
  (if_neg (Nat.not_le.2 h)).trans (if_neg (not_not_intro halign))

end

/-! ### LOAD and STORE words (R321, R324, R325) -/

/-- The fields of a word of class LOAD or STORE. -/
theorem fields_of_access {ni cls size pn dd am off w : Nat} (hcls : cls = 4 ∨ cls = 5) (hsize : size ≤ 2)
    (hpn : pn < 16) (hdd : dd < 32) (ham : am ≤ 5) (hoff : off < 2 ^ 12)
    (hw : w = ni * 2 ^ 30 + cls * 2 ^ 26 + size * 2 ^ 24 + pn * 2 ^ 20 + dd * 2 ^ 15 + am * 2 ^ 12 + off) :
    wClass w = cls ∧ field w 24 2 = size ∧ field w 20 4 = pn ∧ field w 15 5 = dd ∧ field w 15 2 = dd % 4 ∧
      field w 12 3 = am ∧ field w 0 12 = off ∧ field w 8 4 = off / 2 ^ 8 := by
  simp only [wClass, field_eq]
  omega

/-- The size in bytes of an access (R324). -/
def accessBytes (size : Nat) : Nat := if size = 1 then 4 else 2

section
variable {c : Core} {w g : Nat}

theorem loadWord_trap {t : Nat} (h : addrTrap (access c w g).1 (accessBytes (field w 24 2)) = some t) :
    (loadWord c w g).trap = some t := by
  unfold accessBytes at h
  simp only [loadWord, h]

theorem storeWord_trap {t : Nat} (h : addrTrap (access c w g).1 (accessBytes (field w 24 2)) = some t) :
    (storeWord c w g).trap = some t := by
  unfold accessBytes at h
  simp only [storeWord, decide_eq_true_eq, h]

/-- The six addressing modes (R325): the address. -/
theorem address_access {pn am off : Nat} (hpn : field w 20 4 = pn) (ham : field w 12 3 = am) (hoff : field w 0 12 = off)
    (hle : am ≤ 5) : (access c w g).1 =
      if am = 4 then (c.p pn + off * accessBytes (field w 24 2)) % 2 ^ 32 else c.p pn := by
  unfold access accessBytes
  simp only [hpn, ham, hoff]
  rcases (by omega : am = 0 ∨ am = 1 ∨ am = 2 ∨ am = 3 ∨ am = 4 ∨ am = 5) with rfl | rfl | rfl | rfl | rfl | rfl <;> rfl

/-- The six addressing modes (R325): the pointer afterwards. -/
theorem pointer_access {pn am off q : Nat} (hpn : field w 20 4 = pn) (ham : field w 12 3 = am) (hoff : field w 0 12 = off)
    (hq : field w 8 4 = q) (hle : am ≤ 5) : (access c w g).2 =
      let z := accessBytes (field w 24 2)
      let ptr := fun v : Int => [(c.physP pn, postMod c pn v g, 1)]
      if am = 1 then ptr z else if am = 2 then ptr (-(z : Int)) else if am = 3 then ptr (signed 32 (c.p q))
      else if am = 5 then ptr ((off * z : Nat) : Int) else [] := by
  unfold access accessBytes
  simp only [hpn, ham, hoff, hq]
  rcases (by omega : am = 0 ∨ am = 1 ∨ am = 2 ∨ am = 3 ∨ am = 4 ∨ am = 5) with rfl | rfl | rfl | rfl | rfl | rfl <;> rfl

section
variable (h : addrTrap (access c w g).1 (accessBytes (field w 24 2)) = none)
include h

/-- A LOAD writes its destination and its pointer. -/
theorem loadWord_loads : loadWord c w g =
    let v := leNat (Memory.read c.data (access c w g).1 (accessBytes (field w 24 2)))
    MemDo.regs ((if field w 24 2 = 2 then [(.a c.inHandler (field w 15 2), wrapTo 40 (signed 16 v), 2)]
      else if field w 24 2 = 1 then toPair c (field w 15 5) v 2 else toD c (field w 15 5) v 2) ++ (access c w g).2) := by
  unfold accessBytes at h
  simp only [loadWord, h]
  rfl

/-- A STORE writes memory and its pointer. -/
theorem storeWord_stores : storeWord c w g = { MemDo.regs (access c w g).2 with
    store := some ((access c w g).1, natLE (accessBytes (field w 24 2))
      (if field w 24 2 = 1 then c.pair (field w 15 5) else c.d (field w 15 5))) } := by
  unfold accessBytes at h
  simp only [storeWord, decide_eq_true_eq, h]
  rfl

end

end

/-! ### FTAP words (R321, R333) -/

/-- The fields of an FTAP word. -/
theorem fields_of_ftap {ni ad pn qn S F Z w : Nat} (had : ad < 4) (hpn : pn < 16) (hqn : qn < 16) (hS : S < 2)
    (hF : F < 2) (hZ : Z < 2)
    (hw : w = ni * 2 ^ 30 + 8 * 2 ^ 26 + ad * 2 ^ 24 + pn * 2 ^ 20 + qn * 2 ^ 16 + S * 2 ^ 15 + F * 2 ^ 14 + Z * 2 ^ 13) :
    wClass w = 8 ∧ field w 24 2 = ad ∧ field w 20 4 = pn ∧ field w 16 4 = qn ∧ field w 15 1 = S ∧ field w 14 1 = F ∧
      field w 13 1 = Z ∧ field w 0 13 = 0 := by
  simp only [wClass, field_eq]
  omega

section
variable {c : Core} {w g pn qn : Nat} (hpn : field w 20 4 = pn)
include hpn

theorem ftapWord_trap {t : Nat} (h : addrTrap (c.p pn) 2 = some t) : (ftapWord c w g).trap = some t := by
  simp only [ftapWord, hpn, h, Option.some_or]

/-- FTAP without a trap: the accumulator, both pointers, and the sample one place on. -/
theorem ftapWord_runs (hqn : field w 16 4 = qn) (hcoef : addrTrap (c.p pn) 2 = none)
    (hsample : addrTrap (c.p qn) 2 = none) (hnext : addrTrap ((c.p qn + 2) % 2 ^ 32) 2 = none) : ftapWord c w g =
    let ad := field w 24 2
    let p := product (bitAt w 14) (signed 16 (leNat (Memory.read c.data (c.p pn) 2)))
      (signed 16 (leNat (Memory.read c.data (c.p qn) 2)))
    let f := fit 40 32 (bitAt w 15) (if bitAt w 13 then p else signed 40 (c.accNow ad) + p)
    { MemDo.nop with
      slot := ⟨(.a c.inHandler ad, f.bits, 3) :: (if pn = qn then [(c.physP pn, g, 1)]
        else [(c.physP pn, postMod c pn 2 g, 1), (c.physP qn, postMod c qn (-2) g, 1)]), f.sv, f.ov⟩
      store := some (c.p qn + 2, Memory.read c.data (c.p qn) 2) } := by
  simp only [ftapWord, hpn, hqn, hcoef, hsample, hnext, Option.none_or]

end

/-! ### ADDR, MOVE and LONG words (R321, R322) -/

/-- The fields of a word of class ADDR. -/
theorem fields_of_addr {ni op pn pm imm w : Nat} (hop : op ≤ 4) (hpn : pn < 16) (hpm : pm < 16) (himm : imm < 2 ^ 15)
    (hw : w = ni * 2 ^ 30 + 6 * 2 ^ 26 + op * 2 ^ 23 + pn * 2 ^ 19 + pm * 2 ^ 15 + imm) :
    wClass w = 6 ∧ field w 23 3 = op ∧ field w 19 4 = pn ∧ field w 15 4 = pm ∧ field w 0 15 = imm := by
  simp only [wClass, field_eq]
  omega

/-- The fields of a word of class MOVE. -/
theorem fields_of_move {ni op dd pn ad k w : Nat} (hop : op ≤ 5) (hdd : dd < 32) (hpn : pn < 16) (had : ad < 4)
    (hk : k < 64)
    (hw : w = ni * 2 ^ 30 + 7 * 2 ^ 26 + op * 2 ^ 22 + dd * 2 ^ 17 + pn * 2 ^ 13 + ad * 2 ^ 11 + k * 2 ^ 5) :
    wClass w = 7 ∧ field w 22 4 = op ∧ field w 17 5 = dd ∧ field w 13 4 = pn ∧ field w 11 2 = ad ∧ field w 5 6 = k ∧
      field w 0 5 = 0 := by
  simp only [wClass, field_eq]
  omega

/-- The fields of a word of class LONG. -/
theorem fields_of_long {ni op dd pn k w : Nat} (hop : op ≤ 3) (hdd : dd < 32) (hpn : pn < 16) (hk : k < 64)
    (hw : w = 2 ^ 31 + ni * 2 ^ 30 + 15 * 2 ^ 26 + op * 2 ^ 22 + dd * 2 ^ 17 + pn * 2 ^ 13 + k * 2 ^ 7) :
    wClass w = 15 ∧ field w 22 4 = op ∧ field w 17 5 = dd ∧ field w 13 4 = pn ∧ field w 7 6 = k ∧ field w 0 7 = 0 := by
  simp only [wClass, field_eq]
  omega

/-! ### CTRL words (R321, R322, R331, R335) -/

/-- The fields of a BR word. -/
theorem fields_of_branch {cond ds off w : Nat} (hcond : cond ≤ 4) (hds : ds < 32) (hoff : off < 2 ^ 14)
    (hw : w = 1 * 2 ^ 22 + cond * 2 ^ 19 + ds * 2 ^ 14 + off) :
    wClass w = 0 ∧ field w 22 4 = 1 ∧ field w 19 3 = cond ∧ field w 14 5 = ds ∧ field w 0 14 = off := by
  simp only [wClass, field_eq]
  omega

/-- The fields of a CALL word. -/
theorem fields_of_call {off w : Nat} (hoff : off < 2 ^ 14) (hw : w = 2 * 2 ^ 22 + off) :
    wClass w = 0 ∧ field w 22 4 = 2 ∧ field w 0 14 = off := by
  simp only [wClass, field_eq]
  omega

/-- The fields of a LOOP word with a count. -/
theorem fields_of_loop {rot count end_ w : Nat} (hrot : rot < 2) (hcount : count < 2 ^ 10) (hend : end_ < 2 ^ 10)
    (hw : w = 4 * 2 ^ 22 + rot * 2 ^ 21 + count * 2 ^ 10 + end_) :
    wClass w = 0 ∧ field w 22 4 = 4 ∧ field w 21 1 = rot ∧ field w 20 1 = 0 ∧ field w 10 10 = count ∧
      field w 0 10 = end_ := by
  simp only [wClass, field_eq]
  omega

/-- The fields of a LOOP word whose count a register holds. -/
theorem fields_of_loop_register {rot ds end_ w : Nat} (hrot : rot < 2) (hds : ds < 32) (hend : end_ < 2 ^ 10)
    (hw : w = 4 * 2 ^ 22 + rot * 2 ^ 21 + 2 ^ 20 + ds * 2 ^ 15 + end_) :
    wClass w = 0 ∧ field w 22 4 = 4 ∧ field w 21 1 = rot ∧ field w 20 1 = 1 ∧ field w 15 5 = ds ∧
      field w 0 10 = end_ := by
  simp only [wClass, field_eq]
  omega

/-- The branch conditions on a register's 16 bits (R322). -/
theorem condHolds_iff {cond d : Nat} (hcond : cond ≤ 4) (hd : d < 2 ^ 16) : condHolds cond d = true ↔
    cond = 0 ∨ (cond = 1 ∧ signed 16 d = 0) ∨ (cond = 2 ∧ signed 16 d ≠ 0) ∨ (cond = 3 ∧ signed 16 d < 0) ∨
      (cond = 4 ∧ 0 ≤ signed 16 d) := by
  have hsigned : signed 16 d = if d < 32768 then (d : Int) else (d : Int) - 65536 := rfl
  rw [hsigned]
  rcases (by omega : cond = 0 ∨ cond = 1 ∨ cond = 2 ∨ cond = 3 ∨ cond = 4) with rfl | rfl | rfl | rfl | rfl <;>
    simp [condHolds] <;> split <;> omega

section
variable {c : Core} {w at_ : Nat} {pick : Bool}

/-- LOOP outside a handler and outside a loop sets LS, LE and LC (R335). -/
theorem loopWord_sets {rot n end_ : Nat} (hout : c.inHandler = false) (hidle : c.reg (.cr 2) % 65536 = 0) (hrot : rot < 2)
    (hfrot : field w 21 1 = rot) (hfend : field w 0 10 = end_)
    (hn : (if bitAt w 20 then c.d (field w 15 5) else field w 10 10) = n) (hpos : 0 < end_) (htop : at_ + end_ < 2 ^ 14) :
    loopWord c w at_ pick = { MemDo.nop with
      loop := some (at_ + 1, at_ + end_, rot * 65536 + n)
      flow := if n = 0 then .skip (at_ + end_ + 1) else .seq } := by
  have hbit : (if bitAt w 21 then 65536 else 0) = rot * 65536 := by
    rw [bitAt_eq_field, hfrot]
    rcases (by omega : rot = 0 ∨ rot = 1) with rfl | rfl <;> rfl
  simp only [loopWord, hidle, hout, hn, hfend, hbit, Nat.mod_eq_of_lt htop,
    Nat.mod_eq_of_lt (show at_ + 1 < 2 ^ 14 by omega)]
  rfl

/-- LOOP in a handler traps with HANDLER. -/
theorem loopWord_in_handler (hin : c.inHandler = true) (hidle : c.reg (.cr 2) % 65536 = 0) :
    (loopWord c w at_ pick).trap = some 5 := by
  simp only [loopWord, hidle, hin]
  rfl

/-- LOOP inside a loop traps with LOOP_NEST. -/
theorem loopWord_nested (hout : c.inHandler = false) (hactive : c.reg (.cr 2) % 65536 ≠ 0) :
    (loopWord c w at_ pick).trap = some 4 := by
  simp [loopWord, hactive, hout]

theorem ctrlWord_loop {next : Nat} (h : wOp w = 4) : ctrlWord c w at_ next pick = loopWord c w at_ pick := by
  simp only [ctrlWord, h]

/-- BR jumps by its offset when its condition holds (R322). -/
theorem ctrlWord_branch {cond ds off next : Nat} (hop : wOp w = 1) (hcond : field w 19 3 = cond) (hds : field w 14 5 = ds)
    (hoff : field w 0 14 = off) : ctrlWord c w at_ next pick =
      if condHolds cond (c.d ds) then { MemDo.nop with flow := .jump (at_ + signed 14 off) } else MemDo.nop := by
  simp only [ctrlWord, hop, hcond, hds, hoff]

/-- CALL writes LR and jumps by its offset (R322). -/
theorem ctrlWord_call {off next : Nat} (hoff : off < 2 ^ 14) (hw : w = 2 * 2 ^ 22 + off) : ctrlWord c w at_ next pick =
    { MemDo.nop with slot := ⟨[(.cr 5, next, 1)], false, false⟩, flow := .jump (at_ + signed 14 off) } := by
  obtain ⟨hclass, hop, hfoff⟩ := fields_of_call hoff hw
  simp only [ctrlWord, (wOp_ctrl hclass).trans hop, hfoff]
  rfl

/-- RETI returns from a handler and traps outside one (R341). -/
theorem ctrlWord_reti {next : Nat} : ctrlWord c (5 * 2 ^ 22) at_ next pick =
    if c.inHandler then { MemDo.nop with flow := .reti } else { MemDo.nop with trap := some 5 } := rfl

/-- A LOOP word whose count a register holds. -/
theorem ctrlWord_loop_register {rot ds end_ next : Nat} (hrot : rot < 2) (hds : ds < 32) (hpos : 0 < end_)
    (hend : end_ < 2 ^ 10) (htop : at_ + end_ < 2 ^ 14)
    (hw : w = 4 * 2 ^ 22 + rot * 2 ^ 21 + 2 ^ 20 + ds * 2 ^ 15 + end_)
    (hout : c.inHandler = false) (hidle : c.reg (.cr 2) % 65536 = 0) : ctrlWord c w at_ next pick = { MemDo.nop with
      loop := some (at_ + 1, at_ + end_, rot * 65536 + c.d ds)
      flow := if c.d ds = 0 then .skip (at_ + end_ + 1) else .seq } := by
  obtain ⟨hclass, hop, hfrot, hflag, hfds, hfend⟩ := fields_of_loop_register hrot hds hend hw
  rw [ctrlWord_loop ((wOp_ctrl hclass).trans hop)]
  refine loopWord_sets hout hidle hrot hfrot hfend ?_ hpos htop
  rw [bitAt_eq_field, hflag, hfds]
  rfl
end

/-- Settles O38: each word is decoded by its fields, and the lemmas above say what its class does with them. -/
theorem sluiceMemoryWordsAccessMoveAndBranch : Obligations.SluiceMemoryWordsAccessMoveAndBranch := by
  unfold Obligations.SluiceMemoryWordsAccessMoveAndBranch
  refine ⟨fun c n v g hn hin => postMod_linear (.inr ⟨hin, hn⟩),
    ?modes, ?access, ?ftap, ?addr, ?move, ?long, ?branch, ?loop⟩
  case modes =>
    intro c n v g _ hbank mode len b
    exact ⟨fun h => postMod_linear (.inl h),
      fun h hlow hhigh heven hp => ⟨(ceilLog2_spec hhigh).1, postMod_modulo hbank h rfl hlow hhigh heven hp rfl⟩,
      fun h hlow hhigh => postMod_reversed hbank h rfl hlow hhigh⟩
  case access =>
    intro c ni cls size pn dd am off g _ hcls hsize hstore hpn hdd ham hoff hpair w z p a ptr after
    obtain ⟨hclass, hfsize, hfpn, hfdd, hfad, hfam, hfoff, hfq⟩ :=
      fields_of_access hcls hsize hpn hdd ham hoff (show w = _ from rfl)
    clear_value w
    have ha : (access c w g).1 = a := by rw [address_access hfpn hfam hfoff ham, hfsize]; rfl
    have hafter : (access c w g).2 = after := by rw [pointer_access hfpn hfam hfoff hfq ham, hfsize]; rfl
    have hz : accessBytes (field w 24 2) = z := by rw [hfsize]; rfl
    have hop : wOp w = 0 := wOp_of_access (by omega)
    refine ⟨?_, ?_, by rw [wRow, hclass, hop], fun h => ?_, fun h halign => ?_, fun h halign => ?_⟩
    · have heven : ¬ size = 1 ∨ dd % 2 = 0 := by omega
      rcases hcls with rfl | rfl
      · simpa [wordOk, hclass, hfsize, hfdd, hfam, ham, hsize] using heven
      · simpa [wordOk, hclass, hfsize, hfdd, hfam, ham, hstore rfl] using heven
    · exact isMemory_of_class (by omega)
    · have htrap : addrTrap (access c w g).1 (accessBytes (field w 24 2)) = some 2 := addrTrap_address (ha ▸ h)
      exact ⟨loadWord_trap htrap, storeWord_trap htrap⟩
    · have htrap : addrTrap (access c w g).1 (accessBytes (field w 24 2)) = some 3 := by
        rw [ha, hz]
        exact addrTrap_align h halign
      exact ⟨loadWord_trap htrap, storeWord_trap htrap⟩
    · have htrap : addrTrap (access c w g).1 (accessBytes (field w 24 2)) = none := by
        rw [ha, hz]
        exact addrTrap_none h halign
      refine ⟨fun _ => ?_, fun _ => ?_⟩
      · rw [loadWord_loads htrap, ha, hz, hafter, hfsize, hfdd, hfad]
        rfl
      · rw [storeWord_stores htrap, ha, hz, hafter, hfsize, hfdd]
        rfl
  case ftap =>
    intro c ni ad pn qn S F Z g _ had hpn hqn hS hF hZ w a b h x p f
    obtain ⟨hclass, hfad, hfpn, hfqn, hfS, hfF, hfZ, hzero⟩ :=
      fields_of_ftap had hpn hqn hS hF hZ (show w = _ from rfl)
    clear_value w
    have hop : wOp w = 0 := wOp_of_access (by omega)
    refine ⟨by simp [wordOk, hclass, hzero], by rw [wRow, hclass, hop], fun haeven hbeven ha hb => ?_,
      fun ha => ftapWord_trap hfpn (addrTrap_address ha),
      fun ha hodd => ftapWord_trap hfpn (addrTrap_align ha (show a % 2 ≠ 0 by omega))⟩
    have hp : product (F == 1) h x = p := by
      rw [product_eq]
      simp only [beq_iff_eq, p]
    have hruns := ftapWord_runs (g := g) hfpn hfqn (addrTrap_none ha haeven)
      (addrTrap_none (show b < 0x20000 by omega) hbeven) (addrTrap_none (show (b + 2) % 2 ^ 32 < 0x20000 by omega)
        (show (b + 2) % 2 ^ 32 % 2 = 0 by omega))
    simp only [bitAt_eq_field, hfad, hfS, hfF, hfZ, beq_iff_eq] at hruns
    rw [show signed 16 (leNat (Memory.read c.data (c.p pn) 2)) = h from rfl,
      show signed 16 (leNat (Memory.read c.data (c.p qn) 2)) = x from rfl, hp] at hruns
    rw [hruns]
    refine ⟨fun hne => ?_, rfl, List.mem_cons_self, rfl⟩
    rw [if_neg hne]
  case addr =>
    intro c ni op pn pm imm _ hop hpn hpm himm w v
    obtain ⟨hclass, hfop, hfpn, hfpm, hfimm⟩ := fields_of_addr hop hpn hpm himm (show w = _ from rfl)
    clear_value w
    have hwop : wOp w = op := (wOp_of_addr hclass).trans hfop
    refine ⟨by simp [wordOk, hclass, hwop, hop], isMemory_of_class (by omega), by rw [wRow, hclass, hwop], ?_⟩
    simp only [addrWord, hwop, hfpn, hfpm, hfimm, v]
    rcases (by omega : op = 0 ∨ op = 1 ∨ op = 2 ∨ op = 3 ∨ op = 4) with rfl | rfl | rfl | rfl | rfl <;> rfl
  case move =>
    intro id c ni op dd pn ad k _ hop hdd hpn had hk heven w regs
    obtain ⟨hclass, hfop, hfdd, hfpn, hfad, hfk, hzero⟩ := fields_of_move hop hdd hpn had hk (show w = _ from rfl)
    clear_value w
    have hwop : wOp w = op := (wOp_of_move (.inr (.inl hclass))).trans hfop
    refine ⟨?_, isMemory_of_class (by omega), by rw [wRow, hclass, hwop], ?_⟩
    · have hevenOk : op = 5 ∨ dd % 2 = 0 := by omega
      simpa [wordOk, hclass, hwop, hop, hzero, hfdd] using hevenOk
    · simp only [moveWord, hwop, hfdd, hfpn, hfad, hfk]
      clear heven
      rcases (by omega : op = 0 ∨ op = 1 ∨ op = 2 ∨ op = 3 ∨ op = 4 ∨ op = 5) with rfl | rfl | rfl | rfl | rfl | rfl <;> rfl
  case long =>
    intro c ni op dd pn k imm _ hop hdd hpn hk himm heven w
    obtain ⟨hclass, hfop, hfdd, hfpn, hfk, hzero⟩ := fields_of_long hop hdd hpn hk (show w = _ from rfl)
    clear_value w
    have hwop : wOp w = op := (wOp_of_move (.inr (.inr hclass))).trans hfop
    refine ⟨?_, by rw [wRow, hclass, hwop], ?_⟩
    · have hevenOk : ¬ op = 0 ∨ dd % 2 = 0 := by omega
      simpa [wordOk, hclass, hwop, hop, hzero, hfdd] using hevenOk
    · simp only [longWord, hwop, hfdd, hfpn, hfk, field_eq, Nat.pow_zero, Nat.div_one]
      clear heven
      rcases (by omega : op = 0 ∨ op = 1 ∨ op = 2 ∨ op = 3) with rfl | rfl | rfl | rfl <;> rfl
  case branch =>
    intro c at_ next pick cond ds off hcond hds hoff target br v holds
    obtain ⟨hclass, hfop, hfcond, hfds, hfoff⟩ := fields_of_branch hcond hds hoff (show br = _ from rfl)
    clear_value br
    have hwop : wOp br = 1 := (wOp_ctrl hclass).trans hfop
    refine ⟨by simp [wordOk, hclass, hwop, hfcond, hcond], by rw [wRow, hclass, hwop], fun hd => ?_, ?_, rfl⟩
    · have hholds : condHolds cond (c.d ds) = true ↔ holds := condHolds_iff hcond hd
      rw [ctrlWord_branch hwop hfcond hfds hfoff]
      exact ⟨fun h => if_pos (hholds.2 h), fun h => if_neg (h ∘ hholds.1)⟩
    · exact ctrlWord_call hoff rfl
  case loop =>
    intro c at_ next pick rot count ds end_ hds hrot hcount hpos hend htop w
    obtain ⟨hclass, hfop, hfrot, hfflag, hfcount, hfend⟩ := fields_of_loop hrot hcount hend (show w = _ from rfl)
    clear_value w
    have hwop : wOp w = 4 := (wOp_ctrl hclass).trans hfop
    refine ⟨?_, by rw [wRow, hclass, hwop], fun hout hidle => ?_, fun hout hidle => ?_, fun hin hidle => ?_,
      fun hout hactive => ?_, fun hout => ?_, fun hin => ?_, rfl, rfl, rfl, rfl, rfl⟩
    · simp [wordOk, hclass, hwop, hfend, Nat.pos_iff_ne_zero.1 hpos]
    · rw [ctrlWord_loop hwop]
      refine loopWord_sets hout hidle hrot hfrot hfend ?_ hpos htop
      rw [bitAt_eq_field, hfflag, hfcount]
      rfl
    · exact ctrlWord_loop_register hrot hds hpos hend htop rfl hout hidle
    · rw [ctrlWord_loop hwop]
      exact loopWord_in_handler hin hidle
    · rw [ctrlWord_loop hwop]
      exact loopWord_nested hout hactive
    · rw [ctrlWord_reti, if_neg (by simp [hout])]
    · rw [ctrlWord_reti, if_pos hin]

end Sys2Proof.Machine
end

section
/-! The datagrams of hosts (R472, R474, R480, R483, R485, R487): what arrives for any row that a host sends, what is
discarded, what the window turns away, and the commands that are refused before their own conditions. -/

namespace Sys2Proof.Machine

/-! ### The rows that a host sends -/

/-- A row that a host sends is the arrival of its datagram. -/
theorem exec_of_hostDgram {i : Instr} {t : Nat} {d : Dgram} (h : hostDgram i = some (t, d)) (s : State) :
    ∃ isTyp body open_, exec i s = act t (arrive isTyp body open_ d) s := by
  cases i <;> cases h <;> exact ⟨_, _, _, rfl⟩

theorem sized_refuses {n : Nat} {body : Ctx → State → Res} {c : Ctx} (h : c.payload.length ≠ n) (s : State) :
    sized n body c s = refuse rBadLength s := if_neg h

/-- A row of a TYPE with one length refuses every other length. -/
theorem exec_of_hostType {i : Instr} {t typ size : Nat} {d : Dgram} (h : hostDgram i = some (t, d))
    (ht : hostType i = some (typ, size)) (s : State) : typ ≠ 0x0A03 ∧ ∃ body, exec i s = zcp typ body t d s ∧
      ∀ (c : Ctx) (x : State), c.typ = typ → c.payload.length ≠ size → body c x = refuse rBadLength x := by
  cases i <;> cases h <;> cases ht <;> refine ⟨by decide, _, rfl, ?_⟩ <;> rintro ⟨_, _, _, _, _⟩ x rfl hlen <;>
    exact sized_refuses hlen x

/-! ### Discards (R472, R576) -/

section
variable {isTyp : Nat → Bool} {body : Ctx → State → Res} {open_ : Dgram → State → State} {d : Dgram} {s : State}

theorem arrive_of_down (h : hostUp d.port s = false) : arrive isTyp body open_ d s = s := if_pos (by simp [h])

section
variable (hup : hostUp d.port s = true)
include hup

theorem arrive_of_not_ready (h : s.boot.stage ≠ .ready) :
    arrive isTyp body open_ d s = count .zcpDiscSession (hostInst d.port) 1 s :=
  (if_neg (by simp [hup])).trans (if_pos h)

section
variable (hready : s.boot.stage = .ready)
include hready

theorem arrive_of_malformed {c : Ctr} (h : earlyChecks d s = some c) :
    arrive isTyp body open_ d s = count c (hostInst d.port) 1 s := by
  unfold arrive
  rw [if_neg (by simp [hup]), if_neg (by simp [hready])]
  simp only [h]

section
variable (hchecks : earlyChecks d s = none)
include hchecks

theorem arrive_of_forged (h : tagGood d s = false) :
    arrive isTyp body open_ d s = fire .zcpAuth (count .zcpAuthFail (hostInst d.port) 1
      { s with zcp := { s.zcp with authFail := some (d.session, hostInst d.port, d.src) } }) := by
  unfold arrive
  rw [if_neg (by simp [hup]), if_neg (by simp [hready])]
  simp only [hchecks]
  rw [if_pos (by simp [h])]

theorem arrive_of_bad_flags (htag : tagGood d s = true) (h : d.flags % 64 ∉ [0, 4, 8, 12]) :
    arrive isTyp body open_ d s = count .zcpDiscFormat (hostInst d.port) 1 s := by
  unfold arrive
  rw [if_neg (by simp [hup]), if_neg (by simp [hready])]
  simp only [hchecks]
  rw [if_neg (by simp [htag]), if_pos h]

end

end

end

end

/-- Settles O1: each check of R472 that fails first discards the datagram before its row's own effect. -/
theorem forgedDatagramIsOnlyCounted : Obligations.ForgedDatagramIsOnlyCounted := by
  intro i t d s hrow x port
  obtain ⟨isTyp, body, open_, hx⟩ := exec_of_hostDgram hrow s
  have does {y : State} (h : arrive isTyp body open_ d x = y) : Does i s y := does_act hx (h ▸ .rfl' _)
  refine ⟨fun hdown => does (arrive_of_down hdown), fun hup hboot => does (arrive_of_not_ready hup hboot),
    fun hup hready => ⟨fun c hc => does (arrive_of_malformed hup hready hc), fun hchecks htag => ?_,
      fun hchecks htag hflags => does (arrive_of_bad_flags hup hready hchecks htag hflags)⟩⟩
  exact does_act hx ((arrive_of_forged hup hready hchecks htag).symm ▸ fire_eq _ _)

/-! ### What the window turns away (R483, R485, R487) -/

/-- Sessions that agree but for their queues, taken one by one. -/
theorem quiet_of_slots {x y : State} (h : x.zcp.slots.map Session.quiet = y.zcp.slots.map Session.quiet) (k : Nat) :
    (session k x).quiet = (session k y).quiet := by
  by_cases hk : k < 4
  · rw [session, session, ← RegFile.getD_map Session.quiet _ _ _ hk, ← RegFile.getD_map Session.quiet _ _ _ hk, h]
  · have hdefault (z : State) : session k z = resetSession none := by
      rw [session, RegFile.getD, List.getD_eq_getElem?_getD, List.getElem?_eq_none (by rw [z.zcp.slots.size]; omega)]
      rfl
    rw [hdefault, hdefault]

theorem ReportEq.quiet {x y : State} (h : ReportEq x y) (k : Nat) : (session k x).quiet = (session k y).quiet :=
  quiet_of_slots (congrArg (·.zcp.slots) h.rest :) k

/-- Outside sessions, counters and reports two states agree, and so do the completion records and the receive points
of their sessions. -/
def SameCommands (x z : State) : Prop :=
  restZ z = restZ x ∧ ∀ k, (session k z).comps = (session k x).comps ∧ (session k z).recv = (session k x).recv

namespace SameCommands

variable {x y z : State}

theorem trans (h : SameCommands x y) (h' : SameCommands y z) : SameCommands x z :=
  ⟨h'.1.trans h.1, fun k => ⟨(h'.2 k).1.trans (h.2 k).1, (h'.2 k).2.trans (h.2 k).2⟩⟩

theorem of_reportEq (h : ReportEq z x) : SameCommands x z :=
  ⟨h.restZ, fun k => ⟨(congrArg Session.comps (h.quiet k) :), (congrArg Session.recv (h.quiet k) :)⟩⟩

theorem count (c : Ctr) (i n : Nat) (s : State) : SameCommands s (count c i n s) := ⟨rfl, fun _ => ⟨rfl, rfl⟩⟩

theorem setSession {k : Nat} {f : Session → Session} (hf : ∀ v, (f v).comps = v.comps ∧ (f v).recv = v.recv) (s : State) :
    SameCommands s (setSession k f s) := by
  refine ⟨rfl, fun j => ?_⟩
  rw [session_setSession]
  split
  case isTrue h => exact h.1 ▸ hf _
  case isFalse => exact ⟨rfl, rfl⟩

theorem greet (d : Dgram) (s : State) : SameCommands s (greet d s) := by
  have hbind : SameCommands s (bindEnd d s) := setSession (by simp) s
  refine hbind.trans ⟨?_, fun k => ?_⟩
  · rw [restZ_greet]
    rfl
  by_cases hk : k = d.session
  · subst hk
    exact ⟨(congrArg Session.comps (noAck_greet d s) :), (congrArg Session.recv (noAck_greet d s) :)⟩
  · unfold Machine.greet
    split
    case isTrue => rw [session_takeAck_of_ne hk]; exact ⟨rfl, rfl⟩
    case isFalse => exact ⟨rfl, rfl⟩

/-- A duplicate's answer is a copy of what was sent, or says that nothing is known (R487). -/
theorem replay (k seq typ : Nat) (s : State) : SameCommands s (replay k seq typ s) := by
  unfold Machine.replay
  extract_lets ss recent waits s1 bytes
  split
  case isTrue => exact of_reportEq (.rfl' s)
  case isFalse =>
    have hanswered : SameCommands s s1 := setSession (by simp) s
    exact hanswered.trans ((of_reportEq (zcpSend_eq k bytes s1)).trans (count _ _ _ _))

end SameCommands

theorem inDoubt_greet (d : Dgram) (k : Nat) (s : State) :
    (session k (greet d s)).inDoubt = (session k s).inDoubt :=
  (congrArg Session.inDoubt (core_greet d k s) :)

/-- What the window turns away, and what finds its mailbox full, is counted, and a duplicate answered again. -/
theorem arrive_turned_away (isTyp : Nat → Bool) (body : Ctx → State → Res) (open_ : Dgram → State → State) {d : Dgram}
    {x : State} (h : Sequenced d x) (hw : window (session d.session x) d.seq = .beyond ∨
      (window (session d.session x) d.seq = .dup ∧ d.seq ∉ (session d.session x).inDoubt) ∨
      (window (session d.session x) d.seq = .accept ∧ d.full = true)) :
    SameCommands x (arrive isTyp body open_ d x) := by
  rw [arrive_sequenced isTyp body open_ h]
  refine (SameCommands.greet d x).trans ?_
  rcases hw with hbeyond | ⟨hdup, hknown⟩ | ⟨haccept, hfull⟩
  · simp only [hbeyond]
    exact .count ..
  · simp only [hdup]
    split
    case isTrue => exact .count ..
    case isFalse =>
      rw [session_count, inDoubt_greet, if_neg hknown]
      exact (SameCommands.count ..).trans (.replay ..)
  · simp only [haccept, hfull, if_true]
    exact .count ..

/-- Settles O2: what the window turns away is counted, or answered by a copy of its record. -/
theorem refusedSequenceRunsNothing : Obligations.RefusedSequenceRunsNothing := by
  intro i t d s hrow x hd hw
  obtain ⟨isTyp, body, open_, hx⟩ := exec_of_hostDgram hrow s
  exact leads_act hx ((arrive_turned_away isTyp body open_ hd hw).trans (.of_reportEq (settle_eq _)))

/-! ### Commands refused before their own conditions (R474, R480) -/

/-- Settles O3: the right to the mailbox is checked before the row's TYPE, and the length before the body. -/
theorem commandWithoutRightOrLength : Obligations.CommandWithoutRightOrLength := by
  intro i t d s typ size hrow htype x
  obtain ⟨htyp, body, hx, hrefuses⟩ := exec_of_hostType hrow htype s
  refine ⟨fun hd hnew hroom hright hbulk => ?_, fun hd hlen => answers_refuse hx hd htyp fun y hy => hrefuses d.ctx y hd.typ hlen⟩
  have hrun : arrive (· == typ) body (fun _ s => s) d x =
      sendReply d.session d.seq d.typ rNotPermitted [] (taken d x) := by
    rw [arrive_new _ _ _ hd hnew hroom]
    simp [runCommand, permitted_taken, hright, refuse, hbulk]
  refine ⟨_, hx, ?_, ?_⟩
  · rw [lastReply_settle, hrun]
    exact lastReply_sendReply d d.typ _ _ _ (early_session hd.checks)
  · rw [restZ_settle, hrun, restZ_sendReply, restZ_taken]

/-! ### Commands that only ask (R362, R481, R550, R585) -/

/-- Settles O5: the five bodies answer OK from the state that they find. -/
theorem questionsAreAnsweredAndChangeNothing : Obligations.QuestionsAreAnsweredAndChangeNothing := by
  refine ⟨fun t d s => fun hlen => ⟨fun hd => ?nop, fun hd => ?identity, fun hd => ?time, fun hd => ?fault, fun hd => ?fw⟩,
    fun c x => ⟨rfl, rfl⟩⟩
  case nop => exact answers_of_sized (show _ = execZcpNop t d s from rfl) hd (by decide) hlen fun y hy => ⟨_, y, rfl, hy⟩
  case identity =>
    exact answers_of_sized (show _ = execZcpIdentity t d s from rfl) hd (by decide) hlen fun y hy => ⟨_, y, rfl, hy⟩
  case time =>
    exact answers_of_sized (show _ = execZcpTimeGet t d s from rfl) hd (by decide) hlen fun y hy => ⟨_, y, rfl, hy⟩
  case fault =>
    exact answers_of_sized (show _ = execZcpFaultStatus t d s from rfl) hd (by decide) hlen fun y hy => ⟨_, y, rfl, hy⟩
  case fw =>
    exact answers_of_sized (show _ = execZcpFwStatus t d s from rfl) hd (by decide) hlen fun y hy => ⟨_, y, rfl, hy⟩

/-! ### The queue of commands (log entry 4) -/

/-- Settles O57: `step` takes the front command off the queue, or finds none. -/
theorem stepRunsTheFrontCommand : Obligations.StepRunsTheFrontCommand := by
  refine ⟨fun c s => ?_, fun s h => ?_⟩
  · rfl
  · rw [step, h]

end Sys2Proof.Machine
end

section
/-! ZCP_ACK, ZCP_UNSOL_RETRANSMIT and ZCP_UNSOL_AGE_OUT (R488 to R490): the queue of unsolicited messages. -/

namespace Sys2Proof.Machine

/-! ### Acknowledgements (R489) -/

theorem ackPoint_sendWindow (k : Nat) (s : State) : (session k (sendWindow k s)).ackPoint = (session k s).ackPoint := by
  unfold sendWindow
  extract_lets ss due
  refine foldl_keeps (π := fun x => (session k x).ackPoint) (fun x u => ?_) due s
  rw [session_zcpSend, session_setSession]
  split <;> rfl

section
variable {k ack : Nat} {s : State}

theorem ackPoint_takeAck (hk : k < 4) (hlater : seqLater 32 ack (session k s).ackPoint = true)
    (hsent : seqLater 32 ack (lastSent (session k s)) = false) : (session k (takeAck k ack s)).ackPoint = ack := by
  simp only [takeAck, hlater, hsent]
  exact (ackPoint_sendWindow ..).trans (congrArg Session.ackPoint (session_setSession_same k _ s hk))

theorem takeAck_of_bad (hlater : seqLater 32 ack (session k s).ackPoint = true)
    (hsent : seqLater 32 ack (lastSent (session k s)) = true) : takeAck k ack s = count .zcpAckBad k 1 s := by
  simp only [takeAck, hlater, hsent]
  rfl

end

section
variable {t : Nat} {d : Dgram} {s : State}

/-- An authentic ZCP_ACK binds its source, acknowledges and is counted: it is no command. -/
theorem exec_zcpAck (hd : Authentic d (advance t s)) (htyp : d.typ = 0x0F00) (hbox : d.mailbox = 15)
    (hack : bitAt d.flags 2 = true) : exec (.zcpAck t d) s = .next (settle (count (zcpRx d.port) d.session 1
      (takeAck d.session d.ack (bindEnd d (advance t s))))) := by
  obtain ⟨hup, hready, hchecks, htag, hflags⟩ := hd
  show act t _ s = _
  unfold act arrive
  rw [if_neg (by simp [hup]), if_neg (not_not_intro hready)]
  simp only [hchecks]
  rw [if_neg (by simp [htag]), if_neg (by simp [hflags]), if_neg (by simp [Dgram.isOpen, htyp]),
    if_pos (.inl ⟨htyp, hbox⟩), if_pos hack]

theorem session_bindEnd (hk : d.session < 4) : session d.session (bindEnd d s) =
    { session d.session s with ends := (session d.session s).ends.set d.port (some d.src), lastAt := s.time.now } :=
  session_setSession_same _ _ _ hk

theorem ackPoint_settle (k : Nat) : (session k (settle s)).ackPoint = (session k s).ackPoint :=
  (congrArg Session.ackPoint ((settle_eq s).quiet k) :)

theorem zcpAck_acknowledges (hd : Authentic d (advance t s)) (htyp : d.typ = 0x0F00) (hbox : d.mailbox = 15)
    (hack : bitAt d.flags 2 = true) (hlater : seqLater 32 d.ack (session d.session (advance t s)).ackPoint = true)
    (hsent : seqLater 32 d.ack (lastSent (session d.session (advance t s))) = false) :
    Leads (.zcpAck t d) s fun z => (session d.session z).ackPoint = d.ack ∧ restZ z = restZ (advance t s) := by
  have hk := early_session hd.checks
  have hbind := session_bindEnd (s := advance t s) hk
  refine leads_of_exec (exec_zcpAck hd htyp hbox hack) ⟨?_, ?_⟩
  · rw [ackPoint_settle, session_count]
    exact ackPoint_takeAck hk (by rwa [hbind]) (by rwa [hbind])
  · rw [restZ_settle, restZ_count, restZ_takeAck, bindEnd, restZ_setSession]

theorem zcpAck_rejects (hd : Authentic d (advance t s)) (htyp : d.typ = 0x0F00) (hbox : d.mailbox = 15)
    (hack : bitAt d.flags 2 = true) (hlater : seqLater 32 d.ack (session d.session (advance t s)).ackPoint = true)
    (hsent : seqLater 32 d.ack (lastSent (session d.session (advance t s))) = true) :
    Leads (.zcpAck t d) s fun z => (session d.session z).ackPoint = (session d.session (advance t s)).ackPoint ∧
      restZ z = restZ (advance t s) ∧
      ctrGet .zcpAckBad d.session z = min ctrMax (ctrGet .zcpAckBad d.session (advance t s) + 1) := by
  have hbind := session_bindEnd (s := advance t s) (early_session hd.checks)
  have hbad : takeAck d.session d.ack (bindEnd d (advance t s)) =
      count .zcpAckBad d.session 1 (bindEnd d (advance t s)) := takeAck_of_bad (by rwa [hbind]) (by rwa [hbind])
  have hport : Ctr.zcpAckBad ≠ zcpRx d.port := by unfold zcpRx; split <;> decide
  refine leads_of_exec (exec_zcpAck hd htyp hbox hack) ⟨?_, ?_, ?_⟩
  · rw [ackPoint_settle, session_count, hbad, session_count, hbind]
  · rw [restZ_settle, restZ_count, hbad, restZ_count, bindEnd, restZ_setSession]
  · rw [(settle_eq _).ctr _ _ (by decide), ctrGet_count_of_ne hport, hbad, ctrGet_count_same]
    rfl

end

/-! ### Repeating and ageing (R490) -/

theorem Unsaturated.reportRoom {s : State} (h : Unsaturated s) : ReportRoom (2 ^ 20) s := ⟨h.1, fun c i _ => h.2 c i⟩

theorem settle_count {c : Ctr} {i n : Nat} {s : State} (hdue : s.satDue = []) (hroom : ctrGet c i s + n < ctrMax) :
    settle (count c i n s) = count c i n s :=
  settle_of_satDue_nil (by rw [count_satDue, if_neg (by omega), hdue])

section
variable {t seq : Nat} {k : Fin 4} {u : Unsol} {s : State} (hroom : Unsaturated (advance t s))
  (hu : unsolOf k seq (advance t s) = some u)
include hroom hu

theorem exec_zcpUnsolRetransmit {at_ : Nat} (hsent : u.sentAt = some at_)
    (hopen : (session k (advance t s)).isOpen = true) (hdue : at_ + u.wait ≤ (advance t s).time.now) :
    let x := advance t s
    let again : Unsol := { u with sentAt := some x.time.now, wait := min (secT 1) (2 * u.wait) }
    let y := setSession k (fun v => { v with unsol := v.unsol.map fun w => if w.seq = seq then again else w }) x
    exec (.zcpUnsolRetransmit t k seq) s =
      .next (count .zcpUnsolRetx k 1 (zcpSend k (zcpBytes k u.typ seq 2 u.body y) y)) := by
  intro x again y
  have hy : ReportRoom (0 + 2) y :=
    ⟨hroom.1, fun c i _ => by have h : ctrGet c i y + 2 ^ 20 < ctrMax := hroom.2 c i; omega⟩
  have hsentRoom := (zcpSend_tallied k.isLt (zcpBytes k u.typ seq 2 u.body y) y).room 0 hy
  have hretx : ctrGet .zcpUnsolRetx k (zcpSend k (zcpBytes k u.typ seq 2 u.body y) y) + 1 < ctrMax := by
    rw [(zcpSend_eq k (zcpBytes k u.typ seq 2 u.body y) y).ctr _ _ (by decide)]
    have h : ctrGet .zcpUnsolRetx k y + 2 ^ 20 < ctrMax := hroom.2 _ _
    omega
  show execZcpUnsolRetransmit t k seq s = _
  unfold execZcpUnsolRetransmit act
  simp only [hu, hsent]
  rw [if_neg (not_or.2 ⟨by simp [hopen], Nat.not_lt.2 hdue⟩)]
  exact congrArg _ (settle_count hsentRoom.1 hretx)

theorem exec_zcpUnsolAgeOut (hdue : u.raisedAt + nsT (par0 .zcpUnsolAge (advance t s)) ≤ (advance t s).time.now) :
    exec (.zcpUnsolAgeOut t k seq) s = .next (count .zcpUnsolAged k 1
      (setSession k (fun v => { v with unsol := v.unsol.filter fun w => w.seq != seq }) (advance t s))) := by
  show execZcpUnsolAgeOut t k seq s = _
  unfold execZcpUnsolAgeOut act
  simp only [hu]
  rw [if_neg (by omega)]
  refine congrArg _ (settle_count hroom.1 ?_)
  have h : ctrGet .zcpUnsolAged k (advance t s) + 2 ^ 20 < ctrMax := hroom.2 _ _
  exact Nat.lt_of_le_of_lt (Nat.add_le_add_left (by decide) _) h

end

/-- Settles O6: what an acknowledgement moves, by whether it names a message that was sent, and the two timers of a
message that waits for one. -/
theorem unsolicitedMessagesAreAcknowledgedRepeatedAndAged :
    Obligations.UnsolicitedMessagesAreAcknowledgedRepeatedAndAged := by
  refine ⟨fun t d s => fun hd htyp hbox hack hlater => ⟨zcpAck_acknowledges hd htyp hbox hack hlater,
      zcpAck_rejects hd htyp hbox hack hlater⟩,
    fun ss => ⟨fun h => if_pos h, fun h => if_neg (Nat.not_le.2 h)⟩,
    fun t k seq u at_ s => fun hroom hu hsent hopen hdue => exec_zcpUnsolRetransmit hroom hu hsent hopen hdue,
    fun t k seq u s => fun hroom hu hdue => exec_zcpUnsolAgeOut hroom hu hdue⟩

end Sys2Proof.Machine
end

section
/-! The end of transfers and of sessions (R475, R476, R478, R498): what a session that closes loses, and what else in
the module its end leaves alone. -/

namespace Sys2Proof.Machine

/-! ### What the end of a session leaves alone -/

/-- The state without sessions, transfers, waiting commands, jobs of the decompressor and reports. -/
def outsideZcp (s : State) : State :=
  { rest s with
    zcp := { s.zcp with slots := .replicate 4 (resetSession none), bulks := [], waiting := [] }
    egress := { s.egress with jobs := [] } }

theorem outsideZcp_of_restZ {x y : State} (h : restZ x = restZ y) : outsideZcp x = outsideZcp y :=
  (congrArg outsideZcp h :)

theorem outsideZcp_count (c : Ctr) (i n : Nat) (s : State) : outsideZcp (count c i n s) = outsideZcp s := rfl

theorem outsideZcp_setSession (k : Nat) (f : Session → Session) (s : State) :
    outsideZcp (setSession k f s) = outsideZcp s := rfl

theorem outsideZcp_sendReply (k seq typ code : Nat) (b : List Byte) (s : State) :
    outsideZcp (sendReply k seq typ code b s) = outsideZcp s := outsideZcp_of_restZ (restZ_sendReply ..)

theorem outsideZcp_raiseIn (dest : List Nat) (e : Ev) (b : List Byte) (s : State) :
    outsideZcp (raiseIn dest e b s) = outsideZcp s := outsideZcp_of_restZ (raiseIn_eq dest e b s).restZ

theorem outsideZcp_completeSeq (slot seq code : Nat) (body : List Byte) (s : State) :
    outsideZcp (completeSeq slot seq code body s) = outsideZcp s := by
  unfold completeSeq
  split
  · rfl
  · exact (outsideZcp_sendReply ..).trans rfl

theorem outsideZcp_endBulk (slot id : Nat) (st : BulkState) (s : State) :
    outsideZcp (endBulk slot id st s) = outsideZcp s := by
  unfold endBulk
  split
  · rfl
  · exact (outsideZcp_raiseIn ..).trans (foldl_keeps (fun x c => outsideZcp_completeSeq ..) _ _)

theorem outsideZcp_dropBulks (slot : Nat) (s : State) : outsideZcp (dropBulks slot s) = outsideZcp s :=
  foldl_keeps (π := outsideZcp) (fun x id => outsideZcp_endBulk slot id .aborted x) _ s

theorem outsideZcp_closeSession (k cause : Nat) (s : State) : outsideZcp (closeSession k cause s) = outsideZcp s := by
  unfold closeSession
  split
  · rfl
  · exact (outsideZcp_raiseIn ..).trans (outsideZcp_dropBulks ..)

theorem outsideZcp_settle (s : State) : outsideZcp (settle s) = outsideZcp s := outsideZcp_of_restZ (restZ_settle s)

theorem fields_of_outsideZcp {x z : State} (h : outsideZcp z = outsideZcp x) :
    z.force = x.force ∧ z.boot = x.boot ∧ z.power = x.power ∧ z.mem = x.mem :=
  ⟨(congrArg State.force h :), (congrArg State.boot h :), (congrArg State.power h :), (congrArg State.mem h :)⟩

theorem draws_of_outsideZcp {x z : State} (h : outsideZcp z = outsideZcp x) : z.zcp.draws = x.zcp.draws :=
  (congrArg (·.zcp.draws) h :)

/-! ### Events and the sessions that do not receive them -/

theorem session_unsolicited_of_ne {k j : Nat} (h : j ≠ k) (typ : Nat) (b : List Byte) (s : State) :
    session j (unsolicited k typ b s) = session j s := by
  unfold unsolicited
  extract_lets ss seq full s1 inWindow u s2
  have hs2 : session j s2 = session j s := by
    simp only [s2, session_setSession, h, false_and, if_false, s1]
    split <;> rfl
  split
  · exact (session_zcpSend ..).trans hs2
  · exact hs2

theorem session_raiseIn_of_notMem {dest : List Nat} {k : Nat} (h : k ∉ dest) (e : Ev) (b : List Byte) (s : State) :
    session k (raiseIn dest e b s) = session k s := by
  have hsent : session k (dest.foldl (fun x k => unsolicited k 0x0F01 (eventPayload e.code b x) x) (noteEvent e s)) =
      session k s := by
    refine List.foldlRecOn dest _ (motive := fun x => session k x = session k s) rfl fun x hx j hj => ?_
    exact (session_unsolicited_of_ne (ne_of_mem_of_not_mem hj h).symm ..).trans hx
  unfold raiseIn
  extract_lets s2
  split
  · exact hsent
  · exact (session_bbWrite ..).trans hsent

theorem notMem_openSlots {k : Nat} {s : State} (h : (session k s).isOpen = false) : k ∉ openSlots s := fun hk =>
  Bool.false_ne_true (h.symm.trans (List.mem_filter.1 hk).2)

/-- No report reaches a session that is not open. -/
theorem session_settle_of_closed {k : Nat} {s : State} (h : (session k s).isOpen = false) :
    session k (settle s) = session k s := by
  have hflush (n : Nat) (x : State) (hx : session k x = session k s) : session k (flushSat n x) = session k s := by
    induction n generalizing x with
    | zero => exact hx
    | succ n ih =>
      unfold flushSat
      split
      · exact hx
      · exact ih _ ((session_raiseIn_of_notMem (notMem_openSlots (hx ▸ h)) ..).trans hx)
  exact hflush _ s rfl

/-! ### The end of transfers (R498) -/

/-- A session is closed and no command waits in it. -/
structure Shut (k : Nat) (s : State) : Prop where
  closed : (session k s).isOpen = false
  waiting : ∀ w ∈ s.zcp.waiting, w.slot ≠ k

theorem Shut.congr {k : Nat} {x y : State} (h : Shut k x) (hs : session k y = session k x)
    (hw : y.zcp.waiting = x.zcp.waiting) : Shut k y := ⟨hs ▸ h.closed, hw ▸ h.waiting⟩

section
variable {k : Nat} {s : State} (h : Shut k s)
include h

theorem completeSeq_of_shut (seq code : Nat) (body : List Byte) : completeSeq k seq code body s = s := by
  unfold completeSeq
  split
  case h_1 => rfl
  case h_2 w hw =>
    have hslot := List.find?_some hw
    simp only [Bool.and_eq_true, beq_iff_eq] at hslot
    exact absurd hslot.1 (h.waiting w (List.mem_of_find?_eq_some hw))

/-- The transfers of a closed session end without a word to it. -/
theorem endBulk_of_shut (id : Nat) (st : BulkState) : session k (endBulk k id st s) = session k s ∧
    (endBulk k id st s).zcp.waiting = s.zcp.waiting := by
  unfold endBulk
  split
  · exact ⟨rfl, rfl⟩
  case h_2 b _ =>
    extract_lets s1 s2 dest
    have hs1 : Shut k s1 := h.congr rfl rfl
    have hs2 : s2 = s1 := List.foldlRecOn b.closing _ (motive := (· = s1)) rfl fun x hx c _ => by
      rw [hx, completeSeq_of_shut hs1]
    have hdest : dest = [] := if_neg (by simpa [hs2] using hs1.closed)
    rw [hdest, hs2]
    exact ⟨session_raiseIn_of_notMem List.not_mem_nil .., (raiseIn_eq ..).zcp_waiting⟩

theorem dropBulks_of_shut : session k (dropBulks k s) = session k s ∧
    (dropBulks k s).zcp.waiting = s.zcp.waiting := by
  refine List.foldlRecOn _ _ (motive := fun x => session k x = session k s ∧ x.zcp.waiting = s.zcp.waiting) ⟨rfl, rfl⟩
    fun x ⟨hsession, hwaiting⟩ id _ => ?_
  obtain ⟨hsession', hwaiting'⟩ := endBulk_of_shut (h.congr hsession hwaiting) id .aborted
  exact ⟨hsession'.trans hsession, hwaiting'.trans hwaiting⟩

end

theorem bulks_dropBulks (k : Nat) (s : State) : ∀ b ∈ (dropBulks k s).zcp.bulks, b.slot ≠ k := fun b hb => by
  simpa using (List.mem_filter.1 hb).2

/-! ### The close of a session (R476) -/

/-- A session after its close. -/
def Session.closed (v : Session) : Session :=
  { v with isOpen := false, key := [], ends := .replicate 2 none, ahead := [], comps := [], replies := [], answered := [],
           unsol := [], inDoubt := [] }

/-- A closed session has no key, record, reply or message, and nothing of it waits or is being transferred. -/
structure Closed (k : Nat) (s : State) : Prop extends Shut k s where
  key : (session k s).key = []
  comps : (session k s).comps = []
  replies : (session k s).replies = []
  unsol : (session k s).unsol = []
  bulks : ∀ b ∈ s.zcp.bulks, b.slot ≠ k

theorem Closed.settle {k : Nat} {s : State} (h : Closed k s) : Closed k (settle s) := by
  have hsession := session_settle_of_closed h.closed
  obtain ⟨⟨hclosed, hwaiting⟩, hkey, hcomps, hreplies, hunsol, hbulks⟩ := h
  exact ⟨⟨hsession.symm ▸ hclosed, by rwa [settle_zcp_waiting]⟩, hsession.symm ▸ hkey, hsession.symm ▸ hcomps,
    hsession.symm ▸ hreplies, hsession.symm ▸ hunsol, by rwa [settle_zcp_bulks]⟩

section
variable {k : Nat} {s : State}

theorem closeSession_of_closed (h : (session k s).isOpen = false) (cause : Nat) : closeSession k cause s = s :=
  if_pos (by simp [h])

theorem closeSession_closes (hk : k < 4) (hopen : (session k s).isOpen = true) (cause : Nat) :
    session k (closeSession k cause s) = (session k s).closed ∧ Closed k (closeSession k cause s) := by
  unfold closeSession
  rw [if_neg (by simp [hopen])]
  extract_lets s1 src s2 s3
  have hs2 : session k s2 = (session k s).closed := (session_setSession_same k Session.closed s hk :)
  have hshut : Shut k s2 := ⟨by rw [hs2]; rfl, fun w hw => by simpa using (List.mem_filter.1 hw).2⟩
  obtain ⟨hsession, hwaiting⟩ := dropBulks_of_shut hshut
  have hs3 : Shut k s3 := hshut.congr hsession hwaiting
  have hreport := raiseIn_eq (openSlots s3) .session (Config.eventBody Ev.session.code [k, 0, cause]) s3
  have hend := session_raiseIn_of_notMem (notMem_openSlots hs3.closed) .session
    (Config.eventBody Ev.session.code [k, 0, cause]) s3
  have hclosed := hend.trans (hsession.trans hs2)
  exact ⟨hclosed, hs3.congr hend hreport.zcp_waiting, by rw [hclosed]; rfl, by rw [hclosed]; rfl, by rw [hclosed]; rfl,
    by rw [hclosed]; rfl, fun b hb => bulks_dropBulks k s2 b (hreport.zcp_bulks ▸ hb)⟩

end

/-! ### ZCP_SESSION_OPEN (R475) -/

section
variable {t : Nat} {d : Dgram} {s : State} (hd : Authentic d (advance t s)) (hopen : d.isOpen = true)
include hd hopen

theorem exec_zcpSessionOpen : exec (.zcpSessionOpen t d) s = .next (settle (openSession d (advance t s))) := by
  obtain ⟨hup, hready, hchecks, htag, hflags⟩ := hd
  show act t _ s = _
  unfold act arrive
  rw [if_neg (by simp [hup]), if_neg (not_not_intro hready)]
  simp only [hchecks]
  rw [if_neg (by simp [htag]), if_neg (by simp [hflags]), if_pos hopen]

/-- A nonce that was accepted lately, and an eleventh OPEN within the second, change nothing. -/
theorem zcpSessionOpen_discards (h : slice d.payload 0 16 ∈ (session d.session (advance t s)).nonces ∨
    10 ≤ ((session d.session (advance t s)).opens.filter fun y =>
      decide ((advance t s).time.now < y + secT 1)).length) : Does (.zcpSessionOpen t d) s (advance t s) := by
  have hsame : openSession d (advance t s) = advance t s := if_pos (.inr (.inr (.inr h)))
  exact ⟨_, exec_zcpSessionOpen hd hopen, hsame.symm ▸ settle_eq _⟩

end

/-- A session but for its queue of unsolicited messages, its records and its kept replies. -/
def Session.bare (v : Session) : Session := { v with unsol := [], nextUnsol := 0, comps := [], replies := [] }

theorem fields_of_bare {v w : Session} (h : v.bare = w.bare) : v.isOpen = w.isOpen ∧ v.key = w.key ∧ v.recv = w.recv ∧
    v.ahead = w.ahead ∧ v.ports = w.ports ∧ v.ends = w.ends :=
  ⟨(congrArg Session.isOpen h :), (congrArg Session.key h :), (congrArg Session.recv h :), (congrArg Session.ahead h :),
    (congrArg Session.ports h :), (congrArg Session.ends h :)⟩

theorem bare_settle_sendReply {k : Nat} (hk : k < 4) (seq typ code : Nat) (b : List Byte) (s : State) :
    (session k (settle (sendReply k seq typ code b s))).bare = (session k s).bare := by
  have hquiet := (settle_eq (sendReply k seq typ code b s)).quiet k
  refine (congrArg Session.bare hquiet :).trans ?_
  rw [sendReply, session_zcpSend, session_setSession_same _ _ _ hk]
  rfl

/-- The state in which an accepted OPEN is answered. -/
def opened (d : Dgram) (s : State) : State :=
  let k := d.session
  let s1 := closeSession k 0 { s with zcp := { s.zcp with draws := s.zcp.draws + 1 } }
  count (zcpRx d.port) k 1 (setSession k (startSession d (sessionKey ((session k s).longKey.getD [])
    (slice d.payload 0 16) (natBE 16 (Config.nonce s.zcp.draws)) k) (slice d.payload 0 16)
    (Config.firstUnsol s.zcp.draws % 2 ^ 32) s1.time.now) s1)

theorem outsideZcp_opened (d : Dgram) (s : State) :
    outsideZcp (opened d s) = outsideZcp { s with zcp := { s.zcp with draws := s.zcp.draws + 1 } } := by
  rw [opened, outsideZcp_count, outsideZcp_setSession, outsideZcp_closeSession]

section
variable {t : Nat} {d : Dgram} {s : State}

theorem openSession_opens (hlen : d.payload.length = 20) (hports : beAt d.payload 16 1 ≤ 2)
    (hzero : beAt d.payload 17 3 = 0) (hnonce : slice d.payload 0 16 ∉ (session d.session s).nonces)
    (hrecent : ((session d.session s).opens.filter fun y => decide (s.time.now < y + secT 1)).length < 10) :
    ∃ b, openSession d s = sendReply d.session d.seq d.typ rOk b (opened d s) :=
  ⟨_, if_neg (by simpa [hlen, hzero, hnonce] using ⟨hports, hrecent⟩)⟩

theorem zcpSessionOpen_opens (hd : Authentic d (advance t s)) (hopen : d.isOpen = true) (hlen : d.payload.length = 20)
    (hports : beAt d.payload 16 1 ≤ 2) (hzero : beAt d.payload 17 3 = 0)
    (hnonce : slice d.payload 0 16 ∉ (session d.session (advance t s)).nonces)
    (hrecent : ((session d.session (advance t s)).opens.filter fun y =>
      decide ((advance t s).time.now < y + secT 1)).length < 10) :
    let x := advance t s
    Leads (.zcpSessionOpen t d) s fun z =>
      lastReply d z = some ⟨d.seq, d.typ, rOk⟩ ∧ (session d.session z).isOpen = true ∧
      (session d.session z).key = sessionKey ((session d.session x).longKey.getD []) (slice d.payload 0 16)
        (natBE 16 (Config.nonce x.zcp.draws)) d.session ∧
      (session d.session z).recv = d.seq ∧ (session d.session z).ahead = [] ∧
      (session d.session z).ports = beAt d.payload 16 1 ∧
      (session d.session z).ends = (RegFile.replicate 2 none).set d.port (some d.src) ∧
      z.zcp.draws = x.zcp.draws + 1 ∧ z.force = x.force ∧ z.boot = x.boot ∧ z.power = x.power ∧ z.mem = x.mem := by
  intro x
  have hk := early_session hd.checks
  obtain ⟨b, hb⟩ := openSession_opens hlen hports hzero hnonce hrecent
  have hbare := bare_settle_sendReply hk d.seq d.typ rOk b (opened d x)
  rw [opened, session_count, session_setSession_same _ _ _ hk, ← opened] at hbare
  obtain ⟨hisOpen, hkey, hrecv, hahead, hsent, hends⟩ := fields_of_bare hbare
  have hside : outsideZcp (settle (sendReply d.session d.seq d.typ rOk b (opened d x))) =
      outsideZcp { x with zcp := { x.zcp with draws := x.zcp.draws + 1 } } := by
    rw [outsideZcp_settle, outsideZcp_sendReply, outsideZcp_opened]
  refine leads_of_exec ((exec_zcpSessionOpen hd hopen).trans (by rw [hb])) ⟨?_, hisOpen, hkey, hrecv, hahead, hsent, hends,
    (draws_of_outsideZcp hside :), (fields_of_outsideZcp hside :)⟩
  rw [lastReply_settle]
  exact lastReply_sendReply d d.typ _ _ _ hk

/-! ### The closes of R476 and R478 -/

/-- What is left once a command has closed a session. -/
theorem closed_settle_closeSession {k : Nat} {x y : State} (hk : k < 4) (hopen : (session k y).isOpen = true)
    (hy : outsideZcp y = outsideZcp x) (cause : Nat) : let z := settle (closeSession k cause y)
    Closed k z ∧ z.force = x.force ∧ z.boot = x.boot ∧ z.power = x.power ∧ z.mem = x.mem :=
  ⟨(closeSession_closes hk hopen cause).2.settle,
    fields_of_outsideZcp ((outsideZcp_settle _).trans ((outsideZcp_closeSession ..).trans hy))⟩

theorem isOpen_sendReply (k j seq typ code : Nat) (b : List Byte) (s : State) :
    (session j (sendReply k seq typ code b s)).isOpen = (session j s).isOpen := by
  rw [sendReply, session_zcpSend, session_setSession]
  split
  case isTrue h => rw [h.1]
  case isFalse => rfl

theorem isOpen_taken (d : Dgram) (k : Nat) (s : State) : (session k (taken d s)).isOpen = (session k s).isOpen :=
  (congrArg Session.isOpen (core_taken d k s) :)

theorem finish_after {d : Dgram} (h : d.typ ≠ 0x0A03) (code : Nat) (b : List Byte) (x : State) (after : State → State) :
    finish d ⟨some (code, b), x, after⟩ = after (sendReply d.session d.seq d.typ code b x) := by
  simp [finish, h]

theorem exec_zcpSessionClose (hd : Accepted 0x0003 d (advance t s)) (hlen : d.payload.length = 0) :
    exec (.zcpSessionClose t d) s = .next (settle (closeSession d.session 1
      (sendReply d.session d.seq d.typ rOk [] (taken d (advance t s))))) := by
  refine (zcp_accepted _ hd).trans ?_
  rw [sized_of_length sessionClose (c := d.ctx) hlen, sessionClose, finish_after (by simp [hd.typ])]
  rfl

/-- The key that a ZCP_KEY_SET brings, its mask taken off (R478). -/
def unmaskedKey (d : Dgram) (s : State) : List Byte :=
  List.zipWith (fun a b => a ^^^ b) (slice d.payload 4 32)
    (hmac (session d.session s).key ([0x4B, 0x45, 0x59] ++ natBE 4 d.seq))

theorem unmaskedKey_taken (d : Dgram) (s : State) : unmaskedKey d (taken d s) = unmaskedKey d s := by
  have hkey : (session d.session (taken d s)).key = (session d.session s).key :=
    (congrArg Session.key (core_taken d d.session s) :)
  rw [unmaskedKey, hkey, ← unmaskedKey]

/-- The state in which an accepted ZCP_KEY_SET is answered. -/
def rekeyed (d : Dgram) (s : State) : State :=
  setSession (beAt d.payload 0 1) (fun y => { y with longKey := some (unmaskedKey d s) }) (taken d s)

theorem keySet_of_sound {d : Dgram} (hslot : beAt d.payload 0 1 ≤ 3) (hzero : beAt d.payload 1 3 = 0) (s : State) :
    keySet d.ctx (taken d s) = ⟨some (rOk, []), rekeyed d s, closeSession (beAt d.payload 0 1) 3⟩ := by
  have hgood : ¬ (3 < beAt d.payload 0 1 ∨ beAt d.payload 1 3 ≠ 0) :=
    not_or.2 ⟨Nat.not_lt.2 hslot, not_not_intro hzero⟩
  rw [rekeyed, ← unmaskedKey_taken]
  exact if_neg hgood

theorem exec_zcpKeySet (hd : Accepted 0x0006 d (advance t s)) (hlen : d.payload.length = 36)
    (hslot : beAt d.payload 0 1 ≤ 3) (hzero : beAt d.payload 1 3 = 0) : exec (.zcpKeySet t d) s =
      .next (settle (closeSession (beAt d.payload 0 1) 3
        (sendReply d.session d.seq d.typ rOk [] (rekeyed d (advance t s))))) := by
  refine (zcp_accepted _ hd).trans ?_
  rw [sized_of_length keySet (c := d.ctx) hlen, keySet_of_sound hslot hzero, finish_after (by simp [hd.typ])]

theorem longKey_sendReply (k j seq typ code : Nat) (b : List Byte) (s : State) :
    (session j (sendReply k seq typ code b s)).longKey = (session j s).longKey := by
  rw [sendReply, session_zcpSend, session_setSession]
  split
  case isTrue h => rw [h.1]
  case isFalse => rfl

theorem zcpKeySet_leads (hd : Accepted 0x0006 d (advance t s)) (hlen : d.payload.length = 36)
    (hslot : beAt d.payload 0 1 ≤ 3) (hzero : beAt d.payload 1 3 = 0) : let x := advance t s
    let k := beAt d.payload 0 1
    Leads (.zcpKeySet t d) s fun z => (session k z).longKey = some (unmaskedKey d x) ∧
      (session k z).isOpen = false ∧ ((session k x).isOpen = true → Closed k z) ∧ z.force = x.force ∧ z.boot = x.boot ∧
      z.power = x.power ∧ z.mem = x.mem := by
  intro x k
  have hk : k < 4 := Nat.lt_succ_of_le hslot
  refine leads_of_exec (exec_zcpKeySet hd hlen hslot hzero) ?_
  change let z := settle (closeSession k 3 (sendReply d.session d.seq d.typ rOk [] (rekeyed d x))); _
  have houtside : outsideZcp (sendReply d.session d.seq d.typ rOk [] (rekeyed d x)) = outsideZcp x := by
    rw [outsideZcp_sendReply, rekeyed, outsideZcp_setSession, outsideZcp_of_restZ (restZ_taken d x)]
  have hlong : (session k (sendReply d.session d.seq d.typ rOk [] (rekeyed d x))).longKey = some (unmaskedKey d x) := by
    rw [longKey_sendReply, rekeyed, session_setSession_same _ _ _ hk]
  have hsame : (session k (sendReply d.session d.seq d.typ rOk [] (rekeyed d x))).isOpen = (session k x).isOpen := by
    rw [isOpen_sendReply, rekeyed, session_setSession_same _ _ _ hk, ← isOpen_taken d k x]
  generalize sendReply d.session d.seq d.typ rOk [] (rekeyed d x) = y at houtside hlong hsame ⊢
  generalize unmaskedKey d x = key at hlong ⊢
  cases hopen : (session k x).isOpen
  case true =>
    obtain ⟨hclosed, hfields⟩ := closed_settle_closeSession hk (hsame.trans hopen) houtside 3
    obtain ⟨hsession, hclose⟩ := closeSession_closes hk (hsame.trans hopen) 3
    refine ⟨?_, hclosed.closed, fun _ => hclosed, hfields⟩
    rw [session_settle_of_closed hclose.closed, hsession]
    exact hlong
  case false =>
    rw [closeSession_of_closed (hsame.trans hopen)]
    have hsettle := session_settle_of_closed (hsame.trans hopen)
    refine ⟨hsettle.symm ▸ hlong, hsettle.symm ▸ hsame.trans hopen, fun h => absurd h Bool.false_ne_true, ?_⟩
    exact fields_of_outsideZcp ((outsideZcp_settle y).trans houtside)

theorem exec_sessionIdleTimeout (t : Nat) (k : Fin 4) (s : State) : exec (.sessionIdleTimeout t k) s = act t (fun x =>
    if (session k x).isOpen ∧ (session k x).lastAt + nsT (par0 .zcpIdleTimeout x) ≤ x.time.now then closeSession k 2 x
    else x) s := rfl

end

/-- A closed session as the statement lists it. -/
theorem Closed.listed {k : Nat} {z : State} (h : Closed k z) : (session k z).isOpen = false ∧ (session k z).key = [] ∧
    (session k z).comps = [] ∧ (session k z).replies = [] ∧ (session k z).unsol = [] ∧ (∀ w ∈ z.zcp.waiting, w.slot ≠ k) ∧
    (∀ b ∈ z.zcp.bulks, b.slot ≠ k) := ⟨h.closed, h.key, h.comps, h.replies, h.unsol, h.waiting, h.bulks⟩

/-- Settles O4: an OPEN by whether it is accepted, and the three closes by what `closeSession` leaves. -/
theorem sessionsOpenAndClose : Obligations.SessionsOpenAndClose := by
  refine ⟨fun t d s => fun hd hopen => ⟨zcpSessionOpen_opens hd hopen, zcpSessionOpen_discards hd hopen⟩,
    fun t d s => fun hd hlen hopen => ?close, fun t d s => fun hd hlen hslot hzero => ?key, fun t k s => fun hopen hdue => ?idle,
    fun t k s => fun hsoon => ?early⟩
  case close =>
    obtain ⟨hclosed, hfields⟩ := closed_settle_closeSession (early_session hd.checks)
      (((isOpen_sendReply d.session d.session d.seq d.typ rOk [] (taken d (advance t s))).trans
        (isOpen_taken d d.session _)).trans hopen)
      ((outsideZcp_sendReply ..).trans (outsideZcp_of_restZ (restZ_taken d (advance t s)))) 1
    exact leads_of_exec (exec_zcpSessionClose hd hlen) ⟨hclosed.listed, hfields⟩
  case key =>
    obtain ⟨z, hz, hlong, hshut, hclosed, hfields⟩ := zcpKeySet_leads hd hlen hslot hzero
    exact ⟨z, hz, hlong, hshut, fun h => (hclosed h).listed, hfields⟩
  case idle =>
    obtain ⟨hclosed, hfields⟩ := closed_settle_closeSession k.isLt hopen rfl 2
    exact leads_act (exec_sessionIdleTimeout t k s) (by rw [if_pos ⟨hopen, hdue⟩]; exact ⟨hclosed.listed, hfields⟩)
  case early =>
    exact does_act (exec_sessionIdleTimeout t k s) (by
      rw [if_neg fun h => Nat.not_lt.2 h.2 hsoon]
      exact .rfl' _)

end Sys2Proof.Machine
end

section
/-! Which parts of the module an operation touches. `Touches l x z` says that `z` comes from `x` by changes of the parts
listed in `l` and by reports; every part that is not listed is as it was. -/

namespace Sys2Proof.Machine

/-! ### Parts of the module -/

/-- The parts of the state that reports leave alone. -/
inductive Part where
  | pending | free | force | pend | boundary | power | hostLinks | boot | sticky | episodes | stopped | faults | gauges | sessions
  | bulks | waiting | cores | clock | ports | outs | refs | ingressLinks | plan | data | zoom | weir | egress | mem
  | sluice | canal
deriving DecidableEq

/-- The fields of FaultS that reports leave alone, its sticky bits, episodes, stopped functions and gauges apart. -/
def FaultS.held (f : FaultS) : FaultS :=
  { f with sticky := 0, episodes := .replicate 4 ⟨.idle, 0, 0, 0⟩, stopped := [], ring := [], nextSeq := 0, mirror := [], batch := []
           gauges := [], hubGauges := [], plannedAt := 0, reportedAt := 0 }

/-- What the gauges and the reports of the second hold. -/
def FaultS.gauging (f : FaultS) : Sparse Nat × Sparse Nat × Nat × Nat :=
  (f.gauges, f.hubGauges, f.plannedAt, f.reportedAt)

/-- The fields of ZcpS beside sessions, transfers and waiting commands. -/
def ZcpS.held (z : ZcpS) : ZcpS := { z with slots := .replicate 4 (resetSession none), bulks := [], waiting := [] }

/-- The fields of TimeS that monitoring and selection hold. -/
def TimeS.held (t : TimeS) : TimeS :=
  { t with now := 0, tide := 0, tx := [], rx := resetTime.rx, txts := [], tcHeld := [], outs := resetTime.outs
           tins := resetTime.tins }

/-- Two states agree in a part. -/
def Part.same : Part → State → State → Prop
  | .pending, x, z => z.pending = x.pending
  | .free, x, z => z.free = x.free
  | .force, x, z => z.force = x.force
  | .pend, x, z => z.pend = x.pend
  | .boundary, x, z => z.boundary = x.boundary
  | .power, x, z => z.power = x.power
  | .hostLinks, x, z => z.hostLinks = x.hostLinks
  | .boot, x, z => z.boot = x.boot
  | .sticky, x, z => z.fault.sticky = x.fault.sticky
  | .episodes, x, z => z.fault.episodes = x.fault.episodes
  | .stopped, x, z => z.fault.stopped = x.fault.stopped
  | .faults, x, z => z.fault.held = x.fault.held
  | .gauges, x, z => z.fault.gauging = x.fault.gauging
  | .sessions, x, z => z.zcp.slots.map Session.quiet = x.zcp.slots.map Session.quiet
  | .bulks, x, z => z.zcp.bulks = x.zcp.bulks
  | .waiting, x, z => z.zcp.waiting = x.zcp.waiting
  | .cores, x, z => z.zcp.held = x.zcp.held
  | .clock, x, z => (z.time.now, z.time.tide) = (x.time.now, x.time.tide)
  | .ports, x, z => (z.time.tx, z.time.rx, z.time.txts, z.time.tcHeld) = (x.time.tx, x.time.rx, x.time.txts, x.time.tcHeld)
  | .outs, x, z => (z.time.outs, z.time.tins) = (x.time.outs, x.time.tins)
  | .refs, x, z => z.time.held = x.time.held
  | .ingressLinks, x, z => z.ingressLinks = x.ingressLinks
  | .plan, x, z => z.plan = x.plan
  | .data, x, z => z.data = x.data
  | .zoom, x, z => z.zoom = x.zoom
  | .weir, x, z => z.weir = x.weir
  | .egress, x, z => z.egress = x.egress
  | .mem, x, z => z.mem = x.mem
  | .sluice, x, z => z.sluice = x.sluice
  | .canal, x, z => z.canal = x.canal

theorem Part.same_rest {p : Part} (hp : p ≠ .sessions) {x z : State} : p.same x z ↔ p.same (rest x) (rest z) := by
  cases p
  case sessions => exact absurd rfl hp
  all_goals exact Iff.rfl

/-- A list names a part. -/
def Part.listed (p : Part) : List Part → Bool
  | [] => false
  | q :: l => Nat.beq p.ctorIdx q.ctorIdx || p.listed l

/-- One list names every part that another names. -/
def Part.within : List Part → List Part → Bool
  | [], _ => true
  | p :: l, m => p.listed m && Part.within l m

theorem Part.eq_of_ctorIdx {p q : Part} (h : p.ctorIdx = q.ctorIdx) : p = q := by
  rw [← Part.ofNat_ctorIdx p, ← Part.ofNat_ctorIdx q, h]

theorem Part.listed_of_within {l m : List Part} (h : Part.within l m = true) {p : Part} (hp : p.listed l = true) :
    p.listed m = true := by
  induction l with
  | nil => exact absurd hp Bool.false_ne_true
  | cons q l ih =>
    rw [Part.within, Bool.and_eq_true] at h
    rw [Part.listed, Bool.or_eq_true, Nat.beq_eq] at hp
    exact hp.elim (fun hq => Part.eq_of_ctorIdx hq ▸ h.1) (ih h.2)

theorem Part.within_refl (l : List Part) : Part.within l l = true := by
  suffices h : ∀ m : List Part, (∀ p : Part, p.listed m = true → p.listed l = true) → Part.within m l = true from h l fun _ => id
  intro m hm
  induction m with
  | nil => rfl
  | cons q m ih =>
    rw [Part.within, Bool.and_eq_true]
    exact ⟨hm q (by simp [Part.listed]), ih fun p hp => hm p (by simp [Part.listed, hp])⟩

theorem Part.within_of_append {l m n : List Part} (h : Part.within (l ++ m) n = true) :
    Part.within l n = true ∧ Part.within m n = true := by
  induction l with
  | nil => exact ⟨rfl, h⟩
  | cons p l ih =>
    obtain ⟨hp, hrest⟩ := Bool.and_eq_true_iff.1 (show (p.listed n && Part.within (l ++ m) n) = true from h)
    exact ⟨Bool.and_eq_true_iff.2 ⟨hp, (ih hrest).1⟩, (ih hrest).2⟩

/-- From `x` to `z` only the listed parts and reports change. -/
structure Touches (l : List Part) (x z : State) : Prop where
  same : ∀ p : Part, p.listed l = false → p.same x z

/-- A value, unless it is left out. An abbreviation, so that a comparison sees what is left out before it compares
values. -/
abbrev masked {α : Type} (b : Bool) (v : α) : Option α := match b with
  | true => none
  | false => some v

theorem eq_of_masked {α : Type} {b : Bool} {v w : α} (h : masked b v = masked b w) (hb : b = false) : v = w := by
  subst hb
  exact Option.some.inj h

/-- What a list of parts leaves of a state. -/
def beside (l : List Part) (s : State) :=
  (masked (Part.listed .pending l) s.pending, masked (Part.listed .free l) s.free,
    masked (Part.listed .force l) s.force, masked (Part.listed .pend l) s.pend,
    masked (Part.listed .boundary l) s.boundary, masked (Part.listed .power l) s.power,
    masked (Part.listed .hostLinks l) s.hostLinks, masked (Part.listed .boot l) s.boot,
    masked (Part.listed .sticky l) s.fault.sticky, masked (Part.listed .episodes l) s.fault.episodes,
    masked (Part.listed .stopped l) s.fault.stopped, masked (Part.listed .faults l) s.fault.held,
    masked (Part.listed .gauges l) s.fault.gauging, masked (Part.listed .sessions l) (s.zcp.slots.map Session.quiet),
    masked (Part.listed .bulks l) s.zcp.bulks, masked (Part.listed .waiting l) s.zcp.waiting,
    masked (Part.listed .cores l) s.zcp.held, masked (Part.listed .clock l) (s.time.now, s.time.tide),
    masked (Part.listed .ports l) (s.time.tx, s.time.rx, s.time.txts, s.time.tcHeld),
    masked (Part.listed .outs l) (s.time.outs, s.time.tins), masked (Part.listed .refs l) s.time.held,
    masked (Part.listed .ingressLinks l) s.ingressLinks, masked (Part.listed .plan l) s.plan,
    masked (Part.listed .data l) s.data, masked (Part.listed .zoom l) s.zoom, masked (Part.listed .weir l) s.weir,
    masked (Part.listed .egress l) s.egress, masked (Part.listed .mem l) s.mem,
    masked (Part.listed .sluice l) s.sluice, masked (Part.listed .canal l) s.canal)

namespace Touches

variable {l m n : List Part} {x y z : State}

theorem refl (x : State) : Touches l x x := by
  refine ⟨fun p _ => ?_⟩
  cases p <;> rfl

theorem mono (h : Touches l x z) (hlm : Part.within l m = true) : Touches m x z :=
  ⟨fun p hp => h.same p (Bool.eq_false_iff.2 fun hl => ne_true_of_eq_false hp (Part.listed_of_within hlm hl))⟩

/-- Steps that touch the same parts. -/
theorem next (h : Touches l x y) (h' : Touches l y z) : Touches l x z := by
  refine ⟨fun p hp => ?_⟩
  have hxy := h.same p hp
  have hyz := h'.same p hp
  cases p <;> exact Eq.trans hyz hxy

theorem trans (h : Touches l x y) (h' : Touches m y z) (hn : Part.within (l ++ m) n = true) : Touches n x z :=
  (h.mono (Part.within_of_append hn).1).next (h'.mono (Part.within_of_append hn).2)

/-- The later step first, which names the state between. -/
theorem after (h' : Touches m y z) (h : Touches l x y) (hn : Part.within (l ++ m) n = true) : Touches n x z :=
  h.trans h' hn

/-- A report touches no part. -/
theorem report (h : Touches l x y) (h' : Touches [] y z) : Touches l x z := h.next (h'.mono rfl)

theorem foldl {α : Type} {f : State → α → State} (hf : ∀ s a, Touches l s (f s a)) (as : List α) (s : State) :
    Touches l s (as.foldl f s) :=
  as.foldlRecOn f (refl s) fun y h a _ => h.next (hf y a)

theorem ite {p : Prop} [Decidable p] (hy : Touches l x y) (hz : Touches l x z) : Touches l x (if p then y else z) := by
  split
  · exact hy
  · exact hz

/-- A change of fields touches the parts that they belong to. -/
theorem of_fields (h : beside l z = beside l x) : Touches l x z := by
  simp only [beside, Prod.mk.injEq] at h
  obtain ⟨hpending, hfree, hforce, hpend, hboundary, hpower, hhostLinks, hboot, hsticky, hepisodes, hstopped,
    hfaults, hgauges, hsessions, hbulks, hwaiting, hcores, hclock, hports, houts, hrefs, hingressLinks, hplan,
    hdata, hzoom, hweir, hegress, hmem, hsluice, hcanal⟩ := h
  refine ⟨fun p hp => ?_⟩
  cases p
  case pending => exact eq_of_masked hpending hp
  case free => exact eq_of_masked hfree hp
  case force => exact eq_of_masked hforce hp
  case pend => exact eq_of_masked hpend hp
  case boundary => exact eq_of_masked hboundary hp
  case power => exact eq_of_masked hpower hp
  case hostLinks => exact eq_of_masked hhostLinks hp
  case boot => exact eq_of_masked hboot hp
  case sticky => exact eq_of_masked hsticky hp
  case episodes => exact eq_of_masked hepisodes hp
  case stopped => exact eq_of_masked hstopped hp
  case faults => exact eq_of_masked hfaults hp
  case gauges => exact eq_of_masked hgauges hp
  case sessions => exact eq_of_masked hsessions hp
  case bulks => exact eq_of_masked hbulks hp
  case waiting => exact eq_of_masked hwaiting hp
  case cores => exact eq_of_masked hcores hp
  case clock => exact eq_of_masked hclock hp
  case ports => exact eq_of_masked hports hp
  case outs => exact eq_of_masked houts hp
  case refs => exact eq_of_masked hrefs hp
  case ingressLinks => exact eq_of_masked hingressLinks hp
  case plan => exact eq_of_masked hplan hp
  case data => exact eq_of_masked hdata hp
  case zoom => exact eq_of_masked hzoom hp
  case weir => exact eq_of_masked hweir hp
  case egress => exact eq_of_masked hegress hp
  case mem => exact eq_of_masked hmem hp
  case sluice => exact eq_of_masked hsluice hp
  case canal => exact eq_of_masked hcanal hp

/-- States that agree but for reports agree in every part. -/
theorem of_reportEq (h : ReportEq z x) : Touches [] x z := by
  refine ⟨fun p hl => ?_⟩
  by_cases hp : p = .sessions
  · exact hp ▸ (congrArg (·.zcp.slots) h.rest :)
  · rw [Part.same_rest hp, h.rest]
    exact (refl (l := []) (Machine.rest x)).same p hl

/-! ### What is as it was -/

section
variable (h : Touches l x z)
include h

theorem pending (hp : Part.listed .pending l = false) : z.pending = x.pending := h.same .pending hp
theorem free (hp : Part.listed .free l = false) : z.free = x.free := h.same .free hp
theorem force (hp : Part.listed .force l = false) : z.force = x.force := h.same .force hp
theorem pend (hp : Part.listed .pend l = false) : z.pend = x.pend := h.same .pend hp
theorem boundary (hp : Part.listed .boundary l = false) : z.boundary = x.boundary := h.same .boundary hp
theorem power (hp : Part.listed .power l = false) : z.power = x.power := h.same .power hp
theorem hostLinks (hp : Part.listed .hostLinks l = false) : z.hostLinks = x.hostLinks := h.same .hostLinks hp
theorem boot (hp : Part.listed .boot l = false) : z.boot = x.boot := h.same .boot hp
theorem ingressLinks (hp : Part.listed .ingressLinks l = false) : z.ingressLinks = x.ingressLinks := h.same .ingressLinks hp
theorem plan (hp : Part.listed .plan l = false) : z.plan = x.plan := h.same .plan hp
theorem data (hp : Part.listed .data l = false) : z.data = x.data := h.same .data hp
theorem zoom (hp : Part.listed .zoom l = false) : z.zoom = x.zoom := h.same .zoom hp
theorem weir (hp : Part.listed .weir l = false) : z.weir = x.weir := h.same .weir hp
theorem egress (hp : Part.listed .egress l = false) : z.egress = x.egress := h.same .egress hp
theorem mem (hp : Part.listed .mem l = false) : z.mem = x.mem := h.same .mem hp
theorem sluice (hp : Part.listed .sluice l = false) : z.sluice = x.sluice := h.same .sluice hp
theorem canal (hp : Part.listed .canal l = false) : z.canal = x.canal := h.same .canal hp
theorem sticky (hp : Part.listed .sticky l = false) : z.fault.sticky = x.fault.sticky := h.same .sticky hp
theorem episodes (hp : Part.listed .episodes l = false) : z.fault.episodes = x.fault.episodes := h.same .episodes hp
theorem bulks (hp : Part.listed .bulks l = false) : z.zcp.bulks = x.zcp.bulks := h.same .bulks hp
theorem waiting (hp : Part.listed .waiting l = false) : z.zcp.waiting = x.zcp.waiting := h.same .waiting hp

theorem frozen (hp : Part.listed .faults l = false) : z.fault.frozen = x.fault.frozen :=
  (congrArg FaultS.frozen (h.same .faults hp) :)

theorem bootCount (hp : Part.listed .faults l = false) : z.fault.bootCount = x.fault.bootCount :=
  (congrArg FaultS.bootCount (h.same .faults hp) :)

theorem episode (c : Nat) (hp : Part.listed .episodes l = false) :
    Machine.episode c z = Machine.episode c x := by
  rw [Machine.episode, h.episodes hp, Machine.episode]

theorem domain (pd : Nat) (hp : Part.listed .power l = false) :
    Machine.domain pd z = Machine.domain pd x := by
  rw [Machine.domain, h.power hp, Machine.domain]

theorem time (hp : (Part.listed .clock l || Part.listed .ports l || Part.listed .outs l || Part.listed .refs l) = false) :
    z.time = x.time := by
  simp only [Bool.or_eq_false_iff] at hp
  obtain ⟨⟨⟨hclock, hports⟩, houts⟩, hrefs⟩ := hp
  have h1 : (z.time.now, z.time.tide) = (x.time.now, x.time.tide) := h.same .clock hclock
  have h2 : (z.time.tx, z.time.rx, z.time.txts, z.time.tcHeld) = (x.time.tx, x.time.rx, x.time.txts, x.time.tcHeld) :=
    h.same .ports hports
  have h3 : (z.time.outs, z.time.tins) = (x.time.outs, x.time.tins) := h.same .outs houts
  have hheld : z.time.held = x.time.held := h.same .refs hrefs
  have hback (t : TimeS) : t = { t.held with
    now := (t.now, t.tide).1, tide := (t.now, t.tide).2, tx := (t.tx, t.rx, t.txts, t.tcHeld).1
    rx := (t.tx, t.rx, t.txts, t.tcHeld).2.1, txts := (t.tx, t.rx, t.txts, t.tcHeld).2.2.1
    tcHeld := (t.tx, t.rx, t.txts, t.tcHeld).2.2.2, outs := (t.outs, t.tins).1, tins := (t.outs, t.tins).2 } := rfl
  rw [hback z.time, hback x.time, hheld, h1, h2, h3]

theorem session (k : Nat) (hp : Part.listed .sessions l = false) :
    (Machine.session k z).quiet = (Machine.session k x).quiet := quiet_of_slots (h.same .sessions hp) k

end

/-! ### One field, and reports -/

section
variable (s : State)

theorem set_power (v : PowerS) : Touches [.power] s { s with power := v } := of_fields rfl
theorem set_boot (v : BootS) : Touches [.boot] s { s with boot := v } := of_fields rfl
theorem set_plan (v : PlanS) : Touches [.plan] s { s with plan := v } := of_fields rfl
theorem set_data (v : DataS) : Touches [.data] s { s with data := v } := of_fields rfl
theorem set_zoom (v : ZoomS) : Touches [.zoom] s { s with zoom := v } := of_fields rfl
theorem set_weir (v : WeirS) : Touches [.weir] s { s with weir := v } := of_fields rfl
theorem set_egress (v : EgressS) : Touches [.egress] s { s with egress := v } := of_fields rfl
theorem set_mem (v : MemS) : Touches [.mem] s { s with mem := v } := of_fields rfl
theorem set_sluice (v : SluiceS) : Touches [.sluice] s { s with sluice := v } := of_fields rfl
theorem set_canal (v : CanalS) : Touches [.canal] s { s with canal := v } := of_fields rfl

theorem count (c : Ctr) (i k : Nat) : Touches [] s (count c i k s) := of_fields rfl

theorem noteEvent (e : Ev) : Touches [] s (noteEvent e s) := of_fields rfl

theorem emit (e : Sent) : Touches [] s (emit e s) := of_fields rfl

theorem raiseIn (dest : List Nat) (e : Ev) (b : List Byte) : Touches [] s (raiseIn dest e b s) :=
  (noteEvent s e).report (of_reportEq (raiseIn_eq dest e b s))

theorem raiseBytes (e : Ev) (b : List Byte) : Touches [] s (raiseBytes e b s) := raiseIn s _ e b

theorem raise (e : Ev) (fields : List Nat) : Touches [] s (raise e fields s) := raiseIn s _ e _

theorem bbWrite (kind cls code : Nat) (data : List Byte) : Touches [] s (bbWrite kind cls code data s) :=
  of_reportEq (bbWrite_eq kind cls code data s)

theorem unsolicited (k typ : Nat) (b : List Byte) : Touches [] s (unsolicited k typ b s) :=
  of_reportEq (unsolicited_eq k typ b s)

theorem zcpSend (k : Nat) (b : List Byte) : Touches [] s (zcpSend k b s) := of_reportEq (zcpSend_eq k b s)

theorem settle : Touches [] s (settle s) := of_reportEq (settle_eq s)

theorem fire (f : Fs) : Touches [.sticky, .episodes] s (fire f s) := by
  refine Touches.report (y := fired f s) ?_ (of_reportEq (fire_eq f s))
  unfold fired
  extract_lets src s1 e quiet st
  split
  · exact (of_fields rfl : Touches [.sticky, .episodes] s (setEpisode f.cls _ s1)).report (noteEvent _ .fault)
  · exact of_fields rfl
  · exact of_fields rfl

theorem stopFunction (fn inst : Nat) : Touches [.stopped] s (stopFunction fn inst s) := by
  unfold Machine.stopFunction
  exact ite (refl s) (of_fields rfl)

/-! ### Replies -/

theorem setSession (k : Nat) (f : Session → Session) : Touches [.sessions] s (setSession k f s) := of_fields rfl

theorem sendReply (k seq typ code : Nat) (b : List Byte) : Touches [.sessions] s (sendReply k seq typ code b s) :=
  (setSession s k _).report (zcpSend _ k _)

theorem complete (why : Why) (unit code : Nat) (b : List Byte) :
    Touches [.sessions, .waiting] s (complete why unit code b s) := by
  have hreplies (l : List Waiting) (x : State) : Touches [.sessions] x (l.foldl (fun x w =>
      if (Machine.session w.slot x).isOpen then Machine.sendReply w.slot w.seq w.typ code b x else x) x) :=
    foldl (fun x w => ite (sendReply x ..) (refl x)) l x
  exact (hreplies _ _).after (l := [.waiting]) (of_fields rfl) rfl

end

end Touches

end Sys2Proof.Machine
end

section
/-! What the loss of a unit touches (R195, R313, R532, R548, R569): a domain that goes off, and the module stop. -/

namespace Sys2Proof.Machine

open Touches (refl ite of_fields foldl)

/-! ### Polders, dies and engines -/

section
variable (s : State)

theorem clearPolder_touches (n : Nat) : Touches [.data] s (clearPolder n s) := of_fields rfl

theorem tileDone_touches (d slot : Nat) : Touches [.data] s (tileDone d slot s) := of_fields rfl

theorem polderOff_touches (n : Nat) : Touches [.data] s (polderOff n s) := by
  unfold polderOff
  extract_lets p jobs s1
  have hjobs : Touches [.data] s s1 :=
    (clearPolder_touches s n).trans (foldl (fun x (j : TileJob) => tileDone_touches x (n / 42) j.slot) jobs _) rfl
  clear_value s1
  exact hjobs.trans (of_fields (l := [.data]) (by exact rfl)) rfl

theorem endHold_touches (e : Nat) : Touches [.weir] s (endHold e s) := by
  unfold endHold
  extract_lets x
  split
  · exact refl s
  · exact of_fields rfl

theorem missTaps_touches (d slot : Nat) : Touches [.sluice] s (missTaps d slot s) :=
  (of_fields (l := [.sluice]) (by exact rfl)).report (foldl (fun x (y : TapDue) => Touches.count x .tapMissed y.core (y.count - y.next)) _ _)

theorem ledgerDue_touches (d area epoch chan chunk : Nat) : Touches [.data] s (ledgerDue d area epoch chan chunk s) :=
  (of_fields rfl)

theorem dropDie_touches (d : Nat) : Touches [.data, .weir, .sluice] s (dropDie d s) := by
  unfold dropDie
  extract_lets x main zoom s1 s2
  have hs1 : Touches [.data] s s1 := of_fields rfl
  clear_value s1
  have htaps : Touches [.sluice] s1 _ := foldl (fun y i => missTaps_touches y d i) (List.range x.slots.length) s1
  have hs2 : Touches [.data, .sluice] s s2 :=
    (hs1.trans htaps rfl (n := [.data, .sluice])).trans (foldl (fun y n => clearPolder_touches y (42 * d + n)) _ _) rfl
  clear_value s2
  have hs3 (w : WeirS) : Touches [.data, .weir, .sluice] s
      (endHold (2 * d + 1) (endHold (2 * d) { s2 with weir := w })) :=
    hs2.trans (((Touches.set_weir s2 w).next (endHold_touches _ (2 * d))).next (endHold_touches _ (2 * d + 1))) rfl
  exact (hs3 _).trans (foldl (fun y (l : LedgerDue) => ledgerDue_touches y d l.area l.epoch l.chan l.chunk) _ _) rfl

theorem dropBeams_touches (d : Nat) : Touches [.data, .weir] s (dropBeams d s) := by
  unfold dropBeams
  extract_lets x s0 s1
  have hs0 : Touches [.weir] s s0 :=
    ((endHold_touches s (2 * d)).next (endHold_touches _ (2 * d + 1))).report (Touches.count _ .dieBeamBlocksLost d _)
  clear_value s0
  have hs1 : Touches [.data] s0 s1 := of_fields rfl
  clear_value s1
  exact (hs0.trans hs1 rfl (n := [.data, .weir])).trans (of_fields (l := [.weir]) (by exact rfl)) rfl

theorem dropZoom_touches : Touches [.zoom] s (dropZoom s) := of_fields rfl

/-! ### Sluice cores and links -/

theorem coreState_touches (n : Nat) (st : CoreState) : Touches [.sluice] s (coreState n st s) := by
  unfold coreState
  extract_lets c s1 quiet
  have hs1 : Touches [.sluice] s s1 := of_fields rfl
  exact ite (hs1.report (Touches.raise s1 ..)) hs1

theorem sluiceOff_touches : Touches [.sluice, .sessions, .waiting] s (sluiceOff s) := by
  unfold sluiceOff
  refine (foldl (l := [.sluice]) (fun x n => ?_) _ _).after ((Touches.complete _ ..).after (of_fields (l := [.sluice]) (by exact rfl)) rfl
    (n := [.sluice, .sessions, .waiting])) rfl
  have hoff := coreState_touches x n .off
  generalize coreState n .off x = y at hoff
  exact hoff.next (of_fields rfl)

theorem ingressDown_touches (ports : List Nat) : Touches [.ingressLinks] s (ingressDown ports s) := by
  refine foldl (fun x port => ?_) ports s
  split
  · refine ite ?_ (refl x)
    exact ((of_fields (l := [.ingressLinks]) (by exact rfl)).report (Touches.count _ ..)).report (Touches.raise _ ..)
  · exact refl x

theorem setHostLink_down_touches (port : Nat) : Touches [.hostLinks] s (setHostLink port false s) := by
  unfold setHostLink
  extract_lets l l1 s0 src s1
  have hs1 : Touches [.hostLinks] s s1 := of_fields rfl
  exact ite (refl s) (hs1.report (Touches.raise s1 ..))

/-! ### Egress (R241) -/

theorem freeOwner_touches (o : Owner) : Touches [.data, .zoom, .weir] s (freeOwner o s) := by
  cases o with
  | none => exact refl s
  | tiles area region tile => exact refl s
  | beam b => exact of_fields rfl
  | snap n => exact of_fields rfl
  | records n => exact of_fields rfl

theorem countHold_touches (c : Nat) : Touches [.egress] s (countHold s c) := by
  unfold countHold
  split
  · exact refl s
  · split
    · exact refl s
    · exact of_fields rfl

theorem dropWaiting_touches : Touches [.data, .zoom, .weir, .egress] s (dropWaiting s) := by
  unfold dropWaiting
  refine Touches.after (of_fields (l := [.egress]) (by exact rfl)) (foldl (l := [.data, .zoom, .weir]) (fun x pk => ?_) _ s) rfl
  exact (foldl (fun y port => Touches.count y .egressLinkDrop (128 + port) 1) _ x).trans (freeOwner_touches _ pk.owner) rfl

theorem egressDown_touches : Touches [.data, .zoom, .weir, .egress] s (egressDown s) := by
  unfold egressDown
  extract_lets s1 s2 s3
  have hs1 : Touches [.data, .zoom, .weir, .egress] s s1 :=
    (foldl countHold_touches (List.range 16) s).trans (dropWaiting_touches _) rfl
  have hs2 : Touches [.data, .zoom, .weir] s1 s2 := foldl (fun x (u : CompJob) => freeOwner_touches x u.unit.owner) _ s1
  have hs3 : Touches [.data, .zoom, .weir] s2 s3 := by
    refine foldl (fun x c => ?_) _ s2
    split
    · exact freeOwner_touches ..
    · exact refl x
  clear_value s1 s2 s3
  have hall : Touches [.data, .zoom, .weir, .egress] s s3 := hs1.trans (hs2.next hs3) rfl
  exact hall.next (of_fields rfl)

/-! ### Domains -/

/-- The parts of a module that lie behind switched domains. -/
def unitParts : List Part :=
  [.data, .zoom, .weir, .egress, .sluice, .sessions, .waiting, .ingressLinks, .hostLinks]

theorem unitLost_touches (pd : Nat) : Touches unitParts s (unitLost pd s) := by
  unfold unitLost
  refine ite ((foldl (fun x p => polderOff_touches x (pd * 7 + p)) _ s).mono rfl) ?_
  refine ite ((dropDie_touches ..).mono rfl) (ite ((dropBeams_touches ..).mono rfl) (ite ((dropZoom_touches s).mono rfl) ?_))
  refine ite ((sluiceOff_touches s).mono rfl) (ite ((ingressDown_touches ..).mono rfl) (ite ?_ ((egressDown_touches s).mono rfl)))
  exact (setHostLink_down_touches s 0).trans (setHostLink_down_touches _ 1) rfl

theorem switchOff_touches (pd : Nat) : Touches (.power :: unitParts) s (switchOff pd s) := by
  unfold switchOff
  exact ite ((of_fields rfl : Touches [.power] s (setDomain pd .off s)).trans (unitLost_touches _ pd) rfl) (refl s)

/-- A domain that is switched off changes no other domain, and nothing else of power. -/
theorem switchOff_power (pd : Nat) : (switchOff pd s).power = if domain pd s = .on ∨ domain pd s = .waking then
    { s.power with domains := s.power.domains.set pd .off } else s.power := by
  unfold switchOff
  split
  · exact (unitLost_touches _ pd).power rfl
  · rfl

end

end Sys2Proof.Machine
end

section
/-! The power stage, its feeds and the module stop (R529, R532, R539, R565 to R568). -/

namespace Sys2Proof.Machine

open Touches (refl ite of_fields foldl)

/-! ### Freeze and flush (R539, R540) -/

theorem freeze_touches (s : State) : Touches [.faults] s (freeze s) :=
  (Touches.bbWrite s 6 0 0 []).trans (of_fields (l := [.faults]) rfl) rfl

theorem bbFlush_touches (cause : Nat) (s : State) : Touches [.faults] s (bbFlush cause s).2 := by
  unfold bbFlush
  extract_lets erased slot src
  clear_value erased slot
  split
  · exact refl s
  · extract_lets slots erase
    clear_value slots erase
    exact (of_fields (l := [.faults]) (by exact rfl)).report (Touches.count _ ..)

theorem frozen_bbFlush (cause : Nat) (s : State) : (bbFlush cause s).2.fault.frozen = s.fault.frozen := by
  unfold bbFlush
  extract_lets erased slot src
  clear_value erased
  split <;> rfl

theorem freezeFlush_touches (cause : Nat) (s : State) : Touches [.faults] s (freezeFlush cause s) := by
  unfold freezeFlush
  have hflush := bbFlush_touches cause s
  generalize bbFlush cause s = p at hflush
  obtain ⟨slot, s1⟩ := p
  cases slot with
  | none => exact hflush
  | some k => exact ite (hflush.report (Touches.raise ..)) (hflush.next (of_fields rfl))

theorem frozen_freezeFlush (cause : Nat) (s : State) : (freezeFlush cause s).fault.frozen = s.fault.frozen := by
  unfold freezeFlush
  have hflush := frozen_bbFlush cause s
  generalize bbFlush cause s = p at hflush
  obtain ⟨slot, s1⟩ := p
  cases slot with
  | none => exact hflush
  | some k =>
    dsimp only
    split
    · exact ((Touches.raise s1 _ _).frozen rfl).trans hflush
    · exact hflush

/-! ### Domains that go off -/

/-- A domain neither is on nor wakes. -/
def Down (pd : Nat) (s : State) : Prop := domain pd s ≠ .on ∧ domain pd s ≠ .waking

theorem Down.of_power {pd : Nat} {x y : State} (h : Down pd x) (hp : y.power.domains = x.power.domains) : Down pd y := by
  rwa [Down, domain, hp, ← domain]

theorem domain_switchOff_of_ne {pd q : Nat} (h : q ≠ pd) (s : State) : domain q (switchOff pd s) = domain q s := by
  rw [domain, switchOff_power]
  split
  · exact domain_setDomain_of_ne .off s h
  · rfl

theorem domain_switchOff_same {pd : Nat} (h : pd < 40) (s : State) : Down pd (switchOff pd s) := by
  by_cases hon : domain pd s = .on ∨ domain pd s = .waking
  · have hoff : domain pd (switchOff pd s) = .off := by
      rw [domain, switchOff_power, if_pos hon]
      exact domain_setDomain_same pd .off s h
    constructor <;> rw [hoff] <;> exact DomainState.noConfusion
  · have hsame : domain pd (switchOff pd s) = domain pd s := by rw [domain, switchOff_power, if_neg hon, ← domain]
    exact not_or.1 (hsame ▸ hon)

theorem Down.switchOff {q : Nat} (hq : q < 40) {s : State} (h : Down q s) (pd : Nat) : Down q (switchOff pd s) := by
  by_cases hpd : q = pd
  · exact hpd ▸ domain_switchOff_same (hpd ▸ hq) s
  · rwa [Down, domain_switchOff_of_ne hpd]

theorem down_foldl_switchOff {pd : Nat} (hpd : pd < 40) {pds : List Nat} (h : pd ∈ pds) (s : State) :
    Down pd (pds.foldl (fun x pd => switchOff pd x) s) := by
  induction pds generalizing s with
  | nil => exact absurd h List.not_mem_nil
  | cons q pds ih =>
    rcases List.mem_cons.1 h with rfl | hrest
    · exact List.foldlRecOn pds _ (domain_switchOff_same hpd s) fun x hx q _ => hx.switchOff hpd q
    · exact ih hrest _

/-- Domains that are switched off change in power only the domains. -/
theorem foldl_switchOff_power (pds : List Nat) (s : State) :
    ∃ ds, (pds.foldl (fun x pd => switchOff pd x) s).power = { s.power with domains := ds } := by
  refine List.foldlRecOn pds _ (motive := fun x : State => ∃ ds, x.power = { s.power with domains := ds }) ⟨_, rfl⟩ ?_
  rintro x ⟨ds, hx⟩ pd -
  rw [switchOff_power]
  split
  · exact ⟨_, by rw [hx]⟩
  · exact ⟨ds, hx⟩

/-! ### The module stop (R532) -/

theorem moduleStop_touches (f : Fs) (s : State) : Touches (.faults :: .power :: unitParts) s (moduleStop f s) := by
  unfold moduleStop
  extract_lets again s1 pds s2 src s3
  have hs1 : Touches [.faults] s s1 := ite (refl s) (freeze_touches s)
  have hs2 : Touches (.power :: unitParts) s1 s2 := foldl (fun x pd => switchOff_touches x pd) pds s1
  have hs3 : Touches [.power] s2 s3 := of_fields rfl
  have hall : Touches (.faults :: .power :: unitParts) s s3 :=
    (hs1.trans (hs2.trans hs3 rfl (n := .power :: unitParts)) rfl (n := .faults :: .power :: unitParts))
  clear_value again s3
  exact ite hall (hall.trans (freezeFlush_touches _ s3) rfl)

/-- R532, R568, R571: a stop switches domains off, takes READY low and ends the retry of PD38. -/
theorem moduleStop_power (f : Fs) (s : State) : ∃ ds r,
    (moduleStop f s).power = { s.power with domains := ds, readyPin := false, pd38TripAt := r } := by
  unfold moduleStop
  extract_lets again s1 pds s2 src s3
  have hs1 : Touches [.faults] s s1 := ite (refl s) (freeze_touches s)
  obtain ⟨ds, hs2⟩ := foldl_switchOff_power pds s1
  have hs3 : ∃ r, s3.power = { s.power with domains := ds, readyPin := false, pd38TripAt := r } :=
    ⟨if stopsHosts f then none else s2.power.pd38TripAt, (hs1.power rfl) ▸ congrArg (fun p : PowerS =>
      { p with readyPin := false, pd38TripAt := if stopsHosts f then none else s2.power.pd38TripAt }) hs2⟩
  clear_value again s3
  obtain ⟨r, hr⟩ := hs3
  refine ⟨ds, r, ?_⟩
  split
  · exact hr
  · rw [((freezeFlush_touches _ s3).power rfl), hr]

theorem frozen_moduleStop (f : Fs) (s : State) : (moduleStop f s).fault.frozen = true := by
  unfold moduleStop
  extract_lets again s1 pds s2 src s3
  have hs1 : s1.fault.frozen = true := by
    by_cases hagain : again = true
    · rw [show s1 = s from if_pos hagain]
      exact (Bool.and_eq_true_iff.1 hagain).1
    · rw [show s1 = freeze s from if_neg hagain]
      rfl
  have hs2 : s2.fault.frozen = s1.fault.frozen := (foldl (fun x pd => switchOff_touches x pd) pds s1).frozen rfl
  have hs3 : s3.fault.frozen = true := hs2.trans hs1
  clear_value again s3
  split
  · exact hs3
  · rw [frozen_freezeFlush, hs3]

theorem stops_every_domain {f : Fs} (h : stopsHosts f = true) {pd : Nat} (hpd : pd < 40) :
    pd ∈ (if stopsHosts f then stopDomains ++ [38] else stopDomains) := by
  rw [if_pos h]
  have hall : ∀ k : Fin 40, (k : Nat) ∈ stopDomains ++ [38] := by decide
  exact hall ⟨pd, hpd⟩

theorem down_moduleStop {f : Fs} (h : stopsHosts f = true) {pd : Nat} (hpd : pd < 40) (s : State) :
    Down pd (moduleStop f s) := by
  unfold moduleStop
  extract_lets again s1 pds s2 src s3
  have hs2 : Down pd s2 := down_foldl_switchOff hpd (stops_every_domain h hpd) s1
  have hs3 : Down pd s3 := hs2.of_power rfl
  clear_value again s3
  split
  · exact hs3
  · exact hs3.of_power (congrArg PowerS.domains ((freezeFlush_touches _ s3).power rfl) :)

/-! ### What a module-stop source leaves -/

theorem episode_held_of_fire {f : Fs} (h : f.cls = 3) (s : State) : (episode 3 (fire f s)).state = .held := by
  have hfired : (episode 3 (fired f s)).state = .held := by
    unfold fired
    extract_lets src s1 e quiet st
    have hst : st = .held := if_pos h
    clear_value st
    subst hst
    split
    · rw [h]
      exact congrArg Episode.state (episode_setEpisode_same 3 _ s1 (by decide))
    · rw [h]
      exact congrArg Episode.state (episode_setEpisode_same 3 _ s1 (by decide))
    case h_3 hheld => exact h ▸ hheld
  rwa [episode, (fire_eq f s).fault_episodes, ← episode]

/-- R532: the module has stopped on a source: no domain is up, READY is low, its episode is HELD and the black box
frozen. -/
structure Halted (f : Fs) (z : State) : Prop where
  down : ∀ pd < 40, Down pd z
  readyPin : z.power.readyPin = false
  held : (episode 3 z).state = .held
  frozen : z.fault.frozen = true
  sticky : z.fault.sticky.getLsbD f.num = true

theorem Halted.of_reports {f : Fs} {x z : State} (h : Halted f x) (hz : Touches [] x z) : Halted f z := by
  obtain ⟨hdown, hpin, hheld, hfrozen, hsticky⟩ := h
  exact ⟨fun pd hpd => (hdown pd hpd).of_power (congrArg PowerS.domains (hz.power rfl) :), (hz.power rfl).symm ▸ hpin,
    (hz.episode 3 rfl).symm ▸ hheld, (hz.frozen rfl).symm ▸ hfrozen, (hz.sticky rfl).symm ▸ hsticky⟩

theorem fireStop_touches (f : Fs) (s : State) :
    Touches (.sticky :: .episodes :: .faults :: .power :: unitParts) s (fireStop f s) :=
  (Touches.fire s f).trans (moduleStop_touches f _) rfl

theorem halted_fireStop {f : Fs} (hcls : f.cls = 3) (hhosts : stopsHosts f = true) (s : State) :
    Halted f (fireStop f s) := by
  have hstop := moduleStop_touches f (fire f s)
  obtain ⟨ds, r, hpower⟩ := moduleStop_power f (fire f s)
  refine ⟨fun pd hpd => down_moduleStop hhosts hpd _, ?_, ?_, frozen_moduleStop ..,
    (hstop.sticky rfl).symm ▸ sticky_fire_same f s⟩
  · exact (congrArg PowerS.readyPin hpower :)
  · exact (congrArg Episode.state (hstop.episode 3 rfl)).trans (episode_held_of_fire hcls s)

theorem fireStop_power (f : Fs) (s : State) : ∃ ds r,
    (fireStop f s).power = { s.power with domains := ds, readyPin := false, pd38TripAt := r } := by
  obtain ⟨ds, r, h⟩ := moduleStop_power f (fire f s)
  exact ⟨ds, r, by rw [fireStop, h, fire_power]⟩

/-! ### Feeds (R567) -/

theorem feedGood_iff (s : State) : feedGood s = true ↔ ∃ k < 2, (feed k s).state = .good := by
  obtain ⟨l, hsize⟩ : ∃ l : List Feed, s.power.feeds.toList = l ∧ l.length = 2 := ⟨_, rfl, s.power.feeds.size⟩
  have hlist (k : Nat) : feed k s = l.getD k ⟨0, 0, .lostLow, false⟩ := by rw [feed, RegFile.getD, hsize.1]
  obtain ⟨hl, hlen⟩ := hsize
  match l, hlen with
  | [a, b], _ =>
    have ha : feed 0 s = a := hlist 0
    have hb : feed 1 s = b := hlist 1
    rw [feedGood, hl]
    constructor
    · intro h
      rcases Bool.or_eq_true_iff.1 h with h | h
      · exact ⟨0, by decide, ha ▸ eq_of_beq h⟩
      · exact ⟨1, by decide, hb ▸ eq_of_beq (by simpa using h)⟩
    · rintro ⟨k, hk, hgood⟩
      obtain rfl | rfl : k = 0 ∨ k = 1 := by omega
      · simp [← ha, hgood]
      · simp [← hb, hgood]

theorem feedGood_congr {x y : State} (h : y.power.feeds = x.power.feeds) : feedGood y = feedGood x := by
  rw [feedGood, h, feedGood]

theorem feedEvent_touches (k : Nat) (s : State) : Touches [] s (feedEvent k s) :=
  ite (Touches.raise s ..) (refl s)

theorem feedEvent_eq (k : Nat) (s : State) : ReportEq (feedEvent k s) (noteIf (logicRuns s) .feed s) := by
  unfold feedEvent noteIf
  split
  · exact raise_eq ..
  · exact .rfl' s

theorem feedLost_touches (kind : LossKind) (volt : Nat) (s : State) (k : Nat) :
    Touches [.power] s (feedLost kind volt s k) :=
  ite (refl s) (Touches.report (of_fields (l := [.power]) (by exact rfl)) (feedEvent_touches k _))

theorem feedLost_power (kind : LossKind) (volt : Nat) (s : State) (k : Nat) : ∃ fs,
    (feedLost kind volt s k).power = { s.power with feeds := fs } := by
  unfold feedLost
  split
  · exact ⟨_, rfl⟩
  · exact ⟨_, ((feedEvent_touches k _).power rfl)⟩

/-- A feed that is not GOOD stays so when feeds are lost. -/
theorem feedLost_not_good {kind : LossKind} {volt : Nat} {s : State} {k j : Nat} (hk : k < 2)
    (h : (feed j s).state = .good → j = k) : (feed j (feedLost kind volt s k)).state ≠ .good := by
  unfold feedLost
  split
  case isTrue hlost => exact fun hgood => hlost (h hgood ▸ hgood)
  case isFalse hgood =>
    rw [feed, ((feedEvent_touches k _).power rfl), ← feed]
    by_cases hj : j = k
    · rw [hj, feed_setFeed_same _ _ _ hk]
      cases kind <;> exact FeedState.noConfusion
    · rw [feed_setFeed_of_ne _ _ hj]
      exact fun hj' => hj (h hj')

/-- Once every GOOD feed is lost, none is GOOD. -/
theorem foldl_feedLost (kind : LossKind) (volt : Nat) {ks : List Nat} (hks : ∀ k ∈ ks, k < 2) {s : State}
    (h : ∀ k < 2, (feed k s).state = .good → k ∈ ks) : feedGood (ks.foldl (feedLost kind volt) s) = false := by
  induction ks generalizing s with
  | nil =>
    rw [Bool.eq_false_iff, Ne, feedGood_iff]
    exact fun ⟨k, hk, hgood⟩ => List.not_mem_nil (h k hk hgood)
  | cons a ks ih =>
    refine ih (fun k hk => hks k (List.mem_cons_of_mem _ hk)) fun k hk hgood => ?_
    by_contra hnot
    refine feedLost_not_good (hks a List.mem_cons_self) (fun hwas => ?_) hgood
    exact (List.mem_cons.1 (h k hk hwas)).resolve_right hnot

theorem foldl_feedLost_power (kind : LossKind) (volt : Nat) (ks : List Nat) (s : State) : ∃ fs,
    (ks.foldl (feedLost kind volt) s).power = { s.power with feeds := fs } := by
  refine List.foldlRecOn ks _ (motive := fun x : State => ∃ fs, x.power = { s.power with feeds := fs }) ⟨_, rfl⟩ ?_
  rintro x ⟨fs, hx⟩ k -
  obtain ⟨fs', h⟩ := feedLost_power kind volt x k
  exact ⟨fs', by rw [h, hx]⟩

/-- The loss of the last GOOD feed under power is a module stop (R567). -/
theorem loseFeeds_stops {ks : List Nat} (hks : ∀ k ∈ ks, k < 2) (kind : LossKind) (volt : Nat) {x : State}
    (hruns : logicRuns x = true) (hstage : x.power.stageOn = true)
    (hlast : ∀ k < 2, (feed k x).state = .good → k ∈ ks) (hgood : feedGood x = true) :
    ∃ y, loseFeeds ks kind volt x = fireStop .feedBoth y ∧ Touches [.sticky, .episodes, .power] x y ∧
      y.power.holdUpSince = some x.time.now ∧ feedGood y = false := by
  have hhit (k : Nat) : k ∈ ks.filter (fun k => (feed k x).state == .good) ↔ k ∈ ks ∧ (feed k x).state = .good := by
    rw [List.mem_filter, beq_iff_eq]
  obtain ⟨k, hk, hk'⟩ := (feedGood_iff x).1 hgood
  unfold loseFeeds
  extract_lets hit s1 s2 src s3
  have hsome : ¬ hit.isEmpty = true := fun h => by
    have hmem : k ∈ hit := (hhit k).2 ⟨hlast k hk hk', hk'⟩
    rw [List.isEmpty_iff.1 h] at hmem
    exact List.not_mem_nil hmem
  have hs1 : Touches [.power] x s1 := foldl (feedLost_touches kind volt) hit x
  have hs2 : Touches [.sticky, .episodes] s1 s2 := ite (foldl (fun y f => Touches.fire y f) _ s1) (refl s1)
  obtain ⟨fs, hpower⟩ := foldl_feedLost_power kind volt hit x
  have hlost : feedGood s2 = false := by
    rw [feedGood_congr (congrArg PowerS.feeds (hs2.power rfl) :)]
    exact foldl_feedLost kind volt (fun k hk => hks k ((hhit k).1 hk).1) fun k hk hg => (hhit k).2 ⟨hlast k hk hg, hg⟩
  have hon : s2.power.stageOn = true := by rw [(hs2.power rfl), show s1.power = _ from hpower, hstage]
  have hboot : s2.boot = x.boot := (hs2.boot rfl).trans (hs1.boot rfl)
  have hnow : s2.time.now = x.time.now := by rw [(hs2.time rfl), (hs1.time rfl)]
  rw [if_neg hsome, if_neg (by simp [hlost, hon])]
  have hruns3 : logicRuns s3 = true := by rw [logicRuns, show s3.boot = x.boot from hboot]; exact hruns
  rw [if_pos hruns3]
  have hall : Touches [.sticky, .episodes, .power] x s3 := (hs1.trans hs2 rfl (n := [.sticky, .episodes, .power])).trans
    (of_fields (l := [.power]) (by exact rfl)) rfl
  exact ⟨s3, rfl, hall, congrArg some hnow, hlost⟩

/-! ### Sources that fire, beside reports -/

theorem ReportEq.of_fired {x y : State} (h : ReportEq x y) (f : Fs) : ReportEq (fired f x) (fired f y) := by
  have hquiet : x.time.now + secT (par .faultQuietTime f.cls 0 x) = y.time.now + secT (par .faultQuietTime f.cls 0 y) := by
    rw [par, h.force, h.time, par]
  have hepisode : episode f.cls x = episode f.cls y := by rw [episode, h.fault_episodes, episode]
  have hset : ReportEq
      { x with fault := { x.fault with sticky := x.fault.sticky ||| BitVec.ofNat 128 (2 ^ f.num) } }
      { y with fault := { y.fault with sticky := y.fault.sticky ||| BitVec.ofNat 128 (2 ^ f.num) } } :=
    ⟨(congrArg (fun z : State => { z with fault := { z.fault with
      sticky := z.fault.sticky ||| BitVec.ofNat 128 (2 ^ f.num) } }) h.rest :), h.ctr, h.ev⟩
  simp only [fired, hquiet, hepisode]
  split
  · exact (hset.of_setEpisode ..).of_noteEvent _
  · exact hset.of_setEpisode ..
  · exact hset

theorem ReportEq.of_fire {x y : State} (h : ReportEq x y) (f : Fs) : ReportEq (fire f x) (fired f y) :=
  (fire_eq f x).trans (h.of_fired f)


/-! ### The rows of the power stage -/

theorem startStage_eq (s : State) : startStage s = { s with power := { s.power with
    stageOn := s.power.stageOn || (s.power.startWaiting && feedGood s)
    startWaiting := s.power.startWaiting && !feedGood s } } := by
  unfold startStage
  split
  case isTrue h =>
    obtain ⟨_, hgood⟩ := Bool.and_eq_true_iff.1 h
    rw [h, hgood, Bool.or_true, Bool.not_true, Bool.and_false]
  case isFalse h =>
    have hwait : (s.power.startWaiting && !feedGood s) = s.power.startWaiting := by
      cases hw : s.power.startWaiting <;> simp_all
    rw [Bool.eq_false_iff.2 h, Bool.or_false, hwait]

theorem ReportEq.of_startStage {x y : State} (h : ReportEq x y) : ReportEq (startStage x) (startStage y) := by
  have hgood : feedGood x = feedGood y := feedGood_congr (congrArg PowerS.feeds h.power :)
  rw [startStage_eq, startStage_eq, h.power, hgood]
  exact ⟨(congrArg (fun z : State => { z with power := { y.power with
    stageOn := y.power.stageOn || (y.power.startWaiting && feedGood y)
    startWaiting := y.power.startWaiting && !feedGood y } }) h.rest :), h.ctr, h.ev⟩

theorem exec_powerEnRise (t : Nat) (s : State) : exec (.powerEnRise t) s = act t (onlyIf (fun x => !x.power.powerEn)
    fun x => startStage { x with power := { x.power with
      powerEn := true
      startWaiting := !(match x.power.powerEnFell with
        | some t0 => decide (x.time.now < t0 + msT 500)
        | none => false) && !x.power.stageOn } }) s := rfl

theorem exec_feedQualified (t : Nat) (k : Fin 2) (volt : Nat) (s : State) : exec (.feedQualified t k volt) s =
    act t (onlyIf (fun x => (feed k x).state != .good && decide (3850 ≤ volt) && decide (volt ≤ 6100)) fun x =>
      startStage (feedEvent k { x with power := { x.power with
        feeds := x.power.feeds.set k { feed k x with volt := volt, state := .good, carrying := true }
        holdUpSince := none } })) s := rfl

section
variable {x : State}

/-- A rise long after the last fall starts the stage, or lets it wait for a feed. -/
theorem startStage_late (hstage : x.power.stageOn = false)
    (hlate : ∀ t0, x.power.powerEnFell = some t0 → t0 + msT 500 ≤ x.time.now) :
    startStage { x with power := { x.power with
      powerEn := true
      startWaiting := !(match x.power.powerEnFell with
        | some t0 => decide (x.time.now < t0 + msT 500)
        | none => false) && !x.power.stageOn } } =
    { x with power := { x.power with powerEn := true, stageOn := feedGood x, startWaiting := !feedGood x } } := by
  have hsoon : (match x.power.powerEnFell with
      | some t0 => decide (x.time.now < t0 + msT 500)
      | none => false) = false := by
    split
    next t0 hfell => exact decide_eq_false (Nat.not_lt.2 (hlate t0 hfell))
    next => rfl
  rw [hsoon, startStage_eq, hstage]
  rfl

/-- A rise too soon after the fall shows its level only. -/
theorem startStage_soon {t0 : Nat} (hfell : x.power.powerEnFell = some t0) (hsoon : x.time.now < t0 + msT 500) :
    startStage { x with power := { x.power with
      powerEn := true
      startWaiting := !(match x.power.powerEnFell with
        | some t0 => decide (x.time.now < t0 + msT 500)
        | none => false) && !x.power.stageOn } } =
    { x with power := { x.power with powerEn := true, startWaiting := false } } := by
  have hsoon' : (match x.power.powerEnFell with
      | some t0 => decide (x.time.now < t0 + msT 500)
      | none => false) = true := by
    rw [hfell]
    exact decide_eq_true hsoon
  rw [hsoon']
  exact if_neg Bool.false_ne_true

theorem startStage_noteIf (c : Bool) (e : Ev) (x : State) : startStage (noteIf c e x) = noteIf c e (startStage x) := by
  cases c <;> rw [startStage_eq, startStage_eq] <;> rfl

/-- FEED_QUALIFIED: the feed is GOOD, and a stage that waited starts. -/
theorem startStage_qualified {k : Nat} (hk : k < 2) (volt : Nat) (x : State) : let z := { x with power := { x.power with
      feeds := x.power.feeds.set k { feed k x with volt := volt, state := .good, carrying := true }
      holdUpSince := none } }
    ReportEq (startStage (feedEvent k z)) (noteIf (logicRuns x) .feed { z with power := { z.power with
      stageOn := x.power.stageOn || x.power.startWaiting, startWaiting := false } }) := by
  intro z
  have hgood : feedGood z = true := (feedGood_iff z).2 ⟨k, hk, congrArg Feed.state (RegFile.getD_set_same _ _ _ _ hk)⟩
  refine (ReportEq.of_startStage (feedEvent_eq k z)).trans ?_
  have hstart : startStage z = { z with power := { z.power with
      stageOn := x.power.stageOn || x.power.startWaiting, startWaiting := false } } := by
    rw [startStage_eq, hgood, Bool.and_true, Bool.not_true, Bool.and_false]
  rw [startStage_noteIf, hstart]
  exact .rfl' _

theorem qualifies {k volt : Nat} (hgood : (feed k x).state ≠ .good) (hlow : 3850 ≤ volt) (hhigh : volt ≤ 6100) :
    ((feed k x).state != .good && decide (3850 ≤ volt) && decide (volt ≤ 6100)) = true := by
  simp [hgood, hlow, hhigh]

end

/-- FEED_LOSS of one feed while the other is GOOD (R567). -/
theorem loseFeeds_one {k j : Nat} (hj : j < 2) (hne : j ≠ k) (kind : LossKind) (volt : Nat) {x : State}
    (hgood : (feed k x).state = .good) (hother : (feed j x).state = .good) :
    let y := setFeed k ⟨volt, 0, kind.feedState, false⟩ x
    ReportEq (loseFeeds [k] kind volt x) (if logicRuns x then fired .feedLoss (noteEvent .feed y) else y) := by
  intro y
  have hhit : [k].filter (fun k => (feed k x).state == .good) = [k] := by simp [hgood]
  have hlost : feedLost kind volt x k = feedEvent k y := if_neg (not_not_intro hgood)
  have hevent : ReportEq (feedEvent k y) (noteIf (logicRuns x) .feed y) := feedEvent_eq k y
  have hleft (z : State) (hz : z.power = y.power) : feedGood z = true :=
    (feedGood_iff z).2 ⟨j, hj, by rw [feed, hz, ← feed, feed_setFeed_of_ne _ _ hne, hother]⟩
  have hpower := (feedEvent_touches k y).power rfl
  have hruns : logicRuns (feedEvent k y) = logicRuns x := by rw [logicRuns, ((feedEvent_touches k y).boot rfl)]; rfl
  unfold loseFeeds
  extract_lets hit s1 s2 src s3
  have hs1 : s1 = feedEvent k y := hlost ▸ congrArg (List.foldl (feedLost kind volt) x) hhit
  have hsome : ¬ hit.isEmpty = true := by rw [show hit = [k] from hhit]; exact Bool.false_ne_true
  have hfire : s2 = if logicRuns s1 then fire .feedLoss s1 else s1 :=
    congrArg (fun l : List Nat => if logicRuns s1 then fireAll (l.map fun _ => .feedLoss) s1 else s1) hhit
  have hs2 : Touches [.sticky, .episodes] s1 s2 := hfire ▸ ite (Touches.fire s1 _) (refl s1)
  rw [if_neg hsome, if_pos (.inl (hleft s2 ((hs2.power rfl).trans (hs1 ▸ hpower)))), hfire, hs1, hruns]
  cases hlogic : logicRuns x <;> rw [hlogic] at hevent
  · exact hevent
  · exact hevent.of_fire .feedLoss

/-- Settles O8. -/
theorem powerStageStartsAndFeeds : Obligations.PowerStageStartsAndFeeds := by
  refine ⟨fun t s => fun hen hstage hlate => ?rise, fun t t0 s => fun hen hstage hfell hsoon => ?soon,
    fun t k volt s => fun hgood hlow hhigh => ?good, fun t which kind volt s => fun hone hgood hother => ?lost⟩
  case rise =>
    refine does_onlyIf (exec_powerEnRise t s) (congrArg not hen :) ?_
    exact startStage_late hstage hlate ▸ .rfl' _
  case soon =>
    refine does_onlyIf (exec_powerEnRise t s) (congrArg not hen :) ?_
    exact startStage_soon hfell hsoon ▸ .rfl' _
  case good =>
    refine does_onlyIf (exec_feedQualified t k volt s) (qualifies hgood hlow hhigh) ?_
    exact startStage_qualified k.isLt volt (advance t s)
  case lost =>
    have hks : (if which.val = 2 then [0, 1] else [which.val]) = [which.val] := if_neg (Nat.ne_of_lt hone)
    refine does_act (show exec (.feedLoss t which kind volt) s = act t
      (loseFeeds (if which.val = 2 then [0, 1] else [which.val]) kind volt) s from rfl) ?_
    rw [hks]
    exact loseFeeds_one (by omega) (by omega) kind volt hgood hother

/-- What a module-stop source leaves, as the statement lists it. -/
theorem halted_settle_fireStop {f : Fs} (hcls : f.cls = 3) (hhosts : stopsHosts f = true) {x y : State}
    (h : Touches [.sticky, .episodes, .power] x y) : let z := settle (fireStop f y)
    (∀ pd < 40, domain pd z ≠ .on ∧ domain pd z ≠ .waking) ∧ z.power.readyPin = false ∧
      (episode 3 z).state = .held ∧ z.fault.frozen = true ∧ z.fault.sticky.getLsbD f.num = true ∧
      z.boot = x.boot ∧ z.mem = x.mem ∧ z.time = x.time := by
  intro z
  obtain ⟨hdown, hpin, hheld, hfrozen, hsticky⟩ := (halted_fireStop hcls hhosts y).of_reports (Touches.settle _)
  have hz : Touches (.sticky :: .episodes :: .faults :: .power :: unitParts) x z :=
    h.trans ((fireStop_touches f y).report (Touches.settle _)) rfl
  exact ⟨hdown, hpin, hheld, hfrozen, hsticky, (hz.boot rfl), (hz.mem rfl), (hz.time rfl)⟩

theorem exec_feedLoss (t : Nat) (which : Fin 3) (kind : LossKind) (volt : Nat) (s : State) :
    exec (.feedLoss t which kind volt) s =
      act t (loseFeeds (if which.val = 2 then [0, 1] else [which.val]) kind volt) s := rfl

theorem exec_tempThreshold (t : Nat) (d : Fin 5) (crit : Bool) (temp : Nat) (s : State) :
    exec (.tempThreshold t d crit temp) s = act t (onlyIf (fun x => logicRuns x &&
      decide ((if crit then 0x42E60000 else 0x42C80000) < temp) && decide (temp < 0x7F800000)) fun x =>
        if crit then fireStop .tempCrit { x with power := { x.power with temps := x.power.temps.set d temp } }
        else fire .tempWarn { x with power := { x.power with temps := x.power.temps.set d temp } }) s := rfl

/-- Settles O10: each source leads to `fireStop`, whose effect is `halted_fireStop`. -/
theorem moduleStopReleasesReady : Obligations.ModuleStopReleasesReady := by
  refine ⟨fun t which kind volt s => fun hruns hstage hlast hgood => ?feeds, fun t s => fun hruns => ?report,
    fun t kind s => fun hruns => ?fault, fun t d temp s => fun hruns hlow hhigh => ?crit,
    fun t d temp s => fun hruns hlow hhigh => ?warn⟩
  case feeds =>
    have hks : ∀ k ∈ (if which.val = 2 then [0, 1] else [which.val]), k < 2 := by
      split
      · decide
      · simp only [List.mem_singleton]
        omega
    have hall : ∀ k < 2, (feed k (advance t s)).state = .good → k ∈ (if which.val = 2 then [0, 1] else [which.val]) := by
      intro k hk hlive
      split
      · simp only [List.mem_cons, List.not_mem_nil, or_false]
        omega
      case isFalse hone => exact List.mem_singleton.2 ((hlast k hk hlive).resolve_right hone)
    obtain ⟨y, hy, htouch, hsince, hdead⟩ := loseFeeds_stops hks kind volt hruns hstage hall hgood
    refine leads_act (exec_feedLoss ..) ?_
    rw [hy]
    obtain ⟨ds, r, hpower⟩ := fireStop_power .feedBoth y
    refine ⟨halted_settle_fireStop rfl rfl htouch, ?_, ?_⟩
    · rw [settle_power, hpower]
      exact hsince
    · exact (feedGood_congr (by rw [settle_power, hpower])).trans hdead
  case report => exact leads_onlyIf (f := fireStop .powerStage) rfl hruns (halted_settle_fireStop rfl rfl (refl _))
  case fault => exact leads_onlyIf (f := fireStop .powerStage) rfl hruns (halted_settle_fireStop rfl rfl (refl _))
  case crit =>
    refine leads_onlyIf (exec_tempThreshold ..)
      (Bool.and_eq_true_iff.2 ⟨Bool.and_eq_true_iff.2 ⟨hruns, decide_eq_true hlow⟩, decide_eq_true hhigh⟩) ?_
    refine ⟨halted_settle_fireStop rfl rfl (of_fields rfl), ?_⟩
    rw [if_pos rfl]
    obtain ⟨ds, r, hpower⟩ := fireStop_power .tempCrit { advance t s with
      power := { (advance t s).power with temps := (advance t s).power.temps.set d temp } }
    rw [settle_power, hpower]
    exact RegFile.getD_set_same _ _ _ _ (by omega)
  case warn =>
    exact does_onlyIf (exec_tempThreshold ..)
      (Bool.and_eq_true_iff.2 ⟨Bool.and_eq_true_iff.2 ⟨hruns, decide_eq_true hlow⟩, decide_eq_true hhigh⟩) (fire_eq ..)

end Sys2Proof.Machine
end

section
/-! What readmission, detectors, gates and weir engines touch (R164, R191, R214 to R218, R308, R549). -/

namespace Sys2Proof.Machine

open Touches (refl ite of_fields foldl)

section
variable (s : State)

/-! ### Capacity and readmission (R308, R545 to R549) -/

theorem raiseCapacity_touches (unit st : Nat) (ring : Option Nat) : Touches [] s (raiseCapacity unit st ring s) :=
  Touches.raise s ..

theorem readmit_touches : Touches [.plan] s (readmit s) := by
  unfold readmit
  split
  · exact refl s
  · extract_lets base a s1 b
    have hs1 : Touches [] s s1 := Touches.raiseBytes s ..
    clear_value s1
    split
    · exact (hs1.report (Touches.raise s1 ..)).mono rfl
    · extract_lets j due
      clear_value due
      exact ite (hs1.mono rfl) (hs1.trans (of_fields (l := [.plan]) (by exact rfl)) rfl)

theorem capacityChanged_touches (unit st : Nat) (ring : Option Nat) :
    Touches [.plan] s (capacityChanged unit st ring s) :=
  (raiseCapacity_touches s unit st ring).trans (readmit_touches _) rfl

theorem setDie_touches (d : Nat) (x : Die) : Touches [.data] s (setDie d x s) := of_fields rfl

theorem stopDie_touches (d : Nat) :
    Touches (.sticky :: .episodes :: .stopped :: .plan :: .power :: unitParts) s (stopDie d s) := by
  unfold stopDie
  extract_lets src s1 s2 s3
  have hs1 : Touches (.sticky :: .episodes :: .stopped :: .power :: unitParts) s s1 :=
    (setDie_touches s d _).trans (Touches.fire _ _) rfl
  have hs2 : Touches [.stopped] s1 s2 := Touches.stopFunction s1 3 d
  have hs3 : Touches (.power :: unitParts) s2 s3 :=
    ite ((dropDie_touches s2 d).mono rfl) ((dropDie_touches s2 d).trans (switchOff_touches _ _) rfl)
  exact ite (refl s) (((hs1.trans (hs2.trans hs3 rfl (n := .stopped :: .power :: unitParts)) rfl
    (n := .sticky :: .episodes :: .stopped :: .power :: unitParts))).trans (capacityChanged_touches s3 ..) rfl)

/-- What may change when a ring leaves service. -/
def ringParts : List Part := .sticky :: .episodes :: .stopped :: .plan :: .power :: unitParts

theorem ringLost_touches (ring : Nat) : Touches ringParts s (ringLost ring s) := by
  unfold ringLost
  extract_lets s1
  have hs1 : Touches [.plan] s s1 := capacityChanged_touches s ..
  clear_value s1
  exact ite (hs1.trans (stopDie_touches s1 _) rfl) (hs1.mono rfl)

theorem dropReinit_touches (pd : Nat) : Touches [.power, .sessions, .waiting] s (dropReinit pd s) :=
  ite ((of_fields (l := [.power]) (by exact rfl)).trans (Touches.complete _ ..) rfl) (refl s)

/-! ### Packets (R232) -/

theorem formPacket_touches (h : Head) (x : Piece) (flags : Nat) (owner : Owner) (eoi chainEnd : Option Nat) :
    Touches [.egress] s (formPacket h x flags owner eoi chainEnd s) := by
  unfold formPacket
  extract_lets q all pk
  clear_value pk
  exact of_fields rfl

theorem formPieces_touches (u : EUnit) (l : List Piece) : Touches [.egress] s (formPieces u l s) := by
  induction l generalizing s with
  | nil => exact refl s
  | cons x l ih =>
    cases l with
    | nil => exact formPacket_touches s ..
    | cons y r => exact (formPacket_touches s ..).next (ih _)

theorem unitReady_touches (u : EUnit) : Touches [.egress] s (unitReady u s) :=
  ite (refl s) (ite (of_fields rfl) (formPieces_touches s ..))

/-! ### Gates and detectors (R214 to R218) -/

theorem drive_touches (n : Nat) (level : Bool) (at_ : Nat) : Touches [.outs] s (drive n level at_ s) :=
  ite (refl s) ((of_fields (l := [.outs]) (by exact rfl)).report (Touches.emit _ _))

theorem setOut_touches (n : Nat) (o : Out) : Touches [.outs] s (setOut n o s) := of_fields rfl

theorem gateAssert_touches (o due : Nat) : Touches [.outs] s (gateAssert o due s) := by
  unfold gateAssert
  extract_lets x keep s1
  have hs1 : Touches [] s s1 := ite (refl s) (Touches.count s ..)
  clear_value keep s1
  exact ite (hs1.trans ((setOut_touches s1 o _).next (drive_touches _ ..)) rfl) (setOut_touches s o _)

theorem gateDeassert_touches (o due : Nat) : Touches [.outs] s (gateDeassert o due s) := by
  unfold gateDeassert
  extract_lets x s1
  have hs1 : Touches [] s s1 := ite (Touches.count s ..) (refl s)
  clear_value s1
  exact ite (hs1.trans ((setOut_touches s1 o _).next (drive_touches _ ..)) rfl) (setOut_touches s o _)

theorem gateLeave_touches (tide o : Nat) : Touches [.outs] s (gateLeave tide s o) := by
  unfold gateLeave
  extract_lets x n src s1
  have hs1 : Touches [.outs] s s1 := setOut_touches s o _
  clear_value s1
  exact ite (refl s) (ite (hs1.next (gateDeassert_touches s1 ..)) hs1)

theorem gateRecord_touches (w was new tide o : Nat) : Touches [.outs] s (gateRecord w was new tide s o) := by
  unfold gateRecord
  extract_lets x a b
  exact ite (refl s) (ite (refl s) (ite ((setOut_touches s o _).next (gateAssert_touches _ ..))
    (gateLeave_touches s tide o)))

theorem formEvents_touches : Touches [.zoom, .egress] s (formEvents s) := by
  unfold formEvents
  extract_lets l end_ flags
  exact ite (refl s) ((of_fields (l := [.zoom]) (by exact rfl)).trans (formPacket_touches _ ..) rfl)

theorem setWin_touches (w : Nat) (x : ZWin) : Touches [.zoom] s (setWin w x s) := of_fields rfl

theorem setDet_touches (w kind index : Nat) (x : Det) : Touches [.zoom] s (setDet w kind index x s) :=
  setWin_touches s w _

/-- What an evaluated average may change. -/
def detParts : List Part := [.zoom, .egress, .outs]

theorem produceRecord_touches (w kind index was new : Nat) (skipped : Bool) (end_ value : Nat) :
    Touches detParts s (produceRecord w kind index was new skipped end_ value s) := by
  unfold produceRecord
  extract_lets x tide r s1 src x1 s2
  have hs1 : Touches [.zoom] s s1 := (setWin_touches s w _).report (Touches.count _ ..)
  have hx1 : Touches [.zoom] s1 x1 := (of_fields (l := [.zoom]) (by exact rfl)).report (Touches.raiseBytes _ ..)
  have hs2 : Touches [.zoom, .egress] s1 s2 :=
    ite ((of_fields (l := [.zoom, .egress]) (by exact rfl)).report (Touches.count _ ..))
      (ite (hx1.trans (formEvents_touches x1) rfl) (hx1.mono rfl))
  clear_value s1 x1 s2
  exact (hs1.trans hs2 rfl (n := detParts)).trans (foldl (fun y o => gateRecord_touches y ..) _ s2) rfl

theorem detAverage_touches (p : Plan) (w kind index : Nat) (skip : Bool) (value end_ : Nat) :
    Touches detParts s (detAverage p w kind index skip value end_ s) := by
  unfold detAverage
  extract_lets d new
  refine ite ((setDet_touches s ..).trans (Touches.count _ ..) rfl) (ite ((setDet_touches s ..).mono rfl) ?_)
  exact ite ((setDet_touches s ..).mono rfl) ((setDet_touches s ..).trans (produceRecord_touches _ ..) rfl)

theorem evalAvg_touches (a : Avg) : Touches detParts s (evalAvg s a) := by
  unfold evalAvg
  split
  · exact detAverage_touches s ..
  · exact refl s

theorem releaseAvgs_touches (l : List Avg) : Touches detParts s (releaseAvgs l s) := by
  induction l generalizing s with
  | nil => exact of_fields rfl
  | cons a r ih => exact ite (of_fields rfl) ((evalAvg_touches s a).next (ih _))

theorem takeAvgs_touches (l : List Avg) : Touches detParts s (takeAvgs l s) := releaseAvgs_touches s _

theorem flushAvgs_touches (w : Nat) : Touches detParts s (flushAvgs w s) :=
  (of_fields (l := detParts) (by exact rfl)).next (foldl evalAvg_touches _ _)

theorem feedBeam_touches (p : Plan) (x : BeamFeed) : Touches [.zoom] s (feedBeam p s x) := setDet_touches s ..

theorem concludeBeams_touches (p : Plan) (w : Nat) : Touches detParts s (concludeBeams p s w) :=
  foldl (fun x _ => ite (refl x) ((setDet_touches x ..).trans (takeAvgs_touches _ _) rfl)) _ s

theorem beamsGoOn_touches : Touches detParts s (beamsGoOn s) := by
  refine ite (refl s) ((takeAvgs_touches s _).next (foldl (fun x w => ?_) _ _))
  split
  · exact concludeBeams_touches x ..
  · exact refl x

theorem restartDets_touches (w at_ : Nat) (keep : Nat → Bool) : Touches detParts s (restartDets w at_ keep s) := by
  unfold restartDets
  extract_lets s1 x
  have hs1 : Touches detParts s s1 := flushAvgs_touches s w
  clear_value s1 x
  refine (hs1.trans (setWin_touches s1 w _) rfl (n := detParts)).trans (foldl (fun y o => gateLeave_touches y _ o) _ _) rfl

theorem restartBeamDets_touches (p : Plan) (w : Nat) : Touches detParts s (restartBeamDets p s w) :=
  ite (refl s) ((setWin_touches s w _).trans (restartDets_touches _ ..) rfl)

/-! ### Weir engines (R164, R179, R191) -/

theorem culvertErrors_touches (d slot : Nat) (keys : List Nat) (corrected : Nat) :
    Touches [.data, .sticky, .episodes] s (culvertErrors d slot keys corrected s) := by
  refine (Touches.count s ..).trans (foldl (l := [.data, .sticky, .episodes]) (fun x key => ?_) keys _) rfl
  extract_lets y v
  split
  · exact refl x
  · extract_lets y1
    exact ((setDie_touches x d _).report (Touches.count _ ..)).trans (Touches.fire _ _) rfl

theorem setBanksOf_touches (p : Plan) (l : RegFile Bank 2) : Touches [.weir] s (setBanksOf p l s) := ite (of_fields rfl) (of_fields rfl)

theorem epochInForce_touches (p : Plan) (r : Running) : Touches [.weir] s (epochInForce p r s) := by
  unfold epochInForce
  extract_lets l
  split
  · exact refl s
  · extract_lets e l1
    exact ((setBanksOf_touches s p l1).report (Touches.count _ ..)).report (Touches.raise _ ..)

theorem countBeam_touches (p : Plan) (chunk : Nat) (m : BeamMade) : Touches [.weir] s (countBeam p chunk s m) := by
  unfold countBeam
  extract_lets b s1 first old
  have hs1 : Touches [] s s1 := ((Touches.count s ..).report (Touches.count _ ..)).report (Touches.count _ ..)
  clear_value s1
  exact ite (hs1.mono rfl) (hs1.trans (of_fields (l := [.weir]) (by exact rfl)) rfl)

theorem mapRun_touches (d slot : Nat) (f : Running → Running) : Touches [.data] s (mapRun d slot f s) :=
  setDie_touches s d _

/-- What an engine that begins a block may change. -/
def engineParts : List Part := [.data, .weir, .sticky, .episodes, .zoom, .egress, .outs]

theorem engineBegin_touches (d e : Nat) (r : Running) (p : Plan) : Touches engineParts s (engineBegin d e r p s) := by
  unfold engineBegin
  extract_lets src s1 found s2 v made s3 s4 blk outs rest src2 s5 wins s6
  have hs1 : Touches [.weir] s s1 := (of_fields (l := [.weir]) (by exact rfl)).next (endHold_touches _ _)
  have hs2 : Touches [.data, .weir, .sticky, .episodes] s1 s2 :=
    (culvertErrors_touches s1 ..).trans (epochInForce_touches _ p r) rfl
  have hs3 : Touches [.weir] s2 s3 := foldl (countBeam_touches · p r.chunk) made s2
  have hs4 : Touches [.data] s3 s4 := mapRun_touches s3 ..
  clear_value s1 s2 s3 s4 blk outs rest
  have hs5 : Touches engineParts s s5 := by
    refine (hs1.trans hs2 rfl (n := engineParts)).next ?_
    exact (hs3.trans hs4 rfl (n := engineParts)).next (of_fields rfl)
  have hs6 : Touches detParts s5 s6 := foldl (restartBeamDets_touches · p) wins s5
  clear_value s5 s6
  refine ite hs5 (hs5.trans ?_ rfl (m := detParts))
  exact (hs6.trans (foldl (feedBeam_touches · p) _ s6) rfl (n := detParts)).next (foldl (concludeBeams_touches · p) wins _)

theorem engineTry_touches (d e : Nat) : Touches engineParts s (engineTry d e s) := by
  unfold engineTry
  extract_lets x
  refine ite (refl s) ?_
  split
  · exact refl s
  · split
    · exact refl s
    · exact ite (engineBegin_touches s ..) (of_fields rfl)

theorem packetiseBlock_touches (k : BeamBlock) : Touches [.weir, .egress] s (packetiseBlock s k) := by
  unfold packetiseBlock
  split
  · exact refl s
  · extract_lets buf units bufs src s1
    have hs1 : Touches [.weir] s s1 := of_fields rfl
    clear_value s1
    exact ite (refl s) (hs1.trans (foldl (fun x u => unitReady_touches x u) units s1) rfl)

theorem weirPump_touches : Touches engineParts s (weirPump s) :=
  Touches.trans (foldl packetiseBlock_touches s.weir.blocks s) (foldl (fun x _ => engineTry_touches x _ _) _ _) rfl

end

end Sys2Proof.Machine
end

section
/-! Domains that trip, wake and retry (R454, R569, R571). -/

namespace Sys2Proof.Machine

open Touches (refl ite of_fields foldl)

/-! ### Domains that only go off -/

/-- Power changes in its domains alone, and there each is as it was or has gone off without being TRIPPED; sticky bits
stay. -/
structure Dims (x z : State) : Prop where
  power : ∃ ds, z.power = { x.power with domains := ds }
  domain : ∀ q, domain q z = domain q x ∨ domain q z = .off ∧ domain q x ≠ .tripped
  sticky : ∀ k, x.fault.sticky.getLsbD k = true → z.fault.sticky.getLsbD k = true

namespace Dims

variable {x y z : State}

theorem of_power (h : z.power = x.power)
    (hsticky : ∀ k, x.fault.sticky.getLsbD k = true → z.fault.sticky.getLsbD k = true) : Dims x z :=
  ⟨⟨x.power.domains, h⟩, fun q => .inl (by rw [Machine.domain, h, ← Machine.domain]), hsticky⟩

theorem refl (x : State) : Dims x x := of_power rfl fun _ => id

theorem trans (h : Dims x y) (h' : Dims y z) : Dims x z := by
  obtain ⟨ds, hy⟩ := h.power
  obtain ⟨ds', hz⟩ := h'.power
  refine ⟨⟨ds', by rw [hz, hy]⟩, fun q => ?_, fun k hk => h'.sticky k (h.sticky k hk)⟩
  rcases h'.domain q with hq | ⟨hq, hwas⟩ <;> rcases h.domain q with hq' | ⟨hq', hwas'⟩
  · exact .inl (hq.trans hq')
  · exact .inr ⟨hq.trans hq', hwas'⟩
  · exact .inr ⟨hq, hq' ▸ hwas⟩
  · exact .inr ⟨hq, hwas'⟩

theorem of_touches {l : List Part} (h : Touches l x z) (hl : (Part.listed .power l || Part.listed .sticky l) = false) :
    Dims x z :=
  of_power (h.power (Bool.or_eq_false_iff.1 hl).1) fun _ hk => (h.sticky (Bool.or_eq_false_iff.1 hl).2).symm ▸ hk

theorem fire (f : Fs) (s : State) : Dims s (Machine.fire f s) :=
  of_power (fire_power f s) fun _ => sticky_fire_of_set

theorem foldl {α : Type} {f : State → α → State} (hf : ∀ s a, Dims s (f s a)) (l : List α) (s : State) :
    Dims s (l.foldl f s) :=
  l.foldlRecOn f (refl s) fun y h a _ => h.trans (hf y a)

theorem switchOff (pd : Nat) (s : State) : Dims s (Machine.switchOff pd s) := by
  obtain ⟨ds, hpower⟩ := foldl_switchOff_power [pd] s
  refine ⟨⟨ds, hpower⟩, fun q => ?_, fun k hk => ((switchOff_touches s pd).sticky rfl).symm ▸ hk⟩
  by_cases hq : q = pd
  · subst hq
    rw [Machine.domain, switchOff_power]
    split
    case isTrue hup =>
      by_cases hlt : q < 40
      · exact .inr ⟨domain_setDomain_same q .off s hlt, by
          rcases hup with h | h <;> rw [h] <;> exact DomainState.noConfusion⟩
      · exact .inl ((RegFile.getD_set ..).trans (if_neg fun h => hlt h.2))
    case isFalse => exact .inl rfl
  · exact .inl (domain_switchOff_of_ne hq s)

end Dims

theorem stopDie_dims (d : Nat) (s : State) : Dims s (stopDie d s) := by
  unfold stopDie
  extract_lets src s1 s2 s3
  have hs2 : Dims s s2 := ((Dims.of_touches (setDie_touches s d _) rfl).trans (.fire _ _)).trans
    (.of_touches (Touches.stopFunction _ 3 d) rfl)
  have hs3 : Dims s2 s3 := by
    change Dims s2 (if _ then _ else _)
    split
    · exact .of_touches (dropDie_touches s2 d) rfl
    · exact (Dims.of_touches (dropDie_touches s2 d) rfl).trans (.switchOff _ _)
  split
  · exact .refl s
  · exact (hs2.trans hs3).trans (.of_touches (capacityChanged_touches s3 ..) rfl)

theorem ringLost_dims (ring : Nat) (s : State) : Dims s (ringLost ring s) := by
  unfold ringLost
  extract_lets s1
  have hs1 : Dims s s1 := .of_touches (capacityChanged_touches s ..) rfl
  split
  · exact hs1.trans (stopDie_dims _ s1)
  · exact hs1

/-! ### DOMAIN_TRIP (R569, R571) -/

/-- A domain that trips, its unit lost and FS_DOMAIN fired. -/
def tripped (pd : Nat) (s : State) : State := fire .domain (unitLost pd (setDomain pd .tripped (dropReinit pd s)))

/-- What a trip brings about after that. -/
def afterTrip (pd : Nat) (engines : List Nat) (s : State) : State :=
  if pd < 24 then stopFunction 2 pd (ringLost pd s)
  else if pd < 28 then stopDie (pd - 24) s
  else if pd < 32 then
    readmit (engines.foldl (fun x e => raiseCapacity (0x48 + e) 1 none x) (fire .weirPair (stopFunction 4 (pd - 28) s)))
  else if pd = 32 then readmit (stopFunction 5 0 s)
  else if pd = 33 then stopFunction 6 0 s
  else if pd < 38 then stopFunction 1 (pd - 34) s
  else if pd = 38 then
    stopFunction 7 0 { s with power := { s.power with
      pd38Trips := s.power.pd38Trips + 1
      pd38TripAt := if s.power.pd38Trips + 1 = 1 then some s.time.now else none } }
  else stopFunction 8 0 s

theorem domainTrip_of_up {pd : Nat} {s : State} (h : domain pd s = .on ∨ domain pd s = .waking) : ∃ engines,
    domainTrip pd s = afterTrip pd engines (tripped pd s) := by
  have hup : ¬ (domain pd s = .off ∨ domain pd s = .tripped) := by rcases h with h | h <;> simp [h]
  exact ⟨_, if_neg hup⟩

theorem domainTrip_of_down {pd : Nat} {s : State} (h : domain pd s = .off ∨ domain pd s = .tripped) :
    domainTrip pd s = s := if_pos h

/-- What a trip may change. -/
def tripParts : List Part := .sticky :: .episodes :: .stopped :: .plan :: .power :: unitParts

theorem dropReinit_domain (pd : Nat) (s : State) : (dropReinit pd s).power.domains = s.power.domains ∧
    (dropReinit pd s).power.pd38Trips = s.power.pd38Trips := by
  unfold dropReinit
  split
  · rw [((Touches.complete _ ..).power rfl)]
    exact ⟨rfl, rfl⟩
  · exact ⟨rfl, rfl⟩

theorem tripped_touches (pd : Nat) (s : State) : Touches tripParts s (tripped pd s) := by
  have hdrop : Touches [.power, .sessions, .waiting] s (setDomain pd .tripped (dropReinit pd s)) :=
    (dropReinit_touches s pd).trans (of_fields (l := [.power]) (by exact rfl)) rfl
  exact (hdrop.trans (unitLost_touches _ pd) rfl (n := .power :: unitParts)).trans (Touches.fire _ _) rfl

theorem tripped_power (pd : Nat) (s : State) :
    (tripped pd s).power = (setDomain pd .tripped (dropReinit pd s)).power :=
  (fire_power ..).trans ((unitLost_touches _ pd).power rfl)

theorem domain_tripped {pd : Nat} (hpd : pd < 40) (s : State) : domain pd (tripped pd s) = .tripped ∧
    ∀ q, q ≠ pd → domain q (tripped pd s) = domain q s := by
  obtain ⟨hdomains, _⟩ := dropReinit_domain pd s
  refine ⟨?_, fun q hq => ?_⟩
  · rw [domain, tripped_power]
    exact domain_setDomain_same pd .tripped _ hpd
  · rw [domain, tripped_power]
    exact (domain_setDomain_of_ne .tripped _ hq).trans (by rw [domain, hdomains, ← domain])

theorem pd38Trips_tripped (pd : Nat) (s : State) : (tripped pd s).power.pd38Trips = s.power.pd38Trips := by
  rw [tripped_power]
  exact (dropReinit_domain pd s).2

theorem afterTrip_touches (pd : Nat) (engines : List Nat) (s : State) :
    Touches tripParts s (afterTrip pd engines s) := by
  refine ite ((ringLost_touches s pd).trans (Touches.stopFunction _ ..) rfl) (ite ((stopDie_touches s _).mono rfl) ?_)
  refine ite ?_ (ite ((Touches.stopFunction s ..).trans (readmit_touches _) rfl) ?_)
  · exact Touches.trans (((Touches.stopFunction s ..).trans (Touches.fire _ _) rfl (n := tripParts)).report
      (foldl (fun x e => raiseCapacity_touches x ..) engines _)) (readmit_touches _) rfl
  · refine ite ((Touches.stopFunction s ..).mono rfl) (ite ((Touches.stopFunction s ..).mono rfl) (ite ?_ ((Touches.stopFunction s ..).mono rfl)))
    exact (of_fields (l := [.power]) (by exact rfl)).trans (Touches.stopFunction _ ..) rfl

theorem afterTrip_dims {pd : Nat} (hpd : pd ≠ 38) (engines : List Nat) (s : State) :
    Dims s (afterTrip pd engines s) := by
  have hstop (fn inst : Nat) (x : State) : Dims x (stopFunction fn inst x) := .of_touches (Touches.stopFunction x fn inst) rfl
  have hreadmit (x : State) : Dims x (readmit x) := .of_touches (readmit_touches x) rfl
  unfold afterTrip
  rw [if_neg hpd]
  split
  · exact (ringLost_dims pd s).trans (hstop ..)
  · split
    · exact stopDie_dims _ s
    · split
      · exact (((hstop ..).trans (.fire _ _)).trans
          (.foldl (fun x e => .of_touches (raiseCapacity_touches x ..) rfl) engines _)).trans (hreadmit _)
      · split
        · exact (hstop ..).trans (hreadmit _)
        · split
          · exact hstop ..
          · split <;> exact hstop ..

theorem afterTrip_hosts (engines : List Nat) (s : State) : afterTrip 38 engines s =
    stopFunction 7 0 { s with power := { s.power with
      pd38Trips := s.power.pd38Trips + 1
      pd38TripAt := if s.power.pd38Trips + 1 = 1 then some s.time.now else none } } := rfl

/-- What a trip leaves (R569, R571). -/
theorem domainTrip_trips {pd : Nat} (hpd : pd < 40) {s : State} (hup : domain pd s = .on ∨ domain pd s = .waking) :
    let z := domainTrip pd s
    domain pd z = .tripped ∧ z.fault.sticky.getLsbD Fs.domain.num = true ∧
      (∀ q < 40, q ≠ pd → domain q z = domain q s ∨ domain q z = .off) ∧ Touches tripParts s z ∧
      (pd = 38 → z.power.pd38Trips = s.power.pd38Trips + 1) := by
  intro z
  obtain ⟨engines, hz⟩ : ∃ engines, z = afterTrip pd engines (tripped pd s) := domainTrip_of_up hup
  obtain ⟨hself, hothers⟩ := domain_tripped hpd s
  have htouch : Touches tripParts s z := hz ▸ (tripped_touches pd s).next (afterTrip_touches pd engines _)
  have hsticky : (tripped pd s).fault.sticky.getLsbD Fs.domain.num = true := sticky_fire_same ..
  by_cases h38 : pd = 38
  · subst h38
    rw [afterTrip_hosts] at hz
    have hdomain (q : Nat) : domain q z = domain q (tripped 38 s) := hz ▸ ((Touches.stopFunction ..).domain q rfl)
    refine ⟨(hdomain 38).trans hself, ?_, fun q _ hq => .inl ((hdomain q).trans (hothers q hq)), htouch, fun _ => ?_⟩
    · rw [hz, ((Touches.stopFunction ..).sticky rfl)]
      exact hsticky
    · rw [hz, ((Touches.stopFunction ..).power rfl)]
      exact congrArg (· + 1) (pd38Trips_tripped 38 s)
  · obtain ⟨_, hdomain, hkeeps⟩ : Dims (tripped pd s) z := hz ▸ afterTrip_dims h38 engines _
    refine ⟨?_, hkeeps _ hsticky, fun q _ hq => ?_, htouch, fun h => absurd h h38⟩
    · exact (hdomain pd).elim (·.trans hself) fun h => absurd hself h.2
    · exact (hdomain q).imp (·.trans (hothers q hq)) And.left

/-! ### DOMAIN_WAKE_DONE (R569) -/

theorem setPolder_touches (n : Nat) (p : Polder) (s : State) : Touches [.data] s (setPolder n p s) := of_fields rfl

/-- A domain that is ready has its units in service (R569). -/
theorem domainReady_touches (pd : Nat) (s : State) :
    Touches [.power, .data, .sluice, .stopped, .egress, .hostLinks] s (domainReady pd s) := by
  unfold domainReady
  extract_lets s1 src src2
  have hs1 : Touches [.power] s s1 := of_fields rfl
  refine ite ?_ (ite ?_ (ite (hs1.trans (of_fields (l := [.stopped, .egress, .hostLinks]) (by exact rfl)) rfl) (hs1.mono rfl)))
  · refine hs1.trans (foldl (l := [.data]) (fun x p => ?_) _ s1) rfl
    exact ite (setPolder_touches ..) (refl x)
  · exact hs1.trans (foldl (l := [.sluice]) (fun x n => ite (coreState_touches x n _) (refl x)) _ s1) rfl

theorem domainReady_power (pd : Nat) (s : State) : (domainReady pd s).power = (setDomain pd .on s).power := by
  unfold domainReady
  extract_lets s1 src src2
  split
  · exact (foldl (l := [.data]) (fun x p => ite (setPolder_touches ..) (refl x)) _ s1).power rfl
  · split
    · exact (foldl (l := [.sluice]) (fun x n => ite (coreState_touches x n _) (refl x)) _ s1).power rfl
    · split <;> rfl

/-- A domain that is ready powers its polders that compute. -/
def powerPolder (s : State) (n : Nat) : State :=
  if (polder n s).role = 0 ∧ !(polder n s).gone then setPolder n { polder n s with powered := true } s else s

theorem polder_powerPolder (n m : Nat) (s : State) : (polder m (powerPolder s n)).role = (polder m s).role ∧
    (polder m (powerPolder s n)).gone = (polder m s).gone ∧
    ((polder m s).powered = true → (polder m (powerPolder s n)).powered = true) := by
  unfold powerPolder
  split
  · by_cases hm : m = n
    · subst hm
      by_cases hlt : m < 168
      · rw [polder_setPolder_same _ _ _ hlt]
        exact ⟨rfl, rfl, fun _ => rfl⟩
      · have hout : polder m (setPolder m { polder m s with powered := true } s) = polder m s :=
          (RegFile.getD_set ..).trans (if_neg fun h => hlt h.2)
        rw [hout]
        exact ⟨rfl, rfl, id⟩
    · rw [polder_setPolder_of_ne _ _ hm]
      exact ⟨rfl, rfl, id⟩
  · exact ⟨rfl, rfl, id⟩

theorem powered_powerPolder {n : Nat} (hn : n < 168) {s : State} (hrole : (polder n s).role = 0)
    (hgone : (polder n s).gone = false) : (polder n (powerPolder s n)).powered = true := by
  rw [powerPolder, if_pos ⟨hrole, by simp [hgone]⟩, polder_setPolder_same _ _ _ hn]

theorem powered_foldl_powerPolder {n : Nat} (hn : n < 168) {l : List Nat} (hl : n ∈ l) {s : State}
    (hrole : (polder n s).role = 0) (hgone : (polder n s).gone = false) :
    (polder n (l.foldl powerPolder s)).powered = true := by
  induction l generalizing s with
  | nil => exact absurd hl List.not_mem_nil
  | cons a l ih =>
    obtain ⟨hrole', hgone', _⟩ := polder_powerPolder a n s
    rcases List.mem_cons.1 hl with rfl | hrest
    · exact List.foldlRecOn (motive := fun y => (polder n y).powered = true) l _
        (powered_powerPolder hn hrole hgone) fun y hy b _ => (polder_powerPolder b n y).2.2 hy
    · exact ih hrest (hrole'.trans hrole) (hgone'.trans hgone)

theorem powered_domainReady {pd n : Nat} (hpd : pd < 24) (hn : n < 168) (hring : n / 7 = pd) {s : State}
    (hrole : (polder n s).role = 0) (hgone : (polder n s).gone = false) :
    (polder n (domainReady pd s)).powered = true := by
  have hready : domainReady pd s = ((List.range 7).map (pd * 7 + ·)).foldl powerPolder (setDomain pd .on s) := by
    rw [domainReady, List.foldl_map, if_pos hpd]
    rfl
  rw [hready]
  refine powered_foldl_powerPolder hn (List.mem_map.2 ⟨n % 7, List.mem_range.2 (Nat.mod_lt _ (by decide)), ?_⟩) hrole hgone
  rw [← hring]
  omega

theorem solveHold_coreState (n : Nat) (st : CoreState) (s : State) :
    (coreState n st s).sluice.solveHold = s.sluice.solveHold := by
  unfold coreState
  extract_lets c s1 quiet
  split
  · rw [raise_sluice]
    rfl
  · rfl

theorem solveHold_domainReady (s : State) : (domainReady 33 s).sluice.solveHold = s.sluice.solveHold := by
  unfold domainReady
  extract_lets s1 src src2
  rw [if_neg (by decide), if_pos rfl]
  refine (foldl_keeps (π := fun x : State => x.sluice.solveHold) (fun x n => ?_) (List.range 64) s1).trans rfl
  split
  · exact solveHold_coreState ..
  · rfl

theorem solvesDone_of_idle {s : State} (h : s.sluice.solveHold = false) : solvesDone s = s := by
  have hruns : runSolves s = s := if_pos (by rw [h]; rfl)
  unfold solvesDone
  extract_lets s1 kept
  rw [if_neg fun hc => Bool.false_ne_true (h.symm.trans hc.1)]
  exact hruns

/-- A wake that nothing waits for. -/
theorem wakeDone_eq {pd : Nat} {s : State} (hwaking : domain pd s = .waking) (hreinit : s.power.reinit = none)
    (hsolve : pd = 33 → s.sluice.solveHold = false) :
    wakeDone pd s = if pd = 39 then weirPump (domainReady pd s) else domainReady pd s := by
  have hnone : (domainReady pd s).power.reinit = none := by rw [domainReady_power]; exact hreinit
  have hfinish : finishReinit pd (domainReady pd s) = domainReady pd s := by
    rw [finishReinit, reinitOf, hnone]
    rfl
  unfold wakeDone
  rw [if_neg (not_not_intro hwaking), hfinish]
  by_cases h33 : pd = 33
  · subst h33
    exact (if_pos rfl).trans (solvesDone_of_idle ((solveHold_domainReady s).trans (hsolve rfl)))
  · exact if_neg h33

/-- What a wake leaves (R569). -/
theorem wakeDone_wakes {pd : Nat} (hpd : pd < 40) {s : State} (hwaking : domain pd s = .waking)
    (hreinit : s.power.reinit = none) (hsolve : pd = 33 → s.sluice.solveHold = false) : let z := wakeDone pd s
    domain pd z = .on ∧ (∀ q < 40, q ≠ pd → domain q z = domain q s) ∧
      Touches (.power :: .sluice :: .stopped :: .hostLinks :: engineParts) s z ∧
      (∀ p, pd < 24 → p < 168 → p / 7 = pd → (polder p s).role = 0 → (polder p s).gone = false →
        (polder p z).powered = true) := by
  intro z
  have hz : z = if pd = 39 then weirPump (domainReady pd s) else domainReady pd s := wakeDone_eq hwaking hreinit hsolve
  have hpump : Touches engineParts (domainReady pd s) z := hz ▸ ite (weirPump_touches _) (refl _)
  have hpower : z.power = (setDomain pd .on s).power := (hpump.power rfl).trans (domainReady_power pd s)
  have hdomain (q : Nat) : domain q z = domain q (setDomain pd .on s) := by rw [domain, hpower, ← domain]
  refine ⟨(hdomain pd).trans (domain_setDomain_same pd .on s hpd), fun q _ hq => (hdomain q).trans
    (domain_setDomain_of_ne .on s hq), (domainReady_touches pd s).trans hpump rfl, fun p hlow hp hring hrole hgone => ?_⟩
  rw [hz, if_neg (by omega)]
  exact powered_domainReady hlow hp hring hrole hgone

/-! ### The rows of the domains -/

theorem exec_pd38Retry (t : Nat) (s : State) : exec (.pd38Retry t) s = act t (fun x => match x.power.pd38TripAt with
    | none => x
    | some t0 =>
      if x.time.now < t0 + secT 1 ∨ domain 38 x ≠ .tripped then x
      else { x with power := { x.power with domains := x.power.domains.set 38 .waking, pd38TripAt := none } }) s := rfl

theorem exec_dramStackTemp (t : Nat) (k : Fin 8) (temp : Int) (s : State) : exec (.dramStackTemp t k temp) s =
    act t (fun x => if !(stack k x).fitted then x
      else if 95 < temp ∧ (stack k x).temp ≤ 95 then fire .dramTemp (setStack k { stack k x with temp := temp } x)
      else setStack k { stack k x with temp := temp } x) s := rfl

/-- Settles O11. -/
theorem domainsTripAndWake : Obligations.DomainsTripAndWake := by
  refine ⟨fun t pd s => fun hup => ?trip, fun t pd s => fun hdown => ?idle, fun t t0 s => fun hat hdue htripped => ?retry,
    fun t pd s => fun hwaking hreinit hsolve => ?wake, fun t pd s => fun hwaking => ?other, fun t k temp s => fun hfitted => ?temp⟩
  case trip =>
    obtain ⟨hself, hsticky, hothers, htouch, htrips⟩ := domainTrip_trips pd.isLt hup
    refine leads_act (f := domainTrip pd) rfl ?_
    have hz := htouch.report (Touches.settle _)
    have hsettle := Touches.settle (domainTrip pd (advance t s))
    exact ⟨(hsettle.domain pd rfl).trans hself, (hsettle.sticky rfl).symm ▸ hsticky,
      fun q hlt hq => (hsettle.domain q rfl).symm ▸ hothers q hlt hq, (hz.boot rfl), (hz.mem rfl), (hz.force rfl),
      congrArg TimeS.tide (hz.time rfl), fun h => (congrArg PowerS.pd38Trips (hsettle.power rfl)).trans (htrips h)⟩
  case idle => exact does_act (f := domainTrip pd) rfl (by rw [domainTrip_of_down hdown]; exact .rfl' _)
  case retry =>
    refine does_act (exec_pd38Retry t s) ?_
    rw [hat]
    dsimp only
    rw [if_neg (not_or.2 ⟨Nat.not_lt.2 hdue, not_not_intro htripped⟩)]
    exact .rfl' _
  case wake =>
    obtain ⟨hself, hothers, htouch, hpolders⟩ := wakeDone_wakes pd.isLt hwaking hreinit hsolve
    refine leads_act (f := wakeDone pd) rfl ?_
    have hz := htouch.report (Touches.settle _)
    have hsettle := Touches.settle (wakeDone pd (advance t s))
    exact ⟨(hsettle.domain pd rfl).trans hself, fun q hlt hq => (hsettle.domain q rfl).trans (hothers q hlt hq), (hz.boot rfl), (hz.mem rfl),
      (hz.force rfl), fun p hlow hp hring hrole hgone => (polder_settle p _).symm ▸ hpolders p hlow hp hring hrole hgone⟩
  case other => exact does_act (f := wakeDone pd) rfl (by rw [wakeDone, if_pos hwaking]; exact .rfl' _)
  case temp =>
    refine does_act (exec_dramStackTemp t k temp s) ?_
    rw [hfitted]
    by_cases hhot : 95 < temp ∧ (stack k (advance t s)).temp ≤ 95
    · rw [if_pos hhot, if_pos hhot]
      exact fire_eq ..
    · rw [if_neg hhot, if_neg hhot]
      exact .rfl' _

end Sys2Proof.Machine
end

section
/-! The management cores: heartbeat, standby and takeover (R466, R501 to R504, R527). -/

namespace Sys2Proof.Machine

open Touches (refl ite of_fields foldl)

/-! ### What a takeover touches -/

section
variable (s : State)

theorem setMaster_touches (m : Nat) (x : CanalMaster) : Touches [.canal] s (setMaster m x s) := of_fields rfl

theorem arbWaits_touches : Touches [.canal] s (arbWaits s) := by
  refine foldl (fun x port => ?_) _ s
  extract_lets waits x1 src
  have hx1 : Touches [] x x1 := by
    dsimp only [x1]
    split
    · exact Touches.count x ..
    · exact refl x
  clear_value x1
  exact hx1.trans (of_fields (l := [.canal]) (by exact rfl)) rfl

theorem masterReset_touches (m : Nat) : Touches [.canal] s (masterReset m s) := by
  unfold masterReset
  extract_lets mine s1 src s2 kept ids
  have hs1 : Touches [.canal] s s1 := (arbWaits_touches s).report (Touches.count _ ..)
  have hs2 : Touches [.canal] s1 s2 := setMaster_touches s1 m _
  clear_value s1 s2 kept ids
  exact ite hs1 ((hs1.next hs2).next ((Touches.set_canal s2 _).next (arbWaits_touches _)))

theorem restoreJournal_touches : Touches [.force, .canal] s (restoreJournal s) := of_fields rfl

theorem countHeld_touches (l : List Dgram) (held : Nat) : Touches [] s (countHeld l held s) := by
  induction l generalizing held s with
  | nil => exact refl s
  | cons d l ih => exact ite (ih ..) (ite ((Touches.count s ..).next (ih ..)) (ih ..))

theorem withdrawCommit_touches : Touches [.plan] s (withdrawCommit s).2 := by
  unfold withdrawCommit
  split
  · exact refl s
  · split
    · exact of_fields rfl
    · exact refl s

theorem completeSeq_touches (slot seq code : Nat) (body : List Byte) :
    Touches [.sessions, .waiting] s (completeSeq slot seq code body s) := by
  unfold completeSeq
  split
  · exact refl s
  · exact (of_fields (l := [.waiting]) (by exact rfl)).trans (Touches.sendReply _ ..) rfl

theorem setBulk_touches (b : Bulk) : Touches [.bulks] s (setBulk b s) := of_fields rfl

theorem endBulk_touches (slot id : Nat) (st : BulkState) :
    Touches [.bulks, .sessions, .waiting] s (endBulk slot id st s) := by
  unfold endBulk
  split
  · exact refl s
  · extract_lets s1 s2 dest
    have hs1 : Touches [.bulks] s s1 := setBulk_touches s _
    have hs2 : Touches [.sessions, .waiting] s1 s2 := foldl (fun x c => completeSeq_touches x ..) _ s1
    exact (hs1.trans hs2 rfl).report (Touches.raiseIn ..)

theorem raiseTakeover_touches (failed withdrawn : Nat) (loss : List (Nat × List Nat)) :
    Touches [] s (raiseTakeover failed withdrawn loss s) :=
  (Touches.raiseIn s ..).next (foldl (fun x _ => Touches.unsolicited x ..) loss _)

end

/-! ### The transfers of a takeover -/

/-- The transfers of a key after its end. -/
theorem bulks_endBulk (slot id : Nat) (st : BulkState) (s : State) :
    ∀ b ∈ (endBulk slot id st s).zcp.bulks, (b.slot = slot ∧ b.id = id ∧ b.state = st) ∨
      (b ∈ s.zcp.bulks ∧ ¬ (b.slot = slot ∧ b.id = id)) := by
  unfold endBulk
  split
  case h_1 hnone =>
    intro b hb
    refine .inr ⟨hb, fun hkey => ?_⟩
    have hnot := List.find?_eq_none.1 hnone b hb
    simp [hkey] at hnot
  case h_2 found hfound =>
    extract_lets s1 s2 dest
    have hkey : found.slot = slot ∧ found.id = id := by simpa using List.find?_some hfound
    have hbulks : (raiseIn dest .bulkEnd (Config.eventBody Ev.bulkEnd.code [id, st.code, found.moved]) s2).zcp.bulks =
        s1.zcp.bulks := ((Touches.raiseIn s2 ..).bulks rfl).trans
      ((foldl (l := [.sessions, .waiting]) (fun x c => completeSeq_touches x ..) found.closing s1).bulks rfl)
    intro b hb
    rw [hbulks] at hb
    obtain ⟨v, hv, rfl⟩ := List.mem_map.1 hb
    by_cases hsame : v.slot = found.slot ∧ v.id = found.id
    · rw [if_pos hsame]
      exact .inl ⟨hkey.1, hkey.2, rfl⟩
    · rw [if_neg hsame]
      exact .inr ⟨hv, hkey.1 ▸ hkey.2 ▸ hsame⟩

theorem Bulk.live_takeover {b : Bulk} (h : b.state = .takeover) : b.live = false := by rw [Bulk.live, h]; rfl

/-- No transfer whose key is listed is live after the list's end. -/
theorem bulks_foldl_endBulk (ids : List (Nat × Nat)) (s : State) :
    ∀ b ∈ (ids.foldl (fun x b => endBulk b.1 b.2 .takeover x) s).zcp.bulks,
      b.live = false ∨ (b ∈ s.zcp.bulks ∧ (b.slot, b.id) ∉ ids) := by
  induction ids generalizing s with
  | nil => exact fun b hb => .inr ⟨hb, List.not_mem_nil⟩
  | cons k ids ih =>
    intro b hb
    rcases ih _ b hb with hdead | ⟨hmem, hrest⟩
    · exact .inl hdead
    · rcases bulks_endBulk k.1 k.2 .takeover s b hmem with ⟨_, _, hstate⟩ | ⟨hwas, hkey⟩
      · exact .inl (Bulk.live_takeover hstate)
      · refine .inr ⟨hwas, fun h => ?_⟩
        rcases List.mem_cons.1 h with rfl | h
        · exact hkey ⟨rfl, rfl⟩
        · exact hrest h

theorem waiting_foldl_endBulk {ids : List (Nat × Nat)} {s : State} (h : s.zcp.waiting = []) :
    (ids.foldl (fun x b => endBulk b.1 b.2 .takeover x) s).zcp.waiting = [] := by
  refine List.foldlRecOn ids _ (motive := fun x : State => x.zcp.waiting = []) h fun x hx b _ => ?_
  unfold endBulk
  split
  · exact hx
  case h_2 found _ =>
    extract_lets s1 s2 dest
    have hs2 : s2.zcp.waiting = [] := List.foldlRecOn (motive := fun y : State => y.zcp.waiting = []) found.closing _ hx
      fun y hy c _ => by rw [completeSeq, hy]; exact hy
    exact ((Touches.raiseIn s2 ..).waiting rfl).trans hs2

/-! ### The takeover (R501 to R503) -/

/-- The other core is active without a standby, nothing waits and no transfer is live (R502). -/
structure Yielded (x z : State) : Prop where
  active : z.zcp.activeCore = 1 - x.zcp.activeCore
  standby : z.zcp.standbyOk = false ∧ z.zcp.standbyBeat = false
  waiting : z.zcp.waiting = []
  bulks : ∀ b ∈ z.zcp.bulks, b.live = false
  reset : z.boot.lastReset = 4 ∧ z.boot.stage = x.boot.stage
  power : z.power = x.power
  data : z.data = x.data
  sticky : z.fault.sticky.getLsbD Fs.mgmtTakeover.num = true

/-- The other core is active, the standby is out of service and no command waits (R502). -/
def coreSwapped (failed : Nat) (s : State) : State :=
  { s with
    zcp := { s.zcp with
      waiting := []
      bulks := s.zcp.bulks.map fun b => { b with closing := [], job := false }
      activeCore := 1 - failed
      standbyOk := false
      standbyBeat := false
      heartbeatAt := s.time.now }
    egress := { s.egress with jobs := s.egress.jobs.filter (·.started) } }

theorem coreSwapped_touches (failed : Nat) (s : State) :
    Touches [.waiting, .bulks, .cores, .egress] s (coreSwapped failed s) := of_fields rfl

theorem bulks_coreSwapped {failed : Nat} {s : State} {b : Bulk} (h : b ∈ (coreSwapped failed s).zcp.bulks) :
    ∃ v ∈ s.zcp.bulks, b.live = v.live ∧ (b.slot, b.id) = (v.slot, v.id) := by
  obtain ⟨v, hv, rfl⟩ := List.mem_map.1 h
  exact ⟨v, hv, rfl, rfl⟩

/-- What a takeover may change. -/
def takeoverParts : List Part :=
  [.sticky, .episodes, .boot, .force, .canal, .sessions, .plan, .bulks, .waiting, .cores, .egress]

theorem takeOver_yields (held : List Dgram) (x : State) :
    Yielded x (takeOver held x) ∧ Touches takeoverParts x (takeOver held x) := by
  unfold takeOver
  extract_lets failed open_ loss ids s1 src s1r s2 s3 src2 src3
  have hs1 : Touches [.sticky, .episodes] x s1 :=
    ((countHeld_touches x held 0).report (Touches.count _ ..)).trans (Touches.fire _ _) rfl
  have hs1r : Touches [.boot] s1 s1r := (of_fields (l := [.boot]) (by exact rfl)).report (Touches.bbWrite _ ..)
  have hs2 : Touches [.force, .canal] s1r s2 := (masterReset_touches s1r failed).trans (restoreJournal_touches _) rfl
  have hs3 : Touches [.sessions] s2 s3 := foldl (fun y k => Touches.setSession y k _) open_ s2
  have hsticky : s1.fault.sticky.getLsbD Fs.mgmtTakeover.num = true := sticky_fire_same ..
  have hboot : s1r.boot = { s1.boot with lastReset := 4 } := (Touches.bbWrite ..).boot rfl
  have hto3 : Touches [.sticky, .episodes, .boot, .force, .canal, .sessions] x s3 :=
    (hs1.trans hs1r rfl (n := [.sticky, .episodes, .boot])).trans (hs2.trans hs3 rfl (n := [.force, .canal, .sessions])) rfl
  have hsticky3 : s3.fault.sticky = s1.fault.sticky := (hs1r.trans (hs2.trans hs3 rfl (n := [.force, .canal, .sessions])) rfl
    (n := [.boot, .force, .canal, .sessions])).sticky rfl
  have hboot3 : s3.boot = { x.boot with lastReset := 4 } :=
    ((hs2.trans hs3 rfl (n := [.force, .canal, .sessions])).boot rfl).trans (hboot.trans (by rw [(hs1.boot rfl)]))
  clear_value s1 s1r s2 s3 open_ loss
  clear hs1r hs2 hs3
  have hswap := coreSwapped_touches failed s3
  change let p := withdrawCommit (coreSwapped failed s3); 
    Yielded x (raiseTakeover failed p.1 loss (ids.foldl (fun y b => endBulk b.1 b.2 .takeover y) p.2)) ∧
      Touches takeoverParts x (raiseTakeover failed p.1 loss (ids.foldl (fun y b => endBulk b.1 b.2 .takeover y) p.2))
  intro p
  have hs4 : Touches [.plan] (coreSwapped failed s3) p.2 := withdrawCommit_touches _
  clear_value p
  have hend : Touches [.bulks, .sessions, .waiting] p.2 (ids.foldl (fun y b => endBulk b.1 b.2 .takeover y) p.2) :=
    foldl (fun y b => endBulk_touches y ..) ids p.2
  have hz := raiseTakeover_touches (ids.foldl (fun y b => endBulk b.1 b.2 .takeover y) p.2) failed p.1 loss
  have hkept : Touches [.plan, .bulks, .sessions, .waiting] (coreSwapped failed s3) _ := hs4.trans (hend.report hz) rfl
  have hall : Touches takeoverParts x _ := hto3.trans (hswap.trans hkept rfl
    (n := [.waiting, .bulks, .cores, .egress, .plan, .sessions])) rfl
  have hcores := hkept.same .cores rfl
  have hwaiting : p.2.zcp.waiting = [] := hs4.waiting rfl
  refine ⟨⟨(congrArg ZcpS.activeCore hcores :), ⟨(congrArg ZcpS.standbyOk hcores :), (congrArg ZcpS.standbyBeat hcores :)⟩,
    (hz.waiting rfl).trans (waiting_foldl_endBulk hwaiting), fun b hb => ?_, ?_, (hall.power rfl), (hall.data rfl), ?_⟩, hall⟩
  · rcases bulks_foldl_endBulk ids p.2 b ((hz.bulks rfl) ▸ hb) with hdead | ⟨hmem, hkey⟩
    · exact hdead
    · obtain ⟨v, hv, hlive, hid⟩ := bulks_coreSwapped ((hs4.bulks rfl) ▸ hmem)
      rw [(hto3.bulks rfl)] at hv
      rw [hlive]
      refine Bool.eq_false_iff.2 fun hv' => hkey ?_
      rw [hid]
      exact List.mem_map.2 ⟨v, List.mem_filter.2 ⟨hv, hv'⟩, rfl⟩
  · have hboot := (hkept.boot rfl).trans ((hswap.boot rfl).trans hboot3)
    exact ⟨(congrArg BootS.lastReset hboot :), (congrArg BootS.stage hboot :)⟩
  · rw [(hkept.sticky rfl), (hswap.sticky rfl), hsticky3]
    exact hsticky

theorem Yielded.settle {x z : State} (h : Yielded x z) : Yielded x (settle z) := by
  obtain ⟨hactive, hstandby, hwaiting, hbulks, hreset, hpower, hdata, hsticky⟩ := h
  have hz := Touches.settle z
  have hcores := hz.same .cores rfl
  exact ⟨(congrArg ZcpS.activeCore hcores :).trans hactive, ⟨(congrArg ZcpS.standbyOk hcores :).trans hstandby.1,
    (congrArg ZcpS.standbyBeat hcores :).trans hstandby.2⟩, (hz.waiting rfl).trans hwaiting, (hz.bulks rfl).symm ▸ hbulks,
    (hz.boot rfl).symm ▸ hreset, (hz.power rfl).trans hpower, (hz.data rfl).trans hdata, (hz.sticky rfl).symm ▸ hsticky⟩

/-- A takeover as the statement lists it. -/
theorem Yielded.listed {x z : State} (h : Yielded x z) : z.zcp.activeCore = 1 - x.zcp.activeCore ∧
    z.zcp.standbyOk = false ∧ z.zcp.standbyBeat = false ∧ z.zcp.waiting = [] ∧ (∀ b ∈ z.zcp.bulks, b.live = false) ∧
    z.boot.lastReset = 4 ∧ z.boot.stage = x.boot.stage ∧ z.power = x.power ∧ z.data = x.data ∧
    z.fault.sticky.getLsbD Fs.mgmtTakeover.num = true :=
  ⟨h.active, h.standby.1, h.standby.2, h.waiting, h.bulks, h.reset.1, h.reset.2, h.power, h.data, h.sticky⟩

theorem Yielded.of_restZ {x y z : State} (h : Yielded y z) (hy : restZ y = restZ x) : Yielded x z := by
  obtain ⟨hactive, hstandby, hwaiting, hbulks, hreset, hpower, hdata, hsticky⟩ := h
  exact ⟨hactive.trans (congrArg (1 - ·.zcp.activeCore) hy :), hstandby, hwaiting, hbulks,
    ⟨hreset.1, hreset.2.trans (congrArg (·.boot.stage) hy :)⟩, hpower.trans (congrArg State.power hy :),
    hdata.trans (congrArg State.data hy :), hsticky⟩

/-! ### The standby (R504) -/

theorem standbyLost_eq (s : State) : ReportEq (standbyLost s) (noteEvent .mgmtStandby (fired .mgmtStandby
    { s with zcp := { s.zcp with standbyOk := false } })) :=
  (raise_eq ..).trans ((fire_eq ..).of_noteEvent _)

theorem exec_heartbeat (t : Nat) (s : State) : exec (.heartbeat t) s = act t (onlyIf coresRun fun x =>
    { x with zcp := { x.zcp with heartbeatAt := x.time.now, heartbeats := x.zcp.heartbeats + 1 } }) s := rfl

theorem exec_standbyHeartbeatFail (t : Nat) (s : State) : exec (.standbyHeartbeatFail t) s = act t
    (onlyIf (fun x => coresRun x && x.zcp.standbyBeat) fun x =>
      if x.zcp.standbyOk then standbyLost { x with zcp := { x.zcp with standbyBeat := false } }
      else { x with zcp := { x.zcp with standbyBeat := false } }) s := rfl

theorem exec_standbyResyncDone (t : Nat) (s : State) : exec (.standbyResyncDone t) s = act t
    (onlyIf (fun x => coresRun x && !x.zcp.standbyOk) fun x =>
      complete .other 80 rOk [] (raise .mgmtStandby [1 - x.zcp.activeCore, 1] { x with
        zcp := { x.zcp with standbyOk := true, standbyBeat := true }
        power := { x.power with reinit := x.power.reinit.filter fun r => r.1 != 0xB } })) s := rfl

/-- Settles O7: the takeover by `takeOver_yields`, the standby's rows by their equations. -/
theorem coresAndTakeover : Obligations.CoresAndTakeover := by
  refine ⟨fun t s => fun hruns => ?beat, fun t s => fun hruns hok => ?mirror, fun t s => fun hruns hok hbeat => ?fail,
    fun t s => fun hruns hok hwait => ?resync, fun t c held s => fun hruns hok hdue => ?miss,
    fun t d s => fun hd hlen => ⟨fun hok => ?yields, fun hok => ?refused⟩, fun t s => fun hruns hbeat hat => ?watchdog⟩
  case beat => exact does_onlyIf (exec_heartbeat t s) hruns (.rfl' _)
  case mirror =>
    exact does_onlyIf (c := fun x => coresRun x && x.zcp.standbyOk) rfl (Bool.and_eq_true_iff.2 ⟨hruns, hok⟩)
      (standbyLost_eq (count .mgmtMirrorTimeouts 0 1 (advance t s)))
  case fail =>
    refine does_onlyIf (exec_standbyHeartbeatFail t s) (Bool.and_eq_true_iff.2 ⟨hruns, hbeat⟩) ?_
    rw [if_pos hok]
    exact standbyLost_eq _
  case resync =>
    refine does_onlyIf (exec_standbyResyncDone t s)
      (Bool.and_eq_true_iff.2 ⟨hruns, (congrArg not hok :)⟩) ?_
    have hraise := raise_eq .mgmtStandby [1 - (advance t s).zcp.activeCore, 1] { advance t s with
      zcp := { (advance t s).zcp with standbyOk := true, standbyBeat := true }
      power := { (advance t s).power with reinit := (advance t s).power.reinit.filter fun r => r.1 != 0xB } }
    rw [complete_of_none (why := .other) (unit := 80) fun w hw => hwait w (hraise.zcp_waiting ▸ hw)]
    exact hraise
  case miss =>
    refine leads_onlyIf (c := fun x => coresRun x && x.zcp.standbyOk && takeoverDue c x) (f := takeOver held) rfl
      (Bool.and_eq_true_iff.2 ⟨Bool.and_eq_true_iff.2 ⟨hruns, hok⟩, hdue⟩) ?_
    exact (takeOver_yields held (advance t s)).1.settle.listed
  case yields =>
    have hok' : (taken d (advance t s)).zcp.standbyOk = true :=
      (congrArg (·.zcp.standbyOk) (restZ_taken d (advance t s)) :).trans hok
    have hexec : exec (.zcpTakeover t d) s = .next (settle (takeOver []
        (sendReply d.session d.seq d.typ rOk [] (taken d (advance t s))))) := by
      refine (zcp_accepted _ hd).trans ?_
      rw [sized_of_length takeoverCommand (c := d.ctx) hlen, takeoverCommand, if_pos hok', finish_after (by simp [hd.typ])]
    refine leads_of_exec hexec ((takeOver_yields [] _).1.settle.of_restZ ?_).listed
    exact (restZ_sendReply ..).trans (restZ_taken d (advance t s))
  case refused =>
    refine answers_refuse (body := sized 0 takeoverCommand) rfl hd (by decide) fun y hy => ?_
    have hok' : ¬ y.zcp.standbyOk = true := by
      rw [show y.zcp.standbyOk = (advance t s).zcp.standbyOk from (congrArg (·.zcp.standbyOk) hy :), hok]
      exact Bool.false_ne_true
    rw [sized_of_length takeoverCommand (c := d.ctx) hlen, takeoverCommand, if_neg hok']
  case watchdog =>
    refine leads_onlyIf (c := fun x => coresRun x && !x.zcp.standbyBeat &&
      decide (x.zcp.heartbeatAt + msT 100 ≤ x.time.now)) (f := fireStop .mgmtBoth) rfl
      (Bool.and_eq_true_iff.2 ⟨Bool.and_eq_true_iff.2 ⟨hruns, (congrArg not hbeat :)⟩, decide_eq_true hat⟩) ?_
    have hstop := moduleStop_touches .mgmtBoth (fire .mgmtBoth (advance t s))
    have hz := (fireStop_touches .mgmtBoth (advance t s)).report (Touches.settle _)
    obtain ⟨ds, r, hpower⟩ := fireStop_power .mgmtBoth (advance t s)
    refine ⟨?_, ?_, ?_, (hz.boot rfl)⟩
    · rw [settle_power, hpower]
    · rw [((Touches.settle _).episode 3 rfl), fireStop, (hstop.episode 3 rfl)]
      exact episode_held_of_fire rfl _
    · rw [((Touches.settle _).sticky rfl), fireStop, (hstop.sticky rfl)]
      exact sticky_fire_same ..

end Sys2Proof.Machine
end

section
/-! What a reset that loses everything but flash keeps, and the rows that bring one about (R566, R567, R580, R590). -/

namespace Sys2Proof.Machine

/-! ### Parameters after a reset (R590) -/

/-- No value is kept for an item outside flash. -/
theorem par_of_inFlash {i : Item} {inst elem : Nat} (hinst : inst < 4096) (helem : elem < 65536)
    (happly : i.desc.apply ≠ 3) (hrights : i ≠ .zcpRights) {m : Sparse Nat} {s : State}
    (h : s.force = m.filter fun e => inFlash e.1) : par i inst elem s = i.resetAt inst := by
  have hitem := keyItem_itemKey i hinst helem
  have hout : inFlash (itemKey i inst elem) = false := by rw [inFlash, hitem]; simp [happly, hrights]
  have hnone : ∀ e ∈ s.force, e.1 ≠ itemKey i inst elem := fun e he hkey => by
    have hin := (List.mem_filter.1 (h ▸ he)).2
    exact Bool.false_ne_true ((hkey ▸ hout).symm.trans hin)
  rw [par, sGet_of_notMem _ hnone, keyReset_itemKey i hinst helem]

/-! ### The cold state (R580) -/

section
variable (ring : Bool) (kind : Nat) (s : State)

theorem session_coldState {k : Nat} (hk : k < 4) :
    session k (coldState ring kind s) = resetSession (session k s).longKey :=
  (RegFile.getD_map _ _ _ _ hk).trans (congrArg (fun v : Session => resetSession v.longKey) rfl)

theorem trialReset_images (b : BootS) : (trialReset b).images = b.images ∧ (trialReset b).floor = b.floor ∧
    (trialReset b).variant = b.variant := by
  unfold trialReset
  split <;> exact ⟨rfl, rfl, rfl⟩

/-- What a reset keeps when all but flash is lost, and what is gone (R580, R590). -/
structure OnlyFlash (ring : Bool) (x z : State) : Prop where
  stage : z.boot.stage = .power
  domains : ∀ pd < 40, domain pd z = .off
  readyPin : z.power.readyPin = false
  sessions : ∀ k < 4, (session k z).isOpen = false ∧ (session k z).longKey = (session k x).longKey
  pending : z.pending = x.pending
  images : z.boot.images = x.boot.images
  floor : z.boot.floor = x.boot.floor
  channels : z.mem.retiredFlash = x.mem.retiredFlash
  rings : z.data.ringsRetired = x.data.ringsRetired
  bootCount : z.fault.bootCount = x.fault.bootCount
  flushes : z.fault.flushes = x.fault.flushes
  records : z.fault.ring = if ring then x.fault.ring else []
  sticky : z.fault.sticky = 0
  tide : z.time.tide = 0
  lastReset : z.boot.lastReset = if ring then 1 else 0
  cells : z.mem.cells = []
  plan : z.plan.running = none
  items : ∀ (i : Item) inst elem, inst < 4096 → elem < 65536 → i.desc.apply ≠ 3 → i ≠ .zcpRights →
    par i inst elem z = i.resetAt inst

theorem coldState_onlyFlash : OnlyFlash ring s (coldState ring (if ring then 1 else 0) s) where
  stage := rfl
  domains pd hpd := domain_reset hpd
  readyPin := rfl
  sessions k hk := by rw [session_coldState ring _ s hk]; exact ⟨rfl, rfl⟩
  pending := rfl
  images := (trialReset_images s.boot).1
  floor := (trialReset_images s.boot).2.1
  channels := rfl
  rings := rfl
  bootCount := rfl
  flushes := rfl
  records := rfl
  sticky := rfl
  tide := rfl
  lastReset := rfl
  cells := rfl
  plan := rfl
  items i inst elem hinst helem happly hrights := par_of_inFlash hinst helem happly hrights rfl

theorem OnlyFlash.with_power {ring : Bool} {x z : State} (h : OnlyFlash ring x z) {p : PowerS}
    (hdomains : p.domains = z.power.domains) (hpin : p.readyPin = z.power.readyPin) :
    OnlyFlash ring x { z with power := p } where
  stage := h.stage
  domains pd hpd := (congrArg (fun r : RegFile DomainState 40 => r.getD pd .off) hdomains :).trans (h.domains pd hpd)
  readyPin := hpin.trans h.readyPin
  sessions := h.sessions
  pending := h.pending
  images := h.images
  floor := h.floor
  channels := h.channels
  rings := h.rings
  bootCount := h.bootCount
  flushes := h.flushes
  records := h.records
  sticky := h.sticky
  tide := h.tide
  lastReset := h.lastReset
  cells := h.cells
  plan := h.plan
  items := h.items

end

/-- What is kept, as the statement lists it. -/
theorem OnlyFlash.listed {ring : Bool} {x z : State} (h : OnlyFlash ring x z) :
    z.boot.stage = .power ∧ (∀ pd < 40, domain pd z = .off) ∧ z.power.readyPin = false ∧
    (∀ k < 4, (session k z).isOpen = false ∧ (session k z).longKey = (session k x).longKey) ∧
    z.pending = x.pending ∧ z.boot.images = x.boot.images ∧ z.boot.floor = x.boot.floor ∧
    z.mem.retiredFlash = x.mem.retiredFlash ∧ z.data.ringsRetired = x.data.ringsRetired ∧
    z.fault.bootCount = x.fault.bootCount ∧ z.fault.flushes = x.fault.flushes ∧
    z.fault.ring = (if ring then x.fault.ring else []) ∧ z.fault.sticky = 0 ∧ z.time.tide = 0 ∧
    z.boot.lastReset = (if ring then 1 else 0) ∧ z.mem.cells = [] ∧ z.plan.running = none ∧
    (∀ (i : Item) inst elem, inst < 4096 → elem < 65536 → i.desc.apply ≠ 3 → i ≠ .zcpRights →
      par i inst elem z = i.resetAt inst) :=
  ⟨h.stage, h.domains, h.readyPin, h.sessions, h.pending, h.images, h.floor, h.channels, h.rings, h.bootCount, h.flushes,
    h.records, h.sticky, h.tide, h.lastReset, h.cells, h.plan, h.items⟩

/-! ### The rows that take the running state away -/

theorem exec_powerEnFall (t : Nat) (s : State) : exec (.powerEnFall t) s = act t (onlyIf (fun x => x.power.powerEn)
    fun x => (fun y : State => { y with power := { y.power with
      powerEn := false, startWaiting := false, powerEnFell := some y.time.now } })
      (if x.power.stageOn then powerDown x else x)) s := rfl

/-- The hold-up bus is exhausted: no feed is GOOD and the last was lost 25 ms ago. -/
def holdUpOver (x : State) : Bool :=
  !feedGood x && (match x.power.holdUpSince with
    | some t0 => decide (t0 + msT 25 ≤ x.time.now)
    | none => false)

theorem holdUpOver_of_since {x : State} {t0 : Nat} (hdead : feedGood x = false) (hsince : x.power.holdUpSince = some t0)
    (hlate : t0 + msT 25 ≤ x.time.now) : holdUpOver x = true := by
  simp only [holdUpOver, hdead, hsince, Bool.not_false, Bool.true_and, decide_eq_true hlate]

theorem exec_holdUpExhausted (t : Nat) (s : State) : exec (.holdUpExhausted t) s = act t
    (onlyIf holdUpOver fun x =>
      { powerDown x with power := { (powerDown x).power with startWaiting := (powerDown x).power.powerEn } }) s := rfl

theorem exec_resetNAssert (t : Nat) (s : State) : exec (.resetNAssert t) s = act t (fun x =>
    (fun y : State => { y with power := { y.power with resetN := false } })
      (if x.power.stageOn && logicRuns x then coldState true 1 x else x)) s := rfl

/-- Settles O9: each row ends in `coldState`, beside the levels of the pins. -/
theorem powerLossKeepsOnlyFlash : Obligations.PowerLossKeepsOnlyFlash := by
  have hlost (x : State) (p : PowerS) (hdomains : p.domains = (powerDown x).power.domains)
      (hpin : p.readyPin = (powerDown x).power.readyPin) : OnlyFlash false x { powerDown x with power := p } :=
    (coldState_onlyFlash false x).with_power hdomains hpin
  refine ⟨fun t s => fun hen hstage => ?fall, fun t s => fun hen hstage => ?idle, fun t t0 s => fun hdead hsince hlate => ?hold,
    fun t s => fun hstage hruns => ?pin, fun t s => fun hoff => ?level⟩
  case fall =>
    refine leads_onlyIf (exec_powerEnFall t s) hen ?_
    rw [if_pos hstage, settle_of_satDue_nil rfl]
    exact ⟨(hlost (advance t s) _ rfl rfl).listed, rfl, rfl, rfl, rfl, rfl⟩
  case idle =>
    refine does_onlyIf (exec_powerEnFall t s) hen ?_
    rw [if_neg (ne_true_of_eq_false hstage)]
    exact .rfl' _
  case hold =>
    refine leads_onlyIf (exec_holdUpExhausted t s) (holdUpOver_of_since hdead hsince hlate) ?_
    rw [settle_of_satDue_nil rfl]
    exact ⟨(hlost (advance t s) _ rfl rfl).listed, rfl, rfl, rfl, rfl⟩
  case pin =>
    refine leads_act (exec_resetNAssert t s) ?_
    rw [if_pos (Bool.and_eq_true_iff.2 ⟨hstage, hruns⟩), settle_of_satDue_nil rfl]
    exact ⟨((coldState_onlyFlash true (advance t s)).with_power rfl rfl).listed, hstage, rfl, rfl⟩
  case level =>
    refine does_act (exec_resetNAssert t s) ?_
    rw [if_neg fun h => hoff.elim (ne_true_of_eq_false · (Bool.and_eq_true_iff.1 h).1)
      (ne_true_of_eq_false · (Bool.and_eq_true_iff.1 h).2)]
    exact .rfl' _

end Sys2Proof.Machine
end

section
/-! Firmware commands (R578, R585 to R587). -/

namespace Sys2Proof.Machine

section
variable {x y : State} (h : restZ y = restZ x)
include h

theorem boot_of_restZ : y.boot = x.boot := (congrArg State.boot h :)

theorem stagedImage_of_restZ : stagedImage y = stagedImage x := by
  unfold stagedImage
  rw [boot_of_restZ h]

/-- States that agree but for sessions and reports agree so after a change of the boot record. -/
theorem restZ_of_boot (b : BootS) : restZ { y with boot := b } = restZ { x with boot := b } :=
  (congrArg (fun z : State => { z with boot := b }) h :)

/-- The same, for a change that starts from the boot record. -/
theorem restZ_of_boot_map (f : BootS → BootS) : restZ { y with boot := f y.boot } = restZ { x with boot := f x.boot } := by
  rw [boot_of_restZ h]
  exact restZ_of_boot h _

end

/-! ### ZCP_FW_INSTALL -/

/-- The boot record with an image written to a slot. -/
def BootS.written (slot : Nat) (i : Image) (b : BootS) : BootS :=
  { b with
    images := b.images.set slot (some i)
    aValid := if slot = 0 then i.sound else b.aValid
    bValid := if slot = 1 then i.sound else b.bValid }

theorem writeImage_eq (slot : Nat) (i : Image) (s : State) :
    writeImage slot i s = { s with boot := s.boot.written slot i } := rfl

/-- An image that passed the checks of R578 is sound. -/
theorem sound_of_stagedImage {s : State} {i : Image} (h : stagedImage s = some i) : i.sound = true := by
  unfold stagedImage at h
  extract_lets hd body sec at h
  split at h
  · cases h
    rfl
  · cases h

section
variable {slot : Nat} {flash : Bool} {c : Ctx} {s : State}

theorem fwInstall_of_no_slot (h : 1 < slot) : fwInstall slot flash c s = refuse rBadValue s := if_pos h

theorem fwInstall_of_running (hslot : slot ≤ 1) (h : slot = s.boot.running) :
    fwInstall slot flash c s = refuse rBusy s := by
  rw [fwInstall, if_neg (Nat.not_lt.2 hslot), if_pos h]

theorem fwInstall_of_none (hslot : slot ≤ 1) (hrun : slot ≠ s.boot.running) (h : stagedImage s = none) :
    fwInstall slot flash c s = refuse rRefused s := by
  rw [fwInstall, if_neg (Nat.not_lt.2 hslot), if_neg hrun, h]

theorem fwInstall_of_some {i : Image} (hslot : slot ≤ 1) (hrun : slot ≠ s.boot.running) (h : stagedImage s = some i) :
    fwInstall slot flash c s = if flash then answer rOk [] (writeImage slot i s)
      else refuse rRefused (fire .flash (writeImage slot { i with sound := false } s)) := by
  rw [fwInstall, if_neg (Nat.not_lt.2 hslot), if_neg hrun, h]

end

section
variable {t : Nat} {d : Dgram} {slot : Nat} {s : State} (hd : Accepted 0x0C03 d (advance t s))
  (hlen : d.payload.length = Config.payloadLength 0x0C03)
include hd hlen

theorem laid_fwInstall (flash : Bool) (y : State) : laid (fwInstall slot flash) d.ctx y = fwInstall slot flash d.ctx y :=
  laid_of_length _ (by rw [show d.ctx.payload = d.payload from rfl, show d.ctx.typ = d.typ from rfl, hlen, hd.typ]) y

/-- An install that is refused before it writes. -/
theorem zcpFwInstall_refuses {flash : Bool} {code : Nat}
    (h : ∀ y, restZ y = restZ (advance t s) → fwInstall slot flash d.ctx y = refuse code y) :
    Answers (.zcpFwInstall t d ⟨slot, flash⟩) d code s (advance t s) :=
  answers_refuse (body := laid (fwInstall slot flash)) rfl hd (by decide) fun y hy =>
    (laid_fwInstall hd hlen flash y).trans (h y hy)

theorem zcpFwInstall_writes {i : Image} (hslot : slot ≤ 1) (hrun : slot ≠ (advance t s).boot.running)
    (himage : stagedImage (advance t s) = some i) : Answers (.zcpFwInstall t d ⟨slot, true⟩) d rOk s
      { advance t s with boot := (advance t s).boot.written slot i } := by
  refine answers_of (body := laid (fwInstall slot true)) rfl hd (by decide) fun y hy => ⟨[], writeImage slot i y, ?_, ?_⟩
  · rw [laid_fwInstall hd hlen, fwInstall_of_some hslot ((boot_of_restZ hy).symm ▸ hrun)
      ((stagedImage_of_restZ hy).trans himage), if_pos rfl]
  · exact restZ_of_boot_map hy (BootS.written slot i)

theorem zcpFwInstall_fails {i : Image} (hslot : slot ≤ 1) (hrun : slot ≠ (advance t s).boot.running)
    (himage : stagedImage (advance t s) = some i) : Leads (.zcpFwInstall t d ⟨slot, false⟩) s fun z =>
      lastReply d z = some ⟨d.seq, d.typ, rRefused⟩ ∧
      z.boot.images = (advance t s).boot.images.set slot (some { i with sound := false }) ∧
      z.fault.sticky.getLsbD Fs.flash.num = true := by
  have hy := restZ_taken d (advance t s)
  have hexec : exec (.zcpFwInstall t d ⟨slot, false⟩) s = .next (settle (sendReply d.session d.seq d.typ rRefused []
      (fire .flash (writeImage slot { i with sound := false } (taken d (advance t s)))))) := by
    refine (zcp_accepted _ hd).trans ?_
    rw [laid_fwInstall hd hlen, fwInstall_of_some hslot ((boot_of_restZ hy).symm ▸ hrun)
      ((stagedImage_of_restZ hy).trans himage), if_neg Bool.false_ne_true]
    exact congrArg (fun z => Host.Outcome.next (settle z)) (finish_answer _ _ _ (by simp [hd.typ]))
  have hboot := boot_of_restZ hy
  generalize taken d (advance t s) = y at hexec hboot
  have hz : Touches [.sessions] (fire .flash (writeImage slot { i with sound := false } y)) _ :=
    (Touches.sendReply _ d.session d.seq d.typ rRefused []).report (Touches.settle _)
  refine leads_of_exec hexec ⟨?_, ?_, ?_⟩
  · rw [lastReply_settle]
    exact lastReply_sendReply d d.typ _ _ _ (early_session hd.checks)
  · rw [(hz.boot rfl), fire_boot, ← hboot]
    rfl
  · rw [(hz.sticky rfl)]
    exact sticky_fire_same ..

end

/-! ### ZCP_FW_ACCEPT -/

/-- The boot record once a trial is accepted (R579, R587). -/
def BootS.accepted (b : BootS) : BootS :=
  { b with
    trial := false
    trialFlag := false
    floor := match b.images.getD b.running none with
      | some i => max b.floor i.security
      | none => b.floor }

theorem raiseFloor_of_no_trial {s : State} (h : s.boot.trial = false) : raiseFloor s = { s with boot := { s.boot with
    floor := match s.boot.images.getD s.boot.running none with
      | some i => max s.boot.floor i.security
      | none => s.boot.floor } } := by
  unfold raiseFloor
  generalize s.boot.images.getD s.boot.running none = image
  cases image with
  | none => rfl
  | some i => exact if_neg (ne_true_of_eq_false h)

theorem fwAccept_eq (c : Ctx) (s : State) : fwAccept c s =
    answer rOk [] (if s.boot.trial then { s with boot := s.boot.accepted } else s) := by
  unfold fwAccept
  rw [raiseFloor_of_no_trial rfl]
  rfl

/-- Settles O14. -/
theorem firmwareInstallAndAccept : Obligations.FirmwareInstallAndAccept := by
  refine ⟨fun t d slot s => fun hd hlen => ⟨fun i hslot hrun himage => ⟨?writes, zcpFwInstall_fails hd hlen hslot hrun himage⟩,
    fun flash hslot hrun hnone => ?none, fun flash hslot hrun => ?busy, fun flash hslot => ?bad⟩,
    fun t d image s => fun hd hlen => ⟨fun himage => ?boot, fun himage => ?range⟩, fun t d s => fun hd hlen => ?accept⟩
  case writes =>
    have hsound := sound_of_stagedImage himage
    have hwrites := zcpFwInstall_writes hd hlen hslot hrun himage
    rw [BootS.written, hsound] at hwrites
    exact hwrites
  case none =>
    exact zcpFwInstall_refuses hd hlen fun y hy => fwInstall_of_none hslot ((boot_of_restZ hy).symm ▸ hrun)
      ((stagedImage_of_restZ hy).trans hnone)
  case busy =>
    exact zcpFwInstall_refuses hd hlen fun y hy => fwInstall_of_running hslot ((boot_of_restZ hy).symm ▸ hrun)
  case bad => exact zcpFwInstall_refuses hd hlen fun y _ => fwInstall_of_no_slot hslot
  case boot =>
    refine answers_of (body := laid (fwSetBoot image)) rfl hd (by decide) fun y hy => ⟨[], _, ?_,
      restZ_of_boot_map hy fun b => { b with preferred := image, trialFlag := image != b.running }⟩
    rw [laid_of_length _ (by rw [show d.ctx.payload = d.payload from rfl, show d.ctx.typ = d.typ from rfl, hlen, hd.typ]),
      fwSetBoot, if_neg (Nat.not_lt.2 himage)]
  case range =>
    refine answers_refuse (body := laid (fwSetBoot image)) rfl hd (by decide) fun y _ => ?_
    rw [laid_of_length _ (by rw [show d.ctx.payload = d.payload from rfl, show d.ctx.typ = d.typ from rfl, hlen, hd.typ]),
      fwSetBoot, if_pos himage]
  case accept =>
    refine answers_of_sized (body := fwAccept) rfl hd (by decide) hlen fun y hy => ⟨[], _, fwAccept_eq .., ?_⟩
    rw [boot_of_restZ hy]
    split
    · exact restZ_of_boot hy _
    · exact hy

end Sys2Proof.Machine
end

section
/-! What polders that change, retire or are planned touch, and the stages of a boot (R111, R122, R443, R544, R575). -/

namespace Sys2Proof.Machine

open Touches (refl ite of_fields foldl)

section
variable (s : State)

/-! ### Polders (R108 to R124, R544 to R547) -/

theorem retireRing_touches (ring : Nat) : Touches ringParts s (retireRing ring s) := by
  unfold retireRing
  extract_lets src s1
  have hs1 : Touches [.data] s s1 := of_fields rfl
  clear_value s1
  exact ite (refl s) ((hs1.trans ((Touches.fire s1 _).trans (switchOff_touches _ ring) rfl
    (n := .sticky :: .episodes :: .power :: unitParts)) rfl (n := ringParts)).next (ringLost_touches _ ring))

theorem ringShort_touches (ring : Nat) : Touches ringParts s (ringShort ring s) :=
  ite (retireRing_touches s ring) ((Touches.fire s _).trans (capacityChanged_touches _ ..) rfl)

theorem paceReadmit_touches (ring pace : Nat) : Touches [.plan] s (paceReadmit ring pace s) :=
  ite (refl s) (readmit_touches s)

theorem retirePolder_touches (n : Nat) : Touches ringParts s (retirePolder n s) := by
  unfold retirePolder
  extract_lets ring x s1
  have hs1 : Touches [.data, .sticky, .episodes] s s1 := (setPolder_touches n _ s).trans (Touches.fire _ _) rfl
  clear_value s1
  split
  · exact (hs1.trans (setPolder_touches _ _ s1) rfl (n := [.data, .sticky, .episodes])).trans (paceReadmit_touches _ _ _) rfl
  · exact (hs1.trans (setPolder_touches _ _ s1) rfl (n := [.data, .sticky, .episodes])).trans (ringShort_touches _ _) rfl

theorem applyChange_touches (n : Nat) : Touches [.data, .plan] s (applyChange n s) := by
  unfold applyChange
  extract_lets x
  split
  · exact refl s
  · exact (setPolder_touches n _ s).trans (paceReadmit_touches _ _ _) rfl

theorem setStep_touches (n k : Nat) : Touches [.data] s (setStep n k s) := ite (refl s) (setPolder_touches n _ s)

theorem reportRows_touches (n : Nat) (new : List Nat) (count : Nat) :
    Touches [.sticky, .episodes] s (reportRows n new count s) := by
  induction new generalizing count s with
  | nil => exact refl s
  | cons r rest ih => exact ((Touches.raise s ..).trans (Touches.fire _ _) rfl (n := [.sticky, .episodes])).next (ih ..)

theorem rowTest_touches (n : Nat) (fails : List Nat) : Touches [.data, .sticky, .episodes] s (rowTest n fails s) := by
  unfold rowTest
  extract_lets new src x s1 base
  have hs1 : Touches [] s s1 := Touches.count s ..
  clear_value s1
  refine ite (hs1.trans (setPolder_touches n _ s1) rfl) (ite (hs1.trans (setPolder_touches n _ s1) rfl) ?_)
  exact (hs1.trans (setPolder_touches n _ s1) rfl (n := [.data])).trans (reportRows_touches _ ..) rfl

theorem setGauges_touches (g : Sparse Nat) : Touches [.gauges] s { s with fault := { s.fault with gauges := g } } := of_fields rfl

theorem restartGauges_touches (n : Nat) (m : Option (Int × Int)) : Touches [.gauges] s (restartGauges n m s) :=
  foldl (fun x _ => setGauges_touches x _) _ s

theorem planPolder_touches (l : PlannerIn) (n old : Nat) :
    Touches [.data, .sticky, .episodes, .gauges] s (planPolder l n old s) := by
  unfold planPolder
  extract_lets e need cap s1 least y s2 new listed s3
  have hs1 : Touches [] s s1 := (Touches.count s ..).next (Touches.count _ ..)
  have hs2 : Touches [.data, .sticky, .episodes] s1 s2 := by
    dsimp only [s2]
    split
    · exact (setStep_touches s1 ..).mono rfl
    · exact ite (rowTest_touches s1 ..) ((rowTest_touches s1 ..).trans (setStep_touches _ ..) rfl)
  have hs3 : Touches [.gauges] s2 s3 := restartGauges_touches s2 ..
  clear_value s1 s2 s3
  have hall : Touches [.data, .sticky, .episodes, .gauges] s s3 := hs1.trans (hs2.trans hs3 rfl (n := [.data, .sticky, .episodes, .gauges])) rfl
  exact ite ((hall.trans ((Touches.count s3 ..).trans (Touches.fire _ _) rfl (n := [.sticky, .episodes])) rfl).report
    (Touches.raise _ ..)) hall

/-! ### The stages of a boot (R443, R575 to R579) -/

theorem setPar_touches (i : Item) (inst elem v : Nat) : Touches [.force, .canal] s (setPar i inst elem v s) := of_fields rfl

theorem resetModuleId_touches : Touches [.force, .canal, .pend] s (resetModuleId s) :=
  (setPar_touches s ..).trans (of_fields (l := [.pend]) (by exact rfl)) rfl

theorem advance_touches (t : Nat) : Touches [.clock] s (advance t s) := by
  unfold advance
  extract_lets t' src s1 src2
  have hs1 : Touches [.clock] s s1 := of_fields rfl
  exact ite (hs1.next (of_fields rfl)) hs1

theorem applyProg_touches (n : Nat) (mode : OutMode) (p : Prog) : Touches [.outs] s (applyProg n mode p s) := by
  unfold applyProg
  extract_lets o tide notBefore first p' keep o' s1
  have hs1 : Touches [.outs] s s1 := setOut_touches s n o'
  clear_value s1
  exact ite hs1 (hs1.next (drive_touches s1 ..))

theorem startOutputs_touches : Touches [.outs] s (startOutputs s) := by
  unfold startOutputs
  extract_lets s1
  have hs1 : Touches [.outs] s s1 := foldl (fun x n => drive_touches x n _ _) _ s
  clear_value s1
  generalize heldProg 8 s1 = q
  obtain ⟨mode, p⟩ := q
  exact hs1.next (applyProg_touches s1 ..)

theorem startLogic_touches (kind : Nat) (b : BootIn) :
    Touches [.faults, .boot, .clock, .refs, .outs] s (startLogic kind b s) := by
  unfold startLogic
  extract_lets src src2 s1 s2 src3 s3
  have hs1 : Touches [.faults, .boot] s s1 := (of_fields (l := [.faults, .boot]) (by exact rfl)).report (Touches.bbWrite _ ..)
  have hs2 : Touches [.clock] s1 s2 := advance_touches s1 _
  have hs3 : Touches [.boot] s2 s3 := of_fields rfl
  clear_value s1 s2 s3
  refine (hs1.trans (hs2.trans hs3 rfl (n := [.clock, .boot])) rfl (n := [.faults, .boot, .clock])).trans ?_ rfl
    (m := [.refs, .outs])
  exact (of_fields (l := [.refs]) (by exact rfl)).trans (startOutputs_touches _) rfl

theorem dropIncomplete_touches : Touches [.faults, .sticky, .episodes] s (dropIncomplete s) := by
  unfold dropIncomplete
  extract_lets bad
  exact ite ((of_fields (l := [.faults]) (by exact rfl)).trans (Touches.fire _ _) rfl) (refl s)

theorem bootSteps_touches (k n bin : Nat) : Touches [.sticky, .episodes] s (bootSteps k n bin s) := by
  induction n generalizing bin s with
  | zero => exact refl s
  | succ n ih =>
    exact (((Touches.count s ..).next (Touches.raise _ ..)).trans (Touches.fire _ _) rfl (n := [.sticky, .episodes])).next
      (ih ..)

theorem setMem_touches (m : MemS) : Touches [.mem] s { s with mem := m } := of_fields rfl

theorem setStack_touches (k : Nat) (x : StackS) : Touches [.mem] s (setStack k x s) := of_fields rfl

theorem trainStack_touches (b : BootIn) (k : Nat) : Touches [.mem, .sticky, .episodes] s (trainStack b s k) := by
  unfold trainStack
  extract_lets top bin
  exact ite ((setStack_touches s k _).mono rfl) ((setStack_touches s k _).trans (bootSteps_touches _ ..) rfl)

theorem placeReserve_touches : Touches [.mem] s (placeReserve s) := by
  unfold placeReserve
  extract_lets base
  clear_value base
  exact ite (refl s) (of_fields rfl)

theorem trainDram_touches (b : BootIn) : Touches [.mem, .sticky, .episodes] s (trainDram b s) := by
  unfold trainDram
  extract_lets s1 bad src s2 src2 s3
  have hs1 : Touches [.mem, .sticky, .episodes] s s1 := foldl (trainStack_touches · b) _ s
  have hs2 : Touches [.mem] s1 s2 := setMem_touches s1 _
  have hs3 : Touches [.mem] s2 s3 := setMem_touches s2 _
  clear_value s1 s2 s3
  refine (hs1.trans (hs2.next (hs3.next (placeReserve_touches s3))) rfl (n := [.mem, .sticky, .episodes])).trans
    (foldl (l := [.sticky, .episodes]) (fun x c => ?_) bad _) rfl
  exact (Touches.raise x ..).trans (Touches.fire _ _) rfl

/-- What the margin stage may change. -/
def marginParts : List Part := .gauges :: ringParts

theorem bootPolder_touches (l : PlannerIn) (n : Nat) : Touches marginParts s (bootPolder l s n) := by
  unfold bootPolder
  extract_lets s1 src
  have hs1 : Touches [.data, .sticky, .episodes, .gauges, .plan] s s1 :=
    (planPolder_touches s ..).trans (applyChange_touches _ n) rfl
  clear_value s1
  exact ite (refl s) (ite (hs1.trans ((of_fields (l := [.data]) (by exact rfl)).trans (retirePolder_touches _ n) rfl (n := ringParts)) rfl) (hs1.mono rfl))

theorem bootMargin_touches (b : BootIn) : Touches marginParts s (bootMargin b s) :=
  (of_fields (l := [.gauges]) (by exact rfl)).trans (foldl (bootPolder_touches · b.planner) _ _) rfl

theorem setHostLink_touches (port : Nat) (up : Bool) : Touches [.hostLinks, .refs] s (setHostLink port up s) := by
  unfold setHostLink
  extract_lets l l1 src s0 s1
  have hs0 : Touches [.refs] s s0 := ite (of_fields rfl) (refl s)
  have hs1 : Touches [.hostLinks] s0 s1 := of_fields rfl
  clear_value s0 s1
  exact ite (refl s) ((hs0.trans hs1 rfl).report (Touches.raise s1 ..))

theorem bootLinks_touches (b : BootIn) :
    Touches [.power, .ingressLinks, .hostLinks, .refs] s (bootLinks b s) := by
  unfold bootLinks
  extract_lets s1 up s2 s3
  have hs1 : Touches [.power] s s1 := foldl (fun x _ => Touches.set_power x _) _ s
  have hs2 : Touches [.ingressLinks, .hostLinks] s1 s2 := of_fields rfl
  have hs3 : Touches [] s2 s3 := foldl (fun x p => Touches.raise x ..) up s2
  clear_value s1 s2 s3
  exact (hs1.trans (hs2.report hs3) rfl (n := [.power, .ingressLinks, .hostLinks])).trans
    (foldl (fun x p => setHostLink_touches x p _) _ s3) rfl

theorem reportFlushes_touches : Touches [.faults] s (reportFlushes s) := by
  refine (of_fields (l := [.faults]) (by exact rfl)).report (foldl (fun x k => ?_) _ _)
  split
  · exact Touches.raise x ..
  · exact refl x

theorem raiseFloor_touches : Touches [.boot] s (raiseFloor s) := by
  unfold raiseFloor
  split
  · exact ite (refl s) (of_fields rfl)
  · exact refl s

theorem coresReady_touches : Touches [.cores] s (coresReady s) := of_fields rfl

/-- What the step to READY may change. -/
def readyParts : List Part := [.clock, .power, .boot, .gauges, .egress, .hostLinks, .cores, .sticky, .episodes, .faults]

theorem reachReady_touches (fallback : Bool) (ms : Nat) : Touches readyParts s (reachReady fallback ms s) := by
  unfold reachReady
  extract_lets s1 s2 src src2 src3 src4 s3 s4
  have hs1 : Touches [.clock] s s1 := advance_touches s _
  have hs2 : Touches [.power] s1 s2 := of_fields rfl
  have hs3 : Touches [.boot, .power, .gauges, .egress, .hostLinks] s2 s3 := of_fields rfl
  have hs4 : Touches [.cores, .boot] s3 s4 := (coresReady_touches s3).trans (raiseFloor_touches _) rfl
  clear_value s1 s2 s3 s4
  have hall : Touches readyParts s s4 :=
    (hs1.trans hs2 rfl (n := [.clock, .power])).trans (hs3.trans hs4 rfl (n := readyParts)) rfl
  exact (ite (hall.trans (Touches.fire s4 _) rfl) hall).trans (reportFlushes_touches _) rfl

end

end Sys2Proof.Machine
end

section
/-! The cold boot (R566, R574 to R579). -/

namespace Sys2Proof.Machine

open Touches (refl ite of_fields foldl)

/-! ### The first steps of a boot -/

section
variable (kind : Nat) (b : BootIn) (s : State)

/-- The boot record once the logic has started (R575, R577). -/
theorem boot_startLogic : (startLogic kind b s).boot = { s.boot with
    lastReset := kind, startedAt := s.time.now, stage := .selftest, core0Ok := b.core0, core1Ok := b.core1 } := by
  unfold startLogic
  extract_lets src src2 s1 s2 src3 s3
  have hs1 : s1.boot = { s.boot with lastReset := kind, startedAt := s.time.now } := (Touches.bbWrite ..).boot rfl
  have hs2 : s2.boot = s1.boot := (advance_touches s1 _).boot rfl
  have hs3 : s3.boot = { s1.boot with stage := .selftest, core0Ok := b.core0, core1Ok := b.core1 } :=
    congrArg (fun v : BootS => { v with stage := .selftest, core0Ok := b.core0, core1Ok := b.core1 }) hs2
  rw [((startOutputs_touches _).boot rfl)]
  exact hs3.trans (by rw [hs1])

theorem bootCount_startLogic : (startLogic kind b s).fault.bootCount = (s.fault.bootCount + 1) % 2 ^ 32 := by
  unfold startLogic
  extract_lets src src2 s1 s2 src3 s3
  rw [((startOutputs_touches _).bootCount rfl)]
  have hs1 : s1.fault.bootCount = (s.fault.bootCount + 1) % 2 ^ 32 := (Touches.bbWrite ..).bootCount rfl
  exact ((advance_touches s1 _).bootCount rfl).trans hs1

theorem bootCount_dropIncomplete : (dropIncomplete s).fault.bootCount = s.fault.bootCount := by
  unfold dropIncomplete
  extract_lets bad
  split
  · exact (fire_fault_bootCount ..).trans rfl
  · rfl

theorem bootCount_reportFlushes : (reportFlushes s).fault.bootCount = s.fault.bootCount := by
  refine (foldl_keeps (π := fun x : State => x.fault.bootCount) (fun x k => ?_) _ _).trans rfl
  split
  · exact (Touches.raise x ..).bootCount rfl
  · rfl

/-! ### DRAM (R427, R443) -/

theorem mem_channelList {c : Nat} (hc : c < 128) (hfitted : stackFitted (c / 16) s = true)
    (hsound : c ∉ s.mem.retiredFlash) : c ∈ channelList s := by
  refine List.mem_flatMap.2 ⟨c % 16, List.mem_range.2 (Nat.mod_lt _ (by decide)), List.mem_filter.2 ⟨?_, ?_⟩⟩
  · exact List.mem_map.2 ⟨c / 16, List.mem_range.2 (by omega), by omega⟩
  · simp [hfitted, hsound]

theorem list_placeReserve : (placeReserve s).mem.list = s.mem.list := by
  unfold placeReserve
  extract_lets base
  split <;> rfl

theorem mem_insertAsc {x a : Nat} {l : List Nat} : x ∈ insertAsc a l ↔ x = a ∨ x ∈ l := by
  induction l with
  | nil => simp [insertAsc]
  | cons y r ih =>
    unfold insertAsc
    split
    · simp
    · rw [List.mem_cons, ih, List.mem_cons]
      exact or_left_comm

theorem mem_foldl_insertAsc {x : Nat} {as l : List Nat} :
    x ∈ as.foldl (fun l a => insertAsc a l) l ↔ x ∈ as ∨ x ∈ l := by
  induction as generalizing l with
  | nil => simp
  | cons a as ih => rw [List.foldl_cons, ih, mem_insertAsc, List.mem_cons, or_left_comm, or_assoc]

theorem mem_sortAsc {x : Nat} {l : List Nat} : x ∈ sortAsc l ↔ x ∈ l := by
  rw [sortAsc, mem_foldl_insertAsc]
  simp

theorem stackFitted_congr {x y : State} (h : y.boot.variant = x.boot.variant) (k : Nat) :
    stackFitted k y = stackFitted k x := by rw [stackFitted, h, stackFitted]

theorem retiredFlash_trainStack (k : Nat) : (trainStack b s k).mem.retiredFlash = s.mem.retiredFlash := by
  unfold trainStack
  extract_lets top bin
  split
  · rfl
  · exact (congrArg MemS.retiredFlash ((bootSteps_touches _ ..).mem rfl)).trans rfl

theorem retiredFlash_foldl_trainStack (ks : List Nat) :
    (ks.foldl (trainStack b) s).mem.retiredFlash = s.mem.retiredFlash :=
  foldl_keeps (π := fun x : State => x.mem.retiredFlash) (retiredFlash_trainStack b) ks s

theorem boot_foldl_trainStack (ks : List Nat) : (ks.foldl (trainStack b) s).boot = s.boot :=
  ((foldl (trainStack_touches · b) ks s).boot rfl)

/-- A channel that trains is in the list (R427). -/
theorem mem_list_trainDram {c : Nat} (hc : c < 128) (hfitted : stackFitted (c / 16) s = true)
    (hsound : c ∉ s.mem.retiredFlash) (htrains : c ∉ b.badChannels) : c ∈ (trainDram b s).mem.list := by
  have hflash := retiredFlash_foldl_trainStack b s (List.range 8)
  have hstacks := boot_foldl_trainStack b s (List.range 8)
  unfold trainDram
  generalize (List.range 8).foldl (trainStack b) s = y at hflash hstacks
  extract_lets s1 bad src s2 src2 s3
  have hs1 : s1.mem.retiredFlash = s.mem.retiredFlash := hflash
  have hboot : s2.boot = s.boot := hstacks
  have hbad : c ∉ bad := by
    rw [show bad = sortAsc _ from rfl, mem_sortAsc]
    exact fun h => htrains (List.mem_filter.1 (List.mem_eraseDups.1 h)).1
  have hs2 : c ∉ s2.mem.retiredFlash := by
    rw [show s2.mem.retiredFlash = bad.foldl (fun l c => insertAsc c l) s1.mem.retiredFlash from rfl, mem_foldl_insertAsc, hs1]
    exact fun h => h.elim hbad hsound
  have hlist : (placeReserve s3).mem.list = channelList s2 := list_placeReserve s3
  have hkeeps : ∀ (l : List Nat) (x : State),
      (l.foldl (fun x c => fire .dramChannelRetired (raise .memChannelRetired [c, capGiB x, 0] x)) x).mem.list = x.mem.list :=
    foldl_keeps (π := fun x : State => x.mem.list) fun x c => by rw [fire_mem, raise_mem]
  rw [hkeeps, hlist]
  exact mem_channelList s2 hc ((stackFitted_congr (congrArg BootS.variant hboot :) _).trans hfitted) hs2

/-! ### READY (R575, R579) -/

theorem raiseFloor_boot : ∃ f, (raiseFloor s).boot = { s.boot with floor := f } := by
  unfold raiseFloor
  split
  · split <;> exact ⟨_, rfl⟩
  · exact ⟨_, rfl⟩

/-- The boot record at READY. -/
theorem boot_reachReady (fallback : Bool) (ms : Nat) : ∃ r f, (reachReady fallback ms s).boot = { s.boot with
    stage := .ready, bootMs := ms % 2 ^ 32, readyAt := r
    trial := s.boot.trialFlag && s.boot.running == s.boot.preferred, floor := f } := by
  unfold reachReady
  extract_lets s1 s2 src src2 src3 src4 s3 s4
  have hs2 : s2.boot = s.boot := (advance_touches s _).boot rfl
  have hs3 : s3.boot = { s.boot with
      stage := .ready, bootMs := ms % 2 ^ 32, readyAt := s2.time.now
      trial := s.boot.trialFlag && s.boot.running == s.boot.preferred } :=
    congrArg (fun v : BootS => { v with
      stage := .ready, bootMs := ms % 2 ^ 32, readyAt := s2.time.now
      trial := v.trialFlag && v.running == v.preferred }) hs2
  obtain ⟨f, hs4⟩ : ∃ f, s4.boot = { s3.boot with floor := f } := raiseFloor_boot (coresReady s3)
  have hend : (reportFlushes (if fallback then fire .imageFallback s4 else s4)).boot = s4.boot :=
    (((ite (Touches.fire s4 _) (refl s4)).trans (reportFlushes_touches _) rfl (n := [.sticky, .episodes, .faults])).boot rfl)
  exact ⟨s2.time.now, f, by rw [hend, hs4, hs3]⟩

/-- Power at READY: PD39 is on and the pin is driven. -/
theorem power_reachReady (fallback : Bool) (ms : Nat) : (reachReady fallback ms s).power =
    { s.power with domains := s.power.domains.set 39 .on, readyPin := true } := by
  unfold reachReady
  extract_lets s1 s2 src src2 src3 src4 s3 s4
  have hs1 : s1.power = s.power := (advance_touches s _).power rfl
  have hs3 : s3.power = { s.power with domains := s.power.domains.set 39 .on, readyPin := true } :=
    congrArg (fun v : PowerS => { v with domains := v.domains.set 39 .on, readyPin := true }) hs1
  have hs4 : s4.power = s3.power := ((coresReady_touches s3).trans (raiseFloor_touches _) rfl (n := [.cores, .boot])).power rfl
  rw [← hs3, ← hs4]
  exact ((ite (Touches.fire s4 _) (refl s4)).trans (reportFlushes_touches _) rfl (n := [.sticky, .episodes, .faults])).power rfl

theorem bootCount_reachReady (fallback : Bool) (ms : Nat) :
    (reachReady fallback ms s).fault.bootCount = s.fault.bootCount := by
  unfold reachReady
  extract_lets s1 s2 src src2 src3 src4 s3 s4
  have hs3 : s3.fault.bootCount = s.fault.bootCount := (advance_touches s _).bootCount rfl
  have hs4 : s4.fault.bootCount = s3.fault.bootCount :=
    (((coresReady_touches s3).trans (raiseFloor_touches _) rfl (n := [.cores, .boot])).bootCount rfl)
  rw [bootCount_reportFlushes, ← hs3, ← hs4]
  exact (ite (l := [.sticky, .episodes]) (Touches.fire s4 _) (refl s4)).bootCount rfl

/-! ### The margin stage changes in power only the domains -/

theorem retireRing_dims (ring : Nat) : Dims s (retireRing ring s) := by
  unfold retireRing
  extract_lets src s1
  have hs1 : Dims s s1 := .of_power rfl fun _ => id
  split
  · exact .refl s
  · exact ((hs1.trans (.fire _ s1)).trans (.switchOff _ _)).trans (ringLost_dims _ _)

theorem ringShort_dims (ring : Nat) : Dims s (ringShort ring s) := by
  unfold ringShort
  split
  · exact retireRing_dims s ring
  · exact (Dims.fire _ s).trans (.of_touches (capacityChanged_touches _ ..) rfl)

theorem retirePolder_dims (n : Nat) : Dims s (retirePolder n s) := by
  unfold retirePolder
  extract_lets ring x s1
  have hs1 : Dims s s1 := (Dims.of_touches (setPolder_touches n _ s) rfl).trans (.fire _ _)
  clear_value s1
  have hset (k : Nat) (p : Polder) : Dims s (setPolder k p s1) := hs1.trans (.of_touches (setPolder_touches k p s1) rfl)
  split
  · exact (hset _ _).trans (.of_touches (paceReadmit_touches _ _ _) rfl)
  · exact (hset _ _).trans (ringShort_dims _ _)

theorem bootPolder_power (l : PlannerIn) (n : Nat) : ∃ ds, (bootPolder l s n).power = { s.power with domains := ds } := by
  unfold bootPolder
  extract_lets s1 src
  have hs1 : s1.power = s.power := ((planPolder_touches s ..).trans (applyChange_touches _ n) rfl
    (n := [.data, .sticky, .episodes, .gauges, .plan])).power rfl
  clear_value s1
  split
  · exact ⟨_, rfl⟩
  · split
    · exact (retirePolder_dims _ n).power.imp fun ds h => h.trans (hs1 ▸ rfl)
    · exact ⟨_, hs1⟩

theorem foldl_bootPolder_power (l : PlannerIn) (ns : List Nat) :
    ∃ ds, (ns.foldl (bootPolder l) s).power = { s.power with domains := ds } := by
  refine List.foldlRecOn ns _ (motive := fun x : State => ∃ ds, x.power = { s.power with domains := ds }) ⟨_, rfl⟩ ?_
  rintro x ⟨ds, hx⟩ n -
  obtain ⟨ds', h⟩ := bootPolder_power x l n
  exact ⟨ds', by rw [h, hx]⟩

theorem foldl_set_on_power (pds : List Nat) :
    ∃ ds, (pds.foldl (fun x pd => setDomain pd .on x) s).power = { s.power with domains := ds } := by
  refine List.foldlRecOn pds _ (motive := fun x : State => ∃ ds, x.power = { s.power with domains := ds }) ⟨_, rfl⟩ ?_
  rintro x ⟨ds, hx⟩ pd -
  exact ⟨(setDomain pd .on x).power.domains, by rw [show (setDomain pd .on x).power =
    { x.power with domains := (setDomain pd .on x).power.domains } from rfl, hx]⟩

theorem bootLinks_power : ∃ ds, (bootLinks b s).power = { s.power with domains := ds } := by
  obtain ⟨ds, hdomains⟩ := foldl_set_on_power s [34, 35, 36, 37, 38]
  refine ⟨ds, ?_⟩
  unfold bootLinks
  extract_lets s1 up s2 s3
  have hs3 : Touches [] s2 s3 := foldl (fun x p => Touches.raise x ..) up s2
  have hs2 : s2.power = { s.power with domains := ds } := hdomains
  clear_value s2 s3
  rw [(foldl (l := [.hostLinks, .refs]) (fun x p => setHostLink_touches x p _) _ s3).power rfl, hs3.power rfl, hs2]

/-! ### The trained module (R575, R579) -/

/-- The stages that follow the image check, but for READY. -/
def trained (b : BootIn) (s : State) : State := bootLinks b (bootMargin b (trainDram b s))

theorem trained_touches : Touches (.mem :: .ingressLinks :: .refs :: marginParts) s (trained b s) :=
  ((trainDram_touches s b).trans (bootMargin_touches _ b) rfl (n := .mem :: marginParts)).trans (bootLinks_touches _ b) rfl

theorem trained_power : ∃ ds, (trained b s).power = { s.power with domains := ds } := by
  obtain ⟨ds, hlinks⟩ := bootLinks_power b (bootMargin b (trainDram b s))
  obtain ⟨ds', hmargin⟩ := foldl_bootPolder_power
    { trainDram b s with fault := { (trainDram b s).fault with plannedAt := (trainDram b s).time.now } } b.planner
    (List.range 168)
  refine ⟨ds, hlinks.trans ?_⟩
  have hdram := (trainDram_touches s b).power rfl
  rw [show (bootMargin b (trainDram b s)).power = { (trainDram b s).power with domains := ds' } from hmargin, hdram]

/-- A module whose channels train comes to READY. -/
theorem bootStages_eq (fallback : Bool) (hstages : b.stageFails = false)
    (hchannel : ∃ c < 128, stackFitted (c / 16) s = true ∧ c ∉ s.mem.retiredFlash ∧ c ∉ b.badChannels) :
    bootStages fallback b s = reachReady fallback b.ms (trained b s) := by
  obtain ⟨c, hc, hfitted, hsound, htrains⟩ := hchannel
  have hmem := mem_list_trainDram b s hc hfitted hsound htrains
  have hlist : ¬ ((trainDram b s).mem.list.isEmpty ∨ b.stageFails = true) := by
    rw [hstages, List.isEmpty_iff]
    exact fun h => h.elim (fun hnil => List.not_mem_nil (hnil ▸ hmem)) Bool.false_ne_true
  exact if_neg hlist

/-- What the step to READY after the stages leaves of a boot. -/
structure Readied (b : BootIn) (x z : State) : Prop where
  boot : ∃ r f tr, z.boot = { x.boot with stage := .ready, bootMs := b.ms % 2 ^ 32, readyAt := r, trial := tr, floor := f }
  power : ∃ ds, z.power = { x.power with domains := ds, readyPin := true }
  egress : domain 39 z = .on
  bootCount : z.fault.bootCount = x.fault.bootCount

theorem readied_bootStages (fallback : Bool) (hstages : b.stageFails = false)
    (hchannel : ∃ c < 128, stackFitted (c / 16) s = true ∧ c ∉ s.mem.retiredFlash ∧ c ∉ b.badChannels) :
    Readied b s (bootStages fallback b s) := by
  rw [bootStages_eq b s fallback hstages hchannel]
  have htrained := trained_touches b s
  obtain ⟨ds, hdomains⟩ := trained_power b s
  obtain ⟨r, f, hboot⟩ := boot_reachReady (trained b s) fallback b.ms
  have hpower := power_reachReady (trained b s) fallback b.ms
  refine ⟨⟨r, f, _, hboot.trans (by rw [htrained.boot rfl])⟩, ⟨_, hpower.trans (by rw [hdomains])⟩, ?_,
    (bootCount_reachReady ..).trans (htrained.bootCount rfl)⟩
  rw [domain, hpower]
  exact RegFile.getD_set_same _ _ _ _ (by decide)

/-! ### Boots by their images (R577, R579) -/

theorem imageValid_congr {x y : State} (h : y.boot.images = x.boot.images ∧ y.boot.floor = x.boot.floor) (k : Nat) :
    imageValid k y = imageValid k x := by rw [imageValid, h.1, h.2, imageValid]

theorem coreFound_of {b : BootIn} {s : State} (hcores : b.core0 = true ∨ b.core1 = true)
    (hvariant : s.boot.variant = 1 ∨ s.boot.variant = 2) : coreFound b s = true := by
  rw [coreFound, Bool.and_eq_true_iff, Bool.or_eq_true_iff, Bool.or_eq_true_iff, beq_iff_eq, beq_iff_eq]
  exact ⟨hcores, hvariant⟩

theorem coreFound_of_none {b : BootIn} (h0 : b.core0 = false) (h1 : b.core1 = false) (s : State) :
    coreFound b s = false := by rw [coreFound, h0, h1]; rfl

/-- A channel that is fitted, in no retirement record, and trains. -/
def HasChannel (b : BootIn) (s : State) : Prop :=
  ∃ c < 128, stackFitted (c / 16) s = true ∧ c ∉ s.mem.retiredFlash ∧ c ∉ b.badChannels

theorem HasChannel.congr {b : BootIn} {x y : State} (h : HasChannel b x) (hvariant : y.boot.variant = x.boot.variant)
    (hflash : y.mem.retiredFlash = x.mem.retiredFlash) : HasChannel b y := by
  obtain ⟨c, hc, hfitted, hsound, htrains⟩ := h
  exact ⟨c, hc, (stackFitted_congr hvariant _).trans hfitted, hflash.symm ▸ hsound, htrains⟩

/-- A module that has come to READY under an image. -/
structure Ready (kind image : Nat) (fallback : Bool) (b : BootIn) (x z : State) : Prop where
  stage : z.boot.stage = .ready
  readyPin : z.power.readyPin = true
  resetN : z.power.resetN = x.power.resetN
  bootMs : z.boot.bootMs = b.ms % 2 ^ 32
  lastReset : z.boot.lastReset = kind
  running : z.boot.running = image
  preferred : z.boot.preferred = x.boot.preferred
  fallback : z.boot.fallback = fallback
  bootCount : z.fault.bootCount = x.fault.bootCount
  egress : domain 39 z = .on

/-- An image that starts on a module in its self-test and comes to READY. -/
theorem ready_bootStages (image : Nat) (fallback : Bool) (hstages : b.stageFails = false) (hchannel : HasChannel b s) :
    Ready s.boot.lastReset image fallback b s (bootStages fallback b (startImage image fallback (noteImages s))) := by
  obtain ⟨⟨r, f, tr, hboot⟩, ⟨ds, hpower⟩, hegress, hcount⟩ :=
    readied_bootStages b (startImage image fallback (noteImages s)) fallback hstages (hchannel.congr rfl rfl)
  exact ⟨(congrArg BootS.stage hboot :), (congrArg PowerS.readyPin hpower :), (congrArg PowerS.resetN hpower :),
    (congrArg BootS.bootMs hboot :), (congrArg BootS.lastReset hboot :), (congrArg BootS.running hboot :),
    (congrArg BootS.preferred hboot :), (congrArg BootS.fallback hboot :), hcount, hegress⟩

/-- The module whose logic has started at the release of its reset. -/
def started (kind : Nat) (b : BootIn) (s : State) : State :=
  startLogic kind b (resetModuleId { s with power := { s.power with slotId := b.slotId % 16 } })

theorem started_fields : (started kind b s).boot.lastReset = kind ∧
    (started kind b s).boot.preferred = s.boot.preferred ∧ (started kind b s).boot.variant = s.boot.variant ∧
    ((started kind b s).boot.images = s.boot.images ∧ (started kind b s).boot.floor = s.boot.floor) ∧
    (started kind b s).power.resetN = s.power.resetN ∧ (started kind b s).mem = s.mem ∧
    (started kind b s).fault.bootCount = (s.fault.bootCount + 1) % 2 ^ 32 := by
  have hstart := startLogic_touches (resetModuleId { s with power := { s.power with slotId := b.slotId % 16 } }) kind b
  rw [started, boot_startLogic, bootCount_startLogic, hstart.power rfl, hstart.mem rfl]
  exact ⟨rfl, rfl, rfl, ⟨rfl, rfl⟩, rfl, rfl, rfl⟩

/-- The module before its image starts: the logic has run its first steps and the slot that a flush left open is gone. -/
def selfTested (kind : Nat) (b : BootIn) (s : State) : State := dropIncomplete (started kind b s)

theorem selfTested_fields : (selfTested kind b s).boot.lastReset = kind ∧
    (selfTested kind b s).boot.preferred = s.boot.preferred ∧ (selfTested kind b s).boot.variant = s.boot.variant ∧
    ((selfTested kind b s).boot.images = s.boot.images ∧ (selfTested kind b s).boot.floor = s.boot.floor) ∧
    (selfTested kind b s).power.resetN = s.power.resetN ∧ (selfTested kind b s).mem = s.mem ∧
    (selfTested kind b s).fault.bootCount = (s.fault.bootCount + 1) % 2 ^ 32 := by
  have hdrop := dropIncomplete_touches (started kind b s)
  rw [selfTested, hdrop.boot rfl, hdrop.power rfl, hdrop.mem rfl, bootCount_dropIncomplete]
  exact started_fields kind b s

theorem coreFound_congr {x y : State} (h : y.boot.variant = x.boot.variant) : coreFound b y = coreFound b x := by
  rw [coreFound, h, coreFound]

/-- How a boot with a core goes on once the images are noted. -/
def bootImages (b : BootIn) (s : State) : State :=
  if !imageValid s.boot.preferred s then fallbackBoot b s
  else if b.imageReady s.boot.preferred then
    bootStages false b (startImage s.boot.preferred false s)
  else startImage s.boot.preferred false s

theorem coldBoot_of_core (hcore : coreFound b s = true) :
    coldBoot kind b s = bootImages b (noteImages (selfTested kind b s)) := by
  have hstart : coreFound b (started kind b s) = true :=
    (coreFound_congr b (started_fields kind b s).2.2.1).trans hcore
  unfold started at hstart
  unfold coldBoot selfTested started bootImages
  generalize startLogic kind b _ = y at *
  dsimp only
  rw [hstart, if_neg (by exact Bool.false_ne_true)]
  rfl

theorem bootImages_of_image (himage : imageValid s.boot.preferred s = true)
    (hready : b.imageReady s.boot.preferred = true) :
    bootImages b s = bootStages false b (startImage s.boot.preferred false s) := by
  rw [bootImages, himage, if_neg (by exact Bool.false_ne_true), if_pos hready]

/-- A boot whose preferred image is sound (R575). -/
theorem coldBoot_of_image (hcore : coreFound b s = true) (himage : imageValid s.boot.preferred s = true)
    (hready : b.imageReady s.boot.preferred = true) : coldBoot kind b s =
      bootStages false b (startImage s.boot.preferred false (noteImages (selfTested kind b s))) := by
  obtain ⟨_, hpreferred, _, himages, _⟩ := selfTested_fields kind b s
  have hvalid := (imageValid_congr himages s.boot.preferred).trans himage
  rw [coldBoot_of_core kind b s hcore]
  generalize selfTested kind b s = y at *
  have hpref : (noteImages y).boot.preferred = s.boot.preferred := hpreferred
  rw [← hpref] at hvalid hready ⊢
  exact bootImages_of_image b (noteImages y) hvalid hready

/-- A boot with no core fails (R577). -/
theorem coldBoot_of_no_core (h0 : b.core0 = false) (h1 : b.core1 = false) : coldBoot kind b s = bootFails (started kind b s) :=
  if_pos (by rw [coreFound_of_none h0 h1]; rfl)

/-- What the fallback starts from. -/
def fallenBack (b : BootIn) (s : State) : State := startLogic 5 b (coldState true 5 s)

theorem boot_coldState (ring : Bool) : (coldState ring kind s).boot.lastReset = kind ∧
    (coldState ring kind s).boot.preferred = (trialReset s.boot).preferred ∧
    (coldState ring kind s).boot.variant = (trialReset s.boot).variant ∧
    (coldState ring kind s).mem.retiredFlash = s.mem.retiredFlash ∧
    (coldState ring kind s).fault.bootCount = s.fault.bootCount := ⟨rfl, rfl, rfl, rfl, rfl⟩

theorem fallenBack_fields : (fallenBack b s).boot.lastReset = 5 ∧
    (fallenBack b s).boot.preferred = (trialReset s.boot).preferred ∧ (fallenBack b s).boot.variant = s.boot.variant ∧
    (fallenBack b s).mem.retiredFlash = s.mem.retiredFlash ∧
    (fallenBack b s).fault.bootCount = (s.fault.bootCount + 1) % 2 ^ 32 := by
  obtain ⟨_, hpreferred, hvariant, hflash, hcount⟩ := boot_coldState 5 s true
  unfold fallenBack
  generalize coldState true 5 s = y at *
  rw [boot_startLogic, bootCount_startLogic, hcount, (startLogic_touches y 5 b).mem rfl]
  exact ⟨rfl, hpreferred, hvariant.trans (trialReset_images s.boot).2.2, hflash, rfl⟩

theorem fallbackBoot_of_unsound (h : imageValid (1 - s.boot.preferred) s = false) :
    fallbackBoot b s = bootFails (noteImages s) := if_pos (by rw [h]; rfl)

theorem fallbackBoot_of_no_core (himage : imageValid (1 - s.boot.preferred) s = true) (h0 : b.core0 = false)
    (h1 : b.core1 = false) : fallbackBoot b s = bootFails (fallenBack b s) := by
  unfold fallbackBoot
  extract_lets other s1
  rw [if_neg (by rw [himage]; exact Bool.false_ne_true), if_pos (by rw [coreFound_of_none h0 h1]; rfl)]
  rfl

theorem fallbackBoot_of_image (himage : imageValid (1 - s.boot.preferred) s = true) (hcore : coreFound b s = true)
    (hready : b.imageReady (1 - s.boot.preferred) = true) : fallbackBoot b s =
      bootStages true b (startImage (1 - s.boot.preferred) true (noteImages (fallenBack b s))) := by
  have hstart : coreFound b (fallenBack b s) = true := (coreFound_congr b (fallenBack_fields b s).2.2.1).trans hcore
  unfold fallbackBoot
  extract_lets other s1 s2
  rw [if_neg (by rw [himage]; exact Bool.false_ne_true),
    if_neg (by rw [show s1 = fallenBack b s from rfl, hstart]; exact Bool.false_ne_true), if_pos hready]
  rfl

end

theorem Ready.settle {kind image : Nat} {fallback : Bool} {b : BootIn} {x z : State} (h : Ready kind image fallback b x z) :
    Ready kind image fallback b x (settle z) := by
  have hz := Touches.settle z
  obtain ⟨hstage, hpin, hlevel, hms, hlast, hrunning, hpreferred, hfallback, hcount, hegress⟩ := h
  have hboot := hz.boot rfl
  have hpower := hz.power rfl
  exact ⟨hboot.symm ▸ hstage, hpower.symm ▸ hpin, hpower.symm ▸ hlevel, hboot.symm ▸ hms, hboot.symm ▸ hlast,
    hboot.symm ▸ hrunning, hboot.symm ▸ hpreferred, hboot.symm ▸ hfallback, (hz.bootCount rfl).trans hcount,
    (hz.domain 39 rfl).trans hegress⟩

/-! ### The rows -/

theorem exec_resetNDeassert (t : Nat) (b : BootIn) (s : State) : exec (.resetNDeassert t b) s = act t (fun x =>
    if x.power.stageOn ∧ x.boot.stage = .power then
      coldBoot x.boot.lastReset b { x with power := { x.power with resetN := true } }
    else { x with power := { x.power with resetN := true } }) s := rfl

theorem exec_imageReadyTimeout (t : Nat) (b : BootIn) (s : State) : exec (.imageReadyTimeout t b) s = act t
    (onlyIf (fun x => x.boot.stage == .image && !x.boot.fallback && decide (x.boot.imageAt + secT 10 ≤ x.time.now))
      (fallbackBoot b)) s := rfl

theorem exec_fwTrialExpiry (t : Nat) (b : BootIn) (s : State) : exec (.fwTrialExpiry t b) s = act t
    (onlyIf (fun x => x.boot.stage == .ready && x.boot.trial && decide (x.boot.readyAt + secT 600 ≤ x.time.now))
      (warmReset b)) s := rfl

theorem imageLate_of {x : State} (himage : x.boot.stage = .image) (hfirst : x.boot.fallback = false)
    (hlate : x.boot.imageAt + secT 10 ≤ x.time.now) :
    (x.boot.stage == .image && !x.boot.fallback && decide (x.boot.imageAt + secT 10 ≤ x.time.now)) = true :=
  Bool.and_eq_true_iff.2 ⟨Bool.and_eq_true_iff.2 ⟨beq_iff_eq.2 himage, (congrArg not hfirst :)⟩, decide_eq_true hlate⟩

/-- Settles O12: each boot is followed from its self-test through its image to `Ready`, or to where it fails. -/
theorem bootReachesReadyOrFails : Obligations.BootReachesReadyOrFails := by
  refine ⟨fun t b s => fun hstage hpower hcores hvariant _ himage hready hstages hchannel => ?ready,
    fun t b s => fun hstage hpower h0 h1 => ?none, fun t b s => fun hoff => ?level, fun t b s => fun hearly => ?soon,
    fun t b s => fun himage hfirst hlate => ⟨fun hother => ?fails, fun hother h0 h1 => ?dead,
      fun hother hcores hvariant hready hstages hchannel => ?falls⟩, fun t b s => fun hstage htrial hearly => ?trial⟩
  case ready =>
    refine leads_act (exec_resetNDeassert t b s) ?_
    rw [if_pos ⟨hstage, hpower⟩]
    generalize advance t s = x at *
    have hy : coreFound b { x with power := { x.power with resetN := true } } = true := coreFound_of hcores hvariant
    rw [coldBoot_of_image _ b { x with power := { x.power with resetN := true } } hy himage hready]
    obtain ⟨hlast, hpreferred, hvariant', _, hlevel, hmem, hcount⟩ :=
      selfTested_fields x.boot.lastReset b { x with power := { x.power with resetN := true } }
    have hz := (ready_bootStages b (selfTested x.boot.lastReset b { x with power := { x.power with resetN := true } })
      x.boot.preferred false hstages (HasChannel.congr hchannel hvariant' (congrArg MemS.retiredFlash hmem :))).settle
    exact ⟨hz.stage, hz.readyPin, hz.resetN.trans hlevel, hz.bootMs, hz.lastReset.trans hlast, hz.running,
      hz.preferred.trans hpreferred, hz.fallback, hz.bootCount.trans hcount, hz.egress⟩
  case none =>
    refine leads_act (exec_resetNDeassert t b s) ?_
    rw [if_pos ⟨hstage, hpower⟩]
    generalize advance t s = x at *
    rw [coldBoot_of_no_core _ b _ h0 h1]
    obtain ⟨_, _, _, _, hlevel, _, hcount⟩ := started_fields x.boot.lastReset b { x with power := { x.power with resetN := true } }
    generalize started x.boot.lastReset b _ = y at *
    have hz := Touches.settle (bootFails y)
    exact ⟨(congrArg BootS.stage (hz.boot rfl) :), (congrArg PowerS.readyPin (hz.power rfl) :),
      (congrArg PowerS.resetN (hz.power rfl) :).trans hlevel, (hz.bootCount rfl).trans hcount⟩
  case level =>
    refine does_act (exec_resetNDeassert t b s) ?_
    rw [if_neg fun h => hoff.elim (ne_true_of_eq_false · h.1) (· h.2)]
    exact .rfl' _
  case soon =>
    refine does_onlyIf_of_not (exec_imageReadyTimeout t b s) ?_
    rw [decide_eq_false (Nat.not_le.2 hearly), Bool.and_false]
  case fails =>
    refine does_onlyIf (exec_imageReadyTimeout t b s) (imageLate_of himage hfirst hlate) ?_
    rw [fallbackBoot_of_unsound b _ hother]
    exact .rfl' _
  case dead =>
    refine leads_onlyIf (exec_imageReadyTimeout t b s) (imageLate_of himage hfirst hlate) ?_
    rw [fallbackBoot_of_no_core b _ hother h0 h1]
    obtain ⟨hlast, hpreferred, _, _, hcount⟩ := fallenBack_fields b (advance t s)
    generalize fallenBack b (advance t s) = y at *
    have hz := Touches.settle (bootFails y)
    have hboot := hz.boot rfl
    exact ⟨(congrArg BootS.stage hboot :), (congrArg BootS.lastReset hboot :).trans hlast,
      (congrArg BootS.preferred hboot :).trans hpreferred, (hz.bootCount rfl).trans hcount⟩
  case falls =>
    refine leads_onlyIf (exec_imageReadyTimeout t b s) (imageLate_of himage hfirst hlate) ?_
    rw [fallbackBoot_of_image b _ hother (coreFound_of hcores hvariant) hready]
    obtain ⟨hlast, _, hvariant', hflash, _⟩ := fallenBack_fields b (advance t s)
    have hz := (ready_bootStages b (fallenBack b (advance t s)) (1 - (advance t s).boot.preferred) true hstages
      (HasChannel.congr hchannel hvariant' hflash)).settle
    exact ⟨hz.stage, hz.lastReset.trans hlast, hz.running, hz.fallback, hz.readyPin⟩
  case trial =>
    refine does_onlyIf_of_not (exec_fwTrialExpiry t b s) ?_
    rw [decide_eq_false (Nat.not_le.2 hearly), Bool.and_false]

end Sys2Proof.Machine
end

section
/-! The warm reset (R581, R587): what it puts back, what it keeps, and its way to READY. -/

namespace Sys2Proof.Machine

open Touches (refl ite of_fields foldl)

/-! ### Sessions that only close -/

/-- Every session keeps its long-term key, and none opens. -/
structure Closing (x z : State) : Prop where
  longKey : ∀ j, (session j z).longKey = (session j x).longKey
  closed : ∀ j, (session j x).isOpen = false → (session j z).isOpen = false

section
variable {x y z : State}

theorem Closing.refl (x : State) : Closing x x := ⟨fun _ => rfl, fun _ => id⟩

theorem Closing.trans (h : Closing x y) (h' : Closing y z) : Closing x z :=
  ⟨fun j => (h'.longKey j).trans (h.longKey j), fun j hj => h'.closed j (h.closed j hj)⟩

theorem Closing.of_touches {l : List Part} (h : Touches l x z) (hl : Part.listed .sessions l = false) : Closing x z :=
  ⟨fun j => (congrArg Session.longKey (h.session j hl) :), fun j hj => (congrArg Session.isOpen (h.session j hl) :).trans hj⟩

theorem Closing.foldl {α : Type} {f : State → α → State} (hf : ∀ s a, Closing s (f s a)) (as : List α) (s : State) :
    Closing s (as.foldl f s) :=
  as.foldlRecOn f (.refl s) fun _ h a _ => h.trans (hf _ a)

theorem Closing.sendReply (k seq typ code : Nat) (b : List Byte) (s : State) : Closing s (sendReply k seq typ code b s) :=
  ⟨fun j => longKey_sendReply k j seq typ code b s, fun j hj => (isOpen_sendReply k j seq typ code b s).trans hj⟩

end

section
variable (s : State)

theorem completeSeq_closing (slot seq code : Nat) (body : List Byte) : Closing s (completeSeq slot seq code body s) := by
  unfold completeSeq
  split
  · exact .refl s
  next w _ =>
    exact (Closing.of_touches (l := [.waiting]) (of_fields (by exact rfl)) rfl).trans (.sendReply slot seq w.typ code body _)

theorem endBulk_closing (slot id : Nat) (st : BulkState) : Closing s (endBulk slot id st s) := by
  unfold endBulk
  split
  · exact .refl s
  next b _ =>
    exact ((Closing.of_touches (setBulk_touches s _) rfl).trans (.foldl (fun x c => completeSeq_closing x ..) b.closing _)).trans
      (.of_touches (Touches.raiseIn ..) rfl)

theorem dropBulks_touches (slot : Nat) : Touches [.bulks, .egress, .sessions, .waiting] s (dropBulks slot s) := by
  unfold dropBulks
  extract_lets mine s1
  have hs1 : Touches [.bulks, .sessions, .waiting] s s1 := foldl (fun x id => endBulk_touches x slot id .aborted) _ s
  exact hs1.trans (of_fields (l := [.bulks, .egress]) (by exact rfl)) rfl

theorem dropBulks_closing (slot : Nat) : Closing s (dropBulks slot s) := by
  unfold dropBulks
  extract_lets mine s1
  have hs1 : Closing s s1 := .foldl (fun x id => endBulk_closing x slot id .aborted) _ s
  exact hs1.trans (.of_touches (l := [.bulks, .egress]) (of_fields rfl) rfl)

theorem closeSession_touches (k cause : Nat) :
    Touches [.sessions, .waiting, .bulks, .egress] s (closeSession k cause s) := by
  unfold closeSession
  extract_lets s1 src s2 s3
  have hs2 : Touches [.sessions, .waiting] s s2 := of_fields rfl
  have hs3 : Touches [.bulks, .egress, .sessions, .waiting] s2 s3 := dropBulks_touches s2 k
  exact ite (refl s) ((hs2.trans hs3 rfl).report (Touches.raiseIn s3 ..))

theorem closeSession_closing (k cause : Nat) : Closing s (closeSession k cause s) := by
  unfold closeSession
  extract_lets s1 src s2 s3
  have hs1 : Closing s s1 := by
    refine ⟨fun j => ?_, fun j hj => ?_⟩ <;> (rw [show s1 = setSession k Session.closed s from rfl, session_setSession]; split)
    next h => rw [h.1]; rfl
    next => rfl
    next => rfl
    next => exact hj
  have hs2 : Closing s1 s2 := .of_touches (l := [.waiting]) (of_fields rfl) rfl
  split
  · exact .refl s
  · exact ((hs1.trans hs2).trans (dropBulks_closing s2 k)).trans (.of_touches (Touches.raiseIn s3 ..) rfl)

theorem isOpen_closeSession {k : Nat} (hk : k < 4) (cause : Nat) : (session k (closeSession k cause s)).isOpen = false := by
  cases hopen : (session k s).isOpen with
  | false => exact (closeSession_closing s k cause).closed k hopen
  | true => exact (closeSession_closes hk hopen cause).2.closed

theorem closeAll_touches (cause : Nat) : Touches [.sessions, .waiting, .bulks, .egress] s (closeAll cause s) :=
  foldl (fun x k => closeSession_touches x k cause) _ s

theorem closeAll_closing (cause : Nat) : Closing s (closeAll cause s) :=
  .foldl (fun x k => closeSession_closing x k cause) _ s

/-- Every session is closed at the end. -/
theorem isOpen_closeAll {k : Nat} (hk : k < 4) (cause : Nat) : (session k (closeAll cause s)).isOpen = false := by
  suffices h : ∀ (ks : List Nat) (x : State), k ∈ ks →
      (session k (ks.foldl (fun x k => closeSession k cause x) x)).isOpen = false from
    h _ s (by simp; omega)
  intro ks
  induction ks with
  | nil => exact fun _ h => absurd h List.not_mem_nil
  | cons j ks ih =>
    intro x hmem
    rcases List.mem_cons.1 hmem with rfl | hmem
    · exact (Closing.foldl (fun y i => closeSession_closing y i cause) ks _).closed k (isOpen_closeSession x hk cause)
    · exact ih _ hmem

/-! ### The units -/

/-- What a warm reset leaves of the parts that the boot after it does not touch. -/
structure Renewed (x z : State) : Prop where
  running : z.plan.running = none
  next : z.plan.next = none
  bulks : z.zcp.bulks = []
  waiting : z.zcp.waiting = []
  closed : ∀ k < 4, (session k z).isOpen = false
  longKey : ∀ k, (session k z).longKey = (session k x).longKey
  retiredFlash : z.mem.retiredFlash = x.mem.retiredFlash
  ringsRetired : z.data.ringsRetired = x.data.ringsRetired
  stopped : z.fault.stopped = []
  origin : z.time.origin = x.time.origin
  selected : z.time.selected = x.time.selected

/-- The parts that the boot after a warm reset touches. -/
def rebootParts : List Part := .outs :: .force :: .canal :: readyParts

theorem Renewed.touches {x y z : State} (h : Renewed x y) (h' : Touches rebootParts y z) : Renewed x z := by
  obtain ⟨hrunning, hnext, hbulks, hwaiting, hclosed, hkey, hflash, hrings, hstopped, horigin, hselected⟩ := h
  have hsessions := Closing.of_touches h' rfl
  have hplan := h'.plan rfl
  have hmem := h'.mem rfl
  have hdata := h'.data rfl
  have htime : z.time.held = y.time.held := h'.same .refs rfl
  exact ⟨hplan ▸ hrunning, hplan ▸ hnext, (h'.bulks rfl).trans hbulks, (h'.waiting rfl).trans hwaiting,
    fun k hk => hsessions.closed k (hclosed k hk), fun k => (hsessions.longKey k).trans (hkey k), hmem ▸ hflash,
    hdata ▸ hrings, Eq.trans (h'.same .stopped rfl) hstopped, (congrArg TimeS.origin htime :).trans horigin,
    (congrArg TimeS.selected htime :).trans hselected⟩

theorem Renewed.of_closing {x y z : State} (h : Renewed y z) (hkeys : Closing x y)
    (hflash : y.mem.retiredFlash = x.mem.retiredFlash) (hrings : y.data.ringsRetired = x.data.ringsRetired)
    (htime : y.time = x.time) : Renewed x z :=
  { h with
    longKey := fun k => (h.longKey k).trans (hkeys.longKey k)
    retiredFlash := h.retiredFlash.trans hflash
    ringsRetired := h.ringsRetired.trans hrings
    origin := h.origin.trans (congrArg TimeS.origin htime)
    selected := h.selected.trans (congrArg TimeS.selected htime) }

theorem ringsRetired_stopDies (stopped : Nat → Bool) (ds : List Nat) :
    (ds.foldl (fun x d => setDie d { die d x with stopped := stopped d } x) s).data.ringsRetired = s.data.ringsRetired :=
  foldl_keeps (π := fun x : State => x.data.ringsRetired)
    (f := fun x d => setDie d { die d x with stopped := stopped d } x) (fun _ _ => rfl) ds s

theorem stopDies_touches (stopped : Nat → Bool) (ds : List Nat) :
    Touches [.data] s (ds.foldl (fun x d => setDie d { die d x with stopped := stopped d } x) s) :=
  foldl (fun x d => setDie_touches x d _) ds s

theorem warmUnits_fields : (warmUnits s).plan.running = none ∧ (warmUnits s).plan.next = none ∧
    (warmUnits s).zcp.bulks = [] ∧ (warmUnits s).zcp.waiting = [] ∧ Closing s (warmUnits s) ∧
    (warmUnits s).mem.retiredFlash = s.mem.retiredFlash ∧ (warmUnits s).data.ringsRetired = s.data.ringsRetired ∧
    (warmUnits s).fault.stopped = (if pd38Gone s then [(7, 0)] else []) ∧ (warmUnits s).time = warmTime s ∧
    (warmUnits s).boot = s.boot ∧ (warmUnits s).fault.bootCount = s.fault.bootCount ∧
    ∀ pd < 34, domain pd (warmUnits s) = .off := by
  unfold warmUnits
  extract_lets r domains src src2 src3 src4 src5 src6 s1
  have hdies := stopDies_touches s1 (fun d => (List.range 6).all fun i => s.data.ringsRetired.contains (6 * d + i)) (List.range 4)
  have hrings := ringsRetired_stopDies s1 (fun d => (List.range 6).all fun i => s.data.ringsRetired.contains (6 * d + i)) (List.range 4)
  generalize (List.range 4).foldl _ s1 = z at *
  have hplan := hdies.plan rfl
  refine ⟨(congrArg PlanS.running hplan :), (congrArg PlanS.next hplan :), hdies.bulks rfl, hdies.waiting rfl,
    Closing.trans (y := s1) ⟨fun _ => rfl, fun _ => id⟩ (.of_touches hdies rfl), (congrArg MemS.retiredFlash (hdies.mem rfl) :), hrings, hdies.same .stopped rfl,
    hdies.time rfl, hdies.boot rfl, hdies.bootCount rfl, fun pd hpd => ?_⟩
  have hdomain : domain pd z = domain pd s1 := hdies.domain pd rfl
  have hoff : domain pd s1 = _ := RegFile.getD_ofFn _ pd _ (by omega)
  rw [hdomain, hoff]
  dsimp only
  rw [if_neg (by omega), if_neg (by omega)]

theorem gatesOff_touches : Touches [.outs] s (gatesOff s) := by
  refine foldl (fun x n => ?_) _ s
  extract_lets o
  exact ite ((setOut_touches x n _).next (drive_touches _ ..)) (refl x)

/-- The module whose units a warm reset has put back, before its boot. -/
def renewed (s : State) : State :=
  setPar .egressModuleId 0 0 s.power.slotId (gatesOff (warmUnits { s with boot := trialReset s.boot }))

/-- The module as its logic starts again. -/
def restarted (b : BootIn) (s : State) : State :=
  bbWrite 4 0 2 [] { s with
    boot := { s.boot with
      stage := .selftest, lastReset := 2, startedAt := s.time.now, core0Ok := b.core0, core1Ok := b.core1 }
    power := { s.power with readyPin := false } }

/-- The module at the start of a warm boot. -/
def rebooted (b : BootIn) (s : State) : State := restarted b (renewed (restoreJournal (closeAll 4 s)))

/-- A module as a warm reset leaves it, but for the stage of its boot. -/
structure Warmed (b : BootIn) (x z : State) : Prop where
  renewed : Renewed x z
  boot : ∃ t, z.boot = { trialReset x.boot with
    stage := .selftest, lastReset := 2, startedAt := t, core0Ok := b.core0, core1Ok := b.core1 }
  bootCount : z.fault.bootCount = x.fault.bootCount
  off : ∀ pd < 34, domain pd z = .off

theorem renewed_fields (hpd38 : pd38Gone s = false) (hshut : ∀ k < 4, (session k s).isOpen = false) :
    Renewed s (renewed s) ∧ (renewed s).boot = trialReset s.boot ∧
    (renewed s).fault.bootCount = s.fault.bootCount ∧ ∀ pd < 34, domain pd (renewed s) = .off := by
  obtain ⟨hrunning, hnext, hbulks, hwaiting, hsessions, hflash, hrings, hstopped, htime, hboot, hcount, hoff⟩ :=
    warmUnits_fields { s with boot := trialReset s.boot }
  have hgone : pd38Gone { s with boot := trialReset s.boot } = false := hpd38
  rw [hgone] at hstopped
  unfold renewed
  generalize warmUnits { s with boot := trialReset s.boot } = z at *
  have hz : Touches [.outs, .force, .canal] z (setPar .egressModuleId 0 0 s.power.slotId (gatesOff z)) :=
    (gatesOff_touches z).trans (setPar_touches _ ..) rfl
  have hy : Closing s z := Closing.trans (y := { s with boot := trialReset s.boot }) ⟨fun _ => rfl, fun _ => id⟩ hsessions
  have hwarm : Renewed s z := ⟨hrunning, hnext, hbulks, hwaiting, fun k hk => hy.closed k (hshut k hk), hy.longKey,
    hflash, hrings, hstopped, (congrArg TimeS.origin htime :), (congrArg TimeS.selected htime :)⟩
  exact ⟨hwarm.touches (hz.mono rfl), (hz.boot rfl).trans hboot, (hz.bootCount rfl).trans hcount,
    fun pd hpd => (hz.domain pd rfl).trans (hoff pd hpd)⟩

theorem restarted_touches (b : BootIn) : Touches [.boot, .power] s (restarted b s) :=
  (of_fields (l := [.boot, .power]) (by exact rfl)).report (Touches.bbWrite ..)

theorem restarted_fields (b : BootIn) : (restarted b s).boot = { s.boot with
      stage := .selftest, lastReset := 2, startedAt := s.time.now, core0Ok := b.core0, core1Ok := b.core1 } ∧
    ∀ pd, domain pd (restarted b s) = domain pd s := by
  have hset (v : BootS) (w : PowerS) := Touches.bbWrite { s with boot := v, power := w } 4 0 2 []
  exact ⟨(hset _ _).boot rfl, fun pd => (hset _ _).domain pd rfl⟩

theorem warmed_rebooted (b : BootIn) (hpd38 : pd38Gone s = false) : Warmed b s (rebooted b s) := by
  have hclose : Touches [.sessions, .waiting, .bulks, .egress, .force, .canal] s (restoreJournal (closeAll 4 s)) :=
    (closeAll_touches s 4).trans (restoreJournal_touches _) rfl
  have hjournal := Closing.of_touches (restoreJournal_touches (closeAll 4 s)) rfl
  have hkeys := (closeAll_closing s 4).trans hjournal
  have hshut (k : Nat) (hk : k < 4) := hjournal.closed k (isOpen_closeAll s hk 4)
  unfold rebooted
  generalize restoreJournal (closeAll 4 s) = y at *
  have hgone : pd38Gone y = false := by
    rw [← hpd38, pd38Gone, pd38Gone]
    exact congrArg₂ (fun d n => d == .tripped && decide (2 ≤ n)) (hclose.domain 38 rfl)
      (congrArg PowerS.pd38Trips (hclose.power rfl) :)
  obtain ⟨hrenewed, hboot, hcount, hoff⟩ := renewed_fields y hgone hshut
  have hstart := restarted_touches (renewed y) b
  obtain ⟨hboot', hdomain⟩ := restarted_fields (renewed y) b
  rw [hboot, hclose.boot rfl] at hboot'
  exact ⟨(hrenewed.touches (hstart.mono rfl)).of_closing hkeys (congrArg MemS.retiredFlash (hclose.mem rfl) :)
      (congrArg DataS.ringsRetired (hclose.data rfl) :) (hclose.time rfl), ⟨_, hboot'⟩,
    (hstart.bootCount rfl).trans (hcount.trans (hclose.bootCount rfl)), fun pd hpd => (hdomain pd).trans (hoff pd hpd)⟩

theorem warmed_dropIncomplete {b : BootIn} {x : State} (h : Warmed b x s) : Warmed b x (dropIncomplete s) := by
  obtain ⟨hrenewed, hboot, hcount, hoff⟩ := h
  have hdrop := dropIncomplete_touches s
  exact ⟨hrenewed.touches (hdrop.mono rfl), (hdrop.boot rfl).symm ▸ hboot, (bootCount_dropIncomplete s).trans hcount,
    fun pd hpd => (hdrop.domain pd rfl).trans (hoff pd hpd)⟩

/-! ### READY -/

theorem standbyOk_reachReady (fallback : Bool) (ms : Nat) :
    (reachReady fallback ms s).zcp.standbyOk = (s.boot.core0Ok && s.boot.core1Ok) := by
  unfold reachReady
  extract_lets s1 s2 src src2 src3 src4 s3 s4
  have hboot : s3.boot.core0Ok = s.boot.core0Ok ∧ s3.boot.core1Ok = s.boot.core1Ok := by
    have hs2 : s2.boot = s.boot := (advance_touches s _).boot rfl
    exact ⟨(congrArg BootS.core0Ok hs2 :), (congrArg BootS.core1Ok hs2 :)⟩
  have hs4 : s4.zcp.standbyOk = (s3.boot.core0Ok && s3.boot.core1Ok) :=
    (congrArg ZcpS.standbyOk ((raiseFloor_touches (coresReady s3)).same .cores rfl) :)
  have hend := ((ite (Touches.fire s4 .imageFallback) (refl s4) (p := fallback = true)).trans (reportFlushes_touches _) rfl
    (n := [.sticky, .episodes, .faults])).same .cores rfl
  rw [hboot.1, hboot.2] at hs4
  exact (congrArg ZcpS.standbyOk hend :).trans hs4

theorem stopOver_touches : Touches [.episodes] s (stopOver s) := by
  unfold stopOver
  extract_lets e
  exact ite (of_fields rfl) (refl s)

/-- How a warm reset goes on from the start of its boot. -/
def warmBoot (b : BootIn) (y : State) : State :=
  if !coreFound b y then bootFails y
  else
    let w := noteImages (dropIncomplete y)
    if !imageValid w.boot.preferred w then fallbackBoot b w
    else
      let v := startImage w.boot.preferred false w
      if b.stageFails then bootFails v
      else if b.imageReady v.boot.preferred then stopOver (reachReady false b.ms v)
      else v

theorem warmReset_eq (b : BootIn) : warmReset b s = warmBoot b (rebooted b s) := by
  unfold warmReset rebooted
  generalize restoreJournal (closeAll 4 s) = y
  extract_lets s0 s1 src src2 s2 s3 s4
  have hs1 : renewed y = s1 := rfl
  rw [hs1]
  clear_value s1
  have hs2 : restarted b s1 = s2 := rfl
  rw [hs2]
  clear_value s2
  rfl

theorem warmBoot_of_image {b : BootIn} {image : Nat} (hcore : coreFound b s = true) (hstages : b.stageFails = false)
    (hpreferred : (dropIncomplete s).boot.preferred = image) (himage : imageValid image (dropIncomplete s) = true)
    (hready : b.imageReady image = true) : warmBoot b s =
      stopOver (reachReady false b.ms (startImage image false (noteImages (dropIncomplete s)))) := by
  unfold warmBoot
  rw [hcore, if_neg (by exact Bool.false_ne_true)]
  generalize dropIncomplete s = w at *
  have hnoted : (noteImages w).boot.preferred = image := hpreferred
  have hvalid : imageValid image (noteImages w) = true := himage
  have hstarted : (startImage image false (noteImages w)).boot.preferred = image := hpreferred
  dsimp only
  rw [hnoted, hvalid, if_neg (by exact Bool.false_ne_true), hstages, if_neg Bool.false_ne_true, hstarted, if_pos hready]

/-- A warm reset that comes to READY (R581). -/
theorem warmReset_of_image {b : BootIn} (hpd38 : pd38Gone s = false) (hcore : coreFound b s = true)
    (hstages : b.stageFails = false) (himage : imageValid (trialReset s.boot).preferred s = true)
    (hready : b.imageReady (trialReset s.boot).preferred = true) : warmReset b s = stopOver (reachReady false b.ms
      (startImage (trialReset s.boot).preferred false (noteImages (dropIncomplete (rebooted b s))))) := by
  have hwarm := warmed_rebooted s b hpd38
  have hdropped := warmed_dropIncomplete _ hwarm
  rw [warmReset_eq]
  generalize rebooted b s = y at *
  obtain ⟨⟨_, hstart⟩, ⟨_, hboot⟩⟩ := And.intro hwarm.boot hdropped.boot
  obtain ⟨himages, hfloor, hvariant⟩ := trialReset_images s.boot
  have hsame : imageValid (trialReset s.boot).preferred (dropIncomplete y) = imageValid (trialReset s.boot).preferred s :=
    imageValid_congr ⟨by rw [hboot]; exact himages, by rw [hboot]; exact hfloor⟩ _
  exact warmBoot_of_image y ((coreFound_congr b (by rw [hstart]; exact hvariant)).trans hcore) hstages
    (congrArg BootS.preferred hboot :) (hsame.trans himage) hready

/-- What a module that has come back to READY after a warm reset is like. -/
structure Restarted (b : BootIn) (x z : State) : Prop where
  renewed : Renewed x z
  stage : z.boot.stage = .ready
  readyPin : z.power.readyPin = true
  lastReset : z.boot.lastReset = 2
  preferred : z.boot.preferred = (trialReset x.boot).preferred
  running : z.boot.running = (trialReset x.boot).preferred
  trial : (trialReset x.boot).trialFlag = false → z.boot.trial = false
  images : z.boot.images = x.boot.images
  off : ∀ pd < 34, domain pd z = .off
  egress : domain 39 z = .on
  bootCount : z.fault.bootCount = x.fault.bootCount
  standbyOk : z.zcp.standbyOk = (b.core0 && b.core1)

theorem Restarted.touches {b : BootIn} {x y z : State} (h : Restarted b x y) (h' : Touches [.episodes] y z) :
    Restarted b x z := by
  obtain ⟨hrenewed, hstage, hpin, hlast, hpreferred, hrunning, htrial, himages, hoff, hegress, hcount, hstandby⟩ := h
  have hboot := h'.boot rfl
  have hcores : z.zcp.standbyOk = y.zcp.standbyOk := (congrArg ZcpS.standbyOk (h'.same .cores rfl) :)
  exact ⟨hrenewed.touches (h'.mono rfl), hboot ▸ hstage, (h'.power rfl).symm ▸ hpin, hboot ▸ hlast, hboot ▸ hpreferred,
    hboot ▸ hrunning, fun hflag => hboot ▸ htrial hflag, hboot ▸ himages, fun pd hpd => (h'.domain pd rfl).trans (hoff pd hpd),
    (h'.domain 39 rfl).trans hegress, (h'.bootCount rfl).trans hcount, hcores.trans hstandby⟩

theorem restarted_reachReady {b : BootIn} {x : State} (h : Warmed b x s) : Restarted b x (reachReady false b.ms
    (startImage (trialReset x.boot).preferred false (noteImages s))) := by
  obtain ⟨hrenewed, ⟨started, hboot⟩, hcount, hoff⟩ := h
  have hstart : Touches [.boot] s (startImage (trialReset x.boot).preferred false (noteImages s)) := of_fields rfl
  have hy : ∃ bl : BootS, (startImage (trialReset x.boot).preferred false (noteImages s)).boot = { bl with
      stage := .image, running := (trialReset x.boot).preferred, preferred := (trialReset x.boot).preferred, lastReset := 2,
      trialFlag := (trialReset x.boot).trialFlag, images := x.boot.images, core0Ok := b.core0, core1Ok := b.core1 } := by
    refine ⟨(startImage (trialReset x.boot).preferred false (noteImages s)).boot, ?_⟩
    simp only [startImage, noteImages, hboot, (trialReset_images x.boot).1]
  generalize startImage (trialReset x.boot).preferred false (noteImages s) = y at *
  obtain ⟨bl, hy⟩ := hy
  obtain ⟨r, f, hz⟩ := boot_reachReady y false b.ms
  have hpower := power_reachReady y false b.ms
  have hbootOf {β : Type} (π : BootS → β) := (congrArg π hz).trans (congrArg (fun v : BootS => π { v with
    stage := .ready, bootMs := b.ms % 2 ^ 32, readyAt := r
    trial := v.trialFlag && v.running == v.preferred, floor := f }) hy)
  have hdomain (pd : Nat) : domain pd (reachReady false b.ms y) = if pd = 39 then .on else domain pd s := by
    rw [domain, hpower, RegFile.getD_set, hstart.power rfl]
    simp [domain]
  refine ⟨hrenewed.touches ((hstart.trans (reachReady_touches y false b.ms) rfl (n := readyParts)).mono rfl),
    hbootOf BootS.stage, (congrArg PowerS.readyPin hpower :), hbootOf BootS.lastReset, hbootOf BootS.preferred,
    hbootOf BootS.running, fun hflag => (hbootOf BootS.trial).trans (by rw [hflag]; rfl), hbootOf BootS.images,
    fun pd hpd => ?_, (hdomain 39).trans (if_pos rfl),
    (bootCount_reachReady ..).trans ((hstart.bootCount rfl).trans hcount), ?_⟩
  · rw [hdomain, if_neg (by omega), hoff pd hpd]
  · rw [standbyOk_reachReady, hy]

/-- A warm reset with a core, a sound image and no failing stage brings the module back (R581). -/
theorem restarted_warmReset {b : BootIn} (hpd38 : pd38Gone s = false) (hcore : coreFound b s = true)
    (hstages : b.stageFails = false) (himage : imageValid (trialReset s.boot).preferred s = true)
    (hready : b.imageReady (trialReset s.boot).preferred = true) : Restarted b s (settle (warmReset b s)) := by
  rw [warmReset_of_image s hpd38 hcore hstages himage hready]
  have hready := restarted_reachReady _ (warmed_dropIncomplete _ (warmed_rebooted s b hpd38))
  exact hready.touches ((stopOver_touches _).report (Touches.settle _))

end

theorem trialReset_of_no_trial {b : BootS} (h : b.trial = false) : trialReset b = b :=
  if_neg (ne_true_of_eq_false h)

theorem trialReset_of_trial {b : BootS} (h : b.trial = true) :
    trialReset b = { b with preferred := 1 - b.running, trial := false, trialFlag := false } := if_pos h

theorem exec_zcpModuleReset {t : Nat} {d : Dgram} {b : BootIn} {s : State} (hd : Accepted 0x0008 d (advance t s))
    (hlen : d.payload.length = 0) : exec (.zcpModuleReset t d b) s = .next (settle (warmReset b
      (sendReply d.session d.seq d.typ rOk [] (taken d (advance t s))))) := by
  refine (zcp_accepted _ hd).trans ?_
  rw [sized_of_length (moduleReset b) (c := d.ctx) hlen, moduleReset, finish_after (by simp [hd.typ])]

theorem longKey_taken (d : Dgram) (k : Nat) (s : State) : (session k (taken d s)).longKey = (session k s).longKey :=
  (congrArg Session.longKey (core_taken d k s) :)

/-- Settles O13: both rows run `warmReset`, which brings back a module that is `Restarted`. -/
theorem warmResetKeepsTimeAndStandby : Obligations.WarmResetKeepsTimeAndStandby := by
  refine ⟨fun t d b s => fun hd hlen hcores hstages hvariant htrial _ himage hready hpd38 => ?reset,
    fun t b s => fun hstage htrial hlate _ hcores hstages hvariant himage hready hpd38 => ?expires⟩
  case reset =>
    refine ⟨_, exec_zcpModuleReset hd hlen, ?_⟩
    have hreply : outsideZcp (sendReply d.session d.seq d.typ rOk [] (taken d (advance t s))) = outsideZcp (advance t s) :=
      (outsideZcp_sendReply ..).trans (outsideZcp_of_restZ (restZ_taken ..))
    have hkey (k : Nat) := (longKey_sendReply d.session k d.seq d.typ rOk [] (taken d (advance t s))).trans
      (longKey_taken d k (advance t s))
    generalize sendReply d.session d.seq d.typ rOk [] (taken d (advance t s)) = y at *
    generalize advance t s = x at *
    have hboot : y.boot = x.boot := (congrArg State.boot hreply :)
    have hpower : y.power = x.power := (congrArg State.power hreply :)
    have hkeep : trialReset y.boot = x.boot := (congrArg trialReset hboot).trans (trialReset_of_no_trial htrial)
    have hz := restarted_warmReset (b := b) y (by rw [pd38Gone, domain, hpower]; exact hpd38)
      ((coreFound_congr b (by rw [hboot])).trans (coreFound_of hcores hvariant)) hstages
      (by rw [hkeep]; exact (imageValid_congr ⟨by rw [hboot], by rw [hboot]⟩ _).trans himage) (by rw [hkeep]; exact hready)
    generalize settle (warmReset b y) = z at *
    obtain ⟨hrenewed, hstage, hpin, hlast, hpreferred, hrunning, _, himages, hoff, hegress, hcount, hstandby⟩ := hz
    rw [hkeep] at hpreferred hrunning
    exact ⟨⟨hstage, hpin, hlast, hrenewed.running, hrenewed.next, hrenewed.bulks, hrenewed.waiting, hrenewed.closed,
      fun k _ => (hrenewed.longKey k).trans (hkey k), hoff, hegress, hcount.trans (congrArg (·.fault.bootCount) hreply :),
      himages.trans (by rw [hboot]), hrenewed.retiredFlash.trans (congrArg (·.mem.retiredFlash) hreply :),
      hrenewed.ringsRetired.trans (congrArg (·.data.ringsRetired) hreply :), hrenewed.stopped,
      hrenewed.origin.trans (congrArg (·.time.origin) hreply :),
      hrenewed.selected.trans (congrArg (·.time.selected) hreply :)⟩, hstandby, hpreferred, hrunning⟩
  case expires =>
    refine leads_onlyIf (exec_fwTrialExpiry t b s) (Bool.and_eq_true_iff.2
      ⟨Bool.and_eq_true_iff.2 ⟨beq_iff_eq.2 hstage, htrial⟩, decide_eq_true hlate⟩) ?_
    generalize advance t s = x at *
    have hback := trialReset_of_trial htrial
    have hz := restarted_warmReset (b := b) x hpd38 (coreFound_of hcores hvariant) hstages (by rw [hback]; exact himage)
      (by rw [hback]; exact hready)
    generalize settle (warmReset b x) = z at *
    obtain ⟨hrenewed, hstage, hpin, hlast, hpreferred, hrunning, hended, himages, hoff, hegress, hcount, hstandby⟩ := hz
    rw [hback] at hpreferred hrunning hended
    exact ⟨⟨hstage, hpin, hlast, hrenewed.running, hrenewed.next, hrenewed.bulks, hrenewed.waiting, hrenewed.closed,
      fun k _ => hrenewed.longKey k, hoff, hegress, hcount, himages, hrenewed.retiredFlash, hrenewed.ringsRetired,
      hrenewed.stopped, hrenewed.origin, hrenewed.selected⟩, hstandby, hended rfl, hpreferred, hrunning⟩

end Sys2Proof.Machine
end

section
/-! The timing inputs and the pulse outputs (R384 to R393). -/

namespace Sys2Proof.Machine

open Touches (refl ite of_fields foldl)

/-! ### Fields of a layout -/

theorem beNat_concat (l : List Byte) (b : Byte) : beNat (l ++ [b]) = beNat l * 256 + b.toNat := by
  rw [beNat, List.foldl_append]
  rfl

theorem beNat_natBE (n v : Nat) : beNat (natBE n v) = v % 256 ^ n := by
  induction n generalizing v with
  | zero => exact (Nat.mod_one v).symm
  | succ n ih =>
    have hlast : natBE (n + 1) v = natBE n (v / 256) ++ [BitVec.ofNat 8 v] := List.reverse_cons
    rw [hlast, beNat_concat, ih, BitVec.toNat_ofNat, Nat.pow_succ 256, Nat.mul_comm (256 ^ n), Nat.mod_mul]
    omega

/-- Big-endian fields one behind the other, each with its width and value. -/
def layout (fs : List (Nat × Nat)) : List Byte := fs.flatMap fun f => natBE f.1 f.2

theorem length_layout (fs : List (Nat × Nat)) : (layout fs).length = (fs.map (·.1)).sum := by
  simp [layout, List.length_flatMap, length_natBE]

/-- A field of a layout stands behind the fields before it. -/
theorem beAt_layout (pre : List (Nat × Nat)) {n v : Nat} (post : List (Nat × Nat)) (hv : v < 256 ^ n) :
    beAt (layout (pre ++ (n, v) :: post)) (pre.map (·.1)).sum n = v := by
  have hsplit : layout (pre ++ (n, v) :: post) = layout pre ++ (natBE n v ++ layout post) := by simp [layout]
  have hslice : slice (layout pre ++ (natBE n v ++ layout post)) (pre.map (·.1)).sum n = natBE n v := by
    rw [slice, ← length_layout, List.drop_left]
    exact List.take_left' (length_natBE n v)
  rw [hsplit, beAt, hslice, beNat_natBE, Nat.mod_eq_of_lt hv]

theorem tide96_lt (x : Nat) : tide96 x < 256 ^ 12 := by
  unfold tide96
  omega

/-! ### Timing inputs (R390 to R392) -/

theorem RegFile.set_set {α : Type} {n : Nat} (r : RegFile α n) (k : Nat) (v w : α) : (r.set k v).set k w = r.set k w := by
  simp only [RegFile.set, List.set_set]

theorem RegFile.set_getD {α : Type} {n k : Nat} (h : k < n) (r : RegFile α n) (d : α) : r.set k (r.getD k d) = r := by
  obtain ⟨l, hl⟩ := r
  simp [RegFile.set, RegFile.getD, List.getD_eq_getElem?_getD, List.getElem?_eq_getElem (hl.symm ▸ h)]

theorem setTin_setTin (n : Nat) (i j : TIn) (s : State) : setTin n j (setTin n i s) = setTin n j s := by
  simp only [setTin, RegFile.set_set]

theorem tin_setTin {n : Nat} (h : n < 2) (i : TIn) (s : State) : tin n (setTin n i s) = i :=
  RegFile.getD_set_same _ _ _ _ h

section
variable (n : Nat) (s : State)

theorem deliverEdges_of_full (h : 1000 ≤ (inLastSecond (tin n s).delivered s).length) (k : Nat) : deliverEdges n k s = s := by
  cases k with
  | zero => rfl
  | succ k =>
    unfold deliverEdges
    extract_lets i done
    split
    · rfl
    · exact if_pos h

theorem deliverEdges_of_none (h : (tin n s).waiting = []) (k : Nat) : deliverEdges n k s = s := by
  cases k with
  | zero => rfl
  | succ k =>
    unfold deliverEdges
    extract_lets i done
    rw [show i.waiting = [] from h]

/-- A record that waits alone goes out while the second's bound is not reached. -/
theorem deliverEdges_of_one (hn : n < 2) {r : EdgeRec} (h : (tin n s).waiting = [r])
    (hbound : (inLastSecond (tin n s).delivered s).length < 1000) (k : Nat) : deliverEdges n (k + 1) s =
      raiseBytes .edge r.bytes (setTin n { tin n s with
        waiting := [], delivered := s.time.now :: inLastSecond (tin n s).delivered s } s) := by
  unfold deliverEdges
  extract_lets i done
  have hwaiting : i.waiting = [r] := h
  rw [hwaiting]
  dsimp only
  rw [if_neg (Nat.not_le.2 hbound)]
  refine deliverEdges_of_none n _ ?_ k
  rw [tin, raiseBytes_time, ← tin, tin_setTin hn]

theorem tin_count (c : Ctr) (i k : Nat) : tin n (count c i k s) = tin n s := rfl

theorem setTin_count (c : Ctr) (i k : Nat) (v : TIn) : setTin n v (count c i k s) = count c i k (setTin n v s) := rfl

theorem edgeSelected_iff (mode : Nat) (falling : Bool) :
    edgeSelected mode falling = true ↔ if falling then mode = 2 ∨ mode = 3 else mode = 1 ∨ mode = 3 := by
  unfold edgeSelected
  split <;> cases falling <;> simp_all

/-- The record of an edge that is captured now (R391). -/
def edgeNow (falling : Bool) : EdgeRec :=
  { input := n, edge := if falling then 2 else 1, seq := (tin n s).nextSeq, time := s.time.tide }

/-- An input that has captured an edge. -/
def TIn.captured (i : TIn) (now : Nat) (waiting : List EdgeRec) : TIn :=
  { i with last := some now, waiting := waiting, nextSeq := (i.nextSeq + 1) % 65536 }

variable {n s} {falling : Bool} (hselected : edgeSelected (par .timingInEdge n 0 s) falling = true)
include hselected

theorem captureEdge_of_early {l : Nat} (hlast : (tin n s).last = some l) (hearly : s.time.now < l + nsT 50) :
    captureEdge n falling s = count .edgeMissed n 1 s := by
  unfold captureEdge
  extract_lets i
  rw [hselected, if_neg (by exact Bool.false_ne_true), show i.last = some l from hlast]
  exact if_pos (decide_eq_true hearly)

theorem captureEdge_captures (hlate : ∀ l, (tin n s).last = some l → l + nsT 50 ≤ s.time.now) : captureEdge n falling s =
    deliverEdges n 64 (count .edgeCaptured n 1 (setTin n ((tin n s).captured s.time.now
      ((if 64 ≤ (tin n s).waiting.length then (tin n s).waiting.drop 1 else (tin n s).waiting) ++ [edgeNow n s falling]))
      (if 64 ≤ (tin n s).waiting.length then count .edgeLost n 1 s else s))) := by
  unfold captureEdge
  extract_lets i r full s1 s2
  rw [hselected, if_neg (by exact Bool.false_ne_true), if_neg]
  · simp only [s2, s1, full, decide_eq_true_eq]
    rfl
  · split
    next l hl => exact fun h => absurd (of_decide_eq_true h) (Nat.not_lt.2 (hlate l hl))
    next => exact Bool.false_ne_true

end

theorem exec_edgeCapture (t : Nat) (n : Fin 2) (falling : Bool) (s : State) :
    exec (.edgeCapture t n falling) s = act t (onlyIf timingRuns (captureEdge n falling)) s := rfl

/-- The layout of a capture record (R391). -/
theorem edgeRec_fields (r : EdgeRec) (hinput : r.input < 2) (hedge : r.edge < 4) (hseq : r.seq < 2 ^ 16) :
    r.bytes.length = 16 ∧ beAt r.bytes 0 1 = r.input ∧ beAt r.bytes 1 1 = r.edge ∧ beAt r.bytes 2 2 = r.seq ∧
    beAt r.bytes 4 12 = tide96 r.time := by
  have htime := tide96_lt r.time
  have hbytes : r.bytes = layout [(1, r.input), (1, r.edge), (2, r.seq), (12, tide96 r.time)] := by
    simp [EdgeRec.bytes, tideBytes, layout]
  rw [hbytes]
  generalize tide96 r.time = stamp at *
  exact ⟨by rw [length_layout]; rfl, beAt_layout [] _ (by omega), beAt_layout [(1, r.input)] _ (by omega),
    beAt_layout [(1, r.input), (1, r.edge)] _ hseq, beAt_layout [(1, r.input), (1, r.edge), (2, r.seq)] _ htime⟩

/-- Settles O45: `captureEdge` captures or counts, and `deliverEdges` stops at once where 1,000 went out. -/
theorem timingInputsCaptureEdges : Obligations.TimingInputsCaptureEdges := by
  refine ⟨fun t n falling s => ⟨fun hoff => ?idle, fun hruns hselected => ?selected⟩, fun r => edgeRec_fields r⟩
  case idle =>
    refine does_act (exec_edgeCapture t n falling s) ?_
    generalize advance t s = x at *
    rw [onlyIf]
    split
    next hruns =>
      have hnot : edgeSelected (par .timingInEdge n 0 x) falling = false := Bool.eq_false_iff.2 fun h =>
        hoff.elim (ne_true_of_eq_false · hruns) (absurd ((edgeSelected_iff ..).1 h))
      rw [captureEdge, hnot]
      exact .rfl' _
    next => exact .rfl' _
  case selected =>
    refine ⟨fun l hlast hearly => does_onlyIf (exec_edgeCapture t n falling s) hruns ?early,
      fun hlate => ⟨fun hnone hbound => does_onlyIf (exec_edgeCapture t n falling s) hruns ?sends,
        fun hbound hroom => does_onlyIf (exec_edgeCapture t n falling s) hruns ?waits,
        fun hbound hfull => does_onlyIf (exec_edgeCapture t n falling s) hruns ?loses⟩⟩
    all_goals
      have hselected' := (edgeSelected_iff ..).2 hselected
      generalize advance t s = x at *
    case early =>
      rw [captureEdge_of_early hselected' hlast hearly]
      exact .rfl' _
    case sends =>
      have hin := tin_setTin n.2 ((tin n x).captured x.time.now [edgeNow n x falling]) x
      rw [← tin_count n _ .edgeCaptured n 1] at hin
      rw [captureEdge_captures hselected' hlate, hnone, if_neg (by decide), if_neg (by decide), List.nil_append,
        deliverEdges_of_one _ _ n.2 (r := edgeNow n x falling) (by rw [hin]; rfl) (by rw [hin]; exact hbound), hin]
      rw [setTin_count, setTin_setTin]
      exact raiseBytes_eq ..
    case waits =>
      rw [captureEdge_captures hselected' hlate, if_neg (by omega), if_neg (by omega), deliverEdges_of_full]
      · exact .rfl' _
      · rw [tin_count, tin_setTin n.2]
        exact hbound
    case loses =>
      rw [captureEdge_captures hselected' hlate, if_pos hfull, if_pos hfull, deliverEdges_of_full]
      · exact .rfl' _
      · rw [tin_count, tin_setTin n.2]
        exact hbound

end Sys2Proof.Machine
end

section
/-! The pulse outputs (R384 to R389, R393). -/

namespace Sys2Proof.Machine

open Touches (refl ite of_fields foldl)

/-! ### Outputs -/

section
variable {n : Nat} {s x y : State}

theorem setOut_setOut (n : Nat) (o o' : Out) (s : State) : setOut n o' (setOut n o s) = setOut n o' s := by
  simp only [setOut, RegFile.set_set]

theorem setOut_out (hn : n < 9) (s : State) : setOut n (out n s) s = s := by
  rw [setOut, out, RegFile.set_getD hn]

theorem ReportEq.of_setOut (h : ReportEq x y) (n : Nat) (o : Out) : ReportEq (setOut n o x) (setOut n o y) := by
  refine ⟨?_, h.ctr, h.ev⟩
  have hrest := h.rest
  exact (congrArg (setOut n o) hrest :)

theorem ReportEq.out (h : ReportEq x y) (n : Nat) : Machine.out n x = Machine.out n y := by
  rw [Machine.out, h.time, Machine.out]

theorem drive_eq (hn : n < 9) (level : Bool) (at_ : Nat) (s : State) :
    ReportEq (drive n level at_ s) (setOut n { out n s with pin := some level } s) := by
  unfold drive
  extract_lets o
  split
  next h =>
    have hsame : { o with pin := some level } = o := by rw [← h]
    rw [hsame, setOut_out hn]
    exact .rfl' s
  next => exact emit_eq ..

/-- An output whose pulse asserts, or is extended (R385, R393). -/
def Out.asserted (p : Prog) (e now : Nat) (o : Out) : Out := match o.pulse with
  | none => { o with
      pulse := some ⟨e + p.width, now + p.width, p.lowPol⟩, lowPol := p.lowPol, produced := o.produced + 1
      pin := some (!p.lowPol) }
  | some u => { o with
      produced := o.produced + 1
      pulse := some { u with untilTide := max u.untilTide (e + p.width), untilClock := max u.untilClock (now + p.width) } }

theorem Out.asserted_pulse (p : Prog) (e now : Nat) (o : Out) : (o.asserted p e now).pulse.isSome = true := by
  unfold Out.asserted
  split <;> rfl

theorem assertPulse_eq (hn : n < 9) (p : Prog) (e : Nat) (s : State) :
    ReportEq (assertPulse n p e s) (setOut n ((out n s).asserted p e s.time.now) s) := by
  unfold assertPulse Out.asserted
  extract_lets o
  split
  next u hu =>
    rw [show (out n s).pulse = some u from hu]
    exact .rfl' _
  next hnone =>
    rw [show (out n s).pulse = none from hnone]
    refine (drive_eq hn ..).trans ?_
    rw [out_setOut_same _ _ _ hn, setOut_setOut]
    exact .rfl' _

/-- An output that skips an edge (R386). -/
def Out.skips (first : Nat) (o : Out) : Out :=
  { o with skipped := o.skipped + 1, firstSkipped := if o.skipped = 0 then first else o.firstSkipped }

theorem skipEdges_one (n first : Nat) (s : State) :
    skipEdges n 1 first s = count .pulseSkipped n 1 (setOut n ((out n s).skips first) s) := rfl

/-- The program of an output ends: its last edge is over and no pulse is asserted (R385). -/
def Out.ends (o : Out) : Bool := o.mode == .pulse && o.prog.any (·.over) && o.pulse.isNone

/-- An output after its program's end, where it ends. -/
def ended (n : Nat) (s : State) : State :=
  if (out n s).ends then noteEvent .tideOutDone (setOut n { out n s with prog := none } s) else s

theorem endIfOver_eq (h : ReportEq x y) (n : Nat) : ReportEq (endIfOver n x) (ended n y) := by
  unfold endIfOver ended Out.ends
  rw [← h.out n]
  extract_lets o
  split
  next p hp =>
    rw [hp, Option.any_some]
    by_cases hend : o.mode = .pulse ∧ p.over = true ∧ o.pulse.isNone = true
    · rw [if_pos hend, if_pos (by simpa [and_assoc] using hend)]
      exact (raise_eq ..).trans ((h.of_setOut n _).of_noteEvent _)
    · rw [if_neg hend, if_neg (by simpa [and_assoc] using hend)]
      exact h
  next hp =>
    rw [hp, if_neg (by simp)]
    exact h

theorem ended_of_ends (h : (out n s).ends = true) :
    ended n s = noteEvent .tideOutDone (setOut n { out n s with prog := none } s) := if_pos h

theorem out_count (c : Ctr) (i k : Nat) : out n (count c i k s) = out n s := rfl

theorem ends_skips {o : Out} (hmode : o.mode = .pulse) (p : Prog) (e : Nat) :
    (({ o with prog := some p } : Out).skips e).ends = (p.over && o.pulse.isNone) := by
  simp [Out.ends, Out.skips, hmode]

theorem ended_of_not (h : (out n s).ends = false) : ended n s = s := if_neg (ne_true_of_eq_false h)

end

/-! ### PULSE_EDGE (R385, R386) -/

/-- The program after its next edge. -/
def Prog.step (p : Prog) : Prog := { p with next := p.next + 1 }

section
variable {n : Nat} {p : Prog} {s : State} (hn : n < 9) (hmode : (out n s).mode = .pulse) (hprog : (out n s).prog = some p)

theorem pulseEdge_of_not (h : (out n s).mode ≠ .pulse ∨ (out n s).prog = none) : pulseEdge n s = s := by
  unfold pulseEdge
  extract_lets o
  split
  next p hm hp => exact h.elim (absurd hm) (fun hnone => absurd (hp.symm.trans hnone) (by simp))
  next => rfl

include hmode hprog

theorem pulseEdge_of_early (h : p.over = true ∨ s.time.tide < p.start + p.next * p.period) : pulseEdge n s = s := by
  unfold pulseEdge
  extract_lets o
  rw [show o.mode = .pulse from hmode, show o.prog = some p from hprog]
  exact if_pos h

theorem pulseEdge_due (hover : p.over = false) (hdue : p.start + p.next * p.period ≤ s.time.tide) : pulseEdge n s =
    endIfOver n (if p.start + p.next * p.period < p.notBefore then
        skipEdges n 1 (p.start + p.next * p.period) (setOut n { out n s with prog := some p.step } s)
      else assertPulse n p (p.start + p.next * p.period) (setOut n { out n s with prog := some p.step } s)) := by
  unfold pulseEdge
  extract_lets o
  rw [show o.mode = .pulse from hmode, show o.prog = some p from hprog]
  exact if_neg (by simp [hover, hdue])

include hn

/-- An edge that is not before the end of a kept pulse asserts (R385). -/
theorem pulseEdge_asserts (hover : p.over = false) (hdue : p.start + p.next * p.period ≤ s.time.tide)
    (hfree : p.notBefore ≤ p.start + p.next * p.period) : ReportEq (pulseEdge n s) (setOut n
      (({ out n s with prog := some p.step } : Out).asserted p (p.start + p.next * p.period) s.time.now) s) := by
  rw [pulseEdge_due hmode hprog hover hdue, if_neg (Nat.not_lt.2 hfree)]
  have hasserts := assertPulse_eq hn p (p.start + p.next * p.period) (setOut n { out n s with prog := some p.step } s)
  rw [out_setOut_same _ _ _ hn, setOut_setOut] at hasserts
  refine (endIfOver_eq hasserts n).trans ?_
  rw [ended_of_not]
  · exact .rfl' _
  · rw [out_setOut_same _ _ _ hn, Out.ends, Option.isNone_eq_false_iff.2 (Out.asserted_pulse ..), Bool.and_false]

/-- An edge before the end of a kept pulse is skipped, which may end the program (R386). -/
theorem pulseEdge_skips (hover : p.over = false) (hdue : p.start + p.next * p.period ≤ s.time.tide)
    (hkept : p.start + p.next * p.period < p.notBefore) : ReportEq (pulseEdge n s) (ended n (count .pulseSkipped n 1
      (setOut n (({ out n s with prog := some p.step } : Out).skips (p.start + p.next * p.period)) s))) := by
  rw [pulseEdge_due hmode hprog hover hdue, if_pos hkept, skipEdges_one, out_setOut_same _ _ _ hn, setOut_setOut]
  exact endIfOver_eq (.rfl' _) n

end

/-! ### PULSE_DEASSERT (R385, R393) -/

section
variable {n : Nat} {s : State}

theorem pulseEnd_of_none (h : (out n s).pulse = none) : pulseEnd n s = s := by
  unfold pulseEnd
  extract_lets o
  rw [show o.pulse = none from h]

theorem pulseEnd_of_early {u : Pulse} (h : (out n s).pulse = some u) (htide : s.time.tide < u.untilTide)
    (hclock : s.time.now < u.untilClock) : pulseEnd n s = s := by
  unfold pulseEnd
  extract_lets o
  rw [show o.pulse = some u from h]
  exact if_pos ⟨htide, hclock⟩

theorem pulseEnd_ends (hn : n < 9) {u : Pulse} (h : (out n s).pulse = some u)
    (hlate : u.untilTide ≤ s.time.tide ∨ u.untilClock ≤ s.time.now) : ReportEq (pulseEnd n s)
      (ended n (setOut n { out n s with pulse := none, pin := some (out n s).lowPol } s)) := by
  unfold pulseEnd
  extract_lets o off
  rw [show o.pulse = some u from h]
  dsimp only
  rw [if_neg (by omega)]
  refine endIfOver_eq ?_ n
  refine (drive_eq hn ..).trans ?_
  rw [out_setOut_same _ _ _ hn, setOut_setOut]
  exact .rfl' _

end

/-! ### TIDE_MARK (R387) -/

section
variable {n : Nat} {p : Prog} {s : State} (hmode : (out n s).mode = .mark) (hprog : (out n s).prog = some p)

theorem tideMark_of_not (h : (out n s).mode ≠ .mark ∨ (out n s).prog = none) : tideMark n s = s := by
  unfold tideMark
  extract_lets o
  split
  next p hm hp =>
    refine h.elim (absurd hm) fun hnone => ?_
    rw [show o.prog = none from hnone] at hp
    exact absurd hp (by simp)
  next => rfl

include hmode hprog

theorem tideMark_of_unknown (h : edgeTide .mark (p.settle s) (p.settle s).next s = none) : tideMark n s = s := by
  unfold tideMark
  extract_lets o
  rw [show o.mode = .mark from hmode, show o.prog = some p from hprog, Option.map_some]
  dsimp only
  rw [h]

theorem tideMark_of_early {e : Nat} (h : edgeTide .mark (p.settle s) (p.settle s).next s = some e)
    (hearly : s.time.tide < e) : tideMark n s = s := by
  unfold tideMark
  extract_lets o
  rw [show o.mode = .mark from hmode, show o.prog = some p from hprog, Option.map_some]
  dsimp only
  rw [h]
  exact if_pos hearly

theorem tideMark_due {e : Nat} (h : edgeTide .mark (p.settle s) (p.settle s).next s = some e) (hdue : e ≤ s.time.tide) :
    tideMark n s = if e < knownSince (p.settle s) s + msT 1 ∨ e < (p.settle s).notBefore then
        skipEdges n 1 e (setOut n { out n s with prog := some (p.settle s).step } s)
      else assertPulse n (p.settle s) e (setOut n { out n s with prog := some (p.settle s).step } s) := by
  unfold tideMark
  extract_lets o
  rw [show o.mode = .mark from hmode, show o.prog = some p from hprog, Option.map_some]
  dsimp only
  rw [h]
  exact if_neg (Nat.not_lt.2 hdue)

end

/-! ### ZCP_TIDE_OUT_ARM and ZCP_TIDE_OUT_STOP (R385, R386) -/

section
variable {t : Nat} {d : Dgram} {s y : State} {n : Nat}

theorem answers_laid {i : Instr} {typ code : Nat} {body : Ctx → State → Res} {z : State}
    (hx : exec i s = zcp typ (laid body) t d s) (hd : Accepted typ d (advance t s)) (htyp : typ ≠ 0x0A03)
    (hlen : d.payload.length = Config.payloadLength typ) (hbody : ∀ y, restZ y = restZ (advance t s) →
      ∃ b y', body d.ctx y = answer code b y' ∧ restZ y' = restZ z) : Answers i d code s z :=
  answers_of hx hd htyp fun y hy =>
    laid_of_length body (c := d.ctx) (hlen.trans (congrArg Config.payloadLength hd.typ.symm)) y ▸ hbody y hy

theorem pend_of_restZ (h : restZ y = restZ s) : y.pend = s.pend := (congrArg State.pend h :)

theorem out_of_restZ (h : restZ y = restZ s) (n : Nat) : out n y = out n s := by
  rw [out, time_of_restZ h, out]

theorem heldProg_of_restZ (h : restZ y = restZ s) (n : Nat) : heldProg n y = heldProg n s :=
  (congrArg (heldProg n) h :)

theorem restZ_takeArm (n : Nat) (s : State) : restZ (takeArm n s) = takeArm n (restZ s) := by
  have hfold (l : List Item) (s : State) : restZ (l.foldl (fun x i => setPar i n 0 (parPend i n 0 x) x) s) =
      l.foldl (fun x i => setPar i n 0 (parPend i n 0 x) x) (restZ s) := by
    induction l generalizing s with
    | nil => rfl
    | cons i l ih => exact ih (setPar i n 0 (parPend i n 0 s) s)
  exact hfold armItems s

/-- The held values come into force, each of its own item. -/
theorem par_takeArm (hn : n < 4096) {i : Item} (hi : i ∈ armItems) (s : State) :
    par i n 0 (takeArm n s) = parPend i n 0 s := by
  have hfold (l : List Item) (s : State) : par i n 0 (l.foldl (fun x i => setPar i n 0 (parPend i n 0 x) x) s) =
      if i ∈ l then parPend i n 0 s else par i n 0 s := by
    induction l generalizing s with
    | nil => rfl
    | cons j l ih =>
      rw [List.foldl_cons, ih]
      by_cases hl : i ∈ l
      · rw [if_pos hl, if_pos (List.mem_cons_of_mem _ hl)]
        rfl
      · rw [if_neg hl]
        by_cases hj : i = j
        · rw [hj, if_pos List.mem_cons_self]
          exact sGet_sPut_same _ _ _ _
        · rw [if_neg (by simp [hj, hl])]
          refine sGet_sPut_of_ne _ _ _ fun hkey => hj ?_
          rw [← keyItem_itemKey i hn (by decide : 0 < 65536), hkey, keyItem_itemKey j hn (by decide)]
  exact (hfold armItems s).trans (if_pos hi)

theorem time_takeArm (n : Nat) (s : State) : (takeArm n s).time = s.time :=
  (foldl (fun x i => setPar_touches x i n 0 _) armItems s : Touches [.force, .canal] s (takeArm n s)).time rfl

/-- The earliest edge after the pulse that an output keeps (R386). -/
def Out.free (o : Out) : Nat := match o.pulse with
  | some u => u.untilTide + nsT 10
  | none => 0

/-- The program that an ARM applies (R385). -/
def Prog.applied (mode : OutMode) (o : Out) (tide : Nat) (p : Prog) : Prog :=
  let first := if mode = .pulse then edgeFrom p (tide + msT 1) else 0
  { p with first := first, next := first, armed := tide, plan := 0, notBefore := o.free }

/-- An output to which a program is applied (R385, R386, R389). -/
def Out.applied (mode : OutMode) (p : Prog) (tide : Nat) (o : Out) : Out :=
  { o with
    mode := if o.mode = .gate then .gate else mode
    prog := if mode = .off ∨ o.mode = .gate then none else some (p.applied mode o tide)
    lowPol := p.lowPol
    produced := 0
    pin := if o.pulse.isSome ∨ o.mode = .gate then o.pin else some p.lowPol }

theorem applyProg_eq (hn : n < 9) (mode : OutMode) (p : Prog) (s : State) :
    ReportEq (applyProg n mode p s) (setOut n ((out n s).applied mode p s.time.tide) s) := by
  unfold applyProg Out.applied Prog.applied Out.free
  extract_lets o tide notBefore first p' keep o' s1
  split
  next => exact .rfl' _
  next =>
    refine (drive_eq hn ..).trans ?_
    rw [out_setOut_same _ _ _ hn, setOut_setOut]
    exact .rfl' _

/-- A program that has just been applied is not over. -/
theorem ends_applied (mode : OutMode) (p : Prog) (tide : Nat) (o : Out) : (o.applied mode p tide).ends = false := by
  have hover : (p.applied mode o tide).over = false := by
    by_cases hcount : p.count = 0
    · simp [Prog.over, Prog.applied, hcount]
    · simp [Prog.over, Prog.applied, hcount]
  have hprog : ((o.applied mode p tide).prog.any (·.over)) = false := by
    rw [Out.applied]
    dsimp only
    split
    · rfl
    · exact hover
  rw [Out.ends, hprog, Bool.and_false, Bool.false_and]

theorem tideOutArm_of_refused {code : Nat} (hn : n ≤ 8) (href : armRefusal (heldProg n s).1 (heldProg n s).2 s.time.tide = some code)
    (c : Ctx) : tideOutArm n c s = refuse code s := by
  unfold tideOutArm
  rw [if_neg (Nat.not_lt.2 hn)]
  generalize heldProg n s = q at *
  obtain ⟨mode, p⟩ := q
  dsimp only at *
  rw [href]

theorem tideOutArm_of_taken (hn : n ≤ 8) (href : armRefusal (heldProg n s).1 (heldProg n s).2 s.time.tide = none)
    (c : Ctx) : tideOutArm n c s =
      answer rOk [] (endIfOver n (applyProg n (heldProg n s).1 (heldProg n s).2 (takeArm n s))) := by
  unfold tideOutArm
  rw [if_neg (Nat.not_lt.2 hn)]
  generalize heldProg n s = q at *
  obtain ⟨mode, p⟩ := q
  dsimp only at *
  rw [href]

theorem Prog.applied_first (o : Out) (tide : Nat) (p : Prog) :
    (p.applied .pulse o tide).first = edgeFrom p (tide + msT 1) := by simp only [Prog.applied, if_true]

theorem armRefusal_none {mode : OutMode} {p : Prog} {tide : Nat} (h : armRefusal mode p tide = none) (hmode : mode = .pulse)
    (hperiod : p.period = 0) : tide + msT 1 ≤ p.start := by
  unfold armRefusal at h
  by_contra hlate
  rw [if_neg (not_not_intro hmode)] at h
  split at h
  · exact absurd h (by simp)
  · split at h
    · exact absurd h (by simp)
    · rw [if_pos ⟨hperiod, by omega⟩] at h
      exact absurd h (by simp)

/-- The first edge is the lowest at or after an instant (R385). -/
theorem edgeFrom_le_iff {p : Prog} {x : Nat} (h : p.period = 0 → x ≤ p.start) (k : Nat) :
    x ≤ p.start + k * p.period ↔ edgeFrom p x ≤ k := by
  unfold edgeFrom
  split
  next hx => exact ⟨fun _ => Nat.zero_le k, fun _ => hx.trans (Nat.le_add_right ..)⟩
  next hx =>
    have hpos : 0 < p.period := Nat.pos_of_ne_zero fun h0 => hx (h h0)
    have hdiv : (x - p.start + p.period - 1) / p.period ≤ k ↔ x - p.start + p.period - 1 < (k + 1) * p.period := by
      rw [← Nat.lt_succ_iff, Nat.div_lt_iff_lt_mul hpos]
    rw [if_neg (Nat.ne_of_gt hpos), ceilDiv, hdiv, Nat.succ_mul]
    omega

theorem exec_zcpTideOutArm (t : Nat) (d : Dgram) (n : Nat) (s : State) :
    exec (.zcpTideOutArm t d n) s = zcp 0x0608 (laid (tideOutArm n)) t d s := rfl

theorem exec_zcpTideOutStop (t : Nat) (d : Dgram) (n : Nat) (s : State) :
    exec (.zcpTideOutStop t d n) s = zcp 0x0609 (laid (tideOutStop n)) t d s := rfl

section
variable (hd : Accepted 0x0608 d (advance t s)) (hlen : d.payload.length = Config.payloadLength 0x0608)
include hd hlen

theorem zcpTideOutArm_range (hn : 8 < n) : Answers (.zcpTideOutArm t d n) d rBadValue s (advance t s) :=
  answers_laid (exec_zcpTideOutArm t d n s) hd (by decide) hlen fun y hy => ⟨[], y, if_pos hn, hy⟩

theorem zcpTideOutArm_refused {code : Nat} (hn : n ≤ 8) (href : armRefusal (heldProg n (advance t s)).1
    (heldProg n (advance t s)).2 (advance t s).time.tide = some code) :
    Answers (.zcpTideOutArm t d n) d code s (advance t s) := by
  refine answers_laid (exec_zcpTideOutArm t d n s) hd (by decide) hlen fun y hy => ⟨[], y, ?_, hy⟩
  rw [← heldProg_of_restZ hy, ← time_of_restZ hy] at href
  exact tideOutArm_of_refused hn href d.ctx

theorem zcpTideOutArm_taken (hn : n ≤ 8) (href : armRefusal (heldProg n (advance t s)).1
    (heldProg n (advance t s)).2 (advance t s).time.tide = none) :
    Answers (.zcpTideOutArm t d n) d rOk s (applyProg n (heldProg n (advance t s)).1 (heldProg n (advance t s)).2
      (takeArm n (advance t s))) := by
  refine answers_laid (exec_zcpTideOutArm t d n s) hd (by decide) hlen fun y hy => ?_
  have href' := href
  rw [← heldProg_of_restZ hy, ← time_of_restZ hy] at href'
  refine ⟨[], _, tideOutArm_of_taken hn href' d.ctx, ?_⟩
  rw [heldProg_of_restZ hy]
  generalize heldProg n (advance t s) = q
  have happly (z : State) := applyProg_eq (Nat.lt_succ_of_le hn) q.1 q.2 (takeArm n z)
  have hended : ended n (setOut n ((out n (takeArm n y)).applied q.1 q.2 (takeArm n y).time.tide) (takeArm n y)) = _ :=
    ended_of_not (by rw [out_setOut_same _ _ _ (Nat.lt_succ_of_le hn)]; exact ends_applied ..)
  have htaken : restZ (takeArm n y) = restZ (takeArm n (advance t s)) := by rw [restZ_takeArm, hy, restZ_takeArm]
  rw [(endIfOver_eq (happly y) n).restZ, hended, (happly (advance t s)).restZ, out_of_restZ htaken, time_of_restZ htaken]
  exact (congrArg (setOut n _) htaken :)

end

/-- What an ARM in PULSE mode leaves of a program, but for an output in gate mode (R385). -/
theorem out_applyProg_pulse (hn : n < 9) (hmode : (out n s).mode ≠ .gate) (p : Prog) :
    (out n (applyProg n .pulse p s)).prog = some (p.applied .pulse (out n s) s.time.tide) ∧
    (out n (applyProg n .pulse p s)).mode = .pulse := by
  rw [(applyProg_eq hn .pulse p s).out n, out_setOut_same _ _ _ hn]
  exact ⟨if_neg (by simp [hmode]), if_neg hmode⟩

section
variable (hd : Accepted 0x0609 d (advance t s)) (hlen : d.payload.length = Config.payloadLength 0x0609)
include hd hlen

theorem zcpTideOutStop_range (hn : 8 < n) : Answers (.zcpTideOutStop t d n) d rBadValue s (advance t s) :=
  answers_laid (exec_zcpTideOutStop t d n s) hd (by decide) hlen fun y hy => ⟨[], y, if_pos hn, hy⟩

theorem zcpTideOutStop_stops (hn : n ≤ 8) : Answers (.zcpTideOutStop t d n) d rOk s
    (setOut n ((out n (advance t s)).applied .off { (heldProg n (advance t s)).2 with lowPol := (out n (advance t s)).lowPol }
      (advance t s).time.tide) (advance t s)) := by
  refine answers_laid (exec_zcpTideOutStop t d n s) hd (by decide) hlen fun y hy => ⟨[], _, if_neg (Nat.not_lt.2 hn), ?_⟩
  rw [(applyProg_eq (Nat.lt_succ_of_le hn) ..).restZ, heldProg_of_restZ hy, out_of_restZ hy, time_of_restZ hy]
  exact (congrArg (setOut n _) hy :)

end

end

theorem exec_pulseEdge (t : Nat) (n : Fin 9) (s : State) :
    exec (.pulseEdge t n) s = act t (onlyIf timingRuns (pulseEdge n)) s := rfl

theorem exec_pulseDeassert (t : Nat) (n : Fin 9) (s : State) :
    exec (.pulseDeassert t n) s = act t (onlyIf timingRuns (pulseEnd n)) s := rfl

theorem exec_tideMark (t : Nat) (n : Fin 8) (s : State) :
    exec (.tideMark t n) s = act t (onlyIf timingRuns (tideMark n)) s := rfl

/-- What runs only with timing does nothing where timing is off or the action changes nothing. -/
theorem does_timing_idle {i : Instr} {t : Nat} {s : State} {f : State → State}
    (hx : exec i s = act t (onlyIf timingRuns f) s) (h : timingRuns (advance t s) = false ∨ f (advance t s) = advance t s) :
    Does i s (advance t s) := by
  rcases h with hoff | hsame
  · exact does_onlyIf_of_not hx hoff
  · refine does_act hx ?_
    rw [onlyIf]
    split
    · rw [hsame]
      exact .rfl' _
    · exact .rfl' _

/-- Settles O44: `pulseEdge_asserts`, `pulseEdge_skips`, `pulseEnd_ends` and `tideMark_due` for the edges, `applyProg_eq`
for the commands. -/
theorem pulseOutputsRunTheirPrograms : Obligations.PulseOutputsRunTheirPrograms := by
  refine ⟨fun t n p s => ⟨fun hidle => ?idle, fun hruns hmode hprog => ⟨fun hearly => ?early, fun hover hdue =>
      ⟨fun hfree => ?asserts, fun hkept hgoes => ?skips, fun hkept hnone hcount hlast => ?last⟩⟩⟩,
    fun t n s => ⟨fun hidle => ?endIdle, fun u hruns hpulse => ⟨fun htide hclock => ?endEarly, fun hlate => ?ends⟩⟩,
    fun t n p s => ⟨fun hidle => ?markIdle, fun hruns hmode hprog => ⟨fun hunknown => ?unknown, fun e he =>
      ⟨fun hearly => ?markEarly, fun hdue hknown => ?marks, fun hdue hsoon => ?markSkips⟩⟩⟩,
    fun t d n s => fun hd hlen => ⟨zcpTideOutArm_range hd hlen, fun hn => ⟨fun hmode hperiod hwidth => ?width,
      fun hmode hperiod hcount => ?count, fun hmode hperiod hcount hstart => ?past, fun href =>
        ⟨zcpTideOutArm_taken hd hlen hn href, fun i hi => par_takeArm (by omega) hi _, fun hmode hgate => ?program⟩⟩⟩,
    fun t d n s => fun hd hlen => ⟨zcpTideOutStop_range hd hlen, fun hn => ?stop⟩⟩
  case idle => exact does_timing_idle (exec_pulseEdge t n s) (hidle.imp_right pulseEdge_of_not)
  case early => exact does_timing_idle (exec_pulseEdge t n s) (.inr (pulseEdge_of_early hmode hprog hearly))
  case asserts =>
    refine does_onlyIf (exec_pulseEdge t n s) hruns ((pulseEdge_asserts n.2 hmode hprog hover hdue hfree).trans ?_)
    unfold Out.asserted
    dsimp only
    generalize out n (advance t s) = o
    rcases o with ⟨_, _, _ | _⟩ <;> exact .rfl' _
  case skips =>
    refine does_onlyIf (exec_pulseEdge t n s) hruns ((pulseEdge_skips n.2 hmode hprog hover hdue hkept).trans ?_)
    rw [ended_of_not]
    · exact .rfl' _
    · rw [out_count, out_setOut_same _ _ _ n.2, ends_skips hmode]
      rcases hgoes with hpulse | hcount | hnext
      · rw [Option.isNone_eq_false_iff.2 hpulse, Bool.and_false]
      · simp [Prog.over, Prog.step, hcount]
      · have hmore : p.step.over = false := Bool.and_eq_false_iff.2 (.inr (decide_eq_false (Nat.not_le.2 hnext)))
        rw [hmore, Bool.false_and]
  case last =>
    refine does_onlyIf (exec_pulseEdge t n s) hruns ((pulseEdge_skips n.2 hmode hprog hover hdue hkept).trans ?_)
    rw [ended_of_ends]
    · exact .rfl' _
    · rw [out_count, out_setOut_same _ _ _ n.2, ends_skips hmode, hnone]
      simp [Prog.over, Prog.step, hcount, hlast]
  case endIdle => exact does_timing_idle (exec_pulseDeassert t n s) (hidle.imp_right pulseEnd_of_none)
  case endEarly => exact does_timing_idle (exec_pulseDeassert t n s) (.inr (pulseEnd_of_early hpulse htide hclock))
  case ends =>
    refine does_onlyIf (exec_pulseDeassert t n s) hruns ((pulseEnd_ends n.2 hpulse hlate).trans ?_)
    dsimp only
    generalize out n (advance t s) = o
    have hends : ({ o with pulse := none, pin := some o.lowPol } : Out).ends = (o.mode == .pulse && o.prog.any (·.over)) :=
      Bool.and_true _
    rw [ended, out_setOut_same _ _ _ n.2, hends, setOut_setOut, noteIf]
    split <;> exact .rfl' _
  case markIdle => exact does_timing_idle (exec_tideMark t n s) (hidle.imp_right tideMark_of_not)
  case unknown => exact does_timing_idle (exec_tideMark t n s) (.inr (tideMark_of_unknown hmode hprog hunknown))
  case markEarly => exact does_timing_idle (exec_tideMark t n s) (.inr (tideMark_of_early hmode hprog he hearly))
  case marks =>
    refine does_onlyIf (exec_tideMark t n s) hruns ?_
    rw [tideMark_due hmode hprog he hdue, if_neg hknown]
    refine (assertPulse_eq (by omega) ..).trans ?_
    rw [out_setOut_same _ _ _ (by omega), setOut_setOut]
    unfold Out.asserted
    dsimp only
    generalize out n (advance t s) = o
    rcases o with ⟨_, _, _ | _⟩ <;> exact .rfl' _
  case markSkips =>
    refine does_onlyIf (exec_tideMark t n s) hruns ?_
    rw [tideMark_due hmode hprog he hdue, if_pos hsoon, skipEdges_one, out_setOut_same _ _ _ (by omega), setOut_setOut]
    exact .rfl' _
  case width =>
    refine zcpTideOutArm_refused hd hlen hn ?_
    rw [armRefusal, if_neg (not_not_intro hmode), if_pos ⟨hperiod, hwidth⟩]
    rfl
  case count =>
    refine zcpTideOutArm_refused hd hlen hn ?_
    rw [armRefusal, if_neg (not_not_intro hmode), if_neg (fun h => h.1 hperiod), if_pos ⟨hperiod, hcount⟩]
    rfl
  case past =>
    refine zcpTideOutArm_refused hd hlen hn ?_
    rw [armRefusal, if_neg (not_not_intro hmode), if_neg (fun h => h.1 hperiod), if_neg (fun h => h.2 hcount),
      if_pos ⟨hperiod, hstart⟩]
  case program =>
    have htime := time_takeArm n (advance t s)
    have hout : out n (takeArm n (advance t s)) = out n (advance t s) := by rw [out, htime, out]
    obtain ⟨hprog, hpulse⟩ := out_applyProg_pulse (s := takeArm n (advance t s)) (Nat.lt_succ_of_le hn)
      (by rw [hout]; exact hgate) (heldProg n (advance t s)).2
    have hfirst := edgeFrom_le_iff (armRefusal_none href hmode)
    rw [htime] at hprog
    rw [hmode]
    refine ⟨_, hprog, hpulse, rfl, rfl, rfl, fun k => ?_⟩
    rw [Prog.applied_first]
    exact hfirst k
  case stop =>
    have hstop := zcpTideOutStop_stops hd hlen hn
    simp only [Out.applied, true_or, if_true] at hstop
    exact hstop

end Sys2Proof.Machine
end

section
/-! PTP of the hosts: messages and transmit time-stamps (R366, R379 to R382). -/

namespace Sys2Proof.Machine

open Touches (refl ite of_fields foldl)

/-! ### What was sent stays sent -/

theorem sendReply_sent (k seq typ code : Nat) (b : List Byte) (s : State) : s.sent <:+ (sendReply k seq typ code b s).sent := by
  unfold sendReply
  extract_lets bytes s1
  exact zcpSend_sent k bytes s1

theorem emit_sent (x : Sent) (s : State) : s.sent <:+ (emit x s).sent := List.suffix_cons x s.sent

theorem mem_sent_emit (x : Sent) (s : State) : x ∈ (emit x s).sent := List.mem_cons_self

/-! ### The queue of transmit time-stamps (R379, R380) -/

section
variable (port : Nat) (s : State)

theorem txQueue_setTxQueue (q : TxQueue) : txQueue port (setTxQueue port q s) = q := sGet_sPut_same ..

theorem txQueue_setTxQueue_of_ne {k : Nat} (h : k ≠ port) (q : TxQueue) :
    txQueue k (setTxQueue port q s) = txQueue k s := sGet_sPut_of_ne _ _ _ h

theorem txQueue_count (c : Ctr) (i n k : Nat) : txQueue k (count c i n s) = txQueue k s := rfl

theorem txtsPush_of_room (e : TxTs) (h : (txQueue port s).entries.length < 64) :
    txtsPush port e s = setTxQueue port { txQueue port s with entries := (txQueue port s).entries ++ [e] } s := if_pos h

theorem txtsPush_of_full (e : TxTs) (h : 64 ≤ (txQueue port s).entries.length) :
    txtsPush port e s = count .txtsOverflow port 1
      (setTxQueue port ⟨(txQueue port s).entries.drop 1 ++ [e], true, (txQueue port s).removed + 1⟩ s) :=
  if_neg (Nat.not_lt.2 h)

theorem txQueue_txtsPush_of_ne {k : Nat} (h : k ≠ port) (e : TxTs) : txQueue k (txtsPush port e s) = txQueue k s := by
  unfold txtsPush
  extract_lets q
  split
  · exact txQueue_setTxQueue_of_ne port s h _
  · exact txQueue_setTxQueue_of_ne port s h _

end

section
variable {α : Type} {p : α → Bool}

theorem takeFirst_of_none {l : List α} (h : ∀ e ∈ l, p e = false) : takeFirst p l = (none, l) := by
  induction l with
  | nil => rfl
  | cons a l ih =>
    rw [takeFirst, h a List.mem_cons_self, ih fun e he => h e (List.mem_cons_of_mem a he)]
    rfl

theorem takeFirst_of_split {a b : List α} {e : α} (ha : ∀ f ∈ a, p f = false) (he : p e = true) :
    takeFirst p (a ++ e :: b) = (some e, a ++ b) := by
  induction a with
  | nil => exact if_pos he
  | cons c a ih =>
    rw [List.cons_append, takeFirst, ha c List.mem_cons_self, ih fun f hf => ha f (List.mem_cons_of_mem c hf)]
    rfl

end

/-- The layout of an entry (R380). -/
theorem txTs_fields {port : Nat} {e : TxTs} (hport : port < 256) (htype : e.mtype < 16) (hdomain : e.domain < 256)
    (howner : e.owner < 5) (hseq : e.seq < 2 ^ 16) : (e.bytes port).length = 24 ∧ beAt (e.bytes port) 0 1 = port ∧
    beAt (e.bytes port) 1 1 = 16 * e.mtype ∧ beAt (e.bytes port) 2 1 = e.domain ∧ beAt (e.bytes port) 3 1 = e.owner ∧
    beAt (e.bytes port) 4 2 = e.seq ∧ beAt (e.bytes port) 6 1 = (if e.stepped then 1 else 0) ∧
    beAt (e.bytes port) 8 12 = tide96 e.time := by
  have htime := tide96_lt e.time
  have hstepped : (if e.stepped then 1 else 0) < 256 ^ 1 := by split <;> decide
  have hbytes : e.bytes port = layout [(1, port), (1, 16 * e.mtype), (1, e.domain), (1, e.owner), (2, e.seq),
      (1, if e.stepped then 1 else 0), (1, 0), (12, tide96 e.time), (4, 0)] := by
    simp [TxTs.bytes, tideBytes, layout, Nat.mul_comm]
  rw [hbytes]
  generalize tide96 e.time = stamp at *
  generalize (if e.stepped then 1 else 0) = flag at *
  exact ⟨by rw [length_layout]; rfl, beAt_layout [] _ (by omega), beAt_layout [(1, port)] _ (by omega),
    beAt_layout [(1, port), (1, 16 * e.mtype)] _ (by omega),
    beAt_layout [(1, port), (1, 16 * e.mtype), (1, e.domain)] _ (by omega),
    beAt_layout [(1, port), (1, 16 * e.mtype), (1, e.domain), (1, e.owner)] _ hseq,
    beAt_layout [(1, port), (1, 16 * e.mtype), (1, e.domain), (1, e.owner), (2, e.seq)] _ hstepped,
    beAt_layout [(1, port), (1, 16 * e.mtype), (1, e.domain), (1, e.owner), (2, e.seq), (1, flag), (1, 0)] _ htime⟩

/-! ### ZCP_PTP_SEND and ZCP_PTP_TXTS -/

theorem exec_zcpPtpSend (t : Nat) (d : Dgram) (port : Nat) (msg : List Byte) (raw : Nat) (s : State) :
    exec (.zcpPtpSend t d port msg raw) s = zcp 0x0606 (laid (ptpSend port msg raw)) t d s := rfl

theorem exec_zcpPtpTxts (t : Nat) (d : Dgram) (port mtype dom seq : Nat) (s : State) :
    exec (.zcpPtpTxts t d port mtype dom seq) s = zcp 0x0607 (laid (ptpTxts port mtype dom seq)) t d s := rfl

section
variable {x y : State} (h : restZ y = restZ x)
include h

theorem portUp_of_restZ (port : Nat) : portUp port y = portUp port x := (congrArg (portUp port) h :)

theorem txStamp_of_restZ (port raw : Nat) : txStamp port raw y = txStamp port raw x := (congrArg (txStamp port raw) h :)

theorem txQueue_of_restZ (port : Nat) : txQueue port y = txQueue port x := (congrArg (txQueue port) h :)

theorem ptpTo_of_restZ (port typ : Nat) : ptpTo port typ y = ptpTo port typ x := (congrArg (ptpTo port typ) h :)

theorem setTxQueue_of_restZ (port : Nat) (q : TxQueue) : restZ (setTxQueue port q y) = restZ (setTxQueue port q x) :=
  (congrArg (setTxQueue port q) h :)

end

section
variable {port : Nat} {msg : List Byte} {s : State}

theorem sendEvent_of_general (h : 4 ≤ ptpType msg) (owner at_ : Nat) : sendEvent port owner msg at_ s = ptpOut port msg at_ s :=
  if_neg (by simp [ptpIsEvent, h])

theorem sendEvent_of_event (h : ptpType msg < 4) (owner at_ : Nat) : sendEvent port owner msg at_ s =
    count .ptpTxEvent port 1 (txtsPush port { mtype := ptpType msg, domain := ptpDomain msg, owner := owner, seq := ptpSeq msg
                                              stepped := false, time := at_ } (ptpOut port msg at_ s)) :=
  if_pos (decide_eq_true h)

theorem txtsPush_sent (e : TxTs) : (txtsPush port e s).sent = s.sent := by
  unfold txtsPush
  extract_lets q
  split <;> rfl

theorem mem_sent_sendEvent (owner at_ : Nat) :
    Sent.ptp port (ptpTo port (ptpType msg) s) msg at_ ∈ (sendEvent port owner msg at_ s).sent := by
  rcases Nat.lt_or_ge (ptpType msg) 4 with hevent | hgeneral
  · rw [sendEvent_of_event hevent]
    exact (txtsPush_sent (s := ptpOut port msg at_ s) _).symm ▸ mem_sent_emit _ s
  · rw [sendEvent_of_general hgeneral]
    exact mem_sent_emit _ s

end

section
variable {t : Nat} {d : Dgram} {port raw : Nat} {msg : List Byte} {s : State}

theorem ptpSend_of_sound (hport : port ≤ 129) (hsound : ptpSound msg = true) (hup : portUp port s = true) (c : Ctx) :
    ptpSend port msg raw c s = answer rOk [] (sendEvent port (1 + c.slot) msg (txStamp port raw s) s) := by
  rw [ptpSend, if_neg (by simp [hsound, hport]), hup]
  rfl

variable (hd : Accepted 0x0606 d (advance t s)) (hlen : d.payload.length = Config.payloadLength 0x0606)
include hd hlen

theorem zcpPtpSend_refused (h : 129 < port ∨ ptpSound msg = false) :
    Answers (.zcpPtpSend t d port msg raw) d rBadValue s (advance t s) :=
  answers_laid (exec_zcpPtpSend t d port msg raw s) hd (by decide) hlen fun y hy =>
    ⟨[], y, if_pos (h.imp_right fun hbad => (congrArg not hbad :)), hy⟩

theorem zcpPtpSend_down (hport : port ≤ 129) (hsound : ptpSound msg = true) (hup : portUp port (advance t s) = false) :
    Answers (.zcpPtpSend t d port msg raw) d rRefused s (advance t s) := by
  refine answers_laid (exec_zcpPtpSend t d port msg raw s) hd (by decide) hlen fun y hy => ⟨[], y, ?_, hy⟩
  rw [ptpSend, if_neg (by simp [hsound, hport]), portUp_of_restZ hy, hup]
  rfl

variable (hport : port ≤ 129) (hsound : ptpSound msg = true) (hup : portUp port (advance t s) = true)
include hport hsound hup

theorem zcpPtpSend_sends : Leads (.zcpPtpSend t d port msg raw) s fun z =>
    Sent.ptp port (ptpTo port (ptpType msg) (advance t s)) msg (txStamp port raw (advance t s)) ∈ z.sent := by
  have hy := restZ_taken d (advance t s)
  refine ⟨_, zcp_accepted _ hd, ?_⟩
  rw [laid_of_length _ (c := d.ctx) (hlen.trans (congrArg Config.payloadLength hd.typ.symm)),
    ptpSend_of_sound hport hsound ((portUp_of_restZ hy port).trans hup), finish_answer _ _ _ (by simp [hd.typ]),
    txStamp_of_restZ hy, ← ptpTo_of_restZ hy]
  exact (settle_sent _).subset ((sendReply_sent ..).subset (mem_sent_sendEvent ..))

theorem zcpPtpSend_general (h : 4 ≤ ptpType msg) : Answers (.zcpPtpSend t d port msg raw) d rOk s (advance t s) := by
  refine answers_laid (exec_zcpPtpSend t d port msg raw s) hd (by decide) hlen fun y hy =>
    ⟨[], _, ptpSend_of_sound hport hsound ((portUp_of_restZ hy port).trans hup) d.ctx, ?_⟩
  rw [sendEvent_of_general h]
  exact (emit_eq _ y).restZ.trans hy

theorem zcpPtpSend_event (h : ptpType msg < 4) (hroom : (txQueue port (advance t s)).entries.length < 64) :
    Answers (.zcpPtpSend t d port msg raw) d rOk s (setTxQueue port { txQueue port (advance t s) with
      entries := (txQueue port (advance t s)).entries ++ [{ mtype := ptpType msg, domain := ptpDomain msg
                                                            owner := 1 + d.session, seq := ptpSeq msg
                                                            stepped := false, time := txStamp port raw (advance t s) }] }
      (advance t s)) := by
  refine answers_laid (exec_zcpPtpSend t d port msg raw s) hd (by decide) hlen fun y hy =>
    ⟨[], _, ptpSend_of_sound hport hsound ((portUp_of_restZ hy port).trans hup) d.ctx, ?_⟩
  have hqueue : txQueue port (ptpOut port msg (txStamp port raw y) y) = txQueue port (advance t s) := txQueue_of_restZ hy port
  rw [sendEvent_of_event h, txtsPush_of_room _ _ _ (by rw [hqueue]; exact hroom), hqueue, txStamp_of_restZ hy]
  exact setTxQueue_of_restZ hy port _

end

section
variable {t : Nat} {d : Dgram} {port mtype dom seq : Nat} {s : State}
  (hd : Accepted 0x0607 d (advance t s)) (hlen : d.payload.length = Config.payloadLength 0x0607)

theorem ptpTxts_of_none (hport : port ≤ 129) (c : Ctx)
    (h : ∀ e ∈ (txQueue port s).entries, e.matches mtype dom seq (1 + c.slot) = false) :
    ptpTxts port mtype dom seq c s = refuse rNotFound s := by
  unfold ptpTxts txtsTake
  rw [if_neg (Nat.not_lt.2 hport)]
  dsimp only
  rw [takeFirst_of_none h]

theorem ptpTxts_of_found (hport : port ≤ 129) (c : Ctx) {a b : List TxTs} {e : TxTs}
    (hsplit : (txQueue port s).entries = a ++ e :: b) (ha : ∀ f ∈ a, f.matches mtype dom seq (1 + c.slot) = false)
    (he : e.matches mtype dom seq (1 + c.slot) = true) : ptpTxts port mtype dom seq c s =
      answer rOk (e.bytes port) (setTxQueue port { txQueue port s with entries := a ++ b } s) := by
  unfold ptpTxts txtsTake
  rw [if_neg (Nat.not_lt.2 hport)]
  dsimp only
  rw [hsplit, takeFirst_of_split ha he]

include hd hlen

theorem zcpPtpTxts_range (hport : 129 < port) :
    Answers (.zcpPtpTxts t d port mtype dom seq) d rBadValue s (advance t s) :=
  answers_laid (exec_zcpPtpTxts t d port mtype dom seq s) hd (by decide) hlen fun y hy => ⟨[], y, if_pos hport, hy⟩

theorem zcpPtpTxts_none (hport : port ≤ 129)
    (h : ∀ e ∈ (txQueue port (advance t s)).entries, e.matches mtype dom seq (1 + d.session) = false) :
    Answers (.zcpPtpTxts t d port mtype dom seq) d rNotFound s (advance t s) :=
  answers_laid (exec_zcpPtpTxts t d port mtype dom seq s) hd (by decide) hlen fun y hy =>
    ⟨[], y, ptpTxts_of_none hport d.ctx (txQueue_of_restZ hy port ▸ h), hy⟩

theorem zcpPtpTxts_found (hport : port ≤ 129) {a b : List TxTs} {e : TxTs}
    (hsplit : (txQueue port (advance t s)).entries = a ++ e :: b)
    (ha : ∀ f ∈ a, f.matches mtype dom seq (1 + d.session) = false) (he : e.matches mtype dom seq (1 + d.session) = true) :
    Answers (.zcpPtpTxts t d port mtype dom seq) d rOk s
      (setTxQueue port { txQueue port (advance t s) with entries := a ++ b } (advance t s)) :=
  answers_laid (exec_zcpPtpTxts t d port mtype dom seq s) hd (by decide) hlen fun y hy =>
    ⟨_, _, ptpTxts_of_found hport d.ctx (txQueue_of_restZ hy port ▸ hsplit) ha he,
      txQueue_of_restZ hy port ▸ setTxQueue_of_restZ hy port _⟩

end

/-- Settles O49: the actions answer by `ptpSend_of_sound` and `ptpTxts_of_found`; the rest are facts of the queue. -/
theorem hostsSendPtpAndReadItsTimeStamps : Obligations.HostsSendPtpAndReadItsTimeStamps := by
  refine ⟨fun t d port msg raw s => fun hd hlen => ⟨zcpPtpSend_refused hd hlen, fun hport hsound =>
      ⟨zcpPtpSend_down hd hlen hport hsound, zcpPtpSend_sends hd hlen hport hsound,
        fun hup hevent hroom => zcpPtpSend_event hd hlen hport hsound hup hevent hroom,
        fun hup hgeneral => zcpPtpSend_general hd hlen hport hsound hup hgeneral⟩⟩,
    fun t d port mtype dom seq s => fun hd hlen => ⟨zcpPtpTxts_range hd hlen, fun hport =>
      ⟨zcpPtpTxts_none hd hlen hport, fun a e b hsplit ha he => ⟨zcpPtpTxts_found hd hlen hport hsplit ha he, ?_⟩⟩⟩,
    fun port e x => ⟨fun hfull => ?_, fun hroom => ?_, fun k hk => txQueue_txtsPush_of_ne port x hk e⟩,
    fun port e => txTs_fields, fun port raw x => ⟨rfl, rfl⟩⟩
  · rw [ptpTxts_of_found hport d.ctx hsplit ha he]
    rfl
  · rw [txtsPush_of_full port x e hfull, txQueue_count, txQueue_setTxQueue, ctrGet_count_same]
    exact ⟨rfl, rfl⟩
  · rw [txtsPush_of_room port x e hroom, txQueue_setTxQueue]

end Sys2Proof.Machine
end

section
/-! The PTP time transmitter role (R370 to R373, R379, R381, R394). -/

namespace Sys2Proof.Machine

open Touches (refl ite of_fields foldl)

/-! ### Messages of the module (R370) -/

/-- The fields of a message header. -/
def headerFields (typ len domain flags : Nat) (corr : Int) (port seq ctl : Nat) (log : Int) : List (Nat × Nat) :=
  [(1, typ), (1, 0x12), (2, len), (1, domain), (1, 0), (1, flags / 256), (1, flags), (8, wrapTo 64 corr), (4, 0),
    (10, portIdentity port), (2, seq), (1, ctl), (1, wrapTo 8 log)]

theorem layout_append (fs gs : List (Nat × Nat)) : layout fs ++ layout gs = layout (fs ++ gs) := List.flatMap_append.symm

section
variable {typ len domain flags port seq ctl : Nat} {corr log : Int}

theorem ptpHeader_eq : ptpHeader typ len domain flags corr port seq ctl log =
    layout (headerFields typ len domain flags corr port seq ctl log) := by
  simp only [ptpHeader, headerFields, layout, List.flatMap_cons, List.flatMap_nil, List.append_nil, List.append_assoc]
  rfl

theorem stampBytes_eq (x : Nat) : stampBytes x = layout [(6, x / 65536000000000), (4, x / 65536 % 1000000000)] := by
  simp [stampBytes, layout]

variable (gs : List (Nat × Nat))

/-- A message whose header has given fields. -/
def message (typ len domain flags : Nat) (corr : Int) (port seq ctl : Nat) (log : Int) (gs : List (Nat × Nat)) : List Byte :=
  layout (headerFields typ len domain flags corr port seq ctl log ++ gs)

theorem ptpHeader_append : ptpHeader typ len domain flags corr port seq ctl log ++ layout gs =
    message typ len domain flags corr port seq ctl log gs := by
  rw [ptpHeader_eq, layout_append]
  rfl

theorem ptpType_message (h : typ < 16) : ptpType (message typ len domain flags corr port seq ctl log gs) = typ := by
  have hhead : (message typ len domain flags corr port seq ctl log gs).headD 0 = BitVec.ofNat 8 typ := rfl
  rw [ptpType, hhead, BitVec.toNat_ofNat]
  omega

theorem ptpDomain_message (h : domain < 256) :
    ptpDomain (message typ len domain flags corr port seq ctl log gs) = domain :=
  beAt_layout [(1, typ), (1, 0x12), (2, len)] _ h

theorem ptpSeq_message (h : seq < 2 ^ 16) : ptpSeq (message typ len domain flags corr port seq ctl log gs) = seq :=
  beAt_layout [(1, typ), (1, 0x12), (2, len), (1, domain), (1, 0), (1, flags / 256), (1, flags), (8, wrapTo 64 corr), (4, 0),
    (10, portIdentity port)] _ h

theorem ptpTwoStep_message : ptpTwoStep (message typ len domain 0x0200 corr port seq ctl log gs) = true := by
  have hflags : beAt (message typ len domain 0x0200 corr port seq ctl log gs) 6 1 = 2 :=
    beAt_layout [(1, typ), (1, 0x12), (2, len), (1, domain), (1, 0)] _ (by decide)
  rw [ptpTwoStep, hflags]
  rfl

theorem beAt_message_corr : beAt (message typ len domain flags corr port seq ctl log gs) 8 8 = wrapTo 64 corr := by
  refine beAt_layout [(1, typ), (1, 0x12), (2, len), (1, domain), (1, 0), (1, flags / 256), (1, flags)] _ ?_
  unfold wrapTo
  omega

/-- A field behind the header. -/
theorem beAt_message (pre post : List (Nat × Nat)) {n v : Nat} (h : v < 256 ^ n) :
    beAt (message typ len domain flags corr port seq ctl log (pre ++ (n, v) :: post)) (34 + (pre.map (·.1)).sum) n = v := by
  have hfield := beAt_layout (headerFields typ len domain flags corr port seq ctl log ++ pre) post h
  rw [List.append_assoc, List.map_append, List.sum_append] at hfield
  exact hfield

theorem length_message : (message typ len domain flags corr port seq ctl log gs).length = 34 + (gs.map (·.1)).sum := by
  rw [message, length_layout, List.map_append, List.sum_append]
  rfl

end

theorem beNat_lt (l : List Byte) : beNat l < 256 ^ l.length := by
  induction l using List.reverseRecOn with
  | nil => exact Nat.one_pos
  | append_singleton l b ih =>
    rw [beNat_concat, List.length_append, List.length_singleton, Nat.pow_succ]
    have hb := b.isLt
    omega

/-- A field is less than its width allows. -/
theorem beAt_lt (b : List Byte) (off n : Nat) : beAt b off n < 256 ^ n :=
  (beNat_lt _).trans_le (Nat.pow_le_pow_right (by decide) (by rw [slice, List.length_take]; exact Nat.min_le_left ..))

/-- The ten bytes of a time and the field behind it. -/
def stampFields (x n v : Nat) : List (Nat × Nat) := [(6, x / 65536000000000), (4, x / 65536 % 1000000000), (n, v)]

theorem layout_stampFields (x n v : Nat) : stampBytes x ++ natBE n v = layout (stampFields x n v) := by
  simp [stampBytes, layout, stampFields]

/-! ### Requests (R373, R394) -/

section
variable {port : Nat} {s : State}

theorem txPort_setTxPort (x : PtpTx) : txPort port (setTxPort port x s) = x := sGet_sPut_same ..

theorem admitRequest_of_few (h : (inLastSecond (txPort port s).answers s).length < 128) : admitRequest port s =
    (true, setTxPort port { txPort port s with answers := s.time.now :: inLastSecond (txPort port s).answers s } s) := if_pos h

theorem admitRequest_of_many (h : 128 ≤ (inLastSecond (txPort port s).answers s).length) :
    admitRequest port s = (false, count .ptpRateDisc port 1 s) := if_neg (Nat.not_lt.2 h)

theorem countRx_of_event {b : List Byte} (h : ptpType b < 4) : countRx port b s = count .ptpRxEvent port 1 s :=
  if_pos (decide_eq_true h)

variable {m : PtpIn} {f : State → State}

theorem withPtp_of_bad (h : m.fcsOk = false) : withPtp port m f s = s := by rw [withPtp, h]; rfl

theorem withPtp_of_unsound (hfcs : m.fcsOk = true) (h : ptpSound m.bytes = false) :
    withPtp port m f s = count .ptpDisc port 1 s := by rw [withPtp, hfcs, h]; rfl

theorem withPtp_of_sound (hfcs : m.fcsOk = true) (h : ptpSound m.bytes = true) :
    withPtp port m f s = f (countRx port m.bytes s) := by rw [withPtp, hfcs, h]; rfl

variable {runs : State → Bool}

theorem ptpIn_of_discarded (hport : port < 128) (h : m.fcsOk = false ∨ 9216 < m.len) :
    ptpIn port m runs f s = discard port .fcsErr (countFrame port m.len m.fecCorr m.fecUncorr s) := by
  rw [ptpIn, if_pos hport]
  exact if_pos (h.imp_left fun hbad => (congrArg not hbad :))

/-- The module once a port has taken in a frame: an ingress port counts it (R86). -/
def framed (port : Nat) (m : PtpIn) (s : State) : State :=
  if port < 128 then countFrame port m.len m.fecCorr m.fecUncorr s else s

theorem ptpIn_of_taken (hfcs : m.fcsOk = true) (hlen : m.len ≤ 9216 ∨ 128 ≤ port) :
    ptpIn port m runs f s = if runs (framed port m s) then withPtp port m f (framed port m s) else framed port m s := by
  unfold ptpIn framed
  split
  next hport => exact if_neg (by simp [hfcs]; omega)
  next => rfl

theorem ptpIn_of_host (hport : 128 ≤ port) : ptpIn port m runs f s = if runs s then withPtp port m f s else s :=
  if_neg (Nat.not_lt.2 hport)

end

/-! ### An event message and its entry (R379, R381) -/

section
variable {port : Nat} {s : State}

theorem setTxPort_touches (x : PtpTx) : Touches [.ports] s (setTxPort port x s) := of_fields rfl

theorem txtsPush_touches (e : TxTs) : Touches [.ports] s (txtsPush port e s) := by
  unfold txtsPush
  extract_lets q
  split
  · exact of_fields rfl
  · exact (of_fields (l := [.ports]) (by exact rfl)).report (Touches.count _ ..)

theorem txtsPush_tx (e : TxTs) : (txtsPush port e s).time.tx = s.time.tx := by
  unfold txtsPush
  extract_lets q
  split <;> rfl

theorem ctrGet_txtsPush {c : Ctr} (h : c ≠ .txtsOverflow) (i : Nat) (e : TxTs) :
    ctrGet c i (txtsPush port e s) = ctrGet c i s := by
  unfold txtsPush
  extract_lets q
  split
  · rfl
  · exact (ctrGet_count_of_ne h ..).trans rfl

theorem mem_txQueue_txtsPush (e : TxTs) : e ∈ (txQueue port (txtsPush port e s)).entries := by
  rcases Nat.lt_or_ge (txQueue port s).entries.length 64 with hroom | hfull
  · rw [txtsPush_of_room port s e hroom, txQueue_setTxQueue]
    exact List.mem_append_right _ (List.mem_singleton_self e)
  · rw [txtsPush_of_full port s e hfull, txQueue_count, txQueue_setTxQueue]
    exact List.mem_append_right _ (List.mem_singleton_self e)

/-- An entry that is there is found, or an older one like it. -/
theorem takeFirst_of_mem {α : Type} {p : α → Bool} {l : List α} {e : α} (h : e ∈ l) (he : p e = true) :
    ∃ f r, takeFirst p l = (some f, r) := by
  induction l with
  | nil => exact absurd h List.not_mem_nil
  | cons a l ih =>
    rw [takeFirst]
    split
    · exact ⟨_, _, rfl⟩
    next ha =>
      rcases List.mem_cons.1 h with rfl | hl
      · exact absurd he ha
      · obtain ⟨f, r, hf⟩ := ih hl
        rw [hf]
        exact ⟨f, _, rfl⟩

/-- What the module is like after an event message and the reading of its entry. -/
structure SentEvent (port : Nat) (b : List Byte) (at_ : Nat) (x z : State) : Prop where
  touches : Touches [.ports] x z
  tx : z.time.tx = x.time.tx
  sent : Sent.ptp port (ptpTo port (ptpType b) x) b at_ ∈ z.sent
  counted : ctrGet .ptpTxEvent port z = min ctrMax (ctrGet .ptpTxEvent port x + 1)

theorem sentEvent_sendEvent {b : List Byte} (h : ptpType b < 4) (owner at_ : Nat) :
    SentEvent port b at_ s (sendEvent port owner b at_ s) where
  touches := by
    rw [sendEvent_of_event h]
    exact (((Touches.emit s _).mono rfl).next (txtsPush_touches _)).report (Touches.count ..)
  tx := by
    rw [sendEvent_of_event h]
    exact txtsPush_tx _
  sent := mem_sent_sendEvent owner at_
  counted := by
    rw [sendEvent_of_event h, ctrGet_count_same, ctrGet_txtsPush (by decide)]
    rfl

theorem SentEvent.take {b : List Byte} {at_ : Nat} {x : State} (h : SentEvent port b at_ x s) (q : TxQueue) :
    SentEvent port b at_ x (setTxQueue port q s) :=
  { h with
    touches := h.touches.next (of_fields rfl)
    tx := h.tx
    sent := h.sent
    counted := h.counted }

theorem SentEvent.next {b b' : List Byte} {at_ at' : Nat} {x : State} (h : SentEvent port b at_ x s) :
    SentEvent port b at_ x (ptpOut port b' at' s) :=
  { touches := h.touches.report (Touches.emit s _)
    tx := h.tx
    sent := List.mem_cons_of_mem _ h.sent
    counted := h.counted }

theorem ptpTo_of_touches {x z : State} (h : Touches [.ports] x z) (port typ : Nat) : ptpTo port typ z = ptpTo port typ x := by
  have hpar : par .timingPtpTransport port 0 z = par .timingPtpTransport port 0 x := by rw [par, h.force rfl, par]
  rw [ptpTo, hpar, ptpTo]

theorem txtsTake_of_mem {mtype dom seq owner : Nat} {e : TxTs} (h : e ∈ (txQueue port s).entries)
    (he : e.matches mtype dom seq owner = true) :
    ∃ (f : TxTs) (q : TxQueue), txtsTake port mtype dom seq owner s = (some f, setTxQueue port q s) := by
  obtain ⟨f, r, hf⟩ := takeFirst_of_mem (p := fun x : TxTs => x.matches mtype dom seq owner) h he
  refine ⟨f, { txQueue port s with entries := r }, ?_⟩
  unfold txtsTake
  dsimp only
  rw [hf]

/-- The entry that an event message of the module makes is read again. -/
theorem txtsTake_sendEvent {b : List Byte} (h : ptpType b < 4) (at_ : Nat) : ∃ (f : TxTs) (q : TxQueue),
    txtsTake port (ptpType b) (ptpDomain b) (ptpSeq b) 0 (sendEvent port 0 b at_ s) =
      (some f, setTxQueue port q (sendEvent port 0 b at_ s)) := by
  rw [sendEvent_of_event h]
  exact txtsTake_of_mem (mem_txQueue_txtsPush _) (by simp [TxTs.matches])

end

/-! ### PTP_SYNC_TX and PTP_ANNOUNCE_TX (R373, R381, R421) -/

/-- The action of PTP_SYNC_TX. -/
def sendSync (port raw : Nat) (s : State) : State :=
  let x := txPort port s
  let dom := par0 .timingPtpTxDomain s
  let log := signed 32 (par0 .timingPtpTxSyncLog s)
  let at_ := txStamp port raw s
  let sync := ptpHeader 0 44 dom 0x0200 0 port x.syncSeq 0 log ++ natBE 10 0
  let s1 := sendEvent port 0 sync at_ (setTxPort port { x with syncSeq := (x.syncSeq + 1) % 65536 } s)
  match txtsTake port 0 dom x.syncSeq 0 s1 with
  | (some e, s2) =>
    ptpOut port (ptpHeader 8 44 dom 0 (stampFrac e.time) port x.syncSeq 2 log ++ stampBytes e.time) at_ s2
  | (none, s2) => s2

theorem exec_ptpSyncTx (t : Nat) (port : Fin 128) (raw : Nat) (s : State) :
    exec (.ptpSyncTx t port raw) s = act t (onlyIf (txRuns port) (sendSync port raw)) s := rfl

theorem SentEvent.settle {port : Nat} {b : List Byte} {at_ : Nat} {x s : State} (h : SentEvent port b at_ x s) :
    SentEvent port b at_ x (settle s) where
  touches := h.touches.report (Touches.settle s)
  tx := by rw [settle_time, h.tx]
  sent := (settle_sent s).subset h.sent
  counted := ((settle_eq s).ctr _ _ (by decide)).trans h.counted

section
variable {port raw : Nat} {s : State} (hdom : par0 .timingPtpTxDomain s < 256) (hseq : (txPort port s).syncSeq < 2 ^ 16)

/-- The Sync of a port (R381). -/
def syncMessage (port : Nat) (s : State) : List Byte :=
  message 0 44 (par0 .timingPtpTxDomain s) 0x0200 0 port (txPort port s).syncSeq 0 (signed 32 (par0 .timingPtpTxSyncLog s))
    [(10, 0)]

include hdom hseq

theorem sendSync_eq : ∃ (e : TxTs) (q : TxQueue), sendSync port raw s =
    ptpOut port (message 8 44 (par0 .timingPtpTxDomain s) 0 (stampFrac e.time) port (txPort port s).syncSeq 2
        (signed 32 (par0 .timingPtpTxSyncLog s)) [(6, e.time / 65536000000000), (4, e.time / 65536 % 1000000000)])
      (txStamp port raw s) (setTxQueue port q (sendEvent port 0 (syncMessage port s) (txStamp port raw s)
        (setTxPort port { txPort port s with syncSeq := ((txPort port s).syncSeq + 1) % 65536 } s))) := by
  have htype : ptpType (syncMessage port s) = 0 := ptpType_message _ (by decide)
  obtain ⟨e, q, he⟩ := txtsTake_sendEvent (port := port) (s := setTxPort port { txPort port s with
    syncSeq := ((txPort port s).syncSeq + 1) % 65536 } s) (b := syncMessage port s) (htype ▸ by decide) (txStamp port raw s)
  rw [htype, show ptpDomain (syncMessage port s) = _ from ptpDomain_message _ hdom,
    show ptpSeq (syncMessage port s) = _ from ptpSeq_message _ hseq] at he
  refine ⟨e, q, ?_⟩
  have hsync : ptpHeader 0 44 (par0 .timingPtpTxDomain s) 0x0200 0 port (txPort port s).syncSeq 0
      (signed 32 (par0 .timingPtpTxSyncLog s)) ++ natBE 10 0 = syncMessage port s := by
    rw [syncMessage, ← ptpHeader_append]
    simp [layout]
  unfold sendSync
  dsimp only
  rw [hsync, he]
  dsimp only
  rw [stampBytes_eq, ptpHeader_append]

/-- PTP_SYNC_TX sends a Sync and its Follow_Up (R373, R381). -/
theorem sendSync_sends : ∃ e : TxTs, SentEvent port (syncMessage port s) (txStamp port raw s)
      (setTxPort port { txPort port s with syncSeq := ((txPort port s).syncSeq + 1) % 65536 } s) (sendSync port raw s) ∧
    Sent.ptp port (ptpTo port 8 s) (message 8 44 (par0 .timingPtpTxDomain s) 0 (stampFrac e.time) port (txPort port s).syncSeq 2
        (signed 32 (par0 .timingPtpTxSyncLog s)) [(6, e.time / 65536000000000), (4, e.time / 65536 % 1000000000)])
      (txStamp port raw s) ∈ (sendSync port raw s).sent := by
  obtain ⟨e, q, heq⟩ := sendSync_eq (raw := raw) hdom hseq
  have hevent := sentEvent_sendEvent (port := port) (s := setTxPort port { txPort port s with
    syncSeq := ((txPort port s).syncSeq + 1) % 65536 } s) (b := syncMessage port s)
    (by rw [syncMessage, ptpType_message _ (by decide)]; decide) 0 (txStamp port raw s)
  rw [heq]
  refine ⟨e, (hevent.take q).next, ?_⟩
  have hto := ptpTo_of_touches ((setTxPort_touches (port := port) (s := s) { txPort port s with
    syncSeq := ((txPort port s).syncSeq + 1) % 65536 }).next (hevent.take q).touches) port 8
  rw [← hto, ← ptpType_message (typ := 8) (len := 44) (domain := par0 .timingPtpTxDomain s) (flags := 0)
    (corr := stampFrac e.time) (port := port) (seq := (txPort port s).syncSeq) (ctl := 2)
    (log := signed 32 (par0 .timingPtpTxSyncLog s))
    [(6, e.time / 65536000000000), (4, e.time / 65536 % 1000000000)] (by decide)]
  exact mem_sent_emit _ _

end

/-- The Announce of a port (R373, R421). -/
def announceMessage (port : Nat) (s : State) : List Byte :=
  message 11 64 (par0 .timingPtpTxDomain s) (announceFlags s) 0 port (txPort port s).announceSeq 5
    (signed 32 (par0 .timingPtpTxAnnounceLog s))
    [(10, 0), (2, Config.utcOffset), (1, 0), (1, 128), (1, clockClassOf (moduleClock s).1), (1, (moduleClock s).2.1),
      (2, (moduleClock s).2.2.1), (1, 128), (8, Config.clockIdentity), (2, 0), (1, (moduleClock s).2.2.2)]

theorem exec_ptpAnnounceTx (t : Nat) (port : Fin 128) (s : State) : exec (.ptpAnnounceTx t port) s =
    act t (onlyIf (txRuns port) fun x => ptpOut port (announceMessage port x) x.time.tide
      (setTxPort port { txPort port x with announceSeq := ((txPort port x).announceSeq + 1) % 65536 } x)) s := by
  have hmessage (x : State) : ptpHeader 11 64 (par0 .timingPtpTxDomain x) (announceFlags x) 0 port (txPort port x).announceSeq 5
        (signed 32 (par0 .timingPtpTxAnnounceLog x)) ++
      natBE 10 0 ++ natBE 2 Config.utcOffset ++ natBE 1 0 ++ natBE 1 128 ++
      natBE 1 (clockClassOf (moduleClock x).1) ++ natBE 1 (moduleClock x).2.1 ++ natBE 2 (moduleClock x).2.2.1 ++ natBE 1 128 ++
      natBE 8 Config.clockIdentity ++ natBE 2 0 ++ natBE 1 (moduleClock x).2.2.2 = announceMessage port x := by
    rw [announceMessage, ← ptpHeader_append]
    simp [layout]
  simp only [← hmessage]
  rfl

theorem clockClassOf_lt (q : Nat) : clockClassOf q < 256 := by
  have hall : ∀ c ∈ [6, 7, 13, 14, 52, 58, 135, 140, 150, 160, 165, 187, 193, 248, 254, 255], c < 256 := by decide
  rw [clockClassOf, List.getD_eq_getElem?_getD]
  cases h : [6, 7, 13, 14, 52, 58, 135, 140, 150, 160, 165, 187, 193, 248, 254, 255][q]? with
  | none => decide
  | some c => exact hall c (List.mem_of_getElem? h)

theorem moduleClock_variance_lt (s : State) : (moduleClock s).2.2.1 < 2 ^ 16 := by
  unfold moduleClock
  split
  · exact (by decide : 0x4E5D < 2 ^ 16)
  · split
    · split
      · exact (by decide : 0xFFFF < 2 ^ 16)
      · exact (by decide : 0x6000 < 2 ^ 16)
    · split <;> exact (by decide : 0xFFFF < 2 ^ 16)

/-! ### PTP_DELAY_REQ_RX and PTP_PDELAY_REQ_RX (R373) -/

/-- The answer of PTP_DELAY_REQ_RX to a frame that it takes in. -/
def answerDelayReq (port : Nat) (m : PtpIn) (s : State) : State :=
  if ptpType m.bytes ≠ 1 ∨ ptpDomain m.bytes ≠ par0 .timingPtpTxDomain s ∨ isP2P port s then s
  else
    match admitRequest port s with
    | (false, s1) => s1
    | (true, s1) =>
      let t4 := rxStamp port m.raw s
      let b := ptpHeader 9 54 (ptpDomain m.bytes) 0 (ptpCorr m.bytes - stampFrac t4) port
          (ptpSeq m.bytes) 3 (signed 32 (par0 .timingPtpTxDelayreqLog s)) ++
        stampBytes t4 ++ natBE 10 (ptpSource m.bytes)
      ptpOut port b s.time.tide s1

theorem exec_ptpDelayReqRx (t : Nat) (port : Fin 128) (m : PtpIn) (s : State) : exec (.ptpDelayReqRx t port m) s =
    act t (onlyIf (portUp port) (ptpIn port m (txRuns port) (answerDelayReq port m))) s := rfl

/-- The answer of PTP_PDELAY_REQ_RX to a frame that it takes in. -/
def answerPdelayReq (port : Nat) (m : PtpIn) (raw : Nat) (s : State) : State :=
  let dom := if port < 128 then par0 .timingPtpTxDomain s else par .timingPtpRxDomain port 0 s
  if ptpType m.bytes ≠ 2 ∨ ptpDomain m.bytes ≠ dom ∨ !isP2P port s then s
  else
    match admitRequest port s with
    | (false, s1) => s1
    | (true, s1) =>
      let t2 := rxStamp port m.raw s
      let t3 := txStamp port raw s
      let resp := ptpHeader 3 54 dom 0x0200 (-stampFrac t2) port (ptpSeq m.bytes) 5 0x7F ++
        stampBytes t2 ++ natBE 10 (ptpSource m.bytes)
      let s2 := sendEvent port 0 resp t3 s1
      let (_, s3) := txtsTake port 3 dom (ptpSeq m.bytes) 0 s2
      ptpOut port (ptpHeader 10 54 dom 0 (ptpCorr m.bytes + stampFrac t3) port
        (ptpSeq m.bytes) 5 0x7F ++ stampBytes t3 ++ natBE 10 (ptpSource m.bytes)) t3 s3

theorem exec_ptpPdelayReqRx (t : Nat) (port : Fin 130) (m : PtpIn) (raw : Nat) (s : State) :
    exec (.ptpPdelayReqRx t port m raw) s =
      act t (onlyIf (portUp port) (ptpIn port m (ptpRuns port) (answerPdelayReq port m raw))) s := rfl

section
variable {port : Nat} {m : PtpIn} {s : State}

/-- A state that differs in counters alone. -/
def Counted (x z : State) : Prop := ∃ c due, z = { x with ctr := c, satDue := due }

theorem Counted.refl (x : State) : Counted x x := ⟨x.ctr, x.satDue, rfl⟩

theorem Counted.count {x z : State} (h : Counted x z) (c : Ctr) (i n : Nat) : Counted x (count c i n z) := by
  obtain ⟨v, due, rfl⟩ := h
  exact ⟨_, _, rfl⟩

theorem counted_framed (port : Nat) (m : PtpIn) (s : State) : Counted s (framed port m s) := by
  unfold framed
  split
  · exact ((((Counted.refl s).count ..).count ..).count ..).count ..
  · exact .refl s

theorem txRuns_framed (k port : Nat) (m : PtpIn) (s : State) : txRuns k (framed port m s) = txRuns k s := by
  obtain ⟨c, due, h⟩ := counted_framed port m s
  rw [h]
  rfl

theorem ptpRuns_framed (k port : Nat) (m : PtpIn) (s : State) : ptpRuns k (framed port m s) = ptpRuns k s := by
  obtain ⟨c, due, h⟩ := counted_framed port m s
  rw [h]
  rfl

theorem portUp_of_txRuns {port : Nat} {s : State} (h : txRuns port s = true) : portUp port s = true := by
  simp only [txRuns, Bool.and_eq_true] at h
  exact h.1.2

theorem counted_countRx {x z : State} (h : Counted x z) (port : Nat) (b : List Byte) : Counted x (countRx port b z) := by
  unfold countRx
  split
  · exact h.count ..
  · exact h

theorem ctrGet_ptpRxEvent_countFrame (port len corr uncorr : Nat) (s : State) :
    ctrGet .ptpRxEvent port (countFrame port len corr uncorr s) = ctrGet .ptpRxEvent port s := by
  rw [countFrame, ctrGet_count_of_ne (by decide), ctrGet_count_of_ne (by decide), ctrGet_count_of_ne (by decide),
    ctrGet_count_of_ne (by decide)]

theorem ctrGet_rxFrames_countFrame (port len corr uncorr : Nat) (s : State) :
    ctrGet .rxFrames port (countFrame port len corr uncorr s) = min ctrMax (ctrGet .rxFrames port s + 1) := by
  rw [countFrame, ctrGet_count_of_ne (by decide), ctrGet_count_of_ne (by decide), ctrGet_count_of_ne (by decide),
    ctrGet_count_same]

/-- The Delay_Resp to a request (R373). -/
def delayResp (port : Nat) (m : PtpIn) (s : State) : List Byte :=
  message 9 54 (ptpDomain m.bytes) 0 (ptpCorr m.bytes - stampFrac (rxStamp port m.raw s)) port (ptpSeq m.bytes) 3
    (signed 32 (par0 .timingPtpTxDelayreqLog s)) (stampFields (rxStamp port m.raw s) 10 (ptpSource m.bytes))

variable (htype : ptpType m.bytes = 1) (hdom : ptpDomain m.bytes = par0 .timingPtpTxDomain s) (he2e : isP2P port s = false)
include htype hdom he2e

theorem answerDelayReq_of_few (h : (inLastSecond (txPort port s).answers s).length < 128) : answerDelayReq port m s =
    ptpOut port (delayResp port m s) s.time.tide
      (setTxPort port { txPort port s with answers := s.time.now :: inLastSecond (txPort port s).answers s } s) := by
  rw [answerDelayReq, if_neg (by simp [htype, hdom, he2e]), admitRequest_of_few h]
  dsimp only
  rw [List.append_assoc, layout_stampFields, ptpHeader_append, delayResp]

theorem answerDelayReq_of_many (h : 128 ≤ (inLastSecond (txPort port s).answers s).length) :
    answerDelayReq port m s = count .ptpRateDisc port 1 s := by
  rw [answerDelayReq, if_neg (by simp [htype, hdom, he2e]), admitRequest_of_many h]

end

section
variable {port : Nat} {m : PtpIn} {raw : Nat} {s : State}

/-- The domain that a port's Pdelay messages bear (R370). -/
def pdelayDomain (port : Nat) (s : State) : Nat :=
  if port < 128 then par0 .timingPtpTxDomain s else par .timingPtpRxDomain port 0 s

/-- The Pdelay_Resp to a request. -/
def pdelayResp (port : Nat) (m : PtpIn) (s : State) : List Byte :=
  message 3 54 (pdelayDomain port s) 0x0200 (-stampFrac (rxStamp port m.raw s)) port (ptpSeq m.bytes) 5 0x7F
    (stampFields (rxStamp port m.raw s) 10 (ptpSource m.bytes))

/-- The Pdelay_Resp_Follow_Up to a request. -/
def pdelayFollowUp (port : Nat) (m : PtpIn) (raw : Nat) (s : State) : List Byte :=
  message 10 54 (pdelayDomain port s) 0 (ptpCorr m.bytes + stampFrac (txStamp port raw s)) port (ptpSeq m.bytes) 5 0x7F
    (stampFields (txStamp port raw s) 10 (ptpSource m.bytes))

variable (htype : ptpType m.bytes = 2) (hdom : ptpDomain m.bytes = pdelayDomain port s) (hp2p : isP2P port s = true)
include htype hdom hp2p

theorem answerPdelayReq_of_few (h : (inLastSecond (txPort port s).answers s).length < 128) : ∃ q,
    answerPdelayReq port m raw s = ptpOut port (pdelayFollowUp port m raw s) (txStamp port raw s)
      (setTxQueue port q (sendEvent port 0 (pdelayResp port m s) (txStamp port raw s)
        (setTxPort port { txPort port s with answers := s.time.now :: inLastSecond (txPort port s).answers s } s))) := by
  unfold answerPdelayReq
  dsimp only
  rw [← pdelayDomain, if_neg (by simp [htype, hdom, hp2p]), admitRequest_of_few h]
  dsimp only
  rw [List.append_assoc, layout_stampFields, ptpHeader_append, List.append_assoc, layout_stampFields, ptpHeader_append]
  exact ⟨_, rfl⟩

theorem answerPdelayReq_of_many (h : 128 ≤ (inLastSecond (txPort port s).answers s).length) :
    answerPdelayReq port m raw s = count .ptpRateDisc port 1 s := by
  unfold answerPdelayReq
  dsimp only
  rw [← pdelayDomain, if_neg (by simp [htype, hdom, hp2p]), admitRequest_of_many h]

end

theorem answerDelayReq_of_counted {port : Nat} {m : PtpIn} {x w : State} (hw : Counted x w) (htype : ptpType m.bytes = 1)
    (hdom : ptpDomain m.bytes = par0 .timingPtpTxDomain x) (he2e : isP2P port x = false)
    (h : 128 ≤ (inLastSecond (txPort port x).answers x).length) :
    answerDelayReq port m w = count .ptpRateDisc port 1 w := by
  obtain ⟨c, due, rfl⟩ := hw
  exact answerDelayReq_of_many htype hdom he2e h

theorem answerPdelayReq_of_counted {port raw : Nat} {m : PtpIn} {x w : State} (hw : Counted x w) (htype : ptpType m.bytes = 2)
    (hdom : ptpDomain m.bytes = pdelayDomain port x) (hp2p : isP2P port x = true)
    (h : 128 ≤ (inLastSecond (txPort port x).answers x).length) :
    answerPdelayReq port m raw w = count .ptpRateDisc port 1 w := by
  obtain ⟨c, due, rfl⟩ := hw
  exact answerPdelayReq_of_many htype hdom hp2p h

/-! ### The rows -/

theorem txPort_settle (port : Nat) (x : State) : txPort port (settle x) = txPort port x := by
  rw [txPort, settle_time, txPort]

section
variable {port raw : Nat} {x : State}

/-- The state after PTP_SYNC_TX (R373, R381). -/
theorem settle_sendSync (hdom : par0 .timingPtpTxDomain x < 256) (hseq : (txPort port x).syncSeq < 2 ^ 16) :
    (∃ b, Sent.ptp port (ptpTo port 0 x) b (txStamp port raw x) ∈ (settle (sendSync port raw x)).sent ∧ ptpType b = 0 ∧
      ptpTwoStep b = true ∧ ptpSeq b = (txPort port x).syncSeq) ∧
    (∃ b, Sent.ptp port (ptpTo port 8 x) b (txStamp port raw x) ∈ (settle (sendSync port raw x)).sent ∧ ptpType b = 8 ∧
      ptpSeq b = (txPort port x).syncSeq) ∧
    (txPort port (settle (sendSync port raw x))).syncSeq = ((txPort port x).syncSeq + 1) % 65536 ∧
    ctrGet .ptpTxEvent port (settle (sendSync port raw x)) = min ctrMax (ctrGet .ptpTxEvent port x + 1) ∧
    Touches [.ports] x (settle (sendSync port raw x)) := by
  obtain ⟨e, hsync, hfollow⟩ := sendSync_sends (raw := raw) hdom hseq
  have hz := hsync.settle
  have hlater := (settle_sent _).subset hfollow
  generalize settle (sendSync port raw x) = z at *
  have hport : txPort port z = { txPort port x with syncSeq := ((txPort port x).syncSeq + 1) % 65536 } := by
    rw [txPort, hz.tx]
    exact txPort_setTxPort _
  have hsent := hz.sent
  rw [show ptpType (syncMessage port x) = 0 from ptpType_message _ (by decide)] at hsent
  exact ⟨⟨_, hsent, ptpType_message _ (by decide), ptpTwoStep_message _, ptpSeq_message _ hseq⟩,
    ⟨_, hlater, ptpType_message _ (by decide), ptpSeq_message _ hseq⟩, congrArg PtpTx.syncSeq hport, hz.counted,
    (setTxPort_touches _).next hz.touches⟩

/-- The state after PTP_ANNOUNCE_TX (R373, R421). -/
theorem settle_announce (x0 : PtpTx) : let z := settle (ptpOut port (announceMessage port x) x.time.tide (setTxPort port x0 x))
    Sent.ptp port (ptpTo port 11 x) (announceMessage port x) x.time.tide ∈ z.sent ∧ txPort port z = x0 ∧
    Touches [.ports] x z := by
  have htype : ptpType (announceMessage port x) = 11 := ptpType_message _ (by decide)
  have hsent := (settle_sent (ptpOut port (announceMessage port x) x.time.tide (setTxPort port x0 x))).subset (mem_sent_emit _ _)
  rw [htype] at hsent
  exact ⟨hsent, (txPort_settle ..).trans (txPort_setTxPort x0),
    ((setTxPort_touches x0).report (Touches.emit _ _)).report (Touches.settle _)⟩

theorem announceMessage_fields : ptpType (announceMessage port x) = 11 ∧ (announceMessage port x).length = 64 ∧
    beAt (announceMessage port x) 48 1 = clockClassOf (moduleClock x).1 ∧
    beAt (announceMessage port x) 50 2 = (moduleClock x).2.2.1 := by
  have hclass := clockClassOf_lt (moduleClock x).1
  have hvar := moduleClock_variance_lt x
  unfold announceMessage
  generalize moduleClock x = c at *
  exact ⟨ptpType_message _ (by decide), length_message _,
    beAt_message [(10, 0), (2, Config.utcOffset), (1, 0), (1, 128)] _ hclass,
    beAt_message [(10, 0), (2, Config.utcOffset), (1, 0), (1, 128), (1, clockClassOf c.1), (1, c.2.1)] _ hvar⟩

theorem settle_answerDelayReq {m : PtpIn} (htype : ptpType m.bytes = 1) (hdom : ptpDomain m.bytes = par0 .timingPtpTxDomain x)
    (he2e : isP2P port x = false) (h : (inLastSecond (txPort port x).answers x).length < 128) :
    Sent.ptp port (ptpTo port 9 x) (delayResp port m x) x.time.tide ∈ (settle (answerDelayReq port m x)).sent ∧
    (txPort port (settle (answerDelayReq port m x))).answers = x.time.now :: inLastSecond (txPort port x).answers x ∧
    (∀ c i, c.reporting = false → ctrGet c i (settle (answerDelayReq port m x)) = ctrGet c i x) ∧
    Touches [.ports] x (settle (answerDelayReq port m x)) := by
  rw [answerDelayReq_of_few htype hdom he2e h]
  have hsent := mem_sent_emit (.ptp port (ptpTo port (ptpType (delayResp port m x)) x) (delayResp port m x) x.time.tide)
    (setTxPort port { txPort port x with answers := x.time.now :: inLastSecond (txPort port x).answers x } x)
  rw [show ptpType (delayResp port m x) = 9 from ptpType_message _ (by decide)] at hsent
  have hto : ptpType (delayResp port m x) = 9 := ptpType_message _ (by decide)
  rw [ptpOut, hto]
  refine ⟨(settle_sent _).subset hsent, ?_, fun c i hc => (settle_eq _).ctr c i hc,
    ((setTxPort_touches _).report (Touches.emit _ _)).report (Touches.settle _)⟩
  rw [txPort_settle]
  exact congrArg PtpTx.answers (txPort_setTxPort _)

theorem delayResp_fields (m : PtpIn) : ptpType (delayResp port m x) = 9 ∧ ptpSeq (delayResp port m x) = ptpSeq m.bytes ∧
    beAt (delayResp port m x) 44 10 = ptpSource m.bytes ∧ ptpDomain (delayResp port m x) = ptpDomain m.bytes :=
  ⟨ptpType_message _ (by decide), ptpSeq_message _ (beAt_lt _ 30 2),
    beAt_message [(6, rxStamp port m.raw x / 65536000000000), (4, rxStamp port m.raw x / 65536 % 1000000000)] []
      (beAt_lt _ 20 10), ptpDomain_message _ (beAt_lt _ 4 1)⟩

theorem settle_answerPdelayReq {m : PtpIn} (htype : ptpType m.bytes = 2) (hdom : ptpDomain m.bytes = pdelayDomain port x)
    (hp2p : isP2P port x = true) (h : (inLastSecond (txPort port x).answers x).length < 128) :
    Sent.ptp port (ptpTo port 3 x) (pdelayResp port m x) (txStamp port raw x) ∈ (settle (answerPdelayReq port m raw x)).sent ∧
    Sent.ptp port (ptpTo port 10 x) (pdelayFollowUp port m raw x) (txStamp port raw x) ∈
      (settle (answerPdelayReq port m raw x)).sent ∧
    (txPort port (settle (answerPdelayReq port m raw x))).answers = x.time.now :: inLastSecond (txPort port x).answers x ∧
    Touches [.ports] x (settle (answerPdelayReq port m raw x)) := by
  obtain ⟨q, heq⟩ := answerPdelayReq_of_few (raw := raw) htype hdom hp2p h
  have hresp : ptpType (pdelayResp port m x) = 3 := ptpType_message _ (by decide)
  have hfollow : ptpType (pdelayFollowUp port m raw x) = 10 := ptpType_message _ (by decide)
  rw [heq]
  have hstart := setTxPort_touches (port := port) (s := x)
    { txPort port x with answers := x.time.now :: inLastSecond (txPort port x).answers x }
  have hevent := (sentEvent_sendEvent (port := port) (b := pdelayResp port m x) (hresp ▸ by decide) 0 (txStamp port raw x)
    (s := setTxPort port { txPort port x with answers := x.time.now :: inLastSecond (txPort port x).answers x } x)).take q
  have hto := ptpTo_of_touches (hstart.next hevent.touches) port 10
  generalize setTxQueue port q _ = y at *
  have hz := (hevent.next (b' := pdelayFollowUp port m raw x) (at' := txStamp port raw x)).settle
  have hlast := (settle_sent (ptpOut port (pdelayFollowUp port m raw x) (txStamp port raw x) y)).subset (mem_sent_emit _ _)
  rw [hfollow, hto] at hlast
  have hfirst := hz.sent
  rw [hresp] at hfirst
  refine ⟨hfirst, hlast, ?_, hstart.next hz.touches⟩
  rw [txPort, hz.tx]
  exact congrArg PtpTx.answers (txPort_setTxPort _)

theorem pdelay_fields (m : PtpIn) : ptpType (pdelayResp port m x) = 3 ∧ ptpSeq (pdelayResp port m x) = ptpSeq m.bytes ∧
    beAt (pdelayResp port m x) 44 10 = ptpSource m.bytes ∧ ptpType (pdelayFollowUp port m raw x) = 10 ∧
    ptpSeq (pdelayFollowUp port m raw x) = ptpSeq m.bytes ∧ beAt (pdelayFollowUp port m raw x) 44 10 = ptpSource m.bytes :=
  ⟨ptpType_message _ (by decide), ptpSeq_message _ (beAt_lt _ 30 2),
    beAt_message [(6, rxStamp port m.raw x / 65536000000000), (4, rxStamp port m.raw x / 65536 % 1000000000)] []
      (beAt_lt _ 20 10), ptpType_message _ (by decide), ptpSeq_message _ (beAt_lt _ 30 2),
    beAt_message [(6, txStamp port raw x / 65536000000000), (4, txStamp port raw x / 65536 % 1000000000)] []
      (beAt_lt _ 20 10)⟩

end

/-- Settles O42: what each action sends (`settle_sendSync`, `settle_announce`, `settle_answerDelayReq`,
`settle_answerPdelayReq`), behind the checks of `ptpIn` and `withPtp`. -/
theorem ptpTransmittersSendAndAnswer : Obligations.PtpTransmittersSendAndAnswer := by
  refine ⟨fun t port raw s => ⟨fun hoff => ?idle, fun hruns hdom hseq => ?sync, fun hruns => ?announce⟩,
    fun t port m s => ⟨fun hup hbad => ?discards, fun hruns hfcs hlen => ⟨fun hunsound => ?unsound,
      fun hsound htype hdom he2e => ⟨fun hfew => ?answers, fun hmany => ?many⟩⟩⟩,
    fun t port m raw s => ⟨fun hdown => ?pdown, fun hup hport hbad => ?pdiscards, fun hup hport hbad => ?pbad,
      fun hup htaken hoff => ?poff, fun hup htaken hruns => ⟨fun hunsound => ?punsound,
        fun hsound htype hdom hp2p => ⟨fun hfew => ?panswers, fun hmany => ?pmany⟩⟩⟩⟩
  case idle =>
    refine ⟨does_onlyIf_of_not (exec_ptpSyncTx t port raw s) hoff, does_onlyIf_of_not (exec_ptpAnnounceTx t port s) hoff,
      fun m => ⟨fun hdown => does_onlyIf_of_not (exec_ptpDelayReqRx t port m s) hdown, fun hup hfcs hlen => ?_⟩⟩
    refine does_onlyIf (exec_ptpDelayReqRx t port m s) hup ?_
    rw [ptpIn_of_taken hfcs (.inl hlen), txRuns_framed, hoff, if_neg Bool.false_ne_true, framed, if_pos port.2]
    exact .rfl' _
  case sync =>
    refine leads_onlyIf (exec_ptpSyncTx t port raw s) hruns ?_
    obtain ⟨hsync, hfollow, hnext, hcount, hz⟩ := settle_sendSync (raw := raw) hdom hseq
    exact ⟨hsync, hfollow, hnext, hcount, congrArg Prod.snd (hz.same .clock rfl), hz.mem rfl, hz.data rfl, hz.force rfl⟩
  case announce =>
    refine leads_onlyIf (exec_ptpAnnounceTx t port s) hruns ?_
    obtain ⟨hsent, hport, hz⟩ := settle_announce (port := port) (x := advance t s)
      { txPort port (advance t s) with announceSeq := ((txPort port (advance t s)).announceSeq + 1) % 65536 }
    exact ⟨⟨_, hsent, announceMessage_fields⟩, congrArg PtpTx.announceSeq hport,
      congrArg Prod.snd (hz.same .clock rfl), hz.mem rfl, hz.data rfl, hz.force rfl⟩
  case discards =>
    refine does_onlyIf (exec_ptpDelayReqRx t port m s) hup ?_
    rw [ptpIn_of_discarded port.2 hbad]
    exact .rfl' _
  case unsound =>
    refine does_onlyIf (exec_ptpDelayReqRx t port m s) (portUp_of_txRuns hruns) ?_
    rw [ptpIn_of_taken hfcs (.inl hlen), txRuns_framed, if_pos hruns, withPtp_of_unsound hfcs hunsound, framed, if_pos port.2]
    exact .rfl' _
  case answers =>
    refine leads_onlyIf (exec_ptpDelayReqRx t port m s) (portUp_of_txRuns hruns) ?_
    rw [ptpIn_of_taken hfcs (.inl hlen), txRuns_framed, if_pos hruns, withPtp_of_sound hfcs hsound,
      countRx_of_event (htype ▸ by decide)]
    generalize advance t s = x at *
    have hframes : ctrGet .rxFrames port (count .ptpRxEvent port 1 (framed port m x)) = min ctrMax (ctrGet .rxFrames port x + 1) := by
      rw [ctrGet_count_of_ne (by decide), framed, if_pos port.2, ctrGet_rxFrames_countFrame]
    have hevents : ctrGet .ptpRxEvent port (count .ptpRxEvent port 1 (framed port m x)) =
        min ctrMax (ctrGet .ptpRxEvent port x + 1) := by
      rw [ctrGet_count_same, framed, if_pos port.2, ctrGet_ptpRxEvent_countFrame]
    have hw := (counted_framed port m x).count .ptpRxEvent port 1
    generalize count .ptpRxEvent port 1 (framed port m x) = w at *
    obtain ⟨c, due, rfl⟩ := hw
    obtain ⟨hsent, hanswers, hctr, hz⟩ := settle_answerDelayReq (port := port) (m := m)
      (x := { x with ctr := c, satDue := due }) htype hdom he2e hfew
    exact ⟨⟨_, hsent, delayResp_fields m⟩, hanswers, (hctr .rxFrames port (by decide)).trans hframes,
      (hctr .ptpRxEvent port (by decide)).trans hevents, hz.mem rfl, hz.data rfl⟩
  case many =>
    refine does_onlyIf (exec_ptpDelayReqRx t port m s) (portUp_of_txRuns hruns) ?_
    rw [ptpIn_of_taken hfcs (.inl hlen), txRuns_framed, if_pos hruns, withPtp_of_sound hfcs hsound,
      countRx_of_event (htype ▸ by decide),
      answerDelayReq_of_counted ((counted_framed port m _).count ..) htype hdom he2e hmany, framed, if_pos port.2]
    exact .rfl' _
  case pdown => exact does_onlyIf_of_not (exec_ptpPdelayReqRx t port m raw s) hdown
  case pdiscards =>
    refine does_onlyIf (exec_ptpPdelayReqRx t port m raw s) hup ?_
    rw [ptpIn_of_discarded hport hbad, if_pos hport]
    exact .rfl' _
  case pbad =>
    refine does_onlyIf (exec_ptpPdelayReqRx t port m raw s) hup ?_
    rw [ptpIn_of_host hport, withPtp_of_bad hbad, ite_self]
    exact .rfl' _
  case poff =>
    refine does_onlyIf (exec_ptpPdelayReqRx t port m raw s) hup ?_
    rw [ptpIn_of_taken htaken.1 htaken.2, ptpRuns_framed, hoff, if_neg Bool.false_ne_true]
    exact .rfl' _
  case punsound =>
    refine does_onlyIf (exec_ptpPdelayReqRx t port m raw s) hup ?_
    rw [ptpIn_of_taken htaken.1 htaken.2, ptpRuns_framed, if_pos hruns, withPtp_of_unsound htaken.1 hunsound]
    exact .rfl' _
  case panswers =>
    refine leads_onlyIf (exec_ptpPdelayReqRx t port m raw s) hup ?_
    rw [ptpIn_of_taken htaken.1 htaken.2, ptpRuns_framed, if_pos hruns, withPtp_of_sound htaken.1 hsound]
    have hw := counted_countRx (counted_framed port m (advance t s)) port m.bytes
    generalize advance t s = x at *
    generalize countRx port m.bytes (framed port m x) = w at *
    obtain ⟨c, due, rfl⟩ := hw
    obtain ⟨hresp, hfollow, hanswers, hz⟩ := settle_answerPdelayReq (port := port) (m := m) (raw := raw)
      (x := { x with ctr := c, satDue := due }) htype hdom hp2p hfew
    obtain ⟨htype1, hseq1, hsource1, htype2, hseq2, hsource2⟩ := pdelay_fields (port := port) (raw := raw)
      (x := { x with ctr := c, satDue := due }) m
    exact ⟨⟨_, hresp, htype1, hseq1, hsource1⟩, ⟨_, hfollow, htype2, hseq2, hsource2⟩, hanswers, hz.mem rfl, hz.data rfl⟩
  case pmany =>
    refine does_onlyIf (exec_ptpPdelayReqRx t port m raw s) hup ?_
    rw [ptpIn_of_taken htaken.1 htaken.2, ptpRuns_framed, if_pos hruns, withPtp_of_sound htaken.1 hsound,
      countRx_of_event (htype ▸ by decide),
      answerPdelayReq_of_counted ((counted_framed port m _).count ..) htype hdom hp2p hmany]
    exact .rfl' _

end Sys2Proof.Machine
end

section
/-! The transparent clock and a counter past its saturation (R377, R394). -/

namespace Sys2Proof.Machine

open Touches (refl ite of_fields foldl)

/-- A general message that is forwarded leaves the event counts as they are. -/
theorem ctrGet_tcForward_of_general {p raw i : Nat} {m : PtpIn} {s : State} (h : 4 ≤ ptpType m.bytes) :
    ctrGet .ptpTxEvent i (tcForward p m raw s) = ctrGet .ptpTxEvent i s := by
  have hevent : ptpIsEvent (ptpType m.bytes) = false := decide_eq_false (Nat.not_lt.2 h)
  unfold tcForward
  extract_lets q held src s0 typ residence c b sum leave s1
  have hs1 : s1 = s0 := if_neg (ne_true_of_eq_false hevent)
  split
  · rfl
  · split
    · exact (ctrGet_count_of_ne (by decide) ..).trans rfl
    · refine (ctrGet_count_of_ne (by decide) ..).trans ?_
      rw [hs1]
      rfl

/-- A Follow_Up of a clock. -/
def followUpOf (clock : Nat) : List Byte :=
  layout [(1, 8), (1, 0x12), (2, 44), (1, 0), (1, 0), (2, 0), (8, 0), (4, 0), (10, 65536 * clock), (2, 0), (1, 2), (1, 0),
    (10, 0)]

/-- A Follow_Up of another clock, as it arrives. -/
def strangeFollowUp : PtpIn :=
  { fcsOk := true, raw := 0, transport := 0, udpSum := 0, len := 72, fecCorr := 0, fecUncorr := 0
    bytes := followUpOf ((Config.clockIdentity + 1) % 2 ^ 64) }

/-- A running module with both host links up, one event count of H1 beyond all ones. -/
def beyondOnes : State :=
  { State.reset with
    boot := { State.reset.boot with stage := .ready }
    power := { State.reset.power with domains := .replicate 40 .on }
    hostLinks := .replicate 2 ⟨true, 0, true, false⟩
    ctr := [(ctrKey .ptpTxEvent 129, 2 ^ 48)] }

theorem followUpOf_fields {clock : Nat} (h : clock < 2 ^ 64) : ptpType (followUpOf clock) = 8 ∧
    ptpSound (followUpOf clock) = true ∧ ptpSource (followUpOf clock) / 65536 = clock := by
  have htype : ptpType (followUpOf clock) = 8 := rfl
  have hversion : beAt (followUpOf clock) 1 1 = 0x12 := beAt_layout [(1, 8)] _ (by decide)
  have hsource : beAt (followUpOf clock) 20 10 = 65536 * clock :=
    beAt_layout [(1, 8), (1, 0x12), (2, 44), (1, 0), (1, 0), (2, 0), (8, 0), (4, 0)] _ (by omega)
  have hlength : (followUpOf clock).length = 44 := length_layout _
  refine ⟨htype, ?_, ?_⟩
  · rw [ptpSound, ptpVersion, hversion, htype, hlength]
    rfl
  · rw [ptpSource, hsource, Nat.mul_div_cancel_left _ (by decide)]

theorem strangeFollowUp_fields : ptpType strangeFollowUp.bytes = 8 ∧ ptpSound strangeFollowUp.bytes = true ∧
    ptpSource strangeFollowUp.bytes / 65536 ≠ Config.clockIdentity % 2 ^ 64 := by
  obtain ⟨htype, hsound, hsource⟩ := followUpOf_fields (Nat.mod_lt (Config.clockIdentity + 1) (Nat.two_pow_pos 64))
  have hne : (Config.clockIdentity + 1) % 2 ^ 64 ≠ Config.clockIdentity % 2 ^ 64 := by omega
  have hbytes : strangeFollowUp.bytes = followUpOf ((Config.clockIdentity + 1) % 2 ^ 64) := rfl
  rw [hbytes, hsource]
  exact ⟨htype, hsound, hne⟩

theorem tcRuns_of {x : State} (hruns : timingRuns x = true) (henable : par0 .timingPtpTcEnable x = 1)
    (hp128 : isP2P 128 x = false) (hp129 : isP2P 129 x = false) : tcRuns x = true := by
  rw [tcRuns, hruns, henable, hp128, hp129]
  rfl

/-- TC_FORWARD of a sound message that has a row of its own (R377). -/
theorem exec_tcForward_of_row {t raw : Nat} {p : Fin 2} {m : PtpIn} {s : State} (hruns : timingRuns (advance t s) = true)
    (hup : hostUp p (advance t s) = true) (hrow : ptpHasRow (ptpType m.bytes) = true) (hfcs : m.fcsOk = true)
    (hsound : ptpSound m.bytes = true) (htc : tcRuns (advance t s) = true) :
    exec (.tcForward t p m raw) s = .next (settle (tcForward p m raw (advance t s))) := by
  have hx : exec (.tcForward t p m raw) s = act t (onlyIf (fun s => timingRuns s && hostUp p s) fun x =>
    if ptpHasRow (ptpType m.bytes) then (if m.fcsOk && ptpSound m.bytes then
      (if tcRuns x then tcForward p m raw x else x) else x)
    else withPtp (hostInst p) m (fun x => if tcRuns x then tcForward p m raw x else x) x) s := rfl
  rw [hx, act, onlyIf, if_pos (by rw [hruns, hup]; rfl), if_pos hrow, if_pos (by rw [hfcs, hsound]; rfl), if_pos htc]

theorem beyondOnes_runs : timingRuns (advance 0 beyondOnes) = true ∧ par0 .timingPtpTcEnable (advance 0 beyondOnes) = 1 ∧
    isP2P 128 (advance 0 beyondOnes) = false ∧ isP2P 129 (advance 0 beyondOnes) = false ∧
    hostUp 0 (advance 0 beyondOnes) = true ∧ hostUp 1 (advance 0 beyondOnes) = true ∧
    (advance 0 beyondOnes).time.tcHeld = [] ∧ ctrGet .ptpTxEvent 129 (advance 0 beyondOnes) = 2 ^ 48 := by
  refine ⟨?_, ?_, ?_, ?_, ?_, ?_, ?_, ?_⟩ <;> decide +kernel

/-- Refutes O43: where a count stands beyond all ones, a forwarded general message leaves it there, and the statement
asks for the saturated value. -/
theorem not_ptpReceiversSelectMeasureAndForward : ¬ Obligations.PtpReceiversSelectMeasureAndForward := by
  rintro ⟨-, -, -, -, -, hclock⟩
  obtain ⟨-, -, -, hforward, -⟩ := hclock 0 0 strangeFollowUp 0 beyondOnes
  obtain ⟨htype, hsound, hsource⟩ := strangeFollowUp_fields
  obtain ⟨hruns, henable, hp128, hp129, hup0, hup1, hheld, hbeyond⟩ := beyondOnes_runs
  obtain ⟨z, hexec, -, hcount, -⟩ := hforward ⟨hruns, henable, hp128, hp129, hup0, rfl, hsound, by rw [htype]; rfl, hsource⟩
    hup1 (by rw [hheld]; decide)
  rw [exec_tcForward_of_row hruns hup0 (by rw [htype]; rfl) rfl hsound (tcRuns_of hruns henable hp128 hp129)] at hexec
  obtain rfl := Host.Outcome.next.inj hexec
  have hkept := ((settle_eq _).ctr .ptpTxEvent 129 (by decide)).trans
    (ctrGet_tcForward_of_general (p := 0) (raw := 0) (s := advance 0 beyondOnes) (m := strangeFollowUp) (by rw [htype]; decide))
  rw [htype] at hcount
  have hsaturated := hkept.symm.trans hcount
  rw [hbeyond] at hsaturated
  exact absurd hsaturated (by decide)

end Sys2Proof.Machine
end

section
/-! What reference monitoring and selection touch and how they report (R396 to R412). -/

namespace Sys2Proof.Machine

open Touches (refl ite of_fields foldl)

/-! ### Parts -/

section
variable (s : State)

theorem setRef_touches (r : Nat) (x : RefS) : Touches [.refs] s (setRef r x s) := of_fields rfl

theorem takeLimit_touches (r : Nat) : Touches [.refs] s (takeLimit r s) := setRef_touches s r _

theorem noteQl_touches (r : Nat) : Touches [.refs] s (noteQl r s) := ite (of_fields rfl) (refl s)

theorem setMon_touches (r : Nat) (m : MonState) : Touches [.refs] s (setMon r m s) := by
  unfold setMon
  extract_lets x s1
  exact ite (refl s) ((setRef_touches s r _).report (Touches.raise s1 ..))

theorem enterHoldover_touches : Touches [.refs] s (enterHoldover s) := by
  unfold enterHoldover
  extract_lets x short src s1
  have hs1 : Touches [.refs] s s1 := of_fields rfl
  clear_value s1
  exact ite (refl s) (hs1.report ((Touches.count s1 ..).next (Touches.raise _ ..)))

theorem abandonSwitch_touches (target : Option Nat) (cause : Nat) : Touches [.refs] s (abandonSwitch target cause s) := by
  unfold abandonSwitch
  split
  · exact refl s
  · extract_lets src s1 s2
    have hs1 : Touches [.refs] s s1 := of_fields rfl
    have hs2 : Touches [.refs] s s2 := hs1.report ((Touches.count s1 ..).next (Touches.raise _ ..))
    exact ite (hs2.next (enterHoldover_touches s2)) hs2

theorem failRef_touches (r cause : Nat) : Touches [.refs] s (failRef r cause s) := by
  unfold failRef
  extract_lets x disq s1 s2 s3
  have hs1 : Touches [.refs] s s1 := (setRef_touches s r _).next (setMon_touches _ r _)
  have hs2 : Touches [.refs] s s2 := hs1.report (Touches.count s1 ..)
  have hs3 : Touches [.refs] s2 s3 := by
    dsimp only [s3]
    split
    · exact ite (abandonSwitch_touches s2 ..) (refl s2)
    · exact refl s2
  exact ite (refl s) (ite hs1 (ite ((hs2.next hs3).next (enterHoldover_touches s3)) (hs2.next hs3)))

theorem refreshRef_touches (r cause : Nat) : Touches [.refs] s (refreshRef r cause s) := by
  unfold refreshRef
  extract_lets s1 x
  have hs1 : Touches [.refs] s s1 := (takeLimit_touches s r).next (noteQl_touches _ r)
  clear_value s1
  exact ite (hs1.next (setMon_touches ..)) (ite (ite (hs1.next (setMon_touches ..)) (ite (hs1.next (setMon_touches ..)) hs1))
    (ite (hs1.next (setMon_touches ..)) (hs1.next (failRef_touches ..))))

theorem refreshRefs_touches : Touches [.refs] s (refreshRefs s) := foldl (fun x r => refreshRef_touches x r 6) _ s

theorem beginSwitch_touches (r : Nat) : Touches [.refs] s (beginSwitch r s) := of_fields rfl

theorem turnTo_touches (target : Option Nat) (cause : Nat) : Touches [.refs] s (turnTo target cause s) := by
  unfold turnTo
  extract_lets s1
  have hs1 : Touches [.refs] s s1 := abandonSwitch_touches s ..
  clear_value s1
  split
  · exact ite hs1 (hs1.next (beginSwitch_touches ..))
  · exact hs1

theorem evaluate_touches : Touches [.refs] s (evaluate s) := by
  unfold evaluate
  extract_lets s1 target
  have hs1 : Touches [.refs] s s1 := refreshRefs_touches s
  clear_value s1 target
  split
  · cases target with
    | none => exact ite hs1 (hs1.next (turnTo_touches ..))
    | some g => exact ite hs1 (hs1.next (turnTo_touches ..))
  · cases target with
    | none => exact ite (hs1.next (enterHoldover_touches ..)) hs1
    | some g => exact ite hs1 (ite (hs1.next (beginSwitch_touches ..)) hs1)

theorem maybeSlew_touches : Touches [.refs] s (maybeSlew s) := by
  unfold maybeSlew
  split
  · exact ite (of_fields rfl) (refl s)
  · split
    · exact ite (of_fields rfl) (refl s)
    · exact refl s

theorem disagreeOne_touches (freqs : List Int) (estimate : Int) (r : Nat) :
    Touches [.refs, .sticky, .episodes] s (disagreeOne freqs estimate s r) := by
  unfold disagreeOne
  extract_lets k diff lim report
  refine ite (refl s) (ite ?_ (ite ?_ (refl s)))
  · exact (((setRef_touches s r _).next (setMon_touches _ r _)).trans (Touches.fire _ _) rfl).report (Touches.raise _ ..)
  · exact ((setMon_touches s r _).report (Touches.raise _ ..)).mono rfl

end

/-! ### The monitoring states but for reports -/

section
variable {r : Nat} {s x y : State}

theorem ReportEq.of_withTime (h : ReportEq x y) (v : TimeS) : ReportEq { x with time := v } { y with time := v } :=
  ⟨(congrArg (fun s : State => { s with time := v }) h.rest :), h.ctr, h.ev⟩

theorem setRef_setRef (r : Nat) (v w : RefS) (s : State) : setRef r w (setRef r v s) = setRef r w s := by
  simp only [setRef, RegFile.set_set]

theorem setRef_ref (h : r < 6) (s : State) : setRef r (ref r s) s = s := by
  rw [setRef, ref, RegFile.set_getD h]

/-- A reference in another monitoring state (R399). -/
def RefS.moved (m : MonState) (now : Nat) (x : RefS) : RefS :=
  { x with
    mon := m
    since := now
    been := if m = .off then false else x.been || m == .selectable
    disagrees := if m = .suspect then x.disagrees else none
    offRange := if m = .failed then none else x.offRange }

theorem setMon_of_same {m : MonState} (h : (ref r s).mon = m) : setMon r m s = s := if_pos h

theorem setMon_eq {m : MonState} (h : (ref r s).mon ≠ m) :
    ReportEq (setMon r m s) (noteEvent .refState (setRef r ((ref r s).moved m s.time.now) s)) := by
  unfold setMon
  extract_lets z s1
  rw [if_neg h]
  exact raise_eq ..

end

end Sys2Proof.Machine
end

section
/-! Reference monitoring (R396 to R400, R412). -/

namespace Sys2Proof.Machine

open Touches (refl ite of_fields foldl)

/-! ### A reference follows its conditions (R399) -/

/-- The state of a reference that moves to a state in which it was never usable. -/
def movedTo (r : Nat) (m : MonState) (y : State) : State :=
  noteEvent .refState (setRef r { ref r y with
    mon := m
    since := y.time.now
    disagrees := none
    offRange := if m = .failed then none else (ref r y).offRange } y)

/-- The disqualification of a usable reference, but for what it does to a switch and to the DPLL. -/
def disqualified (r why : Nat) (y : State) : State :=
  count .refDisqualify r 1 (movedTo r .failed (setRef r { ref r y with cause := why } y))

section
variable {r cause : Nat} {y : State}

theorem setMon_movedTo {m : MonState} (h : (ref r y).mon ≠ m) (hm : m = .failed ∨ m = .qualifying ∨ m = .restoring) :
    ReportEq (setMon r m y) (movedTo r m y) := by
  refine (setMon_eq h).trans ?_
  have hmoved : (ref r y).moved m y.time.now = { ref r y with
      mon := m, since := y.time.now, disagrees := none, offRange := if m = .failed then none else (ref r y).offRange } := by
    rcases hm with rfl | rfl | rfl <;> simp [RefS.moved]
  rw [hmoved]
  exact .rfl' _

theorem setMon_off (h : (ref r y).mon ≠ .off) : ReportEq (setMon r .off y) (noteEvent .refState (setRef r { ref r y with
    mon := .off, since := y.time.now, been := false, disagrees := none } y)) := setMon_eq h

theorem setMon_selectable (h : (ref r y).mon ≠ .selectable) : ReportEq (setMon r .selectable y)
    (noteEvent .refState (setRef r { ref r y with
      mon := .selectable, since := y.time.now, been := true, disagrees := none } y)) := by
  refine (setMon_eq h).trans ?_
  have hmoved : (ref r y).moved .selectable y.time.now = { ref r y with
      mon := .selectable, since := y.time.now, been := true, disagrees := none } := by simp [RefS.moved]
  rw [hmoved]
  exact .rfl' _

theorem failRef_of_failed (h : (ref r y).mon = .failed) : failRef r cause y = y := if_pos (.inr h)

theorem failRef_of_unusable (hr : r < 6) (hoff : (ref r y).mon ≠ .off) (hfailed : (ref r y).mon ≠ .failed)
    (h : (ref r y).mon.usable = false) : ReportEq (failRef r cause y) (movedTo r .failed y) := by
  unfold failRef
  extract_lets z disq s1 s2 s3
  have hdisq : disq = false := h
  have hs1 : s1 = setMon r .failed y := by
    have hsame : { z with cause := if disq = true then cause else z.cause } = z := by rw [hdisq]; rfl
    dsimp only [s1]
    rw [hsame, setRef_ref hr]
  rw [if_neg (not_or.2 ⟨hoff, hfailed⟩), if_pos (by rw [hdisq]; rfl), hs1]
  exact setMon_movedTo hfailed (.inl rfl)

theorem usable_off {m : MonState} (h : m.usable = true) : m ≠ .off ∧ m ≠ .failed :=
  ⟨fun e => by subst e; exact Bool.false_ne_true h, fun e => by subst e; exact Bool.false_ne_true h⟩

/-- A switch toward a disqualified reference is abandoned (R411). -/
def turnedFrom (r : Nat) (s : State) : State :=
  match s.time.candidate with
  | some (c, _) => if c = r then abandonSwitch none 1 s else s
  | none => s

/-- The DPLL enters HOLDOVER where the selected reference was disqualified and none is left (R412). -/
def heldWithout (r : Nat) (x : State) : State :=
  if x.time.selected = some r ∧ x.time.candidate.isNone ∧ !anyCandidate x then enterHoldover x else x

theorem failRef_of_usable (hr : r < 6) (h : (ref r y).mon.usable = true) : ∃ w,
    failRef r cause y = heldWithout r (turnedFrom r w) ∧ ReportEq w (disqualified r cause y) := by
  obtain ⟨hoff, hfailed⟩ := usable_off h
  unfold failRef
  extract_lets z disq s1 s2 s3
  have hdisq : disq = true := h
  refine ⟨s2, ?_, ?_⟩
  · rw [if_neg (not_or.2 ⟨hoff, hfailed⟩), if_neg (by rw [hdisq]; exact Bool.false_ne_true)]
    rfl
  · have hz : ref r (setRef r { z with cause := if disq = true then cause else z.cause } y) = _ := ref_setRef_same r _ y hr
    have hmoved := setMon_movedTo (r := r) (y := setRef r { z with cause := if disq = true then cause else z.cause } y)
      (m := .failed) (by rw [hz]; exact hfailed) (.inl rfl)
    refine (hmoved.of_count ..).trans ?_
    rw [hdisq]
    exact .rfl' _


end

/-! ### Switch and holdover at a disqualification (R411, R412) -/

/-- The DPLL in HOLDOVER with a phase debt, since an instant. -/
def heldAt (debt : Int) (now : Nat) (s : State) : State :=
  noteEvent .holdover (count .holdoverEntries 0 1 { takeEstimate s with time := { (takeEstimate s).time with
    dpll := .holdover
    selected := none
    holdoverAt := now
    lockedSince := none
    debt := debt
    slew := none } })

/-- The DPLL enters HOLDOVER, but for the contents of its report. -/
def heldOver (s : State) : State := heldAt (debtNow s) s.time.now s

/-- The DPLL follows a reference. -/
def Follows (s : State) : Prop := s.time.dpll = .acquiring ∨ s.time.dpll = .locked ∨ s.time.dpll = .switching

theorem follows_iff (s : State) :
    Follows s ↔ ¬ (s.time.dpll = .holdover ∨ s.time.dpll = .expired ∨ s.time.dpll = .freerun) := by
  unfold Follows
  cases s.time.dpll <;> decide

section
variable {r : Nat} {s x y : State}

theorem enterHoldover_of_not_follows (h : ¬ Follows s) : enterHoldover s = s :=
  if_pos (Classical.not_not.1 fun hn => h ((follows_iff s).2 hn))

theorem enterHoldover_eq (h : Follows s) : ReportEq (enterHoldover s) (heldOver s) := by
  unfold enterHoldover heldOver heldAt
  rw [if_neg ((follows_iff s).1 h)]
  exact raise_eq ..

theorem ReportEq.of_heldOver (h : ReportEq x y) : ReportEq (heldOver x) (heldOver y) := by
  have htake : (takeEstimate x).time = (takeEstimate y).time :=
    (congrArg (fun z : State => (takeEstimate z).time) h.restZ :)
  have hdebt : debtNow x = debtNow y := (congrArg debtNow h.restZ :)
  have hx : ReportEq (takeEstimate x) (takeEstimate y) := by
    have heq : takeEstimate x = { x with time := (takeEstimate y).time } := by
      rw [← htake]
      rfl
    rw [heq]
    exact h.of_withTime _
  unfold heldOver heldAt
  rw [htake, hdebt, h.time]
  exact ((hx.of_withTime _).of_count ..).of_noteEvent ..


theorem ctrGet_enterHoldover {c : Ctr} (i : Nat) (hc : c ≠ .holdoverEntries) (hr : c.reporting = false) :
    ctrGet c i (enterHoldover s) = ctrGet c i s := by
  by_cases h : Follows s
  · rw [(enterHoldover_eq h).ctr c i hr]
    exact ctrGet_count_of_ne (by simp [hc]) ..
  · rw [enterHoldover_of_not_follows h]

theorem refs_enterHoldover : (enterHoldover s).time.refs = s.time.refs := by
  by_cases h : Follows s
  · rw [(enterHoldover_eq h).time]
    rfl
  · rw [enterHoldover_of_not_follows h]

theorem candidate_enterHoldover : (enterHoldover s).time.candidate = s.time.candidate := by
  by_cases h : Follows s
  · rw [(enterHoldover_eq h).time]
    rfl
  · rw [enterHoldover_of_not_follows h]


/-- A switch is abandoned (R411), but for what follows where no candidate is left. -/
def abandoned (s : State) : State := noteEvent .refSwitchAbandoned (count .switchAbandoned 0 1 { s with time := { s.time with
  candidate := none, noHold := true, dpll := s.time.prior } })

theorem abandonSwitch_eq {c : Nat × Nat} (h : s.time.candidate = some c) (target : Option Nat) (cause : Nat) : ∃ w,
    ReportEq w (abandoned s) ∧ abandonSwitch target cause s =
      if w.time.selected.isSome && !selectedUsable w && !anyCandidate w then enterHoldover w else w := by
  unfold abandonSwitch
  rw [h]
  exact ⟨_, raise_eq .., rfl⟩

theorem abandonSwitch_of_candidate {c : Nat × Nat} (h : s.time.candidate = some c) (target : Option Nat) (cause : Nat) :
    let v := abandonSwitch target cause s
    v.time.refs = s.time.refs ∧ v.time.candidate = none ∧
      ctrGet .switchAbandoned 0 v = min ctrMax (ctrGet .switchAbandoned 0 s + 1) ∧
      ctrGet .refDisqualify r v = ctrGet .refDisqualify r s := by
  obtain ⟨w, hw, heq⟩ := abandonSwitch_eq h target cause
  have hrefs : w.time.refs = s.time.refs := (congrArg TimeS.refs hw.time).trans rfl
  have hcand : w.time.candidate = none := (congrArg TimeS.candidate hw.time).trans rfl
  have habandoned : ctrGet .switchAbandoned 0 w = min ctrMax (ctrGet .switchAbandoned 0 s + 1) := by
    rw [hw.ctr _ _ rfl]
    exact ctrGet_count_same ..
  have hdisq : ctrGet .refDisqualify r w = ctrGet .refDisqualify r s := by
    rw [hw.ctr _ _ rfl]
    exact ctrGet_count_of_ne (by decide) ..
  dsimp only
  rw [heq]
  split
  · rw [refs_enterHoldover, candidate_enterHoldover, ctrGet_enterHoldover 0 (by decide) rfl,
      ctrGet_enterHoldover r (by decide) rfl]
    exact ⟨hrefs, hcand, habandoned, hdisq⟩
  · exact ⟨hrefs, hcand, habandoned, hdisq⟩

theorem turnedFrom_of_candidate (h : s.time.candidate.map (·.1) = some r) : turnedFrom r s = abandonSwitch none 1 s := by
  obtain ⟨⟨c, t⟩, hc, rfl⟩ := Option.map_eq_some_iff.1 h
  unfold turnedFrom
  rw [hc]
  exact if_pos rfl

theorem turnedFrom_of_other (h : s.time.candidate.map (·.1) ≠ some r) : turnedFrom r s = s := by
  unfold turnedFrom
  generalize s.time.candidate = o at h
  cases o with
  | none => rfl
  | some p => exact if_neg fun e => h (congrArg some e)

theorem heldWithout_keeps :
    (heldWithout r s).time.refs = s.time.refs ∧ (heldWithout r s).time.candidate = s.time.candidate ∧
      ctrGet .switchAbandoned 0 (heldWithout r s) = ctrGet .switchAbandoned 0 s ∧
      ctrGet .refDisqualify r (heldWithout r s) = ctrGet .refDisqualify r s := by
  unfold heldWithout
  split
  · exact ⟨refs_enterHoldover, candidate_enterHoldover, ctrGet_enterHoldover 0 (by decide) rfl,
      ctrGet_enterHoldover r (by decide) rfl⟩
  · exact ⟨rfl, rfl, rfl, rfl⟩

theorem relieved_of_candidate (h : s.time.candidate.map (·.1) = some r) :
    let v := heldWithout r (turnedFrom r s)
    v.time.refs = s.time.refs ∧ v.time.candidate = none ∧
      ctrGet .switchAbandoned 0 v = min ctrMax (ctrGet .switchAbandoned 0 s + 1) ∧
      ctrGet .refDisqualify r v = ctrGet .refDisqualify r s := by
  obtain ⟨p, hp, -⟩ := Option.map_eq_some_iff.1 h
  obtain ⟨hrefs, hcand, habandoned, hdisq⟩ := abandonSwitch_of_candidate (r := r) hp none 1
  obtain ⟨hrefs', hcand', habandoned', hdisq'⟩ := heldWithout_keeps (r := r) (s := turnedFrom r s)
  rw [← turnedFrom_of_candidate h] at hrefs hcand habandoned hdisq
  exact ⟨hrefs'.trans hrefs, hcand'.trans hcand, habandoned'.trans habandoned, hdisq'.trans hdisq⟩

end

/-! ### Monitoring, as the obligation says it -/

section
variable {r cause : Nat} {y : State}

theorem ref_disqualified_same (hr : r < 6) (why : Nat) :
    (ref r (disqualified r why y)).mon = .failed ∧ (ref r (disqualified r why y)).cause = why := by
  have h : ref r (disqualified r why y) = _ := ref_setRef_same r _ _ hr
  rw [h]
  exact ⟨rfl, congrArg RefS.cause (ref_setRef_same r _ y hr)⟩

theorem ref_disqualified_of_ne {k : Nat} (hk : k ≠ r) (why : Nat) : ref k (disqualified r why y) = ref k y :=
  ((ref_setRef_of_ne _ _ hk).trans (ref_setRef_of_ne _ _ hk) :)

theorem anyCandidate_disqualified (hr : r < 6) (why : Nat) : anyCandidate (disqualified r why y) =
    (List.range 6).any fun k => k != r && (ref k y).mon.usable := by
  unfold anyCandidate
  congr 1
  funext k
  by_cases hk : k = r
  · subst hk
    rw [(ref_disqualified_same hr why).1]
    simp [MonState.usable]
  · rw [ref_disqualified_of_ne hk]
    simp [hk]

/-- A reference follows its conditions (R399): what the command `i` does to the state with the reference's new
conditions. -/
def Monitored (i : Instr) (s : State) (r cause : Nat) (y0 : State) : Prop :=
  let y := noteQl r (takeLimit r y0)
  let z := ref r y
  (par .timingRefPriority r 0 y = 0 →
    (z.mon = .off → Does i s y) ∧
    (z.mon ≠ .off → Does i s (noteEvent .refState (setRef r { z with
      mon := .off, since := y.time.now, been := false, disagrees := none } y)))) ∧
  (par .timingRefPriority r 0 y ≠ 0 → refValid r y = true →
    (z.mon ≠ .off → z.mon ≠ .failed → Does i s y) ∧
    (z.mon = .failed → Does i s (movedTo r (if z.been then .restoring else .qualifying) y)) ∧
    (z.mon = .off → Does i s (movedTo r .qualifying y))) ∧
  (par .timingRefPriority r 0 y ≠ 0 → refValid r y = false →
    (z.mon = .failed → Does i s y) ∧
    (z.mon ≠ .failed → z.mon.usable = false → Does i s (movedTo r .failed y)) ∧
    (z.mon.usable = true →
      let why := if z.freqOk then cause else 7
      let w := disqualified r why y
      let left : Bool := (List.range 6).any fun k => k != r && (ref k y).mon.usable
      (y.time.candidate.map (·.1) = some r → Leads i s fun v => (ref r v).mon = .failed ∧ (ref r v).cause = why ∧
        v.time.candidate = none ∧ ctrGet .refDisqualify r v = min ctrMax (ctrGet .refDisqualify r y + 1) ∧
        ctrGet .switchAbandoned 0 v = min ctrMax (ctrGet .switchAbandoned 0 y + 1)) ∧
      (y.time.candidate.map (·.1) ≠ some r →
        y.time.selected ≠ some r ∨ y.time.candidate ≠ none ∨ left = true ∨ ¬ Follows y → Does i s w) ∧
      (y.time.selected = some r → y.time.candidate = none → left = false → Follows y → Does i s (heldAt (debtNow y) y.time.now w))))

/-- What `refreshRef` does once the level and the frequency limit are noted. -/
def followed (r cause : Nat) (s : State) : State :=
  if par .timingRefPriority r 0 s = 0 then setMon r .off s
  else if refValid r s then
    (if (ref r s).mon = .off then setMon r .qualifying s
     else if (ref r s).mon = .failed then setMon r (if (ref r s).been then .restoring else .qualifying) s else s)
  else if (ref r s).mon = .off then setMon r .failed s
  else failRef r (if !(ref r s).freqOk then 7 else cause) s

theorem refreshRef_eq (y0 : State) : refreshRef r cause y0 = followed r cause (noteQl r (takeLimit r y0)) := rfl

theorem followed_invalid (hp : par .timingRefPriority r 0 y ≠ 0) (hv : refValid r y = false) :
    followed r cause y = if (ref r y).mon = .off then setMon r .failed y
      else failRef r (if (ref r y).freqOk then cause else 7) y := by
  unfold followed
  rw [if_neg hp, if_neg (by rw [hv]; exact Bool.false_ne_true)]
  cases (ref r y).freqOk <;> rfl

theorem followed_valid (hp : par .timingRefPriority r 0 y ≠ 0) (hv : refValid r y = true) :
    followed r cause y = if (ref r y).mon = .off then setMon r .qualifying y
      else if (ref r y).mon = .failed then setMon r (if (ref r y).been then .restoring else .qualifying) y else y := by
  unfold followed
  rw [if_neg hp, if_pos hv]

theorem settled_does {i : Instr} {s x y : State} (hx : exec i s = .next (settle x)) (h : ReportEq x y) : Does i s y :=
  ⟨_, hx, (settle_eq x).trans h⟩

theorem followed_disqualified (hr : r < 6) (hp : par .timingRefPriority r 0 y ≠ 0) (hv : refValid r y = false)
    (hu : (ref r y).mon.usable = true) : ∃ w,
      followed r cause y = heldWithout r (turnedFrom r w) ∧
        ReportEq w (disqualified r (if (ref r y).freqOk then cause else 7) y) := by
  obtain ⟨w, hw, heq⟩ := failRef_of_usable (cause := if (ref r y).freqOk then cause else 7) hr hu
  exact ⟨w, by rw [followed_invalid hp hv, if_neg (usable_off hu).1, hw], heq⟩

theorem followed_of_held {w : State} (hr : r < 6) {why : Nat} (hw : ReportEq w (disqualified r why y))
    (hc : y.time.candidate.map (·.1) ≠ some r) :
    heldWithout r (turnedFrom r w) =
      if y.time.selected = some r ∧ y.time.candidate.isNone ∧
          !((List.range 6).any fun k => k != r && (ref k y).mon.usable) then enterHoldover w else w := by
  have hsel : w.time.selected = y.time.selected := (congrArg TimeS.selected hw.time :)
  have hcand : w.time.candidate = y.time.candidate := (congrArg TimeS.candidate hw.time :)
  have hany : anyCandidate w = (List.range 6).any fun k => k != r && (ref k y).mon.usable :=
    ((congrArg anyCandidate hw.rest :) : anyCandidate w = _).trans (anyCandidate_disqualified hr why)
  rw [turnedFrom_of_other (by rw [hcand]; exact hc)]
  unfold heldWithout
  rw [hsel, hcand, hany]

theorem monitored_of {i : Instr} {s y0 : State} (hr : r < 6) (hx : exec i s = .next (settle (refreshRef r cause y0))) :
    Monitored i s r cause y0 := by
  rw [refreshRef_eq] at hx
  unfold Monitored
  generalize noteQl r (takeLimit r y0) = y at hx
  refine ⟨fun hp => ⟨fun hm => ?_, fun hm => ?_⟩, fun hp hv => ⟨fun hm hm' => ?_, fun hm => ?_, fun hm => ?_⟩,
    fun hp hv => ⟨fun hm => ?_, fun hm hu => ?_, fun hu => ?_⟩⟩
  · refine settled_does hx ?_
    rw [followed, if_pos hp, setMon_of_same hm]
    exact .rfl' _
  · refine settled_does hx ?_
    rw [followed, if_pos hp]
    exact setMon_off hm
  · refine settled_does hx ?_
    rw [followed_valid hp hv, if_neg hm, if_neg hm']
    exact .rfl' _
  · refine settled_does hx ?_
    rw [followed_valid hp hv, if_neg (by rw [hm]; decide), if_pos hm]
    refine setMon_movedTo (by rw [hm]; split <;> decide) ?_
    cases (ref r y).been <;> simp
  · refine settled_does hx ?_
    rw [followed_valid hp hv, if_pos hm]
    exact setMon_movedTo (by rw [hm]; decide) (.inr (.inl rfl))
  · refine settled_does hx ?_
    rw [followed_invalid hp hv, if_neg (by rw [hm]; decide), failRef_of_failed hm]
    exact .rfl' _
  · refine settled_does hx ?_
    rw [followed_invalid hp hv]
    by_cases hoff : (ref r y).mon = .off
    · rw [if_pos hoff]
      exact setMon_movedTo hm (.inl rfl)
    · rw [if_neg hoff]
      exact failRef_of_unusable hr hoff hm hu
  · obtain ⟨w, heq, hw⟩ := followed_disqualified (cause := cause) hr hp hv hu
    rw [heq] at hx
    refine ⟨fun hc => ?_, fun hc hnot => ?_, fun hsel hcand hleft hruns => ?_⟩
    · have hcand : w.time.candidate = y.time.candidate := (congrArg TimeS.candidate hw.time :)
      obtain ⟨hrefs, hnone, habandoned, hdisq⟩ := relieved_of_candidate (r := r) (s := w) (by rw [hcand]; exact hc)
      have href : ref r (heldWithout r (turnedFrom r w)) = ref r (disqualified r _ y) :=
        congrArg (fun l => l.getD r RefS.unseen) (hrefs.trans (congrArg TimeS.refs hw.time))
      obtain ⟨hmon, hcause⟩ := ref_disqualified_same (y := y) hr (if (ref r y).freqOk then cause else 7)
      have hs := settle_eq (heldWithout r (turnedFrom r w))
      have hctr : ctrGet .refDisqualify r w = min ctrMax (ctrGet .refDisqualify r y + 1) := by
        rw [hw.ctr _ _ rfl]
        exact ctrGet_count_same ..
      have hctr' : ctrGet .switchAbandoned 0 w = ctrGet .switchAbandoned 0 y := by
        rw [hw.ctr _ _ rfl]
        exact ctrGet_count_of_ne (by decide) ..
      refine ⟨_, hx, ?_, ?_, (congrArg TimeS.candidate hs.time).trans hnone, ?_, ?_⟩
      · rw [← hmon, ← href]
        exact (congrArg (fun t : TimeS => (t.refs.getD r RefS.unseen).mon) hs.time :)
      · rw [← hcause, ← href]
        exact (congrArg (fun t : TimeS => (t.refs.getD r RefS.unseen).cause) hs.time :)
      · rw [hs.ctr _ _ rfl, hdisq, hctr]
      · rw [hs.ctr _ _ rfl, habandoned, hctr']
    · rw [followed_of_held hr hw hc] at hx
      refine settled_does hx ?_
      split
      case isFalse => exact hw
      case isTrue h =>
        obtain ⟨hsel, hnone, hleft⟩ := h
        have hruns : ¬ Follows w := by
          have hdpll : w.time.dpll = y.time.dpll := (congrArg TimeS.dpll hw.time :)
          have hf : Follows w ↔ Follows y := by rw [Follows, Follows, hdpll]
          rw [hf]
          rcases hnot with h | h | h | h
          · exact absurd hsel h
          · exact absurd (Option.isNone_iff_eq_none.1 hnone) h
          · rw [h] at hleft
            exact absurd hleft Bool.false_ne_true
          · exact h
        rw [enterHoldover_of_not_follows hruns]
        exact hw
    · rw [followed_of_held hr hw (by rw [hcand]; exact nofun),
        if_pos ⟨hsel, by rw [hcand]; rfl, by rw [hleft]; rfl⟩] at hx
      have hdebt : debtNow (disqualified r (if (ref r y).freqOk then cause else 7) y) = debtNow y := rfl
      have hheld := hw.of_heldOver
      rw [heldOver, heldOver, hdebt] at hheld
      refine settled_does hx ((enterHoldover_eq ?_).trans hheld)
      unfold Follows
      rw [((congrArg TimeS.dpll hw.time :) : w.time.dpll = y.time.dpll)]
      exact hruns

end

/-! ### The rows -/

section
variable {r : Nat} {x : State}

theorem lapsed_iff {o : Option Nat} {span : Nat} : lapsed o span x = true ↔ ∀ p, o = some p → p + span ≤ x.time.now := by
  cases o <;> simp [lapsed]

theorem lossDue_signal : lossDue r .signal x = true ↔ r < 2 := decide_eq_true_iff

theorem lossDue_pps : lossDue r .pps x = true ↔ r < 2 ∧ ∀ p, (ref r x).lastPps = some p → p + msT 1500 ≤ x.time.now := by
  rw [lossDue, Bool.and_eq_true, decide_eq_true_iff, lapsed_iff]

theorem lossDue_tod : lossDue r .tod x = true ↔
    r < 2 ∧ ∀ p, (ref r x).lastTod = some p → p + nsT (par0 .timingTodTimeout x) ≤ x.time.now := by
  rw [lossDue, Bool.and_eq_true, decide_eq_true_iff, lapsed_iff]

theorem lossDue_esmc : lossDue r .esmc x = true ↔ 4 ≤ r ∧ ∀ p, (ref r x).lastEsmc = some p → p + secT 5 ≤ x.time.now := by
  rw [lossDue, Bool.and_eq_true, decide_eq_true_iff, lapsed_iff]

theorem lossDue_link : lossDue r .link x = true ↔ 4 ≤ r ∧ hostUp (r - 4) x = false := by
  rw [lossDue, Bool.and_eq_true, decide_eq_true_iff, Bool.not_eq_true']

end

/-- A reference that has lost what a cause names. -/
def RefS.without (cause : LossCause) (z : RefS) : RefS :=
  match cause with
  | .signal => { z with sigOk := false }
  | .pps => { z with ppsOk := false }
  | .tod => { z with todOk := false, todSecond := none }
  | .ptp => { z with ptpOk := false }
  | .esmc => { z with esmcOk := false }
  | .link => { z with linkOk := false }

/-- A reference's conditions with a cause lost. -/
def lost (r : Nat) (cause : LossCause) (x : State) : State := setRef r ((ref r x).without cause) x

theorem exec_refSignalLoss (t : Nat) (r : Fin 6) (cause : LossCause) (s : State) : exec (.refSignalLoss t r cause) s =
    act t (onlyIf (lossDue r cause) fun x => refreshRef r cause.code (lost r cause x)) s := by
  cases cause <;> rfl

/-- A reference that measures tide time against the second that its last sentence named (R400). -/
def RefS.labelled (x : State) (old : RefS) : RefS :=
  match old.todSecond with
  | some sec => if old.lastPps.getD 0 ≤ old.lastTod.getD 0 then old.measured ((x.time.tide : Int) - (secT sec : Nat)) else old
  | none => old

/-- The same, on the truth value of the comparison. -/
def RefS.labelledIf (x : State) (old : RefS) (b : Bool) : RefS :=
  match old.todSecond with
  | some sec => if b then old.measured ((x.time.tide : Int) - (secT sec : Nat)) else old
  | none => old

theorem RefS.labelledIf_decide (x : State) (old : RefS) :
    old.labelledIf x (decide (old.lastPps.getD 0 ≤ old.lastTod.getD 0)) = old.labelled x := by
  unfold labelledIf labelled
  cases old.todSecond with
  | none => rfl
  | some sec => simp only [decide_eq_true_eq]

/-- A PPS edge as its reference notes it. -/
def pulsed (z : RefS) (present : Bool) (dev : Int) (x : State) : RefS :=
  { z with sigOk := present, ppsOk := decide (dev.natAbs ≤ usT 1), lastPps := some x.time.now }

theorem exec_ppsEdge (t : Nat) (r : Fin 2) (present : Bool) (dev : Int) (s : State) : exec (.ppsEdge t r present dev) s =
    act t (fun x => refreshRef r (if present then 2 else 1) (setRef r (pulsed ((ref r x).labelledIf x
      (decide ((ref r x).lastPps.getD 0 ≤ (ref r x).lastTod.getD 0))) present dev x) x)) s := rfl

/-- A ToD sentence as its reference notes it. -/
def told (old : RefS) (sec ql : Nat) (x : State) : RefS :=
  { old with todOk := true, todSecond := some sec, ql := ql, lastTod := some x.time.now }

/-- A sentence began and ended in the window that R397 allows after a PPS edge. -/
def todInWindow (edge : Option Nat) (started now : Nat) : Bool :=
  match edge with
  | some p => decide (p + msT 10 ≤ started) && decide (now + msT 100 ≤ p + secT 1)
  | none => false

/-- A second follows the one before it. -/
def todFollows (before : Option Nat) (sec : Nat) : Bool :=
  match before with
  | some p => decide (sec = p + 1)
  | none => true

/-- What a sentence does. -/
def heard (r : Nat) (told? : Option (Nat × Nat × Nat)) (started : Nat) (x : State) : State :=
  match told? with
  | some (sec, ql, _) =>
    if todInWindow (ref r x).lastPps started x.time.now &&
        todFollows (if (ref r x).todOk then (ref r x).todSecond else none) sec then
      refreshRef r 6 (setRef r (told (ref r x) sec ql x) x)
    else count .todBad r 1 x
  | none => count .todBad r 1 x

theorem exec_todSentence (t : Nat) (r : Fin 2) (text : List Byte) (started : Nat) (s : State) :
    exec (.todSentence t r text started) s = act t (heard r (parseTod text) started) s := rfl

theorem todInWindow_iff {edge : Option Nat} {started now : Nat} : todInWindow edge started now = true ↔
    ∃ p, edge = some p ∧ p + msT 10 ≤ started ∧ now + msT 100 ≤ p + secT 1 := by
  cases edge <;> simp [todInWindow]

theorem todFollows_iff {before : Option Nat} {sec : Nat} :
    todFollows before sec = true ↔ ∀ p, before = some p → sec = p + 1 := by
  cases before <;> simp [todFollows]

/-- An ESMC PDU as its reference notes it. -/
def synced (old : RefS) (ssm : Nat) (x : State) : RefS :=
  { old with esmcOk := true, linkOk := true, ql := qlOfSsm ssm, lastEsmc := some x.time.now }

theorem exec_esmcPduRx (t : Nat) (port : Fin 2) (ssm : Fin 16) (s : State) : exec (.esmcPduRx t port ssm) s =
    act t (onlyIf (fun x => hostUp port x) fun x =>
      refreshRef (4 + port.val) 6 (setRef (4 + port.val) (synced (ref (4 + port.val) x) ssm x) x)) s := rfl

theorem exec_refFreqMeasure (t : Nat) (r : Fin 6) (freq : Int) (s : State) : exec (.refFreqMeasure t r freq) s =
    act t (fun x => refreshRef r 7 (setRef r { ref r x with freq := freq } x)) s := rfl

/-- The wait of a reference is over (R399). -/
def qualified (r : Nat) (x : State) : Bool :=
  ((ref r x).mon == .qualifying || (ref r x).mon == .restoring) && decide ((ref r x).since + qualifyWait r x ≤ x.time.now)

theorem exec_qualifyTimeExpiry (t : Nat) (r : Fin 6) (s : State) :
    exec (.qualifyTimeExpiry t r) s = act t (onlyIf (qualified r) (setMon r .selectable)) s := rfl

theorem qualifyWait_of_restoring {r : Nat} {x : State} (h : (ref r x).mon = .restoring) :
    qualifyWait r x = max (nsT (par0 .timingWtr x)) (nsT (par0 .timingQualifyTime x)) := if_pos h

theorem qualifyWait_of_qualifying {r : Nat} {x : State} (h : (ref r x).mon = .qualifying) :
    qualifyWait r x = nsT (par0 .timingQualifyTime x) := if_neg (by rw [h]; decide)

section
variable (t : Nat) (s : State)

theorem monitored_ppsEdge (r : Fin 2) (present : Bool) (dev : Int) : Monitored (.ppsEdge t r present dev) s r
    (if present then 2 else 1)
    (setRef r (pulsed ((ref r (advance t s)).labelled (advance t s)) present dev (advance t s)) (advance t s)) := by
  refine monitored_of (by omega) ?_
  rw [exec_ppsEdge, act]
  simp only [RefS.labelledIf_decide]

theorem does_todSentence_bad {r : Fin 2} {text : List Byte} {started : Nat} {x : State} (hx : advance t s = x)
    (h : parseTod text = none ∨
      ¬ ∃ p, (ref r x).lastPps = some p ∧ p + msT 10 ≤ started ∧ x.time.now + msT 100 ≤ p + secT 1) :
    Does (.todSentence t r text started) s (count .todBad r 1 x) := by
  refine settled_does (by rw [exec_todSentence, act, hx]) ?_
  cases hp : parseTod text with
  | none => exact .rfl' _
  | some v =>
    have hw : todInWindow (ref r x).lastPps started x.time.now = false :=
      Bool.eq_false_iff.2 fun hw => h.elim (fun h => by rw [hp] at h; exact nomatch h) fun h => h (todInWindow_iff.1 hw)
    obtain ⟨sec, ql, fl⟩ := v
    rw [heard, if_neg (by rw [hw]; exact Bool.false_ne_true)]
    exact .rfl' _

theorem does_todSentence_skipped {r : Fin 2} {text : List Byte} {started sec ql fl : Nat} {x : State} (hx : advance t s = x)
    (hp : parseTod text = some (sec, ql, fl)) (hok : (ref r x).todOk = true)
    (hseq : ∃ p, (ref r x).todSecond = some p ∧ sec ≠ p + 1) :
    Does (.todSentence t r text started) s (count .todBad r 1 x) := by
  refine settled_does (by rw [exec_todSentence, act, hx]) ?_
  obtain ⟨p, hsec, hne⟩ := hseq
  have hf : todFollows (some p) sec = false := Bool.eq_false_iff.2 fun hf => hne (todFollows_iff.1 hf p rfl)
  rw [hp, heard, if_pos hok, hsec, hf, Bool.and_false, if_neg Bool.false_ne_true]
  exact .rfl' _

theorem monitored_todSentence {r : Fin 2} {text : List Byte} {started sec ql fl : Nat} {x : State} (hx : advance t s = x)
    (hp : parseTod text = some (sec, ql, fl))
    (hw : ∃ p, (ref r x).lastPps = some p ∧ p + msT 10 ≤ started ∧ x.time.now + msT 100 ≤ p + secT 1)
    (hseq : (ref r x).todOk = false ∨ ∀ p, (ref r x).todSecond = some p → sec = p + 1) :
    Monitored (.todSentence t r text started) s r 6 (setRef r (told (ref r x) sec ql x) x) := by
  refine monitored_of (by omega) ?_
  have hf : todFollows (if (ref r x).todOk then (ref r x).todSecond else none) sec = true := by
    refine todFollows_iff.2 fun p h => ?_
    split at h
    case isTrue hok => exact hseq.elim (fun h => absurd hok (by rw [h]; exact Bool.false_ne_true)) fun hs => hs p h
    case isFalse => exact nomatch h
  rw [exec_todSentence, act, hx, hp, heard, if_pos (by rw [todInWindow_iff.2 hw, hf]; rfl)]

theorem monitored_refSignalLoss {r : Fin 6} {cause : LossCause} {x : State} (hx : advance t s = x)
    (h : lossDue r cause x = true) : Monitored (.refSignalLoss t r cause) s r cause.code (lost r cause x) := by
  refine monitored_of r.isLt ?_
  rw [exec_refSignalLoss, act, hx, onlyIf, if_pos h]

theorem monitored_esmcPduRx {port : Fin 2} {ssm : Fin 16} {x : State} (hx : advance t s = x) (h : hostUp port x = true) :
    Monitored (.esmcPduRx t port ssm) s (4 + port.val) 6
      (setRef (4 + port.val) (synced (ref (4 + port.val) x) ssm x) x) := by
  refine monitored_of (by omega) ?_
  rw [exec_esmcPduRx, act, hx, onlyIf, if_pos h]

theorem monitored_refFreqMeasure (r : Fin 6) (freq : Int) : Monitored (.refFreqMeasure t r freq) s r 7
    (setRef r { ref r (advance t s) with freq := freq } (advance t s)) :=
  monitored_of r.isLt (by rw [exec_refFreqMeasure, act])

theorem freqOk_takeLimit {r : Nat} (hr : r < 6) (freq : Int) (x : State) :
    (ref r (takeLimit r (setRef r { ref r x with freq := freq } x))).freqOk =
      decide (freq.natAbs ≤ min (par0 .timingFreqLimit x) 11000 * 100) := by
  rw [takeLimit, ref_setRef_same r _ _ hr, ref_setRef_same r _ _ hr]
  rfl

theorem does_qualifyTimeExpiry {r : Fin 6} {x : State} (hx : advance t s = x) (h : qualified r x = true) :
    Does (.qualifyTimeExpiry t r) s (noteEvent .refState (setRef r { ref r x with
      mon := .selectable, since := x.time.now, been := true, disagrees := none } x)) := by
  refine settled_does (by rw [exec_qualifyTimeExpiry, act, hx, onlyIf, if_pos h]) (setMon_selectable fun hm => ?_)
  rw [qualified, hm] at h
  exact Bool.false_ne_true h

theorem qualified_iff {r : Nat} {x : State} : qualified r x = true ↔
    ((ref r x).mon = .qualifying ∧ (ref r x).since + nsT (par0 .timingQualifyTime x) ≤ x.time.now) ∨
    ((ref r x).mon = .restoring ∧
      (ref r x).since + max (nsT (par0 .timingWtr x)) (nsT (par0 .timingQualifyTime x)) ≤ x.time.now) := by
  rw [qualified, Bool.and_eq_true, Bool.or_eq_true, beq_iff_eq, beq_iff_eq, decide_eq_true_iff, or_and_right]
  refine or_congr (and_congr_right fun h => ?_) (and_congr_right fun h => ?_)
  · rw [qualifyWait_of_qualifying h]
  · rw [qualifyWait_of_restoring h]

end

theorem qlOfSsm_of_other {c : Nat} (h : c ∉ [2, 4, 8, 11, 15]) : qlOfSsm c = 14 := by
  simp only [List.mem_cons, List.not_mem_nil, or_false, not_or] at h
  obtain ⟨h2, h4, h8, h11, h15⟩ := h
  rw [qlOfSsm, if_neg h2, if_neg h4, if_neg h8, if_neg h11, if_neg h15]

/-- Settles O46, row by row: each notes a reference's new conditions, which then follow R399 (`monitored_of`). -/
theorem referencesAreMonitored : Obligations.ReferencesAreMonitored := by
  unfold Obligations.ReferencesAreMonitored
  intro moved monitored
  have hmonitored : monitored = Monitored := rfl
  clear_value monitored
  subst hmonitored
  refine And.intro ?_ (And.intro ?_ (And.intro ?_ (And.intro ?_ (And.intro ?_ (And.intro ?_ (And.intro ?_ ?_))))))
  · exact fun t r present dev s => monitored_ppsEdge t s r present dev
  · exact fun t r text started s => ⟨fun h => does_todSentence_bad t s rfl h, fun sec ql fl hp =>
      ⟨fun hok hseq => does_todSentence_skipped t s rfl hp hok hseq, fun hw hseq => monitored_todSentence t s rfl hp hw hseq⟩⟩
  · intro t r cause s
    refine ⟨fun h => does_onlyIf_of_not (exec_refSignalLoss t r cause s) h, fun h => ?_⟩
    have hm := monitored_refSignalLoss t s (r := r) (cause := cause) rfl h
    cases cause <;> exact hm
  · exact fun r x => ⟨lossDue_signal, lossDue_pps, lossDue_tod, lossDue_esmc, lossDue_link⟩
  · exact fun t port ssm s => ⟨fun h => does_onlyIf_of_not (exec_esmcPduRx t port ssm s) h,
      fun h => monitored_esmcPduRx t s rfl h⟩
  · exact fun t r freq s => ⟨monitored_refFreqMeasure t s r freq, freqOk_takeLimit r.isLt ..⟩
  · refine fun t r s => ⟨fun hm hd => does_qualifyTimeExpiry t s rfl (qualified_iff.2 (.inl ⟨hm, hd⟩)), fun hm hd =>
      does_qualifyTimeExpiry t s rfl (qualified_iff.2 (.inr ⟨hm, hd⟩)), fun hq hr => ?_⟩
    refine does_onlyIf_of_not (exec_qualifyTimeExpiry t r s) (Bool.eq_false_iff.2 fun h => ?_)
    rcases qualified_iff.1 h with ⟨hm, hd⟩ | ⟨hm, hd⟩
    · exact hq.elim (fun h => h hm) fun h => absurd hd (Nat.not_le.2 h)
    · exact hr.elim (fun h => h hm) fun h => absurd hd (Nat.not_le.2 h)
  · exact ⟨by decide, fun c hc => qlOfSsm_of_other hc⟩

end Sys2Proof.Machine
end

section
/-! The selection of a reference (R402 to R407, R411, R412, R414). -/

namespace Sys2Proof.Machine

open Touches (refl ite of_fields foldl)

/-! ### The best of a list of references (R403) -/

/-- The key that R403 compares. -/
def rankKey (useQl : Bool) (s : State) (r : Nat) : List Nat :=
  [if par0 .timingFreqOnlyRank s = 0 ∧ !timeCapable r then 1 else 0, if useQl then refQl r s else 0,
    par .timingRefPriority r 0 s, if s.time.selected = some r then 0 else 1, r]

theorem outranks_iff {useQl : Bool} {a b : Nat} {s : State} :
    outranks useQl a b s = true ↔ rankKey useQl s a < rankKey useQl s b := decide_eq_true_iff

theorem outranks_eq_false_iff {useQl : Bool} {a b : Nat} {s : State} :
    outranks useQl a b s = false ↔ rankKey useQl s b ≤ rankKey useQl s a := by
  rw [← Bool.not_eq_true, outranks_iff, not_lt]

/-- One step of the search for the best. -/
def better (useQl : Bool) (s : State) (b : Option Nat) (r : Nat) : Option Nat :=
  match b with
  | none => some r
  | some x => if outranks useQl r x s then some r else some x

theorem bestRef_eq (useQl : Bool) (l : List Nat) (s : State) : bestRef useQl l s = l.foldl (better useQl s) none := rfl

section
variable {useQl : Bool} {s : State} {l : List Nat}

theorem foldl_better (x : Nat) : ∃ g, l.foldl (better useQl s) (some x) = some g ∧ g ∈ x :: l ∧
    ∀ k ∈ x :: l, rankKey useQl s g ≤ rankKey useQl s k := by
  induction l generalizing x with
  | nil => exact ⟨x, rfl, List.mem_cons_self, fun k hk => by rw [List.mem_singleton.1 hk]⟩
  | cons a l ih =>
    have hstep : ∃ z, better useQl s (some x) a = some z ∧ (z = x ∨ z = a) ∧ rankKey useQl s z ≤ rankKey useQl s x ∧
        rankKey useQl s z ≤ rankKey useQl s a := by
      by_cases h : outranks useQl a x s = true
      · exact ⟨a, if_pos h, .inr rfl, le_of_lt (outranks_iff.1 h), le_refl _⟩
      · exact ⟨x, if_neg h, .inl rfl, le_refl _, outranks_eq_false_iff.1 (Bool.eq_false_iff.2 h)⟩
    obtain ⟨z, hz, hor, hzx, hza⟩ := hstep
    obtain ⟨g, hg, hmem, hmin⟩ := ih z
    have hgz := hmin z List.mem_cons_self
    refine ⟨g, by rw [List.foldl_cons, hz, hg], ?_, fun k hk => ?_⟩
    · rcases List.mem_cons.1 hmem with rfl | h
      · rcases hor with rfl | rfl <;> simp
      · simp [h]
    · rcases List.mem_cons.1 hk with rfl | hk
      · exact hgz.trans hzx
      · rcases List.mem_cons.1 hk with rfl | hk
        · exact hgz.trans hza
        · exact hmin k (List.mem_cons_of_mem _ hk)

theorem bestRef_eq_some {g : Nat} (h : bestRef useQl l s = some g) :
    g ∈ l ∧ ∀ k ∈ l, outranks useQl k g s = false := by
  cases l with
  | nil => exact nomatch h
  | cons x l =>
    obtain ⟨g', hg', hmem, hmin⟩ := foldl_better (useQl := useQl) (s := s) (l := l) x
    obtain rfl : g' = g := Option.some.inj (hg'.symm.trans h)
    exact ⟨hmem, fun k hk => outranks_eq_false_iff.2 (hmin k hk)⟩

theorem bestRef_eq_none_iff : bestRef useQl l s = none ↔ l = [] := by
  cases l with
  | nil => exact ⟨fun _ => rfl, fun _ => rfl⟩
  | cons x l =>
    obtain ⟨g, hg, -⟩ := foldl_better (useQl := useQl) (s := s) (l := l) x
    refine ⟨fun h => ?_, nofun⟩
    exact nomatch hg.symm.trans h

end

/-! ### The target of an evaluation (R403 to R405) -/

/-- The references that are SELECTABLE. -/
def selectables (s : State) : List Nat := (List.range 6).filter fun r => (ref r s).mon == .selectable

/-- The selected reference while it may be selected. -/
def heldRef (s : State) : Option Nat := if selectedUsable s then s.time.selected else none

/-- The SUSPECT references that may displace the selected one. -/
def suspects (s : State) : List Nat := (List.range 6).filter fun r =>
  (ref r s).mon == .suspect && !((heldRef s).isSome && heldRef s != some r && (ref r s).disagrees == heldRef s)

/-- The candidates of an evaluation. -/
def candidates (s : State) : List Nat := if (selectables s).isEmpty then suspects s else selectables s

theorem selectionTarget_eq (s : State) : selectionTarget s =
    if par0 .timingRefMode s = 0 then bestRef true (candidates s) s
    else if (ref (par0 .timingRefManual s) s).mon = .selectable then some (par0 .timingRefManual s)
    else bestRef false (candidates s) s := rfl

section
variable {s : State} {r : Nat}

theorem RegFile.getD_of_ge {α : Type} {n : Nat} (f : RegFile α n) {k : Nat} (d : α) (h : n ≤ k) : f.getD k d = d :=
  List.getD_eq_default _ _ (by rw [f.size]; exact h)

theorem ref_of_ge (h : 6 ≤ r) : ref r s = RefS.unseen := RegFile.getD_of_ge _ _ h

theorem lt_of_usable (h : (ref r s).mon.usable = true) : r < 6 := by
  refine Nat.lt_of_not_le fun hle => ?_
  rw [ref_of_ge hle] at h
  exact Bool.false_ne_true h

theorem usable_iff {m : MonState} : m.usable = true ↔ m = .selectable ∨ m = .suspect := by
  rw [MonState.usable, Bool.or_eq_true, beq_iff_eq, beq_iff_eq]

theorem usable_selectable : MonState.usable .selectable = true := rfl

theorem usable_suspect : MonState.usable .suspect = true := rfl

theorem mem_selectables : r ∈ selectables s ↔ (ref r s).mon = .selectable := by
  rw [selectables, List.mem_filter, List.mem_range, beq_iff_eq]
  exact ⟨And.right, fun h => ⟨lt_of_usable (by rw [h]; rfl), h⟩⟩

theorem mem_suspects : r ∈ suspects s ↔ (ref r s).mon = .suspect ∧
    ∀ c, heldRef s = some c → c ≠ r → (ref r s).disagrees ≠ some c := by
  rw [suspects, List.mem_filter, List.mem_range, Bool.and_eq_true, beq_iff_eq]
  cases heldRef s with
  | none => exact ⟨fun h => ⟨h.2.1, nofun⟩, fun h => ⟨lt_of_usable (by rw [h.1]; rfl), h.1, rfl⟩⟩
  | some c =>
    have hbool : (!((some c).isSome && some c != some r && (ref r s).disagrees == some c)) = true ↔
        (c ≠ r → (ref r s).disagrees ≠ some c) := by simp [or_iff_not_imp_left]
    rw [hbool]
    exact ⟨fun h => ⟨h.2.1, fun d hd => Option.some.inj hd ▸ h.2.2⟩,
      fun h => ⟨lt_of_usable (by rw [h.1]; rfl), h.1, h.2 c rfl⟩⟩

theorem heldRef_eq_some {c : Nat} : heldRef s = some c ↔ s.time.selected = some c ∧ (ref c s).mon.usable = true := by
  unfold heldRef selectedUsable
  cases s.time.selected with
  | none => simp
  | some d =>
    by_cases hd : (ref d s).mon.usable = true
    · simp only [hd, if_true, Option.some.injEq]
      exact ⟨fun h => ⟨h, h ▸ hd⟩, And.left⟩
    · simp only [hd]
      exact ⟨nofun, fun h => absurd (Option.some.inj h.1 ▸ h.2) hd⟩

theorem candidates_of_selectable (h : (ref r s).mon = .selectable) : candidates s = selectables s := by
  unfold candidates
  rw [if_neg]
  rw [List.isEmpty_iff]
  exact List.ne_nil_of_mem (mem_selectables.2 h)

theorem candidates_of_none (h : ∀ k, (ref k s).mon ≠ .selectable) : candidates s = suspects s := by
  unfold candidates
  rw [if_pos]
  rw [List.isEmpty_iff]
  exact List.eq_nil_iff_forall_not_mem.2 fun k hk => h k (mem_selectables.1 hk)

theorem mem_candidates (h : r ∈ candidates s) : (ref r s).mon.usable = true ∧
    ((ref r s).mon = .suspect → (∀ k < 6, (ref k s).mon ≠ .selectable) ∧
      ∀ c, s.time.selected = some c → (ref c s).mon.usable = true → c ≠ r → (ref r s).disagrees ≠ some c) := by
  by_cases hall : ∀ k, (ref k s).mon ≠ .selectable
  · rw [candidates_of_none hall] at h
    obtain ⟨hsus, hdis⟩ := mem_suspects.1 h
    exact ⟨by rw [hsus]; rfl, fun _ => ⟨fun k _ => hall k, fun c hc hu => hdis c (heldRef_eq_some.2 ⟨hc, hu⟩)⟩⟩
  · push Not at hall
    obtain ⟨k, hk⟩ := hall
    rw [candidates_of_selectable hk] at h
    have hsel := mem_selectables.1 h
    exact ⟨by rw [hsel]; rfl, fun hsus => nomatch hsel.symm.trans hsus⟩

theorem candidates_eq_nil_iff : candidates s = [] ↔ ∀ k < 6, (ref k s).mon.usable = false := by
  refine ⟨fun h k _ => Bool.eq_false_iff.2 fun hk => ?_, fun h => List.eq_nil_iff_forall_not_mem.2 fun k hk => ?_⟩
  · have hall : ∀ j, (ref j s).mon ≠ .selectable := fun j hj => by
      have hj' := mem_selectables.2 hj
      rw [← candidates_of_selectable hj, h] at hj'
      exact List.not_mem_nil hj'
    have hsus : ∀ j, (ref j s).mon.usable = true → (ref j s).mon = .suspect := fun j hj =>
      (usable_iff.1 hj).resolve_left (hall j)
    rw [candidates_of_none hall] at h
    have hno : ∀ j, (ref j s).mon.usable = true → ∃ c, heldRef s = some c ∧ c ≠ j := fun j hj => by
      by_contra hne
      push Not at hne
      have hmem : j ∈ suspects s := mem_suspects.2 ⟨hsus j hj, fun c hc hcj => absurd (hne c hc) hcj⟩
      rw [h] at hmem
      exact List.not_mem_nil hmem
    obtain ⟨c, hc, -⟩ := hno k hk
    obtain ⟨d, hd, hdc⟩ := hno c (heldRef_eq_some.1 hc).2
    exact hdc (Option.some.inj (hd.symm.trans hc))
  · have hu := (mem_candidates hk).1
    exact absurd (h k (lt_of_usable hu)) (by rw [hu]; exact nofun)

theorem selectionTarget_spec {g : Nat} (h : selectionTarget s = some g) : g < 6 ∧ (ref g s).mon.usable = true ∧
    ((ref g s).mon = .suspect → (∀ k < 6, (ref k s).mon ≠ .selectable) ∧
      ∀ c, s.time.selected = some c → (ref c s).mon.usable = true → c ≠ g → (ref g s).disagrees ≠ some c) ∧
    (par0 .timingRefMode s = 0 → ∀ k < 6, (ref k s).mon = .selectable → outranks true k g s = false) := by
  rw [selectionTarget_eq] at h
  by_cases hmode : par0 .timingRefMode s = 0
  · rw [if_pos hmode] at h
    obtain ⟨hmem, hmin⟩ := bestRef_eq_some h
    obtain ⟨hu, hsus⟩ := mem_candidates hmem
    exact ⟨lt_of_usable hu, hu, hsus, fun _ k _ hk => hmin k (by rw [candidates_of_selectable hk]; exact mem_selectables.2 hk)⟩
  · rw [if_neg hmode] at h
    by_cases hman : (ref (par0 .timingRefManual s) s).mon = .selectable
    · rw [if_pos hman] at h
      obtain rfl := Option.some.inj h
      exact ⟨lt_of_usable (by rw [hman]; rfl), by rw [hman]; rfl, fun hsus => (nomatch hman.symm.trans hsus),
        fun h => absurd h hmode⟩
    · rw [if_neg hman] at h
      obtain ⟨hu, hsus⟩ := mem_candidates (bestRef_eq_some h).1
      exact ⟨lt_of_usable hu, hu, hsus, fun h => absurd h hmode⟩

theorem selectionTarget_eq_none_iff : selectionTarget s = none ↔ ∀ k < 6, (ref k s).mon.usable = false := by
  rw [selectionTarget_eq]
  by_cases hmode : par0 .timingRefMode s = 0
  · rw [if_pos hmode, bestRef_eq_none_iff, candidates_eq_nil_iff]
  · rw [if_neg hmode]
    by_cases hman : (ref (par0 .timingRefManual s) s).mon = .selectable
    · rw [if_pos hman]
      refine ⟨nofun, fun h => ?_⟩
      have hu : (ref (par0 .timingRefManual s) s).mon.usable = true := by rw [hman]; rfl
      exact absurd (h _ (lt_of_usable hu)) (by rw [hu]; exact nofun)
    · rw [if_neg hman, bestRef_eq_none_iff, candidates_eq_nil_iff]

end

/-! ### Slewing (R413, R414) -/

section
variable {s x y : State}

theorem maybeSlew_command (h : par0 .timingRealignMode y = 0) : maybeSlew y = if y.time.slew = none then y
    else { y with time := { y.time with debt := debtNow y, slew := none } } := by
  unfold maybeSlew
  rw [if_pos h]
  cases y.time.slew with
  | none => rfl
  | some t => rfl

theorem maybeSlew_begins (h : par0 .timingRealignMode y ≠ 0) {g : Nat} (hg : y.time.selected = some g) (hcap : g < 4)
    (hd : 65536 ≤ y.time.debt.natAbs) (hs : y.time.slew = none) (hc : y.time.candidate = none) :
    maybeSlew y = { y with time := { y.time with
      slew := some y.time.now, dpll := .acquiring, acquireAt := y.time.now } } := by
  unfold maybeSlew
  rw [if_neg h, hg]
  dsimp only
  rw [if_pos ⟨decide_eq_true hcap, hd, by rw [hs]; rfl, by rw [hc]; rfl⟩]
  rfl

theorem maybeSlew_idle (h : par0 .timingRealignMode y ≠ 0) (hno : (∀ g, y.time.selected = some g → 4 ≤ g) ∨
    y.time.debt.natAbs < 65536 ∨ y.time.slew ≠ none ∨ y.time.candidate ≠ none) : maybeSlew y = y := by
  unfold maybeSlew
  rw [if_neg h]
  generalize hsel : y.time.selected = o at hno
  cases o with
  | none => rfl
  | some g =>
    refine if_neg fun ⟨hcap, hd, hs, hc⟩ => ?_
    rcases hno with h | h | h | h
    · exact absurd (of_decide_eq_true hcap) (Nat.not_lt.2 (h g rfl))
    · exact absurd hd (Nat.not_le.2 h)
    · exact h (Option.isNone_iff_eq_none.1 hs)
    · exact h (Option.isNone_iff_eq_none.1 hc)

/-- While a switch runs, or where nothing is selected, and nothing slews, none begins. -/
theorem maybeSlew_of_busy (hs : y.time.slew = none) (h : y.time.selected = none ∨ y.time.candidate ≠ none) :
    maybeSlew y = y := by
  by_cases hmode : par0 .timingRealignMode y = 0
  · rw [maybeSlew_command hmode, if_pos hs]
  · refine maybeSlew_idle hmode ?_
    exact h.elim (fun h => .inl fun g hg => nomatch h.symm.trans hg) fun h => .inr (.inr (.inr h))

/-- The timing state that `maybeSlew` leaves. -/
def slewedTime (s : State) : TimeS :=
  if par0 .timingRealignMode s = 0 then
    (if s.time.slew.isSome then { s.time with debt := debtNow s, slew := none } else s.time)
  else match s.time.selected with
  | some r =>
    if timeCapable r ∧ 65536 ≤ s.time.debt.natAbs ∧ s.time.slew.isNone ∧ s.time.candidate.isNone then
      { s.time with slew := some s.time.now, dpll := .acquiring, acquireAt := s.time.now }
    else s.time
  | none => s.time

theorem maybeSlew_eq_withTime (y : State) : maybeSlew y = { y with time := slewedTime y } := by
  unfold maybeSlew slewedTime
  by_cases hmode : par0 .timingRealignMode y = 0
  · rw [if_pos hmode, if_pos hmode]
    cases y.time.slew.isSome <;> rfl
  · rw [if_neg hmode, if_neg hmode]
    cases y.time.selected with
    | none => rfl
    | some g =>
      dsimp only
      split <;> rfl

theorem ReportEq.of_maybeSlew (h : ReportEq x y) : ReportEq (maybeSlew x) (maybeSlew y) := by
  have htime : slewedTime x = slewedTime y := (congrArg slewedTime h.restZ :)
  rw [maybeSlew_eq_withTime x, maybeSlew_eq_withTime y, htime]
  exact h.of_withTime _

end

/-! ### An evaluation (R402 to R406, R411, R412) -/

/-- What an evaluation does once every reference follows its conditions. -/
def evaluated (s : State) : State :=
  match s.time.candidate with
  | some (c, _) =>
    match selectionTarget s with
    | none => if (ref c s).mon.usable then s else turnTo none 3 s
    | some g => if g = c then s else turnTo (selectionTarget s) 0 s
  | none =>
    match selectionTarget s with
    | none => if s.time.selected.isSome then enterHoldover s else s
    | some g => if s.time.selected = some g then s else if mayBegin s then beginSwitch g s else s

theorem evaluate_eq (s : State) : evaluate s = evaluated (refreshRefs s) := by
  unfold evaluate
  extract_lets s1 target
  have hs1 : refreshRefs s = s1 := rfl
  rw [hs1]
  unfold evaluated
  dsimp only [target] <;> clear_value s1 <;> rcases s1.time.candidate with _ | ⟨c, t⟩ <;> cases selectionTarget s1 <;> rfl

theorem exec_selectionEvaluation (t : Nat) (s : State) :
    exec (.selectionEvaluation t) s = act t (fun x => maybeSlew (evaluate x)) s := rfl

/-- A switch toward `g` under way. -/
def switchingTo (g : Nat) (prior : Dpll) (w : State) : State := { w with time := { w.time with
  candidate := some (g, w.time.now)
  prior := prior
  dpll := .switching
  debt := debtNow w
  slew := none } }

theorem beginSwitch_eq (g : Nat) (s : State) : beginSwitch g s = switchingTo g s.time.dpll s := rfl

section
variable {s x y : State}

theorem maybeSlew_switchingTo (g : Nat) (p : Dpll) : maybeSlew (switchingTo g p y) = switchingTo g p y :=
  maybeSlew_of_busy rfl (.inr nofun)

theorem ReportEq.of_switchingTo (h : ReportEq x y) (g : Nat) (p : Dpll) :
    ReportEq (switchingTo g p x) (switchingTo g p y) := by
  have hdebt : debtNow x = debtNow y := (congrArg debtNow h.restZ :)
  unfold switchingTo
  rw [hdebt, h.time]
  exact h.of_withTime _

theorem anyCandidate_of_usable {g : Nat} (h : (ref g s).mon.usable = true) : anyCandidate s = true :=
  List.any_eq_true.2 ⟨g, List.mem_range.2 (lt_of_usable h), h⟩

theorem abandonSwitch_of_usable {p : Nat × Nat} {g : Nat} (hp : s.time.candidate = some p) (hg : (ref g s).mon.usable = true)
    (target : Option Nat) (cause : Nat) : ReportEq (abandonSwitch target cause s) (abandoned s) := by
  obtain ⟨w, hw, heq⟩ := abandonSwitch_eq hp target cause
  have hrefs : w.time.refs = s.time.refs := (congrArg TimeS.refs hw.time :)
  have hany : anyCandidate w = true := anyCandidate_of_usable (g := g) (by rw [ref, hrefs]; exact hg)
  rw [heq, hany, Bool.not_true, Bool.and_false, if_neg Bool.false_ne_true]
  exact hw

/-- An abandoned switch with one to `g` begun at once. -/
def abandonedFor (g : Nat) (s : State) : State := noteEvent .refSwitchAbandoned (count .switchAbandoned 0 1
  (switchingTo g s.time.prior { s with time := { s.time with noHold := true } }))

theorem switchingTo_abandoned (g : Nat) : switchingTo g s.time.prior (abandoned s) = abandonedFor g s := by
  have h : debtNow (abandoned s) = debtNow { s with time := { s.time with noHold := true } } := rfl
  rw [abandonedFor, switchingTo, switchingTo, h]
  rfl

theorem turnTo_other {p : Nat × Nat} {g : Nat} (hp : s.time.candidate = some p) (hg : (ref g s).mon.usable = true)
    (hne : s.time.selected ≠ some g) (cause : Nat) : ReportEq (turnTo (some g) cause s) (abandonedFor g s) := by
  have hw := abandonSwitch_of_usable hp hg (some g) cause
  unfold turnTo
  generalize abandonSwitch (some g) cause s = w at hw
  have hsel : w.time.selected = s.time.selected := (congrArg TimeS.selected hw.time :)
  have hdpll : w.time.dpll = s.time.prior := (congrArg TimeS.dpll hw.time :)
  dsimp only
  rw [if_neg (by rw [hsel]; exact hne), beginSwitch_eq, hdpll, ← switchingTo_abandoned]
  exact hw.of_switchingTo ..

theorem turnTo_selected {p : Nat × Nat} {g : Nat} (hp : s.time.candidate = some p) (hg : (ref g s).mon.usable = true)
    (hsel : s.time.selected = some g) (cause : Nat) : ReportEq (turnTo (some g) cause s) (abandoned s) := by
  have hw := abandonSwitch_of_usable hp hg (some g) cause
  unfold turnTo
  generalize abandonSwitch (some g) cause s = w at hw
  have hsel' : w.time.selected = s.time.selected := (congrArg TimeS.selected hw.time :)
  dsimp only
  rw [if_pos (by rw [hsel']; exact hsel)]
  exact hw

theorem evaluated_lost {c t0 : Nat} (hc : s.time.candidate = some (c, t0)) (ht : selectionTarget s = none) :
    evaluated s = abandonSwitch none 3 s := by
  have hu : (ref c s).mon.usable ≠ true := fun hu =>
    absurd (selectionTarget_eq_none_iff.1 ht c (lt_of_usable hu)) (by rw [hu]; exact nofun)
  unfold evaluated
  rw [hc, ht]
  exact if_neg hu

theorem evaluated_kept {c t0 : Nat} (hc : s.time.candidate = some (c, t0)) (ht : selectionTarget s = some c) :
    evaluated s = s := by
  unfold evaluated
  rw [hc, ht]
  exact if_pos rfl

theorem evaluated_other {c t0 g : Nat} (hc : s.time.candidate = some (c, t0)) (ht : selectionTarget s = some g)
    (hne : g ≠ c) : evaluated s = turnTo (some g) 0 s := by
  unfold evaluated
  rw [hc, ht]
  exact if_neg hne

theorem evaluated_none (hc : s.time.candidate = none) (ht : selectionTarget s = none) :
    evaluated s = if s.time.selected.isSome then enterHoldover s else s := by
  unfold evaluated
  rw [hc, ht]

theorem evaluated_target {g : Nat} (hc : s.time.candidate = none) (ht : selectionTarget s = some g) :
    evaluated s = if s.time.selected = some g then s else if mayBegin s then beginSwitch g s else s := by
  unfold evaluated
  rw [hc, ht]

theorem mayBegin_of (h : s.time.selected = none ∨ s.time.noHold = true ∨ s.time.lastCommit = none ∨
    (∃ c, s.time.lastCommit = some c ∧ c + nsT (par0 .timingWtr s) ≤ s.time.now) ∨
    (∃ c, s.time.selected = some c ∧ (ref c s).mon.usable = false)) : mayBegin s = true := by
  unfold mayBegin
  rw [Bool.or_eq_true, Bool.or_eq_true, Bool.or_eq_true]
  rcases h with h | h | h | ⟨c, h, hc⟩ | ⟨c, h, hc⟩
  · exact .inl (.inl (.inl (by rw [h]; rfl)))
  · exact .inl (.inr h)
  · exact .inr (by rw [h])
  · exact .inr (by rw [h]; exact decide_eq_true hc)
  · refine .inl (.inl (.inr ?_))
    rw [selectedUsable, h]
    dsimp only
    rw [hc]
    rfl

theorem mayBegin_held {c d : Nat} (hs : s.time.selected = some c) (hu : (ref c s).mon.usable = true)
    (hn : s.time.noHold = false) (hl : s.time.lastCommit = some d) (hd : s.time.now < d + nsT (par0 .timingWtr s)) :
    mayBegin s = false := by
  unfold mayBegin
  rw [selectedUsable, hs, hn, hl]
  dsimp only
  rw [hu, decide_eq_false (Nat.not_le.2 hd)]
  rfl

end

end Sys2Proof.Machine
end

section
/-! Disagreement of references (R407), and what selection keeps. -/

namespace Sys2Proof.Machine

open Touches (refl ite of_fields foldl)

/-! ### One reference against the kept one -/

/-- The references of equal rank with `r`. -/
def rankGroup (r : Nat) (s : State) : List Nat :=
  (List.range 6).filter fun x => (ref x s).mon.usable && equalRank r x s

theorem keptOf_selected {freqs : List Int} {est : Int} {r c : Nat} {s : State} (hs : s.time.selected = some c) (hc : c < 6)
    (hu : (ref c s).mon.usable = true) (he : equalRank r c s = true) : keptOf r freqs est s = c := by
  have hfind : (rankGroup r s).find? (fun x => s.time.selected = some x) = some c := by
    have hmem : c ∈ rankGroup r s := List.mem_filter.2 ⟨List.mem_range.2 hc, by rw [hu, he]; rfl⟩
    rw [hs]
    cases hf : (rankGroup r s).find? (fun x => some c = some x) with
    | none => exact absurd (decide_eq_true rfl) (List.find?_eq_none.1 hf c hmem)
    | some x => exact congrArg some (Option.some.inj (of_decide_eq_true (List.find?_some (p := fun x => decide (some c = some x)) hf))).symm
  unfold keptOf
  extract_lets group good
  have hgroup : rankGroup r s = group := rfl
  rw [hgroup] at hfind
  clear_value group
  rw [hfind]

section
variable {freqs : List Int} {est : Int} {r : Nat} {y : State}

/-- How far two frequencies lie apart. -/
def freqGap (freqs : List Int) (r k : Nat) : Nat := (freqs.getD r 0 - freqs.getD k 0).natAbs

/-- The limit of R407. -/
def disagreeLimit (y : State) : Nat := par0 .timingDisagreePpb y * 100

theorem disagreeOne_kept (h : keptOf r freqs est y = r) : disagreeOne freqs est y r = y := if_pos h

/-- A SELECTABLE reference that disagrees with `k`. -/
def suspected (r k : Nat) (y : State) : State :=
  noteEvent .refDisagree (fired .refDisagree (noteEvent .refState
    (setRef r { ref r y with mon := .suspect, since := y.time.now, disagrees := some k } y)))

/-- A SUSPECT reference that agrees again. -/
def cleared (r : Nat) (y : State) : State :=
  noteEvent .refDisagree (noteEvent .refState
    (setRef r { ref r y with mon := .selectable, since := y.time.now, been := true, disagrees := none } y))

theorem setMon_suspect {k : Nat} (hr : r < 6) (hm : (ref r y).mon ≠ .suspect) :
    ReportEq (setMon r .suspect (setRef r { ref r y with disagrees := some k } y))
      (noteEvent .refState (setRef r { ref r y with mon := .suspect, since := y.time.now, disagrees := some k } y)) := by
  have hz : ref r (setRef r { ref r y with disagrees := some k } y) = _ := ref_setRef_same r _ y hr
  refine (setMon_eq (by rw [hz]; exact hm)).trans ?_
  rw [hz, setRef_setRef]
  have hmoved : ({ ref r y with disagrees := some k } : RefS).moved .suspect y.time.now =
      { ref r y with mon := .suspect, since := y.time.now, disagrees := some k } := by simp [RefS.moved]
  exact .rfl' _ |> fun h => hmoved ▸ h

theorem disagreeOne_suspected (hr : r < 6) (hk : keptOf r freqs est y ≠ r) (hm : (ref r y).mon = .selectable)
    (hd : disagreeLimit y < freqGap freqs r (keptOf r freqs est y)) :
    ReportEq (disagreeOne freqs est y r) (suspected r (keptOf r freqs est y) y) := by
  unfold disagreeOne
  extract_lets k diff lim report
  rw [if_neg hk, if_pos ⟨hm, hd⟩]
  refine (raise_eq ..).trans ((ReportEq.of_fire ?_ _).of_noteEvent _)
  exact setMon_suspect hr (by rw [hm]; decide)

theorem disagreeOne_cleared (hk : keptOf r freqs est y ≠ r) (hm : (ref r y).mon = .suspect)
    (hd : 2 * freqGap freqs r (keptOf r freqs est y) ≤ disagreeLimit y) :
    ReportEq (disagreeOne freqs est y r) (cleared r y) := by
  unfold disagreeOne
  extract_lets k diff lim report
  rw [if_neg hk, if_neg (fun h => absurd (hm.symm.trans h.1) (by decide)), if_pos ⟨hm, hd⟩]
  exact (raise_eq ..).trans ((setMon_selectable (by rw [hm]; decide)).of_noteEvent _)

theorem disagreeOne_idle (hk : keptOf r freqs est y ≠ r)
    (hsel : (ref r y).mon = .selectable → freqGap freqs r (keptOf r freqs est y) ≤ disagreeLimit y)
    (hsus : (ref r y).mon = .suspect → disagreeLimit y < 2 * freqGap freqs r (keptOf r freqs est y)) :
    disagreeOne freqs est y r = y := by
  unfold disagreeOne
  extract_lets k diff lim report
  rw [if_neg hk, if_neg fun h => Nat.not_lt.2 (hsel h.1) h.2, if_neg fun h => Nat.not_le.2 (hsus h.1) h.2]

theorem disagreeOne_cases (hr : r < 6) : disagreeOne freqs est y r = y ∨
    ((ref r y).mon = .selectable ∧ ReportEq (disagreeOne freqs est y r) (suspected r (keptOf r freqs est y) y)) ∨
    ((ref r y).mon = .suspect ∧ ReportEq (disagreeOne freqs est y r) (cleared r y)) := by
  by_cases hk : keptOf r freqs est y = r
  · exact .inl (disagreeOne_kept hk)
  by_cases hs : (ref r y).mon = .selectable ∧ disagreeLimit y < freqGap freqs r (keptOf r freqs est y)
  · exact .inr (.inl ⟨hs.1, disagreeOne_suspected hr hk hs.1 hs.2⟩)
  by_cases hc : (ref r y).mon = .suspect ∧ 2 * freqGap freqs r (keptOf r freqs est y) ≤ disagreeLimit y
  · exact .inr (.inr ⟨hc.1, disagreeOne_cleared hk hc.1 hc.2⟩)
  · exact .inl (disagreeOne_idle hk (fun h => Nat.not_lt.1 fun hd => hs ⟨h, hd⟩) fun h => Nat.not_le.1 fun hd => hc ⟨h, hd⟩)

end

/-! ### A whole window -/

/-- What one comparison may do to a reference's monitoring state. -/
def Compared (m m' : MonState) : Prop :=
  m' = m ∨ (m = .selectable ∧ m' = .suspect) ∨ (m = .suspect ∧ m' = .selectable)

section
variable {freqs : List Int} {est : Int} {r : Nat} {y : State}

theorem disagreeOne_time (hr : r < 6) :
    ∃ v, (disagreeOne freqs est y r).time = { y.time with refs := y.time.refs.set r v } ∧ Compared (ref r y).mon v.mon := by
  rcases disagreeOne_cases (freqs := freqs) (est := est) (y := y) hr with h | ⟨hm, h⟩ | ⟨hm, h⟩
  · refine ⟨ref r y, ?_, .inl rfl⟩
    rw [h]
    exact (congrArg State.time (setRef_ref hr y)).symm
  · exact ⟨{ ref r y with mon := .suspect, since := y.time.now, disagrees := some (keptOf r freqs est y) },
      h.time.trans (fired_time ..), .inr (.inl ⟨hm, rfl⟩)⟩
  · exact ⟨{ ref r y with mon := .selectable, since := y.time.now, been := true, disagrees := none },
      h.time, .inr (.inr ⟨hm, rfl⟩)⟩

/-- Comparisons of several references change their monitoring states at most once each, and nothing else of timing. -/
theorem disagree_foldl {l : List Nat} (hl : ∀ r ∈ l, r < 6) (hnd : l.Nodup) (x : State) :
    ∃ refs, (l.foldl (disagreeOne freqs est) x).time = { x.time with refs := refs } ∧
      ∀ k, (k ∉ l → refs.getD k RefS.unseen = ref k x) ∧ (k ∈ l → Compared (ref k x).mon (refs.getD k RefS.unseen).mon) := by
  induction l generalizing x with
  | nil => exact ⟨x.time.refs, rfl, fun k => ⟨fun _ => rfl, nofun⟩⟩
  | cons r l ih =>
    obtain ⟨hr, hnd⟩ := List.nodup_cons.1 hnd
    have hr6 := hl r List.mem_cons_self
    obtain ⟨v, hv, hcomp⟩ := disagreeOne_time (freqs := freqs) (est := est) (y := x) hr6
    obtain ⟨refs, hrefs, hk⟩ := ih (fun k hk => hl k (List.mem_cons_of_mem _ hk)) hnd (disagreeOne freqs est x r)
    have hsame : ref r (disagreeOne freqs est x r) = v := by
      rw [ref, hv]
      exact RegFile.getD_set_same _ _ _ _ hr6
    have hother : ∀ k, k ≠ r → ref k (disagreeOne freqs est x r) = ref k x := fun k hkr => by
      rw [ref, hv]
      exact RegFile.getD_set_of_ne _ _ _ hkr
    refine ⟨refs, by rw [List.foldl_cons, hrefs, hv], fun k => ⟨fun hno => ?_, fun hmem => ?_⟩⟩
    · obtain ⟨hkr, hkl⟩ := not_or.1 (mt List.mem_cons.2 hno)
      rw [(hk k).1 hkl, hother k hkr]
    · rcases List.mem_cons.1 hmem with rfl | hkl
      · rw [(hk k).1 hr, hsame]
        exact hcomp
      · have hkr : k ≠ r := fun e => hr (e ▸ hkl)
        rw [← hother k hkr]
        exact (hk k).2 hkl

end

/-- A window of R407 is over. -/
def windowOver (s : State) : Bool := decide (s.time.disagreeAt + nsT (par0 .timingDisagreeWindow s) ≤ s.time.now)

/-- What a window of R407 does at its end. -/
def disagree (freqs : List Int) (est : Int) (s : State) : State :=
  (List.range 6).foldl (disagreeOne freqs est) { s with time := { s.time with disagreeAt := s.time.now, estimate := est } }

theorem exec_disagreeWindow (t : Nat) (freqs : List Int) (est : Int) (s : State) :
    exec (.disagreeWindow t freqs est) s = act t (onlyIf windowOver (disagree freqs est)) s := rfl

theorem disagree_touches (freqs : List Int) (est : Int) (s : State) :
    Touches [.refs, .sticky, .episodes] s (disagree freqs est s) := by
  have h : Touches [.refs, .sticky, .episodes] s { s with time := { s.time with disagreeAt := s.time.now, estimate := est } } :=
    of_fields rfl
  exact h.next (foldl (fun x r => disagreeOne_touches x freqs est r) (List.range 6) _)

theorem disagree_time (freqs : List Int) (est : Int) (s : State) : ∃ refs,
    (disagree freqs est s).time = { s.time with disagreeAt := s.time.now, estimate := est, refs := refs } ∧
      ∀ k < 6, Compared (ref k s).mon (refs.getD k RefS.unseen).mon := by
  obtain ⟨refs, hrefs, hk⟩ := disagree_foldl (freqs := freqs) (est := est) (l := List.range 6)
    (fun _ => List.mem_range.1) List.nodup_range { s with time := { s.time with disagreeAt := s.time.now, estimate := est } }
  exact ⟨refs, hrefs, fun k h => (hk k).2 (List.mem_range.2 h)⟩

theorem leads_disagreeWindow {t : Nat} {freqs : List Int} {est : Int} {s x : State} (hx : advance t s = x)
    (h : windowOver x = true) : Leads (.disagreeWindow t freqs est) s fun z =>
      z.time.disagreeAt = x.time.now ∧ z.time.estimate = est ∧
      z.time.selected = x.time.selected ∧ z.time.dpll = x.time.dpll ∧ z.time.tide = x.time.tide ∧
      z.mem = x.mem ∧ z.force = x.force ∧ z.power = x.power ∧
      ∀ k < 6, Compared (ref k x).mon (ref k z).mon := by
  have hstep : exec (.disagreeWindow t freqs est) s = .next (settle (disagree freqs est x)) := by
    rw [exec_disagreeWindow, act, hx, onlyIf, if_pos h]
  obtain ⟨refs, htime, hk⟩ := disagree_time freqs est x
  have hsettled := (settle_eq (disagree freqs est x)).time.trans htime
  have htouch := (disagree_touches freqs est x).report (Touches.settle _)
  refine ⟨_, hstep, ?_, ?_, ?_, ?_, ?_, htouch.mem rfl, htouch.force rfl, htouch.power rfl, fun k hk6 => ?_⟩
  case refine_6 =>
    rw [ref, ref, hsettled]
    exact hk k hk6
  all_goals rw [hsettled]

/-! ### An evaluation, row by row -/

section
variable {t : Nat} {s y : State}

theorem leads_evaluation_lost {i : Instr} (hx : exec i s = .next (settle (maybeSlew (evaluated y)))) {c t0 : Nat}
    (hc : y.time.candidate = some (c, t0)) (ht : selectionTarget y = none) : Leads i s fun z => z.time.candidate = none ∧
      ctrGet .switchAbandoned 0 z = min ctrMax (ctrGet .switchAbandoned 0 y + 1) := by
  obtain ⟨-, hcand, habandoned, -⟩ := abandonSwitch_of_candidate (r := 0) hc none 3
  rw [evaluated_lost hc ht, maybeSlew_eq_withTime] at hx
  refine ⟨_, hx, (congrArg TimeS.candidate (settle_eq _).time).trans ?_, ((settle_eq _).ctr _ _ rfl).trans habandoned⟩
  rw [← hcand]
  generalize abandonSwitch none 3 y = w
  change (slewedTime w).candidate = w.time.candidate
  unfold slewedTime
  split
  · split <;> rfl
  · split
    · split <;> rfl
    · rfl

theorem leads_evaluation_held {i : Instr} (hx : exec i s = .next (settle (maybeSlew (evaluated y))))
    (hc : y.time.candidate = none) (ht : selectionTarget y = none) (hsel : y.time.selected ≠ none) (hf : Follows y) :
    Leads i s fun z => z.time = { (takeEstimate y).time with
      dpll := .holdover, selected := none, holdoverAt := y.time.now, lockedSince := none, debt := debtNow y, slew := none } ∧
      z.force = y.force := by
  have hheld : ReportEq (maybeSlew (evaluated y)) (heldOver y) := by
    rw [evaluated_none hc ht, if_pos (Option.isSome_iff_ne_none.2 hsel)]
    exact (enterHoldover_eq hf).of_maybeSlew.trans (by rw [maybeSlew_of_busy rfl (.inl rfl)]; exact .rfl' _)
  have hs := (settle_eq _).trans hheld
  exact ⟨_, hx, (hs.time.trans rfl :), (hs.force.trans rfl :)⟩

end

theorem refreshRefs_now (s : State) : (refreshRefs s).time.now = s.time.now := by
  have h : Part.same .clock s (refreshRefs s) := (refreshRefs_touches s).same .clock rfl
  generalize refreshRefs s = y at h
  exact congrArg Prod.fst h

/-! ### An evaluation without a switch, and with one -/

section
variable {i : Instr} {s y : State} (hstep : exec i s = .next (settle (maybeSlew (evaluated y))))
include hstep

theorem evaluation_switching {c t0 : Nat} (hc : y.time.candidate = some (c, t0)) :
    (selectionTarget y = some c → Does i s (maybeSlew y)) ∧
    (∀ g, selectionTarget y = some g → g ≠ c →
      (y.time.selected ≠ some g → Does i s (abandonedFor g y)) ∧
      (y.time.selected = some g → Does i s (maybeSlew (abandoned y)))) := by
  refine ⟨fun ht => settled_does hstep (by rw [evaluated_kept hc ht]; exact .rfl' _), fun g ht hne => ?_⟩
  have hu := (selectionTarget_spec ht).2.1
  rw [evaluated_other hc ht hne] at hstep
  refine ⟨fun hsel => ?_, fun hsel => settled_does hstep (turnTo_selected hc hu hsel 0).of_maybeSlew⟩
  refine settled_does hstep ((turnTo_other hc hu hsel 0).of_maybeSlew.trans ?_)
  rw [maybeSlew_of_busy rfl (.inr (Option.some_ne_none _))]
  exact .rfl' _

theorem evaluation_without_target (hc : y.time.candidate = none) (ht : selectionTarget y = none) :
    (y.time.selected = none → Does i s (maybeSlew y)) ∧
    (¬ Follows y → Does i s (maybeSlew y)) := by
  refine ⟨fun hsel => settled_does hstep (by rw [evaluated_none hc ht, hsel]; exact .rfl' _), fun hf => settled_does hstep ?_⟩
  rw [evaluated_none hc ht, enterHoldover_of_not_follows hf, ite_self]
  exact .rfl' _

theorem evaluation_with_target {g : Nat} (hc : y.time.candidate = none) (ht : selectionTarget y = some g) :
    (y.time.selected ≠ some g → mayBegin y = true → Does i s (switchingTo g y.time.dpll y)) ∧
    (y.time.selected ≠ some g → mayBegin y = false → Does i s (maybeSlew y)) ∧
    (y.time.selected = some g → Does i s (maybeSlew y)) := by
  rw [evaluated_target hc ht] at hstep
  refine ⟨fun hsel hmay => settled_does hstep ?_, fun hsel hmay => settled_does hstep ?_, fun hsel => settled_does hstep ?_⟩
  · rw [if_neg hsel, if_pos hmay, beginSwitch_eq, maybeSlew_switchingTo]
    exact .rfl' _
  · rw [if_neg hsel, hmay, if_neg Bool.false_ne_true]
    exact .rfl' _
  · rw [if_pos hsel]
    exact .rfl' _

end

theorem takeEstimate_tide (y : State) : (takeEstimate y).time.tide = y.time.tide := rfl

theorem evaluation_step (t : Nat) (s : State) : ∃ x y, advance t s = x ∧ refreshRefs x = y ∧
    exec (.selectionEvaluation t) s = .next (settle (maybeSlew (evaluated y))) ∧ y.time.now = x.time.now ∧
    y.force = x.force := by
  refine ⟨_, _, rfl, rfl, ?_, refreshRefs_now _, (refreshRefs_touches _).force rfl⟩
  rw [exec_selectionEvaluation, act, evaluate_eq]

/-- Settles O47: the target is a least candidate (`selectionTarget_spec`), an evaluation turns to it (`evaluated`), and a
window compares every reference once (`disagree_time`). -/
theorem selectionFollowsQualityAndPriority : Obligations.SelectionFollowsQualityAndPriority := by
  refine And.intro (fun x g h => selectionTarget_spec h) (And.intro (fun x => selectionTarget_eq_none_iff)
    (And.intro ?_ (And.intro ?_ (And.intro ?_ ?_))))
  · intro t s
    obtain ⟨x, y, hx, hy, hstep, hnow, hforce⟩ := evaluation_step t s
    rw [hx]
    dsimp only
    rw [hy]
    refine ⟨fun c t0 hc => ⟨leads_evaluation_lost hstep hc, evaluation_switching hstep hc⟩, fun hc =>
      ⟨fun ht hsel => (evaluation_without_target hstep hc ht).1 hsel, fun ht hsel => ⟨fun hf => ?_, fun hf =>
      (evaluation_without_target hstep hc ht).2 fun h => (follows_iff y).1 h hf⟩, fun g ht hsel => ⟨fun hmay =>
      (evaluation_with_target hstep hc ht).1 hsel (mayBegin_of hmay), fun c d hs hu hn hl hd =>
      (evaluation_with_target hstep hc ht).2.1 hsel (mayBegin_held hs hu hn hl hd)⟩,
      fun g ht hsel => (evaluation_with_target hstep hc ht).2.2 hsel⟩⟩
    obtain ⟨z, hz, htime, hzf⟩ := leads_evaluation_held hstep hc ht hsel hf
    refine ⟨z, hz, ?_⟩
    dsimp only
    rw [htime, hnow, hzf]
    exact ⟨rfl, rfl, rfl, takeEstimate_tide y, rfl, hforce⟩
  · exact fun y => ⟨fun h => maybeSlew_command h, fun h => ⟨fun g hg hcap hd hs hc => maybeSlew_begins h hg hcap hd hs hc,
      fun hno => maybeSlew_idle h hno⟩⟩
  · exact fun freqs est r y hr => ⟨fun c hs hc hu he => keptOf_selected hs hc hu he, disagreeOne_kept,
      disagreeOne_suspected hr, disagreeOne_cleared, disagreeOne_idle⟩
  · intro t freqs est s
    have hexec := exec_disagreeWindow t freqs est s
    have hidle := does_onlyIf_of_not hexec
    refine ⟨fun h => hidle (decide_eq_false (Nat.not_le.2 h)), fun h => ?_, fun h => leads_disagreeWindow rfl (decide_eq_true h)⟩
    have hover : windowOver (advance t s) = true := decide_eq_true h
    rw [hexec, act, onlyIf, if_pos hover, disagree]

end Sys2Proof.Machine
end

section
/-! Steps of tide time and of the DPLL (R361, R408 to R418). -/

namespace Sys2Proof.Machine

open Touches (refl ite of_fields foldl)

/-! ### An output at a step of tide time (R393) -/

/-- An output that skips several edges. -/
def Out.skipsMany (k first : Nat) (o : Out) : Out :=
  if k = 0 then o
  else { o with skipped := o.skipped + k, firstSkipped := if o.skipped = 0 then first else o.firstSkipped }

/-- An output without its program, where that has ended. -/
def Out.endsOver (o : Out) : Out := if o.ends then { o with prog := none } else o

/-- An output whose program moves past the edges that a step of tide time passes. -/
def steppedOut (old new n : Nat) (s : State) : Out :=
  let o := out n s
  match o.prog with
  | none => o
  | some p =>
    if new ≤ old then o
    else if o.mode = .mark then
      let p0 := p.settle s
      let r := marksPassed p0 new s
      ({ o with prog := some r.2 } : Out).skipsMany r.1 ((edgeTide .mark p0 p0.next s).getD 0)
    else
      let last := if p.count ≠ 0 then min (edgeFrom p new) (p.first + p.count) else edgeFrom p new
      let k := last - p.next
      if k = 0 then o
      else (({ o with prog := some { p with next := last } } : Out).skipsMany k
        ((edgeTide o.mode p p.next s).getD 0)).endsOver

/-- A gate whose marks a step of tide time passes. -/
def Out.gated (tide : Nat) (o : Out) : Out :=
  let up := o.gate.assertAt.filter fun x => decide (x ≤ tide)
  let down := o.gate.deassertAt.filter fun x => decide (x ≤ tide)
  if o.mode ≠ .gate ∨ (up.isEmpty ∧ down.isEmpty) then o
  else
    let on := decide (down.foldl max 0 < up.foldl max 0) || down.isEmpty
    { o with
      gate := { o.gate with
        asserted := on
        assertAt := o.gate.assertAt.filter fun x => decide (tide < x)
        deassertAt := o.gate.deassertAt.filter fun x => decide (tide < x) }
      pin := some (if on then !o.lowPol else o.lowPol) }

section
variable {n : Nat} (hn : n < 9) {s : State}

theorem restZ_setOut (o : Out) (s : State) : restZ (setOut n o s) = setOut n o (restZ s) := rfl

include hn

theorem restZ_out (s : State) : setOut n (out n s) (restZ s) = restZ s := by
  have h : out n s = out n (restZ s) := rfl
  rw [h, setOut_out hn]

theorem restZ_skipEdges (k first : Nat) (s : State) :
    restZ (skipEdges n k first s) = setOut n ((out n s).skipsMany k first) (restZ s) := by
  unfold skipEdges Out.skipsMany
  split
  · exact (restZ_out hn s).symm
  · rfl

theorem restZ_endIfOver (s : State) : restZ (endIfOver n s) = setOut n (out n s).endsOver (restZ s) := by
  rw [(endIfOver_eq (.rfl' s) n).restZ, ended, Out.endsOver]
  split
  · rfl
  · exact (restZ_out hn s).symm

theorem out_skipEdges (k first : Nat) (s : State) : out n (skipEdges n k first s) = (out n s).skipsMany k first :=
  (congrArg (out n) (restZ_skipEdges hn k first s) :).trans (out_setOut_same _ _ _ hn)

theorem restZ_stepOut (old new : Nat) (s : State) :
    restZ (stepOut old new n s) = setOut n (steppedOut old new n s) (restZ s) := by
  unfold stepOut steppedOut
  extract_lets o
  cases o.prog with
  | none => exact (restZ_out hn s).symm
  | some p =>
    dsimp only
    by_cases hold : new ≤ old
    · rw [if_pos hold, if_pos hold]
      exact (restZ_out hn s).symm
    · rw [if_neg hold, if_neg hold]
      by_cases hmark : o.mode = .mark
      · rw [if_pos hmark, if_pos hmark, restZ_skipEdges hn, restZ_setOut, out_setOut_same _ _ _ hn, setOut_setOut]
      · rw [if_neg hmark, if_neg hmark]
        generalize (if p.count ≠ 0 then min (edgeFrom p new) (p.first + p.count) else edgeFrom p new) = last
        split
        · exact (restZ_out hn s).symm
        · rw [restZ_endIfOver hn, out_skipEdges hn, restZ_skipEdges hn, restZ_setOut, out_setOut_same _ _ _ hn,
            setOut_setOut, setOut_setOut]

theorem restZ_stepGate (s : State) : restZ (stepGate n s) = setOut n ((out n s).gated s.time.tide) (restZ s) := by
  unfold stepGate Out.gated
  extract_lets o tide up down on
  split
  · exact (restZ_out hn s).symm
  · rw [(drive_eq hn ..).restZ, restZ_setOut, restZ_count, restZ_setOut, out_count, out_setOut_same _ _ _ hn, setOut_setOut]

end

/-! ### What a step of tide time does (R361, R393) -/

/-- One output at a step of tide time. -/
def stepOne (old new : Nat) (s : State) (n : Nat) : State := stepGate n (stepOut old new n s)

/-- The same, but for reports. -/
def outStepped (old new : Nat) (s : State) (n : Nat) : State :=
  setOut n ((steppedOut old new n s).gated s.time.tide) s

/-- Tide time, time-stamps and offsets of references at a step of tide time. -/
def tideSet (new : Nat) (s : State) : State := { s with time := { s.time with
  tide := new
  txts := s.time.txts.map fun (k, q) =>
    (k, { q with entries := q.entries.map fun e => { e with stepped := true } })
  refs := s.time.refs.map (RefS.shift ((new : Int) - s.time.tide)) } }

/-- Every output at a step of tide time. -/
def outsStepped (old new : Nat) (s : State) : State := (List.range 9).foldl (stepOne old new) s

theorem restZ_raise (e : Ev) (fields : List Nat) (s : State) : restZ (raise e fields s) = restZ s := (raise_eq e fields s).restZ

theorem stepTide_eq (new : Nat) (s : State) : stepTide new s =
    raise .timeStep [wrapTo 128 ((new : Int) - s.time.tide), tide96 s.time.tide, tide96 new]
      (outsStepped s.time.tide new (tideSet new s)) := rfl

section
variable {old new : Nat} {s x y : State}

theorem restZ_stepOne {n : Nat} (hn : n < 9) (s : State) : restZ (stepOne old new s n) = outStepped old new (restZ s) n := by
  have hout := restZ_stepOut hn old new s
  have htide : (stepOut old new n s).time.tide = s.time.tide := (congrArg (·.time.tide) hout :)
  have hown : out n (stepOut old new n s) = steppedOut old new n s :=
    (congrArg (out n) hout :).trans (out_setOut_same _ _ _ hn)
  rw [stepOne, restZ_stepGate hn, hout, hown, htide, setOut_setOut]
  rfl

theorem restZ_foldl_stepOne {l : List Nat} (hl : ∀ n ∈ l, n < 9) (s : State) :
    restZ (l.foldl (stepOne old new) s) = l.foldl (outStepped old new) (restZ s) := by
  induction l generalizing s with
  | nil => rfl
  | cons n l ih =>
    rw [List.foldl_cons, List.foldl_cons, ih fun k hk => hl k (List.mem_cons_of_mem _ hk),
      restZ_stepOne (hl n List.mem_cons_self)]

theorem restZ_outsStepped (s : State) :
    restZ (outsStepped old new s) = (List.range 9).foldl (outStepped old new) (restZ s) :=
  restZ_foldl_stepOne (fun _ => List.mem_range.1) s

/-- A state but for what its outputs hold. -/
def besideOuts (s : State) : State := { s with time := { s.time with outs := resetTime.outs } }

theorem besideOuts_outStepped (s : State) (n : Nat) : besideOuts (outStepped old new s n) = besideOuts s := rfl

theorem besideOuts_outsStepped (s : State) : besideOuts (restZ (outsStepped old new s)) = besideOuts (restZ s) := by
  exact (congrArg besideOuts (restZ_outsStepped s)).trans
    (foldl_keeps (π := besideOuts) (f := outStepped old new) besideOuts_outStepped _ _)

theorem besideOuts_stepTide (new : Nat) (s : State) :
    besideOuts (restZ (stepTide new s)) = besideOuts (restZ (tideSet new s)) := by
  rw [stepTide_eq, restZ_raise]
  exact besideOuts_outsStepped _

/-- A step of tide time does not look at reports. -/
theorem restZ_stepTide_congr (h : restZ x = restZ y) (new : Nat) : restZ (stepTide new x) = restZ (stepTide new y) := by
  have htide : x.time.tide = y.time.tide := (congrArg (·.time.tide) h :)
  have hset : restZ (tideSet new x) = restZ (tideSet new y) := (congrArg (tideSet new) h :)
  have hstep (z : State) : restZ (stepTide new z) =
      (List.range 9).foldl (outStepped z.time.tide new) (restZ (tideSet new z)) :=
    ((congrArg restZ (stepTide_eq new z)).trans (restZ_raise ..)).trans (restZ_outsStepped _)
  rw [hstep x, hstep y, hset, htide]

theorem out_restZ (k : Nat) (s : State) : out k (restZ s) = out k s := rfl

theorem outStepped_idle {k : Nat} (hprog : (out k s).prog = none) (hmode : (out k s).mode ≠ .gate) (n : Nat) :
    out k (outStepped old new s n) = out k s := by
  by_cases h : k = n
  · subst h
    have hstepped : steppedOut old new k s = out k s := by
      unfold steppedOut
      extract_lets o
      rw [show o.prog = none from hprog]
    have hgated : (out k s).gated s.time.tide = out k s := if_pos (.inl hmode)
    rw [outStepped, hstepped, hgated]
    by_cases hk : k < 9
    · rw [setOut_out hk]
    · rw [out, out, setOut, RegFile.getD_set]
      simp [hk]
  · exact out_setOut_of_ne _ _ h

theorem foldl_outStepped_idle {k : Nat} (l : List Nat) (hprog : (out k s).prog = none) (hmode : (out k s).mode ≠ .gate) :
    out k (l.foldl (outStepped old new) s) = out k s := by
  induction l generalizing s with
  | nil => rfl
  | cons n l ih =>
    have h := outStepped_idle (old := old) (new := new) hprog hmode n
    rw [List.foldl_cons, ih (by rw [h]; exact hprog) (by rw [h]; exact hmode), h]

theorem out_stepTide_idle {k : Nat} (hprog : (out k s).prog = none) (hmode : (out k s).mode ≠ .gate) :
    out k (stepTide new s) = out k s := by
  have h := foldl_outStepped_idle (old := s.time.tide) (new := new) (s := restZ (tideSet new s)) (List.range 9) hprog hmode
  rw [out_restZ, ← restZ_outsStepped, out_restZ] at h
  rw [stepTide_eq, out_of_restZ (restZ_raise ..)]
  exact h

end

section
variable {x y : State} (h : besideOuts (restZ x) = besideOuts (restZ y))
include h

theorem mem_of_besideOuts : x.mem = y.mem := (congrArg State.mem h :)
theorem force_of_besideOuts : x.force = y.force := (congrArg State.force h :)
theorem power_of_besideOuts : x.power = y.power := (congrArg State.power h :)

theorem time_of_besideOuts : x.time = { y.time with outs := x.time.outs } := by
  have ht : ({ x.time with outs := resetTime.outs } : TimeS) = { y.time with outs := resetTime.outs } :=
    (congrArg State.time h :)
  have hback (t : TimeS) : t = { ({ t with outs := resetTime.outs } : TimeS) with outs := t.outs } := rfl
  rw [hback x.time, ht]

end

section
variable {new : Nat} {s : State}

/-- What a step of tide time leaves of timing. -/
theorem time_stepTide (new : Nat) (s : State) :
    (stepTide new s).time = { (tideSet new s).time with outs := (stepTide new s).time.outs } :=
  time_of_besideOuts (besideOuts_stepTide new s)

theorem mem_stepTide : (stepTide new s).mem = s.mem := (mem_of_besideOuts (besideOuts_stepTide new s)).trans rfl

theorem force_stepTide : (stepTide new s).force = s.force := (force_of_besideOuts (besideOuts_stepTide new s)).trans rfl

theorem power_stepTide : (stepTide new s).power = s.power := (power_of_besideOuts (besideOuts_stepTide new s)).trans rfl

section
variable {β : Type} {π : State → β} (hset : ∀ n o x, π (setOut n o x) = π x) (hemit : ∀ e x, π (emit e x) = π x)
  (hcount : ∀ c i k x, c = .pulseSkipped ∨ c = .gateLate → π (count c i k x) = π x)
  (hraise : ∀ l x, π (raise .tideOutDone l x) = π x)
include hset hemit hcount hraise

/-- What an output does at a step of tide time changes its own state, sends pin levels, counts skipped edges and late
gates and raises EV_TIDE_OUT_DONE, and nothing else. -/
theorem stepOne_keeps (old new : Nat) (s : State) (n : Nat) : π (stepOne old new s n) = π s := by
  have hdrive : ∀ (level : Bool) (at_ : Nat) (x : State), π (drive n level at_ x) = π x := by
    intro level at_ x
    unfold drive
    extract_lets o
    split
    · rfl
    · exact (hemit ..).trans (hset ..)
  have hskip : ∀ (k first : Nat) (x : State), π (skipEdges n k first x) = π x := by
    intro k first x
    unfold skipEdges
    split
    · rfl
    · exact (hcount _ _ _ _ (.inl rfl)).trans (hset ..)
  have hend : ∀ x : State, π (endIfOver n x) = π x := by
    intro x
    unfold endIfOver
    extract_lets o
    cases o.prog with
    | none => rfl
    | some p =>
      dsimp only
      split
      · exact (hraise ..).trans (hset ..)
      · rfl
  have hout : π (stepOut old new n s) = π s := by
    unfold stepOut
    extract_lets o
    cases o.prog with
    | none => rfl
    | some p =>
      dsimp only
      split
      · rfl
      · split
        · exact (hskip ..).trans (hset ..)
        · generalize (if p.count ≠ 0 then min (edgeFrom p new) (p.first + p.count) else edgeFrom p new) = last
          split
          · rfl
          · exact (hend _).trans ((hskip ..).trans (hset ..))
  rw [stepOne, ← hout]
  unfold stepGate
  extract_lets o tide up down on
  split
  · rfl
  · exact (hdrive ..).trans ((hcount _ _ _ _ (.inr rfl)).trans (hset ..))

end

theorem ctrGet_raise {c : Ctr} (hr : c.reporting = false) (i : Nat) (e : Ev) (fields : List Nat) (s : State) :
    ctrGet c i (raise e fields s) = ctrGet c i s := (raise_eq e fields s).ctr c i hr

theorem eventCount_stepOne {d : Ev} (hd : d ≠ .tideOutDone) (old new : Nat) (s : State) (n : Nat) :
    eventCount d (stepOne old new s n) = eventCount d s :=
  stepOne_keeps (π := eventCount d) (fun _ _ _ => rfl) (fun _ _ => rfl) (fun _ _ _ _ _ => rfl)
    (fun _ _ => by rw [eventCount_raise, eventCount_noteEvent, if_neg hd]) old new s n

theorem ctrGet_stepOne {c : Ctr} (hr : c.reporting = false) (hp : c ≠ .pulseSkipped) (hg : c ≠ .gateLate) (i : Nat)
    (old new : Nat) (s : State) (n : Nat) : ctrGet c i (stepOne old new s n) = ctrGet c i s :=
  stepOne_keeps (π := ctrGet c i) (fun _ _ _ => rfl) (fun _ _ => rfl)
    (fun _ _ _ _ hd => ctrGet_count_of_ne (fun e => hd.elim (fun h => hp (e.trans h)) fun h => hg (e.trans h)) ..)
    (fun _ _ => ctrGet_raise hr ..) old new s n

theorem eventCount_stepTide (d : Ev) (hd : d ≠ .tideOutDone) (new : Nat) (s : State) : eventCount d (stepTide new s) =
    if d = .timeStep then min ctrMax (eventCount .timeStep s + 1) else eventCount d s := by
  have hkeep : ∀ e, e ≠ .tideOutDone → ∀ old x, eventCount e (outsStepped old new x) = eventCount e x := fun e he old x =>
    foldl_keeps (π := eventCount e) (f := stepOne old new) (eventCount_stepOne he old new) _ _
  rw [stepTide_eq, eventCount_raise, eventCount_noteEvent, hkeep _ (by decide), hkeep _ hd]
  rfl

theorem ctrGet_stepTide {c : Ctr} (hr : c.reporting = false) (hp : c ≠ .pulseSkipped) (hg : c ≠ .gateLate) (i new : Nat)
    (s : State) : ctrGet c i (stepTide new s) = ctrGet c i s := by
  have hkeep : ∀ old x, ctrGet c i (outsStepped old new x) = ctrGet c i x := fun old x =>
    foldl_keeps (π := ctrGet c i) (f := stepOne old new) (ctrGet_stepOne hr hp hg i old new) _ _
  rw [stepTide_eq, ctrGet_raise hr, hkeep]
  rfl

/-- A queue whose entries are STEPPED. -/
def TxQueue.stepped (q : TxQueue) : TxQueue := { q with entries := q.entries.map fun e => { e with stepped := true } }

theorem sGet_stepped (l : Sparse TxQueue) (port : Nat) :
    sGet (fun _ => ⟨[], false, 0⟩) (l.map fun (k, q) => (k, q.stepped)) port =
      (sGet (fun _ => ⟨[], false, 0⟩) l port).stepped := by
  induction l with
  | nil => rfl
  | cons a l ih =>
    obtain ⟨k, q⟩ := a
    rw [List.map_cons, sGet, sGet, ih]
    split <;> rfl

theorem txQueue_stepTide (port : Nat) : (txQueue port (stepTide new s)).entries =
    (txQueue port s).entries.map fun e => { e with stepped := true } := by
  rw [txQueue, time_stepTide]
  exact congrArg TxQueue.entries (sGet_stepped s.time.txts port)

end

end Sys2Proof.Machine
end

section
/-! Commits of switches, holdover, realignment and the commands that step tide time (R408 to R418). -/

namespace Sys2Proof.Machine

/-! ### The commit of a switch (R408, R409, R415) -/

/-- The timing state that a switch to `c` commits, before a step of tide time. -/
def committed (c : Nat) (offset : Int) (stepping : Bool) (s : State) : State := { s with time := { s.time with
  selected := some c, candidate := none, lastCommit := some s.time.now
  noHold := decide (s.time.wanted.isSome ∧ s.time.wanted ≠ some c)
  wanted := if s.time.wanted = some c then none else s.time.wanted
  dpll := .acquiring, acquireAt := s.time.now, slew := none
  debt := if stepping then 0 else if timeCapable c then offset else debtNow s
  origin := if stepping then 2 else s.time.origin
  lastQl := if timeCapable c then refQl c s else s.time.lastQl } }

/-- The step of tide time of a switch (R415). -/
def commitStepped (c : Nat) (offset : Int) (stepping : Bool) (s : State) : State :=
  if stepping then stepTide (tideShift s.time.tide (-offset)) (committed c offset stepping s)
  else committed c offset stepping s

/-- The new offset of the reference, and the count of the switch. -/
def commitCounted (c : Nat) (offset : Int) (stepping : Bool) (s1 : State) : State :=
  count .refSwitches 0 1 (if timeCapable c then
    setRef c ((ref c s1).measured (if stepping then 0 else offset)) s1 else s1)

/-- The report of a switch. -/
def switchReported (old : Option Nat) (c : Nat) (s2 : State) : State :=
  raise .refSwitch [old.getD 7, c, wrapTo 64 s2.time.debt, tide96 s2.time.tide] s2

/-- The report of the end of HOLDOVER. -/
def holdoverReported (s3 : State) : State :=
  raise .holdover [2, tide96 s3.time.tide, if s3.time.estimateShort then 1 else 0] s3

/-- The reports of a switch. -/
def commitReported (old : Option Nat) (c : Nat) (wasHold : Bool) (s2 : State) : State :=
  if wasHold then holdoverReported (switchReported old c s2) else switchReported old c s2

/-- A switch to `c` steps tide time. -/
def commitSteps (c : Nat) (s : State) : Bool := decide (s.time.origin < 2) && timeCapable c

theorem commitSwitch_eq (c : Nat) (offset : Int) (s : State) : commitSwitch c offset s =
    maybeSlew (commitReported s.time.selected c (decide (s.time.prior = .holdover ∨ s.time.prior = .expired))
      (commitCounted c offset (commitSteps c s) (commitStepped c offset (commitSteps c s) s))) := rfl

section
variable {c : Nat} {offset : Int} {stepping : Bool} {old : Option Nat} {wasHold : Bool} {s : State}

theorem slewedTime_of_acquiring (hs : s.time.slew = none) (hd : s.time.dpll = .acquiring) :
    ∃ slew at_, slewedTime s = { s.time with slew := slew, acquireAt := at_ } := by
  unfold slewedTime
  rw [hs, ← hd]
  split
  · exact ⟨s.time.slew, s.time.acquireAt, rfl⟩
  · split
    · split
      · exact ⟨some s.time.now, s.time.now, rfl⟩
      · exact ⟨s.time.slew, s.time.acquireAt, rfl⟩
    · exact ⟨s.time.slew, s.time.acquireAt, rfl⟩

theorem restZ_switchReported : restZ (switchReported old c s) = restZ s := restZ_raise ..

theorem restZ_holdoverReported : restZ (holdoverReported s) = restZ s := restZ_raise ..

theorem commitReported_restZ : restZ (commitReported old c wasHold s) = restZ s := by
  unfold commitReported
  split
  · rw [restZ_holdoverReported, restZ_switchReported]
  · exact restZ_switchReported

theorem eventCount_switchReported (d : Ev) : eventCount d (switchReported old c s) =
    if d = .refSwitch then min ctrMax (eventCount .refSwitch s + 1) else eventCount d s := by
  rw [switchReported, eventCount_raise, eventCount_noteEvent]

theorem eventCount_holdoverReported {d : Ev} (hd : d ≠ .holdover) : eventCount d (holdoverReported s) = eventCount d s := by
  rw [holdoverReported, eventCount_raise, eventCount_noteEvent, if_neg hd]

theorem eventCount_commitReported (d : Ev) (hd : d ≠ .holdover) : eventCount d (commitReported old c wasHold s) =
    if d = .refSwitch then min ctrMax (eventCount .refSwitch s + 1) else eventCount d s := by
  unfold commitReported
  split
  · rw [eventCount_holdoverReported hd, eventCount_switchReported]
  · exact eventCount_switchReported d

theorem ctrGet_commitReported {d : Ctr} (hd : d.reporting = false) (i : Nat) :
    ctrGet d i (commitReported old c wasHold s) = ctrGet d i s := by
  unfold commitReported
  split
  · rw [holdoverReported, ctrGet_raise hd, switchReported, ctrGet_raise hd]
  · rw [switchReported, ctrGet_raise hd]

theorem commitCounted_eq : ∃ refs, restZ (commitCounted c offset stepping s) =
    restZ { s with time := { s.time with refs := refs } } := by
  unfold commitCounted
  split
  · exact ⟨_, rfl⟩
  · exact ⟨s.time.refs, rfl⟩

theorem eventCount_commitCounted (d : Ev) : eventCount d (commitCounted c offset stepping s) = eventCount d s := by
  unfold commitCounted
  split <;> rfl

theorem ctrGet_commitCounted : ctrGet .refSwitches 0 (commitCounted c offset stepping s) =
    min ctrMax (ctrGet .refSwitches 0 s + 1) := by
  unfold commitCounted
  split <;> exact ctrGet_count_same ..

end

section
variable {c : Nat} {offset : Int} {s : State}

/-- The timing state after a switch. -/
theorem commitSwitch_time : ∃ refs slew at_, (commitSwitch c offset s).time =
    { (commitStepped c offset (commitSteps c s) s).time with refs := refs, slew := slew, acquireAt := at_ } := by
  rw [commitSwitch_eq, maybeSlew_eq_withTime]
  have hnone : (commitStepped c offset (commitSteps c s) s).time.slew = none ∧
      (commitStepped c offset (commitSteps c s) s).time.dpll = .acquiring := by
    unfold commitStepped
    split
    · rw [time_stepTide]
      exact ⟨rfl, rfl⟩
    · exact ⟨rfl, rfl⟩
  generalize commitStepped c offset (commitSteps c s) s = s1 at hnone
  obtain ⟨refs, hrefs⟩ := commitCounted_eq (c := c) (offset := offset) (stepping := commitSteps c s) (s := s1)
  generalize commitCounted c offset (commitSteps c s) s1 = s2 at hrefs
  have hz : restZ (commitReported s.time.selected c (decide (s.time.prior = .holdover ∨ s.time.prior = .expired)) s2) =
      restZ { s1 with time := { s1.time with refs := refs } } := commitReported_restZ.trans hrefs
  generalize commitReported s.time.selected c (decide (s.time.prior = .holdover ∨ s.time.prior = .expired)) s2 = s4 at hz
  have htime : s4.time = { s1.time with refs := refs } := (congrArg State.time hz :)
  obtain ⟨slew, at_, hslewed⟩ := slewedTime_of_acquiring (s := s4) (by rw [htime]; exact hnone.1) (by rw [htime]; exact hnone.2)
  exact ⟨refs, slew, at_, by rw [hslewed, htime]⟩

theorem commitSwitch_keeps : (commitSwitch c offset s).mem = s.mem ∧ (commitSwitch c offset s).force = s.force ∧
    (commitSwitch c offset s).power = s.power := by
  rw [commitSwitch_eq, maybeSlew_eq_withTime]
  have hkept : (commitStepped c offset (commitSteps c s) s).mem = s.mem ∧
      (commitStepped c offset (commitSteps c s) s).force = s.force ∧
      (commitStepped c offset (commitSteps c s) s).power = s.power := by
    unfold commitStepped
    split
    · exact ⟨mem_stepTide, force_stepTide, power_stepTide⟩
    · exact ⟨rfl, rfl, rfl⟩
  generalize commitStepped c offset (commitSteps c s) s = s1 at hkept
  obtain ⟨refs, hrefs⟩ := commitCounted_eq (c := c) (offset := offset) (stepping := commitSteps c s) (s := s1)
  generalize commitCounted c offset (commitSteps c s) s1 = s2 at hrefs
  have hz : restZ (commitReported s.time.selected c (decide (s.time.prior = .holdover ∨ s.time.prior = .expired)) s2) =
      restZ { s1 with time := { s1.time with refs := refs } } := commitReported_restZ.trans hrefs
  generalize commitReported s.time.selected c (decide (s.time.prior = .holdover ∨ s.time.prior = .expired)) s2 = s4 at hz
  exact ⟨(congrArg State.mem hz :).trans hkept.1, (congrArg State.force hz :).trans hkept.2.1,
    (congrArg State.power hz :).trans hkept.2.2⟩

theorem commitSwitch_counts : ctrGet .refSwitches 0 (commitSwitch c offset s) = min ctrMax (ctrGet .refSwitches 0 s + 1) ∧
    eventCount .refSwitch (commitSwitch c offset s) = min ctrMax (eventCount .refSwitch s + 1) ∧
    (commitSteps c s = true → eventCount .timeStep (commitSwitch c offset s) = min ctrMax (eventCount .timeStep s + 1)) := by
  have hslew : ∀ (d : Ctr) (i : Nat) (w : State), ctrGet d i (maybeSlew w) = ctrGet d i w := fun d i w => by
    rw [maybeSlew_eq_withTime]
    rfl
  have hslew' : ∀ (e : Ev) (w : State), eventCount e (maybeSlew w) = eventCount e w := fun e w => by
    rw [maybeSlew_eq_withTime]
    rfl
  rw [commitSwitch_eq, hslew, hslew', hslew', ctrGet_commitReported rfl, eventCount_commitReported _ (by decide),
    eventCount_commitReported _ (by decide), if_pos rfl, if_neg (by decide), ctrGet_commitCounted, eventCount_commitCounted,
    eventCount_commitCounted]
  unfold commitStepped
  cases hsteps : commitSteps c s
  · exact ⟨rfl, rfl, nofun⟩
  · rw [if_pos rfl, ctrGet_stepTide rfl (by decide) (by decide), eventCount_stepTide _ (by decide),
      eventCount_stepTide _ (by decide), if_neg (by decide), if_pos rfl]
    exact ⟨rfl, rfl, fun _ => rfl⟩

end

/-! ### The rows of the DPLL -/

/-- A switch whose window is over commits. -/
def switchDue (offset : Int) (s : State) : State :=
  match s.time.candidate with
  | some (c, t0) => if t0 + nsT (par0 .timingSwitchWindow s) ≤ s.time.now then commitSwitch c offset s else s
  | none => s

theorem exec_switchCommit (t : Nat) (offset : Int) (s : State) :
    exec (.switchCommit t offset) s = act t (switchDue offset) s := rfl

section
variable {offset : Int} {x : State} {c t0 : Nat}

theorem switchDue_of_none (h : x.time.candidate = none) : switchDue offset x = x := by
  unfold switchDue
  rw [h]

theorem switchDue_of_early (h : x.time.candidate = some (c, t0))
    (hd : x.time.now < t0 + nsT (par0 .timingSwitchWindow x)) : switchDue offset x = x := by
  unfold switchDue
  rw [h]
  exact if_neg (Nat.not_le.2 hd)

theorem switchDue_of_due (h : x.time.candidate = some (c, t0))
    (hd : t0 + nsT (par0 .timingSwitchWindow x) ≤ x.time.now) : switchDue offset x = commitSwitch c offset x := by
  unfold switchDue
  rw [h]
  exact if_pos hd

end

theorem commitSteps_iff {c : Nat} {s : State} : commitSteps c s = true ↔ s.time.origin < 2 ∧ timeCapable c = true := by
  rw [commitSteps, Bool.and_eq_true, decide_eq_true_iff]

theorem leads_switchCommit {t : Nat} {offset : Int} {s x : State} (hx : advance t s = x) {c t0 : Nat}
    (h : x.time.candidate = some (c, t0)) (hd : t0 + nsT (par0 .timingSwitchWindow x) ≤ x.time.now) :
    Leads (.switchCommit t offset) s fun z =>
      z.time.selected = some c ∧ z.time.candidate = none ∧ z.time.lastCommit = some x.time.now ∧
      z.time.dpll = .acquiring ∧
      ctrGet .refSwitches 0 z = min ctrMax (ctrGet .refSwitches 0 x + 1) ∧
      eventCount .refSwitch z = min ctrMax (eventCount .refSwitch x + 1) ∧
      (¬ (x.time.origin < 2 ∧ timeCapable c = true) → z.time.tide = x.time.tide ∧ z.time.origin = x.time.origin ∧
        z.time.outs = x.time.outs ∧ z.time.debt = (if timeCapable c then offset else debtNow x)) ∧
      (x.time.origin < 2 ∧ timeCapable c = true → z.time.tide = tideShift x.time.tide (-offset) ∧ z.time.origin = 2 ∧
        z.time.debt = 0 ∧ eventCount .timeStep z = min ctrMax (eventCount .timeStep x + 1)) ∧
      z.mem = x.mem ∧ z.force = x.force ∧ z.power = x.power := by
  have hstep : exec (.switchCommit t offset) s = .next (settle (commitSwitch c offset x)) := by
    rw [exec_switchCommit, act, hx, switchDue_of_due h hd]
  obtain ⟨hctr, hev, hstepped⟩ := commitSwitch_counts (c := c) (offset := offset) (s := x)
  obtain ⟨hmem, hforce, hpower⟩ := commitSwitch_keeps (c := c) (offset := offset) (s := x)
  obtain ⟨refs, slew, at_, htime⟩ := commitSwitch_time (c := c) (offset := offset) (s := x)
  generalize commitSwitch c offset x = w at *
  have hs := settle_eq w
  have hztime := hs.time.trans htime
  refine ⟨_, hstep, ?_⟩
  dsimp only
  rw [hs.ctr _ _ rfl, hs.ev _ (by decide), hs.ev _ (by decide), hctr, hev, settle_mem, settle_force, settle_power, hztime]
  by_cases hfirst : commitSteps c x = true
  · have hcap := commitSteps_iff.1 hfirst
    rw [hfirst, commitStepped, if_pos rfl, time_stepTide]
    exact ⟨rfl, rfl, rfl, rfl, rfl, rfl, fun hno => absurd hcap hno, fun _ => ⟨rfl, rfl, rfl, hstepped hfirst⟩, hmem, hforce,
      hpower⟩
  · rw [Bool.not_eq_true] at hfirst
    rw [hfirst, commitStepped, if_neg Bool.false_ne_true]
    exact ⟨rfl, rfl, rfl, rfl, rfl, rfl, fun _ => ⟨rfl, rfl, rfl, rfl⟩,
      fun h => absurd (commitSteps_iff.2 h) (by rw [hfirst]; exact Bool.false_ne_true), hmem, hforce, hpower⟩

/-- The DPLL may lock (R417). -/
def lockDue (s : State) : Bool :=
  s.time.dpll == .acquiring && s.time.selected.isSome && s.time.slew.isNone && decide (s.time.acquireAt + secT 10 ≤ s.time.now)

theorem exec_dpllLock (t : Nat) (s : State) : exec (.dpllLock t) s =
    act t (onlyIf lockDue fun s => { s with time := { s.time with
      dpll := .locked
      lockedSince := some (s.time.lockedSince.getD s.time.now) } }) s := rfl

theorem lockDue_iff {s : State} : lockDue s = true ↔
    s.time.dpll = .acquiring ∧ s.time.selected ≠ none ∧ s.time.slew = none ∧ s.time.acquireAt + secT 10 ≤ s.time.now := by
  rw [lockDue, Bool.and_eq_true, Bool.and_eq_true, Bool.and_eq_true, beq_iff_eq, Option.isSome_iff_ne_none,
    Option.isNone_iff_eq_none, decide_eq_true_iff, and_assoc, and_assoc]

theorem lockDue_eq_false {s : State} (h : s.time.dpll ≠ .acquiring ∨ s.time.selected = none ∨ s.time.slew ≠ none ∨
    s.time.now < s.time.acquireAt + secT 10) : lockDue s = false := by
  rw [← Bool.not_eq_true, lockDue_iff]
  rintro ⟨hd, hsel, hslew, hdue⟩
  rcases h with h | h | h | h
  · exact h hd
  · exact hsel h
  · exact h hslew
  · exact Nat.not_le.2 h hdue

/-- HOLDOVER has lasted as long as its specification covers (R418). -/
def expiryDue (s : State) : Bool :=
  s.time.dpll == .holdover && decide (s.time.holdoverAt + nsT (par0 .timingHoldoverSpec s) ≤ s.time.now)

/-- HOLDOVER expires. -/
def expire (s : State) : State :=
  let s1 := { s with time := { s.time with dpll := .expired } }
  raise .holdover [1, tide96 s1.time.tide, if s1.time.estimateShort then 1 else 0] (fire .holdoverExpired s1)

theorem exec_holdoverExpiry (t : Nat) (s : State) : exec (.holdoverExpiry t) s = act t (onlyIf expiryDue expire) s := rfl

theorem expire_eq (s : State) : ReportEq (expire s)
    (noteEvent .holdover (fired .holdoverExpired { s with time := { s.time with dpll := .expired } })) :=
  (raise_eq ..).trans ((fire_eq ..).of_noteEvent _)

theorem expiryDue_iff {s : State} : expiryDue s = true ↔
    s.time.dpll = .holdover ∧ s.time.holdoverAt + nsT (par0 .timingHoldoverSpec s) ≤ s.time.now := by
  rw [expiryDue, Bool.and_eq_true, beq_iff_eq, decide_eq_true_iff]

/-- A slew is over (R414). -/
def slewOver (s : State) : Bool := s.time.slew.isSome && decide ((debtNow s).natAbs < 65536)

theorem exec_slewEnd (t : Nat) (s : State) : exec (.slewEnd t) s =
    act t (onlyIf slewOver fun s => { s with time := { s.time with debt := debtNow s, slew := none } }) s := rfl

theorem slewOver_iff {s : State} : slewOver s = true ↔ s.time.slew ≠ none ∧ (debtNow s).natAbs < 65536 := by
  rw [slewOver, Bool.and_eq_true, Option.isSome_iff_ne_none, decide_eq_true_iff]

/-! ### The realignment (R413) -/

/-- A realignment cancelled. -/
def realignCancelled (sec : Nat) (s : State) : State :=
  raise .timeRealign [sec, 0, 1] { s with time := { s.time with realign := none } }

/-- A realignment carried out: tide time steps by minus the debt. -/
def realigned (sec : Nat) (s : State) : State :=
  raise .timeRealign [sec, wrapTo 64 (debtNow s), 0] (count .realigns 0 1 (stepTide (tideShift s.time.tide (-(debtNow s)))
    { s with time := { s.time with realign := none, debt := 0, slew := none } }))

/-- A realignment is carried out or cancelled once tide time reaches its instant. -/
def realignStep (x : State) : State :=
  match x.time.realign with
  | none => x
  | some sec =>
    if x.time.tide < secT sec then x
    else if x.time.dpll = .switching ∨ x.time.dpll = .holdover ∨ x.time.dpll = .expired ∨ (!selectedCapable x) = true then
      realignCancelled sec x
    else realigned sec x

theorem exec_realignDue (t : Nat) (s : State) : exec (.realignDue t) s = act t realignStep s := rfl

section
variable {x : State} {sec : Nat}

theorem realignStep_of_none (h : x.time.realign = none) : realignStep x = x := by
  unfold realignStep
  rw [h]

theorem realignStep_of_early (h : x.time.realign = some sec) (hd : x.time.tide < secT sec) : realignStep x = x := by
  unfold realignStep
  rw [h]
  exact if_pos hd

theorem realignStep_of_barred (h : x.time.realign = some sec) (hd : secT sec ≤ x.time.tide)
    (hb : x.time.dpll = .switching ∨ x.time.dpll = .holdover ∨ x.time.dpll = .expired ∨ selectedCapable x = false) :
    realignStep x = realignCancelled sec x := by
  unfold realignStep
  rw [h]
  dsimp only
  rw [if_neg (Nat.not_lt.2 hd), if_pos (by rwa [Bool.not_eq_true'])]

theorem realignStep_of_due (h : x.time.realign = some sec) (hd : secT sec ≤ x.time.tide) (hs : x.time.dpll ≠ .switching)
    (hh : x.time.dpll ≠ .holdover) (he : x.time.dpll ≠ .expired) (hc : selectedCapable x = true) :
    realignStep x = realigned sec x := by
  unfold realignStep
  rw [h]
  dsimp only
  rw [if_neg (Nat.not_lt.2 hd), if_neg (by rw [hc]; simp [hs, hh, he])]

theorem realignCancelled_eq : ReportEq (realignCancelled sec x)
    (noteEvent .timeRealign { x with time := { x.time with realign := none } }) := raise_eq ..

/-- The realignment before its step of tide time. -/
def realigning (x : State) : State := { x with time := { x.time with realign := none, debt := 0, slew := none } }

theorem realigned_eq : realigned sec x = raise .timeRealign [sec, wrapTo 64 (debtNow x), 0]
    (count .realigns 0 1 (stepTide (tideShift x.time.tide (-(debtNow x))) (realigning x))) := rfl

theorem force_of_restZ {x y : State} (h : restZ x = restZ y) : x.force = y.force := (congrArg State.force h :)

theorem restZ_realigned : restZ (realigned sec x) =
    restZ (stepTide (tideShift x.time.tide (-(debtNow x))) (realigning x)) := by
  rw [realigned_eq, restZ_raise, restZ_count]

theorem realigned_counts : ctrGet .realigns 0 (realigned sec x) = min ctrMax (ctrGet .realigns 0 x + 1) ∧
    eventCount .timeRealign (realigned sec x) = min ctrMax (eventCount .timeRealign x + 1) ∧
    eventCount .timeStep (realigned sec x) = min ctrMax (eventCount .timeStep x + 1) := by
  have hcount : ∀ (e : Ev) (y : State), eventCount e (count .realigns 0 1 y) = eventCount e y := fun _ _ => rfl
  rw [realigned_eq, ctrGet_raise rfl, ctrGet_count_same, ctrGet_stepTide rfl (by decide) (by decide), eventCount_raise,
    eventCount_raise, eventCount_noteEvent, eventCount_noteEvent, if_pos rfl, if_neg (by decide), hcount, hcount,
    eventCount_stepTide _ (by decide), eventCount_stepTide _ (by decide), if_neg (by decide), if_pos rfl]
  exact ⟨rfl, rfl, rfl⟩

theorem leads_realignDue {t : Nat} {s : State} (hx : advance t s = x) (h : x.time.realign = some sec)
    (hd : secT sec ≤ x.time.tide) (hs : x.time.dpll ≠ .switching) (hh : x.time.dpll ≠ .holdover)
    (he : x.time.dpll ≠ .expired) (hc : selectedCapable x = true) : Leads (.realignDue t) s fun z =>
      z.time.tide = tideShift x.time.tide (-(debtNow x)) ∧ z.time.debt = 0 ∧ z.time.slew = none ∧
      z.time.realign = none ∧ z.time.selected = x.time.selected ∧ z.time.origin = x.time.origin ∧
      ctrGet .realigns 0 z = min ctrMax (ctrGet .realigns 0 x + 1) ∧
      eventCount .timeRealign z = min ctrMax (eventCount .timeRealign x + 1) ∧
      eventCount .timeStep z = min ctrMax (eventCount .timeStep x + 1) ∧ z.mem = x.mem ∧ z.force = x.force := by
  have hstep : exec (.realignDue t) s = .next (settle (realigned sec x)) := by
    rw [exec_realignDue, act, hx, realignStep_of_due h hd hs hh he hc]
  obtain ⟨hctr, hev, hev'⟩ := realigned_counts (x := x) (sec := sec)
  have hrest := restZ_realigned (x := x) (sec := sec)
  have htime := (time_of_restZ hrest).trans (time_stepTide ..)
  have hmem : (realigned sec x).mem = x.mem := (mem_of_restZ hrest).trans mem_stepTide
  have hforce : (realigned sec x).force = x.force := (force_of_restZ hrest).trans force_stepTide
  generalize realigned sec x = w at *
  have hsettled := settle_eq w
  have hztime := hsettled.time.trans htime
  refine ⟨_, hstep, ?_⟩
  dsimp only
  rw [hsettled.ctr _ _ rfl, hsettled.ev _ (by decide), hsettled.ev _ (by decide), hctr, hev, hev', settle_mem, settle_force,
    hztime]
  exact ⟨rfl, rfl, rfl, rfl, rfl, rfl, rfl, rfl, rfl, hmem, hforce⟩

end

/-! ### ZCP_TIME_SET, ZCP_TIME_REALIGN and ZCP_REF_SELECT (R406, R413, R415) -/

theorem exec_zcpTimeSet (t : Nat) (d : Dgram) (v : Nat) (s : State) :
    exec (.zcpTimeSet t d v) s = zcp 0x0603 (laid (timeSet v)) t d s := rfl

theorem exec_zcpTimeRealign (t : Nat) (d : Dgram) (sec : Nat) (s : State) :
    exec (.zcpTimeRealign t d sec) s = zcp 0x0604 (laid (timeRealign sec)) t d s := rfl

theorem exec_zcpRefSelect (t : Nat) (d : Dgram) (r : Nat) (s : State) :
    exec (.zcpRefSelect t d r) s = zcp 0x0605 (laid (refSelect r)) t d s := rfl

/-- TIME_ORIGIN as a command sets it (R415). -/
def originSet (s : State) : State := { s with time := { s.time with origin := 1 } }

section
variable {t : Nat} {d : Dgram} {s x : State} (hx : advance t s = x)

section
variable {v : Nat} (hd : Accepted 0x0603 d x) (hlen : d.payload.length = Config.payloadLength 0x0603)
include hx hd hlen

theorem zcpTimeSet_bad (h : 2 ^ 96 ≤ v ∨ tideValid v = false) : Answers (.zcpTimeSet t d v) d rBadTime s x := by
  subst hx
  refine answers_laid (exec_zcpTimeSet t d v s) hd (by decide) hlen fun y hy => ⟨[], y, ?_, hy⟩
  rw [timeSet, if_pos (by rwa [Bool.not_eq_true'])]
  rfl

theorem zcpTimeSet_locked (hv : v < 2 ^ 96) (hvalid : tideValid v = true) (ho : x.time.origin = 2) :
    Answers (.zcpTimeSet t d v) d 0x0048 s x := by
  subst hx
  refine answers_laid (exec_zcpTimeSet t d v s) hd (by decide) hlen fun y hy => ⟨[], y, ?_, hy⟩
  rw [← time_of_restZ hy] at ho
  rw [timeSet, if_neg (by rw [hvalid]; exact not_or.2 ⟨Nat.not_le.2 hv, Bool.false_ne_true⟩), if_pos ho]
  rfl

theorem zcpTimeSet_sets (hv : v < 2 ^ 96) (hvalid : tideValid v = true) (ho : x.time.origin ≠ 2) :
    Answers (.zcpTimeSet t d v) d rOk s (stepTide (tideOf96 v) (originSet x)) := by
  subst hx
  refine answers_laid (exec_zcpTimeSet t d v s) hd (by decide) hlen fun y hy => ?_
  have hset : restZ (originSet y) = restZ (originSet (advance t s)) := (congrArg originSet hy :)
  refine ⟨[], stepTide (tideOf96 v) (originSet y), ?_, restZ_stepTide_congr hset (tideOf96 v)⟩
  rw [← time_of_restZ hy] at ho
  rw [timeSet, if_neg (by rw [hvalid]; exact not_or.2 ⟨Nat.not_le.2 hv, Bool.false_ne_true⟩), if_neg ho]
  rfl

end

theorem selectedCapable_of_restZ {x y : State} (h : restZ y = restZ x) : selectedCapable y = selectedCapable x :=
  (congrArg selectedCapable h :)

section
variable {sec : Nat} (hd : Accepted 0x0604 d x) (hlen : d.payload.length = Config.payloadLength 0x0604)
include hx hd hlen

theorem zcpTimeRealign_bad (h : secT sec < x.time.tide + secT 2 ∨ x.time.tide + secT 86400 < secT sec) :
    Answers (.zcpTimeRealign t d sec) d rBadTime s x := by
  subst hx
  refine answers_laid (exec_zcpTimeRealign t d sec s) hd (by decide) hlen fun y hy => ⟨[], y, ?_, hy⟩
  rw [← time_of_restZ hy] at h
  rw [timeRealign, if_pos h]
  rfl

section
variable (hlo : x.time.tide + secT 2 ≤ secT sec) (hhi : secT sec ≤ x.time.tide + secT 86400)
include hlo hhi

omit hx hd hlen in
theorem timeRealign_of_lead {y : State} (hy : restZ y = restZ x) (c : Ctx) : timeRealign sec c y =
    if (!selectedCapable x) = true then refuse 0x46 y else if x.time.realign.isSome then refuse 0x47 y
    else answer rOk [] { y with time := { y.time with realign := some sec } } := by
  have htime := time_of_restZ hy
  rw [timeRealign, selectedCapable_of_restZ hy, htime, if_neg (not_or.2 ⟨Nat.not_lt.2 hlo, Nat.not_lt.2 hhi⟩)]

theorem zcpTimeRealign_incapable (hc : selectedCapable x = false) : Answers (.zcpTimeRealign t d sec) d 0x0046 s x := by
  subst hx
  refine answers_laid (exec_zcpTimeRealign t d sec s) hd (by decide) hlen fun y hy => ⟨[], y, ?_, hy⟩
  rw [timeRealign_of_lead hlo hhi hy, if_pos (by rw [hc]; rfl)]
  rfl

theorem zcpTimeRealign_pending (hc : selectedCapable x = true) (hr : x.time.realign ≠ none) :
    Answers (.zcpTimeRealign t d sec) d 0x0047 s x := by
  subst hx
  refine answers_laid (exec_zcpTimeRealign t d sec s) hd (by decide) hlen fun y hy => ⟨[], y, ?_, hy⟩
  rw [timeRealign_of_lead hlo hhi hy, if_neg (by rw [hc]; exact Bool.false_ne_true), if_pos (Option.isSome_iff_ne_none.2 hr)]
  rfl

theorem zcpTimeRealign_schedules (hc : selectedCapable x = true) (hr : x.time.realign = none) :
    Answers (.zcpTimeRealign t d sec) d rOk s { x with time := { x.time with realign := some sec } } := by
  subst hx
  refine answers_laid (exec_zcpTimeRealign t d sec s) hd (by decide) hlen fun y hy =>
    ⟨[], { y with time := { y.time with realign := some sec } }, ?_,
      (congrArg (fun z : State => { z with time := { z.time with realign := some sec } }) hy :)⟩
  rw [timeRealign_of_lead hlo hhi hy, if_neg (by rw [hc]; exact Bool.false_ne_true),
    if_neg (by rw [hr]; exact Bool.false_ne_true)]

end

end

/-! ### ZCP_REF_SELECT (R406, R411) -/

/-- Manual mode with a reference named. -/
def manualFor (r : Nat) (s : State) : State := setPar .timingRefManual 0 0 r (setPar .timingRefMode 0 0 1 s)

/-- A reference wanted. -/
def wantedFor (r : Nat) (w : State) : State := { w with time := { w.time with
  wanted := if w.time.selected = some r then none else some r
  noHold := w.time.noHold || decide (w.time.selected ≠ some r) } }

/-- The state in which the target of ZCP_REF_SELECT is chosen. -/
def refNamed (r : Nat) (s : State) : State := wantedFor r (manualFor r s)

/-- What ZCP_REF_SELECT does with a switch under way. -/
def turnNamed (w : State) : State :=
  match w.time.candidate with
  | some (c, _) => if selectionTarget w = some c then w else turnTo (selectionTarget w) 2 w
  | none => w

theorem refNamed_eq (r : Nat) (s : State) : refNamed r s = { manualFor r s with time := { (manualFor r s).time with
    wanted := if decide ((manualFor r s).time.selected = some r) then none else some r
    noHold := (manualFor r s).time.noHold || !decide ((manualFor r s).time.selected = some r) } } := by
  unfold refNamed wantedFor
  rw [decide_not]
  simp only [decide_eq_true_eq]

theorem refSelect_eq {r : Nat} (hr : r ≤ 5) {s : State} (hu : (ref r s).mon.usable = true) (c : Ctx) :
    refSelect r c s = answer rOk [] (turnNamed (refNamed r s)) := by
  unfold refSelect
  rw [if_neg (Nat.not_lt.2 hr), if_neg (by rw [hu]; exact Bool.false_ne_true)]
  extract_lets s1 there src s2 target
  have hs2 : refNamed r s = s2 := refNamed_eq r s
  rw [hs2]
  dsimp only [target]
  clear_value s2
  unfold turnNamed
  rcases s2.time.candidate with _ | ⟨k, t0⟩ <;> rfl

theorem par_setPar_eq (i : Item) (n e v : Nat) (s : State) : par i n e (setPar i n e v s) = v := sGet_sPut_same ..

theorem par_setPar_of_ne {i j : Item} {n e n' e' : Nat} (h : itemKey i n e ≠ itemKey j n' e') (v : Nat) (s : State) :
    par i n e (setPar j n' e' v s) = par i n e s := sGet_sPut_of_ne _ _ _ h

section
variable {r : Nat} {y : State}

theorem restZ_refNamed (h : restZ y = restZ x) : restZ (refNamed r y) = restZ (refNamed r x) :=
  (congrArg (refNamed r) h :)

theorem refs_refNamed : (refNamed r x).time.refs = x.time.refs := rfl

theorem ref_of_restZ (h : restZ y = restZ x) : ref r y = ref r x := (congrArg (ref r) h :)

theorem debtNow_refNamed : debtNow (refNamed r x) = debtNow x := by
  have h : par .timingSlewMax 0 0 (manualFor r x) = par .timingSlewMax 0 0 x := by
    rw [manualFor, par_setPar_of_ne (by decide), par_setPar_of_ne (by decide)]
  have h' : par0 .timingSlewMax (refNamed r x) = par0 .timingSlewMax x := h
  unfold debtNow
  rw [h']
  rfl

theorem mode_refNamed : par0 .timingRefMode (refNamed r x) = 1 := by
  have h : par .timingRefMode 0 0 (manualFor r x) = 1 := by
    rw [manualFor, par_setPar_of_ne (by decide), par_setPar_eq]
  exact h

theorem manual_refNamed : par0 .timingRefManual (refNamed r x) = r := sGet_sPut_same ..

/-- The reference named is the target where it is SELECTABLE (R405). -/
theorem selectionTarget_refNamed (h : (ref r x).mon = .selectable) : selectionTarget (refNamed r x) = some r := by
  rw [selectionTarget_eq, mode_refNamed, if_neg (by decide), manual_refNamed]
  exact if_pos h

end

section
variable {r : Nat} (hd : Accepted 0x0605 d x) (hlen : d.payload.length = Config.payloadLength 0x0605)
include hx hd hlen

theorem zcpRefSelect_range (h : 5 < r) : Answers (.zcpRefSelect t d r) d rBadValue s x := by
  subst hx
  exact answers_laid (exec_zcpRefSelect t d r s) hd (by decide) hlen fun y hy => ⟨[], y, if_pos h, hy⟩

theorem zcpRefSelect_unusable (h : r ≤ 5) (hu : (ref r x).mon.usable = false) :
    Answers (.zcpRefSelect t d r) d 0x0045 s x := by
  subst hx
  refine answers_laid (exec_zcpRefSelect t d r s) hd (by decide) hlen fun y hy => ⟨[], y, ?_, hy⟩
  rw [← ref_of_restZ hy] at hu
  rw [refSelect, if_neg (Nat.not_lt.2 h), if_pos (by rw [hu]; rfl)]
  rfl

theorem zcpRefSelect_selects {z : State} (h : r ≤ 5) (hu : (ref r x).mon.usable = true)
    (hz : ∀ w, restZ w = restZ (refNamed r x) → restZ (turnNamed w) = restZ z) :
    Answers (.zcpRefSelect t d r) d rOk s z := by
  subst hx
  refine answers_laid (exec_zcpRefSelect t d r s) hd (by decide) hlen fun y hy => ⟨[], turnNamed (refNamed r y), ?_, ?_⟩
  · rw [← ref_of_restZ hy] at hu
    exact refSelect_eq h hu d.ctx
  · exact hz _ (restZ_refNamed hy)

end

section
variable {w y z : State}

theorem selectionTarget_of_restZ (h : restZ w = restZ y) : selectionTarget w = selectionTarget y :=
  (congrArg selectionTarget h :)

theorem turnNamed_kept (h : y.time.candidate = none ∨ selectionTarget y = y.time.candidate.map (·.1))
    (hw : restZ w = restZ y) : restZ (turnNamed w) = restZ y := by
  rw [← selectionTarget_of_restZ hw, ← time_of_restZ hw] at h
  unfold turnNamed
  generalize w.time.candidate = o at h
  rcases o with _ | ⟨c, t0⟩
  · exact hw
  · dsimp only
    rw [if_pos (show selectionTarget w = some c from h.resolve_left nofun)]
    exact hw

theorem turnNamed_turns {c t0 g : Nat} (hc : w.time.candidate = some (c, t0)) (hg : selectionTarget w = some g)
    (hne : c ≠ g) : turnNamed w = turnTo (some g) 2 w := by
  unfold turnNamed
  rw [hc, hg]
  exact if_neg fun h => hne (Option.some.inj h).symm

end

end

section
variable {x : State} {r c t0 g : Nat}

theorem usable_refNamed (hu : selectionTarget (refNamed r x) = some g) : (ref g (refNamed r x)).mon.usable = true :=
  (selectionTarget_spec hu).2.1

/-- A switch toward another reference turns back to the selected one. -/
theorem turnNamed_selected {w : State} (hw : restZ w = restZ (refNamed r x)) (hc : x.time.candidate = some (c, t0))
    (hg : selectionTarget (refNamed r x) = some g) (hne : c ≠ g) (hs : x.time.selected = some g) :
    restZ (turnNamed w) = restZ (count .switchAbandoned 0 1 { refNamed r x with time := { (refNamed r x).time with
      candidate := none
      noHold := true
      dpll := x.time.prior } }) := by
  have htime := time_of_restZ hw
  have hwc : w.time.candidate = some (c, t0) := by rw [htime]; exact hc
  have hwg : selectionTarget w = some g := (selectionTarget_of_restZ hw).trans hg
  have hws : w.time.selected = some g := by rw [htime]; exact hs
  rw [turnNamed_turns hwc hwg hne, (turnTo_selected hwc (selectionTarget_spec hwg).2.1 hws 2).restZ, restZ_count]
  exact (congrArg (fun z : State => { z with time := { z.time with candidate := none, noHold := true, dpll := z.time.prior } })
    hw :)

/-- A switch toward another reference turns to the target. -/
theorem turnNamed_other {w : State} (hw : restZ w = restZ (refNamed r x)) (hc : x.time.candidate = some (c, t0))
    (hg : selectionTarget (refNamed r x) = some g) (hne : c ≠ g) (hs : x.time.selected ≠ some g) :
    restZ (turnNamed w) = restZ (count .switchAbandoned 0 1 { refNamed r x with time := { (refNamed r x).time with
      candidate := some (g, x.time.now)
      noHold := true
      dpll := .switching
      debt := debtNow x
      slew := none } }) := by
  have htime := time_of_restZ hw
  have hwc : w.time.candidate = some (c, t0) := by rw [htime]; exact hc
  have hwg : selectionTarget w = some g := (selectionTarget_of_restZ hw).trans hg
  have hws : w.time.selected ≠ some g := by rw [htime]; exact hs
  rw [turnNamed_turns hwc hwg hne, (turnTo_other hwc (selectionTarget_spec hwg).2.1 hws 2).restZ, restZ_count,
    ← debtNow_refNamed (r := r)]
  exact (congrArg (fun z : State => { z with time := { z.time with
    candidate := some (g, z.time.now), noHold := true, dpll := .switching, debt := debtNow z, slew := none } }) hw :)

end

/-- Settles O48: a step of tide time leaves all but timing (`restZ_outsStepped`), and a switch commits through it
(`commitSwitch_time`). -/
theorem switchesAreHitlessAndHoldoverEnds : Obligations.SwitchesAreHitlessAndHoldoverEnds := by
  refine And.intro ?_ (And.intro ?_ (And.intro ?_ (And.intro ?_ (And.intro ?_ (And.intro ?_ (And.intro ?_
    (And.intro ?_ ?_)))))))
  · intro t offset s
    refine ⟨fun h => does_act (exec_switchCommit t offset s) ?_, fun c t0 h => ⟨fun hd =>
      does_act (exec_switchCommit t offset s) ?_, fun hd => leads_switchCommit rfl h hd⟩⟩
    · rw [switchDue_of_none h]
      exact .rfl' _
    · rw [switchDue_of_early h hd]
      exact .rfl' _
  · exact fun t s => ⟨fun hd hsel hslew hdue => does_onlyIf (exec_dpllLock t s) (lockDue_iff.2 ⟨hd, hsel, hslew, hdue⟩)
      (.rfl' _), fun h => does_onlyIf_of_not (exec_dpllLock t s) (lockDue_eq_false h)⟩
  · refine fun t s => ⟨fun hd hdue => does_onlyIf (exec_holdoverExpiry t s) (expiryDue_iff.2 ⟨hd, hdue⟩) (expire_eq _),
      fun h => does_onlyIf_of_not (exec_holdoverExpiry t s) (Bool.eq_false_iff.2 fun hdue => ?_)⟩
    obtain ⟨hd, hdue⟩ := expiryDue_iff.1 hdue
    exact h.elim (fun h => h hd) fun h => Nat.not_le.2 h hdue
  · intro t s
    refine ⟨fun h => does_act (exec_realignDue t s) ?_, fun sec h => ⟨fun hd => does_act (exec_realignDue t s) ?_,
      fun hd hb => does_act (exec_realignDue t s) ?_, fun hd hs hh he hc => leads_realignDue rfl h hd hs hh he hc⟩⟩
    · rw [realignStep_of_none h]
      exact .rfl' _
    · rw [realignStep_of_early h hd]
      exact .rfl' _
    · rw [realignStep_of_barred h hd hb]
      exact realignCancelled_eq
  · refine fun t s => ⟨fun hs hd => does_onlyIf (exec_slewEnd t s) (slewOver_iff.2 ⟨hs, hd⟩) (.rfl' _),
      fun h => does_onlyIf_of_not (exec_slewEnd t s) (Bool.eq_false_iff.2 fun hover => ?_)⟩
    obtain ⟨hs, hd⟩ := slewOver_iff.1 hover
    exact h.elim (fun h => hs h) fun h => Nat.not_le.2 hd h
  · intro new x
    refine ⟨?_, txQueue_stepTide, ?_, mem_stepTide, force_stepTide, fun n _ hp hm => out_stepTide_idle hp hm⟩
    · have htime := time_stepTide new x
      generalize stepTide new x = z at htime
      have htxts : z.time.txts = (tideSet new x).time.txts := (congrArg TimeS.txts htime :)
      dsimp only
      rw [htxts]
      exact htime
    · exact (eventCount_stepTide _ (by decide) new x).trans (if_pos rfl)
  · exact fun t d v s hd hlen => ⟨zcpTimeSet_bad rfl hd hlen, fun hv hvalid => ⟨zcpTimeSet_locked rfl hd hlen hv hvalid,
      zcpTimeSet_sets rfl hd hlen hv hvalid⟩⟩
  · exact fun t d sec s hd hlen => ⟨zcpTimeRealign_bad rfl hd hlen, fun hlo hhi =>
      ⟨zcpTimeRealign_incapable rfl hd hlen hlo hhi, zcpTimeRealign_pending rfl hd hlen hlo hhi,
      zcpTimeRealign_schedules rfl hd hlen hlo hhi⟩⟩
  · intro t d r s
    obtain ⟨x, hx⟩ : ∃ x, advance t s = x := ⟨_, rfl⟩
    rw [hx]
    intro x' manual named hd hlen
    refine ⟨zcpRefSelect_range hx hd hlen, zcpRefSelect_unusable hx hd hlen, fun hr hu => ⟨selectionTarget_refNamed,
      fun hkept => zcpRefSelect_selects hx hd hlen hr hu fun w hw => turnNamed_kept hkept hw, fun c t0 g hc hg hne =>
      ⟨fun hs => zcpRefSelect_selects hx hd hlen hr hu fun w hw => turnNamed_selected hw hc hg hne hs,
      fun hs => zcpRefSelect_selects hx hd hlen hr hu fun w hw => turnNamed_other hw hc hg hne hs⟩⟩⟩

end Sys2Proof.Machine
end

section
/-! A clean codeword whose symbols show the marker's errors (R441, R442). -/

namespace Sys2Proof.Machine

/-- A module as reset leaves it, but for channel 0, which serves its ports; no region is placed. -/
def channelServes : State := setChan 0 { ChanS.zero with state := .online } State.reset

/-- A read of codeword 0 of channel 0 by the canal, whose symbols show the errors that a marker shows. -/
def markerShown : Instr := .dramRequest 0 4 0 0 .read markerErr 0 0

theorem channelServes_fields : (chan 0 (advance 0 channelServes)).state = .online ∧
    portServes 4 0 0 (advance 0 channelServes) = true ∧ dpaOf 0 0 (advance 0 channelServes) = none ∧
    codewordEnd 0 0 markerErr (advance 0 channelServes) = .poison := by
  refine ⟨?_, ?_, ?_, ?_⟩ <;> decide +kernel

/-- The read leaves the codeword without a marker. -/
theorem markerShown_leaves : (match exec markerShown channelServes with
    | .next z => poisoned 0 0 z
    | _ => true) = false := by decide +kernel

/-- Refutes O50: where a read's symbols show the errors of a marker at a codeword without one, it counts as POISON, but
it leaves no marker there, and the statement asks for one. -/
theorem not_dramServesProtectsAndRefreshes : ¬ Obligations.DramServesProtectsAndRefreshes := by
  rintro ⟨hrequest, -⟩
  obtain ⟨-, -, -, hserved⟩ := hrequest 0 4 0 0 .read markerErr 0 0 channelServes
  obtain ⟨hchan, hport, hdpa, hend⟩ := channelServes_fields
  obtain ⟨z, hz, -, -, -, -, -, -, -, -, hread, -⟩ := hserved (.inl hchan) hport (.inl rfl)
  obtain ⟨-, -, -, -, hflagged⟩ := hread nofun
  have hmarked := (hflagged (.inl hend)).1 fun ⟨_, d, _, hd, _⟩ => nomatch hdpa.symm.trans hd
  have hleaves := markerShown_leaves
  rw [markerShown, hz] at hleaves
  exact absurd (hmarked.symm.trans hleaves) (by decide)

end Sys2Proof.Machine
end

section
/-! The planner without powered polders, and a count past its saturation (R544). -/

namespace Sys2Proof.Machine

/-- A module that is READY with no polder powered, whose count of planner runs stands beyond all ones. -/
def nothingToPlan : State :=
  { State.reset with
    boot := { State.reset.boot with stage := .ready }
    ctr := [(ctrKey .marginRuns 0, 2 ^ 48)] }

/-- The planner's next period, long after the last. -/
def latePeriod : Instr := .plannerPeriod (2 ^ 80) []

theorem nothingToPlan_due : (advance (2 ^ 80) nothingToPlan).boot.stage = .ready ∧
    (advance (2 ^ 80) nothingToPlan).fault.plannedAt + secT (par0 .faultPlannerPeriod (advance (2 ^ 80) nothingToPlan)) ≤
      (advance (2 ^ 80) nothingToPlan).time.now := by
  refine ⟨?_, ?_⟩ <;> decide +kernel

/-- No polder is planned, so the count stays; the statement asks for the saturated value. -/
theorem latePeriod_keeps : (match exec latePeriod nothingToPlan with
    | .next z => decide (ctrGet .marginRuns 0 z = min ctrMax (ctrGet .marginRuns 0 (advance (2 ^ 80) nothingToPlan) +
        ((List.range 168).filter fun n => (polder n (advance (2 ^ 80) nothingToPlan)).powered).length))
    | _ => true) = false := by decide +kernel

/-- Refutes O56: where no polder is powered and the count of planner runs stands beyond all ones, a planner period leaves
it there, and the statement asks for the saturated value. -/
theorem not_episodesRecordsAndMarginsAreKept : ¬ Obligations.EpisodesRecordsAndMarginsAreKept := by
  rintro ⟨-, -, -, -, -, -, -, -, -, hperiod, -⟩
  obtain ⟨z, hz, -, hcount⟩ := (hperiod (2 ^ 80) [] nothingToPlan).2 nothingToPlan_due
  have hkeeps := latePeriod_keeps
  rw [latePeriod, hz] at hkeeps
  exact absurd hcount (of_decide_eq_false hkeeps)

end Sys2Proof.Machine
end

section
/-! Channels and stacks of DRAM through retraining, speed steps and outages (R443 to R447): the file of channels, the
file of stacks and the rest of the memory after each operation, and what each counts. -/

namespace Sys2Proof.Machine

open Touches (refl ite of_fields foldl)

/-! ### The two files -/

section
variable {x z : State} (h : z.mem = x.mem)
include h

theorem chan_of_mem (c : Nat) : chan c z = chan c x := congrArg (·.chans.getD c ChanS.zero) h
theorem stack_of_mem (k : Nat) : stack k z = stack k x := congrArg (·.stackFile.getD k StackS.none) h

theorem stackChans_of_mem (k : Nat) : stackChans k z = stackChans k x := by
  simp only [stackChans, chan_of_mem h]

end

theorem chan_setStack (c k : Nat) (y : StackS) (s : State) : chan c (setStack k y s) = chan c s := rfl
theorem stack_setChan (k c : Nat) (y : ChanS) (s : State) : stack k (setChan c y s) = stack k s := rfl

/-- The memory without the files of channels and stacks. -/
def unfiled (m : MemS) : MemS :=
  { m with chans := .replicate 128 ChanS.zero, stackFile := .replicate 8 StackS.none }

theorem unfiled_setChan (c : Nat) (y : ChanS) (s : State) : unfiled (setChan c y s).mem = unfiled s.mem := rfl
theorem unfiled_setStack (k : Nat) (y : StackS) (s : State) : unfiled (setStack k y s).mem = unfiled s.mem := rfl

theorem cells_of_unfiled {m m' : MemS} (h : unfiled m = unfiled m') : m.cells = m'.cells := (congrArg (·.cells) h :)
theorem redirects_of_unfiled {m m' : MemS} (h : unfiled m = unfiled m') : m.redirects = m'.redirects :=
  (congrArg (·.redirects) h :)

/-! ### The channels of a stack -/

section
variable {k : Nat} {s : State}

theorem lt_of_mem_stackChans (hk : k < 8) {c : Nat} (hc : c ∈ stackChans k s) : c < 128 := by
  obtain ⟨j, hj, rfl⟩ := List.mem_map.1 (List.mem_filter.1 hc).1
  have := List.mem_range.1 hj
  omega

theorem nodup_stackChans : (stackChans k s).Nodup :=
  (List.nodup_range.map fun _ _ h => Nat.add_left_cancel h).filter _

end

/-- A channel after a run of changes over distinct channels, each of its own channel's record and the time. -/
theorem chan_foldl_setChan (f : ChanS → Nat → ChanS) {l : List Nat} (hl : l.Nodup) (hlt : ∀ c ∈ l, c < 128) (j : Nat)
    (s : State) : chan j (l.foldl (fun x c => setChan c (f (chan c x) x.time.now) x) s) =
      if j ∈ l then f (chan j s) s.time.now else chan j s := by
  induction l generalizing s with
  | nil => rfl
  | cons c l ih =>
    obtain ⟨hc, hl⟩ := List.nodup_cons.1 hl
    rw [List.foldl_cons, ih hl (fun b hb => hlt b (List.mem_cons_of_mem c hb)), setChan_time]
    by_cases hj : j = c
    · subst hj
      rw [if_neg hc, if_pos List.mem_cons_self, chan_setChan_same _ _ _ (hlt j List.mem_cons_self)]
    · simp only [List.mem_cons, hj, false_or, chan_setChan_of_ne _ _ hj]

/-- A run of changes of channels changes the file of channels alone. -/
theorem foldl_setChan_keeps {α : Type} {π : State → α} (hπ : ∀ c y x, π (setChan c y x) = π x) (f : State → Nat → ChanS)
    (l : List Nat) (s : State) : π (l.foldl (fun x c => setChan c (f x c) x) s) = π s :=
  foldl_keeps (π := π) (fun x c => hπ c (f x c) x) l s

section
variable (k : Nat) (st : ChanState) (s : State)

theorem chan_setStackChans (hk : k < 8) (j : Nat) : chan j (setStackChans k st s) =
    if j ∈ stackChans k s then { chan j s with state := st } else chan j s :=
  chan_foldl_setChan (fun y _ => { y with state := st }) nodup_stackChans (fun _ => lt_of_mem_stackChans hk) j s

theorem setStackChans_keeps {α : Type} {π : State → α} (hπ : ∀ c y x, π (setChan c y x) = π x) :
    π (setStackChans k st s) = π s := foldl_setChan_keeps hπ _ _ s

theorem stack_setStackChans (j : Nat) : stack j (setStackChans k st s) = stack j s :=
  setStackChans_keeps k st s (π := stack j) fun _ _ _ => rfl

end

/-! ### What a change counts -/

/-- A quantity that changes of the memory, of parameters and replies leave, and readmission too. -/
structure Uncounted {α : Type} (π : State → α) : Prop where
  mem : ∀ m s, π { s with mem := m } = π s
  waiting : ∀ l (s : State), π { s with zcp := { s.zcp with waiting := l } } = π s
  setPar : ∀ i n e v s, π (setPar i n e v s) = π s
  complete : ∀ why unit code body s, π (complete why unit code body s) = π s
  readmit : ∀ s, π (readmit s) = π s

theorem Uncounted.ctr {c : Ctr} (hc : c.reporting = false) (i : Nat) : Uncounted (ctrGet c i) where
  mem _ _ := rfl
  waiting _ _ := rfl
  setPar _ _ _ _ _ := rfl
  complete := ctrGet_complete hc i
  readmit := readmit_keeps (fun e b s => (raiseBytes_eq e b s).ctr c i hc) fun _ _ => rfl

theorem Uncounted.event {e : Ev} (he : e ≠ .counterSat) (hr : e ≠ .planReadmit) (ho : e ≠ .planOver) :
    Uncounted (eventCount e) where
  mem _ _ := rfl
  waiting _ _ := rfl
  setPar _ _ _ _ _ := rfl
  complete := eventCount_complete he
  readmit s := by
    have hbytes (d : Ev) (b : List Byte) (x : State) (hd : e ≠ d) : eventCount e (raiseBytes d b x) = eventCount e x :=
      ((raiseBytes_eq d b x).ev e he).trans ((eventCount_noteEvent ..).trans (if_neg hd))
    unfold Machine.readmit
    split
    · rfl
    · extract_lets base a s1 b
      have hs1 : eventCount e s1 = eventCount e s := hbytes _ _ _ hr
      split
      · exact (hbytes _ _ _ ho).trans hs1
      · extract_lets j due
        split
        · exact hs1
        · exact hs1

theorem eventCount_fire {e : Ev} (he : e ≠ .counterSat) (hf : e ≠ .fault) (f : Fs) (s : State) :
    eventCount e (fire f s) = eventCount e s := by
  refine ((fire_eq f s).ev e he).trans ?_
  unfold fired
  extract_lets s1 ep quiet st
  split
  · exact (eventCount_noteEvent ..).trans (if_neg hf)
  · rfl
  · rfl

/-! ### The bin of a stack (R308, R446) -/

section
variable (k bin cause : Nat) (s : State)

/-- A stack whose bin changes, before readmission. -/
def binReported : State :=
  let s1 := raise .memSpeed [k, (stack k s).bin, bin, cause] (setStack k { stack k s with bin := bin } s)
  if cause = 0 ∧ (stack k s).bin < bin then fire .dramSpeedStep (count .speedSteps k 1 s1) else s1

theorem changeBin_of_ne {k bin : Nat} {s : State} (h : (stack k s).bin ≠ bin) :
    changeBin k bin cause s = readmit (binReported k bin cause s) := if_neg h

theorem changeBin_of_eq {k bin : Nat} {s : State} (h : (stack k s).bin = bin) : changeBin k bin cause s = s := if_pos h

theorem mem_binReported : (binReported k bin cause s).mem = (setStack k { stack k s with bin := bin } s).mem := by
  unfold binReported
  extract_lets src s1
  have hs1 : s1.mem = _ := raise_mem ..
  split
  · exact (fire_mem _ _).trans hs1
  · exact hs1

theorem mem_changeBin_of_ne {k bin : Nat} {s : State} (h : (stack k s).bin ≠ bin) :
    (changeBin k bin cause s).mem = (setStack k { stack k s with bin := bin } s).mem := by
  rw [changeBin_of_ne cause h, (readmit_touches _).mem rfl, mem_binReported]

theorem chan_changeBin (c : Nat) : chan c (changeBin k bin cause s) = chan c s := by
  by_cases h : (stack k s).bin = bin
  · rw [changeBin_of_eq cause h]
  · rw [chan_of_mem (mem_changeBin_of_ne cause h), chan_setStack]

theorem stack_changeBin (hk : k < 8) : stack k (changeBin k bin cause s) = { stack k s with bin := bin } := by
  by_cases h : (stack k s).bin = bin
  · rw [changeBin_of_eq cause h, ← h]
  · rw [stack_of_mem (mem_changeBin_of_ne cause h), stack_setStack_same _ _ _ hk]

theorem unfiled_changeBin : unfiled (changeBin k bin cause s).mem = unfiled s.mem := by
  by_cases h : (stack k s).bin = bin
  · rw [changeBin_of_eq cause h]
  · rw [mem_changeBin_of_ne cause h, unfiled_setStack]

theorem changeBin_touches : Touches [.mem, .plan, .sticky, .episodes] s (changeBin k bin cause s) := by
  by_cases h : (stack k s).bin = bin
  · rw [changeBin_of_eq cause h]
    exact refl s
  · rw [changeBin_of_ne cause h]
    have hset : Touches [.mem] s (setStack k { stack k s with bin := bin } s) := setStack_touches ..
    have hs1 := hset.report (Touches.raise _ .memSpeed [k, (stack k s).bin, bin, cause])
    refine (readmit_touches _).after (l := [.mem, .sticky, .episodes]) ?_ rfl
    exact ite ((hs1.report (Touches.count _ .speedSteps k 1)).trans (Touches.fire ..) rfl) (hs1.mono rfl)

theorem changeBin_keeps {α : Type} {π : State → α} (hu : Uncounted π) (hraise : ∀ l x, π (raise .memSpeed l x) = π x)
    (hcount : ∀ x, π (count .speedSteps k 1 x) = π x) (hfire : ∀ x, π (fire .dramSpeedStep x) = π x) :
    π (changeBin k bin cause s) = π s := by
  by_cases h : (stack k s).bin = bin
  · rw [changeBin_of_eq cause h]
  · rw [changeBin_of_ne cause h, hu.readmit, binReported]
    have hset : π (setStack k { stack k s with bin := bin } s) = π s := hu.mem ..
    split
    · rw [hfire, hcount, hraise, hset]
    · rw [hraise, hset]

variable {k bin s}

/-- EV_MEM_SPEED once (R446). -/
theorem eventCount_memSpeed_changeBin (h : (stack k s).bin ≠ bin) :
    eventCount .memSpeed (changeBin k bin cause s) = min ctrMax (eventCount .memSpeed s + 1) := by
  rw [changeBin_of_ne cause h, (Uncounted.event (e := .memSpeed) nofun nofun nofun).readmit]
  unfold binReported
  extract_lets src s1
  have hs1 : eventCount .memSpeed s1 = min ctrMax (eventCount .memSpeed s + 1) := by
    rw [eventCount_raise, eventCount_noteEvent, if_pos rfl]
    rfl
  split
  · exact (eventCount_fire (e := .memSpeed) nofun nofun _ _).trans hs1
  · exact hs1

/-- A step down is counted (R446). -/
theorem ctrGet_speedSteps_changeBin (h : (stack k s).bin < bin) :
    ctrGet .speedSteps k (changeBin k bin 0 s) = min ctrMax (ctrGet .speedSteps k s + 1) := by
  rw [changeBin_of_ne 0 h.ne, (Uncounted.ctr (c := .speedSteps) rfl k).readmit, binReported, if_pos ⟨rfl, h⟩,
    ctrGet_fire rfl, ctrGet_count_same, ctrGet_raise rfl]
  rfl

/-- A step down sets FS_DRAM_SPEED_STEP. -/
theorem sticky_changeBin (h : (stack k s).bin < bin) :
    (changeBin k bin 0 s).fault.sticky.getLsbD Fs.dramSpeedStep.num = true := by
  rw [changeBin_of_ne 0 h.ne, readmit_sticky, binReported, if_pos ⟨rfl, h⟩]
  exact sticky_fire_same ..

end

end Sys2Proof.Machine
end

section
/-! Retraining, requests for a pin rate and outages (R444 to R447): stacks, channels and counts after each. -/

namespace Sys2Proof.Machine

open Touches (refl ite of_fields foldl)

@[simp] theorem chan_settle (c : Nat) (s : State) : chan c (settle s) = chan c s := chan_of_mem (settle_mem s) c
@[simp] theorem stack_settle (k : Nat) (s : State) : stack k (settle s) = stack k s := stack_of_mem (settle_mem s) k

/-! ### An outage begins (R446) -/

section
variable (k bin : Nat) (asked : Option Nat) (s : State)

theorem setChan_touches (c : Nat) (y : ChanS) : Touches [.mem] s (setChan c y s) := of_fields rfl

theorem setStackChans_touches (st : ChanState) : Touches [.mem] s (setStackChans k st s) :=
  foldl (fun x c => setChan_touches x c _) _ s

/-- A stack out of service, before its bin changes. -/
def outageBegun : State :=
  setStackChans k .outage (setStack k { stack k s with
    queue := []
    gather := none
    outage := some { since := s.time.now, bin := bin, from_ := (stack k s).bin, asked := asked } } s)

theorem beginOutage_eq : beginOutage k bin asked s =
    changeBin k bin (if asked.isSome then 1 else 0) (outageBegun k bin asked s) := rfl

theorem stack_outageBegun (hk : k < 8) : stack k (outageBegun k bin asked s) = { stack k s with
    queue := []
    gather := none
    outage := some { since := s.time.now, bin := bin, from_ := (stack k s).bin, asked := asked } } := by
  rw [outageBegun, stack_setStackChans, stack_setStack_same _ _ _ hk]

theorem outageBegun_keeps {α : Type} {π : State → α} (hu : Uncounted π) : π (outageBegun k bin asked s) = π s :=
  (setStackChans_keeps _ _ _ fun _ _ _ => hu.mem ..).trans (hu.mem ..)

theorem stack_beginOutage (hk : k < 8) : stack k (beginOutage k bin asked s) = { stack k s with
    queue := []
    gather := none
    bin := bin
    outage := some { since := s.time.now, bin := bin, from_ := (stack k s).bin, asked := asked } } := by
  rw [beginOutage_eq, stack_changeBin _ _ _ _ hk, stack_outageBegun _ _ _ _ hk]

theorem chan_beginOutage (hk : k < 8) (j : Nat) : chan j (beginOutage k bin asked s) =
    if j ∈ stackChans k s then { chan j s with state := .outage } else chan j s := by
  rw [beginOutage_eq, chan_changeBin, outageBegun, chan_setStackChans _ _ _ hk]
  rfl

theorem beginOutage_touches : Touches [.mem, .plan, .sticky, .episodes] s (beginOutage k bin asked s) := by
  rw [beginOutage_eq]
  have hset : Touches [.mem] s (outageBegun k bin asked s) :=
    (setStack_touches s k _).next (setStackChans_touches ..)
  exact (changeBin_touches ..).after hset rfl

theorem beginOutage_keeps {α : Type} {π : State → α} (hu : Uncounted π) (hraise : ∀ l x, π (raise .memSpeed l x) = π x)
    (hcount : ∀ x, π (count .speedSteps k 1 x) = π x) (hfire : ∀ x, π (fire .dramSpeedStep x) = π x) :
    π (beginOutage k bin asked s) = π s :=
  (changeBin_keeps k bin _ _ hu hraise hcount hfire).trans (outageBegun_keeps k bin asked s hu)

variable {k bin s}

theorem eventCount_memSpeed_beginOutage (hk : k < 8) (h : (stack k s).bin ≠ bin) :
    eventCount .memSpeed (beginOutage k bin asked s) = min ctrMax (eventCount .memSpeed s + 1) := by
  have hbin : (stack k (outageBegun k bin asked s)).bin ≠ bin := by rwa [stack_outageBegun _ _ _ _ hk]
  rw [beginOutage_eq, eventCount_memSpeed_changeBin _ hbin,
    outageBegun_keeps k bin asked s (Uncounted.event (e := .memSpeed) nofun nofun nofun)]

theorem ctrGet_speedSteps_beginOutage (hk : k < 8) (h : (stack k s).bin < bin) :
    ctrGet .speedSteps k (beginOutage k bin none s) = min ctrMax (ctrGet .speedSteps k s + 1) := by
  have hbin : (stack k (outageBegun k bin none s)).bin < bin := by rwa [stack_outageBegun _ _ _ _ hk]
  rw [beginOutage_eq, Option.isSome_none, if_neg Bool.false_ne_true, ctrGet_speedSteps_changeBin hbin,
    outageBegun_keeps k bin none s (Uncounted.ctr rfl k)]

theorem sticky_beginOutage (hk : k < 8) (h : (stack k s).bin < bin) :
    (beginOutage k bin none s).fault.sticky.getLsbD Fs.dramSpeedStep.num = true := by
  have hbin : (stack k (outageBegun k bin none s)).bin < bin := by rwa [stack_outageBegun _ _ _ _ hk]
  rw [beginOutage_eq, Option.isSome_none, if_neg Bool.false_ne_true, sticky_changeBin hbin]

end

/-! ### The end of one channel's retraining (R445) -/

section
variable (k c : Nat) (g : Trigger) (result : Nat) (s : State)

/-- A channel once its retraining has ended. -/
def retrained : ChanS :=
  if result = 0 then { chan c s with state := .online, tempAt := (stack k s).temp, trainedAt := s.time.now }
  else { chan c s with state := .online }

theorem endRetrain_eq : endRetrain k c g result s =
    complete .retrain c (if result = 0 then rOk else rRefused) [] (raise .memRetrain [c, g.code, result]
      (count .retrains c 1 (setChan c (retrained k c result s)
        (setStack k { stack k s with queue := (stack k s).queue.drop 1, gather := none } s)))) := rfl

theorem mem_endRetrain : (endRetrain k c g result s).mem = (setChan c (retrained k c result s)
    (setStack k { stack k s with queue := (stack k s).queue.drop 1, gather := none } s)).mem := by
  rw [endRetrain_eq, (Touches.complete _ ..).mem rfl, (Touches.raise _ ..).mem rfl]
  rfl

theorem endRetrain_touches : Touches [.mem, .sessions, .waiting] s (endRetrain k c g result s) := by
  rw [endRetrain_eq]
  have hset : Touches [.mem] s (setChan c (retrained k c result s)
      (setStack k { stack k s with queue := (stack k s).queue.drop 1, gather := none } s)) := of_fields rfl
  exact (Touches.complete _ ..).after ((hset.report (Touches.count _ ..)).report (Touches.raise _ ..)) rfl

theorem stack_endRetrain (hk : k < 8) : stack k (endRetrain k c g result s) =
    { stack k s with queue := (stack k s).queue.drop 1, gather := none } := by
  rw [stack_of_mem (mem_endRetrain ..), stack_setChan, stack_setStack_same _ _ _ hk]

theorem chan_endRetrain_same (hc : c < 128) : chan c (endRetrain k c g result s) = retrained k c result s := by
  rw [chan_of_mem (mem_endRetrain ..), chan_setChan_same _ _ _ hc]

theorem chan_endRetrain_of_ne {j : Nat} (h : j ≠ c) : chan j (endRetrain k c g result s) = chan j s := by
  rw [chan_of_mem (mem_endRetrain ..), chan_setChan_of_ne _ _ h, chan_setStack]

theorem endRetrain_keeps {α : Type} {π : State → α} (hu : Uncounted π) (hraise : ∀ l x, π (raise .memRetrain l x) = π x)
    (hcount : ∀ x, π (count .retrains c 1 x) = π x) : π (endRetrain k c g result s) = π s := by
  rw [endRetrain_eq, hu.complete, hraise, hcount]
  exact (hu.mem ..).trans (hu.mem ..)

theorem ctrGet_retrains_endRetrain :
    ctrGet .retrains c (endRetrain k c g result s) = min ctrMax (ctrGet .retrains c s + 1) := by
  rw [endRetrain_eq, ctrGet_complete rfl, ctrGet_raise rfl, ctrGet_count_same]
  rfl

theorem eventCount_memRetrain_endRetrain :
    eventCount .memRetrain (endRetrain k c g result s) = min ctrMax (eventCount .memRetrain s + 1) := by
  rw [endRetrain_eq, eventCount_complete (e := .memRetrain) nofun, eventCount_raise, eventCount_noteEvent, if_pos rfl]
  rfl

end

/-! ### The next GATHER, and a held request (R445, R447) -/

section
variable (k : Nat) (s : State)

theorem nextGather_of_nil {k : Nat} {s : State} (h : (stack k s).queue = []) :
    nextGather k s = setStack k { stack k s with gather := none } s := by
  rw [nextGather]
  simp only [h]

theorem nextGather_of_cons {k : Nat} {s : State} {c : Nat} {g : Trigger} {r : List (Nat × Trigger)}
    (h : (stack k s).queue = (c, g) :: r) : nextGather k s =
      setChan c { chan c s with state := .retraining } (setStack k { stack k s with gather := some 0 } s) := by
  rw [nextGather]
  simp only [h]

theorem nextGather_eq : ∃ m, nextGather k s = { s with mem := m } ∧ unfiled m = unfiled s.mem := by
  unfold nextGather
  extract_lets y
  split
  · exact ⟨_, rfl, rfl⟩
  · exact ⟨_, rfl, rfl⟩

theorem stack_nextGather (hk : k < 8) : stack k (nextGather k s) =
    { stack k s with gather := if (stack k s).queue = [] then none else some 0 } := by
  cases hq : (stack k s).queue with
  | nil => rw [nextGather_of_nil hq, stack_setStack_same _ _ _ hk, if_pos rfl]
  | cons e r =>
    rw [nextGather_of_cons hq, stack_setChan, stack_setStack_same _ _ _ hk, if_neg (List.cons_ne_nil _ _)]

theorem nextGather_keeps {α : Type} {π : State → α} (hu : Uncounted π) : π (nextGather k s) = π s := by
  obtain ⟨m, h, -⟩ := nextGather_eq k s
  rw [h, hu.mem]

theorem chan_nextGather_of_ne {j : Nat} (h : ∀ e ∈ (stack k s).queue.head?, e.1 ≠ j) :
    chan j (nextGather k s) = chan j s := by
  cases hq : (stack k s).queue with
  | nil => rw [nextGather_of_nil hq, chan_setStack]
  | cons e r =>
    have hj : j ≠ e.1 := (h e (by rw [hq]; rfl)).symm
    rw [nextGather_of_cons hq, chan_setChan_of_ne _ _ hj, chan_setStack]

theorem state_nextGather_head {e : Nat × Trigger} (he : e ∈ (stack k s).queue.head?) (hlt : e.1 < 128) :
    (chan e.1 (nextGather k s)).state = .retraining := by
  obtain ⟨r, hq⟩ : ∃ r, (stack k s).queue = e :: r := by
    cases hq : (stack k s).queue with
    | nil => rw [hq] at he; exact absurd he nofun
    | cons f r =>
      rw [hq] at he
      exact ⟨r, congrArg (· :: r) (Option.some.inj he)⟩
  rw [nextGather_of_cons hq, chan_setChan_same _ _ _ hlt]

theorem takeHeld_of_none {k : Nat} {s : State} (h : (stack k s).held = none) : takeHeld k s = nextGather k s := by
  rw [takeHeld]
  simp only [h]

/-- A stack whose held request is taken up; the commands that waited for it wait for the speed now. -/
def heldTaken : State :=
  { setStack k { stack k s with held := none } s with
    zcp := { s.zcp with waiting := s.zcp.waiting.map fun w =>
      if w.why = Why.speedHeld.code ∧ w.unit = k then { w with why := Why.speed.code } else w } }

theorem takeHeld_of_ne {k b : Nat} {s : State} (h : (stack k s).held = some b) (hb : (stack k s).bin ≠ b) :
    takeHeld k s = beginOutage k b (some b) (heldTaken k s) := by
  rw [takeHeld]
  simp only [h, if_neg hb]
  rfl

theorem stack_heldTaken (hk : k < 8) : stack k (heldTaken k s) = { stack k s with held := none } :=
  stack_setStack_same k _ s hk

theorem chan_heldTaken (c : Nat) : chan c (heldTaken k s) = chan c s := rfl

theorem time_heldTaken : (heldTaken k s).time = s.time := rfl

theorem heldTaken_keeps {α : Type} {π : State → α} (hu : Uncounted π) : π (heldTaken k s) = π s :=
  (hu.waiting _ _).trans (hu.mem ..)

end

end Sys2Proof.Machine
end

section
/-! The end of an attempt of an outage, and the retirement of a channel (R446 to R449). -/

namespace Sys2Proof.Machine

open Touches (refl ite of_fields foldl)

/-! ### The stack returns to service (R446, R447) -/

section
variable (k : Nat) (o : Outage) (s : State)

/-- A stack in service again, every channel trained. -/
def stackServed : State :=
  (stackChans k (setStack k { stack k s with outage := none } s)).foldl
    (fun x c => setChan c { chan c x with state := .online, tempAt := (stack k s).temp, trainedAt := x.time.now } x)
    (setStack k { stack k s with outage := none } s)

/-- A stack in service whose request for a bin, where one caused the outage, is answered. -/
def speedAnswered : State :=
  match o.asked with
  | none => stackServed k s
  | some b => complete .speed k (if (stack k s).bin = b then rOk else rLower) (Config.replyBody 0x0703 [(stack k s).bin])
      (setPar .memMaxBin k 0 (stack k s).bin (stackServed k s))

/-- Every channel's waiting command for a retraining is answered. -/
def retrainsAnswered : State :=
  (stackChans k (speedAnswered k o s)).foldl (fun x c => complete .retrain c rOk [] x) (speedAnswered k o s)

theorem endOutage_eq : endOutage k o s = takeHeld k (retrainsAnswered k o s) := rfl

theorem stackServed_touches : Touches [.mem] s (stackServed k s) :=
  (setStack_touches s k _).next (foldl (fun x c => setChan_touches x c _) _ _)

theorem stack_stackServed (hk : k < 8) : stack k (stackServed k s) = { stack k s with outage := none } :=
  (foldl_setChan_keeps (π := stack k) (fun _ _ _ => rfl) _ _ _).trans (stack_setStack_same k _ s hk)

theorem unfiled_stackServed : unfiled (stackServed k s).mem = unfiled s.mem :=
  foldl_setChan_keeps (π := fun x => unfiled x.mem) (fun _ _ _ => rfl) _ _ _

theorem chan_stackServed (hk : k < 8) {j : Nat} (hj : j ∈ stackChans k s) :
    (chan j (stackServed k s)).state = .online ∧ (chan j (stackServed k s)).trainedAt = s.time.now := by
  have h := chan_foldl_setChan (fun y now => { y with state := .online, tempAt := (stack k s).temp, trainedAt := now })
    (nodup_stackChans (k := k) (s := s)) (fun _ => lt_of_mem_stackChans hk) j
    (setStack k { stack k s with outage := none } s)
  rw [if_pos hj] at h
  exact ⟨congrArg ChanS.state h, congrArg ChanS.trainedAt h⟩

theorem speedAnswered_touches : Touches [.force, .canal, .sessions, .waiting] (stackServed k s) (speedAnswered k o s) := by
  unfold speedAnswered
  split
  · exact refl _
  · exact (Touches.complete _ ..).after (setPar_touches _ .memMaxBin k 0 _) rfl

theorem retrainsAnswered_touches : Touches [.sessions, .waiting] (speedAnswered k o s) (retrainsAnswered k o s) :=
  foldl (fun x c => Touches.complete x .retrain c rOk []) _ _

theorem mem_retrainsAnswered : (retrainsAnswered k o s).mem = (stackServed k s).mem :=
  ((retrainsAnswered_touches ..).mem rfl).trans ((speedAnswered_touches ..).mem rfl)

theorem stack_retrainsAnswered (hk : k < 8) : stack k (retrainsAnswered k o s) = { stack k s with outage := none } :=
  (stack_of_mem (mem_retrainsAnswered k o s) k).trans (stack_stackServed k s hk)

theorem memMaxBin_retrainsAnswered (h : o.asked ≠ none) :
    par .memMaxBin k 0 (retrainsAnswered k o s) = (stack k s).bin := by
  obtain ⟨b, hb⟩ := Option.ne_none_iff_exists'.1 h
  rw [par, (retrainsAnswered_touches ..).force rfl, speedAnswered]
  simp only [hb]
  rw [(Touches.complete _ ..).force rfl]
  exact par_setPar_eq ..

/-- A stack without a held request and without a queue returns to service. -/
theorem endOutage_idle (hk : k < 8) (hheld : (stack k s).held = none) (hqueue : (stack k s).queue = []) :
    (stack k (endOutage k o s)).outage = none ∧ (stack k (endOutage k o s)).bin = (stack k s).bin ∧
    (∀ j ∈ stackChans k s, (chan j (endOutage k o s)).state = .online ∧
      (chan j (endOutage k o s)).trainedAt = s.time.now) ∧
    (o.asked ≠ none → par .memMaxBin k 0 (endOutage k o s) = (stack k s).bin) ∧
    unfiled (endOutage k o s).mem = unfiled s.mem := by
  have hstack := stack_retrainsAnswered k o s hk
  have hnext : endOutage k o s = nextGather k (retrainsAnswered k o s) := by
    rw [endOutage_eq, takeHeld_of_none (by rw [hstack, hheld])]
  have hempty : (stack k (retrainsAnswered k o s)).queue = [] := by rw [hstack, hqueue]
  have hfile := stack_nextGather k (retrainsAnswered k o s) hk
  rw [hstack] at hfile
  obtain ⟨m, hm, hunfiled⟩ := nextGather_eq k (retrainsAnswered k o s)
  rw [hnext]
  refine ⟨by rw [hfile], by rw [hfile], fun j hj => ?_, fun h => ?_, ?_⟩
  · rw [chan_nextGather_of_ne _ _ (by rw [hempty]; exact nofun), chan_of_mem (mem_retrainsAnswered k o s)]
    exact chan_stackServed k s hk hj
  · rw [hm]
    exact memMaxBin_retrainsAnswered k o s h
  · rw [hm]
    exact hunfiled.trans ((congrArg unfiled (mem_retrainsAnswered k o s)).trans (unfiled_stackServed k s))

end

/-! ### Another attempt (R446) -/

section
variable (k : Nat) (o : Outage) (bin cause : Nat) (s : State)

theorem stack_tryBin (hk : k < 8) : stack k (tryBin k o bin cause s) =
    { stack k s with outage := some { o with bin := bin, since := s.time.now }, bin := bin } := by
  rw [tryBin, stack_changeBin _ _ _ _ hk, stack_setStack_same _ _ _ hk]

theorem chan_tryBin (j : Nat) : chan j (tryBin k o bin cause s) = chan j s := by
  rw [tryBin, chan_changeBin, chan_setStack]

theorem unfiled_tryBin : unfiled (tryBin k o bin cause s).mem = unfiled s.mem := by
  rw [tryBin, unfiled_changeBin, unfiled_setStack]

end

/-! ### The end of an attempt (R446, R447) -/

section
variable {k : Nat} {o : Outage} {s : State} {c : Nat} {r : List Nat}

theorem attemptDone_asked_lower (h : ∃ b, o.asked = some b ∧ b < o.from_) :
    attemptDone k o (c :: r) s = endOutage k o (changeBin k o.from_ 1 s) := by
  obtain ⟨b, hb, hlt⟩ := h
  exact if_pos (by simp [hb, hlt])

/-- No bin below the first was asked for. -/
theorem asked_any_eq_false (h : ∀ b, o.asked = some b → o.from_ ≤ b) :
    (o.asked.any fun b => decide (b < o.from_)) ≠ true := by
  cases ha : o.asked with
  | none => exact Bool.false_ne_true
  | some b =>
    have := h b ha
    simpa using this

theorem attemptDone_lower (h : ∀ b, o.asked = some b → o.from_ ≤ b) (hbin : o.bin < 4) :
    attemptDone k o (c :: r) s = tryBin k o (o.bin + 1) 0 s :=
  (if_neg (asked_any_eq_false h)).trans (if_pos hbin)

theorem attemptDone_retire (h : ∀ b, o.asked = some b → o.from_ ≤ b) (hbin : 4 ≤ o.bin)
    (hreserve : s.mem.reserve = true) (hmarking : s.mem.marking = false) :
    attemptDone k o (c :: r) s = tryBin k o o.from_ 0 (complete .retrain c rRefused [] (retireChannel c s)) :=
  (if_neg (asked_any_eq_false h)).trans ((if_neg hbin.not_gt).trans (if_neg (by simp [hreserve, hmarking])))

end

/-! ### Retirement (R448, R449) -/

section
variable (c : Nat) (s : State)

theorem setTile_touches (key : Nat) (x : Tile) : Touches [.data] s (setTile key x s) := of_fields rfl

theorem returnBerm_touches (area r : Nat) (b : Option BermEntry) : Touches [.data] s (returnBerm area r b s) := by
  cases b with
  | none => exact refl s
  | some e => exact of_fields rfl

theorem loseTile_touches (p : Plan) (area r c t dead : Nat) : Touches [.data] s (loseTile p area r c t dead s).2 := by
  unfold loseTile
  extract_lets key x hit lost s1
  have hs1 : Touches [.data] s s1 := ite (returnBerm_touches ..) (refl s)
  split
  · exact refl s
  · exact hs1.next (setTile_touches ..)

/-- A run over pairs of a count and a state touches what each step touches. -/
theorem foldl_pair_touches {α : Type} {l : List Part} {f : Nat × State → α → Nat × State}
    (hf : ∀ acc a, Touches l acc.2 (f acc a).2) (as : List α) (acc : Nat × State) :
    Touches l acc.2 (as.foldl f acc).2 :=
  as.foldlRecOn (motive := fun y => Touches l acc.2 y.2) f (Touches.refl acc.2) fun y h a _ => h.next (hf y a)

theorem loseTiles_touches (dead area r : Nat) : Touches [.data] s (loseTiles dead s area r) := by
  unfold loseTiles
  split
  case h_2 => exact refl s
  case h_1 p _ _ =>
    extract_lets all
    have h := foldl_pair_touches (f := fun (acc : Nat × State) (ct : Nat × Nat) =>
      ((acc.1 + if (loseTile p area r ct.1 ct.2 dead acc.2).1 = true then 1 else 0),
        (loseTile p area r ct.1 ct.2 dead acc.2).2)) (fun acc ct => loseTile_touches acc.2 ..) all (0, s)
    exact ite h (h.report (Touches.raise ..))

theorem checkRecords_eq : ∃ l, (checkRecords s).mem = { s.mem with sameStack := l } := by
  unfold checkRecords
  refine iteInduction (motive := fun x : State => ∃ l, x.mem = { s.mem with sameStack := l }) (fun _ => ⟨_, rfl⟩) fun _ => ?_
  extract_lets new
  cases place 5 s with
  | none => exact ⟨_, rfl⟩
  | some a =>
    dsimp -zeta only
    extract_lets s1
    have hs1 : Touches [] s s1 := foldl (fun x i => Touches.count x ..) _ _
    clear_value s1
    split
    · exact ⟨_, rfl⟩
    · refine ⟨s.mem.sameStack ++ new, (fire_mem _ _).trans ?_⟩
      exact congrArg (fun m : MemS => { m with sameStack := s.mem.sameStack ++ new }) (hs1.mem rfl)

theorem checkRecords_touches : Touches [.mem, .sticky, .episodes] s (checkRecords s) := by
  unfold checkRecords
  refine ite (refl s) ?_
  extract_lets new
  cases place 5 s with
  | none => exact refl s
  | some a =>
    dsimp -zeta only
    extract_lets s1
    have hs1 : Touches [] s s1 := foldl (fun x i => Touches.count x ..) _ _
    clear_value s1
    exact ite (refl s) ((Touches.fire _ ..).after (l := [.mem]) (hs1.trans (of_fields (l := [.mem]) (by exact rfl)) rfl) rfl)

/-- The tiles that a channel's retirement loses, region by region. -/
def tilesLost : State := loseTiles c (loseTiles c (loseTiles c (loseTiles c s 0 0) 0 1) 1 0) 1 1

theorem tilesLost_touches : Touches [.data] s (tilesLost c s) :=
  (((loseTiles_touches s c 0 0).next (loseTiles_touches _ c 0 1)).next (loseTiles_touches _ c 1 0)).next
    (loseTiles_touches _ c 1 1)

/-- The memory once a channel's band is given up, before the records are checked. -/
def bandGone (m : MemS) (x : ChanS) (cap : Nat) : MemS :=
  { m with
    chans := m.chans.set c { x with state := .retired }
    retiredFlash := insertAsc c m.retiredFlash
    redirects := m.redirects ++ [(c, cap)]
    marking := true
    reserve := false
    poison := []
    places := m.places.filter fun x => x.kind != 0
    cells := m.cells.filter fun x => x.1 / 2 ^ 30 != c }

theorem mem_retireChannel : ∃ l, (retireChannel c s).mem = { bandGone c s.mem (chan c s) (capGiB s) with sameStack := l } := by
  have hlost : (tilesLost c s).mem = s.mem := (tilesLost_touches c s).mem rfl
  unfold retireChannel
  extract_lets s1 src s2 srcMem m
  have hs1 : s1.mem = s.mem := hlost
  have hm : m = bandGone c s.mem (chan c s) (capGiB s) := by
    rw [← chan_of_mem hs1 c, ← hs1]
    rfl
  clear_value m
  obtain ⟨l, hl⟩ := checkRecords_eq { s2 with
    mem := m, boot := { s2.boot with staging := [] }, fault := { s2.fault with mirror := [] } }
  exact ⟨l, hl.trans (by rw [hm])⟩

theorem retireChannel_touches : Touches [.data, .mem, .boot, .sticky, .episodes] s (retireChannel c s) := by
  have hlost := tilesLost_touches c s
  unfold retireChannel
  extract_lets s1 src s2 srcMem m
  have hs1 : Touches [.data] s s1 := hlost
  have hs2 : Touches [.data, .mem] s s2 := hs1.trans (setChan_touches s1 c _) rfl
  clear_value s2 m
  exact (checkRecords_touches _).after (l := [.data, .mem, .boot]) (hs2.trans (of_fields (l := [.mem, .boot]) (by exact rfl)) rfl) rfl

theorem chan_retireChannel (hc : c < 128) : (chan c (retireChannel c s)).state = .retired := by
  obtain ⟨l, hl⟩ := mem_retireChannel c s
  rw [chan, hl]
  simp [bandGone, hc]

theorem stack_retireChannel (k : Nat) : stack k (retireChannel c s) = stack k s := by
  obtain ⟨l, hl⟩ := mem_retireChannel c s
  rw [stack, hl]
  rfl

end

end Sys2Proof.Machine
end

section
/-! O51: each row of training, retraining, speed and retirement (R443 to R450). -/

namespace Sys2Proof.Machine

open Touches (refl ite of_fields foldl)

/-! ### Triggers (R444) -/

section
variable {c : Nat} {g : Trigger} {x : State}

theorem queueRetrain_idle (h : (chan c x).state ≠ .online ∨ ∃ e ∈ (stack (c / 16) x).queue, e.1 = c) :
    queueRetrain c g x = x :=
  if_pos (h.imp_right fun ⟨e, he, hc⟩ => List.any_eq_true.2 ⟨e, he, beq_iff_eq.2 hc⟩)

section
variable (hstate : (chan c x).state = .online) (hnew : ∀ e ∈ (stack (c / 16) x).queue, e.1 ≠ c)
include hstate hnew

/-- A trigger that is queued. -/
theorem queueRetrain_eq : queueRetrain c g x =
    let z := setStack (c / 16) { stack (c / 16) x with
      queue := (stack (c / 16) x).queue ++ [(c, g)]
      gather := if (stack (c / 16) x).queue.isEmpty then some 0 else (stack (c / 16) x).gather } x
    if (stack (c / 16) x).queue.isEmpty then setChan c { chan c z with state := .retraining } z else z := by
  refine if_neg ?_
  rintro (h | h)
  · exact h hstate
  · obtain ⟨e, he, hc⟩ := List.any_eq_true.1 h
    exact hnew e he (beq_iff_eq.1 hc)

theorem queueRetrain_queued (hc : c < 128) :
    (stack (c / 16) (queueRetrain c g x)).queue = (stack (c / 16) x).queue ++ [(c, g)] ∧
    ((stack (c / 16) x).queue = [] →
      (stack (c / 16) (queueRetrain c g x)).gather = some 0 ∧ (chan c (queueRetrain c g x)).state = .retraining) ∧
    ((stack (c / 16) x).queue ≠ [] → (stack (c / 16) (queueRetrain c g x)).gather = (stack (c / 16) x).gather ∧
      (chan c (queueRetrain c g x)).state = .online) ∧
    ∀ j < 8, j ≠ c / 16 → stack j (queueRetrain c g x) = stack j x := by
  have hk : c / 16 < 8 := by omega
  rw [queueRetrain_eq hstate hnew]
  dsimp only
  split
  case isTrue hempty =>
    rw [List.isEmpty_iff] at hempty
    refine ⟨?_, fun _ => ⟨?_, ?_⟩, fun h => absurd hempty h, fun j _ hj => ?_⟩
    · rw [stack_setChan, stack_setStack_same _ _ _ hk]
    · rw [stack_setChan, stack_setStack_same _ _ _ hk]
    · rw [chan_setChan_same _ _ _ hc]
    · rw [stack_setChan, stack_setStack_of_ne _ _ hj]
  case isFalse hqueue =>
    rw [List.isEmpty_iff] at hqueue
    refine ⟨?_, fun h => absurd h hqueue, fun _ => ⟨?_, hstate⟩, fun j _ hj => stack_setStack_of_ne _ _ hj⟩
    · rw [stack_setStack_same _ _ _ hk]
    · rw [stack_setStack_same _ _ _ hk]

end

/-- Queueing changes the memory by what the memory holds. -/
theorem mem_queueRetrain_congr {x y : State} (h : y.mem = x.mem) (c : Nat) (g : Trigger) :
    (queueRetrain c g y).mem = (queueRetrain c g x).mem := by
  simp only [queueRetrain, chan_of_mem h, stack_of_mem h]
  split
  · exact h
  · split
    · simp only [setChan, setStack, chan, h]
    · simp only [setStack, h]

theorem queueRetrain_touches (c : Nat) (g : Trigger) (s : State) : Touches [.mem] s (queueRetrain c g s) := by
  unfold queueRetrain
  exact ite (refl s) (ite (of_fields rfl) (of_fields rfl))

end

/-! ### Commands that act where a condition holds -/

section
variable {i : Instr} {t : Nat} {s : State} {p : State → Prop} [DecidablePred p] {f : State → State}
  (hx : exec i s = act t (fun x => if p x then f x else x) s)
include hx

theorem does_if_pos (h : p (advance t s)) : Does i s (f (advance t s)) :=
  does_act hx (by rw [if_pos h]; exact .rfl' _)

theorem does_if_neg (h : ¬ p (advance t s)) : Does i s (advance t s) :=
  does_act hx (by rw [if_neg h]; exact .rfl' _)

end

section
variable (t : Nat) (c : Fin 128) (s : State)

theorem exec_retrainCorrRate : exec (.retrainCorrRate t c) s = act t (fun x =>
    if par0 .memRetrainCorr x < increase (chan c x).corrBase (ctrGet .outerCorr c x) ∧
        x.time.now ≤ (chan c x).corrSince + secT 1 then
      queueRetrain c .corr (setChan c { chan c x with
        corrBase := ctrGet .outerCorr c x, corrSince := x.time.now } x)
    else x) s := rfl

theorem exec_retrainTempDrift : exec (.retrainTempDrift t c) s = act t (fun x =>
    if 10 < ((stack (c / 16) x).temp - (chan c x).tempAt).natAbs then queueRetrain c .temp x else x) s := rfl

theorem exec_retrainPeriod : exec (.retrainPeriod t c) s = act t (fun x =>
    if (chan c x).trainedAt + nsT (par0 .memRetrainPeriod x) ≤ x.time.now then queueRetrain c .period x
    else x) s := rfl

end

/-! ### GATHER and APPLY (R445 to R447) -/

section
variable {t : Nat} {k : Fin 8} {s : State} {n : Nat}

/-- One slice of GATHER, where it is due. -/
def sliceTaken (k : Nat) (x : State) : State :=
  match (stack k x).gather with
  | some n =>
    if n < 256 ∧ (stack k x).sliceAt + refreshInterval k x ≤ x.time.now then
      setStack k { stack k x with gather := some (n + 1), sliceAt := x.time.now } x
    else x
  | none => x

theorem exec_gatherSlice : exec (.gatherSlice t k) s = act t (sliceTaken k) s := rfl

theorem sliceTaken_of_due {k : Nat} {x : State} (hgather : (stack k x).gather = some n) (hn : n < 256)
    (hdue : (stack k x).sliceAt + refreshInterval k x ≤ x.time.now) :
    sliceTaken k x = setStack k { stack k x with gather := some (n + 1), sliceAt := x.time.now } x := by
  simp only [sliceTaken, hgather, hn, hdue, and_self, if_true]

theorem sliceTaken_of_not {k : Nat} {x : State} (h : (∀ n, (stack k x).gather = some n → 256 ≤ n) ∨
    x.time.now < (stack k x).sliceAt + refreshInterval k x) : sliceTaken k x = x := by
  unfold sliceTaken
  split
  case h_2 => rfl
  case h_1 n hn =>
    refine if_neg fun ⟨hlt, hdue⟩ => ?_
    exact h.elim (fun hall => absurd (hall n hn) (Nat.not_le.2 hlt)) fun hearly => absurd hdue (Nat.not_le.2 hearly)

/-- What RETRAIN_APPLY does (R445 to R447). -/
def retrainApplied (k : Nat) (margin : Bool) (x : State) : State :=
  match (stack k x).queue with
  | [] => x
  | (c, g) :: _ =>
    if (stack k x).gather ≠ some 256 then x
    else if (stack k x).held.isSome then takeHeld k (endRetrain k c g 2 x)
    else if margin then nextGather k (endRetrain k c g 0 x)
    else beginOutage k (min 4 ((stack k x).bin + 1)) none (endRetrain k c g 1 x)

theorem exec_retrainApply (margin : Bool) : exec (.retrainApply t k margin) s = act t (retrainApplied k margin) s := rfl

end

section
variable {k : Nat} {margin : Bool} {x : State} {c b : Nat} {g : Trigger} {r : List (Nat × Trigger)}

theorem retrainApplied_idle (h : (stack k x).queue = [] ∨ (stack k x).gather ≠ some 256) :
    retrainApplied k margin x = x := by
  unfold retrainApplied
  split
  case h_1 => rfl
  case h_2 e c g hq => exact if_pos (h.resolve_left (by rw [hq]; exact List.cons_ne_nil _ _))

section
variable (hq : (stack k x).queue = (c, g) :: r) (hgather : (stack k x).gather = some 256)
include hq hgather

theorem retrainApplied_margin (hheld : (stack k x).held = none) :
    retrainApplied k true x = nextGather k (endRetrain k c g 0 x) := by
  simp [retrainApplied, hq, hgather, hheld]

theorem retrainApplied_held (hheld : (stack k x).held = some b) :
    retrainApplied k margin x = takeHeld k (endRetrain k c g 2 x) := by
  simp [retrainApplied, hq, hgather, hheld]

theorem retrainApplied_none (hheld : (stack k x).held = none) :
    retrainApplied k false x = beginOutage k (min 4 ((stack k x).bin + 1)) none (endRetrain k c g 1 x) := by
  simp [retrainApplied, hq, hgather, hheld]

end

section
variable (hk : k < 8) (hc : c < 128) (hq : (stack k x).queue = (c, g) :: r)
include hk hc hq

/-- A channel with margin is online again and the next one begins (R445). -/
theorem margin_applied (hother : ∀ e ∈ r, e.1 ≠ c) : let z := settle (nextGather k (endRetrain k c g 0 x))
    (chan c z).state = .online ∧ (chan c z).tempAt = (stack k x).temp ∧ (chan c z).trainedAt = x.time.now ∧
    (stack k z).queue = r ∧ (stack k z).gather = (if r = [] then none else some 0) ∧
    (stack k z).bin = (stack k x).bin ∧
    (∀ e ∈ r.head?, e.1 < 128 → (chan e.1 z).state = .retraining) ∧
    ctrGet .retrains c z = min ctrMax (ctrGet .retrains c x + 1) ∧
    eventCount .memRetrain z = min ctrMax (eventCount .memRetrain x + 1) := by
  intro z
  have hended := stack_endRetrain k c g 0 x hk
  have hrest : (stack k (endRetrain k c g 0 x)).queue = r := by rw [hended, hq]; rfl
  have hchan : chan c z = retrained k c 0 x := by
    rw [chan_settle, chan_nextGather_of_ne, chan_endRetrain_same _ _ _ _ _ hc]
    rw [hrest]
    exact fun e he => hother e (List.mem_of_mem_head? he)
  have hstack : stack k z = { stack k x with queue := r, gather := if r = [] then none else some 0 } := by
    rw [stack_settle, stack_nextGather _ _ hk, hrest, hended, hq]
    rfl
  rw [hchan, hstack]
  refine ⟨rfl, rfl, rfl, rfl, rfl, rfl, fun e he hlt => ?_, ?_, ?_⟩
  · rw [chan_settle]
    exact state_nextGather_head _ _ (by rwa [hrest]) hlt
  · rw [(settle_eq _).ctr _ _ rfl, nextGather_keeps _ _ (Uncounted.ctr rfl c), ctrGet_retrains_endRetrain]
  · rw [(settle_eq _).ev .memRetrain nofun, nextGather_keeps _ _ (Uncounted.event (e := .memRetrain) nofun nofun nofun),
      eventCount_memRetrain_endRetrain]

omit hq in
/-- A held request moves the stack instead (R447). -/
theorem held_applied (hheld : (stack k x).held = some b) (hb : b ≠ (stack k x).bin) :
    let z := settle (takeHeld k (endRetrain k c g 2 x))
    (stack k z).outage = some { since := x.time.now, bin := b, from_ := (stack k x).bin, asked := some b } ∧
    (stack k z).bin = b ∧ (stack k z).held = none ∧ (stack k z).queue = [] ∧
    (chan c z).trainedAt = (chan c x).trainedAt ∧
    eventCount .memSpeed z = min ctrMax (eventCount .memSpeed x + 1) := by
  intro z
  have hended := stack_endRetrain k c g 2 x hk
  have htaken := stack_heldTaken k (endRetrain k c g 2 x) hk
  have hz : z = settle (beginOutage k b (some b) (heldTaken k (endRetrain k c g 2 x))) :=
    congrArg settle (takeHeld_of_ne (by rw [hended, hheld]) (by rw [hended]; exact hb.symm))
  have hnow : (heldTaken k (endRetrain k c g 2 x)).time.now = x.time.now := by
    rw [time_heldTaken, (endRetrain_touches k c g 2 x).time rfl]
  have hstack := stack_beginOutage k b (some b) (heldTaken k (endRetrain k c g 2 x)) hk
  rw [htaken, hended, hnow] at hstack
  rw [hz, stack_settle, hstack]
  refine ⟨rfl, rfl, rfl, rfl, ?_, ?_⟩
  · have hchan : (chan c (heldTaken k (endRetrain k c g 2 x))).trainedAt = (chan c x).trainedAt := by
      rw [chan_heldTaken, chan_endRetrain_same k c g 2 x hc]
      rfl
    rw [chan_settle, chan_beginOutage _ _ _ _ hk, apply_ite ChanS.trainedAt, hchan]
    exact ite_self _
  · have hbin : (stack k (heldTaken k (endRetrain k c g 2 x))).bin ≠ b := by
      rw [htaken, hended]
      exact hb.symm
    rw [(settle_eq _).ev .memSpeed nofun, eventCount_memSpeed_beginOutage _ hk hbin,
      heldTaken_keeps _ _ (Uncounted.event (e := .memSpeed) nofun nofun nofun),
      endRetrain_keeps _ _ _ _ _ (Uncounted.event (e := .memSpeed) nofun nofun nofun) _ fun _ => rfl]
    exact fun l y => (eventCount_raise ..).trans ((eventCount_noteEvent ..).trans (if_neg nofun))

omit hq in
/-- Without margin the stack steps down (R446). -/
theorem stepped_down (hbin : (stack k x).bin < 4) :
    let z := settle (beginOutage k (min 4 ((stack k x).bin + 1)) none (endRetrain k c g 1 x))
    (stack k z).outage = some
      { since := x.time.now, bin := (stack k x).bin + 1, from_ := (stack k x).bin, asked := none } ∧
    (stack k z).bin = (stack k x).bin + 1 ∧ (stack k z).queue = [] ∧
    (∀ j ∈ stackChans k x, (chan j z).state = .outage) ∧
    ctrGet .speedSteps k z = min ctrMax (ctrGet .speedSteps k x + 1) ∧
    eventCount .memSpeed z = min ctrMax (eventCount .memSpeed x + 1) ∧
    z.fault.sticky.getLsbD Fs.dramSpeedStep.num = true := by
  intro z
  have hended := stack_endRetrain k c g 1 x hk
  have hmin : min 4 ((stack k x).bin + 1) = (stack k x).bin + 1 := Nat.min_eq_right hbin
  have hlt : (stack k (endRetrain k c g 1 x)).bin < (stack k x).bin + 1 := by
    rw [hended]
    exact Nat.lt_succ_self _
  have hnow : (endRetrain k c g 1 x).time.now = x.time.now := by
    rw [(endRetrain_touches k c g 1 x).time rfl]
  have hstack := stack_beginOutage k ((stack k x).bin + 1) none (endRetrain k c g 1 x) hk
  rw [hended, hnow] at hstack
  have hz : z = settle (beginOutage k ((stack k x).bin + 1) none (endRetrain k c g 1 x)) := by rw [← hmin]
  rw [hz, stack_settle, hstack]
  refine ⟨rfl, rfl, rfl, fun j hj => ?_, ?_, ?_, ?_⟩
  · have hup : j ∈ stackChans k (endRetrain k c g 1 x) := by
      by_cases hjc : j = c
      · subst hjc
        refine List.mem_filter.2 ⟨(List.mem_filter.1 hj).1, ?_⟩
        rw [chan_endRetrain_same _ _ _ _ _ hc]
        rfl
      · refine List.mem_filter.2 ⟨(List.mem_filter.1 hj).1, ?_⟩
        rw [chan_endRetrain_of_ne _ _ _ _ _ hjc]
        exact (List.mem_filter.1 hj).2
    rw [chan_settle, chan_beginOutage _ _ _ _ hk, if_pos hup]
  · rw [(settle_eq _).ctr _ _ rfl, ctrGet_speedSteps_beginOutage hk hlt,
      endRetrain_keeps _ _ _ _ _ (Uncounted.ctr rfl k) (fun l y => ctrGet_raise rfl ..)]
    exact fun y => ctrGet_count_of_ne (c := .speedSteps) (c' := .retrains) nofun ..
  · rw [(settle_eq _).ev .memSpeed nofun, eventCount_memSpeed_beginOutage _ hk hlt.ne,
      endRetrain_keeps _ _ _ _ _ (Uncounted.event (e := .memSpeed) nofun nofun nofun) _ fun _ => rfl]
    exact fun l y => (eventCount_raise ..).trans ((eventCount_noteEvent ..).trans (if_neg nofun))
  · rw [settle_fault_sticky]
    exact sticky_beginOutage hk hlt

end

end

end Sys2Proof.Machine
end

section
/-! O51: the ends of outages, the markers of a retirement, and the commands for memory (R443 to R450). -/

namespace Sys2Proof.Machine

open Touches (refl ite of_fields foldl)

/-! ### STACK_STEP_DOWN_DONE (R446, R449) -/

/-- The channels of a stack that fail at its bin. -/
def failing (k : Nat) (fails : List (Fin 16)) (x : State) : List Nat :=
  sortAsc ((fails.map fun c => 16 * k + c.val).filter (stackChans k x).contains)

/-- What STACK_STEP_DOWN_DONE does. -/
def attemptEnded (k : Nat) (fails : List (Fin 16)) (x : State) : State :=
  match (stack k x).outage with
  | none => x
  | some o => attemptDone k o (failing k fails x) (shiftGranted k (x.time.now - o.since) x)

section
variable {t : Nat} {k : Fin 8} {fails : List (Fin 16)} {s : State}

theorem exec_stackStepDownDone : exec (.stackStepDownDone t k fails) s = act t (attemptEnded k fails) s := rfl

end

theorem mem_of_mem_failing {k : Nat} {fails : List (Fin 16)} {x : State} {c : Nat} (h : c ∈ failing k fails x) :
    c ∈ stackChans k x := by
  rw [failing, mem_sortAsc, List.mem_filter] at h
  exact List.contains_iff_mem.1 h.2

section
variable (k span : Nat) (x : State)

theorem stack_shiftGranted (j : Nat) : stack j (shiftGranted k span x) = stack j x := rfl
theorem mem_shiftGranted : (shiftGranted k span x).mem = x.mem := rfl
theorem time_shiftGranted : (shiftGranted k span x).time = x.time := rfl
theorem capGiB_shiftGranted : capGiB (shiftGranted k span x) = capGiB x := rfl
theorem stackChans_shiftGranted (j : Nat) : stackChans j (shiftGranted k span x) = stackChans j x := rfl

end

section
variable {k : Nat} {o : Outage} {x : State} (hk : k < 8)
include hk

/-- Every channel trains: the stack returns to service (R446). -/
theorem outage_ended (hheld : (stack k x).held = none) (hqueue : (stack k x).queue = []) (span : Nat) :
    let z := settle (attemptDone k o [] (shiftGranted k span x))
    (stack k z).outage = none ∧ (stack k z).bin = (stack k x).bin ∧
    (∀ j ∈ stackChans k x, (chan j z).state = .online ∧ (chan j z).trainedAt = x.time.now) ∧
    (o.asked ≠ none → par .memMaxBin k 0 z = (stack k x).bin) ∧ z.mem.cells = x.mem.cells := by
  intro z
  obtain ⟨houtage, hbin, hchans, hmax, hunfiled⟩ := endOutage_idle k o (shiftGranted k span x) hk hheld hqueue
  refine ⟨?_, ?_, fun j hj => ?_, fun h => ?_, ?_⟩
  · rw [stack_settle]
    exact houtage
  · rw [stack_settle]
    exact hbin
  · rw [chan_settle]
    exact hchans j hj
  · rw [par, settle_force]
    exact hmax h
  · rw [settle_mem]
    exact cells_of_unfiled hunfiled

variable {c : Nat} {r : List Nat}

/-- A request for a higher rate that fails returns to the old bin (R447). -/
theorem request_failed (h : ∃ b, o.asked = some b ∧ b < o.from_) (hheld : (stack k x).held = none)
    (hqueue : (stack k x).queue = []) (span : Nat) :
    let z := settle (attemptDone k o (c :: r) (shiftGranted k span x))
    (stack k z).outage = none ∧ (stack k z).bin = o.from_ ∧ par .memMaxBin k 0 z = o.from_ ∧
    z.mem.redirects = x.mem.redirects := by
  intro z
  have hback := stack_changeBin k o.from_ 1 (shiftGranted k span x) hk
  obtain ⟨houtage, hbin, -, hmax, hunfiled⟩ := endOutage_idle k o (changeBin k o.from_ 1 (shiftGranted k span x)) hk
    (by rw [hback]; exact hheld) (by rw [hback]; exact hqueue)
  have hz : z = settle (endOutage k o (changeBin k o.from_ 1 (shiftGranted k span x))) :=
    congrArg settle (attemptDone_asked_lower h)
  rw [hback] at hbin hmax
  obtain ⟨b, hb, -⟩ := h
  rw [hz, stack_settle, settle_mem, par, settle_force]
  refine ⟨houtage, hbin, hmax (by rw [hb]; exact Option.some_ne_none b), redirects_of_unfiled (hunfiled.trans ?_)⟩
  exact unfiled_changeBin ..

/-- A failed attempt above bin 4 is followed by one at the next bin (R446). -/
theorem stepped_again (h : ∀ b, o.asked = some b → o.from_ ≤ b) (hbin : o.bin < 4) (span : Nat) :
    let z := settle (attemptDone k o (c :: r) (shiftGranted k span x))
    (stack k z).outage = some { o with bin := o.bin + 1, since := x.time.now } ∧ (stack k z).bin = o.bin + 1 ∧
    z.mem.redirects = x.mem.redirects := by
  intro z
  have hz : z = settle (tryBin k o (o.bin + 1) 0 (shiftGranted k span x)) := congrArg settle (attemptDone_lower h hbin)
  rw [hz, stack_settle, settle_mem, stack_tryBin _ _ _ _ _ hk, time_shiftGranted]
  exact ⟨rfl, rfl, redirects_of_unfiled (unfiled_tryBin ..)⟩

/-- At bin 4 the lowest failing channel is retired (R446, R448, R449). -/
theorem channel_retired (hc : c < 128) (h : ∀ b, o.asked = some b → o.from_ ≤ b) (hbin : 4 ≤ o.bin)
    (hreserve : x.mem.reserve = true) (hmarking : x.mem.marking = false) (span : Nat) :
    let z := settle (attemptDone k o (c :: r) (shiftGranted k span x))
    (chan c z).state = .retired ∧ z.mem.redirects = x.mem.redirects ++ [(c, capGiB x)] ∧ z.mem.marking = true ∧
    z.mem.reserve = false ∧ capGiB z = capGiB x - 1 ∧ c ∈ z.mem.retiredFlash ∧
    (stack k z).outage = some { o with bin := o.from_, since := x.time.now } ∧ (stack k z).bin = o.from_ := by
  intro z
  obtain ⟨y, hy⟩ : ∃ y, y = shiftGranted k span x := ⟨_, rfl⟩
  have hmem : y.mem = x.mem := hy ▸ rfl
  have hnow : y.time.now = x.time.now := hy ▸ rfl
  obtain ⟨w, hw⟩ : ∃ w, w = complete .retrain c rRefused [] (retireChannel c y) := ⟨_, rfl⟩
  have hwmem : w.mem = (retireChannel c y).mem := hw ▸ (Touches.complete _ ..).mem rfl
  have hwnow : w.time.now = x.time.now := by
    rw [hw, (Touches.complete _ ..).time rfl, (retireChannel_touches c y).time rfl, hnow]
  have hz : z = settle (tryBin k o o.from_ 0 w) := by
    rw [hw, hy]
    exact congrArg settle (attemptDone_retire h hbin hreserve hmarking)
  obtain ⟨l, hl⟩ := mem_retireChannel c y
  have hunfiled : unfiled z.mem = unfiled { bandGone c y.mem (chan c y) (capGiB y) with sameStack := l } := by
    rw [hz, settle_mem, unfiled_tryBin, hwmem, hl]
  have hredirects : z.mem.redirects = x.mem.redirects ++ [(c, capGiB x)] := by
    rw [redirects_of_unfiled hunfiled, ← hmem, show capGiB x = capGiB y by rw [capGiB, capGiB, n0, n0, hmem]]
    rfl
  have hlist : z.mem.list = x.mem.list := by
    rw [← hmem]
    exact (congrArg (·.list) hunfiled :)
  have hstack : stack k z = { stack k x with outage := some { o with bin := o.from_, since := x.time.now }, bin := o.from_ } := by
    rw [hz, stack_settle, stack_tryBin _ _ _ _ _ hk, hwnow, stack_of_mem hwmem, stack_retireChannel, stack_of_mem hmem]
  refine ⟨?_, hredirects, (congrArg (·.marking) hunfiled :), (congrArg (·.reserve) hunfiled :), ?_, ?_, ?_, ?_⟩
  · rw [hz, chan_settle, chan_tryBin, chan_of_mem hwmem, chan_retireChannel c y hc]
  · rw [capGiB, n0, hredirects, hlist, List.length_append, List.length_singleton, ← Nat.sub_sub]
    rfl
  · rw [show z.mem.retiredFlash = insertAsc c y.mem.retiredFlash from (congrArg (·.retiredFlash) hunfiled :)]
    exact mem_insertAsc.2 (.inl rfl)
  · rw [hstack]
  · rw [hstack]

end

/-! ### RETIREMENT_MARKERS_DONE (R450) -/

/-- The markers of a retirement written, and the new RESERVE placed. -/
def markersWritten (x : State) : State := placeReserve (readmit { x with mem := { x.mem with marking := false } })

/-- What RETIREMENT_MARKERS_DONE reports. -/
def markersReported (x : State) : State :=
  fire .dramChannelRetired (raise .memChannelRetired [(x.mem.redirects.getLastD (0, 0)).1, capGiB (markersWritten x),
    if (markersWritten x).plan.shedDue.isSome then 1 else 0] (markersWritten x))

theorem exec_retirementMarkersDone (t : Nat) (s : State) : exec (.retirementMarkersDone t) s =
    act t (fun x => if !x.mem.marking then x else markersReported x) s := rfl

section
variable (x : State)

theorem mem_markersWritten : ∃ r l,
    (markersWritten x).mem = { x.mem with marking := false, reserve := r, places := l } := by
  obtain ⟨r, l, h⟩ := placeReserve_eq (s := readmit { x with mem := { x.mem with marking := false } })
  refine ⟨r, l, (congrArg State.mem h).trans ?_⟩
  rw [(readmit_touches { x with mem := { x.mem with marking := false } }).mem rfl]

theorem eventCount_markersWritten :
    eventCount .memChannelRetired (markersWritten x) = eventCount .memChannelRetired x := by
  obtain ⟨r, l, h⟩ := placeReserve_eq (s := readmit { x with mem := { x.mem with marking := false } })
  rw [markersWritten, h]
  exact (Uncounted.event (e := .memChannelRetired) nofun nofun nofun).readmit _

theorem markersReported_leaves : let z := settle (markersReported x)
    z.mem.marking = false ∧ z.mem.redirects = x.mem.redirects ∧ z.mem.cells = x.mem.cells ∧
    eventCount .memChannelRetired z = min ctrMax (eventCount .memChannelRetired x + 1) ∧
    z.fault.sticky.getLsbD Fs.dramChannelRetired.num = true := by
  intro z
  obtain ⟨r, l, hwritten⟩ := mem_markersWritten x
  have hmem : z.mem = { x.mem with marking := false, reserve := r, places := l } := by
    rw [settle_mem, markersReported, fire_mem, raise_mem, hwritten]
  rw [hmem]
  refine ⟨rfl, rfl, rfl, ?_, ?_⟩
  · rw [(settle_eq _).ev .memChannelRetired nofun, markersReported, eventCount_fire (e := .memChannelRetired) nofun nofun,
      eventCount_raise, eventCount_noteEvent, if_pos rfl, eventCount_markersWritten]
  · rw [settle_fault_sticky]
    exact sticky_fire_same ..

end

/-! ### The commands (R443, R444, R447) -/

section
variable {t : Nat} {d : Dgram} {s : State}

theorem waiting_settle (x : State) : (settle x).zcp.waiting = x.zcp.waiting := (Touches.settle x).waiting rfl

theorem stack_settle_wait (c : Ctx) (why : Why) (unit : Nat) (y : State) (k : Nat) :
    stack k (settle (wait c why unit y).state) = stack k y := stack_settle k _

/-- A command that waits is among the commands that wait. -/
theorem mem_waiting_wait (why : Why) (unit : Nat) (y : State) :
    ∃ w ∈ (settle (wait d.ctx why unit y).state).zcp.waiting,
      w.why = why.code ∧ w.unit = unit ∧ w.slot = d.session ∧ w.seq = d.seq :=
  ⟨⟨d.session, d.seq, d.typ, why.code, unit⟩, by
    rw [waiting_settle]
    exact List.mem_append_right _ (List.mem_singleton_self _), rfl, rfl, rfl, rfl⟩

section
variable {c : Nat} (hd : Accepted 0x0702 d (advance t s)) (hlen : d.payload.length = Config.payloadLength 0x0702)
include hd hlen

theorem zcpMemRetrain_refused (h : 127 < c ∨ (chan c (advance t s)).state = .absent ∨ (chan c (advance t s)).state = .retired) :
    Answers (.zcpMemRetrain t d c) d rBadValue s (advance t s) := by
  refine answers_of_laid (body := memRetrain c) rfl hd hlen (by decide) fun y hy => ⟨[], y, ?_, hy⟩
  rw [← chan_of_mem (mem_of_restZ hy) c] at h
  exact if_pos h

theorem zcpMemRetrain_waits (hc : c ≤ 127) (habsent : (chan c (advance t s)).state ≠ .absent)
    (hretired : (chan c (advance t s)).state ≠ .retired) : Leads (.zcpMemRetrain t d c) s fun z =>
      z.mem = (queueRetrain c .command (advance t s)).mem ∧ z.force = (advance t s).force ∧
      ∃ w ∈ z.zcp.waiting, w.why = Why.retrain.code ∧ w.unit = c ∧ w.slot = d.session ∧ w.seq = d.seq := by
  have htaken := restZ_taken d (advance t s)
  have hmem := mem_of_restZ htaken
  have hchan := chan_of_mem hmem c
  refine leads_of_waits (body := memRetrain c) rfl hd hlen (if_neg ?_) ⟨?_, ?_, mem_waiting_wait ..⟩
  · rw [hchan]
    exact fun h => h.elim (Nat.not_lt.2 hc) fun h => h.elim habsent hretired
  · rw [settle_mem]
    exact mem_queueRetrain_congr hmem c .command
  · rw [settle_force]
    exact ((queueRetrain_touches c .command (taken d (advance t s))).force rfl).trans (force_of_restZ htaken)

end

section
variable {k bin : Nat} (hd : Accepted 0x0703 d (advance t s)) (hlen : d.payload.length = Config.payloadLength 0x0703)
include hd hlen

theorem zcpMemSpeed_refused (h : 7 < k ∨ (stack k (advance t s)).fitted = false ∨ 4 < bin) :
    Answers (.zcpMemSpeed t d k bin) d rBadValue s (advance t s) := by
  refine answers_of_laid (body := memSpeed k bin) rfl hd hlen (by decide) fun y hy => ⟨[], y, ?_, hy⟩
  rw [← stack_of_mem (mem_of_restZ hy) k, ← Bool.not_eq_true'] at h
  exact if_pos h

section
variable (hk : k ≤ 7) (hfitted : (stack k (advance t s)).fitted = true) (hbin : bin ≤ 4)
include hk hfitted hbin

omit hd hlen in
/-- A request that is not refused goes on by what the stack does. -/
theorem memSpeed_eq {y : State} (hstack : stack k y = stack k (advance t s)) (c : Ctx) : memSpeed k bin c y =
    if (stack k (advance t s)).outage.isSome ∨ (stack k (advance t s)).gather.isSome then
      wait c .speedHeld k (requestSpeed k bin y)
    else if (stack k (advance t s)).bin = bin then answer rOk (Config.replyBody 0x0703 [bin]) (requestSpeed k bin y)
    else wait c .speed k (requestSpeed k bin y) := by
  unfold memSpeed
  rw [hstack]
  exact if_neg (by simp [hfitted, Nat.not_lt.2 hk, Nat.not_lt.2 hbin])

theorem zcpMemSpeed_held (hbusy : (stack k (advance t s)).outage ≠ none ∨ (stack k (advance t s)).gather ≠ none) :
    Leads (.zcpMemSpeed t d k bin) s fun z => (stack k z).held = some bin ∧
      (stack k z).bin = (stack k (advance t s)).bin ∧ (stack k z).outage = (stack k (advance t s)).outage ∧
      ∃ w ∈ z.zcp.waiting, w.why = Why.speedHeld.code ∧ w.unit = k ∧ w.slot = d.session ∧ w.seq = d.seq := by
  have hstack := stack_of_mem (mem_of_restZ (restZ_taken d (advance t s))) k
  have hsome : (stack k (advance t s)).outage.isSome ∨ (stack k (advance t s)).gather.isSome :=
    hbusy.imp Option.isSome_iff_ne_none.2 Option.isSome_iff_ne_none.2
  refine leads_of_waits (body := memSpeed k bin) rfl hd hlen
    ((memSpeed_eq hk hfitted hbin hstack d.ctx).trans (if_pos hsome)) ?_
  have hrequest : stack k (requestSpeed k bin (taken d (advance t s))) =
      { stack k (advance t s) with held := some bin } := by
    unfold requestSpeed
    rw [hstack, if_neg (by simp [hfitted]), if_pos hsome, stack_of_mem ((Touches.complete _ ..).mem rfl),
      stack_setStack_same _ _ _ (by omega)]
  have hz : stack k (settle (wait d.ctx .speedHeld k (requestSpeed k bin (taken d (advance t s)))).state) =
      { stack k (advance t s) with held := some bin } := by rw [stack_settle_wait, hrequest]
  rw [hz]
  exact ⟨rfl, rfl, rfl, mem_waiting_wait ..⟩

section
variable (houtage : (stack k (advance t s)).outage = none) (hgather : (stack k (advance t s)).gather = none)
include houtage hgather

theorem zcpMemSpeed_met (hsame : (stack k (advance t s)).bin = bin) :
    Answers (.zcpMemSpeed t d k bin) d rOk s (setPar .memMaxBin k 0 bin (advance t s)) := by
  refine answers_of_laid (body := memSpeed k bin) rfl hd hlen (by decide) fun y hy =>
    ⟨Config.replyBody 0x0703 [bin], setPar .memMaxBin k 0 bin y, ?_, ?_⟩
  · have hstack := stack_of_mem (mem_of_restZ hy) k
    rw [memSpeed_eq hk hfitted hbin hstack, houtage, hgather, if_neg (by simp), if_pos hsame]
    refine congrArg (answer rOk _) ?_
    unfold requestSpeed
    rw [hstack, if_neg (by simp [hfitted]), houtage, hgather, if_neg (by simp), if_pos hsame]
  · exact (congrArg (fun w => setPar .memMaxBin k 0 bin w) hy :)

theorem zcpMemSpeed_begins (hother : (stack k (advance t s)).bin ≠ bin) :
    Leads (.zcpMemSpeed t d k bin) s fun z =>
      (stack k z).outage = some { since := (advance t s).time.now, bin := bin, from_ := (stack k (advance t s)).bin
                                  asked := some bin } ∧
      (stack k z).bin = bin ∧
      ∃ w ∈ z.zcp.waiting, w.why = Why.speed.code ∧ w.unit = k ∧ w.slot = d.session ∧ w.seq = d.seq := by
  have htaken := restZ_taken d (advance t s)
  have hstack := stack_of_mem (mem_of_restZ htaken) k
  have hnow : (taken d (advance t s)).time.now = (advance t s).time.now := congrArg TimeS.now (time_of_restZ htaken)
  have hbody : memSpeed k bin d.ctx (taken d (advance t s)) =
      wait d.ctx .speed k (requestSpeed k bin (taken d (advance t s))) := by
    rw [memSpeed_eq hk hfitted hbin hstack, houtage, hgather, if_neg (by simp), if_neg hother]
  refine leads_of_waits (body := memSpeed k bin) rfl hd hlen hbody ?_
  have hrequest : requestSpeed k bin (taken d (advance t s)) = beginOutage k bin (some bin) (taken d (advance t s)) := by
    unfold requestSpeed
    rw [hstack, if_neg (by simp [hfitted]), houtage, hgather, if_neg (by simp), if_neg hother]
  have hz : stack k (settle (wait d.ctx .speed k (requestSpeed k bin (taken d (advance t s)))).state) =
      stack k (beginOutage k bin (some bin) (taken d (advance t s))) := by rw [stack_settle_wait, hrequest]
  rw [hz, stack_beginOutage _ _ _ _ (by omega), hstack, hnow]
  exact ⟨rfl, rfl, mem_waiting_wait ..⟩

end

end

end

end

end Sys2Proof.Machine
end

section
/-! O51 assembled (R443 to R450). -/

namespace Sys2Proof.Machine

/-- Settles O51: the files of channels and stacks and the rest of the memory are followed through each row's
operations; what a row counts is not touched by readmission, replies and the end of the command. -/
theorem channelsRetrainStepDownAndRetire : Obligations.ChannelsRetrainStepDownAndRetire := by
  unfold Obligations.ChannelsRetrainStepDownAndRetire
  refine ⟨fun c g x => ?_, fun t c s => ?_, fun t k s => ?_, fun t k margin s => ?_, fun t k fails s => ?_, fun t s => ?_,
    fun t d c s => ?_, fun t d k bin s => ?_, fun t d s => ?_⟩
  · intro k z hc
    exact ⟨queueRetrain_idle, fun hstate hnew => queueRetrain_queued hstate hnew hc⟩
  · intro x y n
    refine ⟨fun hrate hsince => does_if_pos (exec_retrainCorrRate t c s) ⟨hrate, hsince⟩, fun h =>
      does_if_neg (exec_retrainCorrRate t c s) fun ⟨hrate, hsince⟩ =>
        h.elim (Nat.not_le.2 hrate) (fun hlate => Nat.not_lt.2 hsince hlate), ?_, ?_, ?_, ?_⟩
    · exact fun h => does_if_pos (exec_retrainTempDrift t c s) h
    · exact fun h => does_if_neg (exec_retrainTempDrift t c s) (Nat.not_lt.2 h)
    · exact fun h => does_if_pos (exec_retrainPeriod t c s) h
    · exact fun h => does_if_neg (exec_retrainPeriod t c s) (Nat.not_le.2 h)
  · intro x y due
    refine ⟨fun n hgather hn hdue => ?_, fun h => ?_⟩
    · exact does_act exec_gatherSlice (sliceTaken_of_due hgather hn hdue ▸ .rfl' _)
    · exact does_act exec_gatherSlice (sliceTaken_of_not h ▸ .rfl' _)
  · intro x y
    refine ⟨fun h => does_act (exec_retrainApply margin) ((retrainApplied_idle h).symm ▸ .rfl' _),
      fun c g r hq hgather hc hother => ⟨?_, ?_, ?_⟩⟩
    · rintro rfl hheld
      refine leads_act (exec_retrainApply true) ?_
      rw [retrainApplied_margin hq hgather hheld]
      exact margin_applied k.isLt hc hq hother
    · intro b hheld hb
      refine leads_act (exec_retrainApply margin) ?_
      rw [retrainApplied_held hq hgather hheld]
      exact held_applied k.isLt hc hheld hb
    · rintro rfl hheld hbin
      refine leads_act (exec_retrainApply false) ?_
      rw [retrainApplied_none hq hgather hheld]
      exact stepped_down k.isLt hc hbin
  · intro x y bad
    refine ⟨fun h => does_act exec_stackStepDownDone ?_, fun o ho => ?_⟩
    · rw [attemptEnded, h]
      exact .rfl' _
    · have hexec : exec (.stackStepDownDone t k fails) s = .next (settle (attemptDone k o bad
          (shiftGranted k (x.time.now - o.since) x))) := by
        rw [exec_stackStepDownDone, act, attemptEnded, ho]
        rfl
      refine ⟨fun hbad hheld hqueue => ⟨_, hexec, ?_⟩, fun hbad hheld hqueue hlower => ⟨_, hexec, ?_⟩,
        fun hbad hnot hbin => ⟨_, hexec, ?_⟩, fun c r hbad hnot hbin hreserve hmarking => ⟨_, hexec, ?_⟩⟩
      · rw [hbad]
        exact outage_ended k.isLt hheld hqueue _
      · obtain ⟨c, r, hcr⟩ := List.exists_cons_of_ne_nil hbad
        rw [hcr]
        exact request_failed k.isLt hlower hheld hqueue _
      · obtain ⟨c, r, hcr⟩ := List.exists_cons_of_ne_nil hbad
        rw [hcr]
        exact stepped_again k.isLt hnot hbin _
      · rw [hbad]
        have hmem : c ∈ failing k fails x := by
          rw [show failing k fails x = c :: r from hbad]
          exact List.mem_cons_self
        exact channel_retired k.isLt (lt_of_mem_stackChans k.isLt (mem_of_mem_failing hmem)) hnot hbin hreserve hmarking _
  · intro x
    refine ⟨fun h => does_act (exec_retirementMarkersDone t s) (by rw [show (!(advance t s).mem.marking) = true from congrArg not h, if_pos rfl]; exact .rfl' _), fun h =>
      leads_act (exec_retirementMarkersDone t s) ?_⟩
    rw [show (!(advance t s).mem.marking) = false from congrArg not h, if_neg Bool.false_ne_true]
    exact markersReported_leaves x
  · intro x st hd hlen
    exact ⟨zcpMemRetrain_refused hd hlen, zcpMemRetrain_waits hd hlen⟩
  · intro x y hd hlen
    refine ⟨zcpMemSpeed_refused hd hlen, fun hk hfitted hbin => ⟨zcpMemSpeed_held hd hlen hk hfitted hbin, ?_, ?_⟩⟩
    · exact zcpMemSpeed_met hd hlen hk hfitted hbin
    · exact zcpMemSpeed_begins hd hlen hk hfitted hbin
  · intro x hd hlen
    exact answers_of_sized (body := clearRetired) rfl hd (by decide) hlen fun y hy =>
      ⟨[], _, rfl, (congrArg (fun w : State => { w with mem := { w.mem with retiredFlash := [] } }) hy :)⟩

end Sys2Proof.Machine
end

section
/-! What a piece of a canal request leaves alone at its target (R455 to R467): every quantity that registers, SRAM,
memories, cores and errors do not hold. -/

namespace Sys2Proof.Machine

/-- A quantity beside what pieces at targets other than the register blocks change. -/
structure PieceAside {α : Type} (π : State → α) : Prop where
  count : ∀ c i n s, c ≠ Ctr.pieces → π (count c i n s) = π s
  raise : ∀ e l s, π (raise e l s) = π s
  fire : ∀ f s, π (fire f s) = π s
  mem : ∀ v s, π { s with mem := v } = π s
  data : ∀ v s, π { s with data := v } = π s
  weir : ∀ v s, π { s with weir := v } = π s
  sluice : ∀ v s, π { s with sluice := v } = π s
  ring : ∀ l (s : State), π { s with fault := { s.fault with ring := l } } = π s
  canal : ∀ v r b (s : State), π { s with canal := { s.canal with masters := v, sram := r, semFree := b } } = π s

/-- A quantity beside what accesses to the register blocks change as well. -/
structure RegAside {α : Type} (π : State → α) : Prop extends PieceAside π where
  ctr : ∀ l (s : State), π { s with ctr := l } = π s
  egress : ∀ v (s : State), π { s with egress := v } = π s
  force : ∀ f j (s : State), π { s with force := f, canal := { s.canal with journal := j } } = π s
  txts : ∀ v (s : State), π { s with time := { s.time with txts := v } } = π s
  sticky : ∀ v (s : State), π { s with fault := { s.fault with sticky := v } } = π s

/-! ### Errors and findings -/

section
variable {α : Type} {π : State → α} (h : PieceAside π)
include h

theorem PieceAside.setMaster (m : Nat) (x : CanalMaster) (s : State) : π (setMaster m x s) = π s := h.canal _ _ _ s
theorem PieceAside.setCore (n : Nat) (c : Core) (s : State) : π (setCore n c s) = π s := h.sluice _ s

theorem PieceAside.decodeError (m a : Nat) (s : State) : π (decodeError m a s) = π s :=
  (h.fire ..).trans ((h.count .decodeErrors _ _ _ nofun).trans (h.setMaster ..))

theorem PieceAside.dataError (m n : Nat) (s : State) : π (dataError m n s) = π s := by
  unfold Machine.dataError
  split
  · rfl
  · exact (h.count .dataErrors _ _ _ nofun).trans (h.setMaster ..)

theorem PieceAside.countCorr (c : Nat) (s : State) : π (countCorr c s) = π s := by
  unfold Machine.countCorr
  extract_lets x s1
  have hs1 : π s1 = π s := by
    unfold s1
    split
    · exact h.mem ..
    · rfl
  exact (h.count .outerCorr _ _ _ nofun).trans hs1

theorem PieceAside.readOutcome (c off : Nat) (e : ReadEnd) (s : State) : π (readOutcome c off e s) = π s := by
  cases e
  case clean => rfl
  case corrected => exact h.countCorr c s
  case poison => exact h.count .poisonReads _ _ _ nofun
  case uncorrectable => exact (h.fire ..).trans ((h.count .uncorr _ _ _ nofun).trans (h.mem ..))

theorem PieceAside.trapCore (n cause : Nat) (s : State) : π (trapCore n cause s) = π s :=
  (h.raise ..).trans ((h.fire ..).trans ((h.count .traps _ _ _ nofun).trans
    ((coreState_keeps h.raise (fun _ _ _ => h.sluice ..) ..).trans (h.sluice ..))))

theorem PieceAside.culvertErrors (d slot : Nat) (keys : List Nat) (corrected : Nat) (s : State) :
    π (culvertErrors d slot keys corrected s) = π s := by
  refine (foldl_keeps (π := π) (fun x key => ?_) keys _).trans (h.count .culvertCorr _ _ _ nofun)
  dsimp only
  split
  · rfl
  · exact (h.fire ..).trans ((h.count .culvertUncorr _ _ _ nofun).trans (h.data ..))

theorem PieceAside.culvertFinds (d off : Nat) (beats : List Nat) (corrected : Nat) (s : State) :
    π (culvertFinds d off beats corrected s) = π s := by
  refine (foldl_keeps (π := π) (fun x hit => ?_) _ _).trans (h.count .culvertCorr _ _ _ nofun)
  have hfired : π (Machine.fire .culvertUncorr (Machine.count .culvertUncorr d 1 x)) = π x :=
    (h.fire ..).trans (h.count .culvertUncorr _ _ _ nofun)
  cases hit with
  | none => exact hfired
  | some p =>
    dsimp only
    split
    · exact h.culvertErrors ..
    · exact hfired

theorem PieceAside.dramFinds (dpa n : Nat) (marked bad : List Nat) (corrected : Nat) (s : State) :
    π (dramFinds dpa n marked bad corrected s) = π s := by
  refine foldl_keeps (π := π) (fun x k => ?_) _ s
  dsimp only
  split
  · exact h.readOutcome ..
  · rfl

theorem PieceAside.targetFinds (t : Target) (a n : Nat) (marked bad : List Nat) (corrected : Nat) (s : State) :
    π (targetFinds t a n marked bad corrected s) = π s := by
  cases t
  case dram dpa => exact h.dramFinds ..
  case culvert d => exact h.culvertFinds ..
  case load k =>
    unfold Machine.targetFinds
    dsimp only
    split
    · exact h.count .sramCorr _ _ _ nofun
    · exact (h.trapCore ..).trans (h.count .sramCorr _ _ _ nofun)
  all_goals rfl

/-! ### Reads -/

theorem PieceAside.readWords {t : Target} (hreg : t = .regs → ∀ a s, π (regRead a s).2 = π s) (n a : Nat) (s : State) :
    π (readWords t n a s).2 = π s := by
  induction n generalizing a s with
  | zero => rfl
  | succ n ih =>
    refine (ih (a + 4) _).trans ?_
    cases t
    case regs => exact hreg rfl a s
    all_goals
      dsimp only
      split
      · rfl
      · split
        · exact h.canal ..
        · rfl

theorem PieceAside.targetRead {t : Target} (hreg : t = .regs → ∀ a s, π (regRead a s).2 = π s) (a len : Nat) (s : State) :
    π (targetRead t a len s).2.2 = π s := by
  cases t
  case regs => exact h.readWords hreg ..
  case sem => exact h.readWords (t := .sem) nofun ..
  all_goals rfl

theorem PieceAside.pieceRead {m a : Nat} (hreg : targetOf a = some .regs → ∀ a s, π (regRead a s).2 = π s) (len : Nat)
    (bad : List Nat) (corrected : Nat) (s : State) : π (pieceRead m a len bad corrected s).2.2 = π s := by
  unfold Machine.pieceRead
  split
  · exact h.decodeError ..
  · next t ht =>
    split
    · exact h.decodeError ..
    · exact (h.dataError ..).trans ((h.targetFinds ..).trans (h.targetRead (fun heq => hreg (heq ▸ ht)) ..))

/-! ### Writes -/

theorem PieceAside.setSram (a : Nat) (b : Byte) (s : State) : π (setSram a b s) = π s := h.canal ..

theorem PieceAside.setBb (a : Nat) (b : Byte) (s : State) : π (setBb a b s) = π s := by
  unfold Machine.setBb
  extract_lets off
  split
  · exact h.ring ..
  · exact h.setSram a b s

theorem PieceAside.semGive (k v : Nat) (s : State) : π (semGive k v s) = π s := by
  unfold Machine.semGive
  split
  · exact h.canal ..
  · rfl

theorem PieceAside.windowBeat (m a : Nat) (data : List (Nat × Byte)) (s : State) :
    π (windowBeat m a data s).2 = π s := by
  unfold Machine.windowBeat
  extract_lets offs half slot
  cases slot with
  | none => rfl
  | some k =>
    dsimp only
    split
    · rfl
    · unfold writeWindow
      extract_lets op
      split
      · rfl
      · exact h.data ..

theorem PieceAside.setCell (dpa : Nat) (b : Byte) (s : State) : π (setCell dpa b s) = π s := by
  obtain ⟨m, hm⟩ := setCell_changes_mem dpa b s
  exact (congrArg π hm).trans (h.mem m s)

theorem PieceAside.setDram (m dpa : Nat) (b : Byte) (s : State) : π (setDram m dpa b s) = π s := by
  unfold Machine.setDram
  cases weightAt dpa s with
  | none => exact h.setCell dpa b s
  | some w =>
    dsimp only
    split
    · exact h.weir ..
    · rfl

theorem PieceAside.dramWrite (m : Nat) (data : List (Nat × Byte)) (s : State) : π (dramWrite m data s) = π s := by
  unfold Machine.dramWrite
  extract_lets base s1
  refine (foldl_keeps (π := π) (fun x e => h.setDram ..) data _).trans ?_
  refine foldl_keeps (π := π) (fun x b => ?_) _ s
  cases locOf (b - base) x with
  | none => rfl
  | some l =>
    dsimp -zeta only
    extract_lets off taken
    split
    · exact h.readOutcome ..
    · split
      · exact h.mem ..
      · rfl

theorem PieceAside.targetWrite {t : Target} (hreg : t = .regs → ∀ a l s, π (regWrite a l s) = π s) (m : Nat)
    (data : List (Nat × Byte)) (s : State) : π (targetWrite m t data s).2 = π s := by
  cases t
  case regs => exact foldl_keeps (π := π) (fun x w => hreg rfl w _ x) _ s
  case sram => exact foldl_keeps (π := π) (fun x e => h.canal ..) data s
  case bb => exact foldl_keeps (π := π) (fun x e => h.setBb ..) data s
  case sem =>
    refine foldl_keeps (π := π) (fun x e => ?_) data s
    split
    · exact h.semGive ..
    · rfl
  case culvert d => rfl
  case tiles n =>
    exact List.foldlRecOn (motive := fun acc : Bool × State => π acc.2 = π s) _ _ rfl
      fun acc hacc b _ => (h.windowBeat ..).trans hacc
  case load n => exact h.sluice ..
  case dram dpa => exact h.dramWrite ..

theorem PieceAside.pieceWrite {m a : Nat} (hreg : targetOf a = some .regs → ∀ a l s, π (regWrite a l s) = π s)
    (data : List (Nat × Byte)) (s : State) : π (pieceWrite m a data s).2 = π s := by
  unfold Machine.pieceWrite
  split
  · exact h.decodeError ..
  · next t ht =>
    split
    · exact h.decodeError ..
    · have hwritten := h.targetWrite (fun heq : t = .regs => hreg (heq ▸ ht)) m data s
      dsimp only
      split
      · exact hwritten
      · exact (h.decodeError ..).trans hwritten

/-! ### Requests that complete or stand -/

theorem PieceAside.answerDecodes (n : Nat) (r : CanalReq) (s : State) : π (answerDecodes n r s).2 = π s := by
  induction n generalizing r s with
  | zero => rfl
  | succ n ih =>
    unfold Machine.answerDecodes
    split
    · rfl
    · split
      · rfl
      · exact (ih ..).trans (h.decodeError ..)

end

/-! ### Register blocks -/

section
variable {α : Type} {π : State → α} (h : RegAside π)
include h

theorem RegAside.countHolds (s : State) : π (countHolds s) = π s := by
  refine foldl_keeps (π := π) (fun x c => ?_) _ s
  unfold countHold
  split
  · rfl
  · split
    · rfl
    · exact (h.count .spillHoldCycles _ _ _ nofun).trans (h.egress ..)

theorem RegAside.onRead (r : Reg) (s : State) : π (r.onRead s) = π s := by
  unfold Reg.onRead
  split
  · exact h.sluice ..
  · split
    · refine (h.ctr ..).trans ?_
      unfold ctrFresh
      split
      · exact h.countHolds s
      · rfl
    · rfl
  · rfl

theorem RegAside.regRead (a : Nat) (s : State) : π (regRead a s).2 = π s := by
  unfold Machine.regRead
  split
  · exact h.onRead ..
  · rfl

theorem RegAside.pokeItem (i : Item) (inst elem v : Nat) (s : State) : π (pokeItem i inst elem v s) = π s := by
  unfold Machine.pokeItem
  split
  · rfl
  · exact h.force ..

theorem RegAside.writeCr (n k v : Nat) (s : State) : π (writeCr n k v s) = π s := by
  unfold Machine.writeCr
  split
  · exact h.sluice ..
  · split
    · unfold moverSubmit
      extract_lets c
      split
      · exact h.count .moverDropped _ _ _ nofun
      · exact h.sluice ..
    · split
      · unfold tapCtl
        extract_lets c c1
        split
        · exact h.sluice ..
        · split
          · exact (h.sluice _ (Machine.setCore n c1 s)).trans (h.sluice ..)
          · exact h.sluice ..
      · exact h.sluice ..

theorem RegAside.write (r : Reg) (v : Nat) (s : State) : π (r.write v s) = π s := by
  cases r
  case item i inst elem =>
    unfold Reg.write
    dsimp only
    split
    · exact h.sticky ..
    · split
      · exact h.setMaster ..
      · split
        · exact h.pokeItem ..
        · rfl
  case ctr c inst => rfl
  case errAddr m => rfl
  case txts p =>
    unfold Reg.write
    dsimp only
    split
    · exact h.txts ..
    · rfl
  case core n k =>
    have hland : π (Machine.setCore n (coreSeen n s) s) = π s := h.sluice ..
    unfold Reg.write
    dsimp only
    split
    · exact (h.sluice ..).trans hland
    · split
      · exact (h.sluice ..).trans hland
      · split
        · exact (h.writeCr ..).trans hland
        · split
          · exact (h.sluice ..).trans hland
          · rfl

theorem RegAside.regWrite (a : Nat) (bytes : List (Nat × Byte)) (s : State) : π (regWrite a bytes s) = π s := by
  unfold Machine.regWrite
  split
  · rfl
  · exact h.write ..

end

/-! ### What stands aside -/

/-- A part of the canal beside its masters' records, its SRAM, its semaphores and the journal. -/
theorem RegAside.of_canal {α : Type} {f : CanalS → α} (hf : ∀ v r b (c : CanalS), f { c with masters := v, sram := r, semFree := b } = f c)
    (hjournal : ∀ j (c : CanalS), f { c with journal := j } = f c) : RegAside fun s => f s.canal where
  count _ _ _ _ _ := rfl
  raise e l s := by rw [raise_canal]
  fire f s := by rw [fire_canal]
  mem _ _ := rfl
  data _ _ := rfl
  weir _ _ := rfl
  sluice _ _ := rfl
  ring _ _ := rfl
  canal v r b s := hf v r b s.canal
  ctr _ _ := rfl
  egress _ _ := rfl
  force _ j s := hjournal j s.canal
  txts _ _ := rfl
  sticky _ _ := rfl

/-- Completed requests. -/
theorem RegAside.done : RegAside fun s => s.canal.done := .of_canal (fun _ _ _ _ => rfl) fun _ _ => rfl

/-- The masters last granted. -/
theorem RegAside.lastGrant : RegAside fun s => s.canal.lastGrant := .of_canal (fun _ _ _ _ => rfl) fun _ _ => rfl

theorem RegAside.pending : RegAside State.pending where
  count _ _ _ _ _ := rfl
  raise e l s := (Touches.raise s e l).pending rfl
  fire f s := (Touches.fire s f).pending rfl
  mem _ _ := rfl
  data _ _ := rfl
  weir _ _ := rfl
  sluice _ _ := rfl
  ring _ _ := rfl
  canal _ _ _ _ := rfl
  ctr _ _ := rfl
  egress _ _ := rfl
  force _ _ _ := rfl
  txts _ _ := rfl
  sticky _ _ := rfl

/-- The count of granted pieces. -/
theorem PieceAside.pieces (m : Nat) : PieceAside (ctrGet .pieces m) where
  count _ _ _ _ hc := ctrGet_count_of_ne hc.symm ..
  raise _ _ _ := ctrGet_raise rfl ..
  fire _ _ := ctrGet_fire rfl ..
  mem _ _ := rfl
  data _ _ := rfl
  weir _ _ := rfl
  sluice _ _ := rfl
  ring _ _ := rfl
  canal _ _ _ _ := rfl

end Sys2Proof.Machine
end

section
/-! Requests of the canal (R460 to R467): what waiting counts change, how a burst is cut, which request a port grants
next, how a request stands or completes, and a master's reset. -/

namespace Sys2Proof.Machine

open Touches (refl ite of_fields foldl)

/-! ### The cycles of waiting pieces (R467) -/

/-- Counting waiting cycles changes counters and the instants since when pieces wait. -/
theorem arbWaits_eq (s : State) : ∃ c d w,
    arbWaits s = { s with ctr := c, satDue := d, canal := { s.canal with waitSince := w } } := by
  unfold arbWaits
  extract_lets ports
  refine List.foldlRecOn (motive := fun y : State => ∃ c d w,
    y = { s with ctr := c, satDue := d, canal := { s.canal with waitSince := w } }) ports _ ⟨_, _, _, rfl⟩ ?_
  rintro y ⟨c, d, w, rfl⟩ port -
  dsimp only
  split
  · exact ⟨_, _, _, rfl⟩
  · exact ⟨_, _, _, rfl⟩

theorem arbWaits_keeps {α : Type} {π : State → α}
    (hwait : ∀ c d w (s : State), π { s with ctr := c, satDue := d, canal := { s.canal with waitSince := w } } = π s)
    (s : State) : π (arbWaits s) = π s := by
  obtain ⟨c, d, w, h⟩ := arbWaits_eq s
  rw [h, hwait]

section
variable (s : State)

theorem reqs_arbWaits : (arbWaits s).canal.reqs = s.canal.reqs :=
  arbWaits_keeps (π := fun s => s.canal.reqs) (fun _ _ _ _ => rfl) s

theorem done_arbWaits : (arbWaits s).canal.done = s.canal.done :=
  arbWaits_keeps (π := fun s => s.canal.done) (fun _ _ _ _ => rfl) s

theorem masters_arbWaits : (arbWaits s).canal.masters = s.canal.masters :=
  arbWaits_keeps (π := fun s => s.canal.masters) (fun _ _ _ _ => rfl) s

theorem sram_arbWaits : (arbWaits s).canal.sram = s.canal.sram :=
  arbWaits_keeps (π := fun s => s.canal.sram) (fun _ _ _ _ => rfl) s

theorem lastGrant_arbWaits : (arbWaits s).canal.lastGrant = s.canal.lastGrant :=
  arbWaits_keeps (π := fun s => s.canal.lastGrant) (fun _ _ _ _ => rfl) s

theorem mem_arbWaits : (arbWaits s).mem = s.mem := arbWaits_keeps (π := State.mem) (fun _ _ _ _ => rfl) s
theorem time_arbWaits : (arbWaits s).time = s.time := arbWaits_keeps (π := State.time) (fun _ _ _ _ => rfl) s

theorem sticky_arbWaits : (arbWaits s).fault.sticky = s.fault.sticky :=
  arbWaits_keeps (π := fun s => s.fault.sticky) (fun _ _ _ _ => rfl) s

theorem master_arbWaits (m : Nat) : master m (arbWaits s) = master m s :=
  arbWaits_keeps (π := master m) (fun _ _ _ _ => rfl) s

theorem decodes_arbWaits (m : Nat) (write : Bool) (a : Nat) : decodes m write a (arbWaits s) = decodes m write a s :=
  arbWaits_keeps (π := decodes m write a) (fun _ _ _ _ => rfl) s

theorem ctrGet_arbWaits {c : Ctr} (hc : c ≠ .arbWaitCycles) (i : Nat) : ctrGet c i (arbWaits s) = ctrGet c i s := by
  unfold arbWaits
  extract_lets ports
  refine foldl_keeps (π := ctrGet c i) (fun x port => ?_) ports s
  dsimp only
  split
  · exact ctrGet_count_of_ne hc ..
  · rfl

end

theorem decodes_setReqs (m : Nat) (write : Bool) (a : Nat) (l : List CanalReq) (s : State) :
    decodes m write a (setReqs l s) = decodes m write a s := rfl

/-! ### How a burst is cut (R461) -/

theorem cutRange_whole {n a len : Nat} (ha : 64 ∣ a) (hlen : 64 ∣ len) :
    ∀ q ∈ cutRange n a len, 64 ∣ q.2 ∧ 0 < q.2 ∧ q.1 / 1024 = (q.1 + q.2 - 1) / 1024 := by
  induction n generalizing a len with
  | zero => exact nofun
  | succ n ih =>
    intro q hq
    rw [cutRange] at hq
    split at hq
    · exact absurd hq List.not_mem_nil
    · next hne =>
      have hk : 64 ∣ min len (1024 - a % 1024) := by omega
      obtain rfl | hq := List.mem_cons.1 hq
      · dsimp only
        omega
      · exact ih (Nat.dvd_add ha hk) (Nat.dvd_sub hlen hk) q hq

/-- The beats of a list of pieces. -/
def beatsIn (l : List (Nat × Nat)) : Nat := (l.map fun q => q.2 / 64).sum

theorem beatsIn_cutRange {n a len : Nat} (ha : 64 ∣ a) (hlen : 64 ∣ len) (hn : len = 0 ∨ a % 1024 + len ≤ 1024 * n) :
    beatsIn (cutRange n a len) = len / 64 := by
  induction n generalizing a len with
  | zero =>
    have hzero : len = 0 := by omega
    rw [hzero]
    rfl
  | succ n ih =>
    rw [cutRange]
    split
    case isTrue hzero => rw [hzero]; rfl
    case isFalse hne =>
      have hk : 64 ∣ min len (1024 - a % 1024) := by omega
      have htail := ih (Nat.dvd_add ha hk) (Nat.dvd_sub hlen hk) (by omega)
      change min len (1024 - a % 1024) / 64 + beatsIn _ = _
      rw [htail]
      omega

theorem cutRange_ne_nil {n a len : Nat} (hlen : 0 < len) :
    ∃ k l, cutRange (n + 1) a len = (a, k) :: l :=
  ⟨_, _, if_neg hlen.ne'⟩

section
variable (addr beats : Nat) (data : List (Nat × Byte)) (haddr : addr % 64 = 0)
include haddr

theorem mem_cutBurst : ∀ p ∈ cutBurst addr beats data, 0 < p.beats ∧ p.addr / 1024 = (p.addr + 64 * p.beats - 1) / 1024 := by
  intro p hp
  obtain ⟨q, hq, rfl⟩ := List.mem_map.1 hp
  obtain ⟨hdvd, hpos, hsame⟩ := cutRange_whole (Nat.dvd_of_mod_eq_zero haddr) (Nat.dvd_mul_right 64 beats) q hq
  dsimp only
  have hbeats : 64 * (q.2 / 64) = q.2 := Nat.mul_div_cancel' hdvd
  rw [hbeats]
  exact ⟨by omega, hsame⟩

theorem sum_cutBurst (h : beats ≤ 256) : ((cutBurst addr beats data).map (·.beats)).foldl (· + ·) 0 = beats := by
  have hcut : beatsIn (cutRange 20 addr (64 * beats)) = 64 * beats / 64 :=
    beatsIn_cutRange (Nat.dvd_of_mod_eq_zero haddr) (Nat.dvd_mul_right 64 beats) (by omega)
  rw [← List.sum_eq_foldl, cutBurst, List.map_map]
  exact hcut.trans (by omega)

end

theorem cutBurst_eq_cons {addr beats : Nat} (data : List (Nat × Byte)) (h : 0 < beats) :
    ∃ p l, cutBurst addr beats data = p :: l ∧ p.addr = addr := by
  obtain ⟨k, l, hcut⟩ := cutRange_ne_nil (n := 19) (a := addr) (show 0 < 64 * beats by omega)
  exact ⟨⟨addr, k / 64, bytesIn (addr - addr) k data⟩, _, by rw [cutBurst, hcut, List.map_cons], rfl⟩

/-! ### Requests that stand and requests that complete (R463, R464) -/

section
variable {r : CanalReq} {s : State}

theorem putReq_of_nil (h : r.pieces = []) : putReq r s = canalDone ⟨r.master, r.id, r.status, r.read⟩
    (setReqs (s.canal.reqs.filter fun x => !(x.master == r.master && x.id == r.id)) s) := by
  have hdecodes : answerDecodes 17 r s = (r, s) := by simp [answerDecodes, h]
  unfold putReq
  rw [hdecodes]
  simp [h]

theorem putReq_of_decodes {p : CanalPiece} {rest : List CanalPiece} (h : r.pieces = p :: rest)
    (hdecodes : decodes r.master r.write p.addr s = true) : putReq r s =
      setReqs (s.canal.reqs.map fun x => if x.master = r.master ∧ x.id = r.id then r else x) s := by
  have hanswer : answerDecodes 17 r s = (r, s) := by simp [answerDecodes, h, hdecodes]
  unfold putReq
  rw [hanswer]
  simp [h]

/-- What a request that stands or completes leaves alone. -/
theorem putReq_keeps {α : Type} {π : State → α} (h : PieceAside π) (hreqs : ∀ l x, π (setReqs l x) = π x)
    (hdone : ∀ d x, π (canalDone d x) = π x) (r : CanalReq) (s : State) : π (putReq r s) = π s := by
  have hdecodes := h.answerDecodes 17 r s
  unfold putReq
  dsimp only
  split
  · rw [hdone, hreqs, hdecodes]
  · rw [hreqs, hdecodes]

end

/-! ### The next grant (R462) -/

section
variable {port : Nat} {r : CanalReq} {x : State}

/-- A request whose first piece a port may grant. -/
def Due (port : Nat) (x : State) (q : CanalReq) : Prop :=
  q.waitsAt port x = true ∧ ∃ p l, q.pieces = p :: l ∧ rangeHeld q.write p.addr (64 * p.beats) x = false

/-- The requests whose first piece a port may grant. -/
def dueAt (port : Nat) (x : State) : List CanalReq :=
  x.canal.reqs.filter fun r => r.waitsAt port x && (match r.pieces with
    | p :: _ => !rangeHeld r.write p.addr (64 * p.beats) x
    | [] => false)

/-- A granted piece stands at a port. -/
def portBusy (port : Nat) (x : State) : Bool :=
  x.canal.reqs.any fun r => r.granted.isSome && (match r.pieces with
    | p :: _ => targetPort p.addr x == port
    | [] => false)

theorem nextGrant_eq : nextGrant port x = if portBusy port x then none else
    (List.range 15).findSome? fun i =>
      (dueAt port x).find? (·.master == (sGet (fun _ => 14) x.canal.lastGrant port + 1 + i) % 15) := rfl

theorem mem_dueAt {q : CanalReq} : q ∈ dueAt port x ↔ q ∈ x.canal.reqs ∧ Due port x q := by
  rw [dueAt, List.mem_filter, Due, Bool.and_eq_true]
  cases hq : q.pieces with
  | nil => simp
  | cons p l => simp

theorem portBusy_eq_false (h : portBusy port x = false) {q : CanalReq} (hq : q ∈ x.canal.reqs)
    (hgranted : q.granted.isSome = true) {p : CanalPiece} {l : List CanalPiece} (hp : q.pieces = p :: l) :
    targetPort p.addr x ≠ port := by
  intro hport
  refine Bool.eq_false_iff.1 h (List.any_eq_true.2 ⟨q, hq, ?_⟩)
  simp [hgranted, hp, hport]

/-- A list searched in order: what is found is found at an index, and nothing is found before it. -/
theorem findSome?_range {α : Type} {f : Nat → Option α} {n : Nat} {a : α} (h : (List.range n).findSome? f = some a) :
    ∃ i < n, f i = some a ∧ ∀ j < i, f j = none := by
  induction n with
  | zero => exact absurd h nofun
  | succ n ih =>
    rw [List.range_succ, List.findSome?_append] at h
    cases hn : (List.range n).findSome? f with
    | some b =>
      rw [hn, Option.some_or] at h
      obtain ⟨i, hi, hfi, hbefore⟩ := ih (hn.trans h)
      exact ⟨i, Nat.lt_succ_of_lt hi, hfi, hbefore⟩
    | none =>
      rw [hn, Option.none_or, List.findSome?_singleton] at h
      exact ⟨n, Nat.lt_succ_self n, h, fun j hj => List.findSome?_eq_none_iff.1 hn j (List.mem_range.2 hj)⟩

/-- The port grants the waiting request whose master follows the last one granted most closely (R462). -/
theorem nextGrant_spec (h : nextGrant port x = some r) : let last := sGet (fun _ => 14) x.canal.lastGrant port
    r ∈ x.canal.reqs ∧ Due port x r ∧
    (∀ q ∈ x.canal.reqs, q.granted.isSome = true → ∀ p l, q.pieces = p :: l → targetPort p.addr x ≠ port) ∧
    ∀ q ∈ x.canal.reqs, q.master < 15 → Due port x q →
      (r.master + 14 - last % 15) % 15 ≤ (q.master + 14 - last % 15) % 15 := by
  intro last
  rw [nextGrant_eq] at h
  split at h
  · exact absurd h nofun
  · next hbusy =>
    obtain ⟨i, hi, hfound, hbefore⟩ := findSome?_range h
    obtain ⟨hmem, hdue⟩ := mem_dueAt.1 (List.mem_of_find?_eq_some hfound)
    have hmaster : r.master = (last + 1 + i) % 15 := by simpa using List.find?_some hfound
    refine ⟨hmem, hdue, fun q hq hgranted p l hp => portBusy_eq_false (Bool.eq_false_iff.2 hbusy) hq hgranted hp,
      fun q hq hlt hqdue => ?_⟩
    refine Nat.not_lt.1 fun hless => ?_
    have hnone := List.find?_eq_none.1 (hbefore ((q.master + 14 - last % 15) % 15) (by omega)) q (mem_dueAt.2 ⟨hq, hqdue⟩)
    refine hnone (beq_iff_eq.2 ?_)
    change q.master = (last + 1 + (q.master + 14 - last % 15) % 15) % 15
    omega

end

/-! ### A master's reset (R466) -/

section
variable (m : Nat) (x : State)

/-- The requests that a master's reset leaves: those of other masters, and its granted pieces. -/
def keptAtReset : List CanalReq :=
  (x.canal.reqs.filter fun r => r.master != m || r.granted.isSome).map fun r =>
    if r.master = m then { r with pieces := r.pieces.take 1 } else r

theorem masterReset_idle {m : Nat} {x : State} (h : ∀ r ∈ x.canal.reqs, r.master ≠ m) :
    masterReset m x = count .masterResets m 1 (arbWaits x) := by
  refine if_pos ?_
  rw [List.isEmpty_iff, List.filter_eq_nil_iff]
  exact fun r hr hm => h r hr (beq_iff_eq.1 hm)

/-- A reset of a master with requests outstanding. -/
def draining : State :=
  let s1 := setMaster m { master m x with resetting := true } (count .masterResets m 1 (arbWaits x))
  { s1 with canal := { s1.canal with
    reqs := keptAtReset m x
    draining := s1.canal.draining ++
      (((x.canal.reqs.filter (·.master == m)).filter fun r => r.granted.isNone).map fun r => 32 * m + r.id) } }

theorem masterReset_busy {m : Nat} {x : State} (h : ∃ r ∈ x.canal.reqs, r.master = m) :
    masterReset m x = arbWaits (draining m x) := by
  obtain ⟨r, hr, hm⟩ := h
  refine (if_neg ?_).trans ?_
  · rw [List.isEmpty_iff, List.filter_eq_nil_iff]
    exact fun hall => hall r hr (beq_iff_eq.2 hm)
  · have hreqs : (setMaster m { master m (arbWaits x) with resetting := true }
        (count .masterResets m 1 (arbWaits x))).canal.reqs = x.canal.reqs := reqs_arbWaits x
    rw [draining, keptAtReset, ← hreqs, ← master_arbWaits x m]
    rfl

theorem reqs_masterReset : (masterReset m x).canal.reqs = keptAtReset m x := by
  by_cases h : ∃ r ∈ x.canal.reqs, r.master = m
  · rw [masterReset_busy h, reqs_arbWaits]
    rfl
  · have hnone : ∀ r ∈ x.canal.reqs, r.master ≠ m := fun r hr hm => h ⟨r, hr, hm⟩
    rw [masterReset_idle hnone, count_canal, reqs_arbWaits, keptAtReset, List.filter_eq_self.2 fun r hr => by simp [hnone r hr]]
    exact (List.map_id' _).symm.trans (List.map_congr_left fun r hr => (if_neg (hnone r hr)).symm)

theorem done_masterReset : (masterReset m x).canal.done = x.canal.done := by
  by_cases h : ∃ r ∈ x.canal.reqs, r.master = m
  · rw [masterReset_busy h, done_arbWaits]
    exact done_arbWaits x
  · rw [masterReset_idle fun r hr hm => h ⟨r, hr, hm⟩, count_canal, done_arbWaits]

theorem ctrGet_masterResets : ctrGet .masterResets m (masterReset m x) = min ctrMax (ctrGet .masterResets m x + 1) := by
  have hcount : ctrGet .masterResets m (count .masterResets m 1 (arbWaits x)) = min ctrMax (ctrGet .masterResets m x + 1) := by
    rw [ctrGet_count_same, ctrGet_arbWaits (c := .masterResets) x nofun]
  by_cases h : ∃ r ∈ x.canal.reqs, r.master = m
  · rw [masterReset_busy h, ctrGet_arbWaits (c := .masterResets) _ nofun]
    exact hcount
  · rw [masterReset_idle fun r hr hm => h ⟨r, hr, hm⟩, hcount]

theorem master_masterReset_busy {m : Nat} {x : State} (hm : m < 15) (h : ∃ r ∈ x.canal.reqs, r.master = m) :
    master m (masterReset m x) = { master m x with resetting := true } := by
  rw [masterReset_busy h, master_arbWaits]
  exact master_setMaster_same m _ _ hm

theorem mem_keptAtReset_own {q : CanalReq} (hq : q ∈ keptAtReset m x) (hm : q.master = m) :
    ∃ r ∈ x.canal.reqs, r.granted ≠ none ∧ q = { r with pieces := r.pieces.take 1 } := by
  obtain ⟨r, hr, rfl⟩ := List.mem_map.1 hq
  obtain ⟨hmem, hkept⟩ := List.mem_filter.1 hr
  have hown : r.master = m := by
    by_contra hne
    rw [if_neg hne] at hm
    exact hne hm
  refine ⟨r, hmem, ?_, if_pos hown⟩
  rw [hown, bne_self_eq_false, Bool.false_or] at hkept
  exact Option.isSome_iff_ne_none.1 hkept

theorem filter_keptAtReset_others :
    (keptAtReset m x).filter (fun r => r.master != m) = x.canal.reqs.filter fun r => r.master != m := by
  have hsame : ∀ r ∈ (x.canal.reqs.filter fun r => r.master != m || r.granted.isSome).filter (fun r => r.master != m),
      (if r.master = m then { r with pieces := r.pieces.take 1 } else r) = r := fun r hr =>
    if_neg (by simpa using (List.mem_filter.1 hr).2)
  have hmaster : ((fun r : CanalReq => r.master != m) ∘ fun r : CanalReq =>
      if r.master = m then { r with pieces := r.pieces.take 1 } else r) = fun r => r.master != m := by
    funext r
    simp only [Function.comp_apply, apply_ite CanalReq.master, ite_self]
  rw [keptAtReset, List.filter_map, hmaster, List.map_congr_left hsame, List.map_id', List.filter_filter]
  exact List.filter_congr fun r _ => by cases r.master != m <;> simp

end

end Sys2Proof.Machine
end

section
/-! O52: the rows of the canal (R455 to R468). -/

namespace Sys2Proof.Machine

open Touches (refl ite of_fields foldl)

/-! ### CANAL_REQUEST (R460, R461, R464) -/

section
variable (m id : Nat) (write : Bool) (addr beats : Nat) (data : List (Nat × Byte)) (x : State)

/-- A request as it is issued. -/
def issued : CanalReq :=
  { master := m, id := id, write := write, pieces := cutBurst addr beats data, granted := none, status := .okay, read := [] }

/-- What CANAL_REQUEST does. -/
def requested : State :=
  let busy := x.canal.reqs.any fun r => r.master == m && r.id == id
  if !masterIssues m x ∨ busy ∨ addr % 64 ≠ 0 ∨ beats = 0 ∨ 256 < beats ∨ 2 ^ 64 ≤ addr then x
  else if (addr + 64 * beats - 1) / 16384 ≠ addr / 16384 then
    canalDone ⟨m, id, .decode, if write then [] else List.replicate (64 * beats) 0⟩ (decodeError m addr x)
  else arbWaits (putReq (issued m id write addr beats data)
    (setReqs (x.canal.reqs ++ [issued m id write addr beats data]) (arbWaits x)))

end

theorem exec_canalRequest (t : Nat) (m : Fin 15) (id : Fin 32) (write : Bool) (addr beats : Nat)
    (data : List (Nat × Byte)) (s : State) :
    exec (.canalRequest t m id write addr beats data) s = act t (requested m id write addr beats data) s := rfl

section
variable {m id : Nat} {write : Bool} {addr beats : Nat} {data : List (Nat × Byte)} {x : State}

theorem busy_iff : (x.canal.reqs.any fun r => r.master == m && r.id == id) = true ↔
    ∃ r ∈ x.canal.reqs, r.master = m ∧ r.id = id := by simp

/-- A request that does nothing. -/
def Barred (m id addr beats : Nat) (x : State) : Prop :=
  masterIssues m x = false ∨ (∃ r ∈ x.canal.reqs, r.master = m ∧ r.id = id) ∨ addr % 64 ≠ 0 ∨ beats = 0 ∨ 256 < beats ∨
    2 ^ 64 ≤ addr

theorem barred_iff : Barred m id addr beats x ↔ (!masterIssues m x) = true ∨
    (x.canal.reqs.any fun r => r.master == m && r.id == id) = true ∨ addr % 64 ≠ 0 ∨ beats = 0 ∨ 256 < beats ∨ 2 ^ 64 ≤ addr := by
  rw [Barred, busy_iff, Bool.not_eq_true']

theorem requested_barred (h : Barred m id addr beats x) : requested m id write addr beats data x = x :=
  if_pos (barred_iff.1 h)

theorem requested_crossing (h : ¬ Barred m id addr beats x) (hcross : (addr + 64 * beats - 1) / 16384 ≠ addr / 16384) :
    requested m id write addr beats data x =
      canalDone ⟨m, id, .decode, if write then [] else List.replicate (64 * beats) 0⟩ (decodeError m addr x) :=
  (if_neg fun h' => h (barred_iff.2 h')).trans (if_pos hcross)

theorem map_others {l : List CanalReq} (h : ∀ r ∈ l, ¬ (r.master = m ∧ r.id = id)) (q : CanalReq) :
    l.map (fun r => if r.master = m ∧ r.id = id then q else r) = l :=
  (List.map_congr_left fun r hr => if_neg (h r hr)).trans (List.map_id' l)

theorem requested_stands (h : ¬ Barred m id addr beats x) (hcross : (addr + 64 * beats - 1) / 16384 = addr / 16384)
    (hdecodes : decodes m write addr x = true) : requested m id write addr beats data x =
      arbWaits (setReqs (x.canal.reqs ++ [issued m id write addr beats data]) (arbWaits x)) := by
  refine Eq.trans (if_neg fun h' => h (barred_iff.2 h')) ((if_neg (not_not.2 hcross)).trans (congrArg arbWaits ?_))
  have hbeats : 0 < beats := Nat.pos_of_ne_zero fun hz => h (.inr (.inr (.inr (.inl hz))))
  obtain ⟨p, l, hcut, hp⟩ := cutBurst_eq_cons (addr := addr) data hbeats
  have hothers : ∀ r ∈ x.canal.reqs, ¬ (r.master = m ∧ r.id = id) := fun r hr hmine => h (.inr (.inl ⟨r, hr, hmine⟩))
  rw [putReq_of_decodes (r := issued m id write addr beats data) (p := p) (rest := l) hcut]
  · change setReqs ((x.canal.reqs ++ [issued m id write addr beats data]).map fun r =>
      if r.master = m ∧ r.id = id then issued m id write addr beats data else r) (arbWaits x) = _
    rw [List.map_append, map_others hothers, List.map_singleton, if_pos ⟨rfl, rfl⟩]
  · rw [hp, decodes_setReqs, decodes_arbWaits]
    exact hdecodes

end

/-! ### CANAL_PIECE_GRANT (R462, R467) -/

section
variable (port : Nat) (r : CanalReq) (x : State)

/-- The port with a piece granted to a request's master, and counted. -/
def grantNoted : State :=
  let x1 := count .pieces r.master 1 (arbWaits x)
  { x1 with canal := { x1.canal with lastGrant := sPut (fun _ => 14) x1.canal.lastGrant port r.master } }

/-- A granted piece whose target has not answered yet. -/
def grantStands (y : State) : State :=
  setReqs (y.canal.reqs.map fun q => if q.master = r.master ∧ q.id = r.id then { q with granted := some y.time.now } else q) y

/-- What CANAL_PIECE_GRANT does. -/
def pieceGranted (responds : Bool) (found : CulvertIn) : State :=
  match nextGrant port x with
  | none => x
  | some r => match r.pieces with
    | [] => x
    | p :: rest => arbWaits (if responds then transferPiece r p rest found.bad found.corrected (grantNoted port r x)
      else grantStands r (grantNoted port r x))

end

theorem exec_canalPieceGrant (t : Nat) (port : Fin 80) (responds : Bool) (found : CulvertIn) (s : State) :
    exec (.canalPieceGrant t port responds found) s = act t (fun x => pieceGranted port x responds found) s := rfl

section
variable {port : Nat} {r : CanalReq} {p : CanalPiece} {rest : List CanalPiece} {responds : Bool} {found : CulvertIn} {x : State}

theorem pieceGranted_none (h : nextGrant port x = none) : pieceGranted port x responds found = x := by
  rw [pieceGranted, h]

theorem pieceGranted_some (h : nextGrant port x = some r) (hp : r.pieces = p :: rest) :
    pieceGranted port x responds found =
      arbWaits (if responds then transferPiece r p rest found.bad found.corrected (grantNoted port r x)
        else grantStands r (grantNoted port r x)) := by
  simp only [pieceGranted, h, hp]

theorem ctrGet_pieces_grantNoted :
    ctrGet .pieces r.master (grantNoted port r x) = min ctrMax (ctrGet .pieces r.master x + 1) := by
  have hcount : ctrGet .pieces r.master (grantNoted port r x) = ctrGet .pieces r.master (count .pieces r.master 1 (arbWaits x)) := rfl
  rw [hcount, ctrGet_count_same, ctrGet_arbWaits (c := .pieces) x nofun]

theorem lastGrant_grantNoted : sGet (fun _ => 14) (grantNoted port r x).canal.lastGrant port = r.master :=
  sGet_sPut_same ..

theorem done_grantNoted : (grantNoted port r x).canal.done = x.canal.done := done_arbWaits x
theorem reqs_grantNoted : (grantNoted port r x).canal.reqs = x.canal.reqs := reqs_arbWaits x
theorem sram_grantNoted : (grantNoted port r x).canal.sram = x.canal.sram := sram_arbWaits x
theorem mem_grantNoted : (grantNoted port r x).mem = x.mem := mem_arbWaits x
theorem time_grantNoted : (grantNoted port r x).time = x.time := time_arbWaits x

/-- What the transfer of a piece leaves alone. -/
theorem transferPiece_keeps {α : Type} {π : State → α} (h : PieceAside π)
    (hreads : targetOf p.addr = some .regs → ∀ a s, π (regRead a s).2 = π s)
    (hwrites : targetOf p.addr = some .regs → ∀ a l s, π (regWrite a l s) = π s)
    (hreqs : ∀ l x, π (setReqs l x) = π x) (hdone : ∀ d x, π (canalDone d x) = π x) (bad : List Nat) (corrected : Nat)
    (y : State) : π (transferPiece r p rest bad corrected y) = π y := by
  unfold transferPiece
  split
  · exact (putReq_keeps h hreqs hdone ..).trans (h.pieceWrite hwrites ..)
  · exact (putReq_keeps h hreqs hdone ..).trans (h.pieceRead hreads ..)

/-- The last piece of a request completes it (R463). -/
theorem transferPiece_last_read (hwrite : r.write = false) (bad : List Nat) (corrected : Nat) (y : State) :
    let got := pieceRead r.master p.addr (64 * p.beats) (bad.filter fun b => decide (b < p.beats)) corrected y
    transferPiece r p [] bad corrected y = canalDone ⟨r.master, r.id, r.status.worse got.2.1, r.read ++ got.1⟩
      (setReqs (got.2.2.canal.reqs.filter fun q => !(q.master == r.master && q.id == r.id)) got.2.2) := by
  intro got
  unfold transferPiece
  rw [hwrite, if_neg Bool.false_ne_true]
  exact putReq_of_nil rfl

theorem transferPiece_last_write (hwrite : r.write = true) (bad : List Nat) (corrected : Nat) (y : State) :
    let put := pieceWrite r.master p.addr (p.data.map fun e => (p.addr + e.1, e.2)) y
    transferPiece r p [] bad corrected y = canalDone ⟨r.master, r.id, r.status.worse put.1, r.read⟩
      (setReqs (put.2.canal.reqs.filter fun q => !(q.master == r.master && q.id == r.id)) put.2) := by
  intro put
  unfold transferPiece
  rw [hwrite, if_pos rfl]
  exact putReq_of_nil rfl

theorem mem_filter_others {m id : Nat} {l : List CanalReq} {q : CanalReq}
    (hq : q ∈ l.filter fun q => !(q.master == m && q.id == id)) (hm : q.master = m) : q.id ≠ id := by
  have := (List.mem_filter.1 hq).2
  simpa [hm] using this

/-- What a grant to a target that answers leaves, where the piece is the last one. -/
theorem grant_completes (port : Nat) (r : CanalReq) (p : CanalPiece) (found : CulvertIn) (x : State) :
    let z := settle (arbWaits (transferPiece r p [] found.bad found.corrected (grantNoted port r x)))
    let got := pieceRead r.master p.addr (64 * p.beats) (found.bad.filter fun b => decide (b < p.beats)) found.corrected
      (grantNoted port r x)
    let put := pieceWrite r.master p.addr (p.data.map fun e => (p.addr + e.1, e.2)) (grantNoted port r x)
    (∀ q ∈ z.canal.reqs, q.master = r.master → q.id ≠ r.id) ∧
    (r.write = false → z.canal.done = ⟨r.master, r.id, r.status.worse got.2.1, r.read ++ got.1⟩ :: x.canal.done) ∧
    (r.write = true → z.canal.done = ⟨r.master, r.id, r.status.worse put.1, r.read⟩ :: x.canal.done) := by
  intro z got put
  have hreqs : z.canal.reqs = (transferPiece r p [] found.bad found.corrected (grantNoted port r x)).canal.reqs := by
    rw [settle_canal, reqs_arbWaits]
  have hdone : z.canal.done = (transferPiece r p [] found.bad found.corrected (grantNoted port r x)).canal.done := by
    rw [settle_canal, done_arbWaits]
  have hgot : got.2.2.canal.done = x.canal.done :=
    (RegAside.done.pieceRead (fun _ => RegAside.done.regRead) ..).trans done_grantNoted
  have hput : put.2.canal.done = x.canal.done :=
    (RegAside.done.pieceWrite (fun _ => RegAside.done.regWrite) ..).trans done_grantNoted
  refine ⟨fun q hq hm => ?_, fun hwrite => ?_, fun hwrite => ?_⟩
  · rw [hreqs] at hq
    cases hwrite : r.write
    · rw [transferPiece_last_read hwrite] at hq
      exact mem_filter_others hq hm
    · rw [transferPiece_last_write hwrite] at hq
      exact mem_filter_others hq hm
  · rw [hdone, transferPiece_last_read hwrite, ← hgot]
    rfl
  · rw [hdone, transferPiece_last_write hwrite, ← hput]
    rfl

end

/-! ### CANAL_TARGET_TIMEOUT (R464) -/

/-- What the target's silence does to a granted request: its beats end DATA_ERR. -/
def silenced (m : Nat) (r : CanalReq) (p : CanalPiece) (rest : List CanalPiece) (x : State) : State :=
  let x1 := pieceSilent m (if r.write then 1 else p.beats) x
  arbWaits (if (master m x).resetting then dropReq r x1
    else putReq { r with
      pieces := rest
      granted := none
      status := .worse r.status .dataErr
      read := r.read ++ (if r.write then [] else List.replicate (64 * p.beats) 0) } x1)

/-- What CANAL_TARGET_TIMEOUT does. -/
def timedOut (m id : Nat) (x : State) : State :=
  match x.canal.reqs.find? fun r => r.master == m && r.id == id with
  | none => x
  | some r => match r.granted, r.pieces with
    | some since, p :: rest =>
      if x.time.now < since + msT 1 ∨ rangeHeld r.write p.addr (64 * p.beats) x then x else silenced m r p rest x
    | _, _ => x

theorem exec_canalTargetTimeout (t : Nat) (m : Fin 15) (id : Fin 32) (s : State) :
    exec (.canalTargetTimeout t m id) s = act t (timedOut m id) s := rfl

section
variable {m id : Nat} {r : CanalReq} {p : CanalPiece} {rest : List CanalPiece} {since : Nat} {x : State}

theorem timedOut_none (h : x.canal.reqs.find? (fun r => r.master == m && r.id == id) = none) : timedOut m id x = x := by
  rw [timedOut, h]

theorem timedOut_waiting (h : x.canal.reqs.find? (fun r => r.master == m && r.id == id) = some r) (hg : r.granted = none) :
    timedOut m id x = x := by
  simp only [timedOut, h, hg]

theorem timedOut_granted (h : x.canal.reqs.find? (fun r => r.master == m && r.id == id) = some r)
    (hg : r.granted = some since) (hp : r.pieces = p :: rest) : timedOut m id x =
      if x.time.now < since + msT 1 ∨ rangeHeld r.write p.addr (64 * p.beats) x then x else silenced m r p rest x := by
  simp only [timedOut, h, hg, hp]

/-- The errors that a silent target leaves (R464, R467). -/
theorem pieceSilent_leaves {n : Nat} (hm : m < 15) (hn : 0 < n) : let y := pieceSilent m n x
    ctrGet .dataErrors m y = min ctrMax (ctrGet .dataErrors m x + n) ∧ (master m y).dataErr = true ∧
    y.fault.sticky.getLsbD Fs.canalTimeout.num = true ∧ y.canal.done = x.canal.done ∧ y.mem = x.mem ∧
    y.canal.sram = x.canal.sram := by
  intro y
  have herror : dataError m n x = count .dataErrors m n (setMaster m { master m x with dataErr := true } x) := if_neg hn.ne'
  have hcanal : y.canal = (setMaster m { master m x with dataErr := true } x).canal := by
    rw [show y = fire .canalTimeout (dataError m n x) from rfl, fire_canal, herror, count_canal]
  refine ⟨?_, ?_, sticky_fire_same .canalTimeout _, by rw [hcanal]; rfl, ?_, by rw [hcanal]; rfl⟩
  · rw [show y = fire .canalTimeout (dataError m n x) from rfl, ctrGet_fire rfl, herror, ctrGet_count_same]
    rfl
  · rw [master, hcanal]
    exact congrArg CanalMaster.dataErr (master_setMaster_same m { master m x with dataErr := true } x hm)
  · rw [show y = fire .canalTimeout (dataError m n x) from rfl, fire_mem, herror]
    rfl

theorem worse_dataErr (a : CanalStatus) : a.worse .dataErr = .dataErr := by cases a <;> rfl

theorem silenced_leaves (hm : m < 15) (hr : r.master = m) (hid : r.id = id) (hbeats : 0 < p.beats) :
    let z := settle (silenced m r p [] x)
    ctrGet .dataErrors m z = min ctrMax (ctrGet .dataErrors m x + (if r.write then 1 else p.beats)) ∧
    (master m z).dataErr = true ∧ z.fault.sticky.getLsbD Fs.canalTimeout.num = true ∧
    ((master m x).resetting = true → z.canal.done = x.canal.done) ∧
    ((master m x).resetting = false → z.canal.done =
      ⟨m, id, .dataErr, r.read ++ (if r.write then [] else List.replicate (64 * p.beats) 0)⟩ :: x.canal.done) ∧
    (∀ q ∈ z.canal.reqs, q.master = m → q.id ≠ id) ∧ z.mem = x.mem ∧ z.canal.sram = x.canal.sram := by
  intro z
  subst hr hid
  obtain ⟨y, hy⟩ : ∃ y, y = pieceSilent r.master (if r.write then 1 else p.beats) x := ⟨_, rfl⟩
  have hn : 0 < (if r.write then 1 else p.beats) := by split <;> omega
  obtain ⟨hctr, hmaster, hsticky, hdone, hmem, hsram⟩ := pieceSilent_leaves (x := x) hm hn
  rw [← hy] at hctr hmaster hsticky hdone hmem hsram
  obtain ⟨w, hz, hw⟩ : ∃ w, z = settle (arbWaits (setReqs (y.canal.reqs.filter fun q =>
        !(q.master == r.master && q.id == r.id)) w)) ∧ (w = y ∧ (master r.master x).resetting = true ∨
      w = canalDone ⟨r.master, r.id, .dataErr, r.read ++ (if r.write then [] else List.replicate (64 * p.beats) 0)⟩ y ∧
        (master r.master x).resetting = false) := by
    cases hreset : (master r.master x).resetting
    · refine ⟨_, ?_, .inr ⟨rfl, rfl⟩⟩
      rw [show z = settle (silenced r.master r p [] x) from rfl, silenced, ← hy, hreset, if_neg Bool.false_ne_true,
        putReq_of_nil rfl, worse_dataErr]
      rfl
    · refine ⟨_, ?_, .inl ⟨rfl, rfl⟩⟩
      rw [show z = settle (silenced r.master r p [] x) from rfl, silenced, ← hy, hreset, if_pos rfl]
      rfl
  have hbeside : w = { y with canal := { y.canal with done := w.canal.done } } := by
    obtain ⟨rfl, -⟩ | ⟨rfl, -⟩ := hw
    · rfl
    · rfl
  have hcanal : z.canal.masters = y.canal.masters ∧ z.canal.sram = y.canal.sram ∧ z.canal.done = w.canal.done ∧
      z.canal.reqs = y.canal.reqs.filter fun q => !(q.master == r.master && q.id == r.id) := by
    rw [hz, settle_canal, masters_arbWaits, sram_arbWaits, done_arbWaits, reqs_arbWaits, hbeside]
    exact ⟨rfl, rfl, rfl, rfl⟩
  obtain ⟨hmasters, hsram', hdone', hreqs'⟩ := hcanal
  refine ⟨?_, ?_, ?_, fun hreset => ?_, fun hreset => ?_, fun q hq hqm => ?_, ?_, hsram'.trans hsram⟩
  · rw [hz, (settle_eq _).ctr _ _ rfl, ctrGet_arbWaits (c := .dataErrors) _ nofun, hbeside]
    exact hctr
  · rw [master, hmasters]
    exact hmaster
  · rw [hz, settle_fault_sticky, sticky_arbWaits, hbeside]
    exact hsticky
  · obtain ⟨rfl, -⟩ | ⟨-, hnot⟩ := hw
    · exact hdone'.trans hdone
    · exact absurd (hreset.symm.trans hnot) nofun
  · obtain ⟨-, hnot⟩ | ⟨rfl, -⟩ := hw
    · exact absurd (hreset.symm.trans hnot) nofun
    · exact hdone'.trans (congrArg (_ :: ·) hdone)
  · rw [hreqs'] at hq
    exact mem_filter_others hq hqm
  · rw [hz, settle_mem, mem_arbWaits, hbeside]
    exact hmem

end

/-! ### SRAM (R456) -/

section
variable {a b : Nat} {s : State}

theorem sramByte_setSram (ha : 0x100000000 ≤ a) (hb : 0x100000000 ≤ b) (v : Byte) :
    sramByte b (setSram a v s) = if b = a then v else sramByte b s := by
  have hiff : b - 0x100000000 = a - 0x100000000 ↔ b = a := by omega
  simp only [sramByte, setSram, Memory.byte_setByte, hiff]

theorem sramByte_foldl_of_ne {l : List (Nat × Byte)} (hl : ∀ e ∈ l, 0x100000000 ≤ e.1) (hb : 0x100000000 ≤ b)
    (hne : ∀ e ∈ l, e.1 ≠ b) (s : State) : sramByte b (l.foldl (fun x e => setSram e.1 e.2 x) s) = sramByte b s := by
  induction l generalizing s with
  | nil => rfl
  | cons e l ih =>
    rw [List.foldl_cons, ih (fun q hq => hl q (List.mem_cons_of_mem e hq)) fun q hq => hne q (List.mem_cons_of_mem e hq),
      sramByte_setSram (hl e List.mem_cons_self) hb, if_neg (hne e List.mem_cons_self).symm]

theorem sramByte_foldl_of_mem {l : List (Nat × Byte)} (hl : ∀ e ∈ l, 0x100000000 ≤ e.1) (hnodup : (l.map (·.1)).Nodup)
    (s : State) : ∀ e ∈ l, sramByte e.1 (l.foldl (fun x e => setSram e.1 e.2 x) s) = e.2 := by
  induction l generalizing s with
  | nil => exact nofun
  | cons e l ih =>
    obtain ⟨hnew, hnodup⟩ := List.nodup_cons.1 hnodup
    have htail : ∀ q ∈ l, 0x100000000 ≤ q.1 := fun q hq => hl q (List.mem_cons_of_mem e hq)
    intro q hq
    obtain rfl | hq := List.mem_cons.1 hq
    · rw [List.foldl_cons, sramByte_foldl_of_ne htail (hl _ List.mem_cons_self) (fun r hr heq => hnew
        (List.mem_map.2 ⟨r, hr, heq⟩)), sramByte_setSram (hl _ List.mem_cons_self) (hl _ List.mem_cons_self), if_pos rfl]
    · exact ih htail hnodup _ q hq

end

/-- A write of SRAM by a master that reaches it (R456). -/
theorem pieceWrite_sram {m a : Nat} (hsram : targetOf a = some .sram) (hreach : reaches m .sram = true)
    (data : List (Nat × Byte)) (x : State) :
    pieceWrite m a data x = (.okay, data.foldl (fun y e => setSram e.1 e.2 y) x) := by
  unfold pieceWrite
  simp only [hsram, decodes, hreach, targetWrite, Bool.and_self, Bool.not_true, Bool.false_eq_true, if_false, if_true]

/-! ### Accesses that decode to nothing (R464) -/

section
variable {m a : Nat} {x : State}

theorem pieceRead_refused (h : targetOf a = none ∨ decodes m false a x = false) (len : Nat) (bad : List Nat)
    (corrected : Nat) : pieceRead m a len bad corrected x = (List.replicate len 0, .decode, decodeError m a x) := by
  unfold pieceRead
  split
  · rfl
  · next t ht =>
    exact if_pos (by rw [h.resolve_left (by rw [ht]; exact Option.some_ne_none t), Bool.not_false])

theorem pieceWrite_refused (h : targetOf a = none ∨ decodes m true a x = false) (data : List (Nat × Byte)) :
    pieceWrite m a data x = (.decode, decodeError m a x) := by
  unfold pieceWrite
  split
  · rfl
  · next t ht =>
    exact if_pos (by rw [h.resolve_left (by rw [ht]; exact Option.some_ne_none t), Bool.not_false])

end

end Sys2Proof.Machine
end

section
/-! O52 assembled (R455 to R468). -/

namespace Sys2Proof.Machine

section
variable {t : Nat} {s : State}

/-- A request that stands leaves the others and everything beside the requests (R460). -/
theorem canalRequest_stands {m : Fin 15} {id : Fin 32} {write : Bool} {addr beats : Nat} {data : List (Nat × Byte)}
    (h : ¬ Barred m id addr beats (advance t s)) (hcross : (addr + 64 * beats - 1) / 16384 = addr / 16384)
    (hdecodes : decodes m write addr (advance t s) = true) :
    Leads (.canalRequest t m id write addr beats data) s fun z =>
      z.canal.reqs = (advance t s).canal.reqs ++ [issued m id write addr beats data] ∧
      z.canal.done = (advance t s).canal.done ∧ z.canal.masters = (advance t s).canal.masters ∧
      z.mem = (advance t s).mem ∧ z.canal.sram = (advance t s).canal.sram := by
  refine leads_act (exec_canalRequest ..) ?_
  obtain ⟨x, hx⟩ : ∃ x, advance t s = x := ⟨_, rfl⟩
  rw [hx] at h hdecodes ⊢
  rw [requested_stands h hcross hdecodes, settle_canal, settle_mem, reqs_arbWaits, done_arbWaits, masters_arbWaits,
    mem_arbWaits, sram_arbWaits]
  exact ⟨rfl, done_arbWaits x, masters_arbWaits x, mem_arbWaits x, sram_arbWaits x⟩

/-- What a grant leads to whatever its target does, and what it leads to by what its target does (R462, R463, R467). -/
def GrantLeaves (port : Nat) (responds : Bool) (found : CulvertIn) (r : CanalReq) (p : CanalPiece) (rest : List CanalPiece)
    (x z : State) : Prop :=
  let y := grantNoted port r x
  let got := pieceRead r.master p.addr (64 * p.beats) (found.bad.filter fun b => decide (b < p.beats)) found.corrected y
  let put := pieceWrite r.master p.addr (p.data.map fun e => (p.addr + e.1, e.2)) y
  (responds = false ∨ targetOf p.addr ≠ some .regs →
    ctrGet .pieces r.master z = min ctrMax (ctrGet .pieces r.master x + 1)) ∧
  sGet (fun _ => 14) z.canal.lastGrant port = r.master ∧
  (responds = true → rest = [] → (∀ q ∈ z.canal.reqs, q.master = r.master → q.id ≠ r.id) ∧
    (r.write = false → z.canal.done = ⟨r.master, r.id, r.status.worse got.2.1, r.read ++ got.1⟩ :: x.canal.done) ∧
    (r.write = true → z.canal.done = ⟨r.master, r.id, r.status.worse put.1, r.read⟩ :: x.canal.done)) ∧
  (responds = false → (∃ q ∈ z.canal.reqs, q = { r with granted := some x.time.now }) ∧
    z.canal.done = x.canal.done ∧ z.mem = x.mem ∧ z.canal.sram = x.canal.sram)

section
variable (port : Nat) (found : CulvertIn) {r : CanalReq} (p : CanalPiece) (rest : List CanalPiece) {x : State}

theorem grantStands_keeps {α : Type} {π : State → α} (hreqs : ∀ l y, π (setReqs l y) = π y) (r : CanalReq) (y : State) :
    π (grantStands r y) = π y := hreqs ..

theorem mem_grantStands {y : State} (h : r ∈ y.canal.reqs) :
    { r with granted := some y.time.now } ∈ (grantStands r y).canal.reqs :=
  List.mem_map.2 ⟨r, h, if_pos ⟨rfl, rfl⟩⟩

theorem grant_silent (hmem : r ∈ x.canal.reqs) :
    GrantLeaves port false found r p rest x (settle (arbWaits (grantStands r (grantNoted port r x)))) := by
  have hr : r ∈ (grantNoted port r x).canal.reqs := by rwa [reqs_grantNoted]
  have hpieces := ctrGet_pieces_grantNoted (port := port) (r := r) (x := x)
  have hlast := lastGrant_grantNoted (port := port) (r := r) (x := x)
  have hdone := done_grantNoted (port := port) (r := r) (x := x)
  have hmem := mem_grantNoted (port := port) (r := r) (x := x)
  have hsram := sram_grantNoted (port := port) (r := r) (x := x)
  have hnow := congrArg TimeS.now (time_grantNoted (port := port) (r := r) (x := x))
  refine ⟨fun _ => ?_, ?_, fun h => absurd h nofun, fun _ => ⟨⟨_, ?_, rfl⟩, ?_, ?_, ?_⟩⟩
  all_goals generalize grantNoted port r x = y at hr hpieces hlast hdone hmem hsram hnow
  · rw [(settle_eq _).ctr _ _ rfl, ctrGet_arbWaits (c := .pieces) _ nofun]
    exact hpieces
  · rw [settle_canal, lastGrant_arbWaits]
    exact hlast
  · rw [settle_canal, reqs_arbWaits, ← hnow]
    exact mem_grantStands hr
  · rw [settle_canal, done_arbWaits]
    exact hdone
  · rw [settle_mem, mem_arbWaits]
    exact hmem
  · rw [settle_canal, sram_arbWaits]
    exact hsram

theorem grant_answered : GrantLeaves port true found r p rest x
    (settle (arbWaits (transferPiece r p rest found.bad found.corrected (grantNoted port r x)))) := by
  refine ⟨fun hregs => ?_, ?_, fun _ hrest => ?_, fun h => absurd h nofun⟩
  · have hnot : targetOf p.addr ≠ some .regs := hregs.resolve_left nofun
    rw [(settle_eq _).ctr _ _ rfl, ctrGet_arbWaits (c := .pieces) _ nofun,
      transferPiece_keeps (PieceAside.pieces r.master) (fun h => absurd h hnot) (fun h => absurd h hnot) (fun _ _ => rfl)
        fun _ _ => rfl]
    exact ctrGet_pieces_grantNoted
  · have hkeeps := transferPiece_keeps (r := r) (p := p) (rest := rest) RegAside.lastGrant.toPieceAside
      (fun _ => RegAside.lastGrant.regRead) (fun _ => RegAside.lastGrant.regWrite) (fun _ _ => rfl) (fun _ _ => rfl)
      found.bad found.corrected (grantNoted port r x)
    rw [settle_canal, lastGrant_arbWaits, hkeeps]
    exact lastGrant_grantNoted
  · subst hrest
    exact grant_completes port r p found x

end

theorem canalPieceGrant_leads {port : Fin 80} {responds : Bool} {found : CulvertIn} {r : CanalReq} {p : CanalPiece}
    {rest : List CanalPiece} (h : nextGrant port (advance t s) = some r) (hp : r.pieces = p :: rest) :
    Leads (.canalPieceGrant t port responds found) s (GrantLeaves port responds found r p rest (advance t s)) := by
  refine leads_act (exec_canalPieceGrant ..) ?_
  rw [pieceGranted_some h hp]
  cases responds
  · exact grant_silent port found p rest (nextGrant_spec h).1
  · exact grant_answered port found p rest

/-- A silent target (R464, R467). -/
theorem canalTargetTimeout_leads {m : Fin 15} {id : Fin 32} {r : CanalReq} {since : Nat} {p : CanalPiece}
    (h : (advance t s).canal.reqs.find? (fun r => r.master == m.val && r.id == id.val) = some r)
    (hg : r.granted = some since) (hp : r.pieces = [p]) (hlate : since + msT 1 ≤ (advance t s).time.now)
    (hheld : rangeHeld r.write p.addr (64 * p.beats) (advance t s) = false) :
    exec (.canalTargetTimeout t m id) s = .next (settle (silenced m r p [] (advance t s))) := by
  rw [exec_canalTargetTimeout, act, timedOut_granted h hg hp, if_neg]
  rintro (h | h)
  · exact Nat.not_lt.2 hlate h
  · exact Bool.false_ne_true (hheld.symm.trans h)

/-- A master whose reset is drained (R466). -/
def drained (m : Nat) (x : State) : State :=
  let y := setMaster m { master m x with resetting := false } x
  { y with
    canal := { y.canal with draining := y.canal.draining.filter fun d => d / 32 != m }
    power := { y.power with reinit := y.power.reinit.filter fun r => r.1 != 0xA || r.2.1 != m } }

theorem exec_masterResetDrained (m : Fin 15) : exec (.masterResetDrained t m) s =
    act t (onlyIf (fun x => (master m x).resetting && !x.canal.reqs.any fun r => r.master == m.val)
      fun x => complete .other (64 + m.val) rOk [] (drained m x)) s := rfl

end

/-- Settles O52: a request, a grant, a silence and a reset by equations of the request list; what a piece does at its target
stands aside of completed requests, of grants and, but for the register blocks, of the count of pieces. -/
theorem canalCutsGrantsAndReportsErrors : Obligations.CanalCutsGrantsAndReportsErrors := by
  unfold Obligations.CanalCutsGrantsAndReportsErrors
  intro refused
  have hrefused : refused = refusedAccess := rfl
  clear_value refused
  subst hrefused
  refine ⟨fun t m id write addr beats data s => ?_, fun addr beats data haddr hpos hmax => ?_, fun port r x h => nextGrant_spec h,
    fun t port responds bad corrected s => ?_, fun t m id s => ?_, fun t m s => ?_, fun m x => ?_,
    fun m a len bad corrected x h => ?_, fun m a data x h => ?_, fun m a data x hsram hreach hdata hnodup => ?_⟩
  · intro x i bad zeros
    refine ⟨fun h => does_act (exec_canalRequest ..) (requested_barred h ▸ .rfl' _), fun h hcross =>
      does_act (exec_canalRequest ..) ?_, canalRequest_stands⟩
    rw [requested_crossing h hcross]
    exact (decodeError_eq ..).of_canalDone _
  · intro l
    obtain ⟨p, r, hcut, hp⟩ := cutBurst_eq_cons (addr := addr) data hpos
    refine ⟨sum_cutBurst addr beats data haddr hmax, ?_, mem_cutBurst addr beats data haddr⟩
    rw [show l = p :: r from hcut, List.head?_cons, Option.map_some, hp]
  · intro x i
    refine ⟨fun h => does_act (exec_canalPieceGrant ..) (pieceGranted_none h ▸ .rfl' _), fun r p rest h hp => ?_⟩
    obtain ⟨z, hz, hpieces, hlast, hdone, hsilent⟩ :=
      canalPieceGrant_leads (responds := responds) (found := ⟨bad, corrected⟩) h hp
    refine ⟨z, hz, ?_, hpieces, hlast, hdone, hsilent⟩
    rw [ctrGet_count_same, ctrGet_arbWaits (c := .pieces) x nofun]
  · intro x mine
    refine ⟨fun h => does_act (exec_canalTargetTimeout ..) (timedOut_none h ▸ .rfl' _), fun r h hg =>
      does_act (exec_canalTargetTimeout ..) (timedOut_waiting h hg ▸ .rfl' _), fun r since p l h hg hp hnot =>
      does_act (exec_canalTargetTimeout ..) ?_, fun r since p h hg hp hbeats hlate hheld =>
      ⟨_, canalTargetTimeout_leads h hg hp hlate hheld, ?_⟩⟩
    · rw [timedOut_granted h hg hp, if_pos hnot]
      exact .rfl' _
    · have hfound : r.master = m.val ∧ r.id = id.val := by simpa using List.find?_some h
      exact silenced_leaves m.isLt hfound.1 hfound.2 hbeats
  · intro x
    refine ⟨fun h => does_onlyIf_of_not (exec_masterResetDrained m) ?_, fun hreset hnone hwait =>
      does_onlyIf (exec_masterResetDrained m) ?_ ?_⟩
    · obtain h | ⟨r, hr, hm⟩ := h
      · rw [show (master m (advance t s)).resetting = false from h, Bool.false_and]
      · have hany : ((advance t s).canal.reqs.any fun r => r.master == m.val) = true :=
          List.any_eq_true.2 ⟨r, hr, beq_iff_eq.2 hm⟩
        rw [hany, Bool.not_true, Bool.and_false]
    · rw [show (master m (advance t s)).resetting = true from hreset, Bool.true_and, Bool.not_eq_true', List.any_eq_false]
      exact fun r hr hm => hnone r hr (beq_iff_eq.1 hm)
    · rw [complete_of_none]
      · exact .rfl' _
      · exact hwait
  · intro z left
    refine ⟨ctrGet_masterResets m x, done_masterReset m x, fun q hq => ?_, ?_, fun hm h => ?_⟩
    · obtain ⟨hmem, hown⟩ := List.mem_filter.1 hq
      rw [reqs_masterReset] at hmem
      exact mem_keptAtReset_own m x hmem (beq_iff_eq.1 hown)
    · rw [reqs_masterReset]
      exact filter_keptAtReset_others m x
    · rw [master_masterReset_busy hm h]
      exact ⟨rfl, rfl, rfl⟩
  · intro got
    rw [show got = _ from pieceRead_refused h len bad corrected]
    exact ⟨rfl, rfl, decodeError_eq ..⟩
  · rw [pieceWrite_refused h]
    exact ⟨rfl, decodeError_eq ..⟩
  · rw [pieceWrite_sram hsram hreach]
    exact ⟨rfl, sramByte_foldl_of_mem hdata hnodup x, fun b hb hne => sramByte_foldl_of_ne hdata hb hne x⟩

end Sys2Proof.Machine
end

section
/-! ZCP_PARAM_GET and ZCP_PARAM_SET (R509 to R516): what each asks and writes is the same whatever the session and the
counters hold. -/

namespace Sys2Proof.Machine

/-! ### Commands of several types -/

/-- A command that names its types by a test is answered as its body answers. -/
theorem answers_of_arrive {i : Instr} {typ t code : Nat} {d : Dgram} {s y : State} {isTyp : Nat → Bool} {body : Ctx → State → Res}
    {open_ : Dgram → State → State} (hx : exec i s = act t (arrive isTyp body open_ d) s) (h : Accepted typ d (advance t s))
    (hi : isTyp d.typ = true) (hb : d.typ ≠ 0x0A03)
    (hr : ∀ s', restZ s' = restZ (advance t s) → ∃ b s'', body d.ctx s' = answer code b s'' ∧ restZ s'' = restZ y) :
    Answers i d code s y := by
  obtain ⟨b, s'', hbody, hrest⟩ := hr _ (restZ_taken d (advance t s))
  refine ⟨settle (sendReply d.session d.seq d.typ code b s''), ?_, ?_, ?_⟩
  · rw [hx, act, arrive_accepted _ body _ h hi, hbody, finish_answer _ _ _ hb]
  · rw [lastReply_settle]
    exact lastReply_sendReply _ _ _ _ _ (early_session h.checks)
  · rw [restZ_settle, restZ_sendReply, hrest]

/-! ### Operations that sessions and counters do not steer -/

/-- What an operation leaves outside sessions and reports depends on what stood there alone. -/
structure RestAlike (f : State → State) : Prop where
  alike : ∀ x y : State, restZ y = restZ x → restZ (f y) = restZ (f x)

/-- Readmission of the running plan by two admissions (R308): what was asked, and what shedding allows. -/
def readmitted (run : Plan) (a b : Admission) (s : State) : State :=
  let s1 := raiseBytes .planReadmit a.report s
  match b.plan with
  | none => raise .planOver [a.reason] s1
  | some new =>
    let j := joinShed run new
    if b.outcome = 0 ∨ (j.channels = run.channels ∧ j.skipN = run.skipN) then s1
    else { s1 with plan := { s1.plan with
      shedDue := some { j with
        epoch := s1.plan.lastEpoch + 1
        sc := boundaryAfter run (msT 20) s1
        freshBanks := false
        known := run.known }
      lastEpoch := s1.plan.lastEpoch + 1 } }

/-- The running plan with every channel that it lists. -/
def relisted (run : Plan) : Plan := { run with channels := run.listed, skipN := 0, shed := 0 }

theorem readmit_of_none {s : State} (h : s.plan.running = none) : readmit s = s := by
  rw [readmit, h]

theorem readmit_of_some {s : State} {run : Plan} (h : s.plan.running = some run) : readmit s =
    readmitted run (admitPlan (relisted run) run.id (fun _ => 0) false s)
      (let a := admitPlan (relisted run) run.id (fun _ => 0) false s
       if a.outcome = 2 ∧ a.reason = 0x13 then admitPlan (relisted run) run.id (fun _ => 0) true s else a) s := by
  rw [readmit, h]
  rfl

namespace RestAlike

variable {f g : State → State}

theorem id : RestAlike fun s => s := ⟨fun _ _ h => h⟩

theorem comp (hg : RestAlike g) (hf : RestAlike f) : RestAlike fun s => g (f s) :=
  ⟨fun x y h => hg.alike _ _ (hf.alike x y h)⟩

/-- An operation on what stands outside sessions and reports. -/
theorem of_comm (h : ∀ s, restZ (f s) = restZ (f (restZ s))) : RestAlike f :=
  ⟨fun x y hxy => by rw [h y, h x, hxy]⟩

/-- A report. -/
theorem report (h : ∀ s, restZ (f s) = restZ s) : RestAlike f :=
  ⟨fun x y hxy => by rw [h y, h x, hxy]⟩

theorem ite {p : State → Prop} [DecidablePred p] (hp : ∀ s, p (restZ s) = p s) (hf : RestAlike f) (hg : RestAlike g) :
    RestAlike fun s => if p s then f s else g s := by
  refine ⟨fun x y h => ?_⟩
  have hiff : p y = p x := by rw [← hp y, ← hp x, h]
  by_cases hpx : p x
  · rw [if_pos hpx, if_pos (hiff.mpr hpx)]
    exact hf.alike x y h
  · rw [if_neg hpx, if_neg fun hpy => hpx (hiff.mp hpy)]
    exact hg.alike x y h

theorem foldl {α : Type} {f : State → α → State} (hf : ∀ a, RestAlike fun s => f s a) (l : List α) :
    RestAlike fun s => l.foldl f s := by
  refine ⟨fun x y h => ?_⟩
  induction l generalizing x y with
  | nil => exact h
  | cons a l ih => exact ih _ _ ((hf a).alike x y h)

/-- An operation that takes a value from what stands outside sessions and reports. -/
theorem of_read {β : Type} {r : State → β} (hr : ∀ s, r (restZ s) = r s) {F : β → State → State} (hF : ∀ b, RestAlike (F b)) :
    RestAlike fun s => F (r s) s := by
  refine ⟨fun x y h => ?_⟩
  have hread : r y = r x := by rw [← hr y, ← hr x, h]
  rw [hread]
  exact (hF _).alike x y h

theorem count (c : Ctr) (i n : Nat) : RestAlike (count c i n) := report fun _ => rfl

theorem ctrClear (c : Ctr) (i : Nat) : RestAlike (ctrClear c i) := report fun _ => rfl

theorem raise (e : Ev) (fields : State → List Nat) : RestAlike fun s => raise e (fields s) s := report fun _ => restZ_raise ..

theorem setPar (i : Item) (inst elem v : Nat) : RestAlike (setPar i inst elem v) := of_comm fun _ => rfl

theorem fired (f : Fs) : RestAlike (fired f) := by
  refine of_comm fun s => ?_
  have hepisode : episode f.cls (restZ s) = episode f.cls s := rfl
  unfold Machine.fired
  cases he : (episode f.cls s).state
  · simp only [hepisode, he]
    rfl
  · simp only [hepisode, he]
    rfl
  · simp only [hepisode, he]
    rfl

theorem fire (f : Fs) : RestAlike (fire f) := ⟨fun x y h =>
  (fire_eq f y).restZ.trans (((fired f).alike x y h).trans (fire_eq f x).restZ.symm)⟩

/-- Replies to the commands that wait under a name change sessions; the commands wait no longer. -/
theorem complete (why : Why) (unit code : Nat) (body : List Byte) : RestAlike (complete why unit code body) := by
  have hreplies (s : State) : restZ (Machine.complete why unit code body s) = restZ { s with zcp := { s.zcp with
      waiting := (s.zcp.waiting.partition fun w => w.why == why.code && w.unit == unit).2 } } := by
    refine foldl_keeps (π := restZ) (fun x w => ?_) _ _
    split
    · exact restZ_sendReply ..
    · rfl
  refine ⟨fun x y h => ?_⟩
  rw [hreplies, hreplies]
  exact (congrArg (fun s : State => { s with zcp := { s.zcp with
    waiting := (s.zcp.waiting.partition fun w : Waiting => w.why == why.code && w.unit == unit).2 } }) h :)

theorem raiseBytes (e : Ev) (b : List Byte) : RestAlike (raiseBytes e b) := report fun s => (raiseBytes_eq e b s).restZ

/-- A plan that is due at a boundary of the running one. -/
theorem shedDue (j run : Plan) : RestAlike fun s => { s with plan := { s.plan with
    shedDue := some { j with
      epoch := s.plan.lastEpoch + 1
      sc := boundaryAfter run (msT 20) s
      freshBanks := false
      known := run.known }
    lastEpoch := s.plan.lastEpoch + 1 } } := of_comm fun _ => rfl

/-- What readmission does with its two admissions. -/
theorem readmitted (run : Plan) (a b : Admission) : RestAlike (readmitted run a b) := by
  unfold Machine.readmitted
  cases b.plan with
  | none => exact (report fun _ => restZ_raise ..).comp (raiseBytes .planReadmit a.report)
  | some new =>
    exact ite (p := fun _ => _) (fun _ => rfl) (raiseBytes ..) ((shedDue (joinShed run new) run).comp (raiseBytes ..))

theorem readmit : RestAlike readmit := by
  refine ⟨fun x y h => ?_⟩
  have hplan : y.plan = x.plan := plan_of_restZ h
  cases hrun : x.plan.running with
  | none => rw [readmit_of_none hrun, readmit_of_none (hplan ▸ hrun), h]
  | some run =>
    rw [readmit_of_some hrun, readmit_of_some (hplan ▸ hrun), admitPlan_of_restZ h, admitPlan_of_restZ h]
    exact (readmitted ..).alike x y h

end RestAlike

/-! ### A request for a pin rate -/

section
variable (k bin : Nat)

theorem stack_restZ (s : State) : stack k (restZ s) = stack k s := rfl

theorem binReported_alike (cause : Nat) : RestAlike (binReported k bin cause) := by
  have hset : RestAlike fun s => setStack k { stack k s with bin := bin } s := .of_comm fun _ => rfl
  have hraised : RestAlike fun s => raise .memSpeed [k, (stack k s).bin, bin, cause] (setStack k { stack k s with bin := bin } s) :=
    ⟨fun x y h => (restZ_raise ..).trans ((hset.alike x y h).trans (restZ_raise ..).symm)⟩
  exact .ite (fun _ => rfl) ((RestAlike.fire _).comp ((RestAlike.count ..).comp hraised)) hraised

theorem changeBin_alike (cause : Nat) : RestAlike (changeBin k bin cause) :=
  .ite (fun _ => rfl) .id (RestAlike.readmit.comp (binReported_alike k bin cause))

theorem beginOutage_alike (asked : Option Nat) : RestAlike (beginOutage k bin asked) := by
  have hstates : RestAlike (setStackChans k .outage) :=
    .of_read (r := stackChans k) (fun _ => rfl) (F := fun l x => l.foldl (fun x c => setChan c { chan c x with state := .outage } x) x)
      fun l => .foldl (fun c => .of_comm fun _ => rfl) l
  exact (changeBin_alike k bin _).comp (hstates.comp (.of_comm fun _ => rfl))

theorem requestSpeed_alike : RestAlike (requestSpeed k bin) := by
  refine .ite (fun _ => rfl) .id (.ite (fun _ => rfl) ?_ (.ite (fun _ => rfl) (.setPar ..) (beginOutage_alike ..)))
  exact (RestAlike.complete ..).comp (.of_comm fun _ => rfl)

end

/-! ### Values that a SET applies (R511, R512, R516) -/

section
variable (i : Item) (inst elem v : Nat)

theorem takeImmediate_alike : RestAlike (takeImmediate i inst elem v) := by
  refine .ite (fun _ => rfl) (.of_comm fun _ => rfl) (.ite (fun _ => rfl) (.of_comm fun _ => rfl)
    (.ite (fun _ => rfl) (.of_comm fun _ => rfl) (.ite (fun _ => rfl) ?_ (.setPar ..))))
  exact (requestSpeed_alike ..).comp (.setPar ..)

theorem takeBoundary_alike : RestAlike (takeBoundary i inst) :=
  (RestAlike.foldl (fun _ => .of_comm fun _ => rfl) (List.range i.desc.elems)).comp (.of_comm fun _ => rfl)

theorem applyElem_alike : RestAlike (applyElem i inst elem v) := by
  have hpend : RestAlike (setPend i inst elem v) := .of_comm fun _ => rfl
  refine .ite (fun _ => rfl) (takeImmediate_alike ..) (.ite (fun _ => rfl) hpend (.ite (fun _ => rfl) ?_ ?_))
  · exact (takeBoundary_alike i inst).comp hpend
  · exact .of_comm fun _ => rfl

end

theorem applyInst_alike (x : Named) (inst first : Nat) (l : List Nat) : RestAlike (applyInst x inst first l) := by
  cases x with
  | item i =>
    refine ⟨fun x y h => ?_⟩
    unfold applyInst
    dsimp only
    induction l generalizing first x y with
    | nil => exact h
    | cons v l ih => exact ih _ _ _ ((applyElem_alike i inst first v).alike x y h)
  | ctr c => exact .ite (p := fun _ => l.isEmpty = true) (fun _ => rfl) .id (.ctrClear ..)
  | ev code => exact .ite (p := fun _ => l.isEmpty = true) (fun _ => rfl) .id (.report fun _ => rfl)
  | cat g => exact .id

theorem applyEntry_alike (e : SetEntry) : RestAlike fun s => applyEntry s e := by
  unfold applyEntry
  cases namedIn (keyGroup e.key) (keyNum e.key) with
  | none => exact .id
  | some x =>
    refine .ite (p := fun _ => keyInst e.key = 0xFFF) (fun _ => rfl) ?_ (applyInst_alike ..)
    exact .foldl (fun n => applyInst_alike x n e.first e.numbers) (allInsts x.scope)

end Sys2Proof.Machine
end

section
/-! O55: reading and setting parameters, and items that take their values at a boundary (R509 to R516). -/

namespace Sys2Proof.Machine

/-! ### ZCP_PARAM_GET (R513, R514) -/

section
variable (s s' : State)

theorem length_catEntry (n : Nat) (x : Named) (slot slot' : Nat) :
    (catEntry n x slot).length = (catEntry n x slot').length := by
  simp only [catEntry, List.length_append, length_natBE]

theorem length_bytes (x : Named) (staged : Bool) (inst elem : Nat) :
    (x.bytes staged inst elem s).length = (x.bytes staged inst elem s').length := by
  cases x with
  | cat g =>
    unfold Named.bytes
    dsimp only
    split
    · exact length_catEntry ..
    · rfl
  | item i => exact (length_natBE ..).trans (length_natBE ..).symm
  | ctr c => exact (length_natBE ..).trans (length_natBE ..).symm
  | ev code => exact (length_natBE ..).trans (length_natBE ..).symm

theorem length_flatMap_congr {α : Type} {f g : α → List Byte} (h : ∀ a, (f a).length = (g a).length) (l : List α) :
    (l.flatMap f).length = (l.flatMap g).length := by
  rw [List.length_flatMap, List.length_flatMap]
  exact congrArg List.sum (List.map_congr_left fun a _ => h a)

theorem length_pad4_congr {l l' : List Byte} (h : l.length = l'.length) : (pad4 l).length = (pad4 l').length := by
  simp only [pad4, List.length_append, List.length_replicate, h]

/-- How long an entry is does not depend on the values that it carries. -/
theorem length_getEntry (mailbox : Nat) (staged : Bool) (req : List Byte) :
    (getEntry mailbox staged req s).length = (getEntry mailbox staged req s').length := by
  unfold getEntry
  dsimp only
  cases namedIn (keyGroup (beAt req 0 4)) (keyNum (beAt req 0 4)) with
  | none => rfl
  | some x =>
    dsimp only
    split
    · rfl
    · split
      · rfl
      · split
        · rfl
        · simp only [List.length_append, length_natBE]
          exact congrArg (_ + ·) (length_pad4_congr (length_flatMap_congr (fun e => length_bytes s s' x staged _ _) _))

end

/-- The entries of a GET's reply. -/
def getBody (c : Ctx) (s : State) : List Byte :=
  (piecesOf 8 (beAt c.payload 0 2) (c.payload.drop 4)).flatMap fun r =>
    getEntry (c.typ / 256) (bitAt (beAt c.payload 2 1) 0) r s

theorem length_getBody (c : Ctx) (s s' : State) : (getBody c s).length = (getBody c s').length :=
  length_flatMap_congr (fun _ => length_getEntry s s' ..) _

theorem paramGet_eq (c : Ctx) (s : State) : paramGet c s =
    if c.payload.length ≠ 4 + 8 * beAt c.payload 0 2 then refuse rBadLength s
    else if beAt c.payload 0 2 = 0 ∨ 256 < beAt c.payload 0 2 then refuse rBadValue s
    else if 8188 < (getBody c s).length then refuse rBadLength s else answer rOk (getBody c s) s := rfl

section
variable {t : Nat} {d : Dgram} {s : State}

theorem exec_zcpParamGet : exec (.zcpParamGet t d) s =
    act t (arrive (fun typ => typ % 256 == 0 && decide (typ / 256 ≤ 9)) paramGet (fun _ x => x) d) s := rfl

section
variable (hd : Accepted d.typ d (advance t s)) (hkind : d.typ % 256 = 0) (hbox : d.typ / 256 ≤ 9)
include hd hkind hbox

theorem paramGet_answers {code : Nat} (h : ∀ y, ∃ b, paramGet d.ctx y = answer code b y) :
    Answers (.zcpParamGet t d) d code s (advance t s) := by
  refine answers_of_arrive exec_zcpParamGet hd (by simp [hkind, hbox]) (fun heq => ?_) fun y hy => ?_
  · rw [heq] at hkind
    exact absurd hkind (by decide)
  · obtain ⟨b, hb⟩ := h y
    exact ⟨b, y, hb, hy⟩

theorem paramGet_badLength (h : d.payload.length ≠ 4 + 8 * beAt d.payload 0 2) :
    Answers (.zcpParamGet t d) d rBadLength s (advance t s) :=
  paramGet_answers hd hkind hbox fun _ => ⟨[], (paramGet_eq ..).trans (if_pos h)⟩

variable (hlen : d.payload.length = 4 + 8 * beAt d.payload 0 2)
include hlen

theorem paramGet_badValue (h : beAt d.payload 0 2 = 0 ∨ 256 < beAt d.payload 0 2) :
    Answers (.zcpParamGet t d) d rBadValue s (advance t s) :=
  paramGet_answers hd hkind hbox fun _ => ⟨[], (paramGet_eq ..).trans ((if_neg (not_not.2 hlen)).trans (if_pos h))⟩

variable (hmin : 1 ≤ beAt d.payload 0 2) (hmax : beAt d.payload 0 2 ≤ 256)
include hmin hmax

omit hd hkind hbox in
theorem paramGet_of_count (y : State) : paramGet d.ctx y =
    if 8188 < (getBody d.ctx (advance t s)).length then refuse rBadLength y else answer rOk (getBody d.ctx y) y := by
  rw [paramGet_eq, length_getBody d.ctx y (advance t s)]
  exact (if_neg (not_not.2 hlen)).trans (if_neg fun h => h.elim (Nat.pos_iff_ne_zero.1 hmin) (Nat.not_lt.2 hmax))

theorem paramGet_long (h : 8188 < (getBody d.ctx (advance t s)).length) :
    Answers (.zcpParamGet t d) d rBadLength s (advance t s) :=
  paramGet_answers hd hkind hbox fun y => ⟨[], (paramGet_of_count hlen hmin hmax y).trans (if_pos h)⟩

theorem paramGet_fits (h : (getBody d.ctx (advance t s)).length ≤ 8188) :
    Answers (.zcpParamGet t d) d rOk s (advance t s) ∧
    (paramGet d.ctx (advance t s)).reply = some (rOk, getBody d.ctx (advance t s)) := by
  refine ⟨paramGet_answers hd hkind hbox fun y =>
    ⟨getBody d.ctx y, (paramGet_of_count hlen hmin hmax y).trans (if_neg (Nat.not_lt.2 h))⟩, ?_⟩
  rw [paramGet_of_count hlen hmin hmax, if_neg (Nat.not_lt.2 h)]
  rfl

end

/-! ### ZCP_PARAM_SET (R515) -/

theorem firstRefusal_some {mailbox slot code : Nat} {a b : List SetEntry} {e : SetEntry}
    (ha : ∀ f ∈ a, setRefusal mailbox slot f = none) (he : setRefusal mailbox slot e = some code) (n : Nat) :
    firstRefusal mailbox slot n (a ++ e :: b) = some (n + a.length, code) := by
  induction a generalizing n with
  | nil => simp only [List.nil_append, firstRefusal, he, List.length_nil, Nat.add_zero]
  | cons f a ih =>
    have hrest := ih (fun g hg => ha g (List.mem_cons_of_mem f hg)) (n + 1)
    simp only [List.cons_append, firstRefusal, ha f List.mem_cons_self, hrest, List.length_cons, Nat.add_assoc,
      Nat.add_comm 1]

theorem firstRefusal_none {mailbox slot : Nat} {l : List SetEntry} (h : ∀ e ∈ l, setRefusal mailbox slot e = none) (n : Nat) :
    firstRefusal mailbox slot n l = none := by
  induction l generalizing n with
  | nil => rfl
  | cons e l ih =>
    simp only [firstRefusal, h e List.mem_cons_self, ih fun f hf => h f (List.mem_cons_of_mem e hf)]

theorem exec_zcpParamSet : exec (.zcpParamSet t d) s =
    act t (arrive (fun typ => typ % 256 == 1 && decide (typ / 256 ≤ 9)) paramSet (fun _ x => x) d) s := rfl

section
variable (hd : Accepted d.typ d (advance t s)) (hkind : d.typ % 256 = 1) (hbox : d.typ / 256 ≤ 9)
  (hlen : 4 ≤ d.payload.length)
include hd hkind hbox hlen

omit hlen in
theorem paramSet_answers {code : Nat} {z : State} (h : ∀ y, restZ y = restZ (advance t s) →
    ∃ b y', paramSet d.ctx y = answer code b y' ∧ restZ y' = restZ z) : Answers (.zcpParamSet t d) d code s z := by
  refine answers_of_arrive exec_zcpParamSet hd (by simp [hkind, hbox]) (fun heq => ?_) h
  rw [heq] at hkind
  exact absurd hkind (by decide)

theorem paramSet_badValue (h : beAt d.payload 0 2 = 0 ∨ 256 < beAt d.payload 0 2) :
    Answers (.zcpParamSet t d) d rBadValue s (advance t s) :=
  paramSet_answers hd hkind hbox fun y hy => ⟨[], y, (if_neg (Nat.not_lt.2 hlen)).trans (if_pos h), hy⟩

variable {l : List SetEntry} (hmin : 1 ≤ beAt d.payload 0 2) (hmax : beAt d.payload 0 2 ≤ 256)
  (hl : setEntries (beAt d.payload 0 2) (d.payload.drop 4) = some l)
include hmin hmax hl

omit hkind hbox in
theorem paramSet_of_entries (y : State) : paramSet d.ctx y =
    match firstRefusal d.mailbox d.session 0 l with
    | some (k, code) => answer code (natBE 2 k ++ natBE 2 0) y
    | none => answer rOk (natBE 2 0xFFFF ++ natBE 2 0) (l.foldl applyEntry y) := by
  unfold paramSet
  simp only [show d.ctx.payload = d.payload from rfl, show d.ctx.typ = d.typ from rfl, show d.ctx.slot = d.session from rfl,
    Nat.not_lt.2 hlen, Nat.not_lt.2 hmax, (Nat.pos_iff_ne_zero.1 hmin), or_self, if_false, hl, hd.mailbox] <;> rfl

theorem paramSet_refused {a b : List SetEntry} {e : SetEntry} {code : Nat} (hsplit : l = a ++ e :: b)
    (ha : ∀ f ∈ a, setRefusal d.mailbox d.session f = none) (he : setRefusal d.mailbox d.session e = some code) :
    Answers (.zcpParamSet t d) d code s (advance t s) ∧
    (paramSet d.ctx (advance t s)).reply = some (code, natBE 2 a.length ++ natBE 2 0) := by
  have hbody (y : State) : paramSet d.ctx y = answer code (natBE 2 a.length ++ natBE 2 0) y := by
    rw [paramSet_of_entries hd hlen hmin hmax hl, hsplit, firstRefusal_some ha he, Nat.zero_add]
  refine ⟨paramSet_answers hd hkind hbox fun y hy => ⟨_, y, hbody y, hy⟩, ?_⟩
  rw [hbody]
  rfl

theorem paramSet_applied (h : ∀ e ∈ l, setRefusal d.mailbox d.session e = none) :
    Answers (.zcpParamSet t d) d rOk s (l.foldl applyEntry (advance t s)) := by
  refine paramSet_answers hd hkind hbox fun y hy => ⟨natBE 2 0xFFFF ++ natBE 2 0, l.foldl applyEntry y, ?_, ?_⟩
  · rw [paramSet_of_entries hd hlen hmin hmax hl, firstRefusal_none h]
  · exact (RestAlike.foldl applyEntry_alike l).alike _ _ hy

end

end

theorem ite_some_eq_none {α : Type} {p : Prop} [Decidable p] {a : α} {r : Option α} :
    (if p then some a else r) = none ↔ ¬ p ∧ r = none := by
  by_cases h : p
  · simp [h]
  · simp [h]

theorem ite_none_some_eq_none {α : Type} {p : Prop} [Decidable p] {a : α} :
    (if p then none else some a) = none ↔ p := by
  by_cases h : p
  · simp [h]
  · simp [h]

/-- An entry that is not refused meets R515. -/
theorem of_setRefusal_none {mailbox slot : Nat} {e : SetEntry} (h : setRefusal mailbox slot e = none) :
    ∃ y, namedIn (keyGroup e.key) (keyNum e.key) = some y ∧ (keyInst e.key = 0xFFF → e.num = 1) ∧
      (keyInst e.key ≠ 0xFFF → instOk y.scope (keyInst e.key) = true) ∧
      (mailbox = 0 ∨ groupMailbox (keyGroup e.key) = mailbox) ∧ y.readOnly = false ∧ e.ty = y.ty.code ∧
      e.first + e.num ≤ y.elems ∧ ∀ v ∈ e.numbers, y.accepts v = true := by
  unfold setRefusal at h
  dsimp only at h
  cases hname : namedIn (keyGroup e.key) (keyNum e.key) with
  | none => rw [hname] at h; exact absurd h (Option.some_ne_none _)
  | some y =>
    rw [hname] at h
    simp only [ite_some_eq_none, ite_none_some_eq_none] at h
    obtain ⟨hinst, hserves, -, hread, hshape, haccepts⟩ := h
    rw [not_or, not_not, Nat.not_lt] at hshape
    refine ⟨y, rfl, fun hall => ?_, fun hone => ?_, ?_, Bool.eq_false_iff.2 hread, hshape.1, hshape.2, fun v hv => ?_⟩
    · simpa [hall] using hinst
    · simpa [hone] using hinst
    · simpa [serves, Decidable.or_iff_not_imp_left] using hserves
    · exact List.all_eq_true.1 haccepts v hv

/-! ### Elements (R511, R512) -/

section
variable (i : Item) (inst elem v : Nat) (x : State)

theorem pend_setPend : parPend i inst elem (setPend i inst elem v x) = v := sGet_sPut_same ..

theorem takeImmediate_plain (hsticky : i ≠ .faultSticky) (hbin : i ≠ .memMaxBin) :
    par i inst elem (takeImmediate i inst elem v x) = v ∧ (takeImmediate i inst elem v x).pend = x.pend := by
  unfold takeImmediate
  rw [if_neg hsticky]
  split
  · exact ⟨par_setPar_eq .., rfl⟩
  · split
    · exact ⟨par_setPar_eq .., rfl⟩
    · exact ⟨par_setPar_eq .., rfl⟩

theorem takeImmediate_maxBin : takeImmediate .memMaxBin inst elem v x = requestSpeed inst v (setPar .memMaxBin inst elem v x) := by
  unfold takeImmediate
  rw [if_neg nofun, if_neg (fun h => absurd h.1 nofun), if_neg (fun h => absurd h.1 nofun), if_pos rfl]

/-- The pending values of an item's elements taken one after another. -/
theorem foldl_setPar_parPend (l : List Nat) : let z := l.foldl (fun y e => setPar i inst e (parPend i inst e y) y) x
    z.pend = x.pend ∧ z.mem = x.mem ∧ z.plan = x.plan ∧ z.boundary = x.boundary ∧
    (∀ e ∈ l, par i inst e z = parPend i inst e x) ∧
    ∀ e, (∀ e' ∈ l, itemKey i inst e' ≠ itemKey i inst e) → par i inst e z = par i inst e x := by
  induction l generalizing x with
  | nil => exact ⟨rfl, rfl, rfl, rfl, nofun, fun _ _ => rfl⟩
  | cons a l ih =>
    obtain ⟨hpend, hmem, hplan, hboundary, htaken, hkept⟩ := ih (setPar i inst a (parPend i inst a x) x)
    refine ⟨hpend, hmem, hplan, hboundary, fun e he => ?_, fun e he => ?_⟩
    · by_cases hl : e ∈ l
      · exact htaken e hl
      · obtain rfl : e = a := (List.mem_cons.1 he).resolve_right hl
        by_cases hkey : ∃ e' ∈ l, itemKey i inst e' = itemKey i inst e
        · obtain ⟨e', he', hsame⟩ := hkey
          have htake := htaken e' he'
          rw [par, hsame] at htake
          rw [List.foldl_cons, par, htake]
          exact congrArg (sGet keyReset x.pend) hsame
        · rw [List.foldl_cons, hkept e fun e' he' hsame => hkey ⟨e', he', hsame⟩, par_setPar_eq]
    · rw [List.foldl_cons, hkept e fun e' he' => he e' (List.mem_cons_of_mem a he'),
        par_setPar_of_ne (he a List.mem_cons_self).symm]

theorem takeBoundary_leaves : let z := takeBoundary i inst x
    (∀ e < i.desc.elems, par i inst e z = parPend i inst e x) ∧ z.pend = x.pend ∧
    z.boundary = x.boundary.filter (·.1 != itemKey i inst 0) ∧ z.mem = x.mem ∧ z.plan = x.plan := by
  obtain ⟨hpend, hmem, hplan, hboundary, htaken, -⟩ := foldl_setPar_parPend i inst
    { x with boundary := x.boundary.filter (·.1 != itemKey i inst 0) } (List.range i.desc.elems)
  exact ⟨fun e he => htaken e (List.mem_range.2 he), hpend, hboundary, hmem, hplan⟩

end

/-! ### BOUNDARY_ITEM_APPLY (R511) -/

section
variable {t : Nat} {i : Item} {inst : Nat} {x : State}

/-- What BOUNDARY_ITEM_APPLY does. -/
def boundaryApplied (i : Item) (inst : Nat) (x : State) : State :=
  match x.boundary.find? (·.1 == itemKey i inst 0) with
  | none => x
  | some (_, since) => if boundaryPassed since x then takeBoundary i inst x else x

theorem exec_boundaryItemApply (inst : Fin 4096) (s : State) :
    exec (.boundaryItemApply t i inst) s = act t (boundaryApplied i inst) s := rfl

theorem boundaryApplied_none (h : x.boundary.find? (·.1 == itemKey i inst 0) = none) : boundaryApplied i inst x = x := by
  rw [boundaryApplied, h]

theorem boundaryApplied_some {k since : Nat} (h : x.boundary.find? (·.1 == itemKey i inst 0) = some (k, since)) :
    boundaryApplied i inst x = if boundaryPassed since x then takeBoundary i inst x else x := by
  simp only [boundaryApplied, h]

end

end Sys2Proof.Machine
end

section
/-! O55: PEEK and POKE of management SRAM (R521). -/

namespace Sys2Proof.Machine

open Touches (refl ite of_fields foldl)

/-! ### Beats of a range -/

theorem targetOf_sram {a : Nat} (hlow : 0x100000000 ≤ a) (hhigh : a < 0x101000000) : targetOf a = some .sram :=
  (if_neg (by omega)).trans (if_pos ⟨hlow, hhigh⟩)

theorem beatsOf_succ_of_pos {n a len : Nat} (h : 0 < len) :
    beatsOf (n + 1) a len = (a, min len (64 - a % 64)) ::
      beatsOf n (a + min len (64 - a % 64)) (len - min len (64 - a % 64)) := if_neg h.ne'

theorem beatsOf_of_zero (n a : Nat) : beatsOf n a 0 = [] := by
  cases n
  · rfl
  · exact if_pos rfl

/-- Enough beats for a range. -/
def Spans (n a len : Nat) : Prop := len = 0 ∨ a % 64 + len ≤ 64 * n

theorem spans_fuel (a len : Nat) : Spans (len / 64 + 2) a len := .inr (by omega)

theorem Spans.tail {n a len : Nat} (h : Spans (n + 1) a len) :
    Spans n (a + min len (64 - a % 64)) (len - min len (64 - a % 64)) := by
  unfold Spans at h ⊢
  omega

theorem Spans.eq_zero {a len : Nat} (h : Spans 0 a len) : len = 0 := h.elim id fun h => by omega

/-- A range in SRAM. -/
structure InSram (a len : Nat) : Prop where
  low : 0x100000000 ≤ a
  high : a + len ≤ 0x101000000

theorem InSram.tail {a len k : Nat} (h : InSram a len) (hk : k ≤ len) : InSram (a + k) (len - k) :=
  ⟨by have := h.low; omega, by have := h.high; omega⟩

/-! ### Reading (R521) -/

section
variable {m : Nat}

theorem decodes_sram (hm : m < 2) {a len : Nat} (h : InSram a len) (hlen : 0 < len) (write : Bool) (s : State) :
    targetOf a = some .sram ∧ decodes m write a s = true := by
  have htarget : targetOf a = some .sram := targetOf_sram h.low (by have := h.high; omega)
  refine ⟨htarget, ?_⟩
  simp [decodes, htarget, reaches, hm]

theorem pieceRead_sram (hm : m < 2) {a len : Nat} (h : InSram a len) (hlen : 0 < len) (k : Nat) (s : State) :
    pieceRead m a k [] 0 s = ((List.range k).map fun i => sramByte (a + i) s, .okay, s) := by
  obtain ⟨htarget, hdecodes⟩ := decodes_sram hm h hlen false s
  unfold pieceRead
  rw [htarget]
  simp only [hdecodes, Bool.not_true, Bool.false_eq_true, if_false]
  rfl

/-- One beat of a PEEK. -/
def peekBeat (m : Nat) (acc : List Byte × CanalStatus × State) (p : Nat × Nat) : List Byte × CanalStatus × State :=
  let got := pieceRead m p.1 p.2 [] 0 (count .pieces m 1 acc.2.2)
  (acc.1 ++ got.1, acc.2.1.worse got.2.1, got.2.2)

theorem peekBeats_eq (a len : Nat) (s : State) :
    peekBeats m a len s = (beatsOf (len / 64 + 2) a len).foldl (peekBeat m) ([], .okay, s) := rfl

/-- PEEK of SRAM reads its bytes and changes only counters. -/
theorem foldl_peekBeat_sram (hm : m < 2) (n : Nat) {a len : Nat} (h : InSram a len) (hspans : Spans n a len) (acc : List Byte)
    (s : State) : ∃ s', (beatsOf n a len).foldl (peekBeat m) (acc, .okay, s) =
      (acc ++ (List.range len).map fun i => sramByte (a + i) s, .okay, s') ∧ restZ s' = restZ s := by
  induction n generalizing a len acc s with
  | zero =>
    rw [hspans.eq_zero]
    exact ⟨s, by simp [beatsOf], rfl⟩
  | succ n ih =>
    obtain rfl | hlen := Nat.eq_zero_or_pos len
    · exact ⟨s, by simp [beatsOf_of_zero], rfl⟩
    · obtain ⟨k, hk⟩ : ∃ k, k = min len (64 - a % 64) := ⟨_, rfl⟩
      have hkle : k ≤ len := hk ▸ Nat.min_le_left ..
      have hbeat : peekBeat m (acc, .okay, s) (a, k) =
          (acc ++ (List.range k).map fun i => sramByte (a + i) s, .okay, count .pieces m 1 s) := by
        unfold peekBeat
        rw [pieceRead_sram hm h hlen]
        rfl
      obtain ⟨s', hfold, hrest⟩ := ih (h.tail hkle) (hk ▸ hspans.tail) (acc ++ (List.range k).map fun i => sramByte (a + i) s)
        (count .pieces m 1 s)
      refine ⟨s', ?_, hrest⟩
      rw [beatsOf_succ_of_pos hlen, List.foldl_cons, ← hk, hbeat, hfold, List.append_assoc]
      have hrange : List.range len = List.range k ++ (List.range (len - k)).map (k + ·) := by
        rw [← List.range_add, Nat.add_sub_cancel' hkle]
      rw [hrange, List.map_append, List.map_map]
      refine congrArg (fun l => (acc ++ (_ ++ l), _, s')) (List.map_congr_left fun i _ => ?_)
      exact congrArg (fun b => sramByte b s) (Nat.add_assoc ..)

end

section
variable {t : Nat} {d : Dgram} {s : State} (hd : Accepted 0x0B02 d (advance t s)) (hlen : d.payload.length = 16)
include hd hlen

theorem peek_refused {code : Nat} (h : ∀ y, peek d.ctx y = refuse code y) : Answers (.zcpPeek t d) d code s (advance t s) :=
  answers_of (body := sized 16 peek) rfl hd (by decide) fun y hy =>
    ⟨[], y, (sized_of_length peek (c := d.ctx) hlen y).trans (h y), hy⟩

theorem peek_badValue (h : diagBad d.payload 4096 = true) : Answers (.zcpPeek t d) d rBadValue s (advance t s) :=
  peek_refused hd hlen fun _ => if_pos h

variable (hgood : diagBad d.payload 4096 = false)
include hgood

theorem peek_notPermitted (h : touchesSem (beAt d.payload 0 8) (beAt d.payload 8 2) = true) :
    Answers (.zcpPeek t d) d rNotPermitted s (advance t s) :=
  peek_refused hd hlen fun _ => (if_neg (ne_true_of_eq_false hgood)).trans (if_pos h)

variable (hsem : touchesSem (beAt d.payload 0 8) (beAt d.payload 8 2) = false)
include hsem

omit hd hlen in
theorem peek_eq (y : State) : peek d.ctx y =
    let got := peekBeats y.zcp.activeCore (beAt d.payload 0 8) (beAt d.payload 8 2) y
    answer rOk (natBE 1 got.2.1.code ++ natBE 3 0 ++ got.1) got.2.2 :=
  (if_neg (ne_true_of_eq_false hgood)).trans (if_neg (ne_true_of_eq_false hsem))

theorem peek_leads : Leads (.zcpPeek t d) s fun z => lastReply d z = some ⟨d.seq, d.typ, rOk⟩ := by
  refine ⟨_, zcp_accepted (sized 16 peek) hd, ?_⟩
  rw [sized_of_length peek (c := d.ctx) hlen, peek_eq hgood hsem, finish_answer _ _ _ (hd.typ ▸ (by decide))]
  exact (lastReply_settle ..).trans (lastReply_sendReply _ _ _ _ _ (early_session hd.checks))

theorem peek_sram (hin : InSram (beAt d.payload 0 8) (beAt d.payload 8 2)) (hcore : (advance t s).zcp.activeCore < 2) :
    Answers (.zcpPeek t d) d rOk s (advance t s) ∧ (peek d.ctx (advance t s)).reply =
      some (rOk, [0, 0, 0, 0] ++ (List.range (beAt d.payload 8 2)).map fun k => sramByte (beAt d.payload 0 8 + k) (advance t s)) := by
  have hbody (y : State) (hy : restZ y = restZ (advance t s)) : ∃ y', peek d.ctx y =
      answer rOk ([0, 0, 0, 0] ++ (List.range (beAt d.payload 8 2)).map fun k => sramByte (beAt d.payload 0 8 + k) y) y' ∧
        restZ y' = restZ y := by
    have hactive : y.zcp.activeCore < 2 := by rwa [show y.zcp.activeCore = (advance t s).zcp.activeCore from
      (congrArg (·.zcp.activeCore) hy :)]
    obtain ⟨y', hfold, hrest⟩ := foldl_peekBeat_sram hactive _ hin (spans_fuel ..) [] y
    refine ⟨y', ?_, hrest⟩
    rw [peek_eq hgood hsem]
    dsimp only
    rw [peekBeats_eq, hfold]
    rfl
  refine ⟨?_, ?_⟩
  · refine answers_of (body := sized 16 peek) rfl hd (by decide) fun y hy => ?_
    obtain ⟨y', hpeek, hrest⟩ := hbody y hy
    exact ⟨_, y', (sized_of_length peek (c := d.ctx) hlen y).trans hpeek, hrest.trans hy⟩
  · obtain ⟨y', hpeek, -⟩ := hbody _ rfl
    rw [hpeek]
    rfl

end

/-! ### Writing (R521) -/

section
variable {m : Nat}

/-- A state whose SRAM and counters alone may differ. -/
def SramOf (s s' : State) : Prop :=
  ∃ c e r, s' = { s with ctr := c, satDue := e, canal := { s.canal with sram := r } }

theorem SramOf.refl (s : State) : SramOf s s := ⟨s.ctr, s.satDue, s.canal.sram, rfl⟩

theorem SramOf.trans {s s' s'' : State} (h : SramOf s s') (h' : SramOf s' s'') : SramOf s s'' := by
  obtain ⟨c, e, r, rfl⟩ := h
  obtain ⟨c', e', r', rfl⟩ := h'
  exact ⟨c', e', r', rfl⟩

theorem SramOf.foldl (l : List (Nat × Byte)) (s : State) : SramOf s (l.foldl (fun x e => setSram e.1 e.2 x) s) := by
  refine l.foldlRecOn (motive := SramOf s) _ (.refl s) fun y hy e _ => hy.trans ?_
  exact ⟨y.ctr, y.satDue, y.canal.sram.setByte (e.1 - 0x100000000) e.2, rfl⟩

theorem SramOf.count (c : Ctr) (i n : Nat) (s : State) : SramOf s (count c i n s) := ⟨_, _, s.canal.sram, rfl⟩

/-- The bytes of a beat with their addresses. -/
def placed (a : Nat) (l : List Byte) : List (Nat × Byte) := l.zipIdx.map fun e => (a + e.2, e.1)

theorem mem_placed {a : Nat} {l : List Byte} {e : Nat × Byte} : e ∈ placed a l ↔ ∃ i, l[i]? = some e.2 ∧ e.1 = a + i := by
  rw [placed, List.mem_map]
  constructor
  · rintro ⟨q, hq, rfl⟩
    exact ⟨q.2, List.mem_zipIdx_iff_getElem?.1 hq, rfl⟩
  · rintro ⟨i, hi, he⟩
    exact ⟨(e.2, i), List.mem_zipIdx_iff_getElem?.2 hi, Prod.ext he.symm rfl⟩

theorem nodup_placed (a : Nat) (l : List Byte) : ((placed a l).map (·.1)).Nodup := by
  have hkeys : (placed a l).map (·.1) = (List.range l.length).map (a + ·) := by
    rw [placed, List.map_map, List.range_eq_range', ← List.zipIdx_map_snd 0 l, List.map_map]
    rfl
  rw [hkeys]
  exact List.nodup_range.map fun _ _ h => Nat.add_left_cancel h

/-- The bytes of SRAM after consecutive bytes are written from an address on. -/
theorem sramByte_placed {a b : Nat} (ha : 0x100000000 ≤ a) (hb : 0x100000000 ≤ b) (l : List Byte) (s : State) :
    sramByte b ((placed a l).foldl (fun x e => setSram e.1 e.2 x) s) =
      if a ≤ b ∧ b < a + l.length then l.getD (b - a) 0 else sramByte b s := by
  have hlow : ∀ e ∈ placed a l, 0x100000000 ≤ e.1 := fun e he => by
    obtain ⟨i, -, hi⟩ := mem_placed.1 he
    omega
  split
  case isTrue h =>
    have hget : l[b - a]? = some (l.getD (b - a) 0) := by
      rw [List.getD_eq_getElem?_getD, List.getElem?_eq_getElem (by omega), Option.getD_some]
    exact sramByte_foldl_of_mem hlow (nodup_placed a l) s (b, l.getD (b - a) 0) (mem_placed.2 ⟨b - a, hget, by dsimp only; omega⟩)
  case isFalse h =>
    refine sramByte_foldl_of_ne hlow hb (fun e he heq => h ?_) s
    obtain ⟨i, hi, hei⟩ := mem_placed.1 he
    obtain ⟨hlt, -⟩ := List.getElem?_eq_some_iff.1 hi
    omega

/-- One beat of a POKE. -/
def pokeBeat (m a : Nat) (bytes : List Byte) (acc : CanalStatus × State) (p : Nat × Nat) : CanalStatus × State :=
  let put := pieceWrite m p.1 (placed p.1 (slice bytes (p.1 - a) p.2)) (count .pieces m 1 acc.2)
  (acc.1.worse put.1, put.2)

theorem pokeBeats_eq (a : Nat) (bytes : List Byte) (s : State) : pokeBeats m a bytes s =
    (beatsOf (bytes.length / 64 + 2) a bytes.length).foldl (pokeBeat m a bytes) (.okay, s) := rfl

theorem sramByte_count (b : Nat) (c : Ctr) (i n : Nat) (s : State) : sramByte b (count c i n s) = sramByte b s := rfl

theorem length_slice {bytes : List Byte} {off k : Nat} (h : off + k ≤ bytes.length) : (slice bytes off k).length = k := by
  rw [slice, List.length_take, List.length_drop]
  omega

theorem getD_slice {bytes : List Byte} {off k i : Nat} (h : i < k) : (slice bytes off k).getD i 0 = bytes.getD (off + i) 0 := by
  rw [slice, List.getD_eq_getElem?_getD, List.getElem?_take_of_lt h, List.getElem?_drop, ← List.getD_eq_getElem?_getD]

/-- POKE of SRAM writes its bytes and changes no other byte. -/
theorem foldl_pokeBeat_sram (hm : m < 2) (n : Nat) {a off len : Nat} {bytes : List Byte} (h : InSram (a + off) len)
    (ha : 0x100000000 ≤ a) (hbytes : off + len = bytes.length) (hspans : Spans n (a + off) len) (s : State) :
    ∃ s', (beatsOf n (a + off) len).foldl (pokeBeat m a bytes) (.okay, s) = (.okay, s') ∧ SramOf s s' ∧
      ∀ b, 0x100000000 ≤ b → sramByte b s' =
        if a + off ≤ b ∧ b < a + off + len then bytes.getD (b - a) 0 else sramByte b s := by
  induction n generalizing off len s with
  | zero =>
    rw [hspans.eq_zero]
    exact ⟨s, rfl, .refl s, fun b _ => (if_neg (by omega)).symm⟩
  | succ n ih =>
    obtain rfl | hlen := Nat.eq_zero_or_pos len
    · rw [beatsOf_of_zero]
      exact ⟨s, rfl, .refl s, fun b _ => (if_neg (by omega)).symm⟩
    · obtain ⟨k, hk⟩ : ∃ k, k = min len (64 - (a + off) % 64) := ⟨_, rfl⟩
      have hkle : k ≤ len := hk ▸ Nat.min_le_left ..
      obtain ⟨w, hw⟩ : ∃ w, w = (placed (a + off) (slice bytes off k)).foldl (fun x e => setSram e.1 e.2 x)
        (count .pieces m 1 s) := ⟨_, rfl⟩
      have hbeat : pokeBeat m a bytes (.okay, s) (a + off, k) = (.okay, w) := by
        obtain ⟨htarget, -⟩ := decodes_sram hm h hlen true s
        unfold pokeBeat
        rw [pieceWrite_sram htarget (by simp [reaches, hm]), hw, Nat.add_sub_cancel_left]
        rfl
      have hbyte (b : Nat) (hb : 0x100000000 ≤ b) : sramByte b w =
          if a + off ≤ b ∧ b < a + off + k then bytes.getD (b - a) 0 else sramByte b s := by
        rw [hw, sramByte_placed (by omega) hb, length_slice (by omega), sramByte_count]
        by_cases hin : a + off ≤ b ∧ b < a + off + k
        · rw [if_pos hin, if_pos hin, getD_slice (by omega), show off + (b - (a + off)) = b - a by omega]
        · rw [if_neg hin, if_neg hin]
      have hfuel : Spans n (a + (off + k)) (len - k) := by
        rw [← Nat.add_assoc]
        exact hk ▸ hspans.tail
      have hin : InSram (a + (off + k)) (len - k) := by
        rw [← Nat.add_assoc]
        exact h.tail hkle
      obtain ⟨s', hfold, hsram, hrest⟩ := ih hin (by omega) hfuel w
      refine ⟨s', ?_, ?_, fun b hb => ?_⟩
      · rw [beatsOf_succ_of_pos hlen, List.foldl_cons, ← hk, hbeat, Nat.add_assoc, hfold]
      · exact (SramOf.count ..).trans ((hw ▸ SramOf.foldl ..).trans hsram)
      · rw [hrest b hb, hbyte b hb]
        by_cases hhead : a + off ≤ b ∧ b < a + off + k
        · rw [if_pos hhead, ite_self, if_pos (by omega)]
        · rw [if_neg hhead]
          refine if_congr ?_ rfl rfl
          omega

end

section
variable {t : Nat} {d : Dgram} {s : State} (hd : Accepted 0x0B03 d (advance t s))
include hd

theorem poke_refused {code : Nat} (h : ∀ y, restZ y = restZ (advance t s) → poke d.ctx y = refuse code y) :
    Answers (.zcpPoke t d) d code s (advance t s) :=
  answers_of (body := poke) rfl hd (by decide) fun y hy => ⟨[], y, h y hy, hy⟩

theorem poke_badLength (h : d.payload.length < 16 ∨ d.payload.length ≠ 16 + beAt d.payload 8 2) :
    Answers (.zcpPoke t d) d rBadLength s (advance t s) :=
  poke_refused hd fun _ _ => if_pos h

variable (hlong : 16 ≤ d.payload.length) (hlen : d.payload.length = 16 + beAt d.payload 8 2)
include hlong hlen

omit hd in
theorem poke_of_length (y : State) : poke d.ctx y =
    if diagBad d.payload 256 then refuse rBadValue y
    else if par0 .moduleDiagPoke y ≠ 1 ∨ touchesSem (beAt d.payload 0 8) (beAt d.payload 8 2) then refuse rNotPermitted y
    else
      let put := pokeBeats y.zcp.activeCore (beAt d.payload 0 8) (d.payload.drop 16) y
      answer rOk (natBE 1 put.1.code ++ natBE 3 0) put.2 :=
  if_neg fun h => h.elim (Nat.not_lt.2 hlong) fun hne => hne hlen

theorem poke_badValue (h : diagBad d.payload 256 = true) : Answers (.zcpPoke t d) d rBadValue s (advance t s) :=
  poke_refused hd fun y _ => (poke_of_length hlong hlen y).trans (if_pos h)

variable (hgood : diagBad d.payload 256 = false)
include hgood

theorem poke_notPermitted (h : par0 .moduleDiagPoke (advance t s) ≠ 1 ∨
    touchesSem (beAt d.payload 0 8) (beAt d.payload 8 2) = true) : Answers (.zcpPoke t d) d rNotPermitted s (advance t s) := by
  refine poke_refused hd fun y hy => (poke_of_length hlong hlen y).trans ((if_neg (ne_true_of_eq_false hgood)).trans (if_pos ?_))
  rwa [show par0 .moduleDiagPoke y = par0 .moduleDiagPoke (advance t s) from
    congrArg (fun f => sGet keyReset f (itemKey .moduleDiagPoke 0 0)) (force_of_restZ hy)]

/-- POKE of SRAM, where diagnosis allows it. -/
theorem poke_sram (hpoke : par0 .moduleDiagPoke (advance t s) = 1) (hin : InSram (beAt d.payload 0 8) (beAt d.payload 8 2))
    (hcore : (advance t s).zcp.activeCore < 2) : Leads (.zcpPoke t d) s fun z =>
      lastReply d z = some ⟨d.seq, d.typ, rOk⟩ ∧
      (∀ k < beAt d.payload 8 2, sramByte (beAt d.payload 0 8 + k) z = d.payload.getD (16 + k) 0) ∧
      (∀ b, 0x100000000 ≤ b → b < beAt d.payload 0 8 ∨ beAt d.payload 0 8 + beAt d.payload 8 2 ≤ b →
        sramByte b z = sramByte b (advance t s)) ∧
      z.force = (advance t s).force ∧ z.mem = (advance t s).mem ∧ z.power = (advance t s).power := by
  obtain ⟨a, ha⟩ : ∃ a, beAt d.payload 0 8 = a := ⟨_, rfl⟩
  obtain ⟨len, hl⟩ : ∃ len, beAt d.payload 8 2 = len := ⟨_, rfl⟩
  obtain ⟨y, hy⟩ : ∃ y, taken d (advance t s) = y := ⟨_, rfl⟩
  have hrest : restZ y = restZ (advance t s) := hy ▸ restZ_taken d (advance t s)
  have hactive : y.zcp.activeCore < 2 := by rwa [show y.zcp.activeCore = (advance t s).zcp.activeCore from
    (congrArg (·.zcp.activeCore) hrest :)]
  have hbytes : (d.payload.drop 16).length = len := by rw [List.length_drop]; omega
  rw [ha, hl] at hin ⊢
  obtain ⟨w, hfold, ⟨c, e, r, hw⟩, hsram⟩ := foldl_pokeBeat_sram hactive (len / 64 + 2) (off := 0) (len := len) hin hin.low
    (bytes := d.payload.drop 16) (by omega) (spans_fuel ..) y
  have hsem : touchesSem a len = false := by
    have := hin.high
    simp only [touchesSem, Bool.and_eq_false_iff, decide_eq_false_iff_not]
    omega
  have hbody : poke d.ctx y = answer rOk (natBE 1 CanalStatus.okay.code ++ natBE 3 0) w := by
    have hpar : par0 .moduleDiagPoke y = 1 := (congrArg (fun f => sGet keyReset f (itemKey .moduleDiagPoke 0 0))
      (force_of_restZ hrest)).trans hpoke
    rw [poke_of_length hlong hlen, if_neg (ne_true_of_eq_false hgood), ha, hl, if_neg (by simp [hpar, hsem]), pokeBeats_eq, hbytes]
    dsimp only
    rw [show beatsOf (len / 64 + 2) a len = beatsOf (len / 64 + 2) (a + 0) len from rfl, hfold]
  refine ⟨settle (sendReply d.session d.seq d.typ rOk (natBE 1 CanalStatus.okay.code ++ natBE 3 0) w), ?_, ?_, ?_⟩
  · rw [← finish_answer _ _ _ (hd.typ ▸ (by decide)), ← hbody, ← hy]
    exact zcp_accepted poke hd
  · exact (lastReply_settle ..).trans (lastReply_sendReply _ _ _ _ _ (early_session hd.checks))
  · have htouch : Touches [.sessions] w (settle (sendReply d.session d.seq d.typ rOk (natBE 1 CanalStatus.okay.code ++ natBE 3 0) w)) :=
      (Touches.sendReply w ..).report (Touches.settle _)
    have hbyte (b : Nat) (hb : 0x100000000 ≤ b) : sramByte b (settle (sendReply d.session d.seq d.typ rOk
        (natBE 1 CanalStatus.okay.code ++ natBE 3 0) w)) =
          if a + 0 ≤ b ∧ b < a + 0 + len then (d.payload.drop 16).getD (b - a) 0 else sramByte b (advance t s) := by
      rw [sramByte, htouch.canal rfl, ← sramByte, hsram b hb]
      exact if_congr Iff.rfl rfl (congrArg (fun x : CanalS => x.sram.byte (b - 0x100000000))
        (congrArg State.canal hrest :))
    have hfields : w.force = y.force ∧ w.mem = y.mem ∧ w.power = y.power := by
      rw [hw]
      exact ⟨rfl, rfl, rfl⟩
    obtain ⟨hforce, hmem, hpower⟩ := hfields
    have hlow := hin.low
    refine ⟨fun k hk => ?_, fun b hb hout => ?_, ?_, ?_, ?_⟩
    · rw [hbyte _ (by omega), if_pos (by omega), Nat.add_sub_cancel_left, List.getD_eq_getElem?_getD, List.getElem?_drop,
        ← List.getD_eq_getElem?_getD]
    · rw [hbyte b hb, if_neg (by omega)]
    · rw [htouch.force rfl, hforce]
      exact force_of_restZ hrest
    · rw [htouch.mem rfl, hmem]
      exact mem_of_restZ hrest
    · rw [htouch.power rfl, hpower]
      exact (congrArg State.power hrest :)

end

end Sys2Proof.Machine
end

section
/-! O55: ZCP_FUNC_REINIT (R582, R583), and the obligation assembled. -/

namespace Sys2Proof.Machine

open Touches (refl ite of_fields foldl)

/-! ### What a reinit changes -/

section
variable {x w : State}

/-- The note of a reinit: the last reset, and a record. -/
theorem restZ_noteReinit (h : restZ w = restZ x) :
    restZ (noteReinit w) = { restZ x with boot := { x.boot with lastReset := 3 } } := by
  rw [noteReinit, (bbWrite_eq ..).restZ]
  exact (congrArg (fun s : State => { s with boot := { s.boot with lastReset := 3 } }) h :)

theorem reinitChanges_noteReinit (h : restZ w = restZ x) (fn inst : Nat) :
    reinitChanges fn inst (noteReinit w) = reinitChanges fn inst x :=
  (congrArg (reinitChanges fn inst) (restZ_noteReinit h) :)

theorem noteReinit_touches (s : State) : Touches [.boot] s (noteReinit s) :=
  (Touches.set_boot s _).report (Touches.bbWrite ..)

theorem lastReset_noteReinit (h : restZ w = restZ x) : (noteReinit w).boot.lastReset = 3 :=
  (congrArg (fun s : State => s.boot.lastReset) (restZ_noteReinit h) :)

end

section
variable (fn inst pd : Nat) (s : State)

theorem setDomain_touches (v : DomainState) : Touches [.power] s (setDomain pd v s) := of_fields rfl

/-- A function's domain before it begins to wake. -/
def domainGone : State :=
  let s1 := setDomain pd .off (switchOff pd s)
  if fn = 3 then setDie inst { die inst s1 with stopped := true } s1 else s1

theorem reinitDomain_eq : reinitDomain fn inst pd s =
    { setDomain pd .waking (domainGone fn inst pd s) with power :=
      { (setDomain pd .waking (domainGone fn inst pd s)).power with reinit := some (fn, inst, reinitChanges fn inst s) } } := rfl

theorem domainGone_touches : Touches (.power :: unitParts) s (domainGone fn inst pd s) := by
  have hoff : Touches (.power :: unitParts) s (setDomain pd .off (switchOff pd s)) :=
    (switchOff_touches s pd).next ((setDomain_touches pd _ .off).mono rfl)
  exact ite (hoff.next ((setDie_touches ..).mono rfl)) hoff

theorem reinitDomain_touches : Touches (.power :: unitParts) s (reinitDomain fn inst pd s) := by
  rw [reinitDomain_eq]
  have hwaking := (domainGone_touches fn inst pd s).next ((setDomain_touches pd _ .waking).mono rfl)
  exact hwaking.next ((Touches.set_power _ _).mono rfl)

theorem domain_reinitDomain {pd : Nat} (hpd : pd < 40) : domain pd (reinitDomain fn inst pd s) = .waking :=
  domain_setDomain_same pd .waking (domainGone fn inst pd s) hpd

theorem reinit_reinitDomain :
    (reinitDomain fn inst pd s).power.reinit = some (fn, inst, reinitChanges fn inst s) := rfl

end

/-! ### What the note leaves of the counters and the requests -/

section
variable {c : Ctr} (hc : c.reporting = false) (hack : c ≠ .zcpAckBad) (hrx : ∀ port, c ≠ zcpRx port) (i : Nat)
include hc

theorem ctrGet_sendWindow (k : Nat) (s : State) : ctrGet c i (sendWindow k s) = ctrGet c i s := by
  unfold sendWindow
  extract_lets ss due
  refine foldl_keeps (π := ctrGet c i) (fun x u => ?_) due s
  dsimp only
  exact (zcpSend_eq ..).ctr c i hc

include hack in
theorem ctrGet_greet (d : Dgram) (s : State) : ctrGet c i (greet d s) = ctrGet c i s := by
  unfold greet takeAck
  split
  · dsimp only
    split
    · rfl
    · split
      · exact ctrGet_count_of_ne hack ..
      · exact ctrGet_sendWindow hc i ..
  · rfl

include hack hrx in
theorem ctrGet_taken (d : Dgram) (s : State) : ctrGet c i (taken d s) = ctrGet c i s :=
  (ctrGet_count_of_ne (hrx d.port) ..).trans (ctrGet_greet hc hack i d s)

end

section
variable (d : Dgram) (x : State)

theorem reqs_noted : (noteReinit (taken d x)).canal.reqs = x.canal.reqs :=
  (congrArg (·.canal.reqs) (restZ_noteReinit (restZ_taken d x)) :)

theorem master_noted (m : Nat) : master m (noteReinit (taken d x)) = master m x :=
  (congrArg (master m) (restZ_noteReinit (restZ_taken d x)) :)

theorem master_settle (m : Nat) : master m (settle x) = master m x := (congrArg (master m) (restZ_settle x) :)

theorem ctrGet_noted (m : Nat) : ctrGet .masterResets m (noteReinit (taken d x)) = ctrGet .masterResets m x := by
  rw [noteReinit, (bbWrite_eq ..).ctr _ _ rfl]
  refine ctrGet_taken (c := .masterResets) rfl nofun (fun port => ?_) m d x
  unfold zcpRx
  split <;> nofun

theorem mem_keptAtReset_other {m : Nat} {q : CanalReq} {w : State} (h : q.master ≠ m) :
    q ∈ keptAtReset m w ↔ q ∈ w.canal.reqs := by
  have hiff := congrArg (q ∈ ·) (filter_keptAtReset_others m w)
  simpa [h] using hiff

end

/-! ### Jobs that end (R582) -/

theorem endJob_touches (j : DecompJob) (produced result : Nat) (s : State) :
    Touches [.bulks, .sessions, .waiting] s (endJob j produced result s) := by
  unfold endJob
  extract_lets j1 s1
  have hs1 : Touches [] s s1 := (Touches.count s ..).next (Touches.raiseBytes _ ..)
  clear_value s1
  cases bulkOf j.slot j.bulk s1 with
  | none => exact hs1.mono rfl
  | some b =>
    dsimp only
    split
    · exact hs1.trans ((Touches.complete _ ..).after (setBulk_touches s1 _) rfl (n := [.bulks, .sessions, .waiting])) rfl
    · exact hs1.mono rfl

/-- The decompressor without its jobs. -/
def jobsGone (s : State) : State :=
  { s with
    egress := { s.egress with jobs := [], decompOut := false }
    fault := { s.fault with stopped := s.fault.stopped.filter (· != (9, 0)) } }

theorem reinitDecomp_touches (s : State) : Touches [.bulks, .sessions, .waiting] (jobsGone s) (reinitDecomp s) :=
  foldl (fun x j => endJob_touches j 0 3 x) _ _

theorem functionDomain_lt {fn inst pd : Nat} (h : functionDomain fn inst = some pd) (hinst : inst < functionCount fn) : pd < 40 := by
  unfold functionDomain at h
  split at h
  case isTrue heq => subst heq; obtain rfl := Option.some.inj h; exact Nat.lt_of_lt_of_le (Nat.add_lt_add_left hinst 34) (by decide)
  split at h
  case isTrue heq => subst heq; obtain rfl := Option.some.inj h; exact Nat.lt_of_lt_of_le hinst (by decide)
  split at h
  case isTrue heq => subst heq; obtain rfl := Option.some.inj h; exact Nat.lt_of_lt_of_le (Nat.add_lt_add_left hinst 24) (by decide)
  split at h
  case isTrue heq => subst heq; obtain rfl := Option.some.inj h; exact Nat.lt_of_lt_of_le (Nat.add_lt_add_left hinst 28) (by decide)
  split at h
  case isFalse => exact absurd h nofun
  case isTrue hfn =>
    obtain rfl := Option.some.inj h
    obtain ⟨k, rfl⟩ : ∃ k, fn = k + 5 := ⟨fn - 5, by omega⟩
    have hk : k < 4 := by omega
    rw [Nat.add_sub_cancel]
    interval_cases k <;> decide

/-! ### ZCP_FUNC_REINIT (R583) -/

section
variable {t : Nat} {d : Dgram} {s : State} (hd : Accepted 0x0007 d (advance t s)) (hlen : d.payload.length = 4)
include hd hlen

theorem funcReinit_refused {code : Nat} (h : ∀ y, restZ y = restZ (advance t s) → funcReinit d.ctx y = refuse code y) :
    Answers (.zcpFuncReinit t d) d code s (advance t s) :=
  answers_of (body := sized 4 funcReinit) rfl hd (by decide) fun y hy =>
    ⟨[], y, (sized_of_length funcReinit (c := d.ctx) hlen y).trans (h y hy), hy⟩

theorem funcReinit_badValue (h : beAt d.payload 1 1 ≠ 0 ∨ functionCount (beAt d.payload 0 1) ≤ beAt d.payload 2 2) :
    Answers (.zcpFuncReinit t d) d rBadValue s (advance t s) :=
  funcReinit_refused hd hlen fun _ _ => if_pos h

theorem funcReinit_waits {why : Why} {unit : Nat} {y : State} {p : State → Prop}
    (hbody : funcReinit d.ctx (taken d (advance t s)) = wait d.ctx why unit y)
    (hp : p (settle (wait d.ctx why unit y).state)) : Leads (.zcpFuncReinit t d) s p := by
  refine ⟨_, zcp_accepted (sized 4 funcReinit) hd, ?_⟩
  rwa [sized_of_length funcReinit (c := d.ctx) hlen, hbody]

theorem funcReinit_answered {y : State} {p : State → Prop} (hbody : funcReinit d.ctx (taken d (advance t s)) = answer rOk [] y)
    (hp : ∀ z, lastReply d z = some ⟨d.seq, d.typ, rOk⟩ → Touches [.sessions] y z →
      ctrGet .masterResets (beAt d.payload 2 2) z = ctrGet .masterResets (beAt d.payload 2 2) y → p z) :
    Leads (.zcpFuncReinit t d) s p := by
  refine ⟨_, zcp_accepted (sized 4 funcReinit) hd, ?_⟩
  rw [sized_of_length funcReinit (c := d.ctx) hlen, hbody, finish_answer _ _ _ (hd.typ ▸ (by decide))]
  refine hp _ ((lastReply_settle ..).trans (lastReply_sendReply _ _ _ _ _ (early_session hd.checks)))
    ((Touches.sendReply y ..).report (Touches.settle _)) ?_
  rw [(settle_eq _).ctr _ _ rfl]
  exact (sendReply_counts ..).1 _ _ rfl

variable (hflags : beAt d.payload 1 1 = 0) (hinst : beAt d.payload 2 2 < functionCount (beAt d.payload 0 1))
include hflags hinst

omit hd hlen in
theorem funcReinit_named (y : State) : funcReinit d.ctx y =
    if y.power.reinit.isSome then refuse rBusy y
    else if reinitRefused (beAt d.payload 0 1) (beAt d.payload 2 2) y then refuse rRefused y
    else match functionDomain (beAt d.payload 0 1) (beAt d.payload 2 2) with
      | some pd =>
        if stopped y then refuse rRefused y
        else wait d.ctx .other pd (reinitDomain (beAt d.payload 0 1) (beAt d.payload 2 2) pd (noteReinit y))
      | none =>
        if beAt d.payload 0 1 = 9 then answer rOk [] (reinitDecomp (noteReinit y))
        else if beAt d.payload 0 1 = 0xA then
          if (master (beAt d.payload 2 2) (masterReset (beAt d.payload 2 2) (noteReinit y))).resetting then
            wait d.ctx .other (64 + beAt d.payload 2 2) { masterReset (beAt d.payload 2 2) (noteReinit y) with
              power := { (masterReset (beAt d.payload 2 2) (noteReinit y)).power with
                reinit := some (beAt d.payload 0 1, beAt d.payload 2 2, false) } }
          else answer rOk [] (masterReset (beAt d.payload 2 2) (noteReinit y))
        else
          wait d.ctx .other 80 { noteReinit y with
            zcp := { (noteReinit y).zcp with standbyOk := false, standbyBeat := false }
            power := { (noteReinit y).power with reinit := some (beAt d.payload 0 1, beAt d.payload 2 2, false) } } := by
  unfold funcReinit
  rw [if_neg (show ¬ (beAt d.ctx.payload 1 1 ≠ 0 ∨ functionCount (beAt d.ctx.payload 0 1) ≤ beAt d.ctx.payload 2 2) from
    fun h => h.elim (fun hne => hne hflags) (Nat.not_le.2 hinst))]
  rfl

theorem funcReinit_busy (h : (advance t s).power.reinit ≠ none) : Answers (.zcpFuncReinit t d) d rBusy s (advance t s) := by
  refine funcReinit_refused hd hlen fun y hy => (funcReinit_named hflags hinst y).trans (if_pos ?_)
  rw [show y.power.reinit = (advance t s).power.reinit from (congrArg (·.power.reinit) hy :)]
  exact Option.isSome_iff_ne_none.2 h

variable (hidle : (advance t s).power.reinit = none)
include hidle

omit hd hlen hflags hinst in
theorem not_reinitBusy {y : State} (hy : restZ y = restZ (advance t s)) : ¬ y.power.reinit.isSome = true := by
  rw [show y.power.reinit = none from (congrArg (·.power.reinit) hy : _).trans hidle]
  nofun

theorem funcReinit_notAllowed (h : reinitRefused (beAt d.payload 0 1) (beAt d.payload 2 2) (advance t s) = true) :
    Answers (.zcpFuncReinit t d) d rRefused s (advance t s) := by
  refine funcReinit_refused hd hlen fun y hy => (funcReinit_named hflags hinst y).trans
    ((if_neg (not_reinitBusy hidle hy)).trans (if_pos ?_))
  rwa [show reinitRefused _ _ y = reinitRefused _ _ (advance t s) from
    (congrArg (reinitRefused (beAt d.payload 0 1) (beAt d.payload 2 2)) hy :)]

variable (hallowed : reinitRefused (beAt d.payload 0 1) (beAt d.payload 2 2) (advance t s) = false)
include hallowed

omit hd hlen in
/-- What a reinit does that nothing forbids. -/
theorem funcReinit_begun {y : State} (hy : restZ y = restZ (advance t s)) : funcReinit d.ctx y =
    match functionDomain (beAt d.payload 0 1) (beAt d.payload 2 2) with
    | some pd =>
      if stopped y then refuse rRefused y
      else wait d.ctx .other pd (reinitDomain (beAt d.payload 0 1) (beAt d.payload 2 2) pd (noteReinit y))
    | none =>
      if beAt d.payload 0 1 = 9 then answer rOk [] (reinitDecomp (noteReinit y))
      else if beAt d.payload 0 1 = 0xA then
        if (master (beAt d.payload 2 2) (masterReset (beAt d.payload 2 2) (noteReinit y))).resetting then
          wait d.ctx .other (64 + beAt d.payload 2 2) { masterReset (beAt d.payload 2 2) (noteReinit y) with
            power := { (masterReset (beAt d.payload 2 2) (noteReinit y)).power with
              reinit := some (beAt d.payload 0 1, beAt d.payload 2 2, false) } }
        else answer rOk [] (masterReset (beAt d.payload 2 2) (noteReinit y))
      else
        wait d.ctx .other 80 { noteReinit y with
          zcp := { (noteReinit y).zcp with standbyOk := false, standbyBeat := false }
          power := { (noteReinit y).power with reinit := some (beAt d.payload 0 1, beAt d.payload 2 2, false) } } := by
  refine (funcReinit_named hflags hinst y).trans ((if_neg (not_reinitBusy hidle hy)).trans ((if_neg ?_).trans ?_))
  · rw [show reinitRefused _ _ y = reinitRefused _ _ (advance t s) from
      (congrArg (reinitRefused (beAt d.payload 0 1) (beAt d.payload 2 2)) hy :), hallowed]
    nofun
  · cases functionDomain (beAt d.payload 0 1) (beAt d.payload 2 2) <;> rfl

theorem funcReinit_stopped {pd : Nat} (hpd : functionDomain (beAt d.payload 0 1) (beAt d.payload 2 2) = some pd)
    (h : stopped (advance t s) = true) : Answers (.zcpFuncReinit t d) d rRefused s (advance t s) := by
  refine funcReinit_refused hd hlen fun y hy => (funcReinit_begun hflags hinst hidle hallowed hy).trans ?_
  rw [hpd]
  exact if_pos ((congrArg stopped hy : _).trans h)

theorem funcReinit_domain {pd : Nat} (hpd : functionDomain (beAt d.payload 0 1) (beAt d.payload 2 2) = some pd)
    (h : stopped (advance t s) = false) : Leads (.zcpFuncReinit t d) s fun z => domain pd z = .waking ∧
      z.power.reinit = some (beAt d.payload 0 1, beAt d.payload 2 2,
        reinitChanges (beAt d.payload 0 1) (beAt d.payload 2 2) (advance t s)) ∧
      z.boot.lastReset = 3 ∧ z.force = (advance t s).force ∧ z.time.tide = (advance t s).time.tide ∧
      ∃ w ∈ z.zcp.waiting, w.why = 7 ∧ w.unit = pd ∧ w.slot = d.session ∧ w.seq = d.seq := by
  have hrest := restZ_taken d (advance t s)
  have hbody := funcReinit_begun hflags hinst hidle hallowed hrest
  rw [hpd] at hbody
  have hrun : ¬ stopped (taken d (advance t s)) = true := by
    rw [show stopped (taken d (advance t s)) = false from (congrArg stopped hrest : _).trans h]
    nofun
  refine funcReinit_waits hd hlen (hbody.trans (if_neg hrun)) ?_
  have hwhole := reinitDomain_touches (beAt d.payload 0 1) (beAt d.payload 2 2) pd (noteReinit (taken d (advance t s)))
  have hstart := noteReinit_touches (taken d (advance t s))
  have htide : (reinitDomain (beAt d.payload 0 1) (beAt d.payload 2 2) pd (noteReinit (taken d (advance t s)))).time.tide =
      (advance t s).time.tide :=
    (congrArg TimeS.tide ((hwhole.time rfl).trans (hstart.time rfl)) : _).trans (congrArg (·.time.tide) hrest : _)
  have hforce := (hwhole.force rfl).trans ((hstart.force rfl).trans (force_of_restZ hrest))
  have hboot := (congrArg BootS.lastReset (hwhole.boot rfl) : _).trans (lastReset_noteReinit hrest)
  have hchanges := reinitChanges_noteReinit hrest (beAt d.payload 0 1) (beAt d.payload 2 2)
  have hdomain := domain_reinitDomain (beAt d.payload 0 1) (beAt d.payload 2 2) (noteReinit (taken d (advance t s)))
    (functionDomain_lt hpd hinst)
  have hreinit := reinit_reinitDomain (beAt d.payload 0 1) (beAt d.payload 2 2) pd (noteReinit (taken d (advance t s)))
  rw [hchanges] at hreinit
  refine ⟨?_, ?_, ?_, ?_, ?_, mem_waiting_wait .other pd _⟩
  · rw [domain, (Touches.settle _).power rfl]; exact hdomain
  · rw [(Touches.settle _).power rfl]; exact hreinit
  · rw [(Touches.settle _).boot rfl]; exact hboot
  · rw [(Touches.settle _).force rfl]; exact hforce
  · rw [(Touches.settle _).time rfl]; exact htide

theorem funcReinit_decomp (hfn : beAt d.payload 0 1 = 9) : Leads (.zcpFuncReinit t d) s fun z =>
    lastReply d z = some ⟨d.seq, d.typ, rOk⟩ ∧ z.egress.jobs = [] ∧ z.egress.decompOut = false ∧ z.boot.lastReset = 3 := by
  have hrest := restZ_taken d (advance t s)
  have hbody := funcReinit_begun hflags hinst hidle hallowed hrest
  rw [hfn, show functionDomain 9 _ = none from rfl] at hbody
  refine funcReinit_answered hd hlen (hbody.trans (if_pos rfl)) fun z hreply hz _ => ?_
  have hends := reinitDecomp_touches (noteReinit (taken d (advance t s)))
  have hegress := (hz.egress rfl).trans (hends.egress rfl)
  have hboot := (hz.boot rfl).trans (hends.boot rfl)
  exact ⟨hreply, by rw [hegress]; rfl, by rw [hegress]; rfl, by rw [hboot]; exact lastReset_noteReinit hrest⟩

theorem funcReinit_standby (hfn : beAt d.payload 0 1 = 0xB) : Leads (.zcpFuncReinit t d) s fun z =>
    z.zcp.standbyOk = false ∧ z.zcp.standbyBeat = false ∧ z.power.reinit = some (0xB, beAt d.payload 2 2, false) ∧
    z.zcp.activeCore = (advance t s).zcp.activeCore ∧
    ∃ w ∈ z.zcp.waiting, w.why = 7 ∧ w.unit = 80 ∧ w.slot = d.session ∧ w.seq = d.seq := by
  have hrest := restZ_taken d (advance t s)
  have hbody := funcReinit_begun hflags hinst hidle hallowed hrest
  rw [hfn, show functionDomain 0xB _ = none from rfl] at hbody
  have hactive : (noteReinit (taken d (advance t s))).zcp.activeCore = (advance t s).zcp.activeCore :=
    (congrArg (·.zcp.activeCore) (restZ_noteReinit hrest) :)
  refine funcReinit_waits hd hlen (hbody.trans ((if_neg (by decide)).trans (if_neg (by decide)))) ⟨?_, ?_, ?_, ?_, mem_waiting_wait .other 80 _⟩
  · exact (congrArg (·.zcp.standbyOk) (restZ_settle _) :)
  · exact (congrArg (·.zcp.standbyBeat) (restZ_settle _) :)
  · rw [(Touches.settle _).power rfl]; rfl
  · rw [← hactive]
    exact (congrArg (·.zcp.activeCore) (restZ_settle _) :)

/-! ### The reset of a master (R466) -/

/-- The reset of a master, on the state that the command finds. -/
def masterGone (d : Dgram) (x : State) : State := masterReset (beAt d.payload 2 2) (noteReinit (taken d x))

variable (hfn : beAt d.payload 0 1 = 0xA)
include hfn

omit hd hlen in
theorem funcReinit_master : funcReinit d.ctx (taken d (advance t s)) =
    if (master (beAt d.payload 2 2) (masterGone d (advance t s))).resetting then
      wait d.ctx .other (64 + beAt d.payload 2 2) { masterGone d (advance t s) with
        power := { (masterGone d (advance t s)).power with reinit := some (0xA, beAt d.payload 2 2, false) } }
    else answer rOk [] (masterGone d (advance t s)) := by
  have hbody := funcReinit_begun hflags hinst hidle hallowed (restZ_taken d (advance t s))
  rw [hfn, show functionDomain 0xA _ = none from rfl] at hbody
  exact hbody.trans ((if_neg (by decide)).trans (if_pos rfl))

theorem funcReinit_masterIdle (hnone : ∀ r ∈ (advance t s).canal.reqs, r.master ≠ beAt d.payload 2 2)
    (hresetting : (master (beAt d.payload 2 2) (advance t s)).resetting = false) : Leads (.zcpFuncReinit t d) s fun z =>
    lastReply d z = some ⟨d.seq, d.typ, rOk⟩ ∧
    ctrGet .masterResets (beAt d.payload 2 2) z = min ctrMax (ctrGet .masterResets (beAt d.payload 2 2) (advance t s) + 1) ∧
    z.canal.reqs = (advance t s).canal.reqs := by
  have hreqs := reqs_noted d (advance t s)
  have hgone : masterGone d (advance t s) = count .masterResets (beAt d.payload 2 2) 1 (arbWaits (noteReinit (taken d (advance t s)))) :=
    masterReset_idle (hreqs ▸ hnone)
  have hquiet : ¬ (master (beAt d.payload 2 2) (masterGone d (advance t s))).resetting = true := by
    have hmaster := (master_arbWaits (noteReinit (taken d (advance t s))) (beAt d.payload 2 2)).trans (master_noted d (advance t s) _)
    rw [hgone, show master _ (count _ _ _ _) = master _ (advance t s) from hmaster, hresetting]
    nofun
  refine funcReinit_answered hd hlen ((funcReinit_master hflags hinst hidle hallowed hfn).trans (if_neg hquiet))
    fun z hreply hz hctr => ⟨hreply, ?_, ?_⟩
  · rw [hctr, masterGone, ctrGet_masterResets, ctrGet_noted]
  · rw [hz.canal rfl, hgone, count_canal, reqs_arbWaits, hreqs]

theorem funcReinit_masterBusy (hsome : ∃ r ∈ (advance t s).canal.reqs, r.master = beAt d.payload 2 2) :
    Leads (.zcpFuncReinit t d) s fun z => (master (beAt d.payload 2 2) z).resetting = true ∧
      z.power.reinit = some (0xA, beAt d.payload 2 2, false) ∧
      (∀ q ∈ z.canal.reqs, q.master = beAt d.payload 2 2 → q.granted ≠ none ∧ q.pieces.length ≤ 1) ∧
      (∀ q, q.master ≠ beAt d.payload 2 2 → (q ∈ z.canal.reqs ↔ q ∈ (advance t s).canal.reqs)) ∧
      (master (beAt d.payload 2 2) z).decode = (master (beAt d.payload 2 2) (advance t s)).decode ∧
      ∃ w ∈ z.zcp.waiting, w.why = 7 ∧ w.unit = 64 + beAt d.payload 2 2 ∧ w.slot = d.session ∧ w.seq = d.seq := by
  have hreqs := reqs_noted d (advance t s)
  have hlt : beAt d.payload 2 2 < 15 := by rwa [hfn] at hinst
  have hmaster : master (beAt d.payload 2 2) (masterGone d (advance t s)) =
      { master (beAt d.payload 2 2) (advance t s) with resetting := true } := by
    rw [masterGone, master_masterReset_busy hlt (hreqs ▸ hsome), master_noted]
  have hkept : (masterGone d (advance t s)).canal.reqs = keptAtReset (beAt d.payload 2 2) (noteReinit (taken d (advance t s))) :=
    reqs_masterReset ..
  have hbody := (funcReinit_master hflags hinst hidle hallowed hfn).trans
    (if_pos (show (master _ (masterGone d (advance t s))).resetting = true by rw [hmaster]))
  refine funcReinit_waits hd hlen hbody ⟨?_, ?_, fun q hq hm => ?_, fun q hm => ?_, ?_, mem_waiting_wait .other _ _⟩
  · rw [master_settle]
    exact (congrArg CanalMaster.resetting hmaster :)
  · rw [(Touches.settle _).power rfl]; rfl
  · rw [(Touches.settle _).canal rfl] at hq
    obtain ⟨r, -, hgranted, rfl⟩ := mem_keptAtReset_own _ _ (hkept ▸ hq) hm
    exact ⟨hgranted, List.length_take_le 1 r.pieces⟩
  · rw [(Touches.settle _).canal rfl]
    change q ∈ (masterGone d (advance t s)).canal.reqs ↔ _
    rw [hkept, ← hreqs]
    exact mem_keptAtReset_other hm
  · rw [master_settle]
    exact (congrArg CanalMaster.decode hmaster :)

end

end Sys2Proof.Machine
end

section
/-! O55 assembled: where an element's value goes (R511), and the obligation. -/

namespace Sys2Proof.Machine

section
variable (i : Item) (inst elem v : Nat) (x : State)

theorem applyElem_immediate (h : i.desc.apply = 0) : applyElem i inst elem v x = takeImmediate i inst elem v x := if_pos h

theorem applyElem_boundary_noPlan (h : i.desc.apply = 1) (hplan : x.plan.running = none) :
    applyElem i inst elem v x = takeBoundary i inst (setPend i inst elem v x) :=
  (if_neg (by omega)).trans ((if_neg (not_not.2 h)).trans (if_pos (Option.isNone_iff_eq_none.2 hplan)))

theorem applyElem_boundary_plan (h : i.desc.apply = 1) (hplan : x.plan.running ≠ none) :
    applyElem i inst elem v x = { setPend i inst elem v x with
      boundary := x.boundary.filter (·.1 != itemKey i inst 0) ++ [(itemKey i inst 0, x.time.now)] } :=
  (if_neg (by omega)).trans ((if_neg (not_not.2 h)).trans (if_neg fun hnone => hplan (Option.isNone_iff_eq_none.1 hnone)))

theorem applyElem_later (h : 2 ≤ i.desc.apply) : applyElem i inst elem v x = setPend i inst elem v x :=
  (if_neg (by omega)).trans (if_pos (by omega))

end

/-- Settles O55, command by command: GET and SET from their payloads, the elements by the moment at which their
items apply, PEEK and POKE beat by beat in management SRAM, FUNC_REINIT by the kind of the function. -/
theorem parametersAreReadAndSetWhole : Obligations.ParametersAreReadAndSetWhole := by
  unfold Obligations.ParametersAreReadAndSetWhole
  refine ⟨?_, ?_, fun mailbox slot e h => of_setRefusal_none h, ?_, fun c inst first v r x => rfl, ?_, ?_, ?_, ?_⟩
  · intro t d s x n staged body hd hkind hbox
    have hbody : getBody d.ctx x = body := by
      rw [getBody, show d.ctx.typ / 256 = d.mailbox from hd.mailbox]
      rfl
    refine ⟨paramGet_badLength hd hkind hbox, paramGet_badValue hd hkind hbox, fun hlen hmin hmax =>
      ⟨fun hlong => paramGet_long hd hkind hbox hlen hmin hmax (hbody ▸ hlong), fun hfits => ?_⟩⟩
    rw [← hbody] at hfits ⊢
    exact paramGet_fits hd hkind hbox hlen hmin hmax hfits
  · intro t d s x n hd hkind hbox hlen
    exact ⟨paramSet_badValue hd hkind hbox hlen, fun l hmin hmax hl =>
      ⟨fun a e b code hsplit ha he => paramSet_refused hd hkind hbox hlen hmin hmax hl hsplit ha he,
        paramSet_applied hd hkind hbox hlen hmin hmax hl⟩⟩
  · intro i inst elem v x z
    refine ⟨fun h hsticky hbin => ?_, fun h => ?_, fun h hplan => ?_, fun h hplan => ?_, fun h => ?_⟩
    · rw [show z = _ from applyElem_immediate i inst elem v x h]
      exact takeImmediate_plain i inst elem v x hsticky hbin
    · subst h
      exact (applyElem_immediate .memMaxBin inst elem v x (by decide)).trans (takeImmediate_maxBin inst elem v x)
    · rw [show z = _ from applyElem_boundary_noPlan i inst elem v x h hplan]
      obtain ⟨htaken, -⟩ := takeBoundary_leaves i inst (setPend i inst elem v x)
      exact (Nat.lt_or_ge elem i.desc.elems).imp (fun hlt => (htaken elem hlt).trans (pend_setPend ..)) id
    · rw [show z = _ from applyElem_boundary_plan i inst elem v x h hplan]
      exact ⟨pend_setPend i inst elem v x, rfl, List.mem_append_right _ (List.mem_singleton_self _)⟩
    · rw [show z = _ from applyElem_later i inst elem v x h]
      exact ⟨pend_setPend i inst elem v x, rfl, rfl⟩
  · intro t i inst s x set
    refine ⟨fun hnone => does_act (exec_boundaryItemApply inst s) ?_, fun k since hset =>
      ⟨fun hearly => does_act (exec_boundaryItemApply inst s) ?_,
        fun hpassed => leads_act (exec_boundaryItemApply inst s) ?_⟩⟩
    · rw [boundaryApplied_none hnone]
      exact .rfl' x
    · rw [boundaryApplied_some hset, hearly]
      exact .rfl' x
    · rw [show boundaryApplied i inst (advance t s) = _ from (boundaryApplied_some hset).trans (if_pos hpassed)]
      obtain ⟨htaken, hpend, hboundary, hmem, hplan⟩ := takeBoundary_leaves i inst x
      have hend := Touches.settle (takeBoundary i inst x)
      exact ⟨fun e he => (congrArg (fun f => sGet keyReset f (itemKey i inst e)) (hend.force rfl) : _).trans (htaken e he),
        (hend.pend rfl).trans hpend, (hend.boundary rfl).trans hboundary, (hend.mem rfl).trans hmem,
        (hend.plan rfl).trans hplan⟩
  · intro t d s x a len hd hlen
    exact ⟨peek_badValue hd hlen, fun hgood => peek_notPermitted hd hlen hgood, fun hgood hsem =>
      ⟨peek_leads hd hlen hgood hsem, fun hlow hhigh => peek_sram hd hlen hgood hsem ⟨hlow, hhigh⟩⟩⟩
  · intro t d s x a len hd
    exact ⟨poke_badLength hd, fun hlong hlen => ⟨poke_badValue hd hlong hlen, poke_notPermitted hd hlong hlen,
      fun hgood hpoke hlow hhigh => poke_sram hd hlong hlen hgood hpoke ⟨hlow, hhigh⟩⟩⟩
  · intro t d s x fn inst hd hlen
    exact ⟨funcReinit_badValue hd hlen, fun hflags hinst => ⟨funcReinit_busy hd hlen hflags hinst,
      funcReinit_notAllowed hd hlen hflags hinst, fun hidle hallowed =>
      ⟨fun pd hpd => ⟨funcReinit_stopped hd hlen hflags hinst hidle hallowed hpd,
          funcReinit_domain hd hlen hflags hinst hidle hallowed hpd⟩,
        funcReinit_decomp hd hlen hflags hinst hidle hallowed,
        funcReinit_standby hd hlen hflags hinst hidle hallowed,
        funcReinit_masterIdle hd hlen hflags hinst hidle hallowed,
        funcReinit_masterBusy hd hlen hflags hinst hidle hallowed⟩⟩⟩

end Sys2Proof.Machine
end

section
/-! What the data of a bulk transfer touch in its target (R494, R495, R497): memories, units and the sticky bits, but
neither sessions nor waiting commands. -/

namespace Sys2Proof.Machine

open Touches (refl ite of_fields foldl)

/-! ### Parts that a list leaves out, as one quantity -/

theorem masked_congr {α : Type} {b : Bool} {v w : α} (h : b = false → v = w) : masked b v = masked b w := by
  cases b
  case true => rfl
  case false => exact congrArg some (h rfl)

theorem Touches.beside_eq {l : List Part} {x z : State} (h : Touches l x z) : beside l z = beside l x := by
  simp only [beside, Prod.mk.injEq]
  exact ⟨masked_congr (h.same .pending), masked_congr (h.same .free), masked_congr (h.same .force),
    masked_congr (h.same .pend), masked_congr (h.same .boundary), masked_congr (h.same .power),
    masked_congr (h.same .hostLinks), masked_congr (h.same .boot), masked_congr (h.same .sticky),
    masked_congr (h.same .episodes), masked_congr (h.same .stopped), masked_congr (h.same .faults),
    masked_congr (h.same .gauges), masked_congr (h.same .sessions), masked_congr (h.same .bulks),
    masked_congr (h.same .waiting), masked_congr (h.same .cores), masked_congr (h.same .clock),
    masked_congr (h.same .ports), masked_congr (h.same .outs), masked_congr (h.same .refs),
    masked_congr (h.same .ingressLinks), masked_congr (h.same .plan), masked_congr (h.same .data),
    masked_congr (h.same .zoom), masked_congr (h.same .weir), masked_congr (h.same .egress), masked_congr (h.same .mem),
    masked_congr (h.same .sluice), masked_congr (h.same .canal)⟩

/-- The parts that bulk data touch in their target. -/
def targetParts : List Part := [.sticky, .episodes, .mem, .data, .weir, .sluice, .canal, .egress, .boot]

theorem PieceAside.target : PieceAside (beside targetParts) where
  count c i n s _ := (Touches.count s c i n).mono rfl |>.beside_eq
  raise e l s := (Touches.raise s e l).mono rfl |>.beside_eq
  fire f s := (Touches.fire s f).mono rfl |>.beside_eq
  mem _ _ := rfl
  data _ _ := rfl
  weir _ _ := rfl
  sluice _ _ := rfl
  ring _ _ := rfl
  canal _ _ _ _ := rfl

/-! ### Pieces of a master that does not reach the register blocks -/

section
variable {m : Nat} (hm : reaches m .regs = false) (s : State)
include hm

theorem decodes_regs_of_unreached {a : Nat} (ht : targetOf a = some .regs) (write : Bool) : decodes m write a s = false := by
  unfold decodes
  rw [ht]
  dsimp only
  rw [hm, Bool.false_and]

theorem pieceRead_touches (a len : Nat) (bad : List Nat) (corrected : Nat) :
    Touches targetParts s (pieceRead m a len bad corrected s).2.2 := by
  refine of_fields ?_
  by_cases ht : targetOf a = some .regs
  · rw [pieceRead_refused (.inr (decodes_regs_of_unreached hm s ht false))]
    exact PieceAside.target.decodeError m a s
  · exact PieceAside.target.pieceRead (fun h => absurd h ht) len bad corrected s

theorem pieceWrite_touches (a : Nat) (data : List (Nat × Byte)) : Touches targetParts s (pieceWrite m a data s).2 := by
  refine of_fields ?_
  by_cases ht : targetOf a = some .regs
  · rw [pieceWrite_refused (.inr (decodes_regs_of_unreached hm s ht true))]
    exact PieceAside.target.decodeError m a s
  · exact PieceAside.target.pieceWrite (fun h => absurd h ht) data s

omit hm in
theorem pieceSilent_touches (m n : Nat) : Touches targetParts s (pieceSilent m n s) :=
  (of_fields (PieceAside.target.dataError m n s)).next ((Touches.fire ..).mono rfl)

theorem rangeRead_touches (a len : Nat) (r : MoveIn) : Touches targetParts s (rangeRead m a len r s).2.2 := by
  refine List.foldlRecOn (motive := fun acc : List Byte × CanalStatus × State => Touches targetParts s acc.2.2) _ _ (refl s)
    fun acc hacc p _ => ?_
  have hcount : Touches targetParts s (count .pieces m 1 acc.2.2) := hacc.report (Touches.count ..)
  dsimp only
  split
  · exact hcount.next (pieceSilent_touches ..)
  · exact hcount.next (pieceRead_touches hm ..)

theorem rangeWrite_touches (a : Nat) (bytes : List Byte) (r : MoveIn) :
    Touches targetParts s (rangeWrite m a bytes r s).2 := by
  refine List.foldlRecOn (motive := fun acc : CanalStatus × State => Touches targetParts s acc.2) _ _ (refl s)
    fun acc hacc p _ => ?_
  have hcount : Touches targetParts s (count .pieces m 1 acc.2) := hacc.report (Touches.count ..)
  dsimp only
  split
  · exact hcount.next (pieceSilent_touches ..)
  · exact hcount.next (pieceWrite_touches hm ..)

theorem writeRun_touches (target inst at_ : Nat) (bytes : List Byte) :
    Touches targetParts s (writeRun m target inst at_ bytes s).2 := by
  unfold writeRun
  split
  · exact (Touches.set_boot s _).mono rfl
  · split
    · exact refl s
    · split
      · exact refl s
      · exact rangeWrite_touches hm ..

end

theorem writeRuns_touches (b : Bulk) (lo : Nat) (bytes : List Byte) (runs : List (Nat × Nat)) (n : Nat) (s : State) :
    Touches targetParts s (writeRuns b lo bytes runs n s).2.2 := by
  induction runs generalizing n s with
  | nil => exact refl s
  | cons r runs ih =>
    have hrun : Touches targetParts s (writeRun 14 b.target b.inst (b.offset + r.1) (slice bytes (r.1 - lo) (r.2 - r.1)) s).2 :=
      writeRun_touches (by decide) ..
    unfold writeRuns
    dsimp only
    split
    · exact hrun.next (ih ..)
    · exact hrun

/-! ### Tiles -/

section
variable (s : State)

theorem dropDrain_touches (area r : Nat) : Touches [.egress] s (dropDrain area r s) := of_fields rfl

theorem setRegion_touches (area r : Nat) (g : Region) : Touches [.data] s (setRegion area r g s) := of_fields rfl

theorem stopDrain_touches (p : Plan) (area r : Nat) : Touches [.egress] s (stopDrain p area r s) := by
  unfold stopDrain
  split
  · exact refl s
  · next dr _ =>
    have hcounts : Touches [] s (dr.streams.foldl (fun x d =>
        if d.done then x else count .streamBehindUs (streamInst d.stream) (behindUs p dr x) x) s) :=
      foldl (fun x _ => ite (refl x) (Touches.count ..)) _ s
    exact ((Touches.set_egress _ _).after hcounts rfl).next (dropDrain_touches ..)

theorem regionDeadline_touches (area r : Nat) : Touches [.egress] s (regionDeadline area r s) := by
  unfold regionDeadline
  dsimp only
  split
  · exact dropDrain_touches ..
  · have hstop (p : Plan) : Touches [.egress] s (stopDrain p area r s) := stopDrain_touches ..
    split
    · exact hstop _
    · split
      · exact hstop _
      · exact (hstop _).report ((Touches.count ..).next (Touches.raise ..))

theorem beginRegion_touches (p : Plan) (area n : Nat) : Touches [.egress, .data] s (beginRegion p area n s) := by
  unfold beginRegion
  extract_lets r g old same s1 lo src s2
  have hs1 : Touches [.egress, .data] s s1 := (regionDeadline_touches s area r).mono rfl
  have hs2 : Touches [.egress, .data] s s2 := ite hs1 (hs1.next ((Touches.set_data s1 _).mono rfl))
  exact ite (refl s) (hs2.next ((setRegion_touches ..).mono rfl))

theorem freshTile_touches (p : Plan) (area r chan t : Nat) : Touches [.mem] s (freshTile p area r chan t s) := by
  unfold freshTile
  dsimp only
  split
  · next d _ =>
    obtain ⟨m, hm⟩ := freshCodewords_changes_mem d (tileElems (tileAt p.k t).1 (tileAt p.k t).2 * p.elemBytes) s
    rw [hm]
    exact Touches.set_mem s m
  · exact refl s

theorem firstTouch_touches (p : Plan) (area r chan t n : Nat) : Touches [.mem, .data] s (firstTouch p area r chan t n s) := by
  unfold firstTouch
  extract_lets key x s1
  have hs1 : Touches [.mem, .data] s s1 := (freshTile_touches ..).after (returnBerm_touches ..) rfl
  exact (hs1.next ((setTile_touches ..).mono rfl)).report (Touches.count ..)

theorem countOp_touches (c : Ctr) (p : Plan) (o : TileOp) : Touches [] s (countOp c p o s) := Touches.count ..

theorem tileRead_touches (o : TileOp) : Touches [] s (tileRead o s).2.2 := by
  unfold tileRead
  split
  · exact refl s
  · dsimp only
    split
    · exact refl s
    · split
      · exact refl s
      · split
        · exact (countOp_touches ..).next (countOp_touches ..)
        · exact countOp_touches ..

theorem tileStatus_touches (o : TileOp) : Touches [] s (tileStatus o s).2.2 := by
  unfold tileStatus
  split
  · exact refl s
  · dsimp only
    split
    · exact refl s
    · split
      · exact countOp_touches ..
      · exact countOp_touches ..

theorem tileWrite_touches (o : TileOp) (data : List Byte) : Touches targetParts s (tileWrite o data s).2 := by
  unfold tileWrite
  split
  · exact refl s
  · next p _ =>
    split
    · exact refl s
    · split
      · exact refl s
      · extract_lets g t key x m l bad s1 src s2 s3 y
        have hs1 : Touches targetParts s s1 := (countOp_touches ..).mono rfl
        have hstale : Touches targetParts s (countOp .staleResults p o s1) := hs1.report (countOp_touches ..)
        have hs2 : Touches targetParts s s2 := hs1.next ((beginRegion_touches ..).mono rfl)
        have hs3 : Touches targetParts s s3 := hs2.next ((firstTouch_touches ..).mono rfl)
        split
        · exact hstale
        · split
          · exact hs1.next ((setTile_touches ..).mono rfl)
          · split
            · exact hstale
            · split
              · exact hs1
              · exact hs3.next ((setTile_touches ..).mono rfl)

theorem writeRanges_touches (before now : List (Nat × Nat)) (data : Memory) (l : List (Nat × Nat × TileOp)) (n : Nat) :
    Touches targetParts s (writeRanges before now data l n s).2.2 := by
  induction l generalizing n s with
  | nil => exact refl s
  | cons r l ih =>
    have hwrite := tileWrite_touches s r.2.2 (data.read r.1 (r.2.1 - r.1))
    unfold writeRanges
    dsimp only
    split
    · split
      · exact hwrite.next (ih ..)
      · exact hwrite
    · exact ih ..

theorem readRanges_touches (l : List (Nat × Nat × TileOp)) (bytes : List Byte) : Touches [] s (readRanges l bytes s).2.2 := by
  induction l generalizing bytes s with
  | nil => exact refl s
  | cons r l ih =>
    have hrest (got : TileEnd × List Byte × State) (h : Touches [] s got.2.2) : Touches [] s (if got.1 = .done then
        readRanges l (bytes ++ got.2.1.take (r.2.1 - r.1)) got.2.2 else (bytes, false, got.2.2)).2.2 := by
      split
      · exact h.next (ih ..)
      · exact h
    unfold readRanges
    dsimp only
    split
    · exact hrest _ (tileStatus_touches ..)
    · exact hrest _ (tileRead_touches ..)

theorem bulkRead_touches (b : Bulk) (lo hi : Nat) : Touches targetParts s (bulkRead b lo hi s).2.2 := by
  unfold bulkRead
  dsimp only
  split
  · split
    · exact refl s
    · exact (readRanges_touches ..).mono rfl
  · split
    · exact refl s
    · split
      · exact refl s
      · exact rangeRead_touches (by decide) ..

end

end Sys2Proof.Machine
end

section
/-! Transfers by their keys (R492, R495, R497, R498): what a change, a count and an end leave of one, and what data
that arrive or are sent touch. -/

namespace Sys2Proof.Machine

open Touches (refl ite of_fields foldl)

/-! ### A transfer by its key -/

section
variable {k id : Nat} {b : Bulk} {s : State}

theorem bulkOf_congr {z x : State} (h : z.zcp.bulks = x.zcp.bulks) (k id : Nat) : bulkOf k id z = bulkOf k id x :=
  congrArg (List.find? fun b : Bulk => b.slot == k && b.id == id) h

theorem key_of_bulkOf (h : bulkOf k id s = some b) : b.slot = k ∧ b.id = id := by simpa using List.find?_some h

theorem find?_replaced {l : List Bulk} {w : Bulk} (h : l.find? (fun b => b.slot == k && b.id == id) = some b)
    (hslot : w.slot = k) (hid : w.id = id) :
    (l.map fun b => if b.slot = w.slot ∧ b.id = w.id then w else b).find? (fun b => b.slot == k && b.id == id) = some w := by
  induction l with
  | nil => exact absurd h nofun
  | cons v l ih =>
    rw [List.map_cons, List.find?_cons]
    by_cases hv : v.slot = w.slot ∧ v.id = w.id
    · simp [hv, hslot, hid]
    · have hskip : (v.slot == k && v.id == id) = false := by simpa [hslot, hid] using hv
      rw [if_neg hv, hskip]
      rw [List.find?_cons, hskip] at h
      exact ih h

theorem bulkOf_setBulk {w : Bulk} (h : bulkOf k id s = some b) (hslot : w.slot = k) (hid : w.id = id) :
    bulkOf k id (setBulk w s) = some w := find?_replaced h hslot hid

theorem bulkOf_countBulk (h : bulkOf k id s = some b) (out : Bool) (n : Nat) :
    bulkOf k id (countBulk out k id n s) = some { b with moved := b.moved + n } := by
  obtain ⟨hslot, hid⟩ := key_of_bulkOf h
  rw [countBulk, h]
  exact bulkOf_setBulk (w := { b with moved := b.moved + n }) h hslot hid

theorem bulkOf_completeSeqs (l : List (Nat × Nat)) (code : Nat) (s : State) :
    bulkOf k id (l.foldl (fun x c => completeSeq k c.1 code [] x) s) = bulkOf k id s :=
  bulkOf_congr ((foldl (l := [.sessions, .waiting]) (fun x _ => completeSeq_touches x ..) l s).bulks rfl) k id

theorem bulkOf_endBulk (h : bulkOf k id s = some b) (st : BulkState) :
    bulkOf k id (endBulk k id st s) = some { b with state := st, closing := [], data := [] } := by
  obtain ⟨hslot, hid⟩ := key_of_bulkOf h
  rw [endBulk, h]
  dsimp only
  rw [bulkOf_congr ((Touches.raiseIn ..).bulks rfl), bulkOf_completeSeqs]
  exact bulkOf_setBulk (w := { b with state := st, closing := [], data := [] }) h hslot hid

/-- A transfer without a waiting CLOSE ends without an answer. -/
theorem endBulk_touches_of_noClosing (h : bulkOf k id s = some b) (hclosing : b.closing = []) (st : BulkState) :
    Touches [.bulks] s (endBulk k id st s) := by
  rw [endBulk, h]
  dsimp only
  rw [hclosing]
  exact (setBulk_touches s _).report (Touches.raiseIn ..)

theorem countBulk_touches (out : Bool) (k id n : Nat) (s : State) : Touches [.bulks] s (countBulk out k id n s) := by
  unfold countBulk
  split
  · exact refl s
  · exact (setBulk_touches s _).report (Touches.count ..)

end

/-! ### Data that arrive and that are sent -/

/-- A transfer without a waiting CLOSE. -/
def Unclosed (k id : Nat) (s : State) : Prop := ∃ w, bulkOf k id s = some w ∧ w.closing = []

section
variable {k id : Nat} {s : State}

theorem Unclosed.congr {z : State} (h : Unclosed k id s) (hz : z.zcp.bulks = s.zcp.bulks) : Unclosed k id z :=
  h.imp fun _ hw => ⟨(bulkOf_congr hz k id).trans hw.1, hw.2⟩

theorem Unclosed.setBulk {w : Bulk} (h : Unclosed w.slot w.id s) (hclosing : w.closing = []) :
    Unclosed w.slot w.id (Machine.setBulk w s) := by
  obtain ⟨v, hv, -⟩ := h
  exact ⟨w, bulkOf_setBulk hv rfl rfl, hclosing⟩

/-- Data that were moved are counted; where the other side refused them, the transfer ends. -/
theorem Unclosed.moved (h : Unclosed k id s) (out ok : Bool) (n : Nat) (st : BulkState) :
    let z := if ok = true then countBulk out k id n s else endBulk k id st (countBulk out k id n s)
    Touches [.bulks] s z ∧ Unclosed k id z := by
  intro z
  obtain ⟨w, hw, hclosing⟩ := h
  have hcount := bulkOf_countBulk hw out n
  have htouch := countBulk_touches out k id n s
  cases ok
  case true => exact ⟨htouch, _, hcount, hclosing⟩
  case false => exact ⟨htouch.next (endBulk_touches_of_noClosing hcount hclosing st), _, bulkOf_endBulk hcount st, rfl⟩

theorem ite_touches {l : List Part} {α β : Type} {p : Prop} [Decidable p] {x y : α × β × State} (hx : Touches l s x.2.2)
    (hy : Touches l s y.2.2) : Touches l s (if p then x else y).2.2 := by
  split
  · exact hx
  · exact hy

/-- Data that arrive for a transfer without a waiting CLOSE touch it and its target. -/
theorem Unclosed.bulkArrive {b : Bulk} (h : Unclosed b.slot b.id s) (hclosing : b.closing = []) (lo : Nat) (bytes : List Byte) :
    Touches (.bulks :: targetParts) s (bulkArrive b lo bytes s) ∧ Unclosed b.slot b.id (bulkArrive b lo bytes s) := by
  unfold Machine.bulkArrive
  extract_lets hi fresh now keep data s1
  have hs1 : Touches [.bulks] s s1 := setBulk_touches s _
  have hopen : Unclosed b.slot b.id s1 :=
    Unclosed.setBulk (w := { b with have_ := now, data := data, lastAt := s.time.now }) h hclosing
  have hrest (got : Nat × Bool × State) (hgot : Touches targetParts s1 got.2.2) :
      let z := if got.2.1 = true then countBulk false b.slot b.id got.1 got.2.2
        else endBulk b.slot b.id .destRefused (countBulk false b.slot b.id got.1 got.2.2)
      Touches (.bulks :: targetParts) s z ∧ Unclosed b.slot b.id z := by
    obtain ⟨htouch, hkept⟩ := (hopen.congr (hgot.bulks rfl)).moved false got.2.1 got.1 .destRefused
    exact ⟨((hs1.trans hgot rfl).next (htouch.mono rfl)), hkept⟩
  refine hrest _ (ite_touches (refl s1) (ite_touches ?_ (writeRuns_touches ..)))
  split
  · exact writeRanges_touches ..
  · exact refl s1

theorem sendBulk_touches (b : Bulk) (off : Nat) (l : List Byte) (s : State) : Touches [] s (sendBulk b off l s) :=
  .of_reportEq (zcpSendOn_eq ..)

/-- Data that are sent for a transfer without a waiting CLOSE touch it and its target. -/
theorem Unclosed.bulkSend {b : Bulk} (h : Unclosed b.slot b.id s) (hclosing : b.closing = []) (lo hi : Nat) :
    Touches (.bulks :: targetParts) s (bulkSend b lo hi s) ∧ Unclosed b.slot b.id (bulkSend b lo hi s) := by
  have hread := bulkRead_touches s b lo hi
  unfold Machine.bulkSend
  dsimp -zeta only
  extract_lets s2 s3 s4
  have hs2 : Touches targetParts s s2 := hread.report (foldl (fun x _ => sendBulk_touches ..) _ _)
  have hs3 : Touches (.bulks :: targetParts) s s3 := (hs2.mono rfl).next ((setBulk_touches s2 _).mono rfl)
  have hopen : Unclosed b.slot b.id s3 := Unclosed.setBulk
    (w := { b with have_ := addRange b.have_ lo (lo + (bulkRead b lo hi s).1.length) }) (h.congr (hs2.bulks rfl)) hclosing
  obtain ⟨htouch, hkept⟩ := hopen.moved true (bulkRead b lo hi s).2.1 (bulkRead b lo hi s).1.length .stale
  exact ⟨hs3.next (htouch.mono rfl), hkept⟩

/-- Nothing that a CLOSE waits for ends a transfer without one. -/
theorem Unclosed.closeIfWhole (h : Unclosed k id s) : closeIfWhole k id s = s := by
  obtain ⟨w, hw, hclosing⟩ := h
  rw [Machine.closeIfWhole, hw]
  exact if_neg fun hall => by simp [hclosing] at hall

end

end Sys2Proof.Machine
end

section
/-! O32: opening a transfer (R492 to R494). -/

namespace Sys2Proof.Machine

/-! ### The limits of an OPEN -/

section
variable {c : Ctx} {y x : State} (h : restZ y = restZ x)
include h

theorem bulks_of_restZ : y.zcp.bulks = x.zcp.bulks := (congrArg (·.zcp.bulks) h :)

theorem readOpen_of_restZ (c : Ctx) : readOpen c y = readOpen c x := (congrArg (readOpen c) h :)

theorem ownerRefusal_of_restZ (inbound : Bool) (target inst : Nat) :
    ownerRefusal inbound target inst y = ownerRefusal inbound target inst x :=
  (congrArg (ownerRefusal inbound target inst) h :)

theorem rangeOutside_of_restZ (b : Bulk) : rangeOutside b y = rangeOutside b x := (congrArg (rangeOutside b) h :)

end

/-- The transfers of a state that have not ended. -/
def liveBulks (x : State) : List Bulk := x.zcp.bulks.filter Bulk.live

/-- The transfers with a new one in the place of those of its key. -/
def begunBulk (b : Bulk) (k : Nat) (x : State) : State :=
  { x with zcp := { x.zcp with bulks := (x.zcp.bulks.filter fun w => !(w.slot == k && w.id == b.id)) ++ [b] } }

theorem begunBulk_alike (b : Bulk) (k : Nat) : RestAlike (begunBulk b k) := .of_comm fun _ => rfl

theorem bulkOf_begunBulk (b : Bulk) (x : State) : bulkOf b.slot b.id (begunBulk b b.slot x) = some b := by
  have hnone : (x.zcp.bulks.filter fun w => !(w.slot == b.slot && w.id == b.id)).find?
      (fun w => w.slot == b.slot && w.id == b.id) = none :=
    List.find?_eq_none.2 fun w hw => by simpa [Decidable.imp_iff_not_or] using (List.mem_filter.1 hw).2
  rw [bulkOf, begunBulk, List.find?_append, hnone, Option.none_or, List.find?_singleton, beq_self_eq_true, beq_self_eq_true]
  rfl

section
variable {i : Instr} {typ t : Nat} {d : Dgram} {s : State} {body : Ctx → State → Res}
  (hx : exec i s = zcp typ body t d s) (hbody : ∀ y, body d.ctx y = bulkOpen d.ctx y) (htyp : typ ≠ 0x0A03)
  (hd : Accepted typ d (advance t s))
include hx hbody htyp hd

theorem bulkOpen_refused {code : Nat} (h : ∀ y, restZ y = restZ (advance t s) → bulkOpen d.ctx y = refuse code y) :
    Answers i d code s (advance t s) :=
  answers_refuse hx hd htyp fun y hy => (hbody y).trans (h y hy)

theorem bulkOpen_bad (h : openBad d.ctx (readOpen d.ctx (advance t s)) = true) : Answers i d rBadValue s (advance t s) := by
  refine bulkOpen_refused hx hbody htyp hd fun y hy => if_pos ?_
  rwa [readOpen_of_restZ hy]

variable (hgood : openBad d.ctx (readOpen d.ctx (advance t s)) = false)
include hgood

omit hx hbody htyp hd in
theorem not_openBad {y : State} (hy : restZ y = restZ (advance t s)) : ¬ openBad d.ctx (readOpen d.ctx y) = true := by
  rw [readOpen_of_restZ hy, hgood]
  nofun

theorem bulkOpen_busy (h : 4 ≤ ((liveBulks (advance t s)).filter (·.slot == d.session)).length ∨
    16 ≤ (liveBulks (advance t s)).length) : Answers i d rBusy s (advance t s) := by
  refine bulkOpen_refused hx hbody htyp hd fun y hy => (if_neg (not_openBad hgood hy)).trans (if_pos ?_)
  rw [bulks_of_restZ hy]
  exact h

variable (hmine : ((liveBulks (advance t s)).filter (·.slot == d.session)).length < 4)
  (hlive : (liveBulks (advance t s)).length < 16)
include hmine hlive

omit hx hbody htyp hd in
/-- What an OPEN within the limits does. -/
theorem bulkOpen_eq {y : State} (hy : restZ y = restZ (advance t s)) : bulkOpen d.ctx y =
    if (liveBulks (advance t s)).any (fun w => w.slot == d.session && w.id == (readOpen d.ctx (advance t s)).id) then
      refuse rBadValue y
    else match ownerRefusal (readOpen d.ctx (advance t s)).inbound (readOpen d.ctx (advance t s)).target
        (readOpen d.ctx (advance t s)).inst (advance t s) with
      | some code => refuse code y
      | none =>
        if rangeOutside (readOpen d.ctx (advance t s)) (advance t s) then refuse rBadValue y
        else if (readOpen d.ctx (advance t s)).inbound then
          answer rOk [] (begunBulk (readOpen d.ctx (advance t s)) d.session y)
        else ⟨some (rOk, []), begunBulk (readOpen d.ctx (advance t s)) d.session y, fun x =>
          match bulkOf d.session (readOpen d.ctx (advance t s)).id x with
          | some w => bulkSend w 0 w.length x
          | none => x⟩ := by
  refine (if_neg (not_openBad hgood hy)).trans ((if_neg ?_).trans ?_)
  · rw [bulks_of_restZ hy]
    exact fun h => h.elim (Nat.not_le.2 hmine) (Nat.not_le.2 hlive)
  · rw [readOpen_of_restZ hy, ownerRefusal_of_restZ hy, rangeOutside_of_restZ hy,
      show liveBulks (advance t s) = liveBulks y from congrArg (List.filter Bulk.live) (bulks_of_restZ hy).symm]
    rfl

theorem bulkOpen_known (h : ∃ w ∈ (liveBulks (advance t s)).filter (·.slot == d.session),
    w.id = (readOpen d.ctx (advance t s)).id) : Answers i d rBadValue s (advance t s) := by
  obtain ⟨w, hw, hid⟩ := h
  obtain ⟨hmem, hslot⟩ := List.mem_filter.1 hw
  refine bulkOpen_refused hx hbody htyp hd fun y hy => (bulkOpen_eq hgood hmine hlive hy).trans (if_pos ?_)
  exact List.any_eq_true.2 ⟨w, hmem, by rw [hslot, hid, beq_self_eq_true]; rfl⟩

variable (hnew : ∀ w ∈ (liveBulks (advance t s)).filter (·.slot == d.session), w.id ≠ (readOpen d.ctx (advance t s)).id)
include hnew

omit hx hbody htyp hd hgood hmine hlive in
theorem not_known : ¬ (liveBulks (advance t s)).any
    (fun w => w.slot == d.session && w.id == (readOpen d.ctx (advance t s)).id) = true := by
  intro h
  obtain ⟨w, hw, hkey⟩ := List.any_eq_true.1 h
  obtain ⟨hslot, hid⟩ := Bool.and_eq_true_iff.1 hkey
  exact hnew w (List.mem_filter.2 ⟨hw, hslot⟩) (beq_iff_eq.1 hid)

theorem bulkOpen_owner {code : Nat} (h : ownerRefusal (readOpen d.ctx (advance t s)).inbound
    (readOpen d.ctx (advance t s)).target (readOpen d.ctx (advance t s)).inst (advance t s) = some code) :
    Answers i d code s (advance t s) := by
  refine bulkOpen_refused hx hbody htyp hd fun y hy => (bulkOpen_eq hgood hmine hlive hy).trans ((if_neg (not_known hnew)).trans ?_)
  rw [h]

variable (howner : ownerRefusal (readOpen d.ctx (advance t s)).inbound (readOpen d.ctx (advance t s)).target
  (readOpen d.ctx (advance t s)).inst (advance t s) = none)
include howner

theorem bulkOpen_range (h : rangeOutside (readOpen d.ctx (advance t s)) (advance t s) = true) :
    Answers i d rBadValue s (advance t s) := by
  refine bulkOpen_refused hx hbody htyp hd fun y hy => (bulkOpen_eq hgood hmine hlive hy).trans ((if_neg (not_known hnew)).trans ?_)
  rw [howner]
  exact if_pos h

variable (hrange : rangeOutside (readOpen d.ctx (advance t s)) (advance t s) = false)
include hrange

theorem bulkOpen_inbound (hin : (readOpen d.ctx (advance t s)).inbound = true) :
    Answers i d rOk s (begunBulk (readOpen d.ctx (advance t s)) d.session (advance t s)) := by
  refine answers_of hx hd htyp fun y hy => ⟨[], begunBulk (readOpen d.ctx (advance t s)) d.session y, ?_, (begunBulk_alike ..).alike _ _ hy⟩
  rw [hbody, bulkOpen_eq hgood hmine hlive hy, if_neg (not_known hnew), howner]
  exact (if_neg (ne_true_of_eq_false hrange)).trans (if_pos hin)

theorem bulkOpen_outbound (hout : (readOpen d.ctx (advance t s)).inbound = false) : Leads i s fun z =>
    lastReply d z = some ⟨d.seq, d.typ, rOk⟩ ∧ (bulkOf d.session (readOpen d.ctx (advance t s)).id z).isSome = true ∧
    z.power = (advance t s).power ∧ z.force = (advance t s).force := by
  have hrest := restZ_taken d (advance t s)
  obtain ⟨b, hb⟩ : ∃ b, readOpen d.ctx (advance t s) = b := ⟨_, rfl⟩
  have hslot : b.slot = d.session := hb ▸ rfl
  have hclosing : b.closing = [] := hb ▸ rfl
  obtain ⟨y, hy⟩ : ∃ y, sendReply d.session d.seq d.typ rOk [] (begunBulk b d.session (taken d (advance t s))) = y := ⟨_, rfl⟩
  have hreply : Touches [.sessions] (begunBulk b d.session (taken d (advance t s))) y := hy ▸ Touches.sendReply ..
  have hfound : bulkOf b.slot b.id y = some b := by
    rw [bulkOf_congr (hreply.bulks rfl), ← hslot]
    exact bulkOf_begunBulk b _
  obtain ⟨htouch, w, hw, -⟩ := Unclosed.bulkSend ⟨b, hfound, hclosing⟩ hclosing 0 b.length
  have hstate : exec i s = .next (settle (bulkSend b 0 b.length y)) := by
    rw [hx, zcp_accepted body hd, hbody, bulkOpen_eq hgood hmine hlive hrest, if_neg (not_known hnew), howner]
    dsimp only
    rw [if_neg (ne_true_of_eq_false hrange), if_neg (ne_true_of_eq_false hout), finish_after (hd.typ ▸ htyp), hb, hy, ← hslot, hfound]
  have hend := htouch.report (Touches.settle _)
  refine ⟨_, hstate, ?_, ?_, ?_, ?_⟩
  · have hlast : lastReply d y = some ⟨d.seq, d.typ, rOk⟩ :=
      hy ▸ lastReply_sendReply _ _ _ _ _ (early_session hd.checks)
    exact (congrArg (fun x : Session => x.comps.head?) (hend.session d.session rfl) :).trans hlast
  · rw [← hslot, hb, bulkOf_congr ((Touches.settle _).bulks rfl), hw]
    rfl
  · rw [hend.power rfl, hreply.power rfl]
    exact (congrArg State.power hrest :)
  · rw [hend.force rfl, hreply.force rfl]
    exact (congrArg State.force hrest :)

end

end Sys2Proof.Machine
end

section
/-! O32: the data, CLOSE, REREAD and STATUS of a transfer (R495, R497, R498). -/

namespace Sys2Proof.Machine

open Touches (refl ite of_fields foldl)

theorem bulkOf_taken (k id : Nat) (d : Dgram) (x : State) : bulkOf k id (taken d x) = bulkOf k id x :=
  bulkOf_congr (bulks_of_restZ (restZ_taken d x)) k id

/-! ### ZCP_BULK_DATA (R495) -/

section
variable {t : Nat} {d : Dgram} {s : State}

theorem finish_data (h : d.typ = 0x0A03) (code : Nat) (b : List Byte) (x : State) :
    finish d (answer code b x) = recordOnly d.session d.seq d.typ code x := if_pos h

theorem lastReply_recordOnly (hs : d.session < 4) (code : Nat) (x : State) :
    lastReply d (recordOnly d.session d.seq d.typ code x) = some ⟨d.seq, d.typ, code⟩ := by
  simp [lastReply, recordOnly, hs]

theorem replies_recordOnly (hs : d.session < 4) (code : Nat) (x : State) :
    (session d.session (recordOnly d.session d.seq d.typ code x)).replies = (session d.session x).replies := by
  simp [recordOnly, hs]

/-- Data that are accepted leave a completion record, and no reply where no CLOSE waits. -/
theorem bulkData_accepted (hd : Accepted 0x0A03 d (advance t s)) (hlen : 8 ≤ d.payload.length) {b : Bulk}
    (hb : bulkOf d.session (beAt d.payload 0 2) (advance t s) = some b) (hlive : b.live = true) (hin : b.inbound = true)
    (hjob : b.job = false) : Leads (.zcpBulkData t d) s fun z => restZ z =
      restZ (closeIfWhole b.slot b.id (bulkArrive b (beAt d.payload 2 6) (d.payload.drop 8) (taken d (advance t s)))) ∧
      (b.closing = [] → lastReply d z = some ⟨d.seq, d.typ, rOk⟩ ∧
        (session d.session z).replies = (session d.session (advance t s)).replies) := by
  obtain ⟨y, hy⟩ : ∃ y, taken d (advance t s) = y := ⟨_, rfl⟩
  have hfound : bulkOf d.session (beAt d.payload 0 2) y = some b := hy ▸ (bulkOf_taken ..).trans hb
  have hk := early_session hd.checks
  have hbody : bulkData d.ctx y = answer rOk []
      (closeIfWhole b.slot b.id (bulkArrive b (beAt d.payload 2 6) (d.payload.drop 8) y)) := by
    unfold bulkData
    rw [show bulkOf d.ctx.slot (beAt d.ctx.payload 0 2) y = some b from hfound]
    exact (if_neg (Nat.not_lt.2 hlen)).trans (if_neg (by simp [hlive, hin, hjob]))
  refine ⟨_, zcp_accepted bulkData hd, ?_⟩
  rw [hy, hbody, finish_data hd.typ]
  refine ⟨(restZ_settle _).trans (restZ_setSession ..), fun hclosing => ?_⟩
  rw [lastReply_settle]
  refine ⟨lastReply_recordOnly hk .., ?_⟩
  obtain ⟨hslot, hid⟩ := key_of_bulkOf hfound
  have hopen : Unclosed b.slot b.id y := ⟨b, hslot ▸ hid ▸ hfound, hclosing⟩
  obtain ⟨htouch, hkept⟩ := hopen.bulkArrive hclosing (beAt d.payload 2 6) (d.payload.drop 8)
  rw [hkept.closeIfWhole]
  have hreplies {x z : State} {l : List Part} (h : Touches l x z) (hl : Part.listed .sessions l = false) :
      (session d.session z).replies = (session d.session x).replies := (congrArg Session.replies (h.session d.session hl) :)
  rw [hreplies (Touches.settle _) rfl, replies_recordOnly hk, hreplies htouch rfl, ← hy]
  exact (congrArg Session.replies (core_taken d d.session (advance t s)) :)

theorem bulkData_closed (hd : Authentic d (advance t s)) (hopen : d.isOpen = false) (hclosed : closedBulk d (advance t s) = true)
    (hack : bitAt d.flags 2 = false) :
    Does (.zcpBulkData t d) s (count (zcpRx d.port) d.session 1 (bindEnd d (advance t s))) := by
  refine does_act (f := arrive (· == 0x0A03) bulkData (fun _ x => x) d) rfl ?_
  have harrive : arrive (· == 0x0A03) bulkData (fun _ x => x) d (advance t s) =
      count (zcpRx d.port) d.session 1 (bindEnd d (advance t s)) := by
    have hbound : closedBulk d (bindEnd d (advance t s)) = true := hclosed
    obtain ⟨up, ready, checks, tag, flags⟩ := hd
    unfold arrive
    rw [if_neg (by simp [up]), if_neg (not_not.2 ready)]
    simp only [checks]
    rw [if_neg (by simp [tag]), if_neg (by simp [flags]), if_neg (by simp [hopen]), hack]
    exact if_pos (.inr hbound)
  rw [harrive]
  exact .rfl' _

end

/-! ### ZCP_BULK_CLOSE (R495, R496) -/

section
variable {t id : Nat} {d : Dgram} {s : State} (hd : Accepted 0x0A04 d (advance t s))
  (hlen : d.payload.length = Config.payloadLength 0x0A04)
include hd hlen

theorem bulkClose_answers {code : Nat} {z : State} (h : ∀ y, restZ y = restZ (advance t s) →
    ∃ b y', bulkClose id d.ctx y = answer code b y' ∧ restZ y' = restZ z) : Answers (.zcpBulkClose t d id) d code s z :=
  answers_of_laid (show _ = execZcpBulkClose t d id s from rfl) hd hlen (by decide) h

theorem bulkClose_leads {w : State} {p : State → Prop} (h : bulkClose id d.ctx (taken d (advance t s)) = ⟨none, w, fun x => x⟩)
    (hp : p (settle w)) : Leads (.zcpBulkClose t d id) s p := by
  refine ⟨_, (show _ = execZcpBulkClose t d id s from rfl).trans (zcp_accepted _ hd), ?_⟩
  rwa [laid_accepted hd hlen, h]

theorem bulkClose_none (h : bulkOf d.session id (advance t s) = none) :
    Answers (.zcpBulkClose t d id) d rNotFound s (advance t s) := by
  refine bulkClose_answers hd hlen fun y hy => ⟨[], y, ?_, hy⟩
  rw [bulkClose, show bulkOf d.ctx.slot id y = none from (bulkOf_congr (bulks_of_restZ hy) ..).trans h]
  rfl

variable {b : Bulk} (hb : bulkOf d.session id (advance t s) = some b)
include hb

omit hd hlen in
theorem bulkClose_eq {y : State} (hy : restZ y = restZ (advance t s)) : bulkClose id d.ctx y =
    if b.job then wait d.ctx .decomp (bulkUnit d.session id) (setBulk { b with lastAt := y.time.now } y)
    else if !b.live then (if b.state = .done then refuse rNotFound y else refuse b.state.result y)
    else if !b.inbound then answer rOk [] (setBulk { b with state := .done } y)
    else if b.missing.2 = 0 ∧ !b.compressed then
      answer rOk [] (b.closing.foldl (fun x w => completeSeq d.session w.1 rOk [] x)
        (setBulk { b with state := .done, closing := [], data := [] } y))
    else
      { wait d.ctx .bulkClose (bulkUnit d.session id)
          (setBulk { b with closing := b.closing ++ [(d.seq, y.time.now)], lastAt := y.time.now } y) with
        state := closeIfWhole d.session id (wait d.ctx .bulkClose (bulkUnit d.session id)
          (setBulk { b with closing := b.closing ++ [(d.seq, y.time.now)], lastAt := y.time.now } y)).state } := by
  rw [bulkClose, show bulkOf d.ctx.slot id y = some b from (bulkOf_congr (bulks_of_restZ hy) ..).trans hb]
  rfl

theorem bulkClose_job (hjob : b.job = true) : Leads (.zcpBulkClose t d id) s fun z => restZ z = restZ
    (let y := setBulk { b with lastAt := (advance t s).time.now } (advance t s)
     { y with zcp := { y.zcp with
        waiting := (advance t s).zcp.waiting ++ [⟨d.session, d.seq, d.typ, 4, bulkUnit d.session id⟩] } }) := by
  have hrest := restZ_taken d (advance t s)
  refine bulkClose_leads hd hlen ((bulkClose_eq hb hrest).trans (if_pos hjob)) ?_
  rw [restZ_settle]
  have hwait : RestAlike fun x : State => (wait d.ctx .decomp (bulkUnit d.session id) (setBulk { b with lastAt := x.time.now } x)).state :=
    .of_comm fun _ => rfl
  exact hwait.alike _ _ hrest

variable (hjob : b.job = false)
include hjob

theorem bulkClose_ended (hlive : b.live = false) :
    Answers (.zcpBulkClose t d id) d (if b.state = .done then rNotFound else b.state.result) s (advance t s) := by
  refine bulkClose_answers hd hlen fun y hy => ⟨[], y, ?_, hy⟩
  refine (bulkClose_eq hb hy).trans ((if_neg (ne_true_of_eq_false hjob)).trans ((if_pos (by simp [hlive])).trans ?_))
  by_cases hdone : b.state = .done
  · rw [if_pos hdone, if_pos hdone]
    rfl
  · rw [if_neg hdone, if_neg hdone]
    rfl

variable (hlive : b.live = true)
include hlive

omit hd hlen in
theorem bulkClose_live {y : State} (hy : restZ y = restZ (advance t s)) : bulkClose id d.ctx y =
    if !b.inbound then answer rOk [] (setBulk { b with state := .done } y)
    else if b.missing.2 = 0 ∧ !b.compressed then
      answer rOk [] (b.closing.foldl (fun x w => completeSeq d.session w.1 rOk [] x)
        (setBulk { b with state := .done, closing := [], data := [] } y))
    else
      { wait d.ctx .bulkClose (bulkUnit d.session id)
          (setBulk { b with closing := b.closing ++ [(d.seq, y.time.now)], lastAt := y.time.now } y) with
        state := closeIfWhole d.session id (wait d.ctx .bulkClose (bulkUnit d.session id)
          (setBulk { b with closing := b.closing ++ [(d.seq, y.time.now)], lastAt := y.time.now } y)).state } :=
  (bulkClose_eq hb hy).trans ((if_neg (ne_true_of_eq_false hjob)).trans (if_neg (by simp [hlive])))

theorem bulkClose_outbound (hout : b.inbound = false) :
    Answers (.zcpBulkClose t d id) d rOk s (setBulk { b with state := .done } (advance t s)) := by
  have hset : RestAlike (setBulk { b with state := .done }) := .of_comm fun _ => rfl
  exact bulkClose_answers hd hlen fun y hy => ⟨[], setBulk { b with state := .done } y,
    (bulkClose_live hb hjob hlive hy).trans (if_pos (by simp [hout])), hset.alike _ _ hy⟩

variable (hin : b.inbound = true)
include hin

theorem bulkClose_whole (hmissing : b.missing.2 = 0) (hplain : b.compressed = false) (hclosing : b.closing = []) :
    Answers (.zcpBulkClose t d id) d rOk s (setBulk { b with state := .done, data := [] } (advance t s)) := by
  have hset : RestAlike (setBulk { b with state := .done, data := [] }) := .of_comm fun _ => rfl
  refine bulkClose_answers hd hlen fun y hy => ⟨[], setBulk { b with state := .done, data := [] } y, ?_, hset.alike _ _ hy⟩
  refine (bulkClose_live hb hjob hlive hy).trans ((if_neg (by simp [hin])).trans ((if_pos ⟨hmissing, by simp [hplain]⟩).trans ?_))
  cases b
  subst hclosing
  rfl

/-- The state in which a CLOSE waits for its transfer. -/
def closeWaits (b : Bulk) (d : Dgram) (id : Nat) (y : State) : State :=
  (wait d.ctx .bulkClose (bulkUnit d.session id)
    (setBulk { b with closing := b.closing ++ [(d.seq, y.time.now)], lastAt := y.time.now } y)).state

omit hd hlen hb hjob hlive hin in
theorem bulkOf_closeWaits {y : State} (h : bulkOf d.session id y = some b) : bulkOf d.session id (closeWaits b d id y) =
    some { b with closing := b.closing ++ [(d.seq, y.time.now)], lastAt := y.time.now } := by
  obtain ⟨hslot, hid⟩ := key_of_bulkOf h
  exact bulkOf_setBulk (w := { b with closing := b.closing ++ [(d.seq, y.time.now)], lastAt := y.time.now }) h hslot hid

omit hd hlen in
/-- A CLOSE that finds its transfer not whole, or whole and COMPRESSED, waits. -/
theorem bulkClose_waits {y : State} (hy : restZ y = restZ (advance t s)) (h : b.missing.2 ≠ 0 ∨ b.compressed = true) :
    bulkClose id d.ctx y = ⟨none, closeIfWhole d.session id (closeWaits b d id y), fun x => x⟩ := by
  have hnot : ¬ (b.missing.2 = 0 ∧ (!b.compressed) = true) := fun hall => h.elim (fun hne => hne hall.1) fun hcomp => by
    simp [hcomp] at hall
  exact (bulkClose_live hb hjob hlive hy).trans ((if_neg (by simp [hin])).trans (if_neg hnot))

theorem bulkClose_incomplete (hmissing : b.missing.2 ≠ 0) :
    let y := setBulk { b with closing := b.closing ++ [(d.seq, (advance t s).time.now)], lastAt := (advance t s).time.now } (advance t s)
    Leads (.zcpBulkClose t d id) s fun z => restZ z = restZ { y with zcp := { y.zcp with
      waiting := (advance t s).zcp.waiting ++ [⟨d.session, d.seq, d.typ, 3, bulkUnit d.session id⟩] } } := by
  intro y
  have hrest := restZ_taken d (advance t s)
  refine bulkClose_leads hd hlen (bulkClose_waits hb hjob hlive hin hrest (.inl hmissing)) ?_
  have hfound := bulkOf_closeWaits (d := d) ((bulkOf_taken d.session id d (advance t s)).trans hb)
  have hstay : closeIfWhole d.session id (closeWaits b d id (taken d (advance t s))) = closeWaits b d id (taken d (advance t s)) := by
    rw [closeIfWhole, hfound]
    exact if_neg fun hall => hmissing hall.2.2
  have hwait : RestAlike (closeWaits b d id) := .of_comm fun _ => rfl
  rw [restZ_settle, hstay]
  exact hwait.alike _ _ hrest

/-- The waiting CLOSEs of a transfer wait for its job. -/
def closesToJob (k id : Nat) (s : State) : State :=
  { s with zcp := { s.zcp with waiting := s.zcp.waiting.map fun w =>
    if w.why = Why.bulkClose.code ∧ w.unit = bulkUnit k id then { w with why := Why.decomp.code } else w } }

omit hd hlen hb hjob hlive hin in
theorem queueJob_of_room {x : State} (c : Bulk) (h : x.egress.jobs.length < 16) : ∃ j, queueJob c x =
    setJobs (x.egress.jobs ++ [j]) (setBulk { c with job := true, data := [] } x) :=
  ⟨_, if_neg (Nat.not_le.2 h)⟩

theorem bulkClose_compressed (hmissing : b.missing.2 = 0) (hcomp : b.compressed = true)
    (hroom : (advance t s).egress.jobs.length < 16) : Leads (.zcpBulkClose t d id) s fun z =>
      z.egress.jobs.length = (advance t s).egress.jobs.length + 1 ∧
      (bulkOf d.session id z).map (·.job) = some true ∧
      ⟨d.session, d.seq, d.typ, 4, bulkUnit d.session id⟩ ∈ z.zcp.waiting ∧ z.mem = (advance t s).mem ∧
      z.force = (advance t s).force := by
  have hrest := restZ_taken d (advance t s)
  refine bulkClose_leads hd hlen (bulkClose_waits hb hjob hlive hin hrest (.inr hcomp)) ?_
  obtain ⟨y, hy⟩ : ∃ y, taken d (advance t s) = y := ⟨_, rfl⟩
  rw [hy] at hrest ⊢
  have hfound := bulkOf_closeWaits (d := d) ((bulkOf_congr (bulks_of_restZ hrest) ..).trans hb)
  obtain ⟨c, hc⟩ : ∃ c, { b with closing := b.closing ++ [(d.seq, y.time.now)], lastAt := y.time.now } = c := ⟨_, rfl⟩
  rw [hc] at hfound
  have hwhole : c.live = true ∧ (!c.closing.isEmpty) = true ∧ c.missing.2 = 0 := by
    rw [← hc]
    exact ⟨hlive, by simp, hmissing⟩
  have hqueue : closeIfWhole d.session id (closeWaits b d id y) =
      queueJob { c with closing := [] } (closesToJob d.session id (closeWaits b d id y)) := by
    rw [closeIfWhole, hfound]
    exact (if_pos hwhole).trans (if_pos (hc ▸ hcomp))
  obtain ⟨hslot, hid⟩ := key_of_bulkOf hfound
  have hjobs : (closesToJob d.session id (closeWaits b d id y)).egress.jobs = (advance t s).egress.jobs :=
    (congrArg (·.egress.jobs) hrest :)
  obtain ⟨j, hj⟩ := queueJob_of_room { c with closing := [] } (hjobs ▸ hroom)
  have hend := Touches.settle (setJobs ((closesToJob d.session id (closeWaits b d id y)).egress.jobs ++ [j])
    (setBulk { c with closing := [], job := true, data := [] } (closesToJob d.session id (closeWaits b d id y))))
  rw [hqueue, hj]
  refine ⟨?_, ?_, ?_, ?_, ?_⟩
  · rw [hend.egress rfl]
    exact (List.length_append ..).trans (congrArg (· + 1) (congrArg List.length hjobs))
  · have hset : bulkOf d.session id (setBulk { c with closing := [], job := true, data := [] }
        (closesToJob d.session id (closeWaits b d id y))) = some { c with closing := [], job := true, data := [] } :=
      bulkOf_setBulk (s := closesToJob d.session id (closeWaits b d id y)) hfound hslot hid
    rw [bulkOf_congr (hend.bulks rfl)]
    exact congrArg (Option.map (·.job)) hset
  · rw [hend.waiting rfl]
    refine List.mem_map.2 ⟨⟨d.session, d.seq, d.typ, 3, bulkUnit d.session id⟩, List.mem_append_right _ (List.mem_singleton_self _), ?_⟩
    exact if_pos ⟨rfl, rfl⟩
  · rw [hend.mem rfl]
    exact (congrArg State.mem hrest :)
  · rw [hend.force rfl]
    exact (congrArg State.force hrest :)

end

/-! ### ZCP_BULK_REREAD (R497) -/

section
variable {t id lo n : Nat} {d : Dgram} {s : State} (hd : Accepted 0x0A05 d (advance t s))
  (hlen : d.payload.length = Config.payloadLength 0x0A05)
include hd hlen

theorem bulkReread_refused {code : Nat} (h : ∀ y, restZ y = restZ (advance t s) → bulkReread id lo n d.ctx y = refuse code y) :
    Answers (.zcpBulkReread t d id lo n) d code s (advance t s) :=
  answers_of_laid (show _ = execZcpBulkReread t d id lo n s from rfl) hd hlen (by decide) fun y hy => ⟨[], y, h y hy, hy⟩

theorem bulkReread_none (h : bulkOf d.session id (advance t s) = none) :
    Answers (.zcpBulkReread t d id lo n) d rNotFound s (advance t s) := by
  refine bulkReread_refused hd hlen fun y hy => ?_
  rw [bulkReread, show bulkOf d.ctx.slot id y = none from (bulkOf_congr (bulks_of_restZ hy) ..).trans h]

variable {b : Bulk} (hb : bulkOf d.session id (advance t s) = some b)
include hb

omit hd hlen in
theorem bulkReread_eq {y : State} (hy : restZ y = restZ (advance t s)) : bulkReread id lo n d.ctx y =
    if !b.live then (if b.state = .done then refuse rNotFound y else refuse b.state.result y)
    else if b.inbound ∨ b.length < lo + n then refuse rBadValue y
    else ⟨some (rOk, []), setBulk { b with lastAt := y.time.now } y, fun x => match bulkOf d.session id x with
      | some w => bulkSend w lo (lo + n) x
      | none => x⟩ := by
  rw [bulkReread, show bulkOf d.ctx.slot id y = some b from (bulkOf_congr (bulks_of_restZ hy) ..).trans hb]
  rfl

theorem bulkReread_ended (hlive : b.live = false) : Answers (.zcpBulkReread t d id lo n) d
    (if b.state = .done then rNotFound else b.state.result) s (advance t s) := by
  refine bulkReread_refused hd hlen fun y hy => (bulkReread_eq hb hy).trans ((if_pos (by simp [hlive])).trans ?_)
  by_cases hdone : b.state = .done
  · rw [if_pos hdone, if_pos hdone]
  · rw [if_neg hdone, if_neg hdone]

variable (hlive : b.live = true)
include hlive

theorem bulkReread_bad (h : b.inbound = true ∨ b.length < lo + n) :
    Answers (.zcpBulkReread t d id lo n) d rBadValue s (advance t s) :=
  bulkReread_refused hd hlen fun y hy => (bulkReread_eq hb hy).trans ((if_neg (by simp [hlive])).trans (if_pos h))

theorem bulkReread_sends (hout : b.inbound = false) (hrange : lo + n ≤ b.length) (hclosing : b.closing = []) :
    Leads (.zcpBulkReread t d id lo n) s fun z => lastReply d z = some ⟨d.seq, d.typ, rOk⟩ ∧
      z.power = (advance t s).power ∧ z.force = (advance t s).force := by
  have hrest := restZ_taken d (advance t s)
  obtain ⟨w, hw⟩ : ∃ w, taken d (advance t s) = w := ⟨_, rfl⟩
  rw [hw] at hrest
  obtain ⟨c, hc⟩ : ∃ c, { b with lastAt := w.time.now } = c := ⟨_, rfl⟩
  obtain ⟨y, hy⟩ : ∃ y, sendReply d.session d.seq d.typ rOk [] (setBulk c w) = y := ⟨_, rfl⟩
  obtain ⟨hslot, hid⟩ := key_of_bulkOf hb
  have hkey : c.slot = d.session ∧ c.id = id := by rw [← hc]; exact ⟨hslot, hid⟩
  have hreply : Touches [.sessions] (setBulk c w) y := hy ▸ Touches.sendReply ..
  have hfound : bulkOf d.session id y = some c := by
    rw [bulkOf_congr (hreply.bulks rfl)]
    exact bulkOf_setBulk ((bulkOf_congr (bulks_of_restZ hrest) ..).trans hb) hkey.1 hkey.2
  have hnoClosing : c.closing = [] := hc ▸ hclosing
  obtain ⟨htouch, -⟩ := Unclosed.bulkSend (s := y) ⟨c, by rw [hkey.1, hkey.2]; exact hfound, hnoClosing⟩ hnoClosing lo (lo + n)
  have hstate : exec (.zcpBulkReread t d id lo n) s = .next (settle (bulkSend c lo (lo + n) y)) := by
    refine (show _ = execZcpBulkReread t d id lo n s from rfl).trans ((zcp_accepted _ hd).trans ?_)
    rw [laid_accepted hd hlen, hw, bulkReread_eq hb hrest, if_neg (by simp [hlive]), if_neg (by simp [hout, hrange]),
      finish_after (hd.typ ▸ (by decide)), hc, hy, hfound]
  have hend := htouch.report (Touches.settle _)
  refine ⟨_, hstate, ?_, ?_, ?_⟩
  · have hlast : lastReply d y = some ⟨d.seq, d.typ, rOk⟩ :=
      hy ▸ lastReply_sendReply _ _ _ _ _ (early_session hd.checks)
    exact (congrArg (fun x : Session => x.comps.head?) (hend.session d.session rfl) :).trans hlast
  · rw [hend.power rfl, hreply.power rfl]
    exact (congrArg State.power hrest :)
  · rw [hend.force rfl, hreply.force rfl]
    exact (congrArg State.force hrest :)

end

/-! ### ZCP_BULK_STATUS (R498) -/

section
variable {t id : Nat} {d : Dgram} {s : State} (hd : Accepted 0x0A06 d (advance t s))
  (hlen : d.payload.length = Config.payloadLength 0x0A06)
include hd hlen

theorem bulkStatus_none (h : bulkOf d.session id (advance t s) = none) :
    Answers (.zcpBulkStatus t d id) d rNotFound s (advance t s) := by
  refine answers_of_laid (show _ = execZcpBulkStatus t d id s from rfl) hd hlen (by decide) fun y hy => ⟨[], y, ?_, hy⟩
  rw [bulkStatus, show bulkOf d.ctx.slot id y = none from (bulkOf_congr (bulks_of_restZ hy) ..).trans h]
  rfl

theorem bulkStatus_some {b : Bulk} (hb : bulkOf d.session id (advance t s) = some b) :
    Answers (.zcpBulkStatus t d id) d rOk s
      (if b.live then setBulk { b with lastAt := (advance t s).time.now } (advance t s) else advance t s) := by
  have hset : RestAlike fun x : State => if b.live then setBulk { b with lastAt := x.time.now } x else x :=
    RestAlike.of_comm fun _ => by split <;> rfl
  refine answers_of_laid (show _ = execZcpBulkStatus t d id s from rfl) hd hlen (by decide) fun y hy =>
    ⟨Config.replyBody 0x0A06 [b.state.code, b.moved, b.missing.1], _, ?_, hset.alike _ _ hy⟩
  rw [bulkStatus, show bulkOf d.ctx.slot id y = some b from (bulkOf_congr (bulks_of_restZ hy) ..).trans hb]

end

/-! ### The expiries (R495, R497) -/

section
variable {t id : Nat} {slot : Fin 4} {s : State}

/-- What BULK_WAIT_EXPIRY does. -/
def waitExpired (slot id : Nat) (x : State) : State :=
  match bulkOf slot id x with
  | none => x
  | some b => match b.closing with
    | [] => x
    | (q, since) :: rest =>
      if x.time.now < since + nsT (par0 .zcpBulkWait x) then x
      else completeSeq slot q rIncomplete (Config.replyBody 0x0A04 [b.missing.1, b.missing.2])
        (setBulk { b with state := .incomplete, closing := rest } x)

/-- What BULK_IDLE_EXPIRY does. -/
def idleExpired (slot id : Nat) (x : State) : State :=
  match bulkOf slot id x with
  | none => x
  | some b =>
    if b.live ∧ !b.job ∧ b.lastAt + nsT (par0 .zcpBulkIdle x) ≤ x.time.now then endBulk slot id .aborted x else x

theorem exec_bulkWaitExpiry : exec (.bulkWaitExpiry t slot id) s = act t (waitExpired slot id) s := rfl

theorem exec_bulkIdleExpiry : exec (.bulkIdleExpiry t slot id) s = act t (idleExpired slot id) s := rfl

end

section
variable {slot id : Nat} {x : State}

theorem waitExpired_none (h : bulkOf slot id x = none) : waitExpired slot id x = x := by rw [waitExpired, h]

theorem idleExpired_none (h : bulkOf slot id x = none) : idleExpired slot id x = x := by rw [idleExpired, h]

variable {b : Bulk} (hb : bulkOf slot id x = some b)
include hb

theorem waitExpired_unclosed (h : b.closing = []) : waitExpired slot id x = x := by
  rw [waitExpired, hb]
  dsimp only
  rw [h]

theorem waitExpired_some {q since : Nat} {rest : List (Nat × Nat)} (h : b.closing = (q, since) :: rest) :
    waitExpired slot id x = if x.time.now < since + nsT (par0 .zcpBulkWait x) then x
      else completeSeq slot q rIncomplete (Config.replyBody 0x0A04 [b.missing.1, b.missing.2])
        (setBulk { b with state := .incomplete, closing := rest } x) := by
  rw [waitExpired, hb]
  dsimp only
  rw [h]

theorem idleExpired_some : idleExpired slot id x =
    if b.live ∧ !b.job ∧ b.lastAt + nsT (par0 .zcpBulkIdle x) ≤ x.time.now then endBulk slot id .aborted x else x := by
  rw [idleExpired, hb]

end

/-- The reply of a waiting command is the last that its session keeps. -/
theorem comps_completeSeq {slot q code : Nat} (hslot : slot < 4) {body : List Byte} {x : State} {w : Waiting}
    (h : x.zcp.waiting.find? (fun v => v.slot == slot && v.seq == q) = some w) :
    (session slot (completeSeq slot q code body x)).comps.head? = some ⟨q, w.typ, code⟩ := by
  rw [completeSeq, h]
  simp [sendReply, hslot]

end Sys2Proof.Machine
end

section
/-! O32 assembled. -/

namespace Sys2Proof.Machine

/-- What BULK_WAIT_EXPIRY leaves of a transfer whose oldest CLOSE has waited long enough. -/
theorem waitExpired_leaves {slot id q since : Nat} (hslot : slot < 4) {rest : List (Nat × Nat)} {b : Bulk} {x : State}
    (hb : bulkOf slot id x = some b) (hclosing : b.closing = (q, since) :: rest)
    (hdue : since + nsT (par0 .zcpBulkWait x) ≤ x.time.now) : let z := settle (waitExpired slot id x)
    (bulkOf slot id z).map (fun w => (w.state, w.closing)) = some (.incomplete, rest) ∧
    (∀ w, x.zcp.waiting.find? (fun v => v.slot == slot && v.seq == q) = some w →
      (session slot z).comps.head? = some ⟨q, w.typ, rIncomplete⟩) ∧
    z.mem = x.mem ∧ z.force = x.force := by
  intro z
  obtain ⟨hkey, hid⟩ := key_of_bulkOf hb
  have hexpired := (waitExpired_some hb hclosing).trans (if_neg (Nat.not_lt.2 hdue))
  have hset : bulkOf slot id (setBulk { b with state := .incomplete, closing := rest } x) =
      some { b with state := .incomplete, closing := rest } := bulkOf_setBulk hb hkey hid
  have htouch : Touches [.sessions, .waiting] (setBulk { b with state := .incomplete, closing := rest } x) z := by
    rw [show z = settle _ from congrArg settle hexpired]
    exact (completeSeq_touches ..).report (Touches.settle _)
  refine ⟨?_, fun w hw => ?_, htouch.mem rfl, htouch.force rfl⟩
  · rw [bulkOf_congr (htouch.bulks rfl), hset]
    rfl
  · rw [show z = settle _ from congrArg settle hexpired]
    refine (congrArg (fun y : Session => y.comps.head?) ((Touches.settle _).session slot rfl) :).trans ?_
    exact comps_completeSeq hslot hw

/-- What BULK_IDLE_EXPIRY leaves of a transfer that has been idle long enough. -/
theorem idleExpired_leaves {slot id : Nat} {b : Bulk} {x : State} (hb : bulkOf slot id x = some b) (hlive : b.live = true)
    (hjob : b.job = false) (hdue : b.lastAt + nsT (par0 .zcpBulkIdle x) ≤ x.time.now) :
    let z := settle (idleExpired slot id x)
    (bulkOf slot id z).map (·.state) = some .aborted ∧ z.mem = x.mem ∧ z.force = x.force ∧ z.power = x.power := by
  intro z
  have hexpired := (idleExpired_some hb).trans (if_pos ⟨hlive, by simp [hjob], hdue⟩)
  have hend : z = settle (endBulk slot id .aborted x) := congrArg settle hexpired
  have htouch : Touches [.bulks, .sessions, .waiting] x z := by
    rw [hend]
    exact (endBulk_touches ..).report (Touches.settle _)
  refine ⟨?_, htouch.mem rfl, htouch.force rfl, htouch.power rfl⟩
  rw [hend, bulkOf_congr ((Touches.settle _).bulks rfl), bulkOf_endBulk hb]
  rfl

/-- Settles O32, command by command: an OPEN by the limits that it meets, data by what they touch in their target,
CLOSE, REREAD and STATUS by the transfer that they find, the expiries by its waiting CLOSEs. -/
theorem bulkTransfersOpenCarryAndClose : Obligations.BulkTransfersOpenCarryAndClose := by
  unfold Obligations.BulkTransfersOpenCarryAndClose
  refine ⟨?_, ?_, ?_, ?_, ?_, ?_, ?_, ?_⟩
  · intro t d typ i s x b live mine hrow hd hlen
    have hbody : ∃ body, exec i s = zcp typ body t d s ∧ (∀ y, body d.ctx y = bulkOpen d.ctx y) ∧ typ ≠ 0x0A03 := by
      obtain ⟨rfl, rfl⟩ | ⟨rfl, rfl, htarget⟩ := hrow
      · exact ⟨sized 32 bulkOpen, rfl, sized_of_length bulkOpen (c := d.ctx) hlen, by decide⟩
      · refine ⟨sized 32 fun c x => if beAt c.payload 2 1 % 16 = 4 then bulkOpen c x else refuse rBadValue x, rfl,
          fun y => ?_, by decide⟩
        exact (sized_of_length _ (c := d.ctx) hlen y).trans (if_pos htarget)
    obtain ⟨body, hx, hopen, htyp⟩ := hbody
    refine ⟨bulkOpen_bad hx hopen htyp hd, bulkOpen_busy hx hopen htyp hd, fun hgood hmine hlive =>
      ⟨bulkOpen_known hx hopen htyp hd hgood hmine hlive, fun hnew =>
      ⟨fun code => bulkOpen_owner hx hopen htyp hd hgood hmine hlive hnew, fun howner =>
      ⟨bulkOpen_range hx hopen htyp hd hgood hmine hlive hnew howner,
        bulkOpen_inbound hx hopen htyp hd hgood hmine hlive hnew howner,
        bulkOpen_outbound hx hopen htyp hd hgood hmine hlive hnew howner⟩⟩⟩⟩
  · intro t d s x hd hlen htarget
    refine answers_refuse (show _ = execZcpSluiceLoad t d s from rfl) hd (by decide) fun y hy => ?_
    exact (sized_of_length _ (c := d.ctx) hlen y).trans (if_neg htarget)
  · intro t d s b x hd hlen hb hlive hin hjob
    exact bulkData_accepted hd hlen hb hlive hin hjob
  · intro t d s x hd hopen hclosed hack
    exact bulkData_closed hd hopen hclosed hack
  · intro t d id s x hd hlen
    exact ⟨bulkClose_none hd hlen, fun b hb hlive hjob => bulkClose_ended hd hlen hb hjob hlive,
      fun b hb => bulkClose_job hd hlen hb, fun b hb hlive hjob =>
      ⟨bulkClose_outbound hd hlen hb hjob hlive, bulkClose_whole hd hlen hb hjob hlive,
        bulkClose_compressed hd hlen hb hjob hlive, bulkClose_incomplete hd hlen hb hjob hlive⟩⟩
  · intro t d id lo n s x hd hlen
    exact ⟨bulkReread_none hd hlen, fun b hb => bulkReread_ended hd hlen hb, fun b hb hlive =>
      ⟨bulkReread_bad hd hlen hb hlive, bulkReread_sends hd hlen hb hlive⟩⟩
  · intro t d id s x hd hlen
    exact ⟨bulkStatus_none hd hlen, fun b => bulkStatus_some hd hlen⟩
  · intro t slot id s x
    have hwait (h : waitExpired slot id (advance t s) = advance t s) : Does (.bulkWaitExpiry t slot id) s x := by
      refine does_act exec_bulkWaitExpiry ?_
      rw [h]
      exact .rfl' x
    have hidle (h : idleExpired slot id (advance t s) = advance t s) : Does (.bulkIdleExpiry t slot id) s x := by
      refine does_act exec_bulkIdleExpiry ?_
      rw [h]
      exact .rfl' x
    refine ⟨fun h => ⟨hwait (waitExpired_none h), hidle (idleExpired_none h)⟩, fun b q since rest hb hclosing =>
      ⟨fun hearly => hwait ((waitExpired_some hb hclosing).trans (if_pos hearly)), fun hdue =>
        leads_act exec_bulkWaitExpiry (waitExpired_leaves slot.isLt hb hclosing hdue)⟩,
      fun b hb hclosing => hwait (waitExpired_unclosed hb hclosing), fun b hb =>
      ⟨fun hlive hjob hdue => leads_act exec_bulkIdleExpiry (idleExpired_leaves hb hlive hjob hdue), fun h =>
        hidle ((idleExpired_some hb).trans (if_neg ?_))⟩⟩
    rintro ⟨hlive, hjob, hdue⟩
    obtain hdead | hrunning | hearly := h
    · exact absurd hlive (by simp [hdead])
    · exact absurd hjob (by simp [hrunning])
    · exact absurd hdue (Nat.not_le.2 hearly)

end Sys2Proof.Machine
end

section
/-! The queue of the commands that wait: one rule for each function of the state, `(f … s).pending = s.pending`. None of
them touches the queue; a rule of a caller rests on the rules of what it calls. -/

namespace Sys2Proof.Machine

@[simp] theorem ite_pending (p : Prop) [Decidable p] (x y : State) :
    (if p then x else y).pending = if p then x.pending else y.pending := apply_ite State.pending p x y

@[simp] theorem foldl_pending {α : Type} {f : State → α → State} (h : ∀ s a, (f s a).pending = s.pending) (l : List α)
    (s : State) : (l.foldl f s).pending = s.pending := foldl_keeps (π := State.pending) h l s

@[simp] theorem drawFree_pending (s : State) : (drawFree s).2.pending = s.pending := rfl

@[simp] theorem bbFlush_pending (cause : Nat) (s : State) : (bbFlush cause s).2.pending = s.pending :=
  (bbFlush_touches ..).pending rfl

@[simp] theorem unsolicited_pending (k : Nat) (typ : Nat) (body : List Byte) (s : State) : (unsolicited k typ body s).pending = s.pending :=
  (Touches.unsolicited ..).pending rfl

@[simp] theorem fireAll_pending (l : List Fs) (s : State) : (fireAll l s).pending = s.pending := by simp [fireAll]

@[simp] theorem stopFunction_pending (fn inst : Nat) (s : State) : (stopFunction fn inst s).pending = s.pending :=
  (Touches.stopFunction ..).pending rfl

@[simp] theorem setTile_pending (key : Nat) (x : Tile) (s : State) : (setTile key x s).pending = s.pending :=
  (setTile_touches ..).pending rfl

@[simp] theorem setRegion_pending (area r : Nat) (x : Region) (s : State) : (setRegion area r x s).pending = s.pending :=
  (setRegion_touches ..).pending rfl

@[simp] theorem setTxQueue_pending (port : Nat) (q : TxQueue) (s : State) : (setTxQueue port q s).pending = s.pending :=
  rfl

@[simp] theorem txtsPush_pending (port : Nat) (e : TxTs) (s : State) : (txtsPush port e s).pending = s.pending :=
  (txtsPush_touches ..).pending rfl

@[simp] theorem txtsTake_pending (port mtype domain seq owner : Nat) (s : State) : (txtsTake port mtype domain seq owner s).2.pending = s.pending :=
  rfl

@[simp] theorem drive_pending (n : Nat) (level : Bool) (at_ : Nat) (s : State) : (drive n level at_ s).pending = s.pending :=
  (drive_touches ..).pending rfl

@[simp] theorem skipEdges_pending (n k first : Nat) (s : State) : (skipEdges n k first s).pending = s.pending :=
  by simp [skipEdges]

@[simp] theorem endIfOver_pending (n : Nat) (s : State) : (endIfOver n s).pending = s.pending := by
  unfold endIfOver
  dsimp only
  split <;> simp

@[simp] theorem applyProg_pending (n : Nat) (mode : OutMode) (p : Prog) (s : State) : (applyProg n mode p s).pending = s.pending :=
  (applyProg_touches ..).pending rfl

@[simp] theorem assertPulse_pending (n : Nat) (p : Prog) (e : Nat) (s : State) : (assertPulse n p e s).pending = s.pending := by
  unfold assertPulse
  dsimp only
  split <;> simp

@[simp] theorem stepOut_pending (old new n : Nat) (s : State) : (stepOut old new n s).pending = s.pending := by
  unfold stepOut
  dsimp only
  split <;> simp

@[simp] theorem stepGate_pending (n : Nat) (s : State) : (stepGate n s).pending = s.pending := by simp [stepGate]

@[simp] theorem stepTide_pending (new : Nat) (s : State) : (stepTide new s).pending = s.pending := by simp [stepTide]

@[simp] theorem coreState_pending (n : Nat) (st : CoreState) (s : State) : (coreState n st s).pending = s.pending :=
  (coreState_touches ..).pending rfl

@[simp] theorem passOwner_pending (n : Nat) (s : State) : (passOwner n s).pending = s.pending := by
  unfold passOwner
  dsimp only
  split <;> simp

@[simp] theorem stopNow_pending (n : Nat) (s : State) : (stopNow n s).pending = s.pending := by simp [stopNow]

@[simp] theorem askStop_pending (n : Nat) (s : State) : (askStop n s).pending = s.pending := by simp [askStop]

@[simp] theorem trapCore_pending (n cause : Nat) (s : State) : (trapCore n cause s).pending = s.pending :=
  by simp [trapCore]

@[simp] theorem tapCtl_pending (n v : Nat) (s : State) : (tapCtl n v s).pending = s.pending := by simp [tapCtl]

@[simp] theorem peerRaise_pending (n k : Nat) (s : State) : (peerRaise n k s).pending = s.pending := rfl

@[simp] theorem moverSubmit_pending (n addr : Nat) (s : State) : (moverSubmit n addr s).pending = s.pending :=
  by simp [moverSubmit]

@[simp] theorem writeCr_pending (n k v : Nat) (s : State) : (writeCr n k v s).pending = s.pending := by simp [writeCr]

@[simp] theorem tapBlock_pending (d i : Nat) (p : Plan) (s : State) : (tapBlock d i p s).pending = s.pending := rfl

@[simp] theorem missTaps_pending (d slot : Nat) (s : State) : (missTaps d slot s).pending = s.pending :=
  (missTaps_touches ..).pending rfl

@[simp] theorem setPoison_pending (c off : Nat) (b : Bool) (s : State) : (setPoison c off b s).pending = s.pending :=
  rfl

@[simp] theorem setCell_pending (dpa : Nat) (b : Byte) (s : State) : (setCell dpa b s).pending = s.pending := by
  obtain ⟨m, hm⟩ := setCell_changes_mem dpa b s
  rw [hm]

@[simp] theorem freshCodewords_pending (dpa n : Nat) (s : State) : (freshCodewords dpa n s).pending = s.pending := by
  obtain ⟨m, hm⟩ := freshCodewords_changes_mem dpa n s
  rw [hm]

theorem setCells_pending (dpa : Nat) (l : List (Byte × Nat)) (s : State) :
    (l.foldl (fun x e => setCell (dpa + e.2) e.1 x) s).pending = s.pending := by
  induction l generalizing s with
  | nil => rfl
  | cons e l ih => rw [List.foldl_cons, ih, setCell_pending]

@[simp] theorem cellsWrite_pending (dpa : Nat) (bytes : List Byte) (s : State) : (cellsWrite dpa bytes s).pending = s.pending := by
  unfold cellsWrite
  rw [setCells_pending, freshCodewords_pending]

@[simp] theorem stageOpen_pending (p : Plan) (chan chunk : Nat) (s : State) : (stageOpen p chan chunk s).pending = s.pending := by
  unfold stageOpen
  split <;> simp

@[simp] theorem stageSub_pending (p : Plan) (chan chunk key : Nat) (bytes : List Byte) (s : State) : (stageSub p chan chunk key bytes s).pending = s.pending := by
  unfold stageSub
  dsimp only
  split
  · simp
  · split <;> simp

@[simp] theorem stageClose_pending (p : Plan) (v : Slot) (s : State) : (stageClose p v s).pending = s.pending :=
  by simp [stageClose]

@[simp] theorem stageErrors_pending (z : ZSource) (keys : List Nat) (s : State) : (stageErrors z keys s).pending = s.pending :=
  rfl

@[simp] theorem culvertErrors_pending (d slot : Nat) (keys : List Nat) (corrected : Nat) (s : State) : (culvertErrors d slot keys corrected s).pending = s.pending :=
  (culvertErrors_touches ..).pending rfl

@[simp] theorem countBeamSkip_pending (p : Plan) (d : Nat) (s : State) : (countBeamSkip p d s).pending = s.pending := by
  unfold countBeamSkip
  split
  · rfl
  · split
    · rfl
    · exact foldl_pending (fun _ _ => count_pending ..) _ s

@[simp] theorem ledgerDue_pending (d area epoch chan chunk : Nat) (s : State) : (ledgerDue d area epoch chan chunk s).pending = s.pending :=
  (ledgerDue_touches ..).pending rfl

@[simp] theorem dieAdvance_pending (n d : Nat) (s : State) : (dieAdvance n d s).pending = s.pending := by
  induction n generalizing s with
  | zero => rfl
  | succ n ih =>
    unfold dieAdvance
    dsimp only
    split
    · rfl
    · split
      · simp [ih]
      · split
        · simp [ih]
        · split
          · rfl
          · simp [ih]

@[simp] theorem closeSlot_pending (d i : Nat) (p : Plan) (s : State) : (closeSlot d i p s).pending = s.pending := by
  unfold closeSlot
  dsimp only
  rw [dieAdvance_pending, tapBlock_pending, stageClose_pending]
  split
  · rfl
  · split <;> rfl

@[simp] theorem dieSwitch_pending (p : Plan) (d : Nat) (s : State) : (dieSwitch p d s).pending = s.pending := by
  unfold dieSwitch
  dsimp only
  split <;> simp

@[simp] theorem admitBlock_pending (p : Plan) (b d : Nat) (s : State) : (admitBlock p b d s).2.pending = s.pending := by
  unfold admitBlock
  dsimp only
  repeat' split
  all_goals simp

@[simp] theorem writeSub_pending (p : Plan) (d i key : Nat) (bytes : List Byte) (s : State) : (writeSub p d i key bytes s).pending = s.pending := by
  unfold writeSub
  dsimp only
  split <;> simp

@[simp] theorem closeIfFull_pending (d i : Nat) (p : Plan) (s : State) : (closeIfFull d i p s).pending = s.pending :=
  by simp [closeIfFull]

@[simp] theorem formPacket_pending (h : Head) (x : Piece) (flags : Nat) (owner : Owner) (eoi : Option Nat) (chainEnd : Option Nat) (s : State) : (formPacket h x flags owner eoi chainEnd s).pending = s.pending :=
  (formPacket_touches ..).pending rfl

@[simp] theorem formPieces_pending (u : EUnit) (l : List Piece) (s : State) : (formPieces u l s).pending = s.pending :=
  (formPieces_touches ..).pending rfl

@[simp] theorem unitReady_pending (u : EUnit) (s : State) : (unitReady u s).pending = s.pending :=
  (unitReady_touches ..).pending rfl

@[simp] theorem freeBeam_pending (buf : Nat) (s : State) : (freeBeam buf s).pending = s.pending := rfl

@[simp] theorem freeOwner_pending (o : Owner) (s : State) : (freeOwner o s).pending = s.pending :=
  (freeOwner_touches ..).pending rfl

@[simp] theorem countHold_pending (s : State) (c : Nat) : (countHold s c).pending = s.pending :=
  (countHold_touches ..).pending rfl

@[simp] theorem countHolds_pending (s : State) : (countHolds s).pending = s.pending := by simp [countHolds]

@[simp] theorem sendCopy_pending (pk : Packet) (port : Nat) (s : State) : (sendCopy pk port s).pending = s.pending :=
  by simp [sendCopy]

@[simp] theorem freeIdleChains_pending (s : State) : (freeIdleChains s).pending = s.pending := rfl

@[simp] theorem freeChain_pending (sid pos : Nat) (s : State) : (freeChain sid pos s).pending = s.pending := rfl

@[simp] theorem startDrain_pending (p : Plan) (area r integ : Nat) (s : State) : (startDrain p area r integ s).pending = s.pending :=
  rfl

@[simp] theorem dropDrain_pending (area r : Nat) (s : State) : (dropDrain area r s).pending = s.pending :=
  (dropDrain_touches ..).pending rfl

@[simp] theorem drainFinished_pending (dr : Drain) (s : State) : (drainFinished dr s).pending = s.pending :=
  by simp [drainFinished]

@[simp] theorem setAccount_pending (p : Plan) (area chan : Nat) (a : Account) (s : State) : (setAccount p area chan a s).pending = s.pending :=
  rfl

@[simp] theorem accountTile_pending (p : Plan) (area chan chunk n : Nat) (s : State) : (accountTile p area chan chunk n s).pending = s.pending :=
  by simp [accountTile]

@[simp] theorem beginRegion_pending (p : Plan) (area n : Nat) (s : State) : (beginRegion p area n s).pending = s.pending :=
  (beginRegion_touches ..).pending rfl

@[simp] theorem returnBerm_pending (area r : Nat) (b : Option BermEntry) (s : State) : (returnBerm area r b s).pending = s.pending :=
  (returnBerm_touches ..).pending rfl

@[simp] theorem firstTouch_pending (p : Plan) (area r chan t n : Nat) (s : State) : (firstTouch p area r chan t n s).pending = s.pending :=
  (firstTouch_touches ..).pending rfl

@[simp] theorem reportOverflow_pending (area r chan t chunk : Nat) (s : State) : (reportOverflow area r chan t chunk s).pending = s.pending :=
  by simp [reportOverflow]

@[simp] theorem tileOrderErr_pending (keeper : Nat) (s : State) : (tileOrderErr keeper s).pending = s.pending :=
  by simp [tileOrderErr]

@[simp] theorem dropChunk_pending (p : Plan) (area chan t chunk : Nat) (s : State) : (dropChunk p area chan t chunk s).pending = s.pending :=
  by simp [dropChunk]

theorem takeBerm_pending {p : Plan} {area r key : Nat} {s x : State} (h : takeBerm p area r key s = some x) :
    x.pending = s.pending := by
  unfold takeBerm at h
  dsimp only at h
  split at h
  · rw [Option.some.inj h]
  · obtain ⟨i, -, rfl⟩ := Option.map_eq_some_iff.1 h
    rfl

@[simp] theorem reportBermFull_pending (area r t : Nat) (s : State) : (reportBermFull area r t s).pending = s.pending :=
  by simp [reportBermFull]

@[simp] theorem applyPromote_pending (p : Plan) (g : Staged) (s : State) : (applyPromote p g s).pending = s.pending := by
  unfold applyPromote
  extract_lets n r t key f bad first s1
  have hs1 : s1.pending = s.pending := by simp [s1]
  split
  · simp
  · next s2 htaken =>
    have hs2 : s2.pending = s.pending := by
      split at htaken
      · exact (takeBerm_pending htaken).trans hs1
      · exact (Option.some.inj htaken ▸ rfl : s2.pending = s1.pending).trans hs1
    simp [hs2]

@[simp] theorem sealRegion_pending (p : Plan) (area n : Nat) (s : State) : (sealRegion p area n s).pending = s.pending :=
  by simp [sealRegion]

@[simp] theorem sealIfDone_pending (p : Plan) (area n : Nat) (s : State) : (sealIfDone p area n s).pending = s.pending :=
  by simp [sealIfDone]

@[simp] theorem touchRegion_pending (p : Plan) (area n : Nat) (s : State) : (touchRegion p area n s).pending = s.pending :=
  by simp [touchRegion]

@[simp] theorem countOp_pending (c : Ctr) (p : Plan) (o : TileOp) (s : State) : (countOp c p o s).pending = s.pending :=
  (countOp_touches ..).pending rfl

@[simp] theorem tileRead_pending (o : TileOp) (s : State) : (tileRead o s).2.2.pending = s.pending :=
  (tileRead_touches ..).pending rfl

@[simp] theorem tileStatus_pending (o : TileOp) (s : State) : (tileStatus o s).2.2.pending = s.pending :=
  (tileStatus_touches ..).pending rfl

@[simp] theorem tileWrite_pending (o : TileOp) (data : List Byte) (s : State) : (tileWrite o data s).2.pending = s.pending :=
  (tileWrite_touches ..).pending rfl

@[simp] theorem tileReset_pending (o : TileOp) (s : State) : (tileReset o s).2.pending = s.pending := by
  unfold tileReset
  dsimp only
  repeat' split
  all_goals simp

@[simp] theorem poisonTile_pending (p : Plan) (area r chan t : Nat) (elems : List Nat) (s : State) : (poisonTile p area r chan t elems s).pending = s.pending :=
  by simp [poisonTile]

@[simp] theorem tileDone_pending (d slot : Nat) (s : State) : (tileDone d slot s).pending = s.pending :=
  (tileDone_touches ..).pending rfl

@[simp] theorem setMon_pending (r : Nat) (m : MonState) (s : State) : (setMon r m s).pending = s.pending :=
  (setMon_touches ..).pending rfl

@[simp] theorem refreshRef_pending (r cause : Nat) (s0 : State) : (refreshRef r cause s0).pending = s0.pending :=
  (refreshRef_touches ..).pending rfl

@[simp] theorem turnTo_pending (target : Option Nat) (cause : Nat) (s : State) : (turnTo target cause s).pending = s.pending :=
  (turnTo_touches ..).pending rfl

@[simp] theorem evaluate_pending (s0 : State) : (evaluate s0).pending = s0.pending := (evaluate_touches ..).pending rfl

@[simp] theorem maybeSlew_pending (s : State) : (maybeSlew s).pending = s.pending := (maybeSlew_touches ..).pending rfl

@[simp] theorem commitSwitch_pending (c : Nat) (offset : Int) (s : State) : (commitSwitch c offset s).pending = s.pending :=
  by simp [commitSwitch]

@[simp] theorem sendReply_pending (k seq typ code : Nat) (body : List Byte) (s : State) : (sendReply k seq typ code body s).pending = s.pending :=
  (Touches.sendReply ..).pending rfl

@[simp] theorem recordOnly_pending (k seq typ code : Nat) (s : State) : (recordOnly k seq typ code s).pending = s.pending :=
  rfl

@[simp] theorem replay_pending (k seq typ : Nat) (s : State) : (replay k seq typ s).pending = s.pending :=
  by simp [replay]

@[simp] theorem bindEnd_pending (d : Dgram) (s : State) : (bindEnd d s).pending = s.pending := rfl

@[simp] theorem complete_pending (why : Why) (unit code : Nat) (body : List Byte) (s : State) : (complete why unit code body s).pending = s.pending :=
  (Touches.complete ..).pending rfl

@[simp] theorem readmit_pending (s : State) : (readmit s).pending = s.pending := (readmit_touches ..).pending rfl

@[simp] theorem raiseCapacity_pending (unit st : Nat) (ring : Option Nat) (s : State) : (raiseCapacity unit st ring s).pending = s.pending :=
  (raiseCapacity_touches ..).pending rfl

@[simp] theorem capacityChanged_pending (unit st : Nat) (ring : Option Nat) (s : State) : (capacityChanged unit st ring s).pending = s.pending :=
  (capacityChanged_touches ..).pending rfl

@[simp] theorem endHold_pending (e : Nat) (s : State) : (endHold e s).pending = s.pending :=
  (endHold_touches ..).pending rfl

@[simp] theorem ingressDown_pending (ports : List Nat) (s : State) : (ingressDown ports s).pending = s.pending :=
  (ingressDown_touches ..).pending rfl

@[simp] theorem setHostLink_pending (port : Nat) (up : Bool) (s : State) : (setHostLink port up s).pending = s.pending :=
  (setHostLink_touches ..).pending rfl

@[simp] theorem unitLost_pending (pd : Nat) (s : State) : (unitLost pd s).pending = s.pending :=
  (unitLost_touches ..).pending rfl

@[simp] theorem switchOff_pending (pd : Nat) (s : State) : (switchOff pd s).pending = s.pending :=
  (switchOff_touches ..).pending rfl

@[simp] theorem switchOn_pending (pd : Nat) (s : State) : (switchOn pd s).pending = s.pending := by simp [switchOn]

@[simp] theorem domainReady_pending (pd : Nat) (s : State) : (domainReady pd s).pending = s.pending :=
  (domainReady_touches ..).pending rfl

@[simp] theorem trimDomains_pending (s : State) : (trimDomains s).pending = s.pending := by
  unfold trimDomains
  split
  · rfl
  · extract_lets keep s1
    have hs1 : s1.pending = s.pending := foldl_pending (fun x pd => by
      split
      · rfl
      · split <;> simp) _ s
    simpa using hs1

@[simp] theorem fireStop_pending (f : Fs) (s : State) : (fireStop f s).pending = s.pending :=
  (fireStop_touches ..).pending rfl

@[simp] theorem stopDie_pending (d : Nat) (s : State) : (stopDie d s).pending = s.pending :=
  (stopDie_touches ..).pending rfl

@[simp] theorem ringLost_pending (ring : Nat) (s : State) : (ringLost ring s).pending = s.pending :=
  (ringLost_touches ..).pending rfl

@[simp] theorem retireRing_pending (ring : Nat) (s : State) : (retireRing ring s).pending = s.pending :=
  (retireRing_touches ..).pending rfl

@[simp] theorem engineOut_pending (e : Nat) (s : State) : (engineOut e s).pending = s.pending := by simp [engineOut]

@[simp] theorem zoomStop_pending (s : State) : (zoomStop s).pending = s.pending := by simp [zoomStop]

@[simp] theorem decompStop_pending (s : State) : (decompStop s).pending = s.pending := by simp [decompStop]

@[simp] theorem ingressEngineStop_pending (g : Nat) (s : State) : (ingressEngineStop g s).pending = s.pending :=
  by simp [ingressEngineStop]

@[simp] theorem dropReinit_pending (pd : Nat) (s : State) : (dropReinit pd s).pending = s.pending :=
  (dropReinit_touches ..).pending rfl

@[simp] theorem domainTrip_pending (pd : Nat) (s : State) : (domainTrip pd s).pending = s.pending :=
  by simp [domainTrip]

@[simp] theorem functionBack_pending (fn inst : Nat) (s : State) : (functionBack fn inst s).pending = s.pending :=
  by simp [functionBack]

@[simp] theorem finishReinit_pending (pd : Nat) (s : State) : (finishReinit pd s).pending = s.pending := by
  unfold finishReinit
  dsimp only
  split
  · simp
  · split <;> simp

@[simp] theorem placeRegions_pending (kinds : List Nat) (p : Plan) (s : State) : (placeRegions kinds p s).pending = s.pending :=
  rfl

@[simp] theorem placeReserve_pending (s : State) : (placeReserve s).pending = s.pending :=
  (placeReserve_touches ..).pending rfl

@[simp] theorem checkRecords_pending (s : State) : (checkRecords s).pending = s.pending :=
  (checkRecords_touches ..).pending rfl

@[simp] theorem freePlaces_pending (s : State) : (freePlaces s).pending = s.pending := by
  unfold freePlaces
  split <;> simp

@[simp] theorem gateLeave_pending (tide : Nat) (s : State) (o : Nat) : (gateLeave tide s o).pending = s.pending :=
  (gateLeave_touches ..).pending rfl

@[simp] theorem formEvents_pending (s : State) : (formEvents s).pending = s.pending :=
  (formEvents_touches ..).pending rfl

@[simp] theorem takeAvgs_pending (l : List Avg) (s : State) : (takeAvgs l s).pending = s.pending :=
  (takeAvgs_touches ..).pending rfl

@[simp] theorem beamsGoOn_pending (s : State) : (beamsGoOn s).pending = s.pending := (beamsGoOn_touches ..).pending rfl

@[simp] theorem restartDets_pending (w at_ : Nat) (keep : Nat → Bool) (s : State) : (restartDets w at_ keep s).pending = s.pending :=
  (restartDets_touches ..).pending rfl

@[simp] theorem mapRun_pending (d slot : Nat) (f : Running → Running) (s : State) : (mapRun d slot f s).pending = s.pending :=
  (mapRun_touches ..).pending rfl

@[simp] theorem weirPump_pending (s : State) : (weirPump s).pending = s.pending := (weirPump_touches ..).pending rfl

@[simp] theorem startBlock_pending (p : Plan) (d i : Nat) (reads : List CulvertIn) (s : State) :
    (startBlock p d i reads s).pending = s.pending := by
  unfold startBlock
  extract_lets x v isZoom tiles weirs run s1 s2 s3
  have hs2 : s2.pending = s.pending := foldl_pending (fun _ _ => setPolder_pending ..) tiles s1
  simpa [s3] using hs2

@[simp] theorem collectorHold_pending (d : Nat) (s : State) : (collectorHold d s).pending = s.pending := by
  unfold collectorHold
  dsimp only
  split <;> simp

@[simp] theorem fillActive_pending (n : Nat) (j : TileJob) (p : Plan) (faults : List (Nat × Int × Int)) (s : State) : (fillActive n j p faults s).pending = s.pending :=
  rfl

@[simp] theorem exchange_pending (n : Nat) (s : State) : (exchange n s).pending = s.pending := by
  unfold exchange
  dsimp only
  split <;> simp

@[simp] theorem holdSwap_pending (n : Nat) (s : State) : (holdSwap n s).pending = s.pending := rfl

@[simp] theorem swap_pending (n : Nat) (bad : List Nat) (corrected : Nat) (faults : List (Nat × Int × Int)) (s : State) : (swap n bad corrected faults s).pending = s.pending := by
  unfold swap
  dsimp only
  split
  · simp
  · split <;> simp

@[simp] theorem testDue_pending (n : Nat) (s : State) : (testDue n s).pending = s.pending := by simp [testDue]

@[simp] theorem mirrorCheck_pending (n : Nat) (h : Shadow) (s : State) : (mirrorCheck n h s).pending = s.pending := by
  unfold mirrorCheck
  dsimp only
  split
  · simp
  · split <;> simp

@[simp] theorem takeSet_pending (d n : Nat) (h : Shadow) (s : State) : (takeSet d n h s).pending = s.pending :=
  by simp [takeSet]

@[simp] theorem reportRows_pending (n : Nat) (l : List Nat) (used : Nat) (s : State) :
    (reportRows n l used s).pending = s.pending := (reportRows_touches ..).pending rfl

@[simp] theorem rowTest_pending (n : Nat) (fails : List Nat) (s : State) : (rowTest n fails s).pending = s.pending :=
  (rowTest_touches ..).pending rfl

@[simp] theorem ringShort_pending (ring : Nat) (s : State) : (ringShort ring s).pending = s.pending :=
  (ringShort_touches ..).pending rfl

@[simp] theorem paceReadmit_pending (ring pace : Nat) (s : State) : (paceReadmit ring pace s).pending = s.pending :=
  (paceReadmit_touches ..).pending rfl

@[simp] theorem retirePolder_pending (n : Nat) (s : State) : (retirePolder n s).pending = s.pending :=
  (retirePolder_touches ..).pending rfl

@[simp] theorem spareTested_pending (n : Nat) (fails : List Nat) (s : State) : (spareTested n fails s).pending = s.pending := by
  unfold spareTested
  extract_lets ring new x c s1 old src s2 s3
  have hs2 : s2.pending = s.pending := by simp [s2, s1]
  simp [s3, hs2]

@[simp] theorem applyChange_pending (n : Nat) (s : State) : (applyChange n s).pending = s.pending :=
  (applyChange_touches ..).pending rfl

@[simp] theorem commitBanks_pending (p : Plan) (s : State) : (commitBanks p s).pending = s.pending :=
  by simp [commitBanks]

@[simp] theorem commitOwners_pending (p : Plan) (s : State) : (commitOwners p s).pending = s.pending :=
  by simp [commitOwners]

@[simp] theorem commitStats_pending (p : Plan) (s : State) : (commitStats p s).pending = s.pending := rfl

@[simp] theorem discardRegion_pending (old : Plan) (area sc : Nat) (s : State) : (discardRegion old area sc s).pending = s.pending :=
  by simp [discardRegion]

@[simp] theorem modeChanges_pending (old : Option Plan) (p : Plan) (s : State) : (modeChanges old p s).pending = s.pending :=
  by simp [modeChanges]

@[simp] theorem linkWaits_pending (old : Option Plan) (p : Plan) (s : State) : (linkWaits old p s).pending = s.pending :=
  by simp [linkWaits]

@[simp] theorem takeForce_pending (p : Plan) (s : State) : (takeForce p s).pending = s.pending := rfl

@[simp] theorem pruneOld_pending (s : State) : (pruneOld s).pending = s.pending := rfl

@[simp] theorem commitGate_pending (p : Plan) (s : State) (n : Nat) : (commitGate p s n).pending = s.pending :=
  by simp [commitGate]

@[simp] theorem restartEpochs_pending (old : Option Plan) (p : Plan) (s : State) : (restartEpochs old p s).pending = s.pending :=
  by simp [restartEpochs]

@[simp] theorem readOp_pending (keeper : Nat) (stale : Bool) (s : State) : (readOp keeper stale s).pending = s.pending :=
  by simp [readOp]

@[simp] theorem snapCopy_pending (p : Plan) (chan k : Nat) (x : Snapshot) (s : State) : (snapCopy p chan k x s).pending = s.pending :=
  by simp [snapCopy]

@[simp] theorem latePromotion_pending (p : Plan) (d : Nat) (g : Staged) (s : State) : (latePromotion p d g s).pending = s.pending :=
  by simp [latePromotion]

@[simp] theorem goodPromotion_pending (p : Plan) (d : Nat) (g : Staged) (s : State) : (goodPromotion p d g s).pending = s.pending :=
  by simp [goodPromotion]

@[simp] theorem promote_pending (d : Nat) (g : Staged) (p : Plan) (s : State) : (promote d g p s).pending = s.pending :=
  by simp [promote]

@[simp] theorem advanceDies_pending (s : State) : (advanceDies s).pending = s.pending :=
  foldl_pending (fun _ _ => dieAdvance_pending ..) _ s

@[simp] theorem dropDue_pending (area chan chunk epoch : Nat) (s : State) : (dropDue area chan chunk epoch s).pending = s.pending :=
  rfl

@[simp] theorem ledgerOp_pending (p : Plan) (area chan chunk d : Nat) (s : State) : (ledgerOp p area chan chunk d s).pending = s.pending :=
  by simp [ledgerOp]

@[simp] theorem dropWhole_pending (p : Plan) (area chan chunk : Nat) (s : State) : (dropWhole p area chan chunk s).pending = s.pending :=
  by simp [dropWhole]

@[simp] theorem sealLate_pending (p : Plan) (area r : Nat) (s : State) : (sealLate p area r s).pending = s.pending :=
  by simp [sealLate]

@[simp] theorem itemOps_pending (p : Plan) (dr : Drain) (it : DrainItem) (s : State) : (itemOps p dr it s).pending = s.pending := by
  cases it with
  | elems chans t => exact foldl_pending (fun _ _ => readOp_pending ..) chans s
  | recs c => exact foldl_pending (fun _ _ => count_pending ..) _ s
  | defs c t => exact readOp_pending ..

@[simp] theorem setDrain_pending (dr : Drain) (s : State) : (setDrain dr s).pending = s.pending := rfl

@[simp] theorem drainedIfRead_pending (dr : Drain) (s : State) : (drainedIfRead dr s).pending = s.pending :=
  by simp [drainedIfRead]

@[simp] theorem drainTake_pending (p : Plan) (dr : Drain) (x : DrainStream) (it : DrainItem) (rest : List DrainItem) (s : State) : (drainTake p dr x it rest s).pending = s.pending := by
  unfold drainTake
  dsimp only
  split <;> simp

@[simp] theorem drainStep_pending (status : Bool) (area sid : Nat) (s : State) : (drainStep status area sid s).pending = s.pending := by
  unfold drainStep
  repeat' split
  all_goals simp

@[simp] theorem releaseRun_pending (d : Nat) (r : Running) (s : State) : (releaseRun d r s).pending = s.pending := by
  unfold releaseRun
  extract_lets x x0 x1
  simp

@[simp] theorem weirDone_pending (i : Nat) (s : State) : (weirDone i s).pending = s.pending := by
  unfold weirDone
  dsimp only
  split <;> simp

@[simp] theorem armBank_pending (i e : Nat) (s : State) : (armBank i e s).pending = s.pending := rfl

@[simp] theorem autoEpoch_pending (p : Plan) (d : Nat) (s : State) : (autoEpoch p d s).pending = s.pending := by
  unfold autoEpoch
  dsimp only
  repeat' split
  all_goals simp

@[simp] theorem drainSent_pending (pk : Packet) (s : State) : (drainSent pk s).pending = s.pending := by
  unfold drainSent
  dsimp only
  repeat' split
  all_goals simp

@[simp] theorem sendPacket_pending (pk : Packet) (s : State) : (sendPacket pk s).pending = s.pending := by
  unfold sendPacket
  split <;> simp

@[simp] theorem assignUnit_pending (j : CompJob) (s : State) : (assignUnit j s).pending = s.pending := by
  unfold assignUnit
  extract_lets sid s1
  split
  · split
    · rfl
    · exact formPieces_pending ..
  · split <;> rfl

@[simp] theorem stageBytes_pending (pos : Nat) (bytes : List Byte) (l : List ChainBuf) (s : State) : (stageBytes pos bytes l s).pending = s.pending := by
  unfold stageBytes
  split <;> simp

@[simp] theorem chainPut_pending (sid : Nat) (items : List (List Byte)) (start : Nat) (s : State) : (chainPut sid items start s).2.pending = s.pending :=
  by simp [chainPut]

@[simp] theorem formCompressed_pending (u : EUnit) (pos : Nat) (l : List Piece) (s : State) :
    (formCompressed u pos l s).pending = s.pending := by
  induction pos, l, s using formCompressed.induct u with
  | case1 => rfl
  | case2 => simp [formCompressed]
  | case3 _ _ _ _ _ ih => exact ih.trans (formPacket_pending ..)

@[simp] theorem freeIfBeam_pending (o : Owner) (s : State) : (freeIfBeam o s).pending = s.pending := by
  unfold freeIfBeam
  split <;> simp

@[simp] theorem holdComp_pending (c : Nat) (j : CompJob) (s : State) : (holdComp c j s).pending = s.pending := rfl

@[simp] theorem compDone_pending (c : Nat) (j : CompJob) (s : State) : (compDone c j s).pending = s.pending := by
  unfold compDone
  dsimp only
  split <;> simp

@[simp] theorem poisonTotals_pending (area r off : Nat) (s : State) : (poisonTotals area r off s).pending = s.pending := by
  unfold poisonTotals
  dsimp only
  repeat' split
  all_goals simp

@[simp] theorem loseRecord_pending (key : Nat) (s : State) : (loseRecord key s).pending = s.pending := rfl

@[simp] theorem mendRecords_pending (c off o other : Nat) (s : State) : (mendRecords c off o other s).pending = s.pending := by
  unfold mendRecords
  extract_lets good s1
  have hs1 : s1.pending = s.pending := setPoison_pending ..
  clear_value s1 good
  split
  · exact hs1
  · split
    · exact hs1
    · refine (foldl_pending (fun x i => by split <;> simp) _ _).trans ?_
      split
      · exact (setPoison_pending ..).trans hs1
      · exact hs1

@[simp] theorem poisonWeights_pending (off : Nat) (s : State) : (poisonWeights off s).pending = s.pending := by
  unfold poisonWeights
  dsimp only
  split
  · simp
  · split <;> simp

@[simp] theorem poisonTurn_pending (off : Nat) (s : State) : (poisonTurn off s).pending = s.pending := by
  unfold poisonTurn
  split <;> simp

@[simp] theorem poisonStaging_pending (dpa : Nat) (s : State) : (poisonStaging dpa s).pending = s.pending := by
  refine foldl_pending (fun x z => ?_) _ s
  split
  · rfl
  · simp

@[simp] theorem discardUnit_pending (stream : Nat) (hit : Packet → Bool) (s : State) : (discardUnit stream hit s).pending = s.pending := by
  unfold discardUnit
  extract_lets gone src s1 s2
  have hs2 : s2.pending = s.pending := foldl_pending (fun x k => by
    have hfreed : (match k.chainEnd with
        | some e => freeChain k.stream e (freeOwner k.owner x)
        | none => freeOwner k.owner x).pending = x.pending := by split <;> simp
    dsimp only
    split
    · exact (drainSent_pending ..).trans hfreed
    · exact hfreed) gone s1
  split
  · rfl
  · exact hs2

@[simp] theorem loseUnit_pending (off : Nat) (s : State) : (loseUnit off s).pending = s.pending := by
  unfold loseUnit
  split <;> simp

@[simp] theorem loseOwned_pending (hit : Owner → Bool) (s : State) : (loseOwned hit s).pending = s.pending := by
  unfold loseOwned
  dsimp only
  split
  · simp
  · split <;> simp

@[simp] theorem loseBeamUnit_pending (off : Nat) (s : State) : (loseBeamUnit off s).pending = s.pending := by
  unfold loseBeamUnit
  dsimp only
  repeat' split
  all_goals simp

@[simp] theorem flaggedRead_pending (port c off : Nat) (s : State) : (flaggedRead port c off s).pending = s.pending := by
  unfold flaggedRead
  dsimp only
  repeat' split
  all_goals simp

@[simp] theorem setRank_pending (k : Nat) (x : RankS) (s : State) : (setRank k x s).pending = s.pending := rfl

@[simp] theorem activate_pending (c bank row : Nat) (s : State) : (activate c bank row s).pending = s.pending :=
  by simp [activate]

@[simp] theorem accessRow_pending (port c off : Nat) (s : State) : (accessRow port c off s).pending = s.pending :=
  by simp [accessRow]

@[simp] theorem countCorr_pending (c : Nat) (s : State) : (countCorr c s).pending = s.pending := by
  unfold countCorr
  dsimp only
  split <;> simp

@[simp] theorem readOutcome_pending (c off : Nat) (e : ReadEnd) (s : State) : (readOutcome c off e s).pending = s.pending := by
  unfold readOutcome
  split <;> simp

@[simp] theorem serveRequest_pending (port c off : Nat) (kind : ReqKind) (flips : List (Fin 68 × Byte)) (inner waited : Nat) (s : State) : (serveRequest port c off kind flips inner waited s).pending = s.pending := by
  unfold serveRequest
  split <;> simp

@[simp] theorem closeRank_pending (k : Nat) (s : State) : (closeRank k s).pending = s.pending := rfl

@[simp] theorem retireChannel_pending (c : Nat) (s : State) : (retireChannel c s).pending = s.pending :=
  (retireChannel_touches ..).pending rfl

@[simp] theorem queueRetrain_pending (c : Nat) (g : Trigger) (s : State) : (queueRetrain c g s).pending = s.pending :=
  (queueRetrain_touches ..).pending rfl

@[simp] theorem changeBin_pending (k bin cause : Nat) (s : State) : (changeBin k bin cause s).pending = s.pending :=
  (changeBin_touches ..).pending rfl

@[simp] theorem beginOutage_pending (k bin : Nat) (asked : Option Nat) (s : State) : (beginOutage k bin asked s).pending = s.pending :=
  (beginOutage_touches ..).pending rfl

@[simp] theorem requestSpeed_pending (k bin : Nat) (s : State) : (requestSpeed k bin s).pending = s.pending :=
  by simp [requestSpeed]

@[simp] theorem nextGather_pending (k : Nat) (s : State) : (nextGather k s).pending = s.pending := by
  unfold nextGather
  dsimp only
  split <;> simp

@[simp] theorem endRetrain_pending (k c : Nat) (g : Trigger) (result : Nat) (s : State) : (endRetrain k c g result s).pending = s.pending :=
  (endRetrain_touches ..).pending rfl

@[simp] theorem takeHeld_pending (k : Nat) (s : State) : (takeHeld k s).pending = s.pending := by
  unfold takeHeld
  dsimp only
  split <;> simp

@[simp] theorem endOutage_pending (k : Nat) (o : Outage) (s : State) : (endOutage k o s).pending = s.pending := by
  have honline (l : List Nat) (y : StackS) (x : State) : (l.foldl (fun x c =>
      setChan c { chan c x with state := .online, tempAt := y.temp, trainedAt := x.time.now } x) x).pending = x.pending :=
    foldl_pending (fun _ _ => setChan_pending ..) l x
  unfold endOutage
  dsimp only
  rw [takeHeld_pending]
  refine (foldl_pending (fun _ _ => complete_pending ..) _ _).trans ?_
  split
  · exact honline ..
  · exact (complete_pending ..).trans (honline ..)

@[simp] theorem tryBin_pending (k : Nat) (o : Outage) (bin cause : Nat) (s : State) : (tryBin k o bin cause s).pending = s.pending :=
  by simp [tryBin]

@[simp] theorem attemptDone_pending (k : Nat) (o : Outage) (fails : List Nat) (s : State) : (attemptDone k o fails s).pending = s.pending := by
  unfold attemptDone
  split <;> simp

@[simp] theorem shiftGranted_pending (k span : Nat) (s : State) : (shiftGranted k span s).pending = s.pending := rfl

@[simp] theorem startWin_pending (p : Plan) (w at_ : Nat) (s : State) : (startWin p w at_ s).pending = s.pending :=
  by simp [startWin]

@[simp] theorem winPlan_pending (w : Nat) (s : State) : (winPlan w s).2.pending = s.pending := by
  unfold winPlan
  dsimp only
  repeat' split
  all_goals simp

@[simp] theorem zoomComplete_pending (p : Plan) (w k : Nat) (subs : Sparse (List Byte)) (s : State) : (zoomComplete p w k subs s).pending = s.pending :=
  by simp [zoomComplete]

@[simp] theorem zoomChunks_pending (p : Plan) (w n : Nat) (s : State) : (zoomChunks p w n s).pending = s.pending := by
  induction n generalizing s with
  | zero => rfl
  | succ n ih =>
    unfold zoomChunks
    dsimp only
    split
    · rfl
    · simp [ih]

@[simp] theorem streamWin_pending (p : Plan) (w lo hi : Nat) (sub : Nat → Option (List Byte)) (s : State) : (streamWin p w lo hi sub s).1.pending = s.pending :=
  rfl

@[simp] theorem sourceWins_pending (chan : Nat) (s : State) : (sourceWins chan s).2.pending = s.pending := by
  unfold sourceWins
  refine List.foldlRecOn (motive := fun acc : List (Nat × Plan) × State => acc.2.pending = s.pending) _ _ rfl fun acc hacc w _ => ?_
  have hplan : (winPlan w acc.2).2.pending = s.pending := (winPlan_pending w acc.2).trans hacc
  dsimp only
  split
  · split <;> exact hplan
  · exact hplan

@[simp] theorem dropSources_pending (s : State) : (dropSources s).pending = s.pending := rfl

/-- The windows of a source worked on one after another. -/
theorem streamed_pending {hi : Nat} {p0 : Plan} {z : ZSource} {s1 : State} (l : List (Nat × Plan)) (acc : State × List Avg) :
    (l.foldl (fun (acc : State × List Avg) v =>
      let x := win v.1 acc.1
      let top := min hi v.2.s
      if top ≤ x.pos then acc
      else
        let q := streamWin v.2 v.1 x.pos top (stagedSub p0 z s1) acc.1
        (q.1, acc.2 ++ q.2)) acc).1.pending = acc.1.pending := by
  refine List.foldlRecOn (motive := fun r : State × List Avg => r.1.pending = acc.1.pending) _ _ rfl fun r hr v _ => ?_
  dsimp only
  split
  · exact hr
  · exact (streamWin_pending ..).trans hr

@[simp] theorem zoomProcess_pending (chan hi : Nat) (bad : List Nat) (s : State) : (zoomProcess chan hi bad s).pending = s.pending := by
  have hsource := sourceWins_pending chan s
  unfold zoomProcess
  generalize sourceWins chan s = got at hsource ⊢
  dsimp only
  split
  · exact hsource
  · split
    · exact hsource
    · rw [dropSources_pending]
      refine (foldl_pending (fun _ _ => zoomChunks_pending ..) _ _).trans ?_
      rw [takeAvgs_pending, streamed_pending, stageErrors_pending, hsource]

@[simp] theorem zoomDeliver_pending (w : Nat) (s : State) : (zoomDeliver w s).pending = s.pending := by
  unfold zoomDeliver
  dsimp only
  split
  · simp
  · split <;> simp

@[simp] theorem setPend_pending (i : Item) (inst elem v : Nat) (s : State) : (setPend i inst elem v s).pending = s.pending :=
  rfl

@[simp] theorem takeImmediate_pending (i : Item) (inst elem v : Nat) (s : State) : (takeImmediate i inst elem v s).pending = s.pending :=
  by simp [takeImmediate]

@[simp] theorem takeBoundary_pending (i : Item) (inst : Nat) (s : State) : (takeBoundary i inst s).pending = s.pending :=
  (foldl_pending (fun _ _ => setPar_pending ..) _ _ :)

@[simp] theorem applyElem_pending (i : Item) (inst elem v : Nat) (s : State) : (applyElem i inst elem v s).pending = s.pending :=
  by simp [applyElem]

@[simp] theorem applyInst_pending (x : Named) (inst first : Nat) (l : List Nat) (s : State) :
    (applyInst x inst first l s).pending = s.pending := by
  cases x with
  | item i =>
    exact List.foldlRecOn (motive := fun a : Nat × State => a.2.pending = s.pending) l _ rfl
      fun a ha v _ => (applyElem_pending ..).trans ha
  | ctr c => simp [applyInst]
  | ev code => simp [applyInst]
  | cat g => rfl

@[simp] theorem applyEntry_pending (s : State) (e : SetEntry) : (applyEntry s e).pending = s.pending := by
  unfold applyEntry
  split <;> simp

@[simp] theorem issue_pending (n : Nat) (c : Core) (b : Bundle) (m : MemDo) (s : State) : (issue n c b m s).pending = s.pending := by
  unfold issue
  repeat' split
  all_goals simp

@[simp] theorem countEcc_pending (e : Ecc) (n : Nat) (s : State) : (countEcc e n s).pending = s.pending :=
  by simp [countEcc]

@[simp] theorem runBundle_pending (row : Nat × Nat) (n : Nat) (ecc : Ecc) (s : State) : (runBundle row n ecc s).pending = s.pending := by
  unfold runBundle
  dsimp only
  repeat' split
  all_goals simp

@[simp] theorem enterHandler_pending (n waited : Nat) (s : State) : (enterHandler n waited s).pending = s.pending :=
  by simp [enterHandler]

@[simp] theorem reloadStock_pending (n : Nat) (s : State) : (reloadStock n s).pending = s.pending :=
  by simp [reloadStock]

@[simp] theorem pokeItem_pending (i : Item) (inst elem v : Nat) (s : State) : (pokeItem i inst elem v s).pending = s.pending :=
  by simp [pokeItem]

@[simp] theorem restoreJournal_pending (s : State) : (restoreJournal s).pending = s.pending :=
  (restoreJournal_touches ..).pending rfl

@[simp] theorem ctrFresh_pending (c : Ctr) (s : State) : (ctrFresh c s).pending = s.pending := by simp [ctrFresh]

@[simp] theorem Reg.write_pending (r : Reg) (v : Nat) (s : State) : (Reg.write r v s).pending = s.pending := by
  unfold Reg.write
  split <;> simp

@[simp] theorem setWindow_pending (a : Nat) (l : List Byte) (m : Nat) (s : State) : (setWindow a l m s).pending = s.pending :=
  rfl

@[simp] theorem semRead_pending (k : Nat) (s : State) : (semRead k s).2.pending = s.pending := rfl

@[simp] theorem semGive_pending (k v : Nat) (s : State) : (semGive k v s).pending = s.pending := by simp [semGive]

@[simp] theorem decodeError_pending (m a : Nat) (s : State) : (decodeError m a s).pending = s.pending :=
  by simp [decodeError]

@[simp] theorem pieceRead_pending (m a len : Nat) (bad : List Nat) (corrected : Nat) (s : State) :
    (pieceRead m a len bad corrected s).2.2.pending = s.pending :=
  RegAside.pending.toPieceAside.pieceRead (fun _ => RegAside.pending.regRead) len bad corrected s

@[simp] theorem pieceWrite_pending (m a : Nat) (data : List (Nat × Byte)) (s : State) :
    (pieceWrite m a data s).2.pending = s.pending :=
  RegAside.pending.toPieceAside.pieceWrite (fun _ => RegAside.pending.regWrite) data s

@[simp] theorem pieceSilent_pending (m n : Nat) (s : State) : (pieceSilent m n s).pending = s.pending :=
  (pieceSilent_touches ..).pending rfl

@[simp] theorem rangeRead_pending (m a len : Nat) (r : MoveIn) (s : State) : (rangeRead m a len r s).2.2.pending = s.pending := by
  refine List.foldlRecOn (motive := fun acc : List Byte × CanalStatus × State => acc.2.2.pending = s.pending) _ _ rfl
    fun acc hacc p _ => ?_
  dsimp only
  split <;> simpa using hacc

@[simp] theorem rangeWrite_pending (m a : Nat) (bytes : List Byte) (r : MoveIn) (s : State) :
    (rangeWrite m a bytes r s).2.pending = s.pending := by
  refine List.foldlRecOn (motive := fun acc : CanalStatus × State => acc.2.pending = s.pending) _ _ rfl fun acc hacc p _ => ?_
  dsimp only
  split <;> simpa using hacc

@[simp] theorem setBulk_pending (x : Bulk) (s : State) : (setBulk x s).pending = s.pending :=
  (setBulk_touches ..).pending rfl

@[simp] theorem completeSeq_pending (slot seq code : Nat) (body : List Byte) (s : State) : (completeSeq slot seq code body s).pending = s.pending :=
  (completeSeq_touches ..).pending rfl

@[simp] theorem endBulk_pending (slot id : Nat) (st : BulkState) (s : State) : (endBulk slot id st s).pending = s.pending :=
  (endBulk_touches ..).pending rfl

@[simp] theorem countBulk_pending (out : Bool) (slot id n : Nat) (s : State) : (countBulk out slot id n s).pending = s.pending :=
  (countBulk_touches ..).pending rfl

@[simp] theorem writeRanges_pending (before now : List (Nat × Nat)) (data : Memory) (l : List (Nat × Nat × TileOp)) (n : Nat)
    (s : State) : (writeRanges before now data l n s).2.2.pending = s.pending := (writeRanges_touches ..).pending rfl

@[simp] theorem writeRun_pending (m target inst at_ : Nat) (bytes : List Byte) (s : State) : (writeRun m target inst at_ bytes s).2.pending = s.pending := by
  unfold writeRun
  dsimp only
  repeat' split
  all_goals simp

@[simp] theorem writeRuns_pending (b : Bulk) (lo : Nat) (bytes : List Byte) (runs : List (Nat × Nat)) (n : Nat) (s : State) :
    (writeRuns b lo bytes runs n s).2.2.pending = s.pending := (writeRuns_touches ..).pending rfl

@[simp] theorem bulkArrive_pending (b : Bulk) (lo : Nat) (bytes : List Byte) (s : State) : (bulkArrive b lo bytes s).pending = s.pending := by
  unfold bulkArrive
  extract_lets hi fresh now keep data s1
  have hrest (got : Nat × Bool × State) (hgot : got.2.2.pending = s.pending) :
      (if got.2.1 = true then countBulk false b.slot b.id got.1 got.2.2
        else endBulk b.slot b.id .destRefused (countBulk false b.slot b.id got.1 got.2.2)).pending = s.pending := by
    simpa using hgot
  have hchoice {p : Prop} [Decidable p] {a b : Nat × Bool × State} (ha : a.2.2.pending = s.pending)
      (hb : b.2.2.pending = s.pending) : (if p then a else b).2.2.pending = s.pending := by split <;> assumption
  refine hrest _ (hchoice rfl (hchoice ?_ (writeRuns_pending ..)))
  split
  · exact writeRanges_pending ..
  · rfl

@[simp] theorem bulkRead_pending (b : Bulk) (lo hi : Nat) (s : State) : (bulkRead b lo hi s).2.2.pending = s.pending :=
  (bulkRead_touches ..).pending rfl

@[simp] theorem sendBulk_pending (b : Bulk) (off : Nat) (l : List Byte) (s : State) : (sendBulk b off l s).pending = s.pending :=
  (sendBulk_touches ..).pending rfl

@[simp] theorem bulkSend_pending (b : Bulk) (lo hi : Nat) (s : State) : (bulkSend b lo hi s).pending = s.pending :=
  by simp [bulkSend]

@[simp] theorem setJobs_pending (l : List DecompJob) (s : State) : (setJobs l s).pending = s.pending := rfl

@[simp] theorem endJob_pending (j : DecompJob) (produced result : Nat) (s : State) : (endJob j produced result s).pending = s.pending :=
  (endJob_touches ..).pending rfl

@[simp] theorem writeOutput_pending (j : DecompJob) (out : List Byte) (s : State) : (writeOutput j out s).2.2.pending = s.pending := by
  unfold writeOutput
  dsimp only
  split
  · split
    · exact writeRanges_pending ..
    · rfl
  · split <;> exact writeRun_pending ..

@[simp] theorem queueJob_pending (b : Bulk) (s : State) : (queueJob b s).pending = s.pending := by simp [queueJob]

@[simp] theorem closeIfWhole_pending (slot id : Nat) (s : State) : (closeIfWhole slot id s).pending = s.pending := by
  unfold closeIfWhole
  split <;> simp

@[simp] theorem setReqs_pending (l : List CanalReq) (s : State) : (setReqs l s).pending = s.pending := rfl

@[simp] theorem canalDone_pending (x : CanalDone) (s : State) : (canalDone x s).pending = s.pending := rfl

@[simp] theorem putReq_pending (r : CanalReq) (s : State) : (putReq r s).pending = s.pending :=
  putReq_keeps RegAside.pending.toPieceAside (fun _ _ => rfl) (fun _ _ => rfl) r s

@[simp] theorem dropReq_pending (r : CanalReq) (s : State) : (dropReq r s).pending = s.pending := rfl

@[simp] theorem arbWaits_pending (s : State) : (arbWaits s).pending = s.pending := (arbWaits_touches ..).pending rfl

@[simp] theorem transferPiece_pending (r : CanalReq) (p : CanalPiece) (rest : List CanalPiece) (bad : List Nat) (corrected : Nat) (s : State) : (transferPiece r p rest bad corrected s).pending = s.pending :=
  by simp [transferPiece]

@[simp] theorem masterReset_pending (m : Nat) (s : State) : (masterReset m s).pending = s.pending :=
  (masterReset_touches ..).pending rfl

@[simp] theorem regDone_pending (m : Nat) (value : Nat) (s : State) : (regDone m value s).pending = s.pending := rfl

@[simp] theorem completeSlot_pending (a : Nat) (e : TileEnd) (o : TileOp) (s : State) : (completeSlot a e o s).pending = s.pending :=
  rfl

@[simp] theorem runSlot_pending (a op : Nat) (s : State) : (runSlot a op s).pending = s.pending := by
  unfold runSlot
  dsimp only
  repeat' split
  all_goals simp

@[simp] theorem moverEcc_pending (n : Nat) (e : Ecc) (s : State) : (moverEcc n e s).pending = s.pending := by
  unfold moverEcc
  split <;> simp

@[simp] theorem moveDesc_pending (cl n : Nat) (d : List Byte) (r : MoveIn) (s : State) : (moveDesc cl n d r s).2.pending = s.pending := by
  unfold moveDesc
  dsimp only
  split
  · simp
  · split <;> simp

@[simp] theorem closeSession_pending (k cause : Nat) (s : State) : (closeSession k cause s).pending = s.pending :=
  (closeSession_touches ..).pending rfl

@[simp] theorem closeAll_pending (cause : Nat) (s : State) : (closeAll cause s).pending = s.pending :=
  (closeAll_touches ..).pending rfl

@[simp] theorem openSession_pending (d : Dgram) (s : State) : (openSession d s).pending = s.pending :=
  by simp [openSession]

@[simp] theorem standbyLost_pending (s : State) : (standbyLost s).pending = s.pending := by simp [standbyLost]

@[simp] theorem countHeld_pending (l : List Dgram) (held : Nat) (s : State) : (countHeld l held s).pending = s.pending :=
  (countHeld_touches ..).pending rfl

@[simp] theorem withdrawCommit_pending (s : State) : (withdrawCommit s).2.pending = s.pending :=
  (withdrawCommit_touches ..).pending rfl

@[simp] theorem raiseTakeover_pending (failed withdrawn : Nat) (loss : List (Nat × List Nat)) (s : State) : (raiseTakeover failed withdrawn loss s).pending = s.pending :=
  (raiseTakeover_touches ..).pending rfl

@[simp] theorem takeOver_pending (held : List Dgram) (s : State) : (takeOver held s).pending = s.pending := by
  unfold takeOver
  extract_lets failed opens loss ids s1 src s1r s2 s3
  have hs3 : s3.pending = s.pending := by
    refine (foldl_pending (fun _ _ => setSession_pending ..) _ s2).trans ?_
    simp [s2, s1r, s1]
  dsimp only
  rw [raiseTakeover_pending]
  refine (foldl_pending (fun _ _ => endBulk_pending ..) _ _).trans ?_
  rw [withdrawCommit_pending]
  exact hs3

@[simp] theorem quietEnds_pending (c : Nat) (s : State) : (quietEnds c s).pending = s.pending := by simp [quietEnds]

theorem takeGauge_eq (n k : Nat) (m : Int) (s : State) :
    ∃ g, takeGauge n k m s = { s with fault := { s.fault with gauges := g } } := ⟨_, rfl⟩

@[simp] theorem takeGauge_pending (n k : Nat) (m : Int) (s : State) : (takeGauge n k m s).pending = s.pending := by
  obtain ⟨g, hg⟩ := takeGauge_eq n k m s
  rw [hg]

theorem takeHub_eq (u : Nat) (m : Int) (s : State) :
    ∃ g, takeHub u m s = { s with fault := { s.fault with hubGauges := g } } := ⟨_, rfl⟩

@[simp] theorem takeHub_pending (u : Nat) (m : Int) (s : State) : (takeHub u m s).pending = s.pending := by
  obtain ⟨g, hg⟩ := takeHub_eq u m s
  rw [hg]

@[simp] theorem setStep_pending (n k : Nat) (s : State) : (setStep n k s).pending = s.pending :=
  (setStep_touches ..).pending rfl

@[simp] theorem planPolder_pending (l : PlannerIn) (n old : Nat) (s : State) : (planPolder l n old s).pending = s.pending :=
  (planPolder_touches ..).pending rfl

@[simp] theorem planAll_pending (l : PlannerIn) (ns : List Nat) (s : State) : (planAll l ns s).pending = s.pending :=
  by simp [planAll]

@[simp] theorem hubAlarm_pending (u : Nat) (m : Int) (s : State) : (hubAlarm u m s).pending = s.pending :=
  by simp [hubAlarm]

@[simp] theorem compressorOut_pending (c : Nat) (s : State) : (compressorOut c s).pending = s.pending :=
  by simp [compressorOut]

@[simp] theorem leaveCore_pending (n : Nat) (s : State) : (leaveCore n s).pending = s.pending := by simp [leaveCore]

@[simp] theorem injectUnit_pending (f : Fs) (u : Nat) (s : State) : (injectUnit f u s).pending = s.pending :=
  by simp [injectUnit]

@[simp] theorem countSource_pending (f : FFrame) (len : Nat) (s : State) : (countSource f len s).pending = s.pending := by
  unfold countSource
  dsimp only
  split
  · simp
  · split <;> simp

@[simp] theorem noteLag_pending (port : Nat) (f : FFrame) (raw : Nat) (s : State) : (noteLag port f raw s).pending = s.pending :=
  rfl

@[simp] theorem accepted_pending (port : Nat) (e : EthIn) (f : FFrame) (s : State) : (accepted port e f s).pending = s.pending :=
  by simp [accepted]

@[simp] theorem admitFrame_pending (port : Nat) (e : EthIn) (p : Plan) (f : FFrame) (s : State) :
    (admitFrame port e p f s).pending = s.pending := by
  unfold admitFrame
  extract_lets b d
  have hadmit := admitBlock_pending p b d s
  split
  · next heq => rw [heq] at hadmit; exact hadmit
  · next heq => rw [heq] at hadmit; exact hadmit
  · next heq =>
    rw [heq] at hadmit
    dsimp only at hadmit ⊢
    split <;> simp [hadmit]

@[simp] theorem ctClose_pending (p : Plan) (chunk : Nat) (s : State) : (ctClose p chunk s).pending = s.pending := rfl

theorem ctNew_pending {p : Plan} {chunk : Nat} {s x : State} (h : ctNew p chunk s = some x) : x.pending = s.pending := by
  obtain ⟨i, -, rfl⟩ := Option.map_eq_some_iff.1 h
  rfl

@[simp] theorem ctSee_pending (p : Plan) (chunk : Nat) (s : State) : (ctSee p chunk s).pending = s.pending :=
  by simp [ctSee]

@[simp] theorem ctWrite_pending (p : Plan) (d i key : Nat) (bytes : List Byte) (s : State) : (ctWrite p d i key bytes s).pending = s.pending := by
  unfold ctWrite
  dsimp only
  repeat' split
  all_goals simp

@[simp] theorem admitTurn_pending (port : Nat) (e : EthIn) (p : Plan) (f : FFrame) (s : State) :
    (admitTurn port e p f s).pending = s.pending := by
  unfold admitTurn
  extract_lets chunk j d s0 got
  have hs0 : s0.pending = s.pending := by simp [s0]
  have hgot : ∀ i x, got = some (i, x) → x.pending = s.pending := by
    intro i x h
    unfold got at h
    split at h
    · obtain ⟨-, rfl⟩ := Prod.mk.inj (Option.some.inj h)
      exact hs0
    · obtain ⟨y, hy, h⟩ := Option.map_eq_some_iff.1 h
      obtain ⟨-, rfl⟩ := Prod.mk.inj h
      exact (ctNew_pending hy).trans hs0
  clear_value got
  split
  · rfl
  · cases got with
    | none => exact hs0
    | some q =>
      have hs1 := hgot q.1 q.2 rfl
      dsimp only
      split
      · simpa using hs1
      · split <;> simpa using hs1

@[simp] theorem setIngressLink_pending (port : Nat) (l : LinkS) (s : State) : (setIngressLink port l s).pending = s.pending :=
  rfl

@[simp] theorem discard_pending (port : Nat) (c : Ctr) (s : State) : (discard port c s).pending = s.pending := rfl

@[simp] theorem countFrame_pending (port len corr uncorr : Nat) (s : State) : (countFrame port len corr uncorr s).pending = s.pending :=
  rfl

@[simp] theorem received_pending (port : Nat) (f : EthIn) (s : State) : (received port f s).pending = s.pending := rfl

@[simp] theorem frameIn_pending (port : Nat) (f : EthIn) (s : State) : (frameIn port f s).pending = s.pending := by
  unfold frameIn
  dsimp only
  repeat' split
  all_goals simp

@[simp] theorem resolve_pending (port : Nat) (f : EthIn) (target : Option Nat) (own : Nat) (reply : List Byte) (s : State) :
    (resolve port f target own reply s).pending = s.pending := by
  unfold resolve
  extract_lets s1
  have hs1 : s1.pending = s.pending := received_pending ..
  split
  · exact (discard_pending ..).trans hs1
  · exact hs1
  · simpa using hs1

@[simp] theorem ctAdvance_pending (i : Nat) (a : CtArea) (p : Plan) (s : State) : (ctAdvance i a p s).pending = s.pending :=
  by simp [ctAdvance]

@[simp] theorem setTxPort_pending (port : Nat) (x : PtpTx) (s : State) : (setTxPort port x s).pending = s.pending :=
  (setTxPort_touches ..).pending rfl

@[simp] theorem ptpOut_pending (port : Nat) (b : List Byte) (at_ : Nat) (s : State) : (ptpOut port b at_ s).pending = s.pending :=
  rfl

@[simp] theorem countRx_pending (port : Nat) (b : List Byte) (s : State) : (countRx port b s).pending = s.pending :=
  by simp [countRx]

@[simp] theorem sendEvent_pending (port : Nat) (owner : Nat) (b : List Byte) (at_ : Nat) (s : State) : (sendEvent port owner b at_ s).pending = s.pending :=
  by simp [sendEvent]

@[simp] theorem admitRequest_pending (port : Nat) (s : State) : (admitRequest port s).2.pending = s.pending := by
  unfold admitRequest
  dsimp only
  split <;> simp

theorem withPtp_pending {port : Nat} {m : PtpIn} {f : State → State} (hf : ∀ x, (f x).pending = x.pending) (s : State) :
    (withPtp port m f s).pending = s.pending := by
  unfold withPtp
  split
  · rfl
  · split
    · rfl
    · simp [hf]

theorem ptpIn_pending {port : Nat} {m : PtpIn} {runs : State → Bool} {f : State → State} (hf : ∀ x, (f x).pending = x.pending)
    (s : State) : (ptpIn port m runs f s).pending = s.pending := by
  simp [ptpIn, withPtp_pending hf]

@[simp] theorem transmitterLoss_pending (p cause : Nat) (new : Option PtpSel) (s : State) : (transmitterLoss p cause new s).pending = s.pending :=
  by simp [transmitterLoss]

@[simp] theorem ptpUpdate_pending (p : Nat) (s : State) : (ptpUpdate p s).pending = s.pending := by simp [ptpUpdate]

@[simp] theorem takeOffset_pending (p : Nat) (s : State) : (takeOffset p s).pending = s.pending := by
  unfold takeOffset
  dsimp only
  split <;> simp

@[simp] theorem completeSync_pending (p : Nat) (t1 t2 : Nat) (corr log : Int) (s : State) : (completeSync p t1 t2 corr log s).pending = s.pending :=
  by simp [completeSync]

@[simp] theorem announceRx_pending (p : Nat) (b : List Byte) (s : State) : (announceRx p b s).pending = s.pending := by
  unfold announceRx
  dsimp only
  split
  · simp
  · split <;> simp

@[simp] theorem takeDelay_pending (p : Nat) (d : Int) (s : State) : (takeDelay p d s).pending = s.pending :=
  by simp [takeDelay]

@[simp] theorem tcForward_pending (p : Nat) (m : PtpIn) (txRaw : Nat) (s : State) : (tcForward p m txRaw s).pending = s.pending :=
  by simp [tcForward]

@[simp] theorem disagreeOne_pending (freqs : List Int) (estimate : Int) (s : State) (r : Nat) : (disagreeOne freqs estimate s r).pending = s.pending :=
  (disagreeOne_touches ..).pending rfl

@[simp] theorem takeArm_pending (n : Nat) (s : State) : (takeArm n s).pending = s.pending :=
  foldl_pending (fun _ _ => setPar_pending ..) _ s

@[simp] theorem coldState_pending (ring : Bool) (kind : Nat) (s : State) : (coldState ring kind s).pending = s.pending :=
  rfl

@[simp] theorem bootFails_pending (s : State) : (bootFails s).pending = s.pending := rfl

@[simp] theorem dropIncomplete_pending (s : State) : (dropIncomplete s).pending = s.pending :=
  (dropIncomplete_touches ..).pending rfl

@[simp] theorem startLogic_pending (kind : Nat) (b : BootIn) (s : State) : (startLogic kind b s).pending = s.pending :=
  (startLogic_touches ..).pending rfl

@[simp] theorem resetModuleId_pending (s : State) : (resetModuleId s).pending = s.pending :=
  (resetModuleId_touches ..).pending rfl

@[simp] theorem trainDram_pending (b : BootIn) (s : State) : (trainDram b s).pending = s.pending :=
  (trainDram_touches ..).pending rfl

@[simp] theorem bootMargin_pending (b : BootIn) (s : State) : (bootMargin b s).pending = s.pending :=
  (bootMargin_touches ..).pending rfl

@[simp] theorem bootLinks_pending (b : BootIn) (s : State) : (bootLinks b s).pending = s.pending :=
  (bootLinks_touches ..).pending rfl

@[simp] theorem raiseFloor_pending (s : State) : (raiseFloor s).pending = s.pending :=
  (raiseFloor_touches ..).pending rfl

@[simp] theorem reachReady_pending (fallback : Bool) (ms : Nat) (s : State) : (reachReady fallback ms s).pending = s.pending :=
  (reachReady_touches ..).pending rfl

@[simp] theorem noteImages_pending (s : State) : (noteImages s).pending = s.pending := rfl

@[simp] theorem startImage_pending (k : Nat) (fallback : Bool) (s : State) : (startImage k fallback s).pending = s.pending :=
  rfl

@[simp] theorem bootStages_pending (fallback : Bool) (b : BootIn) (s : State) : (bootStages fallback b s).pending = s.pending :=
  by simp [bootStages]

@[simp] theorem fallbackBoot_pending (b : BootIn) (s : State) : (fallbackBoot b s).pending = s.pending :=
  by simp [fallbackBoot]

@[simp] theorem coldBoot_pending (kind : Nat) (b : BootIn) (s : State) : (coldBoot kind b s).pending = s.pending :=
  by simp [coldBoot]

@[simp] theorem gatesOff_pending (s : State) : (gatesOff s).pending = s.pending := (gatesOff_touches ..).pending rfl

@[simp] theorem warmUnits_pending (s : State) : (warmUnits s).pending = s.pending := rfl

@[simp] theorem stopOver_pending (s : State) : (stopOver s).pending = s.pending := (stopOver_touches ..).pending rfl

@[simp] theorem warmReset_pending (b : BootIn) (s : State) : (warmReset b s).pending = s.pending := by simp [warmReset]

@[simp] theorem reinitDomain_pending (fn inst pd : Nat) (s : State) : (reinitDomain fn inst pd s).pending = s.pending :=
  (reinitDomain_touches ..).pending rfl

@[simp] theorem reinitDecomp_pending (s : State) : (reinitDecomp s).pending = s.pending :=
  (reinitDecomp_touches ..).pending rfl

@[simp] theorem noteReinit_pending (s : State) : (noteReinit s).pending = s.pending :=
  (noteReinit_touches ..).pending rfl

@[simp] theorem writeImage_pending (slot : Nat) (i : Image) (s : State) : (writeImage slot i s).pending = s.pending :=
  rfl

@[simp] theorem peekBeats_pending (m a len : Nat) (s : State) : (peekBeats m a len s).2.2.pending = s.pending :=
  List.foldlRecOn (motive := fun acc : List Byte × CanalStatus × State => acc.2.2.pending = s.pending) _ _ rfl
    fun _ hacc _ _ => (pieceRead_pending ..).trans hacc

@[simp] theorem pokeBeats_pending (m a : Nat) (bytes : List Byte) (s : State) : (pokeBeats m a bytes s).2.pending = s.pending :=
  List.foldlRecOn (motive := fun acc : CanalStatus × State => acc.2.pending = s.pending) _ _ rfl
    fun _ hacc _ _ => (pieceWrite_pending ..).trans hacc

@[simp] theorem feedEvent_pending (k : Nat) (s : State) : (feedEvent k s).pending = s.pending :=
  (feedEvent_touches ..).pending rfl

@[simp] theorem startStage_pending (s : State) : (startStage s).pending = s.pending := by simp [startStage]

@[simp] theorem feedLost_pending (kind : LossKind) (volt : Nat) (s : State) (k : Nat) : (feedLost kind volt s k).pending = s.pending :=
  (feedLost_touches ..).pending rfl

@[simp] theorem loseFeeds_pending (ks : List Nat) (kind : LossKind) (volt : Nat) (s : State) : (loseFeeds ks kind volt s).pending = s.pending :=
  by simp [loseFeeds]

@[simp] theorem powerDown_pending (s : State) : (powerDown s).pending = s.pending := rfl

@[simp] theorem pulseEdge_pending (n : Nat) (s : State) : (pulseEdge n s).pending = s.pending := by
  unfold pulseEdge
  dsimp only
  split <;> simp

@[simp] theorem pulseEnd_pending (n : Nat) (s : State) : (pulseEnd n s).pending = s.pending := by
  unfold pulseEnd
  dsimp only
  split <;> simp

@[simp] theorem tideMark_pending (n : Nat) (s : State) : (tideMark n s).pending = s.pending := by
  unfold tideMark
  dsimp only
  repeat' split
  all_goals simp

@[simp] theorem deliverEdges_pending (n k : Nat) (s : State) : (deliverEdges n k s).pending = s.pending := by
  induction k generalizing s with
  | zero => rfl
  | succ k ih =>
    unfold deliverEdges
    dsimp only
    split
    · rfl
    · split
      · rfl
      · simp [ih]

@[simp] theorem captureEdge_pending (n : Nat) (falling : Bool) (s : State) : (captureEdge n falling s).pending = s.pending := by
  unfold captureEdge
  extract_lets x r full s1 s2
  have hs2 : s2.pending = s.pending := by
    have hs1 : s1.pending = s.pending := by simp [s1]
    exact hs1
  split
  · rfl
  · split
    · split <;> simp [hs2]
    · simp [hs2]

@[simp] theorem readFeeds_pending (l : List (Nat × Nat)) (s : State) : (readFeeds l s).pending = s.pending := rfl

@[simp] theorem readSensors_pending (r : Sensors) (s : State) : (readSensors r s).pending = s.pending :=
  by simp [readSensors]

@[simp] theorem reportDiscards_pending (s : State) : (reportDiscards s).pending = s.pending := by simp [reportDiscards]

@[simp] theorem reportGaps_pending (s : State) : (reportGaps s).pending = s.pending := by simp [reportGaps]

@[simp] theorem reportMirrors_pending (s : State) : (reportMirrors s).pending = s.pending := by simp [reportMirrors]

@[simp] theorem reportBeams_pending (s : State) : (reportBeams s).pending = s.pending := by simp [reportBeams]

@[simp] theorem reportZoom_pending (s : State) : (reportZoom s).pending = s.pending := by simp [reportZoom]

@[simp] theorem reportThresholds_pending (s : State) : (reportThresholds s).pending = s.pending :=
  by simp [reportThresholds]

@[simp] theorem reportSpillway_pending (s0 : State) : (reportSpillway s0).pending = s0.pending :=
  by simp [reportSpillway]

@[simp] theorem reportRfi_pending (s : State) : (reportRfi s).pending = s.pending := by simp [reportRfi]

@[simp] theorem reportTxts_pending (s : State) : (reportTxts s).pending = s.pending := by simp [reportTxts]

@[simp] theorem reportPulses_pending (s : State) : (reportPulses s).pending = s.pending := by simp [reportPulses]

@[simp] theorem reportMem_pending (s : State) : (reportMem s).pending = s.pending := by simp [reportMem]

@[simp] theorem reportCanal_pending (s : State) : (reportCanal s).pending = s.pending := by simp [reportCanal]

@[simp] theorem reportAuth_pending (s : State) : (reportAuth s).pending = s.pending := by
  unfold reportAuth
  split <;> simp

@[simp] theorem reportEdges_pending (s : State) : (reportEdges s).pending = s.pending :=
  (deliverEdges_pending ..).trans (deliverEdges_pending ..)

@[simp] theorem reports_pending (s : State) : (reports s).pending = s.pending := by simp [reports]

@[simp] theorem startCore_pending (n : Nat) (s : State) : (startCore n s).pending = s.pending := by simp [startCore]

@[simp] theorem chanGains_pending (p : Plan) (area r chan : Nat) (s : State) : (chanGains p area r chan s).2.pending = s.pending :=
  rfl

@[simp] theorem solveReads_pending (p : Plan) (area r chan integ : Nat) (s : State) :
    (solveReads p area r chan integ s).2.pending = s.pending :=
  List.foldlRecOn (motive := fun acc : Nat × State => acc.2.pending = s.pending) _ _ rfl
    fun _ hacc _ _ => ((tileRead_touches ..).pending rfl).trans hacc

@[simp] theorem solveChan_pending (p : Plan) (area r integ : Nat) (acc : List Nat × State) (chan : Nat) :
    (solveChan p area r integ acc chan).2.pending = acc.2.pending := by
  unfold solveChan
  dsimp only
  split <;> simp

@[simp] theorem solveGains_pending (area r : Nat) (chans : List Nat) (s : State) : (solveGains area r chans s).2.2.pending = s.pending := by
  unfold solveGains
  split
  · rfl
  · dsimp only
    split
    · rfl
    · split
      · rfl
      · exact List.foldlRecOn (motive := fun acc : List Nat × State => acc.2.pending = s.pending) _ _ rfl
          fun _ hacc _ _ => (solveChan_pending ..).trans hacc

@[simp] theorem runSolves_pending (s : State) : (runSolves s).pending = s.pending := by simp [runSolves]

@[simp] theorem solvesDone_pending (s : State) : (solvesDone s).pending = s.pending := by simp [solvesDone]

@[simp] theorem wakeDone_pending (pd : Nat) (s : State) : (wakeDone pd s).pending = s.pending := by simp [wakeDone]

@[simp] theorem statWindow_pending (p : Plan) (i power sk : Nat) (zero : Bool) (x : StatPair) (s : State) : (statWindow p i power sk zero x s).pending = s.pending :=
  rfl

@[simp] theorem statSub_pending (p : Plan) (i : Nat) (bytes : List Byte) (s : State) : (statSub p i bytes s).pending = s.pending := by
  unfold statSub
  split <;> simp

@[simp] theorem ringRecord_pending (n : Nat) (bytes : List Byte) (s : State) : (ringRecord n bytes s).pending = s.pending :=
  by simp [ringRecord]

@[simp] theorem stockRecord_pending (n : Nat) (bytes : List Byte) (s : State) : (stockRecord n bytes s).pending = s.pending :=
  rfl

@[simp] theorem readRecord_pending (n k : Nat) (p : Plan) (v : Slot) (ts : TapSet) (full : Bool) (s : State) : (readRecord n k p v ts full s).pending = s.pending := by
  unfold readRecord
  dsimp only
  repeat' split
  all_goals simp

@[simp] theorem tapStep_pending (x : TapDue) (s : State) : (tapStep x s).pending = s.pending := rfl

@[simp] theorem tapRead_pending (n : Nat) (bad : Bool) (corrected : Nat) (full : Bool) (s : State) : (tapRead n bad corrected full s).pending = s.pending := by
  unfold tapRead
  dsimp only
  repeat' split
  all_goals simp

@[simp] theorem telemetryPacket_pending (s : State) (l : List (List Byte)) : (telemetryPacket s l).pending = s.pending :=
  rfl

end Sys2Proof.Machine
end

section
/-! The queue of the commands that wait: what the commands of a host answer, and what they do after their reply. -/

namespace Sys2Proof.Machine

/-- A command's body, and what it does after its reply, leave the queue. -/
def Res.KeepsQueue (r : Res) (s : State) : Prop := r.state.pending = s.pending ∧ ∀ x, (r.after x).pending = x.pending

section
variable (c : Ctx) (code unit : Nat) (why : Why) (b : List Byte) (s x : State)

@[simp] theorem refuse_keepsQueue : (refuse code x).KeepsQueue s ↔ x.pending = s.pending := ⟨And.left, fun h => ⟨h, fun _ => rfl⟩⟩

@[simp] theorem answer_keepsQueue : (answer code b x).KeepsQueue s ↔ x.pending = s.pending := ⟨And.left, fun h => ⟨h, fun _ => rfl⟩⟩

@[simp] theorem wait_keepsQueue : (wait c why unit x).KeepsQueue s ↔ x.pending = s.pending := ⟨And.left, fun h => ⟨h, fun _ => rfl⟩⟩

@[simp] theorem ite_keepsQueue (p : Prop) [Decidable p] (q r : Res) :
    (if p then q else r).KeepsQueue s ↔ if p then q.KeepsQueue s else r.KeepsQueue s := by split <;> rfl

end

@[simp] theorem planCheck_keepsQueue (c : Ctx) (s : State) : (planCheck c s).KeepsQueue s := by simp [planCheck]

@[simp] theorem planCommit_keepsQueue (at_ : Option Nat) (c : Ctx) (s : State) : (planCommit at_ c s).KeepsQueue s := by
  unfold planCommit
  dsimp only
  repeat' split
  all_goals simp

@[simp] theorem planCancel_keepsQueue (c : Ctx) (s : State) : (planCancel c s).KeepsQueue s := by
  unfold planCancel
  split <;> simp

@[simp] theorem capacityRecord_keepsQueue (c : Ctx) (s : State) : (capacityRecord c s).KeepsQueue s :=
  by simp [capacityRecord]

@[simp] theorem weirEpoch_keepsQueue (i e : Nat) (c : Ctx) (s : State) : (weirEpoch i e c s).KeepsQueue s := by
  unfold weirEpoch
  split <;> simp

@[simp] theorem weirCancel_keepsQueue (i : Nat) (c : Ctx) (s : State) : (weirCancel i c s).KeepsQueue s := by
  unfold weirCancel
  dsimp only
  split <;> simp

@[simp] theorem paramGet_keepsQueue (c : Ctx) (s : State) : (paramGet c s).KeepsQueue s := by simp [paramGet]

@[simp] theorem paramSet_keepsQueue (c : Ctx) (s : State) : (paramSet c s).KeepsQueue s := by
  unfold paramSet
  dsimp only
  repeat' split
  all_goals simp

@[simp] theorem bulkOpen_keepsQueue (c : Ctx) (s : State) : (bulkOpen c s).KeepsQueue s := by
  unfold bulkOpen
  extract_lets b live src s1
  split
  · simp
  · split
    · simp
    · split
      · simp
      · split
        · simp
        · split
          · simp
          · split
            · simp [s1]
            · refine ⟨rfl, fun x => ?_⟩
              dsimp only
              split <;> simp

@[simp] theorem bulkData_keepsQueue (c : Ctx) (s : State) : (bulkData c s).KeepsQueue s := by
  unfold bulkData
  split <;> simp

@[simp] theorem bulkClose_keepsQueue (id : Nat) (c : Ctx) (s : State) : (bulkClose id c s).KeepsQueue s := by
  unfold bulkClose
  split
  · simp
  · next b _ =>
    have hanswered : (b.closing.foldl (fun x w => completeSeq c.slot w.1 rOk [] x)
        (setBulk { b with state := .done, closing := [], data := [] } s)).pending = s.pending :=
      foldl_pending (fun _ _ => completeSeq_pending ..) _ _
    split
    · simp
    · split
      · split <;> simp
      · split
        · simp
        · split
          · exact (answer_keepsQueue ..).2 hanswered
          · exact ⟨closeIfWhole_pending .., fun _ => rfl⟩

@[simp] theorem bulkReread_keepsQueue (id offset length : Nat) (c : Ctx) (s : State) : (bulkReread id offset length c s).KeepsQueue s := by
  unfold bulkReread
  split
  · simp
  · split
    · split <;> simp
    · split
      · simp
      · refine ⟨rfl, fun x => ?_⟩
        dsimp only
        split <;> simp

@[simp] theorem bulkStatus_keepsQueue (id : Nat) (c : Ctx) (s : State) : (bulkStatus id c s).KeepsQueue s := by
  unfold bulkStatus
  split <;> simp

@[simp] theorem sessionClose_keepsQueue (c : Ctx) (s : State) : (sessionClose c s).KeepsQueue s :=
  ⟨rfl, fun _ => closeSession_pending ..⟩

@[simp] theorem identity_keepsQueue (c : Ctx) (s : State) : (identity c s).KeepsQueue s := by simp [identity]

@[simp] theorem keySet_keepsQueue (c : Ctx) (s : State) : (keySet c s).KeepsQueue s := by
  unfold keySet
  extract_lets k mask key
  split
  · simp
  · exact ⟨rfl, fun _ => closeSession_pending ..⟩

@[simp] theorem takeoverCommand_keepsQueue (c : Ctx) (s : State) : (takeoverCommand c s).KeepsQueue s := by
  unfold takeoverCommand
  split
  · exact ⟨rfl, fun _ => takeOver_pending ..⟩
  · simp

@[simp] theorem faultStatus_keepsQueue (c : Ctx) (s : State) : (faultStatus c s).KeepsQueue s := by simp [faultStatus]

@[simp] theorem bbRead_keepsQueue (first count : Nat) (c : Ctx) (s : State) : (bbRead first count c s).KeepsQueue s := by
  unfold bbRead
  repeat' split
  all_goals simp

@[simp] theorem bbFlushCommand_keepsQueue (flash : Bool) (c : Ctx) (s : State) : (bbFlushCommand flash c s).KeepsQueue s := by
  unfold bbFlushCommand
  dsimp only
  repeat' split
  all_goals simp

@[simp] theorem bbMark_keepsQueue (c : Ctx) (s : State) : (bbMark c s).KeepsQueue s := by simp [bbMark]

@[simp] theorem marginRun_keepsQueue (n : Nat) (plan : PlannerIn) (c : Ctx) (s : State) : (marginRun n plan c s).KeepsQueue s :=
  by simp [marginRun]

@[simp] theorem faultInject_keepsQueue (src : Nat) (c : Ctx) (s : State) : (faultInject src c s).KeepsQueue s := by
  unfold faultInject
  split
  · simp
  · split
    · simp
    · exact ⟨drawFree_pending s, fun _ => injectUnit_pending ..⟩

@[simp] theorem snapshot_keepsQueue (chans : List Nat) (c : Ctx) (s : State) : (snapshot chans c s).KeepsQueue s := by
  unfold snapshot
  split <;> simp

@[simp] theorem totalsReset_keepsQueue (area r : Nat) (c : Ctx) (s : State) : (totalsReset area r c s).KeepsQueue s := by
  unfold totalsReset
  split <;> simp

@[simp] theorem timeGet_keepsQueue (c : Ctx) (s : State) : (timeGet c s).KeepsQueue s := by simp [timeGet]

@[simp] theorem timeSet_keepsQueue (x : Nat) (c : Ctx) (s : State) : (timeSet x c s).KeepsQueue s := by simp [timeSet]

@[simp] theorem timeRealign_keepsQueue (sec : Nat) (c : Ctx) (s : State) : (timeRealign sec c s).KeepsQueue s :=
  by simp [timeRealign]

@[simp] theorem refSelect_keepsQueue (r : Nat) (c : Ctx) (s : State) : (refSelect r c s).KeepsQueue s := by
  unfold refSelect
  dsimp only
  repeat' split
  all_goals simp

@[simp] theorem ptpSend_keepsQueue (port : Nat) (msg : List Byte) (raw : Nat) (c : Ctx) (s : State) : (ptpSend port msg raw c s).KeepsQueue s :=
  by simp [ptpSend]

@[simp] theorem ptpTxts_keepsQueue (port mtype domain seq : Nat) (c : Ctx) (s : State) :
    (ptpTxts port mtype domain seq c s).KeepsQueue s := by
  have htaken := txtsTake_pending port mtype domain seq (1 + c.slot) s
  unfold ptpTxts
  split
  · simp
  · split
    · next heq => simpa [heq] using htaken
    · simp

@[simp] theorem tideOutArm_keepsQueue (n : Nat) (c : Ctx) (s : State) : (tideOutArm n c s).KeepsQueue s := by
  unfold tideOutArm
  repeat' split
  all_goals simp

@[simp] theorem tideOutStop_keepsQueue (n : Nat) (c : Ctx) (s : State) : (tideOutStop n c s).KeepsQueue s :=
  by simp [tideOutStop]

@[simp] theorem memRetrain_keepsQueue (chan : Nat) (c : Ctx) (s : State) : (memRetrain chan c s).KeepsQueue s :=
  by simp [memRetrain]

@[simp] theorem memSpeed_keepsQueue (k bin : Nat) (c : Ctx) (s : State) : (memSpeed k bin c s).KeepsQueue s :=
  by simp [memSpeed]

@[simp] theorem clearRetired_keepsQueue (c : Ctx) (s : State) : (clearRetired c s).KeepsQueue s :=
  by simp [clearRetired]

@[simp] theorem moduleReset_keepsQueue (b : BootIn) (c : Ctx) (s : State) : (moduleReset b c s).KeepsQueue s :=
  ⟨rfl, fun _ => warmReset_pending ..⟩

@[simp] theorem funcReinit_keepsQueue (c : Ctx) (s : State) : (funcReinit c s).KeepsQueue s := by
  unfold funcReinit
  dsimp only
  repeat' split
  all_goals simp

@[simp] theorem fwStatus_keepsQueue (c : Ctx) (s : State) : (fwStatus c s).KeepsQueue s := by simp [fwStatus]

@[simp] theorem fwInstall_keepsQueue (slot : Nat) (flash : Bool) (c : Ctx) (s : State) : (fwInstall slot flash c s).KeepsQueue s := by
  unfold fwInstall
  repeat' split
  all_goals simp

@[simp] theorem fwSetBoot_keepsQueue (image : Nat) (c : Ctx) (s : State) : (fwSetBoot image c s).KeepsQueue s :=
  by simp [fwSetBoot]

@[simp] theorem fwAccept_keepsQueue (c : Ctx) (s : State) : (fwAccept c s).KeepsQueue s := by simp [fwAccept]

@[simp] theorem peek_keepsQueue (c : Ctx) (s : State) : (peek c s).KeepsQueue s := by simp [peek]

@[simp] theorem poke_keepsQueue (c : Ctx) (s : State) : (poke c s).KeepsQueue s := by simp [poke]

@[simp] theorem sluiceStart_keepsQueue (n : Nat) (c : Ctx) (s : State) : (sluiceStart n c s).KeepsQueue s := by
  unfold sluiceStart
  split <;> simp

@[simp] theorem sluiceStop_keepsQueue (n : Nat) (c : Ctx) (s : State) : (sluiceStop n c s).KeepsQueue s := by
  unfold sluiceStop
  split <;> simp

@[simp] theorem sluiceStatus_keepsQueue (n : Nat) (c : Ctx) (s : State) : (sluiceStatus n c s).KeepsQueue s :=
  by simp [sluiceStatus]

@[simp] theorem gainSolve_keepsQueue (area r : Nat) (chans : List Nat) (c : Ctx) (s : State) : (gainSolve area r chans c s).KeepsQueue s :=
  by simp [gainSolve]

end Sys2Proof.Machine
end

section
/-! The queue of the commands that wait: a datagram that arrives, and the shape that the rows of the table share. -/

namespace Sys2Proof.Machine

@[simp] theorem onlyIf_pending {c : State → Bool} {f : State → State} (hf : ∀ x, (f x).pending = x.pending) (s : State) :
    (onlyIf c f s).pending = s.pending := by
  unfold onlyIf
  split
  · exact hf s
  · rfl

section
variable {isTyp : Nat → Bool} {body : Ctx → State → Res} (hbody : ∀ c x, (body c x).KeepsQueue x)
include hbody

@[simp] theorem sized_keepsQueue (n : Nat) (c : Ctx) (s : State) : (sized n body c s).KeepsQueue s := by
  unfold sized
  split
  · exact hbody c s
  · simp

@[simp] theorem laid_keepsQueue (c : Ctx) (s : State) : (laid body c s).KeepsQueue s := sized_keepsQueue hbody _ c s

theorem runCommand_pending (d : Dgram) (s : State) : (runCommand isTyp body d s).pending = s.pending := by
  unfold runCommand
  extract_lets k c r
  have hr : r.KeepsQueue s := by
    unfold r
    split
    · simp
    · split
      · simp
      · exact hbody c s
  obtain ⟨hstate, hafter⟩ := hr
  split
  · split
    · rw [hafter, recordOnly_pending, hstate]
    · rw [hafter, sendReply_pending, hstate]
  · rw [hafter, hstate]

omit hbody in
theorem greet_pending (d : Dgram) (s : State) : (greet d s).pending = s.pending := (congrArg (·.pending) (restZ_greet d s) :)

omit hbody in
theorem closedBulk_greet (d : Dgram) (s : State) : closedBulk d (greet d s) = closedBulk d s := by
  rw [closedBulk, show (greet d s).zcp.bulks = s.zcp.bulks from (congrArg (·.zcp.bulks) (restZ_greet d s) :)]
  rfl

/-- A message that the sequence window judges. -/
theorem arrive_sequenced_pending {d : Dgram} {s : State} (h : Sequenced d s) (open_ : Dgram → State → State) :
    (arrive isTyp body open_ d s).pending = s.pending := by
  have hrun (x : State) : (runCommand isTyp body d x).pending = x.pending := runCommand_pending hbody d x
  have hdup : (count .zcpDupDiscard d.session 1 (greet d s)).pending = s.pending := by rw [count_pending, greet_pending]
  rw [arrive_sequenced isTyp body open_ h]
  cases window (session d.session s) d.seq with
  | beyond => exact (count_pending ..).trans (greet_pending d s)
  | dup =>
    generalize count .zcpDupDiscard d.session 1 (greet d s) = s3 at hdup ⊢
    dsimp only
    split
    · exact hdup
    · split
      · split
        · rw [hrun, setSession_pending, hdup]
        · rw [sendReply_pending, setSession_pending, hdup]
      · rw [replay_pending, hdup]
  | accept =>
    dsimp only
    split
    · rw [count_pending, greet_pending]
    · rw [hrun, setSession_pending, count_pending, greet_pending]

omit hbody in
/-- An authentic datagram that the sequence window does not judge opens a session, or is only taken in. -/
theorem arrive_unsequenced {open_ : Dgram → State → State} {d : Dgram} {s : State} (h : Authentic d s) (hseq : ¬ Sequenced d s) :
    arrive isTyp body open_ d s = open_ d s ∨ arrive isTyp body open_ d s = count (zcpRx d.port) d.session 1 (greet d s) := by
  obtain ⟨hup, hready, hchecks, htag, hflags⟩ := id h
  unfold arrive
  rw [if_neg (by simp [hup]), if_neg (not_not.2 hready)]
  simp only [hchecks]
  rw [if_neg (by simp [htag]), if_neg (not_not.2 hflags)]
  by_cases hopen : d.isOpen = true
  · exact .inl (if_pos hopen)
  · rw [if_neg hopen]
    refine .inr (if_pos ?_)
    by_contra hall
    rw [not_or] at hall
    exact hseq ⟨h, Bool.eq_false_iff.2 hopen, hall.1, (closedBulk_greet d s).symm.trans (Bool.eq_false_iff.2 hall.2)⟩

/-- A datagram, whatever it holds. -/
@[simp] theorem arrive_pending {open_ : Dgram → State → State} (hopen : ∀ d x, (open_ d x).pending = x.pending) (d : Dgram) (s : State) :
    (arrive isTyp body open_ d s).pending = s.pending := by
  by_cases hseq : Sequenced d s
  · exact arrive_sequenced_pending hbody hseq open_
  · by_cases hup : hostUp d.port s = true
    case neg => rw [arrive_of_down (Bool.eq_false_iff.2 hup)]
    by_cases hready : s.boot.stage = .ready
    case neg => rw [arrive_of_not_ready hup hready, count_pending]
    cases hchecks : earlyChecks d s with
    | some c => rw [arrive_of_malformed hup hready hchecks, count_pending]
    | none =>
      by_cases htag : tagGood d s = true
      case neg => rw [arrive_of_forged hup hready hchecks (Bool.eq_false_iff.2 htag), fire_pending, count_pending]
      by_cases hflags : d.flags % 64 ∈ [0, 4, 8, 12]
      case neg => rw [arrive_of_bad_flags hup hready hchecks htag hflags, count_pending]
      obtain h | h := arrive_unsequenced (isTyp := isTyp) (body := body) (open_ := open_) ⟨hup, hready, hchecks, htag, hflags⟩ hseq
      · rw [h, hopen]
      · rw [h, count_pending, greet_pending]

end

/-- A row leaves the queue of the commands that wait. -/
def LeavesQueue (i : Instr) : Prop := ∀ s x : State, exec i s = .next x → x.pending = s.pending

theorem leavesQueue_act {i : Instr} {t : Nat} {f : State → State} (hx : ∀ s, exec i s = act t f s)
    (hf : ∀ x, (f x).pending = x.pending) : LeavesQueue i := by
  intro s x h
  obtain rfl := Host.Outcome.next.inj ((hx s).symm.trans h)
  rw [settle_pending, hf, advance_pending]

end Sys2Proof.Machine
end

section
/-! The rows whose effect is a choice of several steps: none of them touches the queue. -/

namespace Sys2Proof.Machine

theorem pd38Retry_leavesQueue (t : Nat) : LeavesQueue (.pd38Retry t) := by
  refine leavesQueue_act (show ∀ s, execPd38Retry t s = _ from fun _ => rfl) fun x => ?_
  split <;> simp

theorem blockDeadline_leavesQueue (t : Nat) (die : Fin 4) (slot : Fin 16) : LeavesQueue (.blockDeadline t die slot) := by
  refine leavesQueue_act (show ∀ s, execBlockDeadline t die slot s = _ from fun _ => rfl) fun x => ?_
  dsimp only
  split <;> simp

theorem cornerTurnCloseWait_leavesQueue (t chunk : Nat) : LeavesQueue (.cornerTurnCloseWait t chunk) := by
  refine leavesQueue_act (show ∀ s, execCornerTurnCloseWait t chunk s = _ from fun _ => rfl) fun x => ?_
  split
  · rfl
  · split
    · rfl
    · split
      · rfl
      · split
        · simp
        · split
          · next y hnew => exact (ctClose_pending ..).trans (ctNew_pending hnew)
          · rfl

theorem cornerTurnMove_leavesQueue (t : Nat) : LeavesQueue (.cornerTurnMove t) := by
  refine leavesQueue_act (show ∀ s, execCornerTurnMove t s = _ from fun _ => rfl) fun x => ?_
  split
  · rfl
  · next i _ =>
    split
    · rfl
    · next a _ =>
      split
      · rfl
      · next p _ =>
        dsimp only
        split
        · simp
        · split
          · simp
          · have hadmit := admitBlock_pending p (p.block a.chunk a.moved) (p.block a.chunk a.moved % 4) x
            split
            · rfl
            · next heq => rw [heq] at hadmit; simpa using hadmit
            · next heq => rw [heq] at hadmit; simpa using hadmit

theorem blockStart_leavesQueue (t : Nat) (die : Fin 4) (weir0 weir1 : CulvertIn) : LeavesQueue (.blockStart t die weir0 weir1) := by
  refine leavesQueue_act (show ∀ s, execBlockStart t die weir0 weir1 s = _ from fun _ => rfl) fun x => ?_
  repeat' split
  all_goals simp

theorem shadowSetTake_leavesQueue (t : Nat) (die : Fin 4) : LeavesQueue (.shadowSetTake t die) := by
  refine leavesQueue_act (show ∀ s, execShadowSetTake t die s = _ from fun _ => rfl) fun x => ?_
  repeat' split
  all_goals simp

theorem promote_leavesQueue (t : Nat) (die : Fin 4) : LeavesQueue (.promote t die) := by
  refine leavesQueue_act (show ∀ s, execPromote t die s = _ from fun _ => rfl) fun x => ?_
  split <;> simp

theorem ledgerOnly_leavesQueue (t : Nat) (area : Fin 2) (chan : Nat) : LeavesQueue (.ledgerOnly t area chan) := by
  refine leavesQueue_act (show ∀ s, execLedgerOnly t area chan s = _ from fun _ => rfl) fun x => ?_
  dsimp only
  split
  · simp
  · split <;> simp

theorem tileRead_leavesQueue (t : Nat) (f : TileFrom) : LeavesQueue (.tileRead t f) := by
  refine leavesQueue_act (show ∀ s, execTileRead t f s = _ from fun _ => rfl) fun x => ?_
  split <;> simp

theorem tileStatus_leavesQueue (t : Nat) (f : TileFrom) : LeavesQueue (.tileStatus t f) := by
  refine leavesQueue_act (show ∀ s, execTileStatus t f s = _ from fun _ => rfl) fun x => ?_
  split <;> simp

theorem sealWaitExpiry_leavesQueue (t : Nat) (area region : Fin 2) : LeavesQueue (.sealWaitExpiry t area region) := by
  refine leavesQueue_act (show ∀ s, execSealWaitExpiry t area region s = _ from fun _ => rfl) fun x => ?_
  dsimp only
  split <;> simp

theorem snapshotChannelCopy_leavesQueue (t : Nat) : LeavesQueue (.snapshotChannelCopy t) := by
  refine leavesQueue_act (show ∀ s, execSnapshotChannelCopy t s = _ from fun _ => rfl) fun x => ?_
  repeat' split
  all_goals simp

theorem slotRelease_leavesQueue (t : Nat) (die : Fin 4) : LeavesQueue (.slotRelease t die) := by
  refine leavesQueue_act (show ∀ s, execSlotRelease t die s = _ from fun _ => rfl) fun x => ?_
  split <;> simp

theorem bankRelease_leavesQueue (t : Nat) : LeavesQueue (.bankRelease t) := by
  refine leavesQueue_act (show ∀ s, execBankRelease t s = _ from fun _ => rfl) fun x => ?_
  simp

theorem autoEpochFill_leavesQueue (t : Nat) (ref : Nat) (steer : List (Nat × Steer)) : LeavesQueue (.autoEpochFill t ref steer) := by
  refine leavesQueue_act (show ∀ s, execAutoEpochFill t ref steer s = _ from fun _ => rfl) fun x => ?_
  split <;> simp

theorem gateAssert_leavesQueue (t : Nat) (out : Fin 8) : LeavesQueue (.gateAssert t out) := by
  refine leavesQueue_act (show ∀ s, execGateAssert t out s = _ from fun _ => rfl) fun x => ?_
  dsimp only
  split <;> simp

theorem gateDeassert_leavesQueue (t : Nat) (out : Fin 8) : LeavesQueue (.gateDeassert t out) := by
  refine leavesQueue_act (show ∀ s, execGateDeassert t out s = _ from fun _ => rfl) fun x => ?_
  dsimp only
  split <;> simp

theorem packetSend_leavesQueue (t : Nat) (stream : Nat) : LeavesQueue (.packetSend t stream) := by
  refine leavesQueue_act (show ∀ s, execPacketSend t stream s = _ from fun _ => rfl) fun x => ?_
  split <;> simp

theorem eventsPacketTimeout_leavesQueue (t : Nat) : LeavesQueue (.eventsPacketTimeout t) := by
  refine leavesQueue_act (show ∀ s, execEventsPacketTimeout t s = _ from fun _ => rfl) fun x => ?_
  split <;> simp

theorem telemetryPeriod_leavesQueue (t : Nat) : LeavesQueue (.telemetryPeriod t) := by
  refine leavesQueue_act (show ∀ s, execTelemetryPeriod t s = _ from fun _ => rfl) fun x => ?_
  split
  · rfl
  · extract_lets l x1
    have hx1 : x1.pending = x.pending := by
      rw [ite_pending, foldl_pending (fun _ _ => telemetryPacket_pending ..), ite_self]
    exact hx1

theorem compressUnitAssign_leavesQueue (t : Nat) : LeavesQueue (.compressUnitAssign t) := by
  refine leavesQueue_act (show ∀ s, execCompressUnitAssign t s = _ from fun _ => rfl) fun x => ?_
  split <;> simp

theorem compressUnitDone_leavesQueue (t : Nat) (comp : Fin 16) : LeavesQueue (.compressUnitDone t comp) := by
  refine leavesQueue_act (show ∀ s, execCompressUnitDone t comp s = _ from fun _ => rfl) fun x => ?_
  dsimp only
  split <;> simp

theorem decompJobStart_leavesQueue (t : Nat) : LeavesQueue (.decompJobStart t) := by
  refine leavesQueue_act (show ∀ s, execDecompJobStart t s = _ from fun _ => rfl) fun x => ?_
  repeat' split
  all_goals simp

theorem decompJobEnd_leavesQueue (t : Nat) : LeavesQueue (.decompJobEnd t) := by
  refine leavesQueue_act (show ∀ s, execDecompJobEnd t s = _ from fun _ => rfl) fun x => ?_
  dsimp only
  repeat' split
  all_goals simp

theorem commitPoint_leavesQueue (t : Nat) : LeavesQueue (.commitPoint t) := by
  refine leavesQueue_act (show ∀ s, execCommitPoint t s = _ from fun _ => rfl) fun x => ?_
  split <;> simp

theorem commitBoundary_leavesQueue (t : Nat) : LeavesQueue (.commitBoundary t) := by
  refine leavesQueue_act (show ∀ s, execCommitBoundary t s = _ from fun _ => rfl) fun x => ?_
  dsimp only
  repeat' split
  all_goals simp

theorem shedTakeEffect_leavesQueue (t : Nat) : LeavesQueue (.shedTakeEffect t) := by
  refine leavesQueue_act (show ∀ s, execShedTakeEffect t s = _ from fun _ => rfl) fun x => ?_
  split <;> simp

theorem moverDescDone_leavesQueue (t : Nat) (r : MoverIn) : LeavesQueue (.moverDescDone t r) := by
  refine leavesQueue_act (show ∀ s, execMoverDescDone t r s = _ from fun _ => rfl) fun x => ?_
  dsimp only
  repeat' split
  all_goals simp

theorem coreStopForced_leavesQueue (t : Nat) (core : Fin 64) : LeavesQueue (.coreStopForced t core) := by
  refine leavesQueue_act (show ∀ s, execCoreStopForced t core s = _ from fun _ => rfl) fun x => ?_
  split <;> simp

theorem ptpSyncTx_leavesQueue (t : Nat) (port : Fin 128) (raw : Nat) : LeavesQueue (.ptpSyncTx t port raw) := by
  refine leavesQueue_act (show ∀ s, execPtpSyncTx t port raw s = _ from fun _ => rfl) (onlyIf_pending fun x => ?_)
  extract_lets p dom log at_ sync s1
  have hs1 : s1.pending = x.pending := by simp [s1]
  have htaken := (txtsTake_pending port 0 dom p.syncSeq 0 s1).trans hs1
  split
  · next heq => rw [heq] at htaken; simpa using htaken
  · next heq => rw [heq] at htaken; exact htaken

theorem ptpDelayReqRx_leavesQueue (t : Nat) (port : Fin 128) (m : PtpIn) : LeavesQueue (.ptpDelayReqRx t port m) := by
  refine leavesQueue_act (show ∀ s, execPtpDelayReqRx t port m s = _ from fun _ => rfl) (onlyIf_pending (ptpIn_pending fun x => ?_))
  have hadmit := admitRequest_pending port x
  split
  · rfl
  · split
    · next heq => rw [heq] at hadmit; exact hadmit
    · next heq => rw [heq] at hadmit; simpa using hadmit

theorem ptpPdelayReqRx_leavesQueue (t : Nat) (port : Fin 130) (m : PtpIn) (raw : Nat) : LeavesQueue (.ptpPdelayReqRx t port m raw) := by
  refine leavesQueue_act (show ∀ s, execPtpPdelayReqRx t port m raw s = _ from fun _ => rfl) (onlyIf_pending (ptpIn_pending fun x => ?_))
  have hadmit := admitRequest_pending port x
  extract_lets dom
  split
  · rfl
  · split
    · next heq => rw [heq] at hadmit; exact hadmit
    · next heq => rw [heq] at hadmit; simpa using hadmit

theorem ptpAnnounceRx_leavesQueue (t : Nat) (port : Fin 130) (m : PtpIn) : LeavesQueue (.ptpAnnounceRx t port m) := by
  refine leavesQueue_act (show ∀ s, execPtpAnnounceRx t port m s = _ from fun _ => rfl) (onlyIf_pending (ptpIn_pending fun x => ?_))
  split <;> simp

theorem ptpSyncRx_leavesQueue (t : Nat) (p : Fin 2) (m : PtpIn) : LeavesQueue (.ptpSyncRx t p m) := by
  refine leavesQueue_act (show ∀ s, execPtpSyncRx t p m s = _ from fun _ => rfl) (onlyIf_pending (withPtp_pending fun x => ?_))
  simp

theorem ptpFollowUpRx_leavesQueue (t : Nat) (p : Fin 2) (m : PtpIn) : LeavesQueue (.ptpFollowUpRx t p m) := by
  refine leavesQueue_act (show ∀ s, execPtpFollowUpRx t p m s = _ from fun _ => rfl) (onlyIf_pending (withPtp_pending fun x => ?_))
  split <;> simp

theorem ptpDelayRespRx_leavesQueue (t : Nat) (p : Fin 2) (m : PtpIn) : LeavesQueue (.ptpDelayRespRx t p m) := by
  refine leavesQueue_act (show ∀ s, execPtpDelayRespRx t p m s = _ from fun _ => rfl) (onlyIf_pending (withPtp_pending fun x => ?_))
  dsimp only
  split
  · rfl
  · split
    · rfl
    · split
      · split <;> simp
      · split
        · simp
        · split
          · split <;> simp
          · rfl

theorem announceTimeout_leavesQueue (t : Nat) (port : Fin 2) : LeavesQueue (.announceTimeout t port) := by
  refine leavesQueue_act (show ∀ s, execAnnounceTimeout t port s = _ from fun _ => rfl) fun x => ?_
  split <;> simp

theorem syncTimeout_leavesQueue (t : Nat) (port : Fin 2) : LeavesQueue (.syncTimeout t port) := by
  refine leavesQueue_act (show ∀ s, execSyncTimeout t port s = _ from fun _ => rfl) fun x => ?_
  split <;> simp

theorem tcForward_leavesQueue (t : Nat) (p : Fin 2) (m : PtpIn) (txRaw : Nat) : LeavesQueue (.tcForward t p m txRaw) := by
  have hpass (x : State) : (if tcRuns x then tcForward p m txRaw x else x).pending = x.pending := by simp
  refine leavesQueue_act (show ∀ s, execTcForward t p m txRaw s = _ from fun _ => rfl) (onlyIf_pending fun x => ?_)
  split
  · split
    · exact hpass x
    · rfl
  · exact withPtp_pending hpass x

theorem todSentence_leavesQueue (t : Nat) (ref : Fin 2) (text : List Byte) (started : Nat) : LeavesQueue (.todSentence t ref text started) := by
  refine leavesQueue_act (show ∀ s, execTodSentence t ref text started s = _ from fun _ => rfl) fun x => ?_
  split <;> simp

theorem selectionEvaluation_leavesQueue (t : Nat) : LeavesQueue (.selectionEvaluation t) := by
  refine leavesQueue_act (show ∀ s, execSelectionEvaluation t s = _ from fun _ => rfl) fun x => ?_
  simp

theorem switchCommit_leavesQueue (t : Nat) (offset : Int) : LeavesQueue (.switchCommit t offset) := by
  refine leavesQueue_act (show ∀ s, execSwitchCommit t offset s = _ from fun _ => rfl) fun x => ?_
  split <;> simp

theorem realignDue_leavesQueue (t : Nat) : LeavesQueue (.realignDue t) := by
  refine leavesQueue_act (show ∀ s, execRealignDue t s = _ from fun _ => rfl) fun x => ?_
  split <;> simp

theorem pageIdleClose_leavesQueue (t : Nat) (chan : Fin 128) (pc : Fin 2) (sid : Fin 4) (bank : Fin 16) : LeavesQueue (.pageIdleClose t chan pc sid bank) := by
  refine leavesQueue_act (show ∀ s, execPageIdleClose t chan pc sid bank s = _ from fun _ => rfl) fun x => ?_
  dsimp only
  split <;> simp

theorem gatherSlice_leavesQueue (t : Nat) (stack : Fin 8) : LeavesQueue (.gatherSlice t stack) := by
  refine leavesQueue_act (show ∀ s, execGatherSlice t stack s = _ from fun _ => rfl) fun x => ?_
  dsimp only
  split <;> simp

theorem retrainApply_leavesQueue (t : Nat) (stack : Fin 8) (margin : Bool) : LeavesQueue (.retrainApply t stack margin) := by
  refine leavesQueue_act (show ∀ s, execRetrainApply t stack margin s = _ from fun _ => rfl) fun x => ?_
  dsimp only
  split <;> simp

theorem stackStepDownDone_leavesQueue (t : Nat) (stack : Fin 8) (fails : List (Fin 16)) : LeavesQueue (.stackStepDownDone t stack fails) := by
  refine leavesQueue_act (show ∀ s, execStackStepDownDone t stack fails s = _ from fun _ => rfl) fun x => ?_
  split <;> simp

theorem canalPieceGrant_leavesQueue (t : Nat) (port : Fin 80) (responds : Bool) (r : CulvertIn) : LeavesQueue (.canalPieceGrant t port responds r) := by
  refine leavesQueue_act (show ∀ s, execCanalPieceGrant t port responds r s = _ from fun _ => rfl) fun x => ?_
  dsimp only
  split
  · simp
  · split <;> simp

theorem canalTargetTimeout_leavesQueue (t : Nat) (m : Fin 15) (id : Fin 32) : LeavesQueue (.canalTargetTimeout t m id) := by
  refine leavesQueue_act (show ∀ s, execCanalTargetTimeout t m id s = _ from fun _ => rfl) fun x => ?_
  dsimp only
  split
  · simp
  · split <;> simp

theorem bbSlotEraseDone_leavesQueue (r : EraseIn) : LeavesQueue (.bbSlotEraseDone r) := by
  refine leavesQueue_act (show ∀ s, execBbSlotEraseDone r s = _ from fun _ => rfl) fun x => ?_
  split <;> simp

theorem zcpUnsolRetransmit_leavesQueue (t : Nat) (slot : Fin 4) (seq : Nat) : LeavesQueue (.zcpUnsolRetransmit t slot seq) := by
  refine leavesQueue_act (show ∀ s, execZcpUnsolRetransmit t slot seq s = _ from fun _ => rfl) fun x => ?_
  dsimp only
  split
  · simp
  · split <;> simp

theorem zcpUnsolAgeOut_leavesQueue (t : Nat) (slot : Fin 4) (seq : Nat) : LeavesQueue (.zcpUnsolAgeOut t slot seq) := by
  refine leavesQueue_act (show ∀ s, execZcpUnsolAgeOut t slot seq s = _ from fun _ => rfl) fun x => ?_
  split <;> simp

theorem unsolicitedRuns_pending (k typ : Nat) (runs : List (Nat × List (List Byte))) (s : State) :
    (runs.foldl (fun y r => unsolicited k typ r.2.flatten y) s).pending = s.pending := by
  induction runs generalizing s with
  | nil => rfl
  | cons r rs ih => rw [List.foldl_cons, ih, unsolicited_pending]

theorem zcpTelemetry_leavesQueue (t : Nat) (k : Fin 4) : LeavesQueue (.zcpTelemetry t k) := by
  refine leavesQueue_act (show ∀ s, execZcpTelemetry t k s = _ from fun _ => rfl) fun x => ?_
  dsimp only
  split
  · rfl
  · rw [setSession_pending, unsolicitedRuns_pending]

theorem bulkWaitExpiry_leavesQueue (t : Nat) (slot : Fin 4) (id : Nat) : LeavesQueue (.bulkWaitExpiry t slot id) := by
  refine leavesQueue_act (show ∀ s, execBulkWaitExpiry t slot id s = _ from fun _ => rfl) fun x => ?_
  dsimp only
  split
  · simp
  · split <;> simp

theorem bulkIdleExpiry_leavesQueue (t : Nat) (slot : Fin 4) (id : Nat) : LeavesQueue (.bulkIdleExpiry t slot id) := by
  refine leavesQueue_act (show ∀ s, execBulkIdleExpiry t slot id s = _ from fun _ => rfl) fun x => ?_
  split <;> simp

theorem gaugeAlarm_leavesQueue (t : Nat) (g : GaugeAt) (margin : Int) (plan : PlannerIn) : LeavesQueue (.gaugeAlarm t g margin plan) := by
  refine leavesQueue_act (show ∀ s, execGaugeAlarm t g margin plan s = _ from fun _ => rfl) (onlyIf_pending fun x => ?_)
  cases g with
  | polder p k => dsimp only; split <;> [rfl; split <;> simp]
  | weir e => dsimp only; split <;> [rfl; split <;> simp]
  | zoom => dsimp only; split <;> [rfl; split <;> simp]
  | hub u => dsimp only; split <;> simp

/-- What ONCE_PER_SECOND_REPORT does when it acts. -/
def reportSecond (r : Sensors) (x : State) : State :=
  reports (readSensors r { x with fault := { x.fault with reportedAt := x.time.now } })

@[simp] theorem reportSecond_pending (r : Sensors) (s : State) : (reportSecond r s).pending = s.pending := by
  unfold reportSecond
  rw [reports_pending, readSensors_pending]

theorem oncePerSecondReport_leavesQueue (t : Nat) (r : Sensors) : LeavesQueue (.oncePerSecondReport t r) :=
  leavesQueue_act (show ∀ s, execOncePerSecondReport t r s = act t (onlyIf _ (reportSecond r)) s from fun _ => rfl)
    (onlyIf_pending (reportSecond_pending r))

theorem boundaryItemApply_leavesQueue (t : Nat) (item : Item) (inst : Fin 4096) : LeavesQueue (.boundaryItemApply t item inst) := by
  refine leavesQueue_act (show ∀ s, execBoundaryItemApply t item inst s = _ from fun _ => rfl) fun x => ?_
  split <;> simp

end Sys2Proof.Machine
end

section
/-! The queue of the commands that wait, over every row (O59). -/

namespace Sys2Proof.Machine

theorem leavesQueue (i : Instr) : LeavesQueue i := by
  cases i
  case pd38Retry => exact pd38Retry_leavesQueue _
  case blockDeadline => exact blockDeadline_leavesQueue _ _ _
  case cornerTurnCloseWait => exact cornerTurnCloseWait_leavesQueue _ _
  case cornerTurnMove => exact cornerTurnMove_leavesQueue _
  case blockStart => exact blockStart_leavesQueue _ _ _ _
  case shadowSetTake => exact shadowSetTake_leavesQueue _ _
  case promote => exact promote_leavesQueue _ _
  case ledgerOnly => exact ledgerOnly_leavesQueue _ _ _
  case tileRead => exact tileRead_leavesQueue _ _
  case tileStatus => exact tileStatus_leavesQueue _ _
  case sealWaitExpiry => exact sealWaitExpiry_leavesQueue _ _ _
  case snapshotChannelCopy => exact snapshotChannelCopy_leavesQueue _
  case slotRelease => exact slotRelease_leavesQueue _ _
  case bankRelease => exact bankRelease_leavesQueue _
  case autoEpochFill => exact autoEpochFill_leavesQueue _ _ _
  case gateAssert => exact gateAssert_leavesQueue _ _
  case gateDeassert => exact gateDeassert_leavesQueue _ _
  case packetSend => exact packetSend_leavesQueue _ _
  case eventsPacketTimeout => exact eventsPacketTimeout_leavesQueue _
  case telemetryPeriod => exact telemetryPeriod_leavesQueue _
  case compressUnitAssign => exact compressUnitAssign_leavesQueue _
  case compressUnitDone => exact compressUnitDone_leavesQueue _ _
  case decompJobStart => exact decompJobStart_leavesQueue _
  case decompJobEnd => exact decompJobEnd_leavesQueue _
  case commitPoint => exact commitPoint_leavesQueue _
  case commitBoundary => exact commitBoundary_leavesQueue _
  case shedTakeEffect => exact shedTakeEffect_leavesQueue _
  case moverDescDone => exact moverDescDone_leavesQueue _ _
  case coreStopForced => exact coreStopForced_leavesQueue _ _
  case ptpSyncTx => exact ptpSyncTx_leavesQueue _ _ _
  case ptpDelayReqRx => exact ptpDelayReqRx_leavesQueue _ _ _
  case ptpPdelayReqRx => exact ptpPdelayReqRx_leavesQueue _ _ _ _
  case ptpAnnounceRx => exact ptpAnnounceRx_leavesQueue _ _ _
  case ptpSyncRx => exact ptpSyncRx_leavesQueue _ _ _
  case ptpFollowUpRx => exact ptpFollowUpRx_leavesQueue _ _ _
  case ptpDelayRespRx => exact ptpDelayRespRx_leavesQueue _ _ _
  case announceTimeout => exact announceTimeout_leavesQueue _ _
  case syncTimeout => exact syncTimeout_leavesQueue _ _
  case tcForward => exact tcForward_leavesQueue _ _ _ _
  case todSentence => exact todSentence_leavesQueue _ _ _ _
  case selectionEvaluation => exact selectionEvaluation_leavesQueue _
  case switchCommit => exact switchCommit_leavesQueue _ _
  case realignDue => exact realignDue_leavesQueue _
  case pageIdleClose => exact pageIdleClose_leavesQueue _ _ _ _ _
  case gatherSlice => exact gatherSlice_leavesQueue _ _
  case retrainApply => exact retrainApply_leavesQueue _ _ _
  case stackStepDownDone => exact stackStepDownDone_leavesQueue _ _ _
  case canalPieceGrant => exact canalPieceGrant_leavesQueue _ _ _ _
  case canalTargetTimeout => exact canalTargetTimeout_leavesQueue _ _ _
  case bbSlotEraseDone => exact bbSlotEraseDone_leavesQueue _
  case zcpUnsolRetransmit => exact zcpUnsolRetransmit_leavesQueue _ _ _
  case zcpUnsolAgeOut => exact zcpUnsolAgeOut_leavesQueue _ _ _
  case zcpTelemetry => exact zcpTelemetry_leavesQueue _ _
  case bulkWaitExpiry => exact bulkWaitExpiry_leavesQueue _ _ _
  case bulkIdleExpiry => exact bulkIdleExpiry_leavesQueue _ _ _
  case gaugeAlarm => exact gaugeAlarm_leavesQueue _ _ _ _
  case oncePerSecondReport => exact oncePerSecondReport_leavesQueue _ _
  case boundaryItemApply => exact boundaryItemApply_leavesQueue _ _ _
  -- in the rows left the effect is written out, and every function that stands in it leaves the queue
  case powerEnRise | powerEnFall | resetNAssert | resetNDeassert | feedQualified | feedLoss |
      powerStageReportTimeout | powerStageFaultReport | domainTrip | tempThreshold | dramStackTemp |
      mgmtWatchdogExpiry | fFrameReceive | arpRequest | neighbourSolicitation | ingressLinkChange |
      ingressLinkDownTimeout | accumulatorSwap | laneRowTest | laneRowTestTimeout | polderRetire | sparePolderActive
      | polderChangeApply | tileWrite => rintro s _ ⟨⟩; simp
  case tileReset | weirBlockDone | zoomSourceProcess | zoomBlockDeliver | hostLinkChange | hostLinkTimeout |
      hostFlowctlFrame | mpy | mac | msu | mpysu | macsu | add | sub | and | or | xor | shl | shra | shrl | abs |
      neg | min | max => rintro s _ ⟨⟩; simp
  case mov | cmplt | cmpeq | adda | suba | shla | shraAcc | clra | ext | mova | insa | nop | br | call | ret |
      loop | reti | wait | halt | ei | di | addpi | addpp | subpp => rintro s _ ⟨⟩; simp
  case movpi | movpp | movdp | movpd | movdc | movcd | movad | movgd | movi32 | movip | movicr | jmp | load |
      store | ftap | imm | interruptEntry | timerMatch | cycleLoRead | peerRaise | moverSubmit | tapCtlWrite |
      tapRecord | stockCoreReload => rintro s _ ⟨⟩; simp
  case ptpAnnounceTx | ptpDelayReqTx | pulseEdge | pulseDeassert | tideMark | edgeCapture | ppsEdge |
      refSignalLoss | esmcPduRx | refFreqMeasure | qualifyTimeExpiry | disagreeWindow | dpllLock | holdoverExpiry |
      dramRequest | refreshDue | powerDownEntry | retrainCorrRate | retrainTempDrift | retrainPeriod |
      retirementMarkersDone | canalRequest | masterResetDrained | semTake => rintro s _ ⟨⟩; simp
  case semGive | rcRead | registerWrite | zcpSessionOpen | zcpSessionClose | zcpNop | zcpIdentity | zcpKeySet |
      zcpFuncReinit | zcpModuleReset | zcpTakeover | zcpParamGet | zcpParamSet | zcpPlanCheck | zcpPlanCommit |
      zcpPlanCancel | zcpCapacityRecord | zcpSnapshot | zcpTotalsReset | zcpWeirEpoch | zcpWeirEpochCancel |
      zcpTimeGet | zcpTimeSet | zcpTimeRealign => rintro s _ ⟨⟩; simp
  case zcpRefSelect | zcpPtpSend | zcpPtpTxts | zcpTideOutArm | zcpTideOutStop | zcpMemRetrain | zcpMemSpeed |
      zcpMemClearRetired | zcpSluiceLoad | zcpSluiceStart | zcpSluiceStop | zcpSluiceStatus | zcpSluiceGainSolve |
      zcpFaultStatus | zcpBbRead | zcpBbFlush | zcpBbMark | zcpFaultInject | zcpMarginRun | zcpBulkOpen |
      zcpBulkData | zcpBulkClose | zcpBulkReread | zcpBulkStatus => rintro s _ ⟨⟩; simp
  case zcpPeek | zcpPoke | zcpFwStatus | zcpFwInstall | zcpFwSetBoot | zcpFwAccept | zcpAck | sessionIdleTimeout |
      heartbeat | heartbeatMissTakeover | mirrorConfirmTimeout | standbyResyncDone | quietTimeExpiry | plannerPeriod
      | imageReadyTimeout | fwTrialExpiry | holdUpExhausted | slewEnd | standbyHeartbeatFail | domainWakeDone =>
      rintro s _ ⟨⟩; simp

/-- Settles O59: what a row does is put together from functions of the state that leave the queue alone, as the rewriting
rules on `pending` say of each; a row that chooses between effects does so branch by branch. -/
theorem commandsLeaveTheQueueAlone : Obligations.CommandsLeaveTheQueueAlone := by
  unfold Obligations.CommandsLeaveTheQueueAlone
  exact fun i s x h => leavesQueue i s x h

end Sys2Proof.Machine
end
